-- ==== Sys2Proof/Word.lean ====
section
/-! DEFINITION. The plainest data of the model: bytes and words, sparse stores in one canonical form, and fixed vectors. -/

namespace Sys2Proof

/-- A byte, as stored in flash, cells, frames and dictionary values. -/
abbrev Byte := BitVec 8

/-- A 32-bit word, as held by the host port, the mailboxes and the port engines. -/
abbrev Word := BitVec 32

/-- A store of values by natural-number key. Its canonical form has strictly rising keys and lists
no entry equal to what an unlisted key reads as, so equal stores are equal lists. -/
abbrev Sparse (α : Type) := List (Nat × α)

namespace Sparse

variable {α : Type}

/-- The entry listed under a key, if any. -/
def find? : Sparse α → Nat → Option α
  | [], _ => none
  | (k, v) :: m, x => if x = k then some v else find? m x

/-- What a key reads as: its entry, or the default of that key. -/
def get (d : Nat → α) (m : Sparse α) (x : Nat) : α := (find? m x).getD (d x)

/-- List a value under a key, keeping the keys rising. -/
def insert : Sparse α → Nat → α → Sparse α
  | [], x, a => [(x, a)]
  | (k, v) :: m, x, a =>
    if x = k then (k, a) :: m
    else if x < k then (x, a) :: (k, v) :: m
    else (k, v) :: insert m x a

/-- Remove the entry of a key, if there is one. -/
def erase (m : Sparse α) (x : Nat) : Sparse α := m.filter fun e => e.1 != x

/-- Write a value under a key; writing the key's default removes its entry. -/
def set [DecidableEq α] (d : Nat → α) (m : Sparse α) (x : Nat) (a : α) : Sparse α :=
  if a = d x then erase m x else insert m x a

/-- Keep only the entries whose key passes a test. -/
def keep (p : Nat → Bool) (m : Sparse α) : Sparse α := m.filter fun e => p e.1

/-- The keys rise strictly. -/
abbrev Rising (m : Sparse α) : Prop := m.Pairwise fun a b => a.1 < b.1

/-- The canonical form: keys rise strictly and no entry equals its key's default. -/
abbrev wf [DecidableEq α] (d : Nat → α) (m : Sparse α) : Prop :=
  Rising m ∧ ∀ e ∈ m, e.2 ≠ d e.1

end Sparse

/-- Write one element of a vector. -/
def vset {α : Type} {n : Nat} (v : Vector α n) (i : Fin n) (x : α) : Vector α n := v.set i.1 x i.2

/-- Change one element of a vector. -/
def vmod {α : Type} {n : Nat} (v : Vector α n) (i : Fin n) (f : α → α) : Vector α n :=
  vset v i (f v[i])

/-- Change every element of a vector, knowing its place. -/
def vmapi {α : Type} {n : Nat} (v : Vector α n) (f : Nat → α → α) : Vector α n :=
  v.mapIdx f

end Sys2Proof
end

