-- ==== Sys2Proof/Config.lean ====
section
/-! DEFINITION. What one device or one installation fixes, and the free values: the values the spec leaves
open. A free value is an opaque constant without a body, applied to a plain counter that State holds. -/

namespace Sys2Proof.Config

/-- The device serial number, 0x2000:03 (R405). It is written at the factory; the spec states no number. -/
opaque serial : BitVec 64

/-- Silicon revision A1, coded as 0x2000:02 (R2, R405): [7:4] letter, [3:0] number. -/
def siliconRev : Nat := 0x01

/-- A fresh 16-byte nonce for CHALLENGE, HELLO and DBG_UNLOCK (R383, R497, R530), by the free-value counter. -/
opaque freeNonce : Nat → BitVec 128

/-- A byte whose value the spec leaves undefined, by the free-value counter. -/
opaque freeByte : Nat → BitVec 8

/-- A number whose value the spec leaves open, by the free-value counter. -/
opaque freeNat : Nat → Nat

/-- The servo's filter (R176): the filtered offset, from the one before and a new sample, 2^-16 ns. The spec names the
filter and does not give it. -/
opaque filterOffset : Int → Int → Int

/-- The frequency that the servo holds, in ppb off nominal: from the one before, a filtered offset and the time since the
last sample in ns (R176). The spec does not give the servo. -/
opaque servoPpb : Int → Int → Nat → Int

/-- The flash identification bytes, 0x3000:02 (R492): those of the flash on the board. -/
opaque flashId : BitVec 32

/-- Samples that the JPEG XS decoder gives for a codestream (R58): component in the order of the stream's sampling,
column and line of that component's plane. ISO/IEC 21122 defines them; the spec only names it. -/
opaque jxsSample : List (BitVec 8) → Nat → Nat → Nat → Nat

/-- The stored sample, on the 12-bit scale, that stands for a layer's fallback fill where a substituted pixel takes it
(R220): by FILL_RGB, the binding and the component. The fill is linear light; the spec gives no way back to a code. -/
opaque fillSample : Nat → List (BitVec 8) → Nat → BitVec 12

/-- The factory base MAC address of the Ethernet ports (R48). -/
opaque macBase : Nat

end Sys2Proof.Config
end

