-- ==== Sys2Proof/Machine/ControlState.lean ====
section
/-! DEFINITION. The state of the control plane: access contexts, SDO transfers, the CAN node, LSS, UDP
associations, the error register, the gateway and the event queues. -/

namespace Sys2Proof.Machine

/-- The role latched at cold reset from MODESEL (R1, R539). -/
inductive Role where
  | none | sender | tile
  deriving DecidableEq, Repr

/-- Where the device stands between a reset and running (R447, R449, R506, R539, R544). -/
inductive Life where
  /-- In cold reset: RESET_N low, a rail bad, or a commanded cold reset not yet released. -/
  | inReset
  /-- The cold start of Table 15.8 is running. -/
  | coldStart
  /-- Held in the boot ROM: no bootable image, or RECOVERY (R506, R540). -/
  | bootRom
  /-- A warm reset has begun and the resident image is being checked (R449). -/
  | warmStart
  | running
  /-- MODESEL 0b00 or 0b11: no role (R539). -/
  | noRole
  deriving DecidableEq, Repr

/-- A dictionary value: a number of any numeric type, or the bytes of a DOMAIN or string (R379). -/
inductive Val where
  | num (v : Int)
  | data (b : List Byte)
  deriving DecidableEq, Repr

/-- An access context: a source of requests (R382). The gateway's level and owner flag come with each request. -/
inductive CtxId where
  | can (ch : Fin 4)
  | udp (ch : Fin 8)
  | host
  | gateway (level : Nat) (owner : Bool)
  deriving DecidableEq, Repr

/-- An SDO transfer in progress on one server channel (R380, R389). `idx` and `sub` address the object. -/
inductive Xfer where
  | idle
  /-- A segmented download: bytes so far, indicated size, expected toggle, 64-byte frames. -/
  | segDown (idx sub : Nat) (buf : List Byte) (size : Option Nat) (toggle wide : Bool)
  /-- A segmented upload: the rest of the snapshot, expected toggle, 64-byte frames. -/
  | segUp (idx sub : Nat) (rest : List Byte) (toggle wide : Bool)
  /-- A block download: bytes so far, indicated size, next sequence number, CRC used, last segment taken, wide. -/
  | blkDown (idx sub : Nat) (buf : List Byte) (size : Option Nat) (seq : Nat) (crc last wide : Bool)
  /-- A block upload: snapshot, bytes acknowledged, block size, CRC used, phase (0 initiated, 1 sending, 2 ending). -/
  | blkUp (idx sub : Nat) (snap : List Byte) (acked blksize : Nat) (crc : Bool) (phase : Nat) (wide : Bool)
  /-- Waiting for the gateway to complete the access (R400). -/
  | gateway (idx sub : Nat) (wide : Bool)
  deriving DecidableEq, Repr

/-- What one access context holds (R382 to R384, R397, R488). Times are device times in ns. -/
structure Ctx where
  /-- LEVEL, 2 bits or more: 1 OPERATOR to 4 VENDOR (R382). -/
  level : Nat
  /-- Logged in at level 8 (R385). -/
  owner : Bool
  /-- CONTEXT_ID, 32 bits, unique per context since reset (R407). -/
  id : Nat
  /-- The 16-byte CHALLENGE nonce held and the time it was issued (R383). -/
  nonce : Option (BitVec 128 × Nat)
  /-- Times of the failed logins of the last 60 s (R384). -/
  failures : List Nat
  /-- Every LOGIN is refused until this time (R384). -/
  lockedUntil : Nat
  /-- Time of the last request, for IDLE_LOGOUT (R382). -/
  lastRequest : Nat
  /-- 0x2210:01 STATION (R397). -/
  station : Nat
  /-- 0x2210:02 CHAIN; 0 while it holds its default, the chain at port A (R43, R397). -/
  chain : Nat
  /-- 0x3000:14 BB_READ_SEQ (R488). -/
  bbReadSeq : Nat
  /-- 0x3000:17 BB_SEVERE_ONLY (R488). -/
  bbSevereOnly : Bool
  /-- The SDO transfer in progress. -/
  xfer : Xfer
  deriving DecidableEq, Repr

/-- A context as created, at a level and with an identity of its own (R382). -/
def Ctx.fresh (level id now : Nat) : Ctx :=
  { level, owner := false, id, nonce := none, failures := [], lockedUntil := 0, lastRequest := now,
    station := 1, chain := 0, bbReadSeq := 0, bbSevereOnly := false, xfer := .idle }

/-- One SDO channel of the UDP server: its association and the last exchange (R393). -/
structure UdpChannel where
  ctx : Ctx
  /-- Source address and port of the association served, if any. -/
  assoc : Option (Nat × Nat)
  /-- TAG of the association's last request. -/
  lastTag : Option Nat
  /-- The last response frame, replayed for a repeated TAG. -/
  lastResponse : List Byte
  /-- Time of the association's last request. -/
  lastRequest : Nat
  /-- A request is still being processed. -/
  busy : Bool
  deriving DecidableEq, Repr

/-- The NMT state of the CAN node (R390). -/
inductive Nmt where
  | initialising | preOperational | operational | stopped
  deriving DecidableEq, Repr

/-- LSS slave state (R387, CiA 305). -/
structure Lss where
  /-- In the LSS configuration state. -/
  configuring : Bool
  /-- Arbitration rate configured and not yet activated, as 0x2003:02. -/
  pendingRate : Option Nat
  /-- Fastscan: LSSSub expected next. -/
  fastscanSub : Nat
  deriving DecidableEq, Repr

/-- An event waiting to be sent, as EMCY or as a tile EVENT transaction (R21, R402). -/
structure EventMsg where
  code : Nat
  detail : Nat
  sec : Nat
  ns : Nat
  deriving DecidableEq, Repr

/-- An entry of TILE_EVENTS (R402, Table 13.10). -/
structure TileEvent where
  chain : Nat
  station : Nat
  code : Nat
  detail : Nat
  sec : Nat
  ns : Nat
  deriving DecidableEq, Repr

/-- What the end of a gateway transaction answers (R400): the outcome of a plain write; the response to an SDO download,
at its initiate or at a segment of the given toggle, or at the end of a block download; the start of an upload, or of a
block upload with its block size and CRC use; or nothing, for the
control sender's own writes of a commit (R250), its distribution of base delays (R189) and of TRANSIT (R206), and its reads
of T_LAMP (R190) and MAX_SLOTS (R274). -/
inductive GwKind where
  | plain
  | download (seg : Option Bool)
  | blockDownload
  | upload
  | blockUpload (blksize : Nat) (crc : Bool)
  | own
  | bases
  | lamp
  | slots
  deriving DecidableEq, Repr

/-- A gateway transaction open at the control sender (R399, R400). -/
structure GwTx where
  /-- Chain port, 0 A and 1 B. -/
  port : Nat
  txn : Nat
  ctx : CtxId
  kind : GwKind
  level : Nat
  owner : Bool
  index : Nat
  sub : Nat
  station : Nat
  data : List Byte
  /-- Repeats still allowed (GW_RETRIES). -/
  retries : Nat
  /-- Wall time at which GW_TIMEOUT has passed since the release of the last part, 2^-16 ns. -/
  due : Nat
  /-- Response parts gathered: part number and data. -/
  parts : List (Nat × List Byte)
  /-- Parts of the response, once known. -/
  total : Nat
  /-- The SDO transfer is answered in 64-byte frames. -/
  wide : Bool
  deriving DecidableEq, Repr

/-- A transaction whose parts a tile is gathering (R400). -/
structure GwPartial where
  priority : Nat
  txn : Nat
  op : Nat
  total : Nat
  parts : List (Nat × List Byte)
  deriving DecidableEq, Repr

/-- A response a tile holds for a repeated transaction (R400): 16 per PRIORITY, newest first. -/
structure GwStored where
  priority : Nat
  txn : Nat
  abort : Nat
  data : List Byte
  index : Nat
  sub : Nat
  deriving DecidableEq, Repr

/-- An event raised at most once per interval: its key, when it was last raised, and the times of its
occurrences within the last interval, newest first. -/
structure Limiter where
  key : Nat
  last : Option Nat
  times : List Nat
  deriving DecidableEq, Repr

/-- The whole control plane. -/
structure Control where
  /-- SDO server channels 1 to 4 of the CAN node (Table 13.2). -/
  can : Vector Ctx 4
  /-- UDP channels 0 to 7 (R393). -/
  udp : Vector UdpChannel 8
  /-- The host-port context. -/
  host : Ctx
  /-- READ_VIEW of each source of R44: 0 gateway, 1 host port, 2 management port (R246). True: in force. -/
  readView : Vector Bool 3
  /-- The next CONTEXT_ID (R407). -/
  nextCtxId : Nat
  /-- NMT state of the CAN node (R390). -/
  nmt : Nmt
  /-- Node ID in force; 0xFF unconfigured (R388). -/
  nodeId : Nat
  /-- Arbitration rate in force, as 0x2003:02 (R387). -/
  arbRate : Nat
  lss : Lss
  /-- Heartbeat consumers whose heartbeat failed to arrive (R387, 0x1016). -/
  hbLost : Vector Bool 4
  /-- Time of the last heartbeat on CAN, and of the last by UDP (R387, R394). -/
  hbAt : Nat
  udpHbAt : Nat
  /-- SYNCs seen since each TPDO was last sent, and the time it was last sent (R396). -/
  syncCount : Vector Nat 4
  tpdoAt : Vector (Option Nat) 4
  /-- Last time of an event of each class of the error register: thermal, link, other (R391). -/
  errTimes : Vector (Option Nat) 3
  /-- 0x1003 entries, newest first, at most 8 (R391). -/
  history : List Nat
  /-- EMCY messages held back by EMCY_INHIBIT, oldest first (R387). -/
  emcyQueue : List (List Byte)
  /-- Time of the last EMCY sent on CAN. -/
  lastEmcy : Option Nat
  /-- Times of the tile-event EMCYs of the last second (R402). -/
  tileEmcyTimes : List Nat
  /-- Datagrams dropped for a wrong length or header (R392). -/
  udpDropped : Nat
  /-- Bookkeeping of the events raised at most once per interval. -/
  limiters : List Limiter
  /-- Housekeeping round in which 0x2001 was last written (R22). -/
  lastEventRound : Option Nat
  /-- Times of failed service proofs, which follow R384 (R497). -/
  serviceFailures : List Nat
  serviceLockedUntil : Nat
  /-- Next TXN of each chain (R400). -/
  txn : Vector Nat 2
  /-- Transactions open, oldest first (R400). -/
  gwOpen : List GwTx
  /-- Transactions a tile is gathering. -/
  gwPartials : List GwPartial
  /-- Responses a tile holds, newest first (R400). Kept through warm reset. -/
  gwStore : List GwStored
  /-- TXN of a tile's next EVENT transaction, 16 bits; kept through warm reset (R402). -/
  eventTxn : Nat
  /-- Events a tile has raised and not yet sent (R402). -/
  eventQueue : List EventMsg
  /-- Times of the EVENT transactions of the last second (R402). -/
  eventTimes : List Nat
  /-- The TILE_EVENTS queue, oldest first, at most 64 (R402). -/
  tileEvents : List TileEvent
  deriving DecidableEq, Repr

/-- The control plane as a reset leaves it. The contexts return to the levels of Table 13.2 at once. -/
def Control.reset : Control where
  can := Vector.ofFn fun i => Ctx.fresh 1 (1 + i.1) 0
  udp := Vector.ofFn fun i =>
    { ctx := Ctx.fresh 1 (6 + i.1) 0, assoc := none, lastTag := none, lastResponse := [],
      lastRequest := 0, busy := false }
  host := Ctx.fresh 2 5 0
  readView := Vector.replicate 3 false
  nextCtxId := 14
  nmt := .initialising
  nodeId := 0xFF
  arbRate := 3
  lss := { configuring := false, pendingRate := none, fastscanSub := 0 }
  hbLost := Vector.replicate 4 false
  hbAt := 0
  udpHbAt := 0
  syncCount := Vector.replicate 4 0
  tpdoAt := Vector.replicate 4 none
  errTimes := Vector.replicate 3 none
  history := []
  emcyQueue := []
  lastEmcy := none
  tileEmcyTimes := []
  udpDropped := 0
  limiters := []
  lastEventRound := none
  serviceFailures := []
  serviceLockedUntil := 0
  txn := Vector.replicate 2 0
  gwOpen := []
  gwPartials := []
  gwStore := []
  eventTxn := 0
  eventQueue := []
  eventTimes := []
  tileEvents := []

end Sys2Proof.Machine
end

