-- ==== Sys2Proof/Wire.lean ====
section
/-! DEFINITION. What crosses the block's interfaces as data: chain cells, cascade units, PTP messages and the
other operands that commands carry. -/

namespace Sys2Proof.Machine

/-- A chain cell of 256 bytes: header, 240 payload bytes, trailer (R111). -/
structure Cell where
  header : BitVec 96
  payload : List Byte
  trailer : BitVec 32
  deriving DecidableEq, Repr

/-- A cell as it reaches a receive port, with what the FEC of that hop reports (R125): a symbol was corrected;
a block came from an uncorrectable codeword; and the blocks that are missing, bit k for block k. -/
structure RxCell where
  cell : Cell
  corrected : Bool
  broken : Bool
  missing : BitVec 8
  deriving DecidableEq, Repr

/-- A cascade unit: the fields of its header and its body (Table 2.5, R77). -/
structure CascadeUnit where
  /-- UTYPE: 1 RELAY, 2 SYNC, 3 SELECT, 4 CTRL, 5 MGMT. -/
  kind : Nat
  src : Nat
  dst : Nat
  ttl : Nat
  chain : Nat
  relSec : Nat
  relNs : Nat
  useq : Nat
  body : List Byte
  /-- UCRC stands. -/
  good : Bool
  deriving DecidableEq, Repr

/-- The grandmaster data set of a PTP Announce, compared by the best-master algorithm (R175). -/
structure PtpDataset where
  priority1 : Nat
  clockClass : Nat
  accuracy : Nat
  variance : Nat
  priority2 : Nat
  identity : Nat
  steps : Nat
  /-- sourcePortIdentity: the port that announces. -/
  source : Nat
  deriving DecidableEq, Repr

/-- What an Ethernet frame on port C carries, as R49 tells frames apart: ARP asking for an address, an ICMP echo request, a
UDP datagram, or anything else (an IP fragment, IPv6, IPv4 with options, and every other frame). Addresses are IPv4. -/
inductive EthBody where
  | arp (src target : Nat)
  | echo (src dst : Nat) (data : List Byte)
  | udp (src dst port : Nat) (data : List Byte)
  | other
  deriving DecidableEq, Repr

/-- An Ethernet frame: its single VLAN tag, if it has one, and its body (R48, R49). -/
structure EthFrame where
  vlan : Option Nat
  body : EthBody
  deriving DecidableEq, Repr

/-- What an AVSBus transfer ends with (Table 15.5): a voltage write that was committed, the current read in mA, a voltage or
status read, a command whose retries ran out, or the StatusAlert bits of the regulator. -/
inductive AvsResult where
  | written
  | current (mA : Nat)
  | voltage
  | status
  | failed (command : Nat)
  | alert (bits_ : Nat)
  deriving DecidableEq, Repr

/-- A 48-byte-header UDP source and destination, as the Ethernet filters see a datagram (R48, R49, R392). -/
structure UdpFrom where
  addr : Nat
  port : Nat
  deriving DecidableEq, Repr

/-- One measurement of a chain (R187): for cable 0 to N the times t1, t2, t3 and t4, and for station 1 to N its repeater
latencies from A to B and from B to A, all in ps. -/
structure HopRun where
  cables : List (Int × Int × Int × Int)
  latency : List (Nat × Nat)
  deriving DecidableEq, Repr

/-- Where a service frame comes from (R494): SVC SGMII by address and port, or the chain, in a cell to the station alone or in
one to 0xFFF. -/
inductive SvcSource where
  | sgmii (addr port : Nat)
  | chain
  | chainAll
  deriving DecidableEq, Repr

/-- Where memory BIST finds a fault that no spare row repairs (R531). -/
inductive BistFault where
  /-- A scaler's line buffer or state. -/
  | scaler (k : Fin 8)
  /-- A port engine's memories. -/
  | engine (p : Fin 64)
  /-- The frame store, correction store, staging memory or generation memory. -/
  | pixel
  /-- A control cluster's memory. -/
  | cluster
  deriving DecidableEq, Repr

/-- A frame-store word that reads uncorrectable (R219): the layer and region whose buffer it lies in, the cell's offset
and the word within the cell, and its word address in the frame store. -/
structure DamagedWord where
  layer : Nat
  region : Nat
  cell : Nat
  word : Nat
  addr : Nat
  deriving DecidableEq, Repr

/-- Memory errors met while a slot is composed (R219, R220, R255, R256, R278). -/
structure Damage where
  /-- Frame-store words read with a single-bit error. -/
  corrected : Nat
  /-- Frame-store words that read uncorrectable, in the order in which they were read. -/
  words : List DamagedWord
  /-- Input pixels that a line buffer lost: layer, region, line and column. -/
  lines : List (Nat × Nat × Nat × Nat)
  /-- Correction-store words corrected, and those that read uncorrectable. -/
  corrCorrected : Nat
  corrWords : List Nat
  /-- The memory that holds the generations reads uncorrectable (R255). -/
  generations : Bool
  deriving DecidableEq, Repr

/-- What of one frame buffer cannot be read: words by cell offset, and pixels by line and column. -/
structure BadCells where
  words : List (Nat × Nat)
  pixels : List (Nat × Nat)
  deriving DecidableEq, Repr

end Sys2Proof.Machine
end

