-- ==== Sys2Proof/Syntax.lean ====
section
/-! DEFINITION. The commands that the block takes: one constructor per row of the opcode table, in the table's order. The
operands are what comes from outside with the command: values written, messages received, and facts of the board,
the lines and the memories that the block senses. -/

namespace Sys2Proof

open Sys2Proof.Machine

/-- A command. -/
inductive Instr where
  /-- `POWER_ON` (R445): VDD_AON rises (or falls below 0.62 V and returns), causing a power-on cold reset that
  clears the always-on domain as well. -/
  | powerOn
  /-- `RESET_N_ASSERT` (R445): RESET_N held low for at least 1 µs causes a cold reset. -/
  | resetNAssert
  /-- `SUPPLY_DROP` (R544): A monitored rail below its threshold for 2 µs or more acts as RESET_N held low and
  causes a cold reset with cause 2. -/
  | supplyDrop
  /-- `COLD_RESET` (R447): A cold reset is released and the cold start sequence begins: OTP shadowed, PLLs
  started, lane bring-up started and the image slot chosen. -/
  | coldReset (straps : BitVec 4) (fitted flashMib : Nat)
  /-- `MEMORY_BIST_COMPLETE` (R531): Cold-start BIST ends; rows are repaired, a failing scaler is retired, and
  unrepairable faults are handled per memory. -/
  | memoryBistComplete (repairs : List (Nat × Nat)) (faults : List BistFault)
  /-- `IMAGE_LOAD_COMPLETE` (R447): The image parts are loaded and their SHA-256 digests checked, and the control
  clusters start running. -/
  | imageLoadComplete (elapsed : Nat)
  /-- `WARM_RESET` (R449): A warm reset checks the resident image, restarts from it, and rebuilds only what Table
  15.7 does not keep. -/
  | warmReset (imageOk : Bool) (elapsed : Nat)
  /-- `RESET_WARM_COMMAND` (R445): A write of 1 to 0x2000:10 requests a warm reset (cause 16), or clears a thermal
  latch once the device has cooled. -/
  | resetWarmCommand (c : CtxId)
  /-- `RESET_COLD_COMMAND` (R445): A write of 2 to 0x2000:10 requests a cold reset (cause 3), or clears a thermal
  latch once the device has cooled. -/
  | resetColdCommand (c : CtxId)
  /-- `OBJECT_WRITE` (R380): A completed SDO write to an object with no row of its own is checked in the order of
  R561 and takes effect or is staged. -/
  | objectWrite (c : CtxId) (idx : BitVec 16) (sub : BitVec 8) (value : List Byte)
  /-- `SDO_INITIATE_DOWNLOAD` (R389): An SDO initiate-download frame starts an expedited or segmented write and
  makes checks 1 to 7. -/
  | sdoInitiateDownload (c : CtxId) (frame : List Byte)
  /-- `SDO_DOWNLOAD_SEGMENT` (R389): An SDO download segment is taken; at the last segment the whole value is
  checked and applied. -/
  | sdoDownloadSegment (c : CtxId) (frame : List Byte)
  /-- `SDO_INITIATE_UPLOAD` (R380): An SDO initiate-upload frame snapshots the value and answers it expedited or
  starts a segmented upload. -/
  | sdoInitiateUpload (c : CtxId) (frame : List Byte)
  /-- `SDO_UPLOAD_SEGMENT` (R389): An SDO upload segment request is answered from the snapshot. -/
  | sdoUploadSegment (c : CtxId) (frame : List Byte)
  /-- `SDO_BLOCK_DOWNLOAD_INITIATE` (R389): An SDO block-download initiate starts a block write. -/
  | sdoBlockDownloadInitiate (c : CtxId) (frame : List Byte)
  /-- `SDO_BLOCK_SEGMENT` (R389): An SDO block segment is taken and its sequence number checked. -/
  | sdoBlockSegment (c : CtxId) (frame : List Byte)
  /-- `SDO_BLOCK_DOWNLOAD_END` (R389): An SDO end-block frame checks the block CRC and applies the value. -/
  | sdoBlockDownloadEnd (c : CtxId) (frame : List Byte)
  /-- `SDO_BLOCK_UPLOAD_INITIATE` (R389): An SDO block-upload initiate snapshots the value and starts a block
  read. -/
  | sdoBlockUploadInitiate (c : CtxId) (frame : List Byte)
  /-- `SDO_ABORT_RECEIVE` (R380): A client SDO abort ends a transfer and leaves the old value. -/
  | sdoAbortReceive (c : CtxId) (frame : List Byte)
  /-- `SDO_PROTOCOL_TIMEOUT` (R380): After 1 s without the next frame of a transfer, the transfer is aborted with
  0x0504_0000 and the old value is kept. -/
  | sdoProtocolTimeout (c : CtxId)
  /-- `UDP_DATAGRAM_RECEIVE` (R393): A datagram on UDP 40981 is checked, its association resolved, a repeated TAG
  replayed, and its SDO frame or RPDO handled. -/
  | udpDatagramReceive (addr port : Nat) (data : List Byte)
  /-- `UDP_ASSOCIATION_IDLE` (R393): An association that has made no request for 10 s frees its channel. -/
  | udpAssociationIdle (ch : Fin 8)
  /-- `CHALLENGE_READ` (R383): A read of CHALLENGE returns a new 16-byte nonce for the context. -/
  | challengeRead (c : CtxId)
  /-- `CHALLENGE_EXPIRY` (R383): A login nonce lapses 10 s after it is issued. -/
  | challengeExpiry (c : CtxId)
  /-- `LOGIN` (R383): A write of LOGIN checks the proof and sets the context's level, or counts a failure and may
  lock the context out. -/
  | login (c : CtxId) (message : List Byte)
  /-- `LOGIN_LOCKOUT_END` (R384): The 60 s refusal of every LOGIN after 5 failures ends. -/
  | loginLockoutEnd (c : CtxId)
  /-- `LOGOUT` (R382): A write of LOGOUT returns the context to its default level. -/
  | logout (c : CtxId) (v : BitVec 8)
  /-- `IDLE_LOGOUT_EXPIRY` (R382): After IDLE_LOGOUT seconds without a request, the context returns to its default
  level. -/
  | idleLogoutExpiry (c : CtxId)
  /-- `OWNER_KEY_WRITE` (R385): A write of OWNER_KEY sets or removes the owner credential under the write-once and
  owner rules. -/
  | ownerKeyWrite (c : CtxId) (keyBytes : List Byte)
  /-- `OWNER_LOCK_WRITE` (R386): An OWNER context changes OWNER_LOCK, and event 0x1304 is raised. -/
  | ownerLockWrite (c : CtxId) (v : BitVec 8)
  /-- `NMT_START` (R390): The NMT start command puts the CAN node into operational. -/
  | nmtStart
  /-- `NMT_STOP` (R390): The NMT stop command stops SDO, PDO and EMCY while the heartbeat continues. -/
  | nmtStop
  /-- `NMT_ENTER_PRE_OPERATIONAL` (R390): The NMT command enters pre-operational and turns the PDOs off. -/
  | nmtEnterPreOperational
  /-- `NMT_RESET_NODE` (R390): The NMT reset-node command performs a warm reset, clears a thermal latch, or is
  ignored while NMT_RESET_ENABLE is 0. -/
  | nmtResetNode
  /-- `NMT_RESET_COMMUNICATION` (R390): The NMT reset-communication command restarts the CAN node alone, or is
  ignored while NMT_RESET_ENABLE is 0. -/
  | nmtResetCommunication
  /-- `SYNC_RECEIVE` (R396): A CAN SYNC message triggers the synchronous TPDOs. -/
  | syncReceive
  /-- `RPDO_RECEIVE` (R396): An RPDO received on CAN or UDP is applied to its mapped object, or is dropped. -/
  | rpdoReceive (n : Fin 4) (udp : Bool) (data : List Byte)
  /-- `TPDO_EVENT_TIMER` (R396): A TPDO event timer expires and the TPDO is sent. -/
  | tpdoEventTimer (n : Fin 4)
  /-- `HEARTBEAT_PRODUCE` (R387): The CAN heartbeat producer timer expires and a heartbeat is sent. -/
  | heartbeatProduce
  /-- `HEARTBEAT_CONSUMER_TIMEOUT` (R387): A consumed heartbeat fails to arrive within its time. -/
  | heartbeatConsumerTimeout (k : Fin 4)
  /-- `UDP_HEARTBEAT_SEND` (R394): Every HEARTBEAT_UDP ms, the heartbeat is sent to EVENT_DEST. -/
  | udpHeartbeatSend
  /-- `ERROR_CLASS_CLEAR` (R391): A bit of the error register clears 10 s after the last event of its class, and
  an EMCY 0x0000 is sent when the register returns to 0. -/
  | errorClassClear (c : Fin 3)
  /-- `ERROR_HISTORY_CLEAR` (R391): A write of 0 to 0x1003:00 clears the error history and the error register. -/
  | errorHistoryClear (c : CtxId)
  /-- `LSS_SWITCH_STATE_GLOBAL` (R387): An LSS switch-state-global command is taken. -/
  | lssSwitchStateGlobal (mode : Byte)
  /-- `LSS_SWITCH_STATE_SELECTIVE` (R387): An LSS switch-state-selective command is taken. -/
  | lssSwitchStateSelective (vendor product revision serial : Word)
  /-- `LSS_CONFIGURE_NODE_ID` (R387): An LSS configure-node-ID command sets the node ID. -/
  | lssConfigureNodeId (id : Byte)
  /-- `LSS_CONFIGURE_BIT_TIMING` (R387): An LSS configure-bit-timing command sets the arbitration rate. -/
  | lssConfigureBitTiming (table index : Byte)
  /-- `LSS_ACTIVATE_BIT_TIMING` (R387): An LSS activate-bit-timing command applies the new bit timing. -/
  | lssActivateBitTiming (delay : BitVec 16)
  /-- `LSS_STORE_CONFIGURATION` (R387): An LSS store-configuration command stores the LSS settings. -/
  | lssStoreConfiguration
  /-- `LSS_INQUIRE_IDENTITY` (R387): An LSS inquire-identity command returns the identity. -/
  | lssInquireIdentity (k : Fin 4)
  /-- `LSS_INQUIRE_NODE_ID` (R387): An LSS inquire-node-ID command returns the node ID. -/
  | lssInquireNodeId
  /-- `LSS_IDENTIFY_REMOTE_SLAVE` (R387): An LSS identify-remote-slave command is answered if the identity
  matches. -/
  | lssIdentifyRemoteSlave (vendor product revLow revHigh serLow serHigh : Word)
  /-- `LSS_IDENTIFY_NON_CONFIGURED` (R387): An LSS identify-non-configured-slave command is answered while the
  node is unconfigured. -/
  | lssIdentifyNonConfigured
  /-- `LSS_FASTSCAN` (R387): An LSS fastscan frame is taken and answered. -/
  | lssFastscan (idNumber : Word) (bitCheck lssSub lssNext : Byte)
  /-- `SETTINGS_STORE` (R473): A write of "save" to 0x1010 builds and programs a new settings generation. -/
  | settingsStore (c : CtxId) (group : Fin 4)
  /-- `SETTINGS_RESTORE` (R403): A write of "load" to 0x1011 stores a generation without that group, so defaults
  apply at the next cold start. -/
  | settingsRestore (c : CtxId) (group : Fin 4)
  /-- `FACTORY_RESET` (R473): A write of "fact" stores a generation holding only the owner settings and then
  performs a cold reset. -/
  | factoryReset (c : CtxId)
  /-- `GATEWAY_TIMEOUT` (R400): No RESPONSE within GW_TIMEOUT; the sender repeats the transaction or aborts the
  SDO with 0x0504_0000. -/
  | gatewayTimeout (p : Fin 2) (txn : Nat)
  /-- `MGMT_READ_RECEIVE` (R400): A tile acts on a complete READ transaction and originates a RESPONSE, or answers
  a repeated TXN from its store. -/
  | mgmtReadReceive (port : Fin 2) (r : RxCell)
  /-- `MGMT_WRITE_RECEIVE` (R400): A tile applies a complete WRITE transaction under its own checks and originates
  a RESPONSE. -/
  | mgmtWriteReceive (port : Fin 2) (r : RxCell)
  /-- `MGMT_BROADCAST_WRITE_RECEIVE` (R401): A tile applies a BROADCAST_WRITE and answers nothing. -/
  | mgmtBroadcastWriteReceive (port : Fin 2) (r : RxCell)
  /-- `MGMT_RESPONSE_RECEIVE` (R400): The control sender takes a RESPONSE through its per-station window and
  completes the SDO access. -/
  | mgmtResponseReceive (p : Fin 2) (r : RxCell)
  /-- `MGMT_EVENT_RECEIVE` (R402): The control sender appends a tile event to TILE_EVENTS and sends EMCY 0x1301 or
  0x1302. -/
  | mgmtEventReceive (p : Fin 2) (r : RxCell)
  /-- `TILE_EVENT_SEND` (R402): A tile sends a raised event to its control sender in an EVENT transaction, at most
  20 per second. -/
  | tileEventSend
  /-- `TILE_EVENTS_CLEAR` (R406): A write of 1 to 0x2212:03 empties the tile event queue. -/
  | tileEventsClear (c : CtxId) (v : BitVec 8)
  /-- `TX_PORT_C_ETHERNET_FRAME` (R49): An Ethernet frame on a port C port is filtered by VLAN and type; ARP and
  ICMP are answered, UDP is delivered, and the rest is dropped. -/
  | txPortCEthernetFrame (e : Fin 8) (f : EthFrame)
  /-- `PORTC_CONFIG_WRITE` (R47): A write to 0x2102:01 takes every port C lane down and brings the lanes up in the
  new configuration. -/
  | portcConfigWrite (c : CtxId) (v : BitVec 8)
  /-- `IGMP_QUERY_RECEIVE` (R50): An IGMP query is answered within its Max Resp Time, and an IGMPv2 querier enters
  compatibility mode. -/
  | igmpQueryReceive (e : Fin 8) (version group : Nat) (sources : List Nat)
  /-- `IGMP_REPORT_TIMER` (R50): The second unsolicited IGMP report is sent 1 s after enable. -/
  | igmpReportTimer (n : Fin 32)
  /-- `STREAM_ENABLE` (R54): A write of ENABLE is checked against the stream limits and budget, and joins or
  leaves the stream's groups. -/
  | streamEnable (c : CtxId) (n : Fin 32) (v : BitVec 8)
  /-- `RTP_PACKET_RECEIVE` (R56): An RTP packet is merged by sequence number, placed by its row headers, and may
  close the frame by its marker bit. -/
  | rtpPacketReceive (n : Fin 32) (path : Fin 2) (data : List Byte)
  /-- `FRAME_CLOSE_TIMEOUT` (R57): 100 µs after the first packet of a later timestamp, the open frame closes. -/
  | frameCloseTimeout (n : Fin 32)
  /-- `PATH_LOST_TIMEOUT` (R56): A path that delivers no packet for 100 ms is declared lost; with both paths lost
  STATE becomes 3. -/
  | pathLostTimeout (n : Fin 32) (path : Fin 2)
  /-- `JPEG_XS_DECODE_COMPLETE` (R58): A JPEG XS codestream finishes decoding, or fails and makes its frame
  incomplete. -/
  | jpegXsDecodeComplete (n : Fin 32) (failedAt : Option Nat)
  /-- `FREE_SELECT_CHOICE` (R61): At T_frame(F) − 500 µs the selector chooses the newest complete frame of each
  FREE stream. -/
  | freeSelectChoice
  /-- `SELECT_SEND` (R61): By T_frame(F) − 400 µs the selector sends one SELECT unit over the cascade. -/
  | selectSend
  /-- `SELECT_UNIT_RECEIVE` (R62): A sender takes the selected RTP timestamps of a SELECT unit for frame F. -/
  | selectUnitReceive (link : Fin 2) (u : CascadeUnit)
  /-- `FRAME_BOUNDARY` (R171): Wall time reaches T_frame(F): the frame counter advances and the frame-driven
  actions of each role start. `errors`, at a sender: streams whose stored frame reads uncorrectable, and how many of their cells come
  before the first affected one (R72); at a tile: ports and words of their engines' memories that have become uncorrectable, those of
  data memory by address + 2,048 (R355). -/
  | frameBoundary (errors : List (Nat × Nat))
  /-- `CELL_SLOT_SCHEDULE` (R119): A sender fills the next cell slot of a chain port by class priority within the
  64-slot window limits. -/
  | cellSlotSchedule (p : Fin 2)
  /-- `DETERMINISM_CHECKSUM` (R73): At the end of a wall frame the sender computes its per-stream and chain
  checksums and sends a CHECKSUM unit. -/
  | determinismChecksum (p : Fin 2)
  /-- `CHECKSUM_UNIT_RECEIVE` (R147): A sender compares the peer's per-stream checksums; the standby sender
  withholds a stream on disagreement. -/
  | checksumUnitReceive (link : Fin 2) (u : CascadeUnit)
  /-- `ACTIVATE_FRAME_WRITE` (R74): A write to 0x2500:03 at the frame master distributes the new region map to
  every sender. -/
  | activateFrameWrite (c : CtxId) (frame : BitVec 64)
  /-- `MAP_ACTIVATION_DEADLINE` (R74): At T_frame(F − 2) the map activation proceeds if every sender has accepted
  it, and is otherwise abandoned. -/
  | mapActivationDeadline
  /-- `CASCADE_LINK_UP` (R79): A cascade link comes up and sends its IDENTITY unit. -/
  | cascadeLinkUp (link : Fin 2)
  /-- `RELAY_UNIT_RECEIVE` (R152): A RELAY unit is checked and queued for release at its named time, delivered
  locally if its time is zero, or discarded as late. -/
  | relayUnitReceive (link : Fin 2) (u : CascadeUnit)
  /-- `RELAY_RELEASE` (R152): At the named wall time, the standby sender releases a relayed cell in the first cell
  slot. -/
  | relayRelease (p : Fin 2)
  /-- `MGMT_UNIT_RECEIVE` (R77): A MGMT cascade unit carrying dictionary transfers between senders is taken. -/
  | mgmtUnitReceive (link : Fin 2) (u : CascadeUnit)
  /-- `IDENTITY_UNIT_RECEIVE` (R79): An IDENTITY unit is compared for priority and CASCADE_SIZE, and keeps the
  link down on a clash. -/
  | identityUnitReceive (link : Fin 2) (u : CascadeUnit)
  /-- `STATUS_UNIT_RECEIVE` (R156): A STATUS unit from the peer satisfies the peer check and updates the peer's
  CSTATE. -/
  | statusUnitReceive (link : Fin 2) (u : CascadeUnit)
  /-- `TAKE_UNIT_RECEIVE` (R155): The relinquishing sender takes TAKE and stops originating at the named instant.
  -/
  | takeUnitReceive (link : Fin 2) (u : CascadeUnit)
  /-- `RECLAIM_UNIT_RECEIVE` (R159): The control sender answers RECLAIM with ACK or DEFER within 1 ms. -/
  | reclaimUnitReceive (link : Fin 2) (u : CascadeUnit)
  /-- `ACK_UNIT_RECEIVE` (R159): The preferred sender takes ACK and prepares to take control at T_frame(F). -/
  | ackUnitReceive (link : Fin 2) (u : CascadeUnit)
  /-- `DEFER_UNIT_RECEIVE` (R159): The preferred sender takes DEFER and waits 1 s before trying again. -/
  | deferUnitReceive (link : Fin 2) (u : CascadeUnit)
  /-- `CANCEL_UNIT_RECEIVE` (R160): The control sender takes CANCEL and keeps control. -/
  | cancelUnitReceive (link : Fin 2) (u : CascadeUnit)
  /-- `DERATE_UNIT_RECEIVE` (R288): The frame master takes a control sender's lowest derate factor. -/
  | derateUnitReceive (link : Fin 2) (u : CascadeUnit)
  /-- `SYNC_UNIT_SEND` (R179): Every 10 µs each sender sends a SYNC unit on each cascade link that is up. -/
  | syncUnitSend (link : Fin 2)
  /-- `SYNC_UNIT_RECEIVE` (R180): A direct SYNC unit gives an offset sample to the neighbour and the parent's
  timing set. -/
  | syncUnitReceive (link : Fin 2) (u : CascadeUnit)
  /-- `PARENT_TIMEOUT` (R180): No unit arrives from the parent for 100 µs; the sender re-parents or enters
  holdover. -/
  | parentTimeout
  /-- `RECEIVER_DETECT_TEST` (R86): Every 10 ms an undetected lane runs its receiver detect test. -/
  | receiverDetectTest (l : Fin 24) (ohms : BitVec 16)
  /-- `DETECT_TIMEOUT` (R86): A lane still undetected after 1 s raises event 0x2101 once. -/
  | detectTimeout (l : Fin 24)
  /-- `TRAINING_FRAME_RECEIVE` (R87): A training frame is taken: polarity is set, requests are applied, and
  training ends after 8 frames of RX_READY. -/
  | trainingFrameReceive (l : Fin 24) (c1 c2 c3 t1 t2 t3 : BitVec 16) (inverted ready : Bool) (want : BitVec 16)
  /-- `TRAINING_REQUEST_TIMEOUT` (R90): A training request is unanswered for 1 ms and is sent again; after 3
  timeouts training fails at this rate. -/
  | trainingRequestTimeout (l : Fin 24)
  /-- `TRAINING_TIMEOUT` (R91): Training has not ended within 250 ms and fails at this rate. -/
  | trainingTimeout (l : Fin 24)
  /-- `BIT_LOCK_TIMEOUT` (R84): A lane fails the bit-lock stage within 2 ms and returns to receiver detect. -/
  | bitLockTimeout (l : Fin 24)
  /-- `ALIGN_LOCK_TIMEOUT` (R84): A lane fails the symbol and alignment lock stage within 1 ms. -/
  | alignLockTimeout (l : Fin 24)
  /-- `ELECTRICAL_IDLE_END` (R84): After 10 ms of electrical idle a failed lane returns to receiver detect. -/
  | electricalIdleEnd (l : Fin 24)
  /-- `ALIGNMENT_MARKER_RECEIVE` (R97): A received marker advances lock, deskew and the announced set change, and
  carries RX_FAULT and TEST fields. -/
  | alignmentMarkerReceive (l : Fin 24) (m : Option (BitVec 1360)) (skew : BitVec 32)
  /-- `ALIGNMENT_MARKER_SEND` (R84): After 4096 (hop) or 1024 (long) codewords each lane sends a marker, and the
  countdown set change applies after COUNTDOWN 0. -/
  | alignmentMarkerSend (k : Fin 4)
  /-- `CAP_BLOCK_RECEIVE` (R93): A CAP block is taken; after three identical blocks the FEC mode is settled or the
  lane is refused. -/
  | capBlockReceive (l : Fin 24) (b : BitVec 256)
  /-- `CAPABILITY_TIMEOUT` (R93): Capability exchange does not complete within 1 ms. -/
  | capabilityTimeout (l : Fin 24)
  /-- `CAPABILITY_REFUSE_WAIT_END` (R93): A refused lane returns to receiver detect after 1 s. -/
  | capabilityRefuseWaitEnd (l : Fin 24)
  /-- `FAILED_LANE_RETRY` (R92): Every 1 s a failed lane is retried at the port's rate. -/
  | failedLaneRetry (l : Fin 24)
  /-- `PORT_RESTART_TIMER` (R92): 1 s after failing at the floor rate, the port starts again from RATE_MAX. -/
  | portRestartTimer (k : Fin 4)
  /-- `LANE_LOCK_LOSS` (R98): CDR loss of lock or 2 bad markers fail a lane, which is removed by a fault change
  and replaced by a spare. -/
  | laneLockLoss (l : Fin 24) (cdr : Bool)
  /-- `LANE_HEALTH_WINDOW` (R99): At the end of each 1 s window the lane is judged GOOD, DEGRADED or FAILED and
  acted on. -/
  | laneHealthWindow (l : Fin 24) (received : List (Nat × List (BitVec 10))) (load : BitVec 8)
  /-- `PRBS_START` (R103): A write of PRBS_START starts a live test or times the checker of a lane in test. -/
  | prbsStart (c : CtxId) (l : Fin 24) (v : BitVec 8)
  /-- `PRBS_DURATION_END` (R103): PRBS_DURATION expires; the live test announces return or the checker run
  publishes. -/
  | prbsDurationEnd (l : Fin 24) (n errors symErrors : BitVec 64)
  /-- `LIVE_TEST_RELOCK_TIMEOUT` (R103): A withdrawn lane fails to regain lock within 10 ms and is declared
  FAILED. -/
  | liveTestRelockTimeout (l : Fin 24)
  /-- `INJ_START` (R106): A write of INJ_START = 1 begins error injection on a lane. -/
  | injStart (c : CtxId) (l : Fin 24)
  /-- `INJ_STOP` (R106): A write of INJ_START = 0 stops continuous injection. -/
  | injStop (c : CtxId) (l : Fin 24)
  /-- `LOOPBACK_WRITE` (R107): A write of LOOPBACK sets or clears a port loopback, or is refused outside the
  permitted states. -/
  | loopbackWrite (c : CtxId) (p : Fin 3) (v : BitVec 8)
  /-- `TEST_STATE_WRITE` (R107): A write of TEST_STATE takes the port down into test, or starts a full bring-up
  when cleared. -/
  | testStateWrite (c : CtxId) (p : Fin 3) (v : BitVec 8)
  /-- `LANE_COUNTER_CLEAR` (R109): A write of 1 to the lane's CLEAR zeroes its counters in one step. -/
  | laneCounterClear (c : CtxId) (l : Fin 24) (v : BitVec 8)
  /-- `VIDEO_CELL_RECEIVE` (R131): A tile forwards a VIDEO or VIDEO_SLATE cell, checks it, and accepts it into the
  frame store or counts a discard. -/
  | videoCellReceive (port : Fin 2) (r : RxCell)
  /-- `IDLE_CELL_RECEIVE` (R126): An idle cell arrives and its slot carries an originated cell, or a fresh idle
  cell, or is deleted in rate matching. -/
  | idleCellReceive (port : Fin 2)
  /-- `RATE_MATCH_SEND` (R127): A cell waiting in the rate-matching buffer leaves in the next output cell slot. -/
  | rateMatchSend (out : Fin 2)
  /-- `TIMING_CELL_RECEIVE` (R183): A tile timestamps a TIMING cell, forms its delay sample, and takes the timing
  set, change fields and wall derate. -/
  | timingCellReceive (port : Fin 2) (r : RxCell)
  /-- `TIMING_WINDOW_END` (R183): At each 64 µs window the tile steers its clock by the smallest sample from each
  usable end. -/
  | timingWindowEnd
  /-- `SERVICE_CELL_RECEIVE` (R121): A SERVICE cell is deduplicated and delivered only to the service-port engine.
  -/
  | serviceCellReceive (port : Fin 2) (r : RxCell)
  /-- `HEALTH_CELL_RECEIVE` (R168): A tile forwards a sender HEALTH cell and records the end's CSTATE. -/
  | healthCellReceive (port : Fin 2) (r : RxCell)
  /-- `TOPO_QUERY_RECEIVE` (R134): A tile acts once on a QUERY and answers with a TOPO REPORT towards both ends
  within 200 µs. -/
  | topoQueryReceive (port : Fin 2) (r : RxCell)
  /-- `TOPO_ASSIGN_RECEIVE` (R134): A tile takes its ASSIGN entry, its station and reversed flag, and confirms
  with a REPORT. -/
  | topoAssignReceive (port : Fin 2) (r : RxCell)
  /-- `FRAMECTL_COMMIT_RECEIVE` (R251): A named tile whose STAGE_GEN matches commits at F; otherwise it raises an
  event or does nothing. -/
  | framectlCommitReceive (port : Fin 2) (r : RxCell)
  /-- `FRAMECTL_GEN_STATE_RECEIVE` (R252): GEN_STATE repairs a missed commit when the generation in force equals
  STAGE_GEN. -/
  | framectlGenStateReceive (port : Fin 2) (r : RxCell)
  /-- `FRAMECTL_ABORT_RECEIVE` (R251): ABORT before the deadline cancels the pending commit and reloads the
  staging bank. -/
  | framectlAbortReceive (port : Fin 2) (r : RxCell)
  /-- `RESERVED_TYPE_CELL_RECEIVE` (R115): A good cell of reserved TYPE is forwarded, accepted by no tile, and
  counted. -/
  | reservedTypeCellReceive (port : Fin 2) (r : RxCell)
  /-- `CELL_TERMINATE` (R27): A sender terminates a cell from the far end and delivers, supervises, or counts it
  as continuity evidence. -/
  | cellTerminate (p : Fin 2) (r : RxCell)
  /-- `TOPO_REPORT_RECEIVE` (R134): A sender collects a tile's TOPO REPORT during discovery. -/
  | topoReportReceive (p : Fin 2) (r : RxCell)
  /-- `OPPOSITE_PORT_DOWN` (R123): The opposite port goes down and the transmitter free-runs from REFCLK sending
  idle cells and markers. -/
  | oppositePortDown (port : Fin 2)
  /-- `LOOP_TIMING_RESTORE` (R123): When the opposite port comes up the transmitter slews back to loop timing
  within 100 ms. -/
  | loopTimingRestore (port : Fin 2)
  /-- `DISCOVER` (R134): A write of DISCOVER, chain first up, or the 10 s check starts a discovery run with a TOPO
  QUERY. -/
  | discover (c : CtxId) (p : Fin 2) (v : BitVec 8)
  /-- `DISCOVERY_COLLECT_END` (R134): After 2 ms of collecting, the sender repeats QUERY once or builds the ring
  order and sends ASSIGN. -/
  | discoveryCollectEnd (p : Fin 2)
  /-- `REPEAT_ONLY_WRITE` (R141): A write of 0x2200:04 enters or leaves the commanded repeater-only cause. -/
  | repeatOnlyWrite (c : CtxId) (v : BitVec 8)
  /-- `CHAIN_COUNTER_CLEAR` (R143): A write of 1 to 0x2200:0F zeroes the tile's chain counters. -/
  | chainCounterClear (c : CtxId) (v : BitVec 8)
  /-- `SELF_DIAG_PERIOD` (R145): Every 250 µs the sender evaluates its checks, updates CLEAN_TIME, and announces
  RELINQUISH if the period was not clean. -/
  | selfDiagPeriod (secded watchdog : Bool)
  /-- `HEALTH_SEND` (R149): At its 100 µs phase a sender originates a HEALTH cell on each chain port and a STATUS
  unit to its peer. -/
  | healthSend (p : Fin 2)
  /-- `TILE_HEALTH_SEND` (R150): Every 1 ms at its station's phase a tile originates a HEALTH cell towards both
  ends. -/
  | tileHealthSend
  /-- `PEER_CHECK` (R156): 20 µs after the peer's HEALTH is due the check is made; after five failures the peer is
  lost and control may be taken. -/
  | peerCheck (p : Fin 2)
  /-- `CONTROL_START` (R157): At the start of control the sender advances its chain counter, sends its first
  TIMING cell and serves the tile window. -/
  | controlStart (p : Fin 2)
  /-- `RECLAIM_ANSWER_TIMEOUT` (R159): No answer to RECLAIM within 10 ms; RECLAIM is sent again, or after three
  attempts the hold-off restarts. -/
  | reclaimAnswerTimeout (p : Fin 2)
  /-- `DEFER_RETRY` (R159): 1 s after DEFER the preferred sender tries RECLAIM again. -/
  | deferRetry (p : Fin 2)
  /-- `RECLAIM_NOW` (R161): A write of RECLAIM_NOW sends one RECLAIM if return is disabled and the conditions
  hold. -/
  | reclaimNow (c : CtxId) (p : Fin 2) (v : BitVec 8)
  /-- `MAINTENANCE_WRITE` (R161): A write of MAINTENANCE makes the sender relinquish and stay not eligible, or
  clears that. -/
  | maintenanceWrite (c : CtxId) (p : Fin 2) (v : BitVec 8)
  /-- `FEED_END_TIMEOUT` (R162): No good TIMING cell from an end for 2 ms makes that end not alive; with neither
  alive the tile holds its last frame. -/
  | feedEndTimeout (o : Fin 2)
  /-- `HOLD_TIME_EXPIRY` (R163): HOLD_TIME after feed loss the tile shows the start image. -/
  | holdTimeExpiry
  /-- `PTP_SYNC_RECEIVE` (R175): A PTP Sync is timestamped at the ball and feeds the frame master's servo. `port`: 0 to 7
  an Ethernet port, 8 the management port; `ident` here and below: its sourcePortIdentity. -/
  | ptpSyncReceive (port domain ident seq t1 : Nat) (logInterval : Int) (twoStep : Bool)
  /-- `PTP_FOLLOW_UP_RECEIVE` (R175): A PTP Follow_Up completes a two-step Sync. -/
  | ptpFollowUpReceive (port domain ident seq t1 : Nat)
  /-- `PTP_DELAY_REQ_SEND` (R175): A PTP Delay_Req is sent multicast or unicast. -/
  | ptpDelayReqSend
  /-- `PTP_DELAY_RESP_RECEIVE` (R175): A PTP Delay_Resp completes a delay measurement. -/
  | ptpDelayRespReceive (port domain ident seq t4 : Nat)
  /-- `PTP_ANNOUNCE_RECEIVE` (R175): A PTP Announce feeds the best-master algorithm. -/
  | ptpAnnounceReceive (port domain : Nat) (d : PtpDataset) (logInterval : Int)
  /-- `ANNOUNCE_RECEIPT_TIMEOUT` (R175): Three announce intervals pass without an Announce. -/
  | announceReceiptTimeout
  /-- `QUARTZ_SOURCE_LOSS` (R176): No usable Sync or edge for 1 s puts Quartz into holdover. -/
  | quartzSourceLoss
  /-- `GENLOCK_EDGE` (R177): A genlock edge is timestamped and steers wall time, or is not used. -/
  | genlockEdge (falling : Bool)
  /-- `PPS_EDGE` (R174): A PPS edge steers phase and increments the seconds label. -/
  | ppsEdge
  /-- `TOD_SET` (R174): A write of TOD_SET sets the seconds label at the next second boundary. -/
  | todSet (c : CtxId) (seconds : BitVec 64)
  /-- `TIMING_CELL_ORIGINATE` (R182): Each wall microsecond the control sender originates a TIMING cell and stamps
  LAUNCH as it leaves. -/
  | timingCellOriginate (p : Fin 2)
  /-- `TRIM_RECOMPUTE` (R188): Every 10 ms the control sender recomputes TRIM_AB and TRIM_BA from the measured
  one-way delays. -/
  | trimRecompute (p : Fin 2)
  /-- `APPLY_FRAME` (R192): A write of APPLY_FRAME checks the staged timing set and schedules a change at Fc, or
  refuses it. -/
  | applyFrame (c : CtxId) (frame : BitVec 64)
  /-- `STEP_NOW` (R195): A write of STEP_NOW schedules a step change of kind 2. -/
  | stepNow (c : CtxId) (ns : BitVec 64)
  /-- `RECOMPUTE` (R191): A write of RECOMPUTE allows D to fall to the current D_min plus margin. -/
  | recompute (c : CtxId) (v : BitVec 8)
  /-- `FRAME_OUT_PULSE` (R197): FRAME_OUT drives a pulse at its instant under FO_MODE. -/
  | frameOutPulse (f k : Nat)
  /-- `PPS_OUT_PULSE` (R197): PPS_OUT rises at each whole second of wall time. -/
  | ppsOutPulse
  /-- `FILL_CLOSE` (R206): At T_close(F) the fill buffer closes, readiness is judged, buffers are assigned and the
  early store is written into place. -/
  | fillClose
  /-- `COMPOSE_SLOT` (R234): At T_close(F) + 30 µs × k the composition of slot k starts. -/
  | composeSlot (d : Damage)
  /-- `COMPOSE_COMPLETE` (R275): Slot composition completes, its staging bank becomes readable, the Basalt sum is
  judged and a heartbeat is given. -/
  | composeComplete
  /-- `COMPOSE_OVERRUN` (R255): Slot composition is not complete within 30 µs; the previous slot is presented
  again and three overruns fault the pixel path. -/
  | composeOverrun
  /-- `COMMIT_FRAME` (R248): A write of COMMIT_FRAME requests a local commit at a named frame, or is refused. -/
  | commitFrame (c : CtxId) (frame : BitVec 64)
  /-- `COMMIT_ABORT_WRITE` (R251): A write of 1 to 0x2880:06 cancels the pending commit. -/
  | commitAbortWrite (c : CtxId) (v : BitVec 8)
  /-- `COMMIT_DEADLINE` (R247): At T_frame(F) − 200 µs the staging bank is snapshotted and the commit checker
  runs. -/
  | commitDeadline (checkerDown : Bool)
  /-- `FRAMECTL_SEND` (R250): At T_frame + 10 µs the control sender sends COMMIT, ABORT or GEN_STATE cells. -/
  | framectlSend (p : Fin 2)
  /-- `COEFF_SET_WRITE` (R232): A write of a coefficient set is checked for length, content and use, and loaded or
  refused. -/
  | coeffSetWrite (c : CtxId) (k : Fin 16) (set : List Byte)
  /-- `TF_TABLE_WRITE` (R268): A write of a transfer table 3 to 7 is checked and loaded or refused. -/
  | tfTableWrite (c : CtxId) (k : Fin 8) (table : List Byte)
  /-- `CORR_SELECT_WRITE` (R279): A write of CORR_SELECT stages a change and starts verification of the named
  image. -/
  | corrSelectWrite (c : CtxId) (v : BitVec 8)
  /-- `CORR_VERIFY` (R279): A write of VERIFY starts verification of the named correction image without staging a
  change. -/
  | corrVerify (c : CtxId) (v : BitVec 8)
  /-- `CORR_VERIFY_COMPLETE` (R276): Verification of a correction image ends and publishes valid or the first
  failing cause. -/
  | corrVerifyComplete
  /-- `CORR_LOAD_ROW` (R279): A row of new correction records is copied into the store and the watermark advances
  between passes. -/
  | corrLoadRow
  /-- `CORRECTION_REREAD` (R278): After an uncorrectable correction-store error, the word's records are reread
  from flash within 100 ms. -/
  | correctionReread
  /-- `HK_ROUND` (R456): Every 8 ms the housekeeping round publishes readings, judges validity, derate target,
  supplies and flash window. -/
  | hkRound (die : Vector (Option Int) 8) (supply : Vector Nat 8) (holdup : Nat) (nvm : Option Int)
  /-- `THERMAL_TRIP` (R462): The trip comparator fires and powers down the pixel and lamp domains or the sender's
  ingress domains. -/
  | thermalTrip (die : Vector Int 8)
  /-- `COOLING_COMPLETE` (R463): After 16 rounds below 125 °C the device restarts by warm reset or stays latched.
  -/
  | coolingComplete
  /-- `ENUM_START` (R318): A write of ENUM_START requests enumeration of an enabled port. -/
  | enumStart (c : CtxId) (p : Fin 64) (v : BitVec 8)
  /-- `LR_RETURN` (R366): A frame returns at LR; its CRC is classified, the loop delay measured and a capture
  queued. `pulses`: high width and rising edge of each, in ps after the MARK's edge. -/
  | lrReturn (p : Fin 64) (pulses : List (Nat × Nat)) (loopPs : Nat)
  /-- `LR_MISSING_TIMEOUT` (R320): No return within L plus frame length plus 1 µs; after three the loop is
  declared open. -/
  | lrMissingTimeout (p : Fin 64)
  /-- `LAMP_PORT_COUNTER_CLEAR` (R325): A write of 1 to 0x2A00+p:18 zeroes the port counters. -/
  | lampPortCounterClear (c : CtxId) (p : Fin 64) (v : BitVec 8)
  /-- `FRUSTUM_IN` (R337): A frustum record written or mapped to 0x2510:01 is checked, assigned a frame and
  broadcast to the chain's tiles. -/
  | frustumIn (c : CtxId) (record : List Byte)
  /-- `FRUSTUM_WRITE` (R338): A record written to a tile's 0x2A80:07 is checked and held for its frame. -/
  | frustumWrite (c : CtxId) (record : List Byte)
  /-- `FRUSTUM_STALE_TIMEOUT` (R337): No record for FRUSTUM_STALE frames while a rectangle is in use raises event
  0x6204. -/
  | frustumStaleTimeout
  /-- `SCHED_BUILD` (R332): At the reference edge of the preceding interval the schedule builder builds each
  driver's SCHED for the next slot. -/
  | schedBuild (p : Fin 64)
  /-- `SCHED_BUILD_DONE` (R367): The schedule bodies for the next slot are ready and SCHED_STATE bit 0 is set. -/
  | schedBuildDone (p : Fin 64)
  /-- `EPOCH_END` (R346): After the polls of frame F with F mod 128 = 127, lamp ages are advanced and AGED set. `damaged`:
  words of four lamps of the verdict store, by port, that read uncorrectable (R345). -/
  | epochEnd (damaged : List (Fin 64 × Nat))
  /-- `SWEEP_START` (R349): A write of SWEEP_START treats every lamp in scope as due. -/
  | sweepStart (c : CtxId) (v : BitVec 8)
  /-- `SWEEP_END` (R349): A sweep ends when all lamps are tested or after 512 frames and publishes its counts. -/
  | sweepEnd
  /-- `LAMP_DIAG_CLEAR` (R351): A write of 1 to 0x2B00:17 zeroes the diagnostics counters. -/
  | lampDiagClear (c : CtxId) (v : BitVec 8)
  /-- `ADD` (R359): Port-engine ADD: rd = ra + rb. -/
  | peAdd (p : Fin 64) (rd ra rb : Fin 16) (rsv : BitVec 14)
  /-- `SUB` (R359): Port-engine SUB: rd = ra − rb. -/
  | peSub (p : Fin 64) (rd ra rb : Fin 16) (rsv : BitVec 14)
  /-- `AND` (R359): Port-engine AND of two registers. -/
  | peAnd (p : Fin 64) (rd ra rb : Fin 16) (rsv : BitVec 14)
  /-- `OR` (R359): Port-engine OR of two registers. -/
  | peOr (p : Fin 64) (rd ra rb : Fin 16) (rsv : BitVec 14)
  /-- `XOR` (R359): Port-engine XOR of two registers. -/
  | peXor (p : Fin 64) (rd ra rb : Fin 16) (rsv : BitVec 14)
  /-- `SHL` (R359): Port-engine shift left by rb[4:0]. -/
  | peShl (p : Fin 64) (rd ra rb : Fin 16) (rsv : BitVec 14)
  /-- `SHR` (R359): Port-engine logical shift right by rb[4:0]. -/
  | peShr (p : Fin 64) (rd ra rb : Fin 16) (rsv : BitVec 14)
  /-- `SRA` (R359): Port-engine arithmetic shift right by rb[4:0]. -/
  | peSra (p : Fin 64) (rd ra rb : Fin 16) (rsv : BitVec 14)
  /-- `MUL` (R359): Port-engine low 32 bits of ra × rb. -/
  | peMul (p : Fin 64) (rd ra rb : Fin 16) (rsv : BitVec 14)
  /-- `MULHU` (R359): Port-engine unsigned high 32 bits of ra × rb. -/
  | peMulhu (p : Fin 64) (rd ra rb : Fin 16) (rsv : BitVec 14)
  /-- `SLTU` (R359): Port-engine unsigned set-less-than. -/
  | peSltu (p : Fin 64) (rd ra rb : Fin 16) (rsv : BitVec 14)
  /-- `MINU` (R359): Port-engine unsigned minimum. -/
  | peMinu (p : Fin 64) (rd ra rb : Fin 16) (rsv : BitVec 14)
  /-- `MAXU` (R359): Port-engine unsigned maximum. -/
  | peMaxu (p : Fin 64) (rd ra rb : Fin 16) (rsv : BitVec 14)
  /-- `ADDI` (R359): Port-engine add of a sign-extended immediate. -/
  | peAddi (p : Fin 64) (rd ra : Fin 16) (imm : BitVec 18)
  /-- `ANDI` (R359): Port-engine AND with a zero-extended immediate. -/
  | peAndi (p : Fin 64) (rd ra : Fin 16) (imm : BitVec 18)
  /-- `ORI` (R359): Port-engine OR with a zero-extended immediate. -/
  | peOri (p : Fin 64) (rd ra : Fin 16) (imm : BitVec 18)
  /-- `XORI` (R359): Port-engine XOR with a zero-extended immediate. -/
  | peXori (p : Fin 64) (rd ra : Fin 16) (imm : BitVec 18)
  /-- `SLTUI` (R359): Port-engine unsigned set-less-than an immediate. -/
  | peSltui (p : Fin 64) (rd ra : Fin 16) (imm : BitVec 18)
  /-- `SHLI` (R359): Port-engine shift left by an immediate. -/
  | peShli (p : Fin 64) (rd ra : Fin 16) (imm : BitVec 18)
  /-- `SHRI` (R359): Port-engine logical shift right by an immediate. -/
  | peShri (p : Fin 64) (rd ra : Fin 16) (imm : BitVec 18)
  /-- `LUI` (R359): Port-engine load of IMM << 14. -/
  | peLui (p : Fin 64) (rd ra : Fin 16) (imm : BitVec 18)
  /-- `LD` (R359): Port-engine load from data memory, faulting above word 1,023. -/
  | peLd (p : Fin 64) (rd ra : Fin 16) (imm : BitVec 18)
  /-- `ST` (R359): Port-engine store to data memory, faulting above word 1,023. -/
  | peSt (p : Fin 64) (rd ra : Fin 16) (imm : BitVec 18)
  /-- `BEQ` (R359): Port-engine branch if equal. -/
  | peBeq (p : Fin 64) (ra rb : Fin 16) (off : BitVec 18)
  /-- `BNE` (R359): Port-engine branch if not equal. -/
  | peBne (p : Fin 64) (ra rb : Fin 16) (off : BitVec 18)
  /-- `BLTU` (R359): Port-engine branch if unsigned less. -/
  | peBltu (p : Fin 64) (ra rb : Fin 16) (off : BitVec 18)
  /-- `BGEU` (R359): Port-engine branch if unsigned greater or equal. -/
  | peBgeu (p : Fin 64) (ra rb : Fin 16) (off : BitVec 18)
  /-- `DBNZ` (R359): Port-engine decrement and branch if nonzero. -/
  | peDbnz (p : Fin 64) (ra rb : Fin 16) (off : BitVec 18)
  /-- `JAL` (R359): Port-engine jump and link, relative. -/
  | peJal (p : Fin 64) (rd ra : Fin 16) (imm : BitVec 18)
  /-- `JALR` (R359): Port-engine jump and link through a register. -/
  | peJalr (p : Fin 64) (rd ra : Fin 16) (imm : BitVec 18)
  /-- `RDS` (R357): Port-engine read of a special register, clearing REQ when read. -/
  | peRds (p : Fin 64) (rd ra : Fin 16) (imm : BitVec 18)
  /-- `WRS` (R357): Port-engine write of a special register, such as BANK_FRAME, ARM or RESULT. -/
  | peWrs (p : Fin 64) (rd ra : Fin 16) (imm : BitVec 18)
  /-- `WAITE` (R368): Port engine begins waiting for any selected condition. -/
  | peWaite (p : Fin 64) (rd ra : Fin 16) (imm : BitVec 18)
  /-- `WAITE_COMPLETE` (R368): A selected condition is met and WAITE returns the conditions met. -/
  | waiteComplete (p : Fin 64)
  /-- `WAITT` (R368): Port engine begins waiting until PT reaches ra. -/
  | peWaitt (p : Fin 64) (rd ra : Fin 16) (imm : BitVec 18)
  /-- `WAITT_COMPLETE` (R368): PT reaches the awaited time and WAITT completes. -/
  | waittComplete (p : Fin 64)
  /-- `WDK` (R372): Port engine restarts its watchdog. -/
  | peWdk (p : Fin 64) (rd ra : Fin 16) (imm : BitVec 18)
  /-- `MBS` (R370): Port engine posts g12–g15 on a bound mailbox channel and rings its doorbell. -/
  | peMbs (p : Fin 64) (rd ra : Fin 16) (imm : BitVec 18)
  /-- `MBR` (R370): Port engine takes a message from a bound mailbox channel. -/
  | peMbr (p : Fin 64) (rd ra : Fin 16) (imm : BitVec 18)
  /-- `SEMA` (R427): Port engine acquires a semaphore by reading it. -/
  | peSema (p : Fin 64) (rd ra : Fin 16) (imm : BitVec 18)
  /-- `SEMR` (R427): Port engine releases a semaphore it holds. -/
  | peSemr (p : Fin 64) (rd ra : Fin 16) (imm : BitVec 18)
  /-- `FOPEN` (R361): Port engine opens a frame with CMD and payload length, as a reference frame held to REF_TIME
  if REF is set. -/
  | peFopen (p : Fin 64) (rd ra : Fin 16) (imm : BitVec 18)
  /-- `TXB` (R371): Port engine pushes up to 32 bits of a register, counted against the immediate budget. -/
  | peTxb (p : Fin 64) (rd ra : Fin 16) (imm : BitVec 18)
  /-- `TXF` (R371): Port engine pushes a run of identical bits. -/
  | peTxf (p : Fin 64) (rd ra : Fin 16) (imm : BitVec 18)
  /-- `TXSH` (R364): Port engine pushes a driver's share for a scan line, read through the Basalt clamp. -/
  | peTxsh (p : Fin 64) (rd ra rb : Fin 16) (rsv : BitVec 14) (bad : List Nat)
  /-- `TXL` (R364): Port engine pushes the code of one canonical lamp through the clamp. -/
  | peTxl (p : Fin 64) (rd ra rb : Fin 16) (rsv : BitVec 14) (bad : List Nat)
  /-- `TXS` (R367): Port engine pushes the SCHED body built for a position. -/
  | peTxs (p : Fin 64) (rd ra rb : Fin 16) (rsv : BitVec 14)
  /-- `SLEN` (R367): Port engine reads the bit length of a built SCHED body. -/
  | peSlen (p : Fin 64) (rd ra rb : Fin 16) (rsv : BitVec 14)
  /-- `RXW` (R366): Port engine reads the next captured word of the head return. -/
  | peRxw (p : Fin 64) (rd ra rb : Fin 16) (rsv : BitVec 14)
  /-- `RXD` (R366): Port engine drops the head return and frees its words. -/
  | peRxd (p : Fin 64) (rd ra rb : Fin 16) (rsv : BitVec 14)
  /-- `VERD` (R367): Port engine records 8 driver verdicts through the walk under R343. -/
  | peVerd (p : Fin 64) (rd ra rb : Fin 16) (rsv : BitVec 14)
  /-- `DIAGC` (R367): Port engine confirms a latch for diagnostics, marking pulsed lamps tested. -/
  | peDiagc (p : Fin 64) (rd ra rb : Fin 16) (rsv : BitVec 14)
  /-- `PRB` (R367): Port engine reads the next waiting probe request. -/
  | pePrb (p : Fin 64) (rd ra rb : Fin 16) (rsv : BitVec 14)
  /-- `PUSH_STALL_END` (R360): A stalled push or bank read resumes when FIFO room, the transmit unit, or the bank
  becomes available. -/
  | pushStallEnd (p : Fin 64) (bad : List Nat)
  /-- `REFERENCE_FRAME_LAUNCH` (R365): The framer releases the held MARK of the reference frame so that its
  reference edge leaves at REF_TIME. -/
  | referenceFrameLaunch (p : Fin 64)
  /-- `FRAME_LAUNCH` (R361): An open non-reference frame starts once the previous frame's GAP has passed. -/
  | frameLaunch (p : Fin 64)
  /-- `FRAMER_UNDERRUN` (R361): The FIFO empties during a frame; the framer completes it with zeros and a
  complemented CRC. -/
  | framerUnderrun (p : Fin 64)
  /-- `ENGINE_WATCHDOG_EXPIRY` (R372): An engine misses WDK for 50 ms and faults with cause 5. -/
  | engineWatchdogExpiry (p : Fin 64)
  /-- `ENGINE_LOAD` (R375): The supervisor loads a profile's code, data and default walk into an engine and starts
  it. -/
  | engineLoad (p : Fin 64)
  /-- `ENUMERATE` (R369): The supervisor posts ENUMERATE to an engine's REQ. -/
  | enumerate (p : Fin 64)
  /-- `STOP` (R369): The supervisor posts STOP to an engine's REQ. -/
  | stop (p : Fin 64)
  /-- `REPOLL` (R369): The supervisor posts REPOLL for the warm-start poll. -/
  | repoll (p : Fin 64)
  /-- `APPLY` (R369): The supervisor posts APPLY naming the frame at which lamp settings change. -/
  | apply (p : Fin 64) (frame : Nat)
  /-- `ENGINE_COUNTER_CLEAR` (R377): A write of 1 to 0x2C10+p:0F zeroes the engine counters. -/
  | engineCounterClear (c : CtxId) (p : Fin 64) (v : BitVec 8)
  /-- `READ` (R411): Host QSPI READ of bytes from an address in 1-1-1 mode. -/
  | qspiRead (addr : BitVec 24) (n : Nat) (fast : Bool)
  /-- `QREAD` (R411): Host QSPI quad read of bytes from an address. -/
  | qspiQread (addr : BitVec 24) (n : Nat) (fast : Bool)
  /-- `WRITE` (R413): Host QSPI WRITE of whole words to an address. -/
  | qspiWrite (addr : BitVec 24) (bytes : List Byte)
  /-- `QWRITE` (R413): Host QSPI quad write of whole words to an address. -/
  | qspiQwrite (addr : BitVec 24) (bytes : List Byte)
  /-- `RDSR` (R411): Host QSPI RDSR returns HP_STATUS repeatedly. -/
  | qspiRdsr (n : Nat)
  /-- `PORT_RESET` (R415): Host QSPI PORT_RESET resets the host master and its SDO state. -/
  | qspiPortReset
  /-- `BAD_INSTRUCTION` (R411): An unknown QSPI instruction tri-states IO and sets HP_ERR.BAD_CMD. -/
  | qspiBadInstruction
  /-- `HP_SDO_GO` (R418): A write of HP_SDO_CTRL with GO processes the request frame and publishes the response.
  -/
  | hpSdoGo (len : BitVec 7)
  /-- `POST` (R420): A bound sender posts a mailbox message, setting FULL and DOORBELL and waking the receiver. -/
  | mbPost (m : BitVec 7) (c : Fin 128)
  /-- `TAKE` (R421): The bound receiver takes a message in native mode, setting EMPTY_EVT. -/
  | mbTake (m : BitVec 7) (c : Fin 128)
  /-- `FLUSH` (R421): The bound receiver flushes a channel. -/
  | mbFlush (m : BitVec 7) (c : Fin 128)
  /-- `RETURN_CODE_WRITE` (R421): The receiver writes RETURN_CODE in explicit mode, emptying the channel and
  setting ACK_VALID. -/
  | returnCodeWrite (m : BitVec 7) (c : Fin 128) (code : BitVec 16)
  /-- `MB_BIND_WRITE` (R422): A permitted master writes a binding entry before LOCK. -/
  | mbBindWrite (m : BitVec 7) (c : Fin 128) (v : Word)
  /-- `MB_LOCK_WRITE` (R422): A write of MB_LOCK.LOCK fixes the binding table until cold reset. -/
  | mbLockWrite (m : BitVec 7) (v : Word)
  /-- `SEM_READ` (R427): A read of SEM_n acquires a free semaphore or reports its holder, with same-cycle
  arbitration. -/
  | semRead (ms_ : List (BitVec 7)) (n : Fin 32)
  /-- `SEM_WRITE` (R427): The holder's write releases a semaphore. -/
  | semWrite (m : BitVec 7) (n : Fin 32)
  /-- `SEM_FORCE` (R429): A permitted master frees a semaphore through SEM_FORCE. -/
  | semForce (m : BitVec 7) (v : Word)
  /-- `MASTER_RESET` (R410): A master is reset; its semaphores are freed and its channel epochs increment. -/
  | masterReset (m : BitVec 7)
  /-- `PLL_LOCK` (R433): A PLL locks and its domains move from the safe source. -/
  | pllLock (p : Fin 8)
  /-- `PLL_LOCK_LOSS` (R433): A PLL loses lock and moves its domains to the safe source. -/
  | pllLockLoss (p : Fin 8)
  /-- `PLL_RELOCK_SWITCH_BACK` (R433): 10 ms after regaining lock the domains move back to the PLL. -/
  | pllRelockSwitchBack (p : Fin 8)
  /-- `XTAL_LOSS` (R434): 16 oscillator cycles without XTAL move the always-on domain to its internal oscillator.
  -/
  | xtalLoss
  /-- `XTAL_RETURN` (R434): After XTAL has run 1 ms the always-on domain returns to it. -/
  | xtalReturn
  /-- `REFCLK_LOSS` (R435): No REFCLK for 16 XTAL cycles puts the device into clock-loss hold. -/
  | refclkLoss (aborted : List (Fin 60 × BitVec 7))
  /-- `REFCLK_RETURN` (R435): REFCLK present 10 ms with all PLLs locked ends the hold by a warm start. -/
  | refclkReturn
  /-- `CLOCK_GATE_CLOSE` (R436): After 256 idle cycles a domain closes its clock gate. -/
  | clockGateClose (d : Fin 60)
  /-- `CLOCK_GATE_OPEN` (R436): A request reopens a gated domain within 8 cycles. -/
  | clockGateOpen (d : Fin 60)
  /-- `CLOCK_SWITCH_COMPLETE` (R437): A stop, switch and restart of a domain's clock source completes. -/
  | clockSwitchComplete (d : Fin 60)
  /-- `FORCED_CLOCK_SWITCH` (R438): The dead-clock detector forces a pending switch after 640 ns without an old-
  clock edge. -/
  | forcedClockSwitch (d : Fin 60) (aborted : List (BitVec 7))
  /-- `DVFS_EVALUATE` (R441): The sequencer's busy windows raise or lower the operating level. -/
  | dvfsEvaluate (busy1 busy50 : Nat)
  /-- `AVS_TRANSFER_COMPLETE` (R443): An AVSBus transfer completes, or fails after retries. -/
  | avsTransferComplete (r : AvsResult)
  /-- `VDONE` (R442): The regulator's VDone arrives and the level change proceeds. -/
  | vdone
  /-- `VDONE_TIMEOUT` (R444): VDone does not arrive within 500 µs; the level is held and DVFS fixed. -/
  | vdoneTimeout
  /-- `FREQ_START` (R453): A write of FREQ_START measures a domain's frequency for 1 ms. -/
  | freqStart (c : CtxId) (v : BitVec 8)
  /-- `FREQ_MEASURE_COMPLETE` (R453): The 1 ms frequency measurement ends and publishes FREQ_KHZ. -/
  | freqMeasureComplete (khz : BitVec 32)
  /-- `CLOCKS_COUNTER_CLEAR` (R453): A write of 1 to 0x2D00:15 zeroes the counters and FORCED bits. -/
  | clocksCounterClear (c : CtxId) (v : BitVec 8)
  /-- `CLUSTER_WATCHDOG_RESTART` (R526): A core writes its cluster restart register and restarts the watchdog. -/
  | clusterWatchdogRestart (cluster : Fin 2)
  /-- `CLUSTER_WATCHDOG_EXPIRY` (R526): A cluster watchdog expires: a warm or cold reset for the supervisor, a
  cluster restart for the service cluster. -/
  | clusterWatchdogExpiry (cluster : Fin 2)
  /-- `FLASH_OP_COMPLETE` (R470): A flash program or erase completes and is verified, or fails. -/
  | flashOpComplete (ok : Bool)
  /-- `FLASH_OP_TIMEOUT` (R470): A flash program or erase exceeds its declared maximum time and fails. -/
  | flashOpTimeout
  /-- `BB_COMMIT` (R484): A staged Flint record is committed to the pinned area or the ring when the window, flash
  and limiter allow. -/
  | bbCommit
  /-- `BB_RESET_PINNED` (R489): A write of the magic to BB_RESET_PINNED erases the pinned area. -/
  | bbResetPinned (c : CtxId) (word : BitVec 32)
  /-- `CAL_START` (R475): A write of START begins a PORT_SKEW, HOP_DELAY or SENSOR_TRIM calibration. -/
  | calStart (c : CtxId) (v : BitVec 8)
  /-- `CAL_RUN_COMPLETE` (R476): The two runs of a calibration end; agreeing values are stored and applied. -/
  | calRunComplete (hop1 hop2 : HopRun)
  /-- `CAL_DEFERRED_STORE` (R477): When the window reopens, calibration values pending storage are stored. -/
  | calDeferredStore
  /-- `HELLO` (R497): A HELLO service frame returns a nonce and the update STATE. -/
  | serviceHello (src : SvcSource) (frame : List Byte)
  /-- `OPEN` (R498): An OPEN service frame opens or resumes a session, or is refused. -/
  | serviceOpen (src : SvcSource) (frame : List Byte)
  /-- `SERVICE_WRITE` (R500): A WRITE service frame stages data, and programs and marks a block when complete. -/
  | serviceWrite (src : SvcSource) (frame : List Byte)
  /-- `SERVICE_STATUS` (R495): A STATUS service frame returns STATE and the complete-block bitmap. -/
  | serviceStatus (src : SvcSource) (frame : List Byte)
  /-- `SERVICE_VERIFY` (R503): A VERIFY service frame starts verification of the staged target. -/
  | serviceVerify (src : SvcSource) (frame : List Byte)
  /-- `VERIFY_COMPLETE` (R503): Verification of the staged target ends and publishes its result. -/
  | verifyComplete
  /-- `SERVICE_ACTIVATE` (R505): An ACTIVATE service frame writes a TRIAL pointer and cold resets, or arms for a
  wall frame. -/
  | serviceActivate (src : SvcSource) (frame : List Byte)
  /-- `SERVICE_CANCEL` (R513): A CANCEL service frame disarms an armed tile. -/
  | serviceCancel (src : SvcSource) (frame : List Byte)
  /-- `SERVICE_FINALIZE` (R514): A FINALIZE service frame writes an ACTIVE pointer under CONFIRMED. -/
  | serviceFinalize (src : SvcSource) (frame : List Byte)
  /-- `SERVICE_ROLLBACK` (R510): A ROLLBACK service frame reverts to the fallback slot. -/
  | serviceRollback (src : SvcSource) (frame : List Byte)
  /-- `SERVICE_CLOSE` (R498): A CLOSE service frame abandons the session, keeping its blocks. -/
  | serviceClose (src : SvcSource) (frame : List Byte)
  /-- `SERVICE_READ` (R496): A READ service frame returns bytes of a flash area. -/
  | serviceRead (src : SvcSource) (frame : List Byte)
  /-- `SERVICE_REPORT` (R512): The coordinator takes a tile's REPORT of a change of STATE. -/
  | serviceReport (p : Fin 2) (station : Nat) (frame : List Byte)
  /-- `SESSION_IDLE_TIMEOUT` (R498): A session with no request for 60 s is abandoned. -/
  | sessionIdleTimeout
  /-- `SELF_TEST_PASS` (R508): The trial image's self-test passes and it writes CONFIRM when AUTO_CONFIRM is 1. -/
  | selfTestPass
  /-- `CONFIRM` (R507): CONFIRM under a TRIAL pointer writes ACTIVE or CONFIRMED. -/
  | confirm (c : CtxId) (v : BitVec 8)
  /-- `CONFIRMATION_TIMEOUT` (R507): 120 s without confirmation causes a cold reset with cause 6. -/
  | confirmationTimeout
  /-- `ROLLBACK_NOW` (R510): A write of ROLLBACK_NOW reverts a tile whose coordinator is gone. -/
  | rollbackNow (c : CtxId) (v : BitVec 8)
  /-- `FINALIZE_NOW` (R510): A write of FINALIZE_NOW writes ACTIVE under a CONFIRMED pointer. -/
  | finalizeNow (c : CtxId) (v : BitVec 8)
  /-- `WU_STAGE` (R512): WU_START = 1 starts staging the image to every station of the named chains. -/
  | wuStage (c : CtxId)
  /-- `WU_ARM` (R513): WU_START = 2 arms the wall update at WU_FRAME. -/
  | wuArm (c : CtxId)
  /-- `WU_ABORT` (R514): WU_START = 3 broadcasts CLOSE, CANCEL or ROLLBACK by stage. -/
  | wuAbort (c : CtxId)
  /-- `WU_POLL` (R514): Each second the coordinator polls the stations and finalizes or rolls back. -/
  | wuPoll
  /-- `WU_ACTIVATE_BROADCAST` (R513): Every 100 ms the coordinator broadcasts ACTIVATE, and stops or cancels at
  T_frame(F) − 200 ms. -/
  | wuActivateBroadcast
  /-- `WALL_ACTIVATE_AT_FRAME` (R513): At T_frame(F) an armed tile rechecks and activates. -/
  | wallActivateAtFrame
  /-- `WU_CONFIRM_WAIT_EXPIRY` (R514): WU_CONFIRM_WAIT expires with a station not confirmed, and ROLLBACK is
  broadcast. -/
  | wuConfirmWaitExpiry
  /-- `REPLAY_LIMIT_EXPIRY` (R521): Kept banks read for 2 s after a reset blank the tile. -/
  | replayLimitExpiry
  /-- `CEIL_PROGRAM` (R520): A write of CEIL_PROGRAM programs one port's OTP ceiling entry. -/
  | ceilProgram (c : CtxId) (entry : BitVec 64)
  /-- `CEIL_LOCK` (R520): A write of CEIL_LOCK closes every unprogrammed ceiling entry. -/
  | ceilLock (c : CtxId) (v : BitVec 8)
  /-- `BIST_START` (R532): A write of BIST_START tests one scaler or port engine. -/
  | bistStart (c : CtxId) (v : BitVec 8)
  /-- `BIST_COMPLETE` (R532): The commanded BIST ends, publishes, and retires a failing scaler or fails the port.
  -/
  | bistComplete (failAddr : Option Nat)
  /-- `TAP_RESET` (R527): A TAP reset selects IDCODE and relocks DEBUG. -/
  | tapReset
  /-- `EXTEST` (R529): TAP EXTEST drives the boundary register and stops the device logic. -/
  | tapExtest (pins shifted : List Bool)
  /-- `IDCODE` (R527): TAP IDCODE selects the 32-bit identification register. -/
  | tapIdcode
  /-- `SAMPLE_PRELOAD` (R527): TAP SAMPLE/PRELOAD captures the balls without stopping the device. -/
  | tapSamplePreload (pins shifted : List Bool)
  /-- `EXTEST_PULSE` (R528): TAP IEEE 1149.6 EXTEST_PULSE on the AC-coupled lanes. -/
  | tapExtestPulse (pins shifted : List Bool)
  /-- `EXTEST_TRAIN` (R528): TAP IEEE 1149.6 EXTEST_TRAIN on the AC-coupled lanes. -/
  | tapExtestTrain (pins shifted : List Bool)
  /-- `CLAMP` (R529): TAP CLAMP holds the balls and selects bypass. -/
  | tapClamp
  /-- `HIGHZ` (R529): TAP HIGHZ tri-states the balls. -/
  | tapHighz
  /-- `DBG_UNLOCK` (R530): TAP DBG_UNLOCK offers a nonce and checks the HMAC to unlock DEBUG. -/
  | tapDbgUnlock (update : Option (BitVec 128 × BitVec 128))
  /-- `DEBUG` (R530): TAP DEBUG opens the debug port as master 0x49 when allowed. -/
  | tapDebug
  /-- `MBIST` (R527): TAP MBIST selects memory BIST control. -/
  | tapMbist
  /-- `BYPASS` (R527): TAP BYPASS, or any unlisted instruction code, selects the 1-bit bypass register. -/
  | tapBypass
  /-- `GENLOCK_EDGE_MISSING` (R177): A genlock edge expected at T_frame(F) − GL_OFFSET fails to arrive within 1
  µs; three in a row put Quartz into holdover and raise event 0x1605. -/
  | genlockEdgeMissing
  /-- `UNCORRECTED_BURST` (R99): 16 uncorrected codewords among any 128 consecutive codewords declare a lane
  FAILED, which is then removed by a fault change with event 0x2105 cause 3. -/
  | uncorrectedBurst (l : Fin 24)
  /-- `PRBS_CHECKER_LOCK` (R102): A PRBS checker declares lock after 64 error-free bits, begins counting errors,
  and increments SYNC_LOSSES when this is a return to lock. -/
  | prbsCheckerLock (l : Fin 24) (pattern : BitVec 4)
  /-- `PRBS_CHECKER_LOCK_LOSS` (R102): A PRBS checker declares loss of lock when 32 or more of 64 bits are in
  error, and stops counting bits until it relocks. -/
  | prbsCheckerLockLoss (l : Fin 24) (n errors symErrors : BitVec 64)
  /-- `INJECTION_INTERVAL` (R106): After INJ_INTERVAL codewords or bit periods, the transmitter injects the next
  error, increments INJ_DONE, and stops once INJ_COUNT errors have been injected. -/
  | injectionInterval (l : Fin 24)
  /-- `LOOP_TIMING_SLEW_COMPLETE` (R123): A tile transmitter finishes slewing back to loop timing, rate matching
  by idle deletion ends, and its HEALTH cells no longer report the hop delay as not fixed. -/
  | loopTimingSlewComplete (port : Fin 2)
  /-- `WU_WRITE_PACE` (R512): At each pacing instant set by WU_PACE, the coordinator broadcasts the next image
  block in WRITE service frames to the chain. -/
  | wuWritePace
  /-- `SERVICE_REQUEST_RETRY` (R496): A coordinator that has received no answer to a service request within 100 ms
  sends the request again with the same TAG. -/
  | serviceRequestRetry (tag : Nat)
  /-- `HELLO_NONCE_EXPIRY` (R497): A service-port nonce issued by HELLO lapses 10 s after it was issued and no
  longer admits an OPEN. -/
  | helloNonceExpiry
  /-- `MB_MSG_WRITE` (R420): A master writes an MB_MSG word of a mailbox channel; the write takes effect from the
  bound sender while the channel is empty, sets REFUSED while it is full, and is counted as a violation from any
  other master. -/
  | mbMsgWrite (m : BitVec 7) (c : Fin 128) (w : Fin 4) (v : Word)
  /-- `MB_STATUS_CLEAR` (R419): A write of 1 to EMPTY_EVT, ACK_VALID, REFUSED or DOORBELL in a channel's status
  register clears the bit, subject to the binding, and updates the interrupts that follow it. -/
  | mbStatusClear (m : BitVec 7) (c : Fin 128) (v : Word)
  deriving DecidableEq, Repr

end Sys2Proof
end

