-- ==== Sys2Proof/Machine/Bits.lean ====
section
/-! DEFINITION. Byte order, bit fields, check words and digests, as the spec and the standards it names define
them: little-endian bytes, CRC-32 (IEEE 802.3), CRC-24 (RFC 4880), SHA-256, HMAC, SHA-512 and Ed25519. -/

namespace Sys2Proof.Machine

/-- The low `n` bytes of a number, least significant first (R6). -/
def leBytes : Nat → Nat → List Byte
  | 0, _ => []
  | n + 1, v => BitVec.ofNat 8 v :: leBytes n (v / 256)

/-- The number that bytes spell, least significant first. -/
def leNat : List Byte → Nat
  | [] => 0
  | b :: bs => b.toNat + 256 * leNat bs

/-- The number that bytes spell, most significant first. -/
def beNat (bs : List Byte) : Nat := bs.foldl (fun a b => a * 256 + b.toNat) 0

/-- The low `n` bytes of a number, most significant first. -/
def beBytes (n v : Nat) : List Byte := (leBytes n v).reverse

/-- `len` bytes from an offset, padded with zeros past the end. -/
def slice (bs : List Byte) (off len : Nat) : List Byte :=
  let t := (bs.drop off).take len
  t ++ List.replicate (len - t.length) 0

/-- A little-endian field of some bytes. -/
def field (bs : List Byte) (off len : Nat) : Nat := leNat (slice bs off len)

/-- One byte of a list, 0 past its end. -/
def byteAt (bs : List Byte) (i : Nat) : Byte := bs.getD i 0

/-- A signed little-endian field of some bytes, two's complement. -/
def sfield (bs : List Byte) (off len : Nat) : Int := (BitVec.ofNat (8 * len) (field bs off len)).toInt

/-- Bytes padded with zeros to a length, or cut to it. -/
def padTo (n : Nat) (bs : List Byte) : List Byte := bs.take n ++ List.replicate (n - bs.length) 0

/-- A value held at a maximum. -/
def sat (mx v : Nat) : Nat := min mx v

/-- The largest value of an unsigned type of some bytes. -/
def umax (bytes : Nat) : Nat := 256 ^ bytes - 1

/-- Bits [hi:lo] of a number (R5). -/
def bits (v hi lo : Nat) : Nat := v / 2 ^ lo % 2 ^ (hi + 1 - lo)

/-- One bit of a number. -/
def bit (v i : Nat) : Bool := v / 2 ^ i % 2 == 1

/-- The number that bits spell, most significant first. -/
def bitsNat (bs : List Bool) : Nat := bs.foldl (fun a b => a * 2 + (if b then 1 else 0)) 0

/-- A Bool as a bit at a place. -/
def bitAt (b : Bool) (i : Nat) : Nat := if b then 2 ^ i else 0

/-- Fold a byte into a reflected CRC-32 of IEEE 802.3. -/
def crc32Byte (c : BitVec 32) (b : Byte) : BitVec 32 :=
  (List.range 8).foldl (fun c _ => if c.getLsbD 0 then (c >>> 1) ^^^ 0xEDB88320 else c >>> 1)
    (c ^^^ b.setWidth 32)

/-- CRC-32 of IEEE 802.3 over bytes. -/
def crc32 (bs : List Byte) : BitVec 32 := (bs.foldl crc32Byte 0xFFFFFFFF) ^^^ 0xFFFFFFFF

/-- CRC-32 as a number. -/
def crc32Nat (bs : List Byte) : Nat := (crc32 bs).toNat

/-- Fold a byte into the CRC-24 of RFC 4880 (R113). -/
def crc24Byte (c : BitVec 24) (b : Byte) : BitVec 24 :=
  (List.range 8).foldl (fun c _ => if c.getLsbD 23 then (c <<< 1) ^^^ 0x864CFB else c <<< 1)
    (c ^^^ (b.setWidth 24 <<< 16))

/-- CRC-24 of RFC 4880 over bytes (R113). -/
def crc24 (bs : List Byte) : BitVec 24 := bs.foldl crc24Byte 0xB704CE

/-- Fold a byte into the CRC-16 of CiA 301 block transfers: polynomial 0x1021, initial value 0. -/
def crc16Byte (c : BitVec 16) (b : Byte) : BitVec 16 :=
  (List.range 8).foldl (fun c _ => if c.getLsbD 15 then (c <<< 1) ^^^ 0x1021 else c <<< 1)
    (c ^^^ (b.setWidth 16 <<< 8))

/-- CRC-16 of an SDO block transfer. -/
def sdoCrc (bs : List Byte) : BitVec 16 := bs.foldl crc16Byte 0

/-! ### SHA-256 and SHA-512

The spec names both hashes and leaves them to FIPS 180-4. They are one
construction over words of two widths, so they stand here once; their constants are the fractions of roots of the first
primes, which is how that standard defines them. -/

/-- Greatest number of at most `n` bits whose k-th power does not exceed a bound. -/
def intRoot (k n bound : Nat) : Nat :=
  (List.range n).foldl (fun r i =>
    let up := r + 2 ^ (n - 1 - i)
    if up ^ k ≤ bound then up else r) 0

/-- Primes below 410, which are the first 80, rising. -/
def smallPrimes : List Nat :=
  (List.range 410).filter fun p => decide (2 ≤ p) && (List.range 19).all fun d => decide (p < (d + 2) * (d + 2)) || p % (d + 2) != 0

/-- The first bits of the fraction of the k-th root of each of the first `n` primes, as words; those roots lie below 8. -/
def rootWords (w k n : Nat) : List (BitVec w) :=
  (smallPrimes.take n).map fun p => BitVec.ofNat w (intRoot k (w + 3) (p * 2 ^ (k * w)))

/-- What tells one hash of the family from another: the rounds of a block, and for each of its four mixings the two rotations
and a third amount, which the schedule shifts by and the round rotates by. -/
structure Sha2 where
  rounds : Nat
  late : Nat × Nat × Nat
  early : Nat × Nat × Nat
  lower : Nat × Nat × Nat
  upper : Nat × Nat × Nat
  deriving DecidableEq, Repr

/-- SHA-256. -/
def sha256Form : Sha2 where
  rounds := 64
  late := (7, 18, 3)
  early := (17, 19, 10)
  lower := (6, 11, 25)
  upper := (2, 13, 22)

/-- SHA-512. -/
def sha512Form : Sha2 where
  rounds := 80
  late := (1, 8, 7)
  early := (19, 61, 6)
  lower := (14, 18, 41)
  upper := (28, 34, 39)

/-- A mixing of a word: two rotations and a third term. -/
def spin {w : Nat} (third : BitVec w → Nat → BitVec w) (r : Nat × Nat × Nat) (x : BitVec w) : BitVec w :=
  x.rotateRight r.1 ^^^ x.rotateRight r.2.1 ^^^ third x r.2.2

/-- The next word of a message schedule held newest first. -/
def Sha2.next {w : Nat} (f : Sha2) (ws : List (BitVec w)) : BitVec w :=
  let old (i : Nat) : BitVec w := ws.getD (i - 1) 0
  old 16 + old 7 + spin (· >>> ·) f.late (old 15) + spin (· >>> ·) f.early (old 2)

/-- The message schedule of a block of 16 words. -/
def Sha2.schedule {w : Nat} (f : Sha2) (block : List (BitVec w)) : List (BitVec w) :=
  ((List.range (f.rounds - 16)).foldl (fun ws _ => f.next ws :: ws) block.reverse).reverse

/-- One round on the eight working words, given the sum of its constant and its schedule word. -/
def Sha2.round {w : Nat} (f : Sha2) (v : Vector (BitVec w) 8) (add : BitVec w) : Vector (BitVec w) 8 :=
  let choose := (v[4] &&& v[5]) ^^^ (~~~v[4] &&& v[6])
  let most := (v[0] &&& (v[1] ^^^ v[2])) ^^^ (v[1] &&& v[2])
  let low := v[7] + add + choose + spin BitVec.rotateRight f.lower v[4]
  #v[low + most + spin BitVec.rotateRight f.upper v[0], v[0], v[1], v[2], v[3] + low, v[4], v[5], v[6]]

/-- Fold one block into the eight chaining words. -/
def Sha2.fold {w : Nat} (f : Sha2) (v : Vector (BitVec w) 8) (block : List (BitVec w)) : Vector (BitVec w) 8 :=
  let adds := List.zipWith (· + ·) (rootWords w 3 f.rounds) (f.schedule block)
  Vector.zipWith (· + ·) v (adds.foldl f.round v)

/-- Split a list into chunks of `k`, at most `n` of them. -/
def chunks {α : Type} (k : Nat) : Nat → List α → List (List α)
  | 0, _ => []
  | n + 1, l => if l.isEmpty then [] else l.take k :: chunks k n (l.drop k)

/-- A hash of the family over words of `n` bytes: the message, a one bit, zeros to a whole number of blocks, and its length in
bits. -/
def Sha2.hash (f : Sha2) (n : Nat) (m : List Byte) : List Byte :=
  let size := 16 * n
  let fill := (2 * size - 1 - 2 * n - m.length % size) % size
  let padded := m ++ 0x80 :: List.replicate fill 0 ++ beBytes (2 * n) (8 * m.length)
  let words := (chunks n (16 * (padded.length / size)) padded).map fun b => BitVec.ofNat (8 * n) (beNat b)
  let start : Vector (BitVec (8 * n)) 8 := Vector.ofFn fun i => (rootWords (8 * n) 2 8).getD i 0
  ((chunks 16 (padded.length / size) words).foldl f.fold start).toList.flatMap fun x => beBytes n x.toNat

/-- SHA-256 of bytes, 32 bytes. -/
def sha256 (m : List Byte) : List Byte := sha256Form.hash 4 m

/-- SHA-512 of bytes, 64 bytes. -/
def sha512 (m : List Byte) : List Byte := sha512Form.hash 8 m

/-- HMAC-SHA-256 under a key of at most 64 bytes. -/
def hmacSha256 (k m : List Byte) : List Byte :=
  let k := padTo 64 k
  sha256 (k.map (· ^^^ 0x5c) ++ sha256 (k.map (· ^^^ 0x36) ++ m))

/-- The field prime of Ed25519, 2^255 − 19. -/
def edP : Nat := 2 ^ 255 - 19

/-- The group order of Ed25519. -/
def edL : Nat := 2 ^ 252 + 27742317777372353535851937790883648493

/-- Modular exponentiation by squaring over `fuel` bits of the exponent. -/
def powMod (m : Nat) : Nat → Nat → Nat → Nat
  | 0, _, _ => 1 % m
  | fuel + 1, b, e =>
    let r := powMod m fuel (b * b % m) (e / 2)
    if e % 2 = 1 then r * b % m else r

/-- Inverse in the field. -/
def edInv (x : Nat) : Nat := powMod edP 256 x (edP - 2)

/-- The curve constant d = −121665 / 121666. -/
def edD : Nat := (edP - 121665) * edInv 121666 % edP

/-- Subtraction in the field. -/
def edSub (a b : Nat) : Nat := (a + edP - b % edP) % edP

/-- A curve point in affine coordinates. -/
abbrev EdPoint := Nat × Nat

/-- Addition of curve points. -/
def edAdd (p q : EdPoint) : EdPoint :=
  let t := edD * p.1 % edP * q.1 % edP * p.2 % edP * q.2 % edP
  let x := (p.1 * q.2 + q.1 * p.2) % edP * edInv ((1 + t) % edP) % edP
  let y := (p.2 * q.2 + p.1 * q.1) % edP * edInv (edSub 1 t) % edP
  (x, y)

/-- A multiple of a point, over `fuel` bits of the factor. -/
def edMul : Nat → Nat → EdPoint → EdPoint
  | 0, _, _ => (0, 1)
  | fuel + 1, k, p =>
    let r := edMul fuel (k / 2) (edAdd p p)
    if k % 2 = 1 then edAdd r p else r

/-- The point that 32 bytes encode, if they encode one (RFC 8032). -/
def edDecode (bs : List Byte) : Option EdPoint :=
  let v := leNat (padTo 32 bs)
  let sign := v / 2 ^ 255 % 2
  let y := v % 2 ^ 255
  if edP ≤ y then none else
  let u := edSub (y * y % edP) 1
  let w := (edD * y % edP * y + 1) % edP
  let x2 := u * edInv w % edP
  let r := powMod edP 256 x2 ((edP + 3) / 8)
  let x := if r * r % edP = x2 then r else r * powMod edP 256 2 ((edP - 1) / 4) % edP
  if x * x % edP ≠ x2 then none
  else if x = 0 ∧ sign = 1 then none
  else some (if x % 2 = sign then x else edP - x, y)

/-- The base point of Ed25519. -/
def edBase : Option EdPoint := edDecode (beBytes 1 0x58 ++ List.replicate 31 0x66)

/-- Whether a 64-byte Ed25519 signature of a message stands under a public key (RFC 8032). -/
def ed25519Verify (pk sig msg : List Byte) : Bool :=
  match edDecode pk, edDecode (sig.take 32), edBase with
  | some a, some r, some b =>
    let sv := leNat ((sig.drop 32).take 32)
    let k := leNat (sha512 (sig.take 32 ++ pk ++ msg)) % edL
    sig.length == 64 && decide (sv < edL) && edMul 256 sv b == edAdd r (edMul 256 k a)
  | _, _, _ => false

end Sys2Proof.Machine
end

