-- ==== Sys2Proof/Machine/Dict.lean ====
section
/-! DEFINITION. The object dictionary: one row per object of the spec's dictionary tables, and what an object
reads as before anything has written it (R10, R379, R404 to R407 and the tables of each chapter). -/

namespace Sys2Proof.Machine

/-- Length of a DOMAIN (R379). -/
inductive DomLen where
  | exact (n : Nat)
  | oneOf (l : List Nat)
  /-- Any multiple of `unit` up to `max`. -/
  | upTo (unit max : Nat)
  deriving DecidableEq, Repr

/-- Object types, by their CANopen names. -/
inductive OdTy where
  | bool | u8 | u16 | u32 | u64 | i16 | i32 | i64 | str
  | dom (len : DomLen)
  deriving DecidableEq, Repr

/-- Dictionary access codes (Table 0.2). -/
inductive Acc where
  | ro | rw | wo | const
  deriving DecidableEq, Repr

/-- Access levels; OWNER is a context that holds the owner credential (R381, R385). -/
inductive Lvl where
  | operator | integrator | service | vendor | owner
  deriving DecidableEq, Repr

/-- The rank of a level, as LOGIN byte 0 codes it (R383). -/
def Lvl.rank : Lvl → Nat
  | .operator => 1 | .integrator => 2 | .service => 3 | .vendor => 4 | .owner => 4

/-- The default of an object. -/
inductive Dflt where
  | num (v : Int)
  | zeros (n : Nat)
  | empty
  /-- The identity of GAMUT_CUSTOM: 1.0 in Q2.14 on the diagonal (R270). -/
  | gamutIdentity
  deriving DecidableEq, Repr

/-- The values an object accepts (check 8 of R561). -/
inductive Rng where
  /-- Every value of the type. -/
  | any
  | span (lo hi : Int)
  | oneOf (l : List Int)
  | spanOr (lo hi other : Int)
  /-- 0, or the span. -/
  | zeroOr (lo hi : Int)
  | multiple (lo hi step : Int)
  /-- Tap values within R88. -/
  | taps
  /-- Transmission types 1 to 240, 254 and 255 (R396). -/
  | tpdoType
  /-- BIST targets: [7:6] = 1 with [2:0], or [7:6] = 2 with [5:0]; other bits reserved (R532). -/
  | bistTarget
  deriving DecidableEq, Repr

/-- In which role an object serves (R3, R200, R404, R405). -/
inductive Presence where
  | both
  /-- Exists in one role only: in the other its index or sub-index does not exist. -/
  | senderOnly | tileOnly
  /-- Belongs to a subsystem or sub-index that the other role holds down: reads zero there (R3). -/
  | senderHeld | tileHeld
  /-- On a tile, read only (R200). -/
  | tileRo
  deriving DecidableEq, Repr

/-- A row of a dictionary table: `count` consecutive indices from `index`, `span` consecutive sub-indices
from `sub`. `bound` marks a commit-bound object (R246, R294, R324, R340, R362). -/
structure OdRow where
  index : Nat
  count : Nat
  sub : Nat
  span : Nat
  name : String
  ty : OdTy
  acc : Acc
  lvl : Lvl
  dflt : Dflt
  rng : Rng
  role : Presence
  bound : Bool
  deriving DecidableEq, Repr

/-- The rows of the dictionary tables whose index lies from 0x1000 (R379, R404 to R407). The COB-IDs whose default follows the node ID
(R388) have −1 for what nobody has written, which no value written equals. -/
def odRows1000 : List OdRow := [
  ⟨0x1000, 1, 0x00, 1, "DEVICE_TYPE", .u32, .const, .operator, .num 0, .any, .both, false⟩,
  ⟨0x1001, 1, 0x00, 1, "ERROR_REGISTER", .u8, .ro, .operator, .num 0, .any, .both, false⟩,
  ⟨0x1003, 1, 0x00, 1, "ERROR_HISTORY count", .u32, .rw, .operator, .num 0, (.span (0) 0), .both, false⟩,
  ⟨0x1003, 1, 0x01, 8, "ERROR_HISTORY", .u32, .ro, .operator, .num 0, .any, .both, false⟩,
  ⟨0x1005, 1, 0x00, 1, "SYNC_COBID", .u32, .rw, .integrator, .num 128, .any, .senderOnly, false⟩,
  ⟨0x1008, 1, 0x00, 1, "DEVICE_NAME", .str, .const, .operator, .empty, .any, .both, false⟩,
  ⟨0x1009, 1, 0x00, 1, "HW_VERSION", .str, .const, .operator, .empty, .any, .both, false⟩,
  ⟨0x100A, 1, 0x00, 1, "SW_VERSION", .str, .const, .operator, .empty, .any, .both, false⟩,
  ⟨0x1010, 1, 0x01, 4, "STORE", .u32, .rw, .integrator, .num 1, (.oneOf [1702257011]), .both, false⟩,
  ⟨0x1011, 1, 0x01, 4, "RESTORE", .u32, .rw, .service, .num 1, (.oneOf [1684107116]), .both, false⟩,
  ⟨0x1014, 1, 0x00, 1, "EMCY_COBID", .u32, .rw, .integrator, .num (-1), .any, .senderOnly, false⟩,
  ⟨0x1015, 1, 0x00, 1, "EMCY_INHIBIT", .u16, .rw, .integrator, .num 10, .any, .senderOnly, false⟩,
  ⟨0x1016, 1, 0x01, 4, "HB_CONSUMER", .u32, .rw, .integrator, .num 0, .any, .senderOnly, false⟩,
  ⟨0x1017, 1, 0x00, 1, "HB_PRODUCER", .u16, .rw, .integrator, .num 1000, (.span (0) 65535), .senderOnly, false⟩,
  ⟨0x1018, 1, 0x01, 4, "IDENTITY", .u32, .const, .operator, .num 0, .any, .both, false⟩,
  ⟨0x1200, 4, 0x01, 2, "SDO_SERVER COB-IDs", .u32, .rw, .integrator, .num (-1), .any, .senderOnly, false⟩,
  ⟨0x1200, 4, 0x03, 1, "SDO_SERVER client node", .u8, .rw, .integrator, .num 0, .any, .senderOnly, false⟩,
  ⟨0x1400, 4, 0x01, 1, "RPDO_COMM COB-ID", .u32, .rw, .integrator, .num (-1), .any, .senderOnly, false⟩,
  ⟨0x1400, 4, 0x02, 1, "RPDO_COMM transmission type", .u8, .rw, .integrator, .num 255, (.oneOf [254, 255]), .senderOnly, false⟩,
  ⟨0x1600, 4, 0x00, 1, "RPDO_MAP count", .u8, .rw, .integrator, .num 0, (.span 0 64), .senderOnly, false⟩,
  ⟨0x1600, 4, 0x01, 64, "RPDO_MAP entry", .u32, .rw, .integrator, .num 0, .any, .senderOnly, false⟩,
  ⟨0x1800, 4, 0x01, 1, "TPDO_COMM COB-ID", .u32, .rw, .integrator, .num (-1), .any, .senderOnly, false⟩,
  ⟨0x1800, 4, 0x02, 1, "TPDO_COMM transmission type", .u8, .rw, .integrator, .num 255, .tpdoType, .senderOnly, false⟩,
  ⟨0x1800, 4, 0x03, 1, "TPDO_COMM inhibit time", .u16, .rw, .integrator, .num 0, .any, .senderOnly, false⟩,
  ⟨0x1800, 4, 0x05, 1, "TPDO_COMM event timer", .u16, .rw, .integrator, .num 0, .any, .senderOnly, false⟩,
  ⟨0x1A00, 4, 0x00, 1, "TPDO_MAP count", .u8, .rw, .integrator, .num 0, (.span 0 64), .senderOnly, false⟩,
  ⟨0x1A00, 4, 0x01, 64, "TPDO_MAP entry", .u32, .rw, .integrator, .num 0, .any, .senderOnly, false⟩]

/-- The rows of the dictionary tables whose index lies from 0x2000 (R379, R404 to R407). -/
def odRows2000 : List OdRow := [
  ⟨0x2000, 1, 0x01, 1, "ROLE", .u8, .const, .operator, .num 0, .any, .both, false⟩,
  ⟨0x2000, 1, 0x02, 1, "SILICON_REV", .u8, .const, .operator, .num 0, .any, .both, false⟩,
  ⟨0x2000, 1, 0x03, 1, "SERIAL", .u64, .const, .operator, .num 0, .any, .both, false⟩,
  ⟨0x2000, 1, 0x04, 1, "STRAPS", .u8, .ro, .operator, .num 0, .any, .both, false⟩,
  ⟨0x2000, 1, 0x05, 1, "UPTIME", .u64, .ro, .operator, .num 0, .any, .both, false⟩,
  ⟨0x2000, 1, 0x10, 1, "RESET", .u8, .wo, .service, .num 0, (.span (1) 2), .both, false⟩,
  ⟨0x2001, 1, 0x01, 1, "EVENT_CODE", .u16, .ro, .operator, .num 0, .any, .both, false⟩,
  ⟨0x2001, 1, 0x02, 1, "DETAIL", .u32, .ro, .operator, .num 0, .any, .both, false⟩,
  ⟨0x2001, 1, 0x03, 1, "TIME_SEC", .u64, .ro, .operator, .num 0, .any, .both, false⟩,
  ⟨0x2001, 1, 0x04, 1, "TIME_NS", .u32, .ro, .operator, .num 0, .any, .both, false⟩,
  ⟨0x2001, 1, 0x05, 1, "EVENT_COUNT", .u32, .ro, .operator, .num 0, .any, .both, false⟩,
  ⟨0x2002, 1, 0x01, 1, "IP_ADDR", .u32, .rw, .integrator, .num 0, .any, .both, false⟩,
  ⟨0x2002, 1, 0x02, 1, "NETMASK", .u32, .rw, .integrator, .num 0, .any, .both, false⟩,
  ⟨0x2002, 1, 0x03, 1, "GATEWAY", .u32, .rw, .integrator, .num 0, .any, .both, false⟩,
  ⟨0x2002, 1, 0x04, 1, "VLAN", .u16, .rw, .integrator, .num 0, (.span (0) 4094), .both, false⟩,
  ⟨0x2002, 1, 0x05, 1, "SDO_UDP_PORT", .u16, .const, .operator, .num 40981, .any, .both, false⟩,
  ⟨0x2002, 1, 0x06, 1, "EVENT_DEST", .u32, .rw, .integrator, .num 0, .any, .both, false⟩,
  ⟨0x2002, 1, 0x07, 1, "EVENT_PORT", .u16, .rw, .integrator, .num 40981, .any, .both, false⟩,
  ⟨0x2002, 1, 0x08, 1, "HEARTBEAT_UDP", .u16, .rw, .integrator, .num 1000, (.zeroOr 100 60000), .both, false⟩,
  ⟨0x2003, 1, 0x01, 1, "NODE_ID", .u8, .rw, .integrator, .num 255, (.spanOr 1 127 255), .senderOnly, false⟩,
  ⟨0x2003, 1, 0x02, 1, "ARB_RATE", .u8, .rw, .integrator, .num 3, (.span (0) 3), .senderOnly, false⟩,
  ⟨0x2003, 1, 0x03, 1, "DATA_RATE", .u8, .rw, .integrator, .num 3, (.span (0) 3), .senderOnly, false⟩,
  ⟨0x2003, 1, 0x04, 1, "FD_ENABLE", .bool, .rw, .integrator, .num 1, (.span (0) 1), .senderOnly, false⟩,
  ⟨0x2003, 1, 0x05, 1, "AUTO_OPERATIONAL", .bool, .rw, .integrator, .num 1, (.span (0) 1), .senderOnly, false⟩]

/-- The rows of the dictionary tables whose index lies from 0x2100 (R379, R404 to R407). -/
def odRows2100 : List OdRow := [
  ⟨0x2100, 3, 0x02, 1, "PORT_STATE", .u8, .ro, .operator, .num 0, .any, .both, false⟩,
  ⟨0x2100, 3, 0x03, 1, "RATE_MAX", .u8, .rw, .integrator, .num 0, (.span (0) 2), .both, false⟩,
  ⟨0x2100, 3, 0x04, 1, "RATE_FLOOR", .u8, .rw, .integrator, .num 2, (.span (0) 2), .both, false⟩,
  ⟨0x2100, 3, 0x05, 1, "FEC_REQ", .bool, .rw, .integrator, .num 0, (.span (0) 1), .both, false⟩,
  ⟨0x2100, 3, 0x06, 1, "MIN_LANES", .u8, .rw, .integrator, .num 1, (.span (1) 8), .both, false⟩,
  ⟨0x2100, 3, 0x07, 1, "ACTIVE_TARGET", .u8, .rw, .integrator, .num 8, (.span (1) 8), .both, false⟩,
  ⟨0x2100, 3, 0x08, 1, "TX_SET", .u8, .ro, .operator, .num 0, .any, .both, false⟩,
  ⟨0x2100, 3, 0x09, 1, "RX_SET", .u8, .ro, .operator, .num 0, .any, .both, false⟩,
  ⟨0x2100, 3, 0x0A, 1, "SPARE_SET", .u8, .ro, .operator, .num 0, .any, .both, false⟩,
  ⟨0x2100, 3, 0x0B, 1, "RATE_IN_FORCE", .u8, .ro, .operator, .num 255, .any, .both, false⟩,
  ⟨0x2100, 3, 0x0C, 1, "FEC_IN_FORCE", .u8, .ro, .operator, .num 255, .any, .both, false⟩,
  ⟨0x2100, 3, 0x0D, 1, "LOOPBACK", .u8, .rw, .service, .num 0, (.span (0) 3), .both, false⟩,
  ⟨0x2100, 3, 0x0E, 1, "TEST_STATE", .bool, .rw, .service, .num 0, (.span (0) 1), .both, false⟩,
  ⟨0x2100, 3, 0x0F, 1, "PAYLOAD", .u32, .ro, .operator, .num 0, .any, .both, false⟩,
  ⟨0x2100, 3, 0x20, 1, "SKEW", .u32, .ro, .operator, .num 0, .any, .both, false⟩,
  ⟨0x2102, 1, 0x01, 1, "PORTC_CONFIG", .u8, .rw, .integrator, .num 0, (.span (0) 4), .both, false⟩,
  ⟨0x2102, 1, 0x10, 8, "ETH_IP0 to ETH_IP7", .u32, .rw, .integrator, .num 0, .any, .senderHeld, false⟩,
  ⟨0x2102, 1, 0x18, 8, "ETH_VLAN0 to ETH_VLAN7", .u16, .rw, .integrator, .num 0, (.span (0) 4094), .senderHeld, false⟩,
  ⟨0x2110, 24, 0x01, 1, "LANE_STATE", .u8, .ro, .operator, .num 0, .any, .both, false⟩,
  ⟨0x2110, 24, 0x02, 1, "ENABLE", .bool, .rw, .integrator, .num 1, (.span (0) 1), .both, false⟩,
  ⟨0x2110, 24, 0x03, 1, "DETECT_MODE", .u8, .rw, .integrator, .num 0, (.span (0) 1), .both, false⟩,
  ⟨0x2110, 24, 0x04, 1, "PARTNER_LANE", .u8, .ro, .operator, .num 255, .any, .both, false⟩,
  ⟨0x2110, 24, 0x05, 1, "POLARITY", .bool, .ro, .operator, .num 0, .any, .both, false⟩,
  ⟨0x2110, 24, 0x06, 1, "TX_TAPS", .u32, .ro, .service, .num 4194304, .any, .both, false⟩,
  ⟨0x2110, 24, 0x07, 1, "TAP_MODE", .u8, .rw, .service, .num 0, (.span (0) 1), .both, false⟩,
  ⟨0x2110, 24, 0x08, 1, "TAP_FIXED", .u32, .rw, .service, .num 4194304, .taps, .both, false⟩,
  ⟨0x2110, 24, 0x09, 1, "HEALTH", .u8, .ro, .operator, .num 0, .any, .both, false⟩,
  ⟨0x2110, 24, 0x10, 1, "CW_TOTAL", .u64, .ro, .operator, .num 0, .any, .both, false⟩,
  ⟨0x2110, 24, 0x11, 1, "CW_CORRECTED", .u64, .ro, .operator, .num 0, .any, .both, false⟩,
  ⟨0x2110, 24, 0x12, 1, "CW_UNCORRECTED", .u64, .ro, .operator, .num 0, .any, .both, false⟩,
  ⟨0x2110, 24, 0x13, 1, "SYM_CORRECTED", .u64, .ro, .operator, .num 0, .any, .both, false⟩,
  ⟨0x2110, 24, 0x14, 1, "LOCK_LOSSES", .u64, .ro, .operator, .num 0, .any, .both, false⟩,
  ⟨0x2110, 24, 0x15, 1, "BAD_MARKERS", .u64, .ro, .operator, .num 0, .any, .both, false⟩,
  ⟨0x2110, 24, 0x16, 1, "CLEAR", .bool, .wo, .operator, .num 0, (.span (0) 1), .both, false⟩,
  ⟨0x2110, 24, 0x18, 4, "HIST_1 to HIST_4", .u64, .ro, .operator, .num 0, .any, .both, false⟩,
  ⟨0x2110, 24, 0x20, 1, "PRBS_TX", .u8, .rw, .service, .num 0, (.span (0) 7), .both, false⟩,
  ⟨0x2110, 24, 0x21, 1, "PRBS_RX", .u8, .rw, .service, .num 0, (.span (0) 7), .both, false⟩,
  ⟨0x2110, 24, 0x22, 1, "PRBS_DURATION", .u32, .rw, .service, .num 1000, (.span (1) 3600000), .both, false⟩,
  ⟨0x2110, 24, 0x23, 1, "PRBS_START", .bool, .wo, .service, .num 0, (.span (0) 1), .both, false⟩,
  ⟨0x2110, 24, 0x24, 1, "RESULT_STATE", .u8, .ro, .operator, .num 0, .any, .both, false⟩,
  ⟨0x2110, 24, 0x25, 1, "RESULT_SEQ", .u16, .ro, .operator, .num 0, .any, .both, false⟩,
  ⟨0x2110, 24, 0x26, 1, "BITS_CHECKED", .u64, .ro, .operator, .num 0, .any, .both, false⟩,
  ⟨0x2110, 24, 0x27, 1, "BIT_ERRORS", .u64, .ro, .operator, .num 0, .any, .both, false⟩,
  ⟨0x2110, 24, 0x28, 1, "SYMBOL_ERRORS", .u64, .ro, .operator, .num 0, .any, .both, false⟩,
  ⟨0x2110, 24, 0x29, 1, "SYNC_LOSSES", .u32, .ro, .operator, .num 0, .any, .both, false⟩,
  ⟨0x2110, 24, 0x30, 1, "INJ_KIND", .u8, .rw, .service, .num 0, (.span (0) 3), .both, false⟩,
  ⟨0x2110, 24, 0x31, 1, "INJ_SIZE", .u8, .rw, .service, .num 1, (.span (1) 64), .both, false⟩,
  ⟨0x2110, 24, 0x32, 1, "INJ_COUNT", .u16, .rw, .service, .num 1, (.span (0) 65535), .both, false⟩,
  ⟨0x2110, 24, 0x33, 1, "INJ_INTERVAL", .u32, .rw, .service, .num 4096, (.span (1) 1048576), .both, false⟩,
  ⟨0x2110, 24, 0x34, 1, "INJ_START", .bool, .wo, .service, .num 0, (.span (0) 1), .both, false⟩,
  ⟨0x2110, 24, 0x35, 1, "INJ_DONE", .u32, .ro, .service, .num 0, .any, .both, false⟩]

/-- The rows of the dictionary tables whose index lies from 0x2200 (R379, R404 to R407). -/
def odRows2200 : List OdRow := [
  ⟨0x2200, 2, 0x01, 1, "CHAIN_NUMBER", .u8, .rw, .integrator, .num 0, (.span (0) 16), .senderOnly, false⟩,
  ⟨0x2200, 2, 0x02, 1, "RING_STATE", .u8, .ro, .operator, .num 0, .any, .senderOnly, false⟩,
  ⟨0x2200, 2, 0x03, 1, "STATIONS_FOUND", .u8, .ro, .operator, .num 0, .any, .senderOnly, false⟩,
  ⟨0x2200, 2, 0x04, 1, "DISCOVER", .bool, .wo, .integrator, .num 0, (.span (0) 1), .senderOnly, false⟩,
  ⟨0x2200, 2, 0x05, 1, "RESULT_STATE", .u8, .ro, .operator, .num 0, .any, .senderOnly, false⟩,
  ⟨0x2200, 2, 0x06, 1, "RESULT_SEQ", .u16, .ro, .operator, .num 0, .any, .senderOnly, false⟩,
  ⟨0x2200, 2, 0x07, 1, "FLAGS_FOUND", .u8, .ro, .operator, .num 0, .any, .senderOnly, false⟩,
  ⟨0x2200, 2, 0x08, 1, "TOPOLOGY", (.dom (.upTo 12 3060)), .ro, .operator, .empty, .any, .senderOnly, false⟩,
  ⟨0x2200, 2, 0x09, 1, "EXPECTED_STATIONS", .u8, .rw, .integrator, .num 0, (.span (0) 255), .senderOnly, false⟩,
  ⟨0x2200, 2, 0x0A, 1, "STORED_TOPOLOGY", (.dom (.upTo 12 3060)), .rw, .integrator, .empty, .any, .senderOnly, false⟩,
  ⟨0x2200, 2, 0x0B, 1, "RENUMBER", .bool, .rw, .integrator, .num 0, (.span (0) 1), .senderOnly, false⟩,
  ⟨0x2200, 2, 0x10, 1, "TERMINATED", .u64, .ro, .operator, .num 0, .any, .senderOnly, false⟩,
  ⟨0x2200, 2, 0x11, 1, "TERMINATED_DAMAGED", .u64, .ro, .operator, .num 0, .any, .senderOnly, false⟩,
  ⟨0x2200, 1, 0x01, 1, "CHAIN_NUMBER", .u8, .ro, .operator, .num 0, .any, .tileOnly, false⟩,
  ⟨0x2200, 1, 0x02, 1, "STATION", .u8, .ro, .operator, .num 0, .any, .tileOnly, false⟩,
  ⟨0x2200, 1, 0x03, 1, "REVERSED", .bool, .ro, .operator, .num 0, .any, .tileOnly, false⟩,
  ⟨0x2200, 1, 0x04, 1, "REPEAT_ONLY", .bool, .rw, .integrator, .num 0, (.span (0) 1), .tileOnly, false⟩,
  ⟨0x2200, 1, 0x05, 1, "MODE", .u8, .ro, .operator, .num 0, .any, .tileOnly, false⟩,
  ⟨0x2200, 1, 0x06, 1, "LOOP_TIMED", .u8, .ro, .operator, .num 0, .any, .tileOnly, false⟩,
  ⟨0x2200, 1, 0x07, 1, "HOPS_LAST", .u16, .ro, .operator, .num 0, .any, .tileOnly, false⟩,
  ⟨0x2200, 1, 0x0F, 1, "CLEAR", .bool, .wo, .operator, .num 0, (.span (0) 1), .tileOnly, false⟩,
  ⟨0x2200, 1, 0x10, 1, "FORWARDED_A2B", .u64, .ro, .operator, .num 0, .any, .tileOnly, false⟩,
  ⟨0x2200, 1, 0x11, 1, "FORWARDED_B2A", .u64, .ro, .operator, .num 0, .any, .tileOnly, false⟩,
  ⟨0x2200, 1, 0x12, 1, "CRC_LOCAL_A", .u64, .ro, .operator, .num 0, .any, .tileOnly, false⟩,
  ⟨0x2200, 1, 0x13, 1, "CRC_LOCAL_B", .u64, .ro, .operator, .num 0, .any, .tileOnly, false⟩,
  ⟨0x2200, 1, 0x14, 1, "POISON_IN_A", .u64, .ro, .operator, .num 0, .any, .tileOnly, false⟩,
  ⟨0x2200, 1, 0x15, 1, "POISON_IN_B", .u64, .ro, .operator, .num 0, .any, .tileOnly, false⟩,
  ⟨0x2200, 1, 0x16, 1, "CORR_IN", .u64, .ro, .operator, .num 0, .any, .tileOnly, false⟩,
  ⟨0x2200, 1, 0x17, 1, "DUP_DISCARD", .u64, .ro, .operator, .num 0, .any, .tileOnly, false⟩,
  ⟨0x2200, 1, 0x18, 1, "OUT_OF_WINDOW", .u64, .ro, .operator, .num 0, .any, .tileOnly, false⟩,
  ⟨0x2200, 1, 0x19, 1, "UNNEEDED", .u64, .ro, .operator, .num 0, .any, .tileOnly, false⟩,
  ⟨0x2200, 1, 0x1A, 1, "MAPGEN_DISCARD", .u64, .ro, .operator, .num 0, .any, .tileOnly, false⟩,
  ⟨0x2200, 1, 0x1B, 1, "RM_DROP", .u64, .ro, .operator, .num 0, .any, .tileOnly, false⟩,
  ⟨0x2200, 1, 0x1C, 1, "ORIG_DROP", .u64, .ro, .operator, .num 0, .any, .tileOnly, false⟩,
  ⟨0x2200, 1, 0x1D, 1, "RESERVED_TYPE", .u64, .ro, .operator, .num 0, .any, .tileOnly, false⟩,
  ⟨0x2210, 1, 0x01, 1, "STATION", .u8, .rw, .operator, .num 1, (.span (1) 255), .senderOnly, false⟩,
  ⟨0x2210, 1, 0x02, 1, "CHAIN", .u8, .rw, .operator, .num 0, (.span (1) 16), .senderOnly, false⟩,
  ⟨0x2210, 1, 0x03, 1, "GW_TIMEOUT", .u16, .rw, .integrator, .num 1000, (.span (200) 2000), .senderOnly, false⟩,
  ⟨0x2210, 1, 0x04, 1, "GW_RETRIES", .u8, .rw, .integrator, .num 2, (.span (0) 4), .senderOnly, false⟩,
  ⟨0x2210, 1, 0x05, 1, "GW_REQUESTS", .u64, .ro, .operator, .num 0, .any, .senderOnly, false⟩,
  ⟨0x2210, 1, 0x06, 1, "GW_TIMEOUTS", .u64, .ro, .operator, .num 0, .any, .senderOnly, false⟩,
  ⟨0x2212, 1, 0x01, 1, "EVENTS_QUEUED", .u8, .ro, .operator, .num 0, .any, .senderOnly, false⟩,
  ⟨0x2212, 1, 0x02, 1, "TILE_EVENTS", (.dom (.upTo 16 1024)), .ro, .operator, .empty, .any, .senderOnly, false⟩,
  ⟨0x2212, 1, 0x03, 1, "CLEAR", .bool, .wo, .operator, .num 0, (.span (0) 1), .senderOnly, false⟩,
  ⟨0x2212, 1, 0x04, 1, "LOST", .u32, .ro, .operator, .num 0, .any, .senderOnly, false⟩,
  ⟨0x2212, 1, 0x05, 1, "EMCY_RATE", .u8, .rw, .integrator, .num 20, (.span (0) 100), .senderOnly, false⟩]

/-- The rows of the dictionary tables whose index lies from 0x2300 (R379, R404 to R407). -/
def odRows2300 : List OdRow := [
  ⟨0x2300, 2, 0x01, 1, "MODE", .u8, .rw, .integrator, .num 0, (.span (0) 1), .senderOnly, false⟩,
  ⟨0x2300, 2, 0x02, 1, "PREFERRED", .u8, .rw, .integrator, .num 0, (.span (0) 1), .senderOnly, false⟩,
  ⟨0x2300, 2, 0x03, 1, "RECLAIM_HOLDOFF", .u32, .rw, .integrator, .num 2000, (.zeroOr 100 60000), .senderOnly, false⟩,
  ⟨0x2300, 2, 0x04, 1, "RELAY_LEAD", .u16, .rw, .integrator, .num 20, (.span (5) 100), .senderOnly, false⟩,
  ⟨0x2300, 2, 0x05, 1, "CSTATE", .u8, .ro, .operator, .num 1, .any, .senderOnly, false⟩,
  ⟨0x2300, 2, 0x06, 1, "PEER_PRIORITY", .u8, .ro, .operator, .num 0, .any, .senderOnly, false⟩,
  ⟨0x2300, 2, 0x07, 1, "PEER_CSTATE", .u8, .ro, .operator, .num 255, .any, .senderOnly, false⟩,
  ⟨0x2300, 2, 0x08, 1, "MISSES", .u8, .ro, .operator, .num 0, .any, .senderOnly, false⟩,
  ⟨0x2300, 2, 0x09, 1, "CLEAN_TIME", .u32, .ro, .operator, .num 0, .any, .senderOnly, false⟩,
  ⟨0x2300, 2, 0x0A, 1, "DIAG_LAST", .u32, .ro, .operator, .num 0, .any, .senderOnly, false⟩,
  ⟨0x2300, 2, 0x0B, 1, "VOUCHED", .u32, .ro, .operator, .num 0, .any, .senderOnly, false⟩,
  ⟨0x2300, 2, 0x0C, 1, "WITHHELD_DET", .u32, .ro, .operator, .num 0, .any, .senderOnly, false⟩,
  ⟨0x2300, 2, 0x10, 1, "TAKEOVERS", .u32, .ro, .operator, .num 0, .any, .senderOnly, false⟩,
  ⟨0x2300, 2, 0x11, 1, "RELINQUISHES", .u32, .ro, .operator, .num 0, .any, .senderOnly, false⟩,
  ⟨0x2300, 2, 0x12, 1, "RECLAIMS", .u32, .ro, .operator, .num 0, .any, .senderOnly, false⟩,
  ⟨0x2300, 2, 0x13, 1, "LATE_RELAYS", .u64, .ro, .operator, .num 0, .any, .senderOnly, false⟩,
  ⟨0x2300, 2, 0x14, 1, "CHECKSUM_MISMATCH", .u32, .ro, .operator, .num 0, .any, .senderOnly, false⟩,
  ⟨0x2300, 2, 0x15, 1, "RECLAIM_NOW", .bool, .wo, .integrator, .num 0, (.span (0) 1), .senderOnly, false⟩,
  ⟨0x2300, 2, 0x16, 1, "MAINTENANCE", .bool, .rw, .integrator, .num 0, (.span (0) 1), .senderOnly, false⟩,
  ⟨0x2300, 1, 0x01, 1, "HOLD_TIME", .u16, .rw, .integrator, .num 2000, (.span (0) 60000), .tileOnly, false⟩,
  ⟨0x2300, 1, 0x02, 1, "FEED_STATE", .u8, .ro, .operator, .num 2, .any, .tileOnly, false⟩,
  ⟨0x2300, 1, 0x03, 1, "END_A_CSTATE", .u8, .ro, .operator, .num 255, .any, .tileOnly, false⟩,
  ⟨0x2300, 1, 0x04, 1, "END_B_CSTATE", .u8, .ro, .operator, .num 255, .any, .tileOnly, false⟩,
  ⟨0x2300, 1, 0x05, 1, "FEED_LOSSES", .u32, .ro, .operator, .num 0, .any, .tileOnly, false⟩]

/-- The rows of the dictionary tables whose index lies from 0x2400 (R379, R404 to R407). -/
def odRows2400 : List OdRow := [
  ⟨0x2400, 32, 0x01, 1, "ENABLE", .bool, .rw, .integrator, .num 0, (.span (0) 1), .senderHeld, false⟩,
  ⟨0x2400, 32, 0x02, 1, "ESSENCE", .u8, .rw, .integrator, .num 0, (.span (0) 1), .senderHeld, false⟩,
  ⟨0x2400, 32, 0x03, 1, "TIMING_MODE", .u8, .rw, .integrator, .num 0, (.span (0) 1), .senderHeld, false⟩,
  ⟨0x2400, 32, 0x04, 1, "WIDTH", .u16, .rw, .integrator, .num 3840, (.span (64) 8192), .senderHeld, false⟩,
  ⟨0x2400, 32, 0x05, 1, "HEIGHT", .u16, .rw, .integrator, .num 2160, (.span (16) 4320), .senderHeld, false⟩,
  ⟨0x2400, 32, 0x06, 1, "RATE_NUM", .u32, .rw, .integrator, .num 60000, (.span (1) 4294967295), .senderHeld, false⟩,
  ⟨0x2400, 32, 0x07, 1, "RATE_DEN", .u32, .rw, .integrator, .num 1001, (.span (1) 1001), .senderHeld, false⟩,
  ⟨0x2400, 32, 0x08, 1, "SAMPLING", .u8, .rw, .integrator, .num 0, (.span (0) 3), .senderHeld, false⟩,
  ⟨0x2400, 32, 0x09, 1, "DEPTH", .u8, .rw, .integrator, .num 10, (.oneOf [8, 10, 12]), .senderHeld, false⟩,
  ⟨0x2400, 32, 0x0A, 1, "PACKING", .u8, .rw, .integrator, .num 0, (.span (0) 1), .senderHeld, false⟩,
  ⟨0x2400, 32, 0x0B, 1, "PAYLOAD_TYPE", .u8, .rw, .integrator, .num 96, (.span (96) 127), .senderHeld, false⟩,
  ⟨0x2400, 32, 0x0C, 1, "ALIGN_OFFSET", .u32, .rw, .integrator, .num 1000, (.span (0) 20000), .senderHeld, false⟩,
  ⟨0x2400, 32, 0x0D, 1, "COLORIMETRY", .u8, .rw, .integrator, .num 0, (.span (0) 2), .senderHeld, false⟩,
  ⟨0x2400, 32, 0x0E, 1, "TCS", .u8, .rw, .integrator, .num 0, (.span (0) 2), .senderHeld, false⟩,
  ⟨0x2400, 32, 0x10, 1, "P1_GROUP", .u32, .rw, .integrator, .num 0, .any, .senderHeld, false⟩,
  ⟨0x2400, 32, 0x11, 1, "P1_SOURCE", .u32, .rw, .integrator, .num 0, .any, .senderHeld, false⟩,
  ⟨0x2400, 32, 0x12, 1, "P1_UDP", .u16, .rw, .integrator, .num 0, (.span (1) 65535), .senderHeld, false⟩,
  ⟨0x2400, 32, 0x13, 1, "P1_PORT", .u8, .rw, .integrator, .num 0, (.span (0) 7), .senderHeld, false⟩,
  ⟨0x2400, 32, 0x14, 1, "P2_GROUP", .u32, .rw, .integrator, .num 0, .any, .senderHeld, false⟩,
  ⟨0x2400, 32, 0x15, 1, "P2_SOURCE", .u32, .rw, .integrator, .num 0, .any, .senderHeld, false⟩,
  ⟨0x2400, 32, 0x16, 1, "P2_UDP", .u16, .rw, .integrator, .num 0, (.span (1) 65535), .senderHeld, false⟩,
  ⟨0x2400, 32, 0x17, 1, "P2_PORT", .u8, .rw, .integrator, .num 255, (.oneOf [0, 1, 2, 3, 4, 5, 6, 7, 255]), .senderHeld, false⟩,
  ⟨0x2400, 32, 0x20, 1, "STATE", .u8, .ro, .operator, .num 0, .any, .senderHeld, false⟩,
  ⟨0x2400, 32, 0x21, 1, "FRAMES_COMPLETE", .u32, .ro, .operator, .num 0, .any, .senderHeld, false⟩,
  ⟨0x2400, 32, 0x22, 1, "FRAMES_INCOMPLETE", .u32, .ro, .operator, .num 0, .any, .senderHeld, false⟩,
  ⟨0x2400, 32, 0x23, 1, "LOST_P1", .u32, .ro, .operator, .num 0, .any, .senderHeld, false⟩,
  ⟨0x2400, 32, 0x24, 1, "LOST_P2", .u32, .ro, .operator, .num 0, .any, .senderHeld, false⟩,
  ⟨0x2400, 32, 0x25, 1, "LOST_BOTH", .u32, .ro, .operator, .num 0, .any, .senderHeld, false⟩,
  ⟨0x2400, 32, 0x26, 1, "MEASURED_RATE", .u32, .ro, .operator, .num 0, .any, .senderHeld, false⟩,
  ⟨0x2400, 32, 0x27, 1, "REPEATS", .u32, .ro, .operator, .num 0, .any, .senderHeld, false⟩,
  ⟨0x2400, 32, 0x28, 1, "DROPS", .u32, .ro, .operator, .num 0, .any, .senderHeld, false⟩,
  ⟨0x2400, 32, 0x29, 1, "WITHHELD", .u32, .ro, .operator, .num 0, .any, .senderHeld, false⟩]

/-- The rows of the dictionary tables whose index lies from 0x2500 (R379, R404 to R407). -/
def odRows2500 : List OdRow := [
  ⟨0x2500, 1, 0x01, 1, "GEOMETRY", (.dom (.upTo 12 48960)), .rw, .integrator, .empty, .any, .senderHeld, false⟩,
  ⟨0x2500, 1, 0x02, 1, "REGIONS", (.dom (.upTo 32 8192)), .rw, .integrator, .empty, .any, .senderHeld, false⟩,
  ⟨0x2500, 1, 0x03, 1, "ACTIVATE_FRAME", .u64, .wo, .integrator, .num 0, .any, .senderHeld, false⟩,
  ⟨0x2500, 1, 0x04, 1, "REFUSED_BY", .u16, .ro, .operator, .num 0, .any, .senderHeld, false⟩,
  ⟨0x2500, 1, 0x05, 1, "REFUSE_CAUSE", .u8, .ro, .operator, .num 0, .any, .senderHeld, false⟩,
  ⟨0x2500, 1, 0x06, 1, "REFUSE_REGION", .u8, .ro, .operator, .num 255, .any, .senderHeld, false⟩,
  ⟨0x2500, 1, 0x07, 1, "PENDING_FRAME", .u64, .ro, .operator, .num 0, .any, .senderHeld, false⟩,
  ⟨0x2500, 1, 0x08, 1, "MAP_GEN", .u8, .ro, .operator, .num 0, .any, .senderHeld, false⟩,
  ⟨0x2500, 1, 0x09, 1, "MAP_CRC", .u32, .ro, .operator, .num 0, .any, .senderHeld, false⟩,
  ⟨0x2500, 1, 0x0A, 1, "RESULT_STATE", .u8, .ro, .operator, .num 0, .any, .senderHeld, false⟩,
  ⟨0x2500, 1, 0x0B, 1, "RESULT_SEQ", .u16, .ro, .operator, .num 0, .any, .senderHeld, false⟩,
  ⟨0x2510, 1, 0x01, 1, "FRUSTUM_IN", (.dom (.exact 64)), .rw, .operator, .zeros 64, .any, .senderHeld, false⟩,
  ⟨0x2510, 1, 0x02, 1, "FRUSTUM_STALE", .u8, .rw, .integrator, .num 8, (.span (1) 255), .senderHeld, false⟩,
  ⟨0x2510, 1, 0x03, 1, "RECORDS", .u64, .ro, .operator, .num 0, .any, .senderHeld, false⟩,
  ⟨0x2510, 1, 0x04, 1, "LATE", .u64, .ro, .operator, .num 0, .any, .senderHeld, false⟩]

/-- The rows of the dictionary tables whose index lies from 0x2600 (R379, R404 to R407). TOD_SET has the range of 48-bit seconds
(DESIGN CHOICE, log entry 119). -/
def odRows2600 : List OdRow := [
  ⟨0x2600, 1, 0x01, 1, "TIME_SOURCE", .u8, .rw, .integrator, .num 0, (.span (0) 3), .senderHeld, false⟩,
  ⟨0x2600, 1, 0x02, 1, "FM_PRIORITY", .u8, .rw, .integrator, .num 16, (.span (1) 16), .senderHeld, false⟩,
  ⟨0x2600, 1, 0x03, 1, "PTP_PORT", .u8, .rw, .integrator, .num 8, (.span (0) 8), .senderHeld, false⟩,
  ⟨0x2600, 1, 0x04, 1, "PTP_DOMAIN", .u8, .rw, .integrator, .num 127, (.span (0) 127), .senderHeld, false⟩,
  ⟨0x2600, 1, 0x05, 1, "PTP_DELAY_MODE", .u8, .rw, .integrator, .num 0, (.span (0) 1), .senderHeld, false⟩,
  ⟨0x2600, 1, 0x06, 1, "RATE_NUM", .u32, .rw, .integrator, .num 60000, .any, .tileRo, false⟩,
  ⟨0x2600, 1, 0x07, 1, "RATE_DEN", .u32, .rw, .integrator, .num 1001, .any, .tileRo, false⟩,
  ⟨0x2600, 1, 0x08, 1, "APPLY_FRAME", .u64, .wo, .integrator, .num 0, .any, .senderHeld, false⟩,
  ⟨0x2600, 1, 0x09, 1, "D_MODE", .u8, .rw, .integrator, .num 0, (.span (0) 1), .senderHeld, false⟩,
  ⟨0x2600, 1, 0x0A, 1, "D_SET", .u32, .rw, .integrator, .num 0, .any, .senderHeld, false⟩,
  ⟨0x2600, 1, 0x0B, 1, "D_MARGIN", .u32, .rw, .integrator, .num 20000, (.span (0) 1000000), .senderHeld, false⟩,
  ⟨0x2600, 1, 0x0C, 1, "D_MIN", .u32, .ro, .operator, .num 0, .any, .senderHeld, false⟩,
  ⟨0x2600, 1, 0x0D, 1, "D_IN_FORCE", .u32, .ro, .operator, .num 0, .any, .both, false⟩,
  ⟨0x2600, 1, 0x0E, 1, "S", .u8, .rw, .integrator, .num 1, (.span (1) 4), .tileRo, false⟩,
  ⟨0x2600, 1, 0x0F, 1, "RECOMPUTE", .bool, .wo, .integrator, .num 0, (.span (0) 1), .senderHeld, false⟩,
  ⟨0x2600, 1, 0x10, 4, "SLOT_OFFSET0 to 3", .u32, .rw, .integrator, .num 0, .any, .tileRo, false⟩,
  ⟨0x2600, 1, 0x14, 1, "SLOT_LEN01", .u64, .rw, .integrator, .num 0, .any, .tileRo, false⟩,
  ⟨0x2600, 1, 0x15, 1, "SLOT_LEN23", .u64, .rw, .integrator, .num 0, .any, .tileRo, false⟩,
  ⟨0x2600, 1, 0x16, 4, "SHUTTER_OFFSET0 to 3", .i32, .rw, .integrator, .num 0, (.span (-1000000) 1000000), .both, false⟩,
  ⟨0x2600, 1, 0x1A, 1, "GL_EDGE", .u8, .rw, .integrator, .num 0, (.span (0) 1), .both, false⟩,
  ⟨0x2600, 1, 0x1B, 1, "GL_DIV", .u8, .rw, .integrator, .num 1, (.span (1) 8), .both, false⟩,
  ⟨0x2600, 1, 0x1C, 1, "GL_OFFSET", .i32, .rw, .integrator, .num 0, .any, .both, false⟩,
  ⟨0x2600, 1, 0x1D, 1, "SLEW_MAX", .u8, .rw, .integrator, .num 10, (.span (1) 100), .both, false⟩,
  ⟨0x2600, 1, 0x1E, 1, "FO_MODE", .u8, .rw, .integrator, .num 0, (.span (0) 3), .both, false⟩,
  ⟨0x2600, 1, 0x1F, 1, "FO_SLOT_MASK", .u8, .rw, .integrator, .num 1, (.span (0) 15), .both, false⟩,
  ⟨0x2600, 1, 0x20, 1, "FO_WIDTH", .u32, .rw, .integrator, .num 1000, (.span (10) 1000000), .both, false⟩,
  ⟨0x2600, 1, 0x21, 1, "FO_OFFSET", .i32, .rw, .integrator, .num 0, .any, .both, false⟩,
  ⟨0x2600, 1, 0x22, 1, "PPS_WIDTH", .u32, .rw, .integrator, .num 100000, (.span (1) 500000), .both, false⟩,
  ⟨0x2600, 1, 0x23, 1, "TOD_SET", .u64, .wo, .integrator, .num 0, (.span (0) 281474976710655), .senderHeld, false⟩,
  ⟨0x2600, 1, 0x24, 1, "STEP_NOW", .i64, .wo, .service, .num 0, .any, .senderHeld, false⟩,
  ⟨0x2600, 1, 0x25, 1, "CASC_ASYM", .i16, .rw, .integrator, .num 0, .any, .senderHeld, false⟩,
  ⟨0x2600, 1, 0x26, 1, "CASCADE_SIZE", .u8, .rw, .integrator, .num 0, (.span (0) 16), .senderHeld, false⟩,
  ⟨0x2600, 1, 0x30, 1, "STATE", .u8, .ro, .operator, .num 0, .any, .both, false⟩,
  ⟨0x2600, 1, 0x31, 1, "FRAME_MASTER", .u8, .ro, .operator, .num 0, .any, .both, false⟩,
  ⟨0x2600, 1, 0x32, 1, "WALL_SEC", .u64, .ro, .operator, .num 0, .any, .both, false⟩,
  ⟨0x2600, 1, 0x33, 1, "WALL_NS", .u32, .ro, .operator, .num 0, .any, .both, false⟩,
  ⟨0x2600, 1, 0x34, 1, "FRAME_COUNT", .u64, .ro, .operator, .num 0, .any, .both, false⟩,
  ⟨0x2600, 1, 0x35, 1, "OFFSET", .i32, .ro, .operator, .num 0, .any, .both, false⟩,
  ⟨0x2600, 1, 0x36, 1, "CASCADE_DIST", .u8, .ro, .operator, .num 255, .any, .both, false⟩,
  ⟨0x2600, 1, 0x37, 1, "GM_IDENTITY", .u64, .ro, .operator, .num 0, .any, .both, false⟩,
  ⟨0x2600, 1, 0x38, 1, "HOLDOVER_TIME", .u32, .ro, .operator, .num 0, .any, .both, false⟩,
  ⟨0x2600, 1, 0x40, 1, "DELAY_A", .u32, .ro, .operator, .num 0, .any, .tileHeld, false⟩,
  ⟨0x2600, 1, 0x41, 1, "DELAY_B", .u32, .ro, .operator, .num 0, .any, .tileHeld, false⟩,
  ⟨0x2600, 1, 0x42, 1, "CAL_STATE", .u8, .ro, .operator, .num 0, .any, .tileHeld, false⟩,
  ⟨0x2600, 1, 0x43, 1, "END_DIFF", .i32, .ro, .operator, .num 0, .any, .tileHeld, false⟩,
  ⟨0x2600, 1, 0x44, 1, "T_LAMP", .u32, .ro, .operator, .num 0, .any, .tileHeld, false⟩,
  ⟨0x2600, 1, 0x45, 1, "SAMPLES_A", .u64, .ro, .operator, .num 0, .any, .tileHeld, false⟩,
  ⟨0x2600, 1, 0x46, 1, "SAMPLES_B", .u64, .ro, .operator, .num 0, .any, .tileHeld, false⟩,
  ⟨0x2600, 1, 0x48, 1, "RING_DELAY_PA", .u32, .ro, .operator, .num 0, .any, .senderHeld, false⟩,
  ⟨0x2600, 1, 0x49, 1, "RING_DELAY_PB", .u32, .ro, .operator, .num 0, .any, .senderHeld, false⟩]

/-- The rows of the dictionary tables whose index lies from 0x2700 (R379, R404 to R407). -/
def odRows2700 : List OdRow := [
  ⟨0x2700, 1, 0x01, 1, "CAPACITY", .u32, .const, .operator, .num 83285, .any, .tileHeld, false⟩,
  ⟨0x2700, 1, 0x02, 1, "IN_USE", .u32, .ro, .operator, .num 0, .any, .tileHeld, false⟩,
  ⟨0x2700, 1, 0x03, 1, "TRANSIT", .u32, .rw, .integrator, .num 50000, (.span (1000) 200000), .tileHeld, false⟩,
  ⟨0x2700, 1, 0x04, 1, "EARLY_PEAK", .u16, .ro, .operator, .num 0, .any, .tileHeld, false⟩,
  ⟨0x2700, 1, 0x05, 1, "EARLY_DROP", .u64, .ro, .operator, .num 0, .any, .tileHeld, false⟩,
  ⟨0x2700, 1, 0x06, 1, "SECDED_CORR", .u64, .ro, .operator, .num 0, .any, .tileHeld, false⟩,
  ⟨0x2700, 1, 0x07, 1, "SECDED_UNCORR", .u64, .ro, .operator, .num 0, .any, .tileHeld, false⟩,
  ⟨0x2700, 1, 0x08, 1, "UNCORR_ADDR", .u32, .ro, .service, .num 0, .any, .tileHeld, false⟩,
  ⟨0x2700, 1, 0x09, 4, "SLATE_MODE0 to 3", .u64, .ro, .operator, .num 0, .any, .tileHeld, false⟩,
  ⟨0x2700, 1, 0x0D, 1, "SLATE_INVALID", .u64, .ro, .operator, .num 0, .any, .tileHeld, false⟩,
  ⟨0x2700, 1, 0x0F, 1, "CLEAR", .bool, .wo, .operator, .num 0, (.span (0) 1), .tileHeld, false⟩,
  ⟨0x2700, 1, 0x10, 8, "NEED_L0 to L7", .u32, .ro, .operator, .num 0, .any, .tileHeld, false⟩,
  ⟨0x2700, 1, 0x18, 8, "MISSING_L0 to L7", .u32, .ro, .operator, .num 0, .any, .tileHeld, false⟩]

/-- The rows of the dictionary tables whose index lies from 0x2800 (R379, R404 to R407). -/
def odRows2800 : List OdRow := [
  ⟨0x2800, 8, 0x01, 1, "ENABLE", .bool, .rw, .integrator, .num 0, (.span (0) 1), .tileHeld, true⟩,
  ⟨0x2800, 8, 0x02, 1, "SCALER", .u8, .rw, .integrator, .num 255, (.oneOf [0, 1, 2, 3, 4, 5, 6, 7, 255]), .tileHeld, true⟩,
  ⟨0x2800, 8, 0x03, 1, "HSET", .u8, .rw, .integrator, .num 0, (.span (0) 15), .tileHeld, true⟩,
  ⟨0x2800, 8, 0x04, 1, "VSET", .u8, .rw, .integrator, .num 0, (.span (0) 15), .tileHeld, true⟩,
  ⟨0x2800, 8, 0x05, 1, "ALPHA_MODE", .u8, .rw, .integrator, .num 0, (.span (0) 3), .tileHeld, true⟩,
  ⟨0x2800, 8, 0x06, 1, "MATTE_LAYER", .u8, .rw, .integrator, .num 0, (.span (0) 7), .tileHeld, true⟩,
  ⟨0x2800, 8, 0x07, 1, "LAYER_ALPHA", .u16, .rw, .operator, .num 4095, (.span (0) 4095), .tileHeld, true⟩,
  ⟨0x2800, 8, 0x08, 1, "KEY_RANGE", .u8, .rw, .integrator, .num 0, (.span (0) 1), .tileHeld, true⟩,
  ⟨0x2800, 8, 0x09, 1, "POLICY", .u8, .rw, .integrator, .num 0, (.span (0) 2), .tileHeld, true⟩,
  ⟨0x2800, 8, 0x0A, 1, "REPEAT_MAX", .u8, .rw, .integrator, .num 3, (.span (0) 255), .tileHeld, true⟩,
  ⟨0x2800, 8, 0x0B, 1, "MISSING_TOL", .u32, .rw, .integrator, .num 0, .any, .tileHeld, true⟩,
  ⟨0x2800, 8, 0x0C, 1, "FILL_RGB", .u64, .rw, .integrator, .num 0, (.span (0) 281474976710655), .tileHeld, true⟩,
  ⟨0x2800, 8, 0x0D, 1, "FILL_ALPHA", .u16, .rw, .integrator, .num 0, (.span (0) 4095), .tileHeld, true⟩,
  ⟨0x2800, 8, 0x10, 4, "BIND_S0 to BIND_S3", (.dom (.exact 32)), .rw, .integrator, .zeros 32, .any, .tileHeld, true⟩,
  ⟨0x2800, 8, 0x1E, 1, "RESULT_STATE", .u8, .ro, .operator, .num 0, .any, .tileHeld, false⟩,
  ⟨0x2800, 8, 0x1F, 1, "RESULT_SEQ", .u16, .ro, .operator, .num 0, .any, .tileHeld, false⟩,
  ⟨0x2800, 8, 0x20, 1, "REFUSE_CAUSE", .u8, .ro, .operator, .num 0, .any, .tileHeld, false⟩,
  ⟨0x2800, 8, 0x21, 1, "REFUSE_DETAIL", .u32, .ro, .operator, .num 0, .any, .tileHeld, false⟩,
  ⟨0x2800, 8, 0x22, 1, "W_NEED", .u16, .ro, .operator, .num 0, .any, .tileHeld, false⟩,
  ⟨0x2800, 8, 0x23, 1, "SCALER_IN_USE", .u8, .ro, .operator, .num 255, .any, .tileHeld, false⟩,
  ⟨0x2800, 8, 0x24, 1, "SHOWN", .u8, .ro, .operator, .num 4, .any, .tileHeld, false⟩,
  ⟨0x2800, 8, 0x25, 1, "REPEAT_RUN", .u8, .ro, .operator, .num 0, .any, .tileHeld, false⟩,
  ⟨0x2800, 8, 0x26, 1, "FRAMES_NEW", .u64, .ro, .operator, .num 0, .any, .tileHeld, false⟩,
  ⟨0x2800, 8, 0x27, 1, "FRAMES_REPEATED", .u64, .ro, .operator, .num 0, .any, .tileHeld, false⟩,
  ⟨0x2800, 8, 0x28, 1, "FRAMES_FILLED", .u64, .ro, .operator, .num 0, .any, .tileHeld, false⟩,
  ⟨0x2840, 8, 0x01, 1, "STATE", .u8, .ro, .operator, .num 0, .any, .tileHeld, false⟩,
  ⟨0x2840, 8, 0x02, 1, "LAYER", .u8, .ro, .operator, .num 255, .any, .tileHeld, false⟩,
  ⟨0x2840, 8, 0x03, 1, "RETIRE_CAUSE", .u8, .ro, .operator, .num 0, .any, .tileHeld, false⟩,
  ⟨0x2850, 16, 0x01, 1, "COEFFS", (.dom (.exact 1800)), .rw, .integrator, .empty, .any, .tileHeld, false⟩,
  ⟨0x2850, 16, 0x02, 1, "VALID", .bool, .ro, .operator, .num 0, .any, .tileHeld, false⟩,
  ⟨0x2850, 16, 0x03, 1, "IN_USE", .bool, .ro, .operator, .num 0, .any, .tileHeld, false⟩,
  ⟨0x2850, 16, 0x04, 1, "CRC", .u32, .ro, .operator, .num 0, .any, .tileHeld, false⟩,
  ⟨0x2850, 16, 0x05, 1, "SOURCE", .u8, .ro, .operator, .num 0, .any, .tileHeld, false⟩,
  ⟨0x2880, 1, 0x01, 1, "STAGE_GEN", .u16, .rw, .integrator, .num 0, .any, .tileHeld, false⟩,
  ⟨0x2880, 1, 0x02, 1, "COMMIT_FRAME", .u64, .wo, .integrator, .num 0, .any, .tileHeld, false⟩,
  ⟨0x2880, 1, 0x03, 1, "PENDING_FRAME", .u64, .ro, .operator, .num 0, .any, .tileHeld, false⟩,
  ⟨0x2880, 1, 0x04, 1, "IN_FORCE_GEN", .u16, .ro, .operator, .num 0, .any, .tileHeld, false⟩,
  ⟨0x2880, 1, 0x05, 1, "IN_FORCE_FRAME", .u64, .ro, .operator, .num 0, .any, .tileHeld, false⟩,
  ⟨0x2880, 1, 0x06, 1, "ABORT", .bool, .wo, .integrator, .num 0, (.span (0) 1), .tileHeld, false⟩,
  ⟨0x2880, 1, 0x07, 1, "READ_VIEW", .u8, .rw, .operator, .num 0, (.span (0) 1), .tileHeld, false⟩,
  ⟨0x2880, 1, 0x08, 1, "RESULT_STATE", .u8, .ro, .operator, .num 0, .any, .tileHeld, false⟩,
  ⟨0x2880, 1, 0x09, 1, "RESULT_SEQ", .u16, .ro, .operator, .num 0, .any, .tileHeld, false⟩,
  ⟨0x2880, 1, 0x0A, 1, "REFUSED", .u8, .ro, .operator, .num 0, .any, .tileHeld, false⟩,
  ⟨0x2880, 1, 0x0B, 1, "BACKGROUND", .u64, .rw, .integrator, .num 0, (.span (0) 281474976710655), .tileHeld, true⟩,
  ⟨0x2880, 1, 0x0C, 1, "START_WAIT", .u8, .rw, .integrator, .num 8, (.span (1) 255), .tileHeld, false⟩,
  ⟨0x2880, 1, 0x0D, 1, "PRESENTING", .u8, .ro, .operator, .num 0, .any, .tileHeld, false⟩,
  ⟨0x2880, 1, 0x0E, 1, "WINDOW", .u32, .rw, .integrator, .num 0, .any, .tileHeld, true⟩,
  ⟨0x2880, 1, 0x0F, 1, "LATE_COMMITS", .u32, .ro, .operator, .num 0, .any, .tileHeld, false⟩,
  ⟨0x2880, 1, 0x10, 1, "OVERRUNS", .u32, .ro, .operator, .num 0, .any, .tileHeld, false⟩,
  ⟨0x2880, 1, 0x11, 4, "CYCLES_S0 to CYCLES_S3", .u16, .ro, .operator, .num 0, .any, .tileHeld, false⟩]

/-- The rows of the dictionary tables whose index lies from 0x2900 (R379, R404 to R407). -/
def odRows2900 : List OdRow := [
  ⟨0x2900, 1, 0x01, 1, "BLEND_SPACE", .u8, .rw, .integrator, .num 0, (.span (0) 1), .tileHeld, true⟩,
  ⟨0x2900, 1, 0x02, 1, "TILE_PEAK", .u16, .rw, .integrator, .num 1000, (.span (100) 10000), .tileHeld, false⟩,
  ⟨0x2900, 1, 0x03, 1, "SDR_WHITE", .u16, .rw, .integrator, .num 203, (.span (10) 10000), .tileHeld, false⟩,
  ⟨0x2900, 1, 0x04, 1, "BRIGHTNESS", .u16, .rw, .operator, .num 4096, (.span (0) 4096), .tileHeld, true⟩,
  ⟨0x2900, 1, 0x05, 1, "DITHER_ORIGIN", .u64, .rw, .integrator, .num 0, .any, .tileHeld, true⟩,
  ⟨0x2900, 1, 0x06, 1, "DITHER_ENABLE", .bool, .rw, .service, .num 1, (.span (0) 1), .tileHeld, true⟩,
  ⟨0x2900, 1, 0x07, 1, "DRIFT_ENABLE", .bool, .rw, .integrator, .num 1, (.span (0) 1), .tileHeld, false⟩,
  ⟨0x2900, 1, 0x08, 1, "DERATE_OWN", .u16, .ro, .operator, .num 4096, .any, .tileHeld, false⟩,
  ⟨0x2900, 1, 0x09, 1, "DERATE_WALL", .u16, .ro, .operator, .num 4096, .any, .tileHeld, false⟩,
  ⟨0x2900, 1, 0x0A, 1, "GAIN_IN_FORCE", .u32, .ro, .operator, .num 16777216, .any, .tileHeld, false⟩,
  ⟨0x2900, 1, 0x0B, 1, "MAX_SLOTS", .u8, .ro, .operator, .num 4, .any, .tileHeld, false⟩,
  ⟨0x2900, 1, 0x0C, 1, "DERATE_STEP_DOWN", .u16, .rw, .integrator, .num 64, (.span (1) 4096), .tileHeld, false⟩,
  ⟨0x2900, 1, 0x0D, 1, "DERATE_STEP_UP", .u16, .rw, .integrator, .num 8, (.span (1) 4096), .tileHeld, false⟩,
  ⟨0x2910, 8, 0x01, 1, "RANGE", .u8, .rw, .integrator, .num 0, (.span (0) 1), .tileHeld, true⟩,
  ⟨0x2910, 8, 0x02, 1, "TF_SELECT", .u8, .rw, .integrator, .num 255, (.oneOf [0, 1, 2, 3, 4, 5, 6, 7, 255]), .tileHeld, true⟩,
  ⟨0x2910, 8, 0x03, 1, "GAMUT_MODE", .u8, .rw, .integrator, .num 0, (.span (0) 1), .tileHeld, true⟩,
  ⟨0x2910, 8, 0x04, 1, "GAMUT_CUSTOM", (.dom (.exact 18)), .rw, .integrator, .gamutIdentity, .any, .tileHeld, true⟩,
  ⟨0x2920, 8, 0x01, 1, "TF_TABLE", (.dom (.exact 16396)), .rw, .integrator, .empty, .any, .tileHeld, false⟩,
  ⟨0x2920, 8, 0x02, 1, "VALID", .bool, .ro, .operator, .num 0, .any, .tileHeld, false⟩,
  ⟨0x2920, 8, 0x03, 1, "IN_USE", .bool, .ro, .operator, .num 0, .any, .tileHeld, false⟩,
  ⟨0x2920, 8, 0x04, 1, "SOURCE", .u8, .ro, .operator, .num 0, .any, .tileHeld, false⟩,
  ⟨0x2930, 1, 0x01, 1, "CORR_SELECT", .u8, .rw, .integrator, .num 0, (.span (0) 2), .tileHeld, true⟩,
  ⟨0x2930, 1, 0x02, 1, "ACTIVE", .u8, .ro, .operator, .num 2, .any, .tileHeld, false⟩,
  ⟨0x2930, 1, 0x03, 1, "VERIFY", .u8, .wo, .integrator, .num 0, (.span (0) 1), .tileHeld, false⟩,
  ⟨0x2930, 1, 0x04, 1, "RESULT_STATE", .u8, .ro, .operator, .num 0, .any, .tileHeld, false⟩,
  ⟨0x2930, 1, 0x05, 1, "RESULT_SEQ", .u16, .ro, .operator, .num 0, .any, .tileHeld, false⟩,
  ⟨0x2930, 1, 0x06, 1, "RESULT_IMAGE", .u8, .ro, .operator, .num 0, .any, .tileHeld, false⟩,
  ⟨0x2930, 1, 0x07, 1, "RESULT_CAUSE", .u8, .ro, .operator, .num 0, .any, .tileHeld, false⟩,
  ⟨0x2930, 1, 0x08, 1, "WATERMARK", .u16, .ro, .operator, .num 0, .any, .tileHeld, false⟩,
  ⟨0x2930, 1, 0x09, 1, "IMAGE_CRC", .u32, .ro, .operator, .num 0, .any, .tileHeld, false⟩,
  ⟨0x2930, 1, 0x0A, 1, "SECDED_CORR", .u64, .ro, .operator, .num 0, .any, .tileHeld, false⟩,
  ⟨0x2930, 1, 0x0B, 1, "SECDED_UNCORR", .u64, .ro, .operator, .num 0, .any, .tileHeld, false⟩,
  ⟨0x2940, 1, 0x01, 1, "LAMP_MAP", (.dom (.exact 512)), .rw, .integrator, .zeros 512, .any, .tileHeld, true⟩,
  ⟨0x2940, 1, 0x02, 1, "P", .u8, .rw, .integrator, .num 3, (.span (3) 4), .tileHeld, true⟩,
  ⟨0x2940, 1, 0x03, 1, "LAMPS", .u32, .ro, .operator, .num 0, .any, .tileHeld, false⟩,
  ⟨0x2950, 1, 0x01, 1, "T_EST", (.dom (.exact 128)), .ro, .operator, .empty, .any, .tileHeld, false⟩,
  ⟨0x2950, 1, 0x02, 1, "DRIFT_GAIN", (.dom (.exact 512)), .ro, .operator, .empty, .any, .tileHeld, false⟩,
  ⟨0x2950, 1, 0x03, 1, "SENSOR_SUBST", .u64, .ro, .operator, .num 0, .any, .tileHeld, false⟩,
  ⟨0x2960, 1, 0x01, 1, "CEILINGS", (.dom (.exact 256)), .ro, .service, .empty, .any, .tileHeld, false⟩,
  ⟨0x2960, 1, 0x02, 1, "GREY_CLAMPED", .u64, .ro, .operator, .num 0, .any, .tileHeld, false⟩,
  ⟨0x2960, 1, 0x03, 1, "BANKS_SCALED", .u64, .ro, .operator, .num 0, .any, .tileHeld, false⟩,
  ⟨0x2960, 1, 0x04, 1, "STAGING_UNCORR", .u64, .ro, .operator, .num 0, .any, .tileHeld, false⟩]

/-- The rows of the dictionary tables whose index lies from 0x2A00 (R379, R404 to R407). -/
def odRows2A00 : List OdRow := [
  ⟨0x2A00, 64, 0x01, 1, "ENABLE", .bool, .rw, .integrator, .num 0, (.span (0) 1), .tileHeld, true⟩,
  ⟨0x2A00, 64, 0x02, 1, "MODE", .u8, .rw, .integrator, .num 0, (.span (0) 1), .tileHeld, false⟩,
  ⟨0x2A00, 64, 0x03, 1, "RATE", .u8, .rw, .integrator, .num 1, (.span (0) 2), .tileHeld, true⟩,
  ⟨0x2A00, 64, 0x04, 1, "GREY", .u8, .rw, .integrator, .num 16, (.span (12) 16), .tileHeld, true⟩,
  ⟨0x2A00, 64, 0x05, 1, "SCAN_USED", .u8, .rw, .integrator, .num 1, (.span (1) 32), .tileHeld, true⟩,
  ⟨0x2A00, 64, 0x06, 1, "PROFILE", .u8, .rw, .integrator, .num 0, .any, .tileHeld, false⟩,
  ⟨0x2A00, 64, 0x07, 1, "EXPECT_DEVICES", .u8, .rw, .integrator, .num 0, (.span (0) 62), .tileHeld, false⟩,
  ⟨0x2A00, 64, 0x08, 1, "SENSOR_ADDR", .u8, .rw, .integrator, .num 0, (.span (0) 62), .tileHeld, false⟩,
  ⟨0x2A00, 64, 0x09, 1, "ENUM_START", .bool, .wo, .integrator, .num 0, (.span (0) 1), .tileHeld, false⟩,
  ⟨0x2A00, 64, 0x0A, 1, "STATE", .u8, .ro, .operator, .num 0, .any, .tileHeld, false⟩,
  ⟨0x2A00, 64, 0x0B, 1, "RESULT_STATE", .u8, .ro, .operator, .num 0, .any, .tileHeld, false⟩,
  ⟨0x2A00, 64, 0x0C, 1, "RESULT_SEQ", .u16, .ro, .operator, .num 0, .any, .tileHeld, false⟩,
  ⟨0x2A00, 64, 0x0D, 1, "DEVICES", .u8, .ro, .operator, .num 0, .any, .tileHeld, false⟩,
  ⟨0x2A00, 64, 0x0E, 1, "ROLL", (.dom (.upTo 8 496)), .ro, .operator, .empty, .any, .tileHeld, false⟩,
  ⟨0x2A00, 64, 0x0F, 1, "RATE_IN_FORCE", .u8, .ro, .operator, .num 255, .any, .tileHeld, false⟩,
  ⟨0x2A00, 64, 0x10, 1, "LOOP_DELAY", .u32, .ro, .operator, .num 0, .any, .tileHeld, false⟩,
  ⟨0x2A00, 64, 0x11, 1, "ARM_TIME", .u32, .ro, .operator, .num 0, .any, .tileHeld, false⟩,
  ⟨0x2A00, 64, 0x12, 1, "HOP_TRIM", (.dom (.upTo 2 126)), .rw, .integrator, .empty, .any, .tileHeld, false⟩,
  ⟨0x2A00, 64, 0x13, 1, "T_XFER", .u32, .ro, .operator, .num 0, .any, .tileHeld, false⟩,
  ⟨0x2A00, 64, 0x14, 1, "T_XFER_STAGED", .u32, .ro, .operator, .num 0, .any, .tileHeld, false⟩,
  ⟨0x2A00, 64, 0x15, 1, "SKEW_STATE", .u8, .ro, .operator, .num 0, .any, .tileHeld, false⟩,
  ⟨0x2A00, 64, 0x16, 1, "REFUSE_CAUSE", .u8, .ro, .operator, .num 0, .any, .tileHeld, false⟩,
  ⟨0x2A00, 64, 0x18, 1, "CLEAR", .bool, .wo, .operator, .num 0, (.span (0) 1), .tileHeld, false⟩,
  ⟨0x2A00, 64, 0x20, 1, "FRAMES_SENT", .u64, .ro, .operator, .num 0, .any, .tileHeld, false⟩,
  ⟨0x2A00, 64, 0x21, 1, "LR_BAD", .u64, .ro, .operator, .num 0, .any, .tileHeld, false⟩,
  ⟨0x2A00, 64, 0x22, 1, "LR_POISON", .u64, .ro, .operator, .num 0, .any, .tileHeld, false⟩,
  ⟨0x2A00, 64, 0x23, 1, "LR_MISSING", .u64, .ro, .operator, .num 0, .any, .tileHeld, false⟩,
  ⟨0x2A00, 64, 0x24, 1, "STATUS_ABSENT", .u64, .ro, .operator, .num 0, .any, .tileHeld, false⟩,
  ⟨0x2A00, 64, 0x25, 1, "LATCH_MISSES", .u64, .ro, .operator, .num 0, .any, .tileHeld, false⟩,
  ⟨0x2A00, 64, 0x30, 1, "TG_IN_FORCE", .u16, .ro, .operator, .num 0, .any, .tileHeld, false⟩,
  ⟨0x2A00, 64, 0x31, 1, "T_SLICE_IN_FORCE", .u16, .ro, .operator, .num 0, .any, .tileHeld, false⟩,
  ⟨0x2A00, 64, 0x32, 1, "PERIODS_IN_FORCE", .u8, .ro, .operator, .num 0, .any, .tileHeld, false⟩,
  ⟨0x2A00, 64, 0x33, 1, "REFRESH_NORMAL", .u32, .ro, .operator, .num 0, .any, .tileHeld, false⟩,
  ⟨0x2A00, 64, 0x34, 1, "REFRESH_SPREAD", .u32, .ro, .operator, .num 0, .any, .tileHeld, false⟩,
  ⟨0x2A00, 64, 0x35, 1, "SPREAD_DENIED", .u64, .ro, .operator, .num 0, .any, .tileHeld, false⟩,
  ⟨0x2A00, 64, 0x36, 1, "SCHED_SUPPRESSED", .u64, .ro, .operator, .num 0, .any, .tileHeld, false⟩,
  ⟨0x2A00, 64, 0x37, 1, "DRIVER_TEMP_MAX", .i16, .ro, .operator, .num (-128), .any, .tileHeld, false⟩,
  ⟨0x2A00, 64, 0x38, 1, "PROBES_SENT", .u64, .ro, .operator, .num 0, .any, .tileHeld, false⟩,
  ⟨0x2A80, 1, 0x01, 1, "PERIODS", .u8, .rw, .integrator, .num 16, (.span (1) 64), .tileHeld, true⟩,
  ⟨0x2A80, 1, 0x02, 1, "SUBCYCLES", .u8, .rw, .integrator, .num 8, (.oneOf [1, 2, 4, 8, 16, 32]), .tileHeld, true⟩,
  ⟨0x2A80, 1, 0x03, 1, "LINE_GAP", .u8, .rw, .integrator, .num 32, (.span (0) 255), .tileHeld, true⟩,
  ⟨0x2A80, 1, 0x04, 1, "SPREAD_SEGS", .u8, .rw, .integrator, .num 8, (.oneOf [1, 2, 4, 8, 16, 32]), .tileHeld, true⟩,
  ⟨0x2A80, 1, 0x05, 1, "SPREAD_ENABLE", .bool, .rw, .integrator, .num 1, (.span (0) 1), .tileHeld, true⟩,
  ⟨0x2A80, 1, 0x06, 1, "BALANCE", .u8, .rw, .integrator, .num 1, (.span (0) 1), .tileHeld, true⟩,
  ⟨0x2A80, 1, 0x07, 1, "FRUSTUM", (.dom (.exact 64)), .rw, .integrator, .zeros 64, .any, .tileHeld, false⟩,
  ⟨0x2A80, 1, 0x08, 1, "FRUSTUM_FRAME", .u64, .ro, .operator, .num 0, .any, .tileHeld, false⟩,
  ⟨0x2A80, 1, 0x09, 1, "FRUSTUM_LATE", .u32, .ro, .operator, .num 0, .any, .tileHeld, false⟩,
  ⟨0x2A80, 1, 0x0A, 1, "CEIL_REFRESH", (.dom (.exact 128)), .ro, .service, .empty, .any, .tileHeld, false⟩]

/-- The rows of the dictionary tables whose index lies from 0x2B00 (R379, R404 to R407). -/
def odRows2B00 : List OdRow := [
  ⟨0x2B00, 1, 0x01, 1, "PROBE_ENABLE", .bool, .rw, .integrator, .num 1, (.span (0) 1), .tileHeld, false⟩,
  ⟨0x2B00, 1, 0x02, 1, "PROBE_AGE", .u16, .rw, .integrator, .num 1024, (.multiple 128 1920 128), .tileHeld, false⟩,
  ⟨0x2B00, 1, 0x03, 1, "PROBE_MAX", .u8, .rw, .integrator, .num 16, (.span (0) 48), .tileHeld, false⟩,
  ⟨0x2B00, 1, 0x04, 1, "VERDICT_PORT", .u8, .rw, .operator, .num 0, (.span (0) 63), .tileHeld, false⟩,
  ⟨0x2B00, 1, 0x05, 1, "VERDICTS", (.dom (.upTo 1 1048576)), .ro, .operator, .empty, .any, .tileHeld, false⟩,
  ⟨0x2B00, 1, 0x06, 1, "COUNT_UNKNOWN", .u32, .ro, .operator, .num 0, .any, .tileHeld, false⟩,
  ⟨0x2B00, 1, 0x07, 1, "COUNT_OK", .u32, .ro, .operator, .num 0, .any, .tileHeld, false⟩,
  ⟨0x2B00, 1, 0x08, 1, "COUNT_OPEN", .u32, .ro, .operator, .num 0, .any, .tileHeld, false⟩,
  ⟨0x2B00, 1, 0x09, 1, "COUNT_SHORT", .u32, .ro, .operator, .num 0, .any, .tileHeld, false⟩,
  ⟨0x2B00, 1, 0x0A, 1, "COUNT_AGED", .u32, .ro, .operator, .num 0, .any, .tileHeld, false⟩,
  ⟨0x2B00, 1, 0x0B, 1, "PROBES_DEFERRED", .u64, .ro, .operator, .num 0, .any, .tileHeld, false⟩,
  ⟨0x2B00, 1, 0x10, 1, "SWEEP_START", .u8, .wo, .service, .num 0, (.spanOr 0 63 255), .tileHeld, false⟩,
  ⟨0x2B00, 1, 0x11, 1, "RESULT_STATE", .u8, .ro, .operator, .num 0, .any, .tileHeld, false⟩,
  ⟨0x2B00, 1, 0x12, 1, "RESULT_SEQ", .u16, .ro, .operator, .num 0, .any, .tileHeld, false⟩,
  ⟨0x2B00, 1, 0x13, 1, "SWEEP_OK", .u32, .ro, .operator, .num 0, .any, .tileHeld, false⟩,
  ⟨0x2B00, 1, 0x14, 1, "SWEEP_OPEN", .u32, .ro, .operator, .num 0, .any, .tileHeld, false⟩,
  ⟨0x2B00, 1, 0x15, 1, "SWEEP_SHORT", .u32, .ro, .operator, .num 0, .any, .tileHeld, false⟩,
  ⟨0x2B00, 1, 0x16, 1, "SWEEP_UNTESTED", .u32, .ro, .operator, .num 0, .any, .tileHeld, false⟩,
  ⟨0x2B00, 1, 0x17, 1, "CLEAR", .bool, .wo, .operator, .num 0, (.span (0) 1), .tileHeld, false⟩]

/-- The rows of the dictionary tables whose index lies from 0x2C00 (R379, R404 to R407). -/
def odRows2C00 : List OdRow := [
  ⟨0x2C00, 1, 0x01, 1, "VERSION", .u32, .ro, .operator, .num 0, .any, .tileHeld, false⟩,
  ⟨0x2C00, 1, 0x02, 1, "PROFILES", .u8, .ro, .operator, .num 0, .any, .tileHeld, false⟩,
  ⟨0x2C00, 1, 0x03, 1, "DESCRIPTORS", (.dom (.upTo 64 1024)), .ro, .operator, .empty, .any, .tileHeld, false⟩,
  ⟨0x2C00, 1, 0x04, 1, "IMAGE_CRC", .u32, .ro, .operator, .num 0, .any, .tileHeld, false⟩,
  ⟨0x2C10, 64, 0x01, 1, "STATE", .u8, .ro, .operator, .num 0, .any, .tileHeld, false⟩,
  ⟨0x2C10, 64, 0x02, 1, "FAULT_CAUSE", .u8, .ro, .operator, .num 0, .any, .tileHeld, false⟩,
  ⟨0x2C10, 64, 0x03, 1, "FAULT_PC", .u16, .ro, .service, .num 0, .any, .tileHeld, false⟩,
  ⟨0x2C10, 64, 0x04, 1, "FAULTS", .u32, .ro, .operator, .num 0, .any, .tileHeld, false⟩,
  ⟨0x2C10, 64, 0x05, 1, "BUDGET_PEAK", .u16, .ro, .operator, .num 0, .any, .tileHeld, false⟩,
  ⟨0x2C10, 64, 0x06, 1, "BUDGET_HITS", .u64, .ro, .operator, .num 0, .any, .tileHeld, false⟩,
  ⟨0x2C10, 64, 0x07, 1, "LATE_REFS", .u64, .ro, .operator, .num 0, .any, .tileHeld, false⟩,
  ⟨0x2C10, 64, 0x08, 1, "UNDERRUNS", .u64, .ro, .operator, .num 0, .any, .tileHeld, false⟩,
  ⟨0x2C10, 64, 0x09, 1, "BUSY_PEAK", .u32, .ro, .operator, .num 0, .any, .tileHeld, false⟩,
  ⟨0x2C10, 64, 0x0F, 1, "CLEAR", .bool, .wo, .operator, .num 0, (.span (0) 1), .tileHeld, false⟩,
  ⟨0x2C10, 64, 0x10, 1, "WALK", (.dom (.exact 632)), .rw, .integrator, .empty, .any, .tileHeld, true⟩]

/-- The rows of the dictionary tables whose index lies from 0x2D00 (R379, R404 to R407). -/
def odRows2D00 : List OdRow := [
  ⟨0x2D00, 1, 0x01, 1, "DVFS_MODE", .u8, .rw, .integrator, .num 0, (.span (0) 1), .both, false⟩,
  ⟨0x2D00, 1, 0x02, 1, "LEVEL_FIXED", .u8, .rw, .integrator, .num 2, (.span (0) 3), .both, false⟩,
  ⟨0x2D00, 1, 0x03, 1, "LEVEL", .u8, .ro, .operator, .num 2, .any, .both, false⟩,
  ⟨0x2D00, 1, 0x04, 1, "FLOOR", .u8, .ro, .operator, .num 0, .any, .both, false⟩,
  ⟨0x2D00, 1, 0x05, 1, "VDD_TARGET", .u16, .ro, .operator, .num 800, .any, .both, false⟩,
  ⟨0x2D00, 1, 0x06, 1, "VDD_MEASURED", .u16, .ro, .operator, .num 0, .any, .both, false⟩,
  ⟨0x2D00, 1, 0x07, 1, "VTRIM", .u32, .ro, .service, .num 0, .any, .both, false⟩,
  ⟨0x2D00, 1, 0x08, 1, "LEVEL_CHANGES", .u32, .ro, .operator, .num 0, .any, .both, false⟩,
  ⟨0x2D00, 1, 0x09, 1, "AVS_ERRORS", .u32, .ro, .operator, .num 0, .any, .both, false⟩,
  ⟨0x2D00, 1, 0x0A, 1, "AVS_RAIL", .u8, .rw, .integrator, .num 0, (.span (0) 15), .both, false⟩,
  ⟨0x2D00, 1, 0x0B, 1, "AVS_CLOCK", .u8, .rw, .integrator, .num 20, (.span (1) 50), .both, false⟩,
  ⟨0x2D00, 1, 0x0C, 1, "CORE_CURRENT", .u32, .ro, .operator, .num 0, .any, .both, false⟩,
  ⟨0x2D00, 1, 0x10, 1, "PLL_LOCKED", .u8, .ro, .operator, .num 0, .any, .both, false⟩,
  ⟨0x2D00, 1, 0x11, 1, "PLL_LOCK_LOSSES", .u32, .ro, .operator, .num 0, .any, .both, false⟩,
  ⟨0x2D00, 1, 0x12, 1, "DOMAIN_STATE", (.dom (.exact 60)), .ro, .operator, .empty, .any, .both, false⟩,
  ⟨0x2D00, 1, 0x13, 1, "FORCED_SWITCHES", .u32, .ro, .operator, .num 0, .any, .both, false⟩,
  ⟨0x2D00, 1, 0x14, 1, "ABORTED", .u32, .ro, .operator, .num 0, .any, .both, false⟩,
  ⟨0x2D00, 1, 0x15, 1, "CLEAR", .bool, .wo, .operator, .num 0, (.span (0) 1), .both, false⟩,
  ⟨0x2D00, 1, 0x18, 1, "RESET_CAUSE", .u8, .ro, .operator, .num 0, .any, .both, false⟩,
  ⟨0x2D00, 1, 0x19, 1, "COLD_STARTS", .u32, .ro, .operator, .num 0, .any, .both, false⟩,
  ⟨0x2D00, 1, 0x1A, 1, "WARM_STARTS", .u32, .ro, .operator, .num 0, .any, .both, false⟩,
  ⟨0x2D00, 1, 0x1B, 1, "START_MS", .u32, .ro, .operator, .num 0, .any, .both, false⟩,
  ⟨0x2D00, 1, 0x20, 1, "FREQ_DOMAIN", .u8, .rw, .service, .num 0, (.span (0) 59), .both, false⟩,
  ⟨0x2D00, 1, 0x21, 1, "FREQ_START", .bool, .wo, .service, .num 0, (.span (0) 1), .both, false⟩,
  ⟨0x2D00, 1, 0x22, 1, "RESULT_STATE", .u8, .ro, .operator, .num 0, .any, .both, false⟩,
  ⟨0x2D00, 1, 0x23, 1, "RESULT_SEQ", .u16, .ro, .operator, .num 0, .any, .both, false⟩,
  ⟨0x2D00, 1, 0x24, 1, "FREQ_KHZ", .u32, .ro, .operator, .num 0, .any, .both, false⟩]

/-- The rows of the dictionary tables whose index lies from 0x2E00 (R379, R404 to R407). -/
def odRows2E00 : List OdRow := [
  ⟨0x2E00, 1, 0x01, 1, "READINGS", (.dom (.exact 192)), .ro, .operator, .empty, .any, .both, false⟩,
  ⟨0x2E00, 1, 0x02, 1, "VALID", (.dom (.exact 12)), .ro, .operator, .empty, .any, .both, false⟩,
  ⟨0x2E00, 1, 0x03, 1, "ROUND", .u32, .ro, .operator, .num 0, .any, .both, false⟩,
  ⟨0x2E00, 1, 0x04, 1, "T_DIE", .i16, .ro, .operator, .num 0, .any, .both, false⟩,
  ⟨0x2E00, 1, 0x05, 1, "T_BOARD", .i16, .ro, .operator, .num 0, .any, .both, false⟩,
  ⟨0x2E00, 1, 0x06, 1, "F_DIE, F_BOARD", .u32, .ro, .operator, .num 268439552, .any, .both, false⟩,
  ⟨0x2E00, 1, 0x07, 1, "TARGET", .u16, .ro, .operator, .num 4096, .any, .both, false⟩,
  ⟨0x2E00, 1, 0x08, 1, "STATE", .u8, .ro, .operator, .num 0, .any, .both, false⟩,
  ⟨0x2E00, 1, 0x09, 1, "BOARD_START", .i16, .rw, .integrator, .num 70, (.span (20) 120), .both, false⟩,
  ⟨0x2E00, 1, 0x0A, 1, "BOARD_SLOPE", .u16, .rw, .integrator, .num 25, (.span (1) 200), .both, false⟩,
  ⟨0x2E00, 1, 0x0B, 1, "BOARD_FLOOR", .u16, .rw, .integrator, .num 819, (.span (0) 4096), .both, false⟩,
  ⟨0x2E00, 1, 0x0C, 1, "TRIPS", .u32, .ro, .operator, .num 0, .any, .both, false⟩,
  ⟨0x2E00, 1, 0x0D, 1, "TRIPS_HOUR", .u8, .ro, .operator, .num 0, .any, .both, false⟩,
  ⟨0x2E00, 1, 0x0E, 1, "LATCHED", .bool, .ro, .operator, .num 0, .any, .both, false⟩,
  ⟨0x2E00, 1, 0x0F, 1, "WINDOW_OPEN", .bool, .ro, .operator, .num 0, .any, .both, false⟩,
  ⟨0x2E00, 1, 0x10, 1, "HOLDUP_MIN", .u16, .rw, .integrator, .num 0, .any, .both, false⟩,
  ⟨0x2E00, 1, 0x11, 1, "HOLDUP_SCALE", .u16, .rw, .integrator, .num 1000, .any, .both, false⟩,
  ⟨0x2E00, 1, 0x12, 1, "HOLDUP_OK", .bool, .ro, .operator, .num 1, .any, .both, false⟩,
  ⟨0x2E00, 1, 0x13, 1, "INVALIDATIONS", .u32, .ro, .operator, .num 0, .any, .both, false⟩,
  ⟨0x2E00, 1, 0x30, 1, "WALL_DERATE_EN", .bool, .rw, .integrator, .num 0, (.span (0) 1), .senderOnly, false⟩,
  ⟨0x2E00, 1, 0x31, 1, "WALL_DERATE_FLOOR", .u16, .rw, .integrator, .num 2048, (.span (0) 4096), .senderOnly, false⟩,
  ⟨0x2E00, 1, 0x32, 1, "WALL_STEP_DOWN", .u16, .rw, .integrator, .num 64, (.span (1) 4096), .senderOnly, false⟩,
  ⟨0x2E00, 1, 0x33, 1, "WALL_STEP_UP", .u16, .rw, .integrator, .num 8, (.span (1) 4096), .senderOnly, false⟩,
  ⟨0x2E00, 1, 0x34, 1, "WALL_DERATE_OUT", .u16, .ro, .operator, .num 4096, .any, .senderOnly, false⟩]

/-- The rows of the dictionary tables whose index lies from 0x2F00 (R379, R404 to R407). -/
def odRows2F00 : List OdRow := [
  ⟨0x2F00, 1, 0x01, 1, "START", .u8, .wo, .service, .num 0, (.span (1) 3), .both, false⟩,
  ⟨0x2F00, 1, 0x02, 1, "PORT_MASK", .u64, .rw, .service, .num 18446744073709551615, .any, .both, false⟩,
  ⟨0x2F00, 1, 0x03, 1, "REF_TEMP", .i16, .rw, .service, .num 400, .any, .both, false⟩,
  ⟨0x2F00, 1, 0x04, 1, "RESULT_STATE", .u8, .ro, .operator, .num 0, .any, .both, false⟩,
  ⟨0x2F00, 1, 0x05, 1, "RESULT_SEQ", .u16, .ro, .operator, .num 0, .any, .both, false⟩,
  ⟨0x2F00, 1, 0x06, 1, "RESULT_KIND", .u8, .ro, .operator, .num 0, .any, .both, false⟩,
  ⟨0x2F00, 1, 0x07, 1, "RESULT_CAUSE", .u8, .ro, .operator, .num 0, .any, .both, false⟩,
  ⟨0x2F00, 1, 0x08, 1, "DISAGREE_MASK", .u64, .ro, .operator, .num 0, .any, .both, false⟩,
  ⟨0x2F00, 1, 0x10, 1, "COUNT_SKEW", .u32, .ro, .operator, .num 0, .any, .both, false⟩,
  ⟨0x2F00, 1, 0x11, 1, "COUNT_HOP", .u32, .ro, .operator, .num 0, .any, .both, false⟩,
  ⟨0x2F00, 1, 0x12, 1, "COUNT_TRIM", .u32, .ro, .operator, .num 0, .any, .both, false⟩,
  ⟨0x2F00, 1, 0x13, 1, "LAST_SKEW", .u64, .ro, .operator, .num 0, .any, .both, false⟩,
  ⟨0x2F00, 1, 0x14, 1, "LAST_HOP", .u64, .ro, .operator, .num 0, .any, .both, false⟩,
  ⟨0x2F00, 1, 0x15, 1, "LAST_TRIM", .u64, .ro, .operator, .num 0, .any, .both, false⟩,
  ⟨0x2F00, 1, 0x16, 1, "DISAGREE_SKEW", .u32, .ro, .operator, .num 0, .any, .both, false⟩,
  ⟨0x2F00, 1, 0x17, 1, "DISAGREE_HOP", .u32, .ro, .operator, .num 0, .any, .both, false⟩,
  ⟨0x2F00, 1, 0x18, 1, "DISAGREE_TRIM", .u32, .ro, .operator, .num 0, .any, .both, false⟩,
  ⟨0x2F00, 1, 0x19, 1, "PENDING_STORE", .u8, .ro, .operator, .num 0, .any, .both, false⟩,
  ⟨0x2F00, 1, 0x1A, 1, "TRIMS", (.dom (.exact 16)), .ro, .service, .empty, .any, .both, false⟩,
  ⟨0x2F00, 1, 0x1B, 1, "CAL_GEN", .u32, .ro, .operator, .num 0, .any, .both, false⟩]

/-- The rows of the dictionary tables whose index lies from 0x3000 (R379, R404 to R407). -/
def odRows3000 : List OdRow := [
  ⟨0x3000, 1, 0x01, 1, "FLASH_SIZE", .u16, .ro, .operator, .num 0, .any, .both, false⟩,
  ⟨0x3000, 1, 0x02, 1, "FLASH_ID", .u32, .ro, .service, .num 0, .any, .both, false⟩,
  ⟨0x3000, 1, 0x03, 1, "SETTINGS_GEN", .u32, .ro, .operator, .num 0, .any, .both, false⟩,
  ⟨0x3000, 1, 0x04, 1, "SETTINGS_SCHEMA", .u16, .ro, .operator, .num 0, .any, .both, false⟩,
  ⟨0x3000, 1, 0x05, 1, "FACTORY_RESET", .u32, .wo, .service, .num 0, (.oneOf [1952670054]), .both, false⟩,
  ⟨0x3000, 1, 0x06, 1, "START_IMAGE_STATE", .u8, .ro, .operator, .num 0, .any, .both, false⟩,
  ⟨0x3000, 1, 0x10, 1, "BB_NEXT_SEQ", .u32, .ro, .operator, .num 0, .any, .both, false⟩,
  ⟨0x3000, 1, 0x11, 1, "BB_OLDEST_SEQ", .u32, .ro, .operator, .num 0, .any, .both, false⟩,
  ⟨0x3000, 1, 0x12, 1, "BB_PINNED_USED", .u16, .ro, .operator, .num 0, .any, .both, false⟩,
  ⟨0x3000, 1, 0x13, 1, "BB_PENDING", .u8, .ro, .operator, .num 0, .any, .both, false⟩,
  ⟨0x3000, 1, 0x14, 1, "BB_READ_SEQ", .u32, .rw, .operator, .num 0, .any, .both, false⟩,
  ⟨0x3000, 1, 0x15, 1, "BB_READ_COUNT", .u8, .rw, .operator, .num 16, (.span (1) 64), .both, false⟩,
  ⟨0x3000, 1, 0x16, 1, "BB_RECORDS", (.dom (.upTo 256 16384)), .ro, .operator, .empty, .any, .both, false⟩,
  ⟨0x3000, 1, 0x17, 1, "BB_SEVERE_ONLY", .bool, .rw, .operator, .num 0, (.span (0) 1), .both, false⟩,
  ⟨0x3000, 1, 0x18, 1, "BB_SUPPRESSED", .u64, .ro, .operator, .num 0, .any, .both, false⟩,
  ⟨0x3000, 1, 0x19, 1, "BB_LOST", .u64, .ro, .operator, .num 0, .any, .both, false⟩,
  ⟨0x3000, 1, 0x1A, 1, "BB_TORN", .u32, .ro, .operator, .num 0, .any, .both, false⟩,
  ⟨0x3000, 1, 0x1B, 1, "BB_RESET_PINNED", .u32, .wo, .vendor, .num 0, (.oneOf [1936746862]), .both, false⟩]

/-- The rows of the dictionary tables whose index lies from 0x3100 (R379, R404 to R407). -/
def odRows3100 : List OdRow := [
  ⟨0x3100, 1, 0x01, 1, "STATE", .u8, .ro, .operator, .num 0, .any, .both, false⟩,
  ⟨0x3100, 1, 0x02, 1, "SESSION", .u16, .ro, .operator, .num 0, .any, .both, false⟩,
  ⟨0x3100, 1, 0x03, 1, "SOURCE", .u8, .ro, .operator, .num 0, .any, .both, false⟩,
  ⟨0x3100, 1, 0x04, 1, "TARGET", .u8, .ro, .operator, .num 0, .any, .both, false⟩,
  ⟨0x3100, 1, 0x05, 1, "DIGEST", (.dom (.exact 32)), .ro, .operator, .empty, .any, .both, false⟩,
  ⟨0x3100, 1, 0x06, 1, "BLOCKS_TOTAL", .u16, .ro, .operator, .num 0, .any, .both, false⟩,
  ⟨0x3100, 1, 0x07, 1, "BLOCKS_DONE", .u16, .ro, .operator, .num 0, .any, .both, false⟩,
  ⟨0x3100, 1, 0x08, 1, "REFUSAL", .u8, .ro, .operator, .num 0, .any, .both, false⟩,
  ⟨0x3100, 1, 0x09, 1, "RESULT_STATE", .u8, .ro, .operator, .num 0, .any, .both, false⟩,
  ⟨0x3100, 1, 0x0A, 1, "RESULT_SEQ", .u16, .ro, .operator, .num 0, .any, .both, false⟩,
  ⟨0x3100, 1, 0x0B, 1, "FAIL_PART", .u8, .ro, .operator, .num 255, .any, .both, false⟩,
  ⟨0x3100, 1, 0x0C, 1, "BLOCK_CRC_FAILS", .u32, .ro, .operator, .num 0, .any, .both, false⟩,
  ⟨0x3100, 1, 0x10, 1, "SLOT_IN_FORCE", .u8, .ro, .operator, .num 0, .any, .both, false⟩,
  ⟨0x3100, 1, 0x11, 1, "BOOT_STATE", .u8, .ro, .operator, .num 0, .any, .both, false⟩,
  ⟨0x3100, 1, 0x12, 1, "TRIAL_BOOTS", .u8, .rw, .service, .num 1, (.span (1) 3), .both, false⟩,
  ⟨0x3100, 1, 0x13, 1, "TRIES_LEFT", .u8, .ro, .operator, .num 0, .any, .both, false⟩,
  ⟨0x3100, 1, 0x14, 1, "CONFIRM", .bool, .wo, .service, .num 0, (.span (0) 1), .both, false⟩,
  ⟨0x3100, 1, 0x15, 1, "AUTO_CONFIRM", .bool, .rw, .service, .num 1, (.span (0) 1), .both, false⟩,
  ⟨0x3100, 1, 0x16, 1, "CONFIRM_LEFT", .u16, .ro, .operator, .num 0, .any, .both, false⟩,
  ⟨0x3100, 1, 0x17, 1, "SHOW_LOCK", .bool, .rw, .operator, .num 0, (.span (0) 1), .both, false⟩,
  ⟨0x3100, 1, 0x18, 1, "IMAGE_VERSION", .u32, .ro, .operator, .num 0, .any, .both, false⟩,
  ⟨0x3100, 1, 0x19, 1, "FALLBACK_VERSION", .u32, .ro, .operator, .num 0, .any, .both, false⟩,
  ⟨0x3100, 1, 0x1A, 1, "SVC_IP", .u32, .rw, .integrator, .num 0, .any, .both, false⟩,
  ⟨0x3100, 1, 0x1B, 1, "ROLLBACK_NOW", .bool, .wo, .service, .num 0, (.span (0) 1), .both, false⟩,
  ⟨0x3100, 1, 0x1C, 1, "FINALIZE_NOW", .bool, .wo, .service, .num 0, (.span (0) 1), .both, false⟩,
  ⟨0x3100, 1, 0x30, 1, "WU_CHAINS", .u8, .rw, .service, .num 0, (.span (0) 3), .senderOnly, false⟩,
  ⟨0x3100, 1, 0x31, 1, "WU_START", .u8, .wo, .service, .num 0, (.span (1) 3), .senderOnly, false⟩,
  ⟨0x3100, 1, 0x32, 1, "WU_FRAME", .u64, .rw, .service, .num 0, .any, .senderOnly, false⟩,
  ⟨0x3100, 1, 0x33, 1, "WU_SOURCE", .u8, .rw, .service, .num 0, (.span (0) 1), .senderOnly, false⟩,
  ⟨0x3100, 1, 0x34, 1, "WU_PACE", .u16, .rw, .service, .num 32, (.span (1) 256), .senderOnly, false⟩,
  ⟨0x3100, 1, 0x35, 1, "WU_CONFIRM_WAIT", .u16, .rw, .service, .num 150, (.span (125) 600), .senderOnly, false⟩,
  ⟨0x3100, 1, 0x36, 1, "WU_STATE", .u8, .ro, .operator, .num 0, .any, .senderOnly, false⟩,
  ⟨0x3100, 1, 0x37, 1, "WU_LAGGARDS", (.dom (.upTo 2 510)), .ro, .operator, .empty, .any, .senderOnly, false⟩,
  ⟨0x3100, 1, 0x38, 1, "RESULT_STATE", .u8, .ro, .operator, .num 0, .any, .senderOnly, false⟩,
  ⟨0x3100, 1, 0x39, 1, "RESULT_SEQ", .u16, .ro, .operator, .num 0, .any, .senderOnly, false⟩]

/-- The rows of the dictionary tables whose index lies from 0x3200 (R379, R404 to R407). -/
def odRows3200 : List OdRow := [
  ⟨0x3200, 1, 0x01, 1, "HEARTBEAT", .u8, .ro, .operator, .num 0, .any, .both, false⟩,
  ⟨0x3200, 1, 0x02, 1, "CEIL_PROGRAM", .u64, .wo, .service, .num 0, .any, .both, false⟩,
  ⟨0x3200, 1, 0x03, 1, "CEIL_LOCK", .bool, .rw, .service, .num 0, (.span (0) 1), .both, false⟩,
  ⟨0x3200, 1, 0x04, 1, "BLANKINGS", .u32, .ro, .operator, .num 0, .any, .both, false⟩,
  ⟨0x3200, 1, 0x10, 1, "FLASH_RATE_SET", .u16, .rw, .service, .num 64, (.span 1 65535), .both, false⟩,
  ⟨0x3200, 1, 0x11, 1, "FLASH_BUCKET", .u32, .ro, .operator, .num 0, .any, .both, false⟩,
  ⟨0x3200, 1, 0x12, 1, "FLASH_REFUSED", .u32, .ro, .operator, .num 0, .any, .both, false⟩,
  ⟨0x3200, 1, 0x13, 1, "FLASH_DENIED", .u32, .ro, .operator, .num 0, .any, .both, false⟩,
  ⟨0x3200, 1, 0x14, 1, "WDT_TIMEOUT", .u16, .rw, .service, .num 100, (.span (10) 1000), .both, false⟩,
  ⟨0x3200, 1, 0x15, 1, "JTAG_MODE", .u8, .ro, .operator, .num 0, .any, .both, false⟩,
  ⟨0x3200, 1, 0x16, 1, "REPAIRS", .u16, .ro, .operator, .num 0, .any, .both, false⟩,
  ⟨0x3200, 1, 0x20, 1, "BIST_TARGET", .u8, .rw, .service, .num 0, .bistTarget, .both, false⟩,
  ⟨0x3200, 1, 0x21, 1, "BIST_START", .bool, .wo, .service, .num 0, (.span (0) 1), .both, false⟩,
  ⟨0x3200, 1, 0x22, 1, "RESULT_STATE", .u8, .ro, .operator, .num 0, .any, .both, false⟩,
  ⟨0x3200, 1, 0x23, 1, "RESULT_SEQ", .u16, .ro, .operator, .num 0, .any, .both, false⟩,
  ⟨0x3200, 1, 0x24, 1, "BIST_FAIL_ADDR", .u32, .ro, .service, .num 0, .any, .both, false⟩]

/-- The rows of the dictionary tables whose index lies from 0x3300 (R379, R404 to R407). -/
def odRows3300 : List OdRow := [
  ⟨0x3300, 1, 0x01, 1, "CHALLENGE", (.dom (.exact 16)), .ro, .operator, .empty, .any, .both, false⟩,
  ⟨0x3300, 1, 0x02, 1, "LOGIN", (.dom (.oneOf [1, 33, 65])), .wo, .operator, .empty, .any, .both, false⟩,
  ⟨0x3300, 1, 0x03, 1, "LEVEL", .u8, .ro, .operator, .num 0, .any, .both, false⟩,
  ⟨0x3300, 1, 0x04, 1, "LOGOUT", .bool, .wo, .operator, .num 0, (.span (0) 1), .both, false⟩,
  ⟨0x3300, 1, 0x05, 1, "CONTEXT_ID", .u32, .ro, .operator, .num 0, .any, .both, false⟩,
  ⟨0x3300, 1, 0x06, 1, "DEFAULT_CAN", .u8, .rw, .service, .num 1, (.span (1) 3), .both, false⟩,
  ⟨0x3300, 1, 0x07, 1, "DEFAULT_UDP", .u8, .rw, .service, .num 1, (.span (1) 3), .both, false⟩,
  ⟨0x3300, 1, 0x08, 1, "DEFAULT_HOST", .u8, .rw, .service, .num 2, (.span (1) 3), .both, false⟩,
  ⟨0x3300, 1, 0x09, 1, "KEY_INTEGRATOR", (.dom (.exact 32)), .wo, .service, .empty, .any, .both, false⟩,
  ⟨0x3300, 1, 0x0A, 1, "KEY_SERVICE", (.dom (.exact 32)), .wo, .service, .empty, .any, .both, false⟩,
  ⟨0x3300, 1, 0x0B, 1, "LOGIN_FAILURES", .u32, .ro, .operator, .num 0, .any, .both, false⟩,
  ⟨0x3300, 1, 0x0C, 1, "IDLE_LOGOUT", .u16, .rw, .service, .num 600, (.span (10) 3600), .both, false⟩,
  ⟨0x3300, 1, 0x0D, 1, "NMT_RESET_ENABLE", .bool, .rw, .integrator, .num 1, (.span (0) 1), .both, false⟩,
  ⟨0x3300, 1, 0x10, 1, "OWNER_KEY", (.dom (.oneOf [0, 32])), .rw, .owner, .empty, .any, .both, false⟩,
  ⟨0x3300, 1, 0x11, 1, "OWNER_LOCK", .bool, .rw, .owner, .num 0, (.span (0) 1), .both, false⟩]

/-- Every row of the dictionary, in ascending index. -/
def odRows : List OdRow :=
  odRows1000 ++ odRows2000 ++ odRows2100 ++ odRows2200 ++ odRows2300 ++ odRows2400 ++ odRows2500 ++ odRows2600 ++ odRows2700 ++ odRows2800 ++ odRows2900 ++ odRows2A00 ++ odRows2B00 ++ odRows2C00 ++ odRows2D00 ++ odRows2E00 ++ odRows2F00 ++ odRows3000 ++ odRows3100 ++ odRows3200 ++ odRows3300

/-- The key under which the value of an object is stored. -/
def key (idx sub : Nat) : Nat := idx * 256 + sub

/-- Whether a row serves a role at all. -/
def Presence.exists_ : Presence → Role → Bool
  | .senderOnly, r => r == .sender
  | .tileOnly, r => r == .tile
  | _, r => r != .none

/-- Whether a row belongs to something the role holds down (check 3 of R561). -/
def Presence.heldDown : Presence → Role → Bool
  | .senderHeld, r => r == .tile
  | .tileHeld, r => r == .sender
  | _, _ => false

/-- Whether a row covers an index. -/
def OdRow.hasIndex (r : OdRow) (idx : Nat) : Bool := r.index ≤ idx && idx < r.index + r.count

/-- Whether a row covers a sub-index. -/
def OdRow.hasSub (r : OdRow) (sub : Nat) : Bool := r.sub ≤ sub && sub < r.sub + r.span

/-- The rows of a band of indices, so that a search reads one table only. -/
def odBand (idx : Nat) : List OdRow :=
  if idx < 0x2000 then odRows1000
  else match idx / 256 with
    | 0x20 => odRows2000 | 0x21 => odRows2100 | 0x22 => odRows2200 | 0x23 => odRows2300
    | 0x24 => odRows2400 | 0x25 => odRows2500 | 0x26 => odRows2600 | 0x27 => odRows2700
    | 0x28 => odRows2800 | 0x29 => odRows2900 | 0x2A => odRows2A00 | 0x2B => odRows2B00
    | 0x2C => odRows2C00 | 0x2D => odRows2D00 | 0x2E => odRows2E00 | 0x2F => odRows2F00
    | 0x30 => odRows3000 | 0x31 => odRows3100 | 0x32 => odRows3200 | 0x33 => odRows3300
    | _ => []

/-- The row of an object in a role, if the device holds it. -/
def odFind (role : Role) (idx sub : Nat) : Option OdRow :=
  (odBand idx).find? fun r => r.hasIndex idx && r.hasSub sub && r.role.exists_ role

/-- Whether the device holds an index in a role (check 1 of R561). -/
def odIndexExists (role : Role) (idx : Nat) : Bool :=
  (odBand idx).any fun r => r.hasIndex idx && r.role.exists_ role

/-- Whether an index belongs whole to something the role holds down, its sub-index 0 with it (R3). -/
def odHeld (role : Role) (idx : Nat) : Bool :=
  ((odBand idx).filter fun r => r.hasIndex idx && r.role.exists_ role).all fun r => r.role.heldDown role

/-- The highest sub-index of an index, which sub-index 0 of an object with several reads (R379). -/
def odHighest (role : Role) (idx : Nat) : Nat :=
  ((odBand idx).filter fun r => r.hasIndex idx && r.role.exists_ role).foldl
    (fun m r => max m (r.sub + r.span - 1)) 0

/-- Bytes of a type; 0 for the types of variable length (R379). -/
def OdTy.size : OdTy → Nat
  | .bool | .u8 => 1
  | .u16 | .i16 => 2
  | .u32 | .i32 => 4
  | .u64 | .i64 => 8
  | .str | .dom _ => 0

/-- Whether a type holds signed numbers. -/
def OdTy.signed : OdTy → Bool
  | .i16 | .i32 | .i64 => true
  | _ => false

/-- Whether a type holds bytes rather than a number. -/
def OdTy.isData : OdTy → Bool
  | .str | .dom _ => true
  | _ => false

/-- The identity matrix of GAMUT_CUSTOM, nine INTEGER16 in Q2.14, row-major (R270). -/
def identityMatrix : List Byte :=
  let one : List Byte := [0x00, 0x40]
  let z : List Byte := [0x00, 0x00]
  one ++ z ++ z ++ z ++ one ++ z ++ z ++ z ++ one

/-- The value of a default. -/
def Dflt.val : Dflt → Val
  | .num v => .num v
  | .zeros n => .data (List.replicate n 0)
  | .empty => .data []
  | .gamutIdentity => .data identityMatrix

/-- What an object reads as while nothing is listed for it: the default of its row. The few objects whose
rows differ between the roles at one index have equal defaults but for 0x2300, whose rows never share a type
of use in one device, so the row of the role that stores there is the one that is read. -/
def odDefault (role : Role) (k : Nat) : Val :=
  match odFind role (k / 256) (k % 256) with
  | some r => r.dflt.val
  | none => .num 0

/-- Whether an object is commit-bound (R246). -/
def odBound (idx sub : Nat) : Bool :=
  match odFind .tile idx sub with
  | some r => r.bound
  | none => false

/-- Whether a value lies within a range (check 8 of R561). -/
def Rng.ok : Rng → Int → Bool
  | .any, _ => true
  | .span lo hi, v => lo ≤ v && v ≤ hi
  | .oneOf l, v => l.contains v
  | .spanOr lo hi o, v => (lo ≤ v && v ≤ hi) || v == o
  | .zeroOr lo hi, v => v == 0 || (lo ≤ v && v ≤ hi)
  | .multiple lo hi step, v => lo ≤ v && v ≤ hi && v % step == 0
  | .taps, v =>
    let b := BitVec.ofInt 32 v
    let pre := (b.extractLsb' 24 8).toInt
    let main := (b.extractLsb' 16 8).toInt
    let post1 := (b.extractLsb' 8 8).toInt
    let post2 := (b.extractLsb' 0 8).toInt
    decide (-16 ≤ pre ∧ pre ≤ 0 ∧ 32 ≤ main ∧ main ≤ 64 ∧ -24 ≤ post1 ∧ post1 ≤ 0 ∧ -8 ≤ post2 ∧ post2 ≤ 8 ∧
      pre.natAbs + main.natAbs + post1.natAbs + post2.natAbs ≤ 64)
  | .tpdoType, v => (1 ≤ v && v ≤ 240) || v == 254 || v == 255
  | .bistTarget, v => (64 ≤ v && v ≤ 71) || (128 ≤ v && v ≤ 191)

/-- Whether a length fits a DOMAIN (R379). -/
def DomLen.ok : DomLen → Nat → Bool
  | .exact n, l => l == n
  | .oneOf ns, l => ns.contains l
  | .upTo unit mx, l => l ≤ mx && l % unit == 0

end Sys2Proof.Machine
end

