-- ==== Sys2Proof/Machine/LampState.lean ====
section
/-! DEFINITION. The state of the lamp ports, of dimming and lamp diagnostics, and of the port engines
(R297 to R378). -/

namespace Sys2Proof.Machine

/-- A frame in the framer: open, on the line or waiting for its turn (R361, R365). -/
structure TxFrame where
  cmd : Nat
  /-- Payload bits declared. -/
  len : Nat
  capture : Bool
  /-- For a reference frame: BANK_FRAME, BANK_SLOT and REF_TIME. -/
  ref : Option (Nat × Nat × Nat)
  /-- Payload bits pushed so far, in order. -/
  bits : List Bool
  /-- It goes out with the complement of its CRC. -/
  dead : Bool
  /-- The rest of it goes out as zeros (R361, R371). -/
  zeros : Bool
  /-- Payload bits of it pushed by TXB and TXF (R371). -/
  counted : Nat
  /-- It is withheld under R333. -/
  withheld : Bool
  /-- Device time at which its MARK left. -/
  markAt : Option Nat
  /-- The framer has completed it after an underrun; it stays open for the bits that are still to be pushed (R361). -/
  gone : Bool
  deriving DecidableEq, Repr

/-- A frame that has left LD and has not returned (R320). -/
structure LineFrame where
  cmd : Nat
  bits : List Bool
  capture : Bool
  /-- Device time of its last CRC edge at LD, and its length in ns. -/
  edgeAt : Nat
  length : Nat
  deriving DecidableEq, Repr

/-- A return in the receive queue (R366). -/
structure Return where
  /-- 0 correct, 1 complemented, 2 bad, 3 missing. -/
  crcClass : Nat
  cut : Bool
  cmd : Nat
  words : List Word
  /-- Words read by RXW. -/
  read : Nat
  deriving DecidableEq, Repr

/-- A push that stalls (R360). -/
inductive Push where
  | bits (b : List Bool) (counts : Bool)
  | share (pos line : Nat)
  | lamp (n : Nat)
  | sched (pos : Nat)
  deriving DecidableEq, Repr

/-- What an engine waits for (R368). -/
inductive Wait where
  | none
  /-- WAITE: conditions and destination. -/
  | cond (mask : Word) (rd : Fin 16)
  /-- WAITT: the port time awaited. -/
  | time (t : Word)
  deriving DecidableEq, Repr

/-- Whether an engine runs (0x2C10+p:01). -/
inductive EngineRun where
  | held | loading | running | faulted
  deriving DecidableEq, Repr

/-- One port engine (R353 to R377). -/
structure Engine where
  run : EngineRun
  pc : Nat
  /-- g0 to g15; g0 is never written. -/
  regs : Vector Word 16
  /-- Instruction memory; words beyond the profile's code read 0. -/
  imem : Sparse Word
  codeWords : Nat
  entryCold : Nat
  entryWarm : Nat
  dmem : Sparse Word
  /-- PROFILE_ID loaded; none before the first load. -/
  profile : Option Nat
  wait : Wait
  /-- A frame boundary has come since the WAITE began. -/
  boundary : Bool
  stall : Option Push
  /-- Destination of an LD, MUL or MULHU issued in the cycle before (R360). -/
  slow : Option (Fin 16)
  bankFrame : Word
  bankSlot : BitVec 2
  arm : Word
  channels : BitVec 7
  req : Word
  /-- REQ holds a request that has not been read. -/
  reqWaiting : Bool
  /-- Frames opened and not yet complete on the line, oldest first. -/
  tx : List TxFrame
  /-- Transmit unit busy until this device time; last GAP ends at this device time. -/
  busyUntil : Nat
  gapUntil : Nat
  line : List LineFrame
  returns : List Return
  /-- An overflow has been shown and not cleared by RXD. -/
  overflow : Bool
  /-- Bits counted in the present frame (R371), and whether the budget has been hit. -/
  used : Nat
  budgetHit : Bool
  /-- Device time of the last WDK (R372). -/
  wdkAt : Nat
  /-- Cycles not spent waiting in the present frame (0x2C10+p:09). -/
  cycles : Nat
  /-- Reference frames sent: frame and slot, newest first, the last 16; DIAGC looks at two (R365, R367). -/
  refs : List (Nat × Nat)
  /-- Words whose SECDED error is uncorrectable: of instruction memory by address, of data memory by address + 2,048
  (R355, R373). -/
  damaged : List Nat
  /-- HK_TEMP as written since the last housekeeping round (R319). -/
  hkTemp : Option Int
  deriving DecidableEq, Repr

/-- A SCHED body built for a driver (R332). -/
structure Sched where
  pos : Nat
  frame : Nat
  slot : Nat
  body : List Bool
  /-- Lamps that it gives a pulse of t_meas or more (R344). -/
  lamps : List Nat
  /-- Its SCHED frame has returned with a correct CRC. -/
  accepted : Bool
  deriving DecidableEq, Repr

/-- A probe chosen under R347 and not yet read by PRB. -/
structure Probe where
  pos : Nat
  line : Nat
  ch : Nat
  slot : Nat
  tag : Nat
  lamp : Nat
  /-- The frame for which it was chosen. -/
  frame : Nat
  deriving DecidableEq, Repr

/-- One lamp port (R297 to R326, R343 to R349). -/
structure LampPort where
  /-- Enabled in the configuration in force, so that its engine runs. -/
  on : Bool
  /-- Device registers read at the last enumeration, by position × 65536 + register. -/
  regs : Sparse Nat
  /-- Positions that showed ALERT at the last poll (R343). -/
  alerts : List Nat
  /-- Frames missing in a row, and whether the loop is open (R320). -/
  missRun : Nat
  open_ : Bool
  /-- The last loop delays, ps, newest first, at most 256 (R314). -/
  delays : List Nat
  /-- Loop delays measured in the PORT_SKEW calibration in progress, newest first, at most 2,048: 1,024 for each of its two runs
  (R314, R475). -/
  skew : List Nat
  /-- The loop delay measured last at the rate of this enumeration's STATUS polls (R314, R318). -/
  fresh : Option Nat
  /-- Payloads of the ROLLCALL frames that have returned in this enumeration with a correct CRC, newest first, and its fault so
  far: 1 one did not return, 2 one returned with another CRC (R318). -/
  rolls : List (List Bool)
  rollFault : Nat
  /-- Since when LR is low, in ps of device time (R302). -/
  lrLow : Nat
  /-- The STATUS poll of the warm start is still to come (R318). -/
  pollDue : Bool
  /-- LOOP_DELAY at the last calibration. -/
  calDelay : Option Nat
  /-- LATCH_DLY of each driver, in 0.125 ns units, by position. -/
  latch : List (Nat × Nat)
  /-- Bodies built for the next slot, and those of the last two slots. -/
  sched : List Sched
  schedOld : List Sched
  /-- SCHED_STATE: ready, slot and TAG. -/
  schedReady : Bool
  schedSlot : Nat
  schedTag : Nat
  /-- The next frame's schedules use the static phases (R335). -/
  staticNext : Bool
  /-- The settings under which the last schedules were built, with S, and the frame that is the first under them (R335). -/
  shape : List Nat
  staticFrame : Option Nat
  /-- n_r as a change of the timing set has cut it, until the next commit that passes (R328). -/
  reduced : Option Nat
  /-- m of each slot's schedule in force: the segments of its spread channels, 1 with none (R339, R350). -/
  spreadM : Vector Nat 4
  /-- Positions for which event 0x6207 has been raised since enumeration (R339). -/
  spreadTold : List Nat
  /-- MODE in force, taken at enumeration (R325). -/
  mode : Nat
  probes : List Probe
  /-- Probes that PRB has handed to the profile, newest first, for DIAGC (R344). -/
  probed : List Probe
  /-- Lamps put off in the last second (R347). -/
  deferred : List Nat
  /-- Verdict bytes by lamp (Table 11.5). -/
  verdict : Sparse (BitVec 8)
  /-- Lamps tested since the sweep began, and whether the port is in its scope (R349). -/
  swept : Sparse Bool
  sweeping : Bool
  /-- Device time at which a failed enumeration is tried again (R318). -/
  retryAt : Option Nat
  /-- Rate of the STATUS polls of the last enumeration, as 0x2A00+p:03; 0xFF before the first (R318). -/
  rate : Nat
  /-- The port has lit since the start in progress. -/
  lit : Bool
  deriving DecidableEq, Repr

/-- The frustum records of a tile (R338). -/
structure Frustum where
  /-- The record in force. -/
  record : List Byte
  /-- Records that were in force before: the frame from which the next one applies, and the record; newest first, at most 4. -/
  past : List (Nat × List Byte)
  /-- Records received for later frames: frame and record, in order of receipt. -/
  waiting : List (Nat × List Byte)
  deriving DecidableEq, Repr

/-- Lamp ports, engines, frustum and sweep. -/
structure Lamps where
  port : Vector LampPort 64
  engine : Vector Engine 64
  frustum : Frustum
  /-- The sweep in progress: its scope (port, or 0xFF) and the frame in which it began (R349). -/
  sweep : Option (Nat × Nat)
  /-- LD is held low by Basalt until a heartbeat, or by a trip (R522). -/
  ldLow : Bool
  /-- Scalers that failed a BIST, and ports whose engine did (R531, R532). -/
  retired : BitVec 8
  dead : BitVec 64
  /-- A BIST on command in progress: 1 and a scaler, or 2 and a port (R532). -/
  bistRun : Option (Nat × Nat)
  /-- The last epoch of 128 frames that has ended (R346). -/
  epoch : Nat
  deriving DecidableEq, Repr

/-- An engine held in reset, its memories empty. -/
def Engine.reset : Engine where
  run := .held
  pc := 0
  regs := Vector.replicate 16 0
  imem := []
  codeWords := 0
  entryCold := 0
  entryWarm := 0
  dmem := []
  profile := none
  wait := .none
  boundary := false
  stall := none
  slow := none
  bankFrame := 0
  bankSlot := 0
  arm := 0
  channels := 0
  req := 0
  reqWaiting := false
  tx := []
  busyUntil := 0
  gapUntil := 0
  line := []
  returns := []
  overflow := false
  used := 0
  budgetHit := false
  wdkAt := 0
  cycles := 0
  refs := []
  damaged := []
  hkTemp := none

/-- A lamp port that is off. -/
def LampPort.reset : LampPort where
  on := false
  regs := []
  alerts := []
  missRun := 0
  open_ := false
  delays := []
  skew := []
  fresh := none
  rolls := []
  rollFault := 0
  lrLow := 0
  pollDue := false
  calDelay := none
  latch := []
  sched := []
  schedOld := []
  schedReady := false
  schedSlot := 0
  schedTag := 0
  staticNext := true
  shape := []
  staticFrame := none
  reduced := none
  spreadM := Vector.replicate 4 1
  spreadTold := []
  mode := 0
  probes := []
  probed := []
  deferred := []
  verdict := []
  swept := []
  sweeping := false
  retryAt := none
  rate := 0xFF
  lit := false

/-- Lamps after a cold reset. -/
def Lamps.reset : Lamps where
  port := Vector.replicate 64 LampPort.reset
  engine := Vector.replicate 64 Engine.reset
  frustum := { record := List.replicate 64 0, past := [], waiting := [] }
  sweep := none
  ldLow := false
  retired := 0
  dead := 0
  bistRun := none
  epoch := 0

end Sys2Proof.Machine
end

