-- ==== Sys2Proof/Machine/LaneState.lean ====
section
/-! DEFINITION. The state of the serial lanes and of the links they form (R81 to R110). Lanes 0 to 7 form chain
port A and 8 to 15 chain port B; of port C, the lanes that its configuration gives to cascade links form links
X and Y, and the others carry Ethernet (R46). -/

namespace Sys2Proof.Machine

/-- The stage of a lane (Table 3.3, LANE_STATE of Table 3.12). -/
inductive LaneStage where
  | off | detect | training | bitLock | alignLock | capability | active | spare | withdrawn | failed | loopback
  deriving DecidableEq, Repr

/-- What a lane's transmitter sends (R85, R103, R107). -/
inductive TxMode where
  | electricalIdle | detectSteps | training | capBlocks | codewords | prbs | muted | retransmit
  deriving DecidableEq, Repr

/-- Why a failed lane waits, and so what brings it back to receiver detect. -/
inductive LaneHold where
  | none
  /-- 10 ms of electrical idle after a failed stage (Table 3.3, R92). -/
  | idle
  /-- Failed training at the port's rate: retried every 1 s (R92). -/
  | retry
  /-- Refused in capability exchange or for its skew: back after 1 s (R93, R100). -/
  | refused
  deriving DecidableEq, Repr

/-- The four taps of a transmitter FIR, in 1/64 of full swing (R88). -/
structure Taps where
  pre : Int
  main : Int
  post1 : Int
  post2 : Int
  deriving DecidableEq, Repr

/-- A PRBS checker (R102). -/
structure Checker where
  locked : Bool
  /-- The checker has been in lock before, so the next lock is a return. -/
  wasLocked : Bool
  bits : Nat
  bitErrors : Nat
  symErrors : Nat
  syncLosses : Nat
  deriving DecidableEq, Repr

/-- A checker that has seen nothing. -/
def Checker.fresh : Checker :=
  { locked := false, wasLocked := false, bits := 0, bitErrors := 0, symErrors := 0, syncLosses := 0 }

/-- One serial lane. -/
structure Lane where
  stage : LaneStage
  tx : TxMode
  hold : LaneHold
  /-- Device time at which the stage, or the wait before the next receiver detect, began (Table 3.3, R86, R92, R93). -/
  since : Nat
  /-- Event 0x2101 has been raised since then. -/
  detectRaised : Bool
  /-- Taps of the local transmitter. -/
  taps : Taps
  /-- The request outstanding to the partner: its control word, and how often it has timed out (R90). -/
  request : Option (BitVec 16 × Nat)
  /-- REQ_SEQ of the last request sent. -/
  reqSeq : BitVec 4
  /-- REQ_SEQ of the partner's last request acted on; none before the first. -/
  ackSeq : Option (BitVec 4)
  /-- Status word sent to the partner. -/
  status : BitVec 16
  /-- Consecutive training frames received with RX_READY, and sent with it (R91). -/
  readyIn : Nat
  readyOut : Nat
  /-- Consecutive good and bad markers (R84, R99). -/
  goodMarkers : Nat
  badRun : Nat
  /-- The last CAP block and how many identical ones have come in a row (R93). -/
  cap : Option (BitVec 256)
  capRun : Nat
  /-- Own three identical CAP blocks have been accepted. -/
  capDone : Bool
  /-- Deskew of this lane against the port's markers, ps (R100). -/
  skew : Nat
  checker : Checker
  /-- A timed checker run is in progress on a lane in test (R107). -/
  timedRun : Bool
  /-- Device time at which the PRBS run began, or the return from it (R103). -/
  runSince : Nat
  /-- Error injection: its kind and size, and the errors still to inject; none when continuous (R106). -/
  injecting : Bool
  injLeft : Option Nat
  injKind : Nat
  injSize : Nat
  /-- The pattern that the generator runs on a port in test or in a loopback; 0 while it sends codewords (R109). -/
  gen : Nat
  /-- An Ethernet lane in test runs at 53.125 Gbit/s, having failed to train at 106.25 (R81, R92, R107). -/
  slow : Bool
  /-- Blocks of the codeword being filled, and the scrambler's register (R82, R83). -/
  fill : List (BitVec 256)
  scrambler : BitVec 31
  deriving DecidableEq, Repr

/-- The state of a link: a chain port or a cascade link (PORT_STATE of Table 3.11). -/
inductive LinkPhase where
  | down | bringing | up | test | absent
  deriving DecidableEq, Repr

/-- A set change being announced (R97). -/
structure SetChange where
  next : BitVec 8
  countdown : Nat
  fault : Bool
  deriving DecidableEq, Repr

/-- A live test of one lane of a link (R103). -/
structure LiveTest where
  /-- Lane index under test. -/
  lane : Nat
  initiator : Bool
  pattern : Nat
  /-- The lane was active, not spare. -/
  wasActive : Bool
  /-- 0 withdrawing, 1 running, 2 returning, 3 being added back. -/
  stage : Nat
  /-- The run ends as a failed run (R105). -/
  failed : Bool
  /-- Markers sent that announced its withdrawal (R105). -/
  announced : Nat
  deriving DecidableEq, Repr

/-- The capture of one named marker on a port: MARKER_COUNT, and the times of its departure and of its arrival on the lane that
sets the deskew point, on the wall scale, 2^-16 ns (R187). -/
structure HopMark where
  count : BitVec 16
  dep : Option Nat
  arr : Option Nat
  deriving DecidableEq, Repr

/-- A link. -/
structure Link where
  phase : LinkPhase
  /-- Rate under trial or in force: 0 112.0, 1 56.0, 2 28.0 Gbit/s. -/
  rate : Nat
  /-- FEC mode fixed by the first active lane: false hop, true long (R94). -/
  fec : Option Bool
  txSet : BitVec 8
  rxSet : BitVec 8
  change : Option SetChange
  /-- A planned set that waits until the change announced now has applied (R97). -/
  queued : Option (BitVec 8)
  /-- The partner's announced change. -/
  rxChange : Option SetChange
  /-- MARKER_COUNT of the next marker sent. -/
  markerCount : BitVec 16
  /-- Lane indices this side cannot receive (R98). -/
  rxFault : BitVec 8
  /-- Own lane indices that the partner cannot receive, as its last good marker says (R98). -/
  partnerFault : BitVec 8
  /-- The deskew point chosen at the last bring-up, and the one before it, ps (R100). -/
  deskew : Option Nat
  lastDeskew : Option Nat
  test : Option LiveTest
  /-- A lane whose live test this side refuses, until its next marker says so (R104). -/
  refusing : Option Nat
  /-- SERIAL_LOW of the partner, from its CAP blocks (R93). -/
  partner : BitVec 48
  /-- ROLE and PORT_KIND nibbles of the partner. -/
  partnerKind : BitVec 8
  /-- Cell load over the last 100 ms, in percent of what the transmit set can carry (R104). -/
  load : Nat
  /-- Cell slots sent since the last markers, and the place in the transmit set of the lane that takes the next block
  (R95, R112). -/
  slots : Nat
  turn : Nat
  /-- Named markers and their captures (R187). -/
  hopMarks : List HopMark
  /-- The port has come up at least once since cold reset (R107). -/
  wasUp : Bool
  /-- The port went down by a failure and has not come up since (R107). -/
  recovering : Bool
  /-- The port waits 1 s after failing at the floor rate, and the device time from which it does (R92). -/
  resting : Bool
  restSince : Nat
  /-- RATE_MAX, RATE_FLOOR, MIN_LANES and ACTIVE_TARGET as they stood at this bring-up (R108). -/
  rateMax : Nat
  rateFloor : Nat
  minLanes : Nat
  target : Nat
  fecReq : Bool
  deriving DecidableEq, Repr

/-- All lanes and links. Links: 0 chain port A, 1 chain port B, 2 cascade X, 3 cascade Y. -/
structure Lanes where
  lane : Vector Lane 24
  link : Vector Link 4
  /-- An Ethernet lane of port C has come up at least once since cold reset (R107). -/
  ethUp : Bool
  deriving DecidableEq, Repr

/-- PRESET1 of Table 3.4, from which training starts (R88). -/
def preset1 : Taps := { pre := 0, main := 64, post1 := 0, post2 := 0 }

/-- A lane that has not started. -/
def Lane.reset : Lane where
  stage := .off
  tx := .electricalIdle
  hold := .none
  since := 0
  detectRaised := false
  taps := preset1
  request := none
  reqSeq := 0
  ackSeq := none
  status := 0
  readyIn := 0
  readyOut := 0
  goodMarkers := 0
  badRun := 0
  cap := none
  capRun := 0
  capDone := false
  skew := 0
  checker := Checker.fresh
  timedRun := false
  runSince := 0
  injecting := false
  injLeft := none
  injKind := 0
  injSize := 1
  gen := 0
  slow := false
  fill := []
  scrambler := 0

/-- A link that has not started. -/
def Link.reset : Link where
  phase := .down
  rate := 0
  fec := none
  txSet := 0
  rxSet := 0
  change := none
  queued := none
  rxChange := none
  markerCount := 0
  rxFault := 0
  partnerFault := 0
  deskew := none
  lastDeskew := none
  test := none
  refusing := none
  partner := 0
  partnerKind := 0xFF
  load := 0
  slots := 0
  turn := 0
  hopMarks := []
  wasUp := false
  recovering := false
  resting := false
  restSince := 0
  rateMax := 0
  rateFloor := 2
  minLanes := 1
  target := 8
  fecReq := false

/-- Lanes and links after a cold reset. -/
def Lanes.reset : Lanes where
  lane := Vector.replicate 24 Lane.reset
  link := Vector.replicate 4 Link.reset
  ethUp := false

end Sys2Proof.Machine
end

