-- ==== Sys2Proof/Machine/LinkState.lean ====
section
/-! DEFINITION. The state of wall time, of the chain and its repeater, of redundancy and of the cascade
(R23 to R45, R77 to R79, R111 to R201). Wall times and delays of wall-time scale are in units of 2^-16 ns. -/

namespace Sys2Proof.Machine

/-- The timing set (R171). T_BASE in 2^-16 ns; D, offsets and lengths in ns. -/
structure TimingSet where
  fBase : Nat
  tBase : Nat
  num : Nat
  den : Nat
  d : Nat
  s : Nat
  off : Vector Nat 4
  len : Vector Nat 4
  deriving DecidableEq, Repr

/-- A pending change of the timing set (R192, R195). -/
inductive TimingChange where
  | newSet (frame : Nat) (set : TimingSet)
  | step (frame : Nat) (ns : Int)
  deriving DecidableEq, Repr

/-- Quartz STATE (R176). -/
inductive QState where
  | freeRunning | acquiring | locked | holdover
  deriving DecidableEq, Repr

/-- A neighbour on a cascade link, as its units show it (R79, R179, R180). -/
structure Neighbour where
  /-- The cascade link is up and its IDENTITY has been accepted. -/
  up : Bool
  priority : Nat
  chainA : Nat
  chainB : Nat
  mapCrc : Nat
  cascadeSize : Nat
  /-- DIST advertised; 0xFF no time. -/
  dist : Nat
  fm : Nat
  state : Nat
  /-- DEP of the last SYNC received and its arrival here, for the echo. -/
  lastDep : Nat
  lastArr : Nat
  /-- The last offset sample, 2^-16 ns, and how many in a row lay within 1 ns. -/
  theta : Int
  thetaRun : Nat
  /-- Device time of the last unit. -/
  lastUnit : Nat
  set : Option TimingSet
  pending : Option TimingChange
  deriving DecidableEq, Repr

/-- A neighbour not yet known. -/
def Neighbour.unknown : Neighbour :=
  { up := false, priority := 0, chainA := 0, chainB := 0, mapCrc := 0, cascadeSize := 0, dist := 0xFF, fm := 0,
    state := 0, lastDep := 0, lastArr := 0, theta := 0, thetaRun := 0, lastUnit := 0, set := none, pending := none }

/-- A PTP port whose Announces are heard: its data set, when the last one came, the announce interval, and whether two have come
within four intervals (R175). -/
structure PtpForeign where
  data : PtpDataset
  heard : Nat
  log : Int
  qualified : Bool
  deriving DecidableEq, Repr

/-- The PTP slave of a frame master (R175). Timestamps in 2^-16 ns. -/
structure Ptp where
  master : Option PtpDataset
  /-- The ports that announce (R175). -/
  seen : List PtpForeign
  lastAnnounce : Nat
  announceLog : Int
  /-- A two-step Sync waiting for its Follow_Up: sequence and arrival. -/
  syncWait : Option (Nat × Nat)
  t1 : Nat
  t2 : Nat
  /-- A Delay_Req waiting for its response: sequence and departure. -/
  reqWait : Option (Nat × Nat)
  delaySeq : Nat
  pathDelay : Int
  deriving DecidableEq, Repr

/-- The tile's servo on TIMING cells, by ORIGIN (R183, R184). -/
structure TileServo where
  /-- Smallest sample of the present window from each ORIGIN, 2^-16 ns. -/
  window : Vector (Option Int) 2
  /-- Windows in a row within 1 ns, and windows in a row with the ends more than 3 ns apart. -/
  lockRun : Nat
  diffRun : Nat
  /-- Base delays from each ORIGIN, ps (R186). -/
  base : Option (Nat × Nat)
  /-- New base delays from A and from B, the frame they apply from, and whether they are provisional (R189). -/
  nextBase : Option (Nat × Nat × Nat × Bool)
  trimAB : Int
  trimBA : Int
  /-- Stations of the chain, for the B trims (R186). -/
  stations : Nat
  unsteadyA : Nat
  unsteadyB : Nat
  /-- The first good sample since cold reset has stepped the time (R185). -/
  stepped : Bool
  /-- A step to apply at the next frame boundary (R185, R199). -/
  stepAtFrame : Option Int
  deriving DecidableEq, Repr

/-- Quartz (R170 to R201). -/
structure Quartz where
  /-- Wall time, 2^-16 ns. -/
  wall : Nat
  state : QState
  set : TimingSet
  /-- The set that the last change replaced, on the scale of wall time in force: frames before F_BASE are counted by it
  (R192, R194). -/
  old : Option TimingSet
  pending : Option TimingChange
  /-- The last change applied: kind and frame (R562). -/
  applied : Option (Nat × Nat)
  /-- The frame in progress, FRAME_COUNT. -/
  frame : Nat
  /-- Quartz has been locked since the last reset (R482). -/
  lockedOnce : Bool
  /-- Wall time is traceable to the source: TFLAGS [0] (Table 6.4). -/
  traceable : Bool
  /-- A frame has been presented in the cascade, so time no longer steps (R176). -/
  presented : Bool
  /-- Frequency that the servo holds, ppb off nominal, and the offset still to slew, 2^-16 ns (R176). -/
  ppb : Int
  slew : Int
  /-- The filtered offset from a PTP or PPS source, 2^-16 ns (R176). -/
  filtered : Int
  /-- Device time since which the source offset has stayed within its bound; of the last usable source. -/
  goodSince : Option Nat
  lastSource : Nat
  holdoverSince : Nat
  /-- Offset from the source, parent or ends, ps. -/
  offset : Int
  /-- Genlock: locked, misses in a row (R177). -/
  glLocked : Bool
  glMisses : Nat
  /-- A seconds label waiting for the next second boundary (R174). -/
  tod : Option Nat
  ptp : Ptp
  /-- Cascade links X and Y. -/
  neighbour : Vector Neighbour 2
  /-- The link of the parent (R180). -/
  parent : Option (Fin 2)
  /-- Own DIST; 0xFF no time. -/
  dist : Nat
  /-- This sender is the frame master (R39). -/
  master : Bool
  /-- Frame master in force, its priority; 0 unknown. -/
  fm : Nat
  servo : TileServo
  /-- Sender: calibrated or provisional base delays of each chain port, by station (ps). -/
  bases : Vector (List (Nat × Nat)) 2
  /-- Sender: total one-way delays R_AB and R_BA measured per chain port, ps, and those at calibration (R188). -/
  ringDelay : Vector (Nat × Nat) 2
  calDelay : Vector (Option (Nat × Nat)) 2
  /-- R_AB and R_BA measured when that calibration was taken, ps. -/
  calRing : Vector (Option (Nat × Nat)) 2
  trims : Vector (Int × Int) 2
  /-- Trims computed that the TIMING cells of the next frame carry (R188). -/
  trimsNext : Vector (Option (Int × Int)) 2
  /-- D_MODE, D_SET and D_MARGIN as the last accepted APPLY_FRAME took them (R191, R192). -/
  dMode : Nat
  dSet : Nat
  dMargin : Nat
  /-- TRANSIT as last written to the stations of each chain port, ns; none where some station may not hold it (R206). -/
  transit : Vector (Option Nat) 2
  /-- The largest T_LAMP reported, ns, per chain port (R190). -/
  tLamp : Vector Nat 2
  /-- D_min reported by each control sender's chain, by chain number (R190). -/
  dMins : List (Nat × Nat)
  /-- The smallest MAX_SLOTS of each chain port's tiles, and that of each chain by its number (R274). -/
  maxSlots : Vector Nat 2
  wallSlots : List (Nat × Nat)
  /-- FRAME_OUT and PPS_OUT are high until these wall times. -/
  frameOutUntil : Option Nat
  ppsOutUntil : Option Nat
  deriving DecidableEq, Repr

/-- The default timing set: 60000/1001 Hz, one slot, at wall time 0 (R172, R173, R196). -/
def TimingSet.initial : TimingSet where
  fBase := 0
  tBase := 0
  num := 60000
  den := 1001
  d := 0
  s := 1
  off := Vector.replicate 4 0
  len := vset (Vector.replicate 4 0) 0 16663333

/-- The tile servo after a cold reset. -/
def TileServo.reset : TileServo :=
  { window := Vector.replicate 2 none, lockRun := 0, diffRun := 0, base := none, nextBase := none, trimAB := 0,
    trimBA := 0, stations := 0, unsteadyA := 0, unsteadyB := 0, stepped := false, stepAtFrame := none }

/-- Quartz after a cold reset. -/
def Quartz.reset : Quartz where
  wall := 0
  state := .freeRunning
  set := TimingSet.initial
  old := none
  pending := none
  applied := none
  frame := 0
  lockedOnce := false
  traceable := false
  presented := false
  ppb := 0
  slew := 0
  filtered := 0
  goodSince := none
  lastSource := 0
  holdoverSince := 0
  offset := 0
  glLocked := false
  glMisses := 0
  tod := none
  ptp := { master := none, seen := [], lastAnnounce := 0, announceLog := 0, syncWait := none, t1 := 0, t2 := 0,
           reqWait := none, delaySeq := 0, pathDelay := 0 }
  neighbour := Vector.replicate 2 Neighbour.unknown
  parent := none
  dist := 0xFF
  master := false
  fm := 0
  servo := TileServo.reset
  bases := Vector.replicate 2 []
  ringDelay := Vector.replicate 2 (0, 0)
  calDelay := Vector.replicate 2 none
  calRing := Vector.replicate 2 none
  trims := Vector.replicate 2 (0, 0)
  trimsNext := Vector.replicate 2 none
  dMode := 0
  dSet := 0
  dMargin := 20000
  transit := Vector.replicate 2 none
  tLamp := Vector.replicate 2 0
  dMins := []
  maxSlots := Vector.replicate 2 4
  wallSlots := []
  frameOutUntil := none
  ppsOutUntil := none

/-- A deduplication window over a 32-bit SEQ counter (R132): H and the 4,096 values up to and including it,
bit k standing for H − k. -/
structure SeqWindow where
  high : BitVec 32
  seen : BitVec 4096
  deriving DecidableEq, Repr

/-- The repeater and the chain state of a tile (R122 to R141). -/
structure TileChain where
  /-- Cells originated and waiting for an idle slot, by transmit port, at most 16 each (R126). -/
  orig : Vector (List Cell) 2
  /-- MGMT cells, by type-specific word and payload, that wait until the queues of originated cells have room. -/
  backlog : List (Nat × List Byte)
  /-- The rate-matching buffer feeding each transmit port, at most 64 cells (R127). -/
  match_ : Vector (List Cell) 2
  /-- SEQ of the next non-video cell originated (R120). -/
  seq : BitVec 32
  /-- The window over the senders' counter; none while empty (R132). -/
  window : Option SeqWindow
  /-- SEQ values of the last 8 TOPO cells acted on, newest first (R134). -/
  topoSeqs : List (BitVec 32)
  /-- Transmitter of each port is loop-timed (R123). -/
  loopTimed : Vector Bool 2
  /-- Slewing back to loop timing (R123). -/
  slewing : Vector Bool 2
  /-- Causes of repeater-only mode that hold beside REPEAT_ONLY (R140). -/
  pixelFault : Bool
  thermal : Bool
  /-- The control cluster has restarted since the last ASSIGN (Table 4.9). -/
  restarted : Bool
  /-- HEALTH_COUNT (Table 5.3). -/
  healthCount : BitVec 16
  /-- CRC_LOCAL counts since the last HEALTH, by receive port. -/
  crcSince : Vector Nat 2
  /-- Device time of the last good TIMING cell of each ORIGIN; none while that end is not alive (R162). -/
  alive : Vector (Option Nat) 2
  /-- The feed is lost since this device time (R163). -/
  lostSince : Option Nat
  /-- Group membership in force: the DEST values, rising (R32). -/
  groups : List Nat
  /-- Group membership staged for the next region map. -/
  groupsStaged : List Nat
  deriving DecidableEq, Repr

/-- A tile's chain state after cold reset. -/
def TileChain.reset : TileChain where
  orig := Vector.replicate 2 []
  match_ := Vector.replicate 2 []
  seq := 0
  window := none
  backlog := []
  topoSeqs := []
  loopTimed := Vector.replicate 2 false
  slewing := Vector.replicate 2 false
  pixelFault := false
  thermal := false
  restarted := true
  healthCount := 0
  crcSince := Vector.replicate 2 0
  alive := Vector.replicate 2 none
  lostSince := none
  groups := []
  groupsStaged := []

/-- A TOPO REPORT as collected (Table 4.9). -/
structure TopoReport where
  serial : Nat
  station : Nat
  flags : Nat
  nbA : Nat
  kindA : Nat
  nbB : Nat
  kindB : Nat
  rev : Nat
  deriving DecidableEq, Repr

/-- A discovery run in progress (R134). -/
structure Discovery where
  /-- The run assigns nothing (R134, R157). -/
  checkOnly : Bool
  /-- The QUERY has been repeated. -/
  repeated : Bool
  /-- RING_STATE before the run, which a failed one leaves (R138, R142). -/
  before : Nat
  /-- Device time of the last QUERY. -/
  since : Nat
  reports : List TopoReport
  deriving DecidableEq, Repr

/-- Control of a chain as this sender holds it (CSTATE of Table 5.2). -/
inductive CState where
  | eligible | notEligible | control | relinquishing | single
  deriving DecidableEq, Repr

/-- A CSTATE in which the sender originates for its chain. -/
def CState.controls : CState → Bool
  | .control | .relinquishing | .single => true
  | _ => false

/-- A RECLAIM outstanding (R159). -/
structure Reclaim where
  frame : Nat
  /-- Attempts made; 0 while it waits 1 s after DEFER, when none is outstanding. -/
  attempts : Nat
  acked : Bool
  /-- Device time of the attempt, or of the DEFER. -/
  since : Nat
  deriving DecidableEq, Repr

/-- Determinism checksums of a wall frame on a chain (R73): of all cells and per stream, the streams not sliced, and those withheld. -/
structure FrameSums where
  frame : Nat
  all : Nat
  unsliced : BitVec 32
  /-- Streams withheld as the frame was sliced (R147). -/
  withheld : BitVec 32
  stream : Vector Nat 32
  deriving DecidableEq, Repr

/-- Nothing sliced. -/
def FrameSums.none : FrameSums := { frame := 0, all := 0, unsliced := 0xFFFFFFFF, withheld := 0, stream := Vector.replicate 32 0 }

/-- A chain port of a sender (R119, R120, R132 to R139, R145 to R166). -/
structure ChainPort where
  /-- The chain's SEQ counter, and the highest value released (R120, R133). -/
  seq : BitVec 32
  released : BitVec 32
  /-- Windows over the tile counters, by station (R132). -/
  windows : List (Nat × SeqWindow)
  discovery : Option Discovery
  /-- A discovery has run since the cold start; the chain has presented a frame (R134, R138). -/
  discovered : Bool
  presented : Bool
  /-- ASSIGN entries of a renumbering that waits for the next region-map activation (R138). -/
  newNumbers : List Byte
  /-- Cells waiting for a slot, by class: timing, management, service, video (R119). -/
  qTiming : List Cell
  qMgmt : List Cell
  qService : List Cell
  qVideo : List Cell
  /-- Slot within the window of 64, and what the window has carried (R119). -/
  slot : Nat
  slotVideo : Nat
  slotIdle : Nat
  slotService : Nat
  /-- Wall second and management cells sent in it (R119). -/
  mgmtSent : Nat × Nat
  /-- The chain numbers differ (R29), and the two senders are not joined by a cascade link (R37). -/
  numbersDiffer : Bool
  unjoined : Bool
  /-- Streams whose checksums disagreed since the last self-diagnosis period (Table 5.1). -/
  mismatch : BitVec 32
  cstate : CState
  /-- Peer's priority, CSTATE, chain number, MAP_CRC and VOUCHED as last reported. -/
  peer : Nat
  peerCState : Option Nat
  peerChain : Nat
  peerMapCrc : Nat
  peerVouched : BitVec 32
  peerSeq : BitVec 32
  /-- A HEALTH cell or STATUS unit has come since the last check (R156). -/
  peerSeen : Bool
  misses : Nat
  peerLost : Bool
  /-- Device time since the last period that was not clean (R145). -/
  cleanSince : Option Nat
  lastClean : Bool
  diag : BitVec 32
  healthCount : BitVec 16
  /-- Relayed cells and the wall times at which to release them, 2^-16 ns (R152). -/
  relays : List (Nat × Cell)
  /-- TAKE: start of control, and whether this sender starts (true) or stops (false) then (R155). -/
  take : Option (Nat × Bool)
  reclaim : Option Reclaim
  /-- Control was handed over by the peer (R155, R159). -/
  fromPeer : Bool
  /-- Device time at which this sender last took control (R157). -/
  takenAt : Nat
  /-- Device time at which a HEALTH cell of the far end last came round the ring (R136, R156, R166). -/
  ringHeard : Option Nat
  /-- Frame from which T_LAMP is to be read anew, after a commit that a context asked of a tile (R190). -/
  lampsDue : Option Nat
  /-- Device time from which the hold-off counts again after three unanswered attempts (R159). -/
  holdFrom : Nat
  /-- Own HEALTH cells sent from this port and not yet seen at the other (R166). -/
  ownMissing : Nat
  /-- Checksums of the frame being sliced and of the one before it (R73, R147). -/
  sumsNow : FrameSums
  sumsLast : FrameSums
  /-- Streams withheld under R147, and frames of agreement since. -/
  withheld : BitVec 32
  agreeRun : Vector Nat 32
  /-- Streams vouched for in the frame in progress (R146). -/
  vouched : BitVec 32
  /-- Lowest derate factor reported by the chain's tiles, with the device time of each report (R42). -/
  derates : List (Nat × Nat × Nat)
  /-- A provisional measurement of hop delays waits for the run in progress (R189). -/
  hopDue : Bool
  /-- Stations whose hop delay is not fixed (R184), and when a station last reported so (R190). -/
  unsteady : List Nat
  matchedAt : List (Nat × Nat)
  deriving DecidableEq, Repr

/-- A chain port after a reset (CSTATE 1: standby, not eligible). -/
def ChainPort.reset : ChainPort where
  seq := 0
  released := 0
  windows := []
  discovery := none
  discovered := false
  presented := false
  newNumbers := []
  qTiming := []
  qMgmt := []
  qService := []
  qVideo := []
  slot := 0
  slotVideo := 0
  slotIdle := 0
  slotService := 0
  mgmtSent := (0, 0)
  numbersDiffer := false
  unjoined := false
  mismatch := 0
  cstate := .notEligible
  peer := 0
  peerCState := none
  peerChain := 0
  peerMapCrc := 0
  peerVouched := 0
  peerSeq := 0
  peerSeen := false
  misses := 0
  peerLost := false
  cleanSince := none
  lastClean := false
  diag := 0
  healthCount := 0
  relays := []
  take := none
  reclaim := none
  fromPeer := false
  takenAt := 0
  ringHeard := none
  lampsDue := none
  holdFrom := 0
  ownMissing := 0
  sumsNow := FrameSums.none
  sumsLast := FrameSums.none
  withheld := 0
  agreeRun := Vector.replicate 32 0
  vouched := 0
  derates := []
  hopDue := false
  unsteady := []
  matchedAt := []

/-- What another sender has told of itself by its presence units (DESIGN CHOICE, log entry 100). -/
structure Told where
  prio : Nat
  /-- TIME_SOURCE and MAP_CRC (R61, R178). -/
  source : Nat
  mapCrc : Nat
  /-- STATE of its Quartz (Table 6.4). -/
  state : Nat
  /-- Its last period passed the checks that concern the whole sender (R39). -/
  passed : Bool
  /-- It has known a frame master (R40), and a tile of its chains has presented a frame (R176). -/
  had : Bool
  presented : Bool
  deriving DecidableEq, Repr

/-- The cascade as a sender sees it (R77 to R79, R39, R40). -/
structure Cascade where
  /-- USEQ of the next unit originated. -/
  useq : Nat
  /-- USEQ values seen of each source, newest first, at most 256 (R78). -/
  seen : List (Nat × List Nat)
  /-- Units discarded for their UCRC (R78). -/
  bad : Nat
  /-- Priorities of the senders that can be reached, with the device time last heard. -/
  reachable : List (Nat × Nat)
  /-- This sender stands in a minority island (R40). -/
  minority : Bool
  /-- A sender has been frame master in this cascade since cold start. -/
  hadMaster : Bool
  /-- Frame from which this sender becomes frame master again, on a revertive return (R39). -/
  masterAt : Option Nat
  /-- Lowest derate reported by each control sender: priority, factor and device time (R42, R288). -/
  derates : List (Nat × Nat × Nat)
  /-- What each other sender has told (R39, R40, R61, R176, R178). -/
  told : List Told
  /-- The last period passed the checks that concern the whole sender (R39). -/
  passed : Bool
  /-- Since the last period a memory read uncorrectable, and a cluster's watchdog expired (Table 5.1). -/
  memFault : Bool
  wdtFault : Bool
  deriving DecidableEq, Repr

/-- The cascade after a reset. -/
def Cascade.reset : Cascade :=
  { useq := 0, seen := [], bad := 0, reachable := [], minority := false, hadMaster := false, masterAt := none, derates := [],
    told := [], passed := false, memFault := false, wdtFault := false }

end Sys2Proof.Machine
end

