-- ==== Sys2Proof/Machine/Output.lean ====
section
/-! DEFINITION. What the block puts out: one entry per message, cell, unit or pin change, in the order it leaves. -/

namespace Sys2Proof.Machine

/-- Output balls that change at named instants (Table 20.2). -/
inductive Pin where
  | frameOut | ppsOut | thermTripN | hostIrqN | ldLow
  deriving DecidableEq, Repr

/-- One thing the block has put out at its balls, or a wake or interrupt to one of its own masters. -/
inductive Out where
  /-- A CAN frame (R387, R388). -/
  | can (cobId : Nat) (data : List Byte)
  /-- A UDP datagram on the management port (R392, R394). -/
  | udp (addr port : Nat) (data : List Byte)
  /-- The outcome of a completed write: 0, or the abort code (R561). -/
  | written (ctx : CtxId) (idx sub abort : Nat)
  /-- Bytes clocked out of the host port, or none while IO is in high impedance (R411). -/
  | host (data : List Byte)
  /-- A cell that leaves a chain port, 0 A and 1 B (R111). -/
  | cell (port : Fin 2) (c : Cell)
  /-- A unit that leaves a cascade link, 0 X and 1 Y (R77). -/
  | cascade (link : Fin 2) (u : CascadeUnit)
  /-- A receiver-detect step, a training frame's 4,096 symbols, a codeword's symbols, a CAP block, a marker, on a lane
  (R83, R86 to R97). -/
  | detectStep (lane : Fin 24)
  | training (lane : Fin 24) (symbols : List Int)
  | codeword (lane : Fin 24) (symbols : List Int)
  | capBlock (lane : Fin 24) (b : BitVec 256)
  | marker (lane : Fin 24) (m : BitVec 1360)
  /-- An injected error (R106): kind and size. -/
  | injected (lane : Fin 24) (kind size : Nat)
  /-- A frame sent on an Ethernet port of port C (R48 to R50): its own MAC address, VLAN identifier (0 untagged), destination
  address, protocol, data. -/
  | ethernet (port mac vlan : Nat) (dest proto : Nat) (data : List Byte)
  /-- A PTP Delay_Req: port and VLAN as PTP_PORT selects them, sequence, and whether it goes unicast to the grandmaster
  (R175). -/
  | delayReq (port vlan seq : Nat) (unicast : Bool)
  /-- A service frame on SVC SGMII (R494). -/
  | service (addr port : Nat) (frame : List Byte)
  /-- An AVSBus voltage write with commit, in mV, on a rail (R442, R443). -/
  | avsWrite (rail mv : Nat)
  /-- A frame on a lamp line: the high width and the rising edge of each pulse, in ps after the MARK's edge, and whether its CRC
  is complemented (R301, R304). -/
  | lampFrame (port : Fin 64) (pulses : List (Nat × Nat)) (complemented : Bool)
  /-- A pin takes a level. -/
  | pin (p : Pin) (level : Bool)
  /-- A master of the die is woken or interrupted (R423). -/
  | interrupt (master : BitVec 7)
  /-- The word that a master's read on the interconnect returns (R427). -/
  | masterRead (master : BitVec 7) (value : Word)
  /-- Bits that the TAP captures into the selected data register (R527). -/
  | tap (bits : List Bool)
  deriving DecidableEq, Repr

end Sys2Proof.Machine
end

