-- ==== Sys2Proof/Machine/PlatformState.lean ====
section
/-! DEFINITION. The state of the platform: clocks and levels, housekeeping, OTP, flash, calibration, the black
box, field update, the guards, the TAP, and the host port with its mailboxes and semaphores. -/

namespace Sys2Proof.Machine

/-- A functional clock domain (Table 15.1, DOMAIN_STATE). Held down follows from the role (R431). -/
structure Domain where
  /-- The automatic clock gate is closed (R436). -/
  gated : Bool
  /-- On the safe source XTAL (R433). -/
  safe : Bool
  /-- FORCED: lost cycles in a forced switch (R438). -/
  forced : Bool
  /-- Powered down, by a trip, a repeater-only mode or an unused port (R432, R462). -/
  powered : Bool
  /-- A switch is pending, to the safe source (true) or to the PLL (false) (R437). -/
  switching : Option Bool
  deriving DecidableEq, Repr

/-- A level change in progress (R442). -/
structure LevelChange where
  fromLevel : Nat
  toLevel : Nat
  /-- Step of Table 15.4 in progress, 1 to 4. -/
  stage : Nat
  deriving DecidableEq, Repr

/-- Clocks, power and reset bookkeeping (R431 to R453). -/
structure Clocks where
  dom : Vector Domain 60
  /-- PLL_LOCKED bits, in the order of 0x2D00:10. -/
  pllLocked : Vector Bool 8
  /-- PLLs that have lost lock since their domains last moved to them. -/
  pllLost : Vector Bool 8
  /-- Time at which each PLL regained lock after a loss, while its domains are still on the safe source. -/
  pllRelocked : Vector (Option Nat) 8
  /-- XTAL is lost and the always-on domain runs from its oscillator (R434). -/
  xtalLost : Bool
  /-- Clock-loss hold (R435). -/
  hold : Bool
  change : Option LevelChange
  /-- A level requested while a change is in progress (R442). -/
  requested : Option Nat
  /-- DVFS_MODE behaves as 1 with this level until the next cold start (R444). -/
  pinned : Option Nat
  /-- Level whose frequency the control clusters run at (R440). -/
  clusterLevel : Nat
  /-- Consecutive rounds with VDD_CORE more than 25 mV from its target (R444). -/
  vddOffRounds : Nat
  /-- A frequency measurement runs on this domain (R453). -/
  freqRun : Option Nat
  /-- Times of the supervisor watchdog expiries of the last 60 s (Table 15.6). -/
  wdtExpiries : List Nat
  /-- Device time at which each cluster watchdog was last restarted, supervisor and service (R526). -/
  wdtRestarted : Vector Nat 2
  /-- WDT_TIMEOUT in force in each cluster, ms (R526). -/
  wdtInForce : Vector Nat 2
  /-- Device time of the last cold reset, for UPTIME. -/
  coldAt : Nat
  /-- Device time at which the start in progress began, for START_MS. -/
  startAt : Nat
  /-- The start in progress has not yet reached light or ready (R448, R451). -/
  starting : Bool
  /-- The start in progress is a cold start. -/
  startCold : Bool
  /-- CRC-32 recorded when the resident image was loaded is good (R449). -/
  residentLoaded : Bool
  deriving DecidableEq, Repr

/-- One housekeeping channel (R456, R458). -/
structure Channel where
  /-- Published reading; 1/16 °C or mV. -/
  reading : Int
  valid : Bool
  /-- Consecutive rounds beyond the difference threshold. -/
  offRounds : Nat
  /-- Consecutive good rounds while invalid. -/
  goodRounds : Nat
  /-- Invalid only for lack of a reading. -/
  lacked : Bool
  deriving DecidableEq, Repr

/-- Supply supervision of one channel (R457). -/
structure Supply where
  badRounds : Nat
  goodRounds : Nat
  raised : Bool
  deriving DecidableEq, Repr

/-- Where the device stands in the trip cycle (R462, R463). -/
inductive TripPhase where
  | normal
  /-- Tripped and cooling since this device time. -/
  | cooling (since : Nat)
  /-- Cooled and latched. -/
  | latched
  deriving DecidableEq, Repr

/-- Housekeeping and thermal control, in the always-on domain (R456 to R465). -/
structure Thermal where
  chan : Vector Channel 96
  /-- Filtered die estimates T_f (R459). -/
  tf : Vector (Option Int) 8
  supply : Vector Supply 8
  phase : TripPhase
  /-- Consecutive rounds with every valid die sensor below 125 °C (R463). -/
  coolRounds : Nat
  /-- The trip history: device times of the trips (R463). Survives all but power-on. -/
  tripTimes : List Nat
  /-- The warning state (R461). -/
  warning : Bool
  /-- Consecutive rounds with both window quantities back by 3 °C (R465). -/
  windowGood : Nat
  /-- Event 0x7204 has been raised for the present lack of board sensors (R460). -/
  boardLost : Bool
  /-- Rounds since the last cold start (R458). -/
  coldRounds : Nat
  /-- Event 0x7203 has been raised for the present lack of die sensors (R459). -/
  dieFew : Bool
  deriving DecidableEq, Repr

/-- A port's OTP ceiling entry (R520). -/
structure Ceiling where
  maxGrey : Nat
  maxAvg : Nat
  refresh : Nat
  deriving DecidableEq, Repr

/-- An entry that is not programmed: no limit (R520). -/
def Ceiling.unlimited : Ceiling := { maxGrey := 65535, maxAvg := 65535, refresh := 65535 }

/-- One-time-programmable memory, and its shadow as read at the last cold start (R446, R520, R530). -/
structure Otp where
  /-- Programmed ceiling entries, by port. -/
  ceilings : Vector (Option Ceiling) 64
  /-- The CEIL_LOCK fuse. -/
  ceilLock : Bool
  /-- Ceilings in force: the shadow read at cold start. -/
  shadow : Vector Ceiling 64
  /-- VTRIM of each level, in 5 mV units (R440). -/
  vtrim : Vector Int 4
  /-- FLASH_RATE, MiB per hour (Table 19.1). -/
  flashRate : Nat
  /-- JTAG_MODE (R530). -/
  jtagMode : Nat
  /-- The VENDOR key (R383). -/
  vendorKey : BitVec 256
  /-- The vendor key that signs manifests (R502). -/
  signKey : BitVec 256
  deriving DecidableEq, Repr

/-- A flash program or erase step (R470). -/
inductive FlashStep where
  | erase (addr len : Nat)
  | program (addr : Nat) (bytes : List Byte)
  deriving DecidableEq, Repr

/-- Who asked for a flash job; its end depends on it. -/
inductive FlashPurpose where
  /-- Commit of the staged record with this RECORD_SEQ, to this slot (R486). -/
  | bbCommit (seq slot : Nat)
  /-- The ring's erase-ahead of a sector (R486). -/
  | bbAhead
  /-- BB_RESET_PINNED (R489). -/
  | bbPinned
  /-- A calibration copy (R478), storing the kinds of this mask. -/
  | cal (kinds : Nat)
  /-- A settings generation with this GEN (R473): 0 store, 1 restore, 2 factory, 3 migration, 4 the marks of a revert. -/
  | settings (gen kind : Nat)
  /-- A block of the session with this number (R500). -/
  | block (session n : Nat)
  /-- The boot pointer (R504). What follows it: 0 nothing, 1 cold reset, 2 confirmed,
  3 finalized. -/
  | pointer (next : Nat)
  deriving DecidableEq, Repr

/-- A flash job: steps still to run, its priority under R470 and what follows its end. -/
structure FlashJob where
  prio : Nat
  purpose : FlashPurpose
  steps : List FlashStep
  deriving DecidableEq, Repr

/-- One calibration kind's stored counts (Table 17.4). -/
structure CalKind where
  count : Nat
  disagree : Nat
  lastSec : Nat
  stored : Bool
  deriving DecidableEq, Repr

/-- Calibration values in RAM, as Table 17.4 stores them (R478). -/
structure Cal where
  gen : Nat
  kinds : Vector CalKind 3
  /-- Per lamp port: LOOP_DELAY in ps and ROLL_CRC, when stored. -/
  ports : Vector (Option (Nat × Nat)) 64
  /-- Die-sensor trims in 1/16 °C. -/
  trims : Vector Int 8
  /-- Per chain port, when stored: TOPO_CRC, and the base delays of stations 1 to N in ps, then the whole sums R_AB' and
  R_BA' of R188 in the place of station N + 1. -/
  chains : Vector (Option (Nat × List (Nat × Nat))) 2
  deriving DecidableEq, Repr

/-- A calibration run in progress: its kind (0 the provisional measurement of R189) and, for HOP_DELAY, the chain port
(R475). -/
structure CalRun where
  kind : Nat
  port : Nat
  /-- Die readings of the rounds so far, without the trims, oldest first (SENSOR_TRIM, R475). -/
  rounds : List (Vector Int 8)
  deriving DecidableEq, Repr

/-- A Flint record staged in a retention slot (R481, R484). -/
structure Flint where
  /-- RECORD_SEQ; none until the scan of R487 has numbered it. -/
  seq : Option Nat
  severe : Bool
  /-- Staged while the write window was closed: FLAGS [2]. -/
  outside : Bool
  event : Nat
  detail : Nat
  /-- Bytes 3 (flags [3], [4]) and 10 to 247 as built; the commit fills the rest. -/
  flags : Nat
  dropped : Nat
  body : List Byte
  deriving DecidableEq, Repr

/-- The black box (R481 to R489). -/
structure BlackBox where
  /-- Retention slots in use, oldest first, at most 32. -/
  slots : List Flint
  /-- The next RECORD_SEQ. -/
  nextSeq : Nat
  /-- The scan of R487 has completed since the last cold reset. -/
  scanned : Bool
  /-- The token bucket of R485 and the time it was last refilled. -/
  tokens : Nat
  tokensAt : Nat
  /-- Non-severe records suppressed since the previous record (R485). -/
  dropped : Nat
  /-- Records suppressed in the last minute. -/
  suppressedMinute : Nat
  /-- Next ring slot, 256 to 16,383 (R486). -/
  ringPos : Nat
  deriving DecidableEq, Repr

/-- The flash, its queue and its write-rate bucket (R468 to R470, R523). -/
structure Nvm where
  /-- Flash contents by byte address; erased bytes read 0xFF. -/
  flash : Sparse Byte
  /-- Jobs waiting, the one in progress first. -/
  jobs : List FlashJob
  /-- An operation has been issued and has not completed. -/
  issued : Bool
  /-- The bucket of R523, in bytes × 3.6 × 10^12, and the time it was last refilled. -/
  bucket : Nat
  bucketAt : Nat
  cal : Cal
  calRun : Option CalRun
  bb : BlackBox
  deriving DecidableEq, Repr

/-- The session record in the staging area of flash (R500). It outlives power. -/
structure SessionRecord where
  target : Nat
  mode : Nat
  digest : List Byte
  length : Nat
  number : Nat
  /-- Complete blocks, rising. -/
  complete : List Nat
  /-- Erased 64 KiB regions, rising. -/
  erased : List Nat
  /-- Block 0 is complete and its manifest is accepted. -/
  manifest : Bool
  deriving DecidableEq, Repr

/-- A block being gathered in RAM (R500). -/
structure Gather where
  block : Nat
  crc : Nat
  /-- The bytes that have arrived, by offset. -/
  bytes : Sparse Byte
  deriving DecidableEq, Repr

/-- The wall-update coordinator (R512 to R515). -/
structure WallUpdate where
  /-- Stations taken: chain port and station. -/
  stations : List (Nat × Nat)
  /-- Stations that have completed the present step. -/
  done : List (Nat × Nat)
  /-- STATE last reported by each station. -/
  reported : List ((Nat × Nat) × Nat)
  /-- Next block to broadcast. -/
  nextBlock : Nat
  /-- Repair rounds used (R512). -/
  rounds : Nat
  /-- Attempts at OPEN, and their TAG. -/
  opens : Nat
  openTag : Nat
  /-- Step within staging: 0 open, 1 write, 2 repair, 3 verify. -/
  stage : Nat
  digest : List Byte
  length : Nat
  slot : Nat
  /-- Context level and owner flag that started the update (R497). -/
  level : Nat
  owner : Bool
  /-- FINALIZE (true) or ROLLBACK (false) is being repeated. -/
  closing : Option Bool
  /-- The update failed at the arm, so that its end is state 7. -/
  failed : Bool
  /-- Device time of the instant F (R514). -/
  startedAt : Nat
  deriving DecidableEq, Repr

/-- A request that a requester has sent and that has no answer yet (R496). -/
structure SvcRequest where
  tag : Nat
  chain : Nat
  station : Nat
  frame : List Byte
  /-- Device time at which it was last sent. -/
  sentAt : Nat
  deriving DecidableEq, Repr

/-- Field update (R494 to R515). -/
structure Update where
  /-- The session record, in flash. -/
  record : Option SessionRecord
  /-- A session is open, from this source. -/
  session : Option SvcSource
  /-- The session's proof was the owner's (R499). -/
  ownerProof : Bool
  lastRequest : Nat
  gathers : List Gather
  /-- Nonce issued by HELLO and its time (R497). -/
  hello : Option (BitVec 128 × Nat)
  /-- The last answer of each source: source, TAG, answer (R496). -/
  answers : List (SvcSource × Nat × List Byte)
  /-- Frame named by an armed wall activation (R513). -/
  armed : Option Nat
  /-- Device time at which the confirmation timer runs out (R507). -/
  confirmAt : Option Nat
  nextSession : Nat
  wu : WallUpdate
  /-- Requests sent and not answered, oldest first (R496). -/
  requests : List SvcRequest
  nextTag : Nat
  /-- Frames originated on the chain so far, for PART (R494). -/
  frames : Nat
  /-- The answer that waits for the end of a boot-pointer write (R505, R514). -/
  reply : Option (SvcSource × List Byte)
  /-- Scalers already retired when the present trial was activated (R508). -/
  retiredBefore : BitVec 8
  /-- Migration of this trial start is complete (R509). -/
  migrated : Bool
  deriving DecidableEq, Repr

/-- The pixel-pipeline heartbeat guard (R521, R522). HEARTBEAT itself is 0x3200:01. -/
structure Heartbeat where
  /-- A heartbeat arrived in the present frame period. -/
  seen : Bool
  misses : Nat
  /-- Frames blanked so far. -/
  blanked : Nat
  /-- Kept banks may be read until this device time. -/
  replayUntil : Option Nat
  /-- Blanking ends at the next reference frame. -/
  ending : Bool
  /-- Blanked by the replay limit of R521, so that a bank written by either path ends it. -/
  byReplay : Bool
  deriving DecidableEq, Repr

/-- The instruction selected in the TAP (Table 19.3). -/
inductive TapInstr where
  | extest | idcode | samplePreload | extestPulse | extestTrain | clamp | highz | dbgUnlock | debug | mbist | bypass
  deriving DecidableEq, Repr

/-- The TAP (R527 to R530). -/
structure Tap where
  instr : TapInstr
  /-- DEBUG is unlocked until TAP reset. -/
  unlocked : Bool
  nonce : Option (BitVec 128)
  /-- The next nonce is offered only from this time (R530). -/
  nonceFrom : Nat
  /-- The balls are taken from the device logic until RESET_N (R529). -/
  ballsTaken : Bool
  /-- Every output ball is in high impedance (HIGHZ). -/
  highZ : Bool
  /-- The update stage of the boundary register. -/
  boundary : List Bool
  deriving DecidableEq, Repr

/-- A mailbox channel (Table 14.7). -/
structure MbChannel where
  msg : Vector Word 4
  full : Bool
  emptyEvt : Bool
  ackValid : Bool
  refused : Bool
  doorbell : Bool
  epochTx : BitVec 8
  epochRx : BitVec 8
  returnCode : BitVec 16
  deriving DecidableEq, Repr

/-- A mailbox channel at cold reset: every field 0. -/
def MbChannel.empty : MbChannel :=
  { msg := Vector.replicate 4 0, full := false, emptyEvt := false, ackValid := false, refused := false,
    doorbell := false, epochTx := 0, epochRx := 0, returnCode := 0 }

/-- A binding entry (Table 14.8). -/
structure Binding where
  sender : BitVec 7
  receiver : BitVec 7
  wake : Bool
  ackMode : Bool
  valid : Bool
  deriving DecidableEq, Repr

/-- A semaphore (Table 14.10); `held` is the BUSY seen by every master but the holder. -/
structure Semaphore where
  holder : BitVec 7
  lastWinner : BitVec 7
  held : Bool
  deriving DecidableEq, Repr

/-- The host port, mailboxes and semaphores (R409 to R429). -/
structure HostPort where
  /-- HP_CFG.DUMMY (Table 14.5). -/
  dummy : BitVec 4
  irqEn : BitVec 5
  /-- HP_IRQ_STAT.SDO_DONE. -/
  sdoDone : Bool
  /-- HP_ERR [4:0]: BAD_CMD, UNMAPPED, PARTIAL, SDO_BUSY, VIOLATION. -/
  err : BitVec 5
  sdoReq : Vector Byte 64
  sdoRsp : Vector Byte 64
  /-- HP_SDO_STAT: RSLT_STATE, RSP_LEN, RSLT_SEQ. -/
  rsltState : BitVec 2
  rspLen : BitVec 8
  rsltSeq : BitVec 16
  mailbox : Vector MbChannel 128
  bind : Vector Binding 128
  lock : Bool
  /-- MB_VIOL. -/
  violations : Nat
  sem : Vector Semaphore 32
  /-- SEM_ORPHAN. -/
  orphan : BitVec 32
  deriving DecidableEq, Repr

/-- The clocks as a power-on reset leaves them: every PLL-fed domain on the safe source, no PLL locked. -/
def Clocks.reset : Clocks where
  dom := Vector.replicate 60 { gated := false, safe := true, forced := false, powered := true, switching := none }
  pllLocked := Vector.replicate 8 false
  pllLost := Vector.replicate 8 false
  pllRelocked := Vector.replicate 8 none
  xtalLost := false
  hold := false
  change := none
  requested := none
  pinned := none
  clusterLevel := 2
  vddOffRounds := 0
  freqRun := none
  wdtExpiries := []
  wdtRestarted := Vector.replicate 2 0
  wdtInForce := Vector.replicate 2 100
  coldAt := 0
  startAt := 0
  starting := true
  startCold := true
  residentLoaded := false

/-- Housekeeping as a power-on reset leaves it. No channel has a reading before the first round. -/
def Thermal.reset : Thermal where
  chan := Vector.replicate 96 { reading := 0, valid := false, offRounds := 0, goodRounds := 0, lacked := true }
  tf := Vector.replicate 8 none
  supply := Vector.replicate 8 { badRounds := 0, goodRounds := 0, raised := false }
  phase := .normal
  coolRounds := 0
  tripTimes := []
  warning := false
  windowGood := 0
  boardLost := false
  coldRounds := 0
  dieFew := false

/-- OTP as the factory leaves it: nothing programmed. -/
def Otp.blank : Otp where
  ceilings := Vector.replicate 64 none
  ceilLock := false
  shadow := Vector.replicate 64 Ceiling.unlimited
  vtrim := Vector.replicate 4 0
  flashRate := 64
  jtagMode := 0
  vendorKey := 0
  signKey := 0

/-- No calibration stored. -/
def Cal.blank : Cal where
  gen := 0
  kinds := Vector.replicate 3 { count := 0, disagree := 0, lastSec := 0, stored := false }
  ports := Vector.replicate 64 none
  trims := Vector.replicate 8 0
  chains := Vector.replicate 2 none

/-- An empty black box (R485: 32 tokens). -/
def BlackBox.reset : BlackBox where
  slots := []
  nextSeq := 0
  scanned := false
  tokens := 32
  tokensAt := 0
  dropped := 0
  suppressedMinute := 0
  ringPos := 256

/-- The flash erased and idle, the bucket full at one hour's default allowance. -/
def Nvm.reset : Nvm where
  flash := []
  jobs := []
  issued := false
  bucket := 64 * 1048576 * 3600000000000
  bucketAt := 0
  cal := Cal.blank
  calRun := none
  bb := BlackBox.reset

/-- No wall update. -/
def WallUpdate.idle : WallUpdate :=
  { stations := [], done := [], reported := [], nextBlock := 0, rounds := 0, opens := 0, stage := 0, digest := [],
    length := 0, slot := 0, level := 1, owner := false, closing := none, startedAt := 0, openTag := 0, failed := false }

/-- No session and no update. -/
def Update.reset : Update where
  record := none
  session := none
  ownerProof := false
  lastRequest := 0
  gathers := []
  hello := none
  answers := []
  armed := none
  confirmAt := none
  nextSession := 1
  wu := WallUpdate.idle
  requests := []
  nextTag := 0
  frames := 0
  reply := none
  retiredBefore := 0
  migrated := false

/-- The guard disarmed. -/
def Heartbeat.reset : Heartbeat :=
  { seen := false, misses := 0, blanked := 0, replayUntil := none, ending := false, byReplay := false }

/-- The TAP after TAP reset: IDCODE selected, DEBUG locked (R527, R530). -/
def Tap.reset : Tap :=
  { instr := .idcode, unlocked := false, nonce := none, nonceFrom := 0, ballsTaken := false, highZ := false,
    boundary := [] }

/-- The host port at cold reset: DUMMY 8, every semaphore free with LAST_WINNER 0x4A. -/
def HostPort.reset : HostPort where
  dummy := 8
  irqEn := 0
  sdoDone := false
  err := 0
  sdoReq := Vector.replicate 64 0
  sdoRsp := Vector.replicate 64 0
  rsltState := 0
  rspLen := 0
  rsltSeq := 0
  mailbox := Vector.replicate 128 MbChannel.empty
  bind := Vector.replicate 128 { sender := 0, receiver := 0, wake := false, ackMode := false, valid := false }
  lock := false
  violations := 0
  sem := Vector.replicate 32 { holder := 0, lastWinner := 0x4A, held := false }
  orphan := 0

end Sys2Proof.Machine
end

