-- ==== Sys2Proof/Machine/VideoState.lean ====
section
/-! DEFINITION. The state of the picture path: a sender's streams, frame synchroniser and region map (R46 to R80),
a tile's frame store, layers, generations and commit (R202 to R261), and its colour path and lamp staging memory
(R262 to R296). Wall times are in units of 2^-16 ns. -/

namespace Sys2Proof.Machine

/-! ### Sender: streams -/

/-- The stored samples of a source frame: the rows as received, by line × 65536 + byte offset, or a JPEG XS
codestream, whose decoded samples it determines (R58). -/
inductive SrcData where
  | rows (bytes : Sparse Byte)
  | codestream (bytes : List Byte)
  deriving DecidableEq, Repr

/-- A packet of a JPEG XS frame: its extended sequence number, the fields of the payload header of RFC 9134 that place it
(K, L, SEP and P), and its data (R52). -/
structure JxsPacket where
  ext : Nat
  slices : Bool
  last : Bool
  sep : Nat
  p : Nat
  data : List Byte
  deriving DecidableEq, Repr

/-- A frame being received (R57). -/
structure OpenFrame where
  ts : BitVec 32
  rows : Sparse Byte
  packets : List JxsPacket
  firstAt : Nat
  /-- Device time at which it closes for a later timestamp, once one has arrived (R57). -/
  closeBy : Option Nat
  /-- The packet with the marker bit has come. -/
  marked : Bool
  deriving DecidableEq, Repr

/-- A complete frame in a stream's ring (R59). -/
structure SrcFrame where
  ts : BitVec 32
  /-- Wall time given by the RTP timestamp (R60). -/
  wall : Nat
  data : SrcData
  /-- It closed complete; an incomplete frame stands here only for its timestamp (R57, R60). -/
  complete : Bool
  /-- It has been selected for some wall frame (R64). -/
  used : Bool
  deriving DecidableEq, Repr

/-- A packet number that a stream has passed: since when, and on which paths it has come (R55). -/
structure PacketWait where
  num : Nat
  since : Nat
  got : Vector Bool 2
  deriving DecidableEq, Repr

/-- One stream of a sender. Its parameters and counters are 0x2400+n. -/
structure StreamRun where
  /-- Extended sequence numbers taken, newest first, with the arrival time and the path; kept 1 s (log entry 121). -/
  seen : List (Nat × Nat × Nat)
  /-- Newest extended sequence number of the stream; they run modulo 2^32 (R56). -/
  top : Option Nat
  /-- Packet numbers not yet judged as arrived or missing, newest first (R55). -/
  waits : List PacketWait
  lastArrival : Vector Nat 2
  lost : Vector Bool 2
  /-- Frames open, and timestamps of the last frames closed with the device time of their first packet, newest first (R57). -/
  opens : List OpenFrame
  closed : List (BitVec 32 × Nat)
  /-- JPEG XS frames that have closed and wait for the decoder, oldest first. -/
  decoding : List OpenFrame
  /-- Complete frames held, newest first. -/
  ring : List SrcFrame
  /-- Selections by wall frame, newest first: the RTP timestamp, or none for NONE (R60 to R62). -/
  selected : List (Nat × Option (BitVec 32))
  /-- Arrival times of the last frames, newest first, and frames since the stream was enabled (R64). -/
  arrivals : List Nat
  frames : Nat
  /-- Device time of the second unsolicited IGMP report, while one is due (R50). -/
  reportAt : Option Nat
  deriving DecidableEq, Repr

/-- A stream that is off. -/
def StreamRun.off : StreamRun where
  seen := []
  top := none
  waits := []
  lastArrival := Vector.replicate 2 0
  lost := Vector.replicate 2 false
  opens := []
  closed := []
  decoding := []
  ring := []
  selected := []
  arrivals := []
  frames := 0
  reportAt := none

/-- A pending activation of a region map (R74). -/
structure MapPending where
  frame : Nat
  gen : Nat
  geom : List Byte
  regions : List Byte
  /-- Priorities that have accepted, and those that have refused. -/
  accepted : List Nat
  refused : List Nat
  /-- Cause and region of the first refusal that another sender has answered (R80). -/
  why : Option (Nat × Nat)
  /-- Every sender has accepted it, so that it takes effect at its frame. -/
  go : Bool
  deriving DecidableEq, Repr

/-- The commit of a chain that its control sender is carrying out (R250). -/
structure ChainCommit where
  frame : Nat
  gen : Nat
  mapGen : Nat
  /-- Stations whose management transactions have completed. -/
  stations : List Nat
  /-- Outstanding writes: station and the writes still to complete. -/
  waiting : List (Nat × Nat)
  /-- The map was refused: send ABORT in place of COMMIT. -/
  abort : Bool
  /-- COMMITs sent. -/
  sent : Nat
  deriving DecidableEq, Repr

/-- Source ingress and the region map of a sender. -/
structure Ingress where
  /-- LPDDR5X fitted, GiB: 8, 16 or 32, as read from the memory at the last cold start. -/
  fitted : Nat
  stream : Vector StreamRun 32
  /-- Until when each Ethernet port stays in IGMPv2 compatibility mode (R50). -/
  igmpV2 : Vector (Option Nat) 8
  /-- Ethernet frames dropped and counted (R49), by Ethernet port. -/
  ethDropped : Vector Nat 8
  /-- The region map in force: 0x2500:01 and :02 as activated. -/
  geom : List Byte
  regions : List Byte
  pending : Option MapPending
  /-- Parts of a map that another sender is distributing: object sub-index, offset and bytes. -/
  parts : List (Nat × Nat × List Byte)
  commit : Vector (Option ChainCommit) 2
  /-- Generation in force in each chain and the frame since which it is: STAGE_GEN, MAP_GEN, SINCE. -/
  genInForce : Vector (Nat × Nat × Nat) 2
  /-- BLEND_SPACE of the wall as a context last wrote it, and as the tiles last got it (R269). -/
  blend : Nat
  blendSent : Nat
  /-- COLORIMETRY, TCS and SAMPLING of each stream as the tiles last got them (R55, R75). -/
  colours : Vector Nat 32
  /-- Frame in which the last frustum record came, whether a rectangle is in use and the stale event is out (R337). -/
  frustumFrame : Nat
  frustumUsed : Bool
  frustumStale : Bool
  deriving DecidableEq, Repr

/-- Ingress after a cold reset. -/
def Ingress.reset : Ingress where
  fitted := 8
  stream := Vector.replicate 32 StreamRun.off
  igmpV2 := Vector.replicate 8 none
  ethDropped := Vector.replicate 8 0
  geom := []
  regions := []
  pending := none
  parts := []
  commit := Vector.replicate 2 none
  genInForce := Vector.replicate 2 (0, 0, 0)
  blend := 0
  blendSent := 0
  colours := Vector.replicate 32 0
  frustumFrame := 0
  frustumUsed := false
  frustumStale := false

/-! ### Tile: generations, frame store and composition -/

/-- A configuration generation G(F): the commit-bound values in force from a frame (R247). -/
structure Gen where
  gen : Nat
  frame : Nat
  /-- Values of the commit-bound objects, keyed as the dictionary is. -/
  od : Sparse Val
  /-- Group membership: the DEST values of 0x100 to 0xFFE, rising (R32). -/
  groups : List Nat
  /-- Region-map generation (R117). -/
  mapGen : Nat
  /-- GEN of the last chain commit that it holds, by COMMIT or GEN_STATE (R252). -/
  chained : Option Nat
  /-- WINDOW under which each layer's region buffers are laid out: a refused layer keeps its buffers (R205, R237). -/
  bufWin : Vector Nat 8
  /-- Layers shown only by the fallback fill of a refusal (R237). -/
  filled : Vector Bool 8
  scaler : Vector (Option Nat) 8
  deriving DecidableEq, Repr

/-- A frame buffer of one region: its geometry and the cells that have arrived, by offset (R203, R204). -/
structure FrameBuf where
  region : Nat
  slate : Bool
  fmt : Nat
  segLo : Nat
  segs : Nat
  rowLo : Nat
  rows : Nat
  cells : Sparse (List Byte)
  deriving DecidableEq, Repr

/-- What a layer holds of one frame, with the bindings under which it was received (R243). -/
structure LayerFrame where
  frame : Nat
  bufs : List FrameBuf
  binds : List (List Byte)
  deriving DecidableEq, Repr

/-- A cell of the early store, in order of acceptance (R207). -/
structure EarlyCell where
  frame : Nat
  layer : Nat
  region : Nat
  row : Nat
  seg : Nat
  payload : List Byte
  deriving DecidableEq, Repr

/-- What a layer shows in a frame (SHOWN, Table 8.8). -/
inductive Shown where
  | fresh | substituted | repeated | fill | absent
  deriving DecidableEq, Repr

/-- The frame store (R202 to R222). -/
structure FrameStore where
  /-- The frame that fills the region buffers; none until the first fill buffer opens (R209). -/
  filling : Option Nat
  fill : Vector (List FrameBuf) 8
  current : Vector (Option LayerFrame) 8
  early : List EarlyCell
  earlyDrops : List Nat
  deriving DecidableEq, Repr

/-- A bank of the lamp staging memory (R274, R292). -/
structure Bank where
  frame : Nat
  writing : Bool
  /-- Rendered from the start image by the supervisor, not by the compositor (R521). -/
  start : Bool
  /-- Codes of each port in canonical order, after the grey ceiling. -/
  codes : Vector (List Nat) 64
  /-- Scale s of each port, and how many of its codes the ceiling clamped. -/
  scale : Vector Nat 64
  clamped : Vector Nat 64
  deriving DecidableEq, Repr

/-- A commit that has been requested (R248 to R252). -/
structure CommitPending where
  frame : Nat
  fromChain : Bool
  /-- GEN and MAP_GEN of the COMMIT or GEN_STATE that named it. -/
  gen : Option Nat
  mapGen : Option Nat
  /-- The frame that a COMMIT named, until event 0x510B has told that it is held (R249). -/
  named : Option Nat
  /-- Why it is applied late: the cause of event 0x5101, or 0. -/
  late : Nat
  /-- It found four generations in flight and waits for a GEN_STATE (R249). -/
  full : Bool
  deriving DecidableEq, Repr

/-- The held frame: the start image, the last composed frame recomposed, or banks kept from before a warm reset
(R163, R164, R291, R450). -/
inductive Held where
  | startImage | recompose | banks
  deriving DecidableEq, Repr

/-- Composition and the commit machinery of a tile. -/
structure Compose where
  /-- Generations held, newest first. -/
  gens : List Gen
  pending : Option CommitPending
  /-- The frame being composed and what each layer shows in it. -/
  frame : Nat
  shown : Vector Shown 8
  /-- The slot whose composition is running, and how many slots of the frame are done. -/
  slot : Option Nat
  slotsDone : Nat
  /-- The memory errors met in the blending of each slot of the frame composed: they and the frame held fix its blended
  result, which a later slot with the same bindings takes (R234). -/
  blended : Vector (Option Damage) 4
  /-- Slots of the present frame that overran, and frames in a row with an overrun (R255). -/
  overran : Bool
  overrunRun : Nat
  /-- The first frame in which any layer was ready (R253). -/
  firstReady : Option Nat
  /-- What is presented while PRESENTING is 0. -/
  held : Held
  bank : Vector (Option Bank) 8
  /-- The set that holds each slot's last complete bank, and the last frame in which the slot overran. -/
  last : Vector (Option Nat) 4
  lastOver : Vector (Option Nat) 4
  deriving DecidableEq, Repr

/-- A load of correction records in progress (R279). -/
structure CorrLoad where
  image : Nat
  bytes : List Byte
  deriving DecidableEq, Repr

/-- The colour path of a tile (R262 to R296). -/
structure Colour where
  /-- TILE_PEAK and SDR_WHITE as they stood at this start (R267). -/
  tilePeak : Nat
  sdrWhite : Nat
  /-- CORR_SELECT in force before any generation is: that of the settings at the start (R280). -/
  select : Nat
  /-- The correction image in force; none for "none" (R277). -/
  corr : Option (List Byte)
  load : Option CorrLoad
  /-- The image under verification, and whether each image has verified valid since the last write to it. -/
  verifying : Option Nat
  verified : Vector Bool 2
  /-- T_est of each port in 1/16 °C, once the first round has set it (R282). -/
  tEst : Vector (Option Int) 64
  /-- Relative sum of each port's codes in 2^-32, added up over the slots composed in this housekeeping round, and
  how many those are (R282). -/
  duty : Vector Nat 64
  dutySlots : Nat
  /-- The value u of the last round that composed a slot, in 2^-16 (R282). -/
  heat : Vector Nat 64
  /-- Gains computed in the last round, and those latched for the frame being composed (R283, R284). -/
  gain : Vector (Vector Nat 4) 64
  gainLatched : Vector (Vector Nat 4) 64
  /-- Ports substituting a sensor now. -/
  subst : BitVec 64
  /-- Wall derate values received and the frame each applies from, newest first (R288). -/
  wall : List (Nat × Nat)
  /-- Rereads of correction records that are due: record word and pixel row (R278). -/
  rereads : List (Nat × Nat)
  /-- Records that give d = 0 until reread. -/
  damaged : List Nat
  deriving DecidableEq, Repr

/-- The tile's picture path. -/
structure Video where
  store : FrameStore
  compose : Compose
  colour : Colour
  deriving DecidableEq, Repr

/-- An empty frame store (R209). -/
def FrameStore.empty : FrameStore where
  filling := none
  fill := Vector.replicate 8 []
  current := Vector.replicate 8 none
  early := []
  earlyDrops := []

/-- No configuration in force (R253). -/
def Compose.reset : Compose where
  gens := []
  pending := none
  frame := 0
  shown := Vector.replicate 8 .absent
  slot := none
  slotsDone := 0
  blended := Vector.replicate 4 none
  overran := false
  overrunRun := 0
  firstReady := none
  held := .startImage
  bank := Vector.replicate 8 none
  last := Vector.replicate 4 none
  lastOver := Vector.replicate 4 none

/-- The colour path after a cold reset: no correction image. -/
def Colour.reset : Colour where
  tilePeak := 1000
  select := 0
  sdrWhite := 203
  corr := none
  load := none
  verifying := none
  verified := Vector.replicate 2 false
  tEst := Vector.replicate 64 none
  duty := Vector.replicate 64 0
  dutySlots := 0
  heat := Vector.replicate 64 0
  gain := Vector.replicate 64 (Vector.replicate 4 16384)
  gainLatched := Vector.replicate 64 (Vector.replicate 4 16384)
  subst := 0
  wall := []
  rereads := []
  damaged := []

/-- The picture path after a cold reset. -/
def Video.reset : Video := { store := FrameStore.empty, compose := Compose.reset, colour := Colour.reset }

end Sys2Proof.Machine
end

