-- ==== Sys2Proof/Machine/State.lean ====
section
/-! DEFINITION. The state of the block, the reasons a step can stop, and the state right after reset. -/

namespace Sys2Proof.Machine

/-- Reasons for a fault. No meaning of this model raises one: the spec gives every command an effect. -/
inductive Fault where
  /-- Raised by nothing; it keeps the type inhabited. Safe. -/
  | unused
  deriving DecidableEq, Repr

/-- Reasons for a refusal. -/
inductive Refusal where
  /-- Raised only by an arm of `exec` whose command has no meaning yet, named by its mnemonic. Safe. -/
  | notModelled (mnemonic : String)
  deriving DecidableEq, Repr

/-- The whole block. -/
structure State where
  /-- Device time since power-on, ns; the model's clock for every interval the spec states. -/
  now : Nat
  /-- The role latched at cold reset (R1). -/
  role : Role
  life : Life
  /-- STRAPS as read at cold reset, 0x2000:04 (R538). -/
  straps : BitVec 4
  /-- Every supply monitor reads good (R544). -/
  railsGood : Bool
  /-- Values of the object dictionary, by index × 256 + sub-index; an unlisted object reads its default. For
  commit-bound objects this is the staging bank (R246). -/
  od : Sparse Val
  control : Control
  clocks : Clocks
  thermal : Thermal
  otp : Otp
  nvm : Nvm
  update : Update
  beat : Heartbeat
  tap : Tap
  hostPort : HostPort
  lanes : Lanes
  quartz : Quartz
  tile : TileChain
  ports : Vector ChainPort 2
  cascade : Cascade
  ingress : Ingress
  video : Video
  lamps : Lamps
  /-- What the block has put out, oldest first. -/
  sent : List Out
  /-- How many free values have been taken; nothing in the spec, and no statement rests on it. -/
  freeCount : Nat
  /-- Commands waiting, first in, first out. -/
  pending : List Instr
  deriving DecidableEq, Repr

/-- The block right after a power-on reset, before its release: no role, nothing sampled, flash erased. -/
def State.reset : State where
  now := 0
  role := .none
  life := .inReset
  straps := 0
  railsGood := false
  od := []
  control := Control.reset
  clocks := Clocks.reset
  thermal := Thermal.reset
  otp := Otp.blank
  nvm := Nvm.reset
  update := Update.reset
  beat := Heartbeat.reset
  tap := Tap.reset
  hostPort := HostPort.reset
  lanes := Lanes.reset
  quartz := Quartz.reset
  tile := TileChain.reset
  ports := Vector.replicate 2 ChainPort.reset
  cascade := Cascade.reset
  ingress := Ingress.reset
  video := Video.reset
  lamps := Lamps.reset
  sent := []
  freeCount := 0
  pending := []

end Sys2Proof.Machine
end

