-- ==== Sys2Proof/Machine/Ops.lean ====
section
/-! DEFINITION. The named operations that every family shares: reading and writing dictionary values, output, the
result convention, raising events, and the black box's retention slots. -/

namespace Sys2Proof.Machine

open Host

/-- The outcome type of every meaning. -/
abbrev Out1 := Outcome State Fault Refusal

/-! ### Dictionary values -/

/-- The number of a value. -/
def Val.toInt : Val → Int
  | .num v => v
  | .data b => leNat b

/-- The bytes of a value. -/
def Val.toData : Val → List Byte
  | .num _ => []
  | .data b => b

/-- What an object reads as from the store. -/
def State.rd (s : State) (idx sub : Nat) : Val := Sparse.get (odDefault s.role) s.od (key idx sub)

/-- A signed object. -/
def State.rdI (s : State) (idx sub : Nat) : Int := (s.rd idx sub).toInt

/-- An unsigned object. -/
def State.rdN (s : State) (idx sub : Nat) : Nat := (s.rdI idx sub).toNat

/-- A BOOLEAN object. -/
def State.rdB (s : State) (idx sub : Nat) : Bool := s.rdI idx sub != 0

/-- A DOMAIN object. -/
def State.rdD (s : State) (idx sub : Nat) : List Byte := (s.rd idx sub).toData

/-- Store the value of an object. -/
def State.wr (s : State) (idx sub : Nat) (v : Val) : State :=
  { s with od := Sparse.set (odDefault s.role) s.od (key idx sub) v }

/-- Store a signed object. -/
def State.wrI (s : State) (idx sub : Nat) (v : Int) : State := s.wr idx sub (.num v)

/-- Store an unsigned object. -/
def State.wrN (s : State) (idx sub : Nat) (v : Nat) : State := s.wr idx sub (.num v)

/-- Store a BOOLEAN object. -/
def State.wrB (s : State) (idx sub : Nat) (v : Bool) : State := s.wr idx sub (.num (if v then 1 else 0))

/-- Store a DOMAIN object. -/
def State.wrD (s : State) (idx sub : Nat) (b : List Byte) : State := s.wr idx sub (.data b)

/-- Bytes of an object's type, 8 where it has none of its own. -/
def State.width (s : State) (idx sub : Nat) : Nat :=
  match odFind s.role idx sub with
  | some r => if r.ty.size = 0 then 8 else r.ty.size
  | none => 8

/-- Add to a counter; counters are snapshots that saturate (R109, R143, R221, R257, R295, R325, R377). -/
def State.bump (s : State) (idx sub n : Nat) : State :=
  s.wrN idx sub (min (s.rdN idx sub + n) (umax (s.width idx sub)))

/-- Set several objects of one index to 0. -/
def State.zero (s : State) (idx : Nat) (subs : List Nat) : State :=
  subs.foldl (fun s b => s.wrN idx b 0) s

/-! ### Output and free values -/

/-- Put something out. -/
def State.emit (s : State) (o : Out) : State := { s with sent := s.sent ++ [o] }

/-- Put several things out, in order. -/
def State.emits (s : State) (os : List Out) : State := { s with sent := s.sent ++ os }

/-- A new 16-byte nonce (R383, R497, R530): a free value. -/
def State.nonce (s : State) : BitVec 128 × State :=
  (Config.freeNonce s.freeCount, { s with freeCount := s.freeCount + 1 })

/-- A number the spec leaves open: a free value. -/
def State.freeNat (s : State) : Nat × State :=
  (Config.freeNat s.freeCount, { s with freeCount := s.freeCount + 1 })

/-! ### Time -/

/-- One second of device time. -/
def second : Nat := 1000000000

/-- One millisecond of device time. -/
def ms : Nat := 1000000

/-- 2^-16 ns units in one nanosecond of wall time (R170). -/
def subNs : Nat := 65536

/-- Wall seconds, 48 bits (R170). -/
def State.wallSec (s : State) : Nat := s.quartz.wall / (subNs * second) % 2 ^ 48

/-- Wall nanoseconds within the second (R170). -/
def State.wallNs (s : State) : Nat := s.quartz.wall / subNs % second

/-- UPTIME in ms since the last cold reset (Table 13.9). -/
def State.uptime (s : State) : Nat := (s.now - s.clocks.coldAt) / ms

/-- The largest slew in ppm: SLEW_MAX on a sender (R176), 100 ppm on a tile (R183). -/
def State.slewPpm (s : State) : Nat := if s.role == .tile then 100 else s.rdN 0x2600 0x1D

/-- What an interval in ns adds to wall time beyond its nominal length: the frequency held, and of the offset still to
slew no more than the limit allows (R176, R183), 2^-16 ns. -/
def State.drift (s : State) (ns : Nat) : Int :=
  let lim : Int := ns * subNs * s.slewPpm / 1000000
  ns * subNs * s.quartz.ppb / 1000000000 + max (-lim) (min lim s.quartz.slew)

/-- The offset still to slew after an interval. -/
def State.slewLeft (s : State) (ns : Nat) : Int :=
  let lim : Int := ns * subNs * s.slewPpm / 1000000
  s.quartz.slew - max (-lim) (min lim s.quartz.slew)

/-- Bring device time, and wall time with it, forward to an instant that has come. Time never runs back. -/
def State.until_ (s : State) (t : Nat) : State :=
  if t ≤ s.now then s
  else
    let ns := t - s.now
    { s with
      now := t
      quartz := { s.quartz with
        wall := s.quartz.wall + (ns * subNs + s.drift ns).toNat
        slew := s.slewLeft ns } }

/-- Let an interval pass. -/
def State.pass (s : State) (ns : Nat) : State := s.until_ (s.now + ns)

/-- Bring wall time, and device time with it, forward to a wall instant (2^-16 ns units): device time by the interval less
what drift and slew add to wall time in it. -/
def State.untilWall (s : State) (w : Nat) : State :=
  if w ≤ s.quartz.wall then s
  else
    let ns := (w - s.quartz.wall) / subNs
    { s with
      now := s.now + (ns - s.drift ns / subNs).toNat
      quartz := { s.quartz with wall := w, slew := s.slewLeft ns } }

/-- T_frame(F) in 2^-16 ns units, computed exactly and rounded down (R171); F may lie before F_BASE. -/
def TimingSet.tFrame (t : TimingSet) (f : Nat) : Nat :=
  ((t.tBase : Int) + ((f : Int) - t.fBase) * (t.den * (second * subNs)) / t.num).toNat

/-- The wall frame period in 2^-16 ns units, rounded down (R171). -/
def TimingSet.period (t : TimingSet) : Nat := t.den * (second * subNs) / t.num

/-- The wall frame period in ns, rounded down. -/
def TimingSet.periodNs (t : TimingSet) : Nat := t.den * second / t.num

/-- The frame in progress at a wall time (R171). -/
def TimingSet.frameAt (t : TimingSet) (w : Nat) : Nat :=
  ((t.fBase : Int) + ((w : Int) - t.tBase) * t.num / (t.den * (second * subNs))).toNat

/-- A new set as it stands from frame Fc on: F_BASE becomes Fc, and T_BASE the T_frame(Fc) of the old set (R192). -/
def TimingSet.rebase (old new : TimingSet) (fc : Nat) : TimingSet := { new with fBase := fc, tBase := old.tFrame fc }

/-- T_present(F) in 2^-16 ns units (R171). -/
def TimingSet.tPresent (t : TimingSet) (f : Nat) : Nat := t.tFrame f + t.d * subNs

/-! ### The result convention (R12 to R17) -/

/-- The RESULT_SEQ after a publication: 0xFFFF wraps to 1 (R15). -/
def nextSeq (n : Nat) : Nat := if n = 0xFFFF then 1 else n + 1

/-- Begin a run: RESULT_STATE 1, everything else as it was (R14). -/
def State.startRun (s : State) (idx stSub : Nat) : State := s.wrN idx stSub 1

/-- A run is in progress (R16). -/
def State.isRunning (s : State) (idx stSub : Nat) : Bool := s.rdN idx stSub == 1

/-- Publish the end of a run: RESULT_STATE 2 or 3 and the next RESULT_SEQ (R15). -/
def State.publish (s : State) (idx stSub seqSub : Nat) (ok : Bool) : State :=
  (s.wrN idx stSub (if ok then 2 else 3)).wrN idx seqSub (nextSeq (s.rdN idx seqSub))

/-! ### Abort codes (Table 13.1) -/

def abToggle : Nat := 0x05030000
def abTimeout : Nat := 0x05040000
def abCommand : Nat := 0x05040001
def abBlockSize : Nat := 0x05040002
def abSequence : Nat := 0x05040003
def abCrc : Nat := 0x05040004
def abLevel : Nat := 0x06010000
def abWriteOnly : Nat := 0x06010001
def abReadOnly : Nat := 0x06010002
def abNoObject : Nat := 0x06020000
def abNotMappable : Nat := 0x06040041
def abPdoLength : Nat := 0x06040042
def abLength : Nat := 0x06070010
def abTooLong : Nat := 0x06070012
def abNoSub : Nat := 0x06090011
def abRange : Nat := 0x06090030
def abCannot : Nat := 0x08000020
def abOwner : Nat := 0x08000021
def abState : Nat := 0x08000022

/-! ### Codes of states that objects report -/

/-- CSTATE of Table 5.2. -/
def CState.code : CState → Nat
  | .eligible => 0 | .notEligible => 1 | .control => 2 | .relinquishing => 3 | .single => 4

/-- STATE of R176. -/
def QState.code : QState → Nat
  | .freeRunning => 0 | .acquiring => 1 | .locked => 2 | .holdover => 3

/-- ROLE of Table 13.9. -/
def Role.code : Role → Nat
  | .none => 0 | .sender => 1 | .tile => 2

/-- The device runs its control clusters. -/
def State.up (s : State) : Bool := s.life == .running

/-- The device runs as a sender. -/
def State.isSender (s : State) : Bool := s.up && s.role == .sender

/-- The device runs as a tile. -/
def State.isTile (s : State) : Bool := s.up && s.role == .tile

/-- Repeater-only mode is commanded: REPEAT_ONLY of a tile (R140, R143). -/
def State.commanded (s : State) : Bool := s.role == .tile && s.rdB 0x2200 0x04

/-- The tile is in repeater-only mode (R140). -/
def State.repeatOnly (s : State) : Bool := s.commanded || s.tile.pixelFault || s.tile.thermal

/-- MODE of 0x2200:05: the highest-numbered cause that holds (R140). -/
def State.modeCode (s : State) : Nat :=
  if s.tile.thermal then 3 else if s.tile.pixelFault then 2 else if s.commanded then 1 else 0

/-- THERMAL of Table 5.3, in its order of precedence (R461). -/
def State.thermalCode (s : State) : Nat :=
  if s.thermal.phase ≠ .normal then 3
  else if s.rdN 0x2E00 0x07 < 4096 then 2
  else if s.thermal.warning then 1 else 0

/-- Whether the flash write window is open (R465). -/
def State.windowOpen (s : State) : Bool := s.rdB 0x2E00 0x0F

/-! ### Events (R18 to R22) -/

/-- The error-register class of an event: 0 thermal, 1 lane, chain or redundancy, 2 other (R391). -/
def eventClass (code : Nat) : Fin 3 :=
  if code / 4096 = 7 then 0 else if 2 ≤ code / 4096 ∧ code / 4096 ≤ 4 then 1 else 2

/-- The error register that a set of class timers gives (R391). -/
def errorRegister (t : Vector (Option Nat) 3) : Nat :=
  let b := bitAt t[0].isSome 3 + bitAt t[1].isSome 4 + bitAt t[2].isSome 7
  if b = 0 then 0 else b + 1

/-- The 8 bytes of an EMCY (R21). -/
def emcyBytes (err reg code detail : Nat) : List Byte :=
  leBytes 2 err ++ leBytes 1 reg ++ leBytes 2 code ++ leBytes 3 detail

/-- EMCY_COBID: what was written, else 0x080 + the node ID in force (Table 13.8). -/
def State.emcyCobId (s : State) : Nat :=
  match Sparse.find? s.od (key 0x1014 0) with
  | some v => v.toInt.toNat
  | none => 0x80 + s.control.nodeId

/-- The CAN node may send an EMCY in its NMT state (R388, R390). -/
def State.emcyAllowed (s : State) : Bool :=
  s.role == .sender && s.control.nodeId != 0xFF &&
    (s.control.nmt == .preOperational || s.control.nmt == .operational)

/-- Send the oldest EMCY held back, once EMCY_INHIBIT allows it (R387, Table 13.8). -/
def State.drainEmcy (s : State) : State :=
  match s.control.emcyQueue with
  | [] => s
  | m :: rest =>
    let clear := match s.control.lastEmcy with
      | none => true
      | some t => decide (t + s.rdN 0x1015 0 * 100000 ≤ s.now)
    if clear then
      { (s.emit (.can s.emcyCobId m)) with
        control := { s.control with emcyQueue := rest, lastEmcy := some s.now } }
    else s

/-- Send the EMCY messages held back whose time under EMCY_INHIBIT has come, each at its own time (R22, R387; DESIGN CHOICE,
log entry 95: the housekeeping round is when the model looks). -/
def State.drainDue : Nat → State → State
  | 0, s => s
  | n + 1, s =>
    match s.control.emcyQueue, s.control.lastEmcy with
    | m :: rest, some t =>
      let due := t + s.rdN 0x1015 0 * 100000
      if due ≤ s.now then
        State.drainDue n { (s.emit (.can s.emcyCobId m)) with
          control := { s.control with emcyQueue := rest, lastEmcy := some due } }
      else s
    | _ :: _, none => s.drainEmcy
    | [], _ => s

/-- Send an EMCY on every path that carries it (R390, R394). -/
def State.sendEmcy (s : State) (m : List Byte) : State :=
  let s := if s.emcyAllowed then
      State.drainEmcy { s with control := { s.control with emcyQueue := s.control.emcyQueue ++ [m] } }
    else s
  let dest := s.rdN 0x2002 0x06
  if dest ≠ 0 ∧ s.up then s.emit (.udp dest (s.rdN 0x2002 0x07) ([0x14, 0, 0, 0] ++ m)) else s

/-- What an event does apart from its black-box record: 0x2001, the error register and history, the EMCY,
and the queue of events a tile sends to its control sender (R20 to R22, R391, R394, R402). -/
def State.note (s : State) (code detail : Nat) : State :=
  let round := s.rdN 0x2E00 0x03
  let outranked := s.control.lastEventRound == some round && decide (code / 4096 < s.rdN 0x2001 0x01 / 4096)
  let (sec, ns) := if s.quartz.lockedOnce then (s.wallSec, s.wallNs)
    else ((s.now - s.clocks.coldAt) / second, (s.now - s.clocks.coldAt) % second)
  let s := if outranked then s else
    { ((((s.wrN 0x2001 0x01 code).wrN 0x2001 0x02 detail).wrN 0x2001 0x03 sec).wrN 0x2001 0x04 ns) with
      control := { s.control with lastEventRound := some round } }
  let s := s.bump 0x2001 0x05 1
  let times := vset s.control.errTimes (eventClass code) (some s.now)
  let entry := code * 65536 + 0xFF00
  let s := { s with control := { s.control with errTimes := times, history := (entry :: s.control.history).take 8 } }
  let reg := errorRegister times
  let s := s.wrN 0x1001 0 reg
  let s := s.sendEmcy (emcyBytes 0xFF00 reg code detail)
  if s.role == .tile && s.rdN 0x2200 0x02 != 0 then
    { s with control := { s.control with
        eventQueue := s.control.eventQueue ++ [{ code := code, detail := detail, sec := sec, ns := ns }] } }
  else s

/-- Whether an event makes a severe record (R485, R517, R522, R524, R526, R530, R531). -/
def State.severe (s : State) (code : Nat) : Bool :=
  [0x1005, 0x1102, 0x1104, 0x1202, 0x5109, 0x7101, 0x7103, 0x8002, 0xA301, 0x9204, 0x9207, 0x9209, 0x9304,
   0xA101, 0xA104, 0xA105, 0xA201, 0xA212, 0x8305].contains code ||
  ((code == 0x1001 || code == 0x1002) && [4, 5, 18, 19, 20].contains (s.rdN 0x2D00 0x18))

/-- Times of an event's limiter, within its interval, with the present one. -/
def State.limiter (s : State) (k interval : Nat) : Limiter :=
  let l := (s.control.limiters.find? fun l => l.key == k).getD { key := k, last := none, times := [] }
  { l with times := s.now :: l.times.filter fun t => decide (s.now < t + interval) }

/-- Store a limiter. -/
def State.setLimiter (s : State) (l : Limiter) : State :=
  { s with control := { s.control with limiters := l :: s.control.limiters.filter fun x => x.key != l.key } }

/-- Whether a limiter lets its event be raised now. -/
def Limiter.free (l : Limiter) (now interval : Nat) : Bool :=
  match l.last with
  | none => true
  | some t => decide (t + interval ≤ now)

/-- Bytes 16 to 247 of a Flint record: the time, the snapshot of the device and the event's data (Table 17.6). -/
def State.flintBody (s : State) (data : List Byte) : List Byte :=
  let (sec, ns) := if s.quartz.lockedOnce then (s.wallSec, s.wallNs) else (s.uptime / 1000, s.uptime % 1000 * ms)
  leBytes 6 sec ++ leBytes 4 ns ++ leBytes 8 s.uptime ++
  leBytes 8 (if s.quartz.lockedOnce then s.quartz.frame else 0) ++
  leBytes 2 (s.rdI 0x2E00 0x04 % 65536).toNat ++ leBytes 2 (s.rdI 0x2E00 0x05 % 65536).toNat ++
  leBytes 2 (s.rdN 0x2E00 0x07) ++ leBytes 2 (s.rdN 0x2D00 0x06) ++ leBytes 1 (s.rdN 0x2D00 0x03) ++
  leBytes 1 s.thermalCode ++ leBytes 1 s.quartz.state.code ++ leBytes 1 (s.rdN 0x2D00 0x18) ++
  leBytes 1 s.role.code ++ leBytes 1 Config.siliconRev ++ leBytes 4 (s.rdN 0x3100 0x18) ++
  leBytes 1 (if s.role == .tile then s.modeCode else s.ports[0].cstate.code) ++
  leBytes 1 (if s.role == .tile then s.rdN 0x2200 0x02 else s.rdN 0x2600 0x02) ++ [0, 0] ++ padTo 184 data

/-- Refill the token bucket of R485: 32 tokens, one per second. -/
def BlackBox.refill (b : BlackBox) (now : Nat) : BlackBox :=
  let n := (now - b.tokensAt) / second
  { b with tokens := min 32 (b.tokens + n), tokensAt := b.tokensAt + n * second }

/-- Change the black box. -/
def State.withBb (s : State) (f : BlackBox → BlackBox) : State :=
  { s with nvm := { s.nvm with bb := f s.nvm.bb } }

/-- Remove the oldest staged record that is not severe, if there is one (R484). -/
def dropNonSevere : List Flint → Option (List Flint)
  | [] => none
  | r :: rs => if r.severe then (dropNonSevere rs).map (r :: ·) else some rs

/-- Count a lost record and raise event 0x8301, which makes no record (R484). -/
def State.loseRecord (s : State) : State :=
  let s := s.bump 0x3000 0x19 1
  s.note 0x8301 (0xFF + sat 0xFFFF (s.rdN 0x3000 0x19) * 256)

/-- Put a record into a retention slot (R484). -/
def State.stage (s : State) (r : Flint) : State :=
  if s.nvm.bb.slots.length < 32 then s.withBb fun b => { b with slots := b.slots ++ [r] }
  else if r.severe then
    match dropNonSevere s.nvm.bb.slots with
    | some rest => State.loseRecord (s.withBb fun b => { b with slots := rest ++ [r] })
    | none => s.loseRecord
  else s.loseRecord

/-- Build a record and stage it, or suppress it (R484, R485). -/
def State.record (s : State) (code detail : Nat) (data : List Byte) : State :=
  let sev := s.severe code
  let s := s.withBb (·.refill s.now)
  if !sev && s.nvm.bb.tokens == 0 then
    let s := s.bump 0x3000 0x18 1
    let s := s.withBb fun b => { b with dropped := sat 0xFFFF (b.dropped + 1) }
    let l := s.limiter 0x8304 (60 * second)
    if l.free s.now (60 * second) then
      (s.setLimiter { l with last := some s.now }).note 0x8304 (0xFF + sat 0xFFFF l.times.length * 256)
    else s.setLimiter l
  else
    let flags := bitAt (!s.quartz.lockedOnce) 3 + bitAt (s.quartz.lockedOnce && !s.quartz.traceable) 4
    let r : Flint := {
      seq := if s.nvm.bb.scanned then some s.nvm.bb.nextSeq else none
      severe := sev, outside := !s.windowOpen, event := code, detail := detail, flags := flags,
      dropped := s.nvm.bb.dropped, body := s.flintBody data }
    let s := s.withBb fun b => { b with
      tokens := if sev then b.tokens else b.tokens - 1
      dropped := 0
      nextSeq := if b.scanned then b.nextSeq + 1 else b.nextSeq }
    s.stage r

/-- Raise an event with its 32-bit detail word and event data (R20). -/
def State.raiseWith (s : State) (code detail : Nat) (data : List Byte) : State :=
  let s := s.note code detail
  if code == 0x8301 || code == 0x8302 || code == 0x8304 then s else s.record code detail data

/-- Raise an event (R20). -/
def State.raise (s : State) (code detail : Nat) : State := s.raiseWith code detail []

/-- Raise an event when a condition holds. -/
def State.raiseIf (s : State) (c : Bool) (code detail : Nat) : State := if c then s.raise code detail else s

/-- Raise an event at most once per interval for a sub-key; its detail may count the occurrences within the
last interval. -/
def State.raiseLimited (s : State) (code sub interval : Nat) (detail : Nat → Nat) (data : List Byte := []) : State :=
  let l := s.limiter (code * 256 + sub) interval
  if l.free s.now interval then (s.setLimiter { l with last := some s.now }).raiseWith code (detail l.times.length) data
  else s.setLimiter l

/-- Write the cause of a refused value or failed run to 0x2001, where no event carries it (R15, Table 13.1):
code 0, "no event", and the cause as the detail word. An event of the same housekeeping cycle has the higher subject value
and stays (R22; DEDUCED, log entry 15). -/
def State.cause (s : State) (c : Nat) : State :=
  if s.control.lastEventRound == some (s.rdN 0x2E00 0x03) && s.rdN 0x2001 0x01 != 0 then s
  else (s.wrN 0x2001 0x01 0).wrN 0x2001 0x02 c

/-- Detail with [7:0] and [23:8] (the layout of most subjects). -/
def det (lo hi : Nat) : Nat := lo % 256 + hi % 65536 * 256

/-- Detail with [7:0], [15:8] and [23:16]. -/
def det3 (a b c : Nat) : Nat := a % 256 + b % 256 * 256 + c % 256 * 65536

end Sys2Proof.Machine
end

