-- ==== Sys2Proof/Machine/Mailbox.lean ====
section
/-! DEFINITION. The interconnect's mailboxes and semaphores, resets of its masters, and HOST_IRQ_N (R409, R410, R416 to R430). -/

namespace Sys2Proof.Machine

open Host

/-! ### Masters and interrupts -/

/-- The host port's identity (Table 14.1). -/
def hostMaster : BitVec 7 := 0x48

/-- An identity names a master (R409). -/
def isMaster (m : BitVec 7) : Bool := decide (m.toNat ≤ 0x4A)

/-- A core of a control cluster. -/
def isCore (m : BitVec 7) : Bool := decide (0x40 ≤ m.toNat ∧ m.toNat ≤ 0x47)

/-- Masters 0x40 to 0x43 and 0x49: those that may write bindings and SEM_FORCE (R422, Table 14.10). -/
def isKeeper (m : BitVec 7) : Bool := decide (0x40 ≤ m.toNat ∧ m.toNat ≤ 0x43) || m == 0x49

/-- A master is the bound sender of a channel. -/
def HostPort.sends (h : HostPort) (m : BitVec 7) (c : Fin 128) : Bool := h.bind[c].valid && h.bind[c].sender == m

/-- A master is the bound receiver of a channel. -/
def HostPort.receives (h : HostPort) (m : BitVec 7) (c : Fin 128) : Bool := h.bind[c].valid && h.bind[c].receiver == m

/-- The three mailbox conditions of the host on a channel: MB_DOORBELL, MB_EMPTY and MB_ACK (Table 14.5). -/
def HostPort.pend (h : HostPort) (c : Fin 128) : Bool × Bool × Bool :=
  let x := h.mailbox[c]
  (h.receives hostMaster c && x.doorbell, h.sends hostMaster c && x.emptyEvt, h.sends hostMaster c && x.ackValid)

/-- HP_IRQ_STAT (Table 14.5). -/
def HostPort.irqStat (h : HostPort) : Nat :=
  bitAt h.sdoDone 0 + bitAt ((List.finRange 128).any fun c => (h.pend c).1) 1 +
  bitAt ((List.finRange 128).any fun c => (h.pend c).2.1) 2 + bitAt ((List.finRange 128).any fun c => (h.pend c).2.2) 3 +
  bitAt (h.err != 0) 4

/-- HOST_IRQ_N is asserted (R417). -/
def HostPort.irq (h : HostPort) : Bool := (BitVec.ofNat 5 h.irqStat &&& h.irqEn) != 0

/-- Change the host port, mailboxes and semaphores; HOST_IRQ_N follows (R417). -/
def State.withHost (s : State) (f : HostPort → HostPort) : State :=
  let s' := { s with hostPort := f s.hostPort }
  if s'.hostPort.irq == s.hostPort.irq then s' else s'.emit (.pin .hostIrqN (!s'.hostPort.irq))

/-- Change a channel. -/
def State.withBox (s : State) (c : Fin 128) (f : MbChannel → MbChannel) : State :=
  s.withHost fun h => { h with mailbox := vmod h.mailbox c f }

/-- Interrupt the bound sender of a channel, where it is a control core (R423). -/
def State.tellSender (s : State) (c : Fin 128) : State :=
  let m := s.hostPort.bind[c].sender
  if isCore m then s.emit (.interrupt m) else s

/-- A write outside its binding: ignored, counted in MB_VIOL, shown to the host when it made it, and reported at most once
per second (R420, R427). -/
def State.violation (s : State) (m : BitVec 7) (n : Nat) : State :=
  let s := s.withHost fun h => { h with
    violations := sat 0xFFFFFFFF (h.violations + 1)
    err := if m = hostMaster then h.err ||| 16#5 else h.err }
  s.raiseLimited 0x1402 0 second fun k => det3 n m.toNat (sat 0xFF k)

/-! ### Channels (R419 to R423) -/

/-- A channel empties in native mode (R421). -/
def State.emptyNative (s : State) (c : Fin 128) : State :=
  (s.withBox c fun x => { x with full := false, doorbell := false, emptyEvt := true }).tellSender c

/-- A channel empties in explicit mode, with a return code (R421). -/
def State.emptyExplicit (s : State) (c : Fin 128) (code : BitVec 16) : State :=
  (s.withBox c fun x => { x with full := false, doorbell := false, returnCode := code, ackValid := true }).tellSender c

/-- A message is posted on a channel that is empty (R420, R421, R423). -/
def State.posted (s : State) (c : Fin 128) : State :=
  let b := s.hostPort.bind[c]
  let s := s.withBox c fun x => { x with
    full := true
    doorbell := true
    ackValid := x.ackValid && !b.ackMode
    emptyEvt := x.emptyEvt && !b.ackMode }
  if b.wake && decide (b.receiver.toNat < 0x48) then s.emit (.interrupt b.receiver) else s

/-- Run a write of the bound sender or receiver of a channel; a channel with VALID = 0 ignores it, and any other master's
write is a violation (R420). -/
def State.boundWrite (s : State) (m : BitVec 7) (c : Fin 128) (party : Bool) (act : State → State) : Out1 :=
  if !isMaster m || !s.hostPort.bind[c].valid then .next s
  else if !party then .next (s.violation m c)
  else .next (act s)

/-- `POST` (R420, R421, R423). -/
def execMbPost (m : BitVec 7) (c : Fin 128) (s : State) : Out1 :=
  s.boundWrite m c (s.hostPort.sends m c) fun s =>
    if s.hostPort.mailbox[c].full then s.withBox c fun x => { x with refused := true } else s.posted c

/-- `TAKE` (R421): ignored in explicit mode. -/
def execMbTake (m : BitVec 7) (c : Fin 128) (s : State) : Out1 :=
  s.boundWrite m c (s.hostPort.receives m c) fun s =>
    if s.hostPort.bind[c].ackMode then s else s.emptyNative c

/-- `FLUSH` (R421): in explicit mode with RETURN_CODE 0xFFFF. -/
def execMbFlush (m : BitVec 7) (c : Fin 128) (s : State) : Out1 :=
  s.boundWrite m c (s.hostPort.receives m c) fun s =>
    if s.hostPort.bind[c].ackMode then s.emptyExplicit c 0xFFFF else s.emptyNative c

/-- `RETURN_CODE_WRITE` (R421): ignored in native mode. -/
def execReturnCodeWrite (m : BitVec 7) (c : Fin 128) (code : BitVec 16) (s : State) : Out1 :=
  s.boundWrite m c (s.hostPort.receives m c) fun s =>
    if s.hostPort.bind[c].ackMode then s.emptyExplicit c code else s

/-- `MB_MSG_WRITE` (R420): takes effect while the channel is empty, and sets REFUSED while it is full. -/
def execMbMsgWrite (m : BitVec 7) (c : Fin 128) (w : Fin 4) (v : Word) (s : State) : Out1 :=
  s.boundWrite m c (s.hostPort.sends m c) fun s =>
    if s.hostPort.mailbox[c].full then s.withBox c fun x => { x with refused := true }
    else s.withBox c fun x => { x with msg := vset x.msg w v }

/-- Clear status bits of a channel, one bit of its status register after the other (R419, R420). -/
def State.clearStatus (s : State) (m : BitVec 7) (c : Fin 128) (v : Word) : State :=
  let tx := s.hostPort.sends m c
  let rx := s.hostPort.receives m c
  let bad := (v.getLsbD 1 || v.getLsbD 2 || v.getLsbD 3) && !tx || v.getLsbD 4 && !rx
  let s := s.withBox c fun x => { x with
    emptyEvt := x.emptyEvt && !(v.getLsbD 1 && tx)
    ackValid := x.ackValid && !(v.getLsbD 2 && tx)
    refused := x.refused && !(v.getLsbD 3 && tx)
    doorbell := x.doorbell && !(v.getLsbD 4 && rx) }
  if bad then s.violation m c else s

/-- `MB_STATUS_CLEAR`: a write of ones to a channel's status register (R419, R420). -/
def execMbStatusClear (m : BitVec 7) (c : Fin 128) (v : Word) (s : State) : Out1 :=
  s.boundWrite m c true fun s => s.clearStatus m c v

/-- What a master reads of a channel's register, by byte offset (Table 14.7): zero unless it is a party. -/
def HostPort.boxRead (h : HostPort) (m : BitVec 7) (c : Fin 128) (off : Nat) : Word :=
  let x := h.mailbox[c]
  if !h.sends m c && !h.receives m c then 0
  else match off with
    | 0x00 => x.msg[0]
    | 0x04 => x.msg[1]
    | 0x08 => x.msg[2]
    | 0x0C => x.msg[3]
    | 0x14 =>
      BitVec.ofNat 32 (bitAt x.full 0 + bitAt x.emptyEvt 1 + bitAt x.ackValid 2 + bitAt x.refused 3 + bitAt x.doorbell 4 +
        x.epochTx.toNat * 2 ^ 8 + x.epochRx.toNat * 2 ^ 16)
    | 0x18 => x.returnCode.setWidth 32
    | _ => 0

/-! ### Bindings (R422) -/

/-- The entry that a word spells (Table 14.8). -/
def bindingOf (v : Word) : Binding :=
  { sender := v.extractLsb' 0 7, receiver := v.extractLsb' 8 7, wake := v.getLsbD 16, ackMode := v.getLsbD 17, valid := v.getLsbD 18 }

/-- The word of an entry. -/
def Binding.word (b : Binding) : Word :=
  BitVec.ofNat 32 (b.sender.toNat + b.receiver.toNat * 2 ^ 8 + bitAt b.wake 16 + bitAt b.ackMode 17 + bitAt b.valid 18)

/-- `MB_BIND_WRITE` (R422): refused after LOCK (1), from another master (4), for explicit mode to an engine (2) or a bad
identity (3); a write to the entry of a full channel empties it and clears its status bits. -/
def execMbBindWrite (m : BitVec 7) (c : Fin 128) (v : Word) (s : State) : Out1 :=
  let b := bindingOf v
  let cause := if s.hostPort.lock then 1 else if !isKeeper m then 4
    else if b.ackMode && decide (b.receiver.toNat < 0x40) then 2 else if !isMaster b.sender || !isMaster b.receiver then 3 else 0
  if !isMaster m then .next s
  else if cause ≠ 0 then .next (s.raise 0x1401 (det3 c m.toNat cause))
  else
    let s := if s.hostPort.mailbox[c].full then
        s.withBox c fun x => { x with
          full := false
          emptyEvt := false
          ackValid := false
          refused := false
          doorbell := false }
      else s
    .next (s.withHost fun h => { h with bind := vset h.bind c b })

/-- `MB_LOCK_WRITE`: a 1 fixes the table until cold reset (R422). -/
def execMbLockWrite (m : BitVec 7) (v : Word) (s : State) : Out1 :=
  if !isMaster m then .next s
  else if s.hostPort.lock then .next (s.raise 0x1401 (det3 0xFF m.toNat 1))
  else .next (s.withHost fun h => { h with lock := v.getLsbD 0 })

/-! ### Semaphores (R427 to R429) -/

/-- Change a semaphore. -/
def State.withSem (s : State) (n : Fin 32) (f : Semaphore → Semaphore) : State :=
  s.withHost fun h => { h with sem := vmod h.sem n f }

/-- What a master's read of a semaphore returns once any acquisition is done (Table 14.10). -/
def Semaphore.word (x : Semaphore) (m : BitVec 7) : Word :=
  BitVec.ofNat 32 (x.holder.toNat + x.lastWinner.toNat * 2 ^ 8 + bitAt (x.held && x.holder != m) 31)

/-- A read of a semaphore: a free one is acquired (R427). -/
def State.semRead (s : State) (m : BitVec 7) (n : Fin 32) : Word × State :=
  let s := if s.hostPort.sem[n].held then s else s.withSem n fun _ => { holder := m, lastWinner := m, held := true }
  (s.hostPort.sem[n].word m, s)

/-- A write of a semaphore: its holder frees it, any other write is a violation (R427). -/
def State.semWrite (s : State) (m : BitVec 7) (n : Fin 32) : State :=
  let x := s.hostPort.sem[n]
  if x.held && x.holder == m then s.withSem n fun x => { x with held := false } else s.violation m n

/-- Rank of a candidate: its distance from LAST_WINNER + 1 upward, wrapping from 0x4A to 0 (R428). -/
def semRank (last m : BitVec 7) : Nat := (m.toNat + 0x4B - (last.toNat + 1) % 0x4B) % 0x4B

/-- Insert a candidate by its rank. -/
def semInsert (last m : BitVec 7) : List (BitVec 7) → List (BitVec 7)
  | [] => [m]
  | x :: xs => if semRank last m < semRank last x then m :: x :: xs else x :: semInsert last m xs

/-- `SEM_READ`: masters that read one semaphore in the same cycle are served in the order of R428. -/
def execSemRead (ms_ : List (BitVec 7)) (n : Fin 32) (s : State) : Out1 :=
  let last := s.hostPort.sem[n].lastWinner
  .next (((ms_.filter isMaster).foldr (semInsert last) []).foldl (fun s m =>
    let (v, s) := s.semRead m n
    s.emit (.masterRead m v)) s)

/-- `SEM_WRITE` (R427). -/
def execSemWrite (m : BitVec 7) (n : Fin 32) (s : State) : Out1 :=
  if isMaster m then .next (s.semWrite m n) else .next s

/-- A semaphore is freed without its holder's release (R429): cause 1 holder reset, 2 SEM_FORCE. -/
def State.freeSem (s : State) (n : Fin 32) (cause : Nat) : State :=
  let h := s.hostPort.sem[n].holder
  let s := s.withSem n fun x => { x with held := false }
  let s := if cause = 1 then s.withHost fun p => { p with orphan := p.orphan ||| BitVec.twoPow 32 n } else s
  s.raise 0x1403 (det3 n h.toNat cause)

/-- `SEM_FORCE`: a permitted master frees a semaphore with RELEASE = 1 (R429); another master's write is a violation. -/
def execSemForce (m : BitVec 7) (v : Word) (s : State) : Out1 :=
  let n : Fin 32 := ⟨v.toNat % 32, Nat.mod_lt _ (by decide)⟩
  if !isMaster m then .next s
  else if !isKeeper m then .next (s.violation m n)
  else if v.getLsbD 8 && s.hostPort.sem[n].held then .next (s.freeSem n 2)
  else .next s

/-! ### Resets of masters (R410, R424 to R426, R429) -/

/-- A master is reset: the epochs of its channels rise, its doorbells are set again where a message waits, its empty
interrupts are armed again, and its semaphores are freed. -/
def State.masterReset (s : State) (m : BitVec 7) : State :=
  let s := (List.finRange 128).foldl (fun (s : State) (c : Fin 128) =>
    let s := if s.hostPort.receives m c then
        s.withBox c fun x => { x with
          epochRx := x.epochRx + 1
          doorbell := x.doorbell || x.full }
      else s
    if s.hostPort.sends m c then
      let s := s.withBox c fun x => { x with epochTx := x.epochTx + 1 }
      if s.hostPort.mailbox[c].emptyEvt || s.hostPort.mailbox[c].ackValid then s.tellSender c else s
    else s) s
  (List.finRange 32).foldl (fun (s : State) (n : Fin 32) =>
    if s.hostPort.sem[n].held && s.hostPort.sem[n].holder == m then s.freeSem n 1 else s) s

/-- `MASTER_RESET` (R410, R424, R425, R429). -/
def execMasterReset (m : BitVec 7) (s : State) : Out1 :=
  if isMaster m then .next (s.masterReset m) else .next s

/-- A device warm reset resets every master except the host port (R410, R426). -/
def State.resetMasters (s : State) : State :=
  (List.range 0x4B).foldl (fun s i => if i = 0x48 then s else s.masterReset (BitVec.ofNat 7 i)) s

end Sys2Proof.Machine
end

