-- ==== Sys2Proof/Machine/Slate.lean ====
section
/-! DEFINITION. Bits in transmission order, the 30-bit pixel words of a cell (R118), and the Slate codec
(R210 to R217). A block is 16 words: columns 0 to 7 of its first line, then of its second. -/

namespace Sys2Proof.Machine

/-- The low `n` bits of a number, most significant first. -/
def msbBits : Nat → Nat → List Bool
  | 0, _ => []
  | n + 1, v => bit v n :: msbBits n v

/-- Bytes as bits, most significant bit first. -/
def bytesBits (bs : List Byte) : List Bool := bs.flatMap fun b => msbBits 8 b.toNat

/-- Bits as bytes, most significant bit first; a last part byte is filled with zeros. -/
def bitsBytes (bs : List Bool) : List Byte :=
  (List.range ((bs.length + 7) / 8)).map fun i =>
    let g := (bs.drop (8 * i)).take 8
    BitVec.ofNat 8 (bitsNat (g ++ List.replicate (8 - g.length) false))

/-- A signed number as two's complement of some width. -/
def twos (w : Nat) (v : Int) : Nat := (v % (2 ^ w : Nat)).toNat

/-- The signed number that a two's-complement field holds. -/
def untwos (w v : Nat) : Int := if v < 2 ^ (w - 1) then v else (v : Int) - (2 ^ w : Nat)

/-- Pixel words of 30 bits packed into a payload, pixel 0 first (R118). -/
def packWords (ws : List Nat) : List Byte := bitsBytes (ws.flatMap (msbBits 30))

/-- A pixel word of a payload. -/
def pixelWord (payload : List Byte) (i : Nat) : Nat :=
  let first := 30 * i / 8
  let v := beNat (slice payload first 5)
  v / 2 ^ (40 - 30 * i % 8 - 30) % 2 ^ 30

/-! ### Planes -/

/-- The planes of a block of words (Table 7.2). -/
def slatePlanes (fmt : Nat) (ws : List Nat) : List (List Nat) :=
  let a := ws.map fun w => bits w 29 20
  let b := ws.map fun w => bits w 19 10
  let c := ws.map fun w => bits w 9 0
  let ev := (List.range 16).filter fun i => i % 2 == 0
  let od := (List.range 16).filter fun i => i % 2 == 1
  if fmt = 2 then [a, ev.map fun i => b.getD i 0, od.map fun i => b.getD i 0] else [a, b, c]

/-- The words that planes give; word bits [9:0] are zero for FMT 2 (R211). -/
def slateWords (fmt : Nat) (ps : List (List Nat)) : List Nat :=
  let p (k i : Nat) : Nat := (ps.getD k []).getD i 0
  (List.range 16).map fun i =>
    if fmt = 2 then p 0 i * 2 ^ 20 + p (if i % 2 = 0 then 1 else 2) (i / 2) * 2 ^ 10
    else p 0 i * 2 ^ 20 + p 1 i * 2 ^ 10 + p 2 i

/-- Samples of each plane and the code width of mode 3 (Table 7.2). -/
def slateSizes (fmt : Nat) : List Nat := if fmt = 2 then [16, 8, 8] else [16, 16, 16]

/-- Mode-3 code width B (Table 7.2). -/
def slateB (fmt : Nat) : Nat := if fmt = 2 then 6 else 4

/-- The escape width E of a mode (R213). -/
def slateE (mode : Nat) : Nat := 11 - mode

/-- The prediction of the sample that follows those rebuilt so far, in rows of `w` (R212). -/
def slatePredict (w : Nat) (done : List Nat) : Nat :=
  let i := done.length
  if i < w then done.getD (i - 1) 0
  else
    let x := i - w
    let b := done.getD x 0
    if x = 0 then b
    else
      let a := done.getD (i - 1) 0
      let c := done.getD (x - 1) 0
      if max a b ≤ c then min a b else if c ≤ min a b then max a b else a + b - c

/-- The sample that a coded value rebuilds from a prediction, in mode 0, 1 or 2 (R214); mode 0 does not clamp. -/
def slateRebuild (mode pred : Nat) (q : Int) : Int :=
  if mode = 0 then pred + q else min 1023 (max 0 (pred + q * (2 * mode + 1)))

/-- The coded value of a sample (R214). -/
def slateQuant (mode pred s : Nat) : Int :=
  let r : Int := (s : Int) - pred
  let m := (r.natAbs + mode) / (2 * mode + 1)
  if r < 0 then -(m : Int) else m

/-- Coded values of a plane after its anchor, each predicted from rebuilt samples (R212, R214). -/
def slateCodes (mode w : Nat) (samples : List Nat) : List Int :=
  match samples with
  | [] => []
  | s0 :: rest =>
    (rest.foldl (fun (acc : List Nat × List Int) s =>
      let p := slatePredict w acc.1
      let q := slateQuant mode p s
      (acc.1 ++ [(slateRebuild mode p q).toNat], acc.2 ++ [q])) ([s0], [])).2

/-- A value fits a code of W bits without escape: W = 0 holds only 0 (R213). -/
def slateFits (w : Nat) (q : Int) : Bool :=
  if w = 0 then q == 0 else decide (-(2 ^ (w - 1) : Nat) < q ∧ q < (2 ^ (w - 1) : Nat))

/-- Bits of one code at a width: W, or W + E with an escape; none where the width cannot hold the value. -/
def slateCodeLen (e w : Nat) (q : Int) : Option Nat :=
  if w = 0 then (if q = 0 then some 0 else none) else if slateFits w q then some w else some (w + e)

/-- Code bits of a plane at a width. -/
def slateLen (e w : Nat) : List Int → Option Nat
  | [] => some 0
  | q :: qs =>
    match slateCodeLen e w q, slateLen e w qs with
    | some a, some b => some (a + b)
    | _, _ => none

/-- The width from 0 to E with the fewest code bits, ties to the smaller, and those bits (R216). -/
def slateWidth (e : Nat) (qs : List Int) : Nat × Nat :=
  (List.range (e + 1)).foldl (fun (best : Nat × Nat) w =>
    match slateLen e w qs with
    | some n => if n < best.2 then (w, n) else best
    | none => best) (e, e * qs.length + 1)

/-- The bits of a code (R213). -/
def slateCodeBits (e w : Nat) (q : Int) : List Bool :=
  if w = 0 then []
  else if slateFits w q then msbBits w (twos w q)
  else msbBits w (2 ^ (w - 1)) ++ msbBits e (twos e q)

/-- A plane coded in mode 0, 1 or 2. -/
def slatePlaneBits (mode w : Nat) (samples : List Nat) : List Bool :=
  let qs := slateCodes mode w samples
  let width := (slateWidth (slateE mode) qs).1
  msbBits 10 (samples.headD 0) ++ msbBits 4 width ++ qs.flatMap (slateCodeBits (slateE mode) width)

/-- The shift of a mode-3 plane: the smallest that brings its range into B bits (R215). -/
def slateShift (b range : Nat) : Nat :=
  ((List.range 8).find? fun s => (range + (if s = 0 then 0 else 2 ^ (s - 1))) / 2 ^ s ≤ 2 ^ b - 1).getD 7

/-- A plane coded in mode 3 (R215). -/
def slateCoarseBits (b : Nat) (samples : List Nat) : List Bool :=
  let mn := samples.foldl min (samples.headD 0)
  let mx := samples.foldl max 0
  let s := slateShift b (mx - mn)
  let h := if s = 0 then 0 else 2 ^ (s - 1)
  msbBits 10 mn ++ msbBits 4 s ++ samples.flatMap fun v => msbBits b ((v - mn + h) / 2 ^ s)

/-- Bits filled with zeros to 240. -/
def fillBlock (bs : List Bool) : List Bool := bs ++ List.replicate (240 - bs.length) false

/-- Encode a block of 16 words to 240 bits (R216). -/
def slateEncode (fmt : Nat) (ws : List Nat) : List Bool :=
  let ps := slatePlanes fmt ws
  let row (k : Nat) : Nat := ((slateSizes fmt).getD k 16) / 2
  let coded (mode : Nat) : List Bool :=
    msbBits 2 mode ++ (List.zipIdx ps).flatMap fun p => slatePlaneBits mode (row p.2) p.1
  match [0, 1, 2].find? fun m => (coded m).length ≤ 240 with
  | some m => fillBlock (coded m)
  | none => fillBlock (msbBits 2 3 ++ ps.flatMap (slateCoarseBits (slateB fmt)))

/-! ### Decoding -/

/-- Take a field of bits; none where it runs past the end. -/
def takeField (n : Nat) (bs : List Bool) : Option (Nat × List Bool) :=
  if bs.length < n then none else some (bitsNat (bs.take n), bs.drop n)

/-- Read coded values of a plane and rebuild its samples; none for an invalid block (R213, R214, R217). -/
def slateReadCodes (mode w width : Nat) : Nat → List Nat → List Bool → Option (List Nat × List Bool)
  | 0, done, bs => some (done, bs)
  | n + 1, done, bs =>
    let finish (q : Int) (rest : List Bool) :=
      let v := slateRebuild mode (slatePredict w done) q
      if v < 0 ∨ 1023 < v then none else slateReadCodes mode w width n (done ++ [v.toNat]) rest
    if width = 0 then finish 0 bs
    else
      match takeField width bs with
      | none => none
      | some (c, rest) =>
        if c = 2 ^ (width - 1) then
          match takeField (slateE mode) rest with
          | none => none
          | some (v, rest) => finish (untwos (slateE mode) v) rest
        else finish (untwos width c) rest

/-- Read a plane of mode 0, 1 or 2. -/
def slateReadPlane (mode size : Nat) (bs : List Bool) : Option (List Nat × List Bool) :=
  match takeField 10 bs with
  | none => none
  | some (anchor, bs) =>
    match takeField 4 bs with
    | none => none
    | some (width, bs) =>
      if slateE mode < width then none else slateReadCodes mode (size / 2) width (size - 1) [anchor] bs

/-- Read the codes of a mode-3 plane (R215). -/
def slateReadCoarse (b mn s : Nat) : Nat → List Bool → Option (List Nat × List Bool)
  | 0, bs => some ([], bs)
  | n + 1, bs =>
    match takeField b bs with
    | none => none
    | some (c, bs) =>
      match slateReadCoarse b mn s n bs with
      | none => none
      | some (r, bs) => some (min 1023 (mn + c * 2 ^ s) :: r, bs)

/-- Read a plane of any mode. -/
def slateRead (fmt mode size : Nat) (bs : List Bool) : Option (List Nat × List Bool) :=
  if mode < 3 then slateReadPlane mode size bs
  else
    match takeField 10 bs with
    | none => none
    | some (mn, bs) =>
      match takeField 4 bs with
      | none => none
      | some (s, bs) => if 7 < s then none else slateReadCoarse (slateB fmt) mn s size bs

/-- The mode of a block. -/
def slateMode (bs : List Bool) : Nat := bitsNat (bs.take 2)

/-- Decode a block of 240 bits to 16 words; none for an invalid block (R217). -/
def slateDecode (fmt : Nat) (bs : List Bool) : Option (List Nat) :=
  let mode := slateMode bs
  let r := (slateSizes fmt).foldl (fun (acc : Option (List (List Nat) × List Bool)) size =>
    match acc with
    | none => none
    | some (ps, rest) =>
      match slateRead fmt mode size rest with
      | none => none
      | some (p, rest) => some (ps ++ [p], rest)) (some ([], bs.drop 2))
  match r with
  | none => none
  | some (ps, rest) => if rest.any (· == true) then none else some (slateWords fmt ps)

/-- Block b of a VIDEO_SLATE payload (R211). -/
def slateBlock (payload : List Byte) (b : Nat) : List Bool := bytesBits (slice payload (30 * b) 30)

end Sys2Proof.Machine
end

