-- ==== Sys2Proof/Machine/Layers.lean ====
section
/-! DEFINITION. Layers and bindings (R223 to R230), regions and what a tile needs of them (R65, R66, R70, R204),
coefficient sets (R231 to R233), scaling (R227 to R229) and generations (R246, R247). -/

namespace Sys2Proof.Machine

/-- Integer division rounded up. -/
def ceilDiv (a b : Nat) : Nat := (a + b - 1) / b

/-- A value held within bounds. -/
def clampI (lo hi v : Int) : Int := min hi (max lo v)

/-! ### Bindings -/

/-- A binding record (Table 8.1). -/
structure LayerBind where
  region : Nat
  valid : Bool
  fmt : Nat
  slate : Bool
  wIn : Nat
  hIn : Nat
  dstW : Nat
  dstH : Nat
  xOff : Int
  yOff : Int
  colorimetry : Nat
  tcs : Nat
  sampling : Nat
  /-- Every reserved bit is zero. -/
  clean : Bool
  deriving DecidableEq, Repr

/-- Read a binding record. -/
def bindOf (b : List Byte) : LayerBind :=
  let w (i : Nat) : Nat := field b (4 * i) 4
  { region := bits (w 0) 7 0, valid := bit (w 0) 8, fmt := bits (w 0) 12 9, slate := bit (w 0) 13,
    wIn := bits (w 1) 13 0, hIn := bits (w 1) 29 16, dstW := bits (w 2) 23 0, dstH := bits (w 3) 23 0,
    xOff := sfield b 16 4, yOff := sfield b 20 4, colorimetry := bits (w 6) 3 0, tcs := bits (w 6) 7 4,
    sampling := bits (w 6) 11 8,
    clean := bits (w 0) 31 14 == 0 && bits (w 1) 15 14 == 0 && bits (w 1) 31 30 == 0 && bits (w 2) 31 24 == 0 &&
      bits (w 3) 31 24 == 0 && bits (w 6) 31 12 == 0 && w 7 == 0 }

/-- Samplings that a cell format may carry (Table 4.5). -/
def fmtAllows (fmt sampling : Nat) : Bool :=
  match fmt with
  | 0 | 4 => sampling == 2
  | 1 => sampling == 1
  | 2 | 3 => sampling == 0
  | 5 => sampling == 3
  | _ => false

/-- A destination size over a source size within 0.5 to 8 (R230). -/
def scaleOk (dst src : Nat) : Bool := decide (src ≤ 2 * dst ∧ dst ≤ 8 * src)

/-- A valid binding passes GEOM (Table 8.3, R224, R230). -/
def LayerBind.geomOk (b : LayerBind) : Bool :=
  b.clean && b.wIn != 0 && b.hIn != 0 && b.dstW != 0 && b.dstH != 0 && scaleOk b.dstW b.wIn && scaleOk b.dstH b.hIn &&
    fmtAllows b.fmt b.sampling && (!b.slate || b.fmt ≤ 2) && b.colorimetry ≤ 2 && b.tcs ≤ 2 && b.sampling ≤ 3

/-! ### What is needed of a region -/

/-- Floor of the input position of an output column, and its phase: u_fx of R228. -/
def scalePos (x inN outN : Nat) : Int :=
  (((2 * x + 1) * inN * 65536 / (2 * outN) : Nat) : Int) - 32768

/-- floor(u) for an output position (R70, R228). -/
def scaleFloor (x inN outN : Nat) : Int := scalePos x inN outN / 65536

/-- Input positions needed for outputs a to b with so many taps before and after, clipped to the input (R70). -/
def needSpan (a b inN outN before after : Nat) : Nat × Nat :=
  let lo := max 0 (scaleFloor a inN outN - before)
  let hi := min ((inN : Int) - 1) (scaleFloor b inN outN + after)
  (lo.toNat, hi.toNat)

/-- Outputs of a binding that a tile window of some size covers on one axis (R225). -/
def coverSpan (off : Int) (size dst : Nat) : Option (Nat × Nat) :=
  let lo := max 0 off
  let hi := min ((dst : Int) - 1) (off + size - 1)
  if hi < lo then none else some (lo.toNat, hi.toNat)

/-- The needed columns and lines of a binding in a window: c_lo, c_hi, l_lo, l_hi (R225, R70). -/
def LayerBind.need (b : LayerBind) (w h : Nat) : Option (Nat × Nat × Nat × Nat) :=
  match coverSpan b.xOff w b.dstW, coverSpan b.yOff h b.dstH with
  | some (x0, x1), some (y0, y1) =>
    let (c0, c1) := needSpan x0 x1 b.wIn b.dstW 3 4
    let (l0, l1) := needSpan y0 y1 b.hIn b.dstH 2 3
    let pair := b.fmt == 2 || b.fmt == 3
    let c0 := if pair then c0 / 2 * 2 else c0
    let c1 := if pair then min (b.wIn - 1) (c1 / 2 * 2 + 1) else c1
    some (c0, c1, l0, l1)
  | _, _ => none

/-- The width that a binding needs (R225). -/
def LayerBind.wNeed (b : LayerBind) (w h : Nat) : Nat :=
  match b.need w h with
  | some (c0, c1, _, _) => c1 - c0 + 1
  | none => 0

/-- The columns and lines that a layer needs of a region, c_lo to c_hi and l_lo to l_hi (R204). -/
structure Span where
  region : Nat
  slate : Bool
  cLo : Nat
  cHi : Nat
  lLo : Nat
  lHi : Nat
  deriving DecidableEq, Repr

/-- The span that a binding needs. -/
def LayerBind.span (b : LayerBind) (w h : Nat) : Option Span :=
  (b.need w h).map fun (c0, c1, l0, l1) =>
    { region := b.region, slate := b.slate, cLo := c0, cHi := c1, lLo := l0, lHi := l1 }

/-- The union of two spans of one region (R204). -/
def Span.join (a b : Span) : Span :=
  { a with cLo := min a.cLo b.cLo, cHi := max a.cHi b.cHi, lLo := min a.lLo b.lLo, lHi := max a.lHi b.lHi }

/-- Add a span to those of a layer, joining it to that of the same region (R203, R204). -/
def addSpan : List Span → Span → List Span
  | [], b => [b]
  | a :: as, b => if a.region = b.region then a.join b :: as else a :: addSpan as b

/-- An empty frame buffer for a span (R204). -/
def Span.buf (x : Span) (fmt : Nat) : FrameBuf :=
  let row (l : Nat) : Nat := if x.slate then l / 2 else l
  { region := x.region, slate := x.slate, fmt := fmt, segLo := x.cLo / 64, segs := x.cHi / 64 - x.cLo / 64 + 1,
    rowLo := row x.lLo, rows := row x.lHi - row x.lLo + 1, cells := [] }

/-- Storage slots of a frame buffer (R204). -/
def FrameBuf.slots (f : FrameBuf) : Nat := f.segs * f.rows

/-! ### Generations -/

/-- A value of a commit-bound object in a generation. -/
def Gen.rd (g : Gen) (idx sub : Nat) : Val := Sparse.get (odDefault .tile) g.od (key idx sub)

/-- A number of a generation. -/
def Gen.rdN (g : Gen) (idx sub : Nat) : Nat := (g.rd idx sub).toInt.toNat

/-- Bytes of a generation. -/
def Gen.rdD (g : Gen) (idx sub : Nat) : List Byte := (g.rd idx sub).toData

/-- Set a value of a generation. -/
def Gen.wr (g : Gen) (idx sub : Nat) (v : Val) : Gen :=
  { g with od := Sparse.set (odDefault .tile) g.od (key idx sub) v }

/-- The configuration with nothing in it, from which a first commit starts (R253). -/
def Gen.none_ : Gen :=
  { gen := 0, frame := 0, od := [], groups := [], mapGen := 0, chained := none, bufWin := Vector.replicate 8 0, filled := Vector.replicate 8 false,
    scaler := Vector.replicate 8 none }

/-- Width and height of a WINDOW value (0x2880:0E). -/
def windowSize (v : Nat) : Nat × Nat := (bits v 11 0, bits v 27 16)

/-- Window width and height of a configuration. -/
def Gen.window (g : Gen) : Nat × Nat := windowSize (g.rdN 0x2880 0x0E)

/-- A layer is enabled in a generation. -/
def Gen.enabled (g : Gen) (n : Nat) : Bool := g.rdN (0x2800 + n) 0x01 == 1

/-- The binding of a layer for a slot. -/
def Gen.bind (g : Gen) (n k : Nat) : LayerBind := bindOf (g.rdD (0x2800 + n) (0x10 + k))

/-- The valid bindings of an enabled layer, with their slots (R223). -/
def Gen.binds (g : Gen) (n : Nat) : List (Nat × LayerBind) :=
  if g.enabled n then
    ((List.range 4).map fun k => (k, g.bind n k)).filter fun p => p.2.valid
  else []

/-- A layer is shown in some slot. -/
def Gen.shows (g : Gen) (n : Nat) : Bool := !(g.binds n).isEmpty

/-- The alpha mode of a layer. -/
def Gen.alpha (g : Gen) (n : Nat) : Nat := g.rdN (0x2800 + n) 0x05

/-- The matte layer that a layer names. -/
def Gen.matte (g : Gen) (n : Nat) : Nat := g.rdN (0x2800 + n) 0x06

/-- The spans that a layer needs, one for each region (R203, R204). A layer shown only by a fallback fill needs none. -/
def Gen.spans (g : Gen) (n : Nat) : List Span :=
  if (g.filled[n]?).getD false then []
  else
    let (w, h) := windowSize ((g.bufWin[n]?).getD 0)
    ((g.binds n).filterMap fun p => p.2.span w h).foldl addSpan []

/-- The frame buffers that a layer needs, empty (R203, R204). -/
def Gen.bufs (g : Gen) (n : Nat) : List FrameBuf :=
  (g.spans n).map fun x =>
    x.buf (((g.binds n).find? fun p => p.2.region == x.region).elim 0 fun p => p.2.fmt)

/-- Storage slots of a layer: two frame buffers per region buffer (R204). -/
def Gen.need (g : Gen) (n : Nat) : Nat := 2 * ((g.bufs n).map FrameBuf.slots).sum

/-- Cycle count of slot k over the layers' n_l × w_need_l and w_need_l (R235). -/
def cycles (w h : Nat) (parts : List (Nat × Nat)) : Nat :=
  h * max (ceilDiv w 16) (ceilDiv ((parts.map fun p => p.1).sum) 256) +
    ceilDiv ((parts.map fun p => 6 * p.2).sum) 256 + 1024

/-- What a layer costs in slot k: n_l × w_need_l and w_need_l (R235). -/
def Gen.cost (g : Gen) (n k : Nat) : Option (Nat × Nat) :=
  if (g.filled[n]?).getD false then none
  else match (g.binds n).find? fun p => p.1 == k with
    | some (_, b) =>
      let w := b.wNeed g.window.1 g.window.2
      some (if b.hIn ≤ b.dstH then w else 2 * w, w)
    | none => none

/-- The generation in force for a frame: the latest whose frame is that frame or earlier (R247). -/
def State.genFor (s : State) (f : Nat) : Option Gen := s.video.compose.gens.find? fun g => g.frame ≤ f

/-- The generation of the frame in progress. -/
def State.genNow (s : State) : Option Gen := s.genFor s.quartz.frame

/-- Change the composition state. -/
def State.withCompose (s : State) (f : Compose → Compose) : State :=
  { s with video := { s.video with compose := f s.video.compose } }

/-- Change the frame store. -/
def State.withStore (s : State) (f : FrameStore → FrameStore) : State :=
  { s with video := { s.video with store := f s.video.store } }

/-- Change the colour state. -/
def State.withColour (s : State) (f : Colour → Colour) : State :=
  { s with video := { s.video with colour := f s.video.colour } }

/-- The staging bank as a generation: the commit-bound values of the dictionary (R246). -/
def State.staging (s : State) : Gen :=
  { Gen.none_ with
    gen := s.rdN 0x2880 0x01
    od := Sparse.keep (fun k => odBound (k / 256) (k % 256)) s.od
    bufWin := Vector.replicate 8 (s.rdN 0x2880 0x0E)
    groups := s.tile.groupsStaged
    mapGen := (s.genFor s.quartz.frame).elim 0 Gen.mapGen }

/-! ### Reading stored samples -/

/-- The offset of a row and segment in a frame buffer, if it lies there (R204). -/
def FrameBuf.place (b : FrameBuf) (row seg : Nat) : Option Nat :=
  if b.rowLo ≤ row ∧ row < b.rowLo + b.rows ∧ b.segLo ≤ seg ∧ seg < b.segLo + b.segs then
    some ((row - b.rowLo) * b.segs + (seg - b.segLo))
  else none

/-- The offset of a cell in a frame buffer, if it lies there (R204). -/
def FrameBuf.offset (b : FrameBuf) (line seg : Nat) : Option Nat := b.place (if b.slate then line / 2 else line) seg

/-- The 30-bit word of a line and column as stored, if it is there and sound (R211, R219). `bad` names storage
words that read uncorrectable, as cell offset and word within the cell. -/
def FrameBuf.word (f : FrameBuf) (bad : BadCells) (line col : Nat) : Option Nat :=
  let off := (f.offset line (col / 64)).getD 0
  match (f.offset line (col / 64)).bind (Sparse.find? f.cells) with
  | none => none
  | some p =>
    let hit (lo hi : Nat) : Bool := bad.words.any fun w => w.1 == off && decide (lo ≤ 32 * w.2 + 31 ∧ 32 * w.2 ≤ hi)
    if f.slate then
      let b := col % 64 / 8
      if hit (240 * b) (240 * b + 239) then none
      else match slateDecode f.fmt (slateBlock p b) with
        | some ws => ws[line % 2 * 8 + col % 8]?
        | none => none
    else if hit (30 * (col % 64)) (30 * (col % 64) + 29) then none
    else some (pixelWord p (col % 64))

/-- A stored word, or that of the nearest line above in the same column that is sound (R220). -/
def FrameBuf.wordAbove (f : FrameBuf) (bad : BadCells) (col : Nat) : Nat → Nat → Option Nat
  | 0, line => f.word bad line col
  | n + 1, line =>
    match f.word bad line col with
    | some w => some w
    | none => f.wordAbove bad col n (line - 1)

/-- The first line of a frame buffer. -/
def FrameBuf.first (f : FrameBuf) : Nat := if f.slate then 2 * f.rowLo else f.rowLo

/-- The stored word that a pixel takes, substituted where it must be (R219, R220). -/
def FrameBuf.read (f : FrameBuf) (bad : BadCells) (line col : Nat) : Option Nat := f.wordAbove bad col (line - f.first) line

/-- The line from which a line buffer delivers an input pixel: the nearest at or above it whose pixel in the same column the buffer
has not lost (R256). -/
def BadCells.lineOf (bad : BadCells) (col : Nat) : Nat → Nat → Option Nat
  | 0, line => if bad.pixels.contains (line, col) then none else some line
  | n + 1, line => if bad.pixels.contains (line, col) then bad.lineOf col n (line - 1) else some line

/-- A component of a word brought to 12 bits (R227 step 3). -/
def prepare (fmt word comp : Nat) : Nat :=
  match fmt with
  | 3 => if comp = 0 then bits word 29 18 else bits word 17 6
  | 4 =>
    let v := bits word (23 - 8 * comp) (16 - 8 * comp)
    v * 16 + v / 16
  | 5 =>
    let v := bits word 9 0
    v * 4 + v / 256
  | 2 =>
    let v := if comp = 0 then bits word 29 20 else bits word 19 10
    v * 4 + v / 256
  | _ =>
    let v := bits word (29 - 10 * comp) (20 - 10 * comp)
    v * 4 + v / 256

/-- A prepared sample of a component at an input line and column, both held inside the region input (R227, R228). A pixel that the
line buffer lost is that of the line above, in every component (R256). -/
def sampleAt (f : FrameBuf) (bad : BadCells) (b : LayerBind) (comp : Nat) (line col : Int) : Option Nat :=
  let l := (clampI 0 (b.hIn - 1) line).toNat
  let c := (clampI 0 (b.wIn - 1) col).toNat
  let pair := b.fmt == 2 || b.fmt == 3
  let at_ := if pair && comp == 1 then c / 2 * 2
    else if pair && comp == 2 then min (b.wIn - 1) (c / 2 * 2 + 1) else c
  ((bad.lineOf c (l - f.first) l).bind fun l => f.read bad l at_).map fun w => prepare b.fmt w comp

/-! ### Coefficient sets and scaling -/

/-- A horizontal coefficient of a set (Table 8.2). -/
def hCoef (set : List Byte) (p t : Nat) : Int := sfield set (4 + 2 * (8 * p + t)) 2

/-- A vertical coefficient of a set (Table 8.2). -/
def vCoef (set : List Byte) (p t : Nat) : Int := sfield set (1028 + 2 * (6 * p + t)) 2

/-- The content of a coefficient set is good (R232). -/
def coefOk (b : List Byte) : Bool :=
  let inRange (v : Int) : Bool := decide (-2048 ≤ v ∧ v ≤ 2047)
  field b 0 2 == 1 && field b 2 2 == 0 && field b 1796 4 == crc32Nat (b.take 1796) &&
    (List.range 64).all fun p =>
      let h := (List.range 8).map (hCoef b p)
      let v := (List.range 6).map (vCoef b p)
      h.all inRange && v.all inRange && h.sum == 1024 && v.sum == 1024

/-- A sum of samples and coefficients, where each lost sample counts as `lost`; none where every sample that weighs in is
lost (R220). -/
def weigh (lost : Nat) (taps : List (Int × Option Nat)) : Option Int :=
  let taps := taps.filter fun t => t.1 != 0
  if !taps.isEmpty && taps.all fun t => t.2.isNone then none
  else some ((taps.map fun t => t.1 * ((t.2.getD lost : Nat) : Int)).sum)

/-- The scaled code of a component at an output position of a binding (R228, R229). A lost sample counts as `lost`, on the
12-bit scale; none where nothing but lost samples weighs in (R220). -/
def scaleAt (hset vset : List Byte) (f : FrameBuf) (bad : BadCells) (b : LayerBind) (lost comp x y : Nat) :
    Option Nat :=
  let u := scalePos x b.wIn b.dstW
  let v := scalePos y b.hIn b.dstH
  let i := u / 65536
  let j := v / 65536
  let ph := (u / 1024 % 64).toNat
  let pv := (v / 1024 % 64).toNat
  let col (c : Int) : Option Nat :=
    (weigh lost ((List.range 6).map fun t => (vCoef vset pv t, sampleAt f bad b comp (j - 2 + t) c))).map
      fun m => (clampI 0 16383 ((m + 128) / 256)).toNat
  (weigh (4 * lost) ((List.range 8).map fun t => (hCoef hset ph t, col (i - 3 + t)))).map
    fun m => (clampI 0 16383 ((m + 512) / 1024)).toNat

/-- A coefficient set is named by a layer of a configuration (R232). -/
def Gen.namesSet (g : Gen) (k : Nat) : Bool :=
  (List.range 8).any fun n =>
    g.shows n && (g.rdN (0x2800 + n) 0x03 == k || g.rdN (0x2800 + n) 0x04 == k)

/-- The transfer table that a layer uses for a TCS (R268). -/
def tfOf (select tcs : Nat) : Nat := if select = 0xFF then tcs else select

/-- A transfer table is named by a layer of a configuration (R268). -/
def Gen.namesTable (g : Gen) (k : Nat) : Bool :=
  (List.range 8).any fun n =>
    (g.binds n).any fun p => tfOf (g.rdN (0x2910 + n) 0x02) p.2.tcs == k

/-- Lamp counts, rectangles and slot maxima of a configuration (R271, R274). -/
def Gen.rect (g : Gen) (p : Nat) : Nat × Nat × Nat × Nat :=
  let m := g.rdD 0x2940 0x01
  let a := field m (8 * p) 4
  let b := field m (8 * p + 4) 4
  (bits a 11 0, bits a 27 16, bits b 11 0, bits b 27 16)

/-- Primaries of a configuration: P (0x2940:02). -/
def Gen.prims (g : Gen) : Nat := g.rdN 0x2940 0x02

/-- Lamps of a port (R271). -/
def Gen.lamps (g : Gen) (p : Nat) : Nat := (g.rect p).2.2.1 * (g.rect p).2.2.2 * g.prims

/-- Lamps of the tile. -/
def Gen.allLamps (g : Gen) : Nat := ((List.range 64).map g.lamps).sum

/-- A port is enabled in a configuration. -/
def Gen.portOn (g : Gen) (p : Nat) : Bool := g.rdN (0x2A00 + p) 0x01 == 1

/-- Grey depth of a port. -/
def Gen.grey (g : Gen) (p : Nat) : Nat := g.rdN (0x2A00 + p) 0x04

/-- Bit rate of a port in Mbit/s (0x2A00+p:03). -/
def rateMbit (r : Nat) : Nat := if r = 0 then 50 else if r = 1 then 100 else 200

end Sys2Proof.Machine
end

