-- ==== Sys2Proof/Machine/LampLink.lean ====
section
/-! DEFINITION. Lamp ports and dimming as calculations: frames on the line (R301, R304 to R306), the lamp walk (R362),
transfer times and the checks of the lamp unit (R323, R324, R340, R363), latch delays (R313), the window's shape and
pulses (R327 to R331), phase balancing (R334) and spread channels (R339). -/

namespace Sys2Proof.Machine

/-! ### Frames -/

/-- Fold a bit into a CRC-16 of polynomial 0x1021. -/
def crc16Bit (c : BitVec 16) (b : Bool) : BitVec 16 :=
  if c.getLsbD 15 != b then (c <<< 1) ^^^ 0x1021 else c <<< 1

/-- The CRC of a lamp frame over its CMD and payload (R304). -/
def lampCrc (cmd : Nat) (payload : List Bool) : BitVec 16 := (msbBits 8 cmd ++ payload).foldl crc16Bit 0xFFFF

/-- Bits that the framer sends after the MARK: CMD, payload and CRC, complemented where the frame is dead (R304). -/
def lampLine (cmd : Nat) (payload : List Bool) (dead : Bool) : List Bool :=
  let c := lampCrc cmd payload
  msbBits 8 cmd ++ payload ++ msbBits 16 (if dead then (~~~c).toNat else c.toNat)

/-- Bit period in ns (R301): the line rates divide 1000 Mbit/s. -/
def bitNs (rate : Nat) : Nat := 1000 / rateMbit rate

/-- Bit periods from the MARK's rising edge to the last CRC bit's (R365). -/
def edgeBits (len : Nat) : Nat := 26 + len

/-- The pulses of a frame on LD (R301, Table 10.1): of the MARK and then of each bit, the high width and the rising edge after
that of the MARK, in ps; `t` is the bit period in ns. -/
def lampPulses (t : Nat) (line : List Bool) : List (Nat × Nat) :=
  (2000 * t, 0) :: line.zipIdx.map fun (b, i) => ((if b then 750 else 250) * t, (3 + i) * 1000 * t)

/-- A MARK of this width, in ps, gives a bit period within 5 % of a supported rate (R302). -/
def markOk (w : Nat) : Bool :=
  [5000, 10000, 20000].any fun n => decide (10 * ((w : Int) - (2 * n : Nat)).natAbs ≤ n)

/-- The bits that a receiver makes of the pulses after a MARK of width `m` (two bit periods), and whether a symbol error marks
the frame (R302): a pulse outside both classes, or a rising edge more than T/16 from its place after the one before. The frame
ends where the line stays low for 2T. `due`: where the next edge belongs; `low`: when the line went low. -/
def decodePulses (m : Nat) (due low : Nat) : List (Nat × Nat) → List Bool × Bool
  | [] => ([], false)
  | (w, e) :: rest =>
    if low + m ≤ e then ([], false)
    else
      let r := decodePulses m (e + m / 2) (e + w) rest
      let wrong := decide (m < 32 * ((e : Int) - due).natAbs) || decide (16 * w < m ∨ 7 * m < 16 * w)
      (decide (m < 4 * w) :: r.1, wrong || r.2)

/-- What the LR input takes from the pulses of a frame: its bits, and whether a symbol error marks it (R302). -/
def decodeLine : List (Nat × Nat) → List Bool × Bool
  | [] => ([], true)
  | (m, _) :: rest => if markOk m then decodePulses m (3 * m / 2) m rest else ([], true)

/-- LR takes the MARK of these pulses: it rises at least 6T after LR went low at `low`, with T half the MARK's width. `edge`: when
the last pulse rises; all in ps (R302). -/
def markTaken (low edge : Nat) (pulses : List (Nat × Nat)) : Bool :=
  match pulses with
  | [] => true
  | (m, _) :: _ => decide (low + 3 * m + (pulses.getLastD (0, 0)).2 ≤ edge)

/-- A returned frame: its payload, and 0 for a correct CRC, 1 for a complemented one, 2 for any other or a symbol error
(R302, R305). -/
def classifyReturn (pulses : List (Nat × Nat)) : List Bool × Nat :=
  let (bs, wrong) := decodeLine pulses
  let body := bs.take (bs.length - 16)
  let good := body.foldl crc16Bit 0xFFFF
  let crc := BitVec.ofNat 16 (bitsNat (bs.drop (bs.length - 16)))
  (body.drop 8, if wrong || decide (bs.length < 24) then 2 else if crc = good then 0 else if crc = ~~~good then 1 else 2)

/-! ### The drivers of a port -/

/-- A device register as read at enumeration (Table 10.5). -/
def LampPort.reg (p : LampPort) (pos r : Nat) : Nat := Sparse.get (fun _ => 0xFFFF) p.regs (pos * 65536 + r)

/-- Positions found. -/
def LampPort.positions (p : LampPort) : List Nat :=
  (List.range 62).filterMap fun i => if (Sparse.find? p.regs ((i + 1) * 65536 + 5)).isSome then some (i + 1) else none

/-- CHANNELS of a device; a sensor node reports 0 (R316). -/
def LampPort.chans (p : LampPort) (pos : Nat) : Nat := bits (p.reg pos 5) 6 0

/-- Positions of the drivers. -/
def LampPort.drivers (p : LampPort) : List Nat := p.positions.filter fun i => p.chans i != 0

/-- Hop delay of a device at a rate, in ps (Table 10.5, 0.125 ns units). -/
def LampPort.hop (p : LampPort) (rate pos : Nat) : Nat := p.reg pos (0xA + min rate 2) * 125

/-- OUT_DELAY of a driver in ps. -/
def LampPort.outDelay (p : LampPort) (pos : Nat) : Nat := p.reg pos 0xD * 125

/-- Arrival of the reference edge at each of N devices, in ps times N + 1, so that no division rounds (R313): from the loop
delay L and the trims. -/
def arrivals (l : Nat) (hops : List Nat) (trims : List Int) : List Int :=
  let n := hops.length
  let t := (List.range (n + 1)).map fun j => trims.getD j 0
  let even : Int := (l : Int) - (hops.sum : Nat) - t.sum
  (List.range n).map fun i =>
    (i + 1 : Nat) * even + (n + 1 : Nat) * ((t.take (i + 1)).sum + ((hops.take i).sum : Nat))

/-- The arm time A in ps: the least multiple of 8 ns at or above the largest a_i + OUT_DELAY_i + 16 ns (R313), from these sums
times `scale`. -/
def armTime (scale : Nat) (reach : List Int) : Nat :=
  ceilDiv ((reach.foldl max 0).toNat + 16000 * scale) (8000 * scale) * 8000

/-- The arm time and the LATCH_DLY of each driver, by position, in 0.125 ns units (R313). -/
def LampPort.latches (p : LampPort) (rate l : Nat) (trims : List Int) : Nat × List (Nat × Nat) :=
  let ps := p.positions
  let scale := ps.length + 1
  let a := arrivals l (ps.map (p.hop rate)) trims
  let drv := ps.filterMap fun i =>
    if p.chans i = 0 then none
    else some (i, a.getD (i - 1) 0 + (scale * p.outDelay i : Nat))
  let arm := armTime scale (drv.map Prod.snd)
  (arm, drv.map fun d => (d.1, ((2 * ((scale * arm : Nat) - d.2 : Int) + (125 * scale : Nat)) / (250 * scale : Nat)).toNat))

/-- The trims of a port: HOP_TRIM (0x2A00+p:12). -/
def State.trims (s : State) (p : Nat) : List Int :=
  let b := s.rdD (0x2A00 + p) 0x12
  (List.range (b.length / 2)).map fun i => sfield b (2 * i) 2

/-! ### The lamp walk -/

/-- An entry of a walk: X, Y, J, UNUSED, and whether its reserved bits are zero (R362). -/
def walkEntry (walk : List Byte) (i : Nat) : Nat × Nat × Nat × Bool × Bool :=
  let v := field walk (4 * i) 4
  (bits v 11 0, bits v 23 12, bits v 25 24, bit v 31,
    bits v 30 26 == 0 && (decide (i < 64) || (bits v 25 24 == 0 && !bit v 31)))

/-- The lamp of a position, channel and scan line (R362). -/
def walkLamp (walk : List Byte) (w h prims pos ch line : Nat) : Option Nat :=
  let (cx, cy, j, unused, _) := walkEntry walk ch
  let (dx, dy, _) := walkEntry walk (63 + pos)
  let (sx, sy, _) := walkEntry walk (126 + line)
  let x := dx + cx + sx
  let y := dy + cy + sy
  if unused ∨ w ≤ x ∨ h ≤ y ∨ prims ≤ j then none else some ((y * w + x) * prims + j)

/-- The walk of a port in a configuration. -/
def Gen.walk (g : Gen) (p : Nat) : List Byte := g.rdD (0x2C10 + p) 0x10

/-- The lamp of a triple of a port in a configuration. -/
def Gen.lampAt (g : Gen) (p pos ch line : Nat) : Option Nat :=
  walkLamp (g.walk p) (g.rect p).2.2.1 (g.rect p).2.2.2 g.prims pos ch line

/-- A walk maps no two existing triples onto one lamp (R363). -/
def walkDistinct (walk : List Byte) (w h prims scan : Nat) (port : LampPort) : Bool :=
  let lamps := port.drivers.flatMap fun pos =>
    (List.range (port.chans pos)).flatMap fun ch =>
      (List.range scan).filterMap fun line => walkLamp walk w h prims pos ch line
  decide lamps.Nodup

/-- A walk is acceptable for a port (R363). -/
def walkOk (g : Gen) (p : Nat) (port : LampPort) : Bool :=
  let walk := g.walk p
  (walk.isEmpty || (List.range 158).all fun i => (walkEntry walk i).2.2.2.2) &&
    walkDistinct walk (g.rect p).2.2.1 (g.rect p).2.2.2 g.prims (g.rdN (0x2A00 + p) 0x05) port

/-! ### Transfer and window -/

/-- A driver supports a port's settings: CAP_GREY, CAP_RATE and SCAN_MAX (Table 10.5). -/
def LampPort.supports (q : LampPort) (grey rate scan pos : Nat) : Bool :=
  bit (q.reg pos 7) (grey - 12) && bit (q.reg pos 7) (8 + rate) && decide (scan ≤ bits (q.reg pos 6) 5 0)

/-- T_XFER of n lamps of G bits at a rate, ns, rounded to the nearest (R323). -/
def xferNs (n grey rate : Nat) : Nat := (2 * (n * grey * 100000) + 88 * rateMbit rate) / (2 * (88 * rateMbit rate))

/-- Bit periods of a slot's frames, from the first MARK to the reference edge (R307, R310, R324). -/
def slotBits (port : LampPort) (mode scan grey : Nat) : Nat :=
  let shares := (port.drivers.map fun i => port.chans i * grey).sum
  if mode = 0 then scan * (59 + shares) + (scan - 1) * 8 - 1
  else
    let adata := scan * (port.drivers.map fun i => 67 + port.chans i * grey).sum
    adata + scan * port.drivers.length * 8 + 42

/-- Span of a slot's frames plus A, in ps. -/
def State.slotSpan (s : State) (g : Gen) (p : Fin 64) : Nat :=
  slotBits s.lamps.port[p] s.lamps.port[p].mode (g.rdN (0x2A00 + p) 0x05) (g.grey p) *
      bitNs (g.rdN (0x2A00 + p) 0x03) * 1000 + s.rdN (0x2A00 + p) 0x11

/-- T_XFER of a port under a configuration, ns (R323, R324). -/
def State.xfer (s : State) (g : Gen) (p : Fin 64) : Nat :=
  if g.lamps p = 0 then s.slotSpan g p / 1000
  else xferNs (g.lamps p) (g.grey p) (g.rdN (0x2A00 + p) 0x03)

/-- The largest T_XFER over the enabled ports of the configuration in force and the staging bank (R323). -/
def State.tLamp (s : State) : Nat :=
  let most (g : Gen) : Nat :=
    (List.ofFn fun p : Fin 64 => if g.portOn p then s.xfer g p else 0).foldl max 0
  max (most s.staging) ((s.genNow.map most).getD 0)

/-- The shortest SLOT_LEN of a timing set (R328). -/
def TimingSet.minLen (t : TimingSet) : Nat :=
  ((List.range t.s).map fun k => (t.len[k]?).getD 0).foldl min ((t.len[0]?).getD 0)

/-- T_SLICE (R328). -/
def tSlice (grey nr ns : Nat) : Nat := ceilDiv (ceilDiv (2 ^ grey - 1) nr) ns

/-- TG in 0.125 ns units (R328). -/
def greyClock (lmin grey nr ns scan gap : Nat) : Nat :=
  min 4095 (8 * lmin / (nr * ns * scan * (tSlice grey nr ns + gap)))

/-- n_r halved until TG ≥ 8 or n_r = 1 (R328). -/
def fitPeriods (lmin grey ns scan gap : Nat) : Nat → Nat → Nat
  | 0, nr => nr
  | fuel + 1, nr =>
    if nr ≤ 1 ∨ 8 ≤ greyClock lmin grey nr ns scan gap then nr else fitPeriods lmin grey ns scan gap fuel (nr / 2)

/-- A refresh faster than the ceiling, from the sub-cycle length (R333); 65,535 is no limit. -/
def tooFast (ceiling scan slice gap tg : Nat) : Bool :=
  ceiling != 65535 && decide (scan * (slice + gap) * tg * 10 * ceiling < 8 * second)

/-! ### The checks of the lamp unit -/

/-- Two rectangles overlap. -/
def rectsMeet (a b : Nat × Nat × Nat × Nat) : Bool :=
  let (ax, ay, aw, ah) := a
  let (bx, by_, bw, bh) := b
  decide (0 < aw ∧ 0 < ah ∧ 0 < bw ∧ 0 < bh ∧ ax < bx + bw ∧ bx < ax + aw ∧ ay < by_ + bh ∧ by_ < ay + ah)

/-- The lowest-numbered condition of R273 that a configuration breaks, 0 for none. -/
def State.mapCause (s : State) (g : Gen) (slots : Nat) : Nat :=
  let rs := (List.range 64).map g.rect
  let idx := List.range 64
  if idx.any fun i => idx.any fun j => decide (i < j) && rectsMeet (g.rect i) (g.rect j) then 1
  else if rs.any fun r => decide (0 < r.2.2.1 ∧ 0 < r.2.2.2 ∧
      (g.window.1 < r.1 + r.2.2.1 ∨ g.window.2 < r.2.1 + r.2.2.2)) then 2
  else if 1048576 < g.allLamps then 3
  else if 2097152 < g.allLamps * slots then 4
  else match s.video.colour.corr with
    | some img => if corrPrims img ≠ g.prims then 5 else 0
    | none => 0
where
  corrPrims (img : List Byte) : Nat := (byteAt img 6).toNat

/-- The checks of Tables 10.6 and 11.3 and R363 that an enabled port breaks, in ascending cause order. P is taken exactly, as
den × 10^9 / num. -/
def State.portCauses (s : State) (g : Gen) (t : TimingSet) (p : Fin 64) : List Nat :=
  let port := s.lamps.port[p]
  let idx := 0x2A00 + p.1
  let grey := g.grey p
  let rate := g.rdN idx 0x03
  let scan := g.rdN idx 0x05
  let x := s.xfer g p
  let span := s.slotSpan g p
  let nr := g.rdN 0x2A80 0x01
  let ns := g.rdN 0x2A80 0x02
  let gap := g.rdN 0x2A80 0x03
  let tg := greyClock t.minLen grey nr ns scan gap
  let off (k : Nat) : Nat := (t.off[k]?).getD 0
  let spacing (k : Nat) : Nat := (if k = 0 then t.den * second else off k * t.num) - off (if k = 0 then t.s - 1 else k - 1) * t.num
  let sched := (port.drivers.map fun i => 131 + 4 * port.chans i + 16 * (port.chans i / 4)).sum * bitNs rate
  let bw : Bool := if g.lamps p = 0 then decide (t.den * second < t.s * x * t.num)
    else decide (88 * rateMbit rate * 10000 * t.den < g.lamps p * grey * t.num * t.s)
  let mark (c : Nat) (b : Bool) : List Nat := if b then [c] else []
  mark 1 bw ++
  mark 2 (decide (g.lamps p ≠ 0 ∧ x * 1000 < span)) ++
  mark 3 (decide (t.d * t.num < t.den * second + (s.rdN 0x2700 0x03 + 30000 + x) * t.num)) ++
  mark 4 (port.drivers.any fun i => !port.supports grey rate scan i) ++
  mark 5 ((List.range t.s).any fun k => decide (off k < k * x)) ++
  mark 6 (decide (tg < 8)) ++
  mark 7 ((List.range t.s).any fun k => decide (spacing k * 1000 < (sched * 1000 + span) * t.num)) ++
  mark 8 (tooFast (s.otp.shadow[p]).refresh scan (tSlice grey nr ns) gap tg) ++
  mark 9 (decide (ns < g.rdN 0x2A80 0x04)) ++
  mark 10 (!walkOk g p port)

/-! ### Pulses -/

/-- On-time units of a code in period r (R329). -/
def periodUnits (c nr r : Nat) : Nat := c / nr + (r + 1) * (c % nr) / nr - r * (c % nr) / nr

/-- Positions of a channel's segments for u units, phase q and m segments, over a line capacity (R330). -/
def segPositions (cap q m u : Nat) : List Nat :=
  let z := cap / m
  (List.range m).flatMap fun i =>
    let size := u / m + (if i < u % m then 1 else 0)
    (List.range size).map fun k => i * z + (q * z / 16 + k) % z

/-- The longest run of consecutive positions within one line slice (R330: a pulse). -/
def longestPulse (slice cap : Nat) (pos : List Nat) : Nat :=
  ((List.range cap).foldl (fun (acc : Nat × Nat) x =>
    if pos.contains x then
      let run := if x % slice = 0 then 1 else acc.1 + 1
      (run, max acc.2 run)
    else (0, acc.2)) (0, 0)).2

/-- Cover of bin b by a run of u positions from a start, wrapping (R334). -/
def binCover (cap start u b : Nat) : Nat :=
  let lo := b * cap / 16
  let hi := (b + 1) * cap / 16
  let lap (a z : Nat) : Nat := min hi z - max lo a
  if start + u ≤ cap then lap start (start + u) else lap start cap + lap 0 (min start (start + u - cap))

/-- Add a run to the loads. -/
def addRun (cap start u : Nat) (load : List Nat) : List Nat :=
  (List.range 16).map fun b => load.getD b 0 + binCover cap start u b

/-- The phase with the smallest peak, ties to the lowest (R334). -/
def bestPhase (cap u : Nat) (load : List Nat) : Nat :=
  let peak (p : Nat) : Nat := (addRun cap (p * cap / 16) u load).foldl max 0
  (List.range 16).foldl (fun best p => if peak p < peak best then p else best) 0

/-- Insert a channel before the first whose u does not exceed its own, so that channels of equal u keep their order. -/
def insertDesc (x : Nat × Nat) : List (Nat × Nat) → List (Nat × Nat)
  | [] => [x]
  | y :: ys => if y.2 ≤ x.2 then x :: y :: ys else y :: insertDesc x ys

/-- Sort channels by u descending, then channel ascending. -/
def sortDesc (xs : List (Nat × Nat)) : List (Nat × Nat) := xs.foldr insertDesc []

/-- Phases of a driver's channels (R334, R335): u of each channel and the spread channels with their m. -/
def phases (balance : Bool) (cap : Nat) (u : List Nat) (spread : List (Nat × Nat)) : List Nat :=
  let static := (List.range u.length).map (· % 16)
  if !balance then static
  else
    let load0 := spread.foldl (fun load p =>
      (segPositions cap (p.1 % 16) p.2 (u.getD p.1 0)).foldl (fun load x =>
        (List.range 16).map fun b => load.getD b 0 + (if b * cap / 16 ≤ x ∧ x < (b + 1) * cap / 16 then 1 else 0))
        load) (List.replicate 16 0)
    let normal := sortDesc (((List.zipIdx u).map fun p => (p.2, p.1)).filter fun c => !(spread.any fun s => s.1 == c.1))
    let done := normal.foldl (fun (acc : List Nat × List (Nat × Nat)) c =>
      let q := bestPhase cap c.2 acc.1
      (addRun cap (q * cap / 16) c.2 acc.1, (c.1, q) :: acc.2)) (load0, [])
    (List.range u.length).map fun ch =>
      match done.2.find? fun d => d.1 == ch with
      | some d => d.2
      | none => static.getD ch 0

/-- log2 of a power of two up to 32. -/
def log2p (v : Nat) : Nat := Nat.log2 v

/-- The BODY of a SCHED frame (Table 11.1). -/
def schedBody (nr ns tg slice gap : Nat) (qs : List Nat) (spread : List (Nat × Nat)) : List Bool :=
  msbBits 4 1 ++ msbBits 6 (nr - 1) ++ msbBits 3 (log2p ns) ++ msbBits 12 tg ++ msbBits 16 slice ++ msbBits 8 gap ++
    msbBits 7 0 ++ qs.flatMap (msbBits 4) ++ msbBits 8 spread.length ++
    spread.flatMap fun p => msbBits 8 p.1 ++ msbBits 8 (log2p p.2)

/-- Largest power of two at or below all of three bounds (R339). -/
def spreadCount (segs mx ns : Nat) : Nat := 2 ^ Nat.log2 (min segs (min mx ns))

/-- Rectangle i of a frustum record: X0, Y0, W, H, SLOTS (Table 11.2). -/
def frustumRect (r : List Byte) (i : Nat) : Nat × Nat × Nat × Nat × Nat :=
  (field r (8 + 13 * i) 3, field r (11 + 13 * i) 3, field r (14 + 13 * i) 3, field r (17 + 13 * i) 3,
    (byteAt r (20 + 13 * i)).toNat)

/-- A record may be accepted (R337). -/
def frustumOk (r : List Byte) : Bool :=
  r.length == 64 && ((r.drop 60).all (· == 0)) && (List.range 4).all fun i =>
    let (x, y, w, h, sl) := frustumRect r i
    decide (sl < 16) && (w == 0 || h == 0 || decide (x + w ≤ 2 ^ 24 ∧ y + h ≤ 2 ^ 24))

/-- Some rectangle of a record is used (R336). -/
def frustumUses (r : List Byte) : Bool :=
  (List.range 4).any fun i => (frustumRect r i).2.2.1 != 0 && (frustumRect r i).2.2.2.1 != 0

/-- A wall position is captured in slot k (R339). -/
def frustumHit (r : List Byte) (k x y : Nat) : Bool :=
  (List.range 4).any fun i =>
    let (x0, y0, w, h, sl) := frustumRect r i
    bit sl k && decide (x0 ≤ x ∧ x < x0 + w ∧ y0 ≤ y ∧ y < y0 + h)

/-- A lamp of a port is a frustum lamp in slot k (R339). -/
def Gen.frustumLamp (g : Gen) (r : List Byte) (p k n : Nat) : Bool :=
  let (x0, y0, w, _) := g.rect p
  let px := n / g.prims
  let o := g.rdN 0x2900 0x05
  frustumHit r k (bits o 23 0 + x0 + px % w) (bits o 55 32 + y0 + px / w)

end Sys2Proof.Machine
end

