-- ==== Sys2Proof/Machine/Levels.lean ====
section
/-! DEFINITION. Clock domains, the floor, and the operating level of VDD_CORE with its sequencer (R431 to R433, R437,
R438, R440 to R444). -/

namespace Sys2Proof.Machine

/-! ### Domains -/

/-- A domain is held down in a role, or where the device takes none (Table 15.1, R431, R539). -/
def heldDown (role : Role) (d : Nat) : Bool :=
  match role with
  | .sender => 35 ≤ d && d ≤ 46
  | .tile => (16 ≤ d && d ≤ 23) || d == 26 || (29 ≤ d && d ≤ 34) || (50 ≤ d && d ≤ 52) || d == 55
  | .none => d != 56 && d != 59

/-- The PLL that feeds a domain, by its bit in PLL_LOCKED; none for recovered, ball and crystal clocks (Table 15.1). -/
def pllOf (d : Nat) : Option (Fin 8) :=
  if d = 24 then some 0 else if d = 25 then some 1 else if d = 26 ∨ d = 30 ∨ d = 31 then some 2
  else if 27 ≤ d ∧ d ≤ 29 ∨ 32 ≤ d ∧ d ≤ 37 ∨ d = 49 ∨ 53 ≤ d ∧ d ≤ 55 ∨ d = 57 then some 3
  else if d = 47 ∨ d = 48 then some 4 else if 38 ≤ d ∧ d ≤ 46 then some 5 else if 50 ≤ d ∧ d ≤ 52 then some 6
  else if d = 58 then some 7 else none

/-- The domain has XTAL as its safe source (R433). -/
def hasSafe (d : Nat) : Bool :=
  match pllOf d with
  | some p => 3 ≤ p.1 && p.1 ≤ 6
  | none => false

/-- The domain's clock gate works by itself (Table 15.1). -/
def autoGated (d : Nat) : Bool := (30 ≤ d && d ≤ 38) || d == 47 || d == 48 || (50 ≤ d && d ≤ 55) || d == 57

/-- A PLL is present in a role (Table 15.2). -/
def pllUsed (role : Role) (p : Fin 8) : Bool :=
  match role with
  | .sender => p != 5
  | .tile => p != 2 && p != 6
  | .none => false

/-- The minimum level of a domain, 0 where Table 15.1 names none. -/
def minLevel (d : Nat) : Nat :=
  if 27 ≤ d ∧ d ≤ 31 ∨ 38 ≤ d ∧ d ≤ 46 ∨ d = 58 then 1 else if 32 ≤ d ∧ d ≤ 37 ∨ d = 50 then 2 else 0

/-- Change the clocks. -/
def State.withClocks (s : State) (f : Clocks → Clocks) : State := { s with clocks := f s.clocks }

/-- Change a domain. -/
def State.withDomain (s : State) (d : Fin 60) (f : Domain → Domain) : State :=
  s.withClocks fun c => { c with dom := vmod c.dom d f }

/-- Some lane of a port is enabled. -/
def State.portEnabled (s : State) (p : Nat) : Bool := (List.range 8).any fun i => s.rdB (0x2110 + 8 * p + i) 0x02

/-- Some link of a port is up: 0 A, 1 B, 2 C. -/
def State.anyUp (s : State) (p : Nat) : Bool :=
  (List.finRange 4).any fun k => min k.1 2 == p && s.lanes.link[k].phase == .up

/-- A domain whose port, lane or lamp-port group is off has its clock stopped (Table 15.1). -/
def State.unused (s : State) (d : Nat) : Bool :=
  if d < 24 then !s.rdB (0x2110 + d) 0x02
  else if d < 27 then !s.portEnabled (d - 24)
  else if d < 30 then !s.anyUp (d - 27)
  else if 39 ≤ d ∧ d ≤ 46 then (List.range 8).all fun i => !((s.lamps.port[8 * (d - 39) + i]?).map LampPort.on).getD false
  else false

/-- A domain is powered, not held down and not off for the lack of an enabled port (R432). -/
def State.domainRuns (s : State) (d : Fin 60) : Bool :=
  !heldDown s.role d && s.clocks.dom[d].powered && !s.unused d

/-- A tile's pixel path is off: nothing has been committed, or it shows nothing (R432). -/
def State.pixelOff (s : State) : Bool := s.role == .tile && (s.video.compose.gens.isEmpty || s.repeatOnly)

/-- The domain counts for the floor. The pixel domains of a tile count while its pixel path is on, and Quartz while a
chain port is up: a device with neither has floor L0 (R432). -/
def State.countsForFloor (s : State) (d : Fin 60) : Bool :=
  s.domainRuns d && (if d.1 = 58 then s.anyUp 0 || s.anyUp 1 else if 35 ≤ d.1 ∧ d.1 ≤ 46 then !s.pixelOff else true)

/-- The floor: the highest minimum level among the domains that run (R432). -/
def State.floor (s : State) : Nat :=
  ((List.finRange 60).map fun d => if s.countsForFloor d then minLevel d else 0).foldl max 0

/-- The byte of a domain in DOMAIN_STATE (Table 15.11). -/
def State.domainByte (s : State) (d : Fin 60) : Nat :=
  let x := s.clocks.dom[d]
  let held := heldDown s.role d
  let gated := held || x.gated || s.unused d
  bitAt (!gated && x.powered) 0 + bitAt gated 1 + bitAt held 2 + bitAt (hasSafe d && x.safe) 3 + bitAt x.forced 4 +
    bitAt (!x.powered) 5

/-- Begin a switch of a domain to the safe source or to its PLL (R437). -/
def State.beginSwitch (s : State) (d : Fin 60) (toSafe : Bool) : State :=
  s.withDomain d fun x => { x with switching := some toSafe }

/-- Force a switch: the FORCED bit, the counts, event 0x1102 with the source switched to (0 PLL, 1 XTAL), and for every
transaction aborted event 0x1105 with its master (R438). -/
def State.forceSwitch (s : State) (d : Fin 60) (toSafe : Bool) (aborted : List (BitVec 7)) : State :=
  let s := s.withDomain d fun x => { x with safe := toSafe, forced := true, switching := none }
  let s := ((s.bump 0x2D00 0x13 1).bump 0x2D00 0x14 aborted.length).raise 0x1102 (det d.1 (if toSafe then 1 else 0))
  aborted.foldl (fun s m => s.raise 0x1105 (det d.1 m.toNat)) s

/-! ### The operating level -/

/-- Nominal voltage of a level, mV (Table 15.3). -/
def nominalMv (l : Nat) : Int := if l = 0 then 650 else if l = 1 then 720 else if l = 2 then 800 else 880

/-- The voltage commanded at a level, mV (R440). -/
def State.levelMv (s : State) (l : Nat) : Nat :=
  let hottest := ((List.finRange 8).map fun i => s.thermal.chan[i.1].reading).foldl max (s.thermal.chan[0].reading)
  let cold : Int := if hottest < 0 then 15 else 0
  (clampI 600 900 (nominalMv l + 5 * (s.otp.vtrim[l]?).getD 0 + cold)).toNat

/-- The level in force, 0x2D00:03. -/
def State.level (s : State) : Nat := s.rdN 0x2D00 0x03

/-- An AVSBus voltage write with commit (Table 15.4, R443). -/
def State.commandLevel (s : State) (l : Nat) : State :=
  (s.wrN 0x2D00 0x05 (s.levelMv l)).emit (.avsWrite (s.rdN 0x2D00 0x0A) (s.levelMv l))

/-- The cluster clocks switch to a new frequency, and the interconnect clock when the change crosses between L1 and L2
(Table 15.4, R437). Each switch ends with CLOCK_SWITCH_COMPLETE. -/
def State.switchClusters (s : State) (a b : Nat) : State :=
  let ds : List (Fin 60) := if decide (a < 2) != decide (b < 2) then [47, 48, 49] else [47, 48]
  ds.foldl (fun s d => s.beginSwitch d s.clocks.dom[d].safe) s

/-- Begin a level change by the steps of Table 15.4; one requested while another is in progress waits (R442). -/
def State.startLevel (s : State) (l : Nat) : State :=
  match s.clocks.change with
  | some _ => s.withClocks fun c => { c with requested := some l }
  | none =>
    if l = s.level then s
    else
      let s := s.withClocks fun c => { c with change := some { fromLevel := s.level, toLevel := l, stage := 1 } }
      if s.level < l then s.commandLevel l else s.switchClusters s.level l

/-- A level change ends; the change that waited begins (R442). -/
def State.endLevel (s : State) (l cluster : Nat) : State :=
  let next := s.clocks.requested
  let s := s.withClocks fun c => { c with change := none, requested := none, clusterLevel := cluster }
  let s := if l = s.level then s else (s.wrN 0x2D00 0x03 l).bump 0x2D00 0x08 1
  match next with
  | some n => s.startLevel n
  | none => s

/-- The next step of a level change (Table 15.4). -/
def State.advanceLevel (s : State) (c : LevelChange) : State :=
  let to_ (n : Nat) : State := s.withClocks fun k => { k with change := some { c with stage := n } }
  if c.fromLevel < c.toLevel then
    if c.stage = 3 then (to_ 4).switchClusters c.fromLevel c.toLevel
    else if 4 ≤ c.stage then s.endLevel c.toLevel c.toLevel
    else to_ (c.stage + 1)
  else if c.stage = 1 then State.commandLevel ((to_ 2).withClocks fun k => { k with clusterLevel := c.toLevel }) c.toLevel
  else if c.stage = 2 then to_ 3
  else s.endLevel c.toLevel c.toLevel

/-- A level change fails: the level stays at the higher of the two with the clusters at the lower frequency, and is
held until the next cold start (R444). -/
def State.failLevel (s : State) : State :=
  match s.clocks.change with
  | none => s.withClocks fun k => { k with pinned := some s.level }
  | some c =>
    let hi := max c.fromLevel c.toLevel
    let s := s.withClocks fun k => { k with requested := none, pinned := some hi }
    s.endLevel hi (min c.fromLevel c.toLevel)

/-- Some die sensor reads at or above the warning temperature of 140 °C (R441, R461). -/
def State.dieWarm (s : State) : Bool :=
  s.thermal.warning || (List.finRange 8).any fun i => decide (140 * 16 ≤ s.thermal.chan[i.1].reading)

/-- The highest level allowed: L2, or a higher floor, while the die is warm (R441). -/
def State.levelCap (s : State) : Nat := if s.dieWarm then max 2 s.floor else 3

/-- Ask for a level: never below the floor, and held by the temperature with event 0x1204 (R441). -/
def State.wantLevel (s : State) (l : Nat) : State :=
  let want := max l s.floor
  let s := s.raiseIf (decide (s.levelCap < want)) 0x1204 (det (min want s.levelCap) want)
  s.startLevel (min want s.levelCap)

/-- The level that DVFS_MODE 1 asks for: LEVEL_FIXED, or the level of R444 while one is held. -/
def State.fixedLevel (s : State) : Option Nat :=
  match s.clocks.pinned with
  | some l => some l
  | none => if s.rdN 0x2D00 0x01 = 1 then some (s.rdN 0x2D00 0x02) else none

/-- Keep the level at the fixed level, at or above the floor, and at or below what the temperature allows (R441). -/
def State.trackLevel (s : State) : State :=
  let l := s.fixedLevel.getD s.level
  if s.clocks.change.isSome || s.level == min (max l s.floor) s.levelCap then s else s.wantLevel l

end Sys2Proof.Machine
end

