-- ==== Sys2Proof/Machine/Commit.lean ====
section
/-! DEFINITION. The commit of a tile's configuration (R205, R226, R230, R236 to R238, R246 to R252, R273, R279,
R324, R340, R363): requests, the commit checker, and the generation it makes. -/

namespace Sys2Proof.Machine

/-! ### Frames and deadlines -/

/-- The timing set of a frame: from the frame of a pending change on, the new set on its new base; before F_BASE, the set
that the last change replaced; else the one in force (R192, R194). -/
def State.setFor (s : State) (f : Nat) : TimingSet :=
  let held := if f < s.quartz.set.fBase then s.quartz.old.getD s.quartz.set else s.quartz.set
  match s.quartz.pending with
  | some (.newSet fc t) => if fc ≤ f then s.quartz.set.rebase t fc else held
  | _ => held

/-- T_frame(F), 2^-16 ns. -/
def State.tFrame (s : State) (f : Nat) : Nat := (s.setFor f).tFrame f

/-- The commit deadline of a frame: T_frame(F) − 200 µs (R247). -/
def State.deadline (s : State) (f : Nat) : Nat := s.tFrame f - 200000 * subNs

/-- The first frame whose T_frame lies at or after a wall time. -/
def State.firstFrom (s : State) (w : Nat) : Nat :=
  let f := s.quartz.set.frameAt w
  if w ≤ s.tFrame f then f else f + 1

/-- The earliest frame whose deadline lies at least an interval ahead (R248). -/
def State.earliest (s : State) (aheadNs : Nat) : Nat := s.firstFrom (s.quartz.wall + (200000 + aheadNs) * subNs)

/-- The deadline of a frame has passed. -/
def State.passed (s : State) (f : Nat) : Bool := decide (s.deadline f ≤ s.quartz.wall)

/-- The tile holds a timing set: its Quartz has locked since the cold reset (R248). -/
def State.hasTiming (s : State) : Bool := s.quartz.lockedOnce

/-- The end of the last slot window of a frame, 2^-16 ns. -/
def State.lastWindowEnd (s : State) (f : Nat) : Nat :=
  let t := s.setFor f
  t.tPresent f + ((t.off[t.s - 1]?).getD 0 + (t.len[t.s - 1]?).getD 0) * subNs

/-- Generations still in use at a frame, newest first: a generation is released when the last slot window of the last frame that
uses it has closed (R247). -/
def State.keptGens (s : State) (f : Nat) : List Gen → List Gen
  | [] => []
  | g :: rest => if g.frame ≤ f ∧ s.lastWindowEnd (g.frame - 1) ≤ s.quartz.wall then [g] else g :: s.keptGens f rest

/-- Every bank and generation that could name a set or a table: staging and those in flight (R232, R246, R247). -/
def State.configs (s : State) : List Gen := s.staging :: s.keptGens s.quartz.frame s.video.compose.gens

/-- A commit at a frame needs a fifth generation (R249). -/
def State.needsFifth (s : State) (f : Nat) : Bool :=
  match s.video.compose.gens with
  | _ :: b :: _ :: _ => decide (s.tFrame f < s.lastWindowEnd (b.frame - 1))
  | _ => false

/-- The wall shares 0xFF as "no layer" in an event's detail. -/
def noLayer (v : Nat) : Nat := det 0xFF v

/-- Set or clear the pending commit, and PENDING_FRAME with it. -/
def State.setPending (s : State) (p : Option CommitPending) : State :=
  (s.withCompose fun c => { c with pending := p }).wrN 0x2880 0x03 ((p.map CommitPending.frame).getD 0)

/-- Request a commit at a frame from a source of R44 (R248, R249): abort code 0 when accepted. -/
def State.requestCommit (s : State) (frame : Nat) : Nat × State :=
  if !s.hasTiming then (abState, s)
  else
    let f := if frame = 0 then s.earliest ms else frame
    match s.video.compose.pending with
    | some p => if p.frame = f then (0, s) else (abState, s)
    | none =>
      if s.passed f then (abState, s)
      else if s.needsFifth f then (abState, s.cause 2)
      else (0, s.setPending (some { frame := f, fromChain := false, gen := none, mapGen := none, named := none, late := 0, full := false }))

/-- Reload the staging bank from the configuration in force (R251). -/
def State.reloadStaging (s : State) : State :=
  let rest := Sparse.keep (fun k => !odBound (k / 256) (k % 256)) s.od
  match s.genNow with
  | none => { s with od := rest, tile := { s.tile with groupsStaged := [] } }
  | some g =>
    { s with
      od := g.od.foldl (fun m e => Sparse.set (odDefault s.role) m e.1 e.2) rest
      tile := { s.tile with groupsStaged := g.groups } }

/-- Cancel the pending commit before its deadline (R251). -/
def State.abortCommit (s : State) : State :=
  match s.video.compose.pending with
  | some p => if s.passed p.frame then s else (s.setPending none).reloadStaging
  | none => s.reloadStaging

/-! ### The checker -/

/-- The commit-bound objects of a layer (R237): its layer object and its colour object. -/
def layerKeys (n : Nat) : List (Nat × Nat) :=
  ((List.range 0x13).map fun i => (0x2800 + n, i + 1)) ++ ((List.range 4).map fun i => (0x2910 + n, i + 1))

/-- The objects of the lamp unit (R324, R340, R362). -/
def lampKeys : List (Nat × Nat) :=
  [(0x2940, 0x01), (0x2940, 0x02)] ++
    ((List.range 6).map fun i => (0x2A80, i + 1)) ++
    ((List.range 64).flatMap fun p =>
      [(0x2A00 + p, 0x01), (0x2A00 + p, 0x03), (0x2A00 + p, 0x04), (0x2A00 + p, 0x05), (0x2C10 + p, 0x10)])

/-- Take values of some objects from another generation. -/
def Gen.take (g old : Gen) (ks : List (Nat × Nat)) : Gen :=
  ks.foldl (fun g k => g.wr k.1 k.2 (old.rd k.1 k.2)) g

/-- A layer's configuration differs between two generations, its window with it, or it was shown by a fill. -/
def Gen.changed (new old : Gen) (n : Nat) : Bool :=
  (old.filled[n]?).getD false || new.window != old.window || new.bufWin[n]? != old.bufWin[n]? || (layerKeys n).any fun k => new.rd k.1 k.2 != old.rd k.1 k.2

/-- A scaler is healthy (R226). -/
def State.scalerOk (s : State) (k : Nat) : Bool := k < 8 && !s.lamps.retired.getLsbD k && s.lamps.bistRun != some (1, k)

/-- SCALER of a layer. -/
def Gen.scalerSel (g : Gen) (n : Nat) : Nat := g.rdN (0x2800 + n) 0x02

/-- A layer is shown by its picture, not only by a fill. -/
def Gen.blends (g : Gen) (n : Nat) : Bool := g.shows n && !(g.filled[n]?).getD false

/-- Assign scalers to the shown layers (R226, R237): a refused layer keeps its own, then those that name one take it, the lowest
of those that name the same, then the automatic ones in order the lowest healthy one that no other layer holds. -/
def State.assignScalers (s : State) (g old : Gen) (refused : List Nat) : Vector (Option Nat) 8 :=
  let kept (n : Nat) : Option Nat := if g.blends n && refused.contains n then ((old.scaler[n]?).getD none).filter s.scalerOk else none
  let held := (List.range 8).filterMap kept
  let named := (List.range 8).filter fun n =>
    g.blends n && (kept n).isNone && s.scalerOk (g.scalerSel n) && !held.contains (g.scalerSel n) &&
      !(List.range n).any fun m => g.blends m && (kept m).isNone && g.scalerSel m == g.scalerSel n
  let taken := held ++ named.map g.scalerSel
  let auto := (List.range 8).filter fun n => g.blends n && (kept n).isNone && g.scalerSel n == 0xFF
  let free := (List.range 8).filter fun k => s.scalerOk k && !taken.contains k
  Vector.ofFn fun n : Fin 8 =>
    if (kept n).isSome then kept n
    else if named.contains n.1 then some (g.scalerSel n)
    else ((List.zip auto free).find? fun z => z.1 == n.1).map (·.2)

/-- The first cause of step 1 that a layer breaks, and its detail (R236, Table 8.3); cause 0 for none. -/
def State.layerCause (s : State) (g : Gen) (n : Nat) : Nat × Nat :=
  let bs := g.binds n
  let (w, h) := g.window
  match bs.find? fun p => !p.2.geomOk with
  | some p => (7, p.1)
  | none =>
    if bs.isEmpty then (0, 0)
    else
      let sel := g.scalerSel n
      let lower := (List.range n).any fun m => g.shows m && g.scalerSel m == sel
      let scalerBad := if sel = 0xFF then ((s.assignScalers g g [])[n]?.getD none).isNone else !s.scalerOk sel || lower
      if scalerBad then (4, sel)
      else
        let hs := g.rdN (0x2800 + n) 0x03
        let vs := g.rdN (0x2800 + n) 0x04
        let tf := bs.find? fun p => !s.rdB (0x2920 + tfOf (g.rdN (0x2910 + n) 0x02) p.2.tcs) 0x02 &&
          decide (3 ≤ tfOf (g.rdN (0x2910 + n) 0x02) p.2.tcs)
        if !s.rdB (0x2850 + hs) 0x02 then (5, hs)
        else if !s.rdB (0x2850 + vs) 0x02 then (5, vs)
        else match tf with
          | some p => (5, 0x100 + tfOf (g.rdN (0x2910 + n) 0x02) p.2.tcs)
          | none =>
            match bs.find? fun p => decide (4096 < p.2.wNeed w h) with
            | some p => (1, p.2.wNeed w h)
            | none => (0, 0)

/-- A layer fails the MATTE rule (R238), or its matte layer is refused. -/
def Gen.matteBad (g : Gen) (refused : List Nat) (n : Nat) : Bool :=
  let m := g.matte n
  (g.alpha n == 1 || g.alpha n == 2) && g.shows n &&
    (g.alpha m != 3 || refused.contains m ||
      (g.binds n).any fun p =>
        match (g.binds m).find? fun q => q.1 == p.1 with
        | none => true
        | some q => q.2.dstW != p.2.dstW || q.2.dstH != p.2.dstH || q.2.xOff != p.2.xOff || q.2.yOff != p.2.yOff)

/-- A configuration with one layer refused (R205, R237): the layer keeps its previous configuration, with its buffers, or has none
and shows its fill. -/
def Gen.refuse (new old : Gen) (n : Nat) : Gen :=
  if old.blends n then
    { new.take old (layerKeys n) with
      filled := new.filled.set! n false
      bufWin := new.bufWin.set! n ((old.bufWin[n]?).getD 0) }
  else { new with filled := new.filled.set! n true }

/-- The costs of a layer in slot k as step 2 counts them (R236). Its old configuration runs under the new window. -/
def costOf (new old : Gen) (changed refused : Bool) (n k : Nat) : List (Nat × Nat) :=
  if refused then ((new.refuse old n).cost n k).toList
  else if changed then
    match new.cost n k, (new.refuse old n).cost n k with
    | some a, some b => [(max a.1 b.1, max a.2 b.2)]
    | some a, none => [a]
    | none, some b => [b]
    | none, none => []
  else (new.cost n k).toList

/-- What the checker has refused: layer, cause and detail. -/
abbrev Refusals := List (Nat × Nat × Nat)

/-- A layer has been refused. -/
def Refusals.has (r : Refusals) (n : Nat) : Bool := r.any fun e => e.1 == n

/-- Step 1 of the checker (R236). -/
def State.checkLayers (s : State) (new old : Gen) : Refusals :=
  let first := (List.range 8).filterMap fun n =>
    if new.changed old n then
      let c := s.layerCause new n
      if c.1 = 0 then none else some (n, c.1, c.2)
    else none
  let names := first.map (·.1)
  first ++ (List.range 8).filterMap fun n =>
    if !names.contains n && new.matteBad names n then some (n, 6, new.matte n) else none

/-- Step 2 of the checker (R236): each changed layer in turn. -/
def checkRefill (new old : Gen) (refused : Refusals) : Refusals :=
  let (w, h) := new.window
  (List.range 8).foldl (fun (r : Refusals) n =>
    if r.has n || !new.changed old n then r
    else
      let c (k : Nat) : Nat := cycles w h ((List.range (n + 1)).flatMap fun m => costOf new old (new.changed old m) (r.has m) m k)
      match (List.range 4).find? fun k => decide (30000 < c k) with
      | some k => r ++ [(n, 2, c k)]
      | none => r) refused

/-- A configuration with its refused layers put back or shown by their fill (R237). -/
def Gen.settle (new old : Gen) (refused : Refusals) : Gen :=
  (List.range 8).foldl (fun g n =>
    if refused.has n then g.refuse old n else { g with filled := g.filled.set! n false }) new

/-- Layers left without a scaler once the refused ones keep theirs (R226, R237): the layer itself is refused with cause
SCALER, or, where it has not changed, the accepted layer that has and names its scaler, else the highest accepted one that
has. DEDUCED, log entry 110. -/
def State.checkScalers (s : State) (new old : Gen) : Nat → Refusals → Refusals
  | 0, r => r
  | fuel + 1, r =>
    let g := new.settle old r
    let a := s.assignScalers g old (r.map (·.1))
    match (List.range 8).find? fun n => g.blends n && !r.has n && ((a[n]?).getD none).isNone with
    | none => r
    | some n =>
      let others := (List.range 8).reverse.filter fun m => new.changed old m && new.blends m && !r.has m
      let rival := others.find? fun m => new.scalerSel m == new.scalerSel n && new.scalerSel n != 0xFF
      match (if new.changed old n then some n else rival.or others.head?) with
      | some m =>
        let r := r ++ [(m, 4, new.scalerSel m)]
        let names := r.map (·.1)
        let mattes := ((List.range 8).filter fun l => !r.has l && new.matteBad names l).map fun l => (l, 6, new.matte l)
        s.checkScalers new old fuel (r ++ mattes)
      | none => r

/-- Storage slots that the current frame of a layer occupies (R205). -/
def State.currentSlots (s : State) (n : Nat) : Nat :=
  match s.video.store.current[n]?.getD none with
  | some f => (f.bufs.map FrameBuf.slots).sum
  | none => 0

/-- Pool slots (R202). -/
def poolSlots : Nat := 83285

/-- The regions of a layer or their needed ranges differ between two generations, whichever slot shows which (R205). -/
def bufsDiffer (new old : Gen) (n : Nat) : Bool :=
  (new.spans n).length != (old.spans n).length || !(new.spans n).all (old.spans n).contains

/-- Step 3 of the checker: the frame-store check (R205). -/
def State.checkStore (s : State) (new old : Gen) (refused : Refusals) : Refusals :=
  (List.range 8).foldl (fun (r : Refusals) n =>
    if r.has n || !bufsDiffer new old n then r
    else
      let eff (m : Nat) : Nat := if r.has m then (new.refuse old m).need m else new.need m
      let lower := ((List.range n).map fun m =>
        eff m + (if !r.has m && bufsDiffer new old m then s.currentSlots m else 0)).sum
      let higher := (((List.range 8).filter fun m => decide (n < m) && (r.has m || !bufsDiffer new old m)).map eff).sum
      let total := lower + new.need n + s.currentSlots n + higher
      if poolSlots < total then r ++ [(n, 3, total - poolSlots)] else r) refused

/-- Publish a layer's check (R237, Table 8.8). -/
def State.publishLayer (s : State) (g : Gen) (refused : Refusals) (n : Nat) : State :=
  let e := refused.find? fun e => e.1 == n
  let (w, h) := g.window
  let s := s.wrN (0x2800 + n) 0x20 ((e.map (·.2.1)).getD 0)
  let s := s.wrN (0x2800 + n) 0x21 ((e.map (·.2.2)).getD 0)
  let s := s.wrN (0x2800 + n) 0x22 (sat 0xFFFF (((g.binds n).map fun p => p.2.wNeed w h).foldl max 0))
  let s := s.publish (0x2800 + n) 0x1E 0x1F true
  match e with
  | some e =>
    let s := s.raise 0x5102 (det n e.2.1)
    if e.2.1 = 3 then s.raise 0x5203 (det n (sat 0xFFFF e.2.2)) else s
  | none => s

/-- CORR_SELECT in force at a frame (R279, R280). -/
def State.corrChosen (s : State) (f : Nat) : Nat := ((s.genFor f).map fun g => g.rdN 0x2930 0x01).getD s.video.colour.select

/-- The correction part of a commit (R279): keep the previous selection unless the change is accepted. -/
def State.checkCorr (s : State) (new : Gen) : Gen × State :=
  let sel := new.rdN 0x2930 0x01
  let was := s.corrChosen new.frame
  let keep := new.wr 0x2930 0x01 (.num was)
  if sel = was then (new, s)
  else if s.video.colour.load.isSome then (keep, s.raise 0x5302 (det sel 2))
  else if sel ≠ 2 ∧ !(s.video.colour.verified[sel]?).getD false then (keep, s.raise 0x5302 (det sel 1))
  else (new, s)

/-- The lamp unit of a commit (R273, R324, R340, R363); one that passes gives every port its PERIODS back (R328). -/
def State.checkLamps (s : State) (new old : Gen) (t : TimingSet) : Gen × State :=
  let map := s.mapCause new t.s
  let causes := (List.finRange 64).map fun (p : Fin 64) => (p, if new.portOn p then (s.portCauses new t p).headD 0 else 0)
  let s := causes.foldl (fun s c => s.wrN (0x2A00 + c.1.1) 0x16 c.2) s
  let s := s.raiseIf (map != 0) 0x5306 (noLayer map)
  let first := causes.find? fun c => c.2 != 0
  let s := match first with
    | some c => s.raise (if 6 ≤ c.2 ∧ c.2 ≤ 9 then 0x6201 else 0x6106) (det c.1.1 c.2)
    | none => s
  if map ≠ 0 ∨ first.isSome then (new.take old lampKeys, s)
  else (new, { s with lamps := { s.lamps with port := s.lamps.port.map fun q => { q with reduced := none } } })

/-- The lamp settings of a port differ between two generations. -/
def lampsDiffer (new old : Gen) (p : Nat) : Bool :=
  [(0x2A00 + p, 0x01), (0x2A00 + p, 0x03), (0x2A00 + p, 0x04), (0x2A00 + p, 0x05), (0x2C10 + p, 0x10),
    (0x2940, 0x01), (0x2940, 0x02), (0x2A80, 0x01), (0x2A80, 0x02), (0x2A80, 0x03)].any
    fun k => new.rd k.1 k.2 != old.rd k.1 k.2

/-- Change one engine. -/
def State.withEngine (s : State) (p : Fin 64) (f : Engine → Engine) : State :=
  { s with lamps := { s.lamps with engine := vmod s.lamps.engine p f } }

/-- Change one lamp port. -/
def State.withPort (s : State) (p : Fin 64) (f : LampPort → LampPort) : State :=
  { s with lamps := { s.lamps with port := vmod s.lamps.port p f } }

/-- Post a request to an engine; a newer request replaces an unread one (R369). -/
def State.request (s : State) (p : Fin 64) (code : Nat) (frame : Nat) : State :=
  s.withEngine p fun e => { e with req := BitVec.ofNat 32 (code + frame % 2 ^ 24 * 256), reqWaiting := true }

/-- Presentation stops, and begins anew under R253; what is shown meanwhile is held (R141, R163, R164). -/
def State.stopPresenting (s : State) : State :=
  (s.wrN 0x2880 0x0D 0).withCompose fun c => { c with firstReady := none }

/-- The pixel path declares a fault: event 0x5109 and repeater-only mode (R255, R140). -/
def State.pixelFault (s : State) (cause : Nat) : State :=
  let s := s.raise 0x5109 (noLayer cause)
  if s.tile.pixelFault then s
  else
    let s := State.stopPresenting { s with tile := { s.tile with pixelFault := true } }
    s.raise 0x3106 (s.rdN 0x2200 0x02 % 256 + 2 * 65536)

/-- Run the checker on the staging bank and make the generation of a frame (R236, R247). -/
def State.commitAt (s : State) (p : CommitPending) : State :=
  let f := p.frame
  let old := (s.genFor f).getD Gen.none_
  let t := s.setFor f
  let staged := s.staging
  let new := { staged with
    frame := f
    gen := p.gen.getD staged.gen
    chained := p.gen.or old.chained
    mapGen := p.mapGen.getD old.mapGen }
  let first := s.checkScalers new old 8 (s.checkLayers new old)
  let refused := s.checkScalers new old 8 (s.checkStore new old (checkRefill new old first))
  let g := new.settle old refused
  let (g, s) := s.checkCorr g
  let (g, s) := s.checkLamps g old t
  let g := { g with scaler := s.assignScalers g old (refused.map (·.1)) }
  let s := ((List.range 8).filter fun n => new.changed old n || refused.has n).foldl
    (fun s n => s.publishLayer g refused n) s
  let mask := ((List.range 8).map fun n => bitAt (refused.has n) n).sum
  let (w, h) := g.window
  let cyc (k : Nat) : Nat := cycles w h ((List.range 8).flatMap fun n => (g.cost n k).toList)
  let s := s.wrN 0x2880 0x0A mask
  let s := (List.range 4).foldl (fun s k => s.wrN 0x2880 (0x11 + k) (sat 0xFFFF (cyc k))) s
  let s := s.publish 0x2880 0x08 0x09 true
  let s := if p.late = 0 then s else (s.bump 0x2880 0x0F 1).raise 0x5101 (noLayer p.late)
  let s := s.setPending none
  let s := (List.finRange 64).foldl (fun s (q : Fin 64) =>
    if lampsDiffer g old q && old.portOn q && g.portOn q then s.request q 4 f else s) s
  (s.withCompose fun c => { c with gens := g :: c.gens }).trackLevel

/-- A chain commit that finds four generations in flight: event 0x510B, once, with the frame that its COMMIT named (R249). -/
def State.tellFull (s : State) (p : CommitPending) : CommitPending × State :=
  match p.named with
  | some f => ({ p with named := none }, s.raise 0x510B (noLayer (f % 65536)))
  | none => (p, s)

/-- Hold the pending commit until the next frame whose deadline lies ahead (R249, R252). -/
def State.holdCommit (s : State) (p : CommitPending) (late : Nat) (full : Bool) : State :=
  s.setPending (some { p with frame := p.frame + 1, late := if p.late = 0 then late else p.late, full := full })

/-- Both ends are dead (R163). -/
def State.feedLost (s : State) : Bool := s.tile.alive[0].isNone && s.tile.alive[1].isNone

/-- COMMIT_DEADLINE. At the deadline of the pending commit, hold it, or check the staging bank and make the
generation; where the checker cannot run, publish a failed run and declare a pixel-path fault
(R236, R247, R249, R252, R255). `checkerDown`: the checker cannot run. -/
def execCommitDeadline (checkerDown : Bool) (s : State) : Out1 :=
  if !s.isTile then .next s
  else match s.video.compose.pending with
    | none => .next s
    | some p =>
      let s := s.untilWall (s.deadline p.frame)
      if s.feedLost then .next (s.holdCommit p 3 p.full)
      else if s.repeatOnly then .next (s.holdCommit p 4 p.full)
      else if p.fromChain && s.needsFifth p.frame then
        let (p, s) := s.tellFull p
        .next (s.holdCommit p 2 true)
      else if p.full then .next (s.holdCommit p 2 true)
      else if checkerDown then
        .next (((s.setPending none).publish 0x2880 0x08 0x09 false).pixelFault 3)
      else .next (s.commitAt p)

/-- A COMMIT that names this tile (R248, R251): STAGE_GEN is judged first, then the request as if COMMIT_FRAME had been written,
but that a pending local commit of another frame gives way. -/
def State.commitCell (s : State) (gen frame mapGen : Nat) : State :=
  let p : CommitPending :=
    { frame := frame, fromChain := true, gen := some gen, mapGen := some mapGen, named := some frame, late := 0, full := false }
  if s.rdN 0x2880 0x01 ≠ gen then s.raise 0x5105 (noLayer gen)
  else if !s.hasTiming ∨ s.passed frame then s
  else match s.video.compose.pending with
    | none => s.setPending (some p)
    | some q =>
      if q.frame = frame then s.setPending (some p)
      else if q.fromChain then s
      else (s.raise 0x5106 (noLayer (frame % 65536))).setPending (some p)

/-- The newest generation holds the chain commit of a GEN and MAP_GEN. -/
def State.hasChained (s : State) (gen mapGen : Nat) : Bool :=
  match s.video.compose.gens with
  | g :: _ => g.chained == some gen && g.mapGen == mapGen
  | [] => false

/-- A GEN_STATE (R249, R252): a generation in force that equals STAGE_GEN and that this tile has not committed. A pending local
commit gives way as it does to a COMMIT (DEDUCED, log entry 123). -/
def State.genStateCell (s : State) (gen mapGen : Nat) : State :=
  let repair (s : State) (early : Nat) : State :=
    if s.rdN 0x2880 0x01 = gen ∧ !s.hasChained gen mapGen ∧ s.hasTiming then
      s.setPending (some { frame := early, fromChain := true, gen := some gen, mapGen := some mapGen, named := none,
                           late := 1, full := false })
    else s
  match s.video.compose.pending with
  | none => repair s (s.earliest 0)
  | some p =>
    if p.fromChain then (if p.full ∧ p.gen = some gen then s.setPending (some { p with full := false }) else s)
    else
      let t := repair s (s.earliest 0)
      let moved := t.video.compose.pending != some p && p.frame != s.earliest 0
      t.raiseIf moved 0x5106 (noLayer (s.earliest 0 % 65536))

/-- An ABORT cell before the deadline of the frame it names (R251). -/
def State.abortCell (s : State) (frame : Nat) : State :=
  match s.video.compose.pending with
  | some p => if p.frame = frame then s.abortCommit else s
  | none => if s.passed frame then s else s.reloadStaging

end Sys2Proof.Machine
end

