-- ==== Sys2Proof/Machine/Codewords.lean ====
section
/-! DEFINITION. The coding of the serial lanes: blocks and symbols, the scrambler and the PAM4 levels (R83), the FEC codes and
their correction (R82), training frames (R87), and the blocks of a cell over the lanes of a port (R95, R111). -/

namespace Sys2Proof.Machine

/-! ### Blocks, scrambler and levels (R83) -/

/-- The bits of a block, the most significant first. -/
def blockBits (b : BitVec 256) : List Bool := (List.range 256).map fun i => b.getLsbD (255 - i)

/-- Cut a list into pieces of `n`, `fuel` of them at most. -/
def pieces {α : Type} (n : Nat) : Nat → List α → List (List α)
  | 0, _ => []
  | fuel + 1, l => if l.isEmpty then [] else l.take n :: pieces n fuel (l.drop n)

/-- The additive scrambler x^31 + x^28 + 1: the bits scrambled, and the register after them. Bit i of the register is the
scrambling bit of i + 1 places ago (DEDUCED, log entry 103). The same function descrambles. -/
def scramble : BitVec 31 → List Bool → List Bool × BitVec 31
  | r, [] => ([], r)
  | r, b :: bs =>
    let k := r.getLsbD 30 ^^ r.getLsbD 27
    let rest := scramble (r <<< 1 ||| (if k then 1 else 0)) bs
    ((b ^^ k) :: rest.1, rest.2)

/-- The seed with which the scrambler of a lane index is reloaded at every marker. -/
def scramblerSeed (i : Nat) : BitVec 31 := BitVec.ofNat 31 (0x1000 + i)

/-- The PAM4 level of a pair of bits, Gray-coded. -/
def gray : Bool → Bool → Int
  | false, false => -3
  | false, true => -1
  | true, true => 1
  | true, false => 3

/-- The levels that carry bits: PAM4 by pairs, or NRZ at the two full-swing levels. -/
def levels (pam4 : Bool) : List Bool → List Int
  | [] => []
  | [a] => [if a then 3 else -3]
  | a :: b :: rest =>
    if pam4 then gray a b :: levels pam4 rest
    else (if a then 3 else -3) :: levels pam4 (b :: rest)

/-! ### GF(2^10) and the two codes (R82) -/

/-- A FEC symbol. -/
abbrev Sym := BitVec 10

/-- Times x, modulo x^10 + x^3 + 1. -/
def gfDouble (a : Sym) : Sym := if a.getLsbD 9 then (a <<< 1) ^^^ 9 else a <<< 1

/-- The product in GF(2^10). -/
def gfMul (a b : Sym) : Sym :=
  (List.range 10).foldr (fun i acc => gfDouble acc ^^^ (if b.getLsbD i then a else 0)) 0

/-- A power. -/
def gfPow (a : Sym) : Nat → Sym
  | 0 => 1
  | n + 1 => gfMul a (gfPow a n)

/-- The inverse; 0 of 0. -/
def gfInv (a : Sym) : Sym := gfPow a 1022

/-- A polynomial's value; coefficients from the highest power down. -/
def gfEval (p : List Sym) (x : Sym) : Sym := p.foldl (fun acc c => gfMul acc x ^^^ c) 0

/-- A polynomial times (x + r). -/
def timesRoot (p : List Sym) (r : Sym) : List Sym :=
  List.zipWith (· ^^^ ·) (p ++ [0]) (0 :: p.map (gfMul r))

/-- The product of (x + α^j) for j from 0 up to n − 1, and the power α^n, for the generator of a code. -/
def rootProduct : Nat → List Sym × Sym
  | 0 => ([1], 1)
  | n + 1 =>
    let r := rootProduct n
    (timesRoot r.1 r.2, gfDouble r.2)

/-- Symbols that a mode corrects: long FEC 15, hop FEC 4. -/
def fecLimit (long : Bool) : Nat := if long then 15 else 4

/-- Data symbols of a codeword. -/
def fecData (long : Bool) : Nat := if long then 514 else 128

/-- Symbols of a codeword. -/
def fecSize (long : Bool) : Nat := fecData long + 2 * fecLimit long

/-- Blocks that a codeword holds. -/
def fecBlocks (long : Bool) : Nat := if long then 20 else 5

/-- The generator of a mode's code, with roots α^0 and up, without its leading coefficient: of long FEC that of IEEE 802.3
clause 119, of hop FEC the one built alike (DEDUCED, log entry 103). -/
def generator (long : Bool) : List Sym := (rootProduct (2 * fecLimit long)).1.drop 1

/-- The parity symbols of data symbols. -/
def parity (long : Bool) (data : List Sym) : List Sym :=
  let g := generator long
  data.foldl (fun r d =>
    let f := d ^^^ r.headD 0
    List.zipWith (· ^^^ ·) (r.drop 1 ++ [0]) (g.map (gfMul f))) (List.replicate (2 * fecLimit long) 0)

/-- The codeword of some blocks' scrambled bits: data symbols, with long FEC's pad field of 20 zeros after the blocks, then
parity symbols (R82, R83). -/
def codeword (long : Bool) (scrambled : List Bool) : List Sym :=
  let all := scrambled ++ (if long then List.replicate 20 false else [])
  let data := (pieces 10 (fecData long) all).map fun p => BitVec.ofNat 10 (bitsNat p)
  data ++ parity long data

/-- The bits of a codeword in the order in which they are sent. -/
def codewordBits (c : List Sym) : List Bool := c.flatMap fun x => (List.range 10).map fun i => x.getLsbD (9 - i)

/-! ### Correction (R82) -/

/-- The syndromes of received symbols. -/
def syndromes (long : Bool) (r : List Sym) : List Sym :=
  (List.range (2 * fecLimit long)).map fun j => gfEval r (gfPow 2 j)

/-- The search for the error locator (Berlekamp and Massey): the locator and the one before its last change, from the lowest
power up, the locator's length, the steps since that change, and the discrepancy there. -/
structure Locator where
  c : List Sym
  b : List Sym
  len : Nat
  gap : Nat
  d : Sym
  deriving DecidableEq, Repr

/-- The sum of two polynomials, from the lowest power up. -/
def polySum (a b : List Sym) : List Sym :=
  (List.range (max a.length b.length)).map fun i => a.getD i 0 ^^^ b.getD i 0

/-- One step of the search, on syndrome n. -/
def Locator.next (x : Locator) (syn : List Sym) (n : Nat) : Locator :=
  let disc := (List.range (x.len + 1)).foldl (fun a i => a ^^^ gfMul (x.c.getD i 0) (syn.getD (n - i) 0)) 0
  if disc = 0 then { x with gap := x.gap + 1 }
  else
    let c := polySum x.c (List.replicate x.gap 0 ++ x.b.map (gfMul (gfMul disc (gfInv x.d))))
    if 2 * x.len ≤ n then { c := c, b := x.c, len := n + 1 - x.len, gap := 1, d := disc }
    else { x with c := c, gap := x.gap + 1 }

/-- The error locator of syndromes, from the lowest power up. -/
def locatorOf (syn : List Sym) : List Sym :=
  ((List.range syn.length).foldl (fun x n => Locator.next x syn n) { c := [1], b := [1], len := 0, gap := 1, d := 1 }).c

/-- The errors that syndromes show: the power of x and the value of each (Chien and Forney). -/
def errorsOf (syn : List Sym) (size : Nat) : List (Nat × Sym) :=
  let loc := locatorOf syn
  let low (p : List Sym) (x : Sym) : Sym := gfEval p.reverse x
  let omega := (List.range syn.length).map fun n =>
    (List.range (n + 1)).foldl (fun a i => a ^^^ gfMul (loc.getD i 0) (syn.getD (n - i) 0)) 0
  let slope := (List.range loc.length).map fun i => if i % 2 = 0 then loc.getD (i + 1) 0 else 0
  ((List.range size).filter fun e => low loc (gfPow 2 (1023 - e)) == 0).map fun e =>
    let x := gfPow 2 (1023 - e)
    (e, gfMul (gfPow 2 e) (gfMul (low omega x) (gfInv (low slope x))))

/-- Correct a received codeword: the codeword and how many symbols differed from it; none where more symbols are wrong than the
code corrects. -/
def correct (long : Bool) (received : List Sym) : Option (List Sym × Nat) :=
  let r := received.take (fecSize long) ++ List.replicate (fecSize long - received.length) 0
  let syn := syndromes long r
  if syn.all (· == 0) then some (r, 0)
  else
    let errs := errorsOf syn (fecSize long)
    let fixed := (List.range r.length).map fun i =>
      match errs.find? fun e => e.1 + i + 1 == fecSize long with
      | some e => r.getD i 0 ^^^ e.2
      | none => r.getD i 0
    if errs.length ≤ fecLimit long ∧ (syndromes long fixed).all (· == 0) then some (fixed, errs.length) else none

/-- The blocks that a codeword's data symbols hold, still scrambled. -/
def blocksOf (long : Bool) (c : List Sym) : List (List Bool) :=
  pieces 256 (fecBlocks long) (codewordBits (c.take (fecData long)))

/-- What a lane's decoder counts over codewords (R99, R109). -/
structure CwCounts where
  total : Nat
  corrected : Nat
  uncorrected : Nat
  symbols : Nat
  hist : Vector Nat 4
  deriving DecidableEq, Repr

/-- The histogram class of a number of corrected symbols (HIST_1 to HIST_4 of Table 3.12). -/
def histClass (long : Bool) (n : Nat) : Nat := if long then n / 4 else n - 1

/-- Count received codewords, each as often as it came. -/
def countCodewords (long : Bool) (l : List (Nat × List Sym)) : CwCounts :=
  l.foldl (fun x e =>
    let x := { x with total := x.total + e.1 }
    match correct long e.2 with
    | none => { x with uncorrected := x.uncorrected + e.1 }
    | some (_, 0) => x
    | some (_, n) =>
      { x with
        corrected := x.corrected + e.1
        symbols := x.symbols + n * e.1
        hist := Vector.ofFn fun (i : Fin 4) => x.hist[i] + if i.1 = histClass long n then e.1 else 0 })
    { total := 0, corrected := 0, uncorrected := 0, symbols := 0, hist := Vector.replicate 4 0 }

/-! ### Pseudo-random patterns (Table 3.6) -/

/-- The exponents of a pattern's polynomial, of which the first is its length; PRBS13Q is PRBS13, Gray-coded. SSPRQ is built by
IEEE 802.3 clause 120 and has none here. -/
def prbsTaps : Nat → List Nat
  | 1 => [7, 6]
  | 2 => [9, 5]
  | 3 => [13, 12, 2, 1]
  | 4 => [15, 14]
  | 5 => [31, 28]
  | 6 => [13, 12, 2, 1]
  | _ => []

/-- `n` bits of a generator: each is the sum of those as many places ago as the polynomial's exponents say. The register holds
the last bits, the newest lowest. -/
def prbsBits (taps : List Nat) : Nat → Nat → List Bool
  | 0, _ => []
  | n + 1, r =>
    let b := taps.foldl (fun a t => a ^^ bit r (t - 1)) false
    b :: prbsBits taps n ((2 * r + bitAt b 0) % 2 ^ (taps.headD 0))

/-! ### Training frames (R87) -/

/-- The 16 bits of a training word, one to a symbol, sent three times (R87), the most significant bit first (DEDUCED, log entry
103). -/
def wordSymbols (w : BitVec 16) : List Int :=
  let one := (List.range 16).map fun i => if w.getLsbD (15 - i) then (3 : Int) else -3
  one ++ one ++ one

/-- A training frame of 4,096 symbols: the frame marker, the control word and the status word, and PRBS13 from the seed of the
lane index. In PAM4 the pattern goes as Gray-coded pairs (R83, Table 3.6), in NRZ a bit to a symbol. -/
def trainingFrame (pam4 : Bool) (i : Nat) (control status : BitVec 16) : List Int :=
  List.replicate 16 3 ++ List.replicate 16 (-3) ++ wordSymbols control ++ wordSymbols status ++
    levels pam4 (prbsBits (prbsTaps 3) (if pam4 then 7936 else 3968) (0x0055 + 0x0200 * i))

/-! ### Blocks over the lanes of a port (R95, R111) -/

/-- The first `n` blocks of some bytes: block k holds bytes 32k to 32k + 31. A cell fills eight of them, a cascade unit nine. -/
def blocksOfBytes (n : Nat) (wire : List Byte) : List (BitVec 256) :=
  (List.range n).map fun k => BitVec.ofNat 256 (beNat (slice wire (32 * k) 32))

/-- The order of a port's blocks restored by a receiver, from what each lane of the set brought, in rising LANE_ID: one block of
each lane in turn. -/
def restoreOrder {α : Type} (lanes : List (List α)) : List α :=
  (List.range ((lanes.map List.length).foldl max 0)).flatMap fun i => lanes.filterMap fun l => l[i]?

end Sys2Proof.Machine
end

