-- ==== Sys2Proof/Machine/Striping.lean ====
section
/-! DEFINITION. Lanes, links and ports (R46, Table 3.2), and how the cells of a port are striped over its lanes as blocks and
leave as codewords (R81 to R83, R95, R111, R112). -/

namespace Sys2Proof.Machine

/-! ### Lanes, links and ports -/

/-- The port of a lane: 0 A, 1 B, 2 C. -/
def portOf (l : Fin 24) : Nat := l.1 / 8

/-- The lane index within the port (Table 3.2). -/
def laneIdx (l : Fin 24) : Nat := l.1 % 8

/-- PORTC_CONFIG (Table 2.1). -/
def State.portC (s : State) : Nat := s.rdN 0x2102 0x01

/-- The link that a lane serves, if any: port C gives lanes to cascade links by its configuration (Table 2.1). In the
tile role port C is not used (R28). -/
def State.linkOf (s : State) (l : Fin 24) : Option (Fin 4) :=
  if l.1 < 8 then some 0
  else if l.1 < 16 then some 1
  else if s.role ≠ .sender ∨ l.1 < 20 then none
  else match s.portC with
    | 1 => if l.1 < 22 then some 2 else some 3
    | 2 => if l.1 < 22 then some 2 else some 3
    | 4 => if l.1 < 22 then none else some 2
    | _ => none

/-- The port of a link. -/
def linkPort (k : Fin 4) : Nat := min k.1 2

/-- The lanes of a link, in rising order. -/
def State.lanesOf (s : State) (k : Fin 4) : List (Fin 24) :=
  (List.finRange 24).filter fun l => s.linkOf l == some k

/-- The links of a port. -/
def linksOf (p : Fin 3) : List (Fin 4) := (List.finRange 4).filter fun k => linkPort k == p.1

/-- A port is in test state or in a loopback (R107). -/
def State.portTest (s : State) (p : Nat) : Bool := s.rdB (0x2100 + p) 0x0E || s.rdN (0x2100 + p) 0x0D != 0

/-- The Ethernet port that a lane of port C carries, if any (Table 2.1). -/
def State.ethOf (s : State) (l : Fin 24) : Option Nat :=
  if s.role ≠ .sender ∨ l.1 < 16 then none
  else
    let i := l.1 - 16
    match s.portC with
    | 0 => some (i / 4 * 4)
    | 1 => if i < 4 then some 0 else none
    | 2 => if i < 4 then some i else none
    | 3 => some i
    | 4 => if i < 6 then some i else none
    | _ => none

/-- Change one lane. -/
def State.withLane (s : State) (l : Fin 24) (f : Lane → Lane) : State :=
  { s with lanes := { s.lanes with lane := vmod s.lanes.lane l f } }

/-- Change one link. -/
def State.withLink (s : State) (k : Fin 4) (f : Link → Link) : State :=
  { s with lanes := { s.lanes with link := vmod s.lanes.link k f } }

/-- The rates of Table 3.1 by code: Mbit/s, and whether they are PAM4. Codes 0 to 2 are those of RATE_MAX; 3 and 4 are port C
Ethernet's (DESIGN CHOICE, log entry 105). -/
def rateOf : Nat → Nat × Bool
  | 0 => (112000, true)
  | 1 => (56000, true)
  | 2 => (28000, false)
  | 3 => (106250, true)
  | _ => (53125, true)

/-- The rate code of a lane: that of its link, or its Ethernet rate (R81). -/
def State.rateCode (s : State) (l : Fin 24) : Nat :=
  match s.linkOf l with
  | some k => s.lanes.link[k].rate
  | none => if s.lanes.lane[l].slow then 4 else 3

/-- Payload of one lane at a rate of a link, Mbit/s (R84). -/
def lanePayload (rate : Nat) : Nat := 105400 / 2 ^ rate

/-- Repeater latency of a tile at a rate and FEC mode, ps (Table 4.7), with what skew beyond 2 ns adds (R100, R124). -/
def repeaterLatency (rate : Nat) (long : Bool) (skew : Nat) : Nat :=
  (match rate with
    | 0 => if long then 142000 else 38000
    | 1 => if long then 193900 else 53500
    | _ => if long then 295000 else 81700) + (skew - 2000)

/-! ### CAP blocks (R93) -/

/-- A CAP block's field. -/
def cfield (b : BitVec 256) (hi lo : Nat) : Nat := bits b.toNat hi lo

/-- PORT_KIND of a link. -/
def kindOf (k : Fin 4) : Nat := min k.1 2

/-- The lane indices enabled in a port. -/
def State.enabledMap (s : State) (k : Fin 4) : Nat :=
  ((s.lanesOf k).map fun (l : Fin 24) => bitAt (s.rdB (0x2110 + l) 0x02) (laneIdx l)).sum

/-- The CAP block that a lane sends (Table 3.7). FEC_REQ is 0x2100+p:05 and RATE_SET the rates from RATE_MAX down to RATE_FLOOR,
all as they stood at this bring-up (R108; RATE_SET: DESIGN CHOICE, log entry 104). -/
def State.capBlock (s : State) (k : Fin 4) (l : Fin 24) : BitVec 256 :=
  let x := s.lanes.link[k]
  let rates := ((List.range 3).map fun r => bitAt (decide (x.rateMax ≤ r ∧ r ≤ x.rateFloor)) r).sum
  let v := 0x5C1A * 2 ^ 208 + 1 * 2 ^ 204 + (if s.role = .sender then 1 else 0) * 2 ^ 200 + kindOf k * 2 ^ 196 +
    laneIdx l * 2 ^ 193 + bitAt x.fecReq 192 + rates * 2 ^ 184 +
    s.enabledMap k * 2 ^ 176 + x.target * 2 ^ 168 + Config.siliconRev * 2 ^ 160 +
    Config.serial.toNat % 2 ^ 48 * 2 ^ 112
  BitVec.ofNat 256 (v * 2 ^ 32 + crc32Nat (beBytes 28 v))

/-! ### Sending blocks (R82, R83, R95, R111, R112) -/

/-- The lanes of a link's transmit set, in rising lane index. -/
def State.txLanes (s : State) (k : Fin 4) : List (Fin 24) :=
  (s.lanesOf k).filter fun l => s.lanes.link[k].txSet.getLsbD (laneIdx l)

/-- A lane takes a block; the block that fills its codeword has the codeword scrambled, encoded and sent (R82, R83). Until the
FEC mode is agreed codewords are those of hop FEC (DESIGN CHOICE, log entry 115). -/
def State.pushBlock (s : State) (k : Fin 4) (l : Fin 24) (b : BitVec 256) : State :=
  let x := s.lanes.lane[l]
  let long := s.lanes.link[k].fec.getD false
  let fill := x.fill ++ [b]
  if fill.length < fecBlocks long then s.withLane l fun y => { y with fill := fill }
  else
    let c := scramble x.scrambler (fill.flatMap blockBits)
    (s.withLane l fun y => { y with fill := [], scrambler := c.2 }).emit
      (.codeword l (levels (rateOf s.lanes.link[k].rate).2 (codewordBits (codeword long c.1))))

/-- The lanes outside the set take a block too: a spare one of zeros (DESIGN CHOICE, log entry 115), a lane in capability exchange
its CAP block (R93, R96). -/
def State.fillOthers (s : State) (k : Fin 4) : State :=
  ((s.lanesOf k).filter fun l => !s.lanes.link[k].txSet.getLsbD (laneIdx l)).foldl (fun s l =>
    match s.lanes.lane[l].tx with
    | .codewords => s.pushBlock k l 0
    | .capBlocks => s.pushBlock k l (s.capBlock k l)
    | _ => s) s

/-- The next block of a link goes to the next lane of its transmit set (R95). A lane of the set that has failed sends nothing, so the
block is lost (R85, R98). -/
def State.linkBlock (s : State) (k : Fin 4) (b : BitVec 256) : State :=
  let ls := s.txLanes k
  let turn := s.lanes.link[k].turn
  match ls[turn]? with
  | none => s
  | some l =>
    let s := if s.lanes.lane[l].tx = .codewords then s.pushBlock k l b else s
    if turn + 1 < ls.length then s.withLink k fun x => { x with turn := turn + 1 }
    else (s.withLink k fun x => { x with turn := 0 }).fillOthers k

/-- The next blocks of a link. -/
def State.linkBlocks (s : State) (k : Fin 4) (bs : List (BitVec 256)) : State := bs.foldl (fun s b => s.linkBlock k b) s

/-- Before its markers a link completes the codewords that its cells have begun, with blocks of idle cells (R84, R95, R114). -/
def State.fillInterval (s : State) (k : Fin 4) (idle : List (BitVec 256)) : State :=
  let n := fecBlocks (s.lanes.link[k].fec.getD false) * (s.txLanes k).length
  let open_ := 8 * s.lanes.link[k].slots % n
  if open_ = 0 then s else s.linkBlocks k ((List.range (n - open_)).map fun i => idle.getD (i % 8) 0)

/-- The lane link of a chain port. -/
def chainLink (p : Fin 2) : Fin 4 := if p = 0 then 0 else 1

end Sys2Proof.Machine
end

