-- ==== Sys2Proof/Machine/Cells.lean ====
section
/-! DEFINITION. Chain cells: their header and trailer (R111 to R120), the repeater's trailer and slots (R122 to R128),
acceptance by DEST (R31), and the deduplication window (R132). -/

namespace Sys2Proof.Machine

/-! ### Fields of a cell (Tables 4.1, 4.2 and 4.4) -/

/-- A field of the header. -/
def Cell.hdr (c : Cell) (hi lo : Nat) : Nat := bits c.header.toNat hi lo

/-- TYPE. -/
def Cell.type (c : Cell) : Nat := c.hdr 95 92

/-- ORIGIN: 0 end A, 1 end B. -/
def Cell.origin (c : Cell) : Fin 2 := if c.header.getLsbD 91 then 1 else 0

/-- SLOT. -/
def Cell.slot (c : Cell) : Nat := c.hdr 89 88

/-- STREAM, the region of a video cell. -/
def Cell.stream (c : Cell) : Nat := c.hdr 87 80

/-- FRAME, modulo 256. -/
def Cell.frame (c : Cell) : Nat := c.hdr 79 72

/-- LINE. -/
def Cell.line (c : Cell) : Nat := c.hdr 71 58

/-- SEG. -/
def Cell.seg (c : Cell) : Nat := c.hdr 57 48

/-- Station of a tile-originated non-video cell, SEQ [87:80]. -/
def Cell.station (c : Cell) : Nat := c.hdr 87 80

/-- The 32-bit counter of SEQ, [79:48]. -/
def Cell.count (c : Cell) : BitVec 32 := BitVec.ofNat 32 (c.hdr 79 48)

/-- FMT. -/
def Cell.fmt (c : Cell) : Nat := c.hdr 47 44

/-- DEST. -/
def Cell.dest (c : Cell) : Nat := c.hdr 43 32

/-- A field of TSW. -/
def Cell.tsw (c : Cell) (hi lo : Nat) : Nat := c.hdr hi lo

/-- POISON as it arrived. -/
def Cell.poison (c : Cell) : Bool := c.trailer.getLsbD 7

/-- CORR as it arrived. -/
def Cell.corr (c : Cell) : Bool := c.trailer.getLsbD 6

/-- HOPS as it arrived. -/
def Cell.hops (c : Cell) : Nat := bits c.trailer.toNat 5 0

/-- The payload at its 240 bytes. -/
def Cell.data (c : Cell) : List Byte := padTo 240 c.payload

/-- Bytes 0 to 251, over which the CRC is taken (R113). -/
def Cell.covered (c : Cell) : List Byte := beBytes 12 c.header.toNat ++ c.data

/-- The 256 bytes of a cell as it stands on the wire (R111). -/
def Cell.wire (c : Cell) : List Byte := c.covered ++ beBytes 4 c.trailer.toNat

/-- The cell that 256 bytes spell (R111). -/
def cellOf (b : List Byte) : Cell :=
  { header := BitVec.ofNat 96 (beNat (b.take 12)), payload := (b.drop 12).take 240, trailer := BitVec.ofNat 32 (beNat ((b.drop 252).take 4)) }

/-- The CRC-24 in the trailer stands (R113). -/
def Cell.crcOk (c : Cell) : Bool := bits c.trailer.toNat 31 8 == (crc24 c.covered).toNat

/-- A cell that its originator builds: header fields, payload and CRC (R113). -/
def mkCell (header : Nat) (payload : List Byte) : Cell :=
  let c : Cell := { header := BitVec.ofNat 96 header, payload := padTo 240 payload, trailer := 0 }
  { c with trailer := BitVec.ofNat 32 ((crc24 c.covered).toNat * 256) }

/-- An idle cell (R114). -/
def idleCell : Cell := mkCell 0 []

/-- The header of a non-video cell (Tables 4.1 and 4.4). -/
def header (type origin station count dest tsw : Nat) : Nat :=
  type * 2 ^ 92 + origin * 2 ^ 91 + station * 2 ^ 80 + count * 2 ^ 48 + dest * 2 ^ 32 + tsw

/-! ### Cascade units (Table 2.5) -/

/-- Bits [255:32] of a cascade unit's header, the most significant byte first. -/
def CascadeUnit.head (u : CascadeUnit) : List Byte :=
  beBytes 28 (u.kind % 16 * 2 ^ 220 + u.src % 32 * 2 ^ 215 + u.dst % 32 * 2 ^ 210 + u.ttl % 16 * 2 ^ 206 +
    u.chain % 32 * 2 ^ 201 + u.relSec % 2 ^ 48 * 2 ^ 144 + u.relNs % 2 ^ 32 * 2 ^ 112 + u.useq % 2 ^ 32 * 2 ^ 80)

/-- The 288 bytes of a cascade unit on its link: header, UCRC over bits [255:32] and the body, body (R77). The bytes of the
header go from bit 255 down, as a cell's do (DEDUCED, log entry 98). -/
def CascadeUnit.wire (u : CascadeUnit) : List Byte :=
  let body := padTo 256 u.body
  u.head ++ beBytes 4 (crc32Nat (u.head ++ body)) ++ body

/-- The unit that 288 bytes from a link spell, with its UCRC checked (R77, R78). -/
def unitOf (b : List Byte) : CascadeUnit :=
  let h := beNat (b.take 28)
  let body := slice b 32 256
  { kind := bits h 223 220, src := bits h 219 215, dst := bits h 214 210, ttl := bits h 209 206, chain := bits h 205 201,
    relSec := bits h 191 144, relNs := bits h 143 112, useq := bits h 111 80, body := body,
    good := beNat (slice b 28 4) == crc32Nat (b.take 28 ++ body) }

/-! ### Received cells -/

/-- One block of a cell as a receiver has it: its 32 bytes, whether a symbol of its codeword was corrected, and whether the
codeword was uncorrectable. -/
structure RxBlock where
  bytes : List Byte
  corrected : Bool
  broken : Bool
  deriving DecidableEq, Repr

/-- The cell that a receiver makes of the eight blocks of a slot, in their restored order; none for a block that is missing
(R95, R111, R125). -/
def RxCell.ofBlocks (l : List (Option RxBlock)) : RxCell :=
  { cell := cellOf (l.flatMap fun b => match b with
      | some x => padTo 32 x.bytes
      | none => List.replicate 32 0)
    corrected := l.any fun b => (b.map RxBlock.corrected).getD false
    broken := l.any fun b => (b.map RxBlock.broken).getD false
    missing := BitVec.ofNat 8 ((List.zipIdx l).map fun e => bitAt e.1.isNone e.2).sum }

/-- The cell with its missing blocks as zeros (R125). -/
def RxCell.seen (r : RxCell) : Cell :=
  if r.missing = 0 then r.cell
  else cellOf ((List.zipIdx r.cell.wire).map fun e => if r.missing.getLsbD (e.2 / 32) then 0 else e.1)

/-- A received cell is damaged (R125, R128, R129). -/
def RxCell.damaged (r : RxCell) : Bool := r.cell.poison || r.broken || r.missing != 0 || !r.cell.crcOk

/-- The cell with the trailer that a repeater gives it (R125). -/
def RxCell.forwarded (r : RxCell) : Cell :=
  { r.seen with
    payload := r.seen.data
    trailer := BitVec.ofNat 32 (bits r.seen.trailer.toNat 31 8 * 256 + bitAt r.damaged 7 +
      bitAt (r.cell.corr || r.corrected) 6 + sat 63 (r.cell.hops + 1)) }

/-! ### The tile's view of its chain -/

/-- The tile's own station; 0 none. -/
def State.station (s : State) : Nat := s.rdN 0x2200 0x02

/-- Detail of a chain event: station, port and a field (R144). -/
def State.chainDetail (s : State) (port v : Nat) : Nat :=
  det3 (if s.role == .tile then s.station else 0) port (sat 255 v)

/-- A tile accepts a DEST, given the group table in force for the cell (R31). -/
def State.accepts (s : State) (groups : List Nat) (dest : Nat) : Bool :=
  dest == 0xFFF || (dest != 0 && decide (dest ≤ 255) && dest == s.station) ||
    (decide (0x100 ≤ dest ∧ dest ≤ 0xFFE) && groups.contains dest)

/-- Change the tile's chain state. -/
def State.withTile (s : State) (f : TileChain → TileChain) : State := { s with tile := f s.tile }

/-- A link of the lanes carries cells. -/
def State.linkUp (s : State) (l : Fin 4) : Bool := s.lanes.link[l].phase == .up

/-- A chain port carries cells. -/
def State.portUp (s : State) (p : Fin 2) : Bool := s.linkUp (if p = 0 then 0 else 1)

/-- The opposite chain port. -/
def other (p : Fin 2) : Fin 2 := if p = 0 then 1 else 0

/-- The port of a tile that faces an end: 0 end A, 1 end B; a reversed tile's port B faces end A (R25, R135). -/
def State.facing (s : State) (end_ : Fin 2) : Fin 2 := if s.rdB 0x2200 0x03 then other end_ else end_

/-- Lanes in a set. -/
def lanesIn (v : BitVec 8) : Nat := ((List.range 8).filter fun i => v.getLsbD i).length

/-- The repeater matches rate towards a transmit port: the receive port is wider, or it slews (R123, R127). -/
def State.matching (s : State) (out : Fin 2) : Bool :=
  let l (p : Fin 2) : Link := s.lanes.link[(if p = 0 then (0 : Fin 4) else 1)]
  s.tile.slewing[out] || decide (lanesIn (l out).txSet < lanesIn (l (other out)).rxSet)

/-- Take a damaged cell out of a buffer, or else a service cell (R127). -/
def dropOne (drop : Cell → Bool) : List Cell → Option (List Cell)
  | [] => none
  | c :: cs => if drop c then some cs else (dropOne drop cs).map (c :: ·)

/-- A cell joins the rate-matching buffer of a transmit port; TIMING goes ahead; a full buffer drops (R127). -/
def State.buffer (s : State) (out : Fin 2) (c : Cell) : State :=
  let q := s.tile.match_[out]
  let put (q : List Cell) (c : Cell) : List Cell :=
    if c.type = 3 then (q.takeWhile fun d : Cell => d.type == 3) ++ [c] ++ q.dropWhile fun d : Cell => d.type == 3 else q ++ [c]
  if q.length < 64 then s.withTile fun t => { t with match_ := vset t.match_ out (put q c) }
  else
    let all := put q c
    let kept := match dropOne Cell.poison all with
      | some r => (r, (all.find? Cell.poison).getD c)
      | none => match dropOne (fun d : Cell => d.type == 5) all with
        | some r => (r, (all.find? fun d : Cell => d.type == 5).getD c)
        | none => (q, c)
    let s := s.withTile fun t => { t with match_ := vset t.match_ out kept.1 }
    let s := s.bump 0x2200 0x1B 1
    s.raiseLimited 0x3002 out.1 second fun _ => s.chainDetail out kept.2.type

/-- A cell leaves a chain port in its next cell slot: eight blocks, striped over the transmit set (R95, R111, R112). -/
def State.sendCell (s : State) (p : Fin 2) (c : Cell) : State :=
  ((s.emit (.cell p c)).linkBlocks (chainLink p) (blocksOfBytes 8 c.wire)).withLink (chainLink p) fun x =>
    { x with slots := x.slots + 1 }

/-- The repeater forwards a cell received on a port out of the other (R25, R122). -/
def State.forward (s : State) (port : Fin 2) (r : RxCell) : State :=
  let out := other port
  if !(s.role == .tile && s.portUp port && s.portUp out) then s
  else
    let s := s.bump 0x2200 (0x10 + port) 1
    if s.matching out || !s.tile.match_[out].isEmpty then s.buffer out r.forwarded else s.sendCell out r.forwarded

/-- Count a damaged cell on arrival (R128). -/
def State.countDamage (s : State) (port : Fin 2) (r : RxCell) : State :=
  if !r.damaged then s
  else if r.cell.poison then s.bump 0x2200 (0x14 + port) 1
  else
    let s := s.bump 0x2200 (0x12 + port) 1
    let s := s.withTile fun t => { t with crcSince := vmod t.crcSince port (· + 1) }
    s.raiseLimited 0x3001 port.1 second fun n => s.chainDetail port n

/-- What every non-idle cell does at a tile before its type matters: it is forwarded, counted, and its HOPS kept
(R122, R125, R128, R143). -/
def State.arrive (s : State) (port : Fin 2) (r : RxCell) : State :=
  let s := s.forward port r
  if s.role ≠ .tile then s
  else
    let s := s.countDamage port r
    let s := if r.cell.corr then s.bump 0x2200 0x16 1 else s
    if r.damaged then s
    else
      let h := s.rdN 0x2200 0x07
      s.wrN 0x2200 0x07 (if r.cell.origin = 0 then h / 256 * 256 + r.cell.hops else r.cell.hops * 256 + h % 256)

/-- A good cell whose HOPS shows that it crossed the ring's break, and so on: whether a tile may act on it. -/
def State.hears (s : State) (r : RxCell) : Bool := s.isTile && !r.damaged

/-- A cell the tile originates towards an end, with the ORIGIN of its direction of travel (R33, R120, R126). -/
def State.originate1 (s : State) (end_ : Fin 2) (type tsw : Nat) (payload : List Byte) (seq : BitVec 32) : State :=
  let port := s.facing end_
  let c := mkCell (header type (if end_ = 0 then 1 else 0) s.station seq.toNat 0 tsw) payload
  let q := s.tile.orig[port]
  if q.length < 16 then s.withTile fun t => { t with orig := vset t.orig port (q ++ [c]) }
  else
    let s := s.bump 0x2200 0x1C 1
    s.raiseLimited 0x3003 port.1 second fun _ => s.chainDetail port type

/-- A tile originates a cell towards both ends, with one SEQ; without a station it originates only TOPO cells (R33, R120). -/
def State.originate (s : State) (type tsw : Nat) (payload : List Byte) : State :=
  if s.station = 0 ∧ type ≠ 6 then s
  else
    let seq := s.tile.seq
    let s := (s.originate1 0 type tsw payload seq).originate1 1 type tsw payload seq
    s.withTile fun t => { t with seq := t.seq + 1 }

/-- The queue of originated cells of every transmit port that is up has room. -/
def State.origRoom (s : State) : Bool :=
  (List.finRange 2).all fun p => !s.portUp p || decide (s.tile.orig[p].length < 16)

/-- Originate waiting MGMT cells while there is room, at most n of them: a RESPONSE of up to 256 parts is paced through the
queues of 16 (DESIGN CHOICE, log entry 56). -/
def State.paceMgmt : Nat → State → State
  | 0, s => s
  | n + 1, s =>
    match s.tile.backlog with
    | [] => s
    | (tsw, b) :: rest =>
      if s.origRoom then State.paceMgmt n ((s.withTile fun t => { t with backlog := rest }).originate 4 tsw b) else s

/-- A tile originates MGMT cells, in order. -/
def State.originateMgmt (s : State) (cells : List (Nat × List Byte)) : State :=
  State.paceMgmt 16 (s.withTile fun t => { t with backlog := t.backlog ++ cells })

/-! ### The deduplication window (R132) -/

/-- What a window says of a value. -/
inductive SeqVerdict where
  | accept (w : SeqWindow)
  | duplicate
  | stale
  deriving DecidableEq, Repr

/-- Judge a value against a window; the empty window accepts the first. -/
def judgeSeq : Option SeqWindow → BitVec 32 → SeqVerdict
  | none, v => .accept { high := v, seen := 1 }
  | some w, v =>
    let ahead := (v - w.high).toNat
    let behind := (w.high - v).toNat
    if 1 ≤ ahead ∧ ahead < 2 ^ 31 then
      .accept { high := v, seen := (if ahead < 4096 then w.seen <<< ahead else 0) ||| 1 }
    else if behind < 4096 then
      if w.seen.getLsbD behind then .duplicate
      else .accept { w with seen := w.seen ||| BitVec.ofNat 4096 (2 ^ behind) }
    else .stale

/-- Judge a good MGMT, SERVICE or FRAMECTL cell at a tile: whether it is new, and the counters (R132). -/
def State.dedup (s : State) (c : Cell) : Bool × State :=
  match judgeSeq s.tile.window c.count with
  | .accept w => (true, s.withTile fun t => { t with window := some w })
  | .duplicate => (false, s.bump 0x2200 0x17 1)
  | .stale => (false, s.bump 0x2200 0x18 1)

/-- A good cell of a deduplicated class that reaches a tile's consumer: not damaged, of a sender, new and accepted
by DEST (R31, R129, R132). Cells that a tile originated carry DEST 0x000 and pass without a window (R120). -/
def State.admitCell (s : State) (r : RxCell) : Bool × State :=
  if !s.hears r || r.cell.dest == 0 then (false, s)
  else
    let (new, s) := s.dedup r.cell
    (new && s.accepts s.tile.groups r.cell.dest, s)

end Sys2Proof.Machine
end

