-- ==== Sys2Proof/Machine/Lanes.lean ====
section
/-! DEFINITION. The serial lanes: bring-up (R84 to R96), markers and set changes (R84, R97, R98), lane health (R99),
skew (R100), PRBS and live tests (R102 to R105), error injection (R106), loopbacks and test state (R107). -/

namespace Sys2Proof.Machine

open Host

/-! ### Lanes, links and ports -/

/-- Detail of a lane event (R110). -/
def laneDetail (l : Fin 24) (v : Nat) : Nat := det3 l.1 (portOf l) (sat 255 v)

/-- A set of lane indices as a bitmap. -/
def laneBit (i : Nat) : BitVec 8 := BitVec.ofNat 8 (2 ^ i)

/-- Remove a lane index from a set. -/
def without (v : BitVec 8) (i : Nat) : BitVec 8 := v &&& ~~~ laneBit i

/-- The lane of a link with an index. -/
def State.laneAt (s : State) (k : Fin 4) (i : Nat) : Option (Fin 24) :=
  (s.lanesOf k).find? fun l => laneIdx l == i

/-- LANE_STATE of Table 3.12. -/
def LaneStage.code : LaneStage → Nat
  | .off => 0 | .detect => 1 | .training => 2 | .bitLock => 3 | .alignLock => 3 | .capability => 4
  | .active => 5 | .spare => 6 | .withdrawn => 7 | .failed => 8 | .loopback => 9

/-- PORT_STATE of Table 3.11. -/
def LinkPhase.code : LinkPhase → Nat
  | .down => 0 | .bringing => 1 | .up => 2 | .test => 3 | .absent => 4

/-- Taps as TX_TAPS holds them (Table 3.12). -/
def Taps.code (t : Taps) : Nat :=
  let b (v : Int) : Nat := (v % 256).toNat
  b t.pre * 2 ^ 24 + b t.main * 2 ^ 16 + b t.post1 * 2 ^ 8 + b t.post2

/-- Taps from a TAP_FIXED value. -/
def tapsOf (v : Nat) : Taps :=
  let b (hi lo : Nat) : Int := (BitVec.ofNat 8 (bits v hi lo)).toInt
  { pre := b 31 24, main := b 23 16, post1 := b 15 8, post2 := b 7 0 }

/-- The limits of R88. -/
def Taps.ok (t : Taps) : Bool :=
  decide (-16 ≤ t.pre ∧ t.pre ≤ 0 ∧ 32 ≤ t.main ∧ t.main ≤ 64 ∧ -24 ≤ t.post1 ∧ t.post1 ≤ 0 ∧
    -8 ≤ t.post2 ∧ t.post2 ≤ 8 ∧ t.pre.natAbs + t.main.natAbs + t.post1.natAbs + t.post2.natAbs ≤ 64)

/-- The presets of Table 3.4. -/
def preset : Nat → Taps
  | 2 => { pre := -4, main := 52, post1 := -8, post2 := 0 }
  | 3 => { pre := -8, main := 44, post1 := -12, post2 := 0 }
  | _ => preset1

/-! ### Starting lanes and links -/

/-- The control word of the request outstanding, 0 with none. -/
def Lane.control (x : Lane) : BitVec 16 :=
  match x.request with
  | some r => r.1
  | none => 0

/-- Send a lane's next training frame (R87). -/
def State.sendTraining (s : State) (l : Fin 24) : State :=
  let x := s.lanes.lane[l]
  s.emit (.training l (trainingFrame (rateOf (s.rateCode l)).2 (laneIdx l) x.control x.status))

/-- A lane's transmitter begins training frames (R85, R86). -/
def State.startTraining (s : State) (l : Fin 24) : State :=
  (s.withLane l fun x => { x with stage := .training, tx := .training, since := s.now, request := none, reqSeq := 0,
                                  ackSeq := none, status := 0, readyIn := 0, readyOut := 0 }).sendTraining l

/-- Publish a lane's PRBS run; a failed one writes its cause to 0x2001, the lane and its port (R15, R102, R103, R109; DEDUCED, log
entry 15). -/
def State.publishPrbs (s : State) (l : Fin 24) (ok : Bool) : State :=
  let c := s.lanes.lane[l].checker
  let s := if ok then
      (((s.wrN (0x2110 + l) 0x26 (sat (umax 8) c.bits)).wrN (0x2110 + l) 0x27 (sat (umax 8) c.bitErrors)).wrN
        (0x2110 + l) 0x28 (sat (umax 8) c.symErrors)).wrN (0x2110 + l) 0x29 (sat (umax 4) c.syncLosses)
    else s.cause (laneDetail l 0)
  s.publish (0x2110 + l) 0x24 0x25 ok

/-- A timed checker run ends as a failed one where its lane starts again or is switched off (R15, R109; DEDUCED, log entry 25). -/
def State.cutRun (s : State) (l : Fin 24) : State :=
  if s.lanes.lane[l].timedRun then (s.publishPrbs l false).withLane l fun x => { x with timedRun := false } else s

/-- A lane is switched off. -/
def State.laneOff (s : State) (l : Fin 24) : State := (s.cutRun l).withLane l fun _ => Lane.reset

/-- An enabled lane begins receiver detect, training at once where its partner is assumed present, or the near-end path of a
loopback; a disabled one, and one of a port C that is powered down, stays off (R28, R85, R86, R107). -/
def State.startLane (s : State) (l : Fin 24) : State :=
  let s := s.cutRun l
  let base := { Lane.reset with
    taps := if s.rdN (0x2110 + l) 0x07 = 1 then tapsOf (s.rdN (0x2110 + l) 0x08) else preset1
    checker := s.lanes.lane[l].checker
    slow := s.lanes.lane[l].slow && s.portTest (portOf l)
    gen := if s.portTest (portOf l) then s.rdN (0x2110 + l) 0x20 else 0 }
  let loop := s.rdN (0x2100 + portOf l) 0x0D
  if !s.rdB (0x2110 + l) 0x02 || (s.linkOf l).isNone && (s.ethOf l).isNone then s.laneOff l
  else if loop = 1 ∨ loop = 2 then s.withLane l fun _ => { base with stage := .loopback, tx := .muted }
  else
    let s := s.withLane l fun _ => { base with stage := .detect, tx := .electricalIdle, since := s.now }
    if s.rdN (0x2110 + l) 0x03 = 1 then s.startTraining l else s

/-- Bring a link up from the start, at RATE_MAX, with the parameters that its port holds now (R92, R107, R108). -/
def State.bringUp (s : State) (k : Fin 4) : State :=
  let p := linkPort k
  let s := s.withLink k fun x => { Link.reset with
    phase := if s.portTest p then .test else .bringing
    rate := s.rdN (0x2100 + p) 0x03
    rateMax := s.rdN (0x2100 + p) 0x03
    rateFloor := s.rdN (0x2100 + p) 0x04
    fecReq := s.rdB (0x2100 + p) 0x05
    minLanes := if 2 ≤ k.1 then 1 else s.rdN (0x2100 + p) 0x06
    target := s.rdN (0x2100 + p) 0x07
    lastDeskew := x.deskew.or x.lastDeskew
    wasUp := x.wasUp
    recovering := x.recovering }
  (s.lanesOf k).foldl State.startLane s

/-- The lanes of a port that serve no link: those of Ethernet start in the configuration that now holds, and those of a port C
that is not used stay powered down (R28, R46, R47). -/
def State.startOthers (s : State) (p : Fin 3) : State :=
  ((List.finRange 24).filter fun l => portOf l == p.1 && (s.linkOf l).isNone).foldl State.startLane s

/-- Bring a whole port up from the start. -/
def State.bringUpPort (s : State) (p : Fin 3) : State :=
  let s := (linksOf p).foldl (fun s k =>
    if (s.lanesOf k).isEmpty then s.withLink k fun _ => { Link.reset with phase := .absent } else s.bringUp k) s
  s.startOthers p

/-! ### Live tests -/

/-- A lane under live test sends codewords and markers again (R103 step 4). -/
def State.returnLane (s : State) (l : Fin 24) : State :=
  s.withLane l fun x => { x with tx := .codewords, goodMarkers := 0, runSince := s.now }

/-- A live test of a link ends as a failed run. The lane returns to service: one that runs the pattern sends codewords again,
one still being withdrawn does so from its switch point, and one on its way back goes on (R103 step 5, R104, R105). -/
def State.failTest (s : State) (k : Fin 4) : State :=
  match s.lanes.link[k].test with
  | none => s
  | some t =>
    match s.laneAt k t.lane with
    | none => s.withLink k fun x => { x with test := none }
    | some l =>
      if t.failed then s
      else
        let s := s.publishPrbs l false
        let s := if t.stage = 1 then s.returnLane l else s
        s.withLink k fun x => { x with test := some { t with stage := if t.stage = 1 then 2 else t.stage, failed := true } }

/-- A live test of a link is over without its lane's return: the lane has failed or has been disabled (R99, R105). -/
def State.endTest (s : State) (k : Fin 4) (l : Fin 24) : State :=
  match s.lanes.link[k].test with
  | none => s
  | some t =>
    if t.lane ≠ laneIdx l then s
    else (if t.failed then s else s.publishPrbs l false).withLink k fun x => { x with test := none }

/-! ### Set changes -/

/-- The set that will apply once every change announced or waiting has applied. -/
def Link.coming (x : Link) : BitVec 8 := x.queued.getD ((x.change.map SetChange.next).getD x.txSet)

/-- The set that applies after the countdown now announced: NEXT_SET (R84, R97). -/
def Link.nextSet (x : Link) : BitVec 8 := (x.change.map SetChange.next).getD x.txSet

/-- Announce a planned change, from COUNTDOWN 3; while another change counts down, it waits for that one to apply (R97). -/
def Link.plan (x : Link) (next : BitVec 8) : Link :=
  if x.change.isSome then { x with queued := some next }
  else { x with change := some { next := next, countdown := 3, fault := false } }

/-- Plan a set for a link (R97). -/
def State.planned (s : State) (k : Fin 4) (next : BitVec 8) : State := s.withLink k fun x => x.plan next

/-- Keep a lane in the set after all: the changes announced and waiting leave it there. -/
def Link.keep (x : Link) (i : Nat) : Link :=
  { x with
    change := match x.change with
      | some c => if c.next ||| laneBit i = x.txSet then none else some { c with next := c.next ||| laneBit i }
      | none => none
    queued := x.queued.map (· ||| laneBit i) }

/-- A lane can take the place of another: it is a spare, judged GOOD, which the partner does not report in RX_FAULT and for which no
live test waits (R98, R99, R103). -/
def State.healthySpare (s : State) (k : Fin 4) : Option (Fin 24) :=
  let x := s.lanes.link[k]
  (s.lanesOf k).find? fun l => s.lanes.lane[l].stage == .spare && s.rdN (0x2110 + l) 0x09 == 0 &&
    !x.coming.getLsbD (laneIdx l) && !x.partnerFault.getLsbD (laneIdx l) && x.test.map LiveTest.lane != some (laneIdx l)

/-- Every live test on a link's port ends as a failed run (R105). -/
def State.failPortTests (s : State) (k : Fin 4) : State :=
  ((List.finRange 4).filter fun m => linkPort m == linkPort k).foldl State.failTest s

/-- A fault change that counts down now already removes a lane. -/
def Link.removing (x : Link) (i : Nat) : Bool :=
  match x.change with
  | some c => c.fault && !x.coming.getLsbD i && !c.next.getLsbD i
  | none => false

/-- Remove a lane from the transmit set by a fault change, in which the lowest healthy spare replaces it; a planned change is
abandoned, and the fault change starts from its set; it ends the live tests of the port (R97, R98, R105). Event 0x2107 names the lane swapped out in [7:0] and the new
one's index in the field (DESIGN CHOICE, log entry 104). -/
def State.faultChange (s : State) (k : Fin 4) (l : Fin 24) : State :=
  let x := s.lanes.link[k]
  let i := laneIdx l
  if (!x.coming.getLsbD i && !x.txSet.getLsbD i) || x.removing i then s
  else
    let rest := without x.coming i
    let spare := s.healthySpare k
    let next := match spare with
      | some sp => rest ||| laneBit (laneIdx sp)
      | none => rest
    let s := s.withLink k fun x => { x with change := some { next := next, countdown := 1, fault := true }, queued := none }
    let s := match spare with
      | some sp => s.raise 0x2107 (laneDetail l (laneIdx sp))
      | none => s
    s.failPortTests k

/-- With a link its chain or neighbour goes down: RING_STATE of a sender's chain port reads down, and the neighbour on a cascade
link is no longer up (R142, R180). -/
def State.neighbourDown (s : State) (k : Fin 4) : State :=
  let down (i : Fin 2) : State :=
    { s with quartz := { s.quartz with neighbour := vmod s.quartz.neighbour i fun n => { n with up := false } } }
  if k = 2 then down 0 else if k = 3 then down 1
  else if s.role = .sender then s.wrN (0x2200 + k) 0x02 0 else s

/-- The port goes down: its transmit set fell below MIN_LANES (R96). A full bring-up follows. -/
def State.portDown (s : State) (k : Fin 4) (left : Nat) : State :=
  let s := s.raise 0x2108 (det3 0xFF (linkPort k) left)
  let s := (s.neighbourDown k).withLink k fun x => { x with recovering := true }
  (s.failTest k).bringUp k

/-- The largest deskew of the lanes that carry a link, ps (R100). -/
def State.skewOf (s : State) (k : Fin 4) : Nat :=
  (((s.lanesOf k).filter fun l => s.lanes.lane[l].stage == .active || s.lanes.lane[l].stage == .spare).map
    fun l => s.lanes.lane[l].skew).foldl max 0

/-- The port comes up once its transmit set holds MIN_LANES lanes, and its deskew point is chosen (R96, R100). -/
def State.portComesUp (s : State) (k : Fin 4) : State :=
  let x := s.lanes.link[k]
  if x.phase ≠ .bringing ∨ lanesIn x.txSet < x.minLanes then s
  else
    let d := s.skewOf k
    let s := s.withLink k fun x => { x with phase := .up, wasUp := true, recovering := false, deskew := some d }
    match x.lastDeskew with
    | some o =>
      if o = d then s
      else s.raise 0x210B (det3 0xFF (linkPort k) ((((d : Int) - (o : Int)) / 1000) % 256).toNat)
    | none => s

/-- What a lane becomes when a set applies: a member is active; a member that leaves is withdrawn for its live test,
off when it has been disabled, else a spare (R97, R103). -/
def State.takeSet (s : State) (next : BitVec 8) (testLane : Option Nat) (l : Fin 24) : State :=
  let st := s.lanes.lane[l].stage
  if next.getLsbD (laneIdx l) then
    if st = .spare ∨ st = .withdrawn ∨ st = .active then
      s.withLane l fun y => { y with stage := .active, tx := .codewords }
    else s
  else if st ≠ .active then s
  else if !s.rdB (0x2110 + l) 0x02 then s.laneOff l
  else s.withLane l fun y => { y with stage := if testLane = some (laneIdx l) then .withdrawn else .spare }

/-- The switch point of a live test: from here each side sends the pattern and checks (R103 step 3), or codewords where the run
has failed meanwhile (R105); or the lane is back in the set, and the run is published and over (R103 step 5). -/
def State.switchTest (s : State) (k : Fin 4) : State :=
  let x := s.lanes.link[k]
  match x.test with
  | none => s
  | some t =>
    match s.laneAt k t.lane with
    | none => s.withLink k fun y => { y with test := none }
    | some l =>
      if t.stage = 3 then
        if !x.txSet.getLsbD t.lane then s
        else (if t.failed then s else s.publishPrbs l true).withLink k fun y => { y with test := none }
      else if t.stage ≠ 0 ∨ x.change.isSome then s
      else
        let s := s.withLane l fun y => { y with
          stage := .withdrawn, tx := if t.failed then .codewords else .prbs, goodMarkers := 0, checker := Checker.fresh,
          runSince := s.now }
        s.withLink k fun y => { y with test := some { t with stage := if t.failed then 2 else 1 } }

/-- Apply the set that a change announced (R97). -/
def State.applySet (s : State) (k : Fin 4) (next : BitVec 8) : State :=
  let testLane := s.lanes.link[k].test.map LiveTest.lane
  let s := s.withLink k fun x =>
    let y := { x with txSet := next, change := none, queued := none, turn := 0 }
    match x.queued with
    | some q => if q = next then y else y.plan q
    | none => y
  let s := ((s.lanesOf k).foldl (fun s l => s.takeSet next testLane l) s).switchTest k
  let n := lanesIn s.lanes.link[k].txSet
  if s.lanes.link[k].phase = .up ∧ n < s.lanes.link[k].minLanes then s.portDown k n else s.portComesUp k

/-- A lane reaches the active stage: it becomes active or a spare (LANE_ACTIVE, R96). While the link is still coming
up it joins the set at once; afterwards it joins by a planned change. -/
def State.laneActive (s : State) (k : Fin 4) (l : Fin 24) : State :=
  let x := s.lanes.link[k]
  let i := laneIdx l
  let s := (s.withLane l fun y => { y with stage := .spare, tx := .codewords, hold := .none }).wrN (0x2110 + l) 0x09 0
  let s := s.withLink k fun y => { y with
    rxFault := without y.rxFault i, partnerFault := without y.partnerFault i, fec := y.fec.or (some x.fecReq) }
  if x.target ≤ lanesIn x.coming then s
  else if x.phase = .up then s.planned k (x.coming ||| laneBit i)
  else
    let s := s.withLane l fun y => { y with stage := .active }
    (s.withLink k fun y => { y with txSet := y.txSet ||| laneBit i, turn := 0 }).portComesUp k

/-! ### Failing -/

/-- A lane goes to electrical idle for 10 ms, or waits 1 s, before receiver detect (Table 3.3, R92, R93). -/
def State.parkLane (s : State) (l : Fin 24) (hold : LaneHold) : State :=
  s.withLane l fun x => { x with stage := .failed, tx := .electricalIdle, hold := hold, since := s.now, request := none,
                                 goodMarkers := 0, badRun := 0, cap := none, capRun := 0, capDone := false }

/-- A lane is past training. -/
def LaneStage.pastTraining : LaneStage → Bool
  | .bitLock | .alignLock | .capability | .active | .spare | .withdrawn | .loopback => true
  | _ => false

/-- Every enabled lane of a link idles 10 ms and the next lower rate is tried; below the floor the port waits 1 s
(RATE_STEP_DOWN, R92). -/
def State.rateStepDown (s : State) (k : Fin 4) : State :=
  let x := s.lanes.link[k]
  let s := ((s.lanesOf k).filter fun (l : Fin 24) => s.rdB (0x2110 + l) 0x02).foldl (fun s l => s.parkLane l .idle) s
  let s := s.withLink k fun y => { y with txSet := 0, rxSet := 0, change := none, queued := none, rxChange := none, fec := none }
  if x.rate < x.rateFloor then s.withLink k fun y => { y with rate := y.rate + 1 }
  else
    let s := s.raise 0x2103 (det3 0xFF (linkPort k) x.rateFloor)
    let s := (s.lanesOf k).foldl (fun s l => s.withLane l fun y => { y with hold := .none }) s
    s.withLink k fun y => { y with resting := true, restSince := s.now, recovering := true, phase := if y.phase = .test then .test else .down }

/-- The rate of a link that is coming up is judged once none of its lanes trains any more and some have failed: with MIN_LANES
trained it stands, with fewer the next lower one is tried (R92; DEDUCED, log entry 24). -/
def State.judgeRate (s : State) (k : Fin 4) : State :=
  let ls := s.lanesOf k
  let is (p : Lane → Bool) : Bool := ls.any fun l => p s.lanes.lane[l]
  if s.lanes.link[k].phase = .up ∨ is (fun x => x.stage == .training) ∨
      !is (fun x => x.stage == .failed && x.hold == .retry) ∨
      s.lanes.link[k].minLanes ≤ (ls.filter fun l => s.lanes.lane[l].stage.pastTraining).length then s
  else s.rateStepDown k

/-- Training fails on a lane at the port's rate, and the rate is judged (R90 to R92). An Ethernet lane in test tries 53.125 Gbit/s after 106.25
(R81, R107; DESIGN CHOICE, log entry 105). -/
def State.trainingFails (s : State) (l : Fin 24) : State :=
  let down := (s.linkOf l).isNone && s.portTest (portOf l) && !s.lanes.lane[l].slow
  let s := (s.parkLane l (if down then .idle else .retry)).withLane l fun x => { x with slow := down }
  match s.linkOf l with
  | none => s
  | some k => s.judgeRate k

/-- A lane in service or in capability exchange fails: counted, told to the partner in RX_FAULT and removed from the
set, and it starts again at receiver detect (R98, R99). Causes: 1 CDR, 2 markers, 3 uncorrected burst. -/
def State.failLane (s : State) (l : Fin 24) (cause : Nat) : State :=
  let x := s.lanes.lane[l]
  if !(x.stage == .active || x.stage == .spare || x.stage == .withdrawn || x.stage == .capability) then s
  else
    let s := (s.bump (0x2110 + l) 0x14 (if cause = 3 then 0 else 1)).wrN (0x2110 + l) 0x09 2
    let s := s.raise 0x2105 (laneDetail l cause)
    let s := s.parkLane l .idle
    match s.linkOf l with
    | none => s
    | some k =>
      let s := s.withLink k fun y => { y with rxFault := y.rxFault ||| laneBit (laneIdx l) }
      (s.endTest k l).faultChange k l

/-- A lane is refused in capability exchange (R93, R94) or for its skew (R100). -/
def State.refuseLane (s : State) (l : Fin 24) (event detail : Nat) : State :=
  (s.raise event (laneDetail l detail)).parkLane l .refused

/-- Name the markers that both chain ports are to capture (R187). -/
def State.nameMarks (s : State) (counts : List Nat) : State :=
  let marks := counts.map fun c => { count := BitVec.ofNat 16 c, dep := none, arr := none : HopMark }
  (s.withLink 0 fun x => { x with hopMarks := marks }).withLink 1 fun x => { x with hopMarks := marks }

/-! ### Commands of bring-up -/

/-- `RECEIVER_DETECT_TEST`: the termination seen, in ohms (R86). -/
def execReceiverDetectTest (l : Fin 24) (ohms : BitVec 16) (s : State) : Out1 :=
  if s.lanes.lane[l].stage ≠ .detect then .next s
  else if s.rdN (0x2110 + l) 0x03 = 1 then .next (s.startTraining l)
  else
    let s := (s.withLane l fun x => { x with tx := .detectSteps }).emit (.detectStep l)
    if 40 ≤ ohms.toNat ∧ ohms.toNat ≤ 60 then .next (s.startTraining l) else .next s

/-- `DETECT_TIMEOUT`: a lane still undetected after 1 s raises event 0x2101 once (R86). -/
def execDetectTimeout (l : Fin 24) (s : State) : Out1 :=
  let x := s.lanes.lane[l]
  if x.stage ≠ .detect ∨ x.detectRaised then .next s
  else
    let s := s.until_ (x.since + second)
    .next ((s.withLane l fun x => { x with detectRaised := true }).raise 0x2101 (laneDetail l 0))

/-- Majority of three copies of a word (R87). -/
def majority (a b c : BitVec 16) : BitVec 16 := (a &&& b) ||| (a &&& c) ||| (b &&& c)

/-- A field of a training word. -/
def wfield (w : BitVec 16) (hi lo : Nat) : Nat := bits w.toNat hi lo

/-- A training control word carries a request (R90). -/
def isRequest (w : BitVec 16) : Bool := wfield w 15 14 != 0 || wfield w 7 0 != 0

/-- One tap step: the new value and the response code of Table 3.5. -/
def tapStep (code : Nat) (t : Taps) (f : Int → Taps) (v : Int) : Taps × Nat :=
  let try_ (v : Int) : Taps × Nat := if (f v).ok then (f v, 1) else (t, 2)
  match code with
  | 0 => (t, 0)
  | 1 => try_ (v + 1)
  | 2 => try_ (v - 1)
  | _ => (t, 3)

/-- Apply a partner's request to the taps: the taps and the four response codes (R90). The steps are judged in the order pre, main,
post1, post2, each on the taps that the earlier ones left (DESIGN CHOICE, log entry 118). -/
def Taps.apply (t : Taps) (w : BitVec 16) : Taps × Nat :=
  if wfield w 15 14 ≠ 0 then (preset (wfield w 15 14), 0x55)
  else
    let a := tapStep (wfield w 7 6) t (fun v => { t with pre := v }) t.pre
    let b := tapStep (wfield w 5 4) a.1 (fun v => { a.1 with main := v }) a.1.main
    let c := tapStep (wfield w 3 2) b.1 (fun v => { b.1 with post1 := v }) b.1.post1
    let d := tapStep (wfield w 1 0) c.1 (fun v => { c.1 with post2 := v }) c.1.post2
    (d.1, a.2 * 64 + b.2 * 16 + c.2 * 4 + d.2)

/-- Act once on a partner's request and answer it (R90). With fixed taps no tap is changed: "not supported". -/
def State.answerRequest (s : State) (l : Fin 24) (control : BitVec 16) : State :=
  let x := s.lanes.lane[l]
  let seq : BitVec 4 := BitVec.ofNat 4 (wfield control 11 8)
  if !isRequest control ∨ x.ackSeq = some seq then s
  else
    let r := if s.rdN (0x2110 + l) 0x07 = 1 then (x.taps, 0xFF) else x.taps.apply control
    s.withLane l fun x => { x with
      taps := r.1, ackSeq := some seq, status := BitVec.ofNat 16 (seq.toNat * 256 + r.2) }

/-- A tap field of a control word; the reserved code 3 is never sent and becomes hold (R8, Table 3.5). -/
def tapCode (want : BitVec 16) (hi : Nat) : Nat := let v := wfield want hi (hi - 1); if v = 3 then 0 else v

/-- The request for what a receiver wants of the partner's taps, with a request number (Table 3.5). -/
def requestWord (want : BitVec 16) (seq : BitVec 4) : BitVec 16 :=
  BitVec.ofNat 16 (wfield want 15 14 * 2 ^ 14 + seq.toNat * 2 ^ 8 + tapCode want 7 * 2 ^ 6 + tapCode want 5 * 2 ^ 4 +
    tapCode want 3 * 2 ^ 2 + tapCode want 1)

/-- Take the partner's answer, and send the next request that the receiver wants (R90). -/
def State.steerPartner (s : State) (l : Fin 24) (status want : BitVec 16) : State :=
  let s := s.withLane l fun x => { x with request := match x.request with
    | some r => if wfield r.1 11 8 = wfield status 11 8 then none else some r
    | none => none }
  let x := s.lanes.lane[l]
  let w := requestWord want (x.reqSeq + 1)
  if x.request.isSome ∨ !isRequest w then s
  else s.withLane l fun x => { x with request := some (w, 0), reqSeq := x.reqSeq + 1 }

/-- Training of a lane ends: codewords begin; in test state capability exchange is skipped; the rate is judged (R91, R92, R107). An Ethernet lane in
service is then up: it carries Ethernet's own coding, with neither markers nor CAP blocks (R46; DESIGN CHOICE, log entry
105). -/
def State.trainingEnds (s : State) (l : Fin 24) : State :=
  let p := portOf l
  let loop := s.rdN (0x2100 + p) 0x0D
  let eth := (s.linkOf l).isNone && !s.portTest p
  let s := s.withLane l fun x =>
    if loop = 3 then { x with stage := .loopback, tx := .retransmit }
    else if s.portTest p then
      { x with stage := .alignLock, tx := if x.gen = 0 then .codewords else .prbs, goodMarkers := 0 }
    else if eth then { x with stage := .active, tx := .codewords, hold := .none }
    else { x with stage := .bitLock, tx := .codewords, since := s.now, goodMarkers := 0, badRun := 0,
                  fill := [], scrambler := scramblerSeed (laneIdx l) }
  match s.linkOf l with
  | some k => s.judgeRate k
  | none => if eth && loop != 3 then { s with lanes := { s.lanes with ethUp := true } } else s

/-- `TRAINING_FRAME_RECEIVE`: the three copies of the control and status words as they came, whether the frame marker
came inverted, whether the local receiver's error ratio is below 10^−6, and the change that the receiver wants of
the partner's taps (R87 to R91). -/
def execTrainingFrameReceive (l : Fin 24) (c1 c2 c3 t1 t2 t3 : BitVec 16) (inverted ready : Bool) (want : BitVec 16)
    (s : State) : Out1 :=
  if s.lanes.lane[l].stage ≠ .training then .next s
  else
    let s := if inverted then s.wrB (0x2110 + l) 0x05 true else s
    let inv (w : BitVec 16) : BitVec 16 := if s.rdB (0x2110 + l) 0x05 then ~~~ w else w
    let control := majority (inv c1) (inv c2) (inv c3)
    let status := majority (inv t1) (inv t2) (inv t3)
    let s := (s.answerRequest l control).steerPartner l status want
    let mine := ready && s.lanes.lane[l].request.isNone
    let s := s.withLane l fun x => { x with
      status := BitVec.ofNat 16 (bitAt mine 15 + wfield x.status 14 0)
      readyIn := if status.getLsbD 15 then x.readyIn + 1 else 0
      readyOut := if mine then x.readyOut + 1 else 0 }
    let x := s.lanes.lane[l]
    let s := s.sendTraining l
    if 8 ≤ x.readyIn ∧ 8 ≤ x.readyOut then .next (s.trainingEnds l) else .next s

/-- `TRAINING_REQUEST_TIMEOUT`: a request unanswered for 1 ms is sent again; after 3 timeouts training fails (R90). -/
def execTrainingRequestTimeout (l : Fin 24) (s : State) : Out1 :=
  let x := s.lanes.lane[l]
  match x.stage, x.request with
  | .training, some r =>
    let s := s.pass ms
    if 2 ≤ r.2 then .next (s.trainingFails l)
    else
      .next ((s.withLane l fun x => { x with request := some (r.1, r.2 + 1) }).sendTraining l)
  | _, _ => .next s

/-- `TRAINING_TIMEOUT`: training that has not ended within 250 ms fails at this rate (R91, R92). -/
def execTrainingTimeout (l : Fin 24) (s : State) : Out1 :=
  if s.lanes.lane[l].stage ≠ .training then .next s
  else
    let s := s.until_ (s.lanes.lane[l].since + 250 * ms)
    .next ((s.raise 0x2102 (laneDetail l (s.rateCode l))).trainingFails l)

/-- The time limit of a lane's stage has run out. -/
def State.stageOver (s : State) (l : Fin 24) (limit : Nat) : State := s.until_ (s.lanes.lane[l].since + limit)

/-- `BIT_LOCK_TIMEOUT`: no bit lock within 2 ms (Table 3.3). -/
def execBitLockTimeout (l : Fin 24) (s : State) : Out1 :=
  if s.lanes.lane[l].stage = .bitLock then .next ((s.stageOver l (2 * ms)).parkLane l .idle) else .next s

/-- `ALIGN_LOCK_TIMEOUT`: no symbol and alignment lock within 1 ms (Table 3.3). A port in test state stays in this stage
(R107). -/
def execAlignLockTimeout (l : Fin 24) (s : State) : Out1 :=
  if s.lanes.lane[l].stage = .alignLock ∧ !s.portTest (portOf l) then .next ((s.stageOver l ms).parkLane l .idle)
  else .next s

/-- Back to receiver detect from a wait of one kind, once it is over. -/
def State.endHold (s : State) (l : Fin 24) (h : LaneHold) (wait : Nat) : State :=
  let x := s.lanes.lane[l]
  if x.stage = .failed ∧ x.hold = h then (s.stageOver l wait).startLane l else s

/-- `ELECTRICAL_IDLE_END`: after 10 ms of electrical idle a failed lane returns to receiver detect (Table 3.3, R92). -/
def execElectricalIdleEnd (l : Fin 24) (s : State) : Out1 := .next (s.endHold l .idle (10 * ms))

/-- `CAPABILITY_REFUSE_WAIT_END`: a refused lane returns to receiver detect after 1 s (R93). -/
def execCapabilityRefuseWaitEnd (l : Fin 24) (s : State) : Out1 := .next (s.endHold l .refused second)

/-- `FAILED_LANE_RETRY`: every 1 s a lane that failed training is retried at the port's rate (R92). -/
def execFailedLaneRetry (l : Fin 24) (s : State) : Out1 := .next (s.endHold l .retry second)

/-- `PORT_RESTART_TIMER`: 1 s after failing at the floor rate the port starts again from RATE_MAX (R92). -/
def execPortRestartTimer (k : Fin 4) (s : State) : Out1 :=
  if s.lanes.link[k].resting then .next ((s.until_ (s.lanes.link[k].restSince + second)).bringUp k) else .next s

/-! ### Capability exchange -/

/-- The tag and the CRC of a CAP block stand (Table 3.7). -/
def capOk (b : BitVec 256) : Bool :=
  cfield b 255 240 == 0x5C1A && cfield b 31 0 == crc32Nat (beBytes 28 (cfield b 255 32))

/-- A lane enters capability exchange (R93), unless its skew is too great (R100). -/
def State.startCap (s : State) (k : Fin 4) (l : Fin 24) : State :=
  let x := s.lanes.lane[l]
  if 40000 < x.skew then s.refuseLane l 0x2109 (x.skew / 1000)
  else
    let s := s.withLane l fun x => { x with stage := .capability, tx := .capBlocks, since := s.now, cap := none, capRun := 0, capDone := false }
    s.emit (.capBlock l (s.capBlock k l))

/-- Settle the exchange on three identical blocks (R93, R94). Where several refusals apply, the first of PORT_KIND, version and FEC
mode is reported (DESIGN CHOICE, log entry 104). -/
def State.settleCap (s : State) (k : Fin 4) (l : Fin 24) (b : BitVec 256) : State :=
  let x := s.lanes.link[k]
  let kind := cfield b 231 228
  let pair := if kindOf k = 2 then kind == 2 else kind == 0 || kind == 1
  let long := x.fecReq || b.getLsbD 224
  if !pair then s.refuseLane l 0x2104 1
  else if cfield b 239 236 ≠ 1 then s.refuseLane l 0x2104 2
  else if x.fec.isSome ∧ x.fec ≠ some long then s.refuseLane l 0x2104 3
  else
    let s := s.withLane l fun y => { y with capDone := true }
    (s.withLink k fun y => { y with fec := some long, partner := BitVec.ofNat 48 (cfield b 191 144), partnerKind := BitVec.ofNat 8 (cfield b 235 228) }).laneActive k l

/-- `CAP_BLOCK_RECEIVE` (R93, R94). -/
def execCapBlockReceive (l : Fin 24) (b : BitVec 256) (s : State) : Out1 :=
  let x := s.lanes.lane[l]
  match s.linkOf l with
  | none => .next s
  | some k =>
    if x.stage ≠ .capability then .next s
    else if !capOk b then .next (s.withLane l fun y => { y with capRun := 0 })
    else
      let run := if x.cap = some b then x.capRun + 1 else 1
      let s := s.withLane l fun y => { y with cap := some b, capRun := run }
      if 3 ≤ run then .next (s.settleCap k l b) else .next s

/-- `CAPABILITY_TIMEOUT`: the exchange does not complete within 1 ms; with no CAP block at all from the partner the
lane is refused with cause 4 (R93, R107). -/
def execCapabilityTimeout (l : Fin 24) (s : State) : Out1 :=
  if s.lanes.lane[l].stage ≠ .capability then .next s
  else
    let s := s.stageOver l ms
    .next ((if s.lanes.lane[l].cap.isNone then s.raise 0x2104 (laneDetail l 4) else s).parkLane l .idle)

/-! ### Markers -/

/-- A marker's field. -/
def mfield (m : BitVec 1360) (hi lo : Nat) : Nat := bits m.toNat hi lo

/-- The MCRC of a marker stands (Table 3.2). -/
def markerOk (m : BitVec 1360) : Bool := mfield m 31 0 == crc32Nat (beBytes 166 (mfield m 1359 32))

/-- Own lanes whose partner lane indices are in a set. -/
def State.fromPartner (s : State) (k : Fin 4) (v : Nat) : List (Fin 24) :=
  (s.lanesOf k).filter fun l => let q := s.rdN (0x2110 + l) 0x04; decide (q < 8) && bit v q

/-- A set of own lanes as a bitmap. -/
def mapOf (ls : List (Fin 24)) : BitVec 8 := BitVec.ofNat 8 ((ls.map fun l => 2 ^ laneIdx l).sum)

/-- Why this side refuses a live test of a lane (R104): 0 when it does not. -/
def State.testBar (s : State) (k : Fin 4) (l : Fin 24) : Nat :=
  let x := s.lanes.link[k]
  let active := x.txSet.getLsbD (laneIdx l)
  let left := lanesIn (without x.coming (laneIdx l))
  if ((List.finRange 4).filter fun m => linkPort m == linkPort k).any (fun m => s.lanes.link[m].test.isSome ||
      (s.lanesOf m).any fun o => s.lanes.lane[o].stage == .withdrawn) then 1
  else if active ∧ (left < x.minLanes ∨ left = 0) then 2
  else if active ∧ 95 * left < x.load * lanesIn x.txSet then 3
  else 0

/-- Begin to withdraw a lane for a live test (R103). A spare is in no set: its switch point is that of a planned change to the set as
it is (DESIGN CHOICE, log entry 118). -/
def State.beginTest (s : State) (k : Fin 4) (l : Fin 24) (initiator : Bool) (pattern : Nat) : State :=
  let x := s.lanes.link[k]
  let active := x.txSet.getLsbD (laneIdx l)
  let s := s.startRun (0x2110 + l) 0x24
  let s := s.withLink k fun y => { y with test := some { lane := laneIdx l, initiator := initiator, pattern := pattern,
                                                         wasActive := active, stage := 0, failed := false, announced := 0 } }
  if active then s.planned k (without x.coming (laneIdx l)) else s.planned k x.coming

/-- A withdrawn lane has regained lock: it is added back in its former part, and with the set restored its run is published; a
spare's is published at once (R103 step 5, R105). -/
def State.regain (s : State) (k : Fin 4) (l : Fin 24) (t : LiveTest) : State :=
  if t.wasActive then
    (s.withLink k fun y => { y with test := some { t with stage := 3 } }).planned k
      (s.lanes.link[k].coming ||| laneBit (laneIdx l))
  else
    let s := if t.failed then s else s.publishPrbs l true
    (s.withLane l fun y => { y with stage := .spare }).withLink k fun y => { y with test := none }

/-- Answer the partner's withdrawal of a lane: the lane is withdrawn here too, or the test is refused (R103, R104). A reserved pattern
is refused (R8; DESIGN CHOICE, log entry 118). -/
def State.answerTest (s : State) (k : Fin 4) (l : Fin 24) (pattern : Nat) : State :=
  if s.lanes.lane[l].stage ≠ .active ∧ s.lanes.lane[l].stage ≠ .spare then s
  else if s.testBar k l = 0 ∧ pattern < 8 then s.beginTest k l false pattern
  else s.withLink k fun y => { y with refusing := some (laneIdx l) }

/-- The TEST fields of a good marker (R103 to R105). Two starts fall into the same marker period when the partner's withdrawal
arrives before this side has announced its own more than once (DEDUCED, log entry 106); of two, that of the lower SERIAL_LOW is
kept. -/
def State.takeTest (s : State) (k : Fin 4) (m : BitVec 1360) : State :=
  match s.fromPartner k (2 ^ mfield m 1249 1247) with
  | [] => s
  | l :: _ =>
    let pattern := mfield m 1246 1243
    let mine := Config.serial.setWidth 48
    let x := s.lanes.link[k]
    match mfield m 1242 1241, x.test with
    | 1, none => s.answerTest k l pattern
    | 1, some t =>
      if t.lane = laneIdx l then
        if t.initiator ∧ x.partner < mine ∧ t.stage = 0 ∧ pattern < 8 then s.withLink k fun y => { y with test := some { t with pattern := pattern } }
        else s
      else if t.initiator ∧ t.stage = 0 ∧ !t.failed ∧ t.announced ≤ 1 ∧ x.partner < mine then
        let s := match s.laneAt k t.lane with
          | some o => (s.publishPrbs o false).raise 0x210A (laneDetail o 2)
          | none => s
        (s.withLink k fun y => { (if t.wasActive then y.keep t.lane else y) with test := none }).answerTest k l pattern
      else s.withLink k fun y => { y with refusing := some (laneIdx l) }
    | 2, some t =>
      if t.lane = laneIdx l ∧ !t.initiator ∧ t.stage = 1 then
        (s.returnLane l).withLink k fun y => { y with test := some { t with stage := 2 } }
      else s
    | 3, some t =>
      if t.lane = laneIdx l ∧ t.initiator ∧ t.stage ≤ 1 then (s.raise 0x210A (laneDetail l 2)).failTest k else s
    | _, _ => s

/-- The set fields and RX_FAULT of a good marker on a lane in service (R95, R97, R98). -/
def State.takeSets (s : State) (k : Fin 4) (m : BitVec 1360) : State :=
  let tx := mfield m 1276 1269
  let nx := mfield m 1268 1261
  let cd := mfield m 1260 1259
  let s := s.withLink k fun y => { y with
    rxSet := mapOf (s.fromPartner k (if tx ≠ nx ∧ cd = 0 then nx else tx))
    partnerFault := mapOf (s.fromPartner k (mfield m 1258 1251))
    rxChange := if tx = nx then none
      else some { next := BitVec.ofNat 8 nx, countdown := cd, fault := decide (cd < 2) } }
  (s.fromPartner k (mfield m 1258 1251)).foldl (fun s l => s.faultChange k l) s

/-- The lane that sets a link's deskew point: the first of those with the largest skew (R100, R187). -/
def State.deskewLane (s : State) (k : Fin 4) : Option (Fin 24) :=
  (s.lanesOf k).find? fun l =>
    (s.lanes.lane[l].stage == .active || s.lanes.lane[l].stage == .spare) && s.lanes.lane[l].skew == s.skewOf k

/-- Capture the arrival of a named marker (R187). -/
def State.captureArrival (s : State) (k : Fin 4) (l : Fin 24) (count : Nat) : State :=
  if s.deskewLane k ≠ some l then s
  else s.withLink k fun y => { y with hopMarks := y.hopMarks.map fun h =>
    if h.count.toNat = count then { h with arr := h.arr.or (some s.quartz.wall) } else h }

/-- A good marker on a lane: PARTNER_LANE, skew, and the stage it advances (Table 3.3, R100). -/
def State.goodMarker (s : State) (k : Fin 4) (l : Fin 24) (m : BitVec 1360) (skew : Nat) : State :=
  let s := s.wrN (0x2110 + l) 0x04 (mfield m 1295 1293)
  let s := s.withLane l fun x => { x with goodMarkers := x.goodMarkers + 1, badRun := 0, skew := skew }
  let s := s.captureArrival k l (mfield m 1292 1277)
  let x := s.lanes.lane[l]
  match x.stage with
  | .bitLock => if 2 ≤ x.goodMarkers then s.withLane l fun x => { x with stage := .alignLock, since := s.now, goodMarkers := 0 } else s
  | .alignLock => if 4 ≤ x.goodMarkers ∧ !s.portTest (portOf l) then s.startCap k l else s
  | .active => s.takeSets k m
  | .spare => s.takeSets k m
  | .withdrawn =>
    match s.lanes.link[k].test with
    | some t => if t.lane = laneIdx l ∧ t.stage = 2 ∧ 4 ≤ x.goodMarkers then s.regain k l t else s
    | none => s
  | _ => s

/-- `ALIGNMENT_MARKER_RECEIVE`: the marker that arrived at its expected place, or none where it is missing, and the
lane's skew in ps (R84, R97, R98, R100, R103 to R105). -/
def execAlignmentMarkerReceive (l : Fin 24) (m : Option (BitVec 1360)) (skew : BitVec 32) (s : State) : Out1 :=
  match s.linkOf l with
  | none => .next s
  | some k =>
    if !s.lanes.lane[l].stage.pastTraining then .next s
    else match m with
      | none => .next (s.withLane l fun x => { x with goodMarkers := 0, badRun := x.badRun + 1 })
      | some m =>
        if !markerOk m then
          .next ((s.bump (0x2110 + l) 0x15 1).withLane l fun x => { x with goodMarkers := 0, badRun := x.badRun + 1 })
        else
          let s := s.goodMarker k l m skew.toNat
          let st := s.lanes.lane[l].stage
          if (st = .active ∨ st = .spare) ∧ m.getLsbD 1250 then .next (s.takeTest k m) else .next s

/-- The marker that a lane of a link sends now (Table 3.2). -/
def State.markerOf (s : State) (k : Fin 4) (l : Fin 24) : BitVec 1360 :=
  let x := s.lanes.link[k]
  let (lane, action, pattern) := match x.refusing, x.test with
    | some i, _ => (i, 3, 0)
    | none, some t =>
      if t.stage = 0 ∧ !t.failed then (t.lane, 1, t.pattern)
      else if t.stage = 2 ∧ t.initiator then (t.lane, 2, t.pattern)
      else (0, 0, 0)
    | none, none => (0, 0, 0)
  let v := 0x6A3C95E10F4BD278 * 2 ^ 1264 + laneIdx l * 2 ^ 1261 + x.markerCount.toNat * 2 ^ 1245 +
    x.txSet.toNat * 2 ^ 1237 + x.nextSet.toNat * 2 ^ 1229 + ((x.change.map SetChange.countdown).getD 0) * 2 ^ 1227 +
    x.rxFault.toNat * 2 ^ 1219 + bitAt (action != 0) 1218 + lane * 2 ^ 1215 + pattern * 2 ^ 1211 + action * 2 ^ 1209
  BitVec.ofNat 1360 (v * 2 ^ 32 + crc32Nat (beBytes 166 v))

/-- A link after its markers: the count, what they announced, the captures of a named one, and cell slots that begin anew
(R84, R105, R112, R187). -/
def Link.marked (x : Link) (wall : Nat) : Link :=
  { x with
    markerCount := x.markerCount + 1
    refusing := none
    slots := 0
    turn := 0
    test := x.test.map fun t => if t.stage = 0 ∧ t.initiator then { t with announced := t.announced + 1 } else t
    hopMarks := x.hopMarks.map fun h => if h.count = x.markerCount then { h with dep := h.dep.or (some wall) } else h }

/-- `ALIGNMENT_MARKER_SEND`: every lane of a link that sends codewords sends its marker and reloads its scrambler; the countdown
of a set change falls, and the set applies after COUNTDOWN 0, also where no lane of the link sends any more (R83, R84, R96, R97). Cell
slots of the interval that no command has scheduled carried idle cells (DESIGN CHOICE, log entry 115). -/
def execAlignmentMarkerSend (k : Fin 4) (s : State) : Out1 :=
  let x := s.lanes.link[k]
  let ls := (s.lanesOf k).filter fun l => s.lanes.lane[l].tx == .codewords || s.lanes.lane[l].tx == .capBlocks
  if ls.isEmpty ∧ x.change.isNone then .next s
  else
    let s := s.fillInterval k (blocksOfBytes 8 idleCell.wire)
    let s := s.emits (ls.map fun l => Out.marker l (s.markerOf k l))
    let s := ls.foldl (fun s l => s.withLane l fun y => { y with fill := [], scrambler := scramblerSeed (laneIdx l) }) s
    let s := s.withLink k fun y => y.marked s.quartz.wall
    match x.change with
    | none => .next s
    | some c =>
      if c.countdown = 0 then .next (s.applySet k c.next)
      else .next (s.withLink k fun y => { y with change := some { c with countdown := c.countdown - 1 } })

/-- `LANE_LOCK_LOSS`: the CDR lost lock, or two markers in a row were bad or missing (R98, R99). -/
def execLaneLockLoss (l : Fin 24) (cdr : Bool) (s : State) : Out1 :=
  if cdr then .next (s.failLane l 1)
  else if 2 ≤ s.lanes.lane[l].badRun then .next (s.failLane l 2)
  else .next s

/-- `UNCORRECTED_BURST`: 16 uncorrected codewords among 128 (R99). -/
def execUncorrectedBurst (l : Fin 24) (s : State) : Out1 := .next (s.failLane l 3)

/-- A lane runs long FEC: its link's mode, and on an Ethernet lane the one that IEEE 802.3 names (R46, R82). -/
def State.longFec (s : State) (l : Fin 24) : Bool :=
  match s.linkOf l with
  | some k => s.lanes.link[k].fec.getD false
  | none => true

/-- Add what a decoder counted to a lane's counters (R109). -/
def State.addCounts (s : State) (l : Fin 24) (x : CwCounts) : State :=
  let b (s : State) (sub v : Nat) : State := s.bump (0x2110 + l) sub v
  b (b (b (b (b (b (b (b s 0x10 x.total) 0x11 x.corrected) 0x12 x.uncorrected) 0x13 x.symbols) 0x18 x.hist[0]) 0x19 x.hist[1])
    0x1A x.hist[2]) 0x1B x.hist[3]

/-- `LANE_HEALTH_WINDOW`: the codewords received in the 1 s window, each as often as it came, and the port's cell load in
percent. They are decoded and counted, and the lane is judged; an Ethernet lane has no spare (R82, R99, R104, R109). -/
def execLaneHealthWindow (l : Fin 24) (received : List (Nat × List Sym)) (load : BitVec 8) (s : State) : Out1 :=
  let s := s.pass second
  let x := countCodewords (s.longFec l) received
  let s := s.addCounts l x
  let s := match s.linkOf l with
    | some k => s.withLink k fun y => { y with load := load.toNat }
    | none => s
  let st := s.lanes.lane[l].stage
  if st ≠ .active ∧ st ≠ .spare then .next s
  else if x.uncorrected = 0 ∧ x.symbols * 100000 ≤ x.total * fecSize (s.longFec l) then .next (s.wrN (0x2110 + l) 0x09 0)
  else
    let s := s.wrN (0x2110 + l) 0x09 1
    match s.linkOf l with
    | none => .next (s.raise 0x2106 (laneDetail l 0))
    | some k =>
      if !s.lanes.link[k].coming.getLsbD (laneIdx l) then .next s
      else match s.healthySpare k with
        | some sp =>
          let next := without s.lanes.link[k].coming (laneIdx l) ||| laneBit (laneIdx sp)
          .next ((s.planned k next).raise 0x2107 (laneDetail l (laneIdx sp)))
        | none => .next (s.raise 0x2106 (laneDetail l 0))

/-! ### PRBS and live tests -/

/-- A write of 1 to PRBS_START (R16, R103, R104, R107, R109). A start refused by R104 publishes a failed run. With PRBS_TX 0 the
live test runs with pattern 0, off (DESIGN CHOICE, log entry 104). -/
def State.prbsStart (s : State) (l : Fin 24) (v : Int) : Nat × State :=
  let pattern := s.rdN (0x2110 + l) 0x20
  if v = 0 then (0, s)
  else if s.isRunning (0x2110 + l) 0x24 then (abState, s)
  else if s.portTest (portOf l) then
    (0, (s.startRun (0x2110 + l) 0x24).withLane l fun x => { x with
      timedRun := true, runSince := s.now, checker := Checker.fresh })
  else match s.linkOf l with
    | none => (abState, s)
    | some k =>
      let st := s.lanes.lane[l].stage
      if s.lanes.link[k].phase ≠ .up ∨ (st ≠ .active ∧ st ≠ .spare) then (abState, s)
      else if s.testBar k l ≠ 0 then
        (abCannot, ((s.startRun (0x2110 + l) 0x24).publishPrbs l false).raise 0x210A (laneDetail l 1))
      else (0, s.beginTest k l true pattern)

/-- Add what a checker counted while in lock. -/
def State.countPrbs (s : State) (l : Fin 24) (n errors symErrors : Nat) : State :=
  s.withLane l fun x => if !x.checker.locked then x
    else { x with checker := { x.checker with bits := x.checker.bits + n, bitErrors := x.checker.bitErrors + errors, symErrors := x.checker.symErrors + symErrors } }

/-- PRBS_DURATION of a lane's run is over. -/
def State.runOver (s : State) (l : Fin 24) : State :=
  s.until_ (s.lanes.lane[l].runSince + s.rdN (0x2110 + l) 0x22 * ms)

/-- `PRBS_DURATION_END`: PRBS_DURATION expires; the counts of the checker since its last lock come with it. A live test
announces return, a timed run publishes (R103, R109). -/
def execPrbsDurationEnd (l : Fin 24) (n errors symErrors : BitVec 64) (s : State) : Out1 :=
  let s := s.countPrbs l n.toNat errors.toNat symErrors.toNat
  if s.lanes.lane[l].timedRun then
    .next (((s.runOver l).withLane l fun x => { x with timedRun := false }).publishPrbs l true)
  else match s.linkOf l with
    | none => .next s
    | some k =>
      match s.lanes.link[k].test with
      | some t =>
        if t.lane = laneIdx l ∧ t.initiator ∧ t.stage = 1 then
          .next (((s.runOver l).returnLane l).withLink k fun y => { y with test := some { t with stage := 2 } })
        else .next s
      | none => .next s

/-- `LIVE_TEST_RELOCK_TIMEOUT`: a withdrawn lane fails to regain lock within 10 ms and is declared FAILED (R103). -/
def execLiveTestRelockTimeout (l : Fin 24) (s : State) : Out1 :=
  match s.linkOf l with
  | none => .next s
  | some k =>
    match s.lanes.link[k].test with
    | some t =>
      if t.lane = laneIdx l ∧ t.stage = 2 then
        let s := s.until_ (s.lanes.lane[l].runSince + 10 * ms)
        let s := ((s.endTest k l).wrN (0x2110 + l) 0x09 2).raise 0x210A (laneDetail l 3)
        .next ((s.withLink k fun y => { y with rxFault := y.rxFault ||| laneBit (laneIdx l) }).startLane l)
      else .next s
    | none => .next s

/-- A lane carries or checks a PRBS pattern. -/
def State.prbsLane (s : State) (l : Fin 24) : Bool :=
  s.lanes.lane[l].tx == .prbs || s.lanes.lane[l].gen != 0 || s.portTest (portOf l) || s.lanes.lane[l].stage == .withdrawn

/-- The pattern that a lane's checker expects: PRBS_RX, and while that is 0 the one announced for the live test, or outside one
that of PRBS_TX (R103, R109; DESIGN CHOICE, log entry 116). -/
def State.rxPattern (s : State) (l : Fin 24) : Nat :=
  let own := s.rdN (0x2110 + l) 0x21
  let test := match s.linkOf l with
    | some k => (s.lanes.link[k].test.filter fun (t : LiveTest) => t.lane == laneIdx l).map LiveTest.pattern
    | none => none
  if own ≠ 0 then own else test.getD (s.rdN (0x2110 + l) 0x20)

/-- `PRBS_CHECKER_LOCK`: 64 bits in a row without error of a pattern, which locks the checker if it is the one expected
(R102). -/
def execPrbsCheckerLock (l : Fin 24) (pattern : BitVec 4) (s : State) : Out1 :=
  if !s.prbsLane l ∨ s.lanes.lane[l].checker.locked ∨ pattern = 0 ∨ pattern.toNat ≠ s.rxPattern l then .next s
  else .next (s.withLane l fun x => { x with checker := { x.checker with
    locked := true, wasLocked := true, syncLosses := x.checker.syncLosses + (if x.checker.wasLocked then 1 else 0) } })

/-- `PRBS_CHECKER_LOCK_LOSS`: 32 or more of 64 bits in error; what was counted since the lock comes with it (R102). -/
def execPrbsCheckerLockLoss (l : Fin 24) (n errors symErrors : BitVec 64) (s : State) : Out1 :=
  let s := s.countPrbs l n.toNat errors.toNat symErrors.toNat
  .next (s.withLane l fun x => { x with checker := { x.checker with locked := false } })

/-! ### Error injection -/

/-- A lane may take uncorrectable errors: it carries PRBS, or its port is in a loopback (Table 3.9). -/
def State.testLane (s : State) (l : Fin 24) : Bool :=
  s.lanes.lane[l].tx == .prbs || s.rdN (0x2100 + portOf l) 0x0D != 0

/-- A lane takes an error of a kind: any kind as a test lane, FEC symbols also in service (Table 3.9). -/
def State.injKindOk (s : State) (l : Fin 24) (kind : Nat) : Bool :=
  let st := s.lanes.lane[l].stage
  s.testLane l || (kind == 3 && (st == .active || st == .spare))

/-- The largest INJ_SIZE that a lane takes for a kind, and the smallest (Table 3.9). -/
def State.injSizes (s : State) (l : Fin 24) (kind : Nat) : Nat × Nat :=
  match kind with
  | 2 => (2, 64)
  | 3 =>
    let long := match s.linkOf l with
      | some k => s.lanes.link[k].fec == some true
      | none => true
    (1, if s.testLane l then 16 else if long then 15 else 4)
  | _ => (1, 64)

/-- INJ_SIZE is allowed with a kind on a lane (R106). -/
def State.injSizeOk (s : State) (l : Fin 24) (kind size : Nat) : Bool :=
  let (lo, hi) := s.injSizes l kind
  decide (lo ≤ size ∧ size ≤ hi)

/-- A write to INJ_START (R106, R109). With INJ_KIND 0, none, it succeeds and injects nothing (DESIGN CHOICE, log entry 104). -/
def State.injStart (s : State) (l : Fin 24) (v : Int) : Nat × State :=
  if v = 0 then (0, s.withLane l fun x => if x.injLeft.isNone then { x with injecting := false } else x)
  else
    let kind := s.rdN (0x2110 + l) 0x30
    let size := s.rdN (0x2110 + l) 0x31
    let count := s.rdN (0x2110 + l) 0x32
    if kind = 0 then (0, s)
    else if !s.injSizeOk l kind size then (abRange, s)
    else if !s.injKindOk l kind then (abState, s)
    else (0, s.withLane l fun x => { x with
      injecting := true, injLeft := if count = 0 then none else some count, injKind := kind, injSize := size })

/-- `INJECTION_INTERVAL`: the transmitter injects the next error, of the kind and size that INJ_START took, and stops after the
last; an error that the lane may no longer take ends the injection (R106). INJ_DONE counts over all injections: neither INJ_START nor
CLEAR starts it anew (DESIGN CHOICE, log entry 118). -/
def execInjectionInterval (l : Fin 24) (s : State) : Out1 :=
  let x := s.lanes.lane[l]
  if !x.injecting then .next s
  else if !s.injSizeOk l x.injKind x.injSize || !s.injKindOk l x.injKind then
    .next (s.withLane l fun x => { x with injecting := false, injLeft := none })
  else
    let s := (s.emit (.injected l x.injKind x.injSize)).bump (0x2110 + l) 0x35 1
    .next (s.withLane l fun x => match x.injLeft with
      | none => x
      | some n => { x with injLeft := if n ≤ 1 then none else some (n - 1), injecting := decide (1 < n) })

/-! ### Loopback, test state and the other writes -/

/-- A port has not come up since the cold reset (R107). -/
def State.portFresh (s : State) (p : Fin 3) : Bool :=
  (linksOf p).all (fun k => !s.lanes.link[k].wasUp) && !(p == 2 && s.lanes.ethUp)

/-- A port is down in recovery after a failure: a link of it has gone down or failed, and neither a link nor an Ethernet lane of it is
up (R107). -/
def State.portRecovers (s : State) (p : Fin 3) : Bool :=
  (linksOf p).any (fun k => s.lanes.link[k].recovering) && (linksOf p).all (fun k => s.lanes.link[k].phase != .up) &&
    (List.finRange 24).all fun l => portOf l != p.1 || (s.linkOf l).isSome || s.lanes.lane[l].stage != .active

/-- Take a port down and bring it up in whatever state its objects now name (R107). -/
def State.restartPort (s : State) (p : Fin 3) : State :=
  let s := (linksOf p).foldl (fun s k =>
    ((s.failTest k).neighbourDown k).withLink k fun x => { x with recovering := false }) s
  s.bringUpPort p

/-- A write of LOOPBACK: set only before the port has first come up, in test state, or while the port is down in recovery after a
failure (R107; the first state: DEDUCED, log entry 106). -/
def State.loopbackWrite (s : State) (p : Fin 3) (v : Int) : Nat × State :=
  if v = s.rdI (0x2100 + p) 0x0D then (0, s)
  else if v ≠ 0 ∧ !s.rdB (0x2100 + p) 0x0E ∧ !s.portFresh p ∧ !s.portRecovers p then (abState, s)
  else (0, (s.wrI (0x2100 + p) 0x0D v).restartPort p)

/-- A write of TEST_STATE (R107). -/
def State.testStateWrite (s : State) (p : Fin 3) (v : Int) : Nat × State :=
  if v = s.rdI (0x2100 + p) 0x0E then (0, s) else (0, (s.wrI (0x2100 + p) 0x0E v).restartPort p)

/-- A write of ENABLE of a lane (Table 3.12): an enabled lane starts; a disabled one leaves its set by a planned change
and then turns off, and a live test of it ends as a failed run. -/
def State.laneEnableWrite (s : State) (l : Fin 24) (v : Int) : Nat × State :=
  let s := s.wrI (0x2110 + l) 0x02 v
  match s.linkOf l with
  | none => if v = 0 ∨ s.lanes.lane[l].stage = .off then (0, s.startLane l) else (0, s)
  | some k =>
    if v = 0 then
      let s := s.endTest k l
      if s.lanes.link[k].coming.getLsbD (laneIdx l) then (0, s.planned k (without s.lanes.link[k].coming (laneIdx l)))
      else if s.lanes.link[k].txSet.getLsbD (laneIdx l) then (0, s)
      else (0, s.laneOff l)
    else if s.lanes.lane[l].stage = .off then (0, s.startLane l) else (0, s)

/-- A write of DETECT_MODE: with 1 a lane in receiver detect starts training at once (R86). -/
def State.detectWrite (s : State) (l : Fin 24) (v : Int) : Nat × State :=
  let s := s.wrI (0x2110 + l) 0x03 v
  (0, if v = 1 ∧ s.lanes.lane[l].stage = .detect then s.startTraining l else s)

/-- A write of TAP_MODE or TAP_FIXED: with fixed taps the transmitter takes them (Table 3.12). -/
def State.tapsWrite (s : State) (l : Fin 24) (sub : Nat) (v : Int) : Nat × State :=
  let s := s.wrI (0x2110 + l) sub v
  if s.rdN (0x2110 + l) 0x07 = 1 then (0, s.withLane l fun x => { x with taps := tapsOf (s.rdN (0x2110 + l) 0x08) })
  else (0, s)

/-- A write of PRBS_TX: on a port in test or in a loopback it sets the generator at once (R109). -/
def State.prbsTxWrite (s : State) (l : Fin 24) (v : Int) : Nat × State :=
  let s := s.wrI (0x2110 + l) 0x20 v
  if !s.portTest (portOf l) then (0, s)
  else (0, s.withLane l fun x => { x with
    gen := v.toNat, tx := if x.stage ≠ .alignLock then x.tx else if v = 0 then .codewords else .prbs })

/-- A write of 1 to a lane's CLEAR zeroes every counter of the lane in one step (R109). -/
def State.laneClear (s : State) (l : Fin 24) (v : Int) : Nat × State :=
  if v = 0 then (0, s)
  else (0, s.zero (0x2110 + l) [0x10, 0x11, 0x12, 0x13, 0x14, 0x15, 0x18, 0x19, 0x1A, 0x1B])

/-- A write to PORTC_CONFIG (R47). -/
def State.portcWrite (s : State) (v : Int) : Nat × State :=
  if (List.range 32).any fun n => s.rdB (0x2400 + n) 0x01 then (abState, s)
  else (0, (s.wrI 0x2102 0x01 v).restartPort 2)

/-! ### Loop timing of a tile's transmitters (R123) -/

/-- `OPPOSITE_PORT_DOWN`: the transmitter of a port free-runs from REFCLK, because the opposite port is down. -/
def execOppositePortDown (port : Fin 2) (s : State) : Out1 :=
  if s.role ≠ .tile ∨ s.portUp (other port) then .next s
  else
    let s := s.withTile fun t => { t with loopTimed := vset t.loopTimed port false, slewing := vset t.slewing port false }
    .next (s.raise 0x3004 (s.chainDetail port 0))

/-- `LOOP_TIMING_RESTORE`: the opposite port has come up and the transmitter slews back. -/
def execLoopTimingRestore (port : Fin 2) (s : State) : Out1 :=
  if s.role ≠ .tile ∨ !s.portUp (other port) ∨ s.tile.loopTimed[port] then .next s
  else .next (s.withTile fun t => { t with slewing := vset t.slewing port true })

/-- `LOOP_TIMING_SLEW_COMPLETE`: the transmitter is loop-timed again. -/
def execLoopTimingSlewComplete (port : Fin 2) (s : State) : Out1 :=
  if !s.tile.slewing[port] then .next s
  else .next (s.withTile fun t => { t with slewing := vset t.slewing port false, loopTimed := vset t.loopTimed port true })

end Sys2Proof.Machine
end

