-- ==== Sys2Proof/Machine/Timing.lean ====
section
/-! DEFINITION. Wall time as cells and units carry it, the timing set, and its changes (R170 to R173, R182, R192 to R196,
R562). -/

namespace Sys2Proof.Machine

/-- Wall time from seconds, ns and sub-ns, little-endian, at an offset (6 + 4 + 2 bytes). -/
def stampAt (b : List Byte) (off : Nat) : Nat :=
  (field b off 6 * second + field b (off + 6) 4) * subNs + field b (off + 10) 2

/-- A wall time as 12 bytes. -/
def stampBytes (w : Nat) : List Byte :=
  leBytes 6 (w / (subNs * second)) ++ leBytes 4 (w / subNs % second) ++ leBytes 2 (w % subNs)

/-- Seconds and nanoseconds of a wall time, 10 bytes. -/
def stamp10 (w : Nat) : List Byte := leBytes 6 (w / (subNs * second)) ++ leBytes 4 (w / subNs % second)

/-- Bytes 16 to 79 of a TIMING payload hold a timing set (Table 6.4). -/
def TimingSet.bytes (t : TimingSet) : List Byte :=
  leBytes 8 t.fBase ++ stamp10 t.tBase ++ leBytes 4 t.num ++ leBytes 4 t.den ++ leBytes 4 t.d ++ leBytes 1 t.s ++ [0] ++
    t.off.toList.flatMap (leBytes 4) ++ t.len.toList.flatMap (leBytes 4)

/-- The rate, D, S, offsets and lengths that 46 bytes from an offset hold, on a given base. -/
def setFields (b : List Byte) (o fBase tBase : Nat) : TimingSet where
  fBase := fBase
  tBase := tBase
  num := field b o 4
  den := field b (o + 4) 4
  d := field b (o + 8) 4
  s := field b (o + 12) 1
  off := Vector.ofFn fun k : Fin 4 => field b (o + 14 + 4 * k) 4
  len := Vector.ofFn fun k : Fin 4 => field b (o + 30 + 4 * k) 4

/-- The timing set at bytes 16 to 79 (Table 6.4). -/
def setAt (b : List Byte) (o : Nat) : TimingSet :=
  setFields b (o + 18) (field b o 8) ((field b (o + 8) 6 * second + field b (o + 14) 4) * subNs)

/-- A set has a rate that frames can be computed from. -/
def TimingSet.usable (t : TimingSet) : Bool := t.num != 0 && t.den != 0

/-- The slot rules of R196. -/
def TimingSet.slotsOk (t : TimingSet) : Bool :=
  decide (1 ≤ t.s ∧ t.s ≤ 4) && t.off[0] == 0 &&
    (List.finRange 4).all fun k =>
      decide (t.s ≤ k.1) ||
        (decide (100000 ≤ t.len[k]) &&
          decide (t.off[k] + t.len[k] ≤ (if k.1 + 1 < t.s then (t.off[k.1 + 1]?).getD 0 else t.periodNs)))

/-- Default offsets and lengths for a rate and slot count (R196). -/
def slotDefaults (num den n : Nat) : Vector Nat 4 × Vector Nat 4 :=
  (Vector.ofFn fun k : Fin 4 => if k.1 < n then k.1 * (den * second) / (num * n) else 0,
   Vector.ofFn fun k : Fin 4 => if k.1 < n then den * second / (num * n) - 20000 else 0)

/-- A pending change as bytes 96 to 167 hold it (Tables 6.3 and 6.4). -/
def changeBytes : Option TimingChange → List Byte
  | none => List.replicate 72 0
  | some (.newSet f t) => [1] ++ List.replicate 7 0 ++ leBytes 8 f ++ (t.bytes.drop 18) ++ List.replicate 2 0 ++ List.replicate 8 0
  | some (.step f ns) => [2] ++ List.replicate 7 0 ++ leBytes 8 f ++ List.replicate 48 0 ++ leBytes 8 (ns % 2 ^ 64).toNat

/-- The change that 72 bytes from an offset carry. A new set that breaks the slot rules counts as absent (R196). -/
def changeAt (b : List Byte) (o : Nat) : Option TimingChange :=
  let f := field b (o + 8) 8
  match field b o 1 with
  | 1 =>
    let t := setFields b (o + 16) 0 0
    if t.usable && t.slotsOk then some (.newSet f t) else none
  | 2 => some (.step f (sfield b (o + 64) 8))
  | _ => none

/-- The frame of a change. -/
def TimingChange.frame : TimingChange → Nat
  | .newSet f _ => f
  | .step f _ => f

/-- CHG_KIND of a change. -/
def TimingChange.kind : TimingChange → Nat
  | .newSet _ _ => 1
  | .step _ _ => 2

/-- Change Quartz. -/
def State.withQuartz (s : State) (f : Quartz → Quartz) : State := { s with quartz := f s.quartz }

/-- Detail of a Quartz event (R201). -/
def State.quartzDetail (s : State) (v : Nat) : Nat := det (if s.role = .tile then s.station else 0) v

/-- Apply a change at its frame: T_BASE becomes T_frame(Fc) under the old set, F_BASE becomes Fc; a step moves wall time
with it (R192, R195). -/
def State.applyChange (s : State) (c : TimingChange) : State :=
  let old := s.quartz.set
  let s := match c with
    | .newSet f t => s.withQuartz fun q => { q with set := old.rebase t f, old := some old }
    | .step f ns =>
      let shift (w : Nat) : Nat := ((w : Int) + ns * subNs).toNat
      let moved := { old with tBase := shift old.tBase }
      s.withQuartz fun q => { q with set := moved.rebase old f, old := some moved, wall := shift q.wall }
  let s := s.withQuartz fun q => { q with pending := none, applied := some (c.kind, c.frame) }
  let s := (s.wrN 0x2600 0x0D s.quartz.set.d)
  s.raise 0x1608 (s.quartzDetail c.kind)

/-- Take the change fields of a cell or unit: a change ahead is pending; one whose frame has come is applied at once, and frames are
counted on the set that it gives (R192). -/
def State.takeChange (s : State) (c : Option TimingChange) : State :=
  match c with
  | none => s
  | some c =>
    if s.quartz.applied = some (c.kind, c.frame) then s
    else if s.quartz.frame < c.frame ∨ !s.quartz.lockedOnce then s.withQuartz fun q => { q with pending := some c }
    else (s.applyChange c).withQuartz fun q => { q with frame := q.set.frameAt q.wall }

/-- A cell or unit still names a change that has already been applied here (R562). -/
def State.oldChange (s : State) (b : List Byte) (o : Nat) : Bool :=
  field b o 1 != 0 && s.quartz.applied == some (field b o 1, field b (o + 8) 8)

/-- A set received begins at the frame of the change that is pending here: that change has been applied where the set comes from. A
device that runs applies it too; one not yet locked takes the set alone (R192). -/
def State.settlePending (s : State) (t : TimingSet) : State :=
  match s.quartz.pending with
  | some c =>
    if t.fBase < c.frame then s
    else if s.quartz.lockedOnce then s.applyChange c
    else s.withQuartz fun q => { q with pending := none, applied := some (c.kind, c.frame) }
  | none => s

/-- The frame in progress under a set adopted: a device that counts frames keeps its count where the set gives the same one or its
neighbour, as at a boundary. -/
def Quartz.frameUnder (q : Quartz) (t : TimingSet) : Nat :=
  let f := t.frameAt q.wall
  if q.lockedOnce ∧ f ≤ q.frame + 1 ∧ q.frame ≤ f + 1 then q.frame else f

/-- Adopt a timing set received, unless it is the one held (R180, R182, R192). -/
def State.adoptSet (s : State) (t : TimingSet) : State :=
  if !t.usable ∨ t = s.quartz.set then s
  else
    let s := s.settlePending t
    if t = s.quartz.set then s
    else (s.withQuartz fun q => { q with set := t, old := none, frame := q.frameUnder t }).wrN 0x2600 0x0D t.d

/-- Enter Locked (R176, R180, R183): event 0x1601 with the source. -/
def State.quartzLock (s : State) (source : Nat) : State :=
  if s.quartz.state = .locked then s
  else
    let s := s.withQuartz fun q =>
      { q with state := .locked, lockedOnce := true, frame := if q.lockedOnce then q.frame else q.set.frameAt q.wall }
    s.raise 0x1601 (s.quartzDetail source)

/-- Enter holdover (R176, R180, R184): event 0x1602 with the cause. -/
def State.holdover (s : State) (cause : Nat) : State :=
  if s.quartz.state = .holdover ∨ s.quartz.state = .freeRunning then s
  else
    let s := s.withQuartz fun q => { q with state := .holdover, holdoverSince := s.now, goodSince := none, parent := none }
    s.raise 0x1602 (s.quartzDetail cause)

/-- Move wall time by a correction, in 2^-16 ns. -/
def State.steer (s : State) (by_ : Int) : State :=
  s.withQuartz fun q => { q with wall := ((q.wall : Int) + by_).toNat }

/-- Follow an offset, 2^-16 ns: it is slewed as time passes, and the servo holds the frequency it gives, which stays in
holdover (R176; the servo itself is a free value: DESIGN CHOICE, log entry 117). -/
def State.follow (s : State) (theta : Int) (elapsed : Nat) : State :=
  s.withQuartz fun q => { q with slew := theta, ppb := Config.servoPpb q.ppb theta elapsed }

/-- Bring wall time forward to the next instant at which it reads a phase modulo a period, both in ns; an instant
that is now stands. -/
def State.untilPhase (s : State) (period phase : Nat) : State :=
  let p := period * subNs
  s.untilWall (s.quartz.wall + (phase * subNs + p - s.quartz.wall % p) % p)

end Sys2Proof.Machine
end

