-- ==== Sys2Proof/Machine/Sender.lean ====
section
/-! DEFINITION. A sender's chain ports: who controls a chain (R26, R29, R34 to R37), sequence numbers (R120), named releases
and relays (R36, R152, R181), the slot schedule (R119), and cascade units (R77 to R79). -/

namespace Sys2Proof.Machine

open Host

/-! ### Chains of a sender -/

/-- Change a chain port. -/
def State.withChain (s : State) (p : Fin 2) (f : ChainPort → ChainPort) : State :=
  { s with ports := vmod s.ports p f }

/-- Chain number of a port; 0 none (R29). -/
def State.chainNo (s : State) (p : Fin 2) : Nat := s.rdN (0x2200 + p) 0x01

/-- Single-sender mode (R165). -/
def State.single (s : State) : Bool := s.rdB 0x2300 0x01

/-- Own frame-master priority. -/
def State.priority (s : State) : Nat := s.rdN 0x2600 0x02

/-- This sender controls the chain at a port. -/
def State.controls (s : State) (p : Fin 2) : Bool := s.isSender && s.ports[p].cstate.controls

/-- This sender controls the chain at a port, and this is the port that stands for it: port A under a single sender. -/
def State.leads (s : State) (p : Fin 2) : Bool := s.controls p && !(s.single && p == 1)

/-- The port that drives a chain, if any. -/
def State.portFor (s : State) (chain : Nat) : Option (Fin 2) :=
  if chain = 0 then none else (List.finRange 2).find? fun p => s.chainNo p == chain

/-- The preferred control sender of the chain at a port (R34). -/
def State.preferred (s : State) (p : Fin 2) : Bool := s.rdN (0x2300 + p) 0x02 == p.1

/-- Set CSTATE of a port, and 0x2300+p:05 with it. -/
def State.setCState (s : State) (p : Fin 2) (c : CState) : State :=
  (s.withChain p fun x => { x with cstate := c }).wrN (0x2300 + p) 0x05 c.code

/-- The CSTATE of a standby sender: eligible when its last period was clean, it is not in maintenance, and chain number and map are
those of the control sender (R154, R161). -/
def State.standby (s : State) (p : Fin 2) : CState :=
  let x := s.ports[p]
  if x.lastClean && !s.rdB (0x2300 + p) 0x16 && x.peer != 0 && !x.numbersDiffer && x.peerMapCrc == s.rdN 0x2500 0x09 then .eligible
  else .notEligible

/-- A standby sender's CSTATE is judged anew (R154). -/
def State.judgeStandby (s : State) (p : Fin 2) : State :=
  if s.ports[p].cstate = .eligible ∨ s.ports[p].cstate = .notEligible then s.setCState p (s.standby p) else s

/-- At a start in single-sender mode CSTATE is 4 at every port that drives a chain (R165). -/
def State.startMode (s : State) : State :=
  (List.finRange 2).foldl (fun s p => if s.single && s.chainNo p != 0 then s.setCState p .single else s) s

/-- The sender sends only HEALTH cells on a port: its chain number differs from the control sender's (R29), or it is the
end-B sender of a chain whose senders are not joined (R37). -/
def State.healthOnly (s : State) (p : Fin 2) : Bool :=
  (s.ports[p].numbersDiffer && !s.ports[p].cstate.controls) || (s.ports[p].unjoined && p == 1)

/-- Detail of a redundancy event (R169). -/
def State.redDetail (s : State) (p : Fin 2) (v : Nat) : Nat := det3 (s.chainNo p) s.ports[p].peer v

/-! ### Cascade units (R77, R78) -/

/-- The lane link of a cascade link. -/
def cascLink (i : Fin 2) : Fin 4 := if i = 0 then 2 else 3

/-- A cascade link carries units: its lanes are up and its IDENTITY has been accepted. Until then, and where it is refused, the
link stays down for every unit but IDENTITY (R79). -/
def State.cascUp (s : State) (i : Fin 2) : Bool := s.linkUp (cascLink i) && s.quartz.neighbour[i].up

/-- A trip has powered the device down: it sends only idle cells and idle units until it has restarted (R462). -/
def State.hasTripped (s : State) : Bool := s.thermal.phase != .normal

/-- A unit leaves a cascade link: nine blocks, striped as those of a cell are (R46, R77, R95). -/
def State.sendOn (s : State) (i : Fin 2) (u : CascadeUnit) : State :=
  (s.emit (.cascade i u)).linkBlocks (cascLink i) (blocksOfBytes 9 u.wire)

/-- Send a unit out of every cascade link that is up (R78); a tripped sender sends none (R462). -/
def State.sendUnit (s : State) (kind dst chain rel : Nat) (body : List Byte) : State :=
  let u : CascadeUnit := {
    kind := kind, src := s.priority, dst := dst, ttl := 15, chain := chain, relSec := rel / (subNs * second),
    relNs := rel / subNs % second, useq := s.cascade.useq % 2 ^ 32, body := padTo 256 body, good := true }
  let s := { s with cascade := { s.cascade with useq := s.cascade.useq + 1 } }
  if s.hasTripped then s else ((List.finRange 2).filter s.cascUp).foldl (fun s i => s.sendOn i u) s

/-- The opposite cascade link. -/
def otherLink (i : Fin 2) : Fin 2 := if i = 0 then 1 else 0

/-- A CTRL IDENTITY unit (Table 5.4). -/
def CascadeUnit.isIdentity (u : CascadeUnit) : Bool := u.kind == 4 && field u.body 0 1 == 1

/-- Take a unit from a link: check it, discard a repeat and one of its own, forward it, and say whether it is for this
sender (R78). A link that stays down carries IDENTITY units alone (R79). -/
def State.takeUnit (s : State) (i : Fin 2) (u : CascadeUnit) : Bool × State :=
  if !s.isSender || !(if u.isIdentity then s.linkUp (cascLink i) else s.cascUp i) then (false, s)
  else if !u.good then (false, { s with cascade := { s.cascade with bad := s.cascade.bad + 1 } })
  else
    let seen := ((s.cascade.seen.find? fun e => e.1 == u.src).map (·.2)).getD []
    if u.src = s.priority ∨ seen.contains u.useq then (false, s)
    else
      let c := s.cascade
      let s := { s with cascade := { c with
        seen := (u.src, (u.useq :: seen).take 256) :: c.seen.filter (fun e => e.1 != u.src)
        reachable := (u.src, s.now) :: c.reachable.filter (fun e => e.1 != u.src) } }
      let s := if u.dst ≠ s.priority ∧ 0 < u.ttl ∧ s.cascUp (otherLink i) ∧ !s.hasTripped then
          s.sendOn (otherLink i) { u with ttl := u.ttl - 1 }
        else s
      (u.dst == s.priority || u.dst == 31, s)

/-- A CTRL unit body (Table 5.4). -/
def ctrlBody (kind chain frame wall : Nat) (rest : List Byte) : List Byte :=
  leBytes 1 kind ++ leBytes 1 chain ++ [0, 0] ++ leBytes 4 (frame % 2 ^ 32) ++ stamp10 wall ++ rest

/-- Send a CTRL unit. -/
def State.sendCtrl (s : State) (dst kind chain frame wall : Nat) (rest : List Byte) : State :=
  s.sendUnit 4 dst 0 0 (ctrlBody kind chain frame wall rest)

/-- Send a CTRL unit to the peer of a chain port. -/
def State.sendPeer (s : State) (p : Fin 2) (kind frame wall : Nat) (rest : List Byte) : State :=
  let dst := if s.ports[p].peer = 0 then 31 else s.ports[p].peer
  s.sendCtrl dst kind (s.chainNo p) frame wall rest

/-- Send a MGMT cascade unit: an operation byte and its data. The layout inside the body is the model's
(DESIGN CHOICE, log entry 38). -/
def State.sendMgmtUnit (s : State) (dst op : Nat) (data : List Byte) : State :=
  s.sendUnit 5 dst 0 0 (leBytes 1 op ++ data)

/-! ### Originating (R36, R120, R152, R165) -/

/-- The θ that this sender measures towards the control sender of a chain, 2^-16 ns (R181): that of the cascade link to
the peer. -/
def State.peerTheta (s : State) (p : Fin 2) : Int :=
  match (List.finRange 2).find? fun i => s.quartz.neighbour[i].priority == s.ports[p].peer && s.quartz.neighbour[i].up with
  | some i => s.quartz.neighbour[i].theta
  | none => 0

/-- A release waiting, in order of its time; equal times keep the order in which they came. -/
def addRelease (q : List (Nat × Cell)) (t : Nat) (c : Cell) : List (Nat × Cell) :=
  (q.takeWhile fun e => decide (e.1 ≤ t)) ++ [(t, c)] ++ q.dropWhile fun e => decide (e.1 ≤ t)

/-- Put a cell into the release list of a port. -/
def State.release (s : State) (p : Fin 2) (t : Nat) (c : Cell) : State :=
  s.withChain p fun x => { x with relays := addRelease x.relays t c }

/-- The ORIGIN of a port on a cell, its CRC computed for it (R24, R113). -/
def Cell.entering (c : Cell) (p : Fin 2) : Cell :=
  let h := c.header.toNat
  mkCell (h - bitAt (bit h 91) 91 + p.1 * 2 ^ 91) c.payload

/-- The control sender originates a cell for its chain: the next counter value, a release time RELAY_LEAD ahead, its own
copy at that time, and the peer's by a RELAY unit, as it is to leave the other port of the ring; a single sender releases both
copies itself (R36, R77, R120, R152, R165). A sender that sends HEALTH cells only originates nothing (R29, R37). -/
def State.originateAt (s : State) (p : Fin 2) (type dest tsw : Nat) (payload : List Byte) (t : Nat) : State :=
  if s.healthOnly p then s
  else
    let c := mkCell (header type p.1 0 s.ports[p].seq.toNat dest tsw) payload
    let s := s.withChain p fun x => { x with seq := x.seq + 1 }
    let s := s.release p t c
    if s.single then s.release (other p) t c
    else s.sendUnit 1 31 (s.chainNo p) t (c.entering (other p)).wire

/-- Originate a cell released RELAY_LEAD from now (R152). -/
def State.originateChain (s : State) (p : Fin 2) (type dest tsw : Nat) (payload : List Byte) : State :=
  s.originateAt p type dest tsw payload (s.quartz.wall + s.rdN (0x2300 + p) 0x04 * 1000 * subNs)

/-- A value is ahead of another in serial-number arithmetic, or equal. -/
def laterSeq (a b : BitVec 32) : BitVec 32 := if (b - a).toNat < 2 ^ 31 then b else a

/-- A cell joins its class's queue (Table 4.3). -/
def ChainPort.enqueue (x : ChainPort) (c : Cell) : ChainPort :=
  match c.type with
  | 3 => { x with qTiming := x.qTiming ++ [c] }
  | 8 => { x with qTiming := x.qTiming ++ [c] }
  | 5 => { x with qService := x.qService ++ [c] }
  | 1 => { x with qVideo := x.qVideo ++ [c] }
  | 2 => { x with qVideo := x.qVideo ++ [c] }
  | _ => { x with qMgmt := x.qMgmt ++ [c] }

/-- `RELAY_RELEASE`: at its named wall time the next released cell goes to the port's slots (R152), unless the sender sends
HEALTH cells only there (R29, R37). -/
def execRelayRelease (p : Fin 2) (s : State) : Out1 :=
  match s.ports[p].relays with
  | [] => .next s
  | (t, c) :: rest =>
    let s := s.untilWall t
    if s.healthOnly p then .next (s.withChain p fun x => { x with relays := rest })
    else .next (s.withChain p fun x => { (x.enqueue c) with relays := rest, released := laterSeq x.released c.count })

/-- A TIMING cell as it leaves: LAUNCH, on the control sender's scale (R182, R181). -/
def State.stampLaunch (s : State) (p : Fin 2) (c : Cell) : Cell :=
  let w := if s.ports[p].cstate.controls then (s.quartz.wall : Int) else s.quartz.wall + s.peerTheta p
  { c with payload := c.data.take 4 ++ stampBytes w.toNat ++ c.data.drop 16 }

/-- The cell that the next slot of a port carries, and the port after it (R119). Video keeps the slots that its 62 of 64
reserve for it, one slot of the window stays idle, and the others go to timing, management and service, in that
order; a class that its own limit holds back leaves the slot to the next one. -/
def ChainPort.nextCell (x : ChainPort) (sec : Nat) : Option Cell × ChainPort :=
  let left := 64 - x.slot
  let video := min (62 - x.slotVideo) x.qVideo.length
  let idle := if x.slotIdle = 0 then 1 else 0
  let room := decide (video + idle < left)
  let mgmtOk := x.mgmtSent.1 ≠ sec ∨ x.mgmtSent.2 < 2000000
  let mgmt := if mgmtOk then x.qMgmt else []
  let service := if x.slotService < 16 then x.qService else []
  if !room then videoOrIdle x
  else match x.qTiming, mgmt, service with
    | c :: cs, _, _ => (some c, { x with qTiming := cs })
    | [], c :: cs, _ =>
      (some c, { x with qMgmt := cs, mgmtSent := (sec, if x.mgmtSent.1 = sec then x.mgmtSent.2 + 1 else 1) })
    | [], [], c :: cs => (some c, { x with qService := cs, slotService := x.slotService + 1 })
    | [], [], [] => videoOrIdle x
where
  videoOrIdle (x : ChainPort) : Option Cell × ChainPort :=
    let idle := if x.slotIdle = 0 then 1 else 0
    match x.qVideo with
    | c :: cs =>
      if x.slotVideo < 62 ∧ x.slot + idle < 64 then (some c, { x with qVideo := cs, slotVideo := x.slotVideo + 1 })
      else (none, { x with slotIdle := x.slotIdle + 1 })
    | [] => (none, { x with slotIdle := x.slotIdle + 1 })

/-- Cell slots between two markers of a link: its lanes carry 20,480 blocks each, eight to a slot (R112). -/
def Link.slotsPerMarker (x : Link) : Nat := lanesIn x.txSet * 20480 / 8

/-- `CELL_SLOT_SCHEDULE`: the next cell slot of a chain port; windows of 64 count from the first slot after each marker, and after
the last slot the markers come next (R112, R119). A tripped sender sends only idle cells (R462). -/
def execCellSlotSchedule (p : Fin 2) (s : State) : Out1 :=
  let link := s.lanes.link[chainLink p]
  if !s.isSender ∨ !s.portUp p ∨ link.slotsPerMarker ≤ link.slots then .next s
  else if s.hasTripped then .next (s.sendCell p idleCell)
  else
    let s := if link.slots = 0 ∨ s.ports[p].slot = 64 then
        s.withChain p fun x => { x with slot := 0, slotVideo := 0, slotIdle := 0, slotService := 0 }
      else s
    let (c, x) := s.ports[p].nextCell s.wallSec
    let s := s.withChain p fun _ => { x with slot := x.slot + 1 }
    match c with
    | none => .next (s.sendCell p idleCell)
    | some c =>
      let c := if c.type = 3 then s.stampLaunch p c else c
      .next (s.sendCell p (c.entering p))

/-! ### Contexts and gateway transactions in flight -/

/-- The context of a source; the gateway has none of its own. -/
def State.ctx? (s : State) : CtxId → Option Ctx
  | .can ch => some s.control.can[ch]
  | .udp ch => some s.control.udp[ch].ctx
  | .host => some s.control.host
  | .gateway _ _ => none

/-- Change the context of a source. -/
def State.withCtx (s : State) (c : CtxId) (f : Ctx → Ctx) : State :=
  match c with
  | .can ch => { s with control := { s.control with can := vmod s.control.can ch f } }
  | .udp ch => { s with control := { s.control with udp := vmod s.control.udp ch fun u => { u with ctx := f u.ctx } } }
  | .host => { s with control := { s.control with host := f s.control.host } }
  | .gateway _ _ => s

/-- Change the control plane. -/
def State.withControl (s : State) (f : Control → Control) : State := { s with control := f s.control }

/-- The 8 bytes of an SDO abort (CiA 301). -/
def abortFrame (idx sub code : Nat) : List Byte := leBytes 1 0x80 ++ leBytes 2 idx ++ leBytes 1 sub ++ leBytes 4 code

/-- The datagram that carries an SDO answer on a UDP channel (R392). -/
def sdoDatagram (ch : Fin 8) (tag : Nat) (frame : List Byte) : List Byte :=
  leBytes 1 0x12 ++ leBytes 1 ch.1 ++ leBytes 2 tag ++ frame

/-- COB-ID of a PDO, 0x1400+n:01 or 0x1800+n:01: what was written, else the pre-defined one of the node ID in force, not enabled
(R388, R404). `n` is 0 for PDO 1. -/
def State.pdoCob (s : State) (tx : Bool) (n : Fin 4) : Nat :=
  match Sparse.find? s.od (key ((if tx then 0x1800 else 0x1400) + n) 0x01) with
  | some v => v.toInt.toNat
  | none => 2 ^ 31 + (if tx then 0x180 else 0x200) + 0x100 * n.1 + s.control.nodeId

/-- COB-ID of an SDO channel, as 0x1200+ch:01 (requests) or :02 (answers): what was written; for channel 1 the pre-defined one
of the node ID in force, for the others none (R388). -/
def State.sdoCob (s : State) (ch : Fin 4) (sub : Nat) : Nat :=
  match Sparse.find? s.od (key (0x1200 + ch) sub) with
  | some v => v.toInt.toNat
  | none => if ch = 0 then (if sub = 1 then 0x600 else 0x580) + s.control.nodeId else 0x80000000

/-- The CAN node serves SDO: it is configured, and in pre-operational or operational (R388, R390). -/
def State.canSdo (s : State) : Bool :=
  s.isSender && s.control.nodeId != 0xFF && (s.control.nmt == .preOperational || s.control.nmt == .operational)

/-- Answer a context with an SDO frame; a 64-byte frame is padded (R389, R393, R418). A device that is not running answers
nothing. -/
def State.answer (s : State) (c : CtxId) (wide : Bool) (frame : List Byte) : State :=
  let f := padTo (if wide then 64 else 8) frame
  if !s.up then s
  else match c with
  | .udp ch =>
    let u := s.control.udp[ch]
    let d := sdoDatagram ch (u.lastTag.getD 0) f
    let s := s.withControl fun k => { k with udp := vmod k.udp ch fun u => { u with lastResponse := d, busy := false } }
    match u.assoc with
    | some a => s.emit (.udp a.1 a.2 d)
    | none => s
  | .host =>
    s.withHost fun hp => { hp with
      sdoRsp := Vector.ofFn fun i : Fin 64 => byteAt f i.1
      rspLen := BitVec.ofNat 8 f.length
      rsltState := 2
      rsltSeq := BitVec.ofNat 16 (nextSeq hp.rsltSeq.toNat)
      sdoDone := true }
  | .can ch => if s.canSdo && !bit (s.sdoCob ch 2) 31 then s.emit (.can (s.sdoCob ch 2) f) else s
  | .gateway _ _ => s

/-- End a transfer with an abort. -/
def State.abortSdo (s : State) (c : CtxId) (wide : Bool) (idx sub code : Nat) : State :=
  (s.withCtx c fun x => { x with xfer := .idle }).answer c wide (abortFrame idx sub code)

end Sys2Proof.Machine
end

