-- ==== Sys2Proof/Machine/Gateway.lean ====
section
/-! DEFINITION. SDO responses (R389, CiA 301), and the gateway of a control sender to the tiles of its chains (R43, R397 to
R402). -/

namespace Sys2Proof.Machine

open Host

/-! ### SDO responses (R389, CiA 301) -/

/-- Command byte, index and sub-index of a response. -/
def sdoHead (cmd idx sub : Nat) : List Byte := leBytes 1 cmd ++ leBytes 2 idx ++ leBytes 1 sub

/-- Start an upload from a snapshot: expedited when it has 1 to 4 bytes, else segmented (CiA 301). -/
def State.startUpload (s : State) (c : CtxId) (wide : Bool) (idx sub : Nat) (d : List Byte) : State :=
  if d ≠ [] ∧ d.length ≤ 4 then
    (s.withCtx c fun x => { x with xfer := .idle }).answer c wide (sdoHead (0x43 + (4 - d.length) * 4) idx sub ++ padTo 4 d)
  else
    (s.withCtx c fun x => { x with xfer := .segUp idx sub d false wide }).answer c wide
      (sdoHead 0x41 idx sub ++ leBytes 4 d.length)

/-- Start a block upload from a snapshot. -/
def State.startBlockUpload (s : State) (c : CtxId) (wide : Bool) (idx sub blksize : Nat) (crc : Bool) (d : List Byte) :
    State :=
  (s.withCtx c fun x => { x with xfer := .blkUp idx sub d 0 blksize crc 0 wide }).answer c wide
    (sdoHead 0xC6 idx sub ++ leBytes 4 d.length)

/-! ### The window (R397) -/

/-- The tile's index behind an index of the window; none outside it. -/
def tileIndex (idx : Nat) : Option Nat :=
  if 0x4000 ≤ idx ∧ idx ≤ 0x53FF then some (idx - 0x2000)
  else if 0x5400 ≤ idx ∧ idx ≤ 0x54FF then some (idx - 0x4400)
  else none

/-- The window's index of a tile's index. -/
def windowIndex (idx : Nat) : Nat := if idx < 0x2000 then idx + 0x4400 else idx + 0x2000

/-! ### Transactions (R399, R400) -/

/-- A part of an MGMT transaction (Table 13.6). -/
def mgmtPart (op ctx prio idx sub abort length : Nat) (part : List Byte) : List Byte :=
  leBytes 1 1 ++ leBytes 1 op ++ leBytes 1 ctx ++ leBytes 1 prio ++ leBytes 2 idx ++ leBytes 1 sub ++ [0] ++
    leBytes 4 abort ++ leBytes 4 length ++ part

/-- Parts that data take, 224 bytes each; one for none. -/
def mgmtParts (len : Nat) : Nat := max 1 ((len + 223) / 224)

/-- TSW of a part of a transaction (Table 4.4). -/
def mgmtTsw (txn part parts : Nat) : Nat := txn % 65536 * 65536 + part * 256 + (parts - 1)

/-- CTX of a request: level, and the owner flag. -/
def ctxByte (level : Nat) (owner : Bool) : Nat := level + bitAt owner 4

/-- The control sender originates a transaction's cells. -/
def State.sendMgmt (s : State) (p : Fin 2) (dest op ctx idx sub txn : Nat) (data : List Byte) : State :=
  let n := mgmtParts data.length
  (List.range n).foldl (fun s k =>
    s.originateChain p 4 dest (mgmtTsw txn k n) (mgmtPart op ctx s.priority idx sub 0 data.length (slice data (224 * k) (min 224 (data.length - 224 * k))))) s

/-- Whether the end of a transaction answers with data read. -/
def GwKind.reads : GwKind → Bool
  | .upload | .blockUpload _ _ | .lamp | .slots => true
  | _ => false

/-- When an answer is overdue: GW_TIMEOUT after the release of a cell originated now. -/
def State.gwDue (s : State) (p : Fin 2) : Nat :=
  s.quartz.wall + (s.rdN (0x2300 + p) 0x04 + s.rdN 0x2210 0x03) * 1000 * subNs

/-- Send the cells of an open transaction. -/
def State.sendTx (s : State) (p : Fin 2) (g : GwTx) : State :=
  s.sendMgmt p g.station (if g.kind.reads then 1 else 2) (ctxByte g.level g.owner) g.index g.sub g.txn g.data

/-- Take the next TXN of a chain (R400). -/
def State.takeTxn (s : State) (p : Fin 2) : Nat × State :=
  (s.control.txn[p], s.withControl fun k => { k with txn := vset k.txn p ((k.txn[p] + 1) % 65536) })

/-- Open a transaction (R400). -/
def State.gwOpenTx (s : State) (p : Fin 2) (c : CtxId) (kind : GwKind) (level : Nat) (owner : Bool)
    (idx sub station : Nat) (data : List Byte) (wide : Bool) : State :=
  let (txn, s) := s.takeTxn p
  let g : GwTx := {
    port := p, txn := txn, ctx := c, kind := kind, level := level, owner := owner, index := idx, sub := sub,
    station := station, data := data, retries := s.rdN 0x2210 0x04, due := s.gwDue p, parts := [], total := 0, wide := wide }
  let s := s.withControl fun k => { k with gwOpen := k.gwOpen ++ [g] }
  (s.bump 0x2210 0x05 1).sendTx p g

/-- The control sender's own write to a tile (R250). It carries VENDOR level and the owner flag (DESIGN CHOICE, log entry 31). -/
def State.ownWrite (s : State) (p : Fin 2) (station idx sub : Nat) (data : List Byte) : State :=
  s.gwOpenTx p (.gateway 4 true) .own 4 true idx sub station data false

/-- The control sender reads T_LAMP and MAX_SLOTS from every station of a chain (R190, R274). -/
def State.readLamps (s : State) (p : Fin 2) : State :=
  let n := (s.rdD (0x2200 + p) 0x08).length / 12
  let s := { s with quartz := { s.quartz with
    tLamp := vset s.quartz.tLamp p 0
    maxSlots := vset s.quartz.maxSlots p 4
    transit := vset s.quartz.transit p none } }
  (List.range n).foldl (fun s i =>
    let station := field (s.rdD (0x2200 + p) 0x08) (12 * i + 6) 1
    let s := s.gwOpenTx p (.gateway 4 true) .lamp 4 true 0x2600 0x44 station [] false
    s.gwOpenTx p (.gateway 4 true) .slots 4 true 0x2900 0x0B station [] false) s

/-- The control sender writes TRANSIT to every station of a chain, where it differs from what they hold (R206). -/
def State.writeTransit (s : State) (p : Fin 2) (ns : Nat) : State :=
  if s.quartz.transit[p] = some ns then s
  else
    let s := { s with quartz := { s.quartz with transit := vset s.quartz.transit p (some ns) } }
    (List.range ((s.rdD (0x2200 + p) 0x08).length / 12)).foldl (fun s i =>
      s.gwOpenTx p (.gateway 4 true) .bases 4 true 0x2700 0x03 (field (s.rdD (0x2200 + p) 0x08) (12 * i + 6) 1) (leBytes 4 ns) false) s

/-- A broadcast write to every tile of a chain, answered by none (R401). -/
def State.broadcastWrite (s : State) (p : Fin 2) (idx sub : Nat) (data : List Byte) : State :=
  let (txn, s) := s.takeTxn p
  s.sendMgmt p 0xFFF 5 (ctxByte 4 true) idx sub txn data

/-- Drop a transaction from those open. -/
def State.gwClose (s : State) (p : Fin 2) (txn : Nat) : State :=
  s.withControl fun k => { k with gwOpen := k.gwOpen.filter fun g => !(g.port == p.1 && g.txn == txn) }

/-- A write of the control sender's own commit has ended: a station whose writes have all succeeded is named in COMMIT; one
of whose writes failed is not (R250). -/
def ChainCommit.ended (c : ChainCommit) (station : Nat) (ok : Bool) : ChainCommit :=
  match c.waiting.find? fun w => w.1 == station with
  | none => c
  | some w =>
    let rest := c.waiting.filter fun w => w.1 != station
    if !ok then { c with waiting := rest }
    else if w.2 ≤ 1 then { c with waiting := rest, stations := c.stations ++ [station] }
    else { c with waiting := (station, w.2 - 1) :: rest }

/-- A commit that a context has asked of a tile by COMMIT_FRAME is in force one frame after the one named, or three after the present
one; T_LAMP is read again then (R190; DEDUCED, log entry 37). -/
def State.commitAsked (s : State) (p : Fin 2) (g : GwTx) : State :=
  if g.index = 0x2880 ∧ g.sub = 2 ∧ !g.kind.reads then
    s.withChain p fun x => { x with lampsDue := some (max (field g.data 0 8) (s.quartz.frame + 2) + 1) }
  else s

/-- A BLEND_SPACE that a context has written to a tile is that of the wall: every control sender writes it to its tiles (R269; DEDUCED,
log entry 123). -/
def State.blendAsked (s : State) (g : GwTx) : State :=
  if g.index = 0x2900 ∧ g.sub = 1 ∧ !g.kind.reads then
    State.sendMgmtUnit { s with ingress := { s.ingress with blend := field g.data 0 1 } } 31 12 (g.data.take 1)
  else s

/-- Close a transaction with its outcome: abort code, 0 for success, and the data read. -/
def State.gwFinish (s : State) (p : Fin 2) (g : GwTx) (abort : Nat) (d : List Byte) : State :=
  let s := s.gwClose p g.txn
  let s := if abort = 0 then (s.commitAsked p g).blendAsked g else s
  let idx := windowIndex g.index
  match g.kind with
  | .own => { s with ingress := { s.ingress with commit := vmod s.ingress.commit p (·.map (·.ended g.station (abort == 0))) } }
  | .bases => s
  | .lamp =>
    if abort ≠ 0 then s
    else { s with quartz := { s.quartz with tLamp := vmod s.quartz.tLamp p fun t => max t (field d 0 4) } }
  | .slots =>
    if abort ≠ 0 then s
    else { s with quartz := { s.quartz with maxSlots := vmod s.quartz.maxSlots p fun m => min m (field d 0 1) } }
  | .plain => s.emit (.written g.ctx idx g.sub abort)
  | kind =>
    if abort ≠ 0 then s.abortSdo g.ctx g.wide idx g.sub abort
    else match kind with
      | .upload => s.startUpload g.ctx g.wide idx g.sub d
      | .blockUpload n crc => s.startBlockUpload g.ctx g.wide idx g.sub n crc d
      | .download (some t) =>
        (s.withCtx g.ctx fun x => { x with xfer := .idle }).answer g.ctx g.wide (leBytes 1 (0x20 + bitAt t 4))
      | .blockDownload => (s.withCtx g.ctx fun x => { x with xfer := .idle }).answer g.ctx g.wide (leBytes 1 0xA1)
      | _ => (s.withCtx g.ctx fun x => { x with xfer := .idle }).answer g.ctx g.wide (sdoHead 0x60 idx g.sub)

/-- Refuse every gateway request in flight on a port (R157). -/
def State.dropGateway (s : State) (p : Fin 2) (code : Nat) : State :=
  (s.control.gwOpen.filter fun g => g.port == p.1).foldl (fun s g => s.gwFinish p g code []) s

/-- The source of a context in an event's detail (R408). -/
def CtxId.source : CtxId → Nat
  | .can _ => 0
  | .udp _ => 1
  | .host => 2
  | .gateway _ _ => 3

/-- `GATEWAY_TIMEOUT`: no RESPONSE within GW_TIMEOUT: the transaction is sent again, or its access ends with
0x0504_0000 (R400). -/
def execGatewayTimeout (p : Fin 2) (txn : Nat) (s : State) : Out1 :=
  match s.control.gwOpen.find? fun g => g.port == p.1 && g.txn == txn with
  | none => .next s
  | some g =>
    let s := s.untilWall g.due
    if 0 < g.retries then
      let g' := { g with retries := g.retries - 1, due := s.gwDue p, parts := [] }
      let s := s.withControl fun k => { k with gwOpen := k.gwOpen.map fun x => if x = g then g' else x }
      .next (s.sendTx p g')
    else
      let s := (s.bump 0x2210 0x06 1).gwFinish p g abTimeout []
      .next (s.raise 0x1306 (det g.ctx.source g.station))

/-! ### What comes from tiles -/

/-- A cell of a tile: it carries DEST 0x000 (R120). -/
def Cell.ofTile (c : Cell) : Bool := c.dest == 0

/-- The window over a station's counter: whether a cell is new (R132). -/
def State.stationNew (s : State) (p : Fin 2) (c : Cell) : Bool × State :=
  let ws := s.ports[p].windows
  match judgeSeq ((ws.find? fun w => w.1 == c.station).map (·.2)) c.count with
  | .accept w => (true, s.withChain p fun x => { x with windows := (c.station, w) :: ws.filter fun w => w.1 != c.station })
  | _ => (false, s)

/-- Add a part to those gathered, once. -/
def addPart (parts : List (Nat × List Byte)) (k : Nat) (d : List Byte) : List (Nat × List Byte) :=
  if parts.any fun e => e.1 == k then parts else parts ++ [(k, d)]

/-- The data of a transaction whose parts are all there; none before. -/
def joinParts (parts : List (Nat × List Byte)) (n length : Nat) : Option (List Byte) :=
  if (List.range n).all fun k => parts.any fun e => e.1 == k then
    some (((List.range n).flatMap fun k => ((parts.find? fun e => e.1 == k).map (·.2)).getD []).take length)
  else none

/-- A RESPONSE for one of this sender's open transactions (R400). -/
def State.takeResponse (s : State) (p : Fin 2) (c : Cell) : State :=
  let b := c.data
  match s.control.gwOpen.find? fun g => g.port == p.1 && g.txn == c.tsw 31 16 && g.station == c.station with
  | none => s
  | some g =>
    if (byteAt b 3).toNat ≠ s.priority then s
    else
      let n := c.tsw 7 0 + 1
      let g' := { g with parts := addPart g.parts (c.tsw 15 8) (b.drop 16), total := n }
      let s := s.withControl fun k => { k with gwOpen := k.gwOpen.map fun x => if x = g then g' else x }
      match joinParts g'.parts n (field b 12 4) with
      | none => s
      | some d => s.gwFinish p g' (field b 8 4) d

/-- An EVENT of a tile: it joins TILE_EVENTS, and event 0x1301 or 0x1302 is raised at most EMCY_RATE times per second
(R402). -/
def State.takeTileEvent (s : State) (p : Fin 2) (c : Cell) : State :=
  let b := c.data
  let e : TileEvent := {
    chain := s.chainNo p, station := c.station, code := field b 16 2, detail := field b 18 4, sec := field b 22 6,
    ns := field b 28 4 }
  let full := decide (64 ≤ s.control.tileEvents.length)
  let s := if full then s.bump 0x2212 0x04 1 else s
  let s := s.withControl fun k => { k with tileEvents := (if full then k.tileEvents.drop 1 else k.tileEvents) ++ [e] }
  let recent := s.control.tileEmcyTimes.filter fun t => decide (s.now < t + second)
  if recent.length < s.rdN 0x2212 0x05 then
    let s := s.withControl fun k => { k with tileEmcyTimes := s.now :: recent }
    s.raise (0x1301 + p) (det e.station e.code)
  else s.withControl fun k => { k with tileEmcyTimes := recent }

/-- A good MGMT cell of a tile at a sender that controls its chain, new in its station's window. -/
def State.senderMgmt (s : State) (p : Fin 2) (c : Cell) : State :=
  if (byteAt c.data 0).toNat ≠ 1 then s
  else match (byteAt c.data 1).toNat with
    | 3 => s.takeResponse p c
    | 4 => s.takeTileEvent p c
    | _ => s

/-- A write of 1 to 0x2212:03 (R406). -/
def State.tileEventsClear (s : State) (v : Int) : Nat × State :=
  if v = 0 then (0, s) else (0, s.withControl fun k => { k with tileEvents := [] })

end Sys2Proof.Machine
end

