-- ==== Sys2Proof/Machine/Access.lean ====
section
/-! DEFINITION. Access contexts and the CAN node: their creation and return to the default level (R382, Table 13.2), reset
communication (R388, R390), PORT_RESET of the host port (R415), LOGIN, the owner's objects (R383 to R386), and the error
register's clearing (R391). -/

namespace Sys2Proof.Machine

open Host

/-! ### Contexts -/

/-- A context as created: at a level, with a CONTEXT_ID of its own (R382, R407). -/
def State.newCtx (s : State) (level : Nat) : Ctx × State :=
  (Ctx.fresh level s.control.nextCtxId s.now, s.withControl fun k => { k with nextCtxId := k.nextCtxId + 1 })

/-- The default level of a context (Table 13.2). -/
def State.defaultLevel (s : State) : CtxId → Nat
  | .can _ => s.rdN 0x3300 0x06
  | .udp _ => s.rdN 0x3300 0x07
  | .host => s.rdN 0x3300 0x08
  | .gateway l _ => l

/-- A context returns to its default level (R382). -/
def State.toDefault (s : State) (c : CtxId) : State :=
  let l := s.defaultLevel c
  s.withCtx c fun x => { x with level := l, owner := false }

/-- The level of a context, its owner flag included: the source's own, or what a gateway request carries (R382, R398). -/
def State.ctxLevel (s : State) : CtxId → Nat × Bool
  | .can ch => (s.control.can[ch].level, s.control.can[ch].owner)
  | .udp ch => (s.control.udp[ch].ctx.level, s.control.udp[ch].ctx.owner)
  | .host => (s.control.host.level, s.control.host.owner)
  | .gateway l o => (l, o)

/-- Forget the gateway transactions of a source that is created anew: their answers reach nobody. -/
def State.forgetGw (s : State) (p : CtxId → Bool) : State :=
  s.withControl fun k => { k with gwOpen := k.gwOpen.filter fun g => !p g.ctx }

/-! ### The CAN node (R388, R390) -/

/-- Send on CAN, unless the node is unconfigured (R388). -/
def State.canSend (s : State) (cobId : Nat) (data : List Byte) : State :=
  if s.role == .sender && s.control.nodeId != 0xFF then s.emit (.can cobId data) else s

/-- The NMT state as the heartbeat codes it (CiA 301). -/
def Nmt.code : Nmt → Nat
  | .initialising => 0 | .stopped => 4 | .operational => 5 | .preOperational => 127

/-- Restart the CAN node: its contexts are created anew, the node ID and the rate written take effect, the boot-up message
leaves, and the node enters pre-operational, or operational by itself (R388, R390). An unconfigured node stays
initialising and answers LSS alone (CiA 305). -/
def State.restartCan (s : State) : State :=
  let s := s.forgetGw fun c => match c with
    | .can _ => true
    | _ => false
  let s := (List.finRange 4).foldl (fun (s : State) (i : Fin 4) =>
    let (c, s) := s.newCtx (s.rdN 0x3300 0x06)
    s.withControl fun k => { k with can := vset k.can i c }) s
  let id := s.rdN 0x2003 0x01
  let s := s.withControl fun k => { k with
    nmt := .initialising
    nodeId := id
    arbRate := s.rdN 0x2003 0x02
    lss := Control.reset.lss
    hbLost := Control.reset.hbLost
    hbAt := s.now
    syncCount := Control.reset.syncCount
    tpdoAt := Control.reset.tpdoAt
    emcyQueue := []
    lastEmcy := none }
  if id = 0xFF then s
  else
    let s := s.canSend (0x700 + id) [0]
    s.withControl fun k => { k with nmt := if s.rdB 0x2003 0x05 then .operational else .preOperational }

/-! ### The host port (R415) -/

/-- What PORT_RESET and a warm reset do to the host port: HP_CFG stays, and a warm reset leaves HP_IRQ_EN too. -/
def State.resetHostPort (s : State) (keepEn : Bool) : State :=
  let s := s.forgetGw fun c => c == .host
  let s := s.withHost fun h => { h with
    irqEn := if keepEn then h.irqEn else 0
    sdoDone := false
    err := 0
    rsltState := 0
    rsltSeq := 0 }
  let (c, s) := s.newCtx (s.rdN 0x3300 0x08)
  s.withControl fun k => { k with host := c }

/-- `PORT_RESET`: the host master is reset too (R410, R415). -/
def execQspiPortReset (s : State) : Out1 :=
  if s.life = .inReset then .next s else .next ((s.resetHostPort false).masterReset hostMaster)

/-- What any reset of the device does to its access contexts (R382): UDP associations end, and each context is created
anew at its default level. -/
def State.restartAccess (s : State) : State :=
  let s := s.forgetGw fun _ => true
  let s := s.withControl fun k => { k with
    udp := k.udp.map fun u => { u with
      assoc := none
      lastTag := none
      lastResponse := []
      busy := false }
    gwPartials := [] }
  let s := (List.finRange 8).foldl (fun (s : State) (i : Fin 8) =>
    let (c, s) := s.newCtx (s.rdN 0x3300 0x07)
    s.withControl fun k => { k with udp := vmod k.udp i fun u => { u with ctx := c } }) s
  if s.role == .sender then s.restartCan else s

/-! ### LOGIN and the owner (R383 to R386) -/

/-- A read of CHALLENGE: a new nonce for the context (R383). A gateway context never reaches it (R398). -/
def State.challenge (s : State) (c : CtxId) : List Byte × State :=
  let (n, s) := s.nonce
  (beBytes 16 n.toNat, s.withCtx c fun x => { x with nonce := some (n, s.now) })

/-- Whether a context's nonce is valid now: 10 s from its issue (R383). -/
def Ctx.nonceNow (x : Ctx) (now : Nat) : Option (BitVec 128) :=
  match x.nonce with
  | some (n, t) => if now < t + 10 * second then some n else none
  | none => none

/-- Whether a proof stands (R383): an empty key accepts any proof of the right length. -/
def State.proofOk (s : State) (level : Nat) (msg proof : List Byte) : Bool :=
  let hmac (key : List Byte) : Bool := key.isEmpty || hmacSha256 key msg == proof
  match level with
  | 2 => proof.length == 32 && hmac (s.rdD 0x3300 0x09)
  | 3 => proof.length == 32 && hmac (s.rdD 0x3300 0x0A)
  | 4 => proof.length == 32 && hmac (beBytes 32 s.otp.vendorKey.toNat)
  | 8 => proof.length == 64 && (let k := s.rdD 0x3300 0x10
      k.isEmpty || ed25519Verify k proof msg)
  | _ => false

/-- Failures within the last 60 s, with the present one, and the lock-out that five of them begin (R384). -/
def failAgain (failures : List Nat) (now locked : Nat) : List Nat × Nat :=
  let f := now :: failures.filter fun t => decide (now < t + 60 * second)
  if 5 ≤ f.length then ([], now + 60 * second) else (f, locked)

/-- A failed LOGIN: the nonce has served (R383, R384). -/
def State.loginFails (s : State) (c : CtxId) (level : Nat) (locked : Bool) : Nat × State :=
  let s := s.bump 0x3300 0x0B 1
  let s := s.withCtx c fun x =>
    if locked then { x with nonce := none }
    else
      let (f, l) := failAgain x.failures s.now x.lockedUntil
      { x with failures := f, lockedUntil := l, nonce := none }
  (abCannot, s.raise 0x1303 (det c.source (level + if locked then 0x100 else 0)))

/-- A write of LOGIN (R383, R384). -/
def State.login (s : State) (c : CtxId) (b : List Byte) : Nat × State :=
  match s.ctx? c with
  | none => (abLevel, s)
  | some x =>
    let level := (byteAt b 0).toNat
    let want := if level = 1 then 1 else if level = 8 then 65 else 33
    if !([1, 2, 3, 4, 8].contains level) then (abRange, s)
    else if b.length ≠ want then (abLength, s)
    else if s.now < x.lockedUntil then s.loginFails c level true
    else if level = 1 then (0, s.withCtx c fun x => { x with level := 1, owner := false, nonce := none })
    else match x.nonceNow s.now with
      | none => s.loginFails c level false
      | some n =>
        let msg := beBytes 16 n.toNat ++ leBytes 4 x.id ++ leBytes 1 level
        if s.proofOk level msg (b.drop 1) then
          (0, s.withCtx c fun x => { x with
            level := if level = 8 then 3 else level
            owner := level == 8
            nonce := none })
        else s.loginFails c level false

/-- A write of LOGOUT (R382). -/
def State.logout (s : State) (c : CtxId) (v : Int) : Nat × State := if v = 0 then (0, s) else (0, s.toDefault c)

/-- A write of OWNER_KEY: a SERVICE context may write an empty one once; after that only an OWNER context (R385). -/
def State.ownerKeyWrite (s : State) (level : Nat) (owner : Bool) (b : List Byte) : Nat × State :=
  let empty := (s.rdD 0x3300 0x10).isEmpty
  if owner || (empty && 3 ≤ level) then (0, s.wrD 0x3300 0x10 b) else (abLevel, s)

/-- A write of OWNER_LOCK by an OWNER context (R386). -/
def State.ownerLockWrite (s : State) (c : CtxId) (owner : Bool) (v : Int) : Nat × State :=
  if !owner then (abLevel, s)
  else if v = s.rdI 0x3300 0x11 then (0, s)
  else (0, (s.wrI 0x3300 0x11 v).raise 0x1304 (det c.source v.toNat))

/-- `CHALLENGE_EXPIRY`: the nonce of a context lapses 10 s after it was issued (R383). -/
def execChallengeExpiry (c : CtxId) (s : State) : Out1 :=
  match (s.ctx? c).bind Ctx.nonce with
  | some (_, t) => .next ((s.until_ (t + 10 * second)).withCtx c fun x => { x with nonce := none })
  | none => .next s

/-- `LOGIN_LOCKOUT_END`: 60 s of refusing every LOGIN are over (R384). -/
def execLoginLockoutEnd (c : CtxId) (s : State) : Out1 :=
  match s.ctx? c with
  | some x =>
    if s.now < x.lockedUntil then .next ((s.until_ x.lockedUntil).withCtx c fun x => { x with failures := [], lockedUntil := 0 })
    else .next s
  | none => .next s

/-- `IDLE_LOGOUT_EXPIRY`: IDLE_LOGOUT seconds without a request (R382). -/
def execIdleLogoutExpiry (c : CtxId) (s : State) : Out1 :=
  match s.ctx? c with
  | some x => if s.up then .next ((s.until_ (x.lastRequest + s.rdN 0x3300 0x0C * second)).toDefault c) else .next s
  | none => .next s

/-! ### The error register and its history (R391) -/

/-- Clear classes of the error register; an EMCY 0x0000 follows when it returns to 0. -/
def State.clearErrors (s : State) (times : Vector (Option Nat) 3) : State :=
  let s := s.withControl fun k => { k with errTimes := times }
  let reg := errorRegister times
  let was := s.rdN 0x1001 0
  let s := s.wrN 0x1001 0 reg
  if was ≠ 0 ∧ reg = 0 then s.sendEmcy (List.replicate 8 0) else s

/-- `ERROR_CLASS_CLEAR`: 10 s after the last event of a class: 0 thermal, 1 link, 2 other (R391). -/
def execErrorClassClear (c : Fin 3) (s : State) : Out1 :=
  match s.control.errTimes[c] with
  | some t =>
    let s := s.until_ (t + 10 * second)
    .next (s.clearErrors (vset s.control.errTimes c none))
  | none => .next s

/-- A write of 0 to 0x1003:00 (R391). -/
def State.historyClear (s : State) (v : Int) : Nat × State :=
  if v ≠ 0 then (abRange, s)
  else (0, (s.withControl fun k => { k with history := [] }).clearErrors (Vector.replicate 3 none))

end Sys2Proof.Machine
end

