-- ==== Sys2Proof/Machine/RealMath.lean ====
section
/-! DEFINITION. Fixed-point logarithm and power, by which the built-in transfer tables of R267 are computed.
A fixed-point number x stands for x / 2^96. -/

namespace Sys2Proof.Machine

/-- Fraction bits of the fixed-point numbers. -/
def fxBits : Nat := 96

/-- One. -/
def fxOne : Nat := 2 ^ 96

/-- Fraction bits of the base-2 logarithm of a number from 1 to 2, most significant first, by repeated squaring. -/
def fxLogBits : Nat → Nat → Nat → Nat
  | 0, _, acc => acc
  | n + 1, x, acc =>
    let y := x * x / fxOne
    if 2 * fxOne ≤ y then fxLogBits n (y / 2) (2 * acc + 1) else fxLogBits n y (2 * acc)

/-- Base-2 logarithm of a positive fixed-point number, as a fixed-point integer. -/
def fxLog2 (x : Nat) : Int :=
  let e : Int := (Nat.log2 x : Int) - fxBits
  let m := if 0 ≤ e then x / 2 ^ e.toNat else x * 2 ^ (-e).toNat
  e * fxOne + fxLogBits fxBits m 0

/-- Two to the power of a fraction from 0 to 1, taking its bits from the top with successive square roots of 2. -/
def fxExpBits : Nat → Nat → Nat → Nat → Nat
  | 0, _, _, acc => acc
  | n + 1, f, root, acc =>
    let root := Nat.sqrt (root * fxOne)
    if f / 2 ^ n % 2 = 1 then fxExpBits n f root (acc * root / fxOne) else fxExpBits n f root acc

/-- Two to a fixed-point power. -/
def fxExp2 (p : Int) : Nat :=
  let e := p / fxOne
  let f := (p % fxOne).toNat
  let m := fxExpBits fxBits f (2 * fxOne) fxOne
  if 0 ≤ e then m * 2 ^ e.toNat else m / 2 ^ (-e).toNat

/-- A positive fixed-point number to the power num / den. -/
def fxPow (x num den : Nat) : Nat := if x = 0 then 0 else fxExp2 (fxLog2 x * num / den)

/-- Nearest integer to a fixed-point number times a scale, at most a limit. -/
def fxRound (x scale limit : Nat) : Nat := min limit ((x * scale + fxOne / 2) / fxOne)

end Sys2Proof.Machine
end

