-- ==== Sys2Proof/Machine/Pixel.lean ====
section
/-! DEFINITION. The colour chain of a tile, from scaled codes to the codes of the lamp staging memory
(R239 to R241, R262 to R293), and the start image (R480). -/

namespace Sys2Proof.Machine

/-- Bytes of flash; erased bytes read 0xFF. -/
def State.flash (s : State) (addr len : Nat) : List Byte :=
  (List.range len).map fun i => Sparse.get (fun _ => 0xFF) s.nvm.flash (addr + i)

/-! ### Range, matrix, transfer, gamut -/

/-- Black, white, chroma centre and chroma half-span (Table 9.2). -/
def rangeConst (fmt : Nat) (full : Bool) : Int × Int × Int × Int :=
  let twelve := fmt == 3
  if full then (0, 16380, if twelve then 8192 else 8200, 8190)
  else if twelve then (1024, 15040, 8192, 7168)
  else if fmt = 4 then (1028, 15096, 8200, 7174)
  else (1024, 15052, 8200, 7174)

/-- Decode coefficients KRC, KGB, KGR, KBC (Table 9.3). -/
def decodeCoef (colorimetry : Nat) : Int × Int × Int × Int :=
  if colorimetry = 0 then (25802, 3069, 7670, 30402) else (24160, 2696, 9361, 30825)

/-- Steps 2: codes of a pixel to N per component (R263, R264). -/
def rangeDecode (fmt colorimetry : Nat) (full : Bool) (codes : List Nat) : List Nat :=
  let (black, white, centre, half) := rangeConst fmt full
  let y (v : Int) : Int := (v - black) * 16384 / (white - black)
  let ch (v : Int) : Int := (v - centre) * 8192 / half
  let n (v : Int) : Nat := (clampI 0 16383 v).toNat
  let c (i : Nat) : Int := (codes.getD i 0 : Nat)
  if fmt = 5 then List.replicate 3 (n (y (c 0)))
  else if fmt = 0 ∨ fmt = 4 then [n (y (c 0)), n (y (c 1)), n (y (c 2))]
  else
    let (krc, kgb, kgr, kbc) := decodeCoef colorimetry
    let cb := ch (c 1)
    let cr := ch (c 2)
    [n (y (c 0) + (krc * cr + 8192) / 16384), n (y (c 0) - (kgb * cb + kgr * cr + 8192) / 16384),
     n (y (c 0) + (kbc * cb + 8192) / 16384)]

/-- Full scale of linear light (R265). -/
def linMax : Nat := 16777215

/-- Entry i of table 0, SDR: the nearest integer to v^2.4 × SDR_WHITE / TILE_PEAK × 16,777,215, at most that
(R267). The comparison (2e − 1) / 2 ≤ x is made exactly on fifth powers. -/
def sdrEntry (peak white i : Nat) : Nat :=
  let num := min 16383 (4 * i)
  let ok (e : Nat) : Bool :=
    e == 0 || decide ((2 * e - 1) ^ 5 * 16383 ^ 12 * peak ^ 5 ≤ 32 * num ^ 12 * (white * linMax) ^ 5)
  (List.range 25).foldl (fun e k =>
    let t := e + 2 ^ (24 - k)
    if t ≤ linMax ∧ ok t then t else e) 0

/-- v of entry i as a fixed-point number (R267). -/
def entryV (i : Nat) : Nat := min 16383 (4 * i) * fxOne / 16383

/-- Entry i of table 1: the EOTF of SMPTE ST 2084 over TILE_PEAK (R267). PRESUMED, log entry 61: the constants of ST 2084. -/
def pqEntry (peak i : Nat) : Nat :=
  let vp := fxPow (entryV i) 32 2523
  let top := vp - fxOne * 3424 / 4096
  let bottom := fxOne * 2413 / 128 - vp * 2392 / 128
  let l := fxPow (top * fxOne / bottom) 16384 2610
  fxRound (min fxOne (l * 10000 / peak)) linMax linMax

/-- Base-2 logarithms of e and of 10, as fixed-point numbers. -/
def fxLog2e : Int := 114302077158074026402637675936
/-- Base-2 logarithm of 10 as a fixed-point number. -/
def fxLog2of10 : Int := 263190258962436467100402834429

/-- Entry i of table 2: HLG (R267). PRESUMED, log entry 61: the constants a, b and c of ITU-R BT.2100. -/
def hlgEntry (peak i : Nat) : Nat :=
  let v := entryV i
  let lin :=
    if 2 * v ≤ fxOne then v * v / fxOne / 3
    else
      let x : Int := ((v : Int) - 55991073 * fxOne / 100000000) * 100000000 / 17883277
      (fxExp2 (x * fxLog2e / fxOne) + 28466892 * fxOne / 100000000) / 12
  let lw := min 1000 peak
  -- γ = 1.2 + 0.42 × log10(L_W / 1,000), in fixed point
  let g : Int := 12 * fxOne / 10 + fxLog2 (lw * fxOne / 1000) * fxOne / fxLog2of10 * 42 / 100
  let p := if lin = 0 then 0 else fxExp2 (fxLog2 (min fxOne lin) * g / fxOne)
  fxRound (min fxOne (p * lw / peak)) linMax linMax

/-- Entry i of a transfer table: tables 0 to 2 as built at this start, the others as loaded (R266, R267). -/
def State.tfEntry (s : State) (k i : Nat) : Nat :=
  let c := s.video.colour
  match k with
  | 0 => sdrEntry c.tilePeak c.sdrWhite i
  | 1 => pqEntry c.tilePeak i
  | 2 => hlgEntry c.tilePeak i
  | _ => bits (field (s.rdD (0x2920 + k) 0x01) (4 + 4 * i) 4) 23 0

/-- Step 3: N to linear light (R266). -/
def State.transfer (s : State) (k n : Nat) : Nat :=
  let i := n / 4
  let f := n % 4
  (s.tfEntry k i * (4 - f) + s.tfEntry k (i + 1) * f + 2) / 4

/-- Automatic gamut matrices, Q2.14, row-major (Table 9.5). -/
def gamutAuto (colorimetry blend : Nat) : List Int :=
  if colorimetry = 0 ∧ blend = 0 then [10279, 5395, 710, 1132, 15066, 186, 269, 1442, 14673]
  else if colorimetry ≠ 0 ∧ blend = 1 then [27206, -9628, -1194, -2041, 18562, -137, -297, -1648, 18329]
  else [16384, 0, 0, 0, 16384, 0, 0, 0, 16384]

/-- Step 4 (R270). -/
def gamut (m : List Int) (l : List Nat) : List Nat :=
  (List.range 3).map fun c =>
    (clampI 0 linMax ((((List.range 3).map fun i => m.getD (3 * c + i) 0 * (l.getD i 0 : Nat)).sum + 8192) / 16384)).toNat

/-- A 16-bit component of BACKGROUND or FILL_RGB at 24 bits (R241). -/
def expand24 (v : Nat) : Nat := v * 256 + v / 256

/-- The three components of a packed 48-bit colour, R first (Table 8.8). -/
def rgb48 (v : Nat) : List Nat := [expand24 (bits v 47 32), expand24 (bits v 31 16), expand24 (bits v 15 0)]

/-! ### Blending -/

/-- The effective alpha (R240). -/
def alphaEff (ap a : Nat) : Nat := (ap * a + 2047) / 4095

/-- Per-pixel alpha from a key code (R239). -/
def alphaFromKey (k14 range : Nat) : Nat :=
  let k := (k14 + 2) / 4
  if range = 0 then min 4095 k
  else (clampI 0 4095 ((((k : Int) - 256) * 4787 + 2048) / 4096)).toNat

/-- Blend one component, straight or premultiplied (R241). -/
def blend1 (pre : Bool) (a ae cl cb : Nat) : Nat :=
  if pre then min linMax ((cl * a + cb * (4095 - ae) + 2047) / 4095)
  else (cl * ae + cb * (4095 - ae) + 2047) / 4095

/-- What a composition cannot read of one frame buffer (R219, R256). -/
def badOf (bad : Damage) (layer region : Nat) : BadCells :=
  { words := (bad.words.filter fun w => w.layer == layer && w.region == region).map fun w => (w.cell, w.word)
    pixels := (bad.lines.filter fun l => l.1 == layer && l.2.1 == region).map fun l => l.2.2 }

/-- A binding covers a tile pixel; then its region output column and line (R225). -/
def LayerBind.at (b : LayerBind) (t l : Nat) : Option (Nat × Nat) :=
  let x := (t : Int) + b.xOff
  let y := (l : Int) + b.yOff
  if 0 ≤ x ∧ x < b.dstW ∧ 0 ≤ y ∧ y < b.dstH then some (x.toNat, y.toNat) else none

/-- The sample that stands for a layer's fallback fill in a component of a binding (R220). DESIGN CHOICE, log entry 108. -/
def fillCode (g : Gen) (n : Nat) (binding : List Byte) (comp : Nat) : Nat :=
  (Config.fillSample (g.rdN (0x2800 + n) 0x0C) binding comp).toNat

/-- Scaled codes of a layer at a region output position, from its current frame (R227 to R229); none where nothing but
substituted samples without a sound line above weighs in, so that the position shows the fill (R220, log entry 108). -/
def State.layerCodes (s : State) (g : Gen) (bad : Damage) (n k : Nat) (f : LayerFrame) (x y comps : Nat) :
    Option (List Nat) :=
  let bytes := f.binds.getD k []
  let b := bindOf bytes
  match f.bufs.find? fun u => u.region == b.region with
  | none => none
  | some buf =>
    let hs := s.rdD (0x2850 + g.rdN (0x2800 + n) 0x03) 0x01
    let vs := s.rdD (0x2850 + g.rdN (0x2800 + n) 0x04) 0x01
    let cs := (List.range comps).map fun c =>
      (fillCode g n bytes c, scaleAt hs vs buf (badOf bad n b.region) b (fillCode g n bytes c) c x y)
    if cs.all fun c => c.2.isNone then none else some (cs.map fun c => c.2.getD (4 * c.1))

/-- Steps 1 to 4 of a layer at a region output position (Table 9.1). -/
def State.layerLinear (s : State) (g : Gen) (bad : Damage) (n k : Nat) (f : LayerFrame) (x y : Nat) :
    Option (List Nat) :=
  let b := bindOf (f.binds.getD k [])
  match s.layerCodes g bad n k f x y (if b.fmt = 5 then 1 else 3) with
  | none => none
  | some codes =>
    let ns := rangeDecode b.fmt b.colorimetry (g.rdN (0x2910 + n) 0x01 == 1) codes
    let lin := ns.map (s.transfer (tfOf (g.rdN (0x2910 + n) 0x02) b.tcs))
    let custom := g.rdD (0x2910 + n) 0x04
    let m := if g.rdN (0x2910 + n) 0x03 = 1 then (List.range 9).map fun i => sfield custom (2 * i) 2
      else gamutAuto b.colorimetry (g.rdN 0x2900 0x01)
    some (gamut m lin)

/-- Blend the fallback fill of a layer over a pixel (R237, R241). -/
def fillOver (g : Gen) (n : Nat) (acc : List Nat) : List Nat :=
  let ae := alphaEff (g.rdN (0x2800 + n) 0x0D) (g.rdN (0x2800 + n) 0x07)
  List.zipWith (fun cl cb => blend1 false 0 ae cl cb) (rgb48 (g.rdN (0x2800 + n) 0x0C)) acc

/-- Per-pixel alpha of a layer, from its matte where it has one (R239); none where the matte holds no frame. A key whose
samples are all lost is that of the matte's fallback fill (R220, log entry 108). -/
def State.pixelAlpha (s : State) (g : Gen) (bad : Damage) (n k t l : Nat) : Option Nat :=
  if g.alpha n = 1 ∨ g.alpha n = 2 then
    let m := g.matte n
    match s.video.store.current[m]?.getD none with
    | none => none
    | some f =>
      let bytes := f.binds.getD k []
      match (bindOf bytes).at t l with
      | none => some 0
      | some (x, y) =>
        let codes := (s.layerCodes g bad m k f x y 1).getD [4 * fillCode g m bytes 0]
        some (alphaFromKey (codes.headD 0) (g.rdN (0x2800 + n) 0x08))
  else some 4095

/-- One layer over a pixel (R239 to R241, R243). -/
def State.blendLayer (s : State) (g : Gen) (bad : Damage) (k t l : Nat) (acc : List Nat) (n : Nat) : List Nat :=
  if g.alpha n = 3 then acc
  else match s.video.compose.shown[n]?.getD .absent with
    | .absent => acc
    | .fill =>
      let b := g.bind n k
      if g.enabled n && b.valid && b.geomOk && (b.at t l).isSome then fillOver g n acc else acc
    | _ =>
      match s.video.store.current[n]?.getD none with
      | none => acc
      | some f =>
        let b := bindOf (f.binds.getD k [])
        if !b.valid || ((g.scaler[n]?).getD none).isNone then acc
        else match b.at t l with
          | none => acc
          | some (x, y) =>
            match s.layerLinear g bad n k f x y, s.pixelAlpha g bad n k t l with
            | some c, some ap =>
              let a := g.rdN (0x2800 + n) 0x07
              let ae := alphaEff ap a
              List.zipWith (fun cl cb => blend1 (g.alpha n == 2) a ae cl cb) c acc
            | _, _ => fillOver g n acc

/-- The blended pixel of slot k at a tile position (R241). -/
def State.blendPixel (s : State) (g : Gen) (bad : Damage) (k t l : Nat) : List Nat :=
  (List.range 8).foldl (s.blendLayer g bad k t l) (rgb48 (g.rdN 0x2880 0x0B))

/-! ### The start image -/

/-- The start image area of flash (Table 17.1). -/
def startArea : Nat := 0x0100000

/-- A start image is valid (R480). -/
def startOk (b : List Byte) : Bool :=
  let w := field b 8 2
  let h := field b 10 2
  let n := 64 + 6 * w * h
  field b 0 4 == 0x5354494D && field b 4 2 == 1 && (byteAt b 6).toNat ≤ 1 && byteAt b 7 == 0 &&
    ((byteAt b 6).toNat == 1 || (w == 0 && h == 0)) && field b 18 2 ≤ 4096 &&
    ((b.drop 20).take 44).all (· == 0) && n + 4 ≤ 0x300000 && field b n 4 == crc32Nat (b.take n)

/-- The bytes of the start image, as long as its own header says. -/
def State.startBytes (s : State) : List Byte :=
  let w := field (s.flash startArea 64) 8 2
  let h := field (s.flash startArea 64) 10 2
  s.flash startArea (68 + 6 * w * h)

/-- A pixel of the start image at 24 bits (R480). -/
def startPixel (b : List Byte) (t l : Nat) : List Nat :=
  let w := field b 8 2
  let h := field b 10 2
  let off := if (byteAt b 6).toNat = 1 ∧ t < w ∧ l < h then 64 + 6 * (l * w + t) else 12
  [expand24 (field b off 2), expand24 (field b (off + 2) 2), expand24 (field b (off + 4) 2)]

/-! ### Per-lamp stages -/

/-- Primaries of a correction image (Table 9.6). -/
def corrP (img : List Byte) : Nat := (byteAt img 6).toNat

/-- A coefficient of a correction image (R277). -/
def corrCoef (img : List Byte) (damaged : List Nat) (j i x y : Nat) : Int :=
  let p := corrP img
  let at_ := 3 * p * (y * field img 8 2 + x) + 3 * j + i
  let d := if damaged.contains (at_ / 4) then 0 else (byteAt img (128 + at_)).toInt
  clampI (-32768) 32767 (sfield img (16 + 2 * (3 * j + i)) 2 + d * 2 ^ (byteAt img (40 + 3 * j + i)).toNat)

/-- Step 6: the lamp value of a primary (R277). -/
def lampValue (img : Option (List Byte)) (damaged : List Nat) (j x y : Nat) (c : List Nat) : Nat :=
  let coef (i : Nat) : Int :=
    match img with
    | some b => corrCoef b damaged j i x y
    | none => if i = j then 16384 else 0
  (clampI 0 linMax ((((List.range 3).map fun i => coef i * (c.getD i 0 : Nat)).sum + 8192) / 16384)).toNat

/-- The correction image that a row uses: below the watermark of a load the new one, else the old (R279). -/
def State.rowImage (s : State) (y : Nat) : Option (List Byte) :=
  match s.video.colour.load with
  | some l => if y < s.rdN 0x2930 0x08 then some l.bytes else s.video.colour.corr
  | none => s.video.colour.corr

/-- Step 7 (R283). -/
def driftValue (v gain : Nat) : Nat := min linMax ((v * gain + 8192) / 16384)

/-- Step 8 (R286). -/
def brightValue (v g : Nat) : Nat := (v * g + 2 ^ 23) / 2 ^ 24

/-- The ordered matrix M of size 2^n (R290). -/
def ditherM : Nat → Nat → Nat → Nat
  | 0, _, _ => 0
  | n + 1, y, x =>
    let q := match y / 2 ^ n % 2, x / 2 ^ n % 2 with
      | 0, 0 => 0
      | 0, _ => 2
      | _, 0 => 3
      | _, _ => 1
    4 * ditherM n (y % 2 ^ n) (x % 2 ^ n) + q

/-- Reverse four bits. -/
def rev4 (v : Nat) : Nat := bitAt (bit v 0) 3 + bitAt (bit v 1) 2 + bitAt (bit v 2) 1 + bitAt (bit v 3) 0

/-- Step 9: the code of a lamp value (R290). -/
def ditherCode (on : Bool) (grey frame slots k j xw yw v : Nat) : Nat :=
  let r := 24 - grey
  let phi := (frame * slots + k) % 16
  let sx := (xw + 4 * j + 7 * phi) % 16
  let sy := (yw + 8 * j + 11 * phi) % 16
  let i := ditherM 4 sy sx * 16 + rev4 phi
  let t := if on then i / 2 ^ (12 - r) else 0
  min (2 ^ grey - 1) ((v + t) / 2 ^ r)

/-- The grey ceiling of a code (R292). -/
def greyCeil (maxGrey grey : Nat) : Nat := maxGrey * (2 ^ grey - 1) / 65535

/-- The scale of a bank from the sum of its clamped codes (R292). -/
def bankScale (maxAvg lamps grey sum : Nat) : Nat :=
  let a := maxAvg * lamps * (2 ^ grey - 1) / 65535
  if a < sum then 65536 * a / sum else 65536

/-- A code as a port engine reads it (R292). -/
def Bank.read (b : Bank) (p n : Nat) : Nat :=
  ((b.codes[p]?).getD []).getD n 0 * (b.scale[p]?).getD 65536 / 65536

/-- What composes a slot: layers, or the start image with its own BRIGHTNESS, or nothing but darkness. -/
inductive SlotSource where
  | layers
  | start (bytes : List Byte)
  | dark
  deriving DecidableEq, Repr

/-- The codes of a port in canonical order before the grey ceiling (R272, steps 1 to 9). -/
def State.portCodes (s : State) (g : Gen) (bad : Damage) (src : SlotSource) (frame slots k : Nat) (p : Fin 64) :
    List Nat :=
  let (x0, y0, w, h) := g.rect p
  let prims := g.prims
  let origin := g.rdN 0x2900 0x05
  let gains := match src with
    | .layers => s.video.colour.gainLatched[p]
    | _ => Vector.replicate 4 16384
  let gain := match src with
    | .start b => field b 18 2 * min (s.rdN 0x2900 0x08) (s.rdN 0x2900 0x09)
    | _ => s.rdN 0x2900 0x0A
  (List.range (w * h * prims)).map fun n =>
    let x := x0 + n / prims % w
    let y := y0 + n / prims / w
    let j := n % prims
    match src with
    | .dark => 0
    | _ =>
      let c := match src with
        | .start b => startPixel b x y
        | _ => s.blendPixel g bad k x y
      let v := lampValue (s.rowImage y) s.video.colour.damaged j x y c
      let v := brightValue (driftValue v ((gains[j]?).getD 16384)) gain
      ditherCode (g.rdN 0x2900 0x06 == 1) (g.grey p) frame slots k j (bits origin 23 0 + x) (bits origin 55 32 + y) v

end Sys2Proof.Machine
end

