-- ==== Sys2Proof/Machine/FrameStore.lean ====
section
/-! DEFINITION. A tile's frame store at work: acceptance of video cells (R117, R131, R203 to R207), and the closing of
a frame with its readiness, policies and derates (R206 to R209, R242 to R245, R253, R284, R286 to R288). -/

namespace Sys2Proof.Machine

/-! ### Accepting cells -/

/-- The frame that a FRAME field names among the open fill buffers, and whether its cells go to the early store. -/
def State.openFrame (s : State) (f8 : Nat) : Option (Nat × Bool) :=
  match s.video.store.filling with
  | none => none
  | some f =>
    if f < s.quartz.frame ∧ s.quartz.frame % 256 = f8 then some (s.quartz.frame, true)
    else if f % 256 = f8 then some (f, false)
    else none

/-- Where a layer needs a cell (R131). -/
def Gen.wants (g : Gen) (n : Nat) (bufs : List FrameBuf) (c : Cell) : Option Nat :=
  let slate := c.type == 2
  match bufs.find? fun b => b.region == c.stream with
  | none => none
  | some b =>
    if b.slate != slate || (slate && c.line % 2 == 1) ||
        !(g.binds n).any fun p => p.2.region == c.stream && p.2.fmt == c.fmt then none
    else b.offset c.line c.seg

/-- A cell is already held for a layer. -/
def State.holds (s : State) (n : Fin 8) (early : Bool) (region off : Nat) (c : Cell) : Bool :=
  if early then
    s.video.store.early.any fun e => e.layer == n.1 && e.region == region && e.row == c.line && e.seg == c.seg
  else s.video.store.fill[n].any fun b => b.region == region && (Sparse.find? b.cells off).isSome

/-- Write a cell into its place in a list of buffers. -/
def placeCell (bufs : List FrameBuf) (region off : Nat) (payload : List Byte) : List FrameBuf :=
  bufs.map fun b => if b.region = region then { b with cells := Sparse.insert b.cells off payload } else b

/-- Store a cell for a layer, in place or at the tail of the early store (R207). -/
def State.storeCell (s : State) (n : Fin 8) (frame : Nat) (early : Bool) (off : Nat) (c : Cell) : State :=
  let st := s.video.store
  if !early then s.withStore fun st => { st with fill := vmod st.fill n fun b => placeCell b c.stream off c.data }
  else if st.early.length < 4096 then
    let s := s.withStore fun st => { st with
      early := st.early ++ [{ frame := frame, layer := n, region := c.stream, row := c.line, seg := c.seg, payload := c.data }] }
    s.wrN 0x2700 0x04 (max (s.rdN 0x2700 0x04) (sat 0xFFFF s.video.store.early.length))
  else (s.bump 0x2700 0x05 1).raiseLimited 0x5204 0 second fun k => det n (sat 0xFFFF k)

/-- Count the Slate blocks of an accepted cell by MODE, and the invalid ones (R217, R221, R222). -/
def State.countSlate (s : State) (n : Nat) (c : Cell) : State :=
  let blocks := (List.range 8).map (slateBlock c.data)
  let s := blocks.foldl (fun s b => s.bump 0x2700 (0x09 + slateMode b) 1) s
  let bad := (blocks.filter fun b => (slateDecode c.fmt b).isNone).length
  let s := if bad = 0 then s else (s.bump 0x2700 0x0D bad).raiseLimited 0x5202 0 second fun _ => det n c.stream
  if blocks.any fun b => slateMode b == 3 then s.raiseLimited 0x5205 c.stream second fun _ => det n c.stream else s

/-- Take a good video cell at a tile in full mode (R131, in the order that its counters give). -/
def State.acceptVideo (s : State) (port : Fin 2) (c : Cell) : State :=
  match s.openFrame c.frame with
  | none => s.bump 0x2200 0x18 1
  | some (f, early) =>
    let g := (s.genFor f).getD Gen.none_
    if !s.accepts g.groups c.dest then s
    else if g.mapGen ≠ c.tsw 31 24 then
      (s.bump 0x2200 0x1A 1).raiseLimited 0x3107 0 second fun _ => s.chainDetail port (c.tsw 31 24)
    else
      let wanted := (List.finRange 8).filterMap fun (n : Fin 8) =>
        ((g.wants n (if early then g.bufs n else s.video.store.fill[n]) c).map fun off => (n, off) : Option (Fin 8 × Nat))
      if wanted.isEmpty then s.bump 0x2200 0x19 1
      else
        let fresh := wanted.filter fun w => !s.holds w.1 early c.stream w.2 c
        match fresh with
        | [] => s.bump 0x2200 0x17 1
        | w :: _ =>
          let t := fresh.foldl (fun s w => s.storeCell w.1 f early w.2 c) s
          if c.type = 2 ∧ fresh.any (fun w => t.holds w.1 early c.stream w.2 c) then t.countSlate w.1 c else t

/-! ### Opening and closing a frame -/

/-- Open the fill buffer of a frame, and write its early cells into place, oldest first (R207, R208). -/
def State.openFill (s : State) (f : Nat) : State :=
  let g := (s.genFor f).getD Gen.none_
  let empty : Vector (List FrameBuf) 8 := Vector.ofFn fun n => g.bufs n
  let mine := s.video.store.early.filter fun e => e.frame == f
  let filled := mine.foldl (fun (v : Vector (List FrameBuf) 8) e =>
    if h : e.layer < 8 then
      match (v[e.layer]).find? fun b => b.region == e.region with
      | some b => match b.offset e.row e.seg with
        | some off => vmod v ⟨e.layer, h⟩ fun bs => placeCell bs e.region off e.payload
        | none => v
      | none => v
    else v) empty
  s.withStore fun st => { st with
    filling := some f, fill := filled, early := st.early.filter fun e => decide (f < e.frame) }

/-- Cells still missing of a layer (R206). -/
def State.missing (s : State) (n : Fin 8) : Nat :=
  (s.video.store.fill[n].map fun b => b.slots - b.cells.length).sum

/-- A layer is ready by itself (R242). -/
def State.ready (s : State) (g : Gen) (n : Fin 8) : Bool := decide (s.missing n ≤ g.rdN (0x2800 + n) 0x0B)

/-- The matte layer of a fill layer (R244). -/
def Gen.matteOf (g : Gen) (n : Fin 8) : Option (Fin 8) :=
  let m := g.matte n
  if h : m < 8 then
    if g.shows n && (g.alpha n == 1 || g.alpha n == 2) && g.shows m && g.alpha m == 3 && m != n.1 then some ⟨m, h⟩ else none
  else none

/-- The fill layers that name a layer as their matte. -/
def Gen.fillsOf (g : Gen) (m : Fin 8) : List (Fin 8) := (List.finRange 8).filter fun n => g.matteOf n == some m

/-- A layer is ready, judged with its unit (R244). -/
def State.unitReady (s : State) (g : Gen) (n : Fin 8) : Bool :=
  match g.matteOf n with
  | some m => s.ready g m && (g.fillsOf m).all (s.ready g)
  | none => s.ready g n && (g.fillsOf n).all (s.ready g)

/-- What a layer does in a frame: what it shows, its REPEAT_RUN, and the cause of event 0x5104 (0 none). -/
structure Verdict where
  shown : Shown
  run : Nat
  cause : Nat
  deriving DecidableEq, Repr

/-- The verdict on a layer that is not a matte (R243, Table 8.5). A refused layer without a previous configuration shows
its fill for want of a current frame (R237, R245; DEDUCED, log entry 109). -/
def State.verdict1 (s : State) (g : Gen) (n : Fin 8) : Verdict :=
  if !g.shows n then { shown := .absent, run := 0, cause := 0 }
  else if g.filled[n] then { shown := .fill, run := 0, cause := 3 }
  else if s.unitReady g n then { shown := if s.missing n = 0 then .fresh else .substituted, run := 0, cause := 0 }
  else
    let idx := 0x2800 + n.1
    let run := min 255 (s.rdN idx 0x25 + 1)
    let cur := s.video.store.current[n].isSome &&
      (match g.matteOf n with
       | some m => s.video.store.current[m].isSome
       | none => true)
    match g.rdN idx 0x09 with
    | 0 => if run ≤ g.rdN idx 0x0A ∧ cur then { shown := .repeated, run := run, cause := 0 }
      else { shown := .fill, run := run, cause := if cur then 1 else 3 }
    | 1 => { shown := .fill, run := run, cause := 2 }
    | _ => { shown := .absent, run := run, cause := 0 }

/-- The verdict on a layer (R243, R244): a matte follows its fill layers. -/
def State.verdict (s : State) (g : Gen) (n : Fin 8) : Verdict :=
  match g.fillsOf n with
  | [] => s.verdict1 g n
  | f :: fs =>
    if s.unitReady g n && !g.filled[n] then
      { shown := if s.missing n = 0 then .fresh else .substituted, run := 0, cause := 0 }
    else
      let vs := (f :: fs).map (s.verdict1 g)
      (vs.find? fun v => v.shown == .repeated).getD (s.verdict1 g f)

/-- SHOWN of Table 8.8. -/
def Shown.code : Shown → Nat
  | .fresh => 0 | .substituted => 1 | .repeated => 2 | .fill => 3 | .absent => 4

/-- A layer that shows the frame that closes takes it as its current frame (R208, R242). -/
def State.takeCurrent (s : State) (g : Gen) (f : Nat) (n : Fin 8) (v : Verdict) : State :=
  if v.shown = .fresh ∨ v.shown = .substituted then
    let cur : LayerFrame :=
      { frame := f, bufs := s.video.store.fill[n], binds := (List.range 4).map fun k => g.rdD (0x2800 + n) (0x10 + k) }
    s.withStore fun st => { st with current := vset st.current n (some cur) }
  else s

/-- Apply a verdict: the current frame, SHOWN, REPEAT_RUN, the counters and the events (R208, R243, R245, R257). -/
def State.applyVerdict (s : State) (g : Gen) (f : Nat) (n : Fin 8) (v : Verdict) : State :=
  let idx := 0x2800 + n.1
  let before := s.video.compose.shown[n]
  let s := s.takeCurrent g f n v
  let s := (s.wrN idx 0x24 v.shown.code).wrN idx 0x25 v.run
  let s := s.withCompose fun c => { c with shown := vset c.shown n v.shown }
  if !g.shows n then s
  else
    match v.shown with
    | .fresh | .substituted => s.bump idx 0x26 1
    | .repeated =>
      let s := s.bump idx 0x27 1
      if before = .repeated then s else s.raiseLimited 0x5103 n.1 second fun _ => det n (g.rdN idx 0x0A)
    | .fill =>
      let s := s.bump idx 0x28 1
      if before = .fill ∨ v.cause = 0 then s else s.raiseLimited 0x5104 n.1 second fun _ => det n v.cause
    | .absent => s.bump idx 0x28 1

/-- Move a derate factor towards its target within the step limits (R287, R288). -/
def derateStep (now target down up : Nat) : Nat :=
  if target < now then max target (now - down) else min target (now + up)

/-- The derates, the gain g and the drift gains of a frame, latched at its close (R284, R286 to R288). -/
def State.latchGains (s : State) (g : Gen) (f : Nat) : State :=
  let own := derateStep (s.rdN 0x2900 0x08) (s.rdN 0x2E00 0x07) (s.rdN 0x2900 0x0C) (s.rdN 0x2900 0x0D)
  let wall := match s.video.colour.wall.find? fun w => decide (w.2 ≤ f) with
    | some w => w.1
    | none => s.rdN 0x2900 0x09
  let s := (s.wrN 0x2900 0x08 own).wrN 0x2900 0x09 wall
  let s := s.wrN 0x2900 0x0A (g.rdN 0x2900 0x04 * min own wall)
  s.withColour fun c => { c with gainLatched := c.gain }

/-- A tile begins to present composed slots (R253). -/
def State.present (s : State) : State :=
  (s.wrN 0x2880 0x0D 1).withCompose fun c => { c with held := .recompose, firstReady := none }

/-- The readiness of a frame at its close, and the first presentation (R242 to R245, R253). -/
def State.judge (s : State) (g : Gen) (f : Nat) : State :=
  let vs := (List.finRange 8).map fun n => (n, s.verdict g n)
  let bound := (List.finRange 8).filter fun (n : Fin 8) => g.shows n
  let readyNow := bound.filter fun n => s.unitReady g n
  let s := vs.foldl (fun s v => s.applyVerdict g f v.1 v.2) s
  if s.rdN 0x2880 0x0D = 1 then s
  else
    let first := match s.video.compose.firstReady with
      | some x => some x
      | none => if readyNow.isEmpty then none else some f
    let s := s.withCompose fun c => { c with firstReady := first }
    let waited := match first with
      | some x => decide (x + s.rdN 0x2880 0x0C ≤ f)
      | none => false
    if (s.genFor f).isSome && (readyNow.length == bound.length || waited) then s.present else s

/-- While the held frame is presented the buffers are assigned all the same (R208). -/
def State.keepFrames (s : State) (g : Gen) (f : Nat) : State :=
  ((List.finRange 8).map fun n => (n, s.verdict g n)).foldl (fun s v => s.takeCurrent g f v.1 v.2) s

/-- MISSING_Ln of every layer at T_close (R206). -/
def State.countMissing (s : State) : State :=
  (List.finRange 8).foldl (fun s (n : Fin 8) => s.wrN 0x2700 (0x18 + n) (s.missing n)) s

/-- The held frame is presented whatever the layers hold: no end is alive, the tile only repeats, or it waits for the
frame boundary at which it steps its time (R140, R163, R185). -/
def State.keepsHeld (s : State) : Bool := s.feedLost || s.repeatOnly || s.quartz.servo.stepAtFrame.isSome

/-! ### The correction image of a frame (R279) -/

/-- Flash address of a correction image (Table 17.1). -/
def corrArea (i : Nat) : Nat := 0x0400000 + 0x0400000 * (i % 2)

/-- The bytes of a correction image, as long as its own header says, within its area. -/
def State.corrBytes (s : State) (i : Nat) : List Byte :=
  let n := field (s.flash (corrArea i) 16) 12 4
  s.flash (corrArea i) (min (132 + n) 0x400000)

/-- CORR_SELECT "none" takes effect for every row at once (R279, R283). -/
def State.dropCorr (s : State) : State :=
  let s := s.withColour fun c => { c with
    corr := none, load := none, damaged := [], rereads := []
    gain := Vector.replicate 64 (Vector.replicate 4 16384) }
  (s.wrN 0x2930 0x02 2).wrN 0x2930 0x09 0

/-- As composition of the first frame of a generation starts: its CORR_SELECT starts a load or drops the image (R279). -/
def State.applyCorr (s : State) (g : Gen) : State :=
  let sel := g.rdN 0x2930 0x01
  if sel = s.rdN 0x2930 0x02 ∨ s.video.colour.load.isSome then s
  else if sel = 2 then s.dropCorr
  else if !(s.video.colour.verified[sel]?).getD false then s
  else (s.startRun 0x2930 0x04).withColour fun c => { c with load := some { image := sel, bytes := s.corrBytes sel } }

/-- FILL_CLOSE. At T_close of the frame that fills, judge it, latch its gains, assign the buffers and write the early
cells of the next frame into place; composition of the frame starts, and with it a change of the correction image (R206 to R209,
R242 to R245, R253, R279, R284, R286). -/
def execFillClose (s : State) : Out1 :=
  if !s.isTile then .next s
  else match s.video.store.filling with
    | none => .next s
    | some f =>
      let s := s.untilWall (s.tFrame (f + 1) + s.rdN 0x2700 0x03 * subNs)
      let g := (s.genFor f).getD Gen.none_
      let s := s.countMissing
      let s := if s.keepsHeld then s.keepFrames g f else s.judge g f
      let s := if s.genFor s.video.compose.frame = some g then s else s.applyCorr g
      let s := s.latchGains g f
      let s := s.withCompose fun c => { c with frame := f, slotsDone := 0, slot := none, blended := Vector.replicate 4 none, overran := false }
      .next (s.openFill (max (f + 1) s.quartz.frame))

end Sys2Proof.Machine
end

