-- ==== Sys2Proof/Machine/Compose.lean ====
section
/-! DEFINITION. Composition of slots into the lamp staging memory and the heartbeat that guards it (R219, R234, R255,
R256, R274, R275, R278, R282, R292, R293, R521, R522), the correction store (R276 to R280), and the writes of
coefficient sets and transfer tables (R232, R268). -/

namespace Sys2Proof.Machine

/-! ### The heartbeat guard -/

/-- Change the guard. -/
def State.withBeat (s : State) (f : Heartbeat → Heartbeat) : State := { s with beat := f s.beat }

/-- LD is driven low on every port: blanked, in repeater-only mode, after a trip or in clock-loss hold (R140, R435,
R462, R522). -/
def State.dark (s : State) : Bool := s.lamps.ldLow || s.repeatOnly || s.thermal.phase ≠ .normal || s.clocks.hold

/-- Blank the tile (R522). A frame on the line completes with a complemented CRC. -/
def State.blank (s : State) (byReplay : Bool) : State :=
  if s.rdN 0x3200 0x01 = 2 then s
  else
    let s := s.wrN 0x3200 0x01 2
    let s := s.bump 0x3200 0x04 1
    let kill (t : TxFrame) : TxFrame := if t.markAt.isSome then { t with dead := true } else t
    let engines := s.lamps.engine.map fun e => { e with tx := e.tx.map kill }
    let s := { s with lamps := { s.lamps with ldLow := true, engine := engines } }
    let s := (s.emit (.pin .ldLow true)).withBeat fun b => { b with misses := 0, ending := false, byReplay := byReplay, blanked := 0 }
    s.raise 0xA101 (det 0xFF (if byReplay then 2 else 1))

/-- A bank has been completed: the compositor's heartbeat arms the guard, the start image disarms it (R521). -/
def State.beatOf (s : State) (start : Bool) : State :=
  let s := s.withBeat fun b => { b with replayUntil := none, seen := b.seen || !start }
  if s.rdN 0x3200 0x01 = 2 then
    if !start || s.beat.byReplay then s.withBeat fun b => { b with ending := true } else s
  else s.wrN 0x3200 0x01 (if start then 0 else 1)

/-- From the next reference frame on, blanking ends (R522). -/
def State.endBlanking (s : State) : State :=
  if s.rdN 0x3200 0x01 = 2 ∧ s.beat.ending then
    let s := (s.wrN 0x3200 0x01 (if s.beat.byReplay && !s.beat.seen then 0 else 1)).withBeat fun b => { b with ending := false, byReplay := false }
    let s := { s with lamps := { s.lamps with ldLow := false } }
    (s.emit (.pin .ldLow false)).raise 0xA102 (0xFF + sat 0xFFFF s.beat.blanked * 256)
  else s

/-- The check at a wall frame boundary (R521). -/
def State.beatCheck (s : State) : State :=
  if s.rdN 0x3200 0x01 ≠ 1 then
    s.withBeat fun b => { b with
      seen := false
      misses := 0
      blanked := if s.rdN 0x3200 0x01 = 2 then b.blanked + 1 else b.blanked }
  else if s.beat.seen then s.withBeat fun b => { b with seen := false, misses := 0 }
  else if s.beat.misses = 0 then s.withBeat fun b => { b with misses := 1 }
  else s.blank false

/-! ### Composition -/

/-- The bank that a slot reads was rendered from the start image. -/
def State.startShown (s : State) (k : Fin 4) : Bool :=
  match s.video.compose.last[k] with
  | none => false
  | some set =>
    match (s.video.compose.bank[set * 4 + k.1]?).getD none with
    | some b => b.start
    | none => false

/-- What composes a slot now: the layers, the start image, darkness where that is not valid, or nothing while kept
banks or a start image already rendered are read (R163, R164, R448, R450, R480). -/
def State.slotSource (s : State) (k : Fin 4) : Option SlotSource :=
  if s.rdN 0x2880 0x0D = 1 then some .layers
  else match s.video.compose.held with
    | .recompose => some .layers
    | .banks => none
    | .startImage =>
      if s.startShown k then none
      else
        let b := s.startBytes
        some (if startOk b then .start b else .dark)

/-- The set that a slot's composition writes: the one that does not hold its last complete bank (R274, R275). -/
def State.writeSet (s : State) (k : Fin 4) : Nat :=
  match s.video.compose.last[k] with
  | some set => 1 - set
  | none => s.video.compose.frame % 2

/-- An uncorrectable frame-store word: UNCORR_ADDR, and the event and record of the first of each second (R219, R222). -/
def State.damagedWord (s : State) (w : DamagedWord) : State :=
  (s.wrN 0x2700 0x08 w.addr).raiseLimited 0x5201 0 second (fun _ => det w.layer (w.addr / 60)) (leBytes 4 w.addr ++ leBytes 1 0)

/-- Memory errors met in blending a slot: the counters, addresses and events (R219, R256). -/
def State.blendDamage (s : State) (g : Gen) (d : Damage) : State :=
  let s := (s.bump 0x2700 0x06 d.corrected).bump 0x2700 0x07 d.words.length
  let s := d.words.foldl State.damagedWord s
  match d.lines with
  | [] => s
  | l :: _ => s.raiseLimited 0x510A 0 second (fun _ => det l.1 (((g.scaler[l.1]?).getD none).getD 0xFF)) (leBytes 4 l.2.2.2 ++ leBytes 1 2)

/-- Errors of the correction store met in a slot's pass (R278). -/
def State.corrDamage (s : State) (d : Damage) : State :=
  let s := (s.bump 0x2930 0x0A d.corrCorrected).bump 0x2930 0x0B d.corrWords.length
  let row (w : Nat) : Nat := match s.video.colour.corr with
    | some img => 4 * w / (3 * corrP img) / max 1 (field img 8 2)
    | none => 0
  let s := s.withColour fun c => { c with
    damaged := c.damaged ++ d.corrWords, rereads := c.rereads ++ d.corrWords.map fun w => (w, row w) }
  d.corrWords.foldl (fun s w => s.raise 0x5304 (noLayer (row w))) s

/-- Sum of a port's codes over its greatest sum, in 2^-32 (R282). -/
def dutyOf (codes : List Nat) (grey : Nat) : Nat :=
  if codes.isEmpty then 0 else codes.sum * 2 ^ 32 / (codes.length * (2 ^ grey - 1))

/-- The bank that a composition gives, every code clamped at its write (R272, R292). -/
def State.compose (s : State) (g : Gen) (d : Damage) (src : SlotSource) (k : Fin 4) : Bank :=
  let f := s.video.compose.frame
  let slots := (s.setFor f).s
  let raw : Vector (List Nat) 64 := Vector.ofFn fun p => s.portCodes g d src f slots k p
  let top (p : Fin 64) : Nat := greyCeil (s.otp.shadow[p]).maxGrey (g.grey p)
  let codes : Vector (List Nat) 64 := Vector.ofFn fun p => raw[p].map (min (top p))
  { frame := f, writing := true, start := src ≠ .layers, codes := codes
    scale := Vector.ofFn fun p => bankScale (s.otp.shadow[p]).maxAvg codes[p].length (g.grey p) codes[p].sum
    clamped := Vector.ofFn fun p => (raw[p].filter fun v => decide (top p < v)).length }

/-- The configuration under which a frame is composed; before any commit, the staging bank's lamps (R253). -/
def State.composeGen (s : State) : Gen := (s.genFor s.video.compose.frame).getD s.staging

/-- The binding under which a layer is composed in a slot, if it is valid: that of the frame it shows, or the one in force
for a layer that shows its fill (R243). -/
def State.shownBind (s : State) (g : Gen) (k : Nat) (n : Fin 8) : Option LayerBind :=
  let b := match s.video.compose.shown[n], s.video.store.current[n] with
    | .fill, _ | .absent, _ | _, none => g.bind n k
    | _, some f => bindOf (f.binds.getD k [])
  if b.valid then some b else none

/-- The lower slot of the same frame whose blended result a slot takes: the bindings of every layer are the same; layer
parameters and readiness outcomes do not differ between slots (R234). -/
def State.sameAsLower (s : State) (g : Gen) (k : Fin 4) : Option Damage :=
  let binds (j : Fin 4) := (List.finRange 8).map fun n => s.shownBind g j n
  ((List.finRange 4).filter fun j => decide (j < k)).findSome? fun (j : Fin 4) =>
    if binds j == binds k then s.video.compose.blended[j] else none

/-- Blend a slot, or take the blended result of a lower slot; answers the errors that shaped it (R219, R234). -/
def State.blendSlot (s : State) (g : Gen) (k : Fin 4) (d : Damage) : Damage × State :=
  let (used, s) := match s.sameAsLower g k with
    | some lower => (lower, s)
    | none => (d, s.blendDamage g d)
  (used, s.withCompose fun c => { c with blended := vset c.blended k (some used) })

/-- Compose one slot: the picture, what damage it met, and the code bank it goes into (R219, R234, R274); where the memory of the
generations reads uncorrectable the pixel path is at fault instead (R255). -/
def State.composeInto (s : State) (k : Fin 4) (d : Damage) : State :=
  if d.generations then s.pixelFault 2
  else match s.slotSource k with
  | none => s.withCompose fun c => { c with slotsDone := c.slotsDone + 1 }
  | some src =>
    let g := s.composeGen
    let (used, s) := if src = .layers then s.blendSlot g k d else (d, s)
    let s := s.corrDamage d
    let s := if src = .dark then s.raise 0x8401 0xFF else s
    let b := s.compose g used src k
    s.withCompose fun c => { c with slot := some k, bank := c.bank.set! (s.writeSet k * 4 + k.1) (some b) }

/-- COMPOSE_SLOT. The composition of the next slot starts: its errors are counted and its bank is being written
(R219, R234, R274). -/
def execComposeSlot (d : Damage) (s : State) : Out1 :=
  let c := s.video.compose
  let f := c.frame
  if !s.isTile || s.repeatOnly || c.slot.isSome || (s.setFor f).s ≤ c.slotsDone || s.video.store.filling.isNone then .next s
  else if h : c.slotsDone < 4 then
    .next ((s.untilWall (s.tFrame (f + 1) + (s.rdN 0x2700 0x03 + 30000 * c.slotsDone) * subNs)).composeInto ⟨c.slotsDone, h⟩ d)
  else .next s

/-- End of the last slot of a frame: three frames in a row with an overrun are a fault (R255). -/
def State.endFrame (s : State) : State :=
  let c := s.video.compose
  if c.slotsDone < (s.setFor c.frame).s then s
  else
    let run := if c.overran then c.overrunRun + 1 else 0
    let s := s.withCompose fun c => { c with overrunRun := run }
    if run = 3 then s.pixelFault 1 else s

/-- The ceiling counters and events of a completed bank (R293). -/
def State.countCeilings (s : State) (b : Bank) : State :=
  (List.finRange 64).foldl (fun s (p : Fin 64) =>
    let s := if b.clamped[p] = 0 then s
      else (s.bump 0x2960 0x02 b.clamped[p]).raiseLimited 0x5307 p.1 second fun _ => det p.1 (sat 0xFFFF b.clamped[p])
    if b.scale[p] = 65536 then s
    else (s.bump 0x2960 0x03 1).raiseLimited 0x5308 p.1 second fun _ => det p.1 (b.scale[p] / 16)) s

/-- COMPOSE_COMPLETE. The running slot's pass completes: its bank becomes readable, the Basalt sum is judged and the
heartbeat is given (R234, R275, R292, R293, R521). -/
def execComposeComplete (s : State) : Out1 :=
  match s.video.compose.slot with
  | none => .next s
  | some k =>
    if h : k < 4 then
      let set := s.writeSet ⟨k, h⟩
      match (s.video.compose.bank[set * 4 + k]?).getD none with
      | none => .next s
      | some b =>
        let g := s.composeGen
        let s := s.withCompose fun c => { c with
          slot := none, slotsDone := c.slotsDone + 1,
          bank := c.bank.set! (set * 4 + k) (some { b with writing := false }),
          last := c.last.set! k (some set) }
        let s := s.withColour fun c => { c with
          duty := Vector.ofFn fun p => c.duty[p] + dutyOf b.codes[p] (g.grey p), dutySlots := c.dutySlots + 1 }
        .next ((s.countCeilings b).beatOf b.start).endFrame
    else .next s

/-- COMPOSE_OVERRUN. The running slot is not complete within its 30 µs: the last complete bank is presented again
(R255, R275). -/
def execComposeOverrun (s : State) : Out1 :=
  match s.video.compose.slot with
  | none => .next s
  | some k =>
    if h : k < 4 then
      let set := s.writeSet ⟨k, h⟩
      let s := s.pass 30000
      let s := s.withCompose fun c => { c with
        slot := none, slotsDone := c.slotsDone + 1, overran := true,
        bank := c.bank.set! (set * 4 + k) none, lastOver := c.lastOver.set! k (some c.frame) }
      .next ((s.bump 0x2880 0x10 1).raise 0x5108 (noLayer k)).endFrame
    else .next s

/-! ### The correction store -/

/-- The cause that the first failing condition of R276 gives, 0 for a valid image. -/
def corrCause (b : List Byte) (window : Nat × Nat) : Nat :=
  let w := field b 8 2
  let h := field b 10 2
  let p := corrP b
  let n := field b 12 4
  if field b 0 4 ≠ 0x434F5252 ∨ field b 4 2 ≠ 1 then 2
  else if (p ≠ 3 ∧ p ≠ 4) ∨ n ≠ w * h * 3 * p ∨ 0x400000 < 132 + n then 3
  else if field b (128 + n) 4 ≠ crc32Nat (b.take (128 + n)) then 1
  else if (w, h) ≠ window then 4
  else if (List.range 12).any (fun i => decide (7 < (byteAt b (40 + i)).toNat)) || byteAt b 7 != 0 ||
      ((b.drop 74).take 54).any (· != 0) || (p == 3 && ((b.drop 34).take 6).any (· != 0)) then 5
  else 0

/-- The window in force, or the staged one before any commit. -/
def State.window (s : State) : Nat × Nat := ((s.genNow).getD s.staging).window

/-- Publish the end of a verification or load (R15, R279). -/
def State.publishCorr (s : State) (image cause : Nat) : State :=
  ((s.wrN 0x2930 0x06 image).wrN 0x2930 0x07 cause).publish 0x2930 0x04 0x05 (cause == 0)

/-- Start a verification, unless one or a load runs (R16, R279): abort code 0 when started. -/
def State.verifyCorr (s : State) (image : Nat) : Nat × State :=
  if s.isRunning 0x2930 0x04 then (abState, s)
  else (0, (s.startRun 0x2930 0x04).withColour fun c => { c with verifying := some image })

/-- CORR_VERIFY_COMPLETE. The running verification ends and publishes valid or the first failing cause (R276). -/
def execCorrVerifyComplete (s : State) : Out1 :=
  match s.video.colour.verifying with
  | none => .next s
  | some i =>
    if !s.isTile then .next s
    else
      let cause := corrCause (s.corrBytes i) s.window
      let s := s.withColour fun c => { c with verifying := none, verified := c.verified.set! i (cause == 0) }
      let s := s.publishCorr i cause
      .next (s.raiseIf (cause != 0) 0x5301 (det i cause))

/-- The image of a load or of the configuration becomes the image in force. -/
def State.forceCorr (s : State) (image : Nat) (b : List Byte) : State :=
  let s := s.withColour fun c => { c with corr := some b, load := none, damaged := [], rereads := [] }
  ((s.wrN 0x2930 0x02 image).wrN 0x2930 0x08 0).wrN 0x2930 0x09 (field b (128 + field b 12 4) 4)

/-- CORR_LOAD_ROW. A row of new records is copied between composition passes; at the last row the load publishes and
event 0x5303 is raised (R279). -/
def execCorrLoadRow (s : State) : Out1 :=
  match s.video.colour.load with
  | none => .next s
  | some l =>
    if s.video.compose.slot.isSome || s.role != .tile then .next s
    else
      let rows := field l.bytes 10 2
      let done := s.rdN 0x2930 0x08 + 1
      if done < rows then .next (s.wrN 0x2930 0x08 done)
      else .next (((s.forceCorr l.image l.bytes).publishCorr l.image 0).raise 0x5303 (det l.image rows))

/-- CORRECTION_REREAD. The records of a damaged word are read again from the active image (R278). -/
def execCorrectionReread (s : State) : Out1 :=
  match s.video.colour.rereads with
  | [] => .next s
  | r :: rest =>
    if s.role != .tile then .next s
    else .next (s.withColour fun c => { c with rereads := rest, damaged := c.damaged.filter (· != r.1) })

/-! ### Coefficient sets and transfer tables -/

/-- A refused write of a coefficient set: its code and event 0x5107 (R232). -/
def State.refuseCoeff (s : State) (k code : Nat) : Nat × State := (code, s.raise 0x5107 (noLayer k))

/-- Load a coefficient set: 1 library, 2 written (R232, R233). -/
def State.loadCoeff (s : State) (k : Nat) (b : List Byte) (source : Nat) : State :=
  (((s.wrD (0x2850 + k) 0x01 b).wrB (0x2850 + k) 0x02 true).wrN (0x2850 + k) 0x04 (field b 1796 4)).wrN (0x2850 + k) 0x05 source

/-- A write of a coefficient set (R232): length, content, use. -/
def State.writeCoeff (s : State) (k : Nat) (b : List Byte) : Nat × State :=
  if b.length ≠ 1800 then s.refuseCoeff k abLength
  else if !coefOk b then s.refuseCoeff k abRange
  else if s.configs.any fun g => g.namesSet k then s.refuseCoeff k abState
  else (0, s.loadCoeff k b 2)

/-- A refused write of a transfer table: its code and event 0x530A with its cause (R268). -/
def State.refuseTable (s : State) (k code cause : Nat) : Nat × State := (code, s.raise 0x530A (det k cause))

/-- A write of a transfer table (R267, R268). -/
def State.writeTable (s : State) (k : Nat) (b : List Byte) : Nat × State :=
  if k < 3 then (abReadOnly, s)
  else if b.length ≠ 16396 then s.refuseTable k abLength 1
  else if field b 0 2 ≠ 1 ∨ field b 2 2 ≠ 0 then s.refuseTable k abRange 1
  else if field b 16392 4 ≠ crc32Nat (b.take 16392) then s.refuseTable k abRange 2
  else if (List.range 4097).any fun i => byteAt b (7 + 4 * i) != 0 then s.refuseTable k abRange 3
  else if s.configs.any fun g => g.namesTable k then s.refuseTable k abState 4
  else (0, ((s.wrD (0x2920 + k) 0x01 b).wrB (0x2920 + k) 0x02 true).wrN (0x2920 + k) 0x04 2)

end Sys2Proof.Machine
end

