-- ==== Sys2Proof/Machine/Engine.lean ====
section
/-! DEFINITION. The port engines: their registers and instructions (R353 to R362, R364 to R368, R371 to R373), the
framer (R304, R361, R365) and the loading and requests of the supervisor (R369, R374 to R376). The mailbox and
semaphore instructions stand with the mailboxes. -/

namespace Sys2Proof.Machine

/-! ### Shared parts -/

/-- A general register; g0 reads as zero (R356). -/
def Engine.reg (e : Engine) (r : Fin 16) : Word := if r = 0 then 0 else e.regs[r]

/-- Write a general register; writes to g0 are discarded (R356). -/
def Engine.setReg (e : Engine) (r : Fin 16) (v : Word) : Engine :=
  if r = 0 then e else { e with regs := vset e.regs r v }

/-- Write a general register of an engine. -/
def State.setReg (s : State) (p : Fin 64) (r : Fin 16) (v : Word) : State := s.withEngine p fun e => e.setReg r v

/-- LD of a port is driven low: by the tile, or for a port that is off, failed or whose engine has faulted
(R318, R369, R373). -/
def State.portDark (s : State) (p : Fin 64) : Bool :=
  s.dark || s.rdN (0x2A00 + p) 0x0A == 0 || s.rdN (0x2A00 + p) 0x0A == 4 || s.lamps.engine[p].run == .faulted

/-- TG has fallen below 8 with n_r cut to 1: the port sends no latch (R328). -/
def State.latchless (s : State) (p : Fin 64) : Bool :=
  s.rdN (0x2A00 + p) 0x32 == 1 && decide (s.rdN (0x2A00 + p) 0x30 < 8)

/-- A failed port: state 4, LD low, a retry in 10 s; an enumeration in progress publishes its failure (R318, R373). -/
def State.failPort (s : State) (p : Fin 64) : State :=
  let s := if s.isRunning (0x2A00 + p) 0x0B then s.publish (0x2A00 + p) 0x0B 0x0C false else s
  (s.wrN (0x2A00 + p) 0x0A 4).withPort p fun q => { q with retryAt := some (s.now + 10 * second), lit := false }

/-- Complete every open or running frame of an engine with zeros and a complemented CRC (R369, R373, R376). -/
def killFrames (tx : List TxFrame) : List TxFrame :=
  tx.map fun t => { t with
    bits := t.bits ++ List.replicate (t.len - t.bits.length) false, zeros := true, dead := true }

/-- The rate of a port in force: what enumeration settled, else its setting (0x2A00+p:0F, :03). -/
def State.portRate (s : State) (p : Fin 64) : Nat :=
  let r := s.rdN (0x2A00 + p) 0x0F
  if r ≤ 2 then r else if s.lamps.port[p].rate ≤ 2 then s.lamps.port[p].rate else 0

/-- Bit period of a port, ns. -/
def State.bitPeriod (s : State) (p : Fin 64) : Nat := bitNs (s.portRate p)

/-- A frame whose bits are all supplied and whose MARK has left goes out whole, and the next may follow its GAP
(R304, R320, R365). A port that was dark when its MARK was due suppresses it at the ball (R522); one that the framer completed
after an underrun has gone out already (R361). -/
def State.finishFrame (s : State) (p : Fin 64) : State :=
  let e := s.lamps.engine[p]
  match e.tx with
  | [] => s
  | t :: rest =>
    match t.markAt with
    | none => s
    | some m =>
      if t.bits.length < t.len then s
      else
        let per := s.bitPeriod p
        let dark := t.withheld || t.gone
        let s := s.withEngine p fun e => { e with
          tx := rest, gapUntil := m + (t.len + 35) * per,
          line := if dark then e.line else e.line ++
            [{ cmd := t.cmd, bits := t.bits, capture := t.capture, edgeAt := m + edgeBits t.len * per,
               length := (t.len + 27) * per }] }
        let s := if t.cmd = 8 ∧ !dark then s.bump (0x2A00 + p) 0x38 1 else s
        if dark then s
        else (s.bump (0x2A00 + p) 0x20 1).emit (.lampFrame p (lampPulses per (lampLine t.cmd t.bits t.dead)) t.dead)

/-- What is open or on the line completes with zeros and a complemented CRC, and nothing follows it
(R369, R373, R376). -/
def State.killTx (s : State) (p : Fin 64) : State :=
  let s := s.withEngine p fun e => { e with tx := killFrames e.tx, wait := .none, stall := none }
  (s.finishFrame p).withEngine p fun e => { e with tx := [] }

/-- An engine faults (R373). -/
def State.engineFault (s : State) (p : Fin 64) (cause : Nat) : State :=
  let idx := 0x2C10 + p.1
  let s := (s.wrN idx 0x02 cause).wrN idx 0x03 s.lamps.engine[p].pc
  let s := s.bump idx 0x04 1
  let pc := s.lamps.engine[p].pc
  let s := ((s.killTx p).withEngine p fun e => { e with run := .faulted, profile := none }).masterReset (BitVec.ofNat 7 p.1)
  (s.failPort p).raiseWith 0xA301 (det p.1 cause) (leBytes 1 p.1 ++ leBytes 1 cause ++ leBytes 2 pc)

/-- A word of the R form (Table 12.3). -/
def wordR (op : Nat) (rd ra rb : Fin 16) (rsv : BitVec 14) : Word :=
  BitVec.ofNat 32 (op * 2 ^ 26 + rd.1 * 2 ^ 22 + ra.1 * 2 ^ 18 + rb.1 * 2 ^ 14 + rsv.toNat)

/-- A word of the I form with RD and RA, or of the B form with RA and RB (Table 12.3). -/
def wordI (op : Nat) (a b : Fin 16) (imm : BitVec 18) : Word :=
  BitVec.ofNat 32 (op * 2 ^ 26 + a.1 * 2 ^ 22 + b.1 * 2 ^ 18 + imm.toNat)

/-- An opcode of Table 12.4. -/
def opAssigned (op : Nat) : Bool :=
  decide (op ≤ 0x0C ∨ (0x10 ≤ op ∧ op ≤ 0x19) ∨ (0x20 ≤ op ∧ op ≤ 0x26) ∨ (0x28 ≤ op ∧ op ≤ 0x36) ∨ (0x38 ≤ op ∧ op ≤ 0x3D))

/-- The word at an engine's pc. -/
def Engine.fetch (e : Engine) : Word := Sparse.get (fun _ => 0) e.imem e.pc

/-- An engine that runs and neither waits nor stalls is done with the word at its pc. -/
def Engine.advance (e : Engine) : Engine :=
  if e.run = .running ∧ e.wait = .none ∧ e.stall = none then { e with pc := (e.pc + 1) % 2048 } else e

/-- Run one instruction on an engine that is running, not waiting and not stalled, where its word stands at the pc (R358, R359);
where another word stands there, the engine does not execute this instruction. A word whose SECDED error is uncorrectable faults
with cause 4; an illegal word, of an unassigned opcode or with a field of this instruction that must be zero, with cause 1
(R358, R373). `uses` are the registers it reads, for the stall after LD, MUL and MULHU (R360). -/
def State.onEngine (s : State) (p : Fin 64) (word : Word) (legal : Bool) (uses : List (Fin 16)) (cycles : Nat)
    (act : State → State) : Out1 :=
  let e := s.lamps.engine[p]
  if !s.isTile || e.run ≠ .running || e.wait ≠ .none || e.stall.isSome then .next s
  else if e.damaged.contains e.pc then .next (s.engineFault p 4)
  else if !opAssigned (bits e.fetch.toNat 31 26) then .next (s.engineFault p 1)
  else if e.fetch ≠ word then .next s
  else if !legal then .next (s.engineFault p 1)
  else
    let wait := match e.slow with
      | some r => if uses.contains r then 1 else 0
      | none => 0
    let s := s.withEngine p fun e => { e with slow := none, cycles := e.cycles + cycles + wait }
    .next ((act s).withEngine p Engine.advance)

/-- A value in an R-form instruction, its reserved bits zero (Table 12.3). -/
def State.aluR (s : State) (p : Fin 64) (op : Nat) (rd ra rb : Fin 16) (rsv : BitVec 14) (cycles : Nat)
    (f : Word → Word → Word) : Out1 :=
  let e := s.lamps.engine[p]
  s.onEngine p (wordR op rd ra rb rsv) (rsv == 0) [ra, rb] cycles fun s =>
    let s := s.setReg p rd (f (e.reg ra) (e.reg rb))
    if cycles = 2 then s.withEngine p fun e => { e with slow := some rd } else s

/-- A value in an I-form instruction (Table 12.3). -/
def State.aluI (s : State) (p : Fin 64) (op : Nat) (rd ra : Fin 16) (imm : BitVec 18) (legal : Bool) (f : Word → Word) : Out1 :=
  let e := s.lamps.engine[p]
  s.onEngine p (wordI op rd ra imm) legal [ra] 1 fun s => s.setReg p rd (f (e.reg ra))

/-- IMM sign-extended. -/
def sx (imm : BitVec 18) : Word := imm.signExtend 32

/-- IMM zero-extended. -/
def zx (imm : BitVec 18) : Word := imm.setWidth 32

/-! ### Arithmetic -/

/-- ADD: rd = ra + rb (R359). -/
def execPeAdd (p : Fin 64) (rd ra rb : Fin 16) (rsv : BitVec 14) (s : State) : Out1 := s.aluR p 0x00 rd ra rb rsv 1 (· + ·)

/-- SUB: rd = ra − rb (R359). -/
def execPeSub (p : Fin 64) (rd ra rb : Fin 16) (rsv : BitVec 14) (s : State) : Out1 := s.aluR p 0x01 rd ra rb rsv 1 (· - ·)

/-- AND (R359). -/
def execPeAnd (p : Fin 64) (rd ra rb : Fin 16) (rsv : BitVec 14) (s : State) : Out1 := s.aluR p 0x02 rd ra rb rsv 1 (· &&& ·)

/-- OR (R359). -/
def execPeOr (p : Fin 64) (rd ra rb : Fin 16) (rsv : BitVec 14) (s : State) : Out1 := s.aluR p 0x03 rd ra rb rsv 1 (· ||| ·)

/-- XOR (R359). -/
def execPeXor (p : Fin 64) (rd ra rb : Fin 16) (rsv : BitVec 14) (s : State) : Out1 := s.aluR p 0x04 rd ra rb rsv 1 (· ^^^ ·)

/-- SHL: shift left by rb[4:0] (R359). -/
def execPeShl (p : Fin 64) (rd ra rb : Fin 16) (rsv : BitVec 14) (s : State) : Out1 :=
  s.aluR p 0x05 rd ra rb rsv 1 fun a b => a <<< (b.toNat % 32)

/-- SHR: logical shift right by rb[4:0] (R359). -/
def execPeShr (p : Fin 64) (rd ra rb : Fin 16) (rsv : BitVec 14) (s : State) : Out1 :=
  s.aluR p 0x06 rd ra rb rsv 1 fun a b => a >>> (b.toNat % 32)

/-- SRA: arithmetic shift right by rb[4:0] (R359). -/
def execPeSra (p : Fin 64) (rd ra rb : Fin 16) (rsv : BitVec 14) (s : State) : Out1 :=
  s.aluR p 0x07 rd ra rb rsv 1 fun a b => a.sshiftRight (b.toNat % 32)

/-- MUL: low 32 bits of the product, 2 cycles (R359). -/
def execPeMul (p : Fin 64) (rd ra rb : Fin 16) (rsv : BitVec 14) (s : State) : Out1 := s.aluR p 0x08 rd ra rb rsv 2 (· * ·)

/-- MULHU: unsigned high 32 bits of the product, 2 cycles (R359). -/
def execPeMulhu (p : Fin 64) (rd ra rb : Fin 16) (rsv : BitVec 14) (s : State) : Out1 :=
  s.aluR p 0x09 rd ra rb rsv 2 fun a b => BitVec.ofNat 32 (a.toNat * b.toNat / 2 ^ 32)

/-- SLTU: rd = (ra < rb), unsigned (R359). -/
def execPeSltu (p : Fin 64) (rd ra rb : Fin 16) (rsv : BitVec 14) (s : State) : Out1 :=
  s.aluR p 0x0A rd ra rb rsv 1 fun a b => if a < b then 1 else 0

/-- MINU (R359). -/
def execPeMinu (p : Fin 64) (rd ra rb : Fin 16) (rsv : BitVec 14) (s : State) : Out1 :=
  s.aluR p 0x0B rd ra rb rsv 1 fun a b => if a < b then a else b

/-- MAXU (R359). -/
def execPeMaxu (p : Fin 64) (rd ra rb : Fin 16) (rsv : BitVec 14) (s : State) : Out1 :=
  s.aluR p 0x0C rd ra rb rsv 1 fun a b => if a < b then b else a

/-- ADDI: rd = ra + sx(IMM) (R359). -/
def execPeAddi (p : Fin 64) (rd ra : Fin 16) (imm : BitVec 18) (s : State) : Out1 := s.aluI p 0x10 rd ra imm true (· + sx imm)

/-- ANDI, with zx(IMM) (R359). -/
def execPeAndi (p : Fin 64) (rd ra : Fin 16) (imm : BitVec 18) (s : State) : Out1 := s.aluI p 0x11 rd ra imm true (· &&& zx imm)

/-- ORI, with zx(IMM) (R359). -/
def execPeOri (p : Fin 64) (rd ra : Fin 16) (imm : BitVec 18) (s : State) : Out1 := s.aluI p 0x12 rd ra imm true (· ||| zx imm)

/-- XORI, with zx(IMM) (R359). -/
def execPeXori (p : Fin 64) (rd ra : Fin 16) (imm : BitVec 18) (s : State) : Out1 := s.aluI p 0x13 rd ra imm true (· ^^^ zx imm)

/-- SLTUI, with zx(IMM) (R359). -/
def execPeSltui (p : Fin 64) (rd ra : Fin 16) (imm : BitVec 18) (s : State) : Out1 :=
  s.aluI p 0x17 rd ra imm true fun a => if a < zx imm then 1 else 0

/-- SHLI: shift left by IMM[4:0]; IMM[17:5] zero (R359). -/
def execPeShli (p : Fin 64) (rd ra : Fin 16) (imm : BitVec 18) (s : State) : Out1 :=
  s.aluI p 0x14 rd ra imm (imm.toNat < 32) fun a => a <<< (imm.toNat % 32)

/-- SHRI: logical shift right by IMM[4:0]; IMM[17:5] zero (R359). -/
def execPeShri (p : Fin 64) (rd ra : Fin 16) (imm : BitVec 18) (s : State) : Out1 :=
  s.aluI p 0x15 rd ra imm (imm.toNat < 32) fun a => a >>> (imm.toNat % 32)

/-- LUI: rd = IMM << 14; RA = g0 (R359). -/
def execPeLui (p : Fin 64) (rd ra : Fin 16) (imm : BitVec 18) (s : State) : Out1 :=
  s.aluI p 0x16 rd ra imm (ra == 0) fun _ => zx imm <<< 14

/-! ### Data memory -/

/-- LD: rd = DMEM[ra + sx(IMM)]; an address above 1,023 faults with cause 2, a word with an uncorrectable error with cause 4
(R359, R373). -/
def execPeLd (p : Fin 64) (rd ra : Fin 16) (imm : BitVec 18) (s : State) : Out1 :=
  let e := s.lamps.engine[p]
  let a := (e.reg ra + sx imm).toNat
  s.onEngine p (wordI 0x18 rd ra imm) true [ra] 2 fun s =>
    if 1023 < a then s.engineFault p 2
    else if e.damaged.contains (a + 2048) then s.engineFault p 4
    else s.withEngine p fun e => { (e.setReg rd (Sparse.get (fun _ => 0) e.dmem a)) with slow := some rd }

/-- ST: DMEM[ra + sx(IMM)] = rd; an address above 1,023 faults with cause 2 (R359, R373). -/
def execPeSt (p : Fin 64) (rd ra : Fin 16) (imm : BitVec 18) (s : State) : Out1 :=
  let e := s.lamps.engine[p]
  let a := (e.reg ra + sx imm).toNat
  s.onEngine p (wordI 0x19 rd ra imm) true [rd, ra] 1 fun s =>
    if 1023 < a then s.engineFault p 2
    else s.withEngine p fun e => { e with
      dmem := Sparse.set (fun _ => 0) e.dmem a (e.reg rd), damaged := e.damaged.filter (· != a + 2048) }

/-! ### Branches -/

/-- Go to a word address; above the profile's code it faults with cause 3 (R373). The pc that `onEngine` then
advances is one below. -/
def State.jumpTo (s : State) (p : Fin 64) (t : Nat) : State :=
  if s.lamps.engine[p].codeWords ≤ t then s.engineFault p 3
  else s.withEngine p fun e => { e with pc := (t + 2047) % 2048, cycles := e.cycles + 1 }

/-- The target of a branch: its address + 1 + OFF (Table 12.3). -/
def Engine.target (e : Engine) (off : BitVec 18) : Nat := (BitVec.ofNat 32 (e.pc + 1) + sx off).toNat

/-- A compare and branch; 2 cycles when taken (R359). -/
def State.branch (s : State) (p : Fin 64) (op : Nat) (ra rb : Fin 16) (off : BitVec 18) (c : Word → Word → Bool) : Out1 :=
  let e := s.lamps.engine[p]
  s.onEngine p (wordI op ra rb off) true [ra, rb] 1 fun s => if c (e.reg ra) (e.reg rb) then s.jumpTo p (e.target off) else s

/-- BEQ (R359). -/
def execPeBeq (p : Fin 64) (ra rb : Fin 16) (off : BitVec 18) (s : State) : Out1 := s.branch p 0x20 ra rb off fun a b => a == b

/-- BNE (R359). -/
def execPeBne (p : Fin 64) (ra rb : Fin 16) (off : BitVec 18) (s : State) : Out1 := s.branch p 0x21 ra rb off fun a b => a != b

/-- BLTU (R359). -/
def execPeBltu (p : Fin 64) (ra rb : Fin 16) (off : BitVec 18) (s : State) : Out1 :=
  s.branch p 0x22 ra rb off fun a b => decide (a < b)

/-- BGEU (R359). -/
def execPeBgeu (p : Fin 64) (ra rb : Fin 16) (off : BitVec 18) (s : State) : Out1 :=
  s.branch p 0x23 ra rb off fun a b => decide (b ≤ a)

/-- DBNZ: ra = ra − 1, branch if not 0; RB = g0 (R359). A decrement of g0 is discarded and reads as 0. -/
def execPeDbnz (p : Fin 64) (ra rb : Fin 16) (off : BitVec 18) (s : State) : Out1 :=
  let e := s.lamps.engine[p]
  s.onEngine p (wordI 0x24 ra rb off) (rb == 0) [ra] 1 fun s =>
    let s := s.setReg p ra (e.reg ra - 1)
    if s.lamps.engine[p].reg ra = 0 then s else s.jumpTo p (e.target off)

/-- JAL: rd = pc + 1; pc = pc + 1 + sx(IMM); RA = g0 (R359). -/
def execPeJal (p : Fin 64) (rd ra : Fin 16) (imm : BitVec 18) (s : State) : Out1 :=
  let e := s.lamps.engine[p]
  s.onEngine p (wordI 0x25 rd ra imm) (ra == 0) [] 1 fun s => (s.setReg p rd (BitVec.ofNat 32 (e.pc + 1))).jumpTo p (e.target imm)

/-- JALR: rd = pc + 1; pc = ra + sx(IMM) (R359). -/
def execPeJalr (p : Fin 64) (rd ra : Fin 16) (imm : BitVec 18) (s : State) : Out1 :=
  let e := s.lamps.engine[p]
  s.onEngine p (wordI 0x26 rd ra imm) true [ra] 1 fun s =>
    (s.setReg p rd (BitVec.ofNat 32 (e.pc + 1))).jumpTo p (e.reg ra + sx imm).toNat

/-! ### Port time, banks and special registers -/

/-- Port time: wall time in whole ns, modulo 2^32 (R368). -/
def State.portTime (s : State) : Word := BitVec.ofNat 32 (s.quartz.wall / subNs)

/-- A wall time as port time. -/
def toPort (w : Nat) : Word := BitVec.ofNat 32 (w / subNs)

/-- The full frame number that BANK_FRAME names: the one nearest to the frame in progress. -/
def State.fullFrame (s : State) (f32 : Word) : Nat :=
  (s.quartz.frame + (f32 - BitVec.ofNat 32 s.quartz.frame).toInt).toNat

/-- The bank of a set and slot. -/
def State.bankAt (s : State) (set : Nat) (k : Fin 4) : Option Bank := (s.video.compose.bank[set * 4 + k.1]?).getD none

/-- Kept banks, or a start image already rendered, serve every frame (R448, R450). -/
def State.bankHeld (s : State) : Bool :=
  s.rdN 0x2880 0x0D == 0 && s.video.compose.held != .recompose

/-- BANK_STATE of a frame and slot, and the bank that is read (Table 12.2, R275). -/
def State.bankState (s : State) (f : Nat) (k : Fin 4) : Nat × Option Bank :=
  let last := match s.video.compose.last[k] with
    | some set => s.bankAt set k
    | none => none
  let hit := [s.bankAt 0 k, s.bankAt 1 k].find? fun b => match b with
    | some b => b.frame == f && !b.writing
    | none => false
  let newer := match last with
    | some b => decide (f < b.frame)
    | none => false
  if s.bankHeld && last.isSome then (1, last)
  else match hit with
    | some b => (1, b)
    | none =>
      if s.video.compose.lastOver[k] == some f then (3, last)
      else if newer then (2, none)
      else (0, none)

/-- BANK_STATE and bank of an engine's BANK_FRAME and BANK_SLOT. -/
def State.engineBank (s : State) (p : Fin 64) : Nat × Option Bank :=
  let e := s.lamps.engine[p]
  s.bankState (s.fullFrame e.bankFrame) e.bankSlot.toFin

/-- The reference edge of a frame and slot at LD for an arm time in ps, in wall units of 2^-16 ns (R311, R365). -/
def State.refEdge (s : State) (f : Nat) (k : Nat) (arm : Nat) : Nat :=
  let t := s.setFor f
  t.tPresent f + (t.off[k]?).getD 0 * subNs - arm * subNs / 1000

/-- A port's GREY, RATE, MODE and SCAN_USED as CFG shows them. -/
def State.cfgWord (s : State) (p : Fin 64) : Nat :=
  let g := (s.genNow).getD s.staging
  let idx := 0x2A00 + p.1
  g.grey p + g.rdN idx 0x03 * 32 + s.lamps.port[p].mode * 128 + g.rdN idx 0x05 * 256

/-- RX_STATE (Table 12.2). -/
def Engine.rxState (e : Engine) : Nat :=
  match e.returns with
  | [] => bitAt e.overflow 2
  | r :: _ => r.crcClass + bitAt (e.overflow || r.cut) 2 + r.cmd * 256 + r.words.length * 65536

/-- A special register as RDS reads it; none for a selector that is not listed (R357). -/
def State.special (s : State) (p : Fin 64) (sel : Nat) : Option Nat :=
  let e := s.lamps.engine[p]
  let port := s.lamps.port[p]
  let g := (s.genNow).getD s.staging
  match sel with
  | 0x00 => some p.1
  | 0x01 => some (s.quartz.frame % 2 ^ 32)
  | 0x02 => some s.portTime.toNat
  | 0x03 => some (toPort (s.tFrame s.quartz.frame)).toNat
  | 0x04 => some s.quartz.set.s
  | 0x05 => some (s.cfgWord p)
  | 0x06 => some (g.lamps p)
  | 0x07 => some e.bankFrame.toNat
  | 0x08 => some e.bankSlot.toNat
  | 0x09 => some (s.engineBank p).1
  | 0x0A => some (toPort (s.refEdge (s.fullFrame e.bankFrame) e.bankSlot.toNat e.arm.toNat)).toNat
  | 0x0B => some e.arm.toNat
  | 0x0C => some e.channels.toNat
  | 0x0D => some (if e.budgetHit then 0 else 4096 - e.used)
  | 0x0E => some e.req.toNat
  | 0x0F | 0x10 => some 0
  | 0x11 => some e.rxState
  | 0x12 => some (bitAt port.schedReady 0 + port.schedSlot * 16 + port.schedTag * 256)
  | 0x13 => some (port.delays.headD 0)
  | _ => none

/-- RDS: rd = special register IMM; RA = g0; REQ clears when read (R357, R359). -/
def execPeRds (p : Fin 64) (rd ra : Fin 16) (imm : BitVec 18) (s : State) : Out1 :=
  match s.special p imm.toNat with
  | none => s.onEngine p (wordI 0x28 rd ra imm) false [] 1 id
  | some v =>
    s.onEngine p (wordI 0x28 rd ra imm) (ra == 0) [] 1 fun s =>
      let s := s.setReg p rd (BitVec.ofNat 32 v)
      if imm = 0x0E then s.withEngine p fun e => { e with req := 0, reqWaiting := false } else s

/-- Set the latch delays of a port from a loop delay in ps, SKEW_STATE 1 provisional, 2 calibrated; false where a LATCH_DLY
lies beyond 65,535 units, and nothing is set (R313, R314, R477). -/
def State.setLatches (s : State) (p : Fin 64) (l skew : Nat) : Bool × State :=
  let idx := 0x2A00 + p.1
  let r := s.lamps.port[p].latches (s.rdN idx 0x0F) l (s.trims p)
  if r.2.any fun d => decide (65535 < d.2) then (false, s)
  else (true, ((s.wrN idx 0x11 r.1).wrN idx 0x15 skew).withPort p fun q => { q with
    latch := r.2
    calDelay := if skew = 2 then some l else none })

/-- The latch delays that follow an enumeration, whose roll is given: the stored result where it was taken on this roll, else a
provisional one from the loop delay measured at the working rate; where none has been measured, the first that is (R314, R318,
R479). -/
def State.latchAfterEnum (s : State) (p : Fin 64) (roll : List Byte) : Bool × State :=
  let provisional (s : State) : Bool × State :=
    match s.lamps.port[p].fresh with
    | some l => s.setLatches p l 1
    | none => (true, (s.wrN (0x2A00 + p) 0x15 0).withPort p fun q => { q with latch := [], calDelay := none })
  match s.nvm.cal.ports[p] with
  | some (stored, crc) => if crc = crc32Nat roll then s.setLatches p stored 2 else provisional (s.raise 0x8205 (det p.1 1))
  | none => provisional s

/-- The latch delays of a port in RUN from a loop delay: provisional (SKEW_STATE 1) or calibrated (2); one out of range fails the
port with cause 6 (R313, R314, R477). -/
def State.useDelay (s : State) (p : Fin 64) (l skew : Nat) : State :=
  let (ok, s) := s.setLatches p l skew
  if ok then s else (s.failPort p).raise 0x6101 (det p.1 6)

/-- The walk in force maps two triples of the drivers found onto one lamp (R318 step 5, R363). -/
def State.walkFails (s : State) (p : Fin 64) : Bool :=
  let g := (s.genNow).getD s.staging
  !walkDistinct (g.walk p) (g.rect p).2.2.1 (g.rect p).2.2.2 g.prims (g.rdN (0x2A00 + p) 0x05) s.lamps.port[p]

/-- A field of a payload in transmission order. -/
def fieldAt (bs : List Bool) (off n : Nat) : Nat := bitsNat ((bs.drop off).take n)

/-- The entries that the devices filled of a ROLLCALL payload, 8 bytes each (Table 10.3). -/
def rollOf (bs : List Bool) : List Byte :=
  (List.range (min (fieldAt bs 0 8) (fieldAt bs 8 8))).flatMap fun i => beBytes 8 (fieldAt bs (16 + 64 * i) 64)

/-- Devices that a port in a mode may hold (R299). -/
def deviceLimit (mode : Nat) : Nat := if mode = 0 then 32 else 62

/-- The cause with which an enumeration that would enter RUN fails, 0 for none (R318, steps 2 to 5): the roll calls, the count
found (`n` where no roll call has returned), the drivers against the port's settings, and the walk. -/
def State.enumCause (s : State) (p : Fin 64) (n : Nat) : Nat :=
  let q := s.lamps.port[p]
  let g := (s.genNow).getD s.staging
  let idx := 0x2A00 + p.1
  let count := match q.rolls with
    | r :: _ => fieldAt r 0 8
    | [] => n
  let expect := s.rdN idx 0x07
  let fits (pos : Nat) : Bool := q.supports (g.grey p) (g.rdN idx 0x03) (g.rdN idx 0x05) pos && bit (q.reg pos 7) (12 + q.mode)
  if q.rollFault ≠ 0 then q.rollFault
  else if q.rolls.any fun r => q.rolls.head? != some r then 2
  else if count = 0 then 3
  else if deviceLimit q.mode < count then 7
  else if expect ≠ 0 ∧ count ≠ expect then 3
  else if q.drivers.any fun i => !fits i then 4
  else if q.mode = 0 ∧ q.drivers.any (fun i => q.drivers.any fun j => q.chans i != q.chans j) then 5
  else if s.walkFails p then 8
  else 0

/-- A write of RESULT (R318, R369): the port's STATE, the devices found, the publication, and event 0x6101 with its cause. A port
that would enter RUN is judged first, and its latch delays are computed (cause 6). DEVICES and ROLL keep the last good
enumeration's values (R15). -/
def State.takeResult (s : State) (p : Fin 64) (v : Word) : State :=
  let idx := 0x2A00 + p.1
  let q := s.lamps.port[p]
  let n := bits v.toNat 21 16
  let publishes := bit v.toNat 3
  let enters := bits v.toNat 2 0 == 3 && s.rdN idx 0x0A != 3
  let judged := if enters then s.enumCause p n else bits v.toNat 11 8
  let roll := match q.rolls with
    | r :: _ => rollOf r
    | [] => s.rdD idx 0x0E
  let (latched, s) := if enters && judged == 0 then
      let g := (s.genNow).getD s.staging
      (s.wrN idx 0x0F (if q.rate = 0xFF then g.rdN idx 0x03 else q.rate)).latchAfterEnum p roll
    else (true, s)
  let cause := if judged ≠ 0 then judged else if !latched then 6 else bits v.toNat 11 8
  let st := if enters && (judged != 0 || !latched) then 4 else bits v.toNat 2 0
  let good := cause == 0 && st != 4
  let s := if good && (publishes || enters) then (s.wrN idx 0x0D n).wrD idx 0x0E roll else s
  let s := s.wrN idx 0x0A st
  let s := if publishes then s.publish idx 0x0B 0x0C good else s
  let s := if st = 3 then s.withPort p fun q => { q with staticNext := q.staticNext || enters, retryAt := none }
    else if st = 4 then s.failPort p else s
  s.raiseIf (cause != 0) 0x6101 (det p.1 cause)

/-- WRS: special register IMM = ra; RD = g0; a read-only or unlisted selector is illegal (R357). -/
def execPeWrs (p : Fin 64) (rd ra : Fin 16) (imm : BitVec 18) (s : State) : Out1 :=
  let v := s.lamps.engine[p].reg ra
  let legal := rd == 0 && [0x07, 0x08, 0x0B, 0x0C, 0x0F, 0x10].contains imm.toNat
  s.onEngine p (wordI 0x29 rd ra imm) legal [ra] 1 fun s =>
    match imm.toNat with
    | 0x07 => s.withEngine p fun e => { e with bankFrame := v }
    | 0x08 => s.withEngine p fun e => { e with bankSlot := v.setWidth 2 }
    | 0x0B => (s.withEngine p fun e => { e with arm := v }).wrN (0x2A00 + p) 0x11 v.toNat
    | 0x0C => s.withEngine p fun e => { e with channels := v.setWidth 7 }
    | 0x0F => s.takeResult p v
    | _ => s.withEngine p fun e => { e with
      hkTemp := if bit v.toNat 16 && v.setWidth 16 != (0x8000 : BitVec 16) then some (v.setWidth 16).toInt else none }

/-! ### Waiting and the watchdog -/

/-- The conditions that hold of WAITE, as a mask (R368). -/
def State.conditions (s : State) (p : Fin 64) : Nat :=
  let e := s.lamps.engine[p]
  let bell := (List.finRange 128).any fun (i : Fin 128) =>
    s.hostPort.bind[i].valid && s.hostPort.bind[i].receiver.toNat == p.1 && s.hostPort.mailbox[i].doorbell
  bitAt e.reqWaiting 0 + bitAt ((s.engineBank p).1 != 0) 1 + bitAt e.boundary 2 + bitAt (!e.returns.isEmpty) 3 +
    bitAt bell 4 + bitAt (e.tx.isEmpty && e.gapUntil ≤ s.now) 5 + bitAt s.lamps.port[p].schedReady 6

/-- WAITE: wait for any condition in ra; rd = the conditions met; at once when one is met or none is selected
(R368). IMM is not used. -/
def execPeWaite (p : Fin 64) (rd ra : Fin 16) (imm : BitVec 18) (s : State) : Out1 :=
  let mask := s.lamps.engine[p].reg ra
  s.onEngine p (wordI 0x2A rd ra imm) (imm == 0) [ra] 1 fun s =>
    let s := s.withEngine p fun e => { e with boundary := false }
    let met := BitVec.ofNat 32 (s.conditions p) &&& mask
    if met ≠ 0 ∨ mask &&& 0x7F = 0 then s.setReg p rd met
    else s.withEngine p fun e => { e with wait := .cond mask rd }

/-- WAITE_COMPLETE. A selected condition is met, and WAITE returns the conditions met (R368). -/
def execWaiteComplete (p : Fin 64) (s : State) : Out1 :=
  let e := s.lamps.engine[p]
  match e.wait with
  | .cond mask rd =>
    let s := if e.tx.isEmpty && mask.getLsbD 5 && (BitVec.ofNat 32 (s.conditions p) &&& mask) == 0 then s.until_ e.gapUntil else s
    let met := BitVec.ofNat 32 (s.conditions p) &&& mask
    if !s.isTile || met = 0 then .next s
    else .next ((s.setReg p rd met).withEngine p fun e => { e with wait := .none, pc := (e.pc + 1) % 2048 })
  | _ => .next s

/-- An awaited time has come: (t − PT) mod 2^32 is 0 or at least 2^31 (R368). -/
def State.reached (s : State) (t : Word) : Bool := t == s.portTime || decide (2 ^ 31 ≤ (t - s.portTime).toNat)

/-- WAITT: wait until PT reaches ra; RD = g0, IMM = 0 (R368). -/
def execPeWaitt (p : Fin 64) (rd ra : Fin 16) (imm : BitVec 18) (s : State) : Out1 :=
  let t := s.lamps.engine[p].reg ra
  s.onEngine p (wordI 0x2B rd ra imm) (rd == 0 && imm == 0) [ra] 1 fun s =>
    if s.reached t then s else s.withEngine p fun e => { e with wait := .time t }

/-- WAITT_COMPLETE. PT reaches the awaited time (R368). -/
def execWaittComplete (p : Fin 64) (s : State) : Out1 :=
  match s.lamps.engine[p].wait with
  | .time t =>
    if !s.isTile then .next s
    else
      let s := if s.reached t then s
        else s.untilWall ((s.quartz.wall / subNs + (t - s.portTime).toNat) * subNs)
      .next (s.withEngine p fun e => { e with wait := .none, pc := (e.pc + 1) % 2048 })
  | _ => .next s

/-- WDK: restart the engine's watchdog; all fields zero (R359, R372). -/
def execPeWdk (p : Fin 64) (rd ra : Fin 16) (imm : BitVec 18) (s : State) : Out1 :=
  s.onEngine p (wordI 0x2C rd ra imm) (rd == 0 && ra == 0 && imm == 0) [] 1 fun s => s.withEngine p fun e => { e with wdkAt := s.now }

/-- ENGINE_WATCHDOG_EXPIRY. An engine whose port enumerates or runs has not executed WDK for 50 ms: cause 5 (R372). -/
def execEngineWatchdogExpiry (p : Fin 64) (s : State) : Out1 :=
  let e := s.lamps.engine[p]
  let st := s.rdN (0x2A00 + p) 0x0A
  if !s.isTile || e.run ≠ .running || st = 0 || st = 4 then .next s
  else .next ((s.until_ (e.wdkAt + 50 * ms)).engineFault p 5)

/-! ### The framer -/

/-- Payload bits of a frame that have left by a time, its MARK having left at `mark`. -/
def sentBits (mark now period len : Nat) : Nat := min len ((now - mark) / period - 10)

/-- Payload bits in the transmit FIFO (R355, R360). -/
def State.fifo (s : State) (p : Fin 64) : Nat :=
  let e := s.lamps.engine[p]
  let t := s.bitPeriod p
  let queued := (e.tx.map fun f => match f.markAt with
    | some m => f.bits.length - sentBits m s.now t f.bits.length
    | none => f.bits.length).sum
  let leaving := (e.line.map fun f => f.bits.length - sentBits (f.edgeAt - edgeBits f.bits.length * t) s.now t f.bits.length).sum
  queued + leaving

/-- The frame that is open, if one is: declared and not yet supplied with all its bits (R361). -/
def Engine.openFrame (e : Engine) : Option TxFrame := e.tx.find? fun t => decide (t.bits.length < t.len)

/-- The refresh ceiling withholds a SCHED frame (R333, Table 11.1). -/
def State.withholds (s : State) (p : Fin 64) (bits_ : List Bool) : Bool :=
  let f (off n : Nat) : Nat := bitsNat ((bits_.drop off).take n)
  tooFast (s.otp.shadow[p]).refresh (bits (s.cfgWord p) 13 8) (f 57 16) (f 73 8) (f 45 12)

/-- Bits that count towards the immediate budget: those of SCHED frames do not (R371). -/
def State.count (s : State) (p : Fin 64) (n : Nat) : State :=
  let e := s.lamps.engine[p]
  let used := min 4096 (e.used + n)
  let hit := e.budgetHit || decide (4096 < e.used + n)
  let s := s.withEngine p fun e => { e with used := used, budgetHit := hit }
  let s := s.wrN (0x2C10 + p) 0x05 (max (s.rdN (0x2C10 + p) 0x05) used)
  if hit then (s.bump (0x2C10 + p) 0x06 1).raiseLimited 0xA302 p.1 second fun _ => det p.1 used else s

/-- Change the last frame opened. -/
def State.withOpen (s : State) (p : Fin 64) (f : TxFrame → TxFrame) : State :=
  s.withEngine p fun e => { e with tx := match e.tx.reverse with
    | [] => []
    | t :: rest => (f t :: rest).reverse }

/-- Enumeration works at 50 Mbit/s up to its STATUS poll, which is sent at RATE (R318, step 8); the loop is measured anew at it. -/
def State.pollRate (s : State) (p : Fin 64) : State :=
  let r := ((s.genNow).getD s.staging).rdN (0x2A00 + p) 0x03
  s.withPort p fun q => { q with rate := r, fresh := none }

/-- Wall time at which the GAP of the last frame before a new one ends: what is on the line, then the frames that wait for it,
each as soon as it can leave (R361, R365). -/
def State.lineFree (s : State) (p : Fin 64) : Nat :=
  let e := s.lamps.engine[p]
  let t := s.bitPeriod p * subNs
  e.tx.foldl (fun at_ f => match f.ref with
    | some (_, _, edge) => edge + 9 * t
    | none => if f.gone then at_ else if f.cmd = 7 ∧ s.withholds p f.bits then at_ else at_ + (f.len + 35) * t)
    (s.quartz.wall + (e.gapUntil - s.now) * subNs)

/-- FOPEN: open a frame of CMD IMM[7:0], REF IMM[8], CAPTURE IMM[9] and ra[16:0] payload bits; rd = status
(R361, R365, R371). -/
def execPeFopen (p : Fin 64) (rd ra : Fin 16) (imm : BitVec 18) (s : State) : Out1 :=
  let e := s.lamps.engine[p]
  let cmd := bits imm.toNat 7 0
  let len := (e.reg ra).toNat % 131072
  s.onEngine p (wordI 0x30 rd ra imm) (bits imm.toNat 17 10 == 0) [ra] 1 fun s =>
    if e.openFrame.isSome then s.engineFault p 6
    else
      let f := s.fullFrame e.bankFrame
      let k := e.bankSlot.toNat
      let edge := s.refEdge f k e.arm.toNat
      let mark := edge - edgeBits len * s.bitPeriod p * subNs
      let isRef := imm.getLsbD 8
      let second_ := isRef && e.refs.contains (f, k)
      let late := isRef && !second_ && decide (mark < s.lineFree p)
      let t : TxFrame := {
        cmd := cmd, len := len, capture := imm.getLsbD 9,
        ref := if isRef && !late && !second_ then some (f, k, edge) else none,
        bits := [], dead := late || second_, zeros := false, counted := 0, withheld := false, markAt := none, gone := false }
      let s := s.withEngine p fun e => { e with
        tx := e.tx ++ [t], refs := if isRef && !second_ then ((f, k) :: e.refs).take 16 else e.refs }
      let s := s.setReg p rd (if late || second_ then 1 else 0)
      let s := if late then (s.bump (0x2C10 + p) 0x07 1).raise 0xA303 (det p.1 k) else s
      let s := s.raiseIf second_ 0xA305 (det p.1 k)
      let s := if cmd = 9 ∧ s.rdN (0x2A00 + p) 0x0A ≠ 3 ∧ s.lamps.port[p].rate = 0xFF then s.pollRate p else s
      if cmd = 7 then s
      else
        let s := s.count p 8
        if s.lamps.engine[p].budgetHit then s.withOpen p fun t => { t with zeros := true, dead := true } else s

/-- Append bits to the open frame; counted bits beyond the budget, and all later bits of the frame, go out as zeros
with a complemented CRC, and BUDGET_HITS counts the frame once (R361, R371); `pushed`: the bits come from TXB or TXF. -/
def State.append (s : State) (p : Fin 64) (bs : List Bool) (counts pushed : Bool) : State :=
  let e := s.lamps.engine[p]
  let room := if counts then 4096 - e.used else bs.length
  let beyond := counts && decide (4096 < e.used + bs.length)
  let told := e.budgetHit && (e.openFrame.map TxFrame.zeros).getD false
  let s := if counts && !told then s.count p bs.length else s
  let s := s.withOpen p fun t =>
    let kept := if t.zeros then [] else bs.take room
    { t with
      bits := t.bits ++ kept ++ List.replicate (bs.length - kept.length) false
      zeros := t.zeros || beyond, dead := t.dead || beyond, counted := t.counted + (if pushed then bs.length else 0) }
  s.finishFrame p

/-- The generation that an engine's bank belongs to. -/
def State.bankGen (s : State) (p : Fin 64) : Gen := (s.genFor (s.fullFrame s.lamps.engine[p].bankFrame)).getD s.staging

/-- The bits of a push, or none where it must stall for its bank (R360, R364). A staging word, of two codes in canonical order,
that reads uncorrectable delivers code 0 for both (R275); `bad` lists such words of the port. -/
def State.pushBits (s : State) (p : Fin 64) (u : Push) (bad : List Nat) : Option (List Bool) :=
  let e := s.lamps.engine[p]
  let (st, bank) := s.engineBank p
  let g := s.bankGen p
  let grey := g.grey p
  let code (n : Option Nat) : Nat := match n, bank with
    | some n, some b => if n < g.lamps p ∧ !bad.contains (n / 2) then b.read p n else 0
    | _, _ => 0
  match u with
  | .bits b _ => some b
  | .share pos line =>
    if st = 0 then none
    else some ((List.range e.channels.toNat).flatMap fun ch => msbBits grey (code (g.lampAt p pos ch line)))
  | .lamp n => if st = 0 then none else some (msbBits grey (code (some n)))
  | .sched pos => some (((s.lamps.port[p].sched.find? fun x => x.pos == pos).map Sched.body).getD [])

/-- Staging words that a push reads and that are bad are counted, with event 0x5309 at most once per second (R275). -/
def State.countBadWords (s : State) (p : Fin 64) (u : Push) (bad : List Nat) : State :=
  let e := s.lamps.engine[p]
  let g := s.bankGen p
  let lamps := match u with
    | .share pos line => (List.range e.channels.toNat).filterMap fun ch => g.lampAt p pos ch line
    | .lamp n => [n]
    | _ => []
  let hit := bad.filter fun w => lamps.any fun n => n / 2 == w && decide (n < g.lamps p)
  if hit = [] ∨ (s.engineBank p).2.isNone then s
  else (s.bump 0x2960 0x04 hit.length).raiseLimited 0x5309 0 second fun _ => det p.1 e.bankSlot.toNat

/-- How long a push keeps the transmit unit busy, in cycles (Table 12.4). -/
def pushBusy (u : Push) (n channels : Nat) : Nat :=
  match u with
  | .share .. => channels
  | .sched _ => ceilDiv n 32
  | _ => 0

/-- A push is done, or stalls (R360, R361): no frame open or too many bits is a frame protocol fault. -/
def State.push (s : State) (p : Fin 64) (u : Push) (bad : List Nat) : State :=
  let e := s.lamps.engine[p]
  match e.openFrame with
  | none => s.engineFault p 6
  | some t =>
    match s.pushBits p u bad with
    | none => s.withEngine p fun e => { e with stall := some u }
    | some bs =>
      if t.len < t.bits.length + bs.length then s.engineFault p 6
      else if s.now < e.busyUntil ∨ 2048 < s.fifo p + min bs.length 2048 then s.withEngine p fun e => { e with stall := some u }
      else
        let counts := match u with
          | .bits _ c => c
          | _ => false
        let busy := s.now + ceilDiv (pushBusy u bs.length e.channels.toNat * 5) 4
        let s := s.withEngine p fun e => { e with stall := none, busyUntil := busy }
        let pushed := match u with
          | .bits _ _ => true
          | _ => false
        (s.countBadWords p u bad).append p bs counts pushed

/-- CMD of the open frame, 0 for none. -/
def Engine.openCmd (e : Engine) : Nat := (e.openFrame.map TxFrame.cmd).getD 0

/-- TXB: push the low IMM[5:0] bits of ra, 1 to 32, most significant first; RD = g0 (R359, R371). -/
def execPeTxb (p : Fin 64) (rd ra : Fin 16) (imm : BitVec 18) (s : State) : Out1 :=
  let e := s.lamps.engine[p]
  let n := imm.toNat
  s.onEngine p (wordI 0x31 rd ra imm) (rd == 0 && 1 ≤ n && n ≤ 32) [ra] 1 fun s =>
    s.push p (.bits (msbBits n (e.reg ra).toNat) (e.openCmd != 7)) []

/-- TXF: push IMM[15:0] bits equal to IMM[16]; RD = RA = g0. They are exempt in CFGR, ROLLCALL and STATUS frames
(R359, R371). -/
def execPeTxf (p : Fin 64) (rd ra : Fin 16) (imm : BitVec 18) (s : State) : Out1 :=
  let e := s.lamps.engine[p]
  s.onEngine p (wordI 0x32 rd ra imm) (rd == 0 && ra == 0 && !imm.getLsbD 17) [] 1 fun s =>
    s.push p (.bits (List.replicate (bits imm.toNat 15 0) (imm.getLsbD 16)) (!(List.contains [0x04, 0x06, 0x07, 0x09] e.openCmd))) []

/-- TXSH: push the share of position ra for scan line rb; RD = g0. `bad`: staging words of the port that read uncorrectable. A position outside 1 to 62 or a line at or above
SCAN_USED is an operand fault (R364). -/
def execPeTxsh (p : Fin 64) (rd ra rb : Fin 16) (rsv : BitVec 14) (bad : List Nat) (s : State) : Out1 :=
  let e := s.lamps.engine[p]
  let pos := (e.reg ra).toNat
  let line := (e.reg rb).toNat
  s.onEngine p (wordR 0x33 rd ra rb rsv) (rd == 0 && rsv == 0) [ra, rb] 1 fun s =>
    if pos = 0 ∨ 62 < pos ∨ bits (s.cfgWord p) 13 8 ≤ line then s.engineFault p 7 else s.push p (.share pos line) bad

/-- TXL: push the code of canonical lamp ra; RD = RB = g0 (R364). `bad`: as in TXSH. -/
def execPeTxl (p : Fin 64) (rd ra rb : Fin 16) (rsv : BitVec 14) (bad : List Nat) (s : State) : Out1 :=
  let e := s.lamps.engine[p]
  s.onEngine p (wordR 0x34 rd ra rb rsv) (rd == 0 && rb == 0 && rsv == 0) [ra] 1 fun s => s.push p (.lamp (e.reg ra).toNat) bad

/-- TXS: push the SCHED BODY built for position ra; RD = RB = g0 (R367). -/
def execPeTxs (p : Fin 64) (rd ra rb : Fin 16) (rsv : BitVec 14) (s : State) : Out1 :=
  let e := s.lamps.engine[p]
  s.onEngine p (wordR 0x35 rd ra rb rsv) (rd == 0 && rb == 0 && rsv == 0) [ra] 1 fun s => s.push p (.sched (e.reg ra).toNat) []

/-- SLEN: rd = bits of the BODY built for position ra; RB = g0 (R367). -/
def execPeSlen (p : Fin 64) (rd ra rb : Fin 16) (rsv : BitVec 14) (s : State) : Out1 :=
  let pos := (s.lamps.engine[p].reg ra).toNat
  s.onEngine p (wordR 0x36 rd ra rb rsv) (rb == 0 && rsv == 0) [ra] 1 fun s =>
    s.setReg p rd (BitVec.ofNat 32 (((s.lamps.port[p].sched.find? fun x => x.pos == pos).map fun x => x.body.length).getD 0))

/-- PUSH_STALL_END. FIFO room, the transmit unit or the bank is there, and the stalled push goes on (R360). `bad`: as in
TXSH. -/
def execPushStallEnd (p : Fin 64) (bad : List Nat) (s : State) : Out1 :=
  let e := s.lamps.engine[p]
  match e.stall with
  | none => .next s
  | some u =>
    if !s.isTile then .next s
    else
      let s := s.until_ e.busyUntil
      let n := min 2048 ((s.pushBits p u bad).getD []).length
      let s := if s.fifo p + n ≤ 2048 ∨ (e.tx.all fun t => t.markAt.isNone) && e.line.isEmpty then s
        else s.pass ((s.fifo p + n - 2048) * s.bitPeriod p)
      .next ((s.push p u bad).withEngine p Engine.advance)

/-- A command of Table 10.2; the others are reserved, and the device never transmits one (R8). -/
def lampCommand (cmd : Nat) : Bool := decide (1 ≤ cmd ∧ cmd ≤ 9)

/-- A port enumerates or is being configured. -/
def State.enumerating (s : State) (p : Fin 64) : Bool := s.rdN (0x2A00 + p) 0x0A == 1 || s.rdN (0x2A00 + p) 0x0A == 2

/-- A frame of a port does not reach the line: that of a dark port, one with a reserved CMD, and the reference frame of a port
that sends no latch or whose enumeration is not complete (R8, R318, R328, R522; DESIGN CHOICE, log entries 111 and 112). -/
def State.withheld (s : State) (p : Fin 64) (t : TxFrame) : Bool :=
  s.portDark p || !lampCommand t.cmd || (t.ref.isSome && (s.latchless p || s.enumerating p))

/-- The head frame's MARK leaves at a device time. -/
def State.launch (s : State) (p : Fin 64) : State :=
  let s := s.withEngine p fun e => { e with tx := match e.tx with
    | [] => []
    | t :: rest => { t with markAt := some s.now, withheld := s.withheld p t } :: rest }
  s.finishFrame p

/-- The head frame of a port is due. A SCHED frame is checked first, whole, and is not sent where it would refresh faster than the
ceiling: its CMD and the bits of TXB and TXF then count towards the budget (R333, R371). True where it goes out. -/
def State.sendHead (s : State) (p : Fin 64) (t : TxFrame) (rest : List TxFrame) : Bool × State :=
  if t.cmd ≠ 7 then (true, s.launch p)
  else if t.bits.length < t.len then (false, s)
  else if s.withholds p t.bits then
    let s := (s.withEngine p fun e => { e with tx := rest }).count p (8 + t.counted)
    (false, (s.bump (0x2A00 + p) 0x36 1).raise 0x6202 (det p.1 (bitsNat (t.bits.take 8))))
  else (true, s.launch p)

/-- FRAME_LAUNCH. An open frame that is not a reference frame starts once the previous GAP has passed (R333, R361). -/
def execFrameLaunch (p : Fin 64) (s : State) : Out1 :=
  let e := s.lamps.engine[p]
  match e.tx with
  | [] => .next s
  | t :: rest =>
    if !s.isTile || t.ref.isSome || t.markAt.isSome then .next s
    else
      .next ((s.until_ e.gapUntil).sendHead p t rest).2

/-- The end of a start: START_MS, event 0x1001 or 0x1002, and event 0x1004 where the bound is missed; a restart after a
trip has no bound (R448, R451, R464). -/
def State.started (s : State) (bound : Nat) : State :=
  if !s.clocks.starting then s
  else
    let t := (s.now - s.clocks.startAt) / ms
    let s := { s with clocks := { s.clocks with starting := false } }
    let s := s.wrN 0x2D00 0x1B t
    let s := s.raiseWith (if s.clocks.startCold then 0x1001 else 0x1002) (0xFF + sat 0xFFFF t * 256)
      (leBytes 4 t ++ leBytes 1 (s.rdN 0x3100 0x10))
    s.raiseIf (decide (bound < t) && s.rdN 0x2D00 0x18 != 20) 0x1004 (det 0xFF (if s.clocks.startCold then 1 else 2))

/-- The first light of a tile's start (R448, R451). -/
def State.lights (s : State) : State := s.started (if s.clocks.startCold then 900 else 60)

/-- REFERENCE_FRAME_LAUNCH. The held MARK is released so that the last CRC bit's edge leaves at REF_TIME (R365);
blanking that is due to end ends here (R522). A SCHED frame is checked as any other (R333); a frame that does not go out lights
nothing. -/
def execReferenceFrameLaunch (p : Fin 64) (s : State) : Out1 :=
  let e := s.lamps.engine[p]
  match e.tx with
  | [] => .next s
  | t :: rest =>
    match t.ref, t.markAt with
    | some (_, _, edge), none =>
      if !s.isTile then .next s
      else
        let s := s.endBlanking
        let s := s.untilWall (edge - edgeBits t.len * s.bitPeriod p * subNs)
        let dark := s.withheld p t
        let (goes, s) := s.sendHead p t rest
        if dark || !goes then .next s else .next (s.withPort p fun q => { q with lit := true }).lights
    | _, _ => .next s

/-- FRAMER_UNDERRUN. The FIFO empties during a frame on the line: it completes with zeros and a complemented CRC, and stays open
until its last bit has been pushed (R361). -/
def execFramerUnderrun (p : Fin 64) (s : State) : Out1 :=
  let e := s.lamps.engine[p]
  match e.tx with
  | [] => .next s
  | t :: rest =>
    if !s.isTile || t.markAt.isNone || t.gone || t.len ≤ t.bits.length then .next s
    else
      let s := s.withEngine p fun e => { e with tx := killFrames [t] ++ rest }
      let s := ((s.bump (0x2C10 + p) 0x08 1).raise 0xA304 (det p.1 t.cmd)).finishFrame p
      .next (s.withEngine p fun e => { e with tx := { t with zeros := true, dead := true, gone := true } :: e.tx })

/-! ### Returns -/

/-- RXW: rd = the next captured word of the head return, all ones past its end; RA = RB = g0 (R366). -/
def execPeRxw (p : Fin 64) (rd ra rb : Fin 16) (rsv : BitVec 14) (s : State) : Out1 :=
  s.onEngine p (wordR 0x38 rd ra rb rsv) (ra == 0 && rb == 0 && rsv == 0) [] 1 fun s =>
    match s.lamps.engine[p].returns with
    | [] => s.setReg p rd 0xFFFFFFFF
    | r :: rest =>
      (s.setReg p rd ((r.words[r.read]?).getD 0xFFFFFFFF)).withEngine p fun e =>
        { e with returns := { r with read := min r.words.length (r.read + 1) } :: rest }

/-- RXD: drop the head return and free its words; all fields zero (R366). -/
def execPeRxd (p : Fin 64) (rd ra rb : Fin 16) (rsv : BitVec 14) (s : State) : Out1 :=
  s.onEngine p (wordR 0x39 rd ra rb rsv) (rd == 0 && ra == 0 && rb == 0 && rsv == 0) [] 1 fun s =>
    s.withEngine p fun e => { e with returns := e.returns.drop 1, overflow := false }

/-! ### Requests and loading -/

/-- A microcode image is valid (R374). -/
def microOk (b : List Byte) : Bool :=
  let n := field b 12 4
  let count := (byteAt b 6).toNat
  let ids := (List.range count).map fun i => byteAt b (64 + 64 * i)
  field b 0 4 == 0x504D4355 && field b 4 2 == 1 && byteAt b 7 == 0 && decide (1 ≤ count ∧ count ≤ 16) &&
    decide (68 + 64 * count ≤ n ∧ n ≤ b.length) && ((b.drop 16).take 48).all (· == 0) && decide ids.Nodup &&
    field b (n - 4) 4 == crc32Nat (b.take (n - 4)) &&
    (List.range count).all fun i =>
      let d := slice b (64 + 64 * i) 64
      let cw := field d 2 2
      let dw := field d 8 2
      let wo := field d 16 4
      decide (1 ≤ cw ∧ cw ≤ 2048 ∧ field d 4 4 + 4 * cw ≤ n ∧ dw ≤ 1024 ∧ field d 12 4 + 4 * dw ≤ n ∧
        field d 20 2 < cw ∧ field d 22 2 < cw ∧ (wo = 0 ∨ wo + 632 ≤ n))

/-- The words of a run of bytes, by address; zeros are not listed. -/
def wordsAt (b : List Byte) (off n : Nat) : Sparse Word :=
  (List.range n).foldl (fun m i => Sparse.set (fun _ => 0) m i (BitVec.ofNat 32 (field b (off + 4 * i) 4))) []

/-- The descriptor of a profile in a microcode image (Table 12.6). -/
def profileOf (b : List Byte) (id : Nat) : Option (List Byte) :=
  (((List.range (byteAt b 6).toNat).map fun i => slice b (64 + 64 * i) 64).find? fun d => (byteAt d 0).toNat == id)

/-- Copy a profile's default walk into 0x2C10+p:10 where that is empty: as staged, and as each generation in force or to come has it
(R375). -/
def State.defaultWalk (s : State) (p : Fin 64) (walk : List Byte) : State :=
  let s := if (s.rdD (0x2C10 + p) 0x10).isEmpty then s.wrD (0x2C10 + p) 0x10 walk else s
  s.withCompose fun c => { c with gens := c.gens.map fun g =>
    if (g.walk p).isEmpty then g.wr (0x2C10 + p) 0x10 (.data walk) else g }

/-- Load a profile into an engine and start it at ENTRY_COLD (R375). -/
def State.loadEngine (s : State) (p : Fin 64) (image : List Byte) : State :=
  let idx := 0x2A00 + p.1
  let id := s.rdN idx 0x06
  let mode := s.rdN idx 0x02
  let failWith (s : State) (v : Nat) : State :=
    ((s.withEngine p fun e => { e with run := .held }).failPort p).raise 0xA306 (det p.1 v)
  if s.lamps.dead.getLsbD p then (s.withEngine p fun e => { e with run := .held }).wrN idx 0x0A 4
  else if !microOk image then failWith s 0xFF
  else match profileOf image id with
    | none => failWith s id
    | some d =>
      if !bit (byteAt d 1).toNat mode then failWith s id
      else
        let s := s.withEngine p fun e => { Engine.reset with
          run := .running, pc := field d 20 2, imem := wordsAt image (field d 4 4) (field d 2 2), codeWords := field d 2 2,
          entryCold := field d 20 2, entryWarm := field d 22 2, dmem := wordsAt image (field d 12 4) (field d 8 2),
          profile := some id, line := e.line, gapUntil := e.gapUntil, wdkAt := s.now, req := e.req, reqWaiting := e.reqWaiting,
          used := e.used, budgetHit := e.budgetHit, cycles := e.cycles }
        let s := s.masterReset (BitVec.ofNat 7 p.1)
        let walk := field d 16 4
        if walk = 0 then s else s.defaultWalk p (slice image walk 632)

/-- Post ENUMERATE, unless BIST has failed the port's engine (R531): the port enumerates, its run begins and its verdicts are zeroed (R318, R345, R369). -/
def State.enumerate (s : State) (p : Fin 64) : State :=
  let idx := 0x2A00 + p.1
  if s.lamps.dead.getLsbD p then s else
  let s := (s.wrN idx 0x0A 1).startRun idx 0x0B
  let s := s.withPort p fun q => { q with
    verdict := [], swept := [], regs := [], missRun := 0, open_ := false, spreadTold := [], retryAt := none,
    staticNext := true, lit := false, rate := 0xFF, alerts := [], mode := s.rdN idx 0x02, fresh := none, rolls := [], rollFault := 0,
    probed := [], pollDue := false, spreadM := Vector.replicate 4 1 }
  let s := s.wrN idx 0x0F 0xFF
  let s := s.withEngine p fun e => { e with wdkAt := s.now }
  s.request p 1 0

/-- Put a frame that a port's line carries still in its place in the outputs, its CRC complemented (R376). -/
def complementLast (p : Fin 64) (pulses : List (Nat × Nat)) : List Out → List Out
  | [] => []
  | .lampFrame q old dead :: rest =>
    if q = p then .lampFrame q (if dead then old else pulses) true :: rest
    else .lampFrame q old dead :: complementLast p pulses rest
  | o :: rest => o :: complementLast p pulses rest

/-- A frame whose last CRC bit has not left at a warm reset completes with a complemented CRC (R376). -/
def State.complementLine (s : State) (p : Fin 64) : State :=
  match s.lamps.engine[p].line.getLast? with
  | none => s
  | some f =>
    if f.edgeAt ≤ s.now then s
    else { s with sent := (complementLast p (lampPulses (s.bitPeriod p) (lampLine f.cmd f.bits true)) s.sent.reverse).reverse }

/-- Words of the engines' memories become uncorrectable: port and word, that of data memory by its address + 2,048 (R355). -/
def State.damageEngines (s : State) (errors : List (Nat × Nat)) : State :=
  errors.foldl (fun s x => if h : x.1 < 64 then s.withEngine ⟨x.1, h⟩ fun e => { e with damaged := x.2 :: e.damaged.filter (· != x.2) } else s) s

/-- STOP. The supervisor posts STOP: finish the frame on the line, then send nothing (R369). -/
def execStop (p : Fin 64) (s : State) : Out1 := if s.isTile then .next (s.request p 2 0) else .next s

/-- REPOLL. The supervisor posts REPOLL for the warm-start poll (R318, R369). -/
def execRepoll (p : Fin 64) (s : State) : Out1 := if s.isTile then .next (s.request p 3 0) else .next s

/-- APPLY. The supervisor posts APPLY naming the frame at which the port's lamp settings change (R369). -/
def execApply (p : Fin 64) (frame : Nat) (s : State) : Out1 := if s.isTile then .next (s.request p 4 frame) else .next s

/-- A port is disabled: the open frame completes with zeros and a complemented CRC, LD is held low and the engine is
held at its warm entry (R369). -/
def State.disablePort (s : State) (p : Fin 64) : State :=
  let s := (s.killTx p).withEngine p fun e => { e with run := .held, pc := e.entryWarm }
  (s.wrN (0x2A00 + p) 0x0A 0).withPort p fun q => { q with on := false, lit := false, retryAt := none }

/-- Clear counters of an engine (R377). -/
def State.clearEngine (s : State) (p : Fin 64) : State := s.zero (0x2C10 + p) [0x04, 0x05, 0x06, 0x07, 0x08, 0x09]

end Sys2Proof.Machine
end

