-- ==== Sys2Proof/Machine/Flash.lean ====
section
/-! DEFINITION. The flash and its controller: areas, the queue of programs and erases, the write-rate limiter, the
protection of areas, and the boot pointers (R468 to R470, R504, R523 to R525). -/

namespace Sys2Proof.Machine

open Host

/-! ### Areas (Table 17.1) -/

/-- Boot pointer copies. -/
def ptrArea (c : Nat) : Nat := 0x1000 * c

/-- Calibration copies. -/
def calArea (c : Nat) : Nat := 0x10000 + 0x8000 * c

/-- Settings areas. -/
def settingsArea (c : Nat) : Nat := 0x20000 + 0x70000 * c

/-- Black-box slots. -/
def bbArea (slot : Nat) : Nat := 0xC00000 + 256 * slot

/-- Image slots. -/
def imageArea (slot : Nat) : Nat := 0x1000000 * (1 + slot)

/-- Where the blocks of a service target go: an image slot, correction A or B, the start image (R500). -/
def targetArea (target slot : Nat) : Nat :=
  match target with
  | 0 => imageArea slot
  | 1 => 0x400000
  | 2 => 0x800000
  | _ => startArea

/-- Bytes of a target's area. -/
def targetSize : Nat → Nat
  | 0 => 0x1000000
  | 1 | 2 => 0x400000
  | _ => 0x300000

/-! ### Contents -/

/-- Change the flash and its bookkeeping. -/
def State.withNvm (s : State) (f : Nvm → Nvm) : State := { s with nvm := f s.nvm }

/-- Contents with some bytes replaced; erased bytes are not listed. -/
def flashPut (addr : Nat) (bytes : List Byte) (m : Sparse Byte) : Sparse Byte :=
  (m.filter fun e => decide (e.1 < addr)) ++
  ((List.zipIdx bytes).filterMap fun e => if e.1 = 0xFF then none else some (addr + e.2, e.1)) ++
  (m.filter fun e => decide (addr + bytes.length ≤ e.1))

/-- Black-box slots that are not erased, rising. -/
def State.usedSlots (s : State) : List Nat :=
  ((s.nvm.flash.filter fun e => decide (bbArea 0 ≤ e.1 ∧ e.1 < bbArea 16384)).map fun e => (e.1 - bbArea 0) / 256).dedup

/-- A black-box slot reads fully erased. -/
def State.slotErased (s : State) (slot : Nat) : Bool :=
  !(s.nvm.flash.any fun e => decide (bbArea slot ≤ e.1 ∧ e.1 < bbArea (slot + 1)))

/-! ### Boot pointers (Table 18.7) -/

/-- A boot pointer. -/
structure BootPointer where
  /-- 0 ACTIVE, 1 TRIAL, 2 CONFIRMED. -/
  state : Nat
  slot : Nat
  /-- Slot to revert to; 0xFF none. -/
  fallback : Nat
  tries : Nat
  mode : Nat
  seq : Nat
  digest : List Byte
  gen : Nat
  deriving DecidableEq, Repr

/-- The bytes of a pointer copy. -/
def BootPointer.bytes (b : BootPointer) : List Byte :=
  let head := leBytes 4 0x424F4F54 ++ leBytes 2 1 ++ leBytes 1 b.state ++ leBytes 1 b.slot ++ leBytes 1 b.fallback ++
    leBytes 1 b.tries ++ leBytes 1 b.mode ++ [0] ++ leBytes 4 b.seq ++ padTo 32 b.digest ++ leBytes 4 b.gen
  let body := padTo 4092 head
  body ++ leBytes 4 (crc32Nat body)

/-- The pointer that 4 KiB of flash hold, if it is valid. -/
def bootPointerOf (b : List Byte) : Option BootPointer :=
  if field b 0 4 == 0x424F4F54 && field b 4 2 == 1 && field b 4092 4 == crc32Nat (b.take 4092) then
    some {
      state := field b 6 1, slot := field b 7 1, fallback := field b 8 1, tries := field b 9 1, mode := field b 10 1,
      seq := field b 12 4, digest := slice b 16 32, gen := field b 48 4 }
  else none

/-- The valid copy with the higher SEQ, and which copy it is (R504). -/
def State.pointerCopy (s : State) : Option (BootPointer × Nat) :=
  match bootPointerOf (s.flash (ptrArea 0) 4096), bootPointerOf (s.flash (ptrArea 1) 4096) with
  | some a, some b => if a.seq < b.seq then some (b, 1) else some (a, 0)
  | some a, none => some (a, 0)
  | none, some b => some (b, 1)
  | none, none => none

/-- The pointer in force; without a valid copy, ACTIVE to the slot that was booted. -/
def State.pointer (s : State) : BootPointer :=
  match s.pointerCopy with
  | some p => p.1
  | none => {
      state := 0, slot := s.rdN 0x3100 0x10, fallback := 0xFF, tries := 0, mode := 0, seq := 0,
      digest := [], gen := s.rdN 0x3000 0x03 }

/-- The slot that is not in force: updates are written there (R500). -/
def State.inactiveSlot (s : State) : Nat := 1 - s.pointer.slot

/-! ### The write-rate limiter (R523) -/

/-- The bucket counts in units of a byte's 3.6 × 10^12th part, so that its refill is exact. -/
def bucketUnit : Nat := 3600 * second

/-- The allowance, bytes per hour: the lower of OTP FLASH_RATE and FLASH_RATE_SET. -/
def State.allowance (s : State) : Nat := min s.otp.flashRate (s.rdN 0x3200 0x10) * 1048576

/-- Refill the bucket up to now; it holds at most one hour's allowance. -/
def State.refillBucket (s : State) : State :=
  s.withNvm fun n => { n with
    bucket := min (s.allowance * bucketUnit) (n.bucket + (s.now - n.bucketAt) * s.allowance)
    bucketAt := s.now }

/-- Take programmed bytes from the bucket. -/
def State.charge (s : State) (n : Nat) : State :=
  let s := s.refillBucket
  s.withNvm fun v => { v with bucket := v.bucket - n * bucketUnit }

/-- Whether the bucket holds some bytes. -/
def State.bucketHolds (s : State) (bytes : Nat) : Bool := decide (bytes * bucketUnit ≤ s.refillBucket.nvm.bucket)

/-- The row of Table 19.2 of an address: what events 0xA103 and 0xA104 name. -/
def areaRow (addr : Nat) : Nat :=
  if addr < 0x2000 then 1 else if addr < 0x10000 then 2 else if addr < 0x20000 then 3 else if addr < 0x100000 then 4
  else if addr < 0xC00000 then 5 else if addr < 0x1000000 then 6 else if addr < 0x3000000 then 7 else 8

/-- Count and report a refusal (R523). -/
def State.refuseWrite (s : State) (addr : Nat) : State :=
  (s.bump 0x3200 0x12 1).raiseLimited 0xA103 0 (60 * second) fun _ => det (areaRow addr) 0

/-- Whether the limiter refuses a writer that may not use the last 1 MiB; a refusal is counted and reported. -/
def State.limited (s : State) (addr : Nat) : Bool × State :=
  if s.bucketHolds 1048576 then (false, s)
  else (true, s.refuseWrite addr)

/-! ### The queue (R470) and the protection of areas (R524, R525) -/

/-- The address of a step, and its bytes. -/
def FlashStep.range : FlashStep → Nat × Nat
  | .erase a n => (a, n)
  | .program a b => (a, b.length)

/-- Whether a range lies in an area. -/
def within (r : Nat × Nat) (base size : Nat) : Bool := decide (base ≤ r.1 ∧ r.1 + r.2 ≤ base + size)

/-- Whether the controller accepts a step from the writer that a job stands for (Table 19.2, R525). -/
def State.allows (s : State) (u : FlashPurpose) (x : FlashStep) : Bool :=
  let r := x.range
  match u with
  | .pointer _ => within r 0 0x2000
  | .cal _ => within r 0x10000 0x10000
  | .settings _ _ => within r 0x20000 0xE0000
  | .bbCommit _ slot => r == (bbArea slot, 256) && decide (slot < 16384) && s.slotErased slot
  | .bbAhead => within r (bbArea 256) (256 * 16128) && r.2 == 4096
  | .bbPinned => within r (bbArea 0) 0x10000
  | .block _ _ =>
    let p := s.pointer
    let active := s.rdN 0x2930 0x02
    within r startArea 0x300000 ||
    (within r 0x400000 0x400000 && active != 0) || (within r 0x800000 0x400000 && active != 1) ||
    ((List.range 2).any fun n => within r (imageArea n) 0x1000000 && n != p.slot && !(p.state != 0 && n == p.fallback)) ||
    within r 0x3000000 0x1000000

/-- Issue the first waiting step, if the flash is idle and the window is open (R465, R470). -/
def State.issueFlash (s : State) : State :=
  if s.windowOpen && !s.nvm.issued && !s.nvm.jobs.isEmpty then s.withNvm fun n => { n with issued := true } else s

/-- The place of a new job: after those of its priority and higher. -/
def placeJob (j : FlashJob) (l : List FlashJob) : List FlashJob :=
  (l.takeWhile fun x => decide (x.prio ≤ j.prio)) ++ j :: (l.dropWhile fun x => decide (x.prio ≤ j.prio))

/-- The place of a job that goes on: before those of its priority. -/
def resumeJob (j : FlashJob) (l : List FlashJob) : List FlashJob :=
  (l.takeWhile fun x => decide (x.prio < j.prio)) ++ j :: (l.dropWhile fun x => decide (x.prio < j.prio))

/-- Put a job into the queue, unless the controller denies one of its steps (R524); an operation in progress keeps its
place. -/
def State.addJob (s : State) (j : FlashJob) : Bool × State :=
  match j.steps.find? fun x => !s.allows j.purpose x with
  | some x => (false, (s.bump 0x3200 0x13 1).raise 0xA104 (det (areaRow x.range.1) 0))
  | none =>
    let s := s.withNvm fun n => { n with
      jobs := if n.issued then n.jobs.take 1 ++ placeJob j (n.jobs.drop 1) else placeJob j n.jobs }
    (true, s.issueFlash)

/-- Programs of 256-byte pages. -/
def pageSteps (addr : Nat) (bytes : List Byte) : List FlashStep :=
  (List.zipIdx (chunks 256 (bytes.length / 256 + 1) bytes)).map fun e => .program (addr + 256 * e.2) e.1

/-- Erases of 4 KiB sectors. -/
def sectorErases (addr n : Nat) : List FlashStep := (List.range n).map fun i => .erase (addr + 4096 * i) 4096

/-- A writer of the given purpose has a job waiting or running. -/
def State.hasJob (s : State) (p : FlashPurpose → Bool) : Bool := s.nvm.jobs.any fun j => p j.purpose

/-- Calibration kinds wait for storage: PENDING_STORE shows them, and each raises event 0x8204 as it appears (R477). -/
def State.deferKinds (s : State) (mask : Nat) : State :=
  let old := s.rdN 0x2F00 0x19
  let s := s.wrN 0x2F00 0x19 (old ||| mask)
  (List.range 3).foldl (fun s k => s.raiseIf (bit mask k && !bit old k) 0x8204 (det (k + 1) 0)) s

/-- The calibration copy being written waits, because the window has closed (R477). -/
def State.deferCal (s : State) : State :=
  s.nvm.jobs.foldl (fun s j => match j.purpose with
    | .cal m => s.deferKinds m
    | _ => s) s

/-- Write a pointer over the copy not in force, with the next SEQ (R504). `next` says what follows. -/
def State.writePointer (s : State) (b : BootPointer) (next : Nat) : State :=
  let c := match s.pointerCopy with
    | some p => 1 - p.2
    | none => 0
  let b := { b with seq := s.pointer.seq + 1 }
  (s.addJob { prio := 1, purpose := .pointer next, steps := .erase (ptrArea c) 4096 :: pageSteps (ptrArea c) b.bytes }).2

/-- Carry out a step on the contents: an erase gives 0xFF; a program clears bits, and is verified by reading it back. Where
the operation does not succeed, the range is left with free values (R470). -/
def State.doStep (s : State) (x : FlashStep) (ok : Bool) : Bool × State :=
  let r := x.range
  let old := s.flash r.1 r.2
  let want := match x with
    | .erase _ n => List.replicate n 0xFF
    | .program _ b => b
  let got := match x with
    | .erase _ _ => want
    | .program _ b => List.zipWith (fun o w => o &&& w) old b
  let s := match x with
    | .erase _ _ => s
    | .program _ b => s.charge b.length
  if ok then (got == want, s.withNvm fun n => { n with flash := flashPut r.1 got n.flash })
  else
    let left := (List.range r.2).map fun i => Config.freeByte (s.freeCount + i)
    (false, { s with
      nvm := { s.nvm with flash := flashPut r.1 left s.nvm.flash }
      freeCount := s.freeCount + r.2 })

end Sys2Proof.Machine
end

