-- ==== Sys2Proof/Machine/Image.lean ====
section
/-! DEFINITION. Images in flash: the manifest and its parts (R501, R502), settings generations (R471 to R474) and the migration
of settings (R509). -/

namespace Sys2Proof.Machine

open Host

/-! ### Manifest and parts -/

/-- A part of an image (Table 18.5). -/
structure ImagePart where
  type : Nat
  flags : Nat
  version : Nat
  offset : Nat
  size : Nat
  digest : List Byte
  deriving DecidableEq, Repr

/-- The parts that a manifest lists. -/
def partsOf (m : List Byte) : List ImagePart :=
  (List.range (min 16 (byteAt m 6).toNat)).map fun i =>
    let d := slice m (64 + 48 * i) 48
    { type := field d 0 1, flags := field d 1 1, version := field d 4 4, offset := field d 8 4, size := field d 12 4,
      digest := slice d 16 32 }

/-- The manifest in a slot. -/
def State.manifest (s : State) (slot : Nat) : List Byte := s.flash (imageArea slot) 4096

/-- A manifest digest: SHA-256 of bytes 0 to 895 (R501). -/
def manifestDigest (m : List Byte) : List Byte := sha256 (m.take 896)

/-- The bytes of a part of a slot. -/
def State.partBytes (s : State) (slot : Nat) (p : ImagePart) : List Byte := s.flash (imageArea slot + p.offset) p.size

/-- The bytes of the first part of a type in a slot; empty where there is none. -/
def State.part (s : State) (slot type : Nat) : List Byte :=
  match (partsOf (s.manifest slot)).find? fun p => p.type == type with
  | some p => s.partBytes slot p
  | none => []

/-- The image's microcode, scaler library and migration rules in force. -/
def State.microcode (s : State) : List Byte := s.part (s.rdN 0x3100 0x10) 3

/-- The settings schema of the image in force. -/
def State.imageSchema (s : State) : Nat := field (s.manifest (s.rdN 0x3100 0x10)) 12 2

/-- How many parts of each type an image holds (Table 18.6). -/
def partCountsOk (ps : List ImagePart) : Bool :=
  ([1, 2, 3, 5, 6, 7].all fun t => (ps.filter fun p => p.type == t).length == 1) &&
  decide ((ps.filter fun p => p.type == 4).length ≤ 10) && ps.all fun p => 1 ≤ p.type && p.type ≤ 7

/-- Parts are aligned, inside the image and apart (R502, cause 6). -/
def partsPlaced (ps : List ImagePart) (length : Nat) : Bool :=
  (ps.all fun p => decide (4096 ≤ p.offset) && p.offset % 4096 == 0 && decide (p.offset + p.size ≤ length)) &&
  (List.range ps.length).all fun i => (List.range ps.length).all fun j =>
    match ps[i]?, ps[j]? with
    | some a, some b => i == j || decide (a.offset + a.size ≤ b.offset ∨ b.offset + b.size ≤ a.offset)
    | _, _ => true

/-- The fields that a manifest keeps zero. -/
def manifestZeros (m : List Byte) : Bool :=
  let n := (byteAt m 6).toNat
  byteAt m 15 == 0 && ((m.drop 20).take 44).all (· == 0) && ((m.drop (64 + 48 * n)).take (768 - 48 * n)).all (· == 0) &&
    (m.drop 896).all (· == 0) && (List.range n).all fun i => field m (64 + 48 * i + 2) 2 == 0

/-- Why a manifest is refused, 0 where it is not, in the order of R502. -/
def State.manifestCause (s : State) (m digest : List Byte) : Nat :=
  let n := (byteAt m 6).toNat
  let length := field m 16 4
  let owner := s.rdD 0x3300 0x10
  let key := if byteAt m 7 = 0 then beBytes 32 s.otp.signKey.toNat else owner
  if field m 0 4 ≠ 0x554C4D46 ∨ field m 4 2 ≠ 1 ∨ n < 6 ∨ 16 < n ∨ length % 4096 ≠ 0 ∨ 0x1000000 < length ∨ !manifestZeros m then 1
  else if manifestDigest m ≠ digest then 2
  else if (byteAt m 7).toNat = 1 ∧ owner = [] ∨ 1 < (byteAt m 7).toNat then 4
  else if !ed25519Verify key ((m.drop 832).take 64) (m.take 832) then 3
  else if Config.siliconRev < (byteAt m 14).toNat then 5
  else if !partCountsOk (partsOf m) || !partsPlaced (partsOf m) length then 6
  else 0

/-- A slot holds a whole image: its manifest and the digest of every part stand. -/
def State.slotOk (s : State) (slot : Nat) : Bool :=
  let m := s.manifest slot
  field m 0 4 == 0x554C4D46 && s.manifestCause m (manifestDigest m) == 0 &&
    (partsOf m).all fun p => sha256 (s.partBytes slot p) == p.digest

/-! ### Settings generations (Table 17.2) -/

/-- An entry: index, sub-index and the bytes of its value. -/
structure SetEntry where
  index : Nat
  sub : Nat
  value : List Byte
  deriving DecidableEq, Repr

/-- The group of an object: 1 communication, 2 INTEGRATOR and SERVICE, 3 OPERATOR, 4 protected (R403, Table 17.2). -/
def settingGroup (role : Role) (idx sub : Nat) : Nat :=
  if idx = 0x3300 ∧ (sub = 0x10 ∨ sub = 0x11) then 4
  else if 0x1000 ≤ idx ∧ idx ≤ 0x1FFF ∨ idx = 0x2002 ∨ idx = 0x2003 then 1
  else match odFind role idx sub with
    | some r => if r.lvl == .operator then 3 else 2
    | none => 2

/-- rw objects that are no settings: those held per context, actions on the settings themselves, the error history, records
of a moment, and memories that each cold start fills anew (DEDUCED, log entry 74). -/
def notSetting (idx sub : Nat) : Bool :=
  idx == 0x1003 || idx == 0x1010 || idx == 0x1011 || (idx == 0x2210 && sub ≤ 2) || (idx == 0x3000 && (sub == 0x14 || sub == 0x17)) ||
  (idx == 0x2A80 && sub == 7) || (idx == 0x2510 && sub == 1) || (idx == 0x2880 && sub == 7) || (idx == 0x3200 && sub == 3) ||
  (0x2850 ≤ idx && idx ≤ 0x285F) || (0x2920 ≤ idx && idx ≤ 0x2927)

/-- An object is a setting in a role (R403). -/
def isSetting (role : Role) (idx sub : Nat) : Bool :=
  match odFind role idx sub with
  | some r => r.acc == .rw && !notSetting idx sub
  | none => false

/-- The bytes of a value of a type. -/
def Val.bytes (v : Val) (size : Nat) : List Byte :=
  match v with
  | .num n => leBytes size (n % (256 ^ size : Nat)).toNat
  | .data b => b

/-- The value that bytes of a type's length spell. -/
def OdTy.value (ty : OdTy) (b : List Byte) : Val :=
  if ty.isData then .data b else .num (if ty.signed then sfield b 0 ty.size else field b 0 ty.size)

/-- The length of a value fits its type (check 7 of R561). -/
def OdTy.fits (ty : OdTy) (n : Nat) : Bool :=
  match ty with
  | .dom d => d.ok n
  | .str => true
  | ty => n == ty.size

/-- The settings in RAM of some groups, as entries. An object at its default has none (DEDUCED, log entry 74). -/
def State.ramEntries (s : State) (group : Nat → Bool) : List SetEntry :=
  s.od.filterMap fun e =>
    let idx := e.1 / 256
    let sub := e.1 % 256
    if isSetting s.role idx sub && group (settingGroup s.role idx sub) then
      some { index := idx, sub := sub, value := e.2.bytes (s.width idx sub) }
    else none

/-- The bytes of an entry. -/
def SetEntry.bytes (e : SetEntry) (role : Role) : List Byte :=
  leBytes 2 e.index ++ leBytes 1 e.sub ++ leBytes 1 (settingGroup role e.index e.sub) ++ leBytes 2 e.value.length ++ [0, 0] ++
    padTo ((e.value.length + 3) / 4 * 4) e.value

/-- The entries in some bytes. -/
def entriesIn : Nat → List Byte → List SetEntry
  | 0, _ => []
  | fuel + 1, b =>
    if b.length < 8 then []
    else
      let n := field b 4 2
      { index := field b 0 2, sub := field b 2 1, value := slice b 8 n } :: entriesIn fuel (b.drop (8 + (n + 3) / 4 * 4))

/-- A generation. -/
structure SetGen where
  schema : Nat
  gen : Nat
  entries : List SetEntry
  deriving DecidableEq, Repr

/-- The bytes of a generation. -/
def SetGen.bytes (g : SetGen) (role : Role) : List Byte :=
  let body := g.entries.flatMap fun e => e.bytes role
  let b := leBytes 4 0x53455454 ++ leBytes 2 1 ++ leBytes 2 g.schema ++ leBytes 4 g.gen ++ leBytes 4 body.length ++ body
  b ++ leBytes 4 (crc32Nat b)

/-- The valid generation in a settings area, if any (R471). -/
def State.setGen (s : State) (c : Nat) : Option SetGen :=
  let head := s.flash (settingsArea c) 16
  let n := field head 12 4
  if field head 0 4 ≠ 0x53455454 ∨ field head 4 2 ≠ 1 ∨ 0x70000 < 20 + n then none
  else
    let b := s.flash (settingsArea c) (20 + n)
    if field b (16 + n) 4 ≠ crc32Nat (b.take (16 + n)) then none
    else some { schema := field b 6 2, gen := field b 8 4, entries := entriesIn n (slice b 16 n) }

/-- The generation in force: the valid one with the higher GEN, and its area (R472). -/
def State.setInForce (s : State) : Option (SetGen × Nat) :=
  match s.setGen 0, s.setGen 1 with
  | some a, some b => if a.gen < b.gen then some (b, 1) else some (a, 0)
  | some a, none => some (a, 0)
  | none, some b => some (b, 1)
  | none, none => none

/-- Insert an entry in the order of a generation, index first. -/
def insertEntry (e : SetEntry) : List SetEntry → List SetEntry
  | [] => [e]
  | x :: xs =>
    if e.index * 256 + e.sub ≤ x.index * 256 + x.sub then e :: x :: xs else x :: insertEntry e xs

/-- Entries in the order of a generation. -/
def sortEntries (l : List SetEntry) : List SetEntry := l.foldr insertEntry []

/-- Erase the area not in force and program a generation into it (R473). `kind`: 0 store, 1 restore, 2 factory, 3 migration. -/
def State.writeSettings (s : State) (entries : List SetEntry) (schema kind : Nat) : State :=
  let (gen, area) := match s.setInForce with
    | some g => (g.1.gen + 1, 1 - g.2)
    | none => (1, 0)
  let g : SetGen := { schema := schema, gen := gen, entries := sortEntries entries }
  let a := settingsArea area
  let erases := (List.range 7).map fun i => FlashStep.erase (a + 0x10000 * i) 0x10000
  (s.addJob { prio := 3, purpose := .settings gen kind, steps := erases ++ pageSteps a (g.bytes s.role) }).2

/-- A settings generation is being written. -/
def State.storing (s : State) : Bool :=
  s.hasJob fun p => match p with
    | .settings _ _ => true
    | _ => false

/-- Why a store, restore or factory reset is refused, 0 where it is not (R403, R470, R474). -/
def State.storeCheck (s : State) : Nat × State :=
  if s.pointer.state ≠ 0 || s.storing then (abState, s)
  else if !s.windowOpen then (abCannot, s)
  else
    let l := s.limited (settingsArea 0)
    (if l.1 then abCannot else 0, l.2)

/-- Entries of the generation in force of some groups. -/
def State.oldEntries (s : State) (group : Nat → Bool) : List SetEntry :=
  match s.setInForce with
  | some g => g.1.entries.filter fun e => group (settingGroup s.role e.index e.sub)
  | none => []

/-- The groups that a sub-index of 0x1010 or 0x1011 names: all, communication, INTEGRATOR and SERVICE, OPERATOR. -/
def groupsOf (sub g : Nat) : Bool := sub == 1 || g + 1 == sub

/-- A write of "save" to 0x1010 (R403, R473). -/
def State.storeWrite (s : State) (sub : Nat) : Nat × State :=
  let (code, s) := s.storeCheck
  if code ≠ 0 then (code, s)
  else (0, s.writeSettings (s.ramEntries (groupsOf sub) ++ s.oldEntries fun g => !groupsOf sub g) s.imageSchema 0)

/-- The access levels: DEFAULT_CAN, DEFAULT_UDP and DEFAULT_HOST (Table 13.2). -/
def isAccessLevel (idx sub : Nat) : Bool := idx == 0x3300 && decide (0x06 ≤ sub ∧ sub ≤ 0x08)

/-- The entries that a restore leaves: those of the other groups, and the access levels, from the generation in force; the owner's
settings as they stand (R385, R403, R473). -/
def State.keptEntries (s : State) (sub : Nat) : List SetEntry :=
  s.ramEntries (· == 4) ++ (s.oldEntries (· != 4)).filter fun e =>
    isAccessLevel e.index e.sub || !groupsOf sub (settingGroup s.role e.index e.sub)

/-- A write of "load" to 0x1011: the group's entries are left out; access levels and owner settings stay (R385, R403, R473). -/
def State.restoreWrite (s : State) (sub : Nat) : Nat × State :=
  let (code, s) := s.storeCheck
  if code ≠ 0 then (code, s)
  else (0, s.writeSettings (s.keptEntries sub) s.imageSchema 1)

/-- A write of "fact" to FACTORY_RESET; the cold reset follows once the generation stands (R473). -/
def State.factoryWrite (s : State) : Nat × State :=
  let (code, s) := s.storeCheck
  if code ≠ 0 then (code, s)
  else (0, (s.raise 0x8103 (det 0xFF 0)).writeSettings (s.ramEntries (· == 4)) s.imageSchema 2)

/-- Take an entry into RAM at a cold start; one that the image does not hold or whose value is out of range is skipped
(R472). -/
def State.loadEntry (s : State) (e : SetEntry) : State :=
  match odFind s.role e.index e.sub with
  | some r =>
    let v := r.ty.value e.value
    if isSetting s.role e.index e.sub && r.ty.fits e.value.length && (r.ty.isData || r.rng.ok v.toInt) then s.wr e.index e.sub v
    else s.raise 0x8102 (det 0xFF e.index)
  | none => s.raise 0x8102 (det 0xFF e.index)

/-! ### Migration (R509) -/

/-- Apply a record to an entry: none where the record drops it. -/
def migrateBy (r : List Byte) (e : SetEntry) : Option SetEntry :=
  let arg := field r 8 4
  match field r 3 1 with
  | 0 => some { e with index := field r 4 2, sub := field r 6 1 }
  | 1 => none
  | 2 => some { e with value := leBytes e.value.length (leNat e.value * arg / 65536) }
  | 3 => some { e with value := leBytes e.value.length arg }
  | _ => some e

/-- Apply a rule set's records to the entries; an entry with no record stays as it is. -/
def migrateSet (records : List (List Byte)) (es : List SetEntry) : List SetEntry :=
  es.filterMap fun e =>
    match records.find? fun r => field r 0 2 == e.index && field r 2 1 == e.sub with
    | some r => migrateBy r e
    | none => some e

/-- The rule sets of a type 7 part: FROM, TO and the records. -/
def ruleSets : Nat → List Byte → List (Nat × Nat × List (List Byte))
  | 0, _ => []
  | fuel + 1, b =>
    if b.length < 8 then []
    else
      let n := field b 4 4
      (field b 0 2, field b 2 2, chunks 12 n (slice b 8 (12 * n))) :: ruleSets fuel (b.drop (8 + 12 * n))

/-- Apply the sets in chain from a schema to another; false where no chain reaches it, and the entries stay as they are. -/
def migrateChain (sets : List (Nat × Nat × List (List Byte))) (target : Nat) :
    Nat → Nat → List SetEntry → Bool × List SetEntry
  | fuel, cur, es =>
    if cur = target then (true, es)
    else match fuel with
      | 0 => (false, es)
      | fuel + 1 =>
        match sets.find? fun r => r.1 == cur with
        | some r => migrateChain sets target fuel r.2.1 (migrateSet r.2.2 es)
        | none => (false, es)

/-- The entries of a generation under the image's schema, and whether a chain reached it (R472, R509). -/
def State.migrated (s : State) (g : SetGen) : Bool × List SetEntry :=
  let part := s.part (s.rdN 0x3100 0x10) 7
  let sets := ruleSets (part.length / 8) part
  let r := migrateChain sets s.imageSchema sets.length g.schema g.entries
  if r.1 then r else (false, g.entries)

end Sys2Proof.Machine
end

