-- ==== Sys2Proof/Machine/EngineBox.lean ====
section
/-! DEFINITION. The mailbox and semaphore instructions of the port engines (Table 12.4, R370), and the loading of an
engine (R375). -/

namespace Sys2Proof.Machine

open Host

/-- The channel that an immediate names. -/
def channelOf (imm : BitVec 18) : Option (Fin 128) :=
  if h : imm.toNat < 128 then some ⟨imm.toNat, h⟩ else none

/-- The identity of a port engine as a master of the interconnect (Table 14.1). -/
def engineMaster (p : Fin 64) : BitVec 7 := BitVec.ofNat 7 p.1

/-- The message in g12 to g15 (R356). -/
def Engine.message (e : Engine) : Vector Word 4 := #v[e.reg 12, e.reg 13, e.reg 14, e.reg 15]

/-- Put a message into g12 to g15 (R356). -/
def Engine.setMessage (e : Engine) (m : Vector Word 4) : Engine :=
  (((e.setReg 12 m[0]).setReg 13 m[1]).setReg 14 m[2]).setReg 15 m[3]

/-- Post the message of an engine: the state after, and 0 posted, 1 full or 2 not bound (R370). -/
def State.enginePost (s : State) (p : Fin 64) (imm : BitVec 18) : Nat × State :=
  match channelOf imm with
  | none => (2, s)
  | some c =>
    if !s.hostPort.sends (engineMaster p) c then (2, s)
    else if s.hostPort.mailbox[c].full then (1, s.withBox c fun x => { x with refused := true })
    else
      let m := s.lamps.engine[p].message
      (0, (s.withBox c fun x => { x with msg := m }).posted c)

/-- Take a message into an engine: the state after, and 0 taken, 1 empty or 2 not bound (R370). -/
def State.engineTake (s : State) (p : Fin 64) (imm : BitVec 18) : Nat × State :=
  match channelOf imm with
  | none => (2, s)
  | some c =>
    if !s.hostPort.receives (engineMaster p) c then (2, s)
    else if !s.hostPort.mailbox[c].full then (1, s)
    else
      let m := s.hostPort.mailbox[c].msg
      (0, (s.withEngine p fun e => e.setMessage m).emptyNative c)

/-- `MBS` (R370). -/
def execPeMbs (p : Fin 64) (rd ra : Fin 16) (imm : BitVec 18) (s : State) : Out1 :=
  s.onEngine p (wordI 0x2D rd ra imm) (ra == 0) [12, 13, 14, 15] 4 fun s =>
    let (r, s) := s.enginePost p imm
    s.setReg p rd (BitVec.ofNat 32 r)

/-- `MBR` (R370). -/
def execPeMbr (p : Fin 64) (rd ra : Fin 16) (imm : BitVec 18) (s : State) : Out1 :=
  s.onEngine p (wordI 0x2E rd ra imm) (ra == 0) [] 4 fun s =>
    let (r, s) := s.engineTake p imm
    s.setReg p rd (BitVec.ofNat 32 r)

/-- `SEMA` (R427): rd is the value read; a number above 31 names no semaphore and reads 0. -/
def execPeSema (p : Fin 64) (rd ra : Fin 16) (imm : BitVec 18) (s : State) : Out1 :=
  s.onEngine p (wordI 0x2F rd ra imm) (ra == 0) [] 6 fun s =>
    if h : imm.toNat < 32 then
      let (v, s) := s.semRead (engineMaster p) ⟨imm.toNat, h⟩
      s.setReg p rd v
    else s.setReg p rd 0

/-- `SEMR` (R427). -/
def execPeSemr (p : Fin 64) (rd ra : Fin 16) (imm : BitVec 18) (s : State) : Out1 :=
  s.onEngine p (wordI 0x3D rd ra imm) (rd == 0 && ra == 0) [] 6 fun s =>
    if h : imm.toNat < 32 then s.semWrite (engineMaster p) ⟨imm.toNat, h⟩ else s

/-- The engine of a port must be loaded before it enumerates (R325, R375): it does not run, PROFILE names another profile than
the one loaded, or the profile loaded does not serve MODE. -/
def State.needsLoad (s : State) (p : Fin 64) : Bool :=
  let e := s.lamps.engine[p]
  let id := s.rdN (0x2A00 + p) 0x06
  e.run != .running || e.profile != some id ||
    !((profileOf s.microcode id).map fun d => bit (byteAt d 1).toNat (s.rdN (0x2A00 + p) 0x02)).getD false

/-- A port enumerates, its engine loaded first where it must be (R318, R373, R375). -/
def State.reenumerate (s : State) (p : Fin 64) : State :=
  let s := if s.needsLoad p then s.loadEngine p s.microcode else s
  if s.lamps.engine[p].run = .running then s.enumerate p else s

/-- `ENUMERATE`: the supervisor posts ENUMERATE to the engine of an enabled port (R369), for a port that failed at its retry
10 s later (R318). -/
def execEnumerate (p : Fin 64) (s : State) : Out1 :=
  if !s.isTile || !((s.genNow).getD s.staging).portOn p then .next s
  else
    let s := match s.lamps.port[p].retryAt with
      | some t => s.until_ t
      | none => s
    .next (s.reenumerate p)

/-- `ENGINE_LOAD` (R375): the supervisor loads a port's engine from the microcode of the active image. -/
def execEngineLoad (p : Fin 64) (s : State) : Out1 :=
  if s.isTile then .next (s.loadEngine p s.microcode) else .next s

end Sys2Proof.Machine
end

