-- ==== Sys2Proof/Machine/Lamps.lean ====
section
/-! DEFINITION. What the lamp ports do beside their engines: returning frames (R314, R315, R320, R321, R366), schedules
(R327 to R339), probes, verdicts, ages and sweeps (R343 to R349), frustum records on a tile (R336 to R338). -/

namespace Sys2Proof.Machine

/-! ### Returning frames -/

/-- Pack bits into words, the first bit the most significant; the last word is filled with zeros. -/
def bitWords (bs : List Bool) : List Word :=
  (chunks 32 (bs.length / 32 + 1) bs).map fun c => BitVec.ofNat 32 (bitsNat (c ++ List.replicate (32 - c.length) false))

/-- Queue a return: at most 8, sharing 512 words (R366). -/
def Engine.queueReturn (e : Engine) (crcClass cmd : Nat) (words : List Word) : Engine :=
  if 8 ≤ e.returns.length then { e with overflow := true }
  else
    let room := 512 - (e.returns.map fun r => r.words.length).sum
    let kept := words.take room
    { e with returns := e.returns ++
        [{ crcClass := crcClass, cut := decide (kept.length < words.length), cmd := cmd, words := kept, read := 0 }] }

/-- One word of a STATUS return (Table 10.4): absence, CRC_LOCAL, misses, lost configuration, alert and temperature. -/
def State.takeStatus (s : State) (p : Fin 64) (pos w : Nat) : State :=
  let idx := 0x2A00 + p.1
  if w = 0xFFFFFFFF then (s.bump idx 0x24 1).raise 0x6102 (det p.1 pos)
  else
    let was := s.lamps.port[p].alerts.contains pos
    let s := if bit w 29 then s.raiseLimited 0x6103 p.1 second fun _ => det p.1 pos else s
    let s := if bit w 27 then s.bump idx 0x25 1 else s
    let s := s.raiseIf (bit w 27 || bit w 26) 0x6105 (det p.1 pos)
    let s := s.raiseIf (bit w 24 && !was) 0x610A (det p.1 pos)
    let s := s.withPort p fun q => { q with
      alerts := if bit w 24 then (if was then q.alerts else pos :: q.alerts) else q.alerts.filter (· != pos) }
    let temp := (BitVec.ofNat 8 (bits w 23 16)).toInt
    let s := if temp = -128 then s else s.wrI idx 0x37 (max (s.rdI idx 0x37) temp)
    if bit w 25 ∧ s.rdN idx 0x0A = 3 then (s.raise 0x6109 (det p.1 pos)).reenumerate p else s

/-- The positions that a STATUS return covers and finds without a device. -/
def absentIn (bs : List Bool) : List Nat :=
  (List.range (min 62 (fieldAt bs 8 8))).filterMap fun i =>
    if fieldAt bs (16 + 32 * i) 32 = 0xFFFFFFFF then some (fieldAt bs 0 8 + i) else none

/-- The verdict of a STATUS poll that enumeration sent at RATE (R318, step 8): a word of all ones falls back one rate, with event
0x6107; at 50 Mbit/s the profile ends the enumeration. -/
def State.pollFallback (s : State) (p : Fin 64) (bs : List Bool) : State :=
  let r := s.lamps.port[p].rate
  let st := s.rdN (0x2A00 + p) 0x0A
  if (absentIn bs).isEmpty || !(st == 1 || st == 2) || r == 0 || decide (2 < r) then s
  else (s.withPort p fun q => { q with rate := r - 1, fresh := none }).raise 0x6107 (det p.1 (r - 1))

/-- The poll of a warm start (R318): a port in RUN enumerates where a position is absent or the count differs from DEVICES. -/
def State.warmPoll (s : State) (p : Fin 64) (bs : List Bool) : State :=
  let due := s.lamps.port[p].pollDue
  let s := s.withPort p fun q => { q with pollDue := false }
  let n := s.rdN (0x2A00 + p) 0x0D
  let gone := absentIn bs
  let found := (List.range (min 62 (fieldAt bs 8 8))).filter fun i => !gone.contains (fieldAt bs 0 8 + i)
  let differs := gone.any (fun i => decide (i ≤ n)) || found.any fun i => decide (n < fieldAt bs 0 8 + i)
  if due && s.rdN (0x2A00 + p) 0x0A == 3 && differs then s.reenumerate p else s

/-- What the tile takes from a return with a correct CRC: a roll call of the enumeration, device registers, status words, an
accepted schedule (R315, R318, R332). -/
def State.takeReturn (s : State) (p : Fin 64) (cmd : Nat) (bs : List Bool) : State :=
  match cmd with
  | 0x04 =>
    if fieldAt bs 32 8 ≠ 0xA5 then s
    else s.withPort p fun q => { q with
      regs := (List.range (min 16 (fieldAt bs 24 8))).foldl (fun m i =>
        let r := fieldAt bs 8 16 + i
        if r < 0x100 then Sparse.insert m (fieldAt bs 0 8 * 65536 + r) (fieldAt bs (40 + 16 * i) 16) else m) q.regs }
  | 0x06 => if s.enumerating p then s.withPort p fun q => { q with rolls := bs :: q.rolls } else s
  | 0x07 => s.withPort p fun q => { q with
      sched := q.sched.map fun x =>
        if (fieldAt bs 0 8 = x.pos ∨ fieldAt bs 0 8 = 63) ∧ bit (fieldAt bs 8 8) x.slot then { x with accepted := true } else x }
  | 0x09 =>
    let idx := 0x2A00 + p.1
    let s := s.wrI idx 0x37 (if fieldAt bs 0 8 = 1 then -128 else s.rdI idx 0x37)
    let s := (List.range (min 62 (fieldAt bs 8 8))).foldl
      (fun s i => s.takeStatus p (fieldAt bs 0 8 + i) (fieldAt bs (16 + 32 * i) 32)) s
    (s.pollFallback p bs).warmPoll p bs
  | _ => s

/-- Mean of the loop delays held, in ps (R314). -/
def loopMean (d : List Nat) : Nat := if d.isEmpty then 0 else d.sum / d.length

/-- A roll call of an enumeration that did not return (1) or returned without a correct CRC (2) is its fault (R318, steps 2 and
3). -/
def State.rollFails (s : State) (p : Fin 64) (cmd fault : Nat) : State :=
  if cmd = 6 ∧ s.enumerating p then s.withPort p fun q => { q with rollFault := if q.rollFault = 1 then 1 else fault } else s

/-- A PORT_SKEW calibration is in progress (R475). -/
def State.skewRuns (s : State) : Bool := (s.nvm.calRun.map fun r => r.kind == 1).getD false

/-- Take a loop delay measured on a correct return, also for a calibration in progress and for provisional latch delays that wait
for it (R314); a drift above 1 ns is reported as it appears. -/
def State.takeDelay (s : State) (p : Fin 64) (ps : Nat) : State :=
  let q := s.lamps.port[p]
  let old := loopMean q.delays
  let ds := (ps :: q.delays).take 256
  let new := loopMean ds
  let far (v c : Nat) : Bool := decide (1000 < ((v : Int) - c).natAbs)
  let skew := if s.skewRuns && decide (q.skew.length < 2048) then ps :: q.skew else q.skew
  let s := (s.withPort p fun q => { q with delays := ds, skew := skew, fresh := some ps }).wrN (0x2A00 + p) 0x10 new
  match q.calDelay with
  | some c =>
    s.raiseIf (far new c && (q.delays.isEmpty || !far old c)) 0x6108
      (det p.1 ((((new : Int) - c) / 100) % 65536).toNat)
  | none => if s.rdN (0x2A00 + p) 0x0A = 3 ∧ s.rdN (0x2A00 + p) 0x15 = 0 then s.useDelay p ps 1 else s

/-- LR_RETURN. The oldest frame on the loop of a port returns: the pulses at LR, and the loop delay measured in ps (R302, R305,
R314, R320, R366). A frame whose MARK follows too short a low is not taken (R302). -/
def execLrReturn (p : Fin 64) (pulses : List (Nat × Nat)) (loopPs : Nat) (s : State) : Out1 :=
  match s.lamps.engine[p].line with
  | [] => .next s
  | f :: rest =>
    if !s.isTile then .next s
    else
      let s := s.until_ (f.edgeAt + loopPs / 1000)
      let edge := 1000 * f.edgeAt + loopPs
      let taken := markTaken s.lamps.port[p].lrLow edge pulses
      let s := s.withPort p fun q => { q with lrLow := edge + (pulses.getLastD (0, 0)).1 }
      if !taken then .next s
      else
        let (payload, crcClass) := classifyReturn pulses
        let closes := s.lamps.port[p].open_
        let s := s.withEngine p fun e =>
          let e := { e with line := rest }
          if f.capture then e.queueReturn crcClass f.cmd (bitWords payload) else e
        let s := s.withPort p fun q => { q with missRun := 0, open_ := false }
        let s := if crcClass = 1 then s.bump (0x2A00 + p) 0x22 1 else if crcClass = 2 then s.bump (0x2A00 + p) 0x21 1 else s
        let s := if crcClass = 0 then (s.takeDelay p loopPs).takeReturn p f.cmd payload else s.rollFails p f.cmd 2
        .next (if closes then s.request p 3 0 else s)

/-- LR_MISSING_TIMEOUT. The oldest frame has no return within L + its length + 1 µs; three in a row open the loop
(R320). -/
def execLrMissingTimeout (p : Fin 64) (s : State) : Out1 :=
  match s.lamps.engine[p].line with
  | [] => .next s
  | f :: rest =>
    if !s.isTile then .next s
    else
      let s := s.until_ (f.edgeAt + loopMean s.lamps.port[p].delays / 1000 + f.length + 1000)
      let s := s.withEngine p fun e =>
        let e := { e with line := rest }
        if f.capture then e.queueReturn 3 f.cmd [] else e
      let s := s.bump (0x2A00 + p) 0x23 1
      let run := s.lamps.port[p].missRun + 1
      let opens := run == 3 && !s.lamps.port[p].open_
      let s := s.withPort p fun q => { q with missRun := run, open_ := q.open_ || decide (3 ≤ run) }
      .next ((s.raiseIf opens 0x6104 (det p.1 run)).rollFails p f.cmd 1)

/-! ### Schedules -/

/-- The parameters of a port's schedules: n_r after R328, TG, T_SLICE and LINE_GAP. -/
structure SchedShape where
  nr : Nat
  ns : Nat
  tg : Nat
  slice : Nat
  gap : Nat
  scan : Nat
  deriving DecidableEq, Repr

/-- The length of a period, in units of 0.125 ns (R328). -/
def SchedShape.period (x : SchedShape) : Nat := x.ns * x.scan * (x.slice + x.gap) * x.tg

/-- PERIODS of a port, or the n_r to which a change of the timing set has cut it since the last commit that passed (R328). -/
def State.periods (s : State) (g : Gen) (p : Fin 64) : Nat :=
  match s.lamps.port[p].reduced with
  | some n => min n (g.rdN 0x2A80 0x01)
  | none => g.rdN 0x2A80 0x01

/-- The shape of a port's schedules in a frame (R328). -/
def State.schedShape (s : State) (g : Gen) (p : Fin 64) (f : Nat) : SchedShape :=
  let lmin := (s.setFor f).minLen
  let ns := g.rdN 0x2A80 0x02
  let gap := g.rdN 0x2A80 0x03
  let scan := g.rdN (0x2A00 + p) 0x05
  let nr := fitPeriods lmin (g.grey p) ns scan gap 7 (s.periods g p)
  { nr := nr, ns := ns, tg := greyClock lmin (g.grey p) nr ns scan gap, slice := tSlice (g.grey p) nr ns, gap := gap, scan := scan }

/-- What the tile derives for an enabled port and a frame: TG, T_SLICE, n_r and the refresh rates; a cut of n_r raises
event 0x6206 (R328, Table 11.7). -/
def State.deriveShape (s : State) (g : Gen) (p : Fin 64) (f : Nat) : State :=
  let sh := s.schedShape g p f
  let idx := 0x2A00 + p.1
  let s := if sh.nr < s.periods g p then
      (s.withPort p fun q => { q with reduced := some sh.nr }).raise 0x6206 (det p.1 sh.nr)
    else s
  let s := (((s.wrN idx 0x30 sh.tg).wrN idx 0x31 sh.slice).wrN idx 0x32 sh.nr).wrN idx 0x33 (8 * second / max 1 sh.period)
  s.wrN idx 0x34 (((s.lamps.port[p].spreadM.toList.take (s.setFor f).s).foldl max 1) * 8 * second / max 1 sh.period)

/-- The derivation for every enabled port at a frame boundary (R328). -/
def State.deriveShapes (s : State) (g : Gen) (f : Nat) : State :=
  (List.finRange 64).foldl (fun s (p : Fin 64) => if g.portOn p then s.deriveShape g p f else s) s

/-- The frustum record in force for a frame (R338). -/
def Frustum.at_ (r : Frustum) (f : Nat) : List Byte :=
  ((r.past.reverse.find? fun w => decide (f < w.1)).map Prod.snd).getD r.record

/-- The code of a lamp in a frame and slot, as the engines read it; 0 where there is none. -/
def State.codeOf (s : State) (g : Gen) (p : Fin 64) (f : Nat) (k : Fin 4) (n : Option Nat) : Nat :=
  match n, (s.bankState f k).2 with
  | some n, some b => if n < g.lamps p then b.read p n else 0
  | _, _ => 0

/-- The spread channels of a driver in a slot with their m, and how many frustum channels stay normal (R339). -/
def State.spreads (s : State) (g : Gen) (p : Fin 64) (f : Nat) (k : Fin 4) (pos : Nat) (sh : SchedShape) (u : List Nat) :
    List (Nat × Nat) × Nat :=
  let port := s.lamps.port[p]
  let chans := port.chans pos
  let hits (ch : Nat) : Nat := ((List.range sh.scan).filter fun line =>
    match g.lampAt p pos ch line with
    | some n => g.frustumLamp (s.lamps.frustum.at_ f) p k n
    | none => false).length
  let inside := (List.range chans).filter fun ch => hits ch != 0
  let able := bit (port.reg pos 7) 14 && g.rdN 0x2A80 0x05 == 1
  if !able then ([], inside.length)
  else
    let m := spreadCount (g.rdN 0x2A80 0x04) (bits (port.reg pos 9) 5 0) sh.ns
    let key (ch : Nat) : Nat := (hits ch * 2 ^ 32 + u.getD ch 0) * 64 + (63 - ch % 64)
    let ranked := (sortDesc (inside.map fun ch => (ch, key ch))).map Prod.fst
    let taken := if m ≤ 1 then [] else ranked.take (chans / 4)
    (((List.range chans).filter taken.contains).map fun ch => (ch, m), inside.length - taken.length)

/-- Lamp codes of a driver's channel by scan line. -/
def State.lineCodes (s : State) (g : Gen) (p : Fin 64) (f : Nat) (k : Fin 4) (pos ch scan : Nat) : List Nat :=
  (List.range scan).map fun line => s.codeOf g p f k (g.lampAt p pos ch line)

/-- The schedule of a driver for slot k of F, and the frustum channels denied (R328 to R339). -/
def State.buildSched (s : State) (g : Gen) (p : Fin 64) (f : Nat) (k : Fin 4) (sh : SchedShape) (pos : Nat) : Sched × Nat :=
  let port := s.lamps.port[p]
  let u := (List.range (port.chans pos)).map fun ch =>
    ceilDiv ((s.lineCodes g p (f - 1) k pos ch sh.scan).sum) (sh.nr * sh.scan)
  let (sp, denied) := s.spreads g p f k pos sh u
  let qs := phases (g.rdN 0x2A80 0x06 == 1 && !port.staticNext && port.staticFrame != some f) (sh.ns * sh.slice) u sp
  ({ pos := pos, frame := f, slot := k, body := schedBody sh.nr sh.ns sh.tg sh.slice sh.gap qs sp, lamps := [],
     accepted := false }, denied)

/-- The slot that follows the last reference frame of a port. -/
def State.nextSlot (s : State) (p : Fin 64) : Nat × Fin 4 :=
  match s.lamps.engine[p].refs with
  | [] => (s.quartz.frame, 0)
  | (f, k) :: _ => if h : k + 1 < 4 then if k + 1 < (s.setFor f).s then (f, ⟨k + 1, h⟩) else (f + 1, 0) else (f + 1, 0)

/-- What a schedule depends on besides the codes (R335): the port's lamp settings, PERIODS, SUBCYCLES, LINE_GAP and S. -/
def State.schedKeys (s : State) (g : Gen) (p : Fin 64) (f : Nat) : List Nat :=
  [g.rdN (0x2A00 + p) 0x03, g.rdN (0x2A00 + p) 0x04, g.rdN (0x2A00 + p) 0x05, g.rdN 0x2A80 0x01, g.rdN 0x2A80 0x02,
    g.rdN 0x2A80 0x03, (s.setFor f).s]

/-- Drivers without CAP_SPREAD that have a frustum channel in a slot, for event 0x6207 once per enumeration (R339). -/
def State.plainDrivers (s : State) (g : Gen) (p : Fin 64) (f : Nat) (k : Fin 4) (scan : Nat) : List Nat :=
  let port := s.lamps.port[p]
  port.drivers.filter fun pos => !bit (port.reg pos 7) 14 && !port.spreadTold.contains pos &&
    (List.range (port.chans pos)).any fun ch => (List.range scan).any fun line =>
      match g.lampAt p pos ch line with
      | some n => g.frustumLamp (s.lamps.frustum.at_ f) p k n
      | none => false

/-- The m of the spread channels of a schedule, 1 with none. -/
def Sched.m (x : Sched) (chans : Nat) : Nat :=
  if x.body.length ≤ 64 + 4 * chans then 1 else 2 ^ bitsNat ((x.body.drop (72 + 4 * chans)).take 8)

/-- SCHED_BUILD. At the reference edge of the preceding interval, the builder builds each driver's SCHED for the next
slot of a port (R328 to R339, R332, R367). -/
def execSchedBuild (p : Fin 64) (s : State) : Out1 :=
  if !s.isTile || s.rdN (0x2A00 + p) 0x0A ≠ 3 then .next s
  else
    let (f, k) := s.nextSlot p
    let g := (s.genFor f).getD s.staging
    let sh := s.schedShape g p f
    let idx := 0x2A00 + p.1
    let keys := s.schedKeys g p f
    let s := (s.deriveShape g p f).withPort p fun q => { q with
      shape := keys
      staticFrame := if q.shape == keys then q.staticFrame else some f }
    let port := s.lamps.port[p]
    if sh.tg < 8 then .next (s.withPort p fun q => { q with sched := [], schedReady := false })
    else
      let built := port.drivers.map fun pos => s.buildSched g p f k sh pos
      let denied := (built.map Prod.snd).sum
      let ms := vset port.spreadM k ((built.map fun b => b.1.m (port.chans b.1.pos)).foldl max 1)
      let most := (ms.toList.take (s.setFor f).s).foldl max 1
      let s := s.wrN idx 0x34 (most * 8 * second / max 1 sh.period)
      let s := if denied = 0 then s
        else (s.bump idx 0x35 denied).raiseLimited 0x6203 p.1 second fun _ => det p.1 (sat 0xFFFF denied)
      let s := (s.plainDrivers g p f k sh.scan).foldl (fun s pos =>
        (s.withPort p fun q => { q with spreadTold := pos :: q.spreadTold }).raise 0x6207 (det p.1 pos)) s
      let last := k.1 + 1 == (s.setFor f).s
      .next (s.withPort p fun q => { q with
        schedOld := (q.sched ++ q.schedOld).take 124, sched := built.map Prod.fst, schedReady := false, spreadM := ms,
        schedSlot := k, schedTag := f % 16, staticNext := q.staticNext && !last })

/-- SCHED_BUILD_DONE. The bodies for the next slot are ready: SCHED_STATE bit 0 (R367). -/
def execSchedBuildDone (p : Fin 64) (s : State) : Out1 :=
  if !s.isTile || s.lamps.port[p].sched.isEmpty then .next s
  else .next (s.withPort p fun q => { q with schedReady := true })

/-! ### Verdicts, tests and ages -/

/-- The verdict byte of a lamp (Table 11.5). -/
def LampPort.byte (q : LampPort) (n : Nat) : BitVec 8 := Sparse.get (fun _ => 0) q.verdict n

/-- A verdict byte from its fields. -/
def verdictByte (v : Nat) (aged tested : Bool) (age : Nat) : BitVec 8 :=
  BitVec.ofNat 8 (v % 4 * 64 + bitAt aged 5 + bitAt tested 4 + min 15 age)

/-- The reported verdict: 0 UNKNOWN, 1 OK, 2 OPEN, 3 SHORT, 4 UNKNOWN-AGED (R345). -/
def reported (b : BitVec 8) : Nat := if b.getLsbD 5 then 4 else b.toNat / 64

/-- Store a verdict byte; the events of a reported verdict that becomes OPEN or SHORT (R346). -/
def State.setVerdict (s : State) (p : Fin 64) (pos ch n : Nat) (b : BitVec 8) : State :=
  let old := reported (s.lamps.port[p].byte n)
  let new := reported b
  let s := s.withPort p fun q => { q with verdict := Sparse.set (fun _ => 0) q.verdict n b }
  if old = new then s
  else if new = 2 then s.raiseLimited 0x6301 p.1 second fun _ => det3 p.1 ch pos
  else if new = 3 then s.raiseLimited 0x6302 p.1 second fun _ => det3 p.1 ch pos
  else s

/-- VERD: record 8 driver verdicts through the walk; RD = g0. A verdict of a position or channel that the walk does not have is
discarded (R343, R362, R367). -/
def execPeVerd (p : Fin 64) (rd ra rb : Fin 16) (rsv : BitVec 14) (s : State) : Out1 :=
  let e := s.lamps.engine[p]
  let a := (e.reg ra).toNat
  let v := (e.reg rb).toNat
  let pos := bits a 5 0
  let line := bits a 12 8
  let first := bits a 21 16
  s.onEngine p (wordR 0x3A rd ra rb rsv) (rd == 0 && rsv == 0) [ra, rb] 2 fun s =>
    if pos = 0 ∨ 62 < pos then s
    else if s.lamps.port[p].alerts.contains pos then s.raise 0x6305 (det p.1 pos)
    else
      let g := (s.genNow).getD s.staging
      (List.range 8).foldl (fun s i =>
        let w := bits v (2 * i + 1) (2 * i)
        match if first + i < 64 then g.lampAt p pos (first + i) line else none with
        | some n =>
          let b := s.lamps.port[p].byte n
          if w = 0 then s else s.setVerdict p pos (first + i) n (BitVec.ofNat 8 (b.toNat % 64 + w * 64))
        | none => s) s

/-- The longest pulse that a schedule gives a code, in units of 0.125 ns (R329, R330). -/
def pulseOf (body : List Bool) (ch chans code : Nat) : Nat :=
  let nr := fieldAt body 4 6 + 1
  let ns := 2 ^ fieldAt body 10 3
  let tg := fieldAt body 13 12
  let slice := fieldAt body 25 16
  let q := fieldAt body (56 + 4 * ch) 4
  let spread := (List.range (fieldAt body (56 + 4 * chans) 8)).find? fun i => fieldAt body (64 + 4 * chans + 16 * i) 8 == ch
  let m := match spread with
    | some i => 2 ^ fieldAt body (72 + 4 * chans + 16 * i) 8
    | none => 1
  longestPulse slice (ns * slice) (segPositions (ns * slice) q m (ceilDiv code nr)) * tg

/-- The longest pulse of a lamp in period 0 under a probe, in units of 0.125 ns: one segment at the channel's phase that holds
t_meas (R344, R348). -/
def probePulse (body : List Bool) (ch code need : Nat) : Nat :=
  let nr := fieldAt body 4 6 + 1
  let ns := 2 ^ fieldAt body 10 3
  let tg := fieldAt body 13 12
  let slice := fieldAt body 25 16
  let q := fieldAt body (56 + 4 * ch) 4
  longestPulse slice (ns * slice)
    (segPositions (ns * slice) q 1 (max (periodUnits code nr 0) (ceilDiv need (max 1 tg)))) * tg

/-- A lamp is tested: TESTED, AGE 0, AGED clear at once (R344, R346). -/
def State.markTested (s : State) (p : Fin 64) (pos ch n : Nat) : State :=
  let b := s.lamps.port[p].byte n
  let s := s.setVerdict p pos ch n (verdictByte (b.toNat / 64) false true 0)
  if s.lamps.port[p].sweeping then s.withPort p fun q => { q with swept := Sparse.set (fun _ => false) q.swept n true } else s

/-- DIAGC: confirm a latch; the lamps that its schedule gave a pulse of t_meas or more are tested; RD = RB = g0
(R344, R367). A TAG and slot of neither of the last two reference frames are ignored. -/
def execPeDiagc (p : Fin 64) (rd ra rb : Fin 16) (rsv : BitVec 14) (s : State) : Out1 :=
  let e := s.lamps.engine[p]
  let a := (e.reg ra).toNat
  let pos := bits a 5 0
  let slot := bits a 11 10
  s.onEngine p (wordR 0x3B rd ra rb rsv) (rd == 0 && rb == 0 && rsv == 0) [ra] 1 fun s =>
    match (e.refs.take 2).find? fun r => r.1 % 16 == bits a 9 6 && r.2 == slot with
    | none => s
    | some (f, k) =>
      let q := s.lamps.port[p]
      match (q.sched ++ q.schedOld).find? fun x => x.pos == pos && x.frame == f && x.slot == k && x.accepted with
      | none => s
      | some x =>
        if h : k < 4 then
          if q.alerts.contains pos then s
          else
            let g := (s.genFor f).getD s.staging
            let need := 8 * q.reg pos 8
            (List.range (q.chans pos)).foldl (fun s ch =>
              (List.range (g.rdN (0x2A00 + p) 0x05)).foldl (fun s line =>
                match g.lampAt p pos ch line with
                | none => s
                | some n =>
                  let probed := q.probed.any fun r => r.lamp == n && r.pos == pos && r.slot == k && r.frame == f
                  let code := s.codeOf g p f ⟨k, h⟩ (some n)
                  if decide (need ≤ pulseOf x.body ch (q.chans pos) code) ||
                      probed && decide (need ≤ probePulse x.body ch code need) then
                    s.markTested p pos ch n
                  else s) s) s
        else s

/-- PRB: rd = the next probe request, or 0; RA = RB = g0 (R367). -/
def execPePrb (p : Fin 64) (rd ra rb : Fin 16) (rsv : BitVec 14) (s : State) : Out1 :=
  s.onEngine p (wordR 0x3C rd ra rb rsv) (ra == 0 && rb == 0 && rsv == 0) [] 1 fun s =>
    match s.lamps.port[p].probes with
    | [] => s.setReg p rd 0
    | r :: rest =>
      let w := r.pos % 64 + r.line % 32 * 256 + r.ch % 64 * 65536 + r.slot % 4 * 2 ^ 22 + r.tag % 16 * 2 ^ 24 + 2 ^ 31
      (s.setReg p rd (BitVec.ofNat 32 w)).withPort p fun q => { q with probes := rest, probed := (r :: q.probed.filter fun x => decide (r.frame ≤ x.frame + 4)).take 96 }

/-- The triples of a port's drivers and the lamps they reach: position, channel, line, lamp (R362). -/
def State.triples (s : State) (g : Gen) (p : Fin 64) : List (Nat × Nat × Nat × Nat) :=
  let port := s.lamps.port[p]
  port.drivers.flatMap fun pos => (List.range (port.chans pos)).flatMap fun ch =>
    (List.range (g.rdN (0x2A00 + p) 0x05)).filterMap fun line => (g.lampAt p pos ch line).map fun n => (pos, ch, line, n)

/-- Choose the probes of a port at T_frame(F) (R347). -/
def State.chooseProbes (s : State) (f : Nat) (p : Fin 64) : State :=
  if s.rdN 0x2B00 0x01 = 0 ∨ s.rdN (0x2A00 + p) 0x0A ≠ 3 then s
  else
    let g := (s.genFor f).getD s.staging
    let q := s.lamps.port[p]
    let due := s.rdN 0x2B00 0x02 / 128
    let age (n : Nat) : Nat := (q.byte n).toNat % 16
    let ripe (n : Nat) : Bool := (q.sweeping && !Sparse.get (fun _ => false) q.swept n) || decide (due ≤ age n)
    let lamps := (s.triples g p).filter fun t => t.2.2.2 % 256 == f % 256 && ripe t.2.2.2
    let ranked := (sortDesc (lamps.map fun t => (t.2.2.2, age t.2.2.2 * 2 ^ 24 + (2 ^ 24 - 1 - t.2.2.2)))).map Prod.fst
    let chosen := ranked.take (s.rdN 0x2B00 0x03)
    let slotOf (n : Nat) : Option Nat :=
      (List.range (s.setFor f).s).find? fun k => !g.frustumLamp (s.lamps.frustum.at_ f) p k n
    let probes := chosen.filterMap fun n => match slotOf n, lamps.find? fun t => t.2.2.2 == n with
      | some k, some (pos, ch, line, _) => some { pos := pos, line := line, ch := ch, slot := k, tag := f % 16, lamp := n, frame := f }
      | _, _ => none
    let put := (chosen.filter fun n => (slotOf n).isNone).length
    let s := s.withPort p fun q => { q with probes := probes }
    if put = 0 then s
    else
      let times := (List.replicate put s.now ++ q.deferred).filter fun t => decide (s.now < t + second)
      let s := (s.bump 0x2B00 0x0B put).withPort p fun q => { q with deferred := times }
      s.raiseLimited 0x6304 p.1 second fun _ => det p.1 (sat 0xFFFF times.length)

/-- A word of the verdict store, of four lamps in canonical order, reads uncorrectable: its bytes are zeroed, with event 0x6306
(R345; the word's size: log entry 92). -/
def State.loseVerdicts (s : State) (g : Gen) (p : Fin 64) (word : Nat) : State :=
  let lost := (List.range 4).filter fun i => decide (4 * word + i < g.lamps p)
  let s := s.withPort p fun q => { q with
    verdict := lost.foldl (fun m i => Sparse.set (fun _ => 0) m (4 * word + i) 0) q.verdict }
  s.raise 0x6306 (det p.1 lost.length)

/-- The epoch that is over once the polls of its last frame F, F mod 128 = 127, have completed: at the latest in the frame in which
F's presentation and that of the frame after it end (R346). -/
def State.epochOver (s : State) : Option Nat :=
  let f := s.quartz.frame
  let t := s.quartz.set
  if (f % 128 = 127 ∨ f % 128 ≤ t.d / max 1 t.periodNs + 1) ∧ s.lamps.epoch ≠ (f + 1) / 128 then some ((f + 1) / 128) else none

/-- EPOCH_END. After the polls of a frame F with F mod 128 = 127, once: untested lamps age, AGED is set where due, and
TESTED is cleared (R346). `damaged`: words of the store, by port, that the pass finds uncorrectable (R345). -/
def execEpochEnd (damaged : List (Fin 64 × Nat)) (s : State) : Out1 :=
  match s.epochOver with
  | none => .next s
  | some epoch =>
  if !s.isTile then .next s
  else
    let s := { s with lamps := { s.lamps with epoch := epoch } }
    let g := (s.genNow).getD s.staging
    let s := damaged.foldl (fun s d => s.loseVerdicts g d.1 d.2) s
    let due := s.rdN 0x2B00 0x02 / 128
    let off := s.rdN 0x2B00 0x01 == 0
    .next ((List.finRange 64).foldl (fun s (p : Fin 64) =>
      let step (b : BitVec 8) : BitVec 8 :=
        let age := if b.getLsbD 4 then b.toNat % 16 else min 15 (b.toNat % 16 + 1)
        let aged := b.getLsbD 5 || (off && decide (due ≤ age)) || decide (min (due + 2) 15 ≤ age)
        verdictByte (b.toNat / 64) aged false age
      let q := s.lamps.port[p]
      let newly := ((List.range (g.lamps p)).filter fun n => !(q.byte n).getLsbD 5 && (step (q.byte n)).getLsbD 5).length
      let v := (List.range (g.lamps p)).foldl (fun m n => Sparse.set (fun _ => 0) m n (step (q.byte n))) q.verdict
      let s := s.withPort p fun q => { q with verdict := v }
      s.raiseIf (newly != 0) 0x6303 (det p.1 (sat 0xFFFF newly))) s)

/-- The ports in a sweep's scope. -/
def State.sweepPorts (s : State) : List (Fin 64) := (List.finRange 64).filter fun p => s.lamps.port[p].sweeping

/-- A write of SWEEP_START (R349): abort code 0 when started. -/
def State.startSweep (s : State) (scope : Nat) : Nat × State :=
  if s.isRunning 0x2B00 0x11 then (abState, s)
  else if s.rdN 0x2B00 0x01 = 0 then (abCannot, s)
  else
    let ports := Vector.ofFn fun p : Fin 64 =>
      let q := s.lamps.port[p]
      if scope = 0xFF ∨ scope = p.1 then { q with sweeping := true, swept := [] } else { q with sweeping := false, swept := [] }
    let s := { s with lamps := { s.lamps with port := ports, sweep := some (scope, s.quartz.frame) } }
    (0, s.startRun 0x2B00 0x11)

/-- SWEEP_END. Every lamp in scope has been tested, or 512 frames have passed: the sweep publishes its counts and
event 0x6307 is raised (R349). -/
def execSweepEnd (s : State) : Out1 :=
  match s.lamps.sweep with
  | none => .next s
  | some (scope, since) =>
    if !s.isTile then .next s
    else
      let g := (s.genNow).getD s.staging
      let lamps := s.sweepPorts.flatMap fun (p : Fin 64) =>
        (List.range (g.lamps p)).map fun n => (Sparse.get (fun _ => false) s.lamps.port[p].swept n, reported (s.lamps.port[p].byte n))
      let untested := (lamps.filter fun l => !l.1).length
      if untested ≠ 0 ∧ s.quartz.frame < since + 512 then .next s
      else
        let n (v : Nat) : Nat := (lamps.filter fun l => l.2 == v).length
        let s := (((s.wrN 0x2B00 0x13 (n 1)).wrN 0x2B00 0x14 (n 2)).wrN 0x2B00 0x15 (n 3)).wrN 0x2B00 0x16 untested
        let ports := s.lamps.port.map fun q => { q with sweeping := false, swept := [] }
        let s := { s with lamps := { s.lamps with sweep := none, port := ports } }
        .next ((s.publish 0x2B00 0x11 0x12 true).raise 0x6307 (det scope (sat 0xFFFF untested)))

/-! ### Frustum records on a tile -/

/-- A record written to 0x2A80:07: refused, or held for its frame (R338). -/
def State.writeFrustum (s : State) (b : List Byte) : Nat × State :=
  if !frustumOk b then (abRange, s.raise 0x6205 (det 0xFF 1))
  else
    let named := field b 0 8
    let late := named ≠ 0 ∧ named ≤ s.quartz.frame
    let from_ := if named ≤ s.quartz.frame then s.quartz.frame + 1 else named
    let s := if late then s.bump 0x2A80 0x09 1 else s
    let s := s.wrD 0x2A80 0x07 b
    let fr := s.lamps.frustum
    (0, { s with lamps := { s.lamps with frustum := { fr with waiting := fr.waiting ++ [(from_, b)] } } })

/-- At T_frame(F): the record with the largest frame at or before F takes force, the last received of equals (R338). -/
def State.frustumAt (s : State) (f : Nat) : State :=
  let fr := s.lamps.frustum
  let ready := fr.waiting.filter fun w => decide (w.1 ≤ f)
  let named (w : Nat × List Byte) : Nat := if field w.2 0 8 = 0 then w.1 else field w.2 0 8
  match ready.foldl (fun (best : Option (Nat × List Byte)) w => match best with
    | some b => if named b ≤ named w then some w else some b
    | none => some w) none with
  | none => s
  | some (from_, b) =>
    let s := { s with lamps := { s.lamps with frustum :=
      { record := b, past := ((f, fr.record) :: fr.past).take 4, waiting := fr.waiting.filter fun w => decide (f < w.1) } } }
    s.wrN 0x2A80 0x08 (if field b 0 8 = 0 then from_ else field b 0 8)

/-! ### Counters and the frame boundary -/

/-- Clear the counters of a lamp port (R325, R350). -/
def State.clearPort (s : State) (p : Fin 64) : State :=
  s.zero (0x2A00 + p) [0x20, 0x21, 0x22, 0x23, 0x24, 0x25, 0x35, 0x36, 0x38]

/-- Clear the diagnostics counters (R351). -/
def State.clearDiag (s : State) : State := s.zero 0x2B00 [0x0B]

/-- A write of ENUM_START = 1 (R318): abort code 0 when the enumeration starts. -/
def State.startEnum (s : State) (p : Fin 64) : Nat × State :=
  if !((s.genNow).map fun g => g.portOn p).getD (s.staging.portOn p) then (abState, s)
  else if s.isRunning (0x2A00 + p) 0x0B then (abState, s)
  else (0, s.reenumerate p)

/-- What a frame boundary does to an engine: a new budget and a new count of cycles, and the condition of WAITE
(R368, R371, R377). -/
def State.engineBoundary (s : State) (p : Fin 64) : State :=
  let e := s.lamps.engine[p]
  let s := s.wrN (0x2C10 + p) 0x09 (max (s.rdN (0x2C10 + p) 0x09) e.cycles)
  s.withEngine p fun e => { e with boundary := true, used := 0, budgetHit := false, cycles := 0 }

/-- A generation that takes force with another RATE for a port in RUN: the line follows at the next frame (R302, R324). -/
def State.newRates (s : State) (before : Option Gen) (g : Gen) : State :=
  match before with
  | none => s
  | some old => (List.finRange 64).foldl (fun s (p : Fin 64) =>
      let r := g.rdN (0x2A00 + p) 0x03
      if r = old.rdN (0x2A00 + p) 0x03 ∨ s.rdN (0x2A00 + p) 0x0A ≠ 3 then s else s.wrN (0x2A00 + p) 0x0F r) s

/-- An enabled port's engine leaves its warm entry, at which it was held, or is loaded where it must be (R369, R375). -/
def State.wakeEngine (s : State) (p : Fin 64) (image : List Byte) : State :=
  let woken := s.withEngine p fun e => { e with
    run := .running, regs := Vector.replicate 16 0, pc := e.entryWarm, slow := none, wdkAt := s.now }
  if woken.needsLoad p then s.loadEngine p image else woken

/-- Ports that a generation enables or disables as it takes force (R318, R369); the engine of an enabled port starts, and the port
enumerates. `image` is the microcode of the active image. -/
def State.switchPorts (s : State) (g : Gen) (image : List Byte) : State :=
  (List.finRange 64).foldl (fun s (p : Fin 64) =>
    let on := g.portOn p
    let was := s.lamps.port[p].on
    if on = was then s
    else if on then
      let s := (s.withPort p fun q => { q with on := true }).wakeEngine p image
      if s.lamps.engine[p].run = .running then s.enumerate p else s
    else s.disablePort p) s

end Sys2Proof.Machine
end

