-- ==== Sys2Proof/Machine/Basalt.lean ====
section
/-! DEFINITION. Guards and test access: OTP ceilings (R520), the replay limit (R521), BIST on command (R532), memory faults (R531)
and the TAP (R527 to R530). -/

namespace Sys2Proof.Machine

open Host

/-! ### OTP ceilings (R520) -/

/-- A write of CEIL_PROGRAM: the port in [7:0], MAX_GREY, MAX_AVG and CEIL_REFRESH in [63:16]. -/
def State.ceilProgram (s : State) (v : Int) : Nat × State :=
  let n := v.toNat
  if h : n % 256 < 64 then
    let p : Fin 64 := ⟨n % 256, h⟩
    if s.otp.ceilings[p].isSome || s.otp.ceilLock then (abState, s)
    else
      let c : Ceiling := { maxGrey := bits n 31 16, maxAvg := bits n 47 32, refresh := bits n 63 48 }
      let s := { s with otp := { s.otp with ceilings := vset s.otp.ceilings p (some c) } }
      (0, s.raise 0xA106 (det p.1 p.1))
  else (abRange, s)

/-- A write of CEIL_LOCK: 1 burns the fuse. -/
def State.ceilLockWrite (s : State) (v : Int) : Nat × State :=
  if v = 0 then (0, s) else (0, { s with otp := { s.otp with ceilLock := true } })

/-- `REPLAY_LIMIT_EXPIRY`: kept banks have been read for 2 s (R521). -/
def execReplayLimitExpiry (s : State) : Out1 :=
  match s.beat.replayUntil with
  | some t =>
    if !s.isTile then .next s
    else .next (((s.until_ t).withBeat fun b => { b with replayUntil := none }).blank true)
  | none => .next s

/-! ### Memory faults (R531, R532) -/

/-- Retire a scaler: cause 1 BIST at start, 2 BIST on command (R226, Table 8.9). -/
def State.retire (s : State) (k : Fin 8) (cause : Nat) : State :=
  let s := { s with lamps := { s.lamps with retired := s.lamps.retired ||| BitVec.ofNat 8 (2 ^ k.1) } }
  (s.wrN (0x2840 + k) 0x01 2).wrN (0x2840 + k) 0x03 cause

/-- A port whose engine has failed stays in state 4. -/
def State.deadPort (s : State) (p : Fin 64) : State :=
  let s := { s with lamps := { s.lamps with dead := s.lamps.dead ||| BitVec.ofNat 64 (2 ^ p.1) } }
  s.wrN (0x2A00 + p) 0x0A 4

/-- What an unrepairable fault found at a cold start does; event 0xA212 names the unit, and the kind of memory as 0 scaler, 1
port engine, 2 pixel path, 3 control cluster (DESIGN CHOICE, log entry 83). -/
def State.memoryFault (s : State) (f : BistFault) : State :=
  match f with
  | .scaler k => (s.retire k 1).raise 0xA212 (det k.1 0)
  | .engine p => (s.deadPort p).raise 0xA212 (det p.1 1)
  | .pixel =>
    let s := s.raise 0xA212 (det 0xFF 2)
    if s.tile.pixelFault || s.role != .tile then s
    else (State.stopPresenting { s with tile := { s.tile with pixelFault := true } }).raise 0x3106 (s.chainDetail 0 2)
  | .cluster => State.raise { s with life := .bootRom } 0xA212 (det 0xFF 3)

/-- `MEMORY_BIST_COMPLETE`: rows repaired, by memory, and faults that no spare repairs (R447, R531). -/
def execMemoryBistComplete (repairs : List (Nat × Nat)) (faults : List BistFault) (s : State) : Out1 :=
  if s.life ≠ .coldStart ∧ s.life ≠ .bootRom then .next s
  else
    let s := s.until_ (s.clocks.startAt + 28 * ms)
    let s := repairs.foldl (fun s r => s.raise 0xA211 (det r.1 (sat 0xFFFF r.2))) s
    let s := s.wrN 0x3200 0x16 (sat 0xFFFF ((repairs.map fun r => r.2).sum))
    .next (faults.foldl State.memoryFault s)

/-- The unit of BIST_TARGET: 1 and a scaler, or 2 and a port. -/
def bistUnit (v : Nat) : Nat × Nat := if v / 64 = 1 then (1, v % 8) else (2, v % 64)

/-- A write of BIST_START (R532). Only a tile runs scalers and port engines (R3). -/
def State.bistStart (s : State) (v : Int) : Nat × State :=
  let u := bistUnit (s.rdN 0x3200 0x20)
  let named (g : Gen) : Bool := (List.range 8).any fun n => g.scalerSel n == u.2 || (g.scaler[n]?).getD none == some u.2
  let busy := if u.1 = 1 then named s.staging || s.video.compose.gens.any named
    else s.staging.portOn u.2 || ((s.lamps.port[u.2]?).map fun q => q.on).getD true
  if v = 0 then (0, s)
  else if !s.isTile || s.isRunning 0x3200 0x22 || busy then (abState, s)
  else (0, { s.startRun 0x3200 0x22 with lamps := { s.lamps with bistRun := some u } })

/-- `BIST_COMPLETE`: 2 ms for a scaler, 1 ms for a port; `failAddr` is the word that failed, if any (R532). BIST_FAIL_ADDR
describes the publication: it is set at each one, to 0 where nothing failed (R15; DEDUCED, log entry 94). -/
def execBistComplete (failAddr : Option Nat) (s : State) : Out1 :=
  match s.lamps.bistRun with
  | none => .next s
  | some (kind, unit_) =>
    if !s.isTile then .next s
    else
      let s := s.pass (if kind = 1 then 2 * ms else ms)
      let s := { s with lamps := { s.lamps with bistRun := none } }
      let s := (s.publish 0x3200 0x22 0x23 failAddr.isNone).wrN 0x3200 0x24 (failAddr.getD 0)
      match failAddr with
      | none => .next s
      | some _ =>
        let s := if kind = 1 then s.retire (Fin.ofNat 8 unit_) 2 else s.deadPort (Fin.ofNat 64 unit_)
        .next (s.raise 0xA213 (det unit_ (kind * 64 + unit_)))

/-! ### The TAP (R527 to R530) -/

/-- Change the TAP. -/
def State.withTap (s : State) (f : Tap → Tap) : State := { s with tap := f s.tap }

/-- Bits of a number as the TAP shifts them out, the least significant first. -/
def tapBits (n v : Nat) : List Bool := (List.range n).map fun i => bit v i

/-- The balls are taken from the device logic: lanes, lamp ports and the repeater stop until RESET_N (R529). -/
def State.takeBalls (s : State) : State :=
  if s.tap.ballsTaken then s
  else
    { s with
      tap := { s.tap with ballsTaken := true }
      lanes := Lanes.reset
      lamps := { s.lamps with engine := s.lamps.engine.map fun e => { e with run := .held } }
      ports := s.ports.map fun x => { x with qTiming := [], qMgmt := [], qService := [], qVideo := [] }
      tile := { s.tile with
        orig := Vector.replicate 2 []
        backlog := []
        match_ := Vector.replicate 2 [] } }

/-- A scan of the boundary register: what the balls showed leaves, and the update stage takes what was shifted in. -/
def State.boundaryScan (s : State) (i : TapInstr) (pins shifted : List Bool) : State :=
  (s.withTap fun t => { t with
    instr := i
    boundary := shifted }).emit (.tap pins)

/-- The bypass register captures 0. -/
def State.bypassScan (s : State) (i : TapInstr) : State := (s.withTap fun t => { t with instr := i }).emit (.tap [false])

/-- `TAP_RESET`. -/
def execTapReset (s : State) : Out1 :=
  .next (s.withTap fun t => { t with
    instr := .idcode
    unlocked := false
    nonce := none })

/-- `EXTEST`: `pins` is what the balls show at capture, `shifted` what the tester shifts in. -/
def execTapExtest (pins shifted : List Bool) (s : State) : Out1 := .next (s.takeBalls.boundaryScan .extest pins shifted)

/-- `IDCODE`: 0x1960_053D on revision A1. -/
def execTapIdcode (s : State) : Out1 :=
  .next ((s.withTap fun t => { t with instr := .idcode }).emit (.tap (tapBits 32 0x1960053D)))

/-- `SAMPLE_PRELOAD`. -/
def execTapSamplePreload (pins shifted : List Bool) (s : State) : Out1 := .next (s.boundaryScan .samplePreload pins shifted)

/-- `EXTEST_PULSE`. -/
def execTapExtestPulse (pins shifted : List Bool) (s : State) : Out1 := .next (s.takeBalls.boundaryScan .extestPulse pins shifted)

/-- `EXTEST_TRAIN`. -/
def execTapExtestTrain (pins shifted : List Bool) (s : State) : Out1 := .next (s.takeBalls.boundaryScan .extestTrain pins shifted)

/-- `CLAMP`: the balls hold the boundary register's update stage. -/
def execTapClamp (s : State) : Out1 := .next (s.takeBalls.bypassScan .clamp)

/-- `HIGHZ`. -/
def execTapHighz (s : State) : Out1 := .next ((s.takeBalls.withTap fun t => { t with highZ := true }).bypassScan .highz)

/-- `BYPASS`, which every unlisted code selects. -/
def execTapBypass (s : State) : Out1 := .next (s.bypassScan .bypass)

/-- `MBIST`: memory BIST control; the spec gives its register no layout, and the device runs on (R529, R531). -/
def execTapMbist (s : State) : Out1 := .next (s.withTap fun t => { t with instr := .mbist })

/-- DEBUG may be opened: mode 0, or mode 1 once unlocked (R530). -/
def State.debugOpen (s : State) : Bool := s.otp.jtagMode == 0 || (s.otp.jtagMode == 1 && s.tap.unlocked)

/-- `DEBUG`: the debug port, master 0x49; BYPASS where it is closed, and while it is locked (DEDUCED, log entry 84). -/
def execTapDebug (s : State) : Out1 :=
  if s.debugOpen then .next (s.withTap fun t => { t with instr := .debug }) else .next (s.bypassScan .bypass)

/-- The proof of DBG_UNLOCK: the first 128 bits of HMAC-SHA-256 of the nonce under the VENDOR key. -/
def State.debugProof (s : State) (n : BitVec 128) : BitVec 128 :=
  BitVec.ofNat 128 (beNat ((hmacSha256 (beBytes 32 s.otp.vendorKey.toNat) (beBytes 16 n.toNat)).take 16))

/-- `DBG_UNLOCK`: a capture, which offers a nonce and 128 zero bits, or an update with a nonce and its proof. A mismatch holds
the next nonce back for 1 s (R530). Outside mode 1 there is nothing to unlock. -/
def execTapDbgUnlock (update : Option (BitVec 128 × BitVec 128)) (s : State) : Out1 :=
  let s := s.withTap fun t => { t with instr := .dbgUnlock }
  match update with
  | none =>
    if s.now < s.tap.nonceFrom then .next (s.emit (.tap (List.replicate 256 false)))
    else
      let (n, s) := s.nonce
      .next ((s.withTap fun t => { t with nonce := some n }).emit (.tap (tapBits 128 n.toNat ++ List.replicate 128 false)))
  | some (n, proof) =>
    if s.otp.jtagMode ≠ 1 then .next s
    else if s.tap.nonce = some n ∧ proof = s.debugProof n then
      .next ((s.withTap fun t => { t with
        unlocked := true
        nonce := none }).raise 0xA201 (det 0xFF 0))
    else
      .next ((s.withTap fun t => { t with
        nonce := none
        nonceFrom := s.now + second }).raise 0xA202 (det 0xFF 0))

end Sys2Proof.Machine
end

