-- ==== Sys2Proof/Machine/Calib.lean ====
section
/-! DEFINITION. Calibration values: the stored copy (R478), the base delays of a chain and their distribution (R186, R187, R189,
R479), and the store of a copy (R477). -/

namespace Sys2Proof.Machine

open Host

/-! ### The copy (Table 17.4) -/

/-- The bytes of a calibration copy. -/
def Cal.bytes (c : Cal) : List Byte :=
  let kinds := c.kinds.toList.flatMap fun k =>
    leBytes 4 k.count ++ leBytes 4 k.disagree ++ leBytes 6 k.lastSec ++ leBytes 2 (bitAt k.stored 0)
  let ports := c.ports.toList.flatMap fun p => match p with
    | some (l, r) => leBytes 4 l ++ leBytes 4 r ++ leBytes 4 1
    | none => List.replicate 12 0
  let trims := c.trims.toList.flatMap fun t => leBytes 2 (t % 65536).toNat
  let chains := c.chains.toList.flatMap fun x => padTo 2048 (match x with
    | some (crc, l) => leBytes 4 crc ++ leBytes 4 (l.length - 1) ++ l.flatMap fun b => leBytes 4 b.1 ++ leBytes 4 b.2
    | none => [])
  let head := padTo 16 (leBytes 4 0x43414C42 ++ leBytes 2 1 ++ leBytes 2 0 ++ leBytes 4 c.gen)
  let body := padTo 1024 (padTo 832 (head ++ kinds ++ ports) ++ trims) ++ chains
  body ++ leBytes 4 (crc32Nat body)

/-- The values in a copy, if it is valid. -/
def calOf (b : List Byte) : Option Cal :=
  if field b 0 4 == 0x43414C42 && field b 4 2 == 1 && field b 5120 4 == crc32Nat (b.take 5120) then
    some {
      gen := field b 8 4
      kinds := Vector.ofFn fun (k : Fin 3) =>
        let o := 16 + 16 * k.1
        { count := field b o 4, disagree := field b (o + 4) 4, lastSec := field b (o + 8) 6, stored := bit (field b (o + 14) 2) 0 }
      ports := Vector.ofFn fun (p : Fin 64) =>
        let o := 64 + 12 * p.1
        if bit (field b (o + 8) 1) 0 then some (field b o 4, field b (o + 4) 4) else none
      trims := Vector.ofFn fun (i : Fin 8) => sfield b (832 + 2 * i.1) 2
      chains := Vector.ofFn fun (c : Fin 2) =>
        let o := 1024 + 2048 * c.1
        let n := field b (o + 4) 1
        if n = 0 then none
        else some (field b o 4, (List.range (min 255 (n + 1))).map fun i => (field b (o + 8 + 8 * i) 4, field b (o + 12 + 8 * i) 4)) }
  else none

/-- The valid copy with the higher GEN, and which copy it is. -/
def State.calCopy (s : State) : Option (Cal × Nat) :=
  match calOf (s.flash (calArea 0) 5124), calOf (s.flash (calArea 1) 5124) with
  | some a, some b => if a.gen < b.gen then some (b, 1) else some (a, 0)
  | some a, none => some (a, 0)
  | none, some b => some (b, 1)
  | none, none => none

/-- Change the calibration values in RAM. -/
def State.withCal (s : State) (f : Cal → Cal) : State := { s with nvm := { s.nvm with cal := f s.nvm.cal } }

/-- A stored kind's count and time rise (R478). -/
def CalKind.store (k : CalKind) (sec : Nat) : CalKind := { k with count := k.count + 1, lastSec := sec, stored := true }

/-- A job that writes a calibration copy. -/
def FlashJob.isCal (j : FlashJob) : Bool :=
  match j.purpose with
  | .cal m => m != 0
  | _ => false

/-- The kinds of a calibration job. -/
def FlashJob.calKinds (j : FlashJob) : Nat :=
  match j.purpose with
  | .cal m => m
  | _ => 0

/-- Withdraw a copy that is being written, so that one with newer values takes its place; an operation in progress ends. -/
def State.dropCalJobs (s : State) : State :=
  s.withNvm fun n => { n with jobs := match n.issued, n.jobs with
    | true, j :: rest => (if j.isCal then { j with purpose := .cal 0, steps := j.steps.take 1 } else j) :: rest.filter fun x => !x.isCal
    | _, l => l.filter fun x => !x.isCal }

/-- Store the kinds of a mask, with all that wait or are being written: one copy over the one not in force, GEN one above
(R477, R478). A closed window or an empty bucket defers them. -/
def State.calStore (s : State) (mask : Nat) : State :=
  let all := s.nvm.jobs.foldl (fun m j => m ||| j.calKinds) (mask ||| s.rdN 0x2F00 0x19)
  if !s.windowOpen then s.deferKinds all
  else if !s.bucketHolds 5124 then (s.refuseWrite (calArea 0)).deferKinds all
  else
    let (gen, area) := match s.calCopy with
      | some c => (c.1.gen + 1, 1 - c.2)
      | none => (1, 0)
    let c := s.nvm.cal
    let copy : Cal := { c with
      gen := gen
      kinds := vmapi c.kinds fun k x => if bit all k then x.store s.wallSec else x }
    let a := calArea area
    (s.dropCalJobs.addJob { prio := 2, purpose := .cal all, steps := sectorErases a 2 ++ pageSteps a copy.bytes }).2

/-- The end of a copy's write: it is in force, and event 0x8203 names each kind stored. -/
def State.calStored (s : State) (mask : Nat) : State :=
  match s.calCopy with
  | none => s
  | some (c, _) =>
    let s := s.withCal fun r => { r with
      gen := c.gen
      kinds := Vector.ofFn fun (k : Fin 3) => { c.kinds[k] with disagree := r.kinds[k].disagree } }
    let s := s.wrN 0x2F00 0x19 (s.rdN 0x2F00 0x19 &&& (7 - mask % 8))
    (List.range 3).foldl (fun s k => s.raiseIf (bit mask k) 0x8203 (det (k + 1) c.gen)) s

/-! ### Base delays of a chain -/

/-- Twice the sums of R186 with the trims at zero, in ps: for each station from A and from B, then the whole sums. The round
trip of a cable is (t4 − t1) − (t3 − t2). -/
def HopRun.doubled (r : HopRun) : List (Int × Int) :=
  let rho := r.cables.map fun t => (t.2.2.2 - t.1) - (t.2.2.1 - t.2.1)
  let ab := r.latency.map fun l => 2 * (l.1 : Int)
  let ba := r.latency.map fun l => 2 * (l.2 : Int)
  let n := r.latency.length
  ((List.range n).map fun i => ((rho.take (i + 1)).sum + (ab.take i).sum, (rho.drop (i + 1)).sum + (ba.drop (i + 1)).sum)) ++
    [(rho.sum + ab.sum, rho.sum + ba.sum)]

/-- A run reports every station of a chain of N. -/
def HopRun.whole (r : HopRun) (n : Nat) : Bool := r.latency.length == n && r.cables.length == n + 1

/-- Distribute base delays: every tile applies them at a frame at least 4 ahead (R189). The write goes to index 0, sub-index 2
(DESIGN CHOICE, log entry 22): frame, delays from A and B, whether they are provisional, and N. -/
def State.sendBases (s : State) (p : Fin 2) (l : List (Nat × Nat)) (provisional : Bool) : State :=
  let frame := s.quartz.frame + 16
  (List.zipIdx l).foldl (fun s e =>
    s.gwOpenTx p (.gateway 4 true) .bases 4 true 0x0000 2 (e.2 + 1)
      (leBytes 8 frame ++ leBytes 4 e.1.1 ++ leBytes 4 e.1.2 ++ leBytes 1 (bitAt provisional 0) ++ leBytes 1 l.length) false) s

/-- Put base delays into use at the control sender and distribute them. `l` ends with the whole sums. The closure measured at
calibration stays while the sums do (R188). -/
def State.applyBases (s : State) (p : Fin 2) (l : List (Nat × Nat)) (provisional : Bool) : State :=
  let n := l.length - 1
  let sums := if provisional then none else l.getLast?
  let s := { s with quartz := { s.quartz with
    bases := vset s.quartz.bases p (l.take n)
    calDelay := vset s.quartz.calDelay p sums
    calRing := vset s.quartz.calRing p (if sums = s.quartz.calDelay[p] then s.quartz.calRing[p] else none) } }
  s.sendBases p (l.take n) provisional

/-- The topology's CRC, as a calibration names it (R478). -/
def State.topoCrc (s : State) (p : Fin 2) : Nat := crc32Nat (s.rdD (0x2200 + p) 0x08)

/-- The control sender names the markers of its runs, to the tiles and to the chain's other sender, 200 of them ahead and apart
(R187; DESIGN CHOICE, log entry 107). -/
def State.nameMarkers (s : State) (p : Fin 2) (runs : Nat) : State :=
  let counts := (List.range runs).map fun i => (s.lanes.link[chainLink p].markerCount.toNat + 200 * (i + 1)) % 65536
  let b := counts.flatMap (leBytes 2)
  let s := (s.nameMarks counts).broadcastWrite p 0x0000 3 b
  if s.single then s else s.sendMgmtUnit s.ports[p].peer 11 (leBytes 1 (s.chainNo p) ++ b)

/-- Times in 2^-16 ns as ps. -/
def hopPs (w : Nat) : Int := (w * 1000 / subNs : Nat)

/-- A run with this sender's own captures at its end of the chain, at both ends at a single sender: end A is station 0 of cable 0
and end B station N + 1 of cable N. A run whose marker it has not captured is not whole (R186, R187). -/
def State.ownHop (s : State) (p : Fin 2) (k : Nat) (h : HopRun) : HopRun :=
  let own (q : Fin 2) (h : HopRun) : HopRun :=
    match (s.lanes.link[chainLink q].hopMarks[k]?).bind fun m => m.dep.bind fun d => m.arr.map fun a => (d, a) with
    | none => { cables := [], latency := [] }
    | some (d, a) =>
      let cables := if q = 0 then h.cables.modify 0 fun t => (hopPs d, t.2.1, t.2.2.1, hopPs a)
        else h.cables.modify (h.cables.length - 1) fun t => (t.1, hopPs a, hopPs d, t.2.2.2)
      { h with cables := cables }
  if s.single then own 1 (own 0 h) else own p h

/-- Begin the provisional measurement that waits, unless another run is in progress (R189). -/
def State.startHop (s : State) : State :=
  if s.nvm.calRun.isSome then s
  else match (List.finRange 2).find? fun p => s.ports[p].hopDue with
    | none => s
    | some p =>
      let s := s.withChain p fun x => { x with hopDue := false }
      (s.withNvm fun n => { n with calRun := some { kind := 0, port := p, rounds := [] } }).nameMarkers p 1

/-- After a discovery that found a whole ring: the stored base delays where they fit its topology, else event 0x8205 and one
provisional measurement, which waits for a run in progress (R189, R479). -/
def State.hopAfterDiscovery (s : State) (p : Fin 2) : State :=
  let measure (s : State) : State := (s.withChain p fun x => { x with hopDue := true }).startHop
  match s.nvm.cal.chains[p] with
  | some (crc, l) => if crc = s.topoCrc p then s.applyBases p l false else measure (s.raise 0x8205 (det p 2))
  | none => measure s

/-- Send a chain's new base delays to its other sender (R477): operation 8 of a MGMT unit with the chain number, TOPO_CRC, N, the
first entry and up to 30 entries. -/
def State.shareBases (s : State) (p : Fin 2) (crc : Nat) (l : List (Nat × Nat)) : State :=
  (List.range ((l.length + 29) / 30)).foldl (fun s k =>
    let part := (l.drop (30 * k)).take 30
    s.sendMgmtUnit s.ports[p].peer 8 (leBytes 1 (s.chainNo p) ++ leBytes 4 crc ++ leBytes 1 (l.length - 1) ++ leBytes 1 k ++
      leBytes 1 part.length ++ part.flatMap fun b => leBytes 4 b.1 ++ leBytes 4 b.2)) s

/-- Such a unit at the other sender: it gathers the entries in order and stores them when they are all there (R477). -/
def State.takeBases (s : State) (p : Fin 2) (d : List Byte) : State :=
  let crc := field d 1 4
  let n := field d 5 1
  let k := field d 6 1
  let part := (List.range (field d 7 1)).map fun i => (field d (8 + 8 * i) 4, field d (12 + 8 * i) 4)
  let held := match s.quartz.bases[p], k with
    | _, 0 => []
    | l, _ => l
  if held.length ≠ 30 * k then s
  else
    let l := held ++ part
    let s := { s with quartz := { s.quartz with bases := vset s.quartz.bases p l } }
    if l.length ≤ n then s
    else
      let s := s.withCal fun c => { c with chains := vset c.chains p (some (crc, l)) }
      let s := { s with quartz := { s.quartz with
        bases := vset s.quartz.bases p (l.take n)
        calDelay := vset s.quartz.calDelay p l.getLast?
        calRing := vset s.quartz.calRing p none } }
      s.calStore 2

end Sys2Proof.Machine
end

