-- ==== Sys2Proof/Machine/Discovery.lean ====
section
/-! DEFINITION. Discovery of the stations of a chain (R134 to R139). -/

namespace Sys2Proof.Machine

open Host

/-! ### Reports and the walk -/

/-- The REPORT that bytes carry (Table 4.9). -/
def topoReportOf (b : List Byte) : TopoReport where
  serial := field b 0 6
  station := field b 6 1
  flags := field b 7 1
  nbA := field b 8 6
  kindA := field b 14 1
  nbB := field b 15 6
  kindB := field b 21 1
  rev := field b 22 1

/-- ROLE and PORT_KIND nibbles of the sender ports at end A and at end B (R93, R135). -/
def senderEnd (e : Fin 2) : Nat := 0x10 + e

/-- The ROLE and PORT_KIND nibbles name a tile's chain port: ROLE 0 (Table 3.7). -/
def kindTile (k : Nat) : Bool := k / 16 == 0 && decide (k % 16 ≤ 1)

/-- One tile met on a walk. -/
structure WalkStep where
  serial : Nat
  /-- Entered through port B. -/
  viaB : Bool
  silent : Bool
  deriving DecidableEq, Repr

/-- The report of a serial. -/
def reportOf (rs : List TopoReport) (serial : Nat) : Option TopoReport := rs.find? fun r => r.serial == serial

/-- A tile that names a serial as a neighbour, other than the one already met. -/
def namedBy (rs : List TopoReport) (serial prev : Nat) : Option Nat :=
  (rs.find? fun r => r.serial != prev && ((kindTile r.kindA && r.nbA == serial) || (kindTile r.kindB && r.nbB == serial))).map
    TopoReport.serial

/-- Walk from a tile entered from a neighbour, or from the end (none), until the far end, a break, or a tile already met:
the tiles met, and whether the far end was reached (R135, R136). Past a silent tile that no further tile names comes the far end,
where the ring is known to be `whole`. -/
def walkOn (rs : List TopoReport) (from_ to_ : Fin 2) (whole : Bool) : Nat → Option Nat → Nat → List WalkStep → List WalkStep × Bool
  | 0, _, _, acc => (acc, false)
  | fuel + 1, prev, cur, acc =>
    if acc.any fun w => w.serial == cur then (acc, false)
    else match reportOf rs cur with
      | none =>
        let acc := acc ++ [{ serial := cur, viaB := false, silent := true }]
        match namedBy rs cur (prev.getD 0) with
        | none => (acc, whole)
        | some n => walkOn rs from_ to_ whole fuel (some cur) n acc
      | some r =>
        let entersA := match prev with
          | none => r.kindA == senderEnd from_
          | some p => kindTile r.kindA && r.nbA == p
        let acc := acc ++ [{ serial := cur, viaB := !entersA, silent := false }]
        let (nb, kind) := if entersA then (r.nbB, r.kindB) else (r.nbA, r.kindA)
        if kind = senderEnd to_ then (acc, true)
        else if kindTile kind then walkOn rs from_ to_ whole fuel (some cur) nb acc
        else (acc, false)

/-- The walk from an end: from the tile that names the sender there, or from the one that the sender knows as its link's partner
(R135 to R137). -/
def walkFrom (rs : List TopoReport) (e : Fin 2) (first : Option Nat) (whole : Bool) : List WalkStep × Bool :=
  match ((rs.find? fun r => r.kindA == senderEnd e || r.kindB == senderEnd e).map TopoReport.serial).or first with
  | none => ([], false)
  | some n => walkOn rs e (other e) whole 300 none n []

/-- A walk as it would be from the other end. -/
def turned (l : List WalkStep) : List WalkStep := l.reverse.map fun w => { w with viaB := !w.silent && !w.viaB }

/-- Two reports of one serial that name different neighbours come from two tiles (R138). -/
def twinSerial (rs : List TopoReport) : Bool :=
  anyPair (fun a b : TopoReport => a.serial == b.serial && (a.nbA != b.nbA || a.nbB != b.nbB || a.kindA != b.kindA || a.kindB != b.kindB)) rs
where
  anyPair (p : TopoReport → TopoReport → Bool) : List TopoReport → Bool
    | [] => false
    | x :: xs => xs.any (p x) || anyPair p xs

/-- Tiles named as neighbours that have not reported (R134). -/
def unheard (rs : List TopoReport) : List Nat :=
  (rs.flatMap fun r => (if kindTile r.kindA then [r.nbA] else []) ++ (if kindTile r.kindB then [r.nbB] else [])).filter
    fun n => (reportOf rs n).isNone

/-! ### Entries (Table 4.9) -/

/-- An ASSIGN entry. -/
def assignBytes (serial station : Nat) (reversed : Bool) : List Byte :=
  leBytes 6 serial ++ leBytes 1 station ++ leBytes 1 (bitAt reversed 0) ++ [0, 0, 0, 0]

/-- The entries of a topology. -/
def entriesOf (b : List Byte) : List (Nat × Nat × Bool) :=
  (List.range (b.length / 12)).map fun i => (field b (12 * i) 6, field b (12 * i + 6) 1, bit (field b (12 * i + 7) 1) 0)

/-- The station of a serial in a topology; 0 none. -/
def stationIn (b : List Byte) (serial : Nat) : Nat :=
  (((entriesOf b).find? fun e => e.1 == serial).map fun e => e.2.1).getD 0

/-- The result of a walk: entries, reversed, silent, broken. -/
structure Ring where
  entries : List (Nat × Nat × Bool)
  reversed : List Nat
  silent : List Nat
  broken : Bool
  /-- Stations reached from end A. -/
  fromA : Nat
  deriving DecidableEq, Repr

/-- Number a ring from its reports (R135 to R137). On a broken ring, stations from end B count backwards from N, and a
tile that holds a station keeps it. `first` gives the tile next to each end where the sender knows it, and `whole` says that cells of
the far end come round. -/
def ringOf (rs : List TopoReport) (n : Nat) (first : Fin 2 → Option Nat) (whole : Bool) : Ring :=
  let far := walkFrom rs 1 (first 1) whole
  let near := walkFrom rs 0 (first 0) whole
  let a := if !near.2 ∧ far.2 then (turned far.1, true) else near
  let held (serial base : Nat) : Nat := match reportOf rs serial with
    | some r => if r.station ≠ 0 then r.station else base
    | none => base
  let ea := (List.zipIdx a.1).map fun (e : WalkStep × Nat) => (e.1, e.2 + 1)
  let all : List (WalkStep × Nat × Bool) :=
    if a.2 then ea.map fun e => (e.1, e.2, e.1.viaB)
    else
      let b := far.1.filter fun w => !(a.1.any fun v => v.serial == w.serial)
      let eb := (List.zipIdx b).map fun (e : WalkStep × Nat) => (e.1, if n ≤ e.2 then 0 else n - e.2)
      (ea.map fun e => (e.1, held e.1.serial e.2, e.1.viaB)) ++
        (eb.map fun e => (e.1, held e.1.serial e.2, !e.1.viaB && !e.1.silent))
  { entries := all.map fun e => (e.1.serial, e.2.1, e.2.2)
    reversed := (all.filter fun e => e.2.2).map fun e => e.2.1
    silent := (all.filter fun e => e.1.silent).map fun e => e.2.1
    broken := !a.2
    fromA := a.1.length }

/-- Bytes of the entries that have a station. -/
def Ring.bytes (r : Ring) : List Byte :=
  (r.entries.filter fun e => e.2.1 != 0).flatMap fun e => assignBytes e.1 e.2.1 e.2.2

/-! ### A run -/

/-- Broadcast ASSIGN, at most 18 entries to a cell (Table 4.9). -/
def State.sendAssign (s : State) (p : Fin 2) (entries : List Byte) (n : Nat) : State :=
  let count := entries.length / 12
  (List.range ((count + 17) / 18)).foldl (fun s k =>
    let m := min 18 (count - 18 * k)
    s.originateChain p 6 0xFFF (3 * 2 ^ 28)
      (leBytes 1 m ++ leBytes 1 (s.chainNo p) ++ leBytes 2 n ++ slice entries (216 * k) (12 * m))) s

/-- Broadcast a QUERY (R134). -/
def State.sendQuery (s : State) (p : Fin 2) : State := s.originateChain p 6 0xFFF (2 ^ 28) []

/-- Start a run (R16, R134). Only the control sender runs discovery. -/
def State.startDiscovery (s : State) (p : Fin 2) (checkOnly : Bool) : Nat × State :=
  if !s.leads p ∨ s.isRunning (0x2200 + p) 0x05 then (abState, s)
  else
    let before := s.rdN (0x2200 + p) 0x02
    let s := s.startRun (0x2200 + p) 0x05
    let s := if checkOnly then s else s.wrN (0x2200 + p) 0x02 1
    let s := s.withChain p fun x => { x with discovery := some { checkOnly := checkOnly, repeated := false, before := before, since := s.now, reports := [] } }
    (0, s.sendQuery p)

/-- A write of DISCOVER (R134, R138): on a chain that has presented a frame it assigns only with RENUMBER set. -/
def State.discoverWrite (s : State) (p : Fin 2) (v : Int) : Nat × State :=
  if v = 0 then (0, s) else s.startDiscovery p (s.ports[p].presented && !s.rdB (0x2200 + p) 0x0B)

/-- A run that starts by itself: when the chain first comes up, and every 10 s as a check (R134). -/
def State.discoverSelf (s : State) (p : Fin 2) : State :=
  if s.portUp p then (s.startDiscovery p (s.ports[p].discovered || s.ports[p].presented)).2 else s

/-- A tile's TOPO REPORT at the control sender: collected during a run; outside an assigning run, a tile that holds no
station takes the one its serial has in the topology (R134, R136, R139). -/
def State.takeReport (s : State) (p : Fin 2) (b : List Byte) : State :=
  let r := topoReportOf b
  let topo := s.rdD (0x2200 + p) 0x08
  let entry := (entriesOf topo).find? fun e => e.1 == r.serial
  let again (s : State) : State := match entry with
    | some e => if r.station = 0 ∧ e.2.1 ≠ 0 then s.sendAssign p (assignBytes e.1 e.2.1 e.2.2) (topo.length / 12) else s
    | none => s
  match s.ports[p].discovery with
  | none => again s
  | some d =>
    let s := s.withChain p fun x => { x with discovery := some { d with
      reports := if d.reports.contains r then d.reports else d.reports ++ [r] } }
    if d.checkOnly then again s else s

/-- Publish a failed run: more than 255 tiles (1) or a serial met twice (2); the existing stations and RING_STATE stand
(R138, R142). -/
def State.discoveryFails (s : State) (p : Fin 2) (before cause : Nat) : State :=
  (((s.wrN (0x2200 + p) 0x02 before).publish (0x2200 + p) 0x05 0x06 false).cause cause).raise 0x3105 (s.chainDetail p cause)

/-- The far end of a chain is known to be there: a single sender, or a peer that answers (R26, R156). -/
def State.farEnd (s : State) (p : Fin 2) : Bool := s.single || (s.ports[p].peer != 0 && !s.ports[p].peerLost)

/-- The tile next to an end that this sender drives, by the CAP blocks of its link (R93). -/
def State.firstTile (s : State) (p e : Fin 2) : Option Nat :=
  let x := s.lanes.link[chainLink e]
  if (e = p ∨ s.single) ∧ s.portUp e ∧ kindTile x.partnerKind.toNat then some x.partner.toNat else none

/-- A HEALTH cell of the far end has come round the ring within the last five periods, so the ring is whole (R136; DEDUCED, log
entry 120). -/
def State.ringWhole (s : State) (p : Fin 2) : Bool := s.ports[p].ringHeard.any fun t => decide (s.now ≤ t + 500000)

/-- The end of a run: walk, number, assign, and publish; every run on a whole ring stores its topology, but for a check that finds
stations moved on a chain that has presented (R134 to R139; the exception: DEDUCED, log entry 120). -/
def State.discoveryEnds (s : State) (p : Fin 2) (d : Discovery) : State :=
  let s := s.withChain p fun x => { x with discovery := none, discovered := true }
  let stored := s.rdD (0x2200 + p) 0x0A
  let n := if stored = [] then s.rdN (0x2200 + p) 0x09 else stored.length / 12
  let r := ringOf d.reports n (s.firstTile p) (s.ringWhole p)
  if 255 < r.entries.length then s.discoveryFails p d.before 1
  else if twinSerial d.reports then s.discoveryFails p d.before 2
  else
    let found := r.bytes
    let moved := stored != [] && (entriesOf found).any fun e => stationIn stored e.1 != e.2.1
    let differs := moved || (stored != [] && !r.broken && found != stored)
    let s := s.wrN (0x2200 + p) 0x02 (if !r.broken then 2 else if s.farEnd p then 3 else 4)
    let s := s.wrN (0x2200 + p) 0x03 r.entries.length
    let s := s.wrN (0x2200 + p) 0x07 (bitAt (!r.reversed.isEmpty) 0 + bitAt (!r.silent.isEmpty) 1 + bitAt r.broken 2 + bitAt differs 3)
    let held := s.ports[p].presented
    let s := if held && (differs || r.broken) && d.checkOnly then s else s.wrD (0x2200 + p) 0x08 found
    let s := s.raiseIf r.broken 0x3101 (s.chainDetail p r.fromA)
    let s := r.reversed.foldl (fun s st => s.raise 0x3102 (s.chainDetail p st)) s
    let s := r.silent.foldl (fun s st => s.raise 0x3103 (s.chainDetail p st)) s
    let first := (((entriesOf found).find? fun e => stationIn stored e.1 != e.2.1).map fun e => e.2.1).getD 0
    let s := s.raiseIf (held && moved && d.checkOnly) 0x3104 (s.chainDetail p first)
    let s := (s.publish (0x2200 + p) 0x05 0x06 true).readLamps p
    let s := if r.broken || found == stored || (held && moved && d.checkOnly) then s else s.wrD (0x2200 + p) 0x0A found
    if d.checkOnly then (if r.broken then s else s.hopAfterDiscovery p)
    else
      let s := if held then s.withChain p fun x => { x with newNumbers := found }
        else s.sendAssign p found (if r.broken then n else r.entries.length)
      if r.broken then s else s.hopAfterDiscovery p

/-- `DISCOVERY_COLLECT_END`: 2 ms of collecting are over; the QUERY is repeated once for a neighbour that has not reported,
or the run ends (R134). -/
def execDiscoveryCollectEnd (p : Fin 2) (s : State) : Out1 :=
  match s.ports[p].discovery with
  | none => .next s
  | some d =>
    let s := s.until_ (d.since + 2 * ms)
    if !d.repeated && !(unheard d.reports).isEmpty then
      .next ((s.withChain p fun x => { x with discovery := some { d with repeated := true, since := s.now } }).sendQuery p)
    else .next (s.discoveryEnds p d)

end Sys2Proof.Machine
end

