-- ==== Sys2Proof/Machine/TileChain.lean ====
section
/-! DEFINITION. A tile on its chain: the cells it receives (R115, R117, R122 to R132), discovery (R134, R135), its HEALTH
(R150), frame-control cells (R251, R252), timing cells and the servo (R182 to R186), the loss of its feed (R162 to R164),
and repeater-only mode (R140, R141). -/

namespace Sys2Proof.Machine

open Host

/-! ### Slots of the repeater -/

/-- A cell slot that would leave a transmit port empty carries the next originated cell, or a fresh idle cell
(R114, R126). -/
def State.idleSlot (s : State) (out : Fin 2) : State :=
  match s.tile.orig[out] with
  | [] => s.sendCell out idleCell
  | c :: cs => State.paceMgmt 1 ((s.withTile fun t => { t with orig := vset t.orig out cs }).sendCell out c)

/-- `IDLE_CELL_RECEIVE`: an idle cell arrives; its slot carries an originated cell or a fresh idle cell, or is deleted
in rate matching (R126, R127). -/
def execIdleCellReceive (port : Fin 2) (s : State) : Out1 :=
  let out := other port
  if s.role ≠ .tile ∨ !s.portUp port ∨ !s.portUp out then .next s
  else if s.matching out ∨ !s.tile.match_[out].isEmpty then .next s
  else .next (s.idleSlot out)

/-- `RATE_MATCH_SEND`: the next output slot carries the head of the rate-matching buffer (R127). -/
def execRateMatchSend (out : Fin 2) (s : State) : Out1 :=
  if s.role ≠ .tile ∨ !s.portUp out then .next s
  else match s.tile.match_[out] with
    | [] => .next (s.idleSlot out)
    | c :: cs => .next ((s.withTile fun t => { t with match_ := vset t.match_ out cs }).sendCell out c)

/-! ### Video and reserved cells -/

/-- `VIDEO_CELL_RECEIVE` (R117, R122, R129 to R131, R140). -/
def execVideoCellReceive (port : Fin 2) (r : RxCell) (s : State) : Out1 :=
  let s := s.arrive port r
  let c := r.cell
  if !s.hears r ∨ !(c.type == 1 || c.type == 2) ∨ s.repeatOnly then .next s
  else .next (s.acceptVideo port c)

/-- `RESERVED_TYPE_CELL_RECEIVE`: the repeater counts, also while the clusters start (R115, R122). -/
def execReservedTypeCellReceive (port : Fin 2) (r : RxCell) (s : State) : Out1 :=
  let s := s.arrive port r
  if s.role ≠ .tile ∨ r.damaged ∨ r.cell.type < 9 then .next s
  else .next ((s.bump 0x2200 0x1D 1).raiseLimited 0x3108 0 second fun _ => s.chainDetail port r.cell.type)

/-! ### Discovery and HEALTH -/

/-- NB and NB_KIND of a port: the neighbour's serial, ROLE and PORT_KIND (Table 4.9). -/
def State.neighbourBytes (s : State) (p : Fin 2) : List Byte :=
  if s.portUp p then
    let x := s.lanes.link[(if p = 0 then (0 : Fin 4) else 1)]
    leBytes 6 x.partner.toNat ++ leBytes 1 x.partnerKind.toNat
  else List.replicate 7 0xFF

/-- SERIAL_LOW of this device. -/
def serialLow : Nat := Config.serial.toNat % 2 ^ 48

/-- The TOPO REPORT of a tile (Table 4.9). -/
def State.topoReport (s : State) : List Byte :=
  leBytes 6 serialLow ++ leBytes 1 s.station ++
    leBytes 1 (bitAt s.repeatOnly 0 + bitAt (s.rdB 0x2200 0x03) 1 + bitAt s.tile.restarted 2) ++
    s.neighbourBytes 0 ++ s.neighbourBytes 1 ++ leBytes 1 Config.siliconRev

/-- Originate a TOPO REPORT towards both ends. -/
def State.sendReport (s : State) : State := s.originate 6 (2 * 2 ^ 28) s.topoReport

/-- A good TOPO cell of an operation that this tile has not acted on yet; it is remembered (R134). -/
def State.topoNew (s : State) (r : RxCell) (op : Nat) : Bool × State :=
  let c := r.cell
  if !s.hears r ∨ c.type ≠ 6 ∨ c.tsw 31 28 ≠ op ∨ !s.accepts s.tile.groups c.dest ∨ s.tile.topoSeqs.contains c.count then
    (false, s)
  else (true, s.withTile fun t => { t with topoSeqs := (c.count :: t.topoSeqs).take 8 })

/-- `TOPO_QUERY_RECEIVE` (R134). -/
def execTopoQueryReceive (port : Fin 2) (r : RxCell) (s : State) : Out1 :=
  let (act, s) := (s.arrive port r).topoNew r 1
  if act then .next s.sendReport else .next s

/-- The ASSIGN entry of a serial: station and flags (Table 4.9). -/
def assignEntry (b : List Byte) (serial : Nat) : Option (Nat × Nat) :=
  ((List.range (min 18 (field b 0 1))).find? fun i => field b (4 + 12 * i) 6 == serial).map fun i =>
    (field b (10 + 12 * i) 1, field b (11 + 12 * i) 1)

/-- `TOPO_ASSIGN_RECEIVE` (R134, R135). -/
def execTopoAssignReceive (port : Fin 2) (r : RxCell) (s : State) : Out1 :=
  let (act, s) := (s.arrive port r).topoNew r 3
  let b := r.cell.data
  if !act then .next s
  else match assignEntry b serialLow with
    | none => .next s
    | some e =>
      let s := ((s.wrN 0x2200 0x01 (field b 1 1)).wrN 0x2200 0x02 e.1).wrB 0x2200 0x03 (bit e.2 0)
      let s := s.withTile fun t => { t with restarted := false }
      let s := s.withQuartz fun q => { q with servo := { q.servo with stations := field b 2 2 } }
      .next s.sendReport

/-- `HEALTH_CELL_RECEIVE`: a sender's HEALTH tells the CSTATE at its end (R168, Table 5.2). -/
def execHealthCellReceive (port : Fin 2) (r : RxCell) (s : State) : Out1 :=
  let s := s.arrive port r
  let c := r.cell
  if !s.hears r ∨ c.type ≠ 7 ∨ c.tsw 31 31 = 1 ∨ !s.accepts s.tile.groups c.dest then .next s
  else .next (s.wrN 0x2300 (0x03 + c.origin) (byteAt c.data 3).toNat)

/-- The tile's hop delay is not fixed (R123). -/
def State.hopMoves (s : State) : Bool :=
  !s.tile.loopTimed[0] || !s.tile.loopTimed[1] || s.tile.slewing[0] || s.tile.slewing[1]

/-- The tile's HEALTH payload (Table 5.3). -/
def State.tileHealth (s : State) : List Byte :=
  let held := s.rdN 0x2880 0x0D == 0
  let start := held && s.video.compose.held == .startImage
  let flags := bitAt s.repeatOnly 0 + bitAt s.hopMoves 1 + bitAt (s.quartz.state == .locked) 2 +
    bitAt (held && !start) 3 + bitAt start 4 + bitAt (s.rdB 0x2200 0x03) 5 + bitAt (s.portUp 0) 6 + bitAt (s.portUp 1) 7
  let missing := ((List.range 8).map fun n => s.rdN 0x2700 (0x18 + n)).sum
  leBytes 1 1 ++ leBytes 1 s.station ++ leBytes 1 (s.rdN 0x2200 0x01) ++ leBytes 1 s.modeCode ++ leBytes 1 flags ++
    leBytes 1 s.thermalCode ++ leBytes 2 s.tile.healthCount.toNat ++ leBytes 2 (s.rdN 0x2E00 0x07) ++
    leBytes 2 (sat 0xFFFF missing) ++ leBytes 2 (sat 0xFFFF s.tile.crcSince[0]) ++
    leBytes 2 (sat 0xFFFF s.tile.crcSince[1]) ++ stamp10 s.quartz.wall

/-- `TILE_HEALTH_SEND`: at its station's phase of each millisecond (R150). -/
def execTileHealthSend (s : State) : Out1 :=
  if !s.isTile ∨ s.station = 0 then .next s
  else
    let s := s.untilPhase 1000000 (s.station * 3900)
    let s := s.withTile fun t => { t with healthCount := t.healthCount + 1 }
    let s := s.originate 7 (2 ^ 31) s.tileHealth
    .next (s.withTile fun t => { t with crcSince := Vector.replicate 2 0 })

/-! ### Frame-control cells -/

/-- The frame that a FRAMECTL payload names. -/
def fcFrame (b : List Byte) : Nat := field b 4 8

/-- `FRAMECTL_COMMIT_RECEIVE` (R250, R251). -/
def execFramectlCommitReceive (port : Fin 2) (r : RxCell) (s : State) : Out1 :=
  let s := s.arrive port r
  if r.cell.type ≠ 8 ∨ r.cell.tsw 31 28 ≠ 1 then .next s
  else
    let (act, s) := s.admitCell r
    let b := r.cell.data
    if act && bit (field b 16 32) s.station && s.station != 0 then
      .next (s.commitCell (field b 2 2) (fcFrame b) (field b 12 1))
    else .next s

/-- What the sender at the other end of a chain learns of the generation in force there, for the GEN_STATE cells that it sends once
it takes control (R250). -/
def State.learnGen (s : State) (port : Fin 2) (r : RxCell) : State :=
  if r.damaged ∨ s.ports[port].cstate.controls then s
  else
    let b := r.cell.data
    { s with ingress := { s.ingress with
      genInForce := vset s.ingress.genInForce port (field b 2 2, field b 12 1, field b 48 8) } }

/-- `FRAMECTL_GEN_STATE_RECEIVE` (R252). -/
def execFramectlGenStateReceive (port : Fin 2) (r : RxCell) (s : State) : Out1 :=
  let s := s.arrive port r
  if r.cell.type ≠ 8 ∨ r.cell.tsw 31 28 ≠ 2 then .next s
  else if s.role = .sender then .next (s.learnGen port r)
  else
    let (act, s) := s.admitCell r
    let b := r.cell.data
    if act then .next (s.genStateCell (field b 2 2) (field b 12 1)) else .next s

/-- `FRAMECTL_ABORT_RECEIVE` (R251). -/
def execFramectlAbortReceive (port : Fin 2) (r : RxCell) (s : State) : Out1 :=
  let s := s.arrive port r
  if r.cell.type ≠ 8 ∨ r.cell.tsw 31 28 ≠ 3 then .next s
  else
    let (act, s) := s.admitCell r
    if act then .next (s.abortCell (fcFrame r.cell.data)) else .next s

/-! ### The feed -/

/-- How many ends are alive (R162). -/
def State.endsAlive (s : State) : Nat :=
  (if s.tile.alive[0].isSome then 1 else 0) + (if s.tile.alive[1].isSome then 1 else 0)

/-- Detail of a redundancy event at a tile (R169). -/
def State.feedDetail (s : State) (v : Nat) : Nat := det3 (s.rdN 0x2200 0x01) s.station v

/-- A good TIMING cell of an end has arrived: the end is alive, and a lost feed is back (R162, R164). -/
def State.endAlive (s : State) (o : Fin 2) : State :=
  let s := s.withTile fun t => { t with alive := vset t.alive o (some s.now) }
  let s := s.wrN 0x2300 0x02 (2 - s.endsAlive)
  match s.tile.lostSince with
  | none => s
  | some _ => (s.withTile fun t => { t with lostSince := none }).raise 0x400F (s.feedDetail s.endsAlive)

/-- `FEED_END_TIMEOUT`: no good TIMING cell of an end for 2 ms (R162, R163). -/
def execFeedEndTimeout (o : Fin 2) (s : State) : Out1 :=
  match s.tile.alive[o] with
  | none => .next s
  | some t0 =>
    let s := s.until_ (t0 + 2 * ms)
    let s := s.withTile fun t => { t with alive := vset t.alive o none }
    let s := s.wrN 0x2300 0x02 (2 - s.endsAlive)
    if s.endsAlive ≠ 0 then .next s
    else
      let s := s.withTile fun t => { t with lostSince := some s.now }
      let was := s.rdN 0x2880 0x0D == 1
      let s := s.holdover 3
      let s := (s.bump 0x2300 0x05 1).raise 0x400D (s.feedDetail 0)
      let s := s.stopPresenting
      .next (if was then s.withCompose fun c => { c with held := .recompose } else s)

/-- `HOLD_TIME_EXPIRY`: HOLD_TIME after the loss the tile shows the start image (R163). -/
def execHoldTimeExpiry (s : State) : Out1 :=
  match s.tile.lostSince with
  | none => .next s
  | some t0 =>
    if s.rdN 0x2300 0x02 = 3 then .next s
    else
      let s := s.until_ (t0 + s.rdN 0x2300 0x01 * ms)
      let s := (s.wrN 0x2300 0x02 3).withCompose fun c => { c with held := .startImage }
      .next (s.raise 0x400E (s.feedDetail 0))

/-! ### Timing cells and the servo -/

/-- Picoseconds in units of 2^-16 ns. -/
def psUnits (ps : Int) : Int := ps * 65536 / 1000

/-- Units of 2^-16 ns in picoseconds. -/
def unitsPs (u : Int) : Int := u * 1000 / 65536

/-- The delay d_O of the tile from an end, ps (R186). With no base delays the sums are 0. -/
def State.delayFrom (s : State) (o : Fin 2) : Int :=
  let v := s.quartz.servo
  let (a, b) := v.base.getD (0, 0)
  if o = 0 then a + s.station * v.trimAB else b + ((v.stations : Int) + 1 - s.station) * v.trimBA

/-- An end's samples are usable, given the unsteady stations named (R184). -/
def State.endUsable (s : State) (o : Fin 2) : Bool :=
  let v := s.quartz.servo
  if o = 0 then v.unsteadyA == 0 || decide (s.station ≤ v.unsteadyA)
  else v.unsteadyB == 0 || decide (v.unsteadyB ≤ s.station)

/-- A delay sample from an end (R183, R185). -/
def State.takeSample (s : State) (o : Fin 2) (launch : Nat) : State :=
  let d := s.delayFrom o
  let s := s.wrN 0x2600 (0x40 + o) d.toNat
  let due : Int := launch + psUnits d
  if !s.endUsable o then s
  else
    let s := s.bump 0x2600 (0x45 + o) 1
    if !s.quartz.servo.stepped then
      s.withQuartz fun q => { q with
        wall := due.toNat
        state := .acquiring
        frame := q.set.frameAt due.toNat
        servo := { q.servo with stepped := true } }
    else
      let theta : Int := (s.quartz.wall : Int) - due
      let w := some (match s.quartz.servo.window[o] with | none => theta | some m => min m theta)
      s.withQuartz fun q => { q with servo := { q.servo with window := vset q.servo.window o w } }

/-- The fields of a TIMING payload beside its stamp and its set: flags, frame master, trims, unsteady stations, wall
derate (Table 6.4). A factor of 4,096 from frame 0 says that nothing has been published; a value held stays (R42, R288). -/
def State.takeTimingFields (s : State) (b : List Byte) : State :=
  let s := s.withQuartz fun q => { q with
    traceable := (byteAt b 1).getLsbD 0
    fm := (byteAt b 3).toNat
    servo := { q.servo with
      unsteadyA := (byteAt b 80).toNat
      unsteadyB := (byteAt b 81).toNat
      trimAB := sfield b 82 2
      trimBA := sfield b 84 2 } }
  let w := (field b 86 2, field b 88 8)
  if s.video.colour.wall.contains w ∨ w = (4096, 0) ∧ s.video.colour.wall ≠ [] then s
  else s.withColour fun c => { c with wall := (w :: c.wall.filter fun x => decide (x.2 ≤ w.2) && x.2 != w.2).take 8 }

/-- `TIMING_CELL_RECEIVE` (R162, R182 to R185, R192, R562). -/
def execTimingCellReceive (port : Fin 2) (r : RxCell) (s : State) : Out1 :=
  let s := s.arrive port r
  let c := r.cell
  if !s.hears r ∨ c.type ≠ 3 ∨ c.tsw 31 28 ≠ 1 ∨ !s.accepts s.tile.groups c.dest then .next s
  else
    let b := c.data
    let o := c.origin
    let s := s.endAlive o
    let old := s.oldChange b 96
    let s := (if old then s else s.adoptSet (setAt b 16)).takeTimingFields b
    let s := if old && field b 96 1 == 2 then s else s.takeSample o (stampAt b 4)
    .next (s.takeChange (changeAt b 96))

/-- Samples of a window, by which the tile steers: the mean of both ends, or the one end that gave one (R183). -/
def TileServo.steering (v : TileServo) : Option Int :=
  match v.window[0], v.window[1] with
  | some a, some b => some ((a + b) / 2)
  | some a, none => some a
  | none, some b => some b
  | none, none => none

/-- Compare the two ends at the end of a window: 16 windows in a row more than 3 ns apart raise event 0x1606 (R183). -/
def State.compareEnds (s : State) : State :=
  match s.quartz.servo.window[0], s.quartz.servo.window[1] with
  | some a, some b =>
    let diff := (a - b).natAbs
    let run := if 3 * subNs < diff then s.quartz.servo.diffRun + 1 else 0
    let s := (s.wrI 0x2600 0x43 (unitsPs (a - b))).withQuartz fun q => { q with servo := { q.servo with diffRun := run } }
    s.raiseIf (run == 16) 0x1606 (s.quartzDetail (sat 0xFFFF (diff * 10 / subNs)))
  | _, _ => s

/-- A tile steps by a correction at the next frame boundary, and presents its held frame until then (R185, R199). -/
def State.stepLater (s : State) (by_ : Int) : State :=
  let was := s.rdN 0x2880 0x0D == 1
  let s := s.withQuartz fun q => { q with slew := 0, servo := { q.servo with stepAtFrame := some by_, lockRun := 0 } }
  if was then s.stopPresenting.withCompose fun c => { c with held := .recompose } else s

/-- The largest offset that a tile slews, 2^-16 ns: 1 µs when it relocks after holdover (R185), 1 ms otherwise (R199). -/
def State.slewable (s : State) : Nat := (if s.quartz.state = .holdover then 1000 else 1000000) * subNs

/-- `TIMING_WINDOW_END`: each 64 µs window steers the clock, slewed at 100 ppm at most, and judges lock; a window without a
usable sample puts a locked tile into holdover; an offset too large to slew steps at the next frame boundary, unless a
later window finds it small again (R183 to R185, R199). -/
def execTimingWindowEnd (s : State) : Out1 :=
  if !s.isTile ∨ !s.quartz.servo.stepped then .next s
  else
    let s := s.compareEnds
    let v := s.quartz.servo.steering
    let s := s.withQuartz fun q => { q with servo := { q.servo with window := Vector.replicate 2 none } }
    match v with
    | none => .next ((s.withQuartz fun q => { q with slew := 0, servo := { q.servo with lockRun := 0 } }).holdover 3)
    | some v =>
      let s := s.wrI 0x2600 0x35 (unitsPs v)
      if s.slewable < v.natAbs then .next (s.stepLater (-v))
      else
        let run := if v.natAbs ≤ subNs then s.quartz.servo.lockRun + 1 else 0
        let s := (s.follow (-v) 64000).withQuartz fun q => { q with servo := { q.servo with stepAtFrame := none, lockRun := run } }
        .next (if 16 ≤ run then s.quartzLock 0x11 else s)

/-! ### Repeater-only mode and counters -/

/-- A write of REPEAT_ONLY (R140, R141). -/
def State.repeatOnlyWrite (s : State) (v : Int) : Nat × State :=
  let was := s.commanded
  let s := s.wrI 0x2200 0x04 v
  if v = 0 ∨ was then (0, s) else (0, s.stopPresenting.raise 0x3106 (s.chainDetail 0 1))

/-- A write of 1 to the tile's 0x2200:0F (R143). -/
def State.chainClear (s : State) (v : Int) : Nat × State :=
  if v = 0 then (0, s) else (0, s.zero 0x2200 ((List.range 14).map (0x10 + ·)))

end Sys2Proof.Machine
end

