-- ==== Sys2Proof/Machine/QuartzSender.lean ====
section
/-! DEFINITION. Quartz in a sender: the frame master's sources (R174 to R178), the cascade (R79, R179 to R181), timing cells and
trims (R182 to R191), changes of the timing set (R191 to R196) and the output pulses (R197). -/

namespace Sys2Proof.Machine

open Host

/-! ### The frame master and its source -/

/-- This sender is the frame master. -/
def State.isMaster (s : State) : Bool := s.isSender && s.quartz.master

/-- Change the cascade. -/
def State.withCascade (s : State) (f : Cascade → Cascade) : State := { s with cascade := f s.cascade }

/-- An offset sample of the frame master's source: source time minus local time, 2^-16 ns (R176). The first one steps
wall time unless a tile of the cascade has presented a frame; later ones are filtered and slewed; an offset above 1 s is
reported, at most once per second (DESIGN CHOICE, log entry 119), and left. -/
def State.sourceSample (s : State) (theta : Int) : State :=
  let elapsed := s.now - s.quartz.lastSource
  let s := (s.wrI 0x2600 0x35 (unitsPs (-theta))).withQuartz fun q => { q with lastSource := s.now }
  if s.quartz.state = .freeRunning ∧ !s.quartz.presented then
    let s := s.steer theta
    s.withQuartz fun q => { q with
      state := .acquiring
      goodSince := none
      filtered := 0
      slew := 0
      frame := q.set.frameAt q.wall }
  else if second * subNs < theta.natAbs then s.raiseLimited 0x1604 0 second fun _ => s.quartzDetail 0
  else
    let s := if s.quartz.state = .freeRunning then s.withQuartz fun q => { q with state := .acquiring } else s
    let off := Config.filterOffset s.quartz.filtered theta
    let s := (s.follow off elapsed).withQuartz fun q => { q with filtered := off }
    if 100 * subNs < off.natAbs then s.withQuartz fun q => { q with goodSince := none }
    else
      let since := s.quartz.goodSince.getD s.now
      let s := s.withQuartz fun q => { q with goodSince := some since }
      if since + 4 * second ≤ s.now then s.quartzLock (s.rdN 0x2600 0x01) else s

/-! ### PTP (R175) -/

/-- Change the PTP slave. -/
def State.withPtp (s : State) (f : Ptp → Ptp) : State := s.withQuartz fun q => { q with ptp := f q.ptp }

/-- Data-set comparison of the best-master algorithm: priority1, class, accuracy, variance, priority2, identity, then of two paths
to one grandmaster steps and the identity of the port that announces. -/
def PtpDataset.better (a b : PtpDataset) : Bool :=
  let key (d : PtpDataset) : List Nat :=
    [d.priority1, d.clockClass, d.accuracy, d.variance, d.priority2, d.identity, d.steps, d.source]
  decide (key a < key b)

/-- A PTP message on the port that PTP_PORT selects, 0 to 7 an Ethernet port and 8 the management port, of the domain in
use (R51, R175). -/
def State.ptpHeard (s : State) (port domain : Nat) : Bool :=
  s.isSender && s.rdN 0x2600 0x03 == port && s.rdN 0x2600 0x04 == domain

/-- A PTP message on the port and of the domain in use, from the port that is followed. -/
def State.ptpFrom (s : State) (port domain ident : Nat) : Bool :=
  s.ptpHeard port domain && (match s.quartz.ptp.master with
    | some m => m.source == ident
    | none => false)

/-- A complete Sync: its origin time and its arrival (R175, R176). -/
def State.ptpSample (s : State) (t1 t2 : Nat) : State :=
  let s := s.withPtp fun p => { p with t1 := t1, t2 := t2, syncWait := none }
  if s.isMaster && s.rdN 0x2600 0x01 == 0 then s.sourceSample ((t1 : Int) + s.quartz.ptp.pathDelay - t2) else s

/-- `PTP_SYNC_RECEIVE`: origin time corrected, 2^-16 ns; the arrival is timestamped at the ball; logSyncInterval from −7 to
−1 (R175). -/
def execPtpSyncReceive (port domain ident seq t1 : Nat) (logInterval : Int) (twoStep : Bool) (s : State) : Out1 :=
  if !s.ptpFrom port domain ident ∨ logInterval < -7 ∨ -1 < logInterval then .next s
  else if twoStep then .next (s.withPtp fun p => { p with syncWait := some (seq, s.quartz.wall) })
  else .next (s.ptpSample t1 s.quartz.wall)

/-- `PTP_FOLLOW_UP_RECEIVE`. -/
def execPtpFollowUpReceive (port domain ident seq t1 : Nat) (s : State) : Out1 :=
  match s.quartz.ptp.syncWait with
  | some (n, t2) => if s.ptpFrom port domain ident ∧ n = seq then .next (s.ptpSample t1 t2) else .next s
  | none => .next s

/-- VLAN identifier of the port that PTP_PORT selects (R48, R175). -/
def State.ptpVlan (s : State) : Nat :=
  let e := s.rdN 0x2600 0x03
  if e < 8 then s.rdN 0x2102 (0x18 + e) else s.rdN 0x2002 0x04

/-- `PTP_DELAY_REQ_SEND`: multicast, or unicast to the grandmaster, per PTP_DELAY_MODE, on the port in use with its VLAN. -/
def execPtpDelayReqSend (s : State) : Out1 :=
  if !s.isSender ∨ s.quartz.ptp.master = none then .next s
  else
    let n := s.quartz.ptp.delaySeq
    let s := s.withPtp fun p => { p with reqWait := some (n, s.quartz.wall), delaySeq := (n + 1) % 65536 }
    .next (s.emit (.delayReq (s.rdN 0x2600 0x03) s.ptpVlan n (s.rdN 0x2600 0x05 == 1)))

/-- `PTP_DELAY_RESP_RECEIVE`: the mean path delay from both directions. -/
def execPtpDelayRespReceive (port domain ident seq t4 : Nat) (s : State) : Out1 :=
  match s.quartz.ptp.reqWait with
  | none => .next s
  | some (n, t3) =>
    if !s.ptpFrom port domain ident ∨ n ≠ seq then .next s
    else .next (s.withPtp fun p => { p with
      reqWait := none
      pathDelay := (((p.t2 : Int) - p.t1) + ((t4 : Int) - t3)) / 2 })

/-- Follow a port: what waits of another one is dropped, and a change of the grandmaster raises event 0x1603. -/
def State.followMaster (s : State) (m : PtpForeign) : State :=
  let d := m.data
  let was := s.quartz.ptp.master
  let s := (s.withPtp fun p => { p with master := some d, lastAnnounce := m.heard, announceLog := m.log }).wrN 0x2600 0x37 d.identity
  let s := if was.map PtpDataset.source = some d.source then s else s.withPtp fun p => { p with syncWait := none, reqWait := none }
  s.raiseIf (was.map PtpDataset.identity != some d.identity) 0x1603 (s.quartzDetail (d.identity % 65536))

/-- An announce interval of 2^l s, in ns. -/
def announceNs (l : Int) : Nat := if l < 0 then second / 2 ^ l.natAbs else second * 2 ^ l.toNat

/-- The best of the qualified ports that have not been silent for three of their announce intervals (R175: the default BMCA of IEEE
1588-2019). -/
def State.bestPtp (s : State) : Option PtpForeign :=
  let ok := s.quartz.ptp.seen.filter fun m => m.qualified && decide (s.now < m.heard + 3 * announceNs m.log)
  ok.foldl (fun a m => match a with
    | none => some m
    | some b => if m.data.better b.data then some m else a) none

/-- `PTP_ANNOUNCE_RECEIVE`: logAnnounceInterval from −3 to +1; two Announces of a port within four announce intervals qualify it,
and the best of the qualified ones is followed (R175). -/
def execPtpAnnounceReceive (port domain : Nat) (d : PtpDataset) (logInterval : Int) (s : State) : Out1 :=
  if !s.ptpHeard port domain ∨ logInterval < -3 ∨ 1 < logInterval then .next s
  else
    let seen := s.quartz.ptp.seen
    let again := seen.any fun x => x.data.source == d.source && decide (s.now ≤ x.heard + 4 * announceNs logInterval)
    let m : PtpForeign := { data := d, heard := s.now, log := logInterval, qualified := again }
    let s := s.withPtp fun p => { p with seen := m :: seen.filter fun x => x.data.source != d.source }
    match s.bestPtp with
    | some m => .next (s.followMaster m)
    | none => .next s

/-- `ANNOUNCE_RECEIPT_TIMEOUT`: three announce intervals without an Announce; the port is given up for the best of the others that
qualify. -/
def execAnnounceReceiptTimeout (s : State) : Out1 :=
  match s.quartz.ptp.master with
  | none => .next s
  | some d =>
    let s := s.until_ (s.quartz.ptp.lastAnnounce + 3 * announceNs s.quartz.ptp.announceLog)
    let s := s.withPtp fun p => { p with seen := p.seen.filter fun x => x.data.source != d.source }
    match s.bestPtp with
    | some m => .next (s.followMaster m)
    | none => .next ((s.withPtp fun p => { p with master := none, syncWait := none, reqWait := none }).wrN 0x2600 0x37 0)

/-- `QUARTZ_SOURCE_LOSS`: no usable Sync or edge for 1 s (R176). -/
def execQuartzSourceLoss (s : State) : Out1 :=
  if !s.isMaster ∨ s.rdN 0x2600 0x01 = 3 then .next s
  else .next ((s.until_ (s.quartz.lastSource + second)).holdover 1)

/-! ### Genlock and PPS (R174, R177) -/

/-- The frame whose edge lies nearest to now: frames counted from F_BASE in steps of GL_DIV. -/
def State.edgeFrame (s : State) : Nat :=
  let q := s.quartz
  let w := ((q.wall : Int) + s.rdI 0x2600 0x1C * subNs).toNat + q.set.period * s.rdN 0x2600 0x1B / 2
  let f := q.set.frameAt w
  q.set.fBase + (f - q.set.fBase) / s.rdN 0x2600 0x1B * s.rdN 0x2600 0x1B

/-- Instant at which the edge of a frame is expected (R177). -/
def State.edgeDue (s : State) (f : Nat) : Int := s.quartz.set.tFrame f - s.rdI 0x2600 0x1C * subNs

/-- An edge was missed or not used; three in a row put Quartz into holdover, and the pulse must lock anew (R177). -/
def State.edgeMissed (s : State) : State :=
  let s := s.withQuartz fun q => { q with glMisses := q.glMisses + 1 }
  if s.quartz.glMisses < 3 ∨ s.quartz.state = .holdover then s
  else ((s.holdover 1).withQuartz fun q => { q with glLocked := false }).raise 0x1605 (s.quartzDetail (sat 0xFFFF s.quartz.glMisses))

/-- `GENLOCK_EDGE` (R177). -/
def execGenlockEdge (falling : Bool) (s : State) : Out1 :=
  if !s.isMaster ∨ s.rdN 0x2600 0x01 ≠ 1 ∨ (s.rdN 0x2600 0x1A == 1) ≠ falling then .next s
  else
    let theta := s.edgeDue s.edgeFrame - s.quartz.wall
    if s.quartz.glLocked ∧ 1000 * subNs < theta.natAbs then .next s.edgeMissed
    else
      let s := (s.withQuartz fun q => { q with glMisses := 0 }).sourceSample theta
      .next (s.withQuartz fun q => { q with glLocked := q.glLocked || q.goodSince.any fun t => decide (t + 4 * second ≤ s.now) })

/-- A write of TIME_SOURCE: what was filtered and locked of the former source is forgotten (R174, R176, R177). -/
def State.sourceWrite (s : State) (v : Int) : Nat × State :=
  if v = s.rdI 0x2600 0x01 then (0, s)
  else (0, (s.wrI 0x2600 0x01 v).withQuartz fun q => { q with
    glLocked := false, glMisses := 0, goodSince := none, filtered := 0, lastSource := s.now })

/-- `GENLOCK_EDGE_MISSING`: 1 µs past the instant of an edge that has not come (R177). -/
def execGenlockEdgeMissing (s : State) : Out1 :=
  if !s.isMaster ∨ s.rdN 0x2600 0x01 ≠ 1 then .next s
  else .next (s.untilWall (s.edgeDue s.edgeFrame + 1000 * subNs).toNat).edgeMissed

/-- A seconds label set by TOD_SET takes effect at the second boundary nearest to now (R174): the second that starts there
takes the label, and frames are counted on the new wall time. -/
def State.takeTod (s : State) : State :=
  match s.quartz.tod with
  | none => s
  | some v => s.withQuartz fun q =>
    let sec := second * subNs
    let near := (q.wall + sec / 2) / sec * sec
    let w := ((v * sec : Nat) + ((q.wall : Int) - near)).toNat
    { q with tod := none, wall := w, frame := q.set.frameAt w }

/-- `PPS_EDGE`: phase from the edge; the label increments, or is the one that TOD_SET gave (R174). -/
def execPpsEdge (s : State) : Out1 :=
  if !s.isMaster ∨ s.rdN 0x2600 0x01 ≠ 2 then .next s
  else
    let sec := second * subNs
    let near := (s.quartz.wall + sec / 2) / sec * sec
    .next (s.sourceSample ((near : Int) - s.quartz.wall)).takeTod

/-- A write of TOD_SET (R174). With a source that gives its own seconds label it waits until the source is another (DESIGN CHOICE, log
entry 119). -/
def State.todWrite (s : State) (v : Nat) : Nat × State := (0, s.withQuartz fun q => { q with tod := some v })

/-! ### Cascade links (R79, R179, R180) -/

/-- Change a neighbour. -/
def State.withNeighbour (s : State) (i : Fin 2) (f : Neighbour → Neighbour) : State :=
  s.withQuartz fun q => { q with neighbour := vmod q.neighbour i f }

/-- `CASCADE_LINK_UP`: the lanes of a link are up; the link stays down for units until its IDENTITY is accepted, and this
sender's own goes out of every cascade link it has (R78, R79). The spec names no DST for it: 31, all senders (DESIGN CHOICE, log
entry 99). -/
def execCascadeLinkUp (i : Fin 2) (s : State) : Out1 :=
  if !s.isSender ∨ !s.linkUp (cascLink i) then .next s
  else
    let rest := leBytes 1 s.priority ++ leBytes 1 (s.chainNo 0) ++ leBytes 1 (s.chainNo 1) ++
      leBytes 4 (s.rdN 0x2500 0x09) ++ leBytes 1 (s.rdN 0x2600 0x26)
    let u : CascadeUnit := {
      kind := 4, src := s.priority, dst := 31, ttl := 15, chain := 0, relSec := 0, relNs := 0, useq := s.cascade.useq % 2 ^ 32,
      body := padTo 256 (ctrlBody 1 0 0 s.quartz.wall rest), good := true }
    let s := s.withNeighbour i fun n => { n with up := false, dist := 0xFF, fm := 0, set := none, pending := none }
    let s := s.withCascade fun c => { c with useq := c.useq + 1 }
    let far := otherLink i
    .next ((if s.linkUp (cascLink far) then s.sendOn far u else s).sendOn i u)

/-- What every sender tells the others (R39, R40, R61, R176, R178, R182): TIME_SOURCE, the CRC of its map, STATE, and whether it has
passed its self-diagnosis, has known a frame master and has tiles that have presented. The unit's layout is the model's (DESIGN
CHOICE, log entry 38), and that it goes out at each frame boundary too (log entry 100). -/
def State.sendPresence (s : State) : State :=
  let c := s.cascade
  s.sendMgmtUnit 31 10 (leBytes 1 (s.rdN 0x2600 0x01) ++ leBytes 4 (s.rdN 0x2500 0x09) ++ leBytes 1 s.quartz.state.code ++
    leBytes 1 (bitAt c.passed 0 + bitAt c.hadMaster 1 + bitAt s.quartz.presented 2))

/-- An IDENTITY unit of the neighbour itself: a link whose ends hold the same priority or different CASCADE_SIZE values stays
down (R40, R79). -/
def State.judgeIdentity (s : State) (i : Fin 2) (b : List Byte) : State :=
  let prio := field b 18 1
  let size := field b 25 1
  if prio = s.priority then (s.withNeighbour i fun n => { n with up := false }).raise 0x400A (det3 0 prio prio)
  else if size ≠ s.rdN 0x2600 0x26 then (s.withNeighbour i fun n => { n with up := false }).raise 0x4010 (det3 0 prio size)
  else
    let s := s.withNeighbour i fun n => { n with
      up := true
      priority := prio
      chainA := field b 19 1
      chainB := field b 20 1
      mapCrc := field b 21 4
      cascadeSize := size
      lastUnit := s.now }
    s.sendPresence

/-- `IDENTITY_UNIT_RECEIVE`: taken and forwarded as every unit (R78); one with TTL 15 comes from the neighbour itself, and the
link is judged by it, also where R78 discards it as this sender's own priority or as a repeat of what the other link
brought (R79). -/
def execIdentityUnitReceive (i : Fin 2) (u : CascadeUnit) (s : State) : Out1 :=
  let t := (s.takeUnit i u).2
  if u.isIdentity ∧ u.ttl = 15 ∧ u.good ∧ s.isSender ∧ s.linkUp (cascLink i) then .next (t.judgeIdentity i u.body)
  else .next t

/-- DIST and FM that this sender advertises: 0 and itself as frame master (R180). -/
def State.syncBody (s : State) (i : Fin 2) : List Byte :=
  let q := s.quartz
  let n := q.neighbour[i]
  leBytes 1 1 ++ leBytes 1 (if q.master then 0 else q.dist) ++ leBytes 1 (if q.master then s.priority else q.fm) ++
    leBytes 1 q.state.code ++ stampBytes q.wall ++ stampBytes n.lastDep ++ stampBytes n.lastArr ++
    (q.set.bytes ++ List.replicate (64 - q.set.bytes.length) 0) ++ changeBytes q.pending

/-- `SYNC_UNIT_SEND`: every 10 µs for each link that is up, to the neighbour there; as every unit it leaves each cascade link (R78,
R179). -/
def execSyncUnitSend (i : Fin 2) (s : State) : Out1 :=
  if !s.isSender ∨ !s.cascUp i then .next s
  else
    let s := s.untilPhase 10000 0
    let u : CascadeUnit := {
      kind := 2, src := s.priority, dst := s.quartz.neighbour[i].priority, ttl := 15, chain := 0, relSec := 0, relNs := 0,
      useq := s.cascade.useq % 2 ^ 32, body := padTo 256 (s.syncBody i), good := true }
    let s := s.withCascade fun c => { c with useq := c.useq + 1 }
    .next (((List.finRange 2).filter s.cascUp).foldl (fun s j => s.sendOn j u) s)

/-- The parent: the neighbour with the lower DIST, and on a tie the better priority (R180). Where the neighbours name different
frame masters, the better one goes first, so that one of them remains (R39; DEDUCED, log entry 101). A neighbour at DIST 15
is too far: DIST ends there. -/
def State.chooseParent (s : State) : Option (Fin 2) :=
  let ok (i : Fin 2) : Bool := s.cascUp i && decide (s.quartz.neighbour[i].dist < 15)
  let key (i : Fin 2) : Nat :=
    let n := s.quartz.neighbour[i]
    (n.fm * 32 + n.dist) * 32 + n.priority
  match ok 0, ok 1 with
  | true, true => some (if key 1 < key 0 then 1 else 0)
  | true, false => some 0
  | false, true => some 1
  | false, false => none

/-- Steer to the parent by an offset sample (R180, R199). -/
def State.steerTo (s : State) (i : Fin 2) (theta : Int) (elapsed : Nat) : State :=
  let s := s.wrI 0x2600 0x35 (unitsPs (-theta))
  let n := s.quartz.neighbour[i]
  if s.quartz.state = .freeRunning then
    (s.steer theta).withQuartz fun q => { q with
      state := .acquiring
      set := n.set.getD q.set
      frame := (n.set.getD q.set).frameAt q.wall }
  else if 1000000 * subNs < theta.natAbs then
    s.withQuartz fun q => { q with servo := { q.servo with stepAtFrame := some theta } }
  else
    let s := s.withQuartz fun q => { q with servo := { q.servo with stepAtFrame := none } }
    let s := s.follow theta elapsed
    if 64 ≤ n.thetaRun then s.quartzLock 0x10 else s

/-- STATE of the frame master: its own, that of its SYNC units where it is the parent, or what it has told (R180, R182). -/
def State.masterState (s : State) : Nat :=
  let told := ((s.cascade.told.find? fun e => e.prio == s.quartz.fm).map Told.state).getD 0
  if s.quartz.master then s.quartz.state.code
  else match s.quartz.parent with
    | some i => if s.quartz.neighbour[i].dist = 0 then s.quartz.neighbour[i].state else told
    | none => told

/-- What a sender takes from its parent: the timing set, the pending change, DIST and the frame master (R180, R192). -/
def State.fromParent (s : State) (i : Fin 2) (b : List Byte) : State :=
  let n := s.quartz.neighbour[i]
  let s := if s.oldChange b 104 then s else match n.set with
    | some t => s.adoptSet t
    | none => s
  let s := s.takeChange n.pending
  let s := s.withQuartz fun q => { q with parent := some i, dist := n.dist + 1, fm := n.fm }
  let s := s.withQuartz fun q => { q with traceable := n.state = 2 ∧ s.masterState = 2 }
  s.withCascade fun c => { c with hadMaster := true, minority := false }

/-- No neighbour has time: this sender has none to advertise either, and holds over (R180). -/
def State.orphaned (s : State) : State :=
  if s.quartz.parent.isNone then s.withQuartz fun q => { q with dist := 0xFF }
  else (s.withQuartz fun q => { q with parent := none, dist := 0xFF }).holdover 2

/-- `SYNC_UNIT_RECEIVE`: a direct SYNC unit gives an offset sample to the neighbour; the parent's steers wall time and
gives the timing set; a frame master that hears of a better one stands back (R39, R180). -/
def execSyncUnitReceive (i : Fin 2) (u : CascadeUnit) (s : State) : Out1 :=
  let (mine, s) := s.takeUnit i u
  let b := u.body
  if !mine ∨ u.kind ≠ 2 ∨ u.ttl ≠ 15 ∨ !s.cascUp i ∨ field b 0 1 ≠ 1 ∨ u.src ≠ s.quartz.neighbour[i].priority then .next s
  else
    let old := s.quartz.neighbour[i]
    let t3 := stampAt b 4
    let t1 := stampAt b 16
    let t2 := stampAt b 28
    let t4 := s.quartz.wall
    let theta : Int := ((((t2 : Int) - t1) - ((t4 : Int) - t3)) / 2) + psUnits (s.rdI 0x2600 0x25)
    let s := s.withNeighbour i fun n => { n with
      dist := field b 1 1
      fm := field b 2 1
      state := field b 3 1
      lastDep := t3
      lastArr := t4
      theta := if t1 = 0 then n.theta else theta
      thetaRun := if t1 = 0 then 0 else if theta.natAbs ≤ subNs then n.thetaRun + 1 else 0
      lastUnit := s.now
      set := some (setAt b 40)
      pending := changeAt b 104 }
    let fm := field b 2 1
    let s := if s.quartz.master ∧ fm ≠ 0 ∧ field b 1 1 ≠ 0xFF ∧ fm < s.priority then
        s.withQuartz fun q => { q with master := false, dist := 0xFF }
      else s
    if s.quartz.master then .next s
    else match s.chooseParent with
      | none => .next s.orphaned
      | some j => if j ≠ i ∨ t1 = 0 then .next s else .next ((s.steerTo i theta (s.now - old.lastUnit)).fromParent i b)

/-- `PARENT_TIMEOUT`: no unit from the parent for 100 µs: the other neighbour becomes the parent if it has time, else
Quartz holds over (R180). -/
def execParentTimeout (s : State) : Out1 :=
  match s.quartz.parent with
  | none => .next s
  | some i =>
    let s := s.until_ (s.quartz.neighbour[i].lastUnit + 100000)
    let s := s.withNeighbour i fun n => { n with dist := 0xFF, thetaRun := 0 }
    if s.isSender ∧ s.chooseParent = some (otherLink i) then
      .next (s.withQuartz fun q => { q with
        parent := some (otherLink i)
        dist := q.neighbour[otherLink i].dist + 1 })
    else .next s.orphaned

/-! ### Timing cells (R182, R184) -/

/-- Stations in the topology of a chain. -/
def State.stationCount (s : State) (p : Fin 2) : Nat := (s.rdD (0x2200 + p) 0x08).length / 12

/-- The wall derate value published last, and the frame it applies from (R288). -/
def State.wallDerate (s : State) : Nat × Nat := s.video.colour.wall.headD (4096, 0)

/-- The payload of a TIMING cell; LAUNCH is written as the cell leaves (Table 6.4). -/
def State.timingPayload (s : State) (p : Fin 2) : List Byte :=
  let q := s.quartz
  let x := s.ports[p]
  let flags := bitAt (if q.master then q.state == .locked else q.traceable) 0 + bitAt (s.masterState == 3) 1 +
    bitAt q.pending.isSome 2 + bitAt q.calDelay[p].isSome 3
  let i16 (v : Int) : List Byte := leBytes 2 (v % 65536).toNat
  leBytes 1 1 ++ leBytes 1 flags ++ leBytes 1 (s.chainNo p) ++ leBytes 1 (if q.master then s.priority else q.fm) ++
    List.replicate 12 0 ++ padTo 64 q.set.bytes ++
    leBytes 1 (x.unsteady.foldl (fun a b => if a = 0 then b else min a b) 0) ++ leBytes 1 (x.unsteady.foldl max 0) ++
    i16 q.trims[p].1 ++ i16 q.trims[p].2 ++ leBytes 2 s.wallDerate.1 ++ leBytes 8 s.wallDerate.2 ++ changeBytes q.pending

/-- Originate a TIMING cell for a chain (R182). -/
def State.sendTiming (s : State) (p : Fin 2) : State :=
  (s.untilPhase 1000 0).originateChain p 3 0xFFF (2 ^ 28) (s.timingPayload p)

/-- `TIMING_CELL_ORIGINATE`: one for each whole microsecond (R182). -/
def execTimingCellOriginate (p : Fin 2) (s : State) : Out1 :=
  if !s.leads p then .next s else .next (s.sendTiming p)

/-! ### Delays of the ring (R188, R190, R191) -/

/-- T_transit of a chain in ns (R190). -/
def State.transitNs (s : State) (p : Fin 2) : Nat :=
  let r := s.quartz.ringDelay[p]
  let recent := (s.ports[p].matchedAt.filter fun e => decide (s.now ≤ e.2 + second)).length
  (max r.1 r.2) / 1000 + 200 * recent

/-- D_min of a chain in ns (R190). -/
def State.chainDmin (s : State) (p : Fin 2) : Nat := s.quartz.set.periodNs + s.transitNs p + 30000 + s.quartz.tLamp[p]

/-- D_min of the wall: the largest of any chain. -/
def State.wallDmin (s : State) : Nat := (s.quartz.dMins.map fun e => e.2).foldl max 0

/-- The D that automatic mode gives for a D_min: rounded up to a whole microsecond, plus D_MARGIN (R191). -/
def autoDelay (margin dmin : Nat) : Nat := (dmin + 999) / 1000 * 1000 + margin

/-- The D that R191 asks for under a D_min, by the D_MODE, D_SET and D_MARGIN in force. -/
def State.wantedDelay (s : State) (dmin : Nat) : Nat :=
  if s.quartz.dMode = 1 ∧ dmin ≤ s.quartz.dSet then s.quartz.dSet else autoDelay s.quartz.dMargin dmin

/-- Put a change into the PENDING fields (R192). -/
def State.schedule (s : State) (c : TimingChange) : State := s.withQuartz fun q => { q with pending := some c }

/-- The smallest MAX_SLOTS of the wall (R274). -/
def State.wallSlots (s : State) : Nat := (s.quartz.wallSlots.map fun e => e.2).foldl min 4

/-- The frame master takes a chain's D_min and its smallest MAX_SLOTS: an increase of D is applied at the earliest frame
allowed; a D_min that rises above D_SET raises event 0x160A (R190, R191, R274). -/
def State.takeDmin (s : State) (chain dmin slots : Nat) : State :=
  let old := s.wallDmin
  let s := s.withQuartz fun q => { q with
    dMins := (chain, dmin) :: q.dMins.filter fun e => e.1 != chain
    wallSlots := (chain, slots) :: q.wallSlots.filter fun e => e.1 != chain }
  if !s.isMaster then s
  else
    let d := s.wallDmin
    let s := s.wrN 0x2600 0x0C d
    let fixed := s.quartz.dMode == 1
    let s := s.raiseIf (fixed && decide (old ≤ s.quartz.dSet ∧ s.quartz.dSet < d)) 0x160A (s.quartzDetail (sat 0xFFFF ((d + 999) / 1000)))
    let want := s.wantedDelay d
    if s.quartz.set.d < want ∧ s.quartz.pending = none then
      s.schedule (.newSet (s.quartz.frame + 16) { s.quartz.set with d := want })
    else s

/-- A quotient rounded to the nearest whole number. -/
def nearest (a : Int) (b : Nat) : Int := (2 * a + b) / (2 * b)

/-- Trims of a chain from the sums measured and calibrated, for the TIMING cells of the next frame; 0 without calibrated sums
(R188). -/
def State.computeTrims (s : State) (p : Fin 2) : State :=
  let r := s.quartz.ringDelay[p]
  let n := s.stationCount p
  match s.quartz.calDelay[p] with
  | some c =>
    let trims := (nearest ((r.1 : Int) - c.1) (n + 1), nearest ((r.2 : Int) - c.2) (n + 1))
    s.withQuartz fun q => { q with trimsNext := vset q.trimsNext p (some trims) }
  | none => s.withQuartz fun q => { q with trimsNext := vset q.trimsNext p (some (0, 0)) }

/-- Trims computed take effect with the frame that begins (R188). -/
def State.takeTrims (s : State) : State :=
  s.withQuartz fun q => { q with
    trims := Vector.ofFn fun p : Fin 2 => q.trimsNext[p].getD q.trims[p]
    trimsNext := Vector.replicate 2 none }

/-- Judge the drift of a chain's closure, 1 ns from its value at calibration. Stored delays carry no such value: the first sums
measured under them stand for it (R188; DESIGN CHOICE, log entry 96). The event comes at most once per second, port and direction
(DESIGN CHOICE, log entry 119). -/
def State.judgeClosure (s : State) (p : Fin 2) : State :=
  let r := s.quartz.ringDelay[p]
  let drift (a b : Nat) : Bool := decide (1000 < ((a : Int) - b).natAbs)
  match s.quartz.calRing[p] with
  | some c =>
    let s := if drift r.1 c.1 then s.raiseLimited 0x1607 (2 * p.1) second fun _ => s.quartzDetail 1 else s
    if drift r.2 c.2 then s.raiseLimited 0x1607 (2 * p.1 + 1) second fun _ => s.quartzDetail 2 else s
  | none => if s.quartz.calDelay[p].isSome then s.withQuartz fun q => { q with calRing := vset q.calRing p (some r) } else s

/-- `TRIM_RECOMPUTE`: every 10 ms the control sender sets the trims from the measured and the calibrated sums, judges the
drift of the closure, reports the chain's D_min, and writes TRANSIT to the tiles where it has changed, within its range
(R188, R190, R206). Without both sums measured there is nothing to compare. -/
def execTrimRecompute (p : Fin 2) (s : State) : Out1 :=
  if !s.leads p then .next s
  else
    let s := s.untilPhase 10000000 0
    let r := s.quartz.ringDelay[p]
    let s := if r.1 = 0 ∨ r.2 = 0 then s else (s.computeTrims p).judgeClosure p
    let s := if r = (0, 0) then s else s.writeTransit p (max 1000 (min 200000 (s.transitNs p)))
    let d := s.chainDmin p
    let slots := s.quartz.maxSlots[p]
    if s.quartz.master then .next (s.takeDmin (s.chainNo p) d slots)
    else .next (s.sendMgmtUnit (if s.quartz.fm = 0 then 31 else s.quartz.fm) 5
      (leBytes 1 (s.chainNo p) ++ leBytes 4 d ++ leBytes 1 slots))

/-! ### Changes of the timing set (R191 to R196) -/

/-- Two lengths of SLOT_LEN01 or SLOT_LEN23. -/
def lenPair (a b : Nat) : Nat := a % 2 ^ 32 + b * 2 ^ 32

/-- Write slot offsets and lengths to the staged objects. -/
def State.wrSlots (s : State) (off len : Vector Nat 4) : State :=
  let s := (List.finRange 4).foldl (fun (s : State) (k : Fin 4) => s.wrN 0x2600 (0x10 + k) off[k]) s
  (s.wrN 0x2600 0x14 (lenPair len[0] len[1])).wrN 0x2600 0x15 (lenPair len[2] len[3])

/-- Staged rate, slot count and slots (R192). -/
def State.stagedSet (s : State) : TimingSet :=
  let l (i : Nat) : Nat := s.rdN 0x2600 (0x14 + i / 2) / (if i % 2 = 0 then 1 else 2 ^ 32) % 2 ^ 32
  { s.quartz.set with
    num := s.rdN 0x2600 0x06
    den := s.rdN 0x2600 0x07
    s := s.rdN 0x2600 0x0E
    off := Vector.ofFn fun k : Fin 4 => s.rdN 0x2600 (0x10 + k)
    len := Vector.ofFn fun k : Fin 4 => l k.1 }

/-- Staged values return to those in force. -/
def State.unstage (s : State) : State :=
  let q := s.quartz
  let s := (((s.wrN 0x2600 0x06 q.set.num).wrN 0x2600 0x07 q.set.den).wrN 0x2600 0x0E q.set.s).wrSlots q.set.off q.set.len
  ((s.wrN 0x2600 0x09 q.dMode).wrN 0x2600 0x0A q.dSet).wrN 0x2600 0x0B q.dMargin

/-- The staged D_MODE, D_SET and D_MARGIN take force with an accepted change (R191, R192). -/
def State.takeDelayMode (s : State) : State :=
  let (m, d, g) := (s.rdN 0x2600 0x09, s.rdN 0x2600 0x0A, s.rdN 0x2600 0x0B)
  s.withQuartz fun q => { q with dMode := m, dSet := d, dMargin := g }

/-- A write of RATE_NUM, RATE_DEN or S: only at the frame master; the staged slots return to their defaults (R192, R196). -/
def State.rateWrite (s : State) (sub : Nat) (v : Nat) : Nat × State :=
  if !s.isMaster then (abState, s)
  else
    let s := s.wrN 0x2600 sub v
    let d := slotDefaults (s.rdN 0x2600 0x06) (s.rdN 0x2600 0x07) (s.rdN 0x2600 0x0E)
    (0, s.wrSlots d.1 d.2)

/-- A write of another staged value of the timing set (R192). -/
def State.stagedWrite (s : State) (sub : Nat) (v : Nat) : Nat × State :=
  if !s.isMaster then (abState, s) else (0, s.wrN 0x2600 sub v)

/-- The rate rules of R173. -/
def TimingSet.rateOk (t : TimingSet) : Bool :=
  decide ((t.den = 1 ∨ t.den = 1001) ∧ 24000 * t.den ≤ t.num * 1001 ∧ t.num ≤ 240 * t.den)

/-- The check that a staged set fails first: 1 rate, 2 D, 3 slots; 0 none (R192, R274, Table 6.8). -/
def State.setFails (s : State) (t : TimingSet) : Nat :=
  let dmin := s.wallDmin - s.quartz.set.periodNs + t.periodNs
  let dset := s.rdN 0x2600 0x0A
  if !t.rateOk then 1
  else if s.rdN 0x2600 0x09 = 1 ∧ !(decide (dmin ≤ dset ∧ dset ≤ dmin + t.periodNs)) then 2
  else if !t.slotsOk || decide (s.wallSlots < t.s) then 3
  else 0

/-- A write of APPLY_FRAME (R192, R193). -/
def State.applyFrameWrite (s : State) (f : Nat) : Nat × State :=
  if !s.isMaster ∨ s.quartz.pending ≠ none ∨ f < s.quartz.frame + 16 then (abState, s)
  else
    let t := s.stagedSet
    let c := s.setFails t
    if c ≠ 0 then (abCannot, s.unstage.raise 0x1609 (s.quartzDetail c))
    else
      let dmin := s.wallDmin - s.quartz.set.periodNs + t.periodNs
      let s := s.takeDelayMode
      let d := if s.quartz.dMode = 1 then s.quartz.dSet else max s.quartz.set.d (autoDelay s.quartz.dMargin dmin)
      (0, s.schedule (.newSet f { t with d := d }))

/-- A write of STEP_NOW (R195). -/
def State.stepNowWrite (s : State) (ns : Int) : Nat × State :=
  if !s.isMaster ∨ s.quartz.pending ≠ none then (abState, s)
  else (0, s.schedule (.step (s.quartz.frame + 16) ns))

/-- A write of RECOMPUTE: D may fall to what the present D_min asks for (R191). -/
def State.recomputeWrite (s : State) (v : Int) : Nat × State :=
  if v = 0 then (0, s)
  else if !s.isMaster ∨ s.quartz.pending ≠ none then (abState, s)
  else
    let want := s.wantedDelay s.wallDmin
    if want = s.quartz.set.d then (0, s)
    else (0, s.schedule (.newSet (s.quartz.frame + 16) { s.quartz.set with d := want }))

/-! ### Output pulses (R197) -/

/-- A ball pulses: it rises and falls again after its width. -/
def State.pulse (s : State) (p : Pin) : State := s.emits [.pin p true, .pin p false]

/-- Instant of the FRAME_OUT pulse of a frame and slot; none where FO_MODE gives none. -/
def State.frameOutAt (s : State) (f k : Nat) : Option Int :=
  let t := s.setFor f
  let off := s.rdI 0x2600 0x21 * subNs
  match s.rdN 0x2600 0x1E with
  | 1 => some (t.tFrame f + off)
  | 2 => some (t.tPresent f + off)
  | 3 =>
    if k < t.s ∧ bit (s.rdN 0x2600 0x1F) k then
      some (t.tPresent f + (t.off.toList.getD k 0 : Nat) * subNs + s.rdI 0x2600 (0x16 + k) * subNs)
    else none
  | _ => none

/-- `FRAME_OUT_PULSE`: the pulse of a frame and slot under FO_MODE (R197). -/
def execFrameOutPulse (f k : Nat) (s : State) : Out1 :=
  if !s.up ∨ !s.quartz.lockedOnce then .next s
  else match s.frameOutAt f k with
    | none => .next s
    | some w =>
      let s := (s.untilWall w.toNat).pulse .frameOut
      .next (s.withQuartz fun q => { q with frameOutUntil := some (q.wall + s.rdN 0x2600 0x20 * subNs) })

/-- `PPS_OUT_PULSE`: PPS_OUT rises at each whole second of wall time; a seconds label of TOD_SET takes effect there under
GENLOCK_IN and the free source: PTP gives its own label, and PPS_IN has its own edges (R174, R197). -/
def execPpsOutPulse (s : State) : Out1 :=
  if !s.up then .next s
  else
    let s := (s.untilPhase second 0).pulse .ppsOut
    let s := s.withQuartz fun q => { q with ppsOutUntil := some (q.wall + s.rdN 0x2600 0x22 * 1000 * subNs) }
    let source := s.rdN 0x2600 0x01
    .next (if s.isMaster && (source == 1 || source == 3) then s.takeTod else s)

end Sys2Proof.Machine
end

