-- ==== Sys2Proof/Machine/Clocks.lean ====
section
/-! DEFINITION. PLLs, clock sources, gates and forced switches (R433 to R438), the level sequencer's inputs (R441 to R444)
and the frequency measurement (R453). -/

namespace Sys2Proof.Machine

open Host

/-- The device's clocks run: it is not held in reset, and it has a role. -/
def State.clocked (s : State) : Bool := s.life != .inReset && s.role != .none

/-- The domains of a PLL that have a safe source and are not held down. -/
def State.pllDomains (s : State) (p : Fin 8) : List (Fin 60) :=
  (List.finRange 60).filter fun d => pllOf d == some p && hasSafe d && !heldDown s.role d

/-- Begin the switch of a PLL's domains from the safe source (R433). -/
def State.toPll (s : State) (p : Fin 8) : State :=
  let s := s.withClocks fun c => { c with pllLost := vset c.pllLost p false, pllRelocked := vset c.pllRelocked p none }
  (s.pllDomains p).foldl (fun s d => if s.clocks.dom[d].safe then s.beginSwitch d false else s) s

/-- `PLL_LOCK`: at a start its domains move to it at once; after a loss they move 10 ms later (R433). -/
def execPllLock (p : Fin 8) (s : State) : Out1 :=
  if !s.clocked || !pllUsed s.role p || s.clocks.pllLocked[p] then .next s
  else
    let s := s.withClocks fun c => { c with pllLocked := vset c.pllLocked p true }
    if s.clocks.pllLost[p] then .next (s.withClocks fun c => { c with pllRelocked := vset c.pllRelocked p (some s.now) })
    else if s.clocks.hold then .next s
    else .next (s.toPll p)

/-- `PLL_LOCK_LOSS`: event 0x1101 with the number of domains that move to the safe source (R433). -/
def execPllLockLoss (p : Fin 8) (s : State) : Out1 :=
  if !s.clocked || !s.clocks.pllLocked[p] then .next s
  else
    let moved := (s.pllDomains p).filter fun d => !s.clocks.dom[d].safe || s.clocks.dom[d].switching == some false
    let s := s.withClocks fun c => { c with
      pllLocked := vset c.pllLocked p false
      pllLost := vset c.pllLost p true
      pllRelocked := vset c.pllRelocked p none }
    let s := moved.foldl (fun s d => s.beginSwitch d true) s
    .next ((s.bump 0x2D00 0x11 1).raise 0x1101 (det p.1 moved.length))

/-- `PLL_RELOCK_SWITCH_BACK`: 10 ms after the PLL regained lock (R433). In clock-loss hold the safe source stays. -/
def execPllRelockSwitchBack (p : Fin 8) (s : State) : Out1 :=
  match s.clocks.pllRelocked[p] with
  | none => .next s
  | some t => if s.clocks.hold || !s.clocked then .next s else .next ((s.until_ (t + 10 * ms)).toPll p)

/-- `XTAL_LOSS`: the always-on domain runs from its oscillator (R434). -/
def execXtalLoss (s : State) : Out1 :=
  if s.life = .inReset ∨ s.clocks.xtalLost then .next s
  else .next ((s.withClocks fun c => { c with xtalLost := true }).raise 0x1103 (det 59 0))

/-- `XTAL_RETURN`: after 1 ms of XTAL (R434). -/
def execXtalReturn (s : State) : Out1 :=
  if s.clocks.xtalLost then .next ((s.pass ms).withClocks fun c => { c with xtalLost := false }) else .next s

/-- The clock step of a level change ends with the last of its switches (Table 15.4). -/
def State.clockStep (s : State) : State :=
  match s.clocks.change with
  | none => s
  | some c =>
    let atClock := if c.fromLevel < c.toLevel then c.stage == 4 else c.stage == 1
    if atClock && ([47, 48, 49] : List (Fin 60)).all (fun d => s.clocks.dom[d].switching.isNone) then s.advanceLevel c else s

/-- Every lane goes to electrical idle and its links are down (R435). -/
def State.idleLanes (s : State) : State :=
  let s := (List.finRange 4).foldl (fun (s : State) (k : Fin 4) =>
    if s.lanes.link[k].phase = .up then (s.raise 0x2108 (det3 0xFF (linkPort k) 0)).neighbourDown k else s) s
  let s := (List.finRange 4).foldl (fun (s : State) (k : Fin 4) => s.failTest k) s
  let link := s.lanes.link.map fun x => { x with
    phase := if x.phase = .absent then .absent else .down, txSet := 0, rxSet := 0, change := none, queued := none,
    rxChange := none }
  { s with lanes := { s.lanes with lane := Vector.replicate 24 Lane.reset, link := link } }

/-- `REFCLK_LOSS`: clock-loss hold. Every domain with a safe source is forced to it, the lanes go to electrical idle and
the lamp ports hold LD low, with a Flint record and event 0x1104. `aborted`: the transactions in flight, by domain and
master (R435, R438). -/
def execRefclkLoss (aborted : List (Fin 60 × BitVec 7)) (s : State) : Out1 :=
  if !s.clocked || s.clocks.hold then .next s
  else
    let s := s.withClocks fun c => { c with hold := true }
    let s := ((List.finRange 60).filter fun (d : Fin 60) => hasSafe d && !heldDown s.role d &&
        (!s.clocks.dom[d].safe || s.clocks.dom[d].switching.isSome)).foldl
      (fun (s : State) (d : Fin 60) => s.forceSwitch d true ((aborted.filter fun a => a.1 == d).map fun a => a.2)) s
    .next (s.clockStep.idleLanes.raise 0x1104 (det 0xFF 0))

/-- `CLOCK_GATE_CLOSE`: after 256 idle cycles (R436). Nothing else changes. -/
def execClockGateClose (d : Fin 60) (s : State) : Out1 :=
  if s.clocked && autoGated d && !heldDown s.role d then .next (s.withDomain d fun x => { x with gated := true })
  else .next s

/-- `CLOCK_GATE_OPEN`: on a request (R436). -/
def execClockGateOpen (d : Fin 60) (s : State) : Out1 :=
  if s.clocked && autoGated d && !heldDown s.role d then .next (s.withDomain d fun x => { x with gated := false })
  else .next s

/-- `CLOCK_SWITCH_COMPLETE`: the domain runs from its new source (R437). -/
def execClockSwitchComplete (d : Fin 60) (s : State) : Out1 :=
  match s.clocks.dom[d].switching with
  | none => .next s
  | some t => .next (s.withDomain d fun x => { x with safe := t, switching := none }).clockStep

/-- `FORCED_CLOCK_SWITCH`: the old clock of a pending switch has shown no edge for 640 ns. `aborted`: the masters whose
transactions were in flight (R438). -/
def execForcedClockSwitch (d : Fin 60) (aborted : List (BitVec 7)) (s : State) : Out1 :=
  match s.clocks.dom[d].switching with
  | none => .next s
  | some t => .next ((s.pass 640).forceSwitch d t aborted).clockStep

/-- `DVFS_EVALUATE`: the share of the last 1 ms, and of the last 50 ms, for which the busiest control cluster was busy,
in percent (R441). -/
def execDvfsEvaluate (busy1 busy50 : Nat) (s : State) : Out1 :=
  if !s.clocked then .next s
  else match s.fixedLevel with
    | some l => .next (s.wantLevel l)
    | none =>
      if 85 < busy1 ∧ s.level < 3 then .next (s.wantLevel (s.level + 1))
      else if busy50 < 40 ∧ 0 < s.level then .next (s.wantLevel (s.level - 1))
      else .next (s.wantLevel s.level)

/-- `AVS_TRANSFER_COMPLETE`: the transfer's command, and what came of it (R442 to R444). -/
def execAvsTransferComplete (r : AvsResult) (s : State) : Out1 :=
  if !s.clocked then .next s
  else match r with
    | .written =>
      match s.clocks.change with
      | some c =>
        if c.stage = (if c.fromLevel < c.toLevel then 1 else 2) then .next (s.advanceLevel c) else .next s
      | none => .next s
    | .current mA => .next (s.wrN 0x2D00 0x0C (sat (umax 4) mA))
    | .voltage | .status => .next s
    | .failed command =>
      .next (((s.bump 0x2D00 0x09 1).raise 0x1201 (det s.level command)).failLevel)
    | .alert bits_ => .next ((s.raise 0x1202 (det s.level bits_)).failLevel)

/-- The level change in progress waits for VDone (Table 15.4). -/
def LevelChange.waitsVdone (c : LevelChange) : Bool := c.stage == (if c.fromLevel < c.toLevel then 2 else 3)

/-- `VDONE` (Table 15.4). -/
def execVdone (s : State) : Out1 :=
  match s.clocks.change with
  | some c => if c.waitsVdone then .next (s.advanceLevel c) else .next s
  | none => .next s

/-- `VDONE_TIMEOUT`: 500 µs without VDone; event 0x1201 names the voltage write, command 0 (R444). -/
def execVdoneTimeout (s : State) : Out1 :=
  match s.clocks.change with
  | some c =>
    if c.waitsVdone then .next (((s.pass 500000).raise 0x1201 (det c.toLevel 0)).failLevel) else .next s
  | none => .next s

/-- A write of FREQ_START (R453, R16). -/
def State.freqStart (s : State) (v : Int) : Nat × State :=
  if v = 0 then (0, s)
  else if s.isRunning 0x2D00 0x22 then (abState, s)
  else (0, (s.startRun 0x2D00 0x22).withClocks fun c => { c with freqRun := some (s.rdN 0x2D00 0x20) })

/-- `FREQ_MEASURE_COMPLETE`: 1 ms after its start, with the frequency counted against XTAL. A stopped clock counts
nothing (R453). -/
def execFreqMeasureComplete (khz : BitVec 32) (s : State) : Out1 :=
  match s.clocks.freqRun with
  | none => .next s
  | some d =>
    let runs := (List.finRange 60).any fun (i : Fin 60) => i.1 == d && bit (s.domainByte i) 0
    let s := (s.pass ms).wrN 0x2D00 0x24 (if runs then khz.toNat else 0)
    .next ((s.withClocks fun c => { c with freqRun := none }).publish 0x2D00 0x22 0x23 true)

/-- A write of 1 to CLEAR zeroes the counters and every FORCED bit in one step (R453). COLD_STARTS and WARM_STARTS count
since power-on and stay. -/
def State.clocksClear (s : State) (v : Int) : Nat × State :=
  if v = 0 then (0, s)
  else (0, (s.zero 0x2D00 [0x08, 0x09, 0x11, 0x13, 0x14]).withClocks fun c =>
    { c with dom := c.dom.map fun x => { x with forced := false } })

end Sys2Proof.Machine
end

