-- ==== Sys2Proof/Machine/Thermal.lean ====
section
/-! DEFINITION. Housekeeping rounds: readings, validity, the derate target, supplies, the flash write window and the lamp
temperatures (R281 to R283, R444, R456 to R461, R465), and the hardware trip (R462). -/

namespace Sys2Proof.Machine

open Host

/-! ### Readings and validity -/

/-- Change the housekeeping state. -/
def State.withThermal (s : State) (f : Thermal → Thermal) : State := { s with thermal := f s.thermal }

/-- Insert a number into a rising list. -/
def insertInt (x : Int) : List Int → List Int
  | [] => [x]
  | y :: ys => if x ≤ y then x :: y :: ys else y :: insertInt x ys

/-- Twice the median of some numbers; of an even count, the sum of the two in the middle. -/
def median2 (xs : List Int) : Option Int :=
  let v := xs.foldl (fun l x => insertInt x l) []
  if v.isEmpty then none
  else some (v.getD ((v.length - 1) / 2) 0 + v.getD (v.length / 2) 0)

/-- The physically possible range of a channel (Table 16.1), in its unit. -/
def possible (c : Nat) (v : Int) : Bool :=
  if c < 8 then decide (-880 ≤ v ∧ v ≤ 2800)
  else if c = 19 ∨ 32 ≤ c then decide (-880 ≤ v ∧ v ≤ 2400)
  else
    let top : Int := if c = 10 ∨ c = 11 then 1500 else if c = 12 ∨ c = 13 then 1300 else if c = 14 then 2200
      else if c = 18 then 65535 else 1100
    decide (0 ≤ v ∧ v ≤ top)

/-- The channels that a temperature channel is compared with: grid neighbours of a die sensor, the other channels of a
lamp-board channel's group of 8 ports (R458). -/
def comparedWith (c : Nat) : List Nat :=
  if c < 8 then
    (if c % 4 = 0 then [] else [c - 1]) ++ (if c % 4 = 3 then [] else [c + 1]) ++ [if c < 4 then c + 4 else c - 4]
  else if c < 32 then []
  else (List.range 8).map (fun i => c / 8 * 8 + i) |>.filter fun i => i ≠ c

/-- Threshold of the difference, 1/16 °C (R458). -/
def threshold (c : Nat) : Int := if c < 8 then 96 else 128

/-- The new state of a channel and, where its validity changed, the cause: 0 valid, 1 impossible or none, 2 disagrees
(R458). `others`: the valid readings that it is compared with; `early`: one of the first three rounds after a cold start. -/
def Channel.judge (x : Channel) (c : Nat) (v : Option Int) (free : Int) (others : List Int) (early : Bool) :
    Channel × Option Nat :=
  match v with
  | none =>
    ({ reading := free, valid := false, offRounds := 0, goodRounds := 0, lacked := x.valid || x.lacked },
      if x.valid then some 1 else none)
  | some r =>
    if !possible c r then
      ({ reading := r, valid := false, offRounds := 0, goodRounds := 0, lacked := false }, if x.valid then some 1 else none)
    else
      let off := match median2 others with
        | some m => decide (2 * threshold c < (2 * r - m).natAbs)
        | none => false
      if early then
        ({ reading := r, valid := true, offRounds := 0, goodRounds := 0, lacked := false },
          if x.valid then none else some 0)
      else if x.valid then
        let n := if off then x.offRounds + 1 else 0
        if 3 ≤ n then ({ reading := r, valid := false, offRounds := n, goodRounds := 0, lacked := false }, some 2)
        else ({ x with reading := r, offRounds := n }, none)
      else
        let n := if off && !x.lacked then 0 else x.goodRounds + 1
        if (if x.lacked then 3 else 16) ≤ n then
          ({ reading := r, valid := true, offRounds := 0, goodRounds := 0, lacked := false }, some 0)
        else ({ x with reading := r, goodRounds := n }, none)

/-- The readings of a round by channel: die readings with the trims, supplies, the hold-up supply scaled by HOLDUP_SCALE,
the NVM site, and the lamp boards as their ports obtained them (R319, R456, R477). -/
def State.roundReadings (s : State) (die : Vector (Option Int) 8) (supply : Vector Nat 8) (holdup : Nat)
    (nvm : Option Int) (c : Nat) : Option Int :=
  if h : c < 8 then die[c].map (· + s.nvm.cal.trims[c])
  else if h : c - 8 < 8 then some (supply[c - 8] : Int)
  else if c = 18 then some (sat 65535 (holdup * s.rdN 0x2E00 0x11 / 1000) : Nat)
  else if c = 19 then nvm
  else if h : 32 ≤ c ∧ c < 96 then
    if s.isTile ∧ s.rdN (0x2A00 + (c - 32)) 0x08 ≠ 0 then s.lamps.engine[c - 32].hkTemp else none
  else some 0

/-- Whether a channel is judged as a temperature (R458). -/
def isTemp (c : Nat) : Bool := c < 8 || c == 19 || 32 ≤ c

/-- Publish a round's readings and their validity together (R456, R458). The reading of a channel that has none is a
free value. -/
def State.publishRound (s : State) (v : Nat → Option Int) : State :=
  let old := s.thermal.chan
  let early := s.thermal.coldRounds < 3
  let was (c : Nat) : Bool := ((old[c]?).map Channel.valid).getD false
  let good (c : Nat) : List Int :=
    match v c with
    | some r => if possible c r && (was c || early) then [r] else []
    | none => []
  let (free, s) := s.freeNat
  let judged : Vector (Channel × Option Nat) 96 := old.mapIdx fun c x =>
    let lost : Int := ((free / 65536 ^ c % 65536 : Nat) : Int) - 32768
    if isTemp c then x.judge c (v c) lost ((comparedWith c).flatMap good) early
    else
      let r := (v c).getD 0
      ({ x with reading := r, valid := possible c r && c ≠ 16 && c ≠ 17 && !(20 ≤ c && c < 32) }, none)
  let s := s.withThermal fun t => { t with chan := judged.map fun j => j.1, coldRounds := t.coldRounds + 1 }
  let s := s.wrN 0x2E00 0x03 (s.rdN 0x2E00 0x03 + 1)
  if s.thermal.coldRounds = 1 then s
  else (List.finRange 96).foldl (fun (s : State) (c : Fin 96) =>
    match judged[c].2 with
    | none => s
    | some k =>
      let s := if k = 0 then s else s.bump 0x2E00 0x13 1
      if c.1 < 8 then s.raise 0x7201 (det c.1 k) else if 32 ≤ c.1 then s.raise 0x7202 (det c.1 k) else s) s

/-! ### Die and board -/

/-- The largest of some numbers. -/
def maxInt : List Int → Option Int
  | [] => none
  | x :: xs => some (xs.foldl max x)

/-- The die estimates after a round: a quarter of the way to each valid reading, rounded to nearest (R459). -/
def State.dieEstimate (s : State) : State :=
  let t := s.thermal
  let tf := Vector.ofFn fun (i : Fin 8) =>
    let x := t.chan[i.1]
    if !x.valid then t.tf[i]
    else match t.tf[i] with
      | none => some x.reading
      | some f => some ((3 * f + x.reading + 2) / 4)
  let valid := (List.finRange 8).filter fun (i : Fin 8) => t.chan[i.1].valid
  let few := valid.length < 4
  let die := if few then maxInt ((List.finRange 8).map fun (i : Fin 8) => t.chan[i.1].reading)
    else maxInt (valid.filterMap fun i => tf[i])
  let s := (s.withThermal fun t => { t with tf := tf, dieFew := few }).wrI 0x2E00 0x04 (die.getD 0)
  s.raiseIf (few && !t.dieFew) 0x7203 (det 0xFF valid.length)

/-- T_board: the largest valid lamp-board reading, or the last one held with event 0x7204 once (R460). -/
def State.boardTemp (s : State) : State :=
  let good := (List.range 64).filterMap fun p =>
    match s.thermal.chan[32 + p]? with
    | some x => if x.valid then some x.reading else none
    | none => none
  match maxInt good with
  | some t => (s.withThermal fun x => { x with boardLost := false }).wrI 0x2E00 0x05 t
  | none =>
    if s.thermal.boardLost then s
    else (s.withThermal fun x => { x with boardLost := true }).raise 0x7204 (det 0xFF 0)

/-- F_die at a die temperature in 1/16 °C (R460). -/
def fDie (t : Int) : Int := clampI 819 4096 (4096 - -(-(512 * (t - 2240)) / 25))

/-- F_board at a board temperature in 1/16 °C (R460). -/
def fBoard (t start : Int) (slope floor : Nat) : Int :=
  clampI floor 4096 (4096 - 32 * slope * (t - 16 * start) / 125)

/-- The derate target (R460) and the warning state (R461). -/
def State.derateTarget (s : State) : State :=
  let die := s.rdI 0x2E00 0x04
  let a := fDie die
  let b := fBoard (s.rdI 0x2E00 0x05) (s.rdI 0x2E00 0x09) (s.rdN 0x2E00 0x0A) (s.rdN 0x2E00 0x0B)
  let s := (s.wrI 0x2E00 0x06 (a + b * 65536)).wrI 0x2E00 0x07 (min a b)
  if s.thermal.warning then
    if die < 138 * 16 then s.withThermal fun t => { t with warning := false } else s
  else if 140 * 16 ≤ die then
    (s.withThermal fun t => { t with warning := true }).raise 0x7102 (det 0xFF (die % 65536).toNat)
  else s

/-! ### Supplies -/

/-- Nominal voltage of a supply channel, mV; VDD_CORE's is that of its level (R457, Table 15.3). -/
def State.nominal (s : State) (i : Nat) : Int :=
  if i = 0 then nominalMv s.level else if i = 1 then 800 else if i = 2 then 750 else if i = 3 then 1200
  else if i = 4 then 500 else if i = 5 then 1050 else if i = 6 then 1800 else 750

/-- Supply supervision: ±5 % for three rounds, and again only after 16 good ones (R457). A tile has no VDDQ (R545). -/
def State.checkSupplies (s : State) : State :=
  (List.finRange 8).foldl (fun (s : State) (i : Fin 8) =>
    if s.role = .tile ∧ (i = 4 ∨ i = 5) then s
    else
      let v := ((s.thermal.chan[8 + i.1]?).map Channel.reading).getD 0
      let x := s.thermal.supply[i]
      let bad := decide (s.nominal i < 20 * (v - s.nominal i).natAbs)
      let y : Supply := if bad then { x with badRounds := x.badRounds + 1, goodRounds := 0 }
        else { x with badRounds := 0, goodRounds := x.goodRounds + 1, raised := x.raised && x.goodRounds < 15 }
      let fire := 3 ≤ y.badRounds && !y.raised
      let s := s.withThermal fun t => { t with supply := vset t.supply i { y with raised := y.raised || fire } }
      s.raiseIf fire 0x7301 (det (8 + i.1) (v % 65536).toNat)) s

/-- The hold-up supply against HOLDUP_MIN (R457). -/
def State.checkHoldup (s : State) : State :=
  let v := ((s.thermal.chan[18]?).map Channel.reading).getD 0
  s.wrB 0x2E00 0x12 (decide ((s.rdI 0x2E00 0x10) ≤ v))

/-- VDD_CORE against the voltage commanded: it lets a rising level change go on (Table 15.4), and three rounds beyond
±25 mV raise event 0x1203 and the level (R444). A new voltage is commanded when the temperature asks for one (R440). -/
def State.checkCore (s : State) : State :=
  let v := ((s.thermal.chan[8]?).map Channel.reading).getD 0
  let s := s.wrI 0x2D00 0x06 v
  let off := decide (25 < (v - s.rdI 0x2D00 0x05).natAbs)
  let s := match s.clocks.change with
    | some c => if c.fromLevel < c.toLevel && c.stage == 3 && !off then s.advanceLevel c else s
    | none => if s.levelMv s.level ≠ s.rdN 0x2D00 0x05 ∧ s.up then s.commandLevel s.level else s
  let n := if off then s.clocks.vddOffRounds + 1 else 0
  if n < 3 then s.withClocks fun c => { c with vddOffRounds := n }
  else
    let s := (s.withClocks fun c => { c with vddOffRounds := 0 }).raise 0x1203 (det s.level (v % 65536).toNat)
    if s.level < 3 then s.startLevel (s.level + 1) else s

/-! ### The flash write window -/

/-- Close the flash write window: cause 1 die, 2 NVM site (R465). -/
def State.closeWindow (s : State) (cause : Nat) : State :=
  if !s.windowOpen then s
  else (((s.wrB 0x2E00 0x0F false).withThermal fun t => { t with windowGood := 0 }).raise 0x7401
    (det (if cause = 2 then 19 else 0xFF) cause)).deferCal

/-- The window after a round (R465). It stands open or closed from the first round; later it reopens only after three
rounds with both quantities back by 3 °C, and not before the device has cooled. -/
def State.flashWindow (s : State) : State :=
  let die := s.rdI 0x2E00 0x04
  let (site, known) := match s.thermal.chan[19]? with
    | some x => (x.reading, x.valid)
    | none => (0, false)
  let within (m : Int) : Bool := decide (-640 + m ≤ die ∧ die ≤ 2000 - m)
  let siteIn (m : Int) : Bool := known && decide (-640 + m ≤ site ∧ site ≤ 1680 - m)
  let cool := match s.thermal.phase with
    | .cooling _ => false
    | _ => true
  if s.windowOpen then
    if !within 0 then s.closeWindow 1 else if !siteIn 0 then s.closeWindow 2 else s
  else if s.thermal.coldRounds = 1 then (s.wrB 0x2E00 0x0F (within 0 && siteIn 0 && cool)).issueFlash
  else
    let n := if within 48 && siteIn 48 && cool then s.thermal.windowGood + 1 else 0
    let s := s.withThermal fun t => { t with windowGood := n }
    if n < 3 then s else ((s.wrB 0x2E00 0x0F true).raise 0x7402 (det 0xFF 0)).issueFlash

/-! ### Lamp temperatures -/

/-- A rounded quotient, halves upward. -/
def roundDiv (a b : Int) : Int := (2 * a + b) / (2 * b)

/-- The mean duty u of a port over the round's composed slots, in 2^-16; without one, that of the last round that had
some (R282). -/
def State.heatOf (s : State) (t : TimingSet) (p : Fin 64) : Nat :=
  let c := s.video.colour
  if c.dutySlots = 0 then c.heat[p]
  else
    let len := ((List.finRange 4).map fun (k : Fin 4) => if k.1 < t.s then t.len[k] else 0).sum
    (roundDiv (c.duty[p] * len * t.num * 65536 : Nat) (c.dutySlots * 2 ^ 32 * t.den * second : Nat)).toNat

/-- The board temperature of a port, and the cause where it is substituted: 1 group median, 2 tile median, 3 none
(R281). -/
def State.portBoard (s : State) (p : Nat) : Option Int × Nat :=
  let good (ps : List Nat) : List Int := ps.filterMap fun q =>
    match s.thermal.chan[32 + q]? with
    | some x => if x.valid then some x.reading else none
    | none => none
  match good [p] with
  | [t] => (some t, 0)
  | _ =>
    match median2 (good ((List.range 8).map fun i => p / 8 * 8 + i)) with
    | some m => (some (m / 2), 1)
    | none =>
      match median2 (good (List.range 64)) with
      | some m => (some (m / 2), 2)
      | none => (none, 3)

/-- The gain of a primary at a lamp temperature, Q2.14 (R283). -/
def driftGain (a1 a2 dT : Int) : Nat :=
  let e := 2 ^ 32 + 256 * a1 * dT + a2 * dT * dT
  if e = 0 then 32767 else (clampI 8192 32767 (roundDiv (2 ^ 46) e)).toNat

/-- The lamp temperature estimate and drift gains of a port after a round (R281 to R283). Without a correction image
there is neither K_HEAT nor TAU, and the estimate stays. -/
def State.lampTemp (s : State) (p : Fin 64) : State :=
  let (board, cause) := s.portBoard p
  let was := s.video.colour.subst.getLsbD p
  let s := s.withColour fun c => { c with
    subst := if cause = 0 then c.subst &&& ~~~ BitVec.ofNat 64 (2 ^ p.1) else c.subst ||| BitVec.ofNat 64 (2 ^ p.1) }
  let s := s.raiseIf (cause != 0 && !was) 0x5305 (det p.1 cause)
  let u := s.heatOf s.quartz.set p
  let est := match board with
    | none => s.video.colour.tEst[p]
    | some b =>
      match s.video.colour.tEst[p], s.video.colour.corr with
      | none, _ => some b
      | some t, none => some t
      | some t, some img =>
        let tau := field img 72 2
        let target := b * 65536 + field img 70 2 * u
        let d : Int := 65536 * 10 * tau
        if tau = 0 then some (roundDiv target 65536)
        else some (roundDiv (t * d + (target - t * 65536) * 8) d)
  let gains := match s.video.colour.corr, est with
    | some img, some t =>
      if s.rdB 0x2900 0x07 then
        Vector.ofFn fun (j : Fin 4) =>
          driftGain (sfield img (54 + 2 * j.1) 2) (sfield img (62 + 2 * j.1) 2) (t - sfield img 52 2)
      else Vector.replicate 4 16384
    | _, _ => Vector.replicate 4 16384
  s.withColour fun c => { c with tEst := vset c.tEst p est, gain := vset c.gain p gains, heat := vset c.heat p u }

/-- LAMP_TEMP_UPDATE over the ports of a tile, once per round (R282). -/
def State.lampTemps (s : State) : State :=
  if !s.isTile then s
  else
    let s := (List.finRange 64).foldl (fun (s : State) (p : Fin 64) => s.lampTemp p) s
    s.withColour fun c => { c with duty := Vector.replicate 64 0, dutySlots := 0 }

/-! ### The round -/

/-- Rounds in which every valid die sensor has read below 125 °C, while the device cools (R463). -/
def State.countCool (s : State) : State :=
  match s.thermal.phase with
  | .cooling _ =>
    let cool := (List.finRange 8).all fun (i : Fin 8) => !s.thermal.chan[i.1].valid || decide (s.thermal.chan[i.1].reading < 2000)
    s.withThermal fun t => { t with coolRounds := if cool then t.coolRounds + 1 else 0 }
  | _ => s

/-- The die readings of a round join the sensor-trim calibration that runs (R475). -/
def State.calRound (s : State) (die : Vector (Option Int) 8) : State :=
  match s.nvm.calRun with
  | some r =>
    if r.kind = 3 ∧ r.rounds.length < 32 then
      { s with nvm := { s.nvm with calRun := some { r with rounds := r.rounds ++ [die.map fun x => x.getD 0] } } }
    else s
  | none => s

/-- `HK_ROUND`: the 8 die readings in 1/16 °C before their trims, the 8 supply readings in mV, the HOLDUP_SENSE ball in mV
and the NVM-site temperature in 1/16 °C. A lamp-board channel takes what its port obtained (R456 to R461, R465). -/
def execHkRound (die : Vector (Option Int) 8) (supply : Vector Nat 8) (holdup : Nat) (nvm : Option Int) (s : State) : Out1 :=
  if s.life = .inReset then .next s
  else
    let s := s.until_ (s.clocks.coldAt + (s.thermal.coldRounds + 1) * 8 * ms)
    let s := if s.emcyAllowed then s.drainDue s.control.emcyQueue.length else s
    let s := s.publishRound (s.roundReadings die supply holdup nvm)
    let s := (s.calRound die).dieEstimate.boardTemp.derateTarget
    let s := s.checkSupplies.checkHoldup.checkCore.countCool.flashWindow
    let s := s.lampTemps.trackLevel
    let engines := s.lamps.engine.map fun e => { e with hkTemp := none }
    .next { s with lamps := { s.lamps with engine := engines } }

/-! ### The trip -/

/-- Die sensors that share an edge of the grid (R458). -/
def adjacent (i j : Nat) : Bool := (comparedWith i).contains j

/-- The channel whose reading trips the device: a valid sensor at 158 °C or above, or one of two grid-adjacent sensors
that both read so (R462). -/
def State.tripChannel (s : State) (die : Vector Int 8) : Option (Fin 8) :=
  let hot (i : Fin 8) : Bool := decide (2528 ≤ die[i] + s.nvm.cal.trims[i])
  (List.finRange 8).find? fun (i : Fin 8) => hot i && (s.thermal.chan[i.1].valid ||
    (List.finRange 8).any fun (j : Fin 8) => hot j && adjacent i j)

/-- Trips of the last 60 min (R463, TRIPS_HOUR). -/
def State.tripsHour (s : State) : Nat := (s.thermal.tripTimes.filter fun t => decide (s.now < t + 3600 * second)).length

/-- The domains that a trip powers down (R462). -/
def tripped (role : Role) (d : Nat) : Bool :=
  match role with
  | .tile => 35 ≤ d && d ≤ 46
  | .sender => (30 ≤ d && d ≤ 34) || (50 ≤ d && d ≤ 52)
  | .none => false

/-- Power the domains of R462 up or down. -/
def State.powerDomains (s : State) (on : Bool) : State :=
  s.withClocks fun c => { c with dom := c.dom.mapIdx fun d x => if tripped s.role d then { x with powered := on } else x }

/-- The role's part of a trip: a tile holds LD low and only repeats; a sender is heard no more and is no frame master
(R462, R39, R140). -/
def State.tripRole (s : State) : State :=
  match s.role with
  | .tile =>
    let engines := s.lamps.engine.map fun e => { e with run := .held, tx := killFrames e.tx }
    let s := { s with tile := { s.tile with thermal := true }, lamps := { s.lamps with engine := engines } }
    (s.stopPresenting.emit (.pin .ldLow true)).raise 0x3106 (s.chainDetail 0 3)
  | .sender =>
    if s.quartz.master then s.withQuartz fun q => { q with master := false, fm := 0 } else s
  | .none => s

/-- `THERMAL_TRIP`: the comparator has fired on these raw die readings, in 1/16 °C (R462, R547). A level change in progress
does not complete, nor does a warm reset: the control clusters go on running (DEDUCED, log entry 68). -/
def execThermalTrip (die : Vector Int 8) (s : State) : Out1 :=
  let cooling := match s.thermal.phase with
    | .cooling _ => true
    | _ => false
  if s.life == .inReset || s.role == .none || cooling then .next s
  else match s.tripChannel die with
    | none => .next s
    | some ch =>
      let s := s.withThermal fun t => { t with phase := .cooling s.now, coolRounds := 0, tripTimes := s.now :: t.tripTimes }
      let s := (s.bump 0x2E00 0x0C 1).withClocks fun c => { c with change := none, requested := none }
      let s := (s.powerDomains false).emit (.pin .thermTripN false)
      let r (i : Fin 8) : Int := die[i] + s.nvm.cal.trims[i]
      let i16 (v : Int) : List Byte := leBytes 2 (v % 65536).toNat
      let data := ((List.finRange 8).flatMap fun i => i16 (r i)) ++
        ((List.finRange 8).flatMap fun (i : Fin 8) => i16 ((s.thermal.tf[i]).getD 0)) ++ leBytes 4 s.tripsHour
      let s := s.raiseWith 0x7101 (det ch.1 (r ch % 65536).toNat) data
      let s := if s.life == .warmStart then { s with life := .running } else s
      .next (s.tripRole.closeWindow 1)

end Sys2Proof.Machine
end

