-- ==== Sys2Proof/Machine/Nvm.lean ====
section
/-! DEFINITION. Calibration runs (R475 to R477) and the black box: commits, the scan at a cold start, the pinned area
(R481 to R489). -/

namespace Sys2Proof.Machine

open Host

/-! ### Calibration runs -/

/-- The chain port that a context's selection names, 0 standing for port A (R43, R397). -/
def State.ctxPort (s : State) (c : CtxId) : Option (Fin 2) :=
  match s.ctx? c with
  | some x => if x.chain = 0 then some 0 else s.portFor x.chain
  | none => none

/-- A write of START (R475): abort code 0 where the calibration begins. -/
def State.calStart (s : State) (c : CtxId) (kind : Nat) : Nat × State :=
  let busy := match s.nvm.calRun with
    | some r => r.kind != 0
    | none => false
  let port := (s.ctxPort c).getD 0
  let allowed := match kind with
    | 1 => s.isTile
    | 2 => s.isSender && (s.ctxPort c).isSome && s.leads port
    | _ => s.isTile || s.isSender
  if busy || !allowed then (abState, s)
  else if !s.windowOpen then (abCannot, s)
  else
    let s := match s.nvm.calRun with
      | some r => if r.port = 1 then s.withChain 1 fun x => { x with hopDue := true } else s.withChain 0 fun x => { x with hopDue := true }
      | none => s
    let s := (s.startRun 0x2F00 0x04).withNvm fun n => { n with calRun := some { kind := kind, port := port, rounds := [] } }
    let s := if kind = 1 then { s with lamps := { s.lamps with port := s.lamps.port.map fun q => { q with skew := [] } } } else s
    (0, if kind = 2 then s.nameMarkers port 2 else s)

/-- The end of a calibration: its cause, mask and the values that disagreed (R476). -/
def State.calEnds (s : State) (kind cause mask values : Nat) : State :=
  let s := s.withNvm fun n => { n with calRun := none }
  let s := ((s.wrN 0x2F00 0x06 kind).wrN 0x2F00 0x07 cause).wrN 0x2F00 0x08 mask
  let s := s.publish 0x2F00 0x04 0x05 (cause == 0)
  if cause = 0 then s
  else
    let s := s.withCal fun c => { c with kinds := vmapi c.kinds fun k x =>
      if k + 1 = kind then { x with disagree := x.disagree + 1 } else x }
    if cause = 1 then s.raise 0x8201 (det kind values) else s.cause cause

/-- The ports that PORT_SKEW calibrates: those of PORT_MASK in RUN (R475). -/
def State.skewPorts (s : State) : List (Fin 64) :=
  (List.finRange 64).filter fun (p : Fin 64) => bit (s.rdN 0x2F00 0x02) p && s.rdN (0x2A00 + p) 0x0A == 3

/-- Both runs of PORT_SKEW have their 1,024 measurements at every port (R314, R475). -/
def State.skewDone (s : State) : Bool := s.skewPorts.all fun (p : Fin 64) => decide (2048 ≤ s.lamps.port[p].skew.length)

/-- The end of PORT_SKEW: of each port the means of 1,024 measurements of both runs agree within 0.25 ns, and their mean, rounded half
up to 1 ps, is the loop delay L (R475 to R477). -/
def State.skewEnds (s : State) : State :=
  let sel := s.skewPorts
  if sel.isEmpty then s.calEnds 1 4 0 0
  else
    let sums (p : Fin 64) : Nat × Nat := ((s.lamps.port[p].skew.drop 1024).sum, (s.lamps.port[p].skew.take 1024).sum)
    let agrees (p : Fin 64) : Bool := decide ((((sums p).1 : Int) - (sums p).2).natAbs ≤ 250 * 1024)
    let bad := sel.filter fun e => !agrees e
    let good := sel.filter agrees
    let s := good.foldl (fun s (p : Fin 64) =>
      let l := ((sums p).1 + (sums p).2 + 1024) / 2048
      let crc := crc32Nat (s.rdD (0x2A00 + p) 0x0E)
      (s.withCal fun c => { c with ports := vset c.ports p (some (l, crc)) }).useDelay p l 2) s
    let mask := bad.foldl (fun m p => m ||| 2 ^ p.1) 0
    let s := s.calEnds 1 (if bad.isEmpty then 0 else 1) mask bad.length
    if good.isEmpty then s else s.calStore 1

/-- The end of HOP_DELAY: both measurements of the chain (R187, R475 to R477). -/
def State.hopEnds (s : State) (p : Fin 2) (a b : HopRun) : State :=
  let n := (s.rdD (0x2200 + p) 0x08).length / 12
  if !s.leads p || s.rdN (0x2200 + p) 0x02 ≠ 2 || n = 0 || !a.whole n || !b.whole n then s.calEnds 2 4 0 0
  else
    let pairs := List.zip a.doubled b.doubled
    let far (x y : Int) : Nat := if 400 < (x - y).natAbs then 1 else 0
    let bad := ((pairs.take n).map fun e => far e.1.1 e.2.1 + far e.1.2 e.2.2).sum
    if bad ≠ 0 then s.calEnds 2 1 1 bad
    else
      let mean (x y : Int) : Nat := ((x + y + 2) / 4).toNat
      let l := pairs.map fun e => (mean e.1.1 e.2.1, mean e.1.2 e.2.2)
      let crc := s.topoCrc p
      let s := (s.withCal fun c => { c with chains := vset c.chains p (some (crc, l)) }).applyBases p l false
      let s := { s with quartz := { s.quartz with calRing := vset s.quartz.calRing p (some s.quartz.ringDelay[p]) } }
      ((s.shareBases p crc l).calEnds 2 0 0 0).calStore 2

/-- The end of SENSOR_TRIM: the means of 16 rounds, twice; offset = REF_TEMP − mean, in 1/16 °C (R475 to R477). -/
def State.trimEnds (s : State) (rounds : List (Vector Int 8)) : State :=
  let sum (i : Fin 8) (l : List (Vector Int 8)) : Int := (l.map fun v => v[i]).sum
  let ref := 16 * s.rdI 0x2F00 0x03
  let one (i : Fin 8) : Int := sum i (rounds.take 16)
  let two (i : Fin 8) : Int := sum i (rounds.drop 16)
  let all (f : Fin 8 → Bool) : Bool := (List.finRange 8).all f
  let spread (f : Fin 8 → Int) : Bool := all fun i => all fun j => decide (f i - f j ≤ 1024)
  let inRange (i : Fin 8) : Bool := decide ((ref - one i).natAbs ≤ 1024 ∧ (ref - two i).natAbs ≤ 1024)
  let bad := ((List.finRange 8).filter fun (i : Fin 8) => decide (128 < (one i - two i).natAbs)).length
  if !spread one || !spread two then s.calEnds 3 5 0 0
  else if bad ≠ 0 then s.calEnds 3 1 1 bad
  else if !all inRange then s.calEnds 3 3 0 0
  else
    let trims := Vector.ofFn fun (i : Fin 8) => (2 * ref - one i - two i + 16) / 32
    ((s.withCal fun c => { c with trims := trims }).calEnds 3 0 0 0).calStore 4

/-- The end of the provisional measurement of R189. -/
def State.provisionalEnds (s : State) (p : Fin 2) (a : HopRun) : State :=
  let n := (s.rdD (0x2200 + p) 0x08).length / 12
  let s := s.withNvm fun x => { x with calRun := none }
  if !s.leads p || s.rdN (0x2200 + p) 0x02 ≠ 2 || n = 0 || !a.whole n then s
  else s.applyBases p (a.doubled.map fun e => (((e.1 + 1) / 2).toNat, ((e.2 + 1) / 2).toNat)) true

/-- `CAL_RUN_COMPLETE`: the runs end. `hop1` and `hop2` are the two measurements of the chain; PORT_SKEW takes the loop delays of
the frames that have returned, 1,024 for each run, and SENSOR_TRIM the housekeeping rounds, 16 for each. -/
def execCalRunComplete (hop1 hop2 : HopRun) (s : State) : Out1 :=
  match s.nvm.calRun with
  | none => .next s
  | some r =>
    if !s.up then .next s
    else
      let p : Fin 2 := if r.port = 1 then 1 else 0
      match r.kind with
      | 0 => .next (s.provisionalEnds p (s.ownHop p 0 hop1)).startHop
      | 1 => if s.skewDone then .next s.skewEnds.startHop else .next s
      | 2 => .next (s.hopEnds p (s.ownHop p 0 hop1) (s.ownHop p 1 hop2)).startHop
      | _ => if r.rounds.length < 32 then .next s else .next (s.trimEnds r.rounds).startHop

/-- `CAL_DEFERRED_STORE`: the window has reopened, and the values that wait are stored (R477). -/
def execCalDeferredStore (s : State) : Out1 :=
  if !s.up || !s.windowOpen || s.rdN 0x2F00 0x19 = 0 || s.nvm.jobs.any FlashJob.isCal then .next s else .next (s.calStore 0)

/-! ### Records of the black box -/

/-- The 256 bytes of a record as it is committed (Table 17.6). -/
def Flint.bytes (r : Flint) (pinned : Bool) : List Byte :=
  let b := leBytes 2 0x464C ++ leBytes 1 1 ++
    leBytes 1 (bitAt r.severe 0 + bitAt pinned 1 + bitAt r.outside 2 + r.flags) ++ leBytes 4 (r.seq.getD 0) ++
    leBytes 2 r.event ++ leBytes 2 r.dropped ++ leBytes 4 r.detail ++ padTo 232 r.body ++ List.replicate 4 0
  b ++ leBytes 4 (crc32Nat b)

/-- A record is valid under its CRC. -/
def flintOk (b : List Byte) : Bool :=
  field b 0 2 == 0x464C && field b 2 1 == 1 && field b 252 4 == crc32Nat (b.take 252)

/-- The bytes of a slot. -/
def State.slotBytes (s : State) (slot : Nat) : List Byte := s.flash (bbArea slot) 256

/-- Slots that hold a valid record, with its RECORD_SEQ. -/
def State.records (s : State) : List (Nat × Nat) :=
  s.usedSlots.filterMap fun n => if flintOk (s.slotBytes n) then some (n, field (s.slotBytes n) 4 4) else none

/-- The slot after one in the ring. -/
def ringNext (n : Nat) : Nat := if 16383 ≤ n then 256 else n + 1

/-- The first erased slot of the ring from a position, within a number of slots. -/
def State.ringFree (s : State) : Nat → Nat → Option Nat
  | 0, _ => none
  | fuel + 1, n => if s.slotErased n then some n else s.ringFree fuel (ringNext n)

/-- The lowest erased slot of the pinned area. -/
def State.pinnedFree (s : State) : Option Nat := (List.range 256).find? s.slotErased

/-- The slot that a record goes to: a severe one to the pinned area while it has room, any other to the ring (R486). -/
def State.slotFor (s : State) (r : Flint) : Option Nat :=
  match r.severe, s.pinnedFree with
  | true, some n => some n
  | _, _ => s.ringFree 16128 s.nvm.bb.ringPos

/-- The job of a commit or of the erase-ahead is waiting or running. -/
def State.committing (s : State) : Bool := s.hasJob fun p => match p with
  | .bbCommit _ _ => true
  | _ => false

/-- `BB_COMMIT`: the oldest staged record is programmed, when the window is open, the scan is done and the limiter allows
(R484, R486, R523). -/
def execBbCommit (s : State) : Out1 :=
  match s.nvm.bb.slots with
  | [] => .next s
  | r :: _ =>
    if s.life = .inReset || !s.windowOpen || !s.nvm.bb.scanned || s.committing || !s.bucketHolds 256 then .next s
    else match s.slotFor r with
      | none => .next s
      | some n =>
        .next (s.addJob { prio := 0, purpose := .bbCommit (r.seq.getD 0) n, steps := [.program (bbArea n) (r.bytes (n < 256))] }).2

/-- Erase the sector that follows that of a ring position (R486). -/
def State.eraseAhead (s : State) (pos : Nat) : State :=
  let sector := pos / 16 + 1
  let sector := if 1024 ≤ sector then 16 else sector
  (s.addJob { prio := 0, purpose := .bbAhead, steps := [.erase (bbArea (16 * sector)) 4096] }).2

/-- A commit has succeeded: the record leaves its retention slot; the ring moves on and erases ahead as it enters a sector; the
last pinned slot raises event 0x8303 (R484, R486). -/
def State.committed (s : State) (seq slot : Nat) : State :=
  let s := s.withBb fun b => { b with slots := b.slots.filter fun r => r.seq != some seq }
  if slot < 256 then s.raiseIf s.pinnedFree.isNone 0x8303 (det 0xFF 0)
  else
    let pos := ringNext slot
    let s := s.withBb fun b => { b with ringPos := pos }
    if pos % 16 = 0 then s.eraseAhead pos else s

/-- Number the records staged before the scan, in the order in which they were raised (R487). -/
def numberStaged : Nat → List Flint → Nat × List Flint
  | n, [] => (n, [])
  | n, r :: rs =>
    match r.seq with
    | some _ => let t := numberStaged n rs; (t.1, r :: t.2)
    | none => let t := numberStaged (n + 1) rs; (t.1, { r with seq := some n } :: t.2)

/-- The ring's position past torn slots. -/
def pastTorn (torn : List Nat) : Nat → Nat → Nat
  | 0, n => n
  | fuel + 1, n => if torn.contains n then pastTorn torn fuel (ringNext n) else n

/-- The scan at a cold start: torn slots are skipped and counted, the ring resumes, and records are numbered (R487). A staged
record that has been committed already leaves its slot (DEDUCED, log entry 77). -/
def State.scanBlackBox (s : State) : State :=
  let found := s.records
  let torn := s.usedSlots.filter fun n => !found.any fun e => e.1 == n
  let s := torn.foldl (fun s n => (s.bump 0x3000 0x1A 1).raise 0x8302 (det 0xFF n)) s
  let ring := found.filter fun e => decide (256 ≤ e.1)
  let top := ring.foldl (fun (m : Nat × Nat) e => if m.2 ≤ e.2 then e else m) (16383, 0)
  let pos := pastTorn torn 16128 (if ring.isEmpty then 256 else ringNext top.1)
  let kept := s.nvm.bb.slots.filter fun r => match r.seq with
    | some q => !found.any fun e => e.2 == q
    | none => true
  let staged := kept.filterMap fun r => r.seq
  let next := ((found.map fun e => e.2) ++ staged).foldl max 0 + 1
  let t := numberStaged next kept
  let s := s.withBb fun b => { b with
    slots := t.2
    nextSeq := t.1
    scanned := true
    ringPos := pos }
  let ahead := if 1024 ≤ pos / 16 + 1 then 16 else pos / 16 + 1
  if (List.range 16).all fun i => s.slotErased (16 * ahead + i) then s else s.eraseAhead pos

/-- A write of the magic to BB_RESET_PINNED (R489): the pinned area's 16 sectors are erased. -/
def State.resetPinned (s : State) : Nat × State :=
  (0, (s.addJob { prio := 0, purpose := .bbPinned, steps := sectorErases (bbArea 0) 16 }).2)

/-- The pinned area is erased: a severe record of event 0x8305 (R489). -/
def State.pinnedErased (s : State) : State := s.raise 0x8305 (det 0xFF 0)

/-! ### Reading the black box (R488) -/

/-- Readable records, committed or staged, with their RECORD_SEQ and severity. -/
def State.allRecords (s : State) : List (Nat × Bool × List Byte) :=
  (s.records.map fun e => (e.2, bit (field (s.slotBytes e.1) 3 1) 0, s.slotBytes e.1)) ++
  s.nvm.bb.slots.filterMap fun r => r.seq.map fun q => (q, r.severe, r.bytes false)

/-- Insert a record in the order of RECORD_SEQ; a number already there stands. -/
def putRecord (r : Nat × Bool × List Byte) : List (Nat × Bool × List Byte) → List (Nat × Bool × List Byte)
  | [] => [r]
  | x :: l => if r.1 < x.1 then r :: x :: l else if r.1 = x.1 then x :: l else x :: putRecord r l

/-- BB_RECORDS for a context: up to BB_READ_COUNT records from BB_READ_SEQ, rising (R488). -/
def State.readRecords (s : State) (c : Ctx) : List Byte :=
  let l := s.allRecords.filter fun r => decide (c.bbReadSeq ≤ r.1) && (!c.bbSevereOnly || r.2.1)
  ((l.foldr putRecord []).take (s.rdN 0x3000 0x15)).flatMap fun r => r.2.2

/-- BB_OLDEST_SEQ: the oldest readable record; the next number where there is none. -/
def State.oldestSeq (s : State) : Nat := (s.allRecords.map fun r => r.1).foldl min s.nvm.bb.nextSeq

/-- BB_PINNED_USED. -/
def State.pinnedUsed (s : State) : Nat := (s.usedSlots.filter fun n => decide (n < 256)).length

end Sys2Proof.Machine
end

