-- ==== Sys2Proof/Machine/Slicer.lean ====
section
/-! DEFINITION. The region map (R65 to R68) and the slicer: predecimation, what each tile needs, groups and cells
(R69 to R73, R118). -/

namespace Sys2Proof.Machine

/-! ### The map -/

/-- A tile's window (R65). -/
structure Geom where
  x0 : Nat
  y0 : Nat
  w : Nat
  h : Nat
  clean : Bool
  deriving DecidableEq, Repr

/-- The geometry entry of a station of a chain; a missing one has W = 0 (R65, R76). -/
def geomOf (geom : List Byte) (chain station : Nat) : Geom :=
  let o := 12 * ((chain - 1) * 255 + (station - 1))
  let w (i : Nat) : Nat := field geom (o + 4 * i) 4
  { x0 := bits (w 0) 23 0, y0 := bits (w 1) 23 0, w := bits (w 2) 11 0, h := bits (w 2) 27 16,
    clean := bits (w 0) 31 24 == 0 && bits (w 1) 31 24 == 0 && bits (w 2) 15 12 == 0 && bits (w 2) 31 28 == 0 }

/-- A region entry (Table 2.4). -/
structure Region where
  id : Nat
  src : Nat
  valid : Bool
  slots : Nat
  layer : Nat
  kh : Nat
  kv : Nat
  fmt : Nat
  slate : Bool
  cropX : Nat
  cropY : Nat
  cropW : Nat
  cropH : Nat
  dstX : Nat
  dstY : Nat
  dstW : Nat
  dstH : Nat
  clean : Bool
  deriving DecidableEq, Repr

/-- The region entry of an ID; a missing one is not valid (R66, R76). -/
def regionOf (regions : List Byte) (id : Nat) : Region :=
  let w (i : Nat) : Nat := field regions (32 * id + 4 * i) 4
  { id := id, src := bits (w 0) 4 0, valid := bit (w 0) 5, slots := bits (w 0) 9 6, layer := bits (w 0) 12 10,
    kh := bits (w 0) 15 13, kv := bits (w 0) 18 16, fmt := bits (w 0) 22 19, slate := bit (w 0) 23,
    cropX := bits (w 1) 12 0, cropY := bits (w 1) 28 16, cropW := bits (w 2) 13 0, cropH := bits (w 2) 29 16,
    dstX := bits (w 3) 23 0, dstY := bits (w 4) 23 0, dstW := bits (w 5) 23 0, dstH := bits (w 6) 23 0,
    clean := bits (w 0) 31 24 == 0 && bits (w 1) 15 13 == 0 && bits (w 1) 31 29 == 0 && bits (w 2) 15 14 == 0 &&
      bits (w 2) 31 30 == 0 && bits (w 3) 31 24 == 0 && bits (w 4) 31 24 == 0 && bits (w 5) 31 24 == 0 &&
      bits (w 6) 31 24 == 0 && w 7 == 0 }

/-- The regions of a table, and those in use. -/
def allRegions (regions : List Byte) : List Region := (List.range 256).map (regionOf regions)

/-- Regions in use, by rising ID. -/
def validRegions (regions : List Byte) : List Region := (allRegions regions).filter Region.valid

/-- MAP_CRC (R76). -/
def mapCrc (geom regions : List Byte) : Nat := crc32Nat (geom ++ regions)

/-- Stations of a chain that are present, rising. -/
def presentStations (geom : List Byte) (chain : Nat) : List Nat :=
  (List.range 255).filterMap fun i => if (geomOf geom chain (i + 1)).w = 0 then none else some (i + 1)

/-- A length halved, rounding up, so many times (R69). -/
def decimated : Nat → Nat → Nat
  | 0, n => n
  | k + 1, n => decimated k ((n + 1) / 2)

/-- Width and height of a region's input. -/
def Region.input (r : Region) : Nat × Nat := (decimated r.kh r.cropW, decimated r.kv r.cropH)

/-- The exponent that R68 chooses on an axis; none where the ratio lies outside its range. -/
def kChoice (dst crop : Nat) : Option Nat :=
  if crop = 0 ∨ 8 * crop < dst ∨ 32 * dst < crop then none
  else [0, 1, 2, 3, 4].find? fun k => decide (crop ≤ 2 * dst * 2 ^ k)

/-! ### What a station needs (R70) -/

/-- Needed columns and lines of a region at a station, if its window covers any of it. -/
def Region.need (r : Region) (g : Geom) : Option (Nat × Nat × Nat × Nat) :=
  let (w, h) := r.input
  if g.w = 0 then none
  else match coverSpan ((g.x0 : Int) - r.dstX) g.w r.dstW, coverSpan ((g.y0 : Int) - r.dstY) g.h r.dstH with
    | some (x0, x1), some (y0, y1) =>
      let (c0, c1) := needSpan x0 x1 w r.dstW 3 4
      let (l0, l1) := needSpan y0 y1 h r.dstH 2 3
      some (c0, c1, l0, l1)
    | _, _ => none

/-- A station needs the cell of a line and segment. A Slate cell covers two lines. -/
def Region.needsCell (r : Region) (g : Geom) (line seg : Nat) : Bool :=
  match r.need g with
  | none => false
  | some (c0, c1, l0, l1) =>
    let last := if r.slate then line + 1 else line
    decide (line ≤ l1 ∧ l0 ≤ last ∧ 64 * seg ≤ c1 ∧ c0 ≤ 64 * seg + 63)

/-- The cells of a region in the order of R71: line, then segment. -/
def Region.grid (r : Region) : List (Nat × Nat) :=
  let (w, h) := r.input
  ((List.range h).filter fun l => !r.slate || l % 2 == 0).flatMap fun l => (List.range ((w + 63) / 64)).map fun sg => (l, sg)

/-- The stations of a chain that need a cell, rising. -/
def stationsOf (geom : List Byte) (chain : Nat) (st : List Nat) (r : Region) (c : Nat × Nat) : List Nat :=
  st.filter fun n => r.needsCell (geomOf geom chain n) c.1 c.2

/-- The station sets of a chain that get a group, in order of first appearance (R71). -/
def groupSets (geom regions : List Byte) (chain : Nat) : List (List Nat) :=
  let st := presentStations geom chain
  (validRegions regions).foldl (fun acc r =>
    r.grid.foldl (fun acc c =>
      let v := stationsOf geom chain st r c
      if v.length ≤ 1 ∨ v = st ∨ acc.contains v then acc else acc ++ [v]) acc) []

/-- DEST for a set of stations (R71); none for a cell that no station needs. -/
def destOf (groups : List (List Nat)) (st v : List Nat) : Option Nat :=
  match v with
  | [] => none
  | [n] => some n
  | _ => if v = st then some 0xFFF else (groups.findIdx? (· == v)).map (0x100 + ·)

/-- The groups that a station belongs to: its group membership (R32). -/
def membership (groups : List (List Nat)) (station : Nat) : List Nat :=
  (List.zipIdx groups).filterMap fun g => if g.1.contains station then some (0x100 + g.2) else none

/-! ### Validation (R67, Table 2.9) -/

/-- Two windows overlap. -/
def Geom.meets (a b : Geom) : Bool :=
  decide (0 < a.w ∧ 0 < b.w ∧ a.x0 < b.x0 + b.w ∧ b.x0 < a.x0 + a.w ∧ a.y0 < b.y0 + b.h ∧ b.y0 < a.y0 + a.h)

/-- An absent station, or a window within the limits of a tile: at most 2,048 each way and 262,144 pixels. A window with columns
and no line lies outside them (DESIGN CHOICE, log entry 102). -/
def Geom.fits (a : Geom) : Bool := decide (a.w = 0 ∨ a.w ≤ 2048 ∧ 0 < a.h ∧ a.h ≤ 2048 ∧ a.w * a.h ≤ 262144)

/-- Every window of a geometry table. -/
def windows (geom : List Byte) : List Geom :=
  (List.range (geom.length / 12)).map fun i => geomOf geom (i / 255 + 1) (i % 255 + 1)

/-- Some element of a list breaks a test with a later one. -/
def anyPair {α : Type} (p : α → α → Bool) : List α → Bool
  | [] => false
  | x :: xs => xs.any (p x) || anyPair p xs

/-- Cells per wall frame that a chain carries under a map. -/
def cellsPerFrame (geom regions : List Byte) (chain : Nat) : Nat :=
  let st := presentStations geom chain
  ((validRegions regions).map fun r =>
    (r.grid.filter fun c => !(stationsOf geom chain st r c).isEmpty).length *
      ((List.range 4).filter fun k => bit r.slots k).length).sum

/-- What validation needs to know of the sender: for each stream whether it is enabled, and its width, height and
sampling; and for each chain it drives, the chain number and the video cells per second that its port may carry. -/
structure MapContext where
  stream : Nat → Bool × Nat × Nat × Nat
  ports : List (Nat × Nat)
  num : Nat
  den : Nat

/-- Cause and region ID of the first refusal of a map, in ascending cause order and then in ascending region ID (R67); cause 0
when it is accepted. OVERLAP names two regions, and GROUPS, SHARE and GEOMETRY none: they report 0xFF. A crop of no column or
no line is reported as cause 3 (DESIGN CHOICE, log entry 102). -/
def mapRefusal (ctx : MapContext) (geom regions : List Byte) : Nat × Nat :=
  let rs := validRegions regions
  let st (r : Region) : Bool × Nat × Nat × Nat := ctx.stream r.src
  let bad (p : Region → Bool) : Option Nat := (rs.find? p).map Region.id
  let gs := windows geom
  let both (a b : Region) : Bool :=
    a.layer == b.layer && (List.range 4).any (fun k => bit a.slots k && bit b.slots k) &&
      gs.any fun g => (a.need g).isSome && (b.need g).isSome
  let checks : List (Nat × Option Nat) := [
    (1, bad fun r => !(st r).1),
    (2, bad fun r => r.slots == 0),
    (3, bad fun r => decide (r.cropW = 0 ∨ r.cropH = 0 ∨ (st r).2.1 < r.cropX + r.cropW ∨ (st r).2.2.1 < r.cropY + r.cropH)),
    (4, bad fun r => (st r).2.2.2 == 0 && (r.cropX % 2 == 1 || r.cropW % 2 == 1)),
    (5, bad fun r => decide (kChoice r.dstW r.cropW ≠ some r.kh ∨ kChoice r.dstH r.cropH ≠ some r.kv)),
    (6, if rs.any fun a => rs.any fun b => decide (a.id < b.id) && both a b then some 0xFF else none),
    (7, if (List.range 16).any fun c => decide (3839 < (groupSets geom regions (c + 1)).length) then some 0xFF else none),
    (8, if ctx.ports.any fun p => decide (p.2 * ctx.den < cellsPerFrame geom regions p.1 * ctx.num) then some 0xFF else none),
    (9, bad fun r => !fmtAllows r.fmt (st r).2.2.2),
    (10, bad fun r => r.slate && decide (2 < r.fmt)),
    (11, if gs.any (fun g => !g.fits) || anyPair Geom.meets gs then some 0xFF else none),
    (12, match (allRegions regions).find? fun r => decide (32 * r.id < regions.length) && !r.clean with
      | some r => some r.id
      | none => if gs.any (fun g => !g.clean) then some 0xFF else none)]
  match checks.find? fun c => c.2.isSome with
  | some c => (c.1, c.2.getD 0xFF)
  | none => (0, 0xFF)

/-! ### Source samples -/

/-- The parameters of a stream that its stored samples depend on (Table 2.3). -/
structure SrcShape where
  width : Nat
  height : Nat
  sampling : Nat
  depth : Nat
  deriving DecidableEq, Repr

/-- Components of a sampling. -/
def SrcShape.comps (h : SrcShape) : Nat := if h.sampling = 3 then 1 else 3

/-- Samples in a row, in the order of transmission. -/
def SrcShape.rowSamples (h : SrcShape) : Nat :=
  match h.sampling with
  | 0 => 2 * h.width
  | 3 => h.width
  | _ => 3 * h.width

/-- Bytes of a row (SMPTE ST 2110-20 pixel groups, packed without gaps). -/
def SrcShape.rowBytes (h : SrcShape) : Nat := (h.rowSamples * h.depth + 7) / 8

/-- Stored bits of a frame (R59). -/
def SrcShape.bits (h : SrcShape) : Nat := h.rowSamples * h.depth * h.height

/-- Place of a sample in its row: component in the order R G B or Y Cb Cr, and its column in its own plane. The order
within a pixel group is that of SMPTE ST 2110-20 (PRESUMED, log entry 28): Cb Y Cr Y, Cb Y Cr, R G B. -/
def SrcShape.place (h : SrcShape) (comp col : Nat) : Nat :=
  match h.sampling with
  | 0 => if comp = 0 then 4 * (col / 2) + 1 + 2 * (col % 2) else if comp = 1 then 4 * col else 4 * col + 2
  | 1 => 3 * col + (if comp = 0 then 1 else if comp = 1 then 0 else 2)
  | 2 => 3 * col + comp
  | _ => col

/-- A sample of a stored frame. -/
def SrcData.sample (h : SrcShape) (d : SrcData) (comp col line : Nat) : Nat :=
  match d with
  | .rows bytes =>
    let o := h.place comp col * h.depth
    let b (i : Nat) : Nat := (Sparse.get (fun _ => (0 : Byte)) bytes (line * 65536 + o / 8 + i)).toNat
    (b 0 * 65536 + b 1 * 256 + b 2) / 2 ^ (24 - o % 8 - h.depth) % 2 ^ h.depth
  | .codestream bytes => Config.jxsSample bytes comp col line % 2 ^ h.depth

/-! ### Predecimation (R69) -/

/-- One stage on a row: neighbours outside take the nearest sample inside. -/
def halve (row : List Nat) : List Nat :=
  let n := row.length
  let at_ (i : Int) : Nat := row.getD (clampI 0 ((n : Int) - 1) i).toNat 0
  (List.range ((n + 1) / 2)).map fun i =>
    (at_ (2 * i - 1) + 3 * at_ (2 * i) + 3 * at_ (2 * i + 1) + at_ (2 * i + 2) + 4) / 8

/-- One stage on the lines of a plane. -/
def halveLines (rows : List (List Nat)) : List (List Nat) :=
  let n := rows.length
  let at_ (i : Int) (c : Nat) : Nat := (rows.getD (clampI 0 ((n : Int) - 1) i).toNat []).getD c 0
  let w := (rows.headD []).length
  (List.range ((n + 1) / 2)).map fun i => (List.range w).map fun c =>
    (at_ (2 * i - 1) c + 3 * at_ (2 * i) c + 3 * at_ (2 * i + 1) c + at_ (2 * i + 2) c + 4) / 8

/-- A stage applied so many times. -/
def times {α : Type} (f : α → α) : Nat → α → α
  | 0, x => x
  | k + 1, x => times f k (f x)

/-- Depth conversion (R69). -/
def convertDepth (src dst v : Nat) : Nat :=
  if dst < src then min (2 ^ dst - 1) ((v + 2 ^ (src - dst - 1)) / 2 ^ (src - dst))
  else v * 2 ^ (dst - src) + v / 2 ^ (src - (dst - src))

/-- Component depth of a cell format (Table 4.5). -/
def fmtDepth (fmt : Nat) : Nat := if fmt = 3 then 12 else if fmt = 4 then 8 else 10

/-- One component plane of a region's input: cropped, predecimated horizontally and then vertically, and converted
(R69). A chroma plane of 4:2:2 has its own grid, and is extended by its last sample. -/
def Region.plane (r : Region) (h : SrcShape) (d : SrcData) (comp : Nat) : List (List Nat) :=
  let chroma := h.sampling == 0 && comp != 0
  let x0 := if chroma then r.cropX / 2 else r.cropX
  let w := if chroma then r.cropW / 2 else r.cropW
  let rows := (List.range r.cropH).map fun y => (List.range w).map fun x => d.sample h comp (x0 + x) (r.cropY + y)
  let rows := times halveLines r.kv (rows.map (times halve r.kh))
  let wide := if chroma then (r.input.1 + 1) / 2 else r.input.1
  rows.map fun row => (row ++ List.replicate (wide - row.length) (row.getLastD 0)).map (convertDepth h.depth (fmtDepth r.fmt))

/-- The 30-bit word of a pixel (Table 4.5). -/
def fmtWord (fmt : Nat) (s : Nat → Nat → Nat) (x : Nat) : Nat :=
  match fmt with
  | 2 => s 0 x * 2 ^ 20 + s (if x % 2 = 0 then 1 else 2) (x / 2) * 2 ^ 10
  | 3 => s 0 x * 2 ^ 18 + s (if x % 2 = 0 then 1 else 2) (x / 2) * 2 ^ 6
  | 4 => s 0 x * 2 ^ 16 + s 1 x * 2 ^ 8 + s 2 x
  | 5 => s 0 x
  | _ => s 0 x * 2 ^ 20 + s 1 x * 2 ^ 10 + s 2 x

/-! ### Cells (R72) -/

/-- The payload of a cell of a region, given its planes: 64 words of a line, or eight Slate blocks of two lines. Columns
past the input repeat its last column; a line past it repeats the last line. -/
def Region.payload (r : Region) (planes : List (List (List Nat))) (line seg : Nat) : List Byte :=
  let (w, h) := r.input
  let word (l x : Nat) : Nat :=
    fmtWord r.fmt (fun c i => ((planes.getD c []).getD (min l (h - 1)) []).getD i 0) (min x (w - 1))
  if r.slate then
    bitsBytes ((List.range 8).flatMap fun b =>
      slateEncode r.fmt ((List.range 16).map fun i => word (line + i / 8) (64 * seg + 8 * b + i % 8)))
  else packWords ((List.range 64).map fun i => word line (64 * seg + i))

/-- Header of a video cell with ORIGIN 0 and LAST clear (Table 4.1, R72). -/
def Region.header (r : Region) (mapGen frame slot line seg dest : Nat) : Nat :=
  (if r.slate then 2 else 1) * 2 ^ 92 + slot * 2 ^ 88 + r.id * 2 ^ 80 + frame % 256 * 2 ^ 72 + line * 2 ^ 58 +
    seg * 2 ^ 48 + r.fmt * 2 ^ 44 + dest * 2 ^ 32 + mapGen % 256 * 2 ^ 24 + r.kh * 2 ^ 21 + r.kv * 2 ^ 18

/-- The cells of one region for a frame on a chain, in the order of R71 and then by slot, with ORIGIN 0. LAST marks the
last cell of each slot. -/
def Region.cells (r : Region) (geom : List Byte) (groups : List (List Nat)) (chain mapGen frame : Nat)
    (h : SrcShape) (d : SrcData) : List Cell :=
  let st := presentStations geom chain
  let planes := (List.range h.comps).map (r.plane h d)
  let sent := r.grid.filterMap fun c => (destOf groups st (stationsOf geom chain st r c)).map fun dst => (c, dst)
  let n := sent.length
  (List.zipIdx sent).flatMap fun e =>
    let pay := r.payload planes e.1.1.1 e.1.1.2
    ((List.range 4).filter fun k => bit r.slots k).map fun k =>
      mkCell (r.header mapGen frame k e.1.1.1 e.1.1.2 e.1.2 + bitAt (decide (e.2 + 1 = n)) 90) pay

/-- The same cell with ORIGIN 1, its CRC computed afresh. -/
def Cell.fromB (c : Cell) : Cell := mkCell (c.header.toNat ||| 2 ^ 91) c.payload

/-- The bytes that a checksum covers: header with ORIGIN 0, and payload (R73, R147). -/
def Cell.summed (c : Cell) : List Byte := c.covered

/-- Fold bytes into a running CRC-32. -/
def crc32More (c : BitVec 32) (bs : List Byte) : BitVec 32 := bs.foldl crc32Byte c

/-- The checksum of a list of cells. -/
def checksumOf (cs : List Cell) : Nat :=
  ((cs.foldl (fun (a : BitVec 32) c => crc32More a c.summed) 0xFFFFFFFF) ^^^ 0xFFFFFFFF).toNat

end Sys2Proof.Machine
end

