-- ==== Sys2Proof/Machine/Redundancy.lean ====
section
/-! DEFINITION. Dual senders and fail-over (R145 to R161, R165, R166), the frame master (R39, R40), the wall derate (R42,
R288) and the determinism checksums (R73, R147). -/

namespace Sys2Proof.Machine

open Host

/-! ### What a chain port knows -/

/-- Streams that a region of the active map uses. -/
def State.mapStreams (s : State) : BitVec 32 :=
  (validRegions s.ingress.regions).foldl (fun a r => a ||| BitVec.ofNat 32 (2 ^ r.src)) 0

/-- A sender reached over the cascade within the last 100 ms (DESIGN CHOICE, log entry 30: the spec gives no bound). -/
def State.reaches (s : State) (prio : Nat) : Bool :=
  s.cascade.reachable.any fun e => e.1 == prio && decide (s.now ≤ e.2 + 100 * ms)

/-- Senders that can be reached now. -/
def State.heardSenders (s : State) : List Nat :=
  (s.cascade.reachable.filter fun e => decide (s.now ≤ e.2 + 100 * ms)).map fun e => e.1

/-- CLEAN_TIME of a port in ms (R145). -/
def State.cleanTime (s : State) (p : Fin 2) : Nat :=
  match s.ports[p].cleanSince with
  | none => 0
  | some t => (s.now - t) / ms

/-- FLAGS of a sender's HEALTH (Table 5.2). -/
def State.healthFlags (s : State) (p : Fin 2) : Nat :=
  bitAt (s.preferred p) 0 + bitAt s.quartz.master 1 + bitAt (s.quartz.state == .locked) 2 +
    bitAt (s.quartz.state == .holdover) 3 + bitAt (s.ports[p].peer != 0 && s.reaches s.ports[p].peer) 4 +
    bitAt (s.ports[p].reclaim.any fun r => r.attempts != 0) 5 + bitAt (s.rdB (0x2300 + p) 0x16) 6

/-- The HEALTH payload of a sender, bytes 0 to 41 (Table 5.2). -/
def State.senderHealth (s : State) (p : Fin 2) : List Byte :=
  let x := s.ports[p]
  leBytes 1 1 ++ leBytes 1 s.priority ++ leBytes 1 (s.chainNo p) ++ leBytes 1 x.cstate.code ++
    leBytes 1 (s.healthFlags p) ++ [0] ++ leBytes 2 x.healthCount.toNat ++ leBytes 4 x.diag.toNat ++
    leBytes 4 x.vouched.toNat ++ leBytes 4 (s.rdN 0x2500 0x09) ++ leBytes 1 (s.rdN 0x2500 0x08) ++ [0, 0, 0] ++
    leBytes 4 (sat (umax 4) (s.cleanTime p)) ++ leBytes 4 x.released.toNat ++ stamp10 s.quartz.wall

/-! ### Taking and giving up control (R133, R155 to R158) -/

/-- Take control of a chain: reason 1 after RELINQUISH, 2 peer lost, 3 RECLAIM, 0 the chain's first control, and that of end A
whose peer is not joined (R37, R133, R157). A control sender withholds no stream (R147). -/
def State.takeControl (s : State) (p : Fin 2) (reason : Nat) : State :=
  let s := (s.withChain p fun x => { x with
    seq := x.released + 65536
    take := none
    reclaim := none
    withheld := 0
    fromPeer := reason == 1 || reason == 3
    takenAt := s.now }).setCState p .control
  let s := s.wrN (0x2300 + p) 0x0C 0
  let s := if reason = 0 then s else (s.bump (0x2300 + p) 0x10 1).raise 0x4002 (s.redDetail p reason)
  let s := if reason = 3 then (s.bump (0x2300 + p) 0x12 1).raise 0x4004 (s.redDetail p 0) else s
  let s := s.sendTiming p
  if s.portUp p then (s.startDiscovery p (s.ports[p].discovered || reason != 0)).2 else s

/-- Give up control: nothing more is originated, the sender is a standby one, judged at once, and gateway requests in flight end with
0x0800_0022 (R154, R155, R157). -/
def State.giveControl (s : State) (p : Fin 2) : State :=
  let s := s.withChain p fun x => { x with take := none, discovery := none }
  (s.setCState p (s.standby p)).dropGateway p abState

/-- CSTATE follows a write of MODE or of the chain number at once (R29, R154, R165). -/
def State.rejudge (s : State) (p : Fin 2) : State :=
  if s.chainNo p = 0 then s
  else if s.single then (if s.ports[p].cstate = .single then s else s.setCState p .single)
  else if s.ports[p].cstate = .single then s.giveControl p
  else s.judgeStandby p

/-- A write of MODE, which both chain ports follow (R165). -/
def State.modeWrite (s : State) (v : Int) : Nat × State := (0, ((s.wrI 0x2300 0x01 v).rejudge 0).rejudge 1)

/-- A write of CHAIN_NUMBER: whether it is the peer's is known at once (R29, R154). -/
def State.chainNumberWrite (s : State) (p : Fin 2) (v : Int) : Nat × State :=
  let s := s.wrI (0x2200 + p) 0x01 v
  let x := s.ports[p]
  let differ := x.peer != 0 && x.peerChain != s.chainNo p
  let s := (s.withChain p fun x => { x with numbersDiffer := differ }).raiseIf (differ && !x.numbersDiffer) 0x4007
    (s.redDetail p x.peerChain)
  (0, s.rejudge p)

/-- `CONTROL_START`: the instant that TAKE or ACK named; the one side stops originating and the other begins (R155, R157,
R159). A single sender takes no control and gives none (R165). -/
def execControlStart (p : Fin 2) (s : State) : Out1 :=
  if !s.isSender ∨ s.single then .next s
  else match s.ports[p].take with
    | none => .next s
    | some (t, starts) =>
      let s := s.untilWall t
      if starts then .next (s.takeControl p (if s.ports[p].reclaim.any Reclaim.acked then 3 else 1))
      else .next ((s.giveControl p).withChain p fun x => { x with peerCState := some 2 })

/-- An eligible standby sender that sees CSTATE 3 sends TAKE: control starts at the first whole microsecond at least 200 µs
later (R155). It takes the place of a handover that ACK set for a later instant. -/
def State.answerRelinquish (s : State) (p : Fin 2) : State :=
  let x := s.ports[p]
  let t := (s.quartz.wall + 200000 * subNs + 1000 * subNs - 1) / (1000 * subNs) * (1000 * subNs)
  let free : Bool := match x.take with
    | none => true
    | some (t0, _) => x.reclaim.any Reclaim.acked && decide (t < t0)
  if x.cstate = .eligible ∧ x.peerCState = some 3 ∧ free ∧ !s.healthOnly p then
    (s.withChain p fun x => { x with take := some (t, true), reclaim := none }).sendPeer p 3 0 t []
  else s

/-- Of two senders that both hold control this one keeps it: it jumps its counter and takes control anew under R157 (R158). -/
def State.keepControl (s : State) (p : Fin 2) : State :=
  let s := (s.withChain p fun x => { x with seq := x.seq + 65536, fromPeer := false, takenAt := s.now }).raise 0x400B (s.redDetail p 1)
  let s := s.sendTiming p
  if s.portUp p then (s.startDiscovery p true).2 else s

/-- Of two senders that both hold control this one yields (R158). -/
def State.yieldControl (s : State) (p : Fin 2) : State := (s.giveControl p).raise 0x400B (s.redDetail p 0)

/-- Both senders hold control: the preferred one keeps it (R158). -/
def State.dualControl (s : State) (p : Fin 2) : State := if s.preferred p then s.keepControl p else s.yieldControl p

/-- A report of CSTATE 2 or 3 that shows dual control: one that the peer has put out, by the wall time it carries, since this sender
took control. After a handover by the peer its CSTATE 3 counts only 1 ms later, the time in which control changes
(R155, R158; DEDUCED, log entry 29). -/
def State.dualReport (s : State) (p : Fin 2) (b : List Byte) : Bool :=
  let x := s.ports[p]
  let cs := field b 3 1
  let at_ : Int := s.now - ((s.quartz.wall : Int) - ((field b 32 6 * second + field b 38 4) * subNs : Nat)) / subNs
  (cs == 2 || cs == 3) && decide ((x.takenAt : Int) + (if x.fromPeer ∧ cs = 3 then ms else 0) < at_)

/-- What the peer's CSTATE asks of a sender that is not single (R154, R155, R158). A relinquishing sender whose peer was standby
and now reports control has been taken over from, TAKE heard or not. -/
def State.meetPeer (s : State) (p : Fin 2) (before : Option Nat) (b : List Byte) : State :=
  let x := s.ports[p]
  match x.cstate with
  | .relinquishing =>
    if x.peerCState = some 2 ∧ (before = some 0 ∨ before = some 1) then s.giveControl p
    else if s.dualReport p b then s.dualControl p else s
  | .control => if s.dualReport p b then s.dualControl p else s
  | .single => s
  | _ => (s.judgeStandby p).answerRelinquish p

/-- What a HEALTH payload of the peer tells, from the ring or from a STATUS unit (R29, R154 to R156, R158). -/
def State.hearPeer (s : State) (p : Fin 2) (b : List Byte) : State :=
  let prio := field b 1 1
  let chain := field b 2 1
  let cs := field b 3 1
  let differ := chain != s.chainNo p
  let was := s.ports[p].numbersDiffer
  let before := s.ports[p].peerCState
  let s := s.withChain p fun x => { x with
    peer := prio
    peerCState := some cs
    peerChain := chain
    peerMapCrc := field b 16 4
    peerVouched := BitVec.ofNat 32 (field b 12 4)
    peerSeq := BitVec.ofNat 32 (field b 28 4)
    peerSeen := true
    numbersDiffer := differ }
  let s := (s.wrN (0x2300 + p) 0x06 prio).wrN (0x2300 + p) 0x07 cs
  let s := s.raiseIf (differ && !was) 0x4007 (s.redDetail p chain)
  if s.single then s
  else if differ then
    if s.ports[p].cstate = .eligible then s.setCState p .notEligible else s
  else if s.ports[p].unjoined then s
  else s.meetPeer p before b

/-- The two senders of a chain are apart: end A runs the chain alone, end B sends HEALTH cells only (R37; DEDUCED, log entry 97: end A
takes control where it has none, and end B gives up its own). Where both held control this settles which keeps it, with the
effects of R158. -/
def State.runApart (s : State) (p : Fin 2) (b : List Byte) : State :=
  let holds := s.ports[p].cstate.controls
  let dual := holds && s.dualReport p b
  if p = 0 then (if dual then s.keepControl p else if holds then s else s.takeControl p 0)
  else if dual then s.yieldControl p
  else if holds then s.giveControl p else s

/-- A HEALTH cell of a sender that has come round the ring (R27, R37, R156, R166). The peer counts as joined by a cascade link
while a unit of it has come within the last 100 ms, over however many hops (DESIGN CHOICE, log entry 30). -/
def State.healthThroughRing (s : State) (p : Fin 2) (b : List Byte) : State :=
  if field b 1 1 = s.priority then
    (s.withChain (other p) fun x => { x with ownMissing := 0 }).withChain 0 fun x => { x with ringHeard := some s.now }
  else
    let apart := !s.single && !s.reaches (field b 1 1)
    let was := s.ports[p].unjoined
    let s := (s.withChain p fun x => { x with unjoined := apart, ringHeard := some s.now }).hearPeer p b
    if apart then (s.raiseIf (!was) 0x4008 (s.redDetail p 0)).runApart p b else s

/-! ### Self-diagnosis and the frame master (R39, R40, R145 to R148, R154, R159, R160) -/

/-- INGRESS of Table 5.1, sender-wide: on some chain the peer vouches for a stream of the active map and this sender does not. -/
def State.ingressFails (s : State) : Bool :=
  (List.finRange 2).any fun p =>
    let x := s.ports[p]
    s.chainNo p != 0 && x.peerVouched &&& ~~~x.vouched &&& s.mapStreams != 0

/-- The checks of Table 5.1 for a port. -/
def State.diagnose (s : State) (p : Fin 2) (secded watchdog : Bool) : Nat :=
  let x := s.ports[p]
  bitAt s.ingressFails 0 + bitAt (!s.portUp p) 1 + bitAt secded 2 +
    bitAt watchdog 3 + bitAt (s.quartz.state != .locked && s.quartz.state != .holdover) 4 + bitAt (x.mismatch != 0) 5 +
    bitAt (s.rdB (0x2300 + p) 0x16) 6

/-- A period is clean when no check but DETERMINISM fails (R145). -/
def cleanDiag (d : Nat) : Bool := d % 32 == 0 && d / 64 == 0

/-- The lowest bit set. -/
def lowestBit (d : Nat) : Nat := ((List.range 32).find? fun i => bit d i).getD 0

/-- The conditions of R159 but for the hold-off. -/
def State.mayReclaim (s : State) (p : Fin 2) : Bool :=
  let x := s.ports[p]
  s.isSender && s.preferred p && x.cstate == .eligible && !s.rdB (0x2300 + p) 0x16 && s.quartz.state == .locked && x.reclaim.isNone && x.take.isNone &&
    x.peerCState == some 2 && (x.peerVouched &&& ~~~x.vouched == 0) && !s.healthOnly p

/-- CLEAN_TIME has reached RECLAIM_HOLDOFF; with RECLAIM_HOLDOFF 0 nothing is asked of it (R159, R161). -/
def State.cleanEnough (s : State) (p : Fin 2) : Bool := decide (s.rdN (0x2300 + p) 0x03 ≤ s.cleanTime p)

/-- The hold-off of R159 has passed: CLEAN_TIME has reached RECLAIM_HOLDOFF, and so has the time since three attempts that
nobody answered. -/
def State.heldOff (s : State) (p : Fin 2) : Bool :=
  let hold := s.rdN (0x2300 + p) 0x03
  hold != 0 && s.cleanEnough p && decide (s.ports[p].holdFrom + hold * ms ≤ s.now)

/-- Send RECLAIM, naming a frame 3 frames ahead (R159). -/
def State.sendReclaim (s : State) (p : Fin 2) (attempts : Nat) : State :=
  let f := s.quartz.frame + 3
  (s.withChain p fun x => { x with reclaim := some { frame := f, attempts := attempts, acked := false, since := s.now } }).sendPeer
    p 4 f s.quartz.wall []

/-- A handover agreed by ACK stands so near that neither side acts on a failure any more: its instant is at most 1 ms away
(R160). -/
def State.handoverNear (s : State) (p : Fin 2) : Bool :=
  match s.ports[p].take with
  | some (t, _) => decide (t ≤ s.quartz.wall + ms * subNs)
  | none => false

/-- What a standby sender does at the end of a period (R154, R155, R159, R160). -/
def State.standbyPeriod (s : State) (p : Fin 2) (clean : Bool) : State :=
  let s := (s.judgeStandby p).answerRelinquish p
  let x := s.ports[p]
  let cancel := (x.reclaim.any Reclaim.acked) && !clean && !s.handoverNear p
  if cancel then
    let f := (x.reclaim.map Reclaim.frame).getD 0
    let s := (s.withChain p fun x => { x with reclaim := none, take := none }).sendPeer p 7 f s.quartz.wall []
    s.raise 0x4005 (s.redDetail p 0x10)
  else if clean ∧ s.preferred p ∧ !s.healthOnly p ∧ x.take = none ∧ x.peerCState ≠ some 2 ∧ x.peerCState ≠ some 3 then
    s.takeControl p 0
  else if s.heldOff p ∧ s.mayReclaim p then s.sendReclaim p 1 else s

/-- What the control of a chain does at the end of a period (R148, R154, R155, R159, R160, R165). -/
def State.controlPeriod (s : State) (p : Fin 2) (clean : Bool) (diag : Nat) : State :=
  if s.single then if s.ports[p].cstate = .single then s else s.setCState p .single
  else match s.ports[p].cstate with
  | .single => s.giveControl p
  | .control =>
    if clean || s.handoverNear p then s
    else
      let s := (s.setCState p .relinquishing).bump (0x2300 + p) 0x11 1
      s.raise 0x4001 (s.redDetail p (lowestBit diag))
  | .relinquishing => if clean ∧ s.ports[p].take = none then s.setCState p .control else s
  | _ => s.standbyPeriod p clean

/-- A period for one chain port (R145). -/
def State.diagPort (s : State) (p : Fin 2) (secded watchdog : Bool) : State :=
  if s.chainNo p = 0 then s
  else
    let d := s.diagnose p secded watchdog
    let clean := cleanDiag d
    let s := s.withChain p fun x => { x with
      diag := BitVec.ofNat 32 d
      lastClean := clean
      mismatch := 0
      cleanSince := if clean then some (x.cleanSince.getD s.now) else none }
    let s := (s.wrN (0x2300 + p) 0x0A d).wrN (0x2300 + p) 0x09 (sat (umax 4) (s.cleanTime p))
    s.controlPeriod p clean d

/-- Senders reached that say something of themselves. -/
def State.toldBy (s : State) (p : Told → Bool) : Bool :=
  s.cascade.told.any fun e => p e && s.heardSenders.contains e.prio

/-- Become frame master (R39, R172), and tell the others the time source (R178). -/
def State.becomeMaster (s : State) : State :=
  ((s.withQuartz fun q => { q with master := true, fm := s.priority, dist := 0, parent := none }).withCascade fun c =>
    { c with hadMaster := true, minority := false, masterAt := none }).sendPresence

/-- The sender stands alone with no cascade link (R40). -/
def State.alone (s : State) : Bool :=
  s.lanes.link[(2 : Fin 4)].phase == .absent && s.lanes.link[(3 : Fin 4)].phase == .absent

/-- The frame master in force is this sender, or one that is still reached: through a parent, through a unit of its own, or
through a neighbour that names one. -/
def State.masterReached (s : State) : Bool :=
  let q := s.quartz
  if q.master then true
  else q.parent.isSome || (q.fm != 0 && q.fm != s.priority && s.heardSenders.contains q.fm) ||
    (List.finRange 2).any fun i => s.cascUp i && q.neighbour[i].dist != 0xFF && q.neighbour[i].fm != 0

/-- Each neighbour has sent its first SYNC unit, which would name a frame master. -/
def State.neighboursHeard (s : State) : Bool :=
  (List.finRange 2).all fun i => !s.cascUp i || s.quartz.neighbour[i].set.isSome

/-- The cascade has had a frame master, as this sender or one that it reaches knows. -/
def State.masterKnown (s : State) : Bool := s.cascade.hadMaster || s.toldBy Told.had

/-- A sender may elect a frame master: one that stands alone; with CASCADE_SIZE 0 one whose cascade has had none and that
reaches another sender; else one of more than half of the senders. It waits for the first SYNC unit of each neighbour (R39,
R40; DEDUCED, log entry 101). -/
def State.mayElect (s : State) : Bool :=
  let others := s.heardSenders
  let size := s.rdN 0x2600 0x26
  s.alone || (s.neighboursHeard &&
    (if size = 0 then !s.masterKnown && !others.isEmpty else decide (size < 2 * (others.length + 1))))

/-- A better sender that is reached has passed its self-diagnosis (R39). -/
def State.betterPassed (s : State) : Bool := s.toldBy fun e => decide (e.prio < s.priority) && e.passed

/-- The revertive return of a better sender to frame master: it names a frame 3 ahead, and gives the return up when a period fails
more than 1 ms before it (R39, R159, R160). -/
def State.returnMaster (s : State) (clean : Bool) : State :=
  let hold := s.rdN 0x2300 0x03
  match s.cascade.masterAt with
  | none =>
    if clean && decide (s.priority < s.quartz.fm) && hold != 0 && decide (hold ≤ max (s.cleanTime 0) (s.cleanTime 1)) &&
        s.quartz.state == .locked then
      s.withCascade fun c => { c with masterAt := some (s.quartz.frame + 3) }
    else s
  | some f =>
    if !clean && decide (s.quartz.wall + ms * subNs < s.tFrame f) then s.withCascade fun c => { c with masterAt := none } else s

/-- The election of the frame master among the senders reached (R39, R40): a master that is reached stays, but for the
revertive return of a better sender; without one, the best sender that has passed becomes master where it may; in an island
that may not elect the senders hold over. A sender that knows of no former master waits 1 s from its cold start before it
reports such an island (DEDUCED, log entry 101). -/
def State.elect (s : State) (clean : Bool) : State :=
  let s := s.withCascade fun c => { c with passed := clean }
  if s.quartz.master then s
  else if s.masterReached then s.returnMaster clean
  else
    let s := s.withCascade fun c => { c with masterAt := none }
    if s.mayElect then (if clean ∧ !s.betterPassed then s.becomeMaster else s)
    else if s.cascade.minority ∨ !s.neighboursHeard ∨ (!s.masterKnown ∧ s.now < s.clocks.coldAt + second) then s
    else ((s.withCascade fun c => { c with minority := true }).holdover 2).raise 0x4009 (det3 0 0 s.heardSenders.length)

/-- `SELF_DIAG_PERIOD`: every 250 µs (R145). A sender has passed the self-diagnosis that R39 asks of a frame master when the
sender-wide checks SECDED and WATCHDOG pass; INGRESS depends on the peers, QUARTZ on there being a frame master, and the other
checks are scoped to a chain (DESIGN CHOICE, log entry 114). -/
def execSelfDiagPeriod (secded watchdog : Bool) (s : State) : Out1 :=
  if !s.isSender then .next s
  else
    let s := s.untilPhase 250000 0
    let s := if s.isMaster && s.rdN 0x2600 0x01 == 3 && s.quartz.state != .locked && decide (second ≤ s.now - s.clocks.coldAt) then
        s.quartzLock 3 else s
    let (mem, wdt) := (secded || s.cascade.memFault, watchdog || s.cascade.wdtFault)
    let s := s.withCascade fun c => { c with memFault := false, wdtFault := false }
    .next (((s.diagPort 0 mem wdt).diagPort 1 mem wdt).elect (!mem && !wdt))

/-! ### HEALTH cells, STATUS units and the peer check (R149, R156, R166) -/

/-- A single sender's own HEALTH cells have failed five times in a row to come round (R166). -/
def State.ringCheck (s : State) (p : Fin 2) : State :=
  if s.ports[p].ownMissing < 5 ∨ s.rdN (0x2200 + p) 0x02 = 3 then s
  else (s.wrN (0x2200 + p) 0x02 3).raise 0x3101 (s.chainDetail p (s.rdN (0x2200 + p) 0x03))

/-- `HEALTH_SEND`: at its phase of each 100 µs, on a chain port, with a STATUS unit to the peer; a single sender sends at
both ports, by the one command for port A (R149, R165). -/
def execHealthSend (p : Fin 2) (s : State) : Out1 :=
  if !s.isSender ∨ s.chainNo p = 0 ∨ s.single ∧ p = 1 then .next s
  else
    let controls := s.ports[p].cstate.controls
    let s := s.untilPhase 100000 (if controls then 0 else 50000)
    let s := s.withChain p fun x => { x with healthCount := x.healthCount + 1 }
    let b := s.senderHealth p
    let seq := if controls then s.ports[p].seq else s.ports[p].released
    let s := if controls then s.withChain p fun x => { x with seq := x.seq + 1, released := laterSeq x.released x.seq } else s
    let c := mkCell (header 7 p.1 0 seq.toNat 0xFFF 0) b
    let s := s.withChain p fun x => x.enqueue c
    if s.single then
      let s := (s.ringCheck p).withChain p fun x => { x with ownMissing := x.ownMissing + 1 }
      let q := other p
      let s := s.withChain q fun x => x.enqueue c
      .next ((s.ringCheck q).withChain q fun x => { x with ownMissing := x.ownMissing + 1 })
    else .next (s.sendPeer p 2 0 s.quartz.wall b)

/-- `PEER_CHECK`: 20 µs after the peer's HEALTH cell is due; five failures in a row lose the peer, and a standby sender
whose peer held control, or was never heard, takes it (R156). A peer whose CSTATE is not known is taken to be due at phase 0, as one
in control (DESIGN CHOICE, log entry 119). -/
def execPeerCheck (p : Fin 2) (s : State) : Out1 :=
  if !s.isSender ∨ s.chainNo p = 0 ∨ s.single then .next s
  else
    let x := s.ports[p]
    let held := match x.peerCState with
      | some c => decide (2 ≤ c ∧ c ≤ 4)
      | none => true
    let s := s.untilPhase 100000 (if held then 20000 else 70000)
    let misses := if x.peerSeen then 0 else min 5 (x.misses + 1)
    let s := (s.withChain p fun x => { x with misses := misses, peerSeen := false, peerLost := decide (misses = 5) }).wrN
      (0x2300 + p) 0x08 misses
    if misses < 5 ∨ x.peerLost then .next s
    else
      let s := s.raise 0x4003 (s.redDetail p (x.peerCState.getD 0xFF))
      let s := (s.withChain p fun x => { x with peerCState := none, peerVouched := 0, unjoined := false }).wrN (0x2300 + p) 0x07 0xFF
      let standby := !s.ports[p].cstate.controls
      if standby && held && !s.rdB (0x2300 + p) 0x16 && s.portUp p then .next (s.takeControl p 2) else .next s

/-! ### CTRL units (R153) -/

/-- Take a CTRL unit of a kind: whether it is for this sender, and the port of its chain. -/
def State.takeCtrl (s : State) (i : Fin 2) (u : CascadeUnit) (kind : Nat) : Option (Fin 2) × State :=
  let (mine, s) := s.takeUnit i u
  if mine && u.kind == 4 && field u.body 0 1 == kind then (s.portFor (field u.body 1 1), s) else (none, s)

/-- The frame that a CTRL unit names, from its low 32 bits and the frame in progress. -/
def State.ctrlFrame (s : State) (b : List Byte) : Nat :=
  let f := s.quartz.frame
  let low := field b 4 4
  let base := f / 2 ^ 32 * 2 ^ 32 + low
  if base + 2 ^ 31 < f then base + 2 ^ 32 else if f + 2 ^ 31 < base ∧ 2 ^ 32 ≤ base then base - 2 ^ 32 else base

/-- `STATUS_UNIT_RECEIVE` (R149, R156): the peer is joined by the cascade that brings it (R37). The chain of a unit whose sender
holds another number is found by the peer. -/
def execStatusUnitReceive (i : Fin 2) (u : CascadeUnit) (s : State) : Out1 :=
  let (mine, s) := s.takeUnit i u
  if !mine ∨ u.kind ≠ 4 ∨ field u.body 0 1 ≠ 2 then .next s
  else
    let b := slice u.body 18 42
    let hear (p : Fin 2) : State := (s.withChain p fun x => { x with unjoined := false }).hearPeer p b
    match s.portFor (field u.body 1 1) with
    | some p => .next (hear p)
    | none => match (List.finRange 2).find? fun p => s.ports[p].peer == u.src && s.chainNo p != 0 with
      | some p => .next (hear p)
      | none => .next s

/-- `TAKE_UNIT_RECEIVE`: the relinquishing sender stops originating at the instant named (R155). -/
def execTakeUnitReceive (i : Fin 2) (u : CascadeUnit) (s : State) : Out1 :=
  match s.takeCtrl i u 3 with
  | (none, s) => .next s
  | (some p, s) =>
    let t := (field u.body 8 6 * second + field u.body 14 4) * subNs
    if s.ports[p].cstate = .relinquishing then .next (s.withChain p fun x => { x with take := some (t, false) }) else .next s

/-- `RECLAIM_UNIT_RECEIVE`: the control sender answers ACK, or DEFER with its cause (R159). -/
def execReclaimUnitReceive (i : Fin 2) (u : CascadeUnit) (s : State) : Out1 :=
  match s.takeCtrl i u 4 with
  | (none, s) => .next s
  | (some p, s) =>
    let f := s.ctrlFrame u.body
    if !s.ports[p].cstate.controls ∨ s.single then .next s
    else
      let cause := if s.ingress.pending.isSome then 1
        else if s.update.armed.isSome ∨ s.rdN 0x3100 0x36 = 3 then 2
        else if f < s.quartz.frame + 2 then 3 else 0
      if cause ≠ 0 then .next (s.sendPeer p 6 0 s.quartz.wall (leBytes 1 cause))
      else
        let s := s.withChain p fun x => { x with take := some (s.tFrame f, false) }
        .next (s.sendPeer p 5 f s.quartz.wall [])

/-- `ACK_UNIT_RECEIVE`: control passes at T_frame(F) (R159). -/
def execAckUnitReceive (i : Fin 2) (u : CascadeUnit) (s : State) : Out1 :=
  match s.takeCtrl i u 5 with
  | (none, s) => .next s
  | (some p, s) =>
    match s.ports[p].reclaim with
    | none => .next s
    | some r =>
      if r.attempts = 0 ∨ r.frame ≠ s.ctrlFrame u.body then .next s
      else .next (s.withChain p fun x => { x with
        reclaim := some { r with acked := true }
        take := some (s.tFrame r.frame, true) })

/-- `DEFER_UNIT_RECEIVE`: the preferred sender waits 1 s (R159). -/
def execDeferUnitReceive (i : Fin 2) (u : CascadeUnit) (s : State) : Out1 :=
  match s.takeCtrl i u 6 with
  | (none, s) => .next s
  | (some p, s) =>
    match s.ports[p].reclaim with
    | none => .next s
    | some r =>
      let s := s.withChain p fun x => { x with reclaim := some { r with attempts := 0, acked := false, since := s.now } }
      .next (s.raise 0x4005 (s.redDetail p (field u.body 18 1)))

/-- `CANCEL_UNIT_RECEIVE`: the control sender keeps control (R160). -/
def execCancelUnitReceive (i : Fin 2) (u : CascadeUnit) (s : State) : Out1 :=
  match s.takeCtrl i u 7 with
  | (none, s) => .next s
  | (some p, s) =>
    if !s.ports[p].cstate.controls then .next s
    else
      let s := s.withChain p fun x => { x with take := none }
      .next (s.raise 0x4005 (s.redDetail p 0x10))

/-- `RECLAIM_ANSWER_TIMEOUT`: no answer within 10 ms: RECLAIM again with a new frame while the conditions hold, and after three
attempts the hold-off starts again (R159, R161). -/
def execReclaimAnswerTimeout (p : Fin 2) (s : State) : Out1 :=
  match s.ports[p].reclaim with
  | none => .next s
  | some r =>
    if r.acked ∨ r.attempts = 0 then .next s
    else
      let s := (s.until_ (r.since + 10 * ms)).withChain p fun x => { x with reclaim := none }
      if r.attempts < 3 then .next (if s.mayReclaim p && s.cleanEnough p then s.sendReclaim p (r.attempts + 1) else s)
      else .next ((s.withChain p fun x => { x with holdFrom := s.now }).raise 0x4005 (s.redDetail p 0x11))

/-- `DEFER_RETRY`: 1 s after DEFER (R159). -/
def execDeferRetry (p : Fin 2) (s : State) : Out1 :=
  match s.ports[p].reclaim with
  | some r =>
    if r.attempts ≠ 0 then .next s
    else
      let s := (s.until_ (r.since + second)).withChain p fun x => { x with reclaim := none }
      .next (if s.mayReclaim p && s.cleanEnough p then s.sendReclaim p 1 else s)
  | none => .next s

/-- A write of RECLAIM_NOW (R161). -/
def State.reclaimNowWrite (s : State) (p : Fin 2) (v : Int) : Nat × State :=
  if v = 0 then (0, s)
  else if s.rdN (0x2300 + p) 0x03 = 0 ∧ s.mayReclaim p then (0, s.sendReclaim p 1)
  else (abState, s)

/-- A write of MAINTENANCE: a controlling sender announces RELINQUISH at its next period, which the MAINT check fails
(R145, R148, R161); no RECLAIM is sent until it is cleared, and one that waits for its answer is given up. -/
def State.maintenanceWrite (s : State) (p : Fin 2) (v : Int) : Nat × State :=
  let s := s.wrI (0x2300 + p) 0x16 v
  if v = 0 then (0, s)
  else
    let s := s.withChain p fun x => { x with reclaim := if x.reclaim.any Reclaim.acked then x.reclaim else none }
    if s.ports[p].cstate = .control then
      let s := (s.setCState p .relinquishing).bump (0x2300 + p) 0x11 1
      (0, s.raise 0x4001 (s.redDetail p 6))
    else (0, if s.ports[p].cstate = .eligible then s.setCState p .notEligible else s)

/-! ### The wall derate (R42, R288) -/

/-- A tile's HEALTH cell at the control sender: its derate report, whether its hop delay is fixed, and whether it presents
composed frames (R42, R138, R176, R184, R190). -/
def State.tileReport (s : State) (p : Fin 2) (b : List Byte) : State :=
  let st := field b 1 1
  let counts := !bit (field b 4 1) 0 && field b 5 1 != 3
  let moves := bit (field b 4 1) 1
  let shows := field b 4 1 / 8 % 4 == 0 && !bit (field b 4 1) 0
  let s := s.withQuartz fun q => { q with presented := q.presented || shows }
  s.withChain p fun x => { x with
    presented := x.presented || shows
    derates := (if counts then [(st, field b 8 2, s.now)] else []) ++ x.derates.filter fun e => e.1 != st
    unsteady := (if moves then [st] else []) ++ x.unsteady.filter fun e => e != st
    matchedAt := if moves then (st, s.now) :: x.matchedAt.filter fun e => e.1 != st else x.matchedAt }

/-- The lowest derate factor of the chains this sender controls; 4,096 with no report left (R42, R288). -/
def State.ownDerate (s : State) : Nat :=
  ((List.finRange 2).filter fun p => s.controls p).foldl (fun a p =>
    (s.ports[p].derates.filter fun e => decide (s.now ≤ e.2.2 + 100 * ms)).foldl (fun a e => min a e.2.1) a) 4096

/-- Publish a wall derate value and the frame it applies from. -/
def State.keepDerate (s : State) (v : Nat × Nat) : State :=
  if s.video.colour.wall.contains v then s
  else
    let c := s.video.colour
    let v8 := (v :: c.wall.filter fun x => decide (x.2 < v.2)).take 8
    { s with video := { s.video with colour := { c with wall := v8 } } }

/-- `DERATE_UNIT_RECEIVE`: the frame master takes a control sender's lowest factor; the others take what the frame master
has published (R42, R288). -/
def execDerateUnitReceive (i : Fin 2) (u : CascadeUnit) (s : State) : Out1 :=
  let (mine, s) := s.takeUnit i u
  if !mine ∨ u.kind ≠ 4 ∨ field u.body 0 1 ≠ 9 then .next s
  else if s.quartz.master then
    .next (s.withCascade fun c => { c with
      derates := (u.src, field u.body 18 2, s.now) :: c.derates.filter fun e => e.1 != u.src })
  else if u.src = s.quartz.fm then .next (s.keepDerate (field u.body 18 2, s.ctrlFrame u.body))
  else .next s

/-- The frame master's derate for a frame: it moves the published factor towards its target, and names the value 4 frames
ahead; the value in force goes out every frame, so that a sender that joins learns it (DEDUCED, log entry 39); the other senders
report their lowest factor (R42, R288). -/
def State.derateFrame (s : State) : State :=
  let own := s.ownDerate
  let f := s.quartz.frame
  if !s.quartz.master then
    if (List.finRange 2).any fun p => s.controls p then
      s.sendCtrl (if s.quartz.fm = 0 then 31 else s.quartz.fm) 9 0 f s.quartz.wall (leBytes 2 own)
    else s
  else
    let low := (s.cascade.derates.filter fun e => decide (s.now ≤ e.2.2 + 100 * ms)).foldl (fun a e => min a e.2.1) own
    let floor := s.rdN 0x2E00 0x31
    let en := s.rdB 0x2E00 0x30
    let target := if en then max floor low else 4096
    let now := s.wallDerate.1
    let next := if target < now then max target (now - s.rdN 0x2E00 0x32) else min target (now + s.rdN 0x2E00 0x33)
    let s := if next = now then s else (s.keepDerate (next, f + 4)).wrN 0x2E00 0x34 next
    let s := if s.video.colour.wall = [] then s else s.sendCtrl 31 9 0 s.wallDerate.2 s.quartz.wall (leBytes 2 s.wallDerate.1)
    if en ∧ low < floor then s.raiseLimited 0x530B 0 (60 * second) fun _ => det 0xFF low else s

/-! ### Determinism checksums (R73, R147) -/

/-- `DETERMINISM_CHECKSUM`: the checksums of the frame that has ended go to the peer (R73, R147). -/
def execDeterminismChecksum (p : Fin 2) (s : State) : Out1 :=
  if !s.isSender ∨ s.chainNo p = 0 ∨ s.single then .next s
  else
    let c := s.ports[p].sumsLast
    .next (s.sendPeer p 8 c.frame s.quartz.wall
      (leBytes 4 c.all ++ leBytes 4 (c.unsliced ||| c.withheld).toNat ++ c.stream.toList.flatMap (leBytes 4)))

/-- Compare one stream's checksum with the peer's. A stream that the peer did not slice or withheld in that frame is not judged, and
does not break the run of agreement (DESIGN CHOICE, log entry 119); one that this sender withheld in it counts its frames of
agreement, and raises nothing (R147). -/
def State.compareStream (s : State) (p : Fin 2) (b : List Byte) (n : Fin 32) : State :=
  let c := s.ports[p].sumsLast
  if c.unsliced.getLsbD n || bit (field b 22 4) n || !s.mapStreams.getLsbD n then s
  else if c.stream[n] = field b (26 + 4 * n) 4 then
    s.withChain p fun x =>
      let run := x.agreeRun[n] + 1
      { x with
        agreeRun := vset x.agreeRun n run
        withheld := if 8 ≤ run then x.withheld &&& ~~~BitVec.ofNat 32 (2 ^ n.1) else x.withheld }
  else if c.withheld.getLsbD n then s.withChain p fun x => { x with agreeRun := vset x.agreeRun n 0 }
  else
    let b := BitVec.ofNat 32 (2 ^ n.1)
    let s := s.withChain p fun x => { x with
      agreeRun := vset x.agreeRun n 0
      mismatch := x.mismatch ||| b
      withheld := if x.cstate.controls then x.withheld else x.withheld ||| b }
    s.raise 0x4006 (s.redDetail p n)

/-- `CHECKSUM_UNIT_RECEIVE` (R147). -/
def execChecksumUnitReceive (i : Fin 2) (u : CascadeUnit) (s : State) : Out1 :=
  match s.takeCtrl i u 8 with
  | (none, s) => .next s
  | (some p, s) =>
    if s.ports[p].sumsLast.frame ≠ s.ctrlFrame u.body then .next s
    else
      let was := s.ports[p].mismatch
      let s := s.withChain p fun x => { x with mismatch := 0 }
      let s := (List.finRange 32).foldl (fun s n => s.compareStream p u.body n) s
      let s := if s.ports[p].mismatch = 0 then s else s.bump (0x2300 + p) 0x14 1
      let s := s.withChain p fun x => { x with mismatch := x.mismatch ||| was }
      .next (s.wrN (0x2300 + p) 0x0C s.ports[p].withheld.toNat)

end Sys2Proof.Machine
end

