-- ==== Sys2Proof/Machine/Ingress.lean ====
section
/-! DEFINITION. Source ingress: Ethernet on port C (R46 to R50), streams and their budget (R52 to R54, R58, R59), the merge
and the frames (R55 to R57), and the selection of frames (R60 to R64). -/

namespace Sys2Proof.Machine

open Host

/-! ### Streams -/

/-- Change the ingress. -/
def State.withIngress (s : State) (f : Ingress → Ingress) : State := { s with ingress := f s.ingress }

/-- Change a stream. -/
def State.withStream (s : State) (n : Fin 32) (f : StreamRun → StreamRun) : State :=
  s.withIngress fun g => { g with stream := vmod g.stream n f }

/-- A stream is enabled. -/
def State.streamOn (s : State) (n : Nat) : Bool := s.rdB (0x2400 + n) 0x01

/-- The shape of a stream's frames. -/
def State.srcShape (s : State) (n : Nat) : SrcShape where
  width := s.rdN (0x2400 + n) 0x04
  height := s.rdN (0x2400 + n) 0x05
  sampling := s.rdN (0x2400 + n) 0x08
  depth := s.rdN (0x2400 + n) 0x09

/-- Frame rate of a stream in Hz. -/
def State.srcRate (s : State) (n : Nat) : ℚ := (s.rdN (0x2400 + n) 0x06 : ℚ) / s.rdN (0x2400 + n) 0x07

/-- TIME_SOURCE of the frame master, its own or as it tells the others; PTP until it has told (R178). -/
def State.wallSource (s : State) : Nat :=
  if s.quartz.master then s.rdN 0x2600 0x01
  else ((s.cascade.told.find? fun e => e.prio == s.quartz.fm).map Told.source).getD 0

/-- A FREE stream, or a LOCKED one under a frame master whose source is not PTP (R61, R178). -/
def State.freeStream (s : State) (n : Nat) : Bool := s.rdN (0x2400 + n) 0x03 == 1 || s.wallSource != 0

/-! ### Ethernet ports (R46, R48) -/

/-- Ethernet ports of a port C configuration (Table 2.1). -/
def ethPorts (config : Nat) : List Nat :=
  match config with
  | 0 => [0, 4]
  | 1 => [0]
  | 2 => [0, 1, 2, 3]
  | 3 => [0, 1, 2, 3, 4, 5, 6, 7]
  | 4 => [0, 1, 2, 3, 4, 5]
  | _ => []

/-- The present configuration has an Ethernet port. -/
def State.hasEth (s : State) (e : Nat) : Bool := s.isSender && (ethPorts (s.rdN 0x2102 0x01)).contains e

/-- MAC address of an Ethernet port: the factory base address plus its number (R48). -/
def macOf (e : Nat) : Nat := (Config.macBase + e) % 2 ^ 48

/-- Send a frame from an Ethernet port, with its MAC address and its VLAN identifier (R48). -/
def State.ethSend (s : State) (e dest proto : Nat) (data : List Byte) : State :=
  if s.hasEth e then s.emit (.ethernet e (macOf e) (s.rdN 0x2102 (0x18 + e)) dest proto data) else s

/-- Buffers of a stream's ring. -/
def State.ringSize (s : State) (n : Nat) : Nat := if s.rdN (0x2400 + n) 0x03 = 1 then 3 else 2

/-- Object of a path's parameter: 0 group, 1 source, 2 UDP port, 3 Ethernet port. -/
def State.pathParam (s : State) (n : Nat) (path : Fin 2) (i : Nat) : Nat := s.rdN (0x2400 + n) (0x10 + 4 * path + i)

/-- A path is in use. -/
def State.pathUsed (s : State) (n : Nat) (path : Fin 2) : Bool := path == 0 || s.pathParam n path 3 != 0xFF

/-! ### IGMP (R50) -/

/-- The Internet checksum of bytes. -/
def inetSum (bs : List Byte) : Nat :=
  let fold (v : Nat) : Nat := v % 65536 + v / 65536
  let t := ((List.range ((bs.length + 1) / 2)).map fun i => beNat (slice bs (2 * i) 2)).sum
  65535 - fold (fold (fold t))

/-- An IGMP message with its checksum in bytes 2 and 3. -/
def igmpMessage (bs : List Byte) : List Byte := bs.take 2 ++ beBytes 2 (inetSum bs) ++ bs.drop 4

/-- A version 3 report of one group record (RFC 3376). -/
def igmpReport3 (kind group : Nat) (sources : List Nat) : List Byte :=
  igmpMessage (leBytes 1 0x22 ++ [0, 0, 0, 0, 0] ++ beBytes 2 1 ++ leBytes 1 kind ++ [0] ++ beBytes 2 sources.length ++
    beBytes 4 group ++ sources.flatMap (beBytes 4))

/-- A version 2 message. -/
def igmpMessage2 (type group : Nat) : List Byte := igmpMessage (leBytes 1 type ++ [0, 0, 0] ++ beBytes 4 group)

/-- The Ethernet port is in IGMPv2 compatibility mode. -/
def State.igmp2 (s : State) (e : Nat) : Bool :=
  match (s.ingress.igmpV2[e]?).getD none with
  | none => false
  | some t => decide (s.now < t)

/-- A path that sends IGMP: it is in use, and its group is not the port's own address. -/
def State.pathIgmp (s : State) (n : Nat) (path : Fin 2) : Bool :=
  s.pathUsed n path && s.pathParam n path 0 != s.rdN 0x2102 (0x10 + s.pathParam n path 3)

/-- Send a report for a path: a group record of a kind with its sources, or the version 2 message of a type. -/
def State.igmpFor (s : State) (n : Nat) (path : Fin 2) (kind : Nat) (sources : List Nat) (type2 : Nat) : State :=
  if !s.pathIgmp n path then s
  else
    let group := s.pathParam n path 0
    let e := s.pathParam n path 3
    if s.igmp2 e then s.ethSend e (if type2 = 0x17 then 0xE0000002 else group) 2 (igmpMessage2 type2 group)
    else s.ethSend e 0xE0000016 2 (igmpReport3 kind group sources)

/-- Both paths of a stream report their join: ALLOW of the source for SSM, a change to EXCLUDE of nothing for ASM (R50). -/
def State.igmpJoin (s : State) (n : Nat) : State :=
  (List.finRange 2).foldl (fun s i =>
    let src := s.pathParam n i 1
    if src = 0 then s.igmpFor n i 4 [] 0x16 else s.igmpFor n i 5 [src] 0x16) s

/-- Both paths of a stream report their leave: a change to INCLUDE of nothing (R50). -/
def State.igmpLeave (s : State) (n : Nat) : State := (s.igmpFor n 0 3 [] 0x17).igmpFor n 1 3 [] 0x17

/-- Answer a query for a path: MODE_IS_INCLUDE of its source for SSM, MODE_IS_EXCLUDE of nothing for ASM; a path of ASM
that is asked for sources answers MODE_IS_INCLUDE of those, as RFC 3376 has it (R50). -/
def State.igmpAnswer (s : State) (n : Nat) (path : Fin 2) (sources : List Nat) : State :=
  let src := s.pathParam n path 1
  if src ≠ 0 then s.igmpFor n path 1 [src] 0x16
  else if sources.isEmpty then s.igmpFor n path 2 [] 0x16
  else s.igmpFor n path 1 sources 0x16

/-- Event 0x500A for the SSM paths of a stream whose port is in IGMPv2 compatibility mode (R50). -/
def State.ssmUnderV2 (s : State) (n : Nat) : State :=
  (List.finRange 2).foldl (fun s i =>
    s.raiseIf (s.pathIgmp n i && s.pathParam n i 1 != 0 && s.igmp2 (s.pathParam n i 3)) 0x500A (det n (s.pathParam n i 3))) s

/-- Paths of enabled streams on an Ethernet port. -/
def State.pathsOn (s : State) (e : Nat) : List (Nat × Fin 2) :=
  (List.range 32).flatMap fun n => ((List.finRange 2).filter fun i =>
    s.streamOn n && s.pathIgmp n i && s.pathParam n i 3 == e).map fun i => (n, i)

/-- `IGMP_QUERY_RECEIVE`: version 1 is ignored; a version 2 general query puts the port into compatibility mode for 260 s (RFC
3376); the paths that the query names are reported (R50). Group 0 is a general query. -/
def execIgmpQueryReceive (e : Fin 8) (version group : Nat) (sources : List Nat) (s : State) : Out1 :=
  if !s.hasEth e ∨ version < 2 then .next s
  else
    let old := version == 2 && group == 0
    let fresh := old && !s.igmp2 e
    let s := if old then s.withIngress fun g => { g with igmpV2 := vset g.igmpV2 e (some (s.now + 260 * second)) } else s
    let paths := s.pathsOn e
    let s := if fresh then
        (paths.filter fun p => s.pathParam p.1 p.2 1 != 0).foldl (fun s p => s.raise 0x500A (det p.1 e)) s
      else s
    let asked (p : Nat × Fin 2) : Bool :=
      (group == 0 || s.pathParam p.1 p.2 0 == group) &&
        (sources.isEmpty || s.pathParam p.1 p.2 1 == 0 || sources.contains (s.pathParam p.1 p.2 1))
    .next ((paths.filter asked).foldl (fun s p => s.igmpAnswer p.1 p.2 sources) s)

/-- `IGMP_REPORT_TIMER`: the second unsolicited report, 1 s after enable (R50). -/
def execIgmpReportTimer (n : Fin 32) (s : State) : Out1 :=
  match s.ingress.stream[n].reportAt with
  | none => .next s
  | some t => .next (((s.until_ t).withStream n fun r => { r with reportAt := none }).igmpJoin n)

/-! ### Enabling (R53, R54, R58, R59) -/

/-- The stream limits of R53. 23.976 Hz is 24000/1001 Hz, and 23976/1000 is below it (DESIGN CHOICE, log entry 102). -/
def State.streamLimits (s : State) (n : Nat) : Bool :=
  let h := s.srcShape n
  let f := s.srcRate n
  decide (64 ≤ h.width ∧ h.width ≤ 8192 ∧ 16 ≤ h.height ∧ h.height ≤ 4320) && (h.sampling != 0 || h.width % 2 == 0) &&
    decide ((24000 : ℚ) / 1001 ≤ f ∧ f ≤ 240 ∧ (h.width * h.height : ℚ) * f ≤ 4246732800)

/-- Streams that count in the budget: those enabled, and the one asked for. -/
def State.budgeted (s : State) (n : Nat) : List Nat := (List.range 32).filter fun i => s.streamOn i || i == n

/-- The budget that a stream would break: 1 W, 2 W + Rd, 3 capacity, 4 JPEG XS; 0 none (R58, R59, Table 2.6). -/
def State.budgetCause (s : State) (n : Nat) : Nat :=
  let ns := s.budgeted n
  let wall : ℚ := (s.quartz.set.num : ℚ) / s.quartz.set.den
  let bits (i : Nat) : ℚ := (s.srcShape i).bits
  let w := (ns.map fun i => bits i * s.srcRate i).sum
  let rd := (ns.map fun i => bits i * wall).sum
  let rings := (ns.map fun i => (s.srcShape i).bits * s.ringSize i).sum
  let jxs := ns.filter fun i => s.rdN (0x2400 + i) 0x02 == 1
  let pix (i : Nat) : ℚ := ((s.srcShape i).width * (s.srcShape i).height : ℚ) * s.srcRate i
  let h := s.srcShape n
  let profile := h.sampling != 3
  if (400000000000 : ℚ) < w then 1
  else if (800000000000 : ℚ) < w + rd then 2
  else if s.ingress.fitted * 2 ^ 30 * 8 * 7 / 8 < rings then 3
  else if s.rdN (0x2400 + n) 0x02 = 1 ∧
      (8 < jxs.length ∨ (1990656000 : ℚ) < (jxs.map pix).sum ∨ !profile) then 4
  else 0

/-- A write of ENABLE (R50, R54). -/
def State.streamEnable (s : State) (n : Fin 32) (v : Int) : Nat × State :=
  let idx : Nat := 0x2400 + n
  if v = 0 then
    if !s.streamOn n then (0, s)
    else
      let s := s.igmpLeave n
      (0, ((s.wrB idx 0x01 false).wrN idx 0x20 0).withStream n fun _ => StreamRun.off)
  else if s.streamOn n then (0, s)
  else if !s.streamLimits n then (abCannot, s.cause 5)
  else
    let c := s.budgetCause n
    if c ≠ 0 then (abCannot, s.raise 0x5007 (det n c))
    else
      let rate := s.rdN idx 0x06 * 1000 / s.rdN idx 0x07
      let s := ((s.wrB idx 0x01 true).wrN idx 0x20 1).wrN idx 0x26 rate
      let s := s.withStream n fun _ => { StreamRun.off with
        reportAt := some (s.now + second)
        lastArrival := Vector.replicate 2 s.now }
      (0, (s.igmpJoin n).ssmUnderV2 n)

/-- A write of another stream parameter: refused while the stream is enabled (R54). -/
def State.streamParam (s : State) (n : Nat) (sub : Nat) (v : Int) : Nat × State :=
  if s.streamOn n then (abState, s) else (0, s.wrI (0x2400 + n) sub v)

/-! ### Frames (R57, R60) -/

/-- Wall time that an RTP timestamp gives: the instant on the 90 kHz PTP timescale nearest to now (R60). -/
def rtpWall (wall : Nat) (ts : BitVec 32) : Nat :=
  let unit := second * subNs
  let ticks := wall * 90000 / unit
  let base := ticks / 2 ^ 32 * 2 ^ 32 + ts.toNat
  let t := if base + 2 ^ 31 < ticks then base + 2 ^ 32 else if ticks + 2 ^ 31 < base ∧ 2 ^ 32 ≤ base then base - 2 ^ 32 else base
  t * unit / 90000

/-- The frames that a ring keeps and those that leave it, newest first: as many complete ones as it has buffers, and among them the
timestamps of at most so many incomplete ones, which take no buffer. -/
def keepRing : Nat → Nat → List SrcFrame → List SrcFrame × List SrcFrame
  | _, _, [] => ([], [])
  | 0, _, fs => ([], fs)
  | n + 1, k, f :: fs =>
    let (kept, left) := keepRing (if f.complete then n else n + 1) (if f.complete then k else k - 1) fs
    if f.complete || k != 0 then (f :: kept, left) else (kept, f :: left)

/-- A frame joins its stream's ring; a complete frame that leaves the ring without having been selected is a drop; one may have
been selected before it was complete (R59, R64). -/
def State.store (s : State) (n : Fin 32) (f : SrcFrame) : State :=
  let r := s.ingress.stream[n]
  let all := (f :: r.ring).map fun g => { g with used := g.used || r.selected.any fun e => e.2 == some g.ts }
  let (kept, left) := keepRing (s.ringSize n) 16 all
  let lost := left.filter fun g => g.complete && !g.used
  let s := if lost.isEmpty then s else s.bump (0x2400 + n) 0x28 lost.length
  s.withStream n fun r => { r with ring := kept }

/-- The last eight intervals of a stream: how many, and the ns they took. -/
def arrivalSpan (arrivals : List Nat) : Nat × Nat :=
  match arrivals with
  | a :: rest => match rest.getLast? with
    | some b => (rest.length, a - b)
    | none => (0, 0)
  | [] => (0, 0)

/-- A frame has arrived, complete or not: the measured rate of the stream, and event 0x5005 where that of a FREE stream differs
from nominal by more than 0.5 %, at most once per second (R64; the limit is a DESIGN CHOICE, log entry 102). -/
def State.frameArrived (s : State) (n : Fin 32) (at_ : Nat) : State :=
  let idx : Nat := 0x2400 + n
  let s := s.withStream n fun r => { r with arrivals := (at_ :: r.arrivals).take 9, frames := r.frames + 1 }
  let r := s.ingress.stream[n]
  let num := s.rdN idx 0x06
  let den := s.rdN idx 0x07
  let (k, ns) := arrivalSpan r.arrivals
  if r.frames ≤ 8 ∨ ns = 0 then s.wrN idx 0x26 (num * 1000 / den)
  else
    let s := s.wrN idx 0x26 (k * second * 1000 / ns)
    let apart : Int := (k * second * den : Nat) - (num * ns : Nat)
    if s.rdN idx 0x03 = 1 ∧ num * ns < 200 * apart.natAbs then
      s.raiseLimited 0x5005 n.1 second fun _ => det n (apart * 10000 / (num * ns : Nat) % 65536).toNat
    else s

/-- A complete frame joins the ring (R57, R59, R64). -/
def State.complete (s : State) (n : Fin 32) (ts : BitVec 32) (data : SrcData) : State :=
  (s.bump (0x2400 + n) 0x21 1).store n { ts := ts, wall := rtpWall s.quartz.wall ts, data := data, complete := true, used := false }

/-- A frame is incomplete: it is counted, event 0x5003 names the lines missing, and only its timestamp is kept (R57). -/
def State.incomplete (s : State) (n : Fin 32) (ts : BitVec 32) (lines : Nat) : State :=
  let s := (s.bump (0x2400 + n) 0x22 1).raise 0x5003 (det n (sat 0xFFFF lines))
  s.store n { ts := ts, wall := rtpWall s.quartz.wall ts, data := .rows [], complete := false, used := false }

/-- A line has every byte of its row. -/
def lineWhole (rows : Sparse Byte) (line bytes : Nat) : Bool :=
  (List.range bytes).all fun i => (Sparse.find? rows (line * 65536 + i)).isSome

/-- Numbers of a list run without a gap. -/
def runsWhole (l : List Nat) : Bool :=
  match l.min?, l.max? with
  | some lo, some hi => (List.range (hi - lo + 1)).all fun i => l.contains (lo + i)
  | _, _ => false

/-- Place of a packet in its codestream (RFC 9134): in codestream mode by SEP, which counts the overruns of P, and P; in slice
mode the header segment (SEP 2047) before the slices, and P within each. -/
def JxsPacket.place (k : JxsPacket) : Nat := (if k.slices then (k.sep + 1) % 2048 else k.sep) * 2048 + k.p

/-- Every packet of a frame is there: sequence numbers and packets run without a gap from the first of a unit to its last, slices
from the header segment on, and the marker packet has come (R52, R57). -/
def packetsWhole (f : OpenFrame) : Bool :=
  let ps := f.packets
  let units := if ps.any JxsPacket.slices then ps.map fun k => (k.sep + 1) % 2048 else [0]
  let unit (u : Nat) : List JxsPacket := ps.filter fun k => !k.slices || (k.sep + 1) % 2048 == u
  let base := (ps.head?.map JxsPacket.ext).getD 0
  f.marked && runsWhole (ps.map fun k => (k.ext + 2 ^ 31 + 2 ^ 32 - base) % 2 ^ 32) && runsWhole (0 :: units) && units.contains 0 &&
    units.all fun u =>
      let places := (unit u).map JxsPacket.place
      places.contains (u * 2048) && runsWhole places &&
        (unit u).any fun k => k.last && (places.all fun x => decide (x ≤ k.place))

/-- Data of the packets in the order of their codestream. -/
def packetsJoin (ps : List JxsPacket) : List Byte :=
  (ps.mergeSort fun a b => decide (a.place ≤ b.place)).flatMap JxsPacket.data

/-- Count the packets that are missing on a path, or on every path in use: those that have not come there within the 2 ms by which
the paths may differ (R52, R55; DEDUCED, log entry 122). -/
def State.countLost (s : State) (n : Fin 32) : State :=
  let two := s.pathUsed n 1
  let due := s.ingress.stream[n].waits.filter fun w => decide (w.since + 2 * ms < s.now)
  let a := (due.filter fun w => !w.got[0]).length
  let b := (due.filter fun w => two && !w.got[1]).length
  let both := (due.filter fun w => !w.got[0] && !(two && w.got[1])).length
  let s := (s.bump (0x2400 + n) 0x23 a).bump (0x2400 + n) 0x24 b
  (s.bump (0x2400 + n) 0x25 both).withStream n fun r => { r with
    waits := r.waits.filter fun w => decide (s.now ≤ w.since + 2 * ms) }

/-- A frame closes: complete when every line has arrived on some path; a codestream goes on to the decoder (R57, R58). -/
def State.closeFrame (s : State) (n : Fin 32) (f : OpenFrame) : State :=
  let s := (s.countLost n).frameArrived n f.firstAt
  let h := s.srcShape n
  if s.rdN (0x2400 + n) 0x02 = 1 then
    if packetsWhole f then s.withStream n fun r => { r with decoding := r.decoding ++ [f] }
    else s.incomplete n f.ts h.height
  else
    let lines := ((List.range h.height).filter fun l => !lineWhole f.rows l h.rowBytes).length
    if lines = 0 then s.complete n f.ts (.rows (f.rows.filter fun e => e.2 != 0)) else s.incomplete n f.ts lines

/-- Close the open frame of a timestamp. -/
def State.closeTs (s : State) (n : Fin 32) (ts : BitVec 32) : State :=
  match s.ingress.stream[n].opens.find? fun f => f.ts == ts with
  | none => s
  | some f => (s.withStream n fun r => { r with
      opens := r.opens.filter fun g => g.ts != ts
      closed := ((ts, f.firstAt) :: r.closed).take 16 }).closeFrame n f

/-! ### Packets (R52, R56) -/

/-- An RTP packet: marker, payload type, sequence number, timestamp and payload. -/
structure Rtp where
  marker : Bool
  pt : Nat
  seq : Nat
  ts : BitVec 32
  payload : List Byte
  deriving DecidableEq, Repr

/-- The RTP packet that bytes spell (RFC 3550); none when they are no version 2 packet. -/
def rtpOf (b : List Byte) : Option Rtp :=
  let b0 := (byteAt b 0).toNat
  let b1 := (byteAt b 1).toNat
  if b.length < 12 ∨ b0 / 64 ≠ 2 then none
  else
    let head := 12 + 4 * (b0 % 16)
    let ext := if bit b0 4 then 4 + 4 * beNat (slice b (head + 2) 2) else 0
    let pad := if bit b0 5 then (b.getLastD 0).toNat else 0
    some {
      marker := bit b1 7, pt := b1 % 128, seq := beNat (slice b 2 2), ts := BitVec.ofNat 32 (beNat (slice b 4 4))
      payload := (b.drop (head + ext)).take (b.length - head - ext - pad) }

/-- Extended sequence number of an ST 2110-20 packet; of others the value nearest to the newest of the stream so far, on
whichever path (R56). They run modulo 2^32. -/
def extendSeq (video : Bool) (top : Option Nat) (r : Rtp) : Nat :=
  if video then beNat (slice r.payload 0 2) * 65536 + r.seq
  else match top with
    | none => r.seq
    | some h =>
      let d := (r.seq + 65536 - h % 65536) % 65536
      if d < 32768 then (h + d) % 2 ^ 32 else (h + d + 2 ^ 32 - 65536) % 2 ^ 32

/-- Store bytes of a row at an offset, marking each as arrived. -/
def putRow (rows : Sparse Byte) (line off : Nat) : List Byte → Sparse Byte
  | [] => rows
  | b :: bs => putRow (Sparse.insert rows (line * 65536 + off) b) line (off + 1) bs

/-- Sample row data headers of an ST 2110-20 payload, at most three: length, line, offset. What follows a third header that announces
a fourth, which Table 2.2 does not support, is taken as sample data (R52; DESIGN CHOICE, log entry 121). -/
def rowHeaders : Nat → List Byte → List (Nat × Nat × Nat) × List Byte
  | 0, b => ([], b)
  | k + 1, b =>
    let len := beNat (slice b 0 2)
    let line := beNat (slice b 2 2)
    let off := beNat (slice b 4 2)
    let rest := b.drop 6
    if bit off 15 then
      let (more, data) := rowHeaders k rest
      ((len, line, off % 32768) :: more, data)
    else ([(len, line, off)], rest)

/-- Place the rows of a packet (ST 2110-20). The set field bit is not supported (Table 2.2). -/
def placeRows (h : SrcShape) (rows : Sparse Byte) (heads : List (Nat × Nat × Nat)) (data : List Byte) : Sparse Byte :=
  match heads with
  | [] => rows
  | (len, line, off) :: more =>
    let at_ := off * (h.rowSamples * h.depth) / (8 * h.width)
    let seg := (data.take len).take (h.rowBytes - at_)
    let rows := if bit line 15 ∨ h.height ≤ line then rows else putRow rows line at_ seg
    placeRows h rows more (data.drop len)

/-- The JPEG XS packet of an RTP packet: 4 bytes of payload header, then data (RFC 9134). -/
def jxsPacket (ext : Nat) (r : Rtp) : JxsPacket :=
  let h := beNat (r.payload.take 4)
  { ext := ext, slices := bit h 30, last := bit h 29, sep := bits h 21 11, p := bits h 10 0, data := r.payload.drop 4 }

/-- The interlace bits of an RFC 9134 payload header: only progressive video is supported (Table 2.2). -/
def jxsInterlaced (r : Rtp) : Bool := bits (beNat (r.payload.take 4)) 28 27 != 0

/-- An open frame with a packet added. -/
def OpenFrame.add (f : OpenFrame) (h : SrcShape) (jxs : Bool) (ext : Nat) (r : Rtp) : OpenFrame :=
  let f := { f with marked := f.marked || r.marker }
  if jxs then (if jxsInterlaced r then f else { f with packets := f.packets ++ [jxsPacket ext r] })
  else
    let (heads, data) := rowHeaders 3 (r.payload.drop 2)
    { f with rows := placeRows h f.rows heads data }

/-- A timestamp is later than another, in serial-number arithmetic. -/
def laterTs (a b : BitVec 32) : Bool := decide (0 < (a - b).toNat ∧ (a - b).toNat < 2 ^ 31)

/-- A packet's distance ahead of the newest of its stream, modulo 2^32. -/
def seqAhead (top : Option Nat) (ext : Nat) : Nat := (ext + 2 ^ 32 - top.getD ext) % 2 ^ 32

/-- A packet is older than the newest of its stream; a jump of 32,768 or more either way is a restart. -/
def seqOld (top : Option Nat) (ext : Nat) : Bool := decide (2 ^ 32 - 32768 < seqAhead top ext)

/-- The packet numbers that a stream passes as one more arrives; at a restart that one alone. -/
def newNumbers (top : Option Nat) (ext : Nat) : List Nat :=
  let d := seqAhead top ext
  match top with
  | none => [ext]
  | some t =>
    if d < 32768 then (List.range d).map fun i => (t + 1 + i) % 2 ^ 32
    else if seqOld top ext then [] else [ext]

/-- A packet of a number has come on a path (R55, R56). -/
def StreamRun.arrive (r : StreamRun) (path : Fin 2) (ext now : Nat) : StreamRun :=
  let fresh := (newNumbers r.top ext).map fun k => ({ num := k, since := now, got := Vector.replicate 2 false } : PacketWait)
  { r with
    seen := (ext, now, path.1) :: r.seen.filter fun e => decide (now ≤ e.2.1 + second)
    waits := (fresh ++ r.waits).map fun w => if w.num = ext then { w with got := vset w.got path true } else w
    top := if seqOld r.top ext then r.top else some ext
    lastArrival := vset r.lastArrival path now
    lost := vset r.lost path false }

/-- When the first packet of a timestamp later than this one came, if one has (R57). -/
def StreamRun.laterFirst (r : StreamRun) (ts : BitVec 32) : Option Nat :=
  let firsts := (r.opens.map fun f => (f.ts, f.firstAt)) ++ r.closed
  ((firsts.filter fun e => laterTs e.1 ts).map fun e => e.2).min?

/-- Place a packet in the frame of its timestamp. Its marker closes that frame; the first packet of a later timestamp gives the
earlier ones 100 µs, counted from it also where an earlier frame begins after it. A packet of a frame already closed has no
place (R57). -/
def State.placePacket (s : State) (n : Fin 32) (ext : Nat) (p : Rtp) : State :=
  let h := s.srcShape n
  let jxs := s.rdN (0x2400 + n) 0x02 == 1
  let r := s.ingress.stream[n]
  if r.closed.any fun e => e.1 == p.ts then s
  else
    let by_ := (r.laterFirst p.ts).map fun t => t + 100000
    let opens :=
      if r.opens.any fun f => f.ts == p.ts then r.opens.map fun f => if f.ts = p.ts then f.add h jxs ext p else f
      else
        let fresh : OpenFrame := { ts := p.ts, rows := [], packets := [], firstAt := s.now, closeBy := by_, marked := false }
        (r.opens.map fun f =>
          if laterTs p.ts f.ts ∧ f.closeBy = none then { f with closeBy := some (s.now + 100000) } else f) ++ [fresh.add h jxs ext p]
    let s := s.withStream n fun r => { r with opens := opens }
    if p.marker || by_.any fun t => decide (t ≤ s.now) then s.closeTs n p.ts else s

/-- A packet of a stream on a path (R56): only the first copy is used. A packet is known by its number for 1 s, and a frame that has
closed by its timestamp for 16 frames (DESIGN CHOICE, log entry 121). -/
def State.rtpPacket (s : State) (n : Fin 32) (path : Fin 2) (data : List Byte) : State :=
  if !s.isSender ∨ !s.streamOn n ∨ !s.pathUsed n path then s
  else match rtpOf data with
    | none => s
    | some p =>
      if p.pt ≠ s.rdN (0x2400 + n) 0x0B then s
      else
        let r := s.ingress.stream[n]
        let ext := extendSeq (s.rdN (0x2400 + n) 0x02 == 0) r.top p
        let twin := r.seen.any fun e => e.1 == ext
        let s := ((s.withStream n fun r => r.arrive path ext s.now).countLost n).wrN (0x2400 + n) 0x20 2
        if twin then s else s.placePacket n ext p

/-- `RTP_PACKET_RECEIVE` (R56, R57). -/
def execRtpPacketReceive (n : Fin 32) (path : Fin 2) (data : List Byte) (s : State) : Out1 := .next (s.rtpPacket n path data)

/-- The open frame that closes first for a later timestamp. -/
def StreamRun.dueFirst (r : StreamRun) : Option (Nat × BitVec 32) :=
  r.opens.foldl (fun a f => match f.closeBy, a with
    | none, _ => a
    | some t, none => some (t, f.ts)
    | some t, some b => if t < b.1 then some (t, f.ts) else a) none

/-- `FRAME_CLOSE_TIMEOUT`: 100 µs after the first packet of a later timestamp (R57). -/
def execFrameCloseTimeout (n : Fin 32) (s : State) : Out1 :=
  match s.ingress.stream[n].dueFirst with
  | none => .next s
  | some (t, ts) => .next ((s.until_ t).closeTs n ts)

/-- `PATH_LOST_TIMEOUT`: a path delivers nothing for 100 ms (R56). -/
def execPathLostTimeout (n : Fin 32) (path : Fin 2) (s : State) : Out1 :=
  let r := s.ingress.stream[n]
  if !s.streamOn n ∨ !s.pathUsed n path ∨ r.lost[path] then .next s
  else
    let s := s.until_ (r.lastArrival[path] + 100 * ms)
    let s := (s.withStream n fun r => { r with lost := vset r.lost path true }).raise 0x5001 (det n (path + 1))
    let s := s.countLost n
    let gone := (List.finRange 2).all fun i => !s.pathUsed n i || s.ingress.stream[n].lost[i]
    if gone then .next ((s.wrN (0x2400 + n) 0x20 3).raise 0x5002 (det n 0)) else .next s

/-- `JPEG_XS_DECODE_COMPLETE`: the oldest codestream has been decoded, or failed at an offset (R58). -/
def execJpegXsDecodeComplete (n : Fin 32) (failedAt : Option Nat) (s : State) : Out1 :=
  match s.ingress.stream[n].decoding with
  | [] => .next s
  | f :: rest =>
    let s := s.withStream n fun r => { r with decoding := rest }
    match failedAt with
    | none => .next (s.complete n f.ts (.codestream (packetsJoin f.packets)))
    | some off =>
      .next ((s.incomplete n f.ts (s.srcShape n).height).raise 0x5008 (det n (sat 0xFFFF (off / 1024))))

/-! ### Ethernet (R48, R49) -/

/-- Count a frame that port C drops. -/
def State.ethDrop (s : State) (e : Fin 8) : State :=
  s.withIngress fun g => { g with ethDropped := vmod g.ethDropped e (· + 1) }

/-- Streams and paths that a datagram belongs to: the group or own address joined, the source filter, the port. -/
def State.receivers (s : State) (e src dst port : Nat) : List (Fin 32 × Fin 2) :=
  (List.finRange 32).flatMap fun (n : Fin 32) => ((List.finRange 2).filter fun i =>
    s.streamOn n && s.pathUsed n i && s.pathParam n i 3 == e && s.pathParam n i 0 == dst && s.pathParam n i 2 == port &&
      (s.pathParam n i 1 == 0 || s.pathParam n i 1 == src)).map fun i => (n, i)

/-- `TX_PORT_C_ETHERNET_FRAME`: the VLAN filter, ARP, ICMP echo, UDP, and everything else (R48, R49). Datagrams for PTP pass
to Quartz, whose messages are commands of their own (R51). -/
def execTxPortCEthernetFrame (e : Fin 8) (f : EthFrame) (s : State) : Out1 :=
  let vlan := s.rdN 0x2102 (0x18 + e)
  let own := s.rdN 0x2102 (0x10 + e)
  if !s.hasEth e then .next s
  else if f.vlan ≠ (if vlan = 0 then none else some vlan) then .next (s.ethDrop e)
  else match f.body with
    | .arp src target => if target = own then .next (s.ethSend e src 0x0806 (beBytes 6 (macOf e) ++ beBytes 4 own)) else .next (s.ethDrop e)
    | .echo src dst data => if dst = own then .next (s.ethSend e src 1 data) else .next (s.ethDrop e)
    | .udp src dst port data =>
      if dst = 0xE0000181 ∧ (port = 319 ∨ port = 320) ∧ s.rdN 0x2600 0x03 = e then .next s
      else
        let rs := s.receivers e src dst port
        if rs.isEmpty then .next (s.ethDrop e) else .next (rs.foldl (fun s r => s.rtpPacket r.1 r.2 data) s)
    | .other => .next (s.ethDrop e)

/-! ### Selection (R60 to R64) -/

/-- A stream that this sender subscribes to: a region of the active map uses it (R61). -/
def State.subscribed (s : State) (n : Fin 32) : Bool := s.mapStreams.getLsbD n

/-- A sender that can be reached subscribes to what this one does: it has told the CRC of the same map, which is wall-wide
(R61). -/
def State.subscribesToo (s : State) (o : Nat) : Bool :=
  s.cascade.told.any fun e => e.prio == o && e.mapCrc == s.rdN 0x2500 0x09

/-- This sender is the selector: no subscriber that can be reached has a better priority (R61, R62). -/
def State.selector (s : State) : Bool := s.heardSenders.all fun o => decide (s.priority < o) || !s.subscribesToo o

/-- The selection of a stream for a frame, if one is known. -/
def StreamRun.selection (r : StreamRun) (f : Nat) : Option (Option (BitVec 32)) :=
  (r.selected.find? fun e => e.1 == f).map fun e => e.2

/-- Record a selection, unless the frame has one. -/
def StreamRun.select (r : StreamRun) (f : Nat) (ts : Option (BitVec 32)) : StreamRun :=
  if (r.selection f).isSome then r else { r with selected := ((f, ts) :: r.selected).take 8 }

/-- The newest complete frame held, where it is newer than the one chosen last: by its place in the ring, or by its timestamp where
the ring does not know that one (R61). -/
def StreamRun.newer (r : StreamRun) (last : Option (BitVec 32)) : Option (BitVec 32) :=
  match r.ring.find? SrcFrame.complete with
  | none => last
  | some g => match last with
    | none => some g.ts
    | some t =>
      let known := r.ring.any fun x => x.ts == t
      let after := if known then (r.ring.takeWhile fun x => x.ts != t).any fun x => x.ts == g.ts else laterTs g.ts t
      if after then some g.ts else last

/-- `FREE_SELECT_CHOICE`: 500 µs before the next frame the selector takes the newest complete frame of each FREE stream,
or again the one it had (R61). -/
def execFreeSelectChoice (s : State) : Out1 :=
  if !s.isSender ∨ !s.quartz.lockedOnce then .next s
  else
    let f := s.quartz.frame + 1
    let s := s.untilWall (s.tFrame f - 500000 * subNs)
    if !s.selector then .next s
    else .next ((List.finRange 32).foldl (fun (s : State) (n : Fin 32) =>
      if !s.subscribed n || !s.freeStream n then s
      else s.withStream n fun r =>
        r.select f (r.newer ((r.selection (f - 1)).getD none))) s)

/-- An entry of a SELECT unit (R77), its 8 bytes with bits [7:0] first (DESIGN CHOICE, log entry 113). -/
def selectEntry (n f : Nat) (ts : Option (BitVec 32)) : List Byte :=
  leBytes 8 (n * 2 ^ 56 + f % 256 * 2 ^ 48 + bitAt ts.isNone 40 + (ts.getD 0).toNat)

/-- `SELECT_SEND`: 400 µs before the next frame (R61). -/
def execSelectSend (s : State) : Out1 :=
  if !s.isSender ∨ !s.quartz.lockedOnce then .next s
  else
    let f := s.quartz.frame + 1
    let s := s.untilWall (s.tFrame f - 400000 * subNs)
    let es := (List.finRange 32).filterMap fun (n : Fin 32) =>
      if s.subscribed n && s.freeStream n then (s.ingress.stream[n].selection f).map fun ts => selectEntry n f ts else none
    if !s.selector ∨ es = [] then .next s else .next (s.sendUnit 3 31 0 0 es.flatten)

/-- `SELECT_UNIT_RECEIVE`: the entries for the coming frame (R61, R62). -/
def execSelectUnitReceive (i : Fin 2) (u : CascadeUnit) (s : State) : Out1 :=
  let (mine, s) := s.takeUnit i u
  if !mine ∨ u.kind ≠ 3 then .next s
  else
    let f := s.quartz.frame + 1
    .next ((List.range 32).foldl (fun (s : State) k =>
      let e := field u.body (8 * k) 8
      let n := bits e 63 56
      if h : n < 32 then
        if e = 0 ∨ bits e 55 48 ≠ f % 256 then s
        else s.withStream ⟨n, h⟩ fun r => r.select f (if bit e 40 then none else some (BitVec.ofNat 32 (bits e 31 0)))
      else s) s)

/-- The timestamp selected of a LOCKED stream at an instant: the largest t_m with t_m + 1 / f_src + ALIGN_OFFSET no later
(R60), among the frames that have been seen, also those still arriving or being decoded. -/
def State.lockedChoice (s : State) (n : Fin 32) (w : Nat) : Option (BitVec 32) :=
  let idx : Nat := 0x2400 + n
  let ahead := s.rdN idx 0x07 * (second * subNs) / s.rdN idx 0x06 + s.rdN idx 0x0C * 1000 * subNs
  let r := s.ingress.stream[n]
  let seen := (r.ring.map fun g => (g.wall, g.ts)) ++ (r.opens ++ r.decoding).map fun f => (rtpWall s.quartz.wall f.ts, f.ts)
  (seen.foldl (fun (a : Option (Nat × BitVec 32)) g =>
    if w < g.1 + ahead then a
    else match a with
      | none => some g
      | some b => if b.1 < g.1 then some g else a) none).map fun g => g.2

/-- Select a stream's frame for wall frame F at T_frame(F), with REPEATS (R59 to R62, R64, R178). -/
def State.chooseFor (s : State) (n : Fin 32) (f : Nat) : Option (BitVec 32) × State :=
  let idx : Nat := 0x2400 + n
  let free := s.freeStream n
  let s := if free && s.rdN idx 0x03 == 0 then
      let l := s.limiter (0x1609 * 256 + n) (2 ^ 80)
      if l.last.isNone then (s.setLimiter { l with last := some s.now }).raise 0x1609 (s.quartzDetail 4) else s
    else s
  let ts := if free then (s.ingress.stream[n].selection f).getD none else s.lockedChoice n (s.tFrame f)
  let s := s.withStream n fun r => r.select f ts
  let r := s.ingress.stream[n]
  (ts, if ts.isSome && r.selection (f - 1) == some ts then s.bump idx 0x27 1 else s)

/-- The frame of a stream that a region uses: whether it is held complete, and so sliced; WITHHELD and event 0x5004 (R63). -/
def State.selectFor (s : State) (n : Fin 32) (f : Nat) : Option SrcFrame × State :=
  let idx : Nat := 0x2400 + n
  let (ts, s) := s.chooseFor n f
  let r := s.ingress.stream[n]
  match ts.bind fun t => r.ring.find? fun g => g.complete && g.ts == t with
  | some g =>
    (some g, s.withStream n fun r => { r with ring := r.ring.map fun x => if x.ts = g.ts then { x with used := true } else x })
  | none =>
    let s := s.bump idx 0x29 1
    (none, if ts.isSome then s.raiseLimited 0x5004 n.1 second fun _ => det n (f % 256) else s)

end Sys2Proof.Machine
end

