-- ==== Sys2Proof/Machine/Reset.lean ====
section
/-! DEFINITION. Resets: what each keeps, and what brings them about (R17, R376, R410, R435, R445, R446, R449, R450, R463,
R526, R544, Table 15.7). -/

namespace Sys2Proof.Machine

open Host

/-! ### Cold reset -/

/-- The flash operation in progress ends: it completes, or a power loss cuts it and leaves its range with free values; what
waited behind it is dropped. -/
def State.settleFlash (s : State) (powerLoss : Bool) : State :=
  let s := match s.nvm.issued, s.nvm.jobs with
    | true, j :: _ => match j.steps with
      | x :: _ => (s.doStep x (!powerLoss)).2
      | [] => s
    | _, _ => s
  s.withNvm fun n => { n with
    issued := false
    jobs := [] }

/-- The state a cold reset leaves until its release, with its cause (Table 15.7). A power-on clears the always-on domain
too. Kept besides: flash, fuses, the limiter's bucket, and the commands and outputs of the model itself. -/
def State.beginCold (s : State) (cause : Nat) : State :=
  let powerOn := cause == 1
  let s := (s.settleFlash powerOn).withHost fun _ => HostPort.reset
  let r : State := { State.reset with
    now := s.now
    role := s.role
    straps := s.straps
    railsGood := s.railsGood
    otp := s.otp
    sent := s.sent
    freeCount := s.freeCount
    pending := s.pending
    clocks := { Clocks.reset with coldAt := s.now }
    tap := if powerOn then Tap.reset else s.tap
    thermal := { Thermal.reset with
      phase := if powerOn then .normal else s.thermal.phase
      tripTimes := if powerOn then [] else s.thermal.tripTimes }
    update := { Update.reset with
      record := s.update.record
      retiredBefore := s.update.retiredBefore
      nextSession := s.update.nextSession }
    nvm := { Nvm.reset with
      flash := s.nvm.flash
      bucket := s.nvm.bucket
      bucketAt := s.nvm.bucketAt
      bb := if powerOn then BlackBox.reset else { s.nvm.bb with scanned := false } } }
  let r := r.wrN 0x2D00 0x18 cause
  if powerOn then r
  else ((r.wrN 0x2D00 0x19 (s.rdN 0x2D00 0x19)).wrN 0x2D00 0x1A (s.rdN 0x2D00 0x1A)).wrN 0x2E00 0x0C (s.rdN 0x2E00 0x0C)

/-! ### Warm reset -/

/-- The value and publication sub-indices of result objects: first index, count of indices, sub-indices. Left out are
those that another rule keeps: the stations of a chain and a port's inventory (Table 15.7), and values stored in flash
(R17). -/
def resultValues (role : Role) : List (Nat × Nat × List Nat) :=
  [(0x2110, 24, [0x26, 0x27, 0x28, 0x29]), (0x2500, 1, [0x04, 0x05, 0x06]), (0x2800, 8, [0x20, 0x21, 0x22]),
    (0x2880, 1, [0x0A, 0x11, 0x12, 0x13, 0x14]),
    (0x2930, 1, [0x06, 0x07]), (0x2B00, 1, [0x13, 0x14, 0x15, 0x16]), (0x2D00, 1, [0x24]), (0x3100, 1, [0x0B]),
    (0x3200, 1, [0x24])] ++ (if role == .sender then [(0x2200, 2, [0x07])] else [])

/-- An object of the result convention: RESULT_STATE, RESULT_SEQ (R17), or a value that reads 0 while nothing has been
published (R14). -/
def isResult (role : Role) (k : Nat) : Bool :=
  (match odFind role (k / 256) (k % 256) with
    | some r => r.name == "RESULT_STATE" || r.name == "RESULT_SEQ"
    | none => false) ||
  (resultValues role).any fun v => v.1 ≤ k / 256 && k / 256 < v.1 + v.2.1 && v.2.2.contains (k % 256)

/-- An engine restarts at ENTRY_WARM with its registers zeroed, a frame on the line completes with a complemented CRC, and REPOLL is
posted (R376); a port that was enumerating begins anew (R318: only one in RUN skips enumeration), and one that has failed waits for
its retry. The port's first frame uses the static phases (R335). -/
def State.warmEngine (s : State) (p : Fin 64) : State :=
  if s.lamps.engine[p].run = .held ∨ s.lamps.engine[p].run = .loading then s
  else
    let s := (s.complementLine p).withEngine p fun e => { e with
      run := .running
      regs := Vector.replicate 16 0
      pc := e.entryWarm
      wait := .none
      stall := none
      slow := none
      boundary := false
      wdkAt := s.now
      tx := e.tx.flatMap fun t => if t.markAt.isSome then killFrames [t] else [t] }
    let st := s.rdN (0x2A00 + p) 0x0A
    let s := (s.finishFrame p).withPort p fun q => { q with staticNext := true, pollDue := st == 3 }
    if st = 1 ∨ st = 2 then s.enumerate p else s.request p 3 0

/-- A sender's chain port after a warm reset: SEQ counters, windows and what discovery knows stay; the sender is standby
until it qualifies again, and its CLEAN_TIME is 0 (R120, R132, R139, R450, Table 15.10). -/
def ChainPort.warm (x : ChainPort) : ChainPort := { ChainPort.reset with
  seq := x.seq
  released := x.released
  windows := x.windows
  discovered := x.discovered
  presented := x.presented
  newNumbers := x.newNumbers
  healthCount := x.healthCount }

/-- The frame held from a warm reset until the next composed one: the banks kept, or the start image after a pixel-path
fault and where it was held before (R450). -/
def State.warmHeld (s : State) : Held :=
  if s.tile.pixelFault || s.video.compose.held == .startImage && !s.rdB 0x2880 0x0D then .startImage else .banks

/-- The picture path after a warm reset (R209, R254, R450). -/
def State.warmVideo (s : State) : Video :=
  let c := s.video.compose
  { store := FrameStore.empty
    compose := { c with
      shown := Vector.replicate 8 .absent
      slot := none
      slotsDone := 0
      overran := false
      overrunRun := 0
      firstReady := none
      held := s.warmHeld }
    colour := { s.video.colour with verifying := none } }

/-- No run goes on through a warm reset: live tests fail, timed checkers stop, and every result is cleared (R14, R101). -/
def State.dropRuns (s : State) : State :=
  let s := (List.finRange 4).foldl (fun (s : State) (k : Fin 4) => s.failTest k) s
  { s with
    lanes := { s.lanes with lane := s.lanes.lane.map fun (x : Lane) => { x with timedRun := false } }
    od := s.od.filter fun e => !isResult s.role e.1 }

/-- A warm reset disarms the heartbeat guard and starts the replay limit, unless the tile is blanked (R521). -/
def State.warmBeat (s : State) : State :=
  if s.rdN 0x3200 0x01 = 2 then s
  else
    (s.wrN 0x3200 0x01 0).withBeat fun b => { b with
      seen := false
      misses := 0
      replayUntil := if s.warmHeld == .banks then some (s.now + 2 * second) else none }

/-- What a warm reset rebuilds of the functions themselves (Table 15.7). -/
def State.warmParts (s : State) : State :=
  let video := s.warmVideo
  let tile := { s.tile with
    pixelFault := false
    restarted := true
    orig := Vector.replicate 2 []
    backlog := [] }
  { s with
    life := .warmStart
    video := video
    tile := tile
    ports := s.ports.map ChainPort.warm
    ingress := { s.ingress with stream := Vector.replicate 32 StreamRun.off }
    cascade := { s.cascade with masterAt := none }
    nvm := { s.nvm with calRun := none }
    update := { s.update with
      session := none
      gathers := []
      hello := none
      reply := none
      armed := none }
    lamps := { s.lamps with
      sweep := none
      bistRun := none } }

/-- The redundancy objects of a sender's chain port as it is after a warm reset (R167). -/
def State.clearRed (s : State) (p : Fin 2) : State :=
  if s.role ≠ .sender then s
  else ((s.zero (0x2300 + p) [0x06, 0x08, 0x09, 0x0A, 0x0B, 0x0C]).wrN (0x2300 + p) 0x07 0xFF).setCState p .notEligible

/-- The warm column of Table 15.7, at once, with its cause. -/
def State.beginWarm (s : State) (cause : Nat) : State :=
  let s := ((s.wrN 0x2D00 0x18 cause).bump 0x2D00 0x1A 1).dropRuns
  let s := ((((s.resetMasters.restartAccess).resetHostPort true).warmBeat.warmParts.setPending none).clearRed 0).clearRed 1
  let s := (s.wrN 0x2880 0x0D 0).wrN 0x3100 0x03 0
  let s := if s.rdN 0x3100 0x01 < 5 then s.wrN 0x3100 0x01 0 else s
  let s := s.withClocks fun c => { c with
    startAt := s.now
    startCold := false
    starting := true
    freqRun := none
    wdtRestarted := Vector.replicate 2 s.now
    wdtInForce := Vector.replicate 2 (s.rdN 0x3200 0x14) }
  let s := (List.finRange 64).foldl (fun (s : State) (p : Fin 64) => s.warmEngine p) s
  s.startLevel 2

/-! ### The commands that bring a reset about -/

/-- Clear a thermal latch (R463). -/
def State.clearLatch (s : State) : State :=
  if s.thermal.phase = .latched then
    (s.withThermal fun t => { t with phase := .normal }).emit (.pin .thermTripN true)
  else s

/-- The device is cooling after a trip. -/
def State.cooling (s : State) : Bool :=
  match s.thermal.phase with
  | .cooling _ => true
  | _ => false

/-- `POWER_ON` (R445). -/
def execPowerOn (s : State) : Out1 := .next { s.beginCold 1 with railsGood := false }

/-- `RESET_N_ASSERT`: held low for 1 µs (R445); it clears the latch of a device that has cooled (R463), and gives the balls
back to the device logic (R529). -/
def execResetNAssert (s : State) : Out1 :=
  let s := (s.pass 1000).clearLatch
  .next ({ s with tap := { s.tap with ballsTaken := false, highZ := false } }.beginCold 2)

/-- `SUPPLY_DROP`: a monitored rail below its threshold for 2 µs (R544); it clears no latch (R463). -/
def execSupplyDrop (s : State) : Out1 := .next { (s.pass 2000).beginCold 2 with railsGood := false }

/-- A write of 1 or 2 to 0x2000:10: refused while the device cools; it clears a latch (R445, R463). -/
def State.resetWrite (s : State) (v : Int) : Nat × State :=
  if s.cooling then (abState, s)
  else if v = 1 then (0, s.clearLatch.beginWarm 16)
  else (0, s.clearLatch.beginCold 3)

/-- `NMT_RESET_NODE` (R390, R463): ignored with event 0x1305 under NMT_RESET_ENABLE 0; refused while the device cools. -/
def execNmtResetNode (s : State) : Out1 :=
  if !s.isSender || s.control.nodeId == 0xFF then .next s
  else if !s.rdB 0x3300 0x0D then .next (s.raise 0x1305 (det 0 129))
  else if s.cooling then .next s
  else .next (s.clearLatch.beginWarm 17)

/-- `CLUSTER_WATCHDOG_RESTART`: a core of cluster 0 supervisor or 1 service writes its restart register (R526). -/
def execClusterWatchdogRestart (cluster : Fin 2) (s : State) : Out1 :=
  if s.up then .next (s.withClocks fun c => { c with wdtRestarted := vset c.wdtRestarted cluster s.now }) else .next s

/-- `CLUSTER_WATCHDOG_EXPIRY`: WDT_TIMEOUT without a restart: the supervisor is reset warm, or cold at its third expiry in
60 s; the service cluster restarts alone (R445, R526). -/
def execClusterWatchdogExpiry (cluster : Fin 2) (s : State) : Out1 :=
  if !s.up then .next s
  else
    let s := s.until_ (s.clocks.wdtRestarted[cluster] + s.clocks.wdtInForce[cluster] * ms)
    let s := (s.raise 0xA105 (det 0xFF cluster)).withCascade fun c => { c with wdtFault := true }
    if cluster = 0 then
      let times := s.now :: s.clocks.wdtExpiries.filter fun t => decide (s.now < t + 60 * second)
      if 3 ≤ times.length then .next (s.beginCold 4)
      else .next ((s.withClocks fun c => { c with wdtExpiries := times }).beginWarm 18)
    else
      let s := ([0x44, 0x45, 0x46, 0x47] : List (BitVec 7)).foldl State.masterReset s
      .next (s.withClocks fun c => { c with
        wdtRestarted := vset c.wdtRestarted 1 s.now
        wdtInForce := vset c.wdtInForce 1 (s.rdN 0x3200 0x14) })

/-- `REFCLK_RETURN`: REFCLK present for 10 ms and every PLL locked: the hold ends by a warm start in which the lanes run a
full bring-up (R435). -/
def execRefclkReturn (s : State) : Out1 :=
  let used := (List.finRange 8).filter fun p => pllUsed s.role p
  if !s.clocked || !s.clocks.hold || used.any fun p => !s.clocks.pllLocked[p] then .next s
  else
    let s := (s.pass (10 * ms)).withClocks fun c => { c with hold := false }
    let s := used.foldl State.toPll s
    let s := if s.up then s.beginWarm 19 else s
    .next ((List.finRange 3).foldl (fun (s : State) (p : Fin 3) => s.bringUpPort p) s)

/-- `COOLING_COMPLETE`: 16 rounds below 125 °C: a warm reset with cause 20, or with three trips in the 60 min up to the present
one the device stays latched (R463). -/
def execCoolingComplete (s : State) : Out1 :=
  match s.thermal.phase with
  | .cooling since =>
    let trips := (s.thermal.tripTimes.filter fun t => decide (since < t + 3600 * second)).length
    if !s.up || s.thermal.coolRounds < 16 then .next s
    else if trips < 3 then
      let s := (s.withThermal fun t => { t with phase := .normal }).emit (.pin .thermTripN true)
      .next ((s.raise 0x7104 (0xFF + sat 0xFFFF ((s.now - since) / second) * 256)).beginWarm 20)
    else
      .next ((s.withThermal fun t => { t with phase := .latched }).raise 0x7103 (det 0xFF trips))
  | _ => .next s

end Sys2Proof.Machine
end

