-- ==== Sys2Proof/Machine/Service.lean ====
section
/-! DEFINITION. The service-port engine: frames and answers (R494 to R496), HELLO and OPEN (R497, R498), the refusal states
(R499), staging and verification (R500 to R503), activation, finalizing and rollback (R505, R507, R510, R513), and raw reads
of flash (R496). -/

namespace Sys2Proof.Machine

open Host

/-! ### Frames (Table 18.1) -/

/-- A service frame. -/
def svcFrame (op session tag block off arg status : Nat) (data : List Byte) : List Byte :=
  leBytes 1 1 ++ leBytes 1 op ++ leBytes 2 session ++ leBytes 4 tag ++ leBytes 2 block ++ leBytes 2 off ++ leBytes 4 arg ++
    leBytes 2 data.length ++ leBytes 1 status ++ [0] ++ data

/-- DATA of a frame. -/
def svcData (b : List Byte) : List Byte := slice b 20 (field b 16 2)

/-- Most bytes of DATA on an attachment (R495). -/
def SvcSource.room : SvcSource → Nat
  | .sgmii _ _ => 1020
  | _ => 220

/-- The source as answers are kept by it: the chain is one source. -/
def SvcSource.key : SvcSource → SvcSource
  | .sgmii a p => .sgmii a p
  | _ => .chain

/-- Change the update's bookkeeping. -/
def State.withUpdate (s : State) (f : Update → Update) : State := { s with update := f s.update }

/-- The service-port engine runs: with the control clusters, or in the boot ROM (R506). -/
def State.serviceUp (s : State) : Bool := s.role != .none && (s.up || s.life == .bootRom)

/-- Send a frame: a datagram on SVC SGMII, or a SERVICE cell that a tile originates (R33, R494). -/
def State.sendService (s : State) (src : SvcSource) (b : List Byte) : State :=
  match src with
  | .sgmii a p => s.emit (.service a p b)
  | _ =>
    let tsw := field b 2 2 * 65536 + s.update.frames % 65536
    (s.withUpdate fun u => { u with frames := u.frames + 1 }).originate 5 tsw b

/-- Keep the last answer of a source, empty for a request that gets none (R496). -/
def State.keepAnswer (s : State) (src : SvcSource) (tag : Nat) (b : List Byte) : State :=
  s.withUpdate fun u => { u with answers := (src.key, tag, b) :: u.answers.filter fun a => a.1 != src.key }

/-- The answer to a request: its OP, TAG, BLOCK and OFFSET are echoed. -/
def answerTo (b : List Byte) (session status arg : Nat) (data : List Byte) : List Byte :=
  svcFrame (field b 1 1) session (field b 4 4) (field b 8 2) (field b 10 2) arg status data

/-- Answer a request. -/
def State.svcAnswer (s : State) (src : SvcSource) (b : List Byte) (status arg : Nat) (data : List Byte) : State :=
  let a := answerTo b (s.rdN 0x3100 0x02) status arg data
  (s.keepAnswer src (field b 4 4) a).sendService src a

/-! ### STATE and sessions (R498) -/

/-- Bytes 0 to 3 of event details: the station, 0 on a sender (R517). -/
def State.updDetail (s : State) (v : Nat) : Nat := det (if s.role == .tile then s.station else 0) v

/-- The session or the trial belongs to a wall update. -/
def State.inWall (s : State) (v : Nat) : Bool :=
  (match s.update.record with
    | some r => r.mode == 1 && v < 5
    | none => false) || (s.pointer.mode == 1 && s.pointer.state != 0)

/-- Originate a REPORT: ARG [7:0] STATE as STATUS gives it, and the refusal, if any (Table 18.2). -/
def State.sendReportFrame (s : State) (v status : Nat) : State :=
  if s.isTile && s.station != 0 then s.sendService .chain (svcFrame 12 (s.rdN 0x3100 0x02) 0 0 0 v status []) else s

/-- Set STATE; a tile in a wall session reports a change. -/
def State.updState (s : State) (v : Nat) : State :=
  let changed := s.rdN 0x3100 0x01 != v
  let s := s.wrN 0x3100 0x01 v
  if changed && s.inWall v then s.sendReportFrame v 0 else s

/-- Blocks of a target: bytes over 4,096, rounded up. -/
def SessionRecord.blocks (r : SessionRecord) : Nat := (r.length + 4095) / 4096

/-- Every block is complete. -/
def SessionRecord.full (r : SessionRecord) : Bool := (List.range r.blocks).all r.complete.contains

/-- Publish what the session's objects show (Table 18.9). -/
def State.showRecord (s : State) : State :=
  match s.update.record with
  | none => s
  | some r =>
    ((((s.wrN 0x3100 0x02 r.number).wrN 0x3100 0x04 r.target).wrD 0x3100 0x05 r.digest).wrN 0x3100 0x06 r.blocks).wrN 0x3100 0x07
      r.complete.length

/-- The session ends; its record and blocks stay. -/
def State.endSession (s : State) : State :=
  (s.wrN 0x3100 0x03 0).withUpdate fun u => { u with
    session := none
    ownerProof := false
    gathers := []
    armed := none }

/-- A session is abandoned (R498). -/
def State.abandon (s : State) : State :=
  let n := (s.update.record.map fun r => r.complete.length).getD 0
  ((s.updState 0).endSession).raise 0x9003 (s.updDetail (sat 0xFFFF n))

/-- The session that a frame names: on the chain 0 stands for the tile's own (DEDUCED, log entry 78). -/
def State.sessionOf (s : State) (src : SvcSource) (b : List Byte) : Option SessionRecord :=
  let n := field b 2 2
  match s.update.session, s.update.record with
  | some _, some r => if n = r.number ∨ (n = 0 ∧ src.key = .chain) then some r else none
  | _, _ => none

/-! ### Refusal states (Table 18.4) -/

/-- The device presents: a tile with PRESENTING = 1, or a sender originating video. -/
def State.onAir (s : State) : Bool :=
  s.rdB 0x3100 0x17 &&
    (if s.role == .tile then s.rdB 0x2880 0x0D else !s.ingress.geom.isEmpty && (s.controls 0 || s.controls 1))

/-- Whether a refusal state, by its STATUS, holds; `owner` says that the proof or the context is the owner's. -/
def State.refuses (s : State) (owner : Bool) : Nat → Bool
  | 3 => s.onAir
  | 4 => !s.rdB 0x2E00 0x12
  | 5 => s.rdB 0x3300 0x11 && !owner
  | 6 => !s.windowOpen
  | 7 => s.pointer.state != 0
  | _ => false

/-- The first of some refusal states that holds, 0 for none. -/
def State.refusal (s : State) (owner : Bool) (l : List Nat) : Nat := (l.find? (s.refuses owner)).getD 0

/-- REFUSAL (0x3100:08): the states that hold now. -/
def State.refusalBits (s : State) : Nat :=
  (List.range 5).foldl (fun v n => v + bitAt (s.refuses s.update.ownerProof (3 + n)) n) 0

/-! ### HELLO and OPEN (R497, R498) -/

/-- HELLO: a nonce for one OPEN, and STATE. -/
def State.svcHello (s : State) (src : SvcSource) (b : List Byte) : State :=
  let (n, s) := s.nonce
  let s := s.withUpdate fun u => { u with hello := some (n, s.now) }
  s.svcAnswer src b 0 (s.rdN 0x3100 0x01) (beBytes 16 n.toNat)

/-- The level of an OPEN's proof: none where it is not accepted; whether it is the owner's. -/
def State.openProof (s : State) (src : SvcSource) (b : List Byte) : Option Bool :=
  let arg := field b 12 4
  let d := svcData b
  match src with
  | .sgmii _ _ =>
    match s.update.hello with
    | none => none
    | some (n, t) =>
      let msg := beBytes 16 n.toNat ++ slice d 0 32 ++ leBytes 1 arg
      let proof := d.drop 37
      let key := s.rdD 0x3300 0x0A
      if t + 10 * second ≤ s.now ∨ s.now < s.control.serviceLockedUntil then none
      else if field d 36 1 = 0 then
        if proof.length = 32 ∧ (key = [] ∨ hmacSha256 key msg = proof) then some false else none
      else if field d 36 1 = 1 ∧ s.rdD 0x3300 0x10 ≠ [] ∧ proof.length = 64 ∧ ed25519Verify (s.rdD 0x3300 0x10) proof msg then some true
      else none
  | _ => if 3 ≤ bits arg 15 12 then some (bit arg 16) else none

/-- A failed proof: it counts as a failed LOGIN and may lock the service port out (R384, R497). -/
def State.proofFails (s : State) : State :=
  let r := failAgain s.control.serviceFailures s.now s.control.serviceLockedUntil
  (s.bump 0x3300 0x0B 1).withControl fun k => { k with serviceFailures := r.1, serviceLockedUntil := r.2 }

/-- The status of an OPEN, and the state with its nonce used. -/
def State.openStatus (s : State) (src : SvcSource) (b : List Byte) : Nat × Bool × State :=
  let arg := field b 12 4
  let target := arg % 256
  let d := svcData b
  let length := field d 32 4
  let busy := match s.update.session, s.update.record with
    | some _, some r => if r.digest = slice d 0 32 then 2 else 1
    | _, _ => 0
  let used := s.withUpdate fun u => { u with hello := if src.key = .chain then u.hello else none }
  if busy ≠ 0 then (busy, false, used)
  else
    match s.openProof src b with
    | none => (8, false, used.proofFails)
    | some owner =>
      let r := used.refusal owner [5, 6, 7]
      let boot := s.life == .bootRom && (target != 0 || bit arg 8)
      if r ≠ 0 then (r, false, used)
      else if 3 < target ∨ boot ∨ ((target = 1 ∨ target = 2) ∧ s.rdN 0x2930 0x02 + 1 = target) then (11, false, used)
      else if length = 0 ∨ targetSize target < length then (10, false, used)
      else (0, owner, used)

/-- OPEN: open or resume a session, or refuse it. A new record costs the limiter its 40 bytes. -/
def State.svcOpen (s : State) (src : SvcSource) (b : List Byte) : State :=
  let (status, owner, s) := s.openStatus src b
  if status ≠ 0 then (s.svcAnswer src b status 0 []).raise 0x9002 (s.updDetail status)
  else
    let arg := field b 12 4
    let d := svcData b
    let target := arg % 256
    let mode := bitAt (bit arg 8) 0
    let (r, s) := match s.update.record with
      | some r =>
        if r.target = target ∧ r.digest = slice d 0 32 then ({ r with mode := mode }, s)
        else ({ target := target, mode := mode, digest := slice d 0 32, length := field d 32 4, number := s.update.nextSession,
                complete := [], erased := [], manifest := false }, (s.charge 40))
      | none =>
        ({ target := target, mode := mode, digest := slice d 0 32, length := field d 32 4, number := s.update.nextSession,
           complete := [], erased := [], manifest := false }, (s.charge 40))
    let new := r.number == s.update.nextSession
    let s := s.withUpdate fun u => { u with
      record := some r
      session := some src.key
      ownerProof := owner
      lastRequest := s.now
      gathers := []
      nextSession := if new then (if u.nextSession = 0xFFFF then 1 else u.nextSession + 1) else u.nextSession }
    let source := if src.key = .chain then 2 else 1
    let s := ((s.showRecord).wrN 0x3100 0x03 source).updState 1
    (s.svcAnswer src b 0 0 []).raise 0x9001 (s.updDetail (source + 256 * target))

/-! ### WRITE (R500, R502) -/

/-- Add bytes to a block. -/
def Gather.add (g : Gather) (off : Nat) (d : List Byte) : Gather :=
  { g with bytes := (List.zipIdx d).foldl (fun m e => Sparse.insert m (off + e.2) e.1) g.bytes }

/-- Program a complete block; its region is erased first where it is not, or soon will be (R500). -/
def State.programBlock (s : State) (r : SessionRecord) (n : Nat) (d : List Byte) : Bool × State :=
  let area := targetArea r.target s.inactiveSlot
  let region := n / 16
  let base := area + 0x10000 * region
  let erasing := s.nvm.jobs.any fun j => j.steps.contains (.erase base 0x10000)
  let erase : List FlashStep := if r.erased.contains region || erasing then [] else [.erase base 0x10000]
  s.addJob { prio := if r.target = 0 then 5 else 4, purpose := .block r.number n, steps := erase ++ pageSteps (area + 4096 * n) d }

/-- A block has all its bytes: its CRC, the manifest in block 0 of an image, and its program. The status of its WRITE. -/
def State.blockArrives (s : State) (r : SessionRecord) (n crc : Nat) (d : List Byte) : Nat × State :=
  let s := s.withUpdate fun u => { u with gathers := u.gathers.filter fun g => g.block != n }
  if crc32Nat d ≠ crc then
    (10, (s.bump 0x3100 0x0C 1).raiseLimited 0x9004 0 second fun _ => s.updDetail n)
  else
    let cause := if r.target = 0 ∧ n = 0 then s.manifestCause d r.digest else 0
    if cause ≠ 0 then (12, ((s.updState 0).endSession).raise 0x9101 (s.updDetail cause))
    else
      let r := if r.target = 0 ∧ n = 0 then { r with manifest := true, length := field d 16 4 } else r
      let s := (s.withUpdate fun u => { u with record := some r }).showRecord
      let (ok, s) := s.programBlock r n d
      (if ok then 0 else 11, s)

/-- The status of a WRITE, 0 where it is taken. -/
def State.writeStatus (s : State) (src : SvcSource) (b : List Byte) : Nat × State :=
  let n := field b 8 2
  let off := field b 10 2
  let crc := field b 12 4
  let d := svcData b
  match s.sessionOf src b with
  | none => (11, s)
  | some r =>
    if s.rdN 0x3100 0x01 ≠ 1 then (11, s)
    else if !s.windowOpen then (6, s)
    else
      let l := s.limited (targetArea r.target s.inactiveSlot)
      let s := l.2
      if l.1 then (9, s)
      else if r.blocks ≤ n ∨ 4096 < off + d.length then (10, s)
      else if r.target = 0 ∧ n ≠ 0 ∧ !(r.manifest && r.complete.contains 0) then (11, s)
      else if r.complete.contains n || s.hasJob (fun p => p == .block r.number n) then (0, s)
      else
        let old := s.update.gathers.find? fun g => g.block == n
        if old.isNone ∧ 64 ≤ s.update.gathers.length then (0, s)
        else
          let was : Gather := old.getD { block := n, crc := crc, bytes := [] }
          let g : Gather := Gather.add { was with crc := crc } off d
          if g.bytes.length < 4096 then
            (0, s.withUpdate fun u => { u with gathers := u.gathers.filter (fun x => x.block != n) ++ [g] })
          else s.blockArrives r n crc (g.bytes.map fun e => e.2)

/-- WRITE: answered only with a status that is not 0, and never to 0xFFF (Table 18.2). -/
def State.svcWrite (s : State) (src : SvcSource) (b : List Byte) : State :=
  let (status, s) := s.writeStatus src b
  if status = 0 ∨ src = .chainAll then s.keepAnswer src (field b 4 4) []
  else s.svcAnswer src b status 0 []

/-- A block has been programmed and verified: its bit and that of its region are marked, which costs two bytes (R500). -/
def State.blockDone (s : State) (session n : Nat) : State :=
  match s.update.record.filter fun r => r.number == session with
  | none => s
  | some r =>
    let add (x : Nat) (l : List Nat) : List Nat := if l.contains x then l else (l.filter (· < x)) ++ x :: l.filter (x < ·)
    let r := { r with complete := add n r.complete, erased := add (n / 16) r.erased }
    let s := (s.charge 2).withUpdate fun u => { u with record := some r }
    let s := s.showRecord
    if r.target = 1 ∨ r.target = 2 then
      { s with video := { s.video with colour := { s.video.colour with
        verified := s.video.colour.verified.set! (r.target - 1) false } } }
    else s

/-! ### STATUS, VERIFY and READ -/

/-- The complete-block bitmap from a block, bit 0 of byte 0 first: 1 stands for a complete block (DEDUCED, log entry 78). -/
def SessionRecord.bitmap (r : SessionRecord) (first room : Nat) : List Byte :=
  let n := min room ((r.blocks - first + 7) / 8)
  (List.range n).map fun i =>
    BitVec.ofNat 8 ((List.range 8).foldl (fun v k => v + bitAt (r.complete.contains (first + 8 * i + k)) k) 0)

/-- STATUS: STATE, the blocks complete and their bitmap. -/
def State.svcStatus (s : State) (src : SvcSource) (b : List Byte) : State :=
  let (n, map) := match s.update.record with
    | some r => (r.complete.length, r.bitmap (field b 8 2) src.room)
    | none => (0, [])
  s.svcAnswer src b 0 (s.rdN 0x3100 0x01 + 65536 * n) map

/-- VERIFY: accepted when every block is complete (R503). -/
def State.svcVerify (s : State) (src : SvcSource) (b : List Byte) : State :=
  match s.sessionOf src b with
  | none => s.svcAnswer src b 11 0 []
  | some r =>
    if s.rdN 0x3100 0x01 ≠ 1 ∨ !r.full then s.svcAnswer src b 11 0 []
    else if !s.windowOpen then s.svcAnswer src b 6 0 []
    else ((s.updState 2).startRun 0x3100 0x09).svcAnswer src b 0 0 []

/-- The first part of the staged target that fails verification, if any (R374, R503). -/
def State.failingPart (s : State) (r : SessionRecord) : Option Nat :=
  let slot := s.inactiveSlot
  let whole := s.flash (targetArea r.target slot) r.length
  match r.target with
  | 0 =>
    let parts := partsOf (s.manifest slot)
    (List.range parts.length).find? fun i => match parts[i]? with
      | some p => sha256 (s.partBytes slot p) != p.digest || (p.type == 3 && !microOk (s.partBytes slot p))
      | none => false
  | 3 => if sha256 whole = r.digest ∧ startOk whole then none else some 0
  | _ => if sha256 whole = r.digest ∧ corrCause whole s.window = 0 then none else some 0

/-- Blocks of a part of the staged target. -/
def State.partBlocks (s : State) (r : SessionRecord) (i : Nat) : Nat × Nat :=
  match r.target, (partsOf (s.manifest s.inactiveSlot))[i]? with
  | 0, some p => (p.offset / 4096, (p.offset + p.size + 4095) / 4096)
  | _, _ => (0, r.blocks)

/-- `VERIFY_COMPLETE` (R503): a correction or start-image session that passes ends there. -/
def execVerifyComplete (s : State) : Out1 :=
  match s.update.record with
  | none => .next s
  | some r =>
    if !s.serviceUp || s.rdN 0x3100 0x01 ≠ 2 then .next s
    else match s.failingPart r with
      | none =>
        let s := ((s.wrN 0x3100 0x0B 0xFF).publish 0x3100 0x09 0x0A true).updState 3
        let s := s.raise 0x9103 (s.updDetail r.target)
        .next (if r.target = 0 then s else s.endSession)
      | some i =>
        let (lo, hi) := s.partBlocks r i
        let kept := r.complete.filter fun n => decide (n < lo ∨ hi ≤ n)
        let s := (s.charge 40).withUpdate fun u => { u with record := some { r with complete := kept } }
        let s := ((s.showRecord.wrN 0x3100 0x0B i).publish 0x3100 0x09 0x0A false).updState 1
        .next (s.raise 0x9102 (s.updDetail i))

/-- READ: bytes of a flash area, without session or proof (R488, R496). -/
def State.svcRead (s : State) (src : SvcSource) (b : List Byte) : State :=
  let arg := field b 12 4
  let off := arg % 2 ^ 24
  let area : Option (Nat × Nat) := match arg / 2 ^ 24 with
    | 0 => some (bbArea 0, 0x400000)
    | 1 => s.calCopy.map fun c => (calArea c.2, 0x8000)
    | 2 => some (0x400000, 0x400000)
    | 3 => some (0x800000, 0x400000)
    | 4 => some (startArea, 0x300000)
    | 5 => some (ptrArea 0, 0x2000)
    | _ => none
  match area with
  | none => s.svcAnswer src b 11 0 []
  | some (base, size) =>
    if size ≤ off then s.svcAnswer src b 10 0 []
    else s.svcAnswer src b 0 arg (s.flash (base + off) (min (min (field b 16 2) src.room) (size - off)))

/-! ### Boot-pointer operations (R505, R507, R510, R513, R514) -/

/-- A boot pointer is being written. -/
def State.pointing (s : State) : Bool := s.hasJob fun p => match p with
  | .pointer _ => true
  | _ => false

/-- Activate the verified image: a TRIAL pointer, then a cold reset with cause 6 (R505). -/
def State.activate (s : State) (r : SessionRecord) : State :=
  let p := s.pointer
  let s := s.withUpdate fun u => { u with retiredBefore := s.lamps.retired }
  s.writePointer {
    state := 1, slot := 1 - p.slot, fallback := p.slot, tries := s.rdN 0x3100 0x12, mode := r.mode, seq := 0, digest := r.digest,
    gen := s.rdN 0x3000 0x03 } 1

/-- Keep the answer until the pointer stands. -/
def State.replyLater (s : State) (src : SvcSource) (b : List Byte) : State :=
  s.withUpdate fun u => { u with reply := some (src, b) }

/-- ACTIVATE: with a frame it arms the tile, else it activates at once (R505, R513). -/
def State.svcActivate (s : State) (src : SvcSource) (b : List Byte) : State :=
  let d := svcData b
  let st := s.rdN 0x3100 0x01
  match s.sessionOf src b with
  | none => s.svcAnswer src b 11 0 []
  | some r =>
    if r.target ≠ 0 ∨ !(st = 3 ∨ st = 4) then s.svcAnswer src b 11 0 []
    else
      let no := s.refusal s.update.ownerProof [3, 4, 5, 6]
      if no ≠ 0 then (s.svcAnswer src b no 0 []).raise 0x9201 (s.updDetail no)
      else if d = [] then (s.activate r).replyLater src b
      else ((s.withUpdate fun u => { u with armed := some (field d 0 8) }).updState 4).svcAnswer src b 0 0 []

/-- CANCEL disarms (R513). -/
def State.svcCancel (s : State) (src : SvcSource) (b : List Byte) : State :=
  let st := s.rdN 0x3100 0x01
  if st = 4 then ((s.withUpdate fun u => { u with armed := none }).updState 3).svcAnswer src b 0 0 []
  else s.svcAnswer src b (if st = 3 then 0 else 11) 0 []

/-- The pointer that ends an update: ACTIVE to its slot. -/
def BootPointer.final (p : BootPointer) : BootPointer := { p with state := 0, fallback := 0xFF, tries := 0 }

/-- FINALIZE under a CONFIRMED pointer; OK where it is already ACTIVE (R514). -/
def State.svcFinalize (s : State) (src : SvcSource) (b : List Byte) : State :=
  match s.pointer.state with
  | 0 => s.svcAnswer src b 0 0 []
  | 2 =>
    if !s.windowOpen then s.svcAnswer src b 6 0 []
    else (s.writePointer s.pointer.final 3).replyLater src b
  | _ => s.svcAnswer src b 11 0 []

/-- The programs that take MAGIC from every settings generation above the pointer's (R510). -/
def State.revertSettings (s : State) : List FlashStep :=
  (List.range 2).filterMap fun c => match s.setGen c with
    | some g => if s.pointer.gen < g.gen then some (.program (settingsArea c) [0, 0, 0, 0]) else none
    | none => none

/-- A revert by ROLLBACK: the settings, the pointer, then a cold reset with cause 6 (R510). -/
def State.rollback (s : State) : State :=
  let p := s.pointer
  let steps := s.revertSettings
  let s := if steps.isEmpty then s else (s.addJob { prio := 1, purpose := .settings 0 4, steps := steps }).2
  (s.raise 0x9204 (s.updDetail 4)).writePointer { p.final with slot := p.fallback % 2, digest := manifestDigest (s.manifest (p.fallback % 2)) } 1

/-- ROLLBACK: answered OK once the old image is in force (R510, R514). -/
def State.svcRollback (s : State) (src : SvcSource) (b : List Byte) : State :=
  if s.pointer.state = 0 then s.svcAnswer src b 0 0 []
  else if !s.windowOpen then s.svcAnswer src b 6 0 []
  else s.rollback

/-- CLOSE abandons the session (R498). -/
def State.svcClose (s : State) (src : SvcSource) (b : List Byte) : State :=
  match s.sessionOf src b with
  | none => s.svcAnswer src b 11 0 []
  | some _ => (s.svcAnswer src b 0 0 []).abandon

/-! ### A request -/

/-- Take a request of an operation: a repeated TAG is answered from its source's last answer; a boot-pointer write in progress
holds the operations that write one (R496). -/
def State.service (s : State) (op : Nat) (src : SvcSource) (b : List Byte) : State :=
  if !s.serviceUp || field b 0 1 != 1 || field b 1 1 != op then s
  else
    let s := if s.update.session == some src.key then s.withUpdate fun u => { u with lastRequest := s.now } else s
    let last := s.update.answers.find? fun a => a.1 == src.key
    match last with
    | some (_, tag, a) =>
      if tag = field b 4 4 then (if a = [] then s else s.sendService src a) else go s
    | none => go s
where
  go (s : State) : State :=
    if s.pointing && [6, 8, 9].contains op then s
    else match op with
      | 1 => s.svcHello src b
      | 2 => s.svcOpen src b
      | 3 => s.svcWrite src b
      | 4 => s.svcStatus src b
      | 5 => s.svcVerify src b
      | 6 => s.svcActivate src b
      | 7 => s.svcCancel src b
      | 8 => s.svcFinalize src b
      | 9 => s.svcRollback src b
      | 10 => s.svcClose src b
      | 11 => s.svcRead src b
      | _ => s

/-- `HELLO`. -/
def execServiceHello (src : SvcSource) (frame : List Byte) (s : State) : Out1 := .next (s.service 1 src frame)

/-- `OPEN`. -/
def execServiceOpen (src : SvcSource) (frame : List Byte) (s : State) : Out1 := .next (s.service 2 src frame)

/-- `SERVICE_WRITE`. -/
def execServiceWrite (src : SvcSource) (frame : List Byte) (s : State) : Out1 := .next (s.service 3 src frame)

/-- `SERVICE_STATUS`. -/
def execServiceStatus (src : SvcSource) (frame : List Byte) (s : State) : Out1 := .next (s.service 4 src frame)

/-- `SERVICE_VERIFY`. -/
def execServiceVerify (src : SvcSource) (frame : List Byte) (s : State) : Out1 := .next (s.service 5 src frame)

/-- `SERVICE_ACTIVATE`. -/
def execServiceActivate (src : SvcSource) (frame : List Byte) (s : State) : Out1 := .next (s.service 6 src frame)

/-- `SERVICE_CANCEL`. -/
def execServiceCancel (src : SvcSource) (frame : List Byte) (s : State) : Out1 := .next (s.service 7 src frame)

/-- `SERVICE_FINALIZE`. -/
def execServiceFinalize (src : SvcSource) (frame : List Byte) (s : State) : Out1 := .next (s.service 8 src frame)

/-- `SERVICE_ROLLBACK`. -/
def execServiceRollback (src : SvcSource) (frame : List Byte) (s : State) : Out1 := .next (s.service 9 src frame)

/-- `SERVICE_CLOSE`. -/
def execServiceClose (src : SvcSource) (frame : List Byte) (s : State) : Out1 := .next (s.service 10 src frame)

/-- `SERVICE_READ`. -/
def execServiceRead (src : SvcSource) (frame : List Byte) (s : State) : Out1 := .next (s.service 11 src frame)

/-- `SERVICE_CELL_RECEIVE`: a tile deduplicates a SERVICE cell and delivers it to its service-port engine alone (R121, R132). -/
def execServiceCellReceive (port : Fin 2) (r : RxCell) (s : State) : Out1 :=
  let s := s.arrive port r
  if r.cell.type ≠ 5 then .next s
  else
    let (new, s) := s.admitCell r
    if !new then .next s
    else .next (s.service (byteAt r.cell.data 1).toNat (if r.cell.dest = s.station then .chain else .chainAll) r.cell.data)

/-- `SESSION_IDLE_TIMEOUT`: 60 s without a request (R498). -/
def execSessionIdleTimeout (s : State) : Out1 :=
  if s.update.session.isNone then .next s else .next ((s.until_ (s.update.lastRequest + 60 * second)).abandon)

/-- `HELLO_NONCE_EXPIRY`: a nonce lapses 10 s after it was issued (R497). -/
def execHelloNonceExpiry (s : State) : Out1 :=
  match s.update.hello with
  | some (_, t) => .next ((s.until_ (t + 10 * second)).withUpdate fun u => { u with hello := none })
  | none => .next s

/-- `WALL_ACTIVATE_AT_FRAME`: at T_frame(F) an armed tile checks R499 again and activates, or stays and reports (R513). -/
def execWallActivateAtFrame (s : State) : Out1 :=
  match s.update.armed, s.update.record with
  | some f, some r =>
    let s := (s.untilWall (s.tFrame f)).withUpdate fun u => { u with armed := none }
    let no := s.refusal s.update.ownerProof [3, 4, 5, 6]
    if no = 0 then .next (s.activate { r with mode := 1 })
    else .next (((s.wrN 0x3100 0x01 3).sendReportFrame 3 no).raise 0x9201 (s.updDetail no))
  | _, _ => .next s

/-! ### Confirmation (R507 to R510) -/

/-- Write the pointer that confirms a trial: ACTIVE standalone, CONFIRMED in a wall update (R507). -/
def State.confirm (s : State) : State :=
  let p := s.pointer
  s.writePointer (if p.mode = 0 then p.final else { p with state := 2 }) 2

/-- A write of CONFIRM by a context (R507). -/
def State.confirmWrite (s : State) (v : Int) : Nat × State :=
  if v = 0 then (0, s)
  else if s.pointer.state ≠ 1 || s.rdB 0x3100 0x15 || s.pointing then (abState, s)
  else if !s.windowOpen then (abCannot, s)
  else (0, s.confirm)

/-- What of R508 the state shows: the migration is done, no scaler has been retired since the activation, and the role's own
conditions hold. -/
def State.selfTestOk (s : State) : Bool :=
  s.update.migrated && (s.lamps.retired &&& ~~~s.update.retiredBefore) == 0 &&
  (if s.role == .tile then
    s.quartz.state == .locked && (List.finRange 64).all fun (p : Fin 64) => !s.lamps.port[p].on || s.rdN (0x2A00 + p) 0x0A == 3
  else
    (s.quartz.state == .locked || s.quartz.state == .holdover) &&
      (List.finRange 2).all fun (p : Fin 2) => !s.portEnabled p || s.portUp p)

/-- `SELF_TEST_PASS`: under AUTO_CONFIRM the image confirms its trial (R507, R508). -/
def execSelfTestPass (s : State) : Out1 :=
  if s.up && s.pointer.state == 1 && s.rdB 0x3100 0x15 && !s.pointing && s.selfTestOk then .next s.confirm else .next s

/-- `CONFIRMATION_TIMEOUT`: 120 s from the release without confirmation: a cold reset with cause 6 (R507). -/
def execConfirmationTimeout (s : State) : Out1 :=
  match s.update.confirmAt with
  | some t => .next ((s.until_ t).beginCold 6)
  | none => .next s

/-- A write of ROLLBACK_NOW (R510). -/
def State.rollbackWrite (s : State) (v : Int) : Nat × State :=
  if v = 0 then (0, s)
  else if s.pointer.state = 0 || s.pointing then (abState, s)
  else if !s.windowOpen then (abCannot, s)
  else (0, s.rollback)

/-- A write of FINALIZE_NOW (R510). -/
def State.finalizeWrite (s : State) (v : Int) : Nat × State :=
  if v = 0 then (0, s)
  else if s.pointer.state ≠ 2 || s.pointing then (abState, s)
  else if !s.windowOpen then (abCannot, s)
  else (0, s.writePointer s.pointer.final 3)

/-- A boot pointer has been written and verified: what follows it, and the answer that waited (R505, R507, R510, R514). -/
def State.pointerDone (s : State) (next : Nat) : State :=
  let s := match s.update.reply with
    | some (src, b) => (s.withUpdate fun u => { u with reply := none }).svcAnswer src b 0 0 []
    | none => s
  let p := s.pointer
  match next with
  | 1 => s.beginCold 6
  | 2 =>
    let s := (s.withUpdate fun u => { u with confirmAt := none }).raise 0x9203 (s.updDetail p.slot)
    if p.state = 2 then s.updState 6 else (s.updState 0).raise 0x9205 (s.updDetail p.slot)
  | 3 => (s.updState 0).raise 0x9205 (s.updDetail p.slot)
  | _ => s

end Sys2Proof.Machine
end

