-- ==== Sys2Proof/Machine/WallUpdate.lean ====
section
/-! DEFINITION. The wall-update coordinator of a control sender: staging, the arm, and the end of an update (R496, R512 to
R515). -/

namespace Sys2Proof.Machine

open Host

/-- Change the coordinator's record. -/
def State.withWu (s : State) (f : WallUpdate → WallUpdate) : State := s.withUpdate fun u => { u with wu := f u.wu }

/-- WU_STATE. -/
def State.wuState (s : State) : Nat := s.rdN 0x3100 0x36

/-- The chain ports that WU_CHAINS names. -/
def State.wuPorts (s : State) : List (Fin 2) := (List.finRange 2).filter fun (p : Fin 2) => bit (s.rdN 0x3100 0x30) p

/-- This sender coordinates: it controls every named chain. -/
def State.coordinates (s : State) : Bool := s.isSender && !s.wuPorts.isEmpty && s.wuPorts.all fun p => s.leads p

/-- The next TAG of a request. -/
def State.takeTag (s : State) : Nat × State :=
  (s.update.nextTag, s.withUpdate fun u => { u with nextTag := (u.nextTag + 1) % 2 ^ 32 })

/-- Originate a service frame on a chain (R494). -/
def State.svcCell (s : State) (p : Fin 2) (dest : Nat) (b : List Byte) : State :=
  let tsw := field b 2 2 * 65536 + s.update.frames % 65536
  (s.withUpdate fun u => { u with frames := u.frames + 1 }).originateChain p 5 dest tsw b

/-- Broadcast a frame on every named chain. -/
def State.wuBroadcast (s : State) (b : List Byte) : State := s.wuPorts.foldl (fun s p => s.svcCell p 0xFFF b) s

/-- Broadcast a request with a TAG of its own. -/
def State.wuCommand (s : State) (op : Nat) (data : List Byte) : State :=
  let (tag, s) := s.takeTag
  s.wuBroadcast (svcFrame op 0 tag 0 0 0 0 data)

/-- The chain port of a station's chain. -/
def chainPort (chain : Nat) : Fin 2 := if chain = 0 then 0 else 1

/-- Ask a station with STATUS for its bitmap from a block; the request waits for its answer (R496). -/
def State.wuStatusFrom (s : State) (e : Nat × Nat) (block : Nat) : State :=
  let (tag, s) := s.takeTag
  let q : SvcRequest :=
    { tag := tag, chain := e.1, station := e.2, frame := svcFrame 4 0 tag block 0 0 0 [], sentAt := s.now }
  let s := s.withUpdate fun u => { u with requests := (u.requests.filter fun r => !(r.chain == e.1 && r.station == e.2)) ++ [q] }
  s.svcCell (chainPort e.1) e.2 q.frame

/-- Poll a station with STATUS (R496). -/
def State.wuStatus (s : State) (e : Nat × Nat) : State := s.wuStatusFrom e 0

/-- Poll every station. -/
def State.wuPollAll (s : State) : State := s.update.wu.stations.foldl State.wuStatus s

/-- The OPEN of a wall update: MODE 1, with the level and owner flag of the context that started it (R497). -/
def State.wuOpen (s : State) : State :=
  let w := s.update.wu
  s.wuBroadcast (svcFrame 2 0 w.openTag 0 0 (256 + w.level * 4096 + bitAt w.owner 16) 0 (padTo 32 w.digest ++ leBytes 4 w.length))

/-- A block in WRITE frames: to every tile of the named chains, or to one station (R512). -/
def State.wuBlock (s : State) (n : Nat) (one : Option (Nat × Nat)) : State :=
  let d := s.flash (imageArea s.update.wu.slot + 4096 * n) 4096
  let crc := crc32Nat d
  (List.range 19).foldl (fun s i =>
    let (tag, s) := s.takeTag
    let b := svcFrame 3 0 tag n (220 * i) crc 0 (slice d (220 * i) (min 220 (4096 - 220 * i)))
    match one with
    | none => s.wuBroadcast b
    | some e => s.svcCell (chainPort e.1) e.2 b) s

/-- The record that a coordinator copies to the other sender of a chain (R515): operation 9 of a MGMT unit with the chain number,
WU_STATE, the stage, slot, level and owner flag, F, the length, the digest and a bitmap of the stations done (DESIGN CHOICE, log entry 38). -/
def State.wuShare (s : State) : State :=
  let w := s.update.wu
  s.wuPorts.foldl (fun (s : State) (p : Fin 2) =>
    let done := (List.range 32).map fun i =>
      BitVec.ofNat 8 ((List.range 8).foldl (fun v k => v + bitAt (w.done.contains (p.1, 8 * i + k)) k) 0)
    s.sendMgmtUnit s.ports[p].peer 9 (leBytes 1 (s.chainNo p) ++ leBytes 1 s.wuState ++ leBytes 1 w.stage ++ leBytes 1 w.slot ++
      leBytes 1 w.level ++ leBytes 1 (bitAt w.owner 0) ++ leBytes 8 (s.rdN 0x3100 0x32) ++ leBytes 4 w.length ++
      padTo 32 w.digest ++ done)) s

/-- Set WU_STATE and copy the record (R515). -/
def State.setWu (s : State) (v : Nat) : State := (s.wrN 0x3100 0x36 v).wuShare

/-- The stations of the stored topology of the named chains (R139, R512). -/
def State.wuStations (s : State) : List (Nat × Nat) :=
  s.wuPorts.flatMap fun (p : Fin 2) => ((entriesOf (s.rdD (0x2200 + p) 0x0A)).filter fun e => e.2.1 != 0).map fun e => (p.1, e.2.1)

/-- Stations that have not completed the present step: WU_LAGGARDS. -/
def WallUpdate.late (w : WallUpdate) : List (Nat × Nat) := w.stations.filter fun e => !w.done.contains e

/-- The bytes of WU_LAGGARDS: chain number and station. -/
def State.laggards (s : State) : List Byte :=
  s.update.wu.late.flatMap fun e => leBytes 1 (s.chainNo (if e.1 = 0 then 0 else 1)) ++ leBytes 1 e.2

/-- The other sender's copy of a record (R515): staging resumes with a round of STATUS. -/
def State.takeWu (s : State) (p : Fin 2) (d : List Byte) : State :=
  let st := field d 1 1
  let stations := ((entriesOf (s.rdD (0x2200 + p) 0x0A)).filter fun e => e.2.1 != 0).map fun e => (p.1, e.2.1)
  let done := stations.filter fun e => bit (leNat (slice d 50 32)) e.2
  let s := ((s.wrN 0x3100 0x36 st).wrN 0x3100 0x32 (field d 6 8)).wrN 0x3100 0x30 (s.rdN 0x3100 0x30 ||| 2 ^ p.1)
  s.withWu fun w => { w with
    stations := (w.stations.filter fun e => e.1 != p.1) ++ stations
    done := (w.done.filter fun e => e.1 != p.1) ++ done
    stage := if st = 1 then max 2 (field d 2 1) else field d 2 1
    slot := field d 3 1
    level := field d 4 1
    owner := field d 5 1 != 0
    length := field d 14 4
    digest := slice d 18 32
    startedAt := s.now }

/-! ### Ends of an update -/

/-- Publish the update's end (Table 18.9). -/
def State.wuEnd (s : State) (v : Nat) (ok : Bool) : State :=
  ((s.withWu fun w => { w with
    closing := none
    failed := false }).setWu v).publish 0x3100 0x38 0x39 ok

/-- Staging or the arm has failed: event 0x9304 names the first failing station (R512, R513). -/
def State.wuFail (s : State) (e : Nat × Nat) (op : Nat) : State :=
  ((s.wuCommand op []).wuEnd 7 false).raise 0x9304 (det 0 e.2)

/-- Repeat FINALIZE or ROLLBACK until every station has answered it (R514). -/
def State.wuClose (s : State) (finalize : Bool) : State :=
  (s.withWu fun w => { w with
    closing := some finalize
    done := [] }).wuCommand (if finalize then 8 else 9) []

/-- The wall rolls back after F: event 0x9304 names the first such station (R514). -/
def State.wuRollback (s : State) (e : Nat × Nat) : State := (s.wuClose false).raise 0x9304 (det 0 e.2)

/-! ### WU_START (R512 to R514) -/

/-- A write of WU_START by a context: 1 stage, 2 arm, 3 abort. -/
def State.wuStart (s : State) (level : Nat) (owner : Bool) (v : Int) : Nat × State :=
  let st := s.wuState
  let source := s.rdN 0x3100 0x33
  let slot := if source = 0 then s.inactiveSlot else s.pointer.slot
  if !s.coordinates then (abState, s)
  else match v.toNat with
    | 1 =>
      let verified := source == 1 || (s.rdN 0x3100 0x01 == 3 && s.rdN 0x3100 0x04 == 0)
      if !verified || (1 ≤ st && st ≤ 4) || s.update.wu.closing.isSome then (abState, s)
      else
        let m := s.manifest slot
        let (tag, s) := s.takeTag
        let s := s.withWu fun _ => { WallUpdate.idle with
          stations := s.wuStations
          openTag := tag
          opens := 1
          digest := manifestDigest m
          length := field m 16 4
          slot := slot
          level := level
          owner := owner }
        (0, ((s.startRun 0x3100 0x38).setWu 1).wuOpen)
    | 2 =>
      let f := s.rdN 0x3100 0x32
      let t := s.tFrame f
      let w := s.quartz.wall
      if st ≠ 2 ∨ t < w + 2 * second * subNs ∨ w + 600 * second * subNs < t then (abState, s)
      else
        let s := (s.withWu fun w => { w with done := [] }).setWu 3
        (0, (s.wuCommand 6 (leBytes 8 f)).raise 0x9302 (det 0 f))
    | _ =>
      let e : Nat × Nat := (0, 0)
      if st = 1 ∨ st = 2 then (0, s.wuFail e 10)
      else if st = 3 then (0, s.wuFail e 7)
      else if st = 4 ∧ s.update.wu.closing.isNone then (0, s.wuRollback e)
      else (abState, s)

/-! ### Answers and reports -/

/-- A station has completed the present step. -/
def State.wuDone (s : State) (e : Nat × Nat) : State :=
  s.withWu fun w => { w with done := if w.done.contains e ∨ !w.stations.contains e then w.done else w.done ++ [e] }

/-- A station's STATE. -/
def State.wuReported (s : State) (e : Nat × Nat) (v : Nat) : State :=
  s.withWu fun w => { w with reported := (e, v) :: w.reported.filter fun r => r.1 != e }

/-- The next step of staging once every station has done the present one (R512). -/
def State.wuStep (s : State) : State :=
  let w := s.update.wu
  if s.wuState = 1 ∧ w.late = [] then
    match w.stage with
    | 0 => s.withWu fun w => { w with
        stage := 1
        done := []
        nextBlock := 0 }
    | 2 =>
      let s := s.withUpdate fun u => { u with requests := [] }
      (s.withWu fun w => { w with
        stage := 3
        done := [] }).wuCommand 5 []
    | 3 => (s.setWu 2).raise 0x9301 (det 0 w.stations.length)
    | _ => s
  else s

/-- A STATUS answer: the blocks that a station lacks are sent to it alone; its STATE counts towards the step (R512, R514). -/
def State.wuTakeStatus (s : State) (e : Nat × Nat) (b : List Byte) : State :=
  let w := s.update.wu
  let st := field b 12 1
  let total := (w.length + 4095) / 4096
  let s := s.wuReported e st
  if s.wuState = 1 ∧ w.stage = 2 then
    let map := svcData b
    let first := field b 8 2
    let lacks := (List.range (min total (first + 8 * map.length))).filter fun n =>
      decide (first ≤ n) && !bit (byteAt map ((n - first) / 8)).toNat ((n - first) % 8)
    if total ≤ field b 14 2 then (s.wuDone e).wuStep
    else
      let s := if first + 8 * map.length < total then s.wuStatusFrom e (first + 8 * map.length) else s
      lacks.foldl (fun s n => s.wuBlock n (some e)) s
  else if s.wuState = 1 ∧ w.stage = 3 then
    if st = 3 then (s.wuDone e).wuStep
    else if st = 1 then s.wuFail e 10
    else s
  else if s.wuState = 4 ∧ w.closing = none ∧ st = 6 then s.wuDone e
  else s

/-- A station's answer or REPORT at the coordinator (R496, R512 to R514). A STATUS answer counts only where its request waits for
it: one asked before VERIFY says nothing of the verification. -/
def State.wuTake (s : State) (p : Fin 2) (station : Nat) (b : List Byte) : State :=
  let e : Nat × Nat := (p.1, station)
  let ok := field b 18 1 == 0
  let mine (q : SvcRequest) : Bool := q.tag == field b 4 4 && q.chain == p.1 && q.station == station
  let asked := s.update.requests.any mine
  let s := s.withUpdate fun u => { u with requests := u.requests.filter fun q => !mine q }
  let w := s.update.wu
  if !s.coordinates || field b 0 1 != 1 then s
  else match field b 1 1 with
    | 2 => if ok && s.wuState == 1 && w.stage == 0 then (s.wuDone e).wuStep else s
    | 4 => if asked then s.wuTakeStatus e b else s
    | 6 => if ok && s.wuState == 3 then s.wuDone e else s
    | 8 => if ok && w.closing == some true then s.wuDone e else s
    | 9 => if ok && w.closing == some false then s.wuDone e else s
    | 12 =>
      let st := field b 12 1
      let s := s.wuReported e st
      if s.wuState = 4 ∧ w.closing = none then
        if st = 6 then s.wuDone e else if st < 4 then s.wuRollback e else s
      else s
    | _ => s

/-- `SERVICE_REPORT`: a tile's REPORT, as the coordinator terminates it (R512, R514). -/
def execServiceReport (p : Fin 2) (station : Nat) (frame : List Byte) (s : State) : Out1 :=
  if field frame 1 1 = 12 then .next (s.wuTake p station frame) else .next s

/-! ### The coordinator's clock -/

/-- `WU_STAGE`'s pace, `WU_WRITE_PACE`: the next block is broadcast; after the last one the repair rounds begin (R512). -/
def execWuWritePace (s : State) : Out1 :=
  let w := s.update.wu
  if !s.coordinates || s.wuState != 1 || w.stage != 1 then .next s
  else
    let s := s.pass (second / max 1 (s.rdN 0x3100 0x34))
    let s := s.wuBlock w.nextBlock none
    if (w.nextBlock + 1) * 4096 < w.length then .next (s.withWu fun w => { w with nextBlock := w.nextBlock + 1 })
    else .next (s.withWu fun w => { w with
      stage := 2
      rounds := 1
      done := [] }).wuPollAll

/-- `WU_POLL`: once a second the coordinator polls the stations and goes on, ends the update, or repeats its last command
(R512, R514). -/
def execWuPoll (s : State) : Out1 :=
  if !s.coordinates then .next s
  else
    let s := s.pass second
    let w := s.update.wu
    match w.closing with
    | some fin =>
      if w.late = [] then
        if fin then .next ((s.wuEnd 5 true).raise 0x9303 (det 0 w.stations.length))
        else .next (s.wuEnd (if w.failed then 7 else 6) false)
      else .next (s.wuCommand (if fin then 8 else 9) [])
    | none =>
      match s.wuState, w.stage with
      | 1, 0 =>
        match w.late with
        | [] => .next s.wuStep
        | e :: _ =>
          if 3 ≤ w.opens then .next (s.wuFail e 10)
          else .next (s.withWu fun w => { w with opens := w.opens + 1 }).wuOpen
      | 1, 2 =>
        match w.late with
        | [] => .next s.wuStep
        | e :: _ =>
          if 5 ≤ w.rounds then .next (s.wuFail e 10)
          else .next (w.late.foldl State.wuStatus (s.withWu fun w => { w with rounds := w.rounds + 1 }))
      | 1, _ => .next s.wuPollAll
      | 2, _ => .next s.wuPollAll
      | 4, _ =>
        if w.late = [] then .next (s.wuClose true)
        else match w.reported.find? fun r => r.2 < 4 with
          | some r => .next (s.wuRollback r.1)
          | none => .next s.wuPollAll
      | _, _ => .next s

/-- `WU_ACTIVATE_BROADCAST`: every 100 ms while the update is armed. From 200 ms before F either all stations are armed, or CANCEL
is broadcast until 50 ms before F and the update fails; a tile that misses it is rolled back (R513). -/
def execWuActivateBroadcast (s : State) : Out1 :=
  if !s.coordinates || s.wuState != 3 then .next s
  else
    let s := s.pass (100 * ms)
    let f := s.rdN 0x3100 0x32
    let t := s.tFrame f
    let w := s.update.wu
    let now := s.quartz.wall
    match w.late with
    | [] =>
      if now < t then .next s
      else .next ((s.withWu fun w => { w with
        done := []
        reported := []
        startedAt := s.now }).setWu 4)
    | e :: _ =>
      if now + 200 * ms * subNs < t then .next (s.wuCommand 6 (leBytes 8 f))
      else if now + 50 * ms * subNs < t then .next (s.wuCommand 7 [])
      else
        let s := (s.setWu 7).raise 0x9304 (det 0 e.2)
        .next ((s.wuClose false).withWu fun w => { w with failed := true })

/-- `WU_CONFIRM_WAIT_EXPIRY`: a station is not CONFIRMED when WU_CONFIRM_WAIT expires (R514). -/
def execWuConfirmWaitExpiry (s : State) : Out1 :=
  if !s.coordinates || s.wuState != 4 || s.update.wu.closing.isSome then .next s
  else
    let s := s.until_ (s.update.wu.startedAt + s.rdN 0x3100 0x35 * second)
    match s.update.wu.late with
    | [] => .next (s.wuClose true)
    | e :: _ => .next (s.wuRollback e)

/-- `SERVICE_REQUEST_RETRY`: no answer within 100 ms: the request goes again with the same TAG (R496). -/
def execServiceRequestRetry (tag : Nat) (s : State) : Out1 :=
  match s.update.requests.find? fun q => q.tag == tag with
  | none => .next s
  | some q =>
    if s.coordinates then
      let s := s.until_ (q.sentAt + 100 * ms)
      let s := s.withUpdate fun u => { u with requests := u.requests.map fun r =>
        if r.tag = tag then { r with sentAt := s.now } else r }
      .next (s.svcCell (chainPort q.chain) q.station q.frame)
    else .next s

end Sys2Proof.Machine
end

