-- ==== Sys2Proof/Machine/RegionMap.lean ====
section
/-! DEFINITION. The region map in a sender: its activation across the cascade (R67, R74 to R76), what the control sender
derives for each tile (R75, R224, R250), frame-control cells (R250), and frustum records (R337). -/

namespace Sys2Proof.Machine

open Host

/-! ### Validation (R67) -/

/-- Video cells per second that a chain port carries: 62 of 64 slots of its payload (R119); while it is down, those of its
target lanes at its highest rate. -/
def State.videoShare (s : State) (p : Fin 2) : Nat :=
  let l := s.lanes.link[(if p = 0 then (0 : Fin 4) else 1)]
  let mbit := if l.phase = .up then lanesIn l.txSet * lanePayload l.rate
    else s.rdN (0x2100 + p) 0x07 * lanePayload (s.rdN (0x2100 + p) 0x03)
  mbit * 1000000 / 2048 * 62 / 64

/-- What validation knows of this sender. -/
def State.mapContext (s : State) : MapContext where
  stream n := (s.streamOn n, s.rdN (0x2400 + n) 0x04, s.rdN (0x2400 + n) 0x05, s.rdN (0x2400 + n) 0x08)
  ports := ((List.finRange 2).filter fun p => s.chainNo p != 0).map fun p => (s.chainNo p, s.videoShare p)
  num := s.quartz.set.num
  den := s.quartz.set.den

/-- Validate a map, and hold the cause and region of a refusal (R67, R76). -/
def State.validateMap (s : State) (geom regions : List Byte) : Nat × Nat × State :=
  let (c, r) := mapRefusal s.mapContext geom regions
  let s := (s.wrN 0x2500 0x05 c).wrN 0x2500 0x06 r
  (c, r, s.raiseIf (c != 0) 0x5006 (det r c))

/-! ### What the control sender derives (R75, R224) -/

/-- COLORIMETRY, TCS and SAMPLING of a stream, as a binding carries them (R55, Table 8.1). -/
def State.streamColour (s : State) (n : Nat) : Nat :=
  s.rdN (0x2400 + n) 0x0D + s.rdN (0x2400 + n) 0x0E * 16 + s.rdN (0x2400 + n) 0x08 * 256

/-- The binding of a region at a station (Table 8.1). -/
def State.bindingOf (s : State) (g : Geom) (r : Region) : List Byte :=
  let i32 (v : Int) : List Byte := leBytes 4 (v % 2 ^ 32).toNat
  leBytes 4 (r.id + 256 + r.fmt * 512 + bitAt r.slate 13) ++ leBytes 4 (r.input.1 + r.input.2 * 65536) ++ leBytes 4 r.dstW ++
    leBytes 4 r.dstH ++ i32 ((g.x0 : Int) - r.dstX) ++ i32 ((g.y0 : Int) - r.dstY) ++
    leBytes 4 (s.streamColour r.src) ++ List.replicate 4 0

/-- HSET or VSET that the control sender writes for the bindings of a layer: set 1 when the axis reduces, else set 0 (R233).
Where the slots of a layer differ, one that reduces decides (DESIGN CHOICE, log entry 82). -/
def coefSetFor (bs : List LayerBind) (size : LayerBind → Nat × Nat) : Nat :=
  if bs.any fun b => b.valid && decide ((size b).1 < (size b).2) then 1 else 0

/-- The writes for one station, after STAGE_GEN: bindings, coefficient sets, WINDOW, DITHER_ORIGIN and the group membership,
which has the index 0x0000 that no object holds (DESIGN CHOICE, log entry 22). -/
def State.stationWrites (s : State) (chain station gen : Nat) (geom regions : List Byte) (groups : List (List Nat)) :
    List (Nat × Nat × List Byte) :=
  let g := geomOf geom chain station
  let rs := validRegions regions
  let bind (n k : Nat) : List Byte :=
    match rs.find? fun r => r.layer == n && bit r.slots k && (r.need g).isSome with
    | some r => s.bindingOf g r
    | none => List.replicate 32 0
  let layers := (List.range 8).flatMap fun n =>
    let bs := (List.range 4).map fun k => bindOf (bind n k)
    [(0x2800 + n, 0x03, leBytes 1 (coefSetFor bs fun b => (b.dstW, b.wIn))),
     (0x2800 + n, 0x04, leBytes 1 (coefSetFor bs fun b => (b.dstH, b.hIn)))] ++
      (List.range 4).map fun k => (0x2800 + n, 0x10 + k, bind n k)
  [(0x2880, 0x01, leBytes 2 gen)] ++ layers ++
    [(0x2880, 0x0E, leBytes 4 (g.w + g.h * 65536)), (0x2900, 0x05, leBytes 8 (g.x0 + g.y0 * 2 ^ 32)),
      (0x0000, 0x01, (membership groups station).flatMap (leBytes 2))]

/-- The control sender begins the commit of a chain: STAGE_GEN and BLEND_SPACE, which are the same at every tile, as broadcast
writes, then the staged objects of every station, with STAGE_GEN again, whose transactions tell which tiles have them all (R75,
R250, R269, R401; DEDUCED, log entry 123). -/
def State.beginCommit (s : State) (p : Fin 2) (m : MapPending) : State :=
  if !s.controls p then s
  else
    let chain := s.chainNo p
    let gen := (s.ingress.genInForce[p].1 + 1) % 65536
    let groups := groupSets m.geom m.regions chain
    let st := presentStations m.geom chain
    let writes (n : Nat) := s.stationWrites chain n gen m.geom m.regions groups
    let c : ChainCommit := {
      frame := m.frame, gen := gen, mapGen := m.gen, stations := [], waiting := st.map fun n => (n, (writes n).length)
      abort := false, sent := 0 }
    let s := s.withIngress fun g => { g with commit := vset g.commit p (some c) }
    let s := (s.broadcastWrite p 0x2880 0x01 (leBytes 2 gen)).broadcastWrite p 0x2900 0x01 (leBytes 1 s.ingress.blend)
    st.foldl (fun s n => (writes n).foldl (fun s w => s.ownWrite p n w.1 w.2.1 w.2.2) s) s

/-- What a sender derives for its tiles beside the map: BLEND_SPACE, and the colours of the streams in use (R55, R75, R269). -/
def State.derived (s : State) : Nat × Vector Nat 32 :=
  (s.ingress.blend, Vector.ofFn fun n : Fin 32 =>
    if s.subscribed n && s.streamOn n then s.streamColour n else s.ingress.colours[n])

/-- The commits of a sender's chains for a map. -/
def State.commitChains (s : State) (m : MapPending) : State :=
  let (b, c) := s.derived
  let s := s.withIngress fun g => { g with blendSent := b, colours := c }
  if s.single then s.beginCommit 0 m else (s.beginCommit 0 m).beginCommit 1 m

/-- A chain commit without a new map, where what the control sender derives for its tiles has changed: at the first frame that leaves
time for it, and at least 2 frames after the last one (R55, R75, R249, R250; DEDUCED, log entry 123). -/
def State.recommit (s : State) (f : Nat) : State :=
  let g := s.ingress
  if s.derived = (g.blendSent, g.colours) ∨ g.pending.isSome ∨ g.geom = [] ∨ g.commit.any Option.isSome then s
  else s.commitChains {
    frame := max (f + 3) (2 + max g.genInForce[0].2.2 g.genInForce[1].2.2), gen := s.rdN 0x2500 0x08, geom := g.geom, regions := g.regions
    accepted := [], refused := [], why := none, go := true }

/-- A sender that has accepted a map holds it until its frame. -/
def State.holdMap (s : State) (m : MapPending) : State :=
  ((s.withIngress fun g => { g with pending := some m }).wrN 0x2500 0x07 m.frame).commitChains m

/-! ### Distribution (R74) -/

/-- Parts of a table, 240 bytes each, as MGMT units of operation 1. -/
def State.sendTable (s : State) (sub : Nat) (b : List Byte) : State :=
  (List.range ((b.length + 239) / 240)).foldl (fun s k =>
    let part := (b.drop (240 * k)).take 240
    s.sendMgmtUnit 31 1 (leBytes 1 sub ++ leBytes 4 (240 * k) ++ leBytes 1 part.length ++ part)) s

/-- A table put together from its parts. -/
def joinTable (parts : List (Nat × Nat × List Byte)) (sub length : Nat) : List Byte :=
  padTo length ((List.range ((length + 239) / 240)).flatMap fun k =>
    ((parts.find? fun p => p.1 == sub && p.2.1 == 240 * k).map fun p => p.2.2).getD [])

/-- A write of GEOMETRY or REGIONS: only at the frame master, and not while an activation is pending (R74, R76). -/
def State.mapTableWrite (s : State) (sub : Nat) (b : List Byte) : Nat × State :=
  if !s.isMaster ∨ s.ingress.pending.isSome then (abState, s) else (0, s.wrD 0x2500 sub b)

/-- The commits of a refused map end with ABORT (R250). -/
def State.abortCommits (s : State) : State :=
  s.withIngress fun g => { g with commit := vmapi g.commit fun _ c => c.map fun c => { c with abort := true } }

/-- An activation is over: RESULT_STATE, REFUSED_BY, PENDING_FRAME (R74, R76). -/
def State.mapEnds (s : State) (ok : Bool) (refused : List Nat) : State :=
  let mask := ((List.range 16).map fun n => bitAt (refused.contains (n + 1)) n).sum
  ((s.wrN 0x2500 0x04 mask).wrN 0x2500 0x07 0).publish 0x2500 0x0A 0x0B ok

/-- An activation that the frame master has abandoned, or that was not released in time: no event carries its cause here, and
0x2001 shows 0xFF, the code of the answer that names no condition of Table 2.9 (R15; DEDUCED, log entry 15). -/
def State.mapDropped (s : State) : State :=
  (((s.withIngress fun g => { g with pending := none }).abortCommits).mapEnds false []).cause 0xFF

/-- A write of ACTIVATE_FRAME (R74). -/
def State.activateFrameWrite (s : State) (f : Nat) : Nat × State :=
  if !s.isMaster ∨ s.ingress.pending.isSome ∨ f < s.quartz.frame + 4 then (abState, s)
  else
    let geom := s.rdD 0x2500 0x01
    let regions := s.rdD 0x2500 0x02
    let gen := (s.rdN 0x2500 0x08 + 1) % 256
    let s := ((s.startRun 0x2500 0x0A).sendTable 1 geom).sendTable 2 regions
    let s := s.sendMgmtUnit 31 2 (leBytes 8 f ++ leBytes 1 gen ++ leBytes 4 geom.length ++ leBytes 4 regions.length ++
      leBytes 4 (mapCrc geom regions))
    let (c, _, s) := s.validateMap geom regions
    let m : MapPending := {
      frame := f, gen := gen, geom := geom, regions := regions
      accepted := if c = 0 then [s.priority] else []
      refused := if c = 0 then [] else [s.priority]
      why := none
      go := false }
    (0, if c = 0 then s.holdMap m else (s.withIngress fun g => { g with pending := some m }).wrN 0x2500 0x07 f)

/-- `MAP_ACTIVATION_DEADLINE`: at T_frame(F − 2) the activation goes on if every sender has accepted, and is otherwise
abandoned (R74); event 0x5006 carries the first refusal answered, and cause 0 and region 0xFF where senders were only
silent (R80). -/
def execMapActivationDeadline (s : State) : Out1 :=
  if !s.isMaster then .next s
  else match s.ingress.pending with
    | none => .next s
    | some m =>
      let s := s.untilWall (s.tFrame (m.frame - 2))
      let all := (s.priority :: s.heardSenders).all m.accepted.contains
      if all && m.refused.isEmpty then
        let s := s.sendMgmtUnit 31 6 (leBytes 8 m.frame)
        .next (s.withIngress fun g => { g with pending := some { m with go := true } })
      else
        let s := s.sendMgmtUnit 31 7 (leBytes 8 m.frame)
        let s := ((s.withIngress fun g => { g with pending := none }).abortCommits).mapEnds false m.refused
        let (cause, region) := m.why.getD (0, 0xFF)
        .next (s.raiseIf (!m.refused.contains s.priority) 0x5006 (det region cause))

/-- A sender takes the activation that the frame master distributes: it validates the map and answers (R67, R74). -/
def State.takeActivation (s : State) (src : Nat) (d : List Byte) : State :=
  let f := field d 0 8
  let geom := joinTable s.ingress.parts 1 (field d 9 4)
  let regions := joinTable s.ingress.parts 2 (field d 13 4)
  let crc := mapCrc geom regions
  let s := s.withIngress fun g => { g with parts := [] }
  if crc ≠ field d 17 4 then s.sendMgmtUnit src 3 (leBytes 8 f ++ leBytes 4 crc ++ [0xFF, 0xFF])
  else
    let (c, r, s) := (s.startRun 0x2500 0x0A).validateMap geom regions
    let s := s.sendMgmtUnit src 3 (leBytes 8 f ++ leBytes 4 crc ++ leBytes 1 c ++ leBytes 1 r)
    let m : MapPending := {
      frame := f, gen := field d 8 1, geom := geom, regions := regions, accepted := [], refused := [], why := none, go := false }
    if c = 0 then s.holdMap m else s.mapEnds false [s.priority]

/-- An answer to the frame master. -/
def State.takeMapAnswer (s : State) (src : Nat) (d : List Byte) : State :=
  match s.ingress.pending with
  | none => s
  | some m =>
    if m.frame ≠ field d 0 8 then s
    else
      let ok := field d 8 4 == mapCrc m.geom m.regions && field d 12 1 == 0
      s.withIngress fun g => { g with pending := some (if ok then { m with accepted := src :: m.accepted }
        else { m with refused := src :: m.refused, why := some (m.why.getD (field d 12 1, field d 13 1)) }) }

/-- `MGMT_UNIT_RECEIVE`: dictionary transfers between senders: map parts (1), activation (2), answer (3), ring delay (4),
D_min (5), go (6), abandon (7), base delays (8), the wall-update record (9), presence (10), markers to capture (11), BLEND_SPACE (12) (R61,
R67, R74, R77, R178, R188, R190, R269, R477, R515). The layout of the body is the model's (DESIGN CHOICE, log entry 38). -/
def execMgmtUnitReceive (i : Fin 2) (u : CascadeUnit) (s : State) : Out1 :=
  let (mine, s) := s.takeUnit i u
  let d := u.body.drop 1
  if !mine ∨ u.kind ≠ 5 then .next s
  else match field u.body 0 1 with
    | 1 =>
      let part := (field d 0 1, field d 1 4, slice d 6 (field d 5 1))
      .next (s.withIngress fun g => { g with
        parts := part :: g.parts.filter fun p => !(p.1 == part.1 && p.2.1 == part.2.1) })
    | 2 => .next (if s.quartz.master then s else s.takeActivation u.src d)
    | 3 => .next (if s.quartz.master then s.takeMapAnswer u.src d else s)
    | 4 =>
      match s.portFor (field d 0 1) with
      | some p =>
        let ps := field d 2 4
        let put (r : Nat × Nat) : Nat × Nat := if field d 1 1 = 0 then (ps, r.2) else (r.1, ps)
        .next (s.withQuartz fun q => { q with ringDelay := vmod q.ringDelay p put })
      | none => .next s
    | 5 => .next (s.takeDmin (field d 0 1) (field d 1 4) (field d 5 1))
    | 6 =>
      match s.ingress.pending with
      | some m =>
        if m.frame = field d 0 8 then .next (s.withIngress fun g => { g with pending := some { m with go := true } })
        else .next s
      | none => .next s
    | 8 =>
      match s.portFor (field d 0 1) with
      | some p => .next (s.takeBases p d)
      | none => .next s
    | 9 =>
      match s.portFor (field d 0 1) with
      | some p => .next (s.takeWu p d)
      | none => .next s
    | 12 => .next (s.withIngress fun g => { g with blend := field d 0 1 })
    | 11 =>
      .next (s.nameMarks ((List.range ((d.take 5).length / 2)).map fun i => field d (1 + 2 * i) 2))
    | 10 =>
      let flags := field d 6 1
      let e : Told := {
        prio := u.src, source := field d 0 1, mapCrc := field d 1 4, state := field d 5 1, passed := bit flags 0, had := bit flags 1,
        presented := bit flags 2 }
      .next ((s.withCascade fun c => { c with told := e :: c.told.filter fun e => e.prio != u.src }).withQuartz fun q =>
        { q with presented := q.presented || e.presented })
    | 7 =>
      match s.ingress.pending with
      | some m =>
        if m.frame ≠ field d 0 8 then .next s
        else .next s.mapDropped
      | none => .next s
    | _ => .next s

/-- At T_frame(F) of an accepted activation the new map is in force; one that was not released is dropped (R74, R76,
R138). -/
def State.activateMap (s : State) (f : Nat) : State :=
  match s.ingress.pending with
  | none => s
  | some m =>
    if f < m.frame then s
    else if !m.go ∨ m.frame < f then
      s.mapDropped
    else
      let s := s.withIngress fun g => { g with pending := none, geom := m.geom, regions := m.regions }
      let s := (s.wrD 0x2500 0x01 m.geom).wrD 0x2500 0x02 m.regions
      let s := ((s.wrN 0x2500 0x08 m.gen).wrN 0x2500 0x09 (mapCrc m.geom m.regions)).mapEnds true []
      (List.finRange 2).foldl (fun s p =>
        let n := s.ports[p].newNumbers
        if n = [] ∨ !s.controls p then s
        else (s.sendAssign p n (n.length / 12)).withChain p fun x => { x with newNumbers := [] }) s

/-! ### Frame-control cells (R250) -/

/-- A FRAMECTL payload (Table 8.7). -/
def framectl (chain gen frame mapGen : Nat) (stations : List Nat) (since : Nat) : List Byte :=
  leBytes 1 1 ++ leBytes 1 chain ++ leBytes 2 gen ++ leBytes 8 frame ++ leBytes 1 mapGen ++ [0, 0, 0] ++
    leBytes 32 ((stations.filter fun n => decide (n ≠ 0 ∧ n < 256)).foldl (fun a n => a ||| 2 ^ n) 0) ++ leBytes 8 since

/-- Originate a FRAMECTL cell. -/
def State.sendFramectl (s : State) (p : Fin 2) (kind frame : Nat) (payload : List Byte) : State :=
  s.originateChain p 8 0xFFF (kind * 2 ^ 28 + frame % 256 * 2 ^ 20) payload

/-- No map waits at a frame, or every sender has accepted the one that does (R74, R250). -/
def State.released (s : State) (f : Nat) : Bool :=
  match s.ingress.pending with
  | some m => m.frame != f || m.go
  | none => true

/-- COMMIT or ABORT of the commit in progress, if it is due in this frame (R250). -/
def State.sendCommit (s : State) (p : Fin 2) : State :=
  match s.ingress.commit[p] with
  | none => s
  | some c =>
    let f := s.quartz.frame
    let chain := s.chainNo p
    if c.abort then
      let s := s.sendFramectl p 3 c.frame (framectl chain c.gen c.frame c.mapGen [] 0)
      s.withIngress fun g => { g with commit := vset g.commit p none }
    else if (f + 2 = c.frame ∨ f + 1 = c.frame) ∧ s.released c.frame then
      let s := s.sendFramectl p 1 c.frame (framectl chain c.gen c.frame c.mapGen c.stations 0)
      s.withIngress fun g => { g with commit := vset g.commit p (some { c with sent := c.sent + 1 }) }
    else s

/-- `FRAMECTL_SEND`: 10 µs after T_frame the control sender sends COMMIT or ABORT where one is due, and GEN_STATE (R250). -/
def execFramectlSend (p : Fin 2) (s : State) : Out1 :=
  if !s.leads p ∨ !s.quartz.lockedOnce then .next s
  else
    let s := (s.untilWall (s.tFrame s.quartz.frame + 10000 * subNs)).sendCommit p
    let g := s.ingress.genInForce[p]
    .next (s.sendFramectl p 2 s.quartz.frame (framectl (s.chainNo p) g.1 s.quartz.frame g.2.1 [] g.2.2))

/-- The lamp times are read anew once a commit that a context asked of a tile is in force (R190). -/
def State.lampsAgain (s : State) (p : Fin 2) (f : Nat) : State :=
  match s.ports[p].lampsDue with
  | none => s
  | some d =>
    if f < d then s
    else
      let s := s.withChain p fun x => { x with lampsDue := none }
      if s.controls p then s.readLamps p else s

/-- At its frame a chain's commit is in force; the lamp times are read anew (R190, R250). -/
def State.commitInForce (s : State) (p : Fin 2) (f : Nat) : State :=
  match s.ingress.commit[p] with
  | none => s
  | some c =>
    if f < c.frame ∨ c.abort then s
    else
      let s := s.withIngress fun g => { g with
        commit := vset g.commit p none
        genInForce := vset g.genInForce p (c.gen, c.mapGen, c.frame) }
      if s.controls p then s.readLamps p else s

/-! ### Frustum records at a sender (R337) -/

/-- The earliest frame whose T_frame lies more than 400 µs ahead. -/
def State.frustumEarliest (s : State) : Nat := s.quartz.set.frameAt (s.quartz.wall + 400000 * subNs) + 1

/-- A record written or mapped to 0x2510:01 (R337). -/
def State.frustumIn (s : State) (b : List Byte) : Nat × State :=
  let ports := (List.finRange 2).filter fun p => s.controls p
  if ports.isEmpty then (abState, s)
  else if !frustumOk b then (abRange, s.raise 0x6205 (det 0xFF 1))
  else
    let named := field b 0 8
    let early := s.frustumEarliest
    let late := named != 0 && decide (named < early)
    let f := max named early
    let s := if late then (s.bump 0x2510 0x04 1).raiseLimited 0x6205 2 second fun _ => det 0xFF 2 else s
    let s := (s.bump 0x2510 0x03 1).wrD 0x2510 0x01 b
    let s := s.withIngress fun g => { g with
      frustumFrame := s.quartz.frame
      frustumUsed := frustumUses b
      frustumStale := false }
    let ports := if s.single then ports.take 1 else ports
    (0, ports.foldl (fun s p => s.broadcastWrite p 0x2A80 0x07 (leBytes 8 f ++ b.drop 8)) s)

/-- `FRUSTUM_STALE_TIMEOUT` (R337). -/
def execFrustumStaleTimeout (s : State) : Out1 :=
  let g := s.ingress
  if !s.isSender ∨ !g.frustumUsed ∨ g.frustumStale then .next s
  else
    let n := s.rdN 0x2510 0x02
    let s := s.untilWall (s.tFrame (g.frustumFrame + n))
    .next ((s.withIngress fun g => { g with frustumStale := true }).raise 0x6204 (det 0xFF n))

/-! ### Slicing a frame (R63, R72, R73, R146, R147) -/

/-- Cells of a stream on a chain: sent until the first affected by a read error, and all of them for the checksums. -/
def State.sliceStream (s : State) (p : Fin 2) (f : Nat) (groups : List (List Nat)) (n : Fin 32) (src : SrcFrame) : List Cell :=
  let g := s.ingress
  ((validRegions g.regions).filter fun r => r.src == n.1).flatMap fun r =>
    r.cells g.geom groups (s.chainNo p) (s.rdN 0x2500 0x08) f (s.srcShape n) src.data

/-- The video cells of wall frame F for a chain port, from the frames selected; `errors` names streams whose stored frame
reads uncorrectable, and how many of their cells come before the first affected one (R146). -/
def State.sliceChain (s : State) (p : Fin 2) (f : Nat) (sel : List (Fin 32 × SrcFrame)) (errors : List (Nat × Nat)) : State :=
  if s.chainNo p = 0 then s
  else
    let groups := groupSets s.ingress.geom s.ingress.regions (s.chainNo p)
    let x := s.ports[p]
    let cells := sel.map fun e => (e.1, s.sliceStream p f groups e.1 e.2)
    let region (c : Cell) : Nat := c.stream
    let all := (cells.flatMap fun e => e.2).mergeSort fun a b => decide (region a ≤ region b)
    let sums : FrameSums := {
      frame := f
      all := checksumOf all
      withheld := x.withheld
      unsliced := ~~~(sel.foldl (fun (a : BitVec 32) e => a ||| BitVec.ofNat 32 (2 ^ e.1.1)) 0)
      stream := Vector.ofFn fun n : Fin 32 => ((cells.find? fun e => e.1 == n).map fun e => checksumOf e.2).getD 0 }
    let bad (n : Fin 32) : Option Nat := (errors.find? fun e => e.1 == n.1).map fun e => e.2
    let mine := cells.filter fun e => !x.withheld.getLsbD e.1
    let out := (mine.flatMap fun e => match bad e.1 with
      | some k => e.2.take k
      | none => e.2).mergeSort fun a b => decide (region a ≤ region b)
    let vouched := (mine.filter fun e => (bad e.1).isNone).foldl (fun (a : BitVec 32) e => a ||| BitVec.ofNat 32 (2 ^ e.1.1)) 0
    let send := !s.healthOnly p
    let s := s.withChain p fun x => { x with
      sumsLast := x.sumsNow
      sumsNow := sums
      vouched := vouched
      qVideo := if send then x.qVideo ++ out else x.qVideo }
    s.wrN (0x2300 + p) 0x0B vouched.toNat

/-- A sender slices wall frame F; a LOCKED stream that no region uses is selected all the same (R59 to R64, R72, R146). -/
def State.sliceFrame (s : State) (f : Nat) (errors : List (Nat × Nat)) : State :=
  let (sel, s) := (List.finRange 32).foldl (fun (a : List (Fin 32 × SrcFrame) × State) (n : Fin 32) =>
    if !a.2.subscribed n then
      (a.1, if a.2.streamOn n && !a.2.freeStream n then (a.2.chooseFor n f).2 else a.2)
    else
      let (g, s) := a.2.selectFor n f
      (match g with
        | some g => a.1 ++ [(n, g)]
        | none => a.1, s)) ([], s)
  let hit := sel.filter fun e => errors.any fun x => x.1 == e.1.1
  let s := hit.foldl (fun s e => s.bump (0x2400 + e.1) 0x29 1) s
  let s := if hit.isEmpty then s else { s with cascade := { s.cascade with memFault := true } }
  (s.sliceChain 0 f sel errors).sliceChain 1 f sel errors

end Sys2Proof.Machine
end

