-- ==== Sys2Proof/Machine/Read.lean ====
section
/-! DEFINITION. Reading the object dictionary: the objects whose value is computed when they are read, the views of R246, and
the checks that a read makes (R3, R10, R13, R379, R381, R561). -/

namespace Sys2Proof.Machine

open Host

/-! ### Values and bytes (R379) -/

/-- The bytes that carry a value of a type. -/
def OdTy.encode (t : OdTy) (v : Val) : List Byte :=
  match v with
  | .data b => b
  | .num n => leBytes t.size (n % (256 ^ t.size : Nat)).toNat

/-- A number. -/
def numVal (v : Nat) : Val := .num v

/-- A BOOLEAN. -/
def boolVal (b : Bool) : Val := .num (if b then 1 else 0)

/-- The characters of a VISIBLE_STRING. -/
def textVal (s : String) : Val := .data (s.toList.map fun c => BitVec.ofNat 8 c.toNat)

/-! ### Computed objects, by chapter -/

/-- A digit or letter of SILICON_REV as HW_VERSION spells it (R404). -/
def hwVersion : String :=
  let letter := if bits Config.siliconRev 7 4 = 0 then "A" else "B"
  letter ++ toString (bits Config.siliconRev 3 0)

/-- Communication and device objects (R404, R405). -/
def State.readDevice (s : State) (idx sub : Nat) : Option Val :=
  match idx, sub with
  | 0x1000, 0 => some (numVal (s.role.code * 65536))
  | 0x1003, 0 => some (numVal s.control.history.length)
  | 0x1003, k => some (numVal (s.control.history.getD (k - 1) 0))
  | 0x1008, 0 => some (textVal "UL9600")
  | 0x1009, 0 => some (textVal hwVersion)
  | 0x100A, 0 => some (textVal (toString (s.rdN 0x3100 0x18)))
  | 0x1014, 0 => some (numVal s.emcyCobId)
  | 0x1018, 1 => some (numVal 0x7D21)
  | 0x1018, 2 => some (numVal 0x9600)
  | 0x1018, 3 => some (numVal (Config.siliconRev * 65536 + s.rdN 0x3100 0x18 % 65536))
  | 0x1018, 4 => some (numVal (Config.serial.toNat % 2 ^ 32))
  | 0x1200, 1 => some (numVal (s.sdoCob 0 1))
  | 0x1200, 2 => some (numVal (s.sdoCob 0 2))
  | 0x1201, 1 => some (numVal (s.sdoCob 1 1))
  | 0x1201, 2 => some (numVal (s.sdoCob 1 2))
  | 0x1202, 1 => some (numVal (s.sdoCob 2 1))
  | 0x1202, 2 => some (numVal (s.sdoCob 2 2))
  | 0x1203, 1 => some (numVal (s.sdoCob 3 1))
  | 0x1203, 2 => some (numVal (s.sdoCob 3 2))
  | 0x1400, 1 => some (numVal (s.pdoCob false 0))
  | 0x1401, 1 => some (numVal (s.pdoCob false 1))
  | 0x1402, 1 => some (numVal (s.pdoCob false 2))
  | 0x1403, 1 => some (numVal (s.pdoCob false 3))
  | 0x1800, 1 => some (numVal (s.pdoCob true 0))
  | 0x1801, 1 => some (numVal (s.pdoCob true 1))
  | 0x1802, 1 => some (numVal (s.pdoCob true 2))
  | 0x1803, 1 => some (numVal (s.pdoCob true 3))
  | 0x2000, 1 => some (numVal s.role.code)
  | 0x2000, 2 => some (numVal Config.siliconRev)
  | 0x2000, 3 => some (numVal Config.serial.toNat)
  | 0x2000, 4 => some (numVal s.straps.toNat)
  | 0x2000, 5 => some (numVal s.uptime)
  | _, _ => none

/-- PORT_STATE of links: the most advanced of them. -/
def phaseOf (l : List LinkPhase) : Nat :=
  if l.contains .up then 2 else if l.contains .test then 3 else if l.contains .bringing then 1
  else if l ≠ [] ∧ l.all (· == .absent) then 4 else 0

/-- What an Ethernet lane shows of its port. -/
def LaneStage.phase : LaneStage → LinkPhase
  | .active => .up
  | .off => .down
  | _ => .bringing

/-- PORT_STATE (R28, R107, R108): port C of a tile is absent. -/
def State.portState (s : State) (p : Fin 3) : Nat :=
  let ls := ((linksOf p).filter fun k => !(s.lanesOf k).isEmpty).map fun k => s.lanes.link[k].phase
  let es := ((List.finRange 24).filter fun l => portOf l == p.1 && (s.ethOf l).isSome && (s.linkOf l).isNone).map
    fun l => s.lanes.lane[l].stage.phase
  if p = 2 ∧ s.role = .tile then 4 else if s.portTest p then 3 else phaseOf (ls ++ es)

/-- Port objects (R108): of port C, what its links show together. -/
def State.readPort (s : State) (p : Fin 3) (sub : Nat) : Option Val :=
  let ks := (linksOf p).filter fun k => !(s.lanesOf k).isEmpty
  let ls := ks.map fun k => s.lanes.link[k]
  let up := ls.filter fun l => l.phase == .up
  let set (f : Link → BitVec 8) : Option Val := some (numVal (ls.foldl (fun a l => a ||| f l) (0 : BitVec 8)).toNat)
  match sub with
  | 0x02 => some (numVal (s.portState p))
  | 0x08 => set Link.txSet
  | 0x09 => set Link.rxSet
  | 0x0A => some (numVal ((ks.flatMap s.lanesOf).map fun l => bitAt (s.lanes.lane[l].stage == .spare) (laneIdx l)).sum)
  | 0x0B => some (numVal (match up with
      | [] => 0xFF
      | l :: _ => l.rate))
  | 0x0C => some (numVal (match up with
      | [] => 0xFF
      | l :: _ => match l.fec with
        | some f => bitAt f 0
        | none => 0xFF))
  | 0x0F => some (numVal (up.map fun l => lanesIn l.txSet * lanePayload l.rate).sum)
  | 0x20 => some (numVal ((ks.flatMap s.lanesOf).foldl (fun m l => max m s.lanes.lane[l].skew) 0))
  | _ => none

/-- Lane objects (R109). -/
def State.readLane (s : State) (l : Fin 24) (sub : Nat) : Option Val :=
  match sub with
  | 0x01 => some (numVal s.lanes.lane[l].stage.code)
  | 0x06 => some (numVal s.lanes.lane[l].taps.code)
  | _ => none

/-- An entry of TILE_EVENTS (Table 13.10). -/
def TileEvent.bytes (e : TileEvent) : List Byte :=
  leBytes 1 e.chain ++ leBytes 1 e.station ++ leBytes 2 e.code ++ leBytes 4 e.detail ++ leBytes 4 e.sec ++ leBytes 4 e.ns

/-- Chain and gateway objects (R143, R406). -/
def State.readChain (s : State) (idx sub : Nat) : Option Val :=
  match idx, sub with
  | 0x2200, 0x06 =>
    if s.role == .tile then some (numVal (bitAt s.tile.loopTimed[1] 0 + bitAt s.tile.loopTimed[0] 1)) else none
  | 0x2200, 0x05 => if s.role == .tile then some (numVal s.modeCode) else none
  | 0x2212, 0x01 => some (numVal s.control.tileEvents.length)
  | 0x2212, 0x02 => some (.data (s.control.tileEvents.flatMap TileEvent.bytes))
  | _, _ => none

/-- Quartz objects: a tile shows the timing set in force (R200, Table 6.12). -/
def State.readQuartz (s : State) (sub : Nat) : Option Val :=
  let q := s.quartz
  let tile (v : Nat) : Option Val := if s.role == .tile then some (numVal v) else none
  match sub with
  | 0x06 => tile q.set.num
  | 0x07 => tile q.set.den
  | 0x0D => some (numVal q.set.d)
  | 0x0E => tile q.set.s
  | 0x10 => tile q.set.off[0]
  | 0x11 => tile q.set.off[1]
  | 0x12 => tile q.set.off[2]
  | 0x13 => tile q.set.off[3]
  | 0x14 => tile (lenPair q.set.len[0] q.set.len[1])
  | 0x15 => tile (lenPair q.set.len[2] q.set.len[3])
  | 0x30 => some (numVal q.state.code)
  | 0x31 => some (numVal (if q.master then s.priority else q.fm))
  | 0x32 => some (numVal s.wallSec)
  | 0x33 => some (numVal s.wallNs)
  | 0x34 => some (numVal q.frame)
  | 0x36 => some (numVal q.dist)
  | 0x38 => some (numVal (if q.state = .holdover then (s.now - q.holdoverSince) / ms else 0))
  | 0x44 => tile s.tLamp
  | _ => none

/-- Buffers of a layer as allocated: their geometry without the cells. -/
def geometry (l : List FrameBuf) : List FrameBuf := l.map fun f => { f with cells := [] }

/-- Storage slots in use: the buffers of the configuration in force, and the old current frames (R205, Table 7.4). -/
def State.storeUse (s : State) : Nat :=
  match s.genNow with
  | none => 0
  | some g => ((List.range 8).map fun n =>
      g.need n + (match s.video.store.current[n]?.getD none with
        | some f => if geometry f.bufs = geometry (g.bufs n) then 0 else s.currentSlots n
        | none => 0)).sum

/-- Tables 0 to 2 as the firmware built them at this start: table, VALID and SOURCE (R267, Table 9.4, Table 9.8). SOURCE 1 stands for
a table built (DESIGN CHOICE, log entry 124). -/
def State.readBuilt (s : State) (k sub : Nat) : Option Val :=
  match sub with
  | 0x01 =>
    let b := leBytes 2 1 ++ [0, 0] ++ (List.range 4097).flatMap fun i => leBytes 4 (s.tfEntry k i)
    some (.data (b ++ leBytes 4 (crc32Nat b)))
  | 0x02 => some (boolVal true)
  | 0x04 => some (numVal 1)
  | _ => none

/-- Frame store, scalers, coefficient sets and tables, and the configuration in force (R221, R257, R258, R294). -/
def State.readVideo (s : State) (idx sub : Nat) : Option Val :=
  let g := s.genNow
  let inForceOr (v : Nat) (f : Gen → Nat) : Option Val := some (numVal ((g.map f).getD v))
  let inForce := inForceOr 0
  if idx = 0x2700 then
    if sub = 0x02 then some (numVal s.storeUse)
    else if 0x10 ≤ sub ∧ sub ≤ 0x17 then inForce fun g => g.need (sub - 0x10)
    else none
  else if 0x2840 ≤ idx ∧ idx ≤ 0x2847 then
    let k := idx - 0x2840
    let layer := (List.range 8).find? fun n => (g.bind fun g => g.scaler[n]?.getD none) == some k
    match sub with
    | 0x01 => some (numVal (if s.lamps.retired.getLsbD k then 2 else if layer.isSome then 1 else 0))
    | 0x02 => some (numVal (layer.getD 0xFF))
    | _ => none
  else if 0x2800 ≤ idx ∧ idx ≤ 0x2807 ∧ sub = 0x23 then
    inForceOr 0xFF fun g => (g.scaler[idx - 0x2800]?.getD none).getD 0xFF
  else if 0x2920 ≤ idx ∧ idx ≤ 0x2922 ∧ sub ≠ 0x03 then s.readBuilt (idx - 0x2920) sub
  else if 0x2850 ≤ idx ∧ idx ≤ 0x285F ∧ sub = 0x03 then
    some (boolVal (s.configs.any fun g => g.namesSet (idx - 0x2850)))
  else if 0x2920 ≤ idx ∧ idx ≤ 0x2927 ∧ sub = 0x03 then
    some (boolVal (s.configs.any fun g => g.namesTable (idx - 0x2920)))
  else match idx, sub with
    | 0x2880, 0x04 => inForce Gen.gen
    | 0x2880, 0x05 => inForce Gen.frame
    | 0x2880, 0x07 => none
    | 0x2900, 0x0B =>
      let n := (g.map Gen.allLamps).getD 0
      some (numVal (if n = 0 then 4 else min 4 (2097152 / n)))
    | 0x2940, 0x03 => inForce Gen.allLamps
    | 0x2950, 0x01 => some (.data (s.video.colour.tEst.toList.flatMap fun t => leBytes 2 ((t.getD 0) % 65536).toNat))
    | 0x2950, 0x02 => some (.data (s.video.colour.gainLatched.toList.flatMap fun v => v.toList.flatMap fun x => leBytes 2 x))
    | 0x2950, 0x03 => some (numVal s.video.colour.subst.toNat)
    | 0x2960, 0x01 => some (.data (s.otp.shadow.toList.flatMap fun c => leBytes 2 c.maxGrey ++ leBytes 2 c.maxAvg))
    | 0x2A80, 0x0A => some (.data (s.otp.shadow.toList.flatMap fun c => leBytes 2 c.refresh))
    | _, _ => none

/-- Lamps of a port in the configuration in force. -/
def State.lampsOf (s : State) (p : Fin 64) : Nat := (s.genNow.map fun g => g.lamps p).getD 0

/-- Lamps of the tile with a reported verdict (R345). -/
def State.verdictCount (s : State) (v : Nat) : Nat :=
  ((List.finRange 64).map fun p =>
    ((List.range (s.lampsOf p)).filter fun n => reported (s.lamps.port[p].byte n) == v).length).sum

/-- Lamp ports, diagnostics and engines (R325, R351, R377). -/
def State.readLampPorts (s : State) (idx sub : Nat) : Option Val :=
  if h : 0x2A00 ≤ idx ∧ idx < 0x2A40 then
    let p : Fin 64 := ⟨idx - 0x2A00, by omega⟩
    match sub with
    | 0x13 => some (numVal (match s.genNow with
        | some g => if g.portOn p then s.xfer g p else 0
        | none => 0))
    | 0x14 => some (numVal (if s.staging.portOn p then s.xfer s.staging p else 0))
    | _ => none
  else if h : 0x2C10 ≤ idx ∧ idx < 0x2C50 then
    let p : Fin 64 := ⟨idx - 0x2C10, by omega⟩
    let e := s.lamps.engine[p]
    if sub = 0x01 then
      some (numVal (match e.run with
        | .held => 0
        | .loading => 1
        | .running => if e.wait = .none then 2 else 3
        | .faulted => 4))
    else none
  else match idx, sub with
    | 0x2B00, 0x05 =>
      let p : Fin 64 := ⟨s.rdN 0x2B00 0x04 % 64, Nat.mod_lt _ (by decide)⟩
      some (.data ((List.range (s.lampsOf p)).map fun n => s.lamps.port[p].byte n))
    | 0x2B00, 0x06 => some (numVal (s.verdictCount 0))
    | 0x2B00, 0x07 => some (numVal (s.verdictCount 1))
    | 0x2B00, 0x08 => some (numVal (s.verdictCount 2))
    | 0x2B00, 0x09 => some (numVal (s.verdictCount 3))
    | 0x2B00, 0x0A => some (numVal (s.verdictCount 4))
    | 0x2C00, k =>
      let b := s.microcode
      if !microOk b then none
      else match k with
        | 1 => some (numVal (field b 8 4))
        | 2 => some (numVal (field b 6 1))
        | 3 => some (.data ((b.drop 64).take (64 * field b 6 1)))
        | 4 => some (numVal (field b (field b 12 4 - 4) 4))
        | _ => none
    | _, _ => none

/-- Clocks, levels and housekeeping (R453, R467). -/
def State.readPlatform (s : State) (idx sub : Nat) : Option Val :=
  match idx, sub with
  | 0x2D00, 0x04 => some (numVal s.floor)
  | 0x2D00, 0x07 =>
    some (numVal ((List.finRange 4).map fun (l : Fin 4) => (s.otp.vtrim[l] % 256).toNat * 256 ^ l.1).sum)
  | 0x2D00, 0x10 => some (numVal ((List.finRange 8).map fun (i : Fin 8) => bitAt s.clocks.pllLocked[i] i.1).sum)
  | 0x2D00, 0x12 => some (.data ((List.finRange 60).map fun d => BitVec.ofNat 8 (s.domainByte d)))
  | 0x2E00, 0x01 => some (.data (s.thermal.chan.toList.flatMap fun c => leBytes 2 (c.reading % 65536).toNat))
  | 0x2E00, 0x02 =>
    some (.data (leBytes 12 ((List.finRange 96).map fun (c : Fin 96) => bitAt s.thermal.chan[c].valid c.1).sum))
  | 0x2E00, 0x08 => some (numVal s.thermalCode)
  | 0x2E00, 0x0D => some (numVal (sat 255 (s.thermal.tripTimes.filter fun t => decide (s.now < t + 3600 * second)).length))
  | 0x2E00, 0x0E => some (boolVal (s.thermal.phase == .latched))
  | _, _ => none

/-- Calibration, flash and update (R480, R492, R515, R533). -/
def State.readNvm (s : State) (idx sub : Nat) : Option Val :=
  let cal := s.nvm.cal
  match idx, sub with
  | 0x2F00, 0x10 => some (numVal cal.kinds[0].count)
  | 0x2F00, 0x11 => some (numVal cal.kinds[1].count)
  | 0x2F00, 0x12 => some (numVal cal.kinds[2].count)
  | 0x2F00, 0x13 => some (numVal cal.kinds[0].lastSec)
  | 0x2F00, 0x14 => some (numVal cal.kinds[1].lastSec)
  | 0x2F00, 0x15 => some (numVal cal.kinds[2].lastSec)
  | 0x2F00, 0x16 => some (numVal cal.kinds[0].disagree)
  | 0x2F00, 0x17 => some (numVal cal.kinds[1].disagree)
  | 0x2F00, 0x18 => some (numVal cal.kinds[2].disagree)
  | 0x2F00, 0x1A => some (.data (cal.trims.toList.flatMap fun t => leBytes 2 (t % 65536).toNat))
  | 0x2F00, 0x1B => some (numVal cal.gen)
  | 0x3000, 0x02 => some (numVal Config.flashId.toNat)
  | 0x3000, 0x10 => some (numVal s.nvm.bb.nextSeq)
  | 0x3000, 0x11 => some (numVal s.oldestSeq)
  | 0x3000, 0x12 => some (numVal s.pinnedUsed)
  | 0x3000, 0x13 => some (numVal s.nvm.bb.slots.length)
  | 0x3100, 0x08 => some (numVal s.refusalBits)
  | 0x3100, 0x11 => some (numVal s.pointer.state)
  | 0x3100, 0x13 => some (numVal s.pointer.tries)
  | 0x3100, 0x16 => some (numVal (match s.update.confirmAt with
      | some t => (t - s.now) / second
      | none => 0))
  | 0x3100, 0x19 =>
    some (numVal (if s.pointer.fallback < 2 then field (s.manifest s.pointer.fallback) 8 4 else 0))
  | 0x3100, 0x37 => some (.data s.laggards)
  | 0x3200, 0x03 => some (boolVal s.otp.ceilLock)
  | 0x3200, 0x11 => some (numVal (s.refillBucket.nvm.bucket / (bucketUnit * 1024)))
  | 0x3200, 0x15 => some (numVal s.otp.jtagMode)
  | _, _ => none

/-- What belongs to the context that reads (R246, R397, R407, R488). -/
def State.readCtx (s : State) (c : CtxId) (idx sub : Nat) : Option Val :=
  let x := (s.ctx? c).getD (Ctx.fresh (s.ctxLevel c).1 0 0)
  match idx, sub with
  | 0x2210, 0x01 => some (numVal x.station)
  | 0x2210, 0x02 => some (numVal (if x.chain = 0 then s.chainNo 0 else x.chain))
  | 0x2880, 0x07 => some (boolVal s.control.readView[viewOf c])
  | 0x3000, 0x14 => some (numVal x.bbReadSeq)
  | 0x3000, 0x16 => some (.data (s.readRecords x))
  | 0x3000, 0x17 => some (boolVal x.bbSevereOnly)
  | 0x3300, 0x03 =>
    let l := s.ctxLevel c
    some (numVal (if l.2 then 8 else l.1))
  | 0x3300, 0x05 => some (numVal x.id)
  | _, _ => none
where
  /-- The source of R44 that a context belongs to: 0 gateway, 1 host port, 2 management port. -/
  viewOf : CtxId → Fin 3
    | .gateway _ _ => 0
    | .host => 1
    | _ => 2

/-- An object whose value is computed when it is read. -/
def State.computed (s : State) (idx sub : Nat) : Option Val :=
  if idx < 0x2100 then s.readDevice idx sub
  else if h : 0x2100 ≤ idx ∧ idx < 0x2103 then s.readPort ⟨idx - 0x2100, by omega⟩ sub
  else if h : 0x2110 ≤ idx ∧ idx < 0x2128 then s.readLane ⟨idx - 0x2110, by omega⟩ sub
  else if idx < 0x2600 then s.readChain idx sub
  else if idx = 0x2600 then s.readQuartz sub
  else if idx < 0x2A00 ∨ idx = 0x2A80 then s.readVideo idx sub
  else if idx < 0x2D00 then s.readLampPorts idx sub
  else if idx < 0x2F00 then s.readPlatform idx sub
  else s.readNvm idx sub

/-- The source of R44 reads the configuration in force rather than the staging bank (R246). -/
def State.viewsForce (s : State) (c : CtxId) : Bool := s.control.readView[State.readCtx.viewOf c]

/-- The value of an object that its source may read. -/
def State.value (s : State) (c : CtxId) (idx sub : Nat) : Val :=
  match s.readCtx c idx sub with
  | some v => v
  | none => match s.computed idx sub with
    | some v => v
    | none =>
      if odBound idx sub && s.viewsForce c then
        match s.genNow with
        | some g => g.rd idx sub
        | none => odDefault s.role (key idx sub)
      else s.rd idx sub

/-! ### The checks of a read (R561) -/

/-- The bytes of zero for a type. -/
def OdTy.zero (t : OdTy) : List Byte :=
  match t with
  | .dom (.exact n) => List.replicate n 0
  | t => List.replicate t.size 0

/-- A read: the abort code, 0 when it succeeds, the bytes, and the state after it. Only a read of CHALLENGE changes
anything. -/
def State.readObject (s : State) (c : CtxId) (idx sub : Nat) : Nat × List Byte × State :=
  if !odIndexExists s.role idx then (abNoObject, [], s)
  else match odFind s.role idx sub with
    | none => if sub = 0 then (0, leBytes 1 (if odHeld s.role idx then 0 else odHighest s.role idx), s) else (abNoSub, [], s)
    | some r =>
      if r.role.heldDown s.role then (0, r.ty.zero, s)
      else if r.acc == .wo then (abWriteOnly, [], s)
      else if r.acc == .ro && decide ((s.ctxLevel c).1 < r.lvl.rank) then (abLevel, [], s)
      else if idx = 0x3300 ∧ sub = 0x01 then
        let (b, s) := s.challenge c
        (0, b, s)
      else (0, r.ty.encode (s.value c idx sub), s)

end Sys2Proof.Machine
end

