-- ==== Sys2Proof/Machine/Start.lean ====
section
/-! DEFINITION. The cold start (R447, R448, R472, R478, R487, R506, R509, R539, R540) and the end of a warm reset (R449 to R452,
R464). -/

namespace Sys2Proof.Machine

open Host

/-! ### Release of a cold reset -/

/-- The role that MODESEL gives (R1, R539). -/
def roleOf (straps : BitVec 4) : Role :=
  match straps.toNat % 4 with
  | 1 => .sender
  | 2 => .tile
  | _ => .none

/-- Nothing can be booted (R506), or RECOVERY holds the device, which raises no event (R540). -/
def State.holdBoot (s : State) (event : Bool) : State :=
  State.raiseIf { s with life := .bootRom } event 0x9207 (s.updDetail 0)

/-- Boot a slot: its number, its version and the fallback's. -/
def State.bootSlot (s : State) (slot : Nat) : State :=
  (s.wrN 0x3100 0x10 slot).wrN 0x3100 0x18 (field (s.manifest slot) 8 4)

/-- The boot ROM reverts (R510): the settings marks, the pointer ACTIVE to the fallback, and that slot. -/
def State.bootRevert (s : State) (p : BootPointer) (cause : Nat) : State :=
  let slot := p.fallback % 2
  let steps := s.revertSettings
  let s := if steps.isEmpty then s else (s.addJob { prio := 1, purpose := .settings 0 4, steps := steps }).2
  let s := s.writePointer { p.final with
    slot := slot
    digest := manifestDigest (s.manifest slot) } 0
  let s := s.raise 0x9204 (s.updDetail cause)
  if s.slotOk slot then s.bootSlot slot else s.holdBoot true

/-- The boot-pointer step (R506). -/
def State.bootStep (s : State) : State :=
  if s.straps.getLsbD 2 then s.holdBoot false
  else match s.pointerCopy with
    | none =>
      if s.slotOk 0 then s.bootSlot 0
      else if s.slotOk 1 then
        (s.writePointer { s.pointer.final with
          slot := 1
          digest := manifestDigest (s.manifest 1) } 0).bootSlot 1
      else s.holdBoot true
    | some (p, _) =>
      match p.state with
      | 0 =>
        let other := 1 - p.slot
        if s.slotOk p.slot then s.bootSlot p.slot
        else if s.slotOk other then
          (s.writePointer { p.final with
            slot := other
            digest := manifestDigest (s.manifest other) } 0).bootSlot other
        else s.holdBoot true
      | 1 =>
        if p.tries = 0 then s.bootRevert p 2
        else if !s.slotOk p.slot then s.bootRevert p 3
        else
          let s := (s.writePointer { p with tries := p.tries - 1 } 0).bootSlot p.slot
          let s := (s.withUpdate fun u => { u with confirmAt := some (s.now + 120 * second) }).wrN 0x3100 0x01 5
          s.raise 0x9202 (s.updDetail (p.slot + 256 * (p.tries - 1)))
      | _ => if s.slotOk p.slot then (s.bootSlot p.slot).wrN 0x3100 0x01 6 else s.bootRevert p 3

/-- The object store in its canonical form for the role that a device has just taken. -/
def State.rekeyed (s : State) : State :=
  { s with od := s.od.foldl (fun m e => Sparse.set (odDefault s.role) m e.1 e.2) [] }

/-- The release: the straps are latched, the role is fixed or none is taken, and the OTP shadow is loaded (R1, R447, R538). -/
def State.takeRole (s : State) (straps : BitVec 4) (fitted : Nat) : State :=
  { s with
    role := roleOf straps
    life := if roleOf straps = .none then .noRole else .coldStart
    straps := straps
    railsGood := true
    otp := { s.otp with shadow := s.otp.ceilings.map fun c => c.getD Ceiling.unlimited }
    ingress := { s.ingress with fitted := fitted } }

/-- The start's own time begins, and each watchdog with it (R447, R526). -/
def State.startTimers (s : State) : State :=
  s.withClocks fun c => { c with
    coldAt := s.now
    startAt := s.now
    starting := true
    startCold := true
    wdtRestarted := Vector.replicate 2 s.now }

/-- After a trip the pixel and lamp domains stay down at the start (R463, R464). -/
def State.holdTripped (s : State) : State :=
  if s.thermal.phase = .normal then s
  else (s.powerDomains false).withTile fun x => { x with thermal := s.role == .tile }

/-- `COLD_RESET`: the release, with every rail good: the straps, the LPDDR5X fitted in GiB, and the size in MiB that SFDP declares,
0 for a flash that is not supported (R1, R447, R468). The window opens with the first housekeeping round, so a boot pointer
to write waits in the flash queue (R506). -/
def execColdReset (straps : BitVec 4) (fitted flashMib : Nat) (s : State) : Out1 :=
  if s.life ≠ .inReset then .next s
  else
    let s := (s.takeRole straps fitted).rekeyed.startTimers
    let s := (s.bump 0x2D00 0x19 1).wrN 0x3000 0x01 flashMib
    if roleOf straps = .none then .next s
    else
      let s := s.commandLevel 2
      let s := ((List.finRange 3).foldl (fun (s : State) (p : Fin 3) => s.bringUpPort p) s).holdTripped
      if flashMib < 64 then .next { s with life := .bootRom } else .next s.bootStep

/-! ### The image is loaded -/

/-- Load the settings of the generation in force, migrated to the image's schema (R472, R509). -/
def State.loadSettings (s : State) : State :=
  match s.setInForce with
  | none => s.raise 0x8101 (det 0xFF 0)
  | some (g, _) =>
    let (_, es) := s.migrated g
    let s := es.foldl State.loadEntry s
    let s := s.raiseIf s.commanded 0x3106 (s.chainDetail 0 1)
    (s.wrN 0x3000 0x03 g.gen).wrN 0x3000 0x04 g.schema

/-- The migration write of a trial, unless a generation above the pointer's stands (R509). -/
def State.migrate (s : State) : State :=
  let p := s.pointer
  let done (s : State) : State := s.withUpdate fun u => { u with migrated := true }
  if p.state = 0 then done s
  else match s.setInForce with
    | none => s.writeSettings [] s.imageSchema 3
    | some (g, _) =>
      if p.gen < g.gen then done s
      else
        let (ok, es) := s.migrated g
        (s.raiseIf (!ok) 0x9209 (s.updDetail 2)).writeSettings es s.imageSchema 3

/-- Ports whose settings differ from those that their bring-up began with start anew. -/
def State.applyLaneSettings (s : State) : State :=
  (List.finRange 3).foldl (fun (s : State) (p : Fin 3) =>
    let lanes := (List.range 8).map fun i => 0x2110 + 8 * p.1 + i
    let mine (idx : Nat) : Bool := idx == 0x2100 + p.1 || lanes.contains idx || (idx == 0x2102 && p == 2)
    if s.od.any fun e => mine (e.1 / 256) && isSetting s.role (e.1 / 256) (e.1 % 256) then s.restartPort p else s) s

/-- Load the calibration copy in force (R478). -/
def State.loadCal (s : State) : State :=
  match s.calCopy with
  | some (c, _) => s.withCal fun _ => c
  | none => s.raise 0x8202 (det 0xFF 0)

/-- Coefficient sets 0 to 3 from the library of the active image, one after another (R233, Table 18.6); a set that fails the
checks of R232 stays empty (DESIGN CHOICE, log entry 82). -/
def State.loadLibrary (s : State) : State :=
  let b := s.part (s.rdN 0x3100 0x10) 5
  (List.range 4).foldl (fun s k =>
    let set := slice b (1800 * k) 1800
    if coefOk set then s.loadCoeff k set 1 else s) s

/-- Load the correction image that CORR_SELECT names; "none" where it is not valid (R280). -/
def State.loadCorr (s : State) : State :=
  let i := (s.genNow.map fun g => g.rdN 0x2930 0x01).getD (s.rdN 0x2930 0x01)
  let s := s.withColour fun c => { c with select := i }
  if 2 ≤ i then s.dropCorr
  else
    let b := s.corrBytes i
    let cause := corrCause b s.window
    if cause ≠ 0 then s.dropCorr.raise 0x5301 (det i cause)
    else (s.withColour fun c => { c with verified := c.verified.set! i true }).forceCorr i b

/-- The pixel and lamp parts of a tile's start (R233, R280, R318, R447). -/
def State.startPixels (s : State) : State := (s.loadLibrary.loadCorr).switchPorts s.staging s.microcode

/-- TILE_PEAK and SDR_WHITE are latched at each start (R267). -/
def State.latchPeak (s : State) : State :=
  s.withColour fun c => { c with
    tilePeak := s.rdN 0x2900 0x02
    sdrWhite := s.rdN 0x2900 0x03 }

/-- A sender's timing set at a cold start: the rate, slots and D of its settings, from frame 0 at wall time 0; a rate that breaks R173
gives way to the default one, and slot values that are absent or break R196 take their defaults (R172, R173, R196; DESIGN
CHOICE, log entry 82). -/
def State.startTiming (s : State) : State :=
  let s := if s.stagedSet.rateOk then s else (s.wrN 0x2600 0x06 60000).wrN 0x2600 0x07 1001
  let t := s.stagedSet
  let t := if t.slotsOk then t
    else
      let d := slotDefaults t.num t.den t.s
      { t with
        off := d.1
        len := d.2 }
  let t := { t with d := if s.rdN 0x2600 0x09 = 1 then s.rdN 0x2600 0x0A else t.d }
  let s := s.takeDelayMode
  (s.withQuartz fun q => { q with set := t }).wrSlots t.off t.len

/-- `IMAGE_LOAD_COMPLETE`: the digests stand and the clusters run, so long after the release; settings, calibration, the
correction image and the black box follow (R447, R472, R478, R487). A boot pointer still to be written holds the boot
stage (R506). -/
def execImageLoadComplete (elapsed : Nat) (s : State) : Out1 :=
  if s.life ≠ .coldStart then .next s
  else if s.pointing then .next (if s.windowOpen then s else s.raiseLimited 0x9206 0 (3600 * second) fun _ => s.updDetail 0)
  else
    let s := State.until_ { s with life := .running } (s.clocks.startAt + elapsed)
    let s := s.withClocks fun c => { c with residentLoaded := true }
    let s := s.loadSettings
    let s := s.withClocks fun c => { c with
      wdtInForce := Vector.replicate 2 (s.rdN 0x3200 0x14)
      wdtRestarted := Vector.replicate 2 s.now }
    let s := s.applyLaneSettings.restartAccess
    let s := (s.resetHostPort false).loadCal.latchPeak
    let s := s.wrN 0x3000 0x06 (if startOk s.startBytes then 1 else 0)
    let s := s.scanBlackBox.migrate.trackLevel
    match s.role with
    | .tile => .next (if s.tile.thermal then s else s.startPixels)
    | _ => .next (s.startTiming.startMode.started 300)

/-! ### The end of a warm reset -/

/-- What a restart after a trip handles as a cold start does (R464): staging memory and verdicts, correction and coefficients,
engines, the held frame. -/
def State.afterTrip (s : State) : State :=
  let s := s.powerDomains true
  let s := { s with tile := { s.tile with thermal := false } }
  let s := s.withCompose fun c => { c with
    bank := Vector.replicate 8 none
    last := Vector.replicate 4 none
    lastOver := Vector.replicate 4 none
    held := .startImage }
  if s.role ≠ .tile then s
  else
    let ports := s.lamps.port.map fun q => { q with verdict := [], swept := [] }
    let s := { s with lamps := { s.lamps with port := ports } }
    let s := (s.emit (.pin .ldLow false)).loadLibrary.loadCorr
    (List.finRange 64).foldl (fun (s : State) (p : Fin 64) =>
      if !s.lamps.port[p].on then s
      else
        let s := s.loadEngine p s.microcode
        if s.lamps.engine[p].run = .running then s.enumerate p else s) s

/-- `WARM_RESET`: the supervisor checks the resident image, so long after the reset: it restarts from it, or the device performs a
cold reset with cause 5 (R449). -/
def execWarmReset (imageOk : Bool) (elapsed : Nat) (s : State) : Out1 :=
  if s.life ≠ .warmStart then .next s
  else if !imageOk then .next ((s.raise 0x1005 (det 0xFF 0)).beginCold 5)
  else
    let s := (State.until_ { s with life := .running } (s.clocks.startAt + elapsed)).latchPeak
    let down := (List.finRange 60).any fun (d : Fin 60) => tripped s.role d && !s.clocks.dom[d].powered
    let s := if s.thermal.phase = .normal ∧ down then s.afterTrip else s
    .next (if s.role = .sender then s.startMode.started 10 else s)

end Sys2Proof.Machine
end

