-- ==== Sys2Proof/Machine/Write.lean ====
section
/-! DEFINITION. Writing the object dictionary: the nine checks of R561, the effect of each object that has one of its own, and
the gateway's window at a sender (R9, R16, R43, R379 to R386, R396 to R400). -/

namespace Sys2Proof.Machine

open Host

/-! ### Which effect a value has (check 9 of R561)

Each function answers the abort code, 0 when the value is taken, and the state after. -/

/-- A change that always succeeds. -/
def State.ok (s : State) : Nat × State := (0, s)

/-- A write of 1 that clears; a 0 does nothing. -/
def State.onOne (s : State) (v : Int) (f : State → State) : Nat × State := if v = 0 then (0, s) else (0, f s)

/-- Bytes that a PDO mapping entry takes: its length byte, or the whole of a DOMAIN where that is 0 (R396). -/
def mapBytes (v : Nat) : Nat := if v % 256 = 0 then 64 else (v % 256 + 7) / 8

/-- An entry may be mapped: into an RPDO 0x2510:01 alone; into a TPDO every ro OPERATOR object of 64 bits or less (R396), among which
0x1003, rw in Table 13.8, is none. -/
def mappable (tx : Bool) (v : Nat) : Bool :=
  let idx := v / 65536
  let sub := v / 256 % 256
  if tx then
    match odFind .sender idx sub with
    | some r => idx != 0x1003 && r.acc == .ro && r.lvl == .operator && r.ty.size != 0 && v % 256 == 8 * r.ty.size
    | none => false
  else idx == 0x2510 && sub == 1 && v % 256 == 0

/-- Bytes of the first n entries of a mapping. -/
def State.mapTotal (s : State) (idx n : Nat) : Nat :=
  ((List.range n).map fun k => mapBytes (s.rdN idx (k + 1))).sum

/-- A write of a mapping object (R396); an entry of 0 maps nothing, and stands beyond the enabled count alone. -/
def State.mapWrite (s : State) (tx : Bool) (idx sub : Nat) (v : Int) : Nat × State :=
  let s' := s.wrI idx sub v
  if sub = 0 then
    if (List.range v.toNat).any fun k => !mappable tx (s.rdN idx (k + 1)) then (abNotMappable, s)
    else if 64 < s.mapTotal idx v.toNat then (abPdoLength, s)
    else (0, s')
  else if (v ≠ 0 ∨ sub ≤ s.rdN idx 0) ∧ !mappable tx v.toNat then (abNotMappable, s)
  else if 64 < s'.mapTotal idx (s.rdN idx 0) then (abPdoLength, s)
  else (0, s')

/-- Communication and device objects (R391, R396, R403, R405). -/
def State.storeDevice (s : State) (idx sub : Nat) (v : Val) : Nat × State :=
  match idx with
  | 0x1003 => s.historyClear v.toInt
  | 0x1010 => s.storeWrite sub
  | 0x1011 => s.restoreWrite sub
  | 0x1016 => (s.wr idx sub v).withControl (fun k =>
      { k with hbLost := vmapi k.hbLost fun i x => if i + 1 = sub then false else x }) |>.ok
  | 0x2000 => s.resetWrite v.toInt
  | _ =>
    if 0x1600 ≤ idx ∧ idx ≤ 0x1603 then s.mapWrite false idx sub v.toInt
    else if 0x1A00 ≤ idx ∧ idx ≤ 0x1A03 then s.mapWrite true idx sub v.toInt
    else (s.wr idx sub v).ok

/-- Port objects (R47, R107, R108). -/
def State.storePort (s : State) (p : Fin 3) (sub : Nat) (v : Val) : Nat × State :=
  let idx := 0x2100 + p.1
  match sub with
  | 0x01 => s.portcWrite v.toInt
  | 0x04 => if v.toInt < s.rdI idx 0x03 then (abRange, s) else (s.wr idx sub v).ok
  | 0x06 => if p = 2 ∧ v.toInt ≠ 1 then (abRange, s) else (s.wr idx sub v).ok
  | 0x07 => if v.toInt < s.rdI idx 0x06 then (abRange, s) else (s.wr idx sub v).ok
  | 0x0D => s.loopbackWrite p v.toInt
  | 0x0E => s.testStateWrite p v.toInt
  | _ => (s.wr idx sub v).ok

/-- Lane objects (R103, R106, R109). -/
def State.storeLane (s : State) (l : Fin 24) (sub : Nat) (v : Val) : Nat × State :=
  match sub with
  | 0x02 => s.laneEnableWrite l v.toInt
  | 0x03 => s.detectWrite l v.toInt
  | 0x07 => s.tapsWrite l sub v.toInt
  | 0x08 => s.tapsWrite l sub v.toInt
  | 0x16 => s.laneClear l v.toInt
  | 0x20 => s.prbsTxWrite l v.toInt
  | 0x23 => s.prbsStart l v.toInt
  | 0x34 => s.injStart l v.toInt
  | _ => (s.wr (0x2110 + l) sub v).ok

/-- Chain, gateway and redundancy objects (R134, R141, R143, R161, R397, R406). -/
def State.storeChain (s : State) (c : CtxId) (idx sub : Nat) (v : Val) : Nat × State :=
  if h : (idx = 0x2200 ∨ idx = 0x2201) ∧ s.role = .sender then
    let p : Fin 2 := ⟨idx - 0x2200, by omega⟩
    if sub = 0x01 then s.chainNumberWrite p v.toInt
    else if sub = 0x04 then s.discoverWrite p v.toInt else (s.wr idx sub v).ok
  else if idx = 0x2200 then
    match sub with
    | 0x04 => s.repeatOnlyWrite v.toInt
    | 0x0F => s.chainClear v.toInt
    | _ => (s.wr idx sub v).ok
  else if idx = 0x2210 ∧ sub = 0x01 then (s.withCtx c fun x => { x with station := v.toInt.toNat }).ok
  else if idx = 0x2210 ∧ sub = 0x02 then (s.withCtx c fun x => { x with chain := v.toInt.toNat }).ok
  else if idx = 0x2212 ∧ sub = 0x03 then s.tileEventsClear v.toInt
  else if idx = 0x2300 ∧ sub = 0x01 ∧ s.role = .sender then s.modeWrite v.toInt
  else if h : (idx = 0x2300 ∨ idx = 0x2301) ∧ s.role = .sender ∧ (sub = 0x15 ∨ sub = 0x16) then
    let p : Fin 2 := ⟨idx - 0x2300, by omega⟩
    if sub = 0x15 then s.reclaimNowWrite p v.toInt else s.maintenanceWrite p v.toInt
  else (s.wr idx sub v).ok

/-- Streams, region map and frustum input (R54, R74, R337). -/
def State.storeIngress (s : State) (idx sub : Nat) (v : Val) : Nat × State :=
  if h : 0x2400 ≤ idx ∧ idx < 0x2420 then
    let n : Fin 32 := ⟨idx - 0x2400, by omega⟩
    if sub = 0x01 then s.streamEnable n v.toInt else s.streamParam n sub v.toInt
  else match idx, sub with
    | 0x2500, 0x03 => s.activateFrameWrite v.toInt.toNat
    | 0x2500, _ => s.mapTableWrite sub v.toData
    | 0x2510, 0x01 => s.frustumIn v.toData
    | _, _ => (s.wr idx sub v).ok

/-- A write of GL_OFFSET or FO_OFFSET, at most the wall frame period either way (R200). -/
def State.periodWrite (s : State) (sub : Nat) (v : Int) : Nat × State :=
  if s.quartz.set.periodNs < v.natAbs then (abRange, s) else (s.wrI 0x2600 sub v).ok

/-- Quartz objects (R174, R191 to R196, R200). -/
def State.storeQuartz (s : State) (sub : Nat) (v : Val) : Nat × State :=
  match sub with
  | 0x01 => s.sourceWrite v.toInt
  | 0x06 => s.rateWrite sub v.toInt.toNat
  | 0x07 => s.rateWrite sub v.toInt.toNat
  | 0x0E => s.rateWrite sub v.toInt.toNat
  | 0x08 => s.applyFrameWrite v.toInt.toNat
  | 0x0F => s.recomputeWrite v.toInt
  | 0x23 => s.todWrite v.toInt.toNat
  | 0x24 => s.stepNowWrite v.toInt
  | 0x1C => s.periodWrite sub v.toInt
  | 0x21 => s.periodWrite sub v.toInt
  | _ =>
    if (0x09 ≤ sub ∧ sub ≤ 0x0B) ∨ (0x10 ≤ sub ∧ sub ≤ 0x15) then s.stagedWrite sub v.toInt.toNat
    else (s.wr 0x2600 sub v).ok

/-- A write of CORR_SELECT: images A and B start a verification (R279). -/
def State.corrSelect (s : State) (v : Int) : Nat × State :=
  if v = 2 then (s.wrI 0x2930 0x01 v).ok
  else
    let r := s.verifyCorr v.toNat
    if r.1 = 0 then (0, r.2.wrI 0x2930 0x01 v) else r

/-- The picture path's objects (R221, R232, R246, R248, R251, R268, R279, R295). The reserved bits of WINDOW and
of DITHER_ORIGIN read as zero whatever is written to them (R7). -/
def State.storeVideo (s : State) (c : CtxId) (idx sub : Nat) (v : Val) : Nat × State :=
  if 0x2850 ≤ idx ∧ idx ≤ 0x285F then s.writeCoeff (idx - 0x2850) v.toData
  else if 0x2920 ≤ idx ∧ idx ≤ 0x2927 then s.writeTable (idx - 0x2920) v.toData
  else match idx, sub with
    | 0x2700, 0x0F => s.onOne v.toInt fun s => s.zero 0x2700 [0x05, 0x06, 0x07, 0x09, 0x0A, 0x0B, 0x0C, 0x0D]
    | 0x2880, 0x02 => s.requestCommit v.toInt.toNat
    | 0x2880, 0x06 => s.onOne v.toInt State.abortCommit
    | 0x2880, 0x07 =>
      (s.withControl fun k => { k with readView := vset k.readView (State.readCtx.viewOf c) (v.toInt != 0) }).ok
    | 0x2880, 0x0E => (s.wrN idx sub (v.toInt.toNat &&& 0x0FFF0FFF)).ok
    | 0x2900, 0x03 => if s.rdI 0x2900 0x02 < v.toInt then (abRange, s) else (s.wr idx sub v).ok
    | 0x2900, 0x05 => (s.wrN idx sub (v.toInt.toNat &&& 0x00FFFFFF00FFFFFF)).ok
    | 0x2930, 0x01 => s.corrSelect v.toInt
    | 0x2930, 0x03 => s.verifyCorr v.toInt.toNat
    | _, _ => (s.wr idx sub v).ok

/-- Lamp ports, frustum, diagnostics and engines (R318, R325, R338, R349, R351, R377). -/
def State.storeLamps (s : State) (idx sub : Nat) (v : Val) : Nat × State :=
  if h : 0x2A00 ≤ idx ∧ idx < 0x2A40 then
    let p : Fin 64 := ⟨idx - 0x2A00, by omega⟩
    match sub with
    | 0x09 => if v.toInt = 0 then s.ok else s.startEnum p
    | 0x18 => s.onOne v.toInt fun s => s.clearPort p
    | _ => (s.wr idx sub v).ok
  else if h : 0x2C10 ≤ idx ∧ idx < 0x2C50 ∧ sub = 0x0F then
    s.onOne v.toInt fun s => s.clearEngine ⟨idx - 0x2C10, by omega⟩
  else match idx, sub with
    | 0x2A80, 0x07 => s.writeFrustum v.toData
    | 0x2B00, 0x10 => s.startSweep v.toInt.toNat
    | 0x2B00, 0x17 => s.onOne v.toInt State.clearDiag
    | _, _ => (s.wr idx sub v).ok

/-- Clocks, levels, calibration and flash (R441, R453, R473, R475, R488, R489). -/
def State.storePlatform (s : State) (c : CtxId) (idx sub : Nat) (v : Val) : Nat × State :=
  match idx, sub with
  | 0x2D00, 0x01 => (s.wr idx sub v).trackLevel.ok
  | 0x2D00, 0x02 => (s.wr idx sub v).trackLevel.ok
  | 0x2D00, 0x15 => s.clocksClear v.toInt
  | 0x2D00, 0x21 => s.freqStart v.toInt
  | 0x2F00, 0x01 => s.calStart c v.toInt.toNat
  | 0x3000, 0x05 => s.factoryWrite
  | 0x3000, 0x14 => (s.withCtx c fun x => { x with bbReadSeq := v.toInt.toNat }).ok
  | 0x3000, 0x17 => (s.withCtx c fun x => { x with bbSevereOnly := v.toInt != 0 }).ok
  | 0x3000, 0x1B => s.resetPinned
  | _, _ => (s.wr idx sub v).ok

/-- Update, guards and access (R383 to R386, R507, R510, R512 to R514, R520, R532). -/
def State.storeService (s : State) (c : CtxId) (idx sub : Nat) (v : Val) : Nat × State :=
  let l := s.ctxLevel c
  match idx, sub with
  | 0x3100, 0x14 => s.confirmWrite v.toInt
  | 0x3100, 0x1B => s.rollbackWrite v.toInt
  | 0x3100, 0x1C => s.finalizeWrite v.toInt
  | 0x3100, 0x31 => s.wuStart l.1 l.2 v.toInt
  | 0x3200, 0x02 => s.ceilProgram v.toInt
  | 0x3200, 0x03 => s.ceilLockWrite v.toInt
  | 0x3200, 0x10 => if s.otp.flashRate < v.toInt.toNat then (abRange, s) else (s.wr idx sub v).ok
  | 0x3200, 0x21 => s.bistStart v.toInt
  | 0x3300, 0x02 => s.login c v.toData
  | 0x3300, 0x04 => s.logout c v.toInt
  | 0x3300, 0x10 => s.ownerKeyWrite l.1 l.2 v.toData
  | 0x3300, 0x11 => s.ownerLockWrite c l.2 v.toInt
  | _, _ => (s.wr idx sub v).ok

/-- The effect of a value that has passed checks 1 to 8. -/
def State.storeObject (s : State) (c : CtxId) (idx sub : Nat) (v : Val) : Nat × State :=
  if idx < 0x2100 then s.storeDevice idx sub v
  else if h : 0x2100 ≤ idx ∧ idx < 0x2103 then s.storePort ⟨idx - 0x2100, by omega⟩ sub v
  else if h : 0x2110 ≤ idx ∧ idx < 0x2128 then s.storeLane ⟨idx - 0x2110, by omega⟩ sub v
  else if idx < 0x2400 then s.storeChain c idx sub v
  else if idx < 0x2600 then s.storeIngress idx sub v
  else if idx = 0x2600 then s.storeQuartz sub v
  else if idx < 0x2A00 then s.storeVideo c idx sub v
  else if idx < 0x2D00 then s.storeLamps idx sub v
  else if idx < 0x3100 then s.storePlatform c idx sub v
  else s.storeService c idx sub v

/-! ### The nine checks (R561) -/

/-- An object that the role only reads: on a tile those of R200, and transfer tables 0 to 2 (R267). -/
def OdRow.fixed (r : OdRow) (role : Role) (idx : Nat) : Bool :=
  r.acc == .ro || r.acc == .const || (r.role == .tileRo && role == .tile) || (0x2920 ≤ idx && idx ≤ 0x2922)

/-- The level of a context suffices for a write (R381, R385). -/
def State.levelOk (s : State) (c : CtxId) (r : OdRow) (idx sub : Nat) : Bool :=
  let l := s.ctxLevel c
  if r.lvl == .owner then
    l.2 || (idx == 0x3300 && sub == 0x10 && (s.rdD 0x3300 0x10).isEmpty && decide (3 ≤ l.1))
  else decide (r.lvl.rank ≤ l.1)

/-- Checks 1 to 6 of a write: the abort code of the first that fails, or the row of the object. -/
def State.writeChecks (s : State) (c : CtxId) (idx sub : Nat) : Except Nat OdRow :=
  if !odIndexExists s.role idx then .error abNoObject
  else match odFind s.role idx sub with
    | none => .error (if sub = 0 ∧ !odHeld s.role idx then abReadOnly else abNoSub)
    | some r =>
      if r.role.heldDown s.role then .error abNoSub
      else if r.fixed s.role idx then .error abReadOnly
      else if !s.levelOk c r idx sub then .error abLevel
      else if s.rdB 0x3300 0x11 && r.lvl != .operator && !(s.ctxLevel c).2 then .error abOwner
      else .ok r

/-- A value of the wrong length, with the events that two kinds of DOMAIN raise for every refused write (R232, R268). -/
def State.wrongLength (s : State) (idx sub : Nat) : Nat × State :=
  if 0x2850 ≤ idx ∧ idx ≤ 0x285F ∧ sub = 1 then s.refuseCoeff (idx - 0x2850) abLength
  else if 0x2923 ≤ idx ∧ idx ≤ 0x2927 ∧ sub = 1 then s.refuseTable (idx - 0x2920) abLength 1
  else (abLength, s)

/-- 0x2301 mirrors 0x2300 at a single sender (R165). -/
def State.mirror (s : State) (idx : Nat) : Nat :=
  if idx = 0x2301 ∧ s.role = .sender ∧ s.rdB 0x2300 0x01 then 0x2300 else idx

/-- A write of an object of this device, all nine checks made (R561). -/
def State.writeLocal (s : State) (c : CtxId) (idx0 sub : Nat) (b : List Byte) : Nat × State :=
  let idx := s.mirror idx0
  match s.writeChecks c idx sub with
  | .error e => (e, s)
  | .ok r =>
    if !r.ty.fits b.length then s.wrongLength idx sub
    else
      let v := r.ty.value b
      if !r.ty.isData && !r.rng.ok v.toInt then (abRange, s)
      else s.storeObject c idx sub v

/-- A read of an object of this device (R561), 0x2301 mirroring 0x2300 at a single sender (R165). -/
def State.readLocal (s : State) (c : CtxId) (idx sub : Nat) : Nat × List Byte × State :=
  s.readObject c (s.mirror idx) sub

/-! ### The window (R43, R397, R398) -/

/-- The longest value that a gateway transaction carries (R399). -/
def gatewayLimit : Nat := 57344

/-- What stands behind an index of the window: chain port, tile index and station; or the abort code. -/
def State.windowChecks (s : State) (c : CtxId) (idx sub : Nat) : Except Nat (Fin 2 × Nat × Nat) :=
  match tileIndex idx, s.ctx? c with
  | some i, some x =>
    if s.role ≠ .sender then .error abNoObject
    else if i = 0x3300 ∧ [0x01, 0x02, 0x09, 0x0A, 0x10].contains sub then .error abLevel
    else match s.ctxPort c with
      | none => .error abState
      | some p =>
        let n := (s.rdD (0x2200 + p) 0x08).length / 12
        if !s.controls p then .error abState
        else if !(List.range n).any fun k => byteAt (s.rdD (0x2200 + p) 0x08) (12 * k + 6) == BitVec.ofNat 8 x.station then
          .error abCannot
        else .ok (p, i, x.station)
  | _, _ => .error abNoObject

/-- The context makes a request now (R382). -/
def State.touchCtx (s : State) (c : CtxId) : State := s.withCtx c fun x => { x with lastRequest := s.now }

/-- A completed write of a context, through the gateway where the index lies in the window; its outcome is put out. -/
def State.objectWrite (s : State) (c : CtxId) (idx sub : Nat) (b : List Byte) : State :=
  if !s.up then s
  else
    let s := s.touchCtx c
    if (tileIndex idx).isSome then
      match s.windowChecks c idx sub with
      | .error e => s.emit (.written c idx sub e)
      | .ok (p, i, station) =>
        if gatewayLimit < b.length then s.emit (.written c idx sub abTooLong)
        else
          let l := s.ctxLevel c
          s.gwOpenTx p c .plain l.1 l.2 i sub station b false
    else
      let (e, s) := s.writeLocal c idx sub b
      s.emit (.written c idx sub e)

/-- A write of a number to an object of n bytes. -/
def State.numWrite (s : State) (c : CtxId) (idx sub : Nat) {n : Nat} (v : BitVec n) : State :=
  s.objectWrite c idx sub (leBytes (n / 8) v.toNat)

/-- `OBJECT_WRITE` (R380, R561): a completed write of any object. -/
def execObjectWrite (c : CtxId) (idx : BitVec 16) (sub : BitVec 8) (value : List Byte) (s : State) : Out1 :=
  .next (s.objectWrite c idx.toNat sub.toNat value)

end Sys2Proof.Machine
end

