-- ==== Sys2Proof/Machine/Sdo.lean ====
section
/-! DEFINITION. SDO frames: expedited, segmented and block transfer in 8-byte and 64-byte frames (R379, R380, R389, R561,
CiA 301), and SDO and RPDO over UDP (R392, R393). -/

namespace Sys2Proof.Machine

open Host

/-! ### Frames -/

/-- What a request frame is (CiA 301). -/
inductive SdoClass where
  | downloadSegment | initiateDownload | initiateUpload | uploadSegment | abort | blockUpload
  | blockInitiate | blockEnd | blockSegment | unknown
  deriving DecidableEq, Repr

/-- A block download is under way and its last segment has not come. -/
def Xfer.takesSegments : Xfer → Bool
  | .blkDown _ _ _ _ _ _ last _ => !last
  | _ => false

/-- The class of a frame: by its command specifier, except while a block is being received (CiA 301). -/
def sdoClass (x : Xfer) (frame : List Byte) : SdoClass :=
  let b := (byteAt frame 0).toNat
  if b ≠ 0x80 ∧ x.takesSegments then .blockSegment
  else match b / 32 with
    | 0 => .downloadSegment
    | 1 => .initiateDownload
    | 2 => .initiateUpload
    | 3 => .uploadSegment
    | 4 => .abort
    | 5 => .blockUpload
    | 6 => if bit b 0 then .blockEnd else .blockInitiate
    | _ => .unknown

/-- Index and sub-index of an initiate or abort frame. -/
def frameIndex (frame : List Byte) : Nat × Nat := (field frame 1 2, field frame 3 1)

/-- The object that a transfer in progress addresses. -/
def Xfer.object : Xfer → Option (Nat × Nat)
  | .idle => none
  | .segDown i n _ _ _ _ => some (i, n)
  | .segUp i n _ _ _ => some (i, n)
  | .blkDown i n _ _ _ _ _ _ => some (i, n)
  | .blkUp i n _ _ _ _ _ _ => some (i, n)
  | .gateway i n _ => some (i, n)

/-- The transfer waits for the gateway. -/
def Xfer.waits : Xfer → Bool
  | .gateway _ _ _ => true
  | _ => false

/-- The transfer's frames have 64 bytes. -/
def Xfer.wide : Xfer → Bool
  | .segDown _ _ _ _ _ w => w
  | .segUp _ _ _ _ w => w
  | .blkDown _ _ _ _ _ _ _ w => w
  | .blkUp _ _ _ _ _ _ _ w => w
  | .gateway _ _ w => w
  | .idle => false

/-- The transfer of a context; none open for a context that is gone. -/
def State.xferOf (s : State) (c : CtxId) : Xfer := ((s.ctx? c).map (·.xfer)).getD .idle

/-- Set the transfer of a context. -/
def State.setXfer (s : State) (c : CtxId) (x : Xfer) : State := s.withCtx c fun k => { k with xfer := x }

/-- End the transfer in progress with an abort; with none, the frame's own object is named. -/
def State.abortNow (s : State) (c : CtxId) (frame : List Byte) (code : Nat) : State :=
  let o := ((s.xferOf c).object).getD (frameIndex frame)
  s.abortSdo c (frame.length == 64) o.1 o.2 code

/-! ### Downloads -/

/-- Checks 1 to 6 of a write, and check 7 against an indicated size (R561): the abort code, 0 when they pass. -/
def State.initChecks (s : State) (c : CtxId) (idx sub : Nat) (size : Option Nat) : Nat × State :=
  if (tileIndex idx).isSome then
    match s.windowChecks c idx sub with
    | .error e => (e, s)
    | .ok _ => (if gatewayLimit < size.getD 0 then abTooLong else 0, s)
  else
    match s.writeChecks c (s.mirror idx) sub with
    | .error e => (e, s)
    | .ok r => match size with
      | some n => if r.ty.fits n then (0, s) else s.wrongLength (s.mirror idx) sub
      | none => (0, s)

/-- A gathered value: it is applied and answered, or goes to the tile in one transaction (R380, R400). -/
def State.settle (s : State) (c : CtxId) (wide : Bool) (idx sub : Nat) (kind : GwKind) (ok data : List Byte) : State :=
  if (tileIndex idx).isSome then
    match s.windowChecks c idx sub with
    | .error e => s.abortSdo c wide idx sub e
    | .ok (p, i, station) =>
      if gatewayLimit < data.length then s.abortSdo c wide idx sub abTooLong
      else
        let l := s.ctxLevel c
        (s.setXfer c (.gateway idx sub wide)).gwOpenTx p c kind l.1 l.2 i sub station data wide
  else
    let (e, s) := s.writeLocal c idx sub data
    if e ≠ 0 then s.abortSdo c wide idx sub e else (s.setXfer c .idle).answer c wide ok

/-- Bytes of the type behind an index, in the window that of the tile's object; 4 where it has no fixed size or a larger one
(R379). -/
def State.expeditedSize (s : State) (idx sub : Nat) : Nat :=
  let r := match tileIndex idx with
    | some i => odFind .tile i sub
    | none => odFind s.role (s.mirror idx) sub
  let n := (r.map fun r => r.ty.size).getD 0
  if n = 0 then 4 else min 4 n

/-- Initiate download (R379, R389, R561). -/
def State.initiateDownload (s : State) (c : CtxId) (frame : List Byte) : State :=
  let wide := frame.length == 64
  let cmd := (byteAt frame 0).toNat
  let (idx, sub) := frameIndex frame
  let s := s.setXfer c .idle
  let expedited := bit cmd 1
  let size := if bit cmd 0 then some (if expedited then 4 - bits cmd 3 2 else field frame 4 4) else none
  let (e, s) := s.initChecks c idx sub size
  if e ≠ 0 then s.abortSdo c wide idx sub e
  else if expedited then
    s.settle c wide idx sub (.download none) (sdoHead 0x60 idx sub) ((frame.drop 4).take (size.getD (s.expeditedSize idx sub)))
  else (s.setXfer c (.segDown idx sub [] size false wide)).answer c wide (sdoHead 0x60 idx sub)

/-- The data of a download segment; none where a 64-byte frame's COUNT lies outside 1 to 62 (Table 13.4). -/
def segmentData (frame : List Byte) : Option (List Byte) :=
  if frame.length = 64 then
    let n := field frame 1 1
    if 1 ≤ n ∧ n ≤ 62 then some (slice frame 2 n) else none
  else some (slice frame 1 (7 - bits (byteAt frame 0).toNat 3 1))

/-- Download segment (R380, R389). -/
def State.downloadSegment (s : State) (c : CtxId) (frame : List Byte) : State :=
  let cmd := (byteAt frame 0).toNat
  let t := bit cmd 4
  match s.xferOf c, segmentData frame with
  | .segDown idx sub buf size toggle wide, some d =>
    let buf := buf ++ d
    if wide != (frame.length == 64) then s.abortNow c frame abCommand
    else if t != toggle then s.abortNow c frame abToggle
    else if decide (size.getD buf.length < buf.length) then s.abortNow c frame abLength
    else if (tileIndex idx).isSome && decide (gatewayLimit < buf.length) then s.abortNow c frame abTooLong
    else
      let ok := leBytes 1 (0x20 + bitAt t 4)
      if bit cmd 0 then
        if size.getD buf.length ≠ buf.length then s.abortNow c frame abLength
        else s.settle c wide idx sub (.download (some t)) ok buf
      else (s.setXfer c (.segDown idx sub buf size (!toggle) wide)).answer c wide ok
  | _, _ => s.abortNow c frame abCommand

/-! ### Uploads -/

/-- Read a value for an upload, which continues with the bytes, or through the gateway as a READ of the kind given. -/
def State.fetch (s : State) (c : CtxId) (wide : Bool) (idx sub : Nat) (kind : GwKind)
    (go : List Byte → State → State) : State :=
  if (tileIndex idx).isSome then
    match s.windowChecks c idx sub with
    | .error e => s.abortSdo c wide idx sub e
    | .ok (p, i, station) =>
      let l := s.ctxLevel c
      (s.setXfer c (.gateway idx sub wide)).gwOpenTx p c kind l.1 l.2 i sub station [] wide
  else
    let (e, d, s) := s.readLocal c idx sub
    if e ≠ 0 then s.abortSdo c wide idx sub e else go d s

/-- Initiate upload (R380, R389, R400). -/
def State.initiateUpload (s : State) (c : CtxId) (frame : List Byte) : State :=
  let wide := frame.length == 64
  let (idx, sub) := frameIndex frame
  (s.setXfer c .idle).fetch c wide idx sub .upload fun d s => s.startUpload c wide idx sub d

/-- Upload segment: the next 7 bytes of the snapshot, or 62 (R389). -/
def State.uploadSegment (s : State) (c : CtxId) (frame : List Byte) : State :=
  match s.xferOf c with
  | .segUp idx sub rest toggle wide =>
    if wide != (frame.length == 64) then s.abortNow c frame abCommand
    else if bit (byteAt frame 0).toNat 4 != toggle then s.abortNow c frame abToggle
    else
      let n := if wide then 62 else 7
      let d := rest.take n
      let last := decide (rest.length ≤ n)
      let cmd := bitAt toggle 4 + bitAt last 0
      let f := if wide then leBytes 1 cmd ++ leBytes 1 d.length ++ d else leBytes 1 (cmd + 2 * (7 - d.length)) ++ d
      (s.setXfer c (if last then .idle else .segUp idx sub (rest.drop n) (!toggle) wide)).answer c wide f
  | _ => s.abortNow c frame abCommand

/-! ### Block transfer -/

/-- Data bytes of a block segment (Table 13.4). -/
def blockData (wide : Bool) : Nat := if wide then 63 else 7

/-- Initiate block download: blocks of 127 segments, CRC supported (R387). -/
def State.blockInitiate (s : State) (c : CtxId) (frame : List Byte) : State :=
  let wide := frame.length == 64
  let cmd := (byteAt frame 0).toNat
  let (idx, sub) := frameIndex frame
  let s := s.setXfer c .idle
  let size := if bit cmd 1 then some (field frame 4 4) else none
  let (e, s) := s.initChecks c idx sub size
  if e ≠ 0 then s.abortSdo c wide idx sub e
  else (s.setXfer c (.blkDown idx sub [] size 1 (bit cmd 2) false wide)).answer c wide (sdoHead 0xA4 idx sub ++ leBytes 1 127)

/-- Block segment: taken when its number is the next; the block is acknowledged after its 127th segment or its last. -/
def State.blockSegment (s : State) (c : CtxId) (frame : List Byte) : State :=
  let b := (byteAt frame 0).toNat
  let n := b % 128
  match s.xferOf c with
  | .blkDown idx sub buf size seq crc _ wide =>
    if wide != (frame.length == 64) then s.abortNow c frame abCommand
    else if n = 0 then s.abortNow c frame abSequence
    else
      let buf' := if n = seq then buf ++ (frame.drop 1).take (blockData wide) else buf
      let seq' := if n = seq then seq + 1 else seq
      let lastHere := bit b 7
      if (tileIndex idx).isSome && decide (gatewayLimit + blockData wide < buf'.length) then s.abortNow c frame abTooLong
      else if lastHere || n == 127 then
        (s.setXfer c (.blkDown idx sub buf' size 1 crc (lastHere && n == seq) wide)).answer c wide
          (leBytes 1 0xA2 ++ leBytes 1 (seq' - 1) ++ leBytes 1 127)
      else s.setXfer c (.blkDown idx sub buf' size seq' crc false wide)
  | _ => s.abortNow c frame abCommand

/-- End block download: the CRC and the length, then the remaining checks (R389, R561). -/
def State.blockEnd (s : State) (c : CtxId) (frame : List Byte) : State :=
  match s.xferOf c with
  | .blkDown idx sub buf size _ crc last wide =>
    let unused := if wide then field frame 3 1 else bits (byteAt frame 0).toNat 4 2
    if wide != (frame.length == 64) || !last || decide (62 < unused) then s.abortNow c frame abCommand
    else
      let d := buf.take (buf.length - unused)
      if crc && decide ((sdoCrc d).toNat ≠ field frame 1 2) then s.abortNow c frame abCrc
      else if size.getD d.length ≠ d.length then s.abortNow c frame abLength
      else s.settle c wide idx sub .blockDownload (leBytes 1 0xA1) d
  | _ => s.abortNow c frame abCommand

/-- Segments of the block of an upload that follows `acked` bytes. -/
def blockLen (snap : List Byte) (acked blksize : Nat) (wide : Bool) : Nat :=
  let m := blockData wide
  min blksize (max 1 ((snap.length - acked + m - 1) / m))

/-- Send the segments of the next block of an upload. -/
def State.sendBlock (s : State) (c : CtxId) (snap : List Byte) (acked blksize : Nat) (wide : Bool) : State :=
  let m := blockData wide
  let rest := snap.drop acked
  (List.range (blockLen snap acked blksize wide)).foldl (fun s k =>
    let last := decide (rest.length ≤ (k + 1) * m)
    s.answer c wide (leBytes 1 (k + 1 + bitAt last 7) ++ (rest.drop (k * m)).take m)) s

/-- Block upload: initiate, start, acknowledgement of a block, and end (CiA 301). -/
def State.blockUpload (s : State) (c : CtxId) (frame : List Byte) : State :=
  let w := frame.length == 64
  let cmd := (byteAt frame 0).toNat
  match cmd % 4, s.xferOf c with
  | 0, _ =>
    let (idx, sub) := frameIndex frame
    let n := field frame 4 1
    let s := s.setXfer c .idle
    if n = 0 ∨ 127 < n then s.abortSdo c w idx sub abBlockSize
    else s.fetch c w idx sub (.blockUpload n (bit cmd 2)) fun d s => s.startBlockUpload c w idx sub n (bit cmd 2) d
  | 3, .blkUp idx sub snap acked n crc 0 wide =>
    if wide != w then s.abortNow c frame abCommand
    else (s.setXfer c (.blkUp idx sub snap acked n crc 1 wide)).sendBlock c snap acked n wide
  | 2, .blkUp idx sub snap acked n crc 1 wide =>
    let got := field frame 1 1
    let next := field frame 2 1
    let m := blockData wide
    if wide != w then s.abortNow c frame abCommand
    else if blockLen snap acked n wide < got then s.abortNow c frame abSequence
    else if next = 0 ∨ 127 < next then s.abortNow c frame abBlockSize
    else
      let acked' := acked + got * m
      if max 1 snap.length ≤ acked' then
        let unused := acked' - snap.length
        let crcNow := if crc then (sdoCrc snap).toNat else 0
        let f := if wide then leBytes 1 0xC1 ++ leBytes 2 crcNow ++ leBytes 1 unused
          else leBytes 1 (0xC1 + 4 * unused) ++ leBytes 2 crcNow
        (s.setXfer c (.blkUp idx sub snap acked' next crc 2 wide)).answer c wide f
      else (s.setXfer c (.blkUp idx sub snap acked' next crc 1 wide)).sendBlock c snap acked' next wide
  | 1, .blkUp _ _ _ _ _ _ 2 wide => if wide != w then s.abortNow c frame abCommand else s.setXfer c .idle
  | _, _ => s.abortNow c frame abCommand

/-- A client's abort: the transfer ends, a transaction of its gateway is forgotten, and the old value stays (R380). -/
def State.takeAbort (s : State) (c : CtxId) : State := (s.setXfer c .idle).forgetGw fun x => x == c

/-- Act on a request frame. -/
def State.serve (s : State) (c : CtxId) (frame : List Byte) : State :=
  match sdoClass (s.xferOf c) frame with
  | .initiateDownload => s.initiateDownload c frame
  | .downloadSegment => s.downloadSegment c frame
  | .initiateUpload => s.initiateUpload c frame
  | .uploadSegment => s.uploadSegment c frame
  | .blockInitiate => s.blockInitiate c frame
  | .blockSegment => s.blockSegment c frame
  | .blockEnd => s.blockEnd c frame
  | .blockUpload => s.blockUpload c frame
  | .abort => s.takeAbort c
  | .unknown => s.abortNow c frame abCommand

/-! ### SDO commands -/

/-- A frame reaches an SDO server channel: the node serves SDO, the channel has a COB-ID for requests (R388), and a classic node takes 8-byte frames alone (R387, R390). -/
def State.sdoOpen (s : State) (c : CtxId) (frame : List Byte) : Bool :=
  s.up && (frame.length == 8 || frame.length == 64) && match c with
    | .can ch => s.canSdo && !bit (s.sdoCob ch 1) 31 && (frame.length == 8 || s.rdB 0x2003 0x04)
    | .udp ch => s.control.udp[ch].assoc.isSome
    | .host => true
    | .gateway _ _ => false

/-- A request frame of a class reaches a channel. While the gateway works on an access only an abort is taken. -/
def State.sdoRow (s : State) (c : CtxId) (k : SdoClass) (frame : List Byte) : State :=
  let x := s.xferOf c
  if s.sdoOpen c frame && sdoClass x frame == k && (!x.waits || k == .abort) then (s.touchCtx c).serve c frame else s

/-- `SDO_INITIATE_DOWNLOAD` (R389, R561). -/
def execSdoInitiateDownload (c : CtxId) (frame : List Byte) (s : State) : Out1 := .next (s.sdoRow c .initiateDownload frame)

/-- `SDO_DOWNLOAD_SEGMENT` (R380, R389). -/
def execSdoDownloadSegment (c : CtxId) (frame : List Byte) (s : State) : Out1 := .next (s.sdoRow c .downloadSegment frame)

/-- `SDO_INITIATE_UPLOAD` (R380, R389). -/
def execSdoInitiateUpload (c : CtxId) (frame : List Byte) (s : State) : Out1 := .next (s.sdoRow c .initiateUpload frame)

/-- `SDO_UPLOAD_SEGMENT` (R389). -/
def execSdoUploadSegment (c : CtxId) (frame : List Byte) (s : State) : Out1 := .next (s.sdoRow c .uploadSegment frame)

/-- `SDO_BLOCK_DOWNLOAD_INITIATE` (R389). -/
def execSdoBlockDownloadInitiate (c : CtxId) (frame : List Byte) (s : State) : Out1 := .next (s.sdoRow c .blockInitiate frame)

/-- `SDO_BLOCK_SEGMENT` (R389). -/
def execSdoBlockSegment (c : CtxId) (frame : List Byte) (s : State) : Out1 := .next (s.sdoRow c .blockSegment frame)

/-- `SDO_BLOCK_DOWNLOAD_END` (R389). -/
def execSdoBlockDownloadEnd (c : CtxId) (frame : List Byte) (s : State) : Out1 := .next (s.sdoRow c .blockEnd frame)

/-- `SDO_BLOCK_UPLOAD_INITIATE`: the frames of a block upload (R389). -/
def execSdoBlockUploadInitiate (c : CtxId) (frame : List Byte) (s : State) : Out1 := .next (s.sdoRow c .blockUpload frame)

/-- `SDO_ABORT_RECEIVE` (R380). -/
def execSdoAbortReceive (c : CtxId) (frame : List Byte) (s : State) : Out1 := .next (s.sdoRow c .abort frame)

/-- `SDO_PROTOCOL_TIMEOUT`: 1 s without the next frame of a transfer (R380, Table 13.1). -/
def execSdoProtocolTimeout (c : CtxId) (s : State) : Out1 :=
  match s.ctx? c with
  | none => .next s
  | some x =>
    if !s.up || x.xfer.waits then .next s
    else match x.xfer.object with
      | none => .next s
      | some (idx, sub) => .next ((s.until_ (x.lastRequest + second)).abortSdo c x.xfer.wide idx sub abTimeout)

/-- `CHALLENGE_READ`: an upload of CHALLENGE (R383). -/
def execChallengeRead (c : CtxId) (s : State) : Out1 :=
  .next (s.sdoRow c .initiateUpload (padTo 8 (sdoHead 0x40 0x3300 0x01)))

/-! ### RPDOs (R396) -/

/-- An RPDO for its mapped object; one of the wrong length or out of time is dropped with event 0x1307. `n` is 0 for
RPDO 1. -/
def State.takeRpdo (s : State) (n : Fin 4) (udp : Bool) (data : List Byte) : State :=
  if bit (s.pdoCob false n) 31 then s
  else if s.control.nmt ≠ .operational ∨ data.length ≠ s.mapTotal (0x1600 + n) (s.rdN (0x1600 + n) 0) then
    s.raiseLimited 0x1307 0 second fun _ => det (bitAt udp 0) (n + 1)
  else if data = [] then s
  else (s.frustumIn data).2

/-- `RPDO_RECEIVE`: a classic node takes no frame of more than 8 bytes on CAN (R387, R396). -/
def execRpdoReceive (n : Fin 4) (udp : Bool) (data : List Byte) (s : State) : Out1 :=
  if s.isSender && (udp || s.rdB 0x2003 0x04 || decide (data.length ≤ 8)) then .next (s.takeRpdo n udp data) else .next s

/-! ### UDP (R392, R393) -/

/-- A datagram that is dropped and counted (R392). -/
def State.dropDatagram (s : State) : State := s.withControl fun k => { k with udpDropped := k.udpDropped + 1 }

/-- The time for which an association keeps its channel after its last request (R393). -/
def assocHold : Nat := 10 * second

/-- A request of the association that a channel serves. -/
def State.udpServe (s : State) (ch : Fin 8) (tag : Nat) (frame : List Byte) : State :=
  let s := s.withControl fun k => { k with
    udp := vmod k.udp ch fun u => { u with
      lastTag := some tag
      lastRequest := s.now
      busy := true } }
  let s := (s.touchCtx (.udp ch)).serve (.udp ch) frame
  if (s.xferOf (.udp ch)).waits then s
  else s.withControl fun k => { k with udp := vmod k.udp ch fun u => { u with busy := false } }

/-- An SDO request on a channel (R393). -/
def State.udpRequest (s : State) (ch : Fin 8) (src : Nat × Nat) (tag : Nat) (frame : List Byte) : State :=
  let u := s.control.udp[ch]
  if u.assoc = some src then
    if u.busy then s
    else if u.lastTag = some tag then
      let s := s.withControl fun k => { k with udp := vmod k.udp ch fun u => { u with lastRequest := s.now } }
      if u.lastResponse = [] then s else (s.touchCtx (.udp ch)).emit (.udp src.1 src.2 u.lastResponse)
    else s.udpServe ch tag frame
  else if u.assoc.isSome ∧ s.now < u.lastRequest + assocHold then
    let o := frameIndex frame
    s.emit (.udp src.1 src.2 (sdoDatagram ch tag (padTo frame.length (abortFrame o.1 o.2 abState))))
  else
    let s := s.forgetGw fun x => x == .udp ch
    let (x, s) := s.newCtx (s.rdN 0x3300 0x07)
    let s := s.withControl fun k => { k with
      udp := vset k.udp ch { ctx := x, assoc := some src, lastTag := none, lastResponse := [], lastRequest := s.now, busy := false } }
    s.udpServe ch tag frame

/-- `UDP_DATAGRAM_RECEIVE` (R392, R393, R396). -/
def execUdpDatagramReceive (addr port : Nat) (data : List Byte) (s : State) : Out1 :=
  let kind := (byteAt data 0).toNat
  let ch := (byteAt data 1).toNat
  if !s.up then .next s
  else if kind = 0x11 ∧ ch < 8 ∧ (data.length = 12 ∨ data.length = 68) then
    .next (s.udpRequest ⟨ch % 8, Nat.mod_lt _ (by decide)⟩ (addr, port) (field data 2 2) (data.drop 4))
  else if kind = 0x13 ∧ 1 ≤ ch ∧ ch ≤ 4 ∧ field data 2 2 = 0 ∧ 4 ≤ data.length ∧ data.length ≤ 68 ∧ s.role = .sender then
    .next (s.takeRpdo ⟨(ch - 1) % 4, Nat.mod_lt _ (by decide)⟩ true (data.drop 4))
  else .next s.dropDatagram

/-- `UDP_ASSOCIATION_IDLE`: 10 s without a request free the channel, so that another association may take it (R393). Until one
does, the association keeps its context, its last TAG and its last response (R382, R393). -/
def execUdpAssociationIdle (ch : Fin 8) (s : State) : Out1 :=
  let u := s.control.udp[ch]
  if !s.up || u.assoc.isNone then .next s else .next (s.until_ (u.lastRequest + assocHold))

end Sys2Proof.Machine
end

