-- ==== Sys2Proof/Machine/Can.lean ====
section
/-! DEFINITION. The CAN node of a sender: NMT commands, SYNC and TPDOs, heartbeats, and LSS (R387 to R390, R394, R396,
CiA 301, CiA 305). -/

namespace Sys2Proof.Machine

open Host

/-! ### NMT (R390) -/

/-- The node is configured and takes NMT commands. -/
def State.nmtOpen (s : State) : Bool := s.isSender && s.control.nodeId != 0xFF

/-- An NMT command sets the state of the node. -/
def State.nmtSet (s : State) (n : Nmt) : State := if s.nmtOpen then s.withControl fun k => { k with nmt := n } else s

/-- `NMT_START` (R390). -/
def execNmtStart (s : State) : Out1 := .next (s.nmtSet .operational)

/-- `NMT_STOP` (R390). -/
def execNmtStop (s : State) : Out1 := .next (s.nmtSet .stopped)

/-- `NMT_ENTER_PRE_OPERATIONAL` (R390). -/
def execNmtEnterPreOperational (s : State) : Out1 := .next (s.nmtSet .preOperational)

/-- `NMT_RESET_COMMUNICATION`: command 130, ignored with event 0x1305 while NMT_RESET_ENABLE is 0 (R390). An unconfigured node takes it
too: a new node ID takes effect at it (R388). -/
def execNmtResetCommunication (s : State) : Out1 :=
  if !s.isSender then .next s
  else if !s.rdB 0x3300 0x0D then .next (s.raise 0x1305 (det 0 130))
  else .next s.restartCan

/-! ### TPDOs (R396) -/

/-- The bytes that a TPDO's mapping names, in order. -/
def State.tpdoData (s : State) (n : Fin 4) : List Byte :=
  (List.range (s.rdN (0x1A00 + n) 0)).flatMap fun k =>
    let e := s.rdN (0x1A00 + n) (k + 1)
    (s.readObject (.can 0) (e / 65536) (e / 256 % 256)).2.1

/-- A TPDO may be sent: enabled, and the node operational (R390, R396). -/
def State.tpdoOn (s : State) (n : Fin 4) : Bool :=
  s.isSender && s.control.nmt == .operational && !bit (s.pdoCob true n) 31

/-- Send a TPDO. A classic node cannot send one of more than 8 bytes (R387). -/
def State.sendTpdo (s : State) (n : Fin 4) : State :=
  let d := s.tpdoData n
  let s := s.withControl fun k => { k with syncCount := vset k.syncCount n 0, tpdoAt := vset k.tpdoAt n (some s.now) }
  if 8 < d.length ∧ !s.rdB 0x2003 0x04 then s else s.canSend (s.pdoCob true n % 2 ^ 29) d

/-- SYNC for one TPDO: a synchronous one is sent at every SYNC of its number. -/
def State.syncTpdo (s : State) (n : Fin 4) : State :=
  let t := s.rdN (0x1800 + n) 0x02
  if !s.tpdoOn n || t == 0 || decide (240 < t) then s
  else if t ≤ s.control.syncCount[n] + 1 then s.sendTpdo n
  else s.withControl fun k => { k with syncCount := vset k.syncCount n (k.syncCount[n] + 1) }

/-- `SYNC_RECEIVE` (R396). -/
def execSyncReceive (s : State) : Out1 := .next ((List.finRange 4).foldl State.syncTpdo s)

/-- `TPDO_EVENT_TIMER`: the event timer in ms, and the inhibit time in units of 100 µs (R396, CiA 301). -/
def execTpdoEventTimer (n : Fin 4) (s : State) : Out1 :=
  let timer := s.rdN (0x1800 + n) 0x05
  if !s.tpdoOn n || decide (s.rdN (0x1800 + n) 0x02 < 254) || timer == 0 then .next s
  else
    let last := s.control.tpdoAt[n].getD s.now
    .next ((s.until_ (max (last + timer * ms) (last + s.rdN (0x1800 + n) 0x03 * 100000))).sendTpdo n)

/-! ### Heartbeats (R387, R394) -/

/-- `HEARTBEAT_PRODUCE`: every HB_PRODUCER ms, in every NMT state (R387, R390). -/
def execHeartbeatProduce (s : State) : Out1 :=
  let t := s.rdN 0x1017 0
  if !s.nmtOpen || t == 0 then .next s
  else
    let s := s.until_ (s.control.hbAt + t * ms)
    .next ((s.withControl fun k => { k with hbAt := s.now }).canSend (0x700 + s.control.nodeId) (leBytes 1 s.control.nmt.code))

/-- `HEARTBEAT_CONSUMER_TIMEOUT`: an enabled entry of 0x1016 has missed its heartbeat (R387). -/
def execHeartbeatConsumerTimeout (k : Fin 4) (s : State) : Out1 :=
  let e := s.rdN 0x1016 (k + 1)
  if !s.nmtOpen || e % 65536 == 0 || e / 65536 % 256 == 0 then .next s
  else .next (s.withControl fun c => { c with hbLost := vset c.hbLost k true })

/-- The codes of an NMT state (CiA 301): the only bytes a heartbeat carries, since no reserved encoding is sent (R8). -/
def nmtCodes : List Nat := [0, 4, 5, 127]

/-- `UDP_HEARTBEAT_SEND`: KIND 5, one byte of NMT state, in both roles (R392, R394). A tile has no NMT state: which of the
codes it sends is a free value (DESIGN CHOICE, log entry 53). -/
def execUdpHeartbeatSend (s : State) : Out1 :=
  let dest := s.rdN 0x2002 0x06
  let t := s.rdN 0x2002 0x08
  if !s.up || dest == 0 || t == 0 then .next s
  else
    let s := s.until_ (s.control.udpHbAt + t * ms)
    let s := s.withControl fun k => { k with udpHbAt := s.now }
    let r := if s.role = .sender then (s.control.nmt.code, s)
      else (nmtCodes.getD (s.freeNat.1 % 4) 0, s.freeNat.2)
    .next (r.2.emit (.udp dest (s.rdN 0x2002 0x07) ([0x15, 0, 0, 0] ++ leBytes 1 r.1)))

/-! ### LSS (R387, R388, CiA 305)

LSS is no access context: neither a level nor the owner lock applies to it. -/

/-- An LSS answer, at 0x7E4. -/
def State.lssAnswer (s : State) (b : List Byte) : State := s.emit (.can 0x7E4 (padTo 8 b))

/-- Change the LSS state. -/
def State.withLss (s : State) (f : Lss → Lss) : State := s.withControl fun k => { k with lss := f k.lss }

/-- One of the four numbers of the identity, 0x1018:01 to :04. -/
def State.identity (s : State) (k : Nat) : Nat := (s.value (.can 0) 0x1018 (k + 1)).toInt.toNat

/-- A sender in the LSS configuration state. -/
def State.lssConfig (s : State) : Bool := s.isSender && s.control.lss.configuring

/-- `LSS_SWITCH_STATE_GLOBAL`: mode 1 configuration, 0 waiting. -/
def execLssSwitchStateGlobal (mode : Byte) (s : State) : Out1 :=
  if s.isSender && decide (mode.toNat ≤ 1) then .next (s.withLss fun l => { l with configuring := mode == 1 }) else .next s

/-- `LSS_SWITCH_STATE_SELECTIVE`: the node whose four identity numbers match enters configuration and answers. -/
def execLssSwitchStateSelective (vendor product revision serial : Word) (s : State) : Out1 :=
  if s.isSender && [vendor.toNat, product.toNat, revision.toNat, serial.toNat] == (List.range 4).map s.identity then
    .next ((s.withLss fun l => { l with configuring := true }).lssAnswer [0x44])
  else .next s

/-- `LSS_CONFIGURE_NODE_ID`: the new ID takes effect at the next reset communication (R388). -/
def execLssConfigureNodeId (id : Byte) (s : State) : Out1 :=
  let n := id.toNat
  let ok := decide (1 ≤ n ∧ n ≤ 127) || n == 255
  if s.lssConfig then
    .next ((if ok then s.wrN 0x2003 0x01 n else s).lssAnswer ([0x11] ++ leBytes 1 (bitAt (!ok) 0)))
  else .next s

/-- The arbitration rate behind an index of CiA 305's table 0, as 0x2003:02. -/
def lssRate : Nat → Option Nat
  | 0 => some 3
  | 2 => some 2
  | 3 => some 1
  | 4 => some 0
  | _ => none

/-- `LSS_CONFIGURE_BIT_TIMING`: table selector and index. -/
def execLssConfigureBitTiming (table index : Byte) (s : State) : Out1 :=
  let r := if table = 0 then lssRate index.toNat else none
  if s.lssConfig then
    .next ((s.withLss fun l => { l with pendingRate := if r.isSome then r else l.pendingRate }).lssAnswer
      ([0x13] ++ leBytes 1 (bitAt r.isNone 0)))
  else .next s

/-- `LSS_ACTIVATE_BIT_TIMING`: the configured rate applies after one delay, and the node is silent for another. -/
def execLssActivateBitTiming (delay : BitVec 16) (s : State) : Out1 :=
  match s.lssConfig, s.control.lss.pendingRate with
  | true, some r =>
    let s := s.pass (2 * delay.toNat * ms)
    .next (((s.wrN 0x2003 0x02 r).withControl fun k => { k with arbRate := r }).withLss fun l => { l with pendingRate := none })
  | _, _ => .next s

/-- `LSS_STORE_CONFIGURATION`: as a write of "save" to 0x1010:02 (R403); error 2 when it is refused. -/
def execLssStoreConfiguration (s : State) : Out1 :=
  if s.lssConfig then
    let (e, s) := s.storeWrite 2
    .next (s.lssAnswer ([0x17] ++ leBytes 1 (if e = 0 then 0 else 2)))
  else .next s

/-- `LSS_INQUIRE_IDENTITY`: 0 vendor, 1 product, 2 revision, 3 serial number. -/
def execLssInquireIdentity (k : Fin 4) (s : State) : Out1 :=
  if s.lssConfig then .next (s.lssAnswer (leBytes 1 (0x5A + k) ++ leBytes 4 (s.identity k))) else .next s

/-- `LSS_INQUIRE_NODE_ID`. -/
def execLssInquireNodeId (s : State) : Out1 :=
  if s.lssConfig then .next (s.lssAnswer ([0x5E] ++ leBytes 1 s.control.nodeId)) else .next s

/-- `LSS_IDENTIFY_REMOTE_SLAVE`: vendor, product, and ranges of revision and serial number. -/
def execLssIdentifyRemoteSlave (vendor product revLow revHigh serLow serHigh : Word) (s : State) : Out1 :=
  let hit := vendor.toNat == s.identity 0 && product.toNat == s.identity 1 &&
    decide (revLow.toNat ≤ s.identity 2 ∧ s.identity 2 ≤ revHigh.toNat) &&
    decide (serLow.toNat ≤ s.identity 3 ∧ s.identity 3 ≤ serHigh.toNat)
  if s.isSender && hit then .next (s.lssAnswer [0x4F]) else .next s

/-- `LSS_IDENTIFY_NON_CONFIGURED`. -/
def execLssIdentifyNonConfigured (s : State) : Out1 :=
  if s.isSender && s.control.nodeId == 0xFF then .next (s.lssAnswer [0x50]) else .next s

/-- `LSS_FASTSCAN`: an unconfigured node in the waiting state confirms bits of its identity, number by number, and enters
configuration when the last of its four is confirmed. -/
def execLssFastscan (idNumber : Word) (bitCheck lssSub lssNext : Byte) (s : State) : Out1 :=
  let l := s.control.lss
  let n := lssSub.toNat
  if !s.isSender || s.control.nodeId != 0xFF || l.configuring then .next s
  else if bitCheck = 128 then .next ((s.withLss fun l => { l with fastscanSub := 0 }).lssAnswer [0x4F])
  else if n = l.fastscanSub ∧ n < 4 ∧ bitCheck.toNat ≤ 31 ∧
      idNumber.toNat / 2 ^ bitCheck.toNat = s.identity n / 2 ^ bitCheck.toNat then
    let s := if bitCheck ≠ 0 then s
      else s.withLss fun l => { l with fastscanSub := lssNext.toNat % 4, configuring := decide (lssNext.toNat < n) }
    .next (s.lssAnswer [0x4F])
  else .next s

end Sys2Proof.Machine
end

