-- ==== Sys2Proof/Machine/FlashEnd.lean ====
section
/-! DEFINITION. The end of a flash operation, and what follows the end of each job (R470, R473, R477, R486, R489, R500, R504,
R509). -/

namespace Sys2Proof.Machine

open Host

/-- SETTINGS_GEN and SETTINGS_SCHEMA follow the generation in force. -/
def State.showSettings (s : State) : State :=
  match s.setInForce with
  | some (g, _) => (s.wrN 0x3000 0x03 g.gen).wrN 0x3000 0x04 g.schema
  | none => s

/-- A job has ended, every step verified. -/
def State.jobDone (s : State) (u : FlashPurpose) : State :=
  match u with
  | .bbCommit seq slot => s.committed seq slot
  | .bbAhead => s
  | .bbPinned => s.pinnedErased
  | .cal m => if m = 0 then s else s.calStored m
  | .settings _ kind =>
    match kind with
    | 2 => s.beginCold 3
    | 3 =>
      let old := match s.setInForce with
        | some (_, area) => ((s.setGen (1 - area)).map fun g => g.schema).getD 0
        | none => 0
      (s.showSettings.withUpdate fun x => { x with migrated := true }).raise 0x9208 (s.updDetail old)
    | 4 => s
    | _ => s.showSettings
  | .block session n => s.blockDone session n
  | .pointer next => s.pointerDone next

/-- A job has failed: its area's write fails with it; a migration raises event 0x9209 with cause 1, and nobody is answered for a
pointer (R470, R509). -/
def State.jobFails (s : State) (u : FlashPurpose) : State :=
  match u with
  | .settings _ 3 => s.raise 0x9209 (s.updDetail 1)
  | .pointer _ => s.withUpdate fun x => { x with reply := none }
  | _ => s

/-- A correction image loses its verification with the first write to its area (R279). -/
def State.touch (s : State) (x : FlashStep) : State :=
  let a := x.range.1
  let image (i : Nat) (s : State) : State := s.withColour fun c => { c with verified := c.verified.set! i false }
  if 0x400000 ≤ a ∧ a < 0x800000 then image 0 s else if 0x800000 ≤ a ∧ a < 0xC00000 then image 1 s else s

/-- The operation in progress ends; `ok` says that it completed in time and without error (R470). -/
def State.flashEnds (s : State) (ok : Bool) : State :=
  match s.nvm.issued, s.nvm.jobs with
  | true, j :: rest =>
    let s := s.withNvm fun n => { n with
      issued := false
      jobs := rest }
    match j.steps with
    | [] => s.issueFlash
    | x :: more =>
      let (good, s) := s.touch x |>.doStep x ok
      if !good then ((s.raise 0x8002 (det 0xFF (x.range.1 / 4096))).jobFails j.purpose).issueFlash
      else if more.isEmpty then (s.jobDone j.purpose).issueFlash
      else (s.withNvm fun n => { n with jobs := resumeJob { j with steps := more } rest }).issueFlash
  | _, _ => s

/-- `FLASH_OP_COMPLETE`: a program or erase completes and is verified, or fails (R470). -/
def execFlashOpComplete (ok : Bool) (s : State) : Out1 := .next (s.flashEnds ok)

/-- `FLASH_OP_TIMEOUT`: an operation exceeds its declared maximum time (R470). -/
def execFlashOpTimeout (s : State) : Out1 := .next (s.flashEnds false)

end Sys2Proof.Machine
end

