-- ==== Sys2Proof/Machine/Terminate.lean ====
section
/-! DEFINITION. Cells that a sender terminates: those of its peer, of the tiles, and its own that have come round the ring
(R27, R33, R129, R151, R188), and RELAY units (R151, R152). -/

namespace Sys2Proof.Machine

open Host

/-! ### Delivery -/

/-- The port that stands for the chain of a port: port A at a single sender. -/
def State.chainPort (s : State) (p : Fin 2) : Fin 2 := if s.single then 0 else p

/-- A good cell of a tile at a sender that controls the chain: TOPO reports as they come, the others once each through the
window of their station (R27, R120, R121, R132). -/
def State.deliver (s : State) (p : Fin 2) (c : Cell) : State :=
  if c.type = 6 then (if c.tsw 31 28 = 2 then s.takeReport p c.data else s)
  else if c.type ≠ 4 ∧ c.type ≠ 5 ∧ c.type ≠ 7 then s
  else
    let (new, s) := s.stationNew p c
    if !new then s
    else match c.type with
      | 4 => s.senderMgmt p c
      | 5 => s.wuTake p c.station c.data
      | _ => if c.tsw 31 31 = 1 then s.tileReport p c.data else s

/-- A good cell of a tile: delivered at the sender that controls the chain, and its MGMT, SERVICE and HEALTH forwarded by the
standby sender in a RELAY unit with no release time (R27, R151). -/
def State.fromTile (s : State) (p : Fin 2) (c : Cell) : State :=
  let q := s.chainPort p
  if s.controls q then s.deliver q c
  else if c.type = 4 ∨ c.type = 5 ∨ c.type = 7 then
    s.sendUnit 1 (if s.ports[p].peer = 0 then 31 else s.ports[p].peer) (s.chainNo p) 0 c.wire
  else s

/-- A TIMING cell that has come from the far end: the one-way delay of the ring, on the control sender's scale (R188). A
standby sender reports it to the control sender. -/
def State.ringSample (s : State) (p : Fin 2) (c : Cell) : State :=
  if c.origin = p ∨ !s.quartz.lockedOnce then s
  else
    let q := s.chainPort p
    let controls := s.controls q
    let now : Int := if controls then s.quartz.wall else s.quartz.wall + s.peerTheta p
    let ps := (unitsPs (now - stampAt c.data 4)).toNat % 2 ^ 32
    let s := s.wrN 0x2600 (0x48 + p) ps
    if controls then
      s.withQuartz fun x => { x with ringDelay := vmod x.ringDelay q fun r => if p = 1 then (ps, r.2) else (r.1, ps) }
    else s.sendMgmtUnit (if s.ports[p].peer = 0 then 31 else s.ports[p].peer) 4
      (leBytes 1 (s.chainNo p) ++ leBytes 1 (if p = 1 then 0 else 1) ++ leBytes 4 ps)

/-- A good terminated cell, by its origin (R27). -/
def State.terminate (s : State) (p : Fin 2) (c : Cell) : State :=
  if c.dest = 0 ∧ c.type ≠ 0 ∧ c.type ≠ 1 ∧ c.type ≠ 2 ∧ (c.type ≠ 7 ∨ c.tsw 31 31 = 1) then s.fromTile p c
  else if c.type = 7 ∧ c.tsw 31 31 = 0 then s.healthThroughRing p c.data
  else if c.type = 3 then s.ringSample p c
  else s

/-- A cell arrives at a chain port of a sender: it is counted, and a damaged one is delivered to nobody (R27, R129). -/
def State.arriveSender (s : State) (p : Fin 2) (r : RxCell) (mine : Bool) : State :=
  if !s.isSender || !s.portUp p then s
  else
    let s := s.bump (0x2200 + p) 0x10 1
    if r.damaged then s.bump (0x2200 + p) 0x11 1
    else if mine then s.terminate p r.cell
    else s

/-- `CELL_TERMINATE` (R27, R129). -/
def execCellTerminate (p : Fin 2) (r : RxCell) (s : State) : Out1 := .next (s.arriveSender p r true)

/-- `TOPO_REPORT_RECEIVE`: a tile's TOPO REPORT terminates (R134). -/
def execTopoReportReceive (p : Fin 2) (r : RxCell) (s : State) : Out1 :=
  .next (s.arriveSender p r (r.cell.type == 6 && r.cell.tsw 31 28 == 2))

/-- `MGMT_RESPONSE_RECEIVE`: a tile's RESPONSE terminates (R400). -/
def execMgmtResponseReceive (p : Fin 2) (r : RxCell) (s : State) : Out1 :=
  .next (s.arriveSender p r (r.cell.type == 4 && field r.cell.data 1 1 == 3))

/-- `MGMT_EVENT_RECEIVE`: a tile's EVENT terminates (R402). -/
def execMgmtEventReceive (p : Fin 2) (r : RxCell) (s : State) : Out1 :=
  .next (s.arriveSender p r (r.cell.type == 4 && field r.cell.data 1 1 == 4))

/-! ### RELAY units (R36, R151, R152) -/

/-- The named release time of a unit on the local scale (R181): the control sender's time less the offset towards it. -/
def State.relayAt (s : State) (p : Fin 2) (u : CascadeUnit) : Int :=
  ((u.relSec * second + u.relNs) * subNs : Nat) - s.peerTheta p

/-- `RELAY_UNIT_RECEIVE`: a tile's cell that the standby sender forwarded is delivered; a cell of the control sender waits for
its release time, or is discarded and counted when it comes too late (R151, R152). A released cell's CRC must stand (R129). -/
def execRelayUnitReceive (i : Fin 2) (u : CascadeUnit) (s : State) : Out1 :=
  let (mine, s) := s.takeUnit i u
  if !mine ∨ u.kind ≠ 1 then .next s
  else match s.portFor u.chain with
    | none => .next s
    | some p =>
      let c := cellOf u.body
      if !c.crcOk then .next s
      else if u.relSec = 0 ∧ u.relNs = 0 then
        .next (if s.controls p ∧ c.dest = 0 then s.deliver p c else s)
      else if s.controls p then .next s
      else
        let t := s.relayAt p u
        if t < s.quartz.wall then
          .next ((s.bump (0x2300 + p) 0x13 1).raiseLimited 0x400C p.1 second fun n => s.redDetail p (sat 0xFF n))
        else .next (s.release p t.toNat c)

end Sys2Proof.Machine
end

