-- ==== Sys2Proof/Machine/TileMgmt.lean ====
section
/-! DEFINITION. Management cells at a tile: transactions that it gathers, acts on and answers (R398 to R401), and the events it
sends to its control sender (R402). -/

namespace Sys2Proof.Machine

open Host

/-! ### Gathering (R399, R400) -/

/-- What a tile knows of an MGMT cell that starts or continues a transaction: its TXN, part and parts are in TSW. -/
structure MgmtHead where
  op : Nat
  level : Nat
  owner : Bool
  priority : Nat
  index : Nat
  sub : Nat
  txn : Nat
  length : Nat
  deriving DecidableEq, Repr

/-- The head of an MGMT cell (Table 13.6). -/
def mgmtHead (c : Cell) : MgmtHead :=
  let b := c.data
  let ctx := field b 2 1
  { op := field b 1 1, level := ctx % 16, owner := bit ctx 4, priority := field b 3 1, index := field b 4 2, sub := field b 6 1,
    txn := c.tsw 31 16, length := field b 12 4 }

/-- Take a part: the data of the transaction once all its parts have arrived. A tile gathers 16 transactions of each PRIORITY
at a time, the newest (DESIGN CHOICE, log entry 56). -/
def State.gather (s : State) (c : Cell) : Option (List Byte) × State :=
  let h := mgmtHead c
  let n := c.tsw 7 0 + 1
  let same (g : GwPartial) : Bool := g.priority == h.priority && g.txn == h.txn && g.op == h.op && g.total == n
  let old := s.control.gwPartials
  let had := ((old.find? same).map (·.parts)).getD []
  let parts := addPart had (c.tsw 15 8) (c.data.drop 16)
  let rest := old.filter fun g => !same g
  match joinParts parts n h.length with
  | some d => (some d, s.withControl fun k => { k with gwPartials := rest })
  | none =>
    let g : GwPartial := { priority := h.priority, txn := h.txn, op := h.op, total := n, parts := parts }
    let mine := (rest.filter fun g => g.priority == h.priority).take 15
    (none, s.withControl fun k => { k with gwPartials := g :: (mine ++ rest.filter fun g => g.priority != h.priority) })

/-- A good MGMT cell of an operation reaches a tile: its repeater, its window, and the parts. -/
def State.mgmtIn (s : State) (port : Fin 2) (r : RxCell) (op : Nat) : Option (List Byte) × State :=
  let s := s.arrive port r
  let c := r.cell
  if c.type ≠ 4 ∨ field c.data 0 1 ≠ 1 ∨ field c.data 1 1 ≠ op then (none, s)
  else
    let (new, s) := s.admitCell r
    if new then s.gather c else (none, s)

/-! ### Acting and answering (R398, R400) -/

/-- The group membership that a write to index 0, sub-index 1 stages (R32). -/
def groupList (b : List Byte) : List Nat := (List.range (b.length / 2)).map fun i => field b (2 * i) 2

/-- A write of the control sender alone: group membership (sub-index 1, R32), base delays (sub-index 2, R189) and the markers to
capture (sub-index 3, R187). Index 0, which no object holds, is the model's (DESIGN CHOICE, log entry 22). -/
def State.tableWrite (s : State) (sub : Nat) (b : List Byte) : Nat × State :=
  match sub with
  | 1 => (0, s.withTile fun t => { t with groupsStaged := groupList b })
  | 2 =>
    if b.length ≠ 18 then (abLength, s)
    else (0, s.withQuartz fun q => { q with servo := { q.servo with
      nextBase := some (field b 8 4, field b 12 4, field b 0 8, field b 16 1 == 1)
      stations := field b 17 1 } })
  | 3 => (0, s.nameMarks ((List.range (b.length / 2)).map fun i => field b (2 * i) 2))
  | _ => (abNoSub, s)

/-- What a tile captured of the named markers: of each, per port, departure and arrival, and its repeater latencies from A to B
and from B to A in ps (R187). -/
def State.hopReport (s : State) : List Byte :=
  let marks (k : Fin 4) : List Byte := s.lanes.link[k].hopMarks.flatMap fun h =>
    leBytes 2 h.count.toNat ++ leBytes 10 (h.dep.getD (2 ^ 80 - 1)) ++ leBytes 10 (h.arr.getD (2 ^ 80 - 1))
  let latency (k : Fin 4) : List Byte :=
    leBytes 4 (repeaterLatency s.lanes.link[k].rate (s.lanes.link[k].fec.getD false) (s.skewOf k))
  latency 0 ++ latency 1 ++ marks 0 ++ marks 1

/-- A read that reached a tile through the gateway, under the level it carries (R187, R398). -/
def State.tileRead (s : State) (h : MgmtHead) : Nat × List Byte × State :=
  if h.index = 0 then (if h.level = 4 ∧ h.sub = 3 then (0, s.hopReport, s) else (abLevel, [], s))
  else s.readLocal (.gateway h.level h.owner) h.index h.sub

/-- A write that reached a tile through the gateway, under the level it carries (R398). -/
def State.tileWrite (s : State) (h : MgmtHead) (d : List Byte) : Nat × State :=
  if h.index = 0 then
    if h.level = 4 then s.tableWrite h.sub d else (abLevel, s)
  else s.writeLocal (.gateway h.level h.owner) h.index h.sub d

/-- The cells of a RESPONSE (R399, R400). -/
def responseCells (h : MgmtHead) (abort : Nat) (d : List Byte) : List (Nat × List Byte) :=
  let n := mgmtParts d.length
  (List.range n).map fun k =>
    (mgmtTsw h.txn k n,
      mgmtPart 3 (ctxByte h.level h.owner) h.priority h.index h.sub abort d.length ((d.drop (224 * k)).take 224))

/-- Hold a response: the last 16 of each PRIORITY (R400). -/
def holdResponse (g : GwStored) (l : List GwStored) : List GwStored :=
  g :: ((l.filter fun x => x.priority == g.priority).take 15 ++ l.filter fun x => x.priority != g.priority)

/-- A complete transaction: a repeated TXN is answered from the store, a new one is acted on, and its response is held
(R400). -/
def State.transact (s : State) (h : MgmtHead) (act : State → Nat × List Byte × State) : State :=
  match s.control.gwStore.find? fun g => g.priority == h.priority && g.txn == h.txn with
  | some g => s.originateMgmt (responseCells { h with index := g.index, sub := g.sub } g.abort g.data)
  | none =>
    let (e, d, s) := act s
    let (e, d) := if gatewayLimit < d.length then (abTooLong, []) else (e, if e = 0 then d else [])
    let g : GwStored := { priority := h.priority, txn := h.txn, abort := e, data := d, index := h.index, sub := h.sub }
    (s.withControl fun k => { k with gwStore := holdResponse g k.gwStore }).originateMgmt (responseCells h e d)

/-- `MGMT_READ_RECEIVE` (R398, R400). -/
def execMgmtReadReceive (port : Fin 2) (r : RxCell) (s : State) : Out1 :=
  match s.mgmtIn port r 1 with
  | (none, s) => .next s
  | (some _, s) =>
    let h := mgmtHead r.cell
    .next (s.transact h fun s => s.tileRead h)

/-- `MGMT_WRITE_RECEIVE` (R398, R400). -/
def execMgmtWriteReceive (port : Fin 2) (r : RxCell) (s : State) : Out1 :=
  match s.mgmtIn port r 2 with
  | (none, s) => .next s
  | (some d, s) =>
    let h := mgmtHead r.cell
    .next (s.transact h fun s =>
      let (e, s) := s.tileWrite h d
      (e, [], s))

/-- `MGMT_BROADCAST_WRITE_RECEIVE`: applied by every tile, answered by none (R401). -/
def execMgmtBroadcastWriteReceive (port : Fin 2) (r : RxCell) (s : State) : Out1 :=
  match s.mgmtIn port r 5 with
  | (none, s) => .next s
  | (some d, s) => if r.cell.dest = 0xFFF then .next (s.tileWrite (mgmtHead r.cell) d).2 else .next s

/-! ### Events (R402) -/

/-- The data of an EVENT (Table 13.6). -/
def EventMsg.bytes (e : EventMsg) : List Byte := leBytes 2 e.code ++ leBytes 4 e.detail ++ leBytes 6 e.sec ++ leBytes 4 e.ns

/-- `TILE_EVENT_SEND`: the oldest event waiting, as soon as fewer than 20 have been sent within a second (R402). -/
def execTileEventSend (s : State) : Out1 :=
  match s.control.eventQueue with
  | [] => .next s
  | e :: rest =>
    if !s.isTile || s.station == 0 then .next s
    else
      let s := match s.control.eventTimes[19]? with
        | some t => s.until_ (t + second)
        | none => s
      let txn := s.control.eventTxn
      let s := s.withControl fun k => { k with
        eventQueue := rest
        eventTxn := (txn + 1) % 65536
        eventTimes := (s.now :: k.eventTimes).take 20 }
      .next (s.originateMgmt [(mgmtTsw txn 0 1, mgmtPart 4 0 0 0 0 0 16 e.bytes)])

end Sys2Proof.Machine
end

