-- ==== Sys2Proof/Machine/Frame.lean ====
section
/-! DEFINITION. The boundary of a wall frame: what every device, a tile and a sender do at T_frame(F) (R171, R192, R195). -/

namespace Sys2Proof.Machine

open Host

/-- A step that waits for a frame boundary is taken; on a sender it is the step of a rejoined island (R185, R199). -/
def State.takeStep (s : State) : State :=
  match s.quartz.servo.stepAtFrame with
  | none => s
  | some d =>
    let s := s.steer d
    let s := s.withQuartz fun q => { q with
      frame := q.set.frameAt q.wall
      servo := { q.servo with stepAtFrame := none } }
    s.raiseIf (s.role == .sender) 0x160C (s.quartzDetail (sat 0xFFFF (d.natAbs / (1000 * subNs))))

/-- Frame F begins: the frame counter advances, a timing change named for it is applied, and a step is taken. -/
def State.beginFrame (s : State) : State :=
  let f := s.quartz.frame + 1
  let s := (s.untilWall (s.tFrame f)).withQuartz fun q => { q with frame := f }
  let s := match s.quartz.pending with
    | some c => if c.frame ≤ f then s.applyChange c else s
    | none => s
  s.takeStep

/-! ### A tile -/

/-- Base delays named for this frame take force (R189). -/
def State.takeBaseDelays (s : State) (f : Nat) : State :=
  match s.quartz.servo.nextBase with
  | none => s
  | some (a, b, at_, provisional) =>
    if f < at_ then s
    else
      let s := s.withQuartz fun q => { q with servo := { q.servo with base := some (a, b), nextBase := none } }
      let s := ((s.wrN 0x2600 0x40 (s.delayFrom 0).toNat).wrN 0x2600 0x41 (s.delayFrom 1).toNat).wrN 0x2600 0x42 (if provisional then 1 else 2)
      s.raiseIf provisional 0x160B (s.quartzDetail 0)

/-- A generation takes force at its frame: group membership and the lamp ports (R32, R247, R297). -/
def State.takeGen (s : State) (before : Option Gen) (f : Nat) : State :=
  match s.genFor f with
  | none => s
  | some g =>
    let s := if before = some g then s
      else ((s.withTile fun t => { t with groups := g.groups }).newRates before g).switchPorts g s.microcode
    s.withCompose fun c => { c with gens := s.keptGens f c.gens }

/-- What a tile does at a frame boundary (R189, R209, R247, R338, R347, R371, R521). -/
def State.tileFrame (s : State) (before : Option Gen) (errors : List (Nat × Nat)) : State :=
  let f := s.quartz.frame
  let s := s.damageEngines errors
  let s := (s.takeBaseDelays f).takeGen before f
  let s := if s.video.store.filling.isNone then s.openFill f else s
  let s := s.beatCheck.frustumAt f
  let s := match s.genFor f with
    | some g => s.deriveShapes g f
    | none => s
  (List.finRange 64).foldl (fun s p => (s.chooseProbes f p).engineBoundary p) s

/-! ### A sender -/

/-- What a sender does at a frame boundary (R39, R42, R61, R72, R74, R146, R154, R178, R188, R190, R250). `errors`: streams whose stored frame reads
uncorrectable, and how many of their cells come before the first affected one. -/
def State.senderFrame (s : State) (errors : List (Nat × Nat)) : State :=
  let f := s.quartz.frame
  let s := match s.cascade.masterAt with
    | some m =>
      if f < m then s
      else if s.masterReached || s.mayElect then s.becomeMaster
      else s.withCascade fun c => { c with masterAt := none }
    | none => s
  let s := ((((s.takeTrims.activateMap f).judgeStandby 0).judgeStandby 1).lampsAgain 0 f).lampsAgain 1 f
  let s := (((s.commitInForce 0 f).commitInForce 1 f).recommit f).sliceFrame f errors
  s.derateFrame.sendPresence

/-- `FRAME_BOUNDARY`: wall time reaches T_frame(F) (R171). A device without a timing set has none. -/
def execFrameBoundary (errors : List (Nat × Nat)) (s : State) : Out1 :=
  if !s.up || !s.quartz.lockedOnce then .next s
  else
    let before := s.genNow
    let s := s.beginFrame
    .next (if s.role = .tile then s.tileFrame before errors else if s.role = .sender then s.senderFrame errors else s)

end Sys2Proof.Machine
end

