-- ==== Sys2Proof/Machine/Objects.lean ====
section
/-! DEFINITION. The commands that are a write of one object from an access context: the object's index, and the value as the
context sends it. All nine checks of R561 stand before the effect. -/

namespace Sys2Proof.Machine

open Host

/-- `RESET_WARM_COMMAND`: a write of 0x2000:10 (R445). -/
def execResetWarmCommand (c : CtxId) (s : State) : Out1 := .next (s.numWrite c 0x2000 0x10 (1#8))

/-- `RESET_COLD_COMMAND`: a write of 0x2000:10 (R445). -/
def execResetColdCommand (c : CtxId) (s : State) : Out1 := .next (s.numWrite c 0x2000 0x10 (2#8))

/-- `SETTINGS_STORE`: a write of 0x1010 (R473). -/
def execSettingsStore (c : CtxId) (group : Fin 4) (s : State) : Out1 := .next (s.numWrite c 0x1010 (group + 1) (0x65766173#32))

/-- `SETTINGS_RESTORE`: a write of 0x1011 (R403). -/
def execSettingsRestore (c : CtxId) (group : Fin 4) (s : State) : Out1 := .next (s.numWrite c 0x1011 (group + 1) (0x64616F6C#32))

/-- `FACTORY_RESET`: a write of 0x3000:05 (R473). -/
def execFactoryReset (c : CtxId) (s : State) : Out1 := .next (s.numWrite c 0x3000 0x05 (0x74636166#32))

/-- `ERROR_HISTORY_CLEAR`: a write of 0x1003:00 (R391). -/
def execErrorHistoryClear (c : CtxId) (s : State) : Out1 := .next (s.numWrite c 0x1003 0 (0#32))

/-- `COMMIT_FRAME`: a write of 0x2880:02 (R248). -/
def execCommitFrame (c : CtxId) (frame : BitVec 64) (s : State) : Out1 := .next (s.numWrite c 0x2880 0x02 frame)

/-- `COMMIT_ABORT_WRITE`: a write of 0x2880:06 (R251). -/
def execCommitAbortWrite (c : CtxId) (v : BitVec 8) (s : State) : Out1 := .next (s.numWrite c 0x2880 0x06 v)

/-- `COEFF_SET_WRITE`: a write of 0x2850+k:01 (R232). -/
def execCoeffSetWrite (c : CtxId) (k : Fin 16) (set : List Byte) (s : State) : Out1 := .next (s.objectWrite c (0x2850 + k) 0x01 set)

/-- `TF_TABLE_WRITE`: a write of 0x2920+k:01 (R268). -/
def execTfTableWrite (c : CtxId) (k : Fin 8) (table : List Byte) (s : State) : Out1 := .next (s.objectWrite c (0x2920 + k) 0x01 table)

/-- `CORR_SELECT_WRITE`: a write of 0x2930:01 (R279). -/
def execCorrSelectWrite (c : CtxId) (v : BitVec 8) (s : State) : Out1 := .next (s.numWrite c 0x2930 0x01 v)

/-- `CORR_VERIFY`: a write of 0x2930:03 (R279). -/
def execCorrVerify (c : CtxId) (v : BitVec 8) (s : State) : Out1 := .next (s.numWrite c 0x2930 0x03 v)

/-- `ENUM_START`: a write of 0x2A00+p:09 (R318). -/
def execEnumStart (c : CtxId) (p : Fin 64) (v : BitVec 8) (s : State) : Out1 := .next (s.numWrite c (0x2A00 + p) 0x09 v)

/-- `LAMP_PORT_COUNTER_CLEAR`: a write of 0x2A00+p:18 (R325). -/
def execLampPortCounterClear (c : CtxId) (p : Fin 64) (v : BitVec 8) (s : State) : Out1 := .next (s.numWrite c (0x2A00 + p) 0x18 v)

/-- `LAMP_DIAG_CLEAR`: a write of 0x2B00:17 (R351). -/
def execLampDiagClear (c : CtxId) (v : BitVec 8) (s : State) : Out1 := .next (s.numWrite c 0x2B00 0x17 v)

/-- `ENGINE_COUNTER_CLEAR`: a write of 0x2C10+p:0F (R377). -/
def execEngineCounterClear (c : CtxId) (p : Fin 64) (v : BitVec 8) (s : State) : Out1 := .next (s.numWrite c (0x2C10 + p) 0x0F v)

/-- `LANE_COUNTER_CLEAR`: a write of 0x2110+l:16 (R109). -/
def execLaneCounterClear (c : CtxId) (l : Fin 24) (v : BitVec 8) (s : State) : Out1 := .next (s.numWrite c (0x2110 + l) 0x16 v)

/-- `CHAIN_COUNTER_CLEAR`: a write of 0x2200:0F (R143). -/
def execChainCounterClear (c : CtxId) (v : BitVec 8) (s : State) : Out1 := .next (s.numWrite c 0x2200 0x0F v)

/-- `CLOCKS_COUNTER_CLEAR`: a write of 0x2D00:15 (R453). -/
def execClocksCounterClear (c : CtxId) (v : BitVec 8) (s : State) : Out1 := .next (s.numWrite c 0x2D00 0x15 v)

/-- `TILE_EVENTS_CLEAR`: a write of 0x2212:03 (R406). -/
def execTileEventsClear (c : CtxId) (v : BitVec 8) (s : State) : Out1 := .next (s.numWrite c 0x2212 0x03 v)

/-- `SWEEP_START`: a write of 0x2B00:10 (R349). -/
def execSweepStart (c : CtxId) (v : BitVec 8) (s : State) : Out1 := .next (s.numWrite c 0x2B00 0x10 v)

/-- `FRUSTUM_WRITE`: a write of 0x2A80:07 (R338). -/
def execFrustumWrite (c : CtxId) (record : List Byte) (s : State) : Out1 := .next (s.objectWrite c 0x2A80 0x07 record)

/-- `FRUSTUM_IN`: a write of 0x2510:01 (R337). -/
def execFrustumIn (c : CtxId) (record : List Byte) (s : State) : Out1 := .next (s.objectWrite c 0x2510 0x01 record)

/-- `PRBS_START`: a write of 0x2110+l:23 (R103). -/
def execPrbsStart (c : CtxId) (l : Fin 24) (v : BitVec 8) (s : State) : Out1 := .next (s.numWrite c (0x2110 + l) 0x23 v)

/-- `INJ_START`: a write of 0x2110+l:34 (R106). -/
def execInjStart (c : CtxId) (l : Fin 24) (s : State) : Out1 := .next (s.numWrite c (0x2110 + l) 0x34 (1#8))

/-- `INJ_STOP`: a write of 0x2110+l:34 (R106). -/
def execInjStop (c : CtxId) (l : Fin 24) (s : State) : Out1 := .next (s.numWrite c (0x2110 + l) 0x34 (0#8))

/-- `LOOPBACK_WRITE`: a write of 0x2100+p:0D (R107). -/
def execLoopbackWrite (c : CtxId) (p : Fin 3) (v : BitVec 8) (s : State) : Out1 := .next (s.numWrite c (0x2100 + p) 0x0D v)

/-- `TEST_STATE_WRITE`: a write of 0x2100+p:0E (R107). -/
def execTestStateWrite (c : CtxId) (p : Fin 3) (v : BitVec 8) (s : State) : Out1 := .next (s.numWrite c (0x2100 + p) 0x0E v)

/-- `PORTC_CONFIG_WRITE`: a write of 0x2102:01 (R47). -/
def execPortcConfigWrite (c : CtxId) (v : BitVec 8) (s : State) : Out1 := .next (s.numWrite c 0x2102 0x01 v)

/-- `REPEAT_ONLY_WRITE`: a write of 0x2200:04 (R141). -/
def execRepeatOnlyWrite (c : CtxId) (v : BitVec 8) (s : State) : Out1 := .next (s.numWrite c 0x2200 0x04 v)

/-- `DISCOVER`: a write of 0x2200+p:04 (R134). -/
def execDiscover (c : CtxId) (p : Fin 2) (v : BitVec 8) (s : State) : Out1 := .next (s.numWrite c (0x2200 + p) 0x04 v)

/-- `RECLAIM_NOW`: a write of 0x2300+p:15 (R161). -/
def execReclaimNow (c : CtxId) (p : Fin 2) (v : BitVec 8) (s : State) : Out1 := .next (s.numWrite c (0x2300 + p) 0x15 v)

/-- `MAINTENANCE_WRITE`: a write of 0x2300+p:16 (R161). -/
def execMaintenanceWrite (c : CtxId) (p : Fin 2) (v : BitVec 8) (s : State) : Out1 := .next (s.numWrite c (0x2300 + p) 0x16 v)

/-- `STREAM_ENABLE`: a write of 0x2400+n:01 (R54). -/
def execStreamEnable (c : CtxId) (n : Fin 32) (v : BitVec 8) (s : State) : Out1 := .next (s.numWrite c (0x2400 + n) 0x01 v)

/-- `ACTIVATE_FRAME_WRITE`: a write of 0x2500:03 (R74). -/
def execActivateFrameWrite (c : CtxId) (frame : BitVec 64) (s : State) : Out1 := .next (s.numWrite c 0x2500 0x03 frame)

/-- `APPLY_FRAME`: a write of 0x2600:08 (R192). -/
def execApplyFrame (c : CtxId) (frame : BitVec 64) (s : State) : Out1 := .next (s.numWrite c 0x2600 0x08 frame)

/-- `RECOMPUTE`: a write of 0x2600:0F (R191). -/
def execRecompute (c : CtxId) (v : BitVec 8) (s : State) : Out1 := .next (s.numWrite c 0x2600 0x0F v)

/-- `TOD_SET`: a write of 0x2600:23 (R174). -/
def execTodSet (c : CtxId) (seconds : BitVec 64) (s : State) : Out1 := .next (s.numWrite c 0x2600 0x23 seconds)

/-- `STEP_NOW`: a write of 0x2600:24 (R195). -/
def execStepNow (c : CtxId) (ns : BitVec 64) (s : State) : Out1 := .next (s.numWrite c 0x2600 0x24 ns)

/-- `FREQ_START`: a write of 0x2D00:21 (R453). -/
def execFreqStart (c : CtxId) (v : BitVec 8) (s : State) : Out1 := .next (s.numWrite c 0x2D00 0x21 v)

/-- `CAL_START`: a write of 0x2F00:01 (R475). -/
def execCalStart (c : CtxId) (v : BitVec 8) (s : State) : Out1 := .next (s.numWrite c 0x2F00 0x01 v)

/-- `BB_RESET_PINNED`: a write of 0x3000:1B (R489). -/
def execBbResetPinned (c : CtxId) (word : BitVec 32) (s : State) : Out1 := .next (s.numWrite c 0x3000 0x1B word)

/-- `CONFIRM`: a write of 0x3100:14 (R507). -/
def execConfirm (c : CtxId) (v : BitVec 8) (s : State) : Out1 := .next (s.numWrite c 0x3100 0x14 v)

/-- `ROLLBACK_NOW`: a write of 0x3100:1B (R510). -/
def execRollbackNow (c : CtxId) (v : BitVec 8) (s : State) : Out1 := .next (s.numWrite c 0x3100 0x1B v)

/-- `FINALIZE_NOW`: a write of 0x3100:1C (R510). -/
def execFinalizeNow (c : CtxId) (v : BitVec 8) (s : State) : Out1 := .next (s.numWrite c 0x3100 0x1C v)

/-- `WU_STAGE`: a write of 0x3100:31 (R512). -/
def execWuStage (c : CtxId) (s : State) : Out1 := .next (s.numWrite c 0x3100 0x31 (1#8))

/-- `WU_ARM`: a write of 0x3100:31 (R513). -/
def execWuArm (c : CtxId) (s : State) : Out1 := .next (s.numWrite c 0x3100 0x31 (2#8))

/-- `WU_ABORT`: a write of 0x3100:31 (R514). -/
def execWuAbort (c : CtxId) (s : State) : Out1 := .next (s.numWrite c 0x3100 0x31 (3#8))

/-- `CEIL_PROGRAM`: a write of 0x3200:02 (R520). -/
def execCeilProgram (c : CtxId) (entry : BitVec 64) (s : State) : Out1 := .next (s.numWrite c 0x3200 0x02 entry)

/-- `CEIL_LOCK`: a write of 0x3200:03 (R520). -/
def execCeilLock (c : CtxId) (v : BitVec 8) (s : State) : Out1 := .next (s.numWrite c 0x3200 0x03 v)

/-- `BIST_START`: a write of 0x3200:21 (R532). -/
def execBistStart (c : CtxId) (v : BitVec 8) (s : State) : Out1 := .next (s.numWrite c 0x3200 0x21 v)

/-- `LOGIN`: a write of 0x3300:02 (R383). -/
def execLogin (c : CtxId) (message : List Byte) (s : State) : Out1 := .next (s.objectWrite c 0x3300 0x02 message)

/-- `LOGOUT`: a write of 0x3300:04 (R382). -/
def execLogout (c : CtxId) (v : BitVec 8) (s : State) : Out1 := .next (s.numWrite c 0x3300 0x04 v)

/-- `OWNER_KEY_WRITE`: a write of 0x3300:10 (R385). -/
def execOwnerKeyWrite (c : CtxId) (keyBytes : List Byte) (s : State) : Out1 := .next (s.objectWrite c 0x3300 0x10 keyBytes)

/-- `OWNER_LOCK_WRITE`: a write of 0x3300:11 (R386). -/
def execOwnerLockWrite (c : CtxId) (v : BitVec 8) (s : State) : Out1 := .next (s.numWrite c 0x3300 0x11 v)

end Sys2Proof.Machine
end

