-- ==== Sys2Proof/Machine/Qspi.lean ====
section
/-! DEFINITION. The host port's commands: its address map, reads and writes of words, and SDO frames (R411 to R418). -/

namespace Sys2Proof.Machine

open Host

/-! ### Protocol errors -/

/-- Set bits of HP_ERR [3:0] (R411, R413, R418). A bit that was clear raises event 0x1404 with the new HP_ERR [3:0] (R430,
DEDUCED, log entry 93). -/
def State.hpError (s : State) (m : BitVec 5) : State :=
  let err := s.hostPort.err ||| m
  let told := s.hostPort.err == err
  let s := s.withHost fun h => { h with err := err }
  s.raiseIf (!told) 0x1404 (det3 0xFF hostMaster.toNat (err.toNat % 16))

/-! ### SDO frames of the host (R418) -/

/-- The bytes of HP_SDO_REQ. -/
def HostPort.request (h : HostPort) (n : Nat) : List Byte := h.sdoReq.toList.take n

/-- A GO write (R16, R418). Before READY there is nobody to process a request: the write does nothing (DEDUCED, log entry 49). A frame
that is answered by none, as within a block, is published with RSP_LEN 0 (DEDUCED, log entry 49). -/
def State.sdoGo (s : State) (len : Nat) : State :=
  if !s.up then s
  else if s.hostPort.rsltState = 1 then s.hpError 8#5
  else if len ≠ 8 ∧ len ≠ 64 then
    let s := s.withHost fun h => { h with
      rsltState := 3
      rspLen := 0
      rsltSeq := BitVec.ofNat 16 (nextSeq h.rsltSeq.toNat)
      sdoDone := true }
    s.cause abLength
  else
    let frame := s.hostPort.request len
    let s := (s.withHost fun h => { h with rsltState := 1 }).touchCtx .host
    let s := s.serve .host frame
    if s.hostPort.rsltState = 1 ∧ !(s.xferOf .host).waits then s.withHost fun h => { h with
      rsltState := 2
      rspLen := 0
      rsltSeq := BitVec.ofNat 16 (nextSeq h.rsltSeq.toNat)
      sdoDone := true }
    else s

/-- `HP_SDO_GO`: a write of HP_SDO_CTRL with GO = 1 and a length (R418). -/
def execHpSdoGo (len : BitVec 7) (s : State) : Out1 := .next (s.sdoGo len.toNat)

/-! ### The address map (Table 14.4) -/

/-- Whether a word address holds a register or a reserved word of the map. -/
def hpMapped (a : Nat) : Bool :=
  decide (a < 0x30) || (decide (0x100 ≤ a) && decide (a < 0x188)) || (decide (0x1000 ≤ a) && decide (a < 0x2208)) ||
    (decide (0x3000 ≤ a) && decide (a < 0x3088))

/-- HP_STATUS (Table 14.5). -/
def State.hpStatus (s : State) : Nat := bitAt s.up 0 + bitAt s.hostPort.irq 1 + bitAt s.hostPort.sdoDone 2

/-- One word of HP_MB_PEND (Table 14.5). -/
def HostPort.pendWord (h : HostPort) (w : Nat) : Nat :=
  ((List.finRange 128).map fun c =>
    let p := h.pend c
    if c.1 / 32 = w then bitAt (p.1 || p.2.1 || p.2.2) (c.1 % 32) else 0).sum

/-- A byte register file as words. -/
def wordOf (v : Vector Byte 64) (off : Nat) : Word := BitVec.ofNat 32 (field v.toList off 4)

/-- Capture a word for the host, with its side effect (R412): a read of a free semaphore acquires it; an unmapped address
reads zero and sets UNMAPPED (R413). -/
def State.hpRead (s : State) (a : Nat) : Word × State :=
  let h := s.hostPort
  if !hpMapped a then (0, s.hpError 2#5)
  else if 0x100 ≤ a ∧ a < 0x140 then (wordOf h.sdoReq (a - 0x100), s)
  else if 0x140 ≤ a ∧ a < 0x180 then (wordOf h.sdoRsp (a - 0x140), s)
  else if 0x1000 ≤ a ∧ a < 0x2000 then
    (h.boxRead hostMaster ⟨(a - 0x1000) / 32 % 128, Nat.mod_lt _ (by decide)⟩ (a % 32), s)
  else if 0x2000 ≤ a ∧ a < 0x2200 then ((h.bind[(a - 0x2000) / 4 % 128]'(Nat.mod_lt _ (by decide))).word, s)
  else if 0x3000 ≤ a ∧ a < 0x3080 then s.semRead hostMaster ⟨(a - 0x3000) / 4 % 32, Nat.mod_lt _ (by decide)⟩
  else
    let v := match a with
      | 0x00 => 0x01000000 + Config.siliconRev % 256 * 65536 + 0x9600
      | 0x04 => h.dummy.toNat
      | 0x08 => s.hpStatus
      | 0x0C => h.irqStat
      | 0x10 => h.irqEn.toNat
      | 0x14 => h.err.toNat
      | 0x18 => h.pendWord 0
      | 0x1C => h.pendWord 1
      | 0x20 => h.pendWord 2
      | 0x24 => h.pendWord 3
      | 0x184 => h.rsltState.toNat + h.rspLen.toNat * 2 ^ 8 + h.rsltSeq.toNat * 2 ^ 16
      | 0x2200 => bitAt h.lock 0
      | 0x2204 => h.violations
      | 0x3084 => h.orphan.toNat
      | _ => 0
    (BitVec.ofNat 32 v, s)

/-- The state after an effect that always completes. -/
def outState (o : Out1) (s : State) : State :=
  match o with
  | .next t => t
  | _ => s

/-- A host write of a mailbox channel's word (Table 14.7). -/
def State.hpBoxWrite (s : State) (c : Fin 128) (off : Nat) (v : Word) : State :=
  let h := hostMaster
  match off with
  | 0x00 => outState (execMbMsgWrite h c 0 v s) s
  | 0x04 => outState (execMbMsgWrite h c 1 v s) s
  | 0x08 => outState (execMbMsgWrite h c 2 v s) s
  | 0x0C => outState (execMbMsgWrite h c 3 v s) s
  | 0x10 =>
    let s := if v.getLsbD 0 then outState (execMbPost h c s) s else s
    let s := if v.getLsbD 1 then outState (execMbTake h c s) s else s
    if v.getLsbD 2 then outState (execMbFlush h c s) s else s
  | 0x14 => outState (execMbStatusClear h c v s) s
  | 0x18 => outState (execReturnCodeWrite h c (v.setWidth 16) s) s
  | _ => s

/-- A host write of a whole word: read-only words ignore it (Table 0.2), and an unmapped address sets UNMAPPED (R413). -/
def State.hpWrite (s : State) (a : Nat) (v : Word) : State :=
  if !hpMapped a then s.hpError 2#5
  else if 0x100 ≤ a ∧ a < 0x140 then s.withHost fun h => { h with
    sdoReq := vmapi h.sdoReq fun i b => if a - 0x100 ≤ i ∧ i < a - 0x100 + 4 then byteAt (leBytes 4 v.toNat) (i - (a - 0x100)) else b }
  else if 0x1000 ≤ a ∧ a < 0x2000 then
    s.hpBoxWrite ⟨(a - 0x1000) / 32 % 128, Nat.mod_lt _ (by decide)⟩ (a % 32) v
  else if 0x2000 ≤ a ∧ a < 0x2200 then
    outState (execMbBindWrite hostMaster ⟨(a - 0x2000) / 4 % 128, Nat.mod_lt _ (by decide)⟩ v s) s
  else if 0x3000 ≤ a ∧ a < 0x3080 then
    outState (execSemWrite hostMaster ⟨(a - 0x3000) / 4 % 32, Nat.mod_lt _ (by decide)⟩ s) s
  else match a with
    | 0x04 => if 4 ≤ (v.setWidth 4).toNat then s.withHost fun h => { h with dummy := v.setWidth 4 } else s
    | 0x0C => if v.getLsbD 0 then s.withHost fun h => { h with sdoDone := false } else s
    | 0x10 => s.withHost fun h => { h with irqEn := v.setWidth 5 }
    | 0x14 => s.withHost fun h => { h with err := h.err &&& ~~~(v.setWidth 5) }
    | 0x180 => if v.getLsbD 8 then s.sdoGo (v.setWidth 7).toNat else s
    | 0x2200 => outState (execMbLockWrite hostMaster v s) s
    | 0x3080 => outState (execSemForce hostMaster v s) s
    | 0x3084 => s.withHost fun h => { h with orphan := h.orphan &&& ~~~v }
    | _ => s

/-! ### Transactions (R411 to R413) -/

/-- Words from address a on, captured in ascending order: their bytes and the state after. -/
def State.hpReads (s : State) (a : Nat) : Nat → List Byte × State
  | 0 => ([], s)
  | n + 1 =>
    let (v, s) := s.hpRead (a % 2 ^ 24)
    let (rest, s) := s.hpReads (a + 4) n
    (leBytes 4 v.toNat ++ rest, s)

/-- Bytes of no stated value. -/
def State.freeBytes (s : State) : Nat → List Byte × State
  | 0 => ([], s)
  | n + 1 =>
    let (v, s) := s.freeNat
    let (rest, s) := s.freeBytes n
    (BitVec.ofNat 8 v :: rest, s)

/-- A read of n bytes: every word that they touch is captured whole (R412). With SCK too fast for DUMMY the data returned are
undefined (R414). -/
def State.qspiRead (s : State) (a n : Nat) (fast : Bool) : State :=
  if s.life = .inReset ∨ n = 0 then s
  else
    let first := a - a % 4
    let words := (a + n - first + 3) / 4
    let (b, s) := s.hpReads first words
    let (d, s) := if fast then s.freeBytes n else ((b.drop (a % 4)).take n, s)
    s.emit (.host d)

/-- Words from address a on, written in ascending order. -/
def State.hpWrites (s : State) (a : Nat) : List (List Byte) → State
  | [] => s
  | w :: rest => (s.hpWrite (a % 2 ^ 24) (BitVec.ofNat 32 (leNat w))).hpWrites (a + 4) rest

/-- A write of bytes: whole words act, and a partial word at either end is discarded and sets PARTIAL (R413). -/
def State.qspiWrite (s : State) (a : Nat) (b : List Byte) : State :=
  if s.life = .inReset ∨ b = [] then s
  else
    let lead := min b.length ((4 - a % 4) % 4)
    let body := b.drop lead
    let whole := body.length / 4
    let s := s.hpWrites (a + lead) (chunks 4 whole body)
    if lead = 0 ∧ body.length % 4 = 0 then s else s.hpError 4#5

/-- `READ`: n bytes from an address, 1-1-1 (R411, R412); `fast`: SCK is above DUMMY / 70 ns (R414). -/
def execQspiRead (addr : BitVec 24) (n : Nat) (fast : Bool) (s : State) : Out1 := .next (s.qspiRead addr.toNat n fast)

/-- `QREAD`: as READ, 1-4-4 (R411, R412). -/
def execQspiQread (addr : BitVec 24) (n : Nat) (fast : Bool) (s : State) : Out1 := .next (s.qspiRead addr.toNat n fast)

/-- `WRITE`: bytes to an address, 1-1-1 (R411, R413). -/
def execQspiWrite (addr : BitVec 24) (bytes : List Byte) (s : State) : Out1 := .next (s.qspiWrite addr.toNat bytes)

/-- `QWRITE`: as WRITE, 1-4-4 (R411, R413). -/
def execQspiQwrite (addr : BitVec 24) (bytes : List Byte) (s : State) : Out1 := .next (s.qspiWrite addr.toNat bytes)

/-- `RDSR`: HP_STATUS, once for each byte clocked (R411, R415). -/
def execQspiRdsr (n : Nat) (s : State) : Out1 :=
  .next (if s.life = .inReset then s else s.emit (.host (List.replicate n (BitVec.ofNat 8 s.hpStatus))))

/-- `BAD_INSTRUCTION`: IO stays in high impedance and BAD_CMD is set (R411). -/
def execQspiBadInstruction (s : State) : Out1 :=
  .next (if s.life = .inReset then s else (s.hpError 1#5).emit (.host []))

end Sys2Proof.Machine
end

