-- ==== Sys2Proof/Machine/Dispatch.lean ====
section
/-! DEFINITION. Which meaning each command has: one arm per constructor, each a direct call. -/

namespace Sys2Proof.Machine

open Host

/-- The effect of a command on everything but the queue. -/
def exec (i : Instr) (s : State) : Host.Outcome State Fault Refusal :=
  match i with
  | .powerOn => Sys2Proof.Machine.execPowerOn s
  | .resetNAssert => Sys2Proof.Machine.execResetNAssert s
  | .supplyDrop => Sys2Proof.Machine.execSupplyDrop s
  | .coldReset straps fitted flashMib => Sys2Proof.Machine.execColdReset straps fitted flashMib s
  | .memoryBistComplete repairs faults => Sys2Proof.Machine.execMemoryBistComplete repairs faults s
  | .imageLoadComplete elapsed => Sys2Proof.Machine.execImageLoadComplete elapsed s
  | .warmReset imageOk elapsed => Sys2Proof.Machine.execWarmReset imageOk elapsed s
  | .resetWarmCommand c => Sys2Proof.Machine.execResetWarmCommand c s
  | .resetColdCommand c => Sys2Proof.Machine.execResetColdCommand c s
  | .objectWrite c idx sub value => Sys2Proof.Machine.execObjectWrite c idx sub value s
  | .sdoInitiateDownload c frame => Sys2Proof.Machine.execSdoInitiateDownload c frame s
  | .sdoDownloadSegment c frame => Sys2Proof.Machine.execSdoDownloadSegment c frame s
  | .sdoInitiateUpload c frame => Sys2Proof.Machine.execSdoInitiateUpload c frame s
  | .sdoUploadSegment c frame => Sys2Proof.Machine.execSdoUploadSegment c frame s
  | .sdoBlockDownloadInitiate c frame => Sys2Proof.Machine.execSdoBlockDownloadInitiate c frame s
  | .sdoBlockSegment c frame => Sys2Proof.Machine.execSdoBlockSegment c frame s
  | .sdoBlockDownloadEnd c frame => Sys2Proof.Machine.execSdoBlockDownloadEnd c frame s
  | .sdoBlockUploadInitiate c frame => Sys2Proof.Machine.execSdoBlockUploadInitiate c frame s
  | .sdoAbortReceive c frame => Sys2Proof.Machine.execSdoAbortReceive c frame s
  | .sdoProtocolTimeout c => Sys2Proof.Machine.execSdoProtocolTimeout c s
  | .udpDatagramReceive addr port data => Sys2Proof.Machine.execUdpDatagramReceive addr port data s
  | .udpAssociationIdle ch => Sys2Proof.Machine.execUdpAssociationIdle ch s
  | .challengeRead c => Sys2Proof.Machine.execChallengeRead c s
  | .challengeExpiry c => Sys2Proof.Machine.execChallengeExpiry c s
  | .login c message => Sys2Proof.Machine.execLogin c message s
  | .loginLockoutEnd c => Sys2Proof.Machine.execLoginLockoutEnd c s
  | .logout c v => Sys2Proof.Machine.execLogout c v s
  | .idleLogoutExpiry c => Sys2Proof.Machine.execIdleLogoutExpiry c s
  | .ownerKeyWrite c keyBytes => Sys2Proof.Machine.execOwnerKeyWrite c keyBytes s
  | .ownerLockWrite c v => Sys2Proof.Machine.execOwnerLockWrite c v s
  | .nmtStart => Sys2Proof.Machine.execNmtStart s
  | .nmtStop => Sys2Proof.Machine.execNmtStop s
  | .nmtEnterPreOperational => Sys2Proof.Machine.execNmtEnterPreOperational s
  | .nmtResetNode => Sys2Proof.Machine.execNmtResetNode s
  | .nmtResetCommunication => Sys2Proof.Machine.execNmtResetCommunication s
  | .syncReceive => Sys2Proof.Machine.execSyncReceive s
  | .rpdoReceive n udp data => Sys2Proof.Machine.execRpdoReceive n udp data s
  | .tpdoEventTimer n => Sys2Proof.Machine.execTpdoEventTimer n s
  | .heartbeatProduce => Sys2Proof.Machine.execHeartbeatProduce s
  | .heartbeatConsumerTimeout k => Sys2Proof.Machine.execHeartbeatConsumerTimeout k s
  | .udpHeartbeatSend => Sys2Proof.Machine.execUdpHeartbeatSend s
  | .errorClassClear c => Sys2Proof.Machine.execErrorClassClear c s
  | .errorHistoryClear c => Sys2Proof.Machine.execErrorHistoryClear c s
  | .lssSwitchStateGlobal mode => Sys2Proof.Machine.execLssSwitchStateGlobal mode s
  | .lssSwitchStateSelective vendor product revision serial => Sys2Proof.Machine.execLssSwitchStateSelective vendor product revision serial s
  | .lssConfigureNodeId id => Sys2Proof.Machine.execLssConfigureNodeId id s
  | .lssConfigureBitTiming table index => Sys2Proof.Machine.execLssConfigureBitTiming table index s
  | .lssActivateBitTiming delay => Sys2Proof.Machine.execLssActivateBitTiming delay s
  | .lssStoreConfiguration => Sys2Proof.Machine.execLssStoreConfiguration s
  | .lssInquireIdentity k => Sys2Proof.Machine.execLssInquireIdentity k s
  | .lssInquireNodeId => Sys2Proof.Machine.execLssInquireNodeId s
  | .lssIdentifyRemoteSlave vendor product revLow revHigh serLow serHigh => Sys2Proof.Machine.execLssIdentifyRemoteSlave vendor product revLow revHigh serLow serHigh s
  | .lssIdentifyNonConfigured => Sys2Proof.Machine.execLssIdentifyNonConfigured s
  | .lssFastscan idNumber bitCheck lssSub lssNext => Sys2Proof.Machine.execLssFastscan idNumber bitCheck lssSub lssNext s
  | .settingsStore c group => Sys2Proof.Machine.execSettingsStore c group s
  | .settingsRestore c group => Sys2Proof.Machine.execSettingsRestore c group s
  | .factoryReset c => Sys2Proof.Machine.execFactoryReset c s
  | .gatewayTimeout p txn => Sys2Proof.Machine.execGatewayTimeout p txn s
  | .mgmtReadReceive port r => Sys2Proof.Machine.execMgmtReadReceive port r s
  | .mgmtWriteReceive port r => Sys2Proof.Machine.execMgmtWriteReceive port r s
  | .mgmtBroadcastWriteReceive port r => Sys2Proof.Machine.execMgmtBroadcastWriteReceive port r s
  | .mgmtResponseReceive p r => Sys2Proof.Machine.execMgmtResponseReceive p r s
  | .mgmtEventReceive p r => Sys2Proof.Machine.execMgmtEventReceive p r s
  | .tileEventSend => Sys2Proof.Machine.execTileEventSend s
  | .tileEventsClear c v => Sys2Proof.Machine.execTileEventsClear c v s
  | .txPortCEthernetFrame e f => Sys2Proof.Machine.execTxPortCEthernetFrame e f s
  | .portcConfigWrite c v => Sys2Proof.Machine.execPortcConfigWrite c v s
  | .igmpQueryReceive e version group sources => Sys2Proof.Machine.execIgmpQueryReceive e version group sources s
  | .igmpReportTimer n => Sys2Proof.Machine.execIgmpReportTimer n s
  | .streamEnable c n v => Sys2Proof.Machine.execStreamEnable c n v s
  | .rtpPacketReceive n path data => Sys2Proof.Machine.execRtpPacketReceive n path data s
  | .frameCloseTimeout n => Sys2Proof.Machine.execFrameCloseTimeout n s
  | .pathLostTimeout n path => Sys2Proof.Machine.execPathLostTimeout n path s
  | .jpegXsDecodeComplete n failedAt => Sys2Proof.Machine.execJpegXsDecodeComplete n failedAt s
  | .freeSelectChoice => Sys2Proof.Machine.execFreeSelectChoice s
  | .selectSend => Sys2Proof.Machine.execSelectSend s
  | .selectUnitReceive link u => Sys2Proof.Machine.execSelectUnitReceive link u s
  | .frameBoundary errors => Sys2Proof.Machine.execFrameBoundary errors s
  | .cellSlotSchedule p => Sys2Proof.Machine.execCellSlotSchedule p s
  | .determinismChecksum p => Sys2Proof.Machine.execDeterminismChecksum p s
  | .checksumUnitReceive link u => Sys2Proof.Machine.execChecksumUnitReceive link u s
  | .activateFrameWrite c frame => Sys2Proof.Machine.execActivateFrameWrite c frame s
  | .mapActivationDeadline => Sys2Proof.Machine.execMapActivationDeadline s
  | .cascadeLinkUp link => Sys2Proof.Machine.execCascadeLinkUp link s
  | .relayUnitReceive link u => Sys2Proof.Machine.execRelayUnitReceive link u s
  | .relayRelease p => Sys2Proof.Machine.execRelayRelease p s
  | .mgmtUnitReceive link u => Sys2Proof.Machine.execMgmtUnitReceive link u s
  | .identityUnitReceive link u => Sys2Proof.Machine.execIdentityUnitReceive link u s
  | .statusUnitReceive link u => Sys2Proof.Machine.execStatusUnitReceive link u s
  | .takeUnitReceive link u => Sys2Proof.Machine.execTakeUnitReceive link u s
  | .reclaimUnitReceive link u => Sys2Proof.Machine.execReclaimUnitReceive link u s
  | .ackUnitReceive link u => Sys2Proof.Machine.execAckUnitReceive link u s
  | .deferUnitReceive link u => Sys2Proof.Machine.execDeferUnitReceive link u s
  | .cancelUnitReceive link u => Sys2Proof.Machine.execCancelUnitReceive link u s
  | .derateUnitReceive link u => Sys2Proof.Machine.execDerateUnitReceive link u s
  | .syncUnitSend link => Sys2Proof.Machine.execSyncUnitSend link s
  | .syncUnitReceive link u => Sys2Proof.Machine.execSyncUnitReceive link u s
  | .parentTimeout => Sys2Proof.Machine.execParentTimeout s
  | .receiverDetectTest l ohms => Sys2Proof.Machine.execReceiverDetectTest l ohms s
  | .detectTimeout l => Sys2Proof.Machine.execDetectTimeout l s
  | .trainingFrameReceive l c1 c2 c3 t1 t2 t3 inverted ready want => Sys2Proof.Machine.execTrainingFrameReceive l c1 c2 c3 t1 t2 t3 inverted ready want s
  | .trainingRequestTimeout l => Sys2Proof.Machine.execTrainingRequestTimeout l s
  | .trainingTimeout l => Sys2Proof.Machine.execTrainingTimeout l s
  | .bitLockTimeout l => Sys2Proof.Machine.execBitLockTimeout l s
  | .alignLockTimeout l => Sys2Proof.Machine.execAlignLockTimeout l s
  | .electricalIdleEnd l => Sys2Proof.Machine.execElectricalIdleEnd l s
  | .alignmentMarkerReceive l m skew => Sys2Proof.Machine.execAlignmentMarkerReceive l m skew s
  | .alignmentMarkerSend k => Sys2Proof.Machine.execAlignmentMarkerSend k s
  | .capBlockReceive l b => Sys2Proof.Machine.execCapBlockReceive l b s
  | .capabilityTimeout l => Sys2Proof.Machine.execCapabilityTimeout l s
  | .capabilityRefuseWaitEnd l => Sys2Proof.Machine.execCapabilityRefuseWaitEnd l s
  | .failedLaneRetry l => Sys2Proof.Machine.execFailedLaneRetry l s
  | .portRestartTimer k => Sys2Proof.Machine.execPortRestartTimer k s
  | .laneLockLoss l cdr => Sys2Proof.Machine.execLaneLockLoss l cdr s
  | .laneHealthWindow l received load => Sys2Proof.Machine.execLaneHealthWindow l received load s
  | .prbsStart c l v => Sys2Proof.Machine.execPrbsStart c l v s
  | .prbsDurationEnd l n errors symErrors => Sys2Proof.Machine.execPrbsDurationEnd l n errors symErrors s
  | .liveTestRelockTimeout l => Sys2Proof.Machine.execLiveTestRelockTimeout l s
  | .injStart c l => Sys2Proof.Machine.execInjStart c l s
  | .injStop c l => Sys2Proof.Machine.execInjStop c l s
  | .loopbackWrite c p v => Sys2Proof.Machine.execLoopbackWrite c p v s
  | .testStateWrite c p v => Sys2Proof.Machine.execTestStateWrite c p v s
  | .laneCounterClear c l v => Sys2Proof.Machine.execLaneCounterClear c l v s
  | .videoCellReceive port r => Sys2Proof.Machine.execVideoCellReceive port r s
  | .idleCellReceive port => Sys2Proof.Machine.execIdleCellReceive port s
  | .rateMatchSend out => Sys2Proof.Machine.execRateMatchSend out s
  | .timingCellReceive port r => Sys2Proof.Machine.execTimingCellReceive port r s
  | .timingWindowEnd => Sys2Proof.Machine.execTimingWindowEnd s
  | .serviceCellReceive port r => Sys2Proof.Machine.execServiceCellReceive port r s
  | .healthCellReceive port r => Sys2Proof.Machine.execHealthCellReceive port r s
  | .topoQueryReceive port r => Sys2Proof.Machine.execTopoQueryReceive port r s
  | .topoAssignReceive port r => Sys2Proof.Machine.execTopoAssignReceive port r s
  | .framectlCommitReceive port r => Sys2Proof.Machine.execFramectlCommitReceive port r s
  | .framectlGenStateReceive port r => Sys2Proof.Machine.execFramectlGenStateReceive port r s
  | .framectlAbortReceive port r => Sys2Proof.Machine.execFramectlAbortReceive port r s
  | .reservedTypeCellReceive port r => Sys2Proof.Machine.execReservedTypeCellReceive port r s
  | .cellTerminate p r => Sys2Proof.Machine.execCellTerminate p r s
  | .topoReportReceive p r => Sys2Proof.Machine.execTopoReportReceive p r s
  | .oppositePortDown port => Sys2Proof.Machine.execOppositePortDown port s
  | .loopTimingRestore port => Sys2Proof.Machine.execLoopTimingRestore port s
  | .discover c p v => Sys2Proof.Machine.execDiscover c p v s
  | .discoveryCollectEnd p => Sys2Proof.Machine.execDiscoveryCollectEnd p s
  | .repeatOnlyWrite c v => Sys2Proof.Machine.execRepeatOnlyWrite c v s
  | .chainCounterClear c v => Sys2Proof.Machine.execChainCounterClear c v s
  | .selfDiagPeriod secded watchdog => Sys2Proof.Machine.execSelfDiagPeriod secded watchdog s
  | .healthSend p => Sys2Proof.Machine.execHealthSend p s
  | .tileHealthSend => Sys2Proof.Machine.execTileHealthSend s
  | .peerCheck p => Sys2Proof.Machine.execPeerCheck p s
  | .controlStart p => Sys2Proof.Machine.execControlStart p s
  | .reclaimAnswerTimeout p => Sys2Proof.Machine.execReclaimAnswerTimeout p s
  | .deferRetry p => Sys2Proof.Machine.execDeferRetry p s
  | .reclaimNow c p v => Sys2Proof.Machine.execReclaimNow c p v s
  | .maintenanceWrite c p v => Sys2Proof.Machine.execMaintenanceWrite c p v s
  | .feedEndTimeout o => Sys2Proof.Machine.execFeedEndTimeout o s
  | .holdTimeExpiry => Sys2Proof.Machine.execHoldTimeExpiry s
  | .ptpSyncReceive port domain ident seq t1 logInterval twoStep => Sys2Proof.Machine.execPtpSyncReceive port domain ident seq t1 logInterval twoStep s
  | .ptpFollowUpReceive port domain ident seq t1 => Sys2Proof.Machine.execPtpFollowUpReceive port domain ident seq t1 s
  | .ptpDelayReqSend => Sys2Proof.Machine.execPtpDelayReqSend s
  | .ptpDelayRespReceive port domain ident seq t4 => Sys2Proof.Machine.execPtpDelayRespReceive port domain ident seq t4 s
  | .ptpAnnounceReceive port domain d logInterval => Sys2Proof.Machine.execPtpAnnounceReceive port domain d logInterval s
  | .announceReceiptTimeout => Sys2Proof.Machine.execAnnounceReceiptTimeout s
  | .quartzSourceLoss => Sys2Proof.Machine.execQuartzSourceLoss s
  | .genlockEdge falling => Sys2Proof.Machine.execGenlockEdge falling s
  | .ppsEdge => Sys2Proof.Machine.execPpsEdge s
  | .todSet c seconds => Sys2Proof.Machine.execTodSet c seconds s
  | .timingCellOriginate p => Sys2Proof.Machine.execTimingCellOriginate p s
  | .trimRecompute p => Sys2Proof.Machine.execTrimRecompute p s
  | .applyFrame c frame => Sys2Proof.Machine.execApplyFrame c frame s
  | .stepNow c ns => Sys2Proof.Machine.execStepNow c ns s
  | .recompute c v => Sys2Proof.Machine.execRecompute c v s
  | .frameOutPulse f k => Sys2Proof.Machine.execFrameOutPulse f k s
  | .ppsOutPulse => Sys2Proof.Machine.execPpsOutPulse s
  | .fillClose => Sys2Proof.Machine.execFillClose s
  | .composeSlot d => Sys2Proof.Machine.execComposeSlot d s
  | .composeComplete => Sys2Proof.Machine.execComposeComplete s
  | .composeOverrun => Sys2Proof.Machine.execComposeOverrun s
  | .commitFrame c frame => Sys2Proof.Machine.execCommitFrame c frame s
  | .commitAbortWrite c v => Sys2Proof.Machine.execCommitAbortWrite c v s
  | .commitDeadline checkerDown => Sys2Proof.Machine.execCommitDeadline checkerDown s
  | .framectlSend p => Sys2Proof.Machine.execFramectlSend p s
  | .coeffSetWrite c k set => Sys2Proof.Machine.execCoeffSetWrite c k set s
  | .tfTableWrite c k table => Sys2Proof.Machine.execTfTableWrite c k table s
  | .corrSelectWrite c v => Sys2Proof.Machine.execCorrSelectWrite c v s
  | .corrVerify c v => Sys2Proof.Machine.execCorrVerify c v s
  | .corrVerifyComplete => Sys2Proof.Machine.execCorrVerifyComplete s
  | .corrLoadRow => Sys2Proof.Machine.execCorrLoadRow s
  | .correctionReread => Sys2Proof.Machine.execCorrectionReread s
  | .hkRound die supply holdup nvm => Sys2Proof.Machine.execHkRound die supply holdup nvm s
  | .thermalTrip die => Sys2Proof.Machine.execThermalTrip die s
  | .coolingComplete => Sys2Proof.Machine.execCoolingComplete s
  | .enumStart c p v => Sys2Proof.Machine.execEnumStart c p v s
  | .lrReturn p pulses loopPs => Sys2Proof.Machine.execLrReturn p pulses loopPs s
  | .lrMissingTimeout p => Sys2Proof.Machine.execLrMissingTimeout p s
  | .lampPortCounterClear c p v => Sys2Proof.Machine.execLampPortCounterClear c p v s
  | .frustumIn c record => Sys2Proof.Machine.execFrustumIn c record s
  | .frustumWrite c record => Sys2Proof.Machine.execFrustumWrite c record s
  | .frustumStaleTimeout => Sys2Proof.Machine.execFrustumStaleTimeout s
  | .schedBuild p => Sys2Proof.Machine.execSchedBuild p s
  | .schedBuildDone p => Sys2Proof.Machine.execSchedBuildDone p s
  | .epochEnd damaged => Sys2Proof.Machine.execEpochEnd damaged s
  | .sweepStart c v => Sys2Proof.Machine.execSweepStart c v s
  | .sweepEnd => Sys2Proof.Machine.execSweepEnd s
  | .lampDiagClear c v => Sys2Proof.Machine.execLampDiagClear c v s
  | .peAdd p rd ra rb rsv => Sys2Proof.Machine.execPeAdd p rd ra rb rsv s
  | .peSub p rd ra rb rsv => Sys2Proof.Machine.execPeSub p rd ra rb rsv s
  | .peAnd p rd ra rb rsv => Sys2Proof.Machine.execPeAnd p rd ra rb rsv s
  | .peOr p rd ra rb rsv => Sys2Proof.Machine.execPeOr p rd ra rb rsv s
  | .peXor p rd ra rb rsv => Sys2Proof.Machine.execPeXor p rd ra rb rsv s
  | .peShl p rd ra rb rsv => Sys2Proof.Machine.execPeShl p rd ra rb rsv s
  | .peShr p rd ra rb rsv => Sys2Proof.Machine.execPeShr p rd ra rb rsv s
  | .peSra p rd ra rb rsv => Sys2Proof.Machine.execPeSra p rd ra rb rsv s
  | .peMul p rd ra rb rsv => Sys2Proof.Machine.execPeMul p rd ra rb rsv s
  | .peMulhu p rd ra rb rsv => Sys2Proof.Machine.execPeMulhu p rd ra rb rsv s
  | .peSltu p rd ra rb rsv => Sys2Proof.Machine.execPeSltu p rd ra rb rsv s
  | .peMinu p rd ra rb rsv => Sys2Proof.Machine.execPeMinu p rd ra rb rsv s
  | .peMaxu p rd ra rb rsv => Sys2Proof.Machine.execPeMaxu p rd ra rb rsv s
  | .peAddi p rd ra imm => Sys2Proof.Machine.execPeAddi p rd ra imm s
  | .peAndi p rd ra imm => Sys2Proof.Machine.execPeAndi p rd ra imm s
  | .peOri p rd ra imm => Sys2Proof.Machine.execPeOri p rd ra imm s
  | .peXori p rd ra imm => Sys2Proof.Machine.execPeXori p rd ra imm s
  | .peSltui p rd ra imm => Sys2Proof.Machine.execPeSltui p rd ra imm s
  | .peShli p rd ra imm => Sys2Proof.Machine.execPeShli p rd ra imm s
  | .peShri p rd ra imm => Sys2Proof.Machine.execPeShri p rd ra imm s
  | .peLui p rd ra imm => Sys2Proof.Machine.execPeLui p rd ra imm s
  | .peLd p rd ra imm => Sys2Proof.Machine.execPeLd p rd ra imm s
  | .peSt p rd ra imm => Sys2Proof.Machine.execPeSt p rd ra imm s
  | .peBeq p ra rb off => Sys2Proof.Machine.execPeBeq p ra rb off s
  | .peBne p ra rb off => Sys2Proof.Machine.execPeBne p ra rb off s
  | .peBltu p ra rb off => Sys2Proof.Machine.execPeBltu p ra rb off s
  | .peBgeu p ra rb off => Sys2Proof.Machine.execPeBgeu p ra rb off s
  | .peDbnz p ra rb off => Sys2Proof.Machine.execPeDbnz p ra rb off s
  | .peJal p rd ra imm => Sys2Proof.Machine.execPeJal p rd ra imm s
  | .peJalr p rd ra imm => Sys2Proof.Machine.execPeJalr p rd ra imm s
  | .peRds p rd ra imm => Sys2Proof.Machine.execPeRds p rd ra imm s
  | .peWrs p rd ra imm => Sys2Proof.Machine.execPeWrs p rd ra imm s
  | .peWaite p rd ra imm => Sys2Proof.Machine.execPeWaite p rd ra imm s
  | .waiteComplete p => Sys2Proof.Machine.execWaiteComplete p s
  | .peWaitt p rd ra imm => Sys2Proof.Machine.execPeWaitt p rd ra imm s
  | .waittComplete p => Sys2Proof.Machine.execWaittComplete p s
  | .peWdk p rd ra imm => Sys2Proof.Machine.execPeWdk p rd ra imm s
  | .peMbs p rd ra imm => Sys2Proof.Machine.execPeMbs p rd ra imm s
  | .peMbr p rd ra imm => Sys2Proof.Machine.execPeMbr p rd ra imm s
  | .peSema p rd ra imm => Sys2Proof.Machine.execPeSema p rd ra imm s
  | .peSemr p rd ra imm => Sys2Proof.Machine.execPeSemr p rd ra imm s
  | .peFopen p rd ra imm => Sys2Proof.Machine.execPeFopen p rd ra imm s
  | .peTxb p rd ra imm => Sys2Proof.Machine.execPeTxb p rd ra imm s
  | .peTxf p rd ra imm => Sys2Proof.Machine.execPeTxf p rd ra imm s
  | .peTxsh p rd ra rb rsv bad => Sys2Proof.Machine.execPeTxsh p rd ra rb rsv bad s
  | .peTxl p rd ra rb rsv bad => Sys2Proof.Machine.execPeTxl p rd ra rb rsv bad s
  | .peTxs p rd ra rb rsv => Sys2Proof.Machine.execPeTxs p rd ra rb rsv s
  | .peSlen p rd ra rb rsv => Sys2Proof.Machine.execPeSlen p rd ra rb rsv s
  | .peRxw p rd ra rb rsv => Sys2Proof.Machine.execPeRxw p rd ra rb rsv s
  | .peRxd p rd ra rb rsv => Sys2Proof.Machine.execPeRxd p rd ra rb rsv s
  | .peVerd p rd ra rb rsv => Sys2Proof.Machine.execPeVerd p rd ra rb rsv s
  | .peDiagc p rd ra rb rsv => Sys2Proof.Machine.execPeDiagc p rd ra rb rsv s
  | .pePrb p rd ra rb rsv => Sys2Proof.Machine.execPePrb p rd ra rb rsv s
  | .pushStallEnd p bad => Sys2Proof.Machine.execPushStallEnd p bad s
  | .referenceFrameLaunch p => Sys2Proof.Machine.execReferenceFrameLaunch p s
  | .frameLaunch p => Sys2Proof.Machine.execFrameLaunch p s
  | .framerUnderrun p => Sys2Proof.Machine.execFramerUnderrun p s
  | .engineWatchdogExpiry p => Sys2Proof.Machine.execEngineWatchdogExpiry p s
  | .engineLoad p => Sys2Proof.Machine.execEngineLoad p s
  | .enumerate p => Sys2Proof.Machine.execEnumerate p s
  | .stop p => Sys2Proof.Machine.execStop p s
  | .repoll p => Sys2Proof.Machine.execRepoll p s
  | .apply p frame => Sys2Proof.Machine.execApply p frame s
  | .engineCounterClear c p v => Sys2Proof.Machine.execEngineCounterClear c p v s
  | .qspiRead addr n fast => Sys2Proof.Machine.execQspiRead addr n fast s
  | .qspiQread addr n fast => Sys2Proof.Machine.execQspiQread addr n fast s
  | .qspiWrite addr bytes => Sys2Proof.Machine.execQspiWrite addr bytes s
  | .qspiQwrite addr bytes => Sys2Proof.Machine.execQspiQwrite addr bytes s
  | .qspiRdsr n => Sys2Proof.Machine.execQspiRdsr n s
  | .qspiPortReset => Sys2Proof.Machine.execQspiPortReset s
  | .qspiBadInstruction => Sys2Proof.Machine.execQspiBadInstruction s
  | .hpSdoGo len => Sys2Proof.Machine.execHpSdoGo len s
  | .mbPost m c => Sys2Proof.Machine.execMbPost m c s
  | .mbTake m c => Sys2Proof.Machine.execMbTake m c s
  | .mbFlush m c => Sys2Proof.Machine.execMbFlush m c s
  | .returnCodeWrite m c code => Sys2Proof.Machine.execReturnCodeWrite m c code s
  | .mbBindWrite m c v => Sys2Proof.Machine.execMbBindWrite m c v s
  | .mbLockWrite m v => Sys2Proof.Machine.execMbLockWrite m v s
  | .semRead ms_ n => Sys2Proof.Machine.execSemRead ms_ n s
  | .semWrite m n => Sys2Proof.Machine.execSemWrite m n s
  | .semForce m v => Sys2Proof.Machine.execSemForce m v s
  | .masterReset m => Sys2Proof.Machine.execMasterReset m s
  | .pllLock p => Sys2Proof.Machine.execPllLock p s
  | .pllLockLoss p => Sys2Proof.Machine.execPllLockLoss p s
  | .pllRelockSwitchBack p => Sys2Proof.Machine.execPllRelockSwitchBack p s
  | .xtalLoss => Sys2Proof.Machine.execXtalLoss s
  | .xtalReturn => Sys2Proof.Machine.execXtalReturn s
  | .refclkLoss aborted => Sys2Proof.Machine.execRefclkLoss aborted s
  | .refclkReturn => Sys2Proof.Machine.execRefclkReturn s
  | .clockGateClose d => Sys2Proof.Machine.execClockGateClose d s
  | .clockGateOpen d => Sys2Proof.Machine.execClockGateOpen d s
  | .clockSwitchComplete d => Sys2Proof.Machine.execClockSwitchComplete d s
  | .forcedClockSwitch d aborted => Sys2Proof.Machine.execForcedClockSwitch d aborted s
  | .dvfsEvaluate busy1 busy50 => Sys2Proof.Machine.execDvfsEvaluate busy1 busy50 s
  | .avsTransferComplete r => Sys2Proof.Machine.execAvsTransferComplete r s
  | .vdone => Sys2Proof.Machine.execVdone s
  | .vdoneTimeout => Sys2Proof.Machine.execVdoneTimeout s
  | .freqStart c v => Sys2Proof.Machine.execFreqStart c v s
  | .freqMeasureComplete khz => Sys2Proof.Machine.execFreqMeasureComplete khz s
  | .clocksCounterClear c v => Sys2Proof.Machine.execClocksCounterClear c v s
  | .clusterWatchdogRestart cluster => Sys2Proof.Machine.execClusterWatchdogRestart cluster s
  | .clusterWatchdogExpiry cluster => Sys2Proof.Machine.execClusterWatchdogExpiry cluster s
  | .flashOpComplete ok => Sys2Proof.Machine.execFlashOpComplete ok s
  | .flashOpTimeout => Sys2Proof.Machine.execFlashOpTimeout s
  | .bbCommit => Sys2Proof.Machine.execBbCommit s
  | .bbResetPinned c word => Sys2Proof.Machine.execBbResetPinned c word s
  | .calStart c v => Sys2Proof.Machine.execCalStart c v s
  | .calRunComplete hop1 hop2 => Sys2Proof.Machine.execCalRunComplete hop1 hop2 s
  | .calDeferredStore => Sys2Proof.Machine.execCalDeferredStore s
  | .serviceHello src frame => Sys2Proof.Machine.execServiceHello src frame s
  | .serviceOpen src frame => Sys2Proof.Machine.execServiceOpen src frame s
  | .serviceWrite src frame => Sys2Proof.Machine.execServiceWrite src frame s
  | .serviceStatus src frame => Sys2Proof.Machine.execServiceStatus src frame s
  | .serviceVerify src frame => Sys2Proof.Machine.execServiceVerify src frame s
  | .verifyComplete => Sys2Proof.Machine.execVerifyComplete s
  | .serviceActivate src frame => Sys2Proof.Machine.execServiceActivate src frame s
  | .serviceCancel src frame => Sys2Proof.Machine.execServiceCancel src frame s
  | .serviceFinalize src frame => Sys2Proof.Machine.execServiceFinalize src frame s
  | .serviceRollback src frame => Sys2Proof.Machine.execServiceRollback src frame s
  | .serviceClose src frame => Sys2Proof.Machine.execServiceClose src frame s
  | .serviceRead src frame => Sys2Proof.Machine.execServiceRead src frame s
  | .serviceReport p station frame => Sys2Proof.Machine.execServiceReport p station frame s
  | .sessionIdleTimeout => Sys2Proof.Machine.execSessionIdleTimeout s
  | .selfTestPass => Sys2Proof.Machine.execSelfTestPass s
  | .confirm c v => Sys2Proof.Machine.execConfirm c v s
  | .confirmationTimeout => Sys2Proof.Machine.execConfirmationTimeout s
  | .rollbackNow c v => Sys2Proof.Machine.execRollbackNow c v s
  | .finalizeNow c v => Sys2Proof.Machine.execFinalizeNow c v s
  | .wuStage c => Sys2Proof.Machine.execWuStage c s
  | .wuArm c => Sys2Proof.Machine.execWuArm c s
  | .wuAbort c => Sys2Proof.Machine.execWuAbort c s
  | .wuPoll => Sys2Proof.Machine.execWuPoll s
  | .wuActivateBroadcast => Sys2Proof.Machine.execWuActivateBroadcast s
  | .wallActivateAtFrame => Sys2Proof.Machine.execWallActivateAtFrame s
  | .wuConfirmWaitExpiry => Sys2Proof.Machine.execWuConfirmWaitExpiry s
  | .replayLimitExpiry => Sys2Proof.Machine.execReplayLimitExpiry s
  | .ceilProgram c entry => Sys2Proof.Machine.execCeilProgram c entry s
  | .ceilLock c v => Sys2Proof.Machine.execCeilLock c v s
  | .bistStart c v => Sys2Proof.Machine.execBistStart c v s
  | .bistComplete failAddr => Sys2Proof.Machine.execBistComplete failAddr s
  | .tapReset => Sys2Proof.Machine.execTapReset s
  | .tapExtest pins shifted => Sys2Proof.Machine.execTapExtest pins shifted s
  | .tapIdcode => Sys2Proof.Machine.execTapIdcode s
  | .tapSamplePreload pins shifted => Sys2Proof.Machine.execTapSamplePreload pins shifted s
  | .tapExtestPulse pins shifted => Sys2Proof.Machine.execTapExtestPulse pins shifted s
  | .tapExtestTrain pins shifted => Sys2Proof.Machine.execTapExtestTrain pins shifted s
  | .tapClamp => Sys2Proof.Machine.execTapClamp s
  | .tapHighz => Sys2Proof.Machine.execTapHighz s
  | .tapDbgUnlock update => Sys2Proof.Machine.execTapDbgUnlock update s
  | .tapDebug => Sys2Proof.Machine.execTapDebug s
  | .tapMbist => Sys2Proof.Machine.execTapMbist s
  | .tapBypass => Sys2Proof.Machine.execTapBypass s
  | .genlockEdgeMissing => Sys2Proof.Machine.execGenlockEdgeMissing s
  | .uncorrectedBurst l => Sys2Proof.Machine.execUncorrectedBurst l s
  | .prbsCheckerLock l pattern => Sys2Proof.Machine.execPrbsCheckerLock l pattern s
  | .prbsCheckerLockLoss l n errors symErrors => Sys2Proof.Machine.execPrbsCheckerLockLoss l n errors symErrors s
  | .injectionInterval l => Sys2Proof.Machine.execInjectionInterval l s
  | .loopTimingSlewComplete port => Sys2Proof.Machine.execLoopTimingSlewComplete port s
  | .wuWritePace => Sys2Proof.Machine.execWuWritePace s
  | .serviceRequestRetry tag => Sys2Proof.Machine.execServiceRequestRetry tag s
  | .helloNonceExpiry => Sys2Proof.Machine.execHelloNonceExpiry s
  | .mbMsgWrite m c w v => Sys2Proof.Machine.execMbMsgWrite m c w v s
  | .mbStatusClear m c v => Sys2Proof.Machine.execMbStatusClear m c v s

end Sys2Proof.Machine
end

