-- ==== Sys2Proof/WellFormed.lean ====
section
/-! DEFINITION. Well-formed commands: what a command's operands look like when they come from the interface the spec names.
Operands whose Lean type already has the spec's width need no check. -/

namespace Sys2Proof.Machine

/-- A cell carries 240 bytes of payload (R111). -/
def RxCell.wf (r : RxCell) : Bool := decide (r.cell.payload.length = 240)

/-- A cascade unit carries one cell's worth of body, and every header field fits its bits (Table 2.5). -/
def CascadeUnit.wf (u : CascadeUnit) : Bool :=
  decide (u.body.length = 256) && decide (u.kind < 16) && decide (u.src < 32) && decide (u.dst < 32) && decide (u.ttl < 16) &&
    decide (u.chain < 32) && decide (u.relSec < 2 ^ 48) && decide (u.relNs < 2 ^ 32) && decide (u.useq < 2 ^ 32)

/-- IPv4 addresses have 32 bits and ports 16 (R48, R49). -/
def EthBody.wf : EthBody → Bool
  | .arp src target => decide (src < 2 ^ 32) && decide (target < 2 ^ 32)
  | .echo src dst _ => decide (src < 2 ^ 32) && decide (dst < 2 ^ 32)
  | .udp src dst port _ => decide (src < 2 ^ 32) && decide (dst < 2 ^ 32) && decide (port < 65536)
  | .other => true

/-- A VLAN identifier has twelve bits, of which 4095 names no VLAN (R48). -/
def EthFrame.wf (f : EthFrame) : Bool := ((f.vlan.map fun v => decide (v ≤ 4094)).getD true) && f.body.wf

/-- The fields of an Announce have the widths that the best-master comparison orders (R175). -/
def PtpDataset.wf (d : PtpDataset) : Bool :=
  decide (d.priority1 < 256) && decide (d.clockClass < 256) && decide (d.accuracy < 256) && decide (d.variance < 65536) &&
    decide (d.priority2 < 256) && decide (d.identity < 2 ^ 64) && decide (d.steps < 65536) &&
      decide (d.source < 2 ^ 80)

/-- SVC SGMII takes a frame of at most 1,040 bytes; the chain carries one in bytes 0 to 239 of a cell's payload (R494). -/
def SvcSource.wf (src : SvcSource) (frame : List Byte) : Bool :=
  match src with
  | .sgmii addr port => decide (addr < 2 ^ 32) && decide (port < 65536) && decide (frame.length ≤ 1040)
  | .chain => decide (frame.length ≤ 240)
  | .chainAll => decide (frame.length ≤ 240)

/-- A measured chain of N stations has N + 1 cables (R187). -/
def HopRun.wf (r : HopRun) : Bool := r.cables.isEmpty || decide (r.cables.length = r.latency.length + 1)

/-- A tile has eight layers (R223). -/
def Damage.wf (d : Damage) : Bool := d.words.all fun w => decide (w.layer < 8)

/-- The master identities of the host-port interconnect run to 0x4A (R409). -/
def masterOk (m : BitVec 7) : Bool := decide (m.toNat ≤ 0x4A)

/-- A frame of the SDO protocol has the 8 bytes of CiA 301, or the 64 of a CAN FD frame. -/
def sdoFrameOk (f : List Byte) : Bool := decide (f.length = 8) || decide (f.length = 64)

end Sys2Proof.Machine

namespace Sys2Proof

open Sys2Proof.Machine

/-- The command's operands are in form. -/
def Instr.wf : Instr → Bool
  | .sdoInitiateDownload _ frame => sdoFrameOk frame
  | .sdoDownloadSegment _ frame => sdoFrameOk frame
  | .sdoInitiateUpload _ frame => sdoFrameOk frame
  | .sdoUploadSegment _ frame => sdoFrameOk frame
  | .sdoBlockDownloadInitiate _ frame => sdoFrameOk frame
  | .sdoBlockSegment _ frame => sdoFrameOk frame
  | .sdoBlockDownloadEnd _ frame => sdoFrameOk frame
  | .sdoBlockUploadInitiate _ frame => sdoFrameOk frame
  | .sdoAbortReceive _ frame => sdoFrameOk frame
  | .udpDatagramReceive addr port _ => decide (addr < 2 ^ 32) && decide (port < 65536)
  | .rpdoReceive _ _ data => decide (data.length ≤ 64)
  | .gatewayTimeout _ txn => decide (txn < 65536)
  | .mgmtReadReceive _ r => r.wf
  | .mgmtWriteReceive _ r => r.wf
  | .mgmtBroadcastWriteReceive _ r => r.wf
  | .mgmtResponseReceive _ r => r.wf
  | .mgmtEventReceive _ r => r.wf
  | .txPortCEthernetFrame _ f => f.wf
  | .selectUnitReceive _ u => u.wf
  | .checksumUnitReceive _ u => u.wf
  | .relayUnitReceive _ u => u.wf
  | .mgmtUnitReceive _ u => u.wf
  | .identityUnitReceive _ u => u.wf
  | .statusUnitReceive _ u => u.wf
  | .takeUnitReceive _ u => u.wf
  | .reclaimUnitReceive _ u => u.wf
  | .ackUnitReceive _ u => u.wf
  | .deferUnitReceive _ u => u.wf
  | .cancelUnitReceive _ u => u.wf
  | .derateUnitReceive _ u => u.wf
  | .syncUnitReceive _ u => u.wf
  | .videoCellReceive _ r => r.wf
  | .timingCellReceive _ r => r.wf
  | .serviceCellReceive _ r => r.wf
  | .healthCellReceive _ r => r.wf
  | .topoQueryReceive _ r => r.wf
  | .topoAssignReceive _ r => r.wf
  | .framectlCommitReceive _ r => r.wf
  | .framectlGenStateReceive _ r => r.wf
  | .framectlAbortReceive _ r => r.wf
  | .reservedTypeCellReceive _ r => r.wf
  | .cellTerminate _ r => r.wf
  | .topoReportReceive _ r => r.wf
  | .ptpSyncReceive port domain ident seq _ _ _ =>
    decide (port < 9) && decide (domain < 256) && decide (ident < 2 ^ 80) && decide (seq < 65536)
  | .ptpFollowUpReceive port domain ident seq _ =>
    decide (port < 9) && decide (domain < 256) && decide (ident < 2 ^ 80) && decide (seq < 65536)
  | .ptpDelayRespReceive port domain ident seq _ =>
    decide (port < 9) && decide (domain < 256) && decide (ident < 2 ^ 80) && decide (seq < 65536)
  | .ptpAnnounceReceive port domain d _ => decide (port < 9) && decide (domain < 256) && d.wf
  | .frameOutPulse _ k => decide (k < 4)
  | .composeSlot d => d.wf
  | .qspiRead _ n _ => decide (n ≤ 2 ^ 24)
  | .qspiQread _ n _ => decide (n ≤ 2 ^ 24)
  | .qspiWrite _ bytes => decide (bytes.length ≤ 2 ^ 24)
  | .qspiQwrite _ bytes => decide (bytes.length ≤ 2 ^ 24)
  | .qspiRdsr n => decide (n ≤ 2 ^ 24)
  | .mbPost m _ => masterOk m
  | .mbTake m _ => masterOk m
  | .mbFlush m _ => masterOk m
  | .returnCodeWrite m _ _ => masterOk m
  | .mbBindWrite m _ _ => masterOk m
  | .mbLockWrite m _ => masterOk m
  | .semRead ms_ _ => ms_.all masterOk
  | .semWrite m _ => masterOk m
  | .semForce m _ => masterOk m
  | .masterReset m => masterOk m
  | .refclkLoss aborted => aborted.all fun (x : Fin 60 × BitVec 7) => masterOk x.2
  | .forcedClockSwitch _ aborted => aborted.all masterOk
  | .calRunComplete hop1 hop2 => hop1.wf && hop2.wf
  | .serviceHello src frame => src.wf frame
  | .serviceOpen src frame => src.wf frame
  | .serviceWrite src frame => src.wf frame
  | .serviceStatus src frame => src.wf frame
  | .serviceVerify src frame => src.wf frame
  | .serviceActivate src frame => src.wf frame
  | .serviceCancel src frame => src.wf frame
  | .serviceFinalize src frame => src.wf frame
  | .serviceRollback src frame => src.wf frame
  | .serviceClose src frame => src.wf frame
  | .serviceRead src frame => src.wf frame
  | .serviceReport _ station frame => decide (station < 256) && decide (frame.length ≤ 240)
  | .mbMsgWrite m _ _ _ => masterOk m
  | .mbStatusClear m _ _ => masterOk m
  | .powerOn | .resetNAssert | .supplyDrop | .coldReset .. | .memoryBistComplete .. | .imageLoadComplete ..
  | .warmReset .. | .resetWarmCommand .. | .resetColdCommand .. | .objectWrite .. | .sdoProtocolTimeout ..
  | .udpAssociationIdle .. | .challengeRead .. | .challengeExpiry .. | .login .. | .loginLockoutEnd .. | .logout ..
  | .idleLogoutExpiry .. | .ownerKeyWrite .. | .ownerLockWrite .. | .nmtStart | .nmtStop | .nmtEnterPreOperational
  | .nmtResetNode | .nmtResetCommunication | .syncReceive | .tpdoEventTimer .. | .heartbeatProduce
  | .heartbeatConsumerTimeout .. | .udpHeartbeatSend | .errorClassClear .. | .errorHistoryClear ..
  | .lssSwitchStateGlobal .. | .lssSwitchStateSelective .. | .lssConfigureNodeId .. | .lssConfigureBitTiming ..
  | .lssActivateBitTiming .. | .lssStoreConfiguration | .lssInquireIdentity .. | .lssInquireNodeId
  | .lssIdentifyRemoteSlave .. | .lssIdentifyNonConfigured | .lssFastscan .. | .settingsStore ..
  | .settingsRestore .. | .factoryReset .. | .tileEventSend | .tileEventsClear .. | .portcConfigWrite ..
  | .igmpQueryReceive .. | .igmpReportTimer .. | .streamEnable .. | .rtpPacketReceive .. | .frameCloseTimeout ..
  | .pathLostTimeout .. | .jpegXsDecodeComplete .. | .freeSelectChoice | .selectSend | .frameBoundary ..
  | .cellSlotSchedule .. | .determinismChecksum .. | .activateFrameWrite .. | .mapActivationDeadline
  | .cascadeLinkUp .. | .relayRelease .. | .syncUnitSend .. | .parentTimeout | .receiverDetectTest ..
  | .detectTimeout .. | .trainingFrameReceive .. | .trainingRequestTimeout .. | .trainingTimeout ..
  | .bitLockTimeout .. | .alignLockTimeout .. | .electricalIdleEnd .. | .alignmentMarkerReceive ..
  | .alignmentMarkerSend .. | .capBlockReceive .. | .capabilityTimeout .. | .capabilityRefuseWaitEnd ..
  | .failedLaneRetry .. | .portRestartTimer .. | .laneLockLoss .. | .laneHealthWindow .. | .prbsStart ..
  | .prbsDurationEnd .. | .liveTestRelockTimeout .. | .injStart .. | .injStop .. | .loopbackWrite ..
  | .testStateWrite .. | .laneCounterClear .. | .idleCellReceive .. | .rateMatchSend .. | .timingWindowEnd
  | .oppositePortDown .. | .loopTimingRestore .. | .discover .. | .discoveryCollectEnd .. | .repeatOnlyWrite ..
  | .chainCounterClear .. | .selfDiagPeriod .. | .healthSend .. | .tileHealthSend | .peerCheck .. | .controlStart ..
  | .reclaimAnswerTimeout .. | .deferRetry .. | .reclaimNow .. | .maintenanceWrite .. | .feedEndTimeout ..
  | .holdTimeExpiry | .ptpDelayReqSend | .announceReceiptTimeout | .quartzSourceLoss | .genlockEdge .. | .ppsEdge
  | .todSet .. | .timingCellOriginate .. | .trimRecompute .. | .applyFrame .. | .stepNow .. | .recompute ..
  | .ppsOutPulse | .fillClose | .composeComplete | .composeOverrun | .commitFrame .. | .commitAbortWrite ..
  | .commitDeadline .. | .framectlSend .. | .coeffSetWrite .. | .tfTableWrite .. | .corrSelectWrite ..
  | .corrVerify .. | .corrVerifyComplete | .corrLoadRow | .correctionReread | .hkRound .. | .thermalTrip ..
  | .coolingComplete | .enumStart .. | .lrReturn .. | .lrMissingTimeout .. | .lampPortCounterClear .. | .frustumIn ..
  | .frustumWrite .. | .frustumStaleTimeout | .schedBuild .. | .schedBuildDone .. | .epochEnd .. | .sweepStart ..
  | .sweepEnd | .lampDiagClear .. | .peAdd .. | .peSub .. | .peAnd .. | .peOr .. | .peXor .. | .peShl .. | .peShr ..
  | .peSra .. | .peMul .. | .peMulhu .. | .peSltu .. | .peMinu .. | .peMaxu .. | .peAddi .. | .peAndi .. | .peOri ..
  | .peXori .. | .peSltui .. | .peShli .. | .peShri .. | .peLui .. | .peLd .. | .peSt .. | .peBeq .. | .peBne ..
  | .peBltu .. | .peBgeu .. | .peDbnz .. | .peJal .. | .peJalr .. | .peRds .. | .peWrs .. | .peWaite ..
  | .waiteComplete .. | .peWaitt .. | .waittComplete .. | .peWdk .. | .peMbs .. | .peMbr .. | .peSema .. | .peSemr ..
  | .peFopen .. | .peTxb .. | .peTxf .. | .peTxsh .. | .peTxl .. | .peTxs .. | .peSlen .. | .peRxw .. | .peRxd ..
  | .peVerd .. | .peDiagc .. | .pePrb .. | .pushStallEnd .. | .referenceFrameLaunch .. | .frameLaunch ..
  | .framerUnderrun .. | .engineWatchdogExpiry .. | .engineLoad .. | .enumerate .. | .stop .. | .repoll ..
  | .apply .. | .engineCounterClear .. | .qspiPortReset | .qspiBadInstruction | .hpSdoGo .. | .pllLock ..
  | .pllLockLoss .. | .pllRelockSwitchBack .. | .xtalLoss | .xtalReturn | .refclkReturn | .clockGateClose ..
  | .clockGateOpen .. | .clockSwitchComplete .. | .dvfsEvaluate .. | .avsTransferComplete .. | .vdone | .vdoneTimeout
  | .freqStart .. | .freqMeasureComplete .. | .clocksCounterClear .. | .clusterWatchdogRestart ..
  | .clusterWatchdogExpiry .. | .flashOpComplete .. | .flashOpTimeout | .bbCommit | .bbResetPinned .. | .calStart ..
  | .calDeferredStore | .verifyComplete | .sessionIdleTimeout | .selfTestPass | .confirm .. | .confirmationTimeout
  | .rollbackNow .. | .finalizeNow .. | .wuStage .. | .wuArm .. | .wuAbort .. | .wuPoll | .wuActivateBroadcast
  | .wallActivateAtFrame | .wuConfirmWaitExpiry | .replayLimitExpiry | .ceilProgram .. | .ceilLock .. | .bistStart ..
  | .bistComplete .. | .tapReset | .tapExtest .. | .tapIdcode | .tapSamplePreload .. | .tapExtestPulse ..
  | .tapExtestTrain .. | .tapClamp | .tapHighz | .tapDbgUnlock .. | .tapDebug | .tapMbist | .tapBypass
  | .genlockEdgeMissing | .uncorrectedBurst .. | .prbsCheckerLock .. | .prbsCheckerLockLoss ..
  | .injectionInterval .. | .loopTimingSlewComplete .. | .wuWritePace | .serviceRequestRetry .. | .helloNonceExpiry => true

end Sys2Proof
end

