-- ==== Sys2Proof/Safety.lean ====
section
/-! DEFINITION. The terms in which claims about the block are stated: what a step keeps, when a write of the object dictionary
passes its checks, and what a port engine does with a legal instruction. -/

namespace Sys2Proof.Machine

open Host

/-! ### What holds of every reachable state -/

/-- Every shadow ceiling is what OTP holds for its port, or unlimited where the shadow was loaded before the entry was
programmed (R520, R521). -/
def State.CeilInv (s : State) : Prop :=
  ∀ p : Fin 64, s.otp.shadow[p] = Ceiling.unlimited ∨ s.otp.ceilings[p] = some s.otp.shadow[p]

/-- The two stores that are addressed, the object store and the flash, have their canonical form: keys rising strictly, and no
entry equal to what its key reads as unlisted. -/
def State.Canon (s : State) : Prop :=
  Sparse.wf (odDefault s.role) s.od ∧ Sparse.wf (fun _ => 0xFF#8) s.nvm.flash

/-- A ceiling entry that is programmed reads in the later state as it does in the earlier one, and the lock once set is set (R520). -/
def State.KeepsCeilings (s t : State) : Prop :=
  (∀ (p : Fin 64) (c : Ceiling), s.otp.ceilings[p] = some c → t.otp.ceilings[p] = some c) ∧
  (s.otp.ceilLock = true → t.otp.ceilLock = true)

/-- Nothing but what the block has put out differs: the answer and the time of the context's last request. -/
def State.onlyAnswers (s : State) (c : CtxId) (o : Out) : State := (s.touchCtx c).emit o

/-! ### What each command can reach -/

/-- The parts of the state, one for each field. -/
inductive Part where
  | now | role | life | straps | railsGood | od | control | clocks | thermal | otp | nvm | update | beat | tap
  | hostPort | lanes | quartz | tile | ports | cascade | ingress | video | lamps | sent | freeCount | pending
  deriving DecidableEq, Repr

/-- A part is the same in two states. -/
def State.same (s t : State) : Part → Prop
  | .now => t.now = s.now
  | .role => t.role = s.role
  | .life => t.life = s.life
  | .straps => t.straps = s.straps
  | .railsGood => t.railsGood = s.railsGood
  | .od => t.od = s.od
  | .control => t.control = s.control
  | .clocks => t.clocks = s.clocks
  | .thermal => t.thermal = s.thermal
  | .otp => t.otp = s.otp
  | .nvm => t.nvm = s.nvm
  | .update => t.update = s.update
  | .beat => t.beat = s.beat
  | .tap => t.tap = s.tap
  | .hostPort => t.hostPort = s.hostPort
  | .lanes => t.lanes = s.lanes
  | .quartz => t.quartz = s.quartz
  | .tile => t.tile = s.tile
  | .ports => t.ports = s.ports
  | .cascade => t.cascade = s.cascade
  | .ingress => t.ingress = s.ingress
  | .video => t.video = s.video
  | .lamps => t.lamps = s.lamps
  | .sent => t.sent = s.sent
  | .freeCount => t.freeCount = s.freeCount
  | .pending => t.pending = s.pending

/-- The parts that a command can change where it answers a next state, read off the rules that give its effect: the parts of its
own function, and, where it can raise an event, the error objects, the staging of the black box and the messages that tell of
it. Every other part stays as it is. -/
def reachOf : Instr → List Part
  | .powerOn =>
        [.life, .railsGood, .od, .control, .clocks, .thermal, .nvm, .update, .beat, .tap, .hostPort, .lanes, .quartz,
      .tile, .ports, .cascade, .ingress, .video, .lamps, .sent, .freeCount]
  | .resetNAssert | .warmReset .. | .clusterWatchdogExpiry .. | .confirmationTimeout =>
        [.now, .life, .od, .control, .clocks, .thermal, .nvm, .update, .beat, .tap, .hostPort, .lanes, .quartz, .tile,
      .ports, .cascade, .ingress, .video, .lamps, .sent, .freeCount]
  | .supplyDrop =>
        [.now, .life, .railsGood, .od, .control, .clocks, .thermal, .nvm, .update, .beat, .tap, .hostPort, .lanes,
      .quartz, .tile, .ports, .cascade, .ingress, .video, .lamps, .sent, .freeCount]
  | .coldReset .. =>
        [.role, .life, .straps, .railsGood, .od, .control, .clocks, .otp, .nvm, .update, .lanes, .tile, .ingress,
      .sent]
  | .memoryBistComplete .. =>
        [.now, .life, .od, .control, .nvm, .quartz, .tile, .video, .lamps, .sent]
  | .imageLoadComplete .. =>
        [.now, .life, .od, .control, .clocks, .nvm, .update, .hostPort, .lanes, .quartz, .ports, .video, .lamps,
      .sent]
  | .resetWarmCommand .. | .resetColdCommand .. | .objectWrite .. | .sdoInitiateDownload .. | .sdoDownloadSegment ..
  | .sdoInitiateUpload .. | .sdoUploadSegment .. | .sdoBlockDownloadInitiate .. | .sdoBlockSegment ..
  | .sdoBlockDownloadEnd .. | .sdoBlockUploadInitiate .. | .sdoAbortReceive .. | .udpDatagramReceive ..
  | .challengeRead .. | .login .. | .logout .. | .ownerKeyWrite .. | .ownerLockWrite .. | .errorHistoryClear ..
  | .settingsStore .. | .settingsRestore .. | .factoryReset .. | .mgmtWriteReceive .. | .mgmtBroadcastWriteReceive ..
  | .tileEventsClear .. | .portcConfigWrite .. | .streamEnable .. | .activateFrameWrite .. | .prbsStart ..
  | .injStart .. | .injStop .. | .loopbackWrite .. | .testStateWrite .. | .laneCounterClear .. | .discover ..
  | .repeatOnlyWrite .. | .chainCounterClear .. | .reclaimNow .. | .maintenanceWrite .. | .todSet .. | .applyFrame ..
  | .stepNow .. | .recompute .. | .commitFrame .. | .commitAbortWrite .. | .coeffSetWrite .. | .tfTableWrite ..
  | .corrSelectWrite .. | .corrVerify .. | .enumStart .. | .lampPortCounterClear .. | .frustumIn ..
  | .frustumWrite .. | .sweepStart .. | .lampDiagClear .. | .engineCounterClear .. | .qspiWrite .. | .qspiQwrite ..
  | .hpSdoGo .. | .freqStart .. | .clocksCounterClear .. | .bbResetPinned .. | .calStart .. | .confirm ..
  | .rollbackNow .. | .finalizeNow .. | .wuStage .. | .wuArm .. | .wuAbort .. | .ceilProgram .. | .ceilLock ..
  | .bistStart .. =>
        [.life, .od, .control, .clocks, .thermal, .otp, .nvm, .update, .beat, .tap, .hostPort, .lanes, .quartz, .tile,
      .ports, .cascade, .ingress, .video, .lamps, .sent, .freeCount]
  | .sdoProtocolTimeout .. =>
        [.now, .control, .hostPort, .quartz, .sent]
  | .udpAssociationIdle .. =>
        [.now, .quartz]
  | .challengeExpiry .. | .loginLockoutEnd .. | .idleLogoutExpiry .. =>
        [.now, .control, .quartz]
  | .nmtStart | .nmtStop | .nmtEnterPreOperational | .heartbeatConsumerTimeout .. | .lssSwitchStateGlobal .. =>
        [.control]
  | .nmtResetNode | .coolingComplete =>
        [.life, .od, .control, .clocks, .thermal, .nvm, .update, .beat, .hostPort, .lanes, .tile, .ports, .cascade,
      .ingress, .video, .lamps, .sent]
  | .nmtResetCommunication | .lssStoreConfiguration | .bbCommit | .calDeferredStore | .selfTestPass =>
        [.od, .control, .nvm, .sent]
  | .syncReceive | .lssSwitchStateSelective .. | .lssConfigureBitTiming .. | .lssFastscan .. =>
        [.control, .sent]
  | .rpdoReceive .. =>
        [.od, .control, .nvm, .lanes, .ports, .cascade, .ingress, .sent]
  | .tpdoEventTimer .. | .heartbeatProduce =>
        [.now, .control, .quartz, .sent]
  | .udpHeartbeatSend =>
        [.now, .control, .quartz, .sent, .freeCount]
  | .errorClassClear .. =>
        [.now, .od, .control, .quartz, .sent]
  | .lssConfigureNodeId .. =>
        [.od, .sent]
  | .lssActivateBitTiming .. =>
        [.now, .od, .control, .quartz]
  | .lssInquireIdentity .. | .lssInquireNodeId | .lssIdentifyRemoteSlave .. | .lssIdentifyNonConfigured
  | .qspiRdsr .. =>
        [.sent]
  | .gatewayTimeout .. | .statusUnitReceive .. | .selfDiagPeriod .. | .controlStart .. =>
        [.now, .od, .control, .nvm, .hostPort, .lanes, .quartz, .ports, .cascade, .ingress, .sent]
  | .mgmtReadReceive .. =>
        [.od, .control, .nvm, .lanes, .tile, .sent, .freeCount]
  | .mgmtResponseReceive .. | .mgmtEventReceive .. | .cellTerminate .. | .topoReportReceive .. =>
        [.now, .od, .control, .nvm, .update, .hostPort, .lanes, .quartz, .ports, .cascade, .ingress, .sent]
  | .tileEventSend | .tileHealthSend =>
        [.now, .od, .control, .nvm, .quartz, .tile, .sent]
  | .txPortCEthernetFrame .. | .igmpQueryReceive .. | .rtpPacketReceive .. | .jpegXsDecodeComplete .. =>
        [.od, .control, .nvm, .ingress, .sent]
  | .igmpReportTimer .. =>
        [.now, .quartz, .ingress, .sent]
  | .frameCloseTimeout .. | .pathLostTimeout .. | .frustumStaleTimeout =>
        [.now, .od, .control, .nvm, .quartz, .ingress, .sent]
  | .freeSelectChoice =>
        [.now, .quartz, .ingress]
  | .selectSend | .syncUnitSend .. =>
        [.now, .lanes, .quartz, .cascade, .sent]
  | .selectUnitReceive .. =>
        [.lanes, .cascade, .ingress, .sent]
  | .frameBoundary .. =>
        [.now, .od, .control, .nvm, .beat, .hostPort, .lanes, .quartz, .tile, .ports, .cascade, .ingress, .video,
      .lamps, .sent]
  | .cellSlotSchedule .. =>
        [.lanes, .ports, .sent]
  | .determinismChecksum .. =>
        [.lanes, .cascade, .sent]
  | .checksumUnitReceive .. | .deferUnitReceive .. | .cancelUnitReceive .. =>
        [.od, .control, .nvm, .lanes, .ports, .cascade, .sent]
  | .mapActivationDeadline =>
        [.now, .od, .control, .nvm, .lanes, .quartz, .cascade, .ingress, .sent]
  | .cascadeLinkUp .. =>
        [.lanes, .quartz, .cascade, .sent]
  | .relayUnitReceive .. =>
        [.od, .control, .nvm, .update, .hostPort, .lanes, .quartz, .ports, .cascade, .ingress, .sent]
  | .relayRelease .. =>
        [.now, .quartz, .ports]
  | .mgmtUnitReceive .. =>
        [.od, .control, .nvm, .update, .lanes, .quartz, .ports, .cascade, .ingress, .sent]
  | .identityUnitReceive .. | .syncUnitReceive .. =>
        [.od, .control, .nvm, .lanes, .quartz, .cascade, .sent]
  | .takeUnitReceive .. | .reclaimUnitReceive .. | .ackUnitReceive .. =>
        [.lanes, .ports, .cascade, .sent]
  | .derateUnitReceive .. =>
        [.lanes, .cascade, .video, .sent]
  | .parentTimeout | .announceReceiptTimeout | .quartzSourceLoss | .genlockEdgeMissing =>
        [.now, .od, .control, .nvm, .quartz, .sent]
  | .receiverDetectTest .. =>
        [.lanes, .sent]
  | .detectTimeout .. | .trainingRequestTimeout .. | .trainingTimeout .. | .capabilityTimeout ..
  | .laneHealthWindow .. | .liveTestRelockTimeout .. =>
        [.now, .od, .control, .nvm, .lanes, .quartz, .sent]
  | .trainingFrameReceive .. | .alignmentMarkerReceive .. | .capBlockReceive .. | .laneLockLoss ..
  | .uncorrectedBurst .. =>
        [.od, .control, .nvm, .lanes, .sent]
  | .bitLockTimeout .. | .alignLockTimeout .. =>
        [.now, .lanes, .quartz]
  | .electricalIdleEnd .. | .capabilityRefuseWaitEnd .. | .failedLaneRetry .. | .portRestartTimer .. =>
        [.now, .od, .lanes, .quartz, .sent]
  | .alignmentMarkerSend .. =>
        [.od, .control, .nvm, .lanes, .quartz, .sent]
  | .prbsDurationEnd .. =>
        [.now, .od, .lanes, .quartz]
  | .videoCellReceive .. | .framectlCommitReceive .. | .framectlAbortReceive .. =>
        [.od, .control, .nvm, .lanes, .tile, .video, .sent]
  | .idleCellReceive .. | .rateMatchSend .. | .healthCellReceive .. | .topoQueryReceive ..
  | .reservedTypeCellReceive .. =>
        [.od, .control, .nvm, .lanes, .tile, .sent]
  | .timingCellReceive .. =>
        [.od, .control, .nvm, .lanes, .quartz, .tile, .video, .sent]
  | .timingWindowEnd =>
        [.od, .control, .nvm, .quartz, .video, .sent]
  | .serviceCellReceive .. =>
        [.od, .control, .nvm, .update, .lanes, .tile, .sent, .freeCount]
  | .topoAssignReceive .. =>
        [.od, .control, .nvm, .lanes, .quartz, .tile, .sent]
  | .framectlGenStateReceive .. =>
        [.od, .control, .nvm, .lanes, .tile, .ingress, .video, .sent]
  | .oppositePortDown .. =>
        [.od, .control, .nvm, .tile, .sent]
  | .loopTimingRestore .. | .loopTimingSlewComplete .. =>
        [.tile]
  | .discoveryCollectEnd .. | .healthSend .. | .peerCheck .. | .reclaimAnswerTimeout .. | .trimRecompute .. =>
        [.now, .od, .control, .nvm, .lanes, .quartz, .ports, .cascade, .sent]
  | .deferRetry .. | .timingCellOriginate .. =>
        [.now, .lanes, .quartz, .ports, .cascade, .sent]
  | .feedEndTimeout .. | .composeSlot .. | .composeOverrun =>
        [.now, .od, .control, .nvm, .quartz, .tile, .video, .sent]
  | .holdTimeExpiry | .fillClose =>
        [.now, .od, .control, .nvm, .quartz, .video, .sent]
  | .ptpSyncReceive .. | .ptpFollowUpReceive .. | .ptpAnnounceReceive .. | .genlockEdge .. | .ppsEdge =>
        [.od, .control, .nvm, .quartz, .sent]
  | .ptpDelayReqSend =>
        [.quartz, .sent]
  | .ptpDelayRespReceive .. =>
        [.quartz]
  | .frameOutPulse .. | .ppsOutPulse =>
        [.now, .quartz, .sent]
  | .composeComplete =>
        [.od, .control, .nvm, .beat, .tile, .video, .sent]
  | .commitDeadline .. =>
        [.now, .od, .control, .clocks, .nvm, .quartz, .tile, .video, .lamps, .sent]
  | .framectlSend .. =>
        [.now, .lanes, .quartz, .ports, .cascade, .ingress, .sent]
  | .corrVerifyComplete | .corrLoadRow =>
        [.od, .control, .nvm, .video, .sent]
  | .correctionReread =>
        [.video]
  | .hkRound .. =>
        [.now, .od, .control, .clocks, .thermal, .nvm, .quartz, .video, .lamps, .sent, .freeCount]
  | .thermalTrip .. =>
        [.life, .od, .control, .clocks, .thermal, .nvm, .quartz, .tile, .video, .lamps, .sent]
  | .lrReturn .. | .enumerate .. =>
        [.now, .od, .control, .nvm, .hostPort, .quartz, .video, .lamps, .sent]
  | .lrMissingTimeout .. | .frameLaunch .. | .bistComplete .. =>
        [.now, .od, .control, .nvm, .quartz, .lamps, .sent]
  | .schedBuild .. | .epochEnd .. | .sweepEnd | .framerUnderrun .. =>
        [.od, .control, .nvm, .lamps, .sent]
  | .schedBuildDone .. | .stop .. | .repoll .. | .apply .. =>
        [.lamps]
  | .peAdd .. | .peSub .. | .peAnd .. | .peOr .. | .peXor .. | .peShl .. | .peShr .. | .peSra .. | .peMul ..
  | .peMulhu .. | .peSltu .. | .peMinu .. | .peMaxu .. | .peAddi .. | .peAndi .. | .peOri .. | .peXori ..
  | .peSltui .. | .peShli .. | .peShri .. | .peLui .. | .peLd .. | .peSt .. | .peBeq .. | .peBne .. | .peBltu ..
  | .peBgeu .. | .peDbnz .. | .peJal .. | .peJalr .. | .peRds .. | .peWrs .. | .peWaite .. | .peWaitt .. | .peWdk ..
  | .peMbs .. | .peMbr .. | .peSema .. | .peSemr .. | .peFopen .. | .peTxb .. | .peTxf .. | .peTxsh .. | .peTxl ..
  | .peTxs .. | .peSlen .. | .peRxw .. | .peRxd .. | .peVerd .. | .peDiagc .. | .pePrb .. =>
        [.od, .control, .nvm, .hostPort, .lamps, .sent]
  | .waiteComplete .. | .waittComplete .. =>
        [.now, .quartz, .lamps]
  | .pushStallEnd .. | .engineWatchdogExpiry .. =>
        [.now, .od, .control, .nvm, .hostPort, .quartz, .lamps, .sent]
  | .referenceFrameLaunch .. =>
        [.now, .od, .control, .clocks, .nvm, .beat, .quartz, .lamps, .sent]
  | .engineLoad .. =>
        [.od, .control, .nvm, .hostPort, .video, .lamps, .sent]
  | .qspiRead .. | .qspiQread .. =>
        [.od, .control, .nvm, .hostPort, .sent, .freeCount]
  | .qspiPortReset | .qspiBadInstruction | .mbPost .. | .mbTake .. | .mbFlush .. | .returnCodeWrite ..
  | .mbBindWrite .. | .mbLockWrite .. | .semWrite .. | .semForce .. | .masterReset .. | .mbMsgWrite ..
  | .mbStatusClear .. =>
        [.od, .control, .nvm, .hostPort, .sent]
  | .semRead .. =>
        [.hostPort, .sent]
  | .pllLock .. | .clockGateClose .. | .clockGateOpen .. | .clusterWatchdogRestart .. =>
        [.clocks]
  | .pllLockLoss .. | .xtalLoss | .dvfsEvaluate .. | .avsTransferComplete .. =>
        [.od, .control, .clocks, .nvm, .sent]
  | .pllRelockSwitchBack .. | .xtalReturn =>
        [.now, .clocks, .quartz]
  | .refclkLoss .. =>
        [.od, .control, .clocks, .nvm, .lanes, .quartz, .sent]
  | .refclkReturn =>
        [.now, .life, .od, .control, .clocks, .nvm, .update, .beat, .hostPort, .lanes, .quartz, .tile, .ports,
      .cascade, .ingress, .video, .lamps, .sent]
  | .clockSwitchComplete .. | .vdone =>
        [.od, .clocks, .sent]
  | .forcedClockSwitch .. | .vdoneTimeout =>
        [.now, .od, .control, .clocks, .nvm, .quartz, .sent]
  | .freqMeasureComplete .. =>
        [.now, .od, .clocks, .quartz]
  | .flashOpComplete .. | .flashOpTimeout =>
        [.life, .od, .control, .clocks, .thermal, .nvm, .update, .beat, .tap, .hostPort, .lanes, .quartz, .tile,
      .ports, .cascade, .ingress, .video, .lamps, .sent, .freeCount]
  | .calRunComplete .. =>
        [.od, .control, .nvm, .lanes, .quartz, .ports, .cascade, .lamps, .sent]
  | .serviceHello .. | .serviceOpen .. | .serviceWrite .. | .serviceStatus .. | .serviceVerify ..
  | .serviceActivate .. | .serviceCancel .. | .serviceFinalize .. | .serviceRollback .. | .serviceClose ..
  | .serviceRead .. =>
        [.od, .control, .nvm, .update, .tile, .sent, .freeCount]
  | .verifyComplete =>
        [.od, .control, .nvm, .update, .tile, .sent]
  | .serviceReport .. =>
        [.od, .control, .nvm, .update, .lanes, .ports, .cascade, .sent]
  | .sessionIdleTimeout | .wallActivateAtFrame =>
        [.now, .od, .control, .nvm, .update, .quartz, .tile, .sent]
  | .wuPoll | .wuActivateBroadcast | .wuConfirmWaitExpiry =>
        [.now, .od, .control, .nvm, .update, .lanes, .quartz, .ports, .cascade, .sent]
  | .replayLimitExpiry =>
        [.now, .od, .control, .nvm, .beat, .quartz, .lamps, .sent]
  | .tapReset | .tapMbist =>
        [.tap]
  | .tapExtest .. | .tapExtestPulse .. | .tapExtestTrain .. | .tapClamp | .tapHighz =>
        [.tap, .lanes, .tile, .ports, .lamps, .sent]
  | .tapIdcode | .tapSamplePreload .. | .tapDebug | .tapBypass =>
        [.tap, .sent]
  | .tapDbgUnlock .. =>
        [.od, .control, .nvm, .tap, .sent, .freeCount]
  | .prbsCheckerLock .. | .prbsCheckerLockLoss .. =>
        [.lanes]
  | .injectionInterval .. =>
        [.od, .lanes, .sent]
  | .wuWritePace | .serviceRequestRetry .. =>
        [.now, .update, .lanes, .quartz, .ports, .cascade, .sent]
  | .helloNonceExpiry =>
        [.now, .update, .quartz]

/-! ### Writes of the object dictionary -/

/-- The value that a write of a local object stores once checks 1 to 8 of R561 pass; none where one of them refuses it, where
the object lies behind the window, or where no device program runs. -/
def State.passes (s : State) (c : CtxId) (idx sub : Nat) (b : List Byte) : Option Val :=
  if !s.up || (tileIndex idx).isSome then none
  else
    let s := s.touchCtx c
    match s.writeChecks c (s.mirror idx) sub with
    | .error _ => none
    | .ok r =>
      if !r.ty.fits b.length then none
      else if !r.ty.isData && !r.rng.ok (r.ty.value b).toInt then none
      else some (r.ty.value b)

/-- A write is answered: abort code 0 where it is done. -/
def State.answered (s : State) (c : CtxId) (idx sub : Nat) (code : Nat) : State := s.emit (.written c idx sub code)

/-! ### Port engines -/

/-- Port engine p of a running tile takes its next instruction: it runs, waits for nothing, and no push of it is stalled. -/
def State.engineRuns (s : State) (p : Fin 64) : Prop :=
  s.isTile = true ∧ s.lamps.engine[p].run = .running ∧ s.lamps.engine[p].wait = .none ∧ s.lamps.engine[p].stall = none

/-- The word that port engine p of a running tile takes next is this one, and it reads without error. -/
def State.fetches (s : State) (p : Fin 64) (w : Word) : Prop :=
  s.engineRuns p ∧ s.lamps.engine[p].fetch = w ∧ s.lamps.engine[p].damaged.contains s.lamps.engine[p].pc = false

/-- Cycles that an instruction waits because it uses the destination of an LD, MUL or MULHU just before it (R360). -/
def Engine.waitFor (e : Engine) (uses : List (Fin 16)) : Nat :=
  match e.slow with
  | some r => if uses.contains r then 1 else 0
  | none => 0

/-- An instruction that changes the engine's own registers alone: its cycles are counted, it has its effect, and the engine
goes on to the next word. -/
def Engine.run1 (e : Engine) (uses : List (Fin 16)) (cycles : Nat) (f : Engine → Engine) : Engine :=
  let e' := f { e with slow := none, cycles := e.cycles + cycles + e.waitFor uses }
  { e' with pc := (e'.pc + 1) % 2048 }

/-- The cycles of an instruction are counted and its operands are there. -/
def State.engineSpent (s : State) (p : Fin 64) (uses : List (Fin 16)) (cycles : Nat) : State :=
  let w := s.lamps.engine[p].waitFor uses
  s.withEngine p fun e => { e with slow := none, cycles := e.cycles + cycles + w }

/-- Any legal instruction: cycles counted, effect, and the next word where the engine still runs, waits for nothing and does not
stall. -/
def State.engineDoes (s : State) (p : Fin 64) (uses : List (Fin 16)) (cycles : Nat) (act : State → State) : State :=
  (act (s.engineSpent p uses cycles)).withEngine p Engine.advance

end Sys2Proof.Machine
end

