-- ==== Sys2Proof/Certificates/Slice0/Obligations.lean ====
section
/-! DEFINITION. The statements for the provers: what the block's commands do, by the rules of spec/, the invariants that every step
keeps, and the frame of every command. -/

open Host Sys2Proof Sys2Proof.Machine

/-- A step runs the command at the front of the queue. -/
def Obligations.StepRunsFrontCommand : Prop :=
 ∀ (s : State) (c : Instr) (rest : List Instr), s.pending = c :: rest → step s = exec c { s with pending := rest }

/-- The model's choices: an idle step, and no words for commands (log entries 1 and 2). -/
def Obligations.IdleStepAndWords : Prop :=
 (∀ s : State, s.pending = [] → step s =
  .next { s with
  now := s.now + 1
  quartz := { s.quartz with wall := s.quartz.wall + ((subNs : Int) + s.drift 1).toNat, slew := s.slewLeft 1 } }) ∧
 ∀ (s : State) (nbits w : Nat), decodeTableWord nbits w = none ∧ s.withFetchWord nbits w = s

/-- What the reset state holds, and that it meets the invariants (log entries 3, 4, 10 and 11). -/
def Obligations.ResetState : Prop :=
 State.reset.Canon ∧ State.reset.CeilInv ∧ State.reset.life = .inReset ∧ State.reset.role = .none ∧ State.reset.od = [] ∧
 State.reset.pending = [] ∧ State.reset.sent = [] ∧ State.reset.lamps.engine = Vector.replicate 64 Engine.reset ∧
 ∀ p : Fin 64, State.reset.otp.ceilings[p] = none ∧ State.reset.otp.shadow[p] = { maxGrey := 65535, maxAvg := 65535, refresh := 65535 }

/-- Every command answers a next state in every state and leaves the queue (log entry 5). -/
def Obligations.EveryCommandAnswersNext : Prop :=
 ∀ (c : Instr) (s : State), ∃ t, exec c s = .next t ∧ t.pending = s.pending

/-- Every command leaves the parts of the state that it cannot reach. -/
def Obligations.FrameOfEveryCommand : Prop :=
 ∀ (c : Instr) (s t : State), exec c s = .next t → ∀ x : Part, x ∉ reachOf c → s.same t x

/-- R46, R54, R57, R61, R171, R208, R249, R274, R366, R367, R380, R387, R388, R389, R393, R427, R494, R561: object writes, SDO requests, fills, slots and engine reads take their effect. -/
def Obligations.CommandsTakeEffect : Prop :=
 (
  ∀ (s : State) (c : CtxId) (x : Val),
   let t := s.touchCtx c
   let takes (i : Instr) (idx sub : Nat) (b : List Byte) : Prop :=
    let r := t.storeObject c (t.mirror idx) sub x
    s.passes c idx sub b = some x → r.1 = 0 → exec i s = .next (r.2.answered c idx sub 0)
   let b1 (idx sub : Nat) (i : BitVec 8 → Instr) : Prop := ∀ v, takes (i v) idx sub (leBytes 1 v.toNat)
   let b8 (idx sub : Nat) (i : BitVec 64 → Instr) : Prop := ∀ v, takes (i v) idx sub (leBytes 8 v.toNat)
   let data (idx sub : Nat) (i : List Byte → Instr) : Prop := ∀ b, takes (i b) idx sub b
   (∀ (idx : BitVec 16) (sub : BitVec 8), data idx.toNat sub.toNat (.objectWrite c idx sub)) ∧
   (∀ l : Fin 24, b1 (0x2110 + l) 0x16 (.laneCounterClear c l) ∧ b1 (0x2110 + l) 0x23 (.prbsStart c l) ∧
    takes (.injStart c l) (0x2110 + l) 0x34 [1] ∧ takes (.injStop c l) (0x2110 + l) 0x34 [0]) ∧
   (∀ p : Fin 3, b1 (0x2100 + p) 0x0D (.loopbackWrite c p) ∧ b1 (0x2100 + p) 0x0E (.testStateWrite c p)) ∧
   (∀ p : Fin 2, b1 (0x2200 + p) 0x04 (.discover c p) ∧ b1 (0x2300 + p) 0x15 (.reclaimNow c p) ∧
    b1 (0x2300 + p) 0x16 (.maintenanceWrite c p)) ∧
   (∀ n : Fin 32, b1 (0x2400 + n) 0x01 (.streamEnable c n)) ∧
   (∀ k : Fin 16, data (0x2850 + k) 0x01 (.coeffSetWrite c k)) ∧ (∀ k : Fin 8, data (0x2920 + k) 0x01 (.tfTableWrite c k)) ∧
   (∀ p : Fin 64, b1 (0x2A00 + p) 0x09 (.enumStart c p) ∧ b1 (0x2A00 + p) 0x18 (.lampPortCounterClear c p) ∧
    b1 (0x2C10 + p) 0x0F (.engineCounterClear c p)) ∧
   (∀ g : Fin 4, takes (.settingsStore c g) 0x1010 (g + 1) (leBytes 4 0x65766173) ∧
    takes (.settingsRestore c g) 0x1011 (g + 1) (leBytes 4 0x64616F6C)) ∧
   (∀ w, takes (.bbResetPinned c w) 0x3000 0x1B (leBytes 4 w.toNat)) ∧
   takes (.factoryReset c) 0x3000 0x05 (leBytes 4 0x74636166) ∧ takes (.errorHistoryClear c) 0x1003 0 (leBytes 4 0) ∧
   takes (.resetWarmCommand c) 0x2000 0x10 [1] ∧ takes (.resetColdCommand c) 0x2000 0x10 [2] ∧
   takes (.wuStage c) 0x3100 0x31 [1] ∧ takes (.wuArm c) 0x3100 0x31 [2] ∧ takes (.wuAbort c) 0x3100 0x31 [3] ∧
   b1 0x2102 0x01 (.portcConfigWrite c) ∧ b1 0x2200 0x0F (.chainCounterClear c) ∧ b1 0x2212 0x03 (.tileEventsClear c) ∧
   b1 0x2200 0x04 (.repeatOnlyWrite c) ∧ b8 0x2500 0x03 (.activateFrameWrite c) ∧ b8 0x2880 0x02 (.commitFrame c) ∧
   b1 0x2880 0x06 (.commitAbortWrite c) ∧ b1 0x2930 0x01 (.corrSelectWrite c) ∧ b1 0x2930 0x03 (.corrVerify c) ∧
   b1 0x2B00 0x17 (.lampDiagClear c) ∧ b1 0x2B00 0x10 (.sweepStart c) ∧ data 0x2A80 0x07 (.frustumWrite c) ∧
   data 0x2510 0x01 (.frustumIn c) ∧ b1 0x2D00 0x15 (.clocksCounterClear c) ∧ b1 0x2D00 0x21 (.freqStart c) ∧
   b1 0x2F00 0x01 (.calStart c) ∧ b8 0x2600 0x23 (.todSet c) ∧ b8 0x2600 0x24 (.stepNow c) ∧ b1 0x2600 0x0F (.recompute c) ∧
   b8 0x2600 0x08 (.applyFrame c) ∧ b1 0x3100 0x14 (.confirm c) ∧ b1 0x3100 0x1B (.rollbackNow c) ∧
   b1 0x3100 0x1C (.finalizeNow c) ∧ b8 0x3200 0x02 (.ceilProgram c) ∧ b1 0x3200 0x03 (.ceilLock c) ∧
   b1 0x3200 0x21 (.bistStart c) ∧ data 0x3300 0x02 (.login c) ∧ b1 0x3300 0x04 (.logout c) ∧
   data 0x3300 0x10 (.ownerKeyWrite c) ∧ b1 0x3300 0x11 (.ownerLockWrite c)) ∧
 (
  ∀ (s : State) (c : CtxId) (frame : List Byte),
   let served (k : SdoClass) (i : CtxId → List Byte → Instr) : Prop :=
    s.sdoOpen c frame = true → sdoClass (s.xferOf c) frame = k → (s.xferOf c).waits = false →
     exec (i c frame) s = .next ((s.touchCtx c).serve c frame)
   served .initiateDownload .sdoInitiateDownload ∧ served .downloadSegment .sdoDownloadSegment ∧
   served .initiateUpload .sdoInitiateUpload ∧ served .uploadSegment .sdoUploadSegment ∧
   served .blockInitiate .sdoBlockDownloadInitiate ∧ served .blockSegment .sdoBlockSegment ∧
   served .blockEnd .sdoBlockDownloadEnd ∧ served .blockUpload .sdoBlockUploadInitiate ∧ served .abort .sdoAbortReceive ∧
   (∀ x, s.ctx? c = some x → s.up = true → x.xfer.waits = false → ∀ idx sub, x.xfer.object = some (idx, sub) →
    exec (.sdoProtocolTimeout c) s = .next ((s.until_ (x.lastRequest + 1000000000)).abortSdo c x.xfer.wide idx sub 0x05040000)) ∧
   (let f := padTo 8 (sdoHead 0x40 0x3300 0x01)
    s.sdoOpen c f = true → s.xferOf c = .idle → exec (.challengeRead c) s = .next ((s.touchCtx c).serve c f))) ∧
 (
  ∀ (s : State) (k : Fin 4), s.isTile = true →
   let c := s.video.compose
   (∀ f, s.video.store.filling = some f → ∃ t, exec .fillClose s = .next t ∧ t.video.compose.frame = f ∧
    t.video.store.filling = some (max (f + 1) s.quartz.frame)) ∧
   (∀ q, c.pending = some q → s.feedLost = true → ∃ t, exec (.commitDeadline false) s = .next t ∧
    (t.video.compose.pending.map CommitPending.frame) = some (q.frame + 1)) ∧
   (∀ d : Damage, d.generations = false → s.repeatOnly = false → c.slot = none → c.slotsDone = k.1 → k.1 < (s.setFor c.frame).s → s.video.store.filling ≠ none →
    s.slotSource k ≠ none → ∃ t, exec (.composeSlot d) s = .next t ∧ t.video.compose.slot = some k.1) ∧
   (∀ b, c.slot = some k.1 → (c.bank[s.writeSet k * 4 + k.1]?).getD none = some b → ∃ t, exec .composeComplete s = .next t ∧
    t.video.compose.slot = none ∧ t.video.compose.last[k] = some (s.writeSet k)) ∧
   (c.slot = some k.1 → ∃ t, exec .composeOverrun s = .next t ∧ t.video.compose.slot = none ∧
    t.video.compose.lastOver[k] = some c.frame)) ∧
 (
  ∀ (s : State) (p : Fin 64) (rd ra rb : Fin 16),
   let e := s.lamps.engine[p]
   let goes (w : Word) (c : Instr) (uses : List (Fin 16)) (cycles : Nat) : Prop := s.fetches p w → ∃ t, exec c s = .next t ∧
    t.lamps.engine[p].pc = (e.pc + 1) % 2048 ∧ t.lamps.engine[p].cycles = e.cycles + cycles + e.waitFor uses
   goes (wordR 0x36 rd ra 0 0) (.peSlen p rd ra 0 0) [ra] 1 ∧ goes (wordR 0x38 rd 0 0 0) (.peRxw p rd 0 0 0) [] 1 ∧
   goes (wordR 0x39 0 0 0 0) (.peRxd p 0 0 0 0) [] 1 ∧ goes (wordR 0x3C rd 0 0 0) (.pePrb p rd 0 0 0) [] 1 ∧
   goes (wordR 0x3A 0 ra rb 0) (.peVerd p 0 ra rb 0) [ra, rb] 2 ∧ goes (wordR 0x3B 0 ra 0 0) (.peDiagc p 0 ra 0 0) [ra] 1) ∧
 (
  ∀ (s : State) (m : BitVec 7) (n : Fin 32), isMaster m = true → s.hostPort.sem[n].held = true → s.hostPort.sem[n].holder = m →
   ∃ t, exec (.semWrite m n) s = .next t ∧
    t.hostPort = { s.hostPort with sem := vset s.hostPort.sem n { s.hostPort.sem[n] with held := false } }) ∧
 (
  ∀ (s : State) (src : SvcSource) (b : List Byte), s.serviceUp = true → field b 0 1 = 1 → s.pointing = false →
   (∀ a, (s.update.answers.find? fun a => a.1 == src.key) = some a → a.2.1 ≠ field b 4 4) →
   let u := if s.update.session = some src.key then s.withUpdate fun x => { x with lastRequest := s.now } else s
   let acts (op : Nat) (i : SvcSource → List Byte → Instr) (f : State → SvcSource → List Byte → State) : Prop :=
    field b 1 1 = op → exec (i src b) s = .next (f u src b)
   acts 1 .serviceHello State.svcHello ∧ acts 2 .serviceOpen State.svcOpen ∧ acts 3 .serviceWrite State.svcWrite ∧
   acts 4 .serviceStatus State.svcStatus ∧ acts 5 .serviceVerify State.svcVerify ∧ acts 6 .serviceActivate State.svcActivate ∧
   acts 7 .serviceCancel State.svcCancel ∧ acts 8 .serviceFinalize State.svcFinalize ∧
   acts 9 .serviceRollback State.svcRollback ∧ acts 10 .serviceClose State.svcClose ∧ acts 11 .serviceRead State.svcRead) ∧
 (
  ∀ s : State, s.isSender = true →
   let has (i : Instr) (P : State → Prop) : Prop := ∃ t, exec i s = .next t ∧ P t
   let answers (i : Instr) (cs : Nat) : Prop := has i fun t => ∃ b, t.sent = s.sent ++ [.can 0x7E4 (padTo 8 (leBytes 1 cs ++ b))]
   (s.nmtOpen = true →
    has .nmtStart (fun t => t.control.nmt = .operational) ∧ has .nmtStop (fun t => t.control.nmt = .stopped) ∧
    has .nmtEnterPreOperational (fun t => t.control.nmt = .preOperational) ∧
    (s.rdN 0x1017 0 ≠ 0 → has .heartbeatProduce fun t => t.control.hbAt = t.now) ∧
    ∀ k : Fin 4, s.rdN 0x1016 (k + 1) % 65536 ≠ 0 → s.rdN 0x1016 (k + 1) / 65536 % 256 ≠ 0 →
     has (.heartbeatConsumerTimeout k) fun t => t.control.hbLost[k] = true) ∧
   (s.rdB 0x3300 0x0D = true → exec .nmtResetCommunication s = .next s.restartCan) ∧
   exec .syncReceive s = .next ((List.finRange 4).foldl State.syncTpdo s) ∧
   (∀ (n : Fin 4) at_, s.tpdoOn n = true → 254 ≤ s.rdN (0x1800 + n) 0x02 → s.rdN (0x1800 + n) 0x05 ≠ 0 →
    s.control.tpdoAt[n] = some at_ → has (.tpdoEventTimer n) fun t => t.control.tpdoAt[n] = some t.now) ∧
   (∀ v, v < 2 → has (.lssSwitchStateGlobal (BitVec.ofNat 8 v)) fun t => t.control.lss.configuring = decide (v = 1)) ∧
   (∀ v p r n : Word, [v.toNat, p.toNat, r.toNat, n.toNat] = (List.range 4).map s.identity →
    answers (.lssSwitchStateSelective v p r n) 0x44 ∧ answers (.lssIdentifyRemoteSlave v p r r n n) 0x4F) ∧
   (s.control.nodeId = 0xFF → answers .lssIdentifyNonConfigured 0x50 ∧
    (s.control.lss.configuring = false → ∀ (i : Word) (sub next : Byte), answers (.lssFastscan i 128 sub next) 0x4F)) ∧
   (s.control.lss.configuring = true →
    answers (.lssConfigureNodeId 1) 0x11 ∧ answers (.lssConfigureBitTiming 0 0) 0x13 ∧ answers .lssStoreConfiguration 0x17 ∧
    answers .lssInquireNodeId 0x5E ∧ (∀ k : Fin 4, answers (.lssInquireIdentity k) (0x5A + k)) ∧
    ∀ r delay, s.control.lss.pendingRate = some r → has (.lssActivateBitTiming delay) fun t => t.control.arbRate = r)) ∧
 (
  ∀ (s : State) (c : CtxId) (x : Ctx), s.up = true → s.ctx? c = some x →
   (∀ (addr port : Nat) (ch : Fin 8) (tag : BitVec 16) (f : List Byte), f.length = 8 →
    exec (.udpDatagramReceive addr port ([0x11, BitVec.ofNat 8 ch.1] ++ leBytes 2 tag.toNat ++ f)) s =
     .next (s.udpRequest ch (addr, port) tag.toNat f)) ∧
   (∀ ch : Fin 8, s.control.udp[ch].assoc ≠ none → exec (.udpAssociationIdle ch) s =
    .next (s.until_ (s.control.udp[ch].lastRequest + 10000000000))) ∧
   (s.rdN 0x2002 0x06 ≠ 0 → s.rdN 0x2002 0x08 ≠ 0 → ∃ t, exec .udpHeartbeatSend s = .next t ∧ t.control.udpHbAt = t.now) ∧
   (∀ (n : Fin 4) (d : List Byte), s.role = .sender → s.control.nmt = .operational → bit (s.pdoCob false n) 31 = false → d ≠ [] →
    d.length = s.mapTotal (0x1600 + n) (s.rdN (0x1600 + n) 0) → exec (.rpdoReceive n true d) s = .next (s.frustumIn d).2) ∧
   (∀ n, x.nonce = some n → ∃ t, exec (.challengeExpiry c) s = .next t ∧ t.ctx? c = some { x with nonce := none }) ∧
   (s.now < x.lockedUntil → ∃ t, exec (.loginLockoutEnd c) s = .next t ∧ t.now = x.lockedUntil) ∧
   (∃ t, exec (.idleLogoutExpiry c) s = .next t ∧ (t.ctx? c).map Ctx.level = some (s.defaultLevel c)) ∧
   (∀ (k : Fin 3), s.control.errTimes[k] ≠ none → ∃ t, exec (.errorClassClear k) s = .next t ∧
    t.control.errTimes = vset s.control.errTimes k none) ∧
   exec .qspiPortReset s = .next ((s.resetHostPort false).masterReset 0x48)) ∧
 (
  ∀ (s : State) (n : Fin 32),
   let x := s.ingress.stream[n]
   let has (i : Instr) (P : State → Prop) : Prop := ∃ t, exec i s = .next t ∧ P t
   (∀ (e : Fin 8) (f : EthFrame) src dst port b r, s.hasEth e = true → s.rdN 0x2102 (0x18 + e) = 0 → f.vlan = none →
    f.body = .udp src dst port b → dst ≠ 0xE0000181 → s.receivers e src dst port = [r] →
    exec (.txPortCEthernetFrame e f) s = .next (s.rtpPacket r.1 r.2 b)) ∧
   (∀ (e : Fin 8) l, s.hasEth e = true → has (.igmpQueryReceive e 2 0 l) fun t => t.ingress.igmpV2[e] = some (s.now + 260 * second)) ∧
   (∀ t0, x.reportAt = some t0 → has (.igmpReportTimer n) fun t => t.ingress.stream[n].reportAt = none ∧ t0 ≤ t.now) ∧
   (∀ path b, exec (.rtpPacketReceive n path b) s = .next (s.rtpPacket n path b)) ∧
   (∀ d ts, x.dueFirst = some (d, ts) → exec (.frameCloseTimeout n) s = .next ((s.until_ d).closeTs n ts)) ∧
   (∀ p : Fin 2, s.streamOn n = true → s.pathUsed n p = true → x.lost[p] = false →
    has (.pathLostTimeout n p) fun t => t.ingress.stream[n].lost[p] = true) ∧
   (∀ f rest, x.decoding = f :: rest → has (.jpegXsDecodeComplete n (some 0)) fun t => t.ingress.stream[n].decoding = rest) ∧
   (s.isSender = true → s.quartz.lockedOnce = true →
    let f := s.quartz.frame + 1
    let u := s.untilWall (s.tFrame f - 500000 * subNs)
    let v := s.untilWall (s.tFrame f - 400000 * subNs)
    (u.selector = true → u.subscribed n = true → u.freeStream n = true →
     has .freeSelectChoice fun t => (t.ingress.stream[n].selection f).isSome = true) ∧
    (v.selector = true → v.subscribed n = true → v.freeStream n = true → (v.ingress.stream[n].selection f).isSome = true →
     has .selectSend fun t => t.cascade.useq = s.cascade.useq + 1)) ∧
   (∀ (link : Fin 2) (u : CascadeUnit), (s.takeUnit link u).1 = true → u.kind = 3 → (∀ k < 32, field u.body (8 * k) 8 = 0) →
    exec (.selectUnitReceive link u) s = .next (s.takeUnit link u).2) ∧
   (s.up = true → s.quartz.lockedOnce = true → ∀ errors, exec (.frameBoundary errors) s = .next
    (if s.role = .tile then s.beginFrame.tileFrame s.genNow errors
     else if s.role = .sender then s.beginFrame.senderFrame errors else s.beginFrame)))

/-- R1: the role is read from the straps at cold reset and stays until the next. -/
def Obligations.RoleIsReadAtColdReset : Prop :=
 ∀ (c : Instr) (s t : State), exec c s = .next t →
  ((∀ a f m, c ≠ .coldReset a f m) → t.role = s.role ∧ t.straps = s.straps) ∧
  (∀ a f m, c = .coldReset a f m → s.life = .inReset → t.straps = a ∧
   t.role = (if a.toNat % 4 = 1 then .sender else if a.toNat % 4 = 2 then .tile else .none)) ∧
  t.readDevice 0x2000 1 = some (numVal (match t.role with | .none => 0 | .sender => 1 | .tile => 2)) ∧
  t.readDevice 0x2000 2 = some (numVal Config.siliconRev)

/-- R520: a programmed ceiling entry and the ceiling lock stay as they are in every step. -/
def Obligations.CeilingsAreBurntOnce : Prop :=
 ∀ s t : State, step s = .next t → s.KeepsCeilings t

/-- R520: a ceiling in force is unlimited or the one burnt, and every step keeps this. -/
def Obligations.CeilingsInForceAreBurnt : Prop :=
 ∀ s t : State, s.CeilInv → step s = .next t → t.CeilInv

/-- The object store and the flash keep their canonical form in every step. -/
def Obligations.StoresStayCanonical : Prop :=
 ∀ s t : State, s.Canon → step s = .next t → t.Canon

/-- R46, R86 to R94, Table 3.3: the bring-up of one lane (log entries 23, 24 and 105). -/
def Obligations.LaneBringUp : Prop :=
 ∀ (s : State) (l : Fin 24),
  let x := s.lanes.lane[l]
  (x.stage = .detect → ∀ ohms, ∃ t, exec (.receiverDetectTest l ohms) s = .next t ∧
   t.lanes.lane[l].stage = if s.rdN (0x2110 + l) 0x03 = 1 ∨ (40 ≤ ohms.toNat ∧ ohms.toNat ≤ 60) then .training else .detect) ∧
  (x.stage = .detect → x.detectRaised = false → ∃ t, exec (.detectTimeout l) s = .next t ∧ t.lanes.lane[l].detectRaised = true ∧
   t.lanes.lane[l].stage = .detect ∧ x.since + 1000000000 ≤ t.now) ∧
  (x.stage = .training → s.rdB (0x2110 + l) 0x05 = false → ∀ control status want ready,
   (status.getLsbD 15 = false → ∃ t, exec (.trainingFrameReceive l control control control status status status false ready want) s = .next t ∧
    t.lanes.lane[l].stage = .training ∧ t.lanes.lane[l].readyIn = 0) ∧
   (status.getLsbD 15 = true → isRequest want = false → x.request = none → 7 ≤ x.readyIn → 7 ≤ x.readyOut →
    s.portTest (portOf l) = false →
    ∃ t, exec (.trainingFrameReceive l control control control status status status false true want) s = .next t ∧
     t.lanes.lane[l].tx = .codewords ∧ (s.linkOf l ≠ none → t.lanes.lane[l].stage = .bitLock) ∧
     (s.linkOf l = none → t.lanes.lane[l].stage = .active ∧ t.lanes.ethUp = true))) ∧
  (x.stage = .training → ∀ r, x.request = some r →
   (r.2 < 2 → ∃ t, exec (.trainingRequestTimeout l) s = .next t ∧ t.lanes.lane[l].request = some (r.1, r.2 + 1)) ∧
   (2 ≤ r.2 → ∃ t, exec (.trainingRequestTimeout l) s = .next t ∧ t.lanes.lane[l].stage = .failed)) ∧
  (x.stage = .training → ∃ t, exec (.trainingTimeout l) s = .next t ∧ t.lanes.lane[l].stage = .failed ∧
   x.since + 250000000 ≤ t.now) ∧
  (x.stage = .bitLock → exec (.bitLockTimeout l) s = .next ((s.until_ (x.since + 2 * ms)).parkLane l .idle)) ∧
  (x.stage = .alignLock → exec (.alignLockTimeout l) s =
   .next (if s.portTest (portOf l) then s else (s.until_ (x.since + ms)).parkLane l .idle)) ∧
  (x.stage = .capability → ∃ t, exec (.capabilityTimeout l) s = .next t ∧ t.lanes.lane[l].stage = .failed ∧ t.lanes.lane[l].hold = .idle) ∧
  (x.stage = .failed → s.rdB (0x2110 + l) 0x02 = true → s.rdN (0x2100 + portOf l) 0x0D = 0 → s.linkOf l ≠ none ∨ s.ethOf l ≠ none →
   let again : LaneStage := if s.rdN (0x2110 + l) 0x03 = 1 then .training else .detect
   (x.hold = .idle → ∃ t, exec (.electricalIdleEnd l) s = .next t ∧ t.lanes.lane[l].stage = again ∧ x.since + 10000000 ≤ t.now) ∧
   (x.hold = .refused → ∃ t, exec (.capabilityRefuseWaitEnd l) s = .next t ∧ t.lanes.lane[l].stage = again ∧
    x.since + 1000000000 ≤ t.now) ∧
   (x.hold = .retry → ∃ t, exec (.failedLaneRetry l) s = .next t ∧ t.lanes.lane[l].stage = again ∧ x.since + 1000000000 ≤ t.now)) ∧
  (∀ k, s.lanes.link[k].resting = true → ∃ t, exec (.portRestartTimer k) s = .next t ∧ t.lanes.link[k].resting = false ∧
   t.lanes.link[k].rate = s.rdN (0x2100 + linkPort k) 0x03 ∧ s.lanes.link[k].restSince + 1000000000 ≤ t.now) ∧
  (∀ k b, s.linkOf l = some k → x.stage = .capability → capOk b = false → ∃ t, exec (.capBlockReceive l b) s = .next t ∧
   t.lanes.lane[l].capRun = 0 ∧ t.lanes.lane[l].stage = .capability) ∧
  (∀ k b, s.linkOf l = some k → x.stage = .capability → capOk b = true → x.cap = some b →
   (x.capRun = 1 → ∃ t, exec (.capBlockReceive l b) s = .next t ∧ t.lanes.lane[l].capRun = 2 ∧ t.lanes.lane[l].stage = .capability) ∧
   (2 ≤ x.capRun → cfield b 239 236 ≠ 1 → ∃ t, exec (.capBlockReceive l b) s = .next t ∧
    t.lanes.lane[l].stage = .failed ∧ t.lanes.lane[l].hold = .refused) ∧
   (2 ≤ x.capRun → cfield b 239 236 = 1 → cfield b 231 228 = kindOf k →
    let long := s.lanes.link[k].fecReq || b.getLsbD 224
    s.lanes.link[k].fec = none ∨ s.lanes.link[k].fec = some long → ∃ t, exec (.capBlockReceive l b) s = .next t ∧
     (t.lanes.lane[l].stage = .active ∨ t.lanes.lane[l].stage = .spare) ∧ t.lanes.link[k].fec = some long))

/-- R82, R84, R97 to R99, Table 3.3: markers, set changes and the failure of a lane (log entries 23 and 24). -/
def Obligations.LaneMarkersAndFailures : Prop :=
 ∀ (s : State) (l : Fin 24) (k : Fin 4), s.Canon → s.linkOf l = some k →
  let x := s.lanes.lane[l]
  let y := s.lanes.link[k]
  (x.stage.pastTraining = true → ∀ skew,
   (∃ t, exec (.alignmentMarkerReceive l none skew) s = .next t ∧ t.lanes.lane[l].goodMarkers = 0 ∧ t.lanes.lane[l].badRun = x.badRun + 1) ∧
   (∀ m, markerOk m = false → ∃ t, exec (.alignmentMarkerReceive l (some m) skew) s = .next t ∧ t.lanes.lane[l].goodMarkers = 0 ∧
    t.lanes.lane[l].badRun = x.badRun + 1) ∧
   (∀ m, markerOk m = true → x.stage = .bitLock → ∃ t, exec (.alignmentMarkerReceive l (some m) skew) s = .next t ∧
    t.lanes.lane[l].badRun = 0 ∧ t.lanes.lane[l].stage = if 1 ≤ x.goodMarkers then .alignLock else .bitLock)) ∧
  (x.tx = .codewords →
   (y.change = none → ∃ t, exec (.alignmentMarkerSend k) s = .next t ∧ t.lanes.link[k].markerCount = y.markerCount + 1) ∧
   (∀ c, y.change = some c → c.countdown ≠ 0 → ∃ t, exec (.alignmentMarkerSend k) s = .next t ∧
    t.lanes.link[k].change = some { c with countdown := c.countdown - 1 }) ∧
   (∀ c, y.change = some c → c.countdown = 0 → y.minLanes ≤ lanesIn c.next → ∃ t, exec (.alignmentMarkerSend k) s = .next t ∧
    t.lanes.link[k].txSet = c.next)) ∧
  (x.stage = .active ∨ x.stage = .spare →
   (∃ t, exec (.laneLockLoss l true) s = .next t ∧ t.lanes.lane[l].stage = .failed ∧ t.lanes.link[k].rxFault.getLsbD (laneIdx l) = true) ∧
   (2 ≤ x.badRun → ∃ t, exec (.laneLockLoss l false) s = .next t ∧ t.lanes.lane[l].stage = .failed) ∧
   (∃ t, exec (.uncorrectedBurst l) s = .next t ∧ t.lanes.lane[l].stage = .failed ∧ t.lanes.link[k].rxFault.getLsbD (laneIdx l) = true)) ∧
  (x.badRun < 2 → exec (.laneLockLoss l false) s = .next s) ∧
  (∀ received load, x.stage = .active →
   let c := countCodewords (s.longFec l) received
   c.uncorrected = 0 → c.symbols * 100000 ≤ c.total * fecSize (s.longFec l) → ∃ t,
    exec (.laneHealthWindow l received load) s = .next t ∧ t.rdN (0x2110 + l) 0x09 = 0 ∧ t.lanes.link[k].load = load.toNat ∧
    t.now = s.now + 1000000000)

/-- R102, R103, R106, R123: pattern checkers, live tests, error injection and loop timing (log entry 25). -/
def Obligations.PatternsInjectionAndLoopTiming : Prop :=
 ∀ (s : State) (l : Fin 24) (n errors sym : BitVec 64),
  let x := s.lanes.lane[l]
  (x.timedRun = true → ∃ t, exec (.prbsDurationEnd l n errors sym) s = .next t ∧ t.lanes.lane[l].timedRun = false ∧
   x.runSince + s.rdN (0x2110 + l) 0x22 * 1000000 ≤ t.now) ∧
  (∀ k y, x.timedRun = false → s.linkOf l = some k → s.lanes.link[k].test = some y → y.lane = laneIdx l →
   (y.initiator = true → y.stage = 1 → ∃ t, exec (.prbsDurationEnd l n errors sym) s = .next t ∧
    t.lanes.link[k].test = some { y with stage := 2 } ∧ t.lanes.lane[l].tx = .codewords) ∧
   (y.stage = 2 → ∃ t, exec (.liveTestRelockTimeout l) s = .next t ∧ t.lanes.link[k].test = none ∧
    t.lanes.link[k].rxFault.getLsbD (laneIdx l) = true ∧ x.runSince + 10000000 ≤ t.now)) ∧
  (∀ pattern, s.prbsLane l = true → x.checker.locked = false → pattern ≠ 0 → pattern.toNat = s.rxPattern l →
   ∃ t, exec (.prbsCheckerLock l pattern) s = .next t ∧ t.lanes.lane[l].checker.locked = true ∧
    t.lanes.lane[l].checker.syncLosses = x.checker.syncLosses + if x.checker.wasLocked then 1 else 0) ∧
  (x.checker.locked = true → ∃ t, exec (.prbsCheckerLockLoss l n errors sym) s = .next t ∧ t.lanes.lane[l].checker.locked = false ∧
   t.lanes.lane[l].checker.bits = x.checker.bits + n.toNat ∧ t.lanes.lane[l].checker.bitErrors = x.checker.bitErrors + errors.toNat) ∧
  (x.injecting = true →
   let may := s.injSizeOk l x.injKind x.injSize && s.injKindOk l x.injKind
   (may = true → ∃ t, exec (.injectionInterval l) s = .next t ∧ t.sent = s.sent ++ [.injected l x.injKind x.injSize] ∧
    (x.injLeft = none → t.lanes.lane[l].injecting = true) ∧ (x.injLeft = some 1 → t.lanes.lane[l].injecting = false)) ∧
   (may = false → ∃ t, exec (.injectionInterval l) s = .next t ∧ t.sent = s.sent ∧ t.lanes.lane[l].injecting = false)) ∧
  (∀ port : Fin 2, s.role = .tile →
   (s.portUp (other port) = false → ∃ t, exec (.oppositePortDown port) s = .next t ∧ t.tile.loopTimed[port] = false ∧
    t.tile.slewing[port] = false) ∧
   (s.portUp (other port) = true → s.tile.loopTimed[port] = false → ∃ t, exec (.loopTimingRestore port) s = .next t ∧
    t.tile.slewing[port] = true ∧ t.tile.loopTimed[port] = false)) ∧
  (∀ port : Fin 2, s.tile.slewing[port] = true → ∃ t, exec (.loopTimingSlewComplete port) s = .next t ∧
   t.tile.slewing[port] = false ∧ t.tile.loopTimed[port] = true)

/-- R111, R122, R125 to R128, R143: the repeater of a tile (log entry 62). -/
def Obligations.TileRepeater : Prop :=
 ∀ (s : State) (port : Fin 2) (x : RxCell), s.isTile = true → s.portUp port = true → s.portUp (other port) = true →
  let out := other port
  (s.matching out = false → s.tile.match_[out] = [] →
   (s.tile.orig[out] = [] → exec (.idleCellReceive port) s = .next (s.sendCell out idleCell)) ∧
   (∀ c cs, s.tile.orig[out] = c :: cs → s.tile.backlog = [] → exec (.idleCellReceive port) s =
    .next ({ s with tile := { s.tile with orig := vset s.tile.orig out cs } }.sendCell out c)) ∧
   s.forward port x = (s.bump 0x2200 (0x10 + port) 1).sendCell out x.forwarded) ∧
  (∀ c cs, s.tile.match_[out] = c :: cs → exec (.rateMatchSend out) s =
   .next ({ s with tile := { s.tile with match_ := vset s.tile.match_ out cs } }.sendCell out c)) ∧
  (∀ c, ∃ codewords, (s.sendCell out c).sent = s.sent ++ .cell out c :: codewords) ∧
  (s.matching out = true → s.tile.match_[out].length < 64 → x.forwarded.type ≠ 3 →
   (s.forward port x).tile.match_[out] = s.tile.match_[out] ++ [x.forwarded]) ∧
  (x.damaged = false → x.cell.type = 1 ∨ x.cell.type = 2 →
   (s.repeatOnly = false → exec (.videoCellReceive port x) s = .next ((s.arrive port x).acceptVideo port x.cell)) ∧
   (s.repeatOnly = true → exec (.videoCellReceive port x) s = .next (s.arrive port x))) ∧
  (x.damaged = false → 9 ≤ x.cell.type → exec (.reservedTypeCellReceive port x) s =
   .next (((s.arrive port x).bump 0x2200 0x1D 1).raiseLimited 0x3108 0 1000000000 fun _ => (s.arrive port x).chainDetail port x.cell.type)) ∧
  (s.station ≠ 0 → ∃ t, exec .tileHealthSend s = .next t ∧ t.tile.healthCount = s.tile.healthCount + 1 ∧
   t.tile.seq = s.tile.seq + 1 ∧ t.tile.crcSince = Vector.replicate 2 0)

/-- R134, R135, R168, R250 to R252: control cells, the feed and the clock of a tile (log entries 21 and 36). -/
def Obligations.TileControlFeedAndClock : Prop :=
 (
  ∀ (s : State) (port : Fin 2) (x : RxCell),
   let u := s.arrive port x
   ((u.topoNew x 1).1 = true → exec (.topoQueryReceive port x) s = .next (u.topoNew x 1).2.sendReport) ∧
   (∀ e, (u.topoNew x 3).1 = true → assignEntry x.cell.data serialLow = some e → ∃ t : State,
    exec (.topoAssignReceive port x) s = .next t.sendReport ∧ t.tile.restarted = false ∧
    t.quartz.servo.stations = field x.cell.data 2 2 ∧
    t.od = ((((u.topoNew x 3).2.wrN 0x2200 0x01 (field x.cell.data 1 1)).wrN 0x2200 0x02 e.1).wrB 0x2200 0x03 (bit e.2 0)).od) ∧
   (u.hears x = true → x.cell.type = 7 → x.cell.tsw 31 31 ≠ 1 → u.accepts u.tile.groups x.cell.dest = true →
    exec (.healthCellReceive port x) s = .next (u.wrN 0x2300 (0x03 + x.cell.origin) (byteAt x.cell.data 3).toNat)) ∧
   (x.cell.type = 8 → (u.admitCell x).1 = true →
    let v := (u.admitCell x).2
    let b := x.cell.data
    (x.cell.tsw 31 28 = 1 → bit (field b 16 32) v.station = true → v.station ≠ 0 → exec (.framectlCommitReceive port x) s =
     .next (v.commitCell (field b 2 2) (field b 4 8) (field b 12 1))) ∧
    (x.cell.tsw 31 28 = 2 → exec (.framectlGenStateReceive port x) s = .next (v.genStateCell (field b 2 2) (field b 12 1))) ∧
    (x.cell.tsw 31 28 = 3 → exec (.framectlAbortReceive port x) s = .next (v.abortCell (field b 4 8))))) ∧
 (
  ∀ s : State,
   (∀ (port : Fin 2) (x : RxCell),
    let u := s.arrive port x
    u.hears x = true → x.cell.type = 3 → x.cell.tsw 31 28 = 1 → u.accepts u.tile.groups x.cell.dest = true →
    ∃ t, exec (.timingCellReceive port x) s = .next t ∧ t.tile.alive[x.cell.origin] = some u.now ∧ t.tile.lostSince = none ∧
     t.quartz.fm = (byteAt x.cell.data 3).toNat) ∧
   (∀ (o : Fin 2) t0, s.tile.alive[o] = some t0 → ∃ t, exec (.feedEndTimeout o) s = .next t ∧ t.tile.alive[o] = none ∧
    t0 + 2000000 ≤ t.now ∧ (s.tile.alive[other o] = none → t.tile.lostSince = some t.now) ∧
    (s.tile.alive[other o] ≠ none → t.tile.lostSince = s.tile.lostSince)) ∧
   (∀ t0, s.tile.lostSince = some t0 → s.rdN 0x2300 0x02 ≠ 3 → ∃ t, exec .holdTimeExpiry s = .next t ∧
    t.video.compose.held = .startImage ∧ t0 + s.rdN 0x2300 0x01 * 1000000 ≤ t.now) ∧
   (s.isTile = true → s.quartz.servo.stepped = true →
    (s.quartz.servo.steering = none → ∃ t, exec .timingWindowEnd s = .next t ∧ t.quartz.servo.lockRun = 0 ∧
     t.quartz.servo.window = Vector.replicate 2 none) ∧
    (∀ v, s.quartz.servo.steering = some v →
     let most := (if s.quartz.state = .holdover then 1000 else 1000000) * subNs
     (most < v.natAbs → ∃ t, exec .timingWindowEnd s = .next t ∧ t.quartz.servo.stepAtFrame = some (-v) ∧
      t.quartz.servo.lockRun = 0) ∧
     (v.natAbs ≤ most → ∃ t, exec .timingWindowEnd s = .next t ∧ t.quartz.servo.stepAtFrame = none ∧ t.quartz.slew = -v ∧
      t.quartz.servo.lockRun = (if v.natAbs ≤ subNs then s.quartz.servo.lockRun + 1 else 0)))))

/-- R121, R130, R152, R153, R393 to R400, R404: cells and units that end at a device (log entries 33, 45, 46 and 56). -/
def Obligations.TerminationAndManagement : Prop :=
 ∀ s : State,
  (∀ (p : Fin 2) (r : RxCell), s.isSender = true → s.portUp p = true →
   let v := s.bump (0x2200 + p) 0x10 1
   (r.damaged = true → exec (.cellTerminate p r) s = .next (v.bump (0x2200 + p) 0x11 1)) ∧
   (r.damaged = false → exec (.cellTerminate p r) s = .next (v.terminate p r.cell) ∧
    (r.cell.type = 6 → r.cell.tsw 31 28 = 2 → exec (.topoReportReceive p r) s = .next (v.terminate p r.cell)) ∧
    (r.cell.type = 4 → field r.cell.data 1 1 = 3 → exec (.mgmtResponseReceive p r) s = .next (v.terminate p r.cell)) ∧
    (r.cell.type = 4 → field r.cell.data 1 1 = 4 → exec (.mgmtEventReceive p r) s = .next (v.terminate p r.cell)))) ∧
  (∀ (link p : Fin 2) (u : CascadeUnit),
   let v := (s.takeUnit link u).2
   let c := cellOf u.body
   (s.takeUnit link u).1 = true → u.kind = 1 → v.portFor u.chain = some p → c.crcOk = true →
   (u.relSec = 0 → u.relNs = 0 → exec (.relayUnitReceive link u) s =
    .next (if v.controls p ∧ c.dest = 0 then v.deliver p c else v)) ∧
   (u.relNs ≠ 0 → v.controls p = false →
    (v.relayAt p u < v.quartz.wall → exec (.relayUnitReceive link u) s =
     .next ((v.bump (0x2300 + p) 0x13 1).raiseLimited 0x400C p.1 second fun n => v.redDetail p (sat 0xFF n))) ∧
    (v.quartz.wall ≤ v.relayAt p u → exec (.relayUnitReceive link u) s = .next (v.release p (v.relayAt p u).toNat c)))) ∧
  (∀ (port : Fin 2) (r : RxCell) d v,
   let h := mgmtHead r.cell
   (s.mgmtIn port r 1 = (some d, v) → exec (.mgmtReadReceive port r) s =
    .next (v.transact h fun s => s.tileRead h)) ∧
   (s.mgmtIn port r 2 = (some d, v) → exec (.mgmtWriteReceive port r) s =
    .next (v.transact h fun s => ((s.tileWrite h d).1, [], (s.tileWrite h d).2))) ∧
   (s.mgmtIn port r 5 = (some d, v) → r.cell.dest = 0xFFF → exec (.mgmtBroadcastWriteReceive port r) s = .next (v.tileWrite h d).2)) ∧
  (∀ e rest, s.control.eventQueue = e :: rest → s.isTile = true → s.station ≠ 0 → ∃ t more, exec .tileEventSend s = .next t ∧
   t.control.eventQueue = rest ++ more ∧ (s.portUp 0 = true → s.portUp 1 = true → more = []))

/-- R70, R74, R75, R112, R121, R152, R182, R250, R396, R403: what a sender does with its chains and its map (log entries 34, 37 and 43). -/
def Obligations.ChainsAndMap : Prop :=
 ∀ s : State,
  (∀ p, s.isSender = true → s.portUp p = true →
   let link := s.lanes.link[chainLink p]
   (link.slots < link.slotsPerMarker →
    (s.hasTripped = true → exec (.cellSlotSchedule p) s = .next (s.sendCell p idleCell)) ∧
    ∃ t x codewords, exec (.cellSlotSchedule p) s = .next t ∧ t.sent = s.sent ++ .cell p x :: codewords ∧
     t.lanes.link[chainLink p].slots = link.slots + 1) ∧
   (link.slotsPerMarker ≤ link.slots → exec (.cellSlotSchedule p) s = .next s)) ∧
  (∀ (p : Fin 2) t0 x rest, s.ports[p].relays = (t0, x) :: rest → ∃ t, exec (.relayRelease p) s = .next t ∧
   t.ports[p].relays = rest ∧ t0 ≤ t.quartz.wall) ∧
  (∀ (p : Fin 2) txn g, (s.control.gwOpen.find? fun g => g.port == p.1 && g.txn == txn) = some g →
   let u := s.untilWall g.due
   (g.retries = 0 → exec (.gatewayTimeout p txn) s = .next (((u.bump 0x2210 0x06 1).gwFinish p g abTimeout []).raise 0x1306
    (det g.ctx.source g.station))) ∧
   (∀ n, g.retries = n + 1 → ∃ t g', exec (.gatewayTimeout p txn) s = .next t ∧ g' ∈ t.control.gwOpen ∧ g'.txn = g.txn ∧ g'.retries = n)) ∧
  (∀ (p : Fin 2) d, s.ports[p].discovery = some d →
   (d.repeated = false → unheard d.reports ≠ [] → ∃ t, exec (.discoveryCollectEnd p) s = .next t ∧
    t.ports[p].discovery = some { d with repeated := true, since := t.now }) ∧
   (d.repeated = true ∨ unheard d.reports = [] → exec (.discoveryCollectEnd p) s = .next ((s.until_ (d.since + 2 * ms)).discoveryEnds p d))) ∧
  (∀ m, s.isMaster = true → s.ingress.pending = some m →
   let u := s.untilWall (s.tFrame (m.frame - 2))
   let all := (u.priority :: u.heardSenders).all m.accepted.contains
   (all = true → m.refused = [] → ∃ t, exec .mapActivationDeadline s = .next t ∧ t.ingress.pending = some { m with go := true }) ∧
   (all = false ∨ m.refused ≠ [] → ∃ t, exec .mapActivationDeadline s = .next t ∧ t.ingress.pending = none)) ∧
  (∀ (link : Fin 2) (u : CascadeUnit),
   let v := (s.takeUnit link u).2
   let d := u.body.drop 1
   (s.takeUnit link u).1 = true → u.kind = 5 →
   (field u.body 0 1 = 1 → ∃ t, exec (.mgmtUnitReceive link u) s = .next t ∧
    t.ingress.parts.head? = some (field d 0 1, field d 1 4, slice d 6 (field d 5 1))) ∧
   (field u.body 0 1 = 10 → ∃ t, exec (.mgmtUnitReceive link u) s = .next t ∧
    (t.cascade.told.head?.map fun x => (x.prio, x.source, x.mapCrc)) = some (u.src, field d 0 1, field d 1 4)) ∧
   (field u.body 0 1 = 3 → exec (.mgmtUnitReceive link u) s = .next (if v.quartz.master then v.takeMapAnswer u.src d else v)) ∧
   (∀ m, v.ingress.pending = some m → m.frame = field d 0 8 →
    (field u.body 0 1 = 6 → ∃ t, exec (.mgmtUnitReceive link u) s = .next t ∧ t.ingress.pending = some { m with go := true }) ∧
    (field u.body 0 1 = 7 → ∃ t, exec (.mgmtUnitReceive link u) s = .next t ∧ t.ingress.pending = none))) ∧
  (∀ p, s.leads p = true → s.quartz.lockedOnce = true →
   let u := (s.untilWall (s.tFrame s.quartz.frame + 10000 * subNs)).sendCommit p
   let g := u.ingress.genInForce[p]
   exec (.framectlSend p) s = .next (u.sendFramectl p 2 u.quartz.frame (framectl (u.chainNo p) g.1 u.quartz.frame g.2.1 [] g.2.2))) ∧
  (s.isSender = true → s.ingress.frustumUsed = true → s.ingress.frustumStale = false → ∃ t, exec .frustumStaleTimeout s = .next t ∧
   t.ingress.frustumStale = true)

/-- R145, R147, R153, R155 to R160, R288: what the units of a redundant pair do at the sender that they reach (log entry 39). -/
def Obligations.RedundancyUnits : Prop :=
 ∀ (s : State) (link p : Fin 2) (u : CascadeUnit),
  let v := (s.takeUnit link u).2
  let f := v.ctrlFrame u.body
  (s.takeUnit link u).1 = true → u.kind = 4 →
  (field u.body 0 1 = 9 → v.quartz.master = true → ∃ t, exec (.derateUnitReceive link u) s = .next t ∧
   t.cascade.derates.head? = some (u.src, field u.body 18 2, v.now)) ∧
  (v.portFor (field u.body 1 1) = some p →
   (field u.body 0 1 = 2 → exec (.statusUnitReceive link u) s =
    .next ((v.withChain p fun x => { x with unjoined := false }).hearPeer p (slice u.body 18 42))) ∧
   (field u.body 0 1 = 3 → v.ports[p].cstate = .relinquishing → ∃ t, exec (.takeUnitReceive link u) s = .next t ∧
    t.ports[p].take = some ((field u.body 8 6 * second + field u.body 14 4) * subNs, false)) ∧
   (field u.body 0 1 = 4 → v.ports[p].cstate.controls = true → v.single = false →
    let updates := v.update.armed.isSome || v.rdN 0x3100 0x36 == 3
    let defer (cause : Nat) : Prop :=
     exec (.reclaimUnitReceive link u) s = .next (v.sendPeer p 6 0 v.quartz.wall (leBytes 1 cause))
    (v.ingress.pending ≠ none → defer 1) ∧
    (v.ingress.pending = none → updates = true → defer 2) ∧
    (v.ingress.pending = none → updates = false → f < v.quartz.frame + 2 → defer 3) ∧
    (v.ingress.pending = none → updates = false → v.quartz.frame + 2 ≤ f →
     ∃ t, exec (.reclaimUnitReceive link u) s = .next t ∧ t.ports[p].take = some (v.tFrame f, false))) ∧
   (∀ r, v.ports[p].reclaim = some r →
    (field u.body 0 1 = 5 → r.attempts ≠ 0 → r.frame = f → ∃ t, exec (.ackUnitReceive link u) s = .next t ∧
     t.ports[p].reclaim = some { r with acked := true } ∧ t.ports[p].take = some (v.tFrame f, true)) ∧
    (field u.body 0 1 = 6 → ∃ t, exec (.deferUnitReceive link u) s = .next t ∧
     t.ports[p].reclaim = some { r with attempts := 0, acked := false, since := v.now })) ∧
   (field u.body 0 1 = 7 → v.ports[p].cstate.controls = true → ∃ t, exec (.cancelUnitReceive link u) s = .next t ∧
    t.ports[p].take = none) ∧
   (field u.body 0 1 = 8 →
    (v.ports[p].sumsLast.frame ≠ f → exec (.checksumUnitReceive link u) s = .next v) ∧
    (v.ports[p].sumsLast.frame = f → ∃ t, exec (.checksumUnitReceive link u) s = .next t ∧
     t.ports[p].mismatch &&& v.ports[p].mismatch = v.ports[p].mismatch)))

/-- R73, R145, R149, R155 to R160: what a sender of a pair does by time (log entries 29 and 30). -/
def Obligations.RedundancyTimers : Prop :=
 ∀ (s : State) (p : Fin 2), s.isSender = true →
  (∀ t0, s.single = false → s.ports[p].take = some (t0, false) → ∃ t, exec (.controlStart p) s = .next t ∧ t.ports[p].cstate = .notEligible ∧
   t.ports[p].take = none ∧ t.ports[p].peerCState = some 2 ∧ t0 ≤ t.quartz.wall) ∧
  (∀ t0, s.single = false → s.ports[p].take = some (t0, true) → ∃ t, exec (.controlStart p) s = .next t ∧
   t.ports[p].cstate = .control ∧ t.ports[p].take = none ∧ t.ports[p].reclaim = none ∧ t.ports[p].withheld = 0) ∧
  (s.single = true → exec (.controlStart p) s = .next s) ∧
  (s.quartz.master = false → ∀ secded watchdog,
   let u := s.untilPhase 250000 0
   let mem := secded || u.cascade.memFault
   let wdt := watchdog || u.cascade.wdtFault
   exec (.selfDiagPeriod secded watchdog) s =
    .next ((((u.withCascade fun c => { c with memFault := false, wdtFault := false }).diagPort 0 mem wdt).diagPort 1 mem wdt).elect
     (!mem && !wdt))) ∧
  (∀ b, cleanDiag (s.diagnose p true b) = false ∧ cleanDiag (s.diagnose p b true) = false) ∧
  (s.chainNo p ≠ 0 → s.single = false ∨ p = 0 → ∃ t, exec (.healthSend p) s = .next t ∧ t.ports[p].healthCount = s.ports[p].healthCount + 1) ∧
  (s.chainNo p ≠ 0 → s.single = false →
   (∃ t, exec (.peerCheck p) s = .next t ∧ t.ports[p].misses = (if s.ports[p].peerSeen then 0 else min 5 (s.ports[p].misses + 1)) ∧
    t.ports[p].peerSeen = false) ∧
   (let c := s.ports[p].sumsLast
    exec (.determinismChecksum p) s = .next (s.sendPeer p 8 c.frame s.quartz.wall
    (leBytes 4 c.all ++ leBytes 4 (c.unsliced ||| s.ports[p].withheld).toNat ++ c.stream.toList.flatMap (leBytes 4))))) ∧
  (∀ r, s.ports[p].reclaim = some r →
   (r.acked = false → 0 < r.attempts → r.attempts < 3 →
    let u := (s.until_ (r.since + 10 * ms)).withChain p fun x => { x with reclaim := none }
    exec (.reclaimAnswerTimeout p) s = .next (if u.mayReclaim p then u.sendReclaim p (r.attempts + 1) else u)) ∧
   (r.acked = false → 3 ≤ r.attempts → ∃ t, exec (.reclaimAnswerTimeout p) s = .next t ∧ t.ports[p].reclaim = none ∧
    t.ports[p].holdFrom = t.now) ∧
   (r.attempts = 0 →
    let u := (s.until_ (r.since + second)).withChain p fun x => { x with reclaim := none }
    exec (.deferRetry p) s = .next (if u.mayReclaim p then u.sendReclaim p 1 else u))) ∧
  (∀ n, (s.sendReclaim p n).ports[p].reclaim =
   some { frame := s.quartz.frame + 3, attempts := n, acked := false, since := s.now })

/-- R174 to R177, R197: the frame master's sources and the output pulses (log entries 36 and 40). -/
def Obligations.SourcesAndPulses : Prop :=
 ∀ s : State,
  (∀ port domain ident seq t1, s.ptpFrom port domain ident = true →
   (∀ log, -7 ≤ log → log ≤ -1 →
    exec (.ptpSyncReceive port domain ident seq t1 log false) s = .next (s.ptpSample t1 s.quartz.wall) ∧
    ∃ t, exec (.ptpSyncReceive port domain ident seq t1 log true) s = .next t ∧ t.quartz.ptp.syncWait = some (seq, s.quartz.wall)) ∧
   (∀ t2, s.quartz.ptp.syncWait = some (seq, t2) → exec (.ptpFollowUpReceive port domain ident seq t1) s = .next (s.ptpSample t1 t2)) ∧
   (∀ t3 t4, s.quartz.ptp.reqWait = some (seq, t3) → ∃ t, exec (.ptpDelayRespReceive port domain ident seq t4) s = .next t ∧
    t.quartz.ptp.reqWait = none ∧
    t.quartz.ptp.pathDelay = (((s.quartz.ptp.t2 : Int) - s.quartz.ptp.t1) + ((t4 : Int) - t3)) / 2)) ∧
  (s.isSender = true → s.quartz.ptp.master ≠ none → ∃ t, exec .ptpDelayReqSend s = .next t ∧
   t.sent = s.sent ++ [.delayReq (s.rdN 0x2600 0x03) s.ptpVlan s.quartz.ptp.delaySeq (s.rdN 0x2600 0x05 == 1)] ∧
   t.quartz.ptp.reqWait = some (s.quartz.ptp.delaySeq, s.quartz.wall)) ∧
  (∀ (d : PtpDataset) (log : Int), s.isSender = true → -3 ≤ log → log ≤ 1 →
   let receive : Instr := .ptpAnnounceReceive (s.rdN 0x2600 0x03) (s.rdN 0x2600 0x04) d log
   let again := s.quartz.ptp.seen.any fun x => x.data.source == d.source && decide (s.now ≤ x.heard + 4 * announceNs log)
   let m : PtpForeign := { data := d, heard := s.now, log := log, qualified := again }
   let seen := m :: s.quartz.ptp.seen.filter fun x => x.data.source != d.source
   ∃ t, exec receive s = .next t ∧ t.quartz.ptp.seen = seen ∧
    ((∀ x ∈ seen, x.qualified = false) → t.quartz.ptp.master = s.quartz.ptp.master) ∧
    (again = true → (∀ x ∈ seen, x.qualified = true → x = m) → t.quartz.ptp.master = some d)) ∧
  (∀ d, s.quartz.ptp.master = some d → ∃ t, exec .announceReceiptTimeout s = .next t ∧
   t.quartz.ptp.seen = (s.quartz.ptp.seen.filter fun x => x.data.source != d.source) ∧ t.quartz.ptp.master ≠ some d ∧
   ((∀ x ∈ t.quartz.ptp.seen, x.qualified = false) → t.quartz.ptp.master = none)) ∧
  (s.isMaster = true → s.rdN 0x2600 0x01 ≠ 3 → s.quartz.state = .locked → ∃ t, exec .quartzSourceLoss s = .next t ∧
   t.quartz.state = .holdover ∧ s.quartz.lastSource + 1000000000 ≤ t.now) ∧
  (s.isMaster = true → s.rdN 0x2600 0x01 = 1 →
   (let theta := s.edgeDue s.edgeFrame - s.quartz.wall
    let falling := s.rdN 0x2600 0x1A == 1
    (s.quartz.glLocked = true → 1000 * subNs < theta.natAbs → exec (.genlockEdge falling) s = .next s.edgeMissed) ∧
    (s.quartz.glLocked = false ∨ theta.natAbs ≤ 1000 * subNs → ∃ t, exec (.genlockEdge falling) s = .next t ∧ t.quartz.glMisses = 0) ∧
    exec (.genlockEdge !falling) s = .next s) ∧
   ∃ t, exec .genlockEdgeMissing s = .next t ∧ t.quartz.glMisses = s.quartz.glMisses + 1) ∧
  (s.isMaster = true → s.rdN 0x2600 0x01 = 2 → ∃ t, exec .ppsEdge s = .next t ∧ t.quartz.tod = none) ∧
  (s.up = true →
   (∀ f k w, s.quartz.lockedOnce = true → s.frameOutAt f k = some w → ∃ t, exec (.frameOutPulse f k) s = .next t ∧
    w.toNat ≤ t.quartz.wall ∧ t.sent = s.sent ++ [.pin .frameOut true, .pin .frameOut false]) ∧
   ∃ t, exec .ppsOutPulse s = .next t ∧ t.sent = s.sent ++ [.pin .ppsOut true, .pin .ppsOut false])

/-- R78, R79, R179, R180, R182, R188: wall time through the cascade and down a chain (log entries 37, 38 and 40). -/
def Obligations.CascadeAndChainTiming : Prop :=
 ∀ s : State,
  (∀ link : Fin 2, s.isSender = true → s.linkUp (cascLink link) = true →
   (∃ t u, exec (.cascadeLinkUp link) s = .next t ∧ Out.cascade link u ∈ t.sent ∧ u.kind = 4 ∧ u.src = s.priority ∧ u.dst = 31 ∧
    t.quartz.neighbour[link].up = false ∧
    (s.linkUp (cascLink (otherLink link)) = true → Out.cascade (otherLink link) u ∈ t.sent)) ∧
   (∀ u : CascadeUnit, u.good = true → u.kind = 4 → u.ttl = 15 → field u.body 0 1 = 1 → ∃ t,
    exec (.identityUnitReceive link u) s = .next t ∧
    t.quartz.neighbour[link].up = (field u.body 18 1 != s.priority && field u.body 25 1 == s.rdN 0x2600 0x26))) ∧
  (∀ link : Fin 2, s.isSender = true → s.cascUp link = true → ∃ t u codewords, exec (.syncUnitSend link) s = .next t ∧
   t.sent = s.sent ++ .cascade link u :: codewords ∧ u.kind = 2 ∧ u.dst = s.quartz.neighbour[link].priority) ∧
  (∀ (link : Fin 2) (u : CascadeUnit),
   let v := (s.takeUnit link u).2
   (s.takeUnit link u).1 = true → u.kind = 2 → u.ttl = 15 → v.cascUp link = true → field u.body 0 1 = 1 →
   u.src = v.quartz.neighbour[link].priority → ∃ t, exec (.syncUnitReceive link u) s = .next t ∧
    t.quartz.neighbour[link].lastDep = stampAt u.body 4 ∧ t.quartz.neighbour[link].lastArr = v.quartz.wall ∧
    (field u.body 2 1 ≠ 0 → field u.body 1 1 ≠ 0xFF → field u.body 2 1 < v.priority → t.quartz.master = false)) ∧
  (∀ link, s.quartz.parent = some link → ∃ t, exec .parentTimeout s = .next t ∧ t.quartz.parent ≠ some link ∧
   t.quartz.neighbour[link].dist = 0xFF) ∧
  (∀ p, s.leads p = true → exec (.timingCellOriginate p) s = .next (s.sendTiming p) ∧
   ∀ c, s.quartz.calDelay[p] = some c → s.quartz.ringDelay[p].1 ≠ 0 → s.quartz.ringDelay[p].2 ≠ 0 →
    ∃ t, exec (.trimRecompute p) s = .next t ∧
     t.quartz.trimsNext[p] = some (nearest ((s.quartz.ringDelay[p].1 : Int) - c.1) (s.stationCount p + 1),
      nearest ((s.quartz.ringDelay[p].2 : Int) - c.2) (s.stationCount p + 1)))

/-- R276, R278, R279, R346, R349, R367: correction data, schedules, sweeps and verdict ages. -/
def Obligations.CorrectionAndSweeps : Prop :=
 ∀ s : State, s.isTile = true →
  (∀ i : Fin 2, s.video.colour.verifying = some i.1 →
   let ok := corrCause (s.corrBytes i) s.window == 0
   ∃ t, exec .corrVerifyComplete s = .next t ∧ t.video.colour = { s.video.colour with
    verifying := none, verified := s.video.colour.verified.set! i.1 ok }) ∧
  (∀ l, s.video.colour.load = some l → s.video.compose.slot = none →
   let row := s.rdN 0x2930 0x08 + 1
   (row < field l.bytes 10 2 → exec .corrLoadRow s = .next (s.wrN 0x2930 0x08 row)) ∧
   (field l.bytes 10 2 ≤ row → ∃ t, exec .corrLoadRow s = .next t ∧ t.video.colour.load = none ∧
    t.video.colour.corr = some l.bytes)) ∧
  (∀ r rest, s.video.colour.rereads = r :: rest → ∃ t, exec .correctionReread s = .next t ∧
   t.video.colour = { s.video.colour with
    rereads := rest, damaged := s.video.colour.damaged.filter (· != r.1) } ∧ t.od = s.od) ∧
  (∀ p : Fin 64, s.rdN (0x2A00 + p) 0x0A = 3 →
   let (f, k) := s.nextSlot p
   let sh := s.schedShape ((s.genFor f).getD s.staging) p f
   (8 ≤ sh.tg → ∃ t, exec (.schedBuild p) s = .next t ∧
    (t.lamps.port[p].sched.map fun x => x.pos) = s.lamps.port[p].drivers ∧ t.lamps.port[p].schedReady = false ∧
    t.lamps.port[p].schedSlot = k.1 ∧ ∀ x ∈ t.lamps.port[p].sched, x.frame = f ∧ x.slot = k.1) ∧
   (sh.tg < 8 → ∃ t, exec (.schedBuild p) s = .next t ∧ t.lamps.port[p].sched = [] ∧ t.lamps.port[p].schedReady = false)) ∧
  (∀ p : Fin 64, s.lamps.port[p].sched ≠ [] → exec (.schedBuildDone p) s = .next (s.withPort p fun q => { q with schedReady := true })) ∧
  (∀ scope since, s.lamps.sweep = some (scope, since) → since + 512 ≤ s.quartz.frame → ∃ t, exec .sweepEnd s = .next t ∧
   t.lamps.sweep = none ∧ ∀ p : Fin 64, t.lamps.port[p].sweeping = false ∧ t.lamps.port[p].verdict = s.lamps.port[p].verdict) ∧
  (∀ (epoch : Nat) (damaged : List (Fin 64 × Nat)), s.epochOver = some epoch → ∃ t, exec (.epochEnd damaged) s = .next t ∧
   t.lamps.epoch = epoch ∧ ∀ p : Fin 64,
   (((s.genNow).getD s.staging).lamps p = 0 → t.lamps.port[p].verdict = s.lamps.port[p].verdict) ∧
   t.lamps.engine[p] = s.lamps.engine[p]) ∧
  (let g := (s.genNow).getD s.staging
   let due := s.rdN 0x2B00 0x02 / 128
   s.epochOver ≠ none → ∃ t, exec (.epochEnd []) s = .next t ∧ ∀ p : Fin 64,
   let q := s.lamps.port[p]
   let aged (n : Nat) : BitVec 8 :=
    let b := q.byte n
    let age := if b.getLsbD 4 then b.toNat % 16 else min 15 (b.toNat % 16 + 1)
    verdictByte (b.toNat / 64)
     (b.getLsbD 5 || (s.rdN 0x2B00 0x01 == 0 && decide (due ≤ age)) || decide (min (due + 2) 15 ≤ age)) false age
   t.lamps.port[p].verdict =
    (List.range (g.lamps p)).foldl (fun m n => Sparse.set (fun _ => 0) m n (aged n)) q.verdict)

/-- R366, R320: a lamp port's return line (log entry 59). -/
def Obligations.LampReturns : Prop :=
 ∀ (s : State) (p : Fin 64) (f : LineFrame) (rest : List LineFrame), s.isTile = true → s.lamps.engine[p].line = f :: rest →
  (∀ (pulses : List (Nat × Nat)) (ps : Nat),
   let (payload, k) := classifyReturn pulses
   let edge := 1000 * f.edgeAt + ps
   let come := (s.until_ (f.edgeAt + ps / 1000)).withPort p fun q => { q with lrLow := edge + (pulses.getLastD (0, 0)).1 }
   let heard := (come.withEngine p fun e =>
    if f.capture then ({ e with line := rest } : Engine).queueReturn k f.cmd (bitWords payload) else { e with line := rest }).withPort p
     fun q => { q with missRun := 0, open_ := false }
   let told := if k = 0 then (heard.takeDelay p ps).takeReturn p f.cmd payload
    else (if k = 1 then heard.bump (0x2A00 + p) 0x22 1 else if k = 2 then heard.bump (0x2A00 + p) 0x21 1 else heard).rollFails p f.cmd 2
   exec (.lrReturn p pulses ps) s = .next (if markTaken s.lamps.port[p].lrLow edge pulses = false then come
    else if s.lamps.port[p].open_ then told.request p 3 0 else told)) ∧
  (let q := s.lamps.port[p]
   let u := (((s.until_ (f.edgeAt + loopMean q.delays / 1000 + f.length + 1000)).withEngine p fun e =>
    if f.capture then ({ e with line := rest } : Engine).queueReturn 3 f.cmd [] else { e with line := rest }).bump (0x2A00 + p) 0x23 1)
   exec (.lrMissingTimeout p) s =
    .next (((u.withPort p fun q => { q with missRun := q.missRun + 1, open_ := q.open_ || decide (3 ≤ q.missRun + 1) }).raiseIf
     (q.missRun + 1 == 3 && !q.open_) 0x6104 (det p.1 (q.missRun + 1))).rollFails p f.cmd 1))

/-- R333, R360, R361, R365, R367, R371: frames leave a running port engine (log entry 16). -/
def Obligations.FramesLeaveTheEngine : Prop :=
 ∀ (s : State) (p : Fin 64) (t : TxFrame) (rest : List TxFrame), s.isTile = true → s.lamps.engine[p].tx = t :: rest →
  let e := s.lamps.engine[p]
  let free := s.until_ e.gapUntil
  let drop (u : State) : State := (((u.withEngine p fun e => { e with tx := rest }).count p (8 + t.counted)).bump
   (0x2A00 + p) 0x36 1).raise 0x6202 (det p.1 (bitsNat (t.bits.take 8)))
  (t.ref = none → t.markAt = none → t.cmd ≠ 7 → exec (.frameLaunch p) s = .next (free.launch p)) ∧
  (t.ref = none → t.markAt = none → t.cmd = 7 → t.len ≤ t.bits.length →
   exec (.frameLaunch p) s = .next (if free.withholds p t.bits then drop free else free.launch p)) ∧
  (∀ (f k edge : Nat), t.ref = some (f, k, edge) → t.markAt = none →
   let due := s.endBlanking.untilWall (edge - edgeBits t.len * s.endBlanking.bitPeriod p * subNs)
   (t.cmd ≠ 7 ∨ t.len ≤ t.bits.length ∧ due.withholds p t.bits = false →
    exec (.referenceFrameLaunch p) s = .next (if due.withheld p t then due.launch p
     else ((due.launch p).withPort p fun q => { q with lit := true }).lights)) ∧
   (t.cmd = 7 → t.len ≤ t.bits.length → due.withholds p t.bits = true →
    exec (.referenceFrameLaunch p) s = .next (drop due))) ∧
  (t.markAt ≠ none → t.gone = false → t.bits.length < t.len → exec (.framerUnderrun p) s =
   .next (((((s.withEngine p fun e => { e with tx := killFrames [t] ++ rest }).bump (0x2C10 + p) 0x08 1).raise 0xA304
    (det p.1 t.cmd)).finishFrame p).withEngine p fun e => { e with
     tx := { t with zeros := true, dead := true, gone := true } :: e.tx })) ∧
  (∀ u bad, e.stall = some u →
   let v := s.until_ e.busyUntil
   let n := min 2048 ((v.pushBits p u bad).getD []).length
   exec (.pushStallEnd p bad) s =
    .next (((if v.fifo p + n ≤ 2048 ∨ (e.tx.all fun t => t.markAt.isNone) && e.line.isEmpty then v
     else v.pass ((v.fifo p + n - 2048) * v.bitPeriod p)).push p u bad).withEngine p Engine.advance))

/-- R359, R360: the thirteen register instructions of a port engine (log entry 16). -/
def Obligations.EngineRegisterArithmetic : Prop :=
 ∀ (s : State) (p : Fin 64) (rd ra rb : Fin 16),
  let a := s.lamps.engine[p].reg ra
  let b := s.lamps.engine[p].reg rb
  let does (op : Nat) (c : Instr) (cycles : Nat) (f : Engine → Engine) : Prop :=
   s.fetches p (wordR op rd ra rb 0) → exec c s = .next (s.withEngine p fun e => e.run1 [ra, rb] cycles f)
  let quick (op : Nat) (c : Instr) (v : Word) : Prop := does op c 1 fun e => e.setReg rd v
  let slow (op : Nat) (c : Instr) (v : Word) : Prop := does op c 2 fun e => { e.setReg rd v with slow := some rd }
  quick 0x00 (.peAdd p rd ra rb 0) (a + b) ∧
  quick 0x01 (.peSub p rd ra rb 0) (a - b) ∧
  quick 0x02 (.peAnd p rd ra rb 0) (a &&& b) ∧
  quick 0x03 (.peOr p rd ra rb 0) (a ||| b) ∧
  quick 0x04 (.peXor p rd ra rb 0) (a ^^^ b) ∧
  quick 0x05 (.peShl p rd ra rb 0) (a <<< (b.toNat % 32)) ∧
  quick 0x06 (.peShr p rd ra rb 0) (a >>> (b.toNat % 32)) ∧
  quick 0x07 (.peSra p rd ra rb 0) (a.sshiftRight (b.toNat % 32)) ∧
  slow 0x08 (.peMul p rd ra rb 0) (BitVec.ofNat 32 (a.toNat * b.toNat)) ∧
  slow 0x09 (.peMulhu p rd ra rb 0) (BitVec.ofNat 32 (a.toNat * b.toNat / 2 ^ 32)) ∧
  quick 0x0A (.peSltu p rd ra rb 0) (if a.toNat < b.toNat then 1 else 0) ∧
  quick 0x0B (.peMinu p rd ra rb 0) (if a.toNat < b.toNat then a else b) ∧
  quick 0x0C (.peMaxu p rd ra rb 0) (if a.toNat < b.toNat then b else a)

/-- R359, R360: the eight immediate instructions of a port engine (log entry 16). -/
def Obligations.EngineImmediateArithmetic : Prop :=
 ∀ (s : State) (p : Fin 64) (rd ra : Fin 16) (imm : BitVec 18),
  let a := s.lamps.engine[p].reg ra
  let z : Word := BitVec.ofNat 32 imm.toNat
  let quick (op : Nat) (c : Instr) (ra : Fin 16) (v : Word) : Prop := s.fetches p (wordI op rd ra imm) →
   exec c s = .next (s.withEngine p fun e => e.run1 [ra] 1 fun e => e.setReg rd v)
  quick 0x10 (.peAddi p rd ra imm) ra (a + BitVec.ofInt 32 imm.toInt) ∧
  quick 0x11 (.peAndi p rd ra imm) ra (a &&& z) ∧
  quick 0x12 (.peOri p rd ra imm) ra (a ||| z) ∧
  quick 0x13 (.peXori p rd ra imm) ra (a ^^^ z) ∧
  (imm.toNat < 32 → quick 0x14 (.peShli p rd ra imm) ra (a <<< imm.toNat)) ∧
  (imm.toNat < 32 → quick 0x15 (.peShri p rd ra imm) ra (a >>> imm.toNat)) ∧
  quick 0x16 (.peLui p rd 0 imm) 0 (BitVec.ofNat 32 (imm.toNat * 2 ^ 14)) ∧
  quick 0x17 (.peSltui p rd ra imm) ra (if a.toNat < imm.toNat then 1 else 0)

/-- R359, R360: loads, stores, branches and jumps of a port engine (log entry 16). -/
def Obligations.EngineMemoryAndBranches : Prop :=
 ∀ (s : State) (p : Fin 64) (rd ra rb : Fin 16) (imm : BitVec 18),
  let e := s.lamps.engine[p]
  let addr := (e.reg ra + BitVec.ofInt 32 imm.toInt).toNat
  let next := BitVec.ofNat 32 (e.pc + 1)
  let target := (next + BitVec.ofInt 32 imm.toInt).toNat
  let hurt (a : Nat) := e.damaged.contains a
  let takes (w : Word) (c : Instr) (u : State) : Prop := s.fetches p w → exec c s = .next u
  let on (op : Nat) (c : Instr) (yes : Bool) : Prop :=
   (yes = false → takes (wordI op ra rb imm) c (s.withEngine p fun e => e.run1 [ra, rb] 1 id)) ∧
   (yes = true → target < e.codeWords → target < 2048 →
    takes (wordI op ra rb imm) c (s.withEngine p fun e => { e.run1 [ra, rb] 2 id with pc := target }))
  (addr ≤ 1023 → hurt (addr + 2048) = false → takes (wordI 0x18 rd ra imm) (.peLd p rd ra imm)
   (s.withEngine p fun e => e.run1 [ra] 2 fun e => { e.setReg rd (Sparse.get (fun _ => 0) e.dmem addr) with slow := some rd })) ∧
  (1023 < addr ∨ hurt (addr + 2048) = true → takes (wordI 0x18 rd ra imm) (.peLd p rd ra imm)
   (s.engineDoes p [ra] 2 fun s => s.engineFault p (if 1023 < addr then 2 else 4))) ∧
  (addr ≤ 1023 → takes (wordI 0x19 rd ra imm) (.peSt p rd ra imm) (s.withEngine p fun e => e.run1 [rd, ra] 1 fun e =>
   { e with dmem := Sparse.set (fun _ => 0) e.dmem addr (e.reg rd), damaged := e.damaged.filter (· != addr + 2048) })) ∧
  on 0x20 (.peBeq p ra rb imm) (e.reg ra == e.reg rb) ∧
  on 0x21 (.peBne p ra rb imm) (e.reg ra != e.reg rb) ∧
  on 0x22 (.peBltu p ra rb imm) (decide ((e.reg ra).toNat < (e.reg rb).toNat)) ∧
  on 0x23 (.peBgeu p ra rb imm) (decide ((e.reg rb).toNat ≤ (e.reg ra).toNat)) ∧
  (ra ≠ 0 → e.reg ra = 1 → takes (wordI 0x24 ra 0 imm) (.peDbnz p ra 0 imm)
   (s.withEngine p fun e => e.run1 [ra] 1 fun e => e.setReg ra 0)) ∧
  (ra ≠ 0 → e.reg ra ≠ 1 → target < e.codeWords → target < 2048 → takes (wordI 0x24 ra 0 imm) (.peDbnz p ra 0 imm)
   (s.withEngine p fun x => { x.run1 [ra] 2 fun x => x.setReg ra (e.reg ra - 1) with pc := target })) ∧
  (target < e.codeWords → target < 2048 → takes (wordI 0x25 rd 0 imm) (.peJal p rd 0 imm)
   (s.withEngine p fun e => { e.run1 [] 2 fun e => e.setReg rd next with pc := target })) ∧
  (addr < e.codeWords → addr < 2048 → takes (wordI 0x26 rd ra imm) (.peJalr p rd ra imm)
   (s.withEngine p fun e => { e.run1 [ra] 2 fun e => e.setReg rd next with pc := addr })) ∧
  (s.engineRuns p → hurt e.pc = true ∨ opAssigned (bits e.fetch.toNat 31 26) = false →
   exec (.peLd p rd ra imm) s = .next (s.engineFault p (if hurt e.pc then 4 else 1))) ∧
  (s.engineRuns p → hurt e.pc = false → opAssigned (bits e.fetch.toNat 31 26) = true → e.fetch ≠ wordI 0x18 rd ra imm →
   exec (.peLd p rd ra imm) s = .next s)

/-- R357, R359, R368, R372: special registers, waits and the watchdog of a port engine (log entry 16). -/
def Obligations.EngineSpecialRegistersAndWaits : Prop :=
 (
  ∀ (s : State) (p : Fin 64) (rd ra : Fin 16) (imm : BitVec 18),
   let e := s.lamps.engine[p]
   let v := e.reg ra
   let takes (w : Word) (c : Instr) (u : State) : Prop := s.fetches p w → exec c s = .next u
   let writes (sel : BitVec 18) (u : State) : Prop := takes (wordI 0x29 0 ra sel) (.peWrs p 0 ra sel) u
   let own (sel : BitVec 18) (f : Engine → Engine) : Prop := writes sel (s.withEngine p fun e => e.run1 [ra] 1 f)
   (∀ x, s.special p imm.toNat = some x → imm ≠ 0x0E → takes (wordI 0x28 rd 0 imm) (.peRds p rd 0 imm)
    (s.withEngine p fun e => e.run1 [] 1 fun e => e.setReg rd (BitVec.ofNat 32 x))) ∧
   takes (wordI 0x28 rd 0 0x0E) (.peRds p rd 0 0x0E)
    (s.withEngine p fun x => x.run1 [] 1 fun x => { x.setReg rd e.req with req := 0, reqWaiting := false }) ∧
   own 0x07 (fun e => { e with bankFrame := v }) ∧
   own 0x08 (fun e => { e with bankSlot := v.setWidth 2 }) ∧
   own 0x0C (fun e => { e with channels := v.setWidth 7 }) ∧
   (let read := if v.getLsbD 16 = true ∧ v.setWidth 16 ≠ (0x8000 : BitVec 16) then some (v.setWidth 16).toInt else none
    own 0x10 fun e => { e with hkTemp := read }) ∧
   writes 0x0B (s.engineDoes p [ra] 1 fun s => (s.withEngine p fun e => { e with arm := v }).wrN (0x2A00 + p) 0x11 v.toNat) ∧
   writes 0x0F (s.engineDoes p [ra] 1 fun s => s.takeResult p v) ∧
   takes (wordI 0x2A rd ra 0) (.peWaite p rd ra 0) (s.engineDoes p [ra] 1 fun s =>
    let s := s.withEngine p fun e => { e with boundary := false }
    let met := BitVec.ofNat 32 (s.conditions p) &&& v
    if met ≠ 0 ∨ v &&& 0x7F = 0 then s.setReg p rd met else s.withEngine p fun e => { e with wait := .cond v rd }) ∧
   takes (wordI 0x2B 0 ra 0) (.peWaitt p 0 ra 0) (s.engineDoes p [ra] 1 fun s =>
    if s.reached v then s else s.withEngine p fun e => { e with wait := .time v }) ∧
   takes (wordI 0x2C 0 0 0) (.peWdk p 0 0 0) (s.withEngine p fun e => e.run1 [] 1 fun e => { e with wdkAt := s.now })) ∧
 (
  ∀ (s : State) (p : Fin 64), s.isTile = true →
   let next (e : Engine) : Engine := { e with wait := .none, pc := (e.pc + 1) % 2048 }
   (∀ (mask : Word) (rd : Fin 16), s.lamps.engine[p].wait = .cond mask rd → BitVec.ofNat 32 (s.conditions p) &&& mask ≠ 0 →
    exec (.waiteComplete p) s =
     .next (s.withEngine p fun e => next (e.setReg rd (BitVec.ofNat 32 (s.conditions p) &&& mask)))) ∧
   (∀ t : Word, s.lamps.engine[p].wait = .time t →
    (s.reached t = true → exec (.waittComplete p) s = .next (s.withEngine p next)) ∧
    (s.reached t = false → exec (.waittComplete p) s =
     .next ((s.untilWall ((s.quartz.wall / subNs + (t - s.portTime).toNat) * subNs)).withEngine p next))))

/-- R361, R364, R367, R371: the framer's instructions of a port engine (log entries 16 and 18). -/
def Obligations.EngineFramerInstructions : Prop :=
 ∀ (s : State) (p : Fin 64) (ra rb : Fin 16) (imm : BitVec 18),
  let e := s.lamps.engine[p]
  let v := (e.reg ra).toNat
  let w := (e.reg rb).toNat
  let cmd := bits imm.toNat 7 0
  let takes (word : Word) (c : Instr) (uses : List (Fin 16)) (act : State → State) : Prop :=
   s.fetches p word → exec c s = .next (s.engineDoes p uses 1 act)
  let blank (ref : Option (Nat × Nat × Nat)) : TxFrame := {
   cmd := cmd, len := v % 131072, capture := imm.getLsbD 9, ref := ref, bits := [], dead := false, zeros := false
   counted := 0, withheld := false, markAt := none, gone := false }
  let charge (s : State) : State :=
   let s := if cmd = 9 ∧ s.rdN (0x2A00 + p) 0x0A ≠ 3 ∧ s.lamps.port[p].rate = 0xFF then s.pollRate p else s
   if cmd = 7 then s
   else
    let s := s.count p 8
    if s.lamps.engine[p].budgetHit then s.withOpen p fun t => { t with zeros := true, dead := true } else s
  let f := s.fullFrame e.bankFrame
  let k := e.bankSlot.toNat
  let edge := s.refEdge f k e.arm.toNat
  (∀ rd, bits imm.toNat 17 10 = 0 → e.openFrame = none → imm.getLsbD 8 = false →
   takes (wordI 0x30 rd ra imm) (.peFopen p rd ra imm) [ra] fun s =>
    charge ((s.withEngine p fun e => { e with tx := e.tx ++ [blank none] }).setReg p rd 0)) ∧
  (∀ rd, bits imm.toNat 17 10 = 0 → e.openFrame = none → imm.getLsbD 8 = true → e.refs.contains (f, k) = false → e.tx = [] →
   s.quartz.wall + (e.gapUntil - s.now) * subNs ≤ edge - edgeBits (v % 131072) * s.bitPeriod p * subNs →
   takes (wordI 0x30 rd ra imm) (.peFopen p rd ra imm) [ra] fun s =>
    charge ((s.withEngine p fun e => { e with
     tx := e.tx ++ [blank (some (f, k, edge))], refs := ((f, k) :: e.refs).take 16 }).setReg p rd 0)) ∧
  (1 ≤ imm.toNat → imm.toNat ≤ 32 → takes (wordI 0x31 0 ra imm) (.peTxb p 0 ra imm) [ra] fun s =>
   s.push p (.bits (msbBits imm.toNat v) (e.openCmd != 7)) []) ∧
  (imm.getLsbD 17 = false → takes (wordI 0x32 0 0 imm) (.peTxf p 0 0 imm) [] fun s =>
   s.push p (.bits (List.replicate (bits imm.toNat 15 0) (imm.getLsbD 16)) (!(List.contains [0x04, 0x06, 0x07, 0x09] e.openCmd))) []) ∧
  (∀ bad, 1 ≤ v → v ≤ 62 → takes (wordR 0x33 0 ra rb 0) (.peTxsh p 0 ra rb 0 bad) [ra, rb] fun s =>
   if w < bits (s.cfgWord p) 13 8 then s.push p (.share v w) bad else s.engineFault p 7) ∧
  (∀ bad, takes (wordR 0x34 0 ra 0 0) (.peTxl p 0 ra 0 0 bad) [ra] fun s => s.push p (.lamp v) bad) ∧
  takes (wordR 0x35 0 ra 0 0) (.peTxs p 0 ra 0 0) [ra] fun s => s.push p (.sched v) []

/-- R370, R427: mailboxes and semaphores from a port engine (log entries 16 and 17). -/
def Obligations.EngineMailboxesAndSemaphores : Prop :=
 ∀ (s : State) (p : Fin 64) (rd : Fin 16) (imm : BitVec 18),
  let takes (word : Word) (c : Instr) (uses : List (Fin 16)) (cycles : Nat) (act : State → State) : Prop :=
   s.fetches p word → exec c s = .next (s.engineDoes p uses cycles act)
  (takes (wordI 0x2D rd 0 imm) (.peMbs p rd 0 imm) [12, 13, 14, 15] 4 fun s =>
   (s.enginePost p imm).2.setReg p rd (BitVec.ofNat 32 (s.enginePost p imm).1)) ∧
  (takes (wordI 0x2E rd 0 imm) (.peMbr p rd 0 imm) [] 4 fun s =>
   (s.engineTake p imm).2.setReg p rd (BitVec.ofNat 32 (s.engineTake p imm).1)) ∧
  (∀ n : Fin 32, imm.toNat = n.1 → takes (wordI 0x2F rd 0 imm) (.peSema p rd 0 imm) [] 6 fun s =>
   (s.semRead (engineMaster p) n).2.setReg p rd (s.semRead (engineMaster p) n).1) ∧
  (∀ n : Fin 32, imm.toNat = n.1 → takes (wordI 0x3D 0 0 imm) (.peSemr p 0 0 imm) [] 6 fun s =>
   s.semWrite (engineMaster p) n)

/-- R318, R354, R369, R372, R375: a port engine's life on a running tile (log entry 16). -/
def Obligations.EngineLife : Prop :=
 ∀ (s : State) (p : Fin 64), s.isTile = true →
  let ask (code : Nat) : Outcome State Fault Refusal :=
   .next (s.withEngine p fun e => { e with req := BitVec.ofNat 32 code, reqWaiting := true })
  exec (.engineLoad p) s = .next (s.loadEngine p s.microcode) ∧
  (((s.genNow).getD s.staging).portOn p = true →
   (s.lamps.port[p].retryAt = none → exec (.enumerate p) s = .next (s.reenumerate p)) ∧
   (∀ t, s.lamps.port[p].retryAt = some t → exec (.enumerate p) s = .next ((s.until_ t).reenumerate p))) ∧
  (s.needsLoad p = false → s.reenumerate p = s.enumerate p) ∧
  (s.needsLoad p = true →
   let u := s.loadEngine p s.microcode
   (u.lamps.engine[p].run = .running → s.reenumerate p = u.enumerate p) ∧
   (u.lamps.engine[p].run ≠ .running → s.reenumerate p = u)) ∧
  exec (.stop p) s = ask 2 ∧
  exec (.repoll p) s = ask 3 ∧
  (∀ frame, exec (.apply p frame) s = ask (4 + frame % 2 ^ 24 * 256)) ∧
  (s.lamps.engine[p].run = .running → s.rdN (0x2A00 + p) 0x0A ≠ 0 → s.rdN (0x2A00 + p) 0x0A ≠ 4 →
   exec (.engineWatchdogExpiry p) s = .next ((s.until_ (s.lamps.engine[p].wdkAt + 50 * ms)).engineFault p 5))

/-- R411 to R413, R415, R417: transactions and registers of the host port (log entries 49, 50 and 93). -/
def Obligations.HostPort : Prop :=
 (
  ∀ (s : State) (addr : BitVec 24) (n : Nat) (bytes : List Byte),
   (s.life = .inReset → exec (.qspiRead addr n false) s = .next s ∧ exec (.qspiWrite addr bytes) s = .next s ∧ exec (.qspiRdsr n) s = .next s) ∧
   (s.life ≠ .inReset →
    (0 < n → addr.toNat % 4 = 0 → n = 4 →
     let r := s.hpRead addr.toNat
     exec (.qspiRead addr n false) s = .next (r.2.emit (.host (leBytes 4 r.1.toNat))) ∧
     exec (.qspiQread addr n false) s = .next (r.2.emit (.host (leBytes 4 r.1.toNat)))) ∧
    (bytes.length = 4 → addr.toNat % 4 = 0 →
     exec (.qspiWrite addr bytes) s = .next (s.hpWrite addr.toNat (BitVec.ofNat 32 (leNat bytes))) ∧
     exec (.qspiQwrite addr bytes) s = .next (s.hpWrite addr.toNat (BitVec.ofNat 32 (leNat bytes)))) ∧
    (1 ≤ bytes.length → bytes.length < 4 → addr.toNat % 4 = 0 →
     exec (.qspiWrite addr bytes) s = .next (s.hpError 4#5)) ∧
    exec (.qspiRdsr n) s = .next (s.emit (.host (List.replicate n (BitVec.ofNat 8
     (bitAt s.up 0 + bitAt s.hostPort.irq 1 + bitAt s.hostPort.sdoDone 2))))) ∧
    exec .qspiBadInstruction s = .next ((s.hpError 1#5).emit (.host [])))) ∧
 (
  ∀ (s : State) (v : Word) (len : BitVec 7),
   (∀ e : BitVec 5, (s.hpError e).hostPort = { s.hostPort with err := s.hostPort.err ||| e }) ∧
   (∀ a, hpMapped a = false → s.hpRead a = (0, s.hpError 2#5) ∧ s.hpWrite a v = s.hpError 2#5) ∧
   ((s.hpWrite 0x10 v).hpRead 0x10).1 = (v.setWidth 5).setWidth 32 ∧
   (4 ≤ (v.setWidth 4).toNat → ((s.hpWrite 0x04 v).hpRead 0x04).1 = (v.setWidth 4).setWidth 32) ∧
   (s.hpWrite 0x14 v).hostPort.err = s.hostPort.err &&& ~~~(v.setWidth 5) ∧
   (s.hpWrite 0x3084 v).hostPort.orphan = s.hostPort.orphan &&& ~~~v ∧
   (v.getLsbD 0 = true → (s.hpWrite 0x0C v).hostPort.sdoDone = false) ∧
   (s.up = true → s.hostPort.rsltState = 1 → exec (.hpSdoGo len) s = .next (s.hpError 8#5)) ∧
   (s.up = true → s.hostPort.rsltState ≠ 1 → len.toNat ≠ 8 → len.toNat ≠ 64 → ∃ t, exec (.hpSdoGo len) s = .next t ∧
    t.hostPort = { s.hostPort with
     rsltState := 3, rspLen := 0, sdoDone := true
     rsltSeq := BitVec.ofNat 16 (nextSeq s.hostPort.rsltSeq.toNat) }) ∧
   (s.up = true → s.hostPort.rsltState ≠ 1 → len.toNat = 8 ∨ len.toNat = 64 →
    let u := (((s.withHost fun h => { h with rsltState := 1 }).touchCtx .host).serve .host (s.hostPort.sdoReq.toList.take len.toNat))
    u.hostPort.rsltState ≠ 1 → exec (.hpSdoGo len) s = .next u))

/-- R420, R421, R423: what the parties of a mailbox channel in use do with it. -/
def Obligations.MailboxChannel : Prop :=
 ∀ (s : State) (m : BitVec 7) (c : Fin 128), isMaster m = true → s.hostPort.bind[c].valid = true →
  let b := s.hostPort.bind[c]
  let x := s.hostPort.mailbox[c]
  let gives (i : Instr) (y : MbChannel) : Prop :=
   ∃ t, exec i s = .next t ∧ t.hostPort = { s.hostPort with mailbox := vset s.hostPort.mailbox c y }
  (b.sender = m →
   (x.full = false → gives (.mbPost m c) { x with
    full := true, doorbell := true
    ackValid := x.ackValid && !b.ackMode, emptyEvt := x.emptyEvt && !b.ackMode }) ∧
   (x.full = true → gives (.mbPost m c) { x with refused := true }) ∧
   (∀ (w : Fin 4) (v : Word), x.full = false → gives (.mbMsgWrite m c w v) { x with msg := vset x.msg w v }) ∧
   (∀ (w : Fin 4) (v : Word), x.full = true → gives (.mbMsgWrite m c w v) { x with refused := true }) ∧
   (∀ v : Word, v.getLsbD 4 = false → gives (.mbStatusClear m c v) { x with
    emptyEvt := x.emptyEvt && !v.getLsbD 1
    ackValid := x.ackValid && !v.getLsbD 2
    refused := x.refused && !v.getLsbD 3 })) ∧
  (b.receiver = m →
   (b.ackMode = false → gives (.mbTake m c) { x with full := false, doorbell := false, emptyEvt := true }) ∧
   (b.ackMode = false → gives (.mbFlush m c) { x with full := false, doorbell := false, emptyEvt := true }) ∧
   (b.ackMode = true → gives (.mbFlush m c) { x with
    full := false, doorbell := false, returnCode := 0xFFFF, ackValid := true }) ∧
   (∀ code : BitVec 16, b.ackMode = true → gives (.returnCodeWrite m c code) { x with
    full := false, doorbell := false, returnCode := code, ackValid := true }) ∧
   (b.ackMode = true → exec (.mbTake m c) s = .next s) ∧
   (∀ code : BitVec 16, b.ackMode = false → exec (.returnCodeWrite m c code) s = .next s))

/-- R422, R429: the binding table, its lock and the forced release of a semaphore. -/
def Obligations.BindingsAndForcedRelease : Prop :=
 ∀ (s : State) (m : BitVec 7) (c : Fin 128) (v : Word), isMaster m = true →
  let b := bindingOf v
  let x := s.hostPort.mailbox[c]
  let keeper := (0x40 ≤ m.toNat ∧ m.toNat ≤ 0x43) ∨ m = 0x49
  let good := isMaster b.sender = true ∧ isMaster b.receiver = true ∧ (b.ackMode = true → 0x40 ≤ b.receiver.toNat)
  (s.hostPort.lock = false → keeper → good → ∃ t, exec (.mbBindWrite m c v) s = .next t ∧
   t.hostPort.bind = vset s.hostPort.bind c b ∧
   t.hostPort.mailbox = if x.full then vset s.hostPort.mailbox c { x with
    full := false, emptyEvt := false, ackValid := false, refused := false, doorbell := false } else s.hostPort.mailbox) ∧
  (s.hostPort.lock = true ∨ ¬ keeper ∨ ¬ good →
   ∃ t, exec (.mbBindWrite m c v) s = .next t ∧ t.hostPort = s.hostPort) ∧
  (s.hostPort.lock = false → ∃ t, exec (.mbLockWrite m v) s = .next t ∧
   t.hostPort = { s.hostPort with lock := v.getLsbD 0 }) ∧
  (s.hostPort.lock = true → ∃ t, exec (.mbLockWrite m v) s = .next t ∧ t.hostPort = s.hostPort) ∧
  (∀ n : Fin 32, v.toNat % 32 = n.1 → v.getLsbD 8 = true → keeper → s.hostPort.sem[n].held = true →
   ∃ t, exec (.semForce m v) s = .next t ∧
    t.hostPort = { s.hostPort with sem := vset s.hostPort.sem n { s.hostPort.sem[n] with held := false } })

/-- R428: which of several simultaneous readers acquires a semaphore. -/
def Obligations.SimultaneousSemaphoreReads : Prop :=
 ∀ (s : State) (ms_ : List (BitVec 7)) (n : Fin 32) (w : BitVec 7),
  let last := s.hostPort.sem[n].lastWinner
  let rank (m : BitVec 7) : Nat := (m.toNat + 0x4B - (last.toNat + 1) % 0x4B) % 0x4B
  s.hostPort.sem[n].held = false → (∀ m ∈ ms_, m.toNat ≤ 0x4A) → w ∈ ms_ → (∀ m ∈ ms_, m ≠ w → rank w < rank m) →
  ∃ t, exec (.semRead ms_ n) s = .next t ∧ t.hostPort.sem[n] = { holder := w, lastWinner := w, held := true } ∧
   Out.masterRead w (BitVec.ofNat 32 (w.toNat + w.toNat * 2 ^ 8)) ∈ t.sent ∧
   ∀ m ∈ ms_, m ≠ w → Out.masterRead m (BitVec.ofNat 32 (w.toNat + w.toNat * 2 ^ 8 + 2 ^ 31)) ∈ t.sent

/-- R424 to R426, R429: a reset of a master keeps every message. -/
def Obligations.MasterResetKeepsMessages : Prop :=
 ∀ (s : State) (m : BitVec 7), isMaster m = true →
  ∃ t, exec (.masterReset m) s = .next t ∧ t.hostPort.bind = s.hostPort.bind ∧
   (∀ c : Fin 128,
    let rx := s.hostPort.bind[c].valid && s.hostPort.bind[c].receiver == m
    let tx := s.hostPort.bind[c].valid && s.hostPort.bind[c].sender == m
    let x := s.hostPort.mailbox[c]
    t.hostPort.mailbox[c] = { x with
     epochRx := if rx then x.epochRx + 1 else x.epochRx
     epochTx := if tx then x.epochTx + 1 else x.epochTx
     doorbell := x.doorbell || rx && x.full }) ∧
   ∀ n : Fin 32,
    let h := s.hostPort.sem[n].held && s.hostPort.sem[n].holder == m
    t.hostPort.sem[n] = { s.hostPort.sem[n] with held := s.hostPort.sem[n].held && !h } ∧
    t.hostPort.orphan.getLsbD n = (s.hostPort.orphan.getLsbD n || h)

/-- R433 to R436: PLLs, clock switches, levels and the frequency measurement (log entries 66 and 67). -/
def Obligations.ClocksAndLevels : Prop :=
 (
  ∀ (s : State) (p : Fin 8) (d : Fin 60), s.clocked = true →
   let c := s.clocks
   (pllUsed s.role p = true → c.pllLocked[p] = false → c.pllLost[p] = true → exec (.pllLock p) s = .next (s.withClocks fun c => { c with
    pllLocked := vset c.pllLocked p true, pllRelocked := vset c.pllRelocked p (some s.now) })) ∧
   (pllUsed s.role p = true → c.pllLocked[p] = false → c.pllLost[p] = false → c.hold = false →
    exec (.pllLock p) s = .next ((s.withClocks fun c => { c with pllLocked := vset c.pllLocked p true }).toPll p)) ∧
   (∀ t, c.pllRelocked[p] = some t → c.hold = false →
    exec (.pllRelockSwitchBack p) s = .next ((s.until_ (t + 10 * 1000000)).toPll p)) ∧
   (c.pllLocked[p] = true → ∃ (moved : List (Fin 60)) (t : State), exec (.pllLockLoss p) s = .next t ∧
    (∀ d ∈ moved, pllOf d = some p ∧ hasSafe d = true) ∧
    t = ((moved.foldl (fun (s : State) d => s.beginSwitch d true) (s.withClocks fun c => { c with
     pllLocked := vset c.pllLocked p false, pllLost := vset c.pllLost p true
     pllRelocked := vset c.pllRelocked p none })).bump 0x2D00 0x11 1).raise 0x1101 (det p.1 moved.length)) ∧
   (c.xtalLost = false → exec .xtalLoss s = .next ((s.withClocks fun c => { c with xtalLost := true }).raise 0x1103 (det 59 0))) ∧
   (c.xtalLost = true → exec .xtalReturn s = .next ((s.pass 1000000).withClocks fun c => { c with xtalLost := false })) ∧
   (autoGated d = true → heldDown s.role d = false →
    exec (.clockGateClose d) s = .next (s.withDomain d fun x => { x with gated := true }) ∧
    exec (.clockGateOpen d) s = .next (s.withDomain d fun x => { x with gated := false }))) ∧
 (
  ∀ (s : State) (d : Fin 60) (c : LevelChange), s.clocked = true →
   (∀ toSafe, s.clocks.dom[d].switching = some toSafe →
    exec (.clockSwitchComplete d) s = .next (s.withDomain d fun x => { x with safe := toSafe, switching := none }).clockStep ∧
    ∀ aborted : List (BitVec 7), exec (.forcedClockSwitch d aborted) s = .next ((s.pass 640).forceSwitch d toSafe aborted).clockStep) ∧
   (∀ b1 b50 : Nat, s.fixedLevel = none → 85 < b1 → s.level < 3 → exec (.dvfsEvaluate b1 b50) s = .next (s.wantLevel (s.level + 1))) ∧
   (∀ b1 b50 : Nat, s.fixedLevel = none → b1 ≤ 85 → b50 < 40 → 0 < s.level →
    exec (.dvfsEvaluate b1 b50) s = .next (s.wantLevel (s.level - 1))) ∧
   (∀ b1 b50 l : Nat, s.fixedLevel = some l → exec (.dvfsEvaluate b1 b50) s = .next (s.wantLevel l)) ∧
   (∀ mA : Nat, mA < 2 ^ 32 → exec (.avsTransferComplete (.current mA)) s = .next (s.wrN 0x2D00 0x0C mA)) ∧
   (∀ command : Nat, exec (.avsTransferComplete (.failed command)) s =
    .next (((s.bump 0x2D00 0x09 1).raise 0x1201 (det s.level command)).failLevel)) ∧
   (∀ b : Nat, exec (.avsTransferComplete (.alert b)) s = .next ((s.raise 0x1202 (det s.level b)).failLevel)) ∧
   (s.clocks.change = some c →
    ((c.fromLevel < c.toLevel ∧ c.stage = 1) ∨ (c.toLevel ≤ c.fromLevel ∧ c.stage = 2) →
     exec (.avsTransferComplete .written) s = .next (s.advanceLevel c)) ∧
    ((c.fromLevel < c.toLevel ∧ c.stage = 2) ∨ (c.toLevel ≤ c.fromLevel ∧ c.stage = 3) →
     exec .vdone s = .next (s.advanceLevel c) ∧
     exec .vdoneTimeout s = .next (((s.pass 500000).raise 0x1201 (det c.toLevel 0)).failLevel))) ∧
   (∀ khz : BitVec 32, s.clocks.freqRun = some d.1 → ∃ n, (n = khz.toNat ∨ n = 0) ∧
    exec (.freqMeasureComplete khz) s = .next
     ((((s.pass 1000000).wrN 0x2D00 0x24 n).withClocks fun c => { c with freqRun := none }).publish 0x2D00 0x22 0x23 true)))

/-- R435, R438: clock-loss hold begins and ends. -/
def Obligations.ClockLossHold : Prop :=
 ∀ (s : State) (aborted : List (Fin 60 × BitVec 7)), s.clocked = true →
  (s.clocks.hold = false → ∃ u : State, exec (.refclkLoss aborted) s = .next (u.raise 0x1104 (det 0xFF 0)) ∧ u.clocks.hold = true ∧
   u.lanes.lane = Vector.replicate 24 Lane.reset) ∧
  (s.clocks.hold = true → (∀ p : Fin 8, pllUsed s.role p = true → s.clocks.pllLocked[p] = true) →
   ∃ t, exec .refclkReturn s = .next t ∧ t.clocks.hold = false ∧
    t.life = (if s.life = .running then .warmStart else s.life))

/-- R410, R445, R463, R544: what a cold reset leaves, and the releases (log entries 6 and 72). -/
def Obligations.ColdResetsAndReleases : Prop :=
 (
  ∀ s : State,
   let leaves (t : State) (cause : Nat) (now : Nat) : Prop :=
    t.life = .inReset ∧ t.rdN 0x2D00 0x18 = cause ∧ t.now = now ∧ t.clocks = { Clocks.reset with coldAt := now } ∧
    t.hostPort = HostPort.reset ∧ t.control = Control.reset ∧ t.lanes = Lanes.reset ∧ t.quartz = Quartz.reset ∧
    t.tile = TileChain.reset ∧ t.video = Video.reset ∧ t.lamps = Lamps.reset ∧ t.otp = s.otp ∧ t.role = s.role
   (∃ t, exec .powerOn s = .next t ∧ leaves t 1 s.now ∧ t.railsGood = false ∧ t.tap = Tap.reset ∧ t.thermal = Thermal.reset ∧
    (s.nvm.issued = false → t.nvm.flash = s.nvm.flash)) ∧
   (∃ t, exec .resetNAssert s = .next t ∧ leaves t 2 (s.now + 1000) ∧ t.railsGood = s.railsGood ∧
    t.tap = { s.tap with ballsTaken := false, highZ := false } ∧ (s.thermal.phase = .latched → t.thermal.phase = .normal)) ∧
   (∃ t, exec .supplyDrop s = .next t ∧ leaves t 2 (s.now + 2000) ∧ t.railsGood = false ∧ t.tap = s.tap ∧
    t.thermal.phase = s.thermal.phase)) ∧
 (
  ∀ (s : State) (straps : BitVec 4) (fitted mib elapsed : Nat),
   (s.life = .inReset → straps.toNat % 4 ≠ 1 → straps.toNat % 4 ≠ 2 → ∃ t, exec (.coldReset straps fitted mib) s = .next t ∧
    t.life = .noRole ∧ t.role = .none ∧ t.straps = straps ∧ t.railsGood = true) ∧
   (s.life = .inReset → straps.toNat % 4 = 1 → mib < 64 → ∃ t, exec (.coldReset straps fitted mib) s = .next t ∧
    t.life = .bootRom ∧ t.role = .sender ∧ t.straps = straps) ∧
   (s.life = .inReset → straps.toNat % 4 = 2 → straps.getLsbD 2 = true → ∃ t, exec (.coldReset straps fitted mib) s = .next t ∧
    t.life = .bootRom ∧ t.role = .tile ∧ t.straps = straps ∧
    t.otp = { s.otp with shadow := s.otp.ceilings.map fun c => c.getD Ceiling.unlimited }) ∧
   (s.life = .coldStart → s.pointing = false → ∃ t, exec (.imageLoadComplete elapsed) s = .next t ∧ t.life = .running ∧
    t.role = s.role ∧ s.clocks.startAt + elapsed ≤ t.now) ∧
   (s.life = .warmStart → ∃ t, exec (.warmReset true elapsed) s = .next t ∧ t.life = .running ∧ t.role = s.role ∧
    s.clocks.startAt + elapsed ≤ t.now) ∧
   (s.life = .warmStart → ∃ t, exec (.warmReset false elapsed) s = .next t ∧ t.life = .inReset ∧ t.rdN 0x2D00 0x18 = 5))

/-- R390, R445, R463, R526: the resets that the device brings about (log entry 6). -/
def Obligations.CommandedResets : Prop :=
 ∀ s : State,
  (s.isSender = true → s.control.nodeId ≠ 0xFF → s.rdB 0x3300 0x0D = true → s.cooling = false →
   exec .nmtResetNode s = .next (s.clearLatch.beginWarm 17)) ∧
  (s.isSender = true → s.control.nodeId ≠ 0xFF → s.rdB 0x3300 0x0D = false → exec .nmtResetNode s = .next (s.raise 0x1305 (det 0 129))) ∧
  (∀ c : Fin 2, s.up = true → exec (.clusterWatchdogRestart c) s =
   .next { s with clocks := { s.clocks with wdtRestarted := vset s.clocks.wdtRestarted c s.now } }) ∧
  (s.up = true →
   let due (c : Fin 2) := ((s.until_ (s.clocks.wdtRestarted[c] + s.clocks.wdtInForce[c] * 1000000)).raise 0xA105
    (det 0xFF c)).withCascade fun x => { x with wdtFault := true }
   let recent := (due 0).clocks.wdtExpiries.filter fun t => decide ((due 0).now < t + 60 * 1000000000)
   (2 ≤ recent.length → exec (.clusterWatchdogExpiry 0) s = .next ((due 0).beginCold 4)) ∧
   (recent.length < 2 → exec (.clusterWatchdogExpiry 0) s =
    .next (((due 0).withClocks fun c => { c with wdtExpiries := (due 0).now :: recent }).beginWarm 18)) ∧
   ∃ t, exec (.clusterWatchdogExpiry 1) s = .next t ∧ t.life = .running ∧ t.clocks.wdtRestarted[(1 : Fin 2)] = (due 1).now) ∧
  (∀ since, s.up = true → s.thermal.phase = .cooling since → 16 ≤ s.thermal.coolRounds →
   let trips := (s.thermal.tripTimes.filter fun t => decide (since < t + 3600 * 1000000000)).length
   (trips < 3 → ∃ t, exec .coolingComplete s = .next t ∧ t.life = .warmStart ∧ t.thermal.phase = .normal) ∧
   (3 ≤ trips → exec .coolingComplete s =
    .next ((s.withThermal fun t => { t with phase := .latched }).raise 0x7103 (det 0xFF trips))))

/-- R456, R458, R459: a housekeeping round and a thermal trip (log entries 68 and 69). -/
def Obligations.HousekeepingAndTrip : Prop :=
 ∀ s : State,
  (∀ (die : Vector (Option Int) 8) (supply : Vector Nat 8) (holdup : Nat) (nvm : Option Int), s.life ≠ .inReset →
   ∃ t, exec (.hkRound die supply holdup nvm) s = .next t ∧ t.thermal.coldRounds = s.thermal.coldRounds + 1 ∧
    s.clocks.coldAt + (s.thermal.coldRounds + 1) * 8000000 ≤ t.now ∧
    ∀ i : Fin 8,
     let x := t.thermal.chan[i.1]
     t.thermal.tf[i] = if x.valid then
       match s.thermal.tf[i] with
       | none => some x.reading
       | some f => some ((3 * f + x.reading + 2) / 4)
      else s.thermal.tf[i]) ∧
  (∀ (die : Vector Int 8) (ch : Fin 8), s.up = true → s.role ≠ .none → s.cooling = false → s.tripChannel die = some ch →
   ∃ t, exec (.thermalTrip die) s = .next t ∧ t.thermal.phase = .cooling s.now ∧ t.thermal.coolRounds = 0 ∧
    t.thermal.tripTimes = s.now :: s.thermal.tripTimes ∧ t.clocks.change = none ∧ t.life = .running ∧
    Out.pin .thermTripN false ∈ t.sent ∧ (s.role = .tile → t.tile.thermal = true) ∧
    (s.role = .sender → t.quartz.master = false))

/-- R465, R470, R484, R486: flash operations, the black box and the calibration (log entries 73, 76 and 77). -/
def Obligations.FlashRecordsAndCalibration : Prop :=
 (
  ∀ (s : State) (j : FlashJob) (rest : List FlashJob) (next : FlashStep) (more : List FlashStep),
   s.Canon → s.nvm.issued = true → s.nvm.jobs = j :: rest →
   (∀ a n, j.steps = .erase a n :: next :: more → ∃ t, exec (.flashOpComplete true) s = .next t ∧
    t.flash a n = List.replicate n 0xFF ∧ t.nvm.jobs = resumeJob { j with steps := next :: more } rest ∧
    ∀ x, x < a ∨ a + n ≤ x → t.flash x 1 = s.flash x 1) ∧
   (∀ a b, j.steps = .program a b :: next :: more → s.flash a b.length = List.replicate b.length 0xFF →
    ∃ t, exec (.flashOpComplete true) s = .next t ∧ t.flash a b.length = b ∧
     t.nvm.jobs = resumeJob { j with steps := next :: more } rest) ∧
   (∀ x, j.steps = x :: more → (∃ t, exec (.flashOpComplete false) s = .next t ∧ t.nvm.jobs = rest) ∧
    ∃ t, exec .flashOpTimeout s = .next t ∧ t.nvm.jobs = rest)) ∧
 (
  ∀ s : State,
   (∀ r rest n, s.nvm.bb.slots = r :: rest → s.life ≠ .inReset → s.windowOpen = true → s.nvm.bb.scanned = true →
    s.committing = false → s.bucketHolds 256 = true → s.slotFor r = some n →
    exec .bbCommit s = .next (s.addJob { prio := 0, purpose := .bbCommit (r.seq.getD 0) n, steps := [.program (bbArea n) (r.bytes (n < 256))] }).2) ∧
   (∀ r (a b : HopRun), s.up = true → s.nvm.calRun = some r →
    let p : Fin 2 := if r.port = 1 then 1 else 0
    (r.kind = 0 → exec (.calRunComplete a b) s = .next (s.provisionalEnds p (s.ownHop p 0 a)).startHop) ∧
    (r.kind = 1 → s.skewDone = true → exec (.calRunComplete a b) s = .next s.skewEnds.startHop) ∧
    (r.kind = 2 → exec (.calRunComplete a b) s =
     .next (s.hopEnds p (s.ownHop p 0 a) (s.ownHop p 1 b)).startHop) ∧
    (r.kind = 3 → r.rounds.length = 32 →
     let one (i : Fin 8) : Int := ((r.rounds.take 16).map fun v => v[i]).sum
     let two (i : Fin 8) : Int := ((r.rounds.drop 16).map fun v => v[i]).sum
     let ref := 16 * s.rdI 0x2F00 0x03
     (∀ i k : Fin 8, one i - one k ≤ 1024 ∧ two i - two k ≤ 1024) → (∀ i : Fin 8, (one i - two i).natAbs ≤ 128) →
     (∀ i : Fin 8, (ref - one i).natAbs ≤ 1024 ∧ (ref - two i).natAbs ≤ 1024) →
     ∃ t : State, exec (.calRunComplete a b) s = .next t.startHop ∧ t.nvm.calRun = none ∧
      ∀ i : Fin 8, t.nvm.cal.trims[i] = (2 * ref - one i - two i + 16) / 32)) ∧
   (s.up = true → s.windowOpen = true → s.rdN 0x2F00 0x19 ≠ 0 → s.nvm.jobs.any FlashJob.isCal = false →
    exec .calDeferredStore s = .next (s.calStore 0)))

/-- R121, R496 to R498, R503, R507, R508, R513: what the service port does by time or on a cell (log entries 79 and 80). -/
def Obligations.ServiceTimers : Prop :=
 ∀ s : State,
  (∀ k, s.update.session = some k → ∃ t, exec .sessionIdleTimeout s = .next t ∧ t.update.session = none ∧
   t.update.record = s.update.record ∧ s.update.lastRequest + 60000000000 ≤ t.now) ∧
  (∀ n at_, s.update.hello = some (n, at_) → ∃ t, exec .helloNonceExpiry s = .next t ∧ t.update.hello = none ∧ at_ + 10000000000 ≤ t.now) ∧
  (∀ due, s.update.confirmAt = some due → ∃ t, exec .confirmationTimeout s = .next t ∧ t.life = .inReset ∧ due ≤ t.now) ∧
  (s.up = true → s.pointer.state = 1 → s.rdB 0x3100 0x15 = true → s.pointing = false → s.selfTestOk = true →
   exec .selfTestPass s = .next s.confirm) ∧
  (∀ r, s.serviceUp = true → s.rdN 0x3100 0x01 = 2 → s.update.record = some r →
   (s.failingPart r = none → ∃ t, exec .verifyComplete s = .next t ∧ (r.target ≠ 0 → t.update.session = none) ∧
    (r.target = 0 → t.update.session = s.update.session)) ∧
   (∀ i, s.failingPart r = some i → ∃ t r', exec .verifyComplete s = .next t ∧ t.update.record = some r' ∧
    ∀ n, (s.partBlocks r i).1 ≤ n → n < (s.partBlocks r i).2 → n ∉ r'.complete)) ∧
  (∀ f r, s.update.armed = some f → s.update.record = some r →
   let u := (s.untilWall (s.tFrame f)).withUpdate fun x => { x with armed := none }
   u.refusal u.update.ownerProof [3, 4, 5, 6] = 0 → exec .wallActivateAtFrame s = .next (u.activate { r with mode := 1 })) ∧
  (∀ (port : Fin 2) (x : RxCell), x.cell.type = 5 →
   let u := s.arrive port x
   ((u.admitCell x).1 = true → exec (.serviceCellReceive port x) s =
    .next ((u.admitCell x).2.service (byteAt x.cell.data 1).toNat (if x.cell.dest = (u.admitCell x).2.station then .chain else .chainAll) x.cell.data)) ∧
   ((u.admitCell x).1 = false → exec (.serviceCellReceive port x) s = .next (u.admitCell x).2))

/-- R496, R512 to R514: the coordinator of a wall update (log entry 81). -/
def Obligations.WallUpdateCoordinator : Prop :=
 ∀ s : State, s.coordinates = true →
  let w := s.update.wu
  (s.wuState = 1 → w.stage = 1 →
   let u := (s.pass (1000000000 / max 1 (s.rdN 0x3100 0x34))).wuBlock w.nextBlock none
   ((w.nextBlock + 1) * 4096 < w.length → exec .wuWritePace s = .next (u.withWu fun x => { x with nextBlock := w.nextBlock + 1 })) ∧
   (w.length ≤ (w.nextBlock + 1) * 4096 → exec .wuWritePace s =
    .next (u.withWu fun x => { x with stage := 2, rounds := 1, done := [] }).wuPollAll)) ∧
  (∀ fin, w.closing = some fin →
   let u := s.pass 1000000000
   (w.late ≠ [] → exec .wuPoll s = .next (u.wuCommand (if fin then 8 else 9) [])) ∧
   (w.late = [] → fin = true → exec .wuPoll s = .next ((u.wuEnd 5 true).raise 0x9303 (det 0 w.stations.length))) ∧
   (w.late = [] → fin = false → exec .wuPoll s = .next (u.wuEnd (if w.failed then 7 else 6) false))) ∧
  (s.wuState = 3 →
   let u := s.pass 100000000
   let t := u.tFrame (s.rdN 0x3100 0x32)
   (w.late = [] → t ≤ u.quartz.wall → exec .wuActivateBroadcast s = .next ((u.withWu fun x => { x with
    done := [], reported := [], startedAt := u.now }).setWu 4)) ∧
   (w.late ≠ [] → u.quartz.wall + 200000000 * subNs < t →
    exec .wuActivateBroadcast s = .next (u.wuCommand 6 (leBytes 8 (s.rdN 0x3100 0x32))))) ∧
  (s.wuState = 4 → w.closing = none →
   let u := s.until_ (w.startedAt + s.rdN 0x3100 0x35 * 1000000000)
   (w.late = [] → exec .wuConfirmWaitExpiry s = .next (u.wuClose true)) ∧
   (∀ e l, w.late = e :: l → exec .wuConfirmWaitExpiry s = .next (u.wuRollback e))) ∧
  (∀ (p : Fin 2) (station : Nat) (b : List Byte), field b 1 1 = 12 → exec (.serviceReport p station b) s = .next (s.wuTake p station b)) ∧
  (∀ tag q, s.update.requests.find? (fun q => q.tag == tag) = some q → ∃ t : State,
   exec (.serviceRequestRetry tag) s = .next (t.svcCell (if q.chain = 0 then 0 else 1) q.station q.frame) ∧
   q.sentAt + 100000000 ≤ t.now ∧
   t.update.requests = s.update.requests.map fun r => if r.tag = tag then { r with sentAt := t.now } else r)

/-- R521, R531, R532: the replay limit, the memory self tests and the TAP (log entries 83 and 84). -/
def Obligations.BistAndTap : Prop :=
 (
  ∀ s : State,
   (∀ t, s.isTile = true → s.beat.replayUntil = some t → exec .replayLimitExpiry s =
    .next (((s.until_ t).withBeat fun b => { b with replayUntil := none }).blank true)) ∧
   (s.life = .coldStart → ∃ t, exec (.memoryBistComplete [] []) s = .next t ∧ t.life = .coldStart ∧
    t.od = (s.wrN 0x3200 0x16 0).od ∧ s.clocks.startAt + 28000000 ≤ t.now) ∧
   (s.life = .coldStart → ∀ k : Fin 8, ∃ t, exec (.memoryBistComplete [] [.scaler k]) s = .next t ∧
    t.lamps.retired = s.lamps.retired ||| BitVec.ofNat 8 (2 ^ k.1) ∧ t.life = .coldStart) ∧
   (s.life = .coldStart → ∀ p : Fin 64, ∃ t, exec (.memoryBistComplete [] [.engine p]) s = .next t ∧
    t.lamps.dead = s.lamps.dead ||| BitVec.ofNat 64 (2 ^ p.1) ∧ t.life = .coldStart) ∧
   (s.life = .coldStart → ∃ t, exec (.memoryBistComplete [] [.cluster]) s = .next t ∧ t.life = .bootRom) ∧
   (∀ (kind : Nat) (p : Fin 64), s.isTile = true → kind ≠ 1 → s.lamps.bistRun = some (kind, p.1) →
    (exec (.bistComplete none) s = .next
     ((State.publish { s.pass 1000000 with lamps := { s.lamps with bistRun := none } } 0x3200 0x22 0x23 true).wrN 0x3200 0x24 0)) ∧
    ∀ a : Nat, ∃ t, exec (.bistComplete (some a)) s = .next t ∧ t.lamps.bistRun = none ∧
     t.lamps.dead = s.lamps.dead ||| BitVec.ofNat 64 (2 ^ p.1)) ∧
   (∀ (k : Fin 8) (a : Nat), s.isTile = true → s.lamps.bistRun = some (1, k.1) →
    ∃ t, exec (.bistComplete (some a)) s = .next t ∧ t.lamps.bistRun = none ∧
     t.lamps.retired = s.lamps.retired ||| BitVec.ofNat 8 (2 ^ k.1))) ∧
 (
  ∀ (s : State) (pins shifted : List Bool),
   let scan (u : State) (i : TapInstr) : Outcome State Fault Refusal :=
    .next { u with tap := { u.tap with instr := i, boundary := shifted }, sent := u.sent ++ [.tap pins] }
   let bypass (u : State) (i : TapInstr) : Outcome State Fault Refusal :=
    .next { u with tap := { u.tap with instr := i }, sent := u.sent ++ [.tap [false]] }
   exec .tapReset s = .next { s with tap := { s.tap with instr := .idcode, unlocked := false, nonce := none } } ∧
   exec .tapIdcode s = .next { s with
    tap := { s.tap with instr := .idcode }
    sent := s.sent ++ [.tap ((List.range 32).map fun i => (0x1960053D#32).getLsbD i)] } ∧
   exec (.tapSamplePreload pins shifted) s = scan s .samplePreload ∧
   exec (.tapExtest pins shifted) s = scan s.takeBalls .extest ∧
   exec (.tapExtestPulse pins shifted) s = scan s.takeBalls .extestPulse ∧
   exec (.tapExtestTrain pins shifted) s = scan s.takeBalls .extestTrain ∧
   exec .tapBypass s = bypass s .bypass ∧ exec .tapClamp s = bypass s.takeBalls .clamp ∧
   exec .tapHighz s = bypass { s.takeBalls with tap := { s.takeBalls.tap with highZ := true } } .highz ∧
   s.takeBalls.tap.ballsTaken = true ∧ (s.tap.ballsTaken = false → s.takeBalls.lanes = Lanes.reset) ∧
   exec .tapMbist s = .next { s with tap := { s.tap with instr := .mbist } } ∧
   (s.otp.jtagMode = 0 ∨ (s.otp.jtagMode = 1 ∧ s.tap.unlocked = true) →
    exec .tapDebug s = .next { s with tap := { s.tap with instr := .debug } }) ∧
   (¬ (s.otp.jtagMode = 0 ∨ (s.otp.jtagMode = 1 ∧ s.tap.unlocked = true)) → exec .tapDebug s = bypass s .bypass) ∧
   (s.tap.nonceFrom ≤ s.now → ∃ n t, exec (.tapDbgUnlock none) s = .next t ∧ t.tap.nonce = some n ∧
    t.tap = { s.tap with instr := .dbgUnlock, nonce := some n }) ∧
   (s.now < s.tap.nonceFrom → exec (.tapDbgUnlock none) s = .next { s with
    tap := { s.tap with instr := .dbgUnlock }
    sent := s.sent ++ [.tap (List.replicate 256 false)] }) ∧
   (∀ n proof, s.otp.jtagMode = 1 → s.tap.nonce = some n → proof = s.debugProof n →
    ∃ t, exec (.tapDbgUnlock (some (n, proof))) s = .next t ∧
     t.tap = { s.tap with instr := .dbgUnlock, unlocked := true, nonce := none }) ∧
   (∀ n proof, s.otp.jtagMode = 1 → s.tap.nonce = some n → proof ≠ s.debugProof n →
    ∃ t, exec (.tapDbgUnlock (some (n, proof))) s = .next t ∧
     t.tap = { s.tap with instr := .dbgUnlock, nonce := none, nonceFrom := s.now + 1000000000 }))

/-- R46, R48, R49, R50, R54 to R64, R68, R171, R172: frames, packets, queries, selections and frame boundaries at the ingress (log entries 28 and 41). -/
def Obligations.Ingress : Prop :=
 ∀ s : State,
  (∀ (e : Fin 8) (f : EthFrame), s.hasEth e = false → exec (.txPortCEthernetFrame e f) s = .next s) ∧
  (∀ (e : Fin 8) (f : EthFrame), s.hasEth e = true →
   let vlan := s.rdN 0x2102 (0x18 + e)
   let own := s.rdN 0x2102 (0x10 + e)
   let ours : Option Nat := if vlan = 0 then none else some vlan
   (f.vlan ≠ ours → exec (.txPortCEthernetFrame e f) s = .next (s.ethDrop e)) ∧
   (f.vlan = ours →
    (∀ src, f.body = .arp src own → exec (.txPortCEthernetFrame e f) s =
     .next (s.emit (.ethernet e (macOf e) vlan src 0x0806 (beBytes 6 (macOf e) ++ beBytes 4 own)))) ∧
    (∀ src b, f.body = .echo src own b → exec (.txPortCEthernetFrame e f) s =
     .next (s.emit (.ethernet e (macOf e) vlan src 1 b))) ∧
    (f.body = .other → exec (.txPortCEthernetFrame e f) s = .next (s.ethDrop e)) ∧
    (∀ src dst port b r, f.body = .udp src dst port b → dst ≠ 0xE0000181 → s.receivers e src dst port = [r] →
     exec (.txPortCEthernetFrame e f) s = .next (s.rtpPacket r.1 r.2 b)))) ∧
  (∀ (e : Fin 8) group sources, s.hasEth e = true →
   (exec (.igmpQueryReceive e 1 group sources) s = .next s) ∧
   (∃ t, exec (.igmpQueryReceive e 2 0 sources) s = .next t ∧ t.ingress.igmpV2[e] = some (s.now + 260 * second)) ∧
   (group ≠ 0 → ∃ t, exec (.igmpQueryReceive e 2 group sources) s = .next t ∧ t.ingress.igmpV2 = s.ingress.igmpV2)) ∧
  (∀ (n : Fin 32) t0, s.ingress.stream[n].reportAt = some t0 → ∃ t, exec (.igmpReportTimer n) s = .next t ∧
   t.ingress.stream[n].reportAt = none ∧ t0 ≤ t.now) ∧
  (∀ (n : Fin 32) path b, exec (.rtpPacketReceive n path b) s = .next (s.rtpPacket n path b)) ∧
  (∀ (n : Fin 32) at_ ts, s.ingress.stream[n].dueFirst = some (at_, ts) → exec (.frameCloseTimeout n) s =
   .next ((s.until_ at_).closeTs n ts)) ∧
  (∀ (n : Fin 32) (path : Fin 2), s.streamOn n = true → s.pathUsed n path = true → s.ingress.stream[n].lost[path] = false →
   ∃ t, exec (.pathLostTimeout n path) s = .next t ∧ t.ingress.stream[n].lost[path] = true ∧
    s.ingress.stream[n].lastArrival[path] + 100 * ms ≤ t.now) ∧
  (∀ (n : Fin 32) f rest, s.ingress.stream[n].decoding = f :: rest →
   let u := s.withStream n fun r => { r with decoding := rest }
   exec (.jpegXsDecodeComplete n none) s = .next (u.complete n f.ts (.codestream (packetsJoin f.packets))) ∧
   ∃ t, exec (.jpegXsDecodeComplete n (some 0)) s = .next t ∧ t.ingress.stream[n].decoding = rest) ∧
  (s.isSender = true → s.quartz.lockedOnce = true →
   let f := s.quartz.frame + 1
   let u := s.untilWall (s.tFrame f - 500000 * subNs)
   let v := s.untilWall (s.tFrame f - 400000 * subNs)
   (u.selector = true → ∃ t, exec .freeSelectChoice s = .next t ∧
    ∀ n, u.subscribed n = true → u.freeStream n = true → (t.ingress.stream[n].selection f).isSome = true) ∧
   (v.selector = true → ∀ n : Fin 32, v.subscribed n = true → v.freeStream n = true → (v.ingress.stream[n].selection f).isSome = true →
    ∃ t, exec .selectSend s = .next t ∧ t.cascade.useq = s.cascade.useq + 1)) ∧
  (∀ (link : Fin 2) (u : CascadeUnit),
   let v := (s.takeUnit link u).2
   let f := v.quartz.frame + 1
   (s.takeUnit link u).1 = true → u.kind = 3 →
    ((∀ k < 32, field u.body (8 * k) 8 = 0) → exec (.selectUnitReceive link u) s = .next v) ∧
    ∀ n : Fin 32,
     let e := field u.body 0 8
     e ≠ 0 → bits e 63 56 = n → bits e 55 48 = f % 256 → v.ingress.stream[n].selection f = none →
      ∃ t, exec (.selectUnitReceive link u) s = .next t ∧ t.ingress.stream[n].selection f =
       some (if bit e 40 then none else some (BitVec.ofNat 32 (bits e 31 0)))) ∧
  (s.up = true → s.quartz.lockedOnce = true → ∀ errors,
   (s.role = .tile → exec (.frameBoundary errors) s = .next (s.beginFrame.tileFrame s.genNow errors)) ∧
   (s.role = .sender → exec (.frameBoundary errors) s = .next (s.beginFrame.senderFrame errors)))

/-- R494, R496: the requests and operations of the service port (log entries 78 and 80). -/
def Obligations.ServicePort : Prop :=
 (
  ∀ (s : State) (src : SvcSource) (b : List Byte), s.serviceUp = true → field b 0 1 = 1 → s.pointing = false →
   let u := if s.update.session = some src.key then s.withUpdate fun x => { x with lastRequest := s.now } else s
   let kept := s.update.answers.find? fun a => a.1 == src.key
   ((∀ a, kept = some a → a.2.1 ≠ field b 4 4) →
    (field b 1 1 = 1 → exec (.serviceHello src b) s = .next (u.svcHello src b)) ∧
    (field b 1 1 = 2 → exec (.serviceOpen src b) s = .next (u.svcOpen src b)) ∧
    (field b 1 1 = 3 → exec (.serviceWrite src b) s = .next (u.svcWrite src b)) ∧
    (field b 1 1 = 4 → exec (.serviceStatus src b) s = .next (u.svcStatus src b)) ∧
    (field b 1 1 = 5 → exec (.serviceVerify src b) s = .next (u.svcVerify src b)) ∧
    (field b 1 1 = 6 → exec (.serviceActivate src b) s = .next (u.svcActivate src b)) ∧
    (field b 1 1 = 7 → exec (.serviceCancel src b) s = .next (u.svcCancel src b)) ∧
    (field b 1 1 = 8 → exec (.serviceFinalize src b) s = .next (u.svcFinalize src b)) ∧
    (field b 1 1 = 9 → exec (.serviceRollback src b) s = .next (u.svcRollback src b)) ∧
    (field b 1 1 = 10 → exec (.serviceClose src b) s = .next (u.svcClose src b)) ∧
    (field b 1 1 = 11 → exec (.serviceRead src b) s = .next (u.svcRead src b))) ∧
   (∀ k a, kept = some (k, field b 4 4, a) → a ≠ [] → field b 1 1 = 2 → exec (.serviceOpen src b) s = .next (u.sendService src a))) ∧
 (
  ∀ (s : State) (src : SvcSource) (b : List Byte),
   (∃ n, (s.svcHello src b).update.hello = some (n, s.now)) ∧
   (∀ k r, s.update.session = some k → s.update.record = some r →
    (r.digest = slice (svcData b) 0 32 → (s.openStatus src b).1 = 2) ∧
    (r.digest ≠ slice (svcData b) 0 32 → (s.openStatus src b).1 = 1) ∧
    (s.svcOpen src b).update.record = some r) ∧
   (s.sessionOf src b = none →
    s.svcVerify src b = s.svcAnswer src b 11 0 [] ∧ s.svcActivate src b = s.svcAnswer src b 11 0 [] ∧
    s.svcClose src b = s.svcAnswer src b 11 0 [] ∧ (s.writeStatus src b).1 = 11) ∧
   (∀ r, s.sessionOf src b = some r →
    (s.rdN 0x3100 0x01 = 1 → r.full = true → s.windowOpen = true →
     s.svcVerify src b = ((s.updState 2).startRun 0x3100 0x09).svcAnswer src b 0 0 []) ∧
    (r.full = false → s.svcVerify src b = s.svcAnswer src b 11 0 []) ∧
    (r.target = 0 → s.rdN 0x3100 0x01 = 3 → s.refusal s.update.ownerProof [3, 4, 5, 6] = 0 →
     (svcData b = [] → s.svcActivate src b = (s.activate r).replyLater src b) ∧
     (svcData b ≠ [] → (s.svcActivate src b).update.armed = some (field (svcData b) 0 8))) ∧
    (s.svcClose src b).update.session = none) ∧
   (s.rdN 0x3100 0x01 = 4 → (s.svcCancel src b).update.armed = none) ∧
   (s.pointer.state = 0 → s.svcFinalize src b = s.svcAnswer src b 0 0 [] ∧ s.svcRollback src b = s.svcAnswer src b 0 0 []) ∧
   (s.pointer.state = 1 → s.svcFinalize src b = s.svcAnswer src b 11 0 []))

/-- R387, R390, R394, R396: NMT, heartbeat, TPDOs and LSS of a CAN node (log entries 47, 51, 52, 53 and 54). -/
def Obligations.CanNodeServices : Prop :=
 (
  ∀ s : State, s.nmtOpen = true →
   let set (n : Nmt) : Outcome State Fault Refusal := .next { s with control := { s.control with nmt := n } }
   exec .nmtStart s = set .operational ∧ exec .nmtStop s = set .stopped ∧ exec .nmtEnterPreOperational s = set .preOperational ∧
   (s.rdB 0x3300 0x0D = true → exec .nmtResetCommunication s = .next s.restartCan) ∧
   (s.rdB 0x3300 0x0D = false → exec .nmtResetCommunication s = .next (s.raise 0x1305 (det 0 130))) ∧
   (s.rdN 0x1017 0 ≠ 0 →
    let u := s.until_ (s.control.hbAt + s.rdN 0x1017 0 * 1000000)
    exec .heartbeatProduce s = .next { u with
     control := { s.control with hbAt := u.now }
     sent := s.sent ++ [.can (0x700 + s.control.nodeId) (leBytes 1 s.control.nmt.code)] }) ∧
   (∀ k : Fin 4, s.rdN 0x1016 (k + 1) % 65536 ≠ 0 → s.rdN 0x1016 (k + 1) / 65536 % 256 ≠ 0 →
    exec (.heartbeatConsumerTimeout k) s = .next { s with control := { s.control with hbLost := vset s.control.hbLost k true } }) ∧
   (exec .syncReceive s = .next ((List.finRange 4).foldl State.syncTpdo s)) ∧
   (∀ n : Fin 4, s.control.nmt = .operational → bit (s.pdoCob true n) 31 = false →
    (1 ≤ s.rdN (0x1800 + n) 0x02 → s.rdN (0x1800 + n) 0x02 ≤ 240 →
     (s.rdN (0x1800 + n) 0x02 ≤ s.control.syncCount[n] + 1 → s.syncTpdo n = s.sendTpdo n) ∧
     (s.control.syncCount[n] + 1 < s.rdN (0x1800 + n) 0x02 → s.syncTpdo n = { s with
      control := { s.control with syncCount := vset s.control.syncCount n (s.control.syncCount[n] + 1) } })) ∧
    (∀ last, 254 ≤ s.rdN (0x1800 + n) 0x02 → s.rdN (0x1800 + n) 0x05 ≠ 0 → s.control.tpdoAt[n] = some last →
     exec (.tpdoEventTimer n) s = .next ((s.until_ (max (last + s.rdN (0x1800 + n) 0x05 * 1000000)
      (last + s.rdN (0x1800 + n) 0x03 * 100000))).sendTpdo n)))) ∧
 (
  ∀ s : State, s.isSender = true →
   let lss (f : Lss → Lss) : State := { s with control := { s.control with lss := f s.control.lss } }
   let answers (u : State) (b : List Byte) : Outcome State Fault Refusal := .next { u with sent := u.sent ++ [.can 0x7E4 (padTo 8 b)] }
   exec (.lssSwitchStateGlobal 1) s = .next (lss fun l => { l with configuring := true }) ∧
   exec (.lssSwitchStateGlobal 0) s = .next (lss fun l => { l with configuring := false }) ∧
   (∀ a b c d : Word, [a.toNat, b.toNat, c.toNat, d.toNat] = (List.range 4).map s.identity →
    exec (.lssSwitchStateSelective a b c d) s = answers (lss fun l => { l with configuring := true }) [0x44]) ∧
   (∀ vendor product revLow revHigh serLow serHigh : Word, vendor.toNat = s.identity 0 → product.toNat = s.identity 1 →
    revLow.toNat ≤ s.identity 2 → s.identity 2 ≤ revHigh.toNat → serLow.toNat ≤ s.identity 3 → s.identity 3 ≤ serHigh.toNat →
    exec (.lssIdentifyRemoteSlave vendor product revLow revHigh serLow serHigh) s = answers s [0x4F]) ∧
   (s.control.nodeId = 0xFF → exec .lssIdentifyNonConfigured s = answers s [0x50]) ∧
   (∀ (id : Word) (sub next : Byte), s.control.nodeId = 0xFF → s.control.lss.configuring = false →
    exec (.lssFastscan id 128 sub next) s = answers (lss fun l => { l with fastscanSub := 0 }) [0x4F]) ∧
   (∀ (id : Word) (sub next : Byte), s.control.nodeId = 0xFF → s.control.lss.configuring = false → sub.toNat < 4 →
    sub.toNat = s.control.lss.fastscanSub → id.toNat = s.identity sub.toNat →
    exec (.lssFastscan id 0 sub next) s =
     answers (lss fun l => { l with fastscanSub := next.toNat % 4, configuring := decide (next.toNat < sub.toNat) }) [0x4F]) ∧
   (s.control.lss.configuring = true →
    (∀ id : Byte, 1 ≤ id.toNat → id.toNat ≤ 127 → exec (.lssConfigureNodeId id) s = answers (s.wrN 0x2003 0x01 id.toNat) [0x11, 0]) ∧
    (∀ id : Byte, id.toNat = 0 ∨ (127 < id.toNat ∧ id.toNat ≠ 255) → exec (.lssConfigureNodeId id) s = answers s [0x11, 1]) ∧
    (∀ (index : Byte) (r : Nat), lssRate index.toNat = some r →
     exec (.lssConfigureBitTiming 0 index) s = answers (lss fun l => { l with pendingRate := some r }) [0x13, 0]) ∧
    (∀ (delay : BitVec 16) (r : Nat), s.control.lss.pendingRate = some r →
     ∃ t, exec (.lssActivateBitTiming delay) s = .next t ∧ t.control.arbRate = r ∧ t.control.lss.pendingRate = none ∧
      t.now = s.now + 2 * delay.toNat * 1000000) ∧
    ((s.storeWrite 2).1 = 0 → exec .lssStoreConfiguration s = answers (s.storeWrite 2).2 [0x17, 0]) ∧
    ((s.storeWrite 2).1 ≠ 0 → exec .lssStoreConfiguration s = answers (s.storeWrite 2).2 [0x17, 2]) ∧
    (∀ k : Fin 4, exec (.lssInquireIdentity k) s = answers s (leBytes 1 (0x5A + k.1) ++ leBytes 4 (s.identity k))) ∧
    exec .lssInquireNodeId s = answers s ([0x5E] ++ leBytes 1 s.control.nodeId)))

/-- R392, R393, R394, R396: the UDP association, RPDOs, and what ends by itself (log entries 55 and 47). -/
def Obligations.UdpPdoAndAccessTimers : Prop :=
 (
  ∀ s : State, s.up = true →
   (∀ (addr port : Nat) (ch : Fin 8) (tag : BitVec 16) (frame : List Byte), frame.length = 8 ∨ frame.length = 64 →
    let data := [0x11, BitVec.ofNat 8 ch.1] ++ leBytes 2 tag.toNat ++ frame
    exec (.udpDatagramReceive addr port data) s = .next (s.udpRequest ch (addr, port) tag.toNat frame)) ∧
   (∀ (ch : Fin 8) (src : Nat × Nat) (tag : Nat) (frame : List Byte),
    let u := s.control.udp[ch]
    (u.assoc = some src → u.busy = false → u.lastTag = some tag → u.lastResponse ≠ [] →
     (s.udpRequest ch src tag frame).od = s.od ∧
     (s.udpRequest ch src tag frame).sent = s.sent ++ [.udp src.1 src.2 u.lastResponse]) ∧
    (u.assoc = some src → u.busy = false → u.lastTag ≠ some tag → s.udpRequest ch src tag frame = s.udpServe ch tag frame) ∧
    (∀ other, u.assoc = some other → other ≠ src → s.now < u.lastRequest + 10000000000 →
     s.udpRequest ch src tag frame = s.emit (.udp src.1 src.2 (sdoDatagram ch tag
      (padTo frame.length (abortFrame (field frame 1 2) (field frame 3 1) 0x08000022)))))) ∧
   (∀ (addr port : Nat) (data : List Byte), byteAt data 0 ≠ 0x11 → byteAt data 0 ≠ 0x13 →
    exec (.udpDatagramReceive addr port data) s = .next { s with control := { s.control with udpDropped := s.control.udpDropped + 1 } }) ∧
   (∀ ch : Fin 8, s.control.udp[ch].assoc ≠ none → ∃ t, exec (.udpAssociationIdle ch) s = .next t ∧
    t.control = s.control ∧ s.control.udp[ch].lastRequest + 10000000000 ≤ t.now) ∧
   (s.rdN 0x2002 0x06 ≠ 0 → s.rdN 0x2002 0x08 ≠ 0 → ∃ t b, exec .udpHeartbeatSend s = .next t ∧
    t.sent = s.sent ++ [.udp (s.rdN 0x2002 0x06) (s.rdN 0x2002 0x07) ([0x15, 0, 0, 0] ++ [b])] ∧
    (s.role = .sender → b = BitVec.ofNat 8 s.control.nmt.code) ∧ b.toNat ∈ nmtCodes ∧ t.control.udpHbAt = t.now) ∧
   (∀ (n : Fin 4) (data : List Byte), s.role = .sender → s.control.nmt = .operational → bit (s.pdoCob false n) 31 = false →
    data ≠ [] →
    (data.length = s.mapTotal (0x1600 + n) (s.rdN (0x1600 + n) 0) → exec (.rpdoReceive n true data) s = .next (s.frustumIn data).2) ∧
    (data.length ≠ s.mapTotal (0x1600 + n) (s.rdN (0x1600 + n) 0) → exec (.rpdoReceive n true data) s =
     .next (s.raiseLimited 0x1307 0 1000000000 fun _ => det 1 (n + 1))))) ∧
 (
  ∀ (s : State) (c : CtxId) (x : Ctx), s.ctx? c = some x →
   (∀ n t, x.nonce = some (n, t) → ∃ u, exec (.challengeExpiry c) s = .next u ∧
    u.ctx? c = some { x with nonce := none } ∧ t + 10000000000 ≤ u.now) ∧
   (s.now < x.lockedUntil → ∃ u, exec (.loginLockoutEnd c) s = .next u ∧
    u.ctx? c = some { x with failures := [], lockedUntil := 0 } ∧ u.now = x.lockedUntil) ∧
   (s.up = true → ∃ u, exec (.idleLogoutExpiry c) s = .next u ∧
    u.ctx? c = some { x with level := s.defaultLevel c, owner := false } ∧
    x.lastRequest + s.rdN 0x3300 0x0C * 1000000000 ≤ u.now) ∧
   (∀ (k : Fin 3) t, s.control.errTimes[k] = some t → ∃ u, exec (.errorClassClear k) s = .next u ∧
    u.control.errTimes = vset s.control.errTimes k none ∧ t + 10000000000 ≤ u.now) ∧
   (s.life ≠ .inReset → exec .qspiPortReset s = .next ((s.resetHostPort false).masterReset 0x48)))

/-- R47, R54, R74, R103, R106 to R109, R134, R141, R143, R161, R406: writes of link, chain and stream objects (log entries 14 and 35). -/
def Obligations.LinkAndChainObjectWrites : Prop :=
 ∀ (s : State) (c : CtxId) (x : Val),
  let t := s.touchCtx c
  let took (i : Instr) (idx sub n v : Nat) (u : State) : Prop :=
   s.passes c idx sub (leBytes n v) = some x → exec i s = .next (u.answered c idx sub 0)
  (∀ (l : Fin 24) (v : BitVec 8), x.toInt ≠ 0 → took (.laneCounterClear c l v) (0x2110 + l) 0x16 1 v.toNat
   (t.zero (0x2110 + l) [0x10, 0x11, 0x12, 0x13, 0x14, 0x15, 0x18, 0x19, 0x1A, 0x1B])) ∧
  (∀ (l : Fin 24) (v : BitVec 8), x.toInt ≠ 0 → t.rdN (0x2110 + l) 0x24 ≠ 1 → t.portTest (portOf l) = true →
   took (.prbsStart c l v) (0x2110 + l) 0x23 1 v.toNat
    ((t.wrN (0x2110 + l) 0x24 1).withLane l fun y => { y with timedRun := true, runSince := t.now, checker := Checker.fresh })) ∧
  (∀ (l : Fin 24) (v : BitVec 8) (k : Fin 4), x.toInt ≠ 0 → t.rdN (0x2110 + l) 0x24 ≠ 1 → t.portTest (portOf l) = false →
   t.linkOf l = some k → t.lanes.link[k].phase = .up → t.lanes.lane[l].stage = .active ∨ t.lanes.lane[l].stage = .spare →
   t.testBar k l = 0 → took (.prbsStart c l v) (0x2110 + l) 0x23 1 v.toNat (t.beginTest k l true (t.rdN (0x2110 + l) 0x20))) ∧
  (∀ l : Fin 24, x.toInt ≠ 0 →
   let kind := t.rdN (0x2110 + l) 0x30
   let size := t.rdN (0x2110 + l) 0x31
   kind ≠ 0 → t.injSizeOk l kind size = true → t.injKindOk l kind = true →
   took (.injStart c l) (0x2110 + l) 0x34 1 1 (t.withLane l fun y => { y with
    injecting := true
    injLeft := if t.rdN (0x2110 + l) 0x32 = 0 then none else some (t.rdN (0x2110 + l) 0x32)
    injKind := kind
    injSize := size })) ∧
  (∀ l : Fin 24, x.toInt = 0 → took (.injStop c l) (0x2110 + l) 0x34 1 0
   (t.withLane l fun y => if y.injLeft.isNone then { y with injecting := false } else y)) ∧
  (∀ (p : Fin 3) (v : BitVec 8), x.toInt ≠ t.rdI (0x2100 + p) 0x0D →
   x.toInt = 0 ∨ t.rdB (0x2100 + p) 0x0E = true ∨ t.portFresh p = true ∨ t.portRecovers p = true →
   took (.loopbackWrite c p v) (0x2100 + p) 0x0D 1 v.toNat ((t.wrI (0x2100 + p) 0x0D x.toInt).restartPort p)) ∧
  (∀ (p : Fin 3) (v : BitVec 8), x.toInt ≠ t.rdI (0x2100 + p) 0x0E →
   took (.testStateWrite c p v) (0x2100 + p) 0x0E 1 v.toNat ((t.wrI (0x2100 + p) 0x0E x.toInt).restartPort p)) ∧
  (∀ v : BitVec 8, (∀ n < 32, t.rdB (0x2400 + n) 0x01 = false) →
   took (.portcConfigWrite c v) 0x2102 0x01 1 v.toNat ((t.wrI 0x2102 0x01 x.toInt).restartPort 2)) ∧
  (∀ v : BitVec 8, t.role = .tile → x.toInt ≠ 0 → took (.chainCounterClear c v) 0x2200 0x0F 1 v.toNat
   (t.zero 0x2200 ((List.range 14).map (0x10 + ·)))) ∧
  (∀ v : BitVec 8, x.toInt ≠ 0 → took (.tileEventsClear c v) 0x2212 0x03 1 v.toNat
   (t.withControl fun k => { k with tileEvents := [] })) ∧
  (∀ v : BitVec 8, t.role = .tile → x.toInt ≠ 0 → t.commanded = false → took (.repeatOnlyWrite c v) 0x2200 0x04 1 v.toNat
   (let u := t.wrI 0x2200 0x04 x.toInt
    u.stopPresenting.raise 0x3106 (u.chainDetail 0 1))) ∧
  (∀ (p : Fin 2) (v : BitVec 8), t.role = .sender → x.toInt ≠ 0 → t.leads p = true → t.rdN (0x2200 + p) 0x05 ≠ 1 →
   let checks := t.ports[p].presented && !t.rdB (0x2200 + p) 0x0B
   let u := t.wrN (0x2200 + p) 0x05 1
   took (.discover c p v) (0x2200 + p) 0x04 1 v.toNat
    (((if checks then u else u.wrN (0x2200 + p) 0x02 1).withChain p fun y => { y with
     discovery := some { checkOnly := checks, repeated := false, before := t.rdN (0x2200 + p) 0x02, since := t.now, reports := [] } }).sendQuery p)) ∧
  (∀ (p q : Fin 2) (v : BitVec 8), t.role = .sender → t.mirror (0x2300 + p) = 0x2300 + q → x.toInt ≠ 0 → t.rdN (0x2300 + q) 0x03 = 0 →
   t.mayReclaim q = true → took (.reclaimNow c p v) (0x2300 + p) 0x15 1 v.toNat (t.sendReclaim q 1)) ∧
  (∀ (p q : Fin 2) (v : BitVec 8), t.role = .sender → t.mirror (0x2300 + p) = 0x2300 + q → x.toInt ≠ 0 →
   t.ports[q].cstate = .control → took (.maintenanceWrite c p v) (0x2300 + p) 0x16 1 v.toNat
    (let kept := (t.wrI (0x2300 + q) 0x16 x.toInt).withChain q fun y => { y with
      reclaim := if y.reclaim.any Reclaim.acked then y.reclaim else none }
     let u := (kept.setCState q .relinquishing).bump (0x2300 + q) 0x11 1
     u.raise 0x4001 (u.redDetail q 6))) ∧
  (∀ (n : Fin 32) (v : BitVec 8), t.role = .sender →
   (x.toInt = 0 → t.streamOn n = true → took (.streamEnable c n v) (0x2400 + n) 0x01 1 v.toNat
    ((((t.igmpLeave n).wrB (0x2400 + n) 0x01 false).wrN (0x2400 + n) 0x20 0).withStream n fun _ => StreamRun.off)) ∧
   (x.toInt ≠ 0 → t.streamOn n = false → t.streamLimits n = true → t.budgetCause n = 0 →
    took (.streamEnable c n v) (0x2400 + n) 0x01 1 v.toNat
     ((((((t.wrB (0x2400 + n) 0x01 true).wrN (0x2400 + n) 0x20 1).wrN (0x2400 + n) 0x26
      (t.rdN (0x2400 + n) 0x06 * 1000 / t.rdN (0x2400 + n) 0x07)).withStream n fun _ => { StreamRun.off with
       reportAt := some (t.now + second)
       lastArrival := Vector.replicate 2 t.now }).igmpJoin n).ssmUnderV2 n))) ∧
  (∀ w : BitVec 64, t.isMaster = true → t.ingress.pending = none → t.quartz.frame + 4 ≤ x.toInt.toNat →
   took (.activateFrameWrite c w) 0x2500 0x03 8 w.toNat (t.activateFrameWrite x.toInt.toNat).2)

/-- R231, R232, R246, R248, R267, R268, R279, R318, R325, R337, R338, R349, R351, R377: writes of the picture's and the lamps' objects (log entries 14 and 43). -/
def Obligations.PictureAndLampObjectWrites : Prop :=
 ∀ (s : State) (c : CtxId) (x : Val),
  let t := s.touchCtx c
  let took (i : Instr) (idx sub n v : Nat) (u : State) : Prop :=
   s.passes c idx sub (leBytes n v) = some x → exec i s = .next (u.answered c idx sub 0)
  let tookData (i : Instr) (idx sub : Nat) (b : List Byte) (u : State) : Prop :=
   s.passes c idx sub b = some (.data b) → exec i s = .next (u.answered c idx sub 0)
  let f := x.toInt.toNat
  let asked := if f = 0 then t.earliest ms else f
  (∀ v : BitVec 64, t.hasTiming = true → t.video.compose.pending = none → t.passed asked = false → t.needsFifth asked = false →
   took (.commitFrame c v) 0x2880 0x02 8 v.toNat (t.setPending (some {
    frame := asked, fromChain := false, gen := none, mapGen := none, named := none, late := 0, full := false }))) ∧
  (∀ v : BitVec 8, x.toInt ≠ 0 → took (.commitAbortWrite c v) 0x2880 0x06 1 v.toNat t.abortCommit) ∧
  (∀ (k : Fin 16) (set : List Byte), set.length = 1800 → coefOk set = true → (t.configs.any fun g => g.namesSet k) = false →
   tookData (.coeffSetWrite c k set) (0x2850 + k) 0x01 set
    ((((t.wrD (0x2850 + k) 0x01 set).wrB (0x2850 + k) 0x02 true).wrN (0x2850 + k) 0x04 (field set 1796 4)).wrN (0x2850 + k) 0x05 2)) ∧
  (∀ (k : Fin 8) (b : List Byte), 3 ≤ k.1 → b.length = 16396 → field b 0 2 = 1 → field b 2 2 = 0 →
   field b 16392 4 = crc32Nat (b.take 16392) → (∀ i < 4097, byteAt b (7 + 4 * i) = 0) →
   (t.configs.any fun g => g.namesTable k) = false → tookData (.tfTableWrite c k b) (0x2920 + k) 0x01 b
    (((t.wrD (0x2920 + k) 0x01 b).wrB (0x2920 + k) 0x02 true).wrN (0x2920 + k) 0x04 2)) ∧
  (∀ v : BitVec 8, x.toInt = 2 → took (.corrSelectWrite c v) 0x2930 0x01 1 v.toNat (t.wrI 0x2930 0x01 2)) ∧
  (∀ v : BitVec 8, x.toInt ≠ 2 → t.rdN 0x2930 0x04 ≠ 1 → took (.corrSelectWrite c v) 0x2930 0x01 1 v.toNat
   (((t.wrN 0x2930 0x04 1).withColour fun y => { y with verifying := some f }).wrI 0x2930 0x01 x.toInt)) ∧
  (∀ v : BitVec 8, t.rdN 0x2930 0x04 ≠ 1 → took (.corrVerify c v) 0x2930 0x03 1 v.toNat
   ((t.wrN 0x2930 0x04 1).withColour fun y => { y with verifying := some f })) ∧
  (∀ (p : Fin 64) (v : BitVec 8) (g : Gen), x.toInt ≠ 0 → t.genNow = some g → g.portOn p = true → t.rdN (0x2A00 + p) 0x0B ≠ 1 →
   took (.enumStart c p v) (0x2A00 + p) 0x09 1 v.toNat (t.reenumerate p)) ∧
  (∀ (p : Fin 64) (v : BitVec 8), x.toInt ≠ 0 → took (.lampPortCounterClear c p v) (0x2A00 + p) 0x18 1 v.toNat
   (t.zero (0x2A00 + p) [0x20, 0x21, 0x22, 0x23, 0x24, 0x25, 0x35, 0x36, 0x38])) ∧
  (∀ v : BitVec 8, x.toInt ≠ 0 → took (.lampDiagClear c v) 0x2B00 0x17 1 v.toNat (t.wrN 0x2B00 0x0B 0)) ∧
  (∀ (p : Fin 64) (v : BitVec 8), x.toInt ≠ 0 → took (.engineCounterClear c p v) (0x2C10 + p) 0x0F 1 v.toNat
   (t.zero (0x2C10 + p) [0x04, 0x05, 0x06, 0x07, 0x08, 0x09])) ∧
  (∀ v : BitVec 8, t.rdN 0x2B00 0x11 ≠ 1 → t.rdN 0x2B00 0x01 ≠ 0 → took (.sweepStart c v) 0x2B00 0x10 1 v.toNat
   (State.wrN { t with lamps := { t.lamps with
    port := Vector.ofFn fun p : Fin 64 =>
     if f = 0xFF ∨ f = p.1 then { t.lamps.port[p] with sweeping := true, swept := [] }
     else { t.lamps.port[p] with sweeping := false, swept := [] }
    sweep := some (f, t.quartz.frame) } } 0x2B00 0x11 1)) ∧
  (∀ b : List Byte, frustumOk b = true → t.quartz.frame < field b 0 8 → tookData (.frustumWrite c b) 0x2A80 0x07 b
   (let u := t.wrD 0x2A80 0x07 b
    { u with lamps := { u.lamps with frustum := { u.lamps.frustum with
    waiting := u.lamps.frustum.waiting ++ [(field b 0 8, b)] } } })) ∧
  (∀ b : List Byte,
   let u := ((t.bump 0x2510 0x03 1).wrD 0x2510 0x01 b).withIngress fun g => { g with
    frustumFrame := t.quartz.frame, frustumUsed := frustumUses b, frustumStale := false }
   let d := leBytes 8 (field b 0 8) ++ b.drop 8
   t.controls 0 = true → t.controls 1 = true → u.single = false → frustumOk b = true → t.frustumEarliest ≤ field b 0 8 →
    tookData (.frustumIn c b) 0x2510 0x01 b ((u.broadcastWrite 0 0x2A80 0x07 d).broadcastWrite 1 0x2A80 0x07 d))

/-- R174, R191 to R196, R391, R405, R441, R453, R473, R475, R488 and R489: writes of the timebase's, the clocks', the flash's and the device's objects (log entries 14 and 35). -/
def Obligations.TimeAndPlatformObjectWrites : Prop :=
 ∀ (s : State) (c : CtxId) (x : Val),
  let t := s.touchCtx c
  let took (i : Instr) (idx sub n v : Nat) (u : State) : Prop :=
   s.passes c idx sub (leBytes n v) = some x → exec i s = .next (u.answered c idx sub 0)
  let f := x.toInt.toNat
  let mayStore := t.pointer.state = 0 ∧ t.storing = false ∧ t.windowOpen = true ∧ t.bucketHolds 1048576 = true
  (t.cooling = false → x.toInt = 1 → took (.resetWarmCommand c) 0x2000 0x10 1 1 (t.clearLatch.beginWarm 16)) ∧
  (t.cooling = false → x.toInt = 2 → took (.resetColdCommand c) 0x2000 0x10 1 2 (t.clearLatch.beginCold 3)) ∧
  (∀ group : Fin 4, mayStore → took (.settingsStore c group) 0x1010 (group + 1) 4 0x65766173
   (t.writeSettings (t.ramEntries (groupsOf (group + 1)) ++ t.oldEntries fun g => !groupsOf (group + 1) g) t.imageSchema 0)) ∧
  (∀ group : Fin 4, mayStore → took (.settingsRestore c group) 0x1011 (group + 1) 4 0x64616F6C
   (t.writeSettings (t.oldEntries fun g => g == 4 || !groupsOf (group + 1) g) t.imageSchema 1)) ∧
  (mayStore → took (.factoryReset c) 0x3000 0x05 4 0x74636166
   ((t.raise 0x8103 (det 0xFF 0)).writeSettings (t.ramEntries (· == 4)) t.imageSchema 2)) ∧
  (x.toInt = 0 → took (.errorHistoryClear c) 0x1003 0 4 0
   ((t.withControl fun k => { k with history := [] }).clearErrors (Vector.replicate 3 none))) ∧
  (∀ v : BitVec 8, x.toInt ≠ 0 → took (.clocksCounterClear c v) 0x2D00 0x15 1 v.toNat
   ((t.zero 0x2D00 [0x08, 0x09, 0x11, 0x13, 0x14]).withClocks fun y => { y with dom := y.dom.map fun d => { d with forced := false } })) ∧
  (∀ v : BitVec 8, x.toInt ≠ 0 → t.rdN 0x2D00 0x22 ≠ 1 → took (.freqStart c v) 0x2D00 0x21 1 v.toNat
   ((t.wrN 0x2D00 0x22 1).withClocks fun y => { y with freqRun := some (t.rdN 0x2D00 0x20) })) ∧
  (∀ v : BitVec 8, t.nvm.calRun = none → t.windowOpen = true → f = 1 ∧ t.isTile = true ∨ f = 3 ∧ (t.isTile = true ∨ t.isSender = true) →
   took (.calStart c v) 0x2F00 0x01 1 v.toNat ((t.wrN 0x2F00 0x04 1).withNvm fun n => { n with
    calRun := some { kind := f, port := (t.ctxPort c).getD 0, rounds := [] } })) ∧
  (∀ (v : BitVec 8) (p : Fin 2), t.nvm.calRun = none → t.windowOpen = true → f = 2 → t.isSender = true → t.ctxPort c = some p → t.leads p = true →
   took (.calStart c v) 0x2F00 0x01 1 v.toNat (((t.wrN 0x2F00 0x04 1).withNvm fun n => { n with
    calRun := some { kind := 2, port := p, rounds := [] } }).nameMarkers p 2)) ∧
  (∀ w : BitVec 32, took (.bbResetPinned c w) 0x3000 0x1B 4 w.toNat
   (t.addJob { prio := 0, purpose := .bbPinned, steps := sectorErases (bbArea 0) 16 }).2) ∧
  (∀ v : BitVec 64, took (.todSet c v) 0x2600 0x23 8 v.toNat (t.withQuartz fun q => { q with tod := some f })) ∧
  (∀ v : BitVec 64, t.isMaster = true → t.quartz.pending = none → took (.stepNow c v) 0x2600 0x24 8 v.toNat
   (t.schedule (.step (t.quartz.frame + 16) x.toInt))) ∧
  (∀ v : BitVec 8, x.toInt ≠ 0 → t.isMaster = true → t.quartz.pending = none → t.wantedDelay t.wallDmin ≠ t.quartz.set.d →
   took (.recompute c v) 0x2600 0x0F 1 v.toNat
    (t.schedule (.newSet (t.quartz.frame + 16) { t.quartz.set with d := t.wantedDelay t.wallDmin }))) ∧
  (∀ v : BitVec 64, t.isMaster = true → t.quartz.pending = none → t.quartz.frame + 16 ≤ f → t.setFails t.stagedSet = 0 →
   let dmin := t.wallDmin - t.quartz.set.periodNs + t.stagedSet.periodNs
   took (.applyFrame c v) 0x2600 0x08 8 v.toNat (t.takeDelayMode.schedule (.newSet f { t.stagedSet with
    d := if t.rdN 0x2600 0x09 = 1 then t.rdN 0x2600 0x0A
     else max t.quartz.set.d (autoDelay (t.rdN 0x2600 0x0B) dmin) })))

/-- R379 to R386, R507, R510, R512 to R514, R520, R532, R561: writes of the update's, the guards' and the access objects (log entries 14 and 75). -/
def Obligations.ServiceAndAccessObjectWrites : Prop :=
 ∀ (s : State) (c : CtxId) (x : Val),
  let t := s.touchCtx c
  let took (i : Instr) (idx sub n v : Nat) (u : State) : Prop :=
   s.passes c idx sub (leBytes n v) = some x → exec i s = .next (u.answered c idx sub 0)
  let tookData (i : Instr) (idx sub : Nat) (b : List Byte) (u : State) : Prop :=
   s.passes c idx sub b = some (.data b) → exec i s = .next (u.answered c idx sub 0)
  let n := x.toInt.toNat
  (∀ (idx : BitVec 16) (sub : BitVec 8) (b : List Byte), s.passes c idx.toNat sub.toNat b = some x →
   exec (.objectWrite c idx sub b) s =
    .next ((t.storeObject c (t.mirror idx.toNat) sub.toNat x).2.answered c idx.toNat sub.toNat
     (t.storeObject c (t.mirror idx.toNat) sub.toNat x).1)) ∧
  (∀ v : BitVec 8, x.toInt ≠ 0 → t.pointer.state = 1 → t.rdB 0x3100 0x15 = false → t.pointing = false → t.windowOpen = true →
   took (.confirm c v) 0x3100 0x14 1 v.toNat t.confirm) ∧
  (∀ v : BitVec 8, x.toInt ≠ 0 → t.pointer.state ≠ 0 → t.pointing = false → t.windowOpen = true →
   took (.rollbackNow c v) 0x3100 0x1B 1 v.toNat t.rollback) ∧
  (∀ v : BitVec 8, x.toInt ≠ 0 → t.pointer.state = 2 → t.pointing = false → t.windowOpen = true →
   took (.finalizeNow c v) 0x3100 0x1C 1 v.toNat (t.writePointer t.pointer.final 3)) ∧
  (x.toInt = 1 → t.coordinates = true → t.rdN 0x3100 0x33 = 1 → t.wuState = 0 → t.update.wu.closing = none →
   took (.wuStage c) 0x3100 0x31 1 1
    (let m := t.manifest t.pointer.slot
     let u := t.takeTag.2.withWu fun _ => { WallUpdate.idle with
      stations := t.takeTag.2.wuStations, openTag := t.takeTag.1, opens := 1, digest := manifestDigest m
      length := field m 16 4, slot := t.pointer.slot, level := (t.ctxLevel c).1, owner := (t.ctxLevel c).2 }
     ((u.wrN 0x3100 0x38 1).setWu 1).wuOpen)) ∧
  (let fr := t.rdN 0x3100 0x32
   x.toInt = 2 → t.coordinates = true → t.wuState = 2 → t.quartz.wall + 2 * second * subNs ≤ t.tFrame fr →
   t.tFrame fr ≤ t.quartz.wall + 600 * second * subNs → took (.wuArm c) 0x3100 0x31 1 2
    ((((t.withWu fun w => { w with done := [] }).setWu 3).wuCommand 6 (leBytes 8 fr)).raise 0x9302 (det 0 fr))) ∧
  (x.toInt = 3 → t.coordinates = true → t.wuState = 1 ∨ t.wuState = 2 → took (.wuAbort c) 0x3100 0x31 1 3 (t.wuFail (0, 0) 10)) ∧
  (∀ (v : BitVec 64) (p : Fin 64), n % 256 = p.1 → t.otp.ceilings[p] = none → t.otp.ceilLock = false →
   took (.ceilProgram c v) 0x3200 0x02 8 v.toNat
    (State.raise { t with otp := { t.otp with ceilings := vset t.otp.ceilings p (some {
     maxGrey := bits n 31 16, maxAvg := bits n 47 32, refresh := bits n 63 48 }) } } 0xA106 (det p.1 p.1))) ∧
  (∀ v : BitVec 8, x.toInt ≠ 0 → took (.ceilLock c v) 0x3200 0x03 1 v.toNat { t with otp := { t.otp with ceilLock := true } }) ∧
  (∀ (v : BitVec 8) (p : Fin 64), x.toInt ≠ 0 → t.isTile = true → t.rdN 0x3200 0x22 ≠ 1 → bistUnit (t.rdN 0x3200 0x20) = (2, p.1) →
   t.staging.portOn p = false → t.lamps.port[p].on = false → took (.bistStart c v) 0x3200 0x21 1 v.toNat
    { t.wrN 0x3200 0x22 1 with lamps := { t.lamps with bistRun := some (2, p.1) } }) ∧
  (∀ (a : Ctx) (b : List Byte), t.ctx? c = some a → byteAt b 0 = 1 → b.length = 1 → a.lockedUntil ≤ t.now →
   tookData (.login c b) 0x3300 0x02 b (t.withCtx c fun y => { y with level := 1, owner := false, nonce := none })) ∧
  (∀ (a : Ctx) (b : List Byte) (nonce : BitVec 128), t.ctx? c = some a → [2, 3, 4].contains (byteAt b 0).toNat = true → b.length = 33 →
   a.lockedUntil ≤ t.now → a.nonceNow t.now = some nonce →
   t.proofOk (byteAt b 0).toNat (beBytes 16 nonce.toNat ++ leBytes 4 a.id ++ leBytes 1 (byteAt b 0).toNat) (b.drop 1) = true →
   tookData (.login c b) 0x3300 0x02 b
    (t.withCtx c fun y => { y with level := (byteAt b 0).toNat, owner := false, nonce := none })) ∧
  (∀ (a : Ctx) (b : List Byte) (nonce : BitVec 128), t.ctx? c = some a → byteAt b 0 = 8 → b.length = 65 →
   a.lockedUntil ≤ t.now → a.nonceNow t.now = some nonce →
   t.proofOk 8 (beBytes 16 nonce.toNat ++ leBytes 4 a.id ++ leBytes 1 8) (b.drop 1) = true →
   tookData (.login c b) 0x3300 0x02 b (t.withCtx c fun y => { y with level := 3, owner := true, nonce := none })) ∧
  (∀ v : BitVec 8, x.toInt ≠ 0 → took (.logout c v) 0x3300 0x04 1 v.toNat (t.toDefault c)) ∧
  (∀ b : List Byte, (t.ctxLevel c).2 = true ∨ (t.rdD 0x3300 0x10).isEmpty = true ∧ 3 ≤ (t.ctxLevel c).1 →
   tookData (.ownerKeyWrite c b) 0x3300 0x10 b (t.wrD 0x3300 0x10 b)) ∧
  (∀ v : BitVec 8, (t.ctxLevel c).2 = true → x.toInt ≠ t.rdI 0x3300 0x11 → took (.ownerLockWrite c v) 0x3300 0x11 1 v.toNat
   ((t.wrI 0x3300 0x11 x.toInt).raise 0x1304 (det c.source n)))

/-- R379, R380, R389, R561: SDO requests by their class, and expedited transfers (log entries 47, 48 and 49). -/
def Obligations.SdoChannels : Prop :=
 (
  ∀ (s : State) (c : CtxId) (frame : List Byte), s.sdoOpen c frame = true → (s.xferOf c).waits = false →
   let u := s.touchCtx c
   let x := s.xferOf c
   let k := sdoClass x frame
   let cmd := (byteAt frame 0).toNat
   (k = .initiateDownload → exec (.sdoInitiateDownload c frame) s = .next (u.initiateDownload c frame)) ∧
   (k = .initiateUpload → exec (.sdoInitiateUpload c frame) s =
    .next ((u.setXfer c .idle).fetch c (frame.length == 64) (field frame 1 2) (field frame 3 1) .upload fun d s =>
     s.startUpload c (frame.length == 64) (field frame 1 2) (field frame 3 1) d)) ∧
   (k = .blockInitiate → exec (.sdoBlockDownloadInitiate c frame) s = .next (u.blockInitiate c frame)) ∧
   (k = .blockUpload → exec (.sdoBlockUploadInitiate c frame) s = .next (u.blockUpload c frame)) ∧
   (k = .abort → exec (.sdoAbortReceive c frame) s = .next ((u.setXfer c .idle).forgetGw fun y => y == c)) ∧
   (∀ idx sub buf size toggle wide d, k = .downloadSegment → u.xferOf c = .segDown idx sub buf size toggle wide →
    segmentData frame = some d → wide = (frame.length == 64) → (tileIndex idx).isSome = false →
    (bit cmd 4 ≠ toggle → exec (.sdoDownloadSegment c frame) s = .next (u.abortSdo c wide idx sub 0x05030000)) ∧
    (bit cmd 4 = toggle → (∀ n, size = some n → n < buf.length + d.length) → size ≠ none →
     exec (.sdoDownloadSegment c frame) s = .next (u.abortSdo c wide idx sub 0x06070010)) ∧
    (bit cmd 4 = toggle → (∀ n, size = some n → buf.length + d.length ≤ n) → bit cmd 0 = false →
     exec (.sdoDownloadSegment c frame) s =
      .next ((u.setXfer c (.segDown idx sub (buf ++ d) size (!toggle) wide)).answer c wide (leBytes 1 (0x20 + bitAt toggle 4)))) ∧
    (bit cmd 4 = toggle → (∀ n, size = some n → n = buf.length + d.length) → bit cmd 0 = true →
     exec (.sdoDownloadSegment c frame) s =
      .next (u.settle c wide idx sub (.download (some toggle)) (leBytes 1 (0x20 + bitAt toggle 4)) (buf ++ d)))) ∧
   (∀ idx sub rest toggle, k = .uploadSegment → u.xferOf c = .segUp idx sub rest toggle false → frame.length = 8 → bit cmd 4 = toggle →
    (7 < rest.length → exec (.sdoUploadSegment c frame) s =
     .next ((u.setXfer c (.segUp idx sub (rest.drop 7) (!toggle) false)).answer c false (leBytes 1 (bitAt toggle 4) ++ rest.take 7))) ∧
    (rest.length ≤ 7 → exec (.sdoUploadSegment c frame) s =
     .next ((u.setXfer c .idle).answer c false (leBytes 1 (bitAt toggle 4 + 1 + 2 * (7 - rest.length)) ++ rest)))) ∧
   (∀ idx sub buf size seq crc, k = .blockSegment → u.xferOf c = .blkDown idx sub buf size seq crc false false → frame.length = 8 →
    (tileIndex idx).isSome = false → cmd % 128 = seq → 1 ≤ seq → seq < 127 → bit cmd 7 = false →
    exec (.sdoBlockSegment c frame) s =
     .next (u.setXfer c (.blkDown idx sub (buf ++ (frame.drop 1).take 7) size (seq + 1) crc false false))) ∧
   (∀ idx sub buf size seq crc, k = .blockEnd → u.xferOf c = .blkDown idx sub buf size seq crc true false → frame.length = 8 →
    let d := buf.take (buf.length - bits cmd 4 2)
    (crc = true → (sdoCrc d).toNat = field frame 1 2) → (∀ n, size = some n → n = d.length) →
    exec (.sdoBlockDownloadEnd c frame) s = .next (u.settle c false idx sub .blockDownload (leBytes 1 0xA1) d))) ∧
 (
  ∀ (s : State) (c : CtxId) (idx sub : Nat) (frame : List Byte), frame.length = 8 → field frame 1 2 = idx → field frame 3 1 = sub →
   (tileIndex idx).isSome = false →
   (∀ n, (byteAt frame 0).toNat = 0x23 + 4 * (4 - n) → 1 ≤ n → n ≤ 4 →
    let u := s.setXfer c .idle
    let checks := u.initChecks c idx sub (some n)
    let w := checks.2.writeLocal c idx sub ((frame.drop 4).take n)
    (checks.1 = 0 → w.1 = 0 → s.initiateDownload c frame =
     (w.2.setXfer c .idle).answer c false (leBytes 1 0x60 ++ leBytes 2 idx ++ leBytes 1 sub)) ∧
    (checks.1 = 0 → w.1 ≠ 0 → s.initiateDownload c frame = w.2.abortSdo c false idx sub w.1) ∧
    (checks.1 ≠ 0 → s.initiateDownload c frame = checks.2.abortSdo c false idx sub checks.1)) ∧
   (∀ x, s.ctx? c = some x → s.up = true → x.xfer.waits = false → x.xfer.object = some (idx, sub) →
    exec (.sdoProtocolTimeout c) s = .next ((s.until_ (x.lastRequest + 1000000000)).abortSdo c x.xfer.wide idx sub 0x05040000)) ∧
   (s.sdoOpen c (padTo 8 (sdoHead 0x40 0x3300 0x01)) = true → s.xferOf c = .idle →
    exec (.challengeRead c) s = exec (.sdoInitiateUpload c (padTo 8 (sdoHead 0x40 0x3300 0x01))) s))

/-- R206, R242 to R245, R247, R249, R252: fills, commits and the composition of slots on a tile (log entries 18, 20, 57 and 58). -/
def Obligations.FillsCommitsAndComposition : Prop :=
 (
  ∀ s : State, s.isTile = true →
   (∀ f, s.video.store.filling = some f → ∃ t, exec .fillClose s = .next t ∧
    t.video.compose.frame = f ∧ t.video.compose.slot = none ∧ t.video.compose.slotsDone = 0 ∧
    t.video.store.filling = some (max (f + 1) s.quartz.frame) ∧
    s.tFrame (f + 1) + s.rdN 0x2700 0x03 * subNs ≤ t.quartz.wall ∧
    (s.keepsHeld = false → ∀ n : Fin 8,
     t.video.compose.shown[n] = (s.verdict ((s.genFor f).getD Gen.none_) n).shown)) ∧
   (∀ p, s.video.compose.pending = some p →
    let u := s.untilWall (s.deadline p.frame)
    let held (late : Nat) (full : Bool) : State := u.setPending (some { p with
     frame := p.frame + 1, late := if p.late = 0 then late else p.late, full := full })
    (s.feedLost = true → exec (.commitDeadline false) s = .next (held 3 p.full)) ∧
    (s.feedLost = false → s.repeatOnly = true → exec (.commitDeadline false) s = .next (held 4 p.full)) ∧
    (s.feedLost = false → s.repeatOnly = false → p.full = false → (p.fromChain && u.needsFifth p.frame) = false →
     (∃ t g, exec (.commitDeadline false) s = .next t ∧ t.video.compose.pending = none ∧
      t.video.compose.gens = g :: s.video.compose.gens ∧ g.frame = p.frame) ∧
     ∃ t, exec (.commitDeadline true) s = .next t ∧ t.video.compose.pending = none ∧ t.tile.pixelFault = true ∧
      t.video.compose.gens = s.video.compose.gens))) ∧
 (
  ∀ (s : State) (k : Fin 4), s.isTile = true →
   (∀ (d : Damage) (src : SlotSource), d.generations = false → s.repeatOnly = false → s.video.compose.slot = none → s.video.compose.slotsDone = k.1 →
    k.1 < (s.setFor s.video.compose.frame).s → s.video.store.filling ≠ none → s.slotSource k = some src →
    ∃ (t : State) (b : Bank), exec (.composeSlot d) s = .next t ∧ t.video.compose.slot = some k.1 ∧
     (t.video.compose.bank[s.writeSet k * 4 + k.1]?).getD none = some b ∧ b.writing = true ∧ b.frame = s.video.compose.frame ∧
     ∀ p : Fin 64, ∀ v ∈ b.codes[p], v ≤ greyCeil (s.otp.shadow[p]).maxGrey (s.composeGen.grey p)) ∧
   (∀ d : Damage, s.repeatOnly = false → s.video.compose.slot = none → s.video.compose.slotsDone = k.1 →
    k.1 < (s.setFor s.video.compose.frame).s → s.video.store.filling ≠ none →
    (d.generations = true → ∃ t, exec (.composeSlot d) s = .next t ∧ t.tile.pixelFault = true ∧
     t.video.compose.slot = none) ∧
    (d.generations = false → s.slotSource k = none → ∃ t, exec (.composeSlot d) s = .next t ∧
     t.video.compose = { s.video.compose with slotsDone := k.1 + 1 })) ∧
   (∀ b, s.video.compose.slot = some k.1 → (s.video.compose.bank[s.writeSet k * 4 + k.1]?).getD none = some b →
    ∃ t, exec .composeComplete s = .next t ∧ t.video.compose.slot = none ∧
     t.video.compose.slotsDone = s.video.compose.slotsDone + 1 ∧ t.video.compose.last[k] = some (s.writeSet k) ∧
     (t.video.compose.bank[s.writeSet k * 4 + k.1]?).getD none = some { b with writing := false } ∧
     t.beat.replayUntil = none) ∧
   (s.video.compose.slot = some k.1 → ∃ t, exec .composeOverrun s = .next t ∧ t.video.compose.slot = none ∧
    t.video.compose.slotsDone = s.video.compose.slotsDone + 1 ∧ t.video.compose.lastOver[k] = some s.video.compose.frame ∧
    t.video.compose.last = s.video.compose.last ∧ t.now = s.now + 30000))

/-- R366, R367: what a port engine takes from its port (log entry 16). -/
def Obligations.EngineReturnsAndDiagnostics : Prop :=
 ∀ (s : State) (p : Fin 64) (rd ra rb : Fin 16),
  let e := s.lamps.engine[p]
  let q := s.lamps.port[p]
  let v := (e.reg ra).toNat
  let w := (e.reg rb).toNat
  let takes (word : Word) (c : Instr) (u : State) : Prop := s.fetches p word → exec c s = .next u
  let own (word : Word) (c : Instr) (uses : List (Fin 16)) (f : Engine → Engine) : Prop :=
   takes word c (s.withEngine p fun x => x.run1 uses 1 f)
  own (wordR 0x36 rd ra 0 0) (.peSlen p rd ra 0 0) [ra] (fun x =>
   x.setReg rd (BitVec.ofNat 32 (((q.sched.find? fun c => c.pos == v).map fun c => c.body.length).getD 0))) ∧
  (e.returns = [] → own (wordR 0x38 rd 0 0 0) (.peRxw p rd 0 0 0) [] fun x => x.setReg rd 0xFFFFFFFF) ∧
  (∀ r rest, e.returns = r :: rest → own (wordR 0x38 rd 0 0 0) (.peRxw p rd 0 0 0) [] fun x =>
   { x.setReg rd ((r.words[r.read]?).getD 0xFFFFFFFF) with
    returns := { r with read := min r.words.length (r.read + 1) } :: rest }) ∧
  own (wordR 0x39 0 0 0 0) (.peRxd p 0 0 0 0) [] (fun x => { x with returns := x.returns.drop 1, overflow := false }) ∧
  (q.probes = [] → own (wordR 0x3C rd 0 0 0) (.pePrb p rd 0 0 0) [] fun x => x.setReg rd 0) ∧
  (∀ r rest, q.probes = r :: rest → takes (wordR 0x3C rd 0 0 0) (.pePrb p rd 0 0 0) (s.engineDoes p [] 1 fun s =>
   (s.setReg p rd (BitVec.ofNat 32 (r.pos % 64 + r.line % 32 * 256 + r.ch % 64 * 65536 + r.slot % 4 * 2 ^ 22 + r.tag % 16 * 2 ^ 24
    + 2 ^ 31))).withPort p fun q => { q with
     probes := rest, probed := (r :: q.probed.filter fun x => decide (r.frame ≤ x.frame + 4)).take 96 })) ∧
  (q.alerts.contains (bits v 5 0) = false → takes (wordR 0x3A 0 ra rb 0) (.peVerd p 0 ra rb 0) (s.engineDoes p [ra, rb] 2 fun s =>
   let g := (s.genNow).getD s.staging
   let pos := bits v 5 0
   (List.range 8).foldl (fun s i =>
    let x := bits w (2 * i + 1) (2 * i)
    let ch := bits v 21 16 + i
    match if pos ≠ 0 ∧ pos ≠ 63 ∧ ch < 64 then g.lampAt p pos ch (bits v 12 8) else none with
    | some n =>
     if x = 0 then s else s.setVerdict p pos ch n (BitVec.ofNat 8 ((s.lamps.port[p].byte n).toNat % 64 + x * 64))
    | none => s) s)) ∧
  (∀ (f : Nat) (k : Fin 4) (c : Sched), ((e.refs.take 2).find? fun r => r.1 % 16 == bits v 9 6 && r.2 == bits v 11 10) = some (f, k.1) →
   ((q.sched ++ q.schedOld).find? fun x => x.pos == bits v 5 0 && x.frame == f && x.slot == k.1 && x.accepted) = some c →
   q.alerts.contains (bits v 5 0) = false → takes (wordR 0x3B 0 ra 0 0) (.peDiagc p 0 ra 0 0) (s.engineDoes p [ra] 1 fun s =>
    let g := (s.genFor f).getD s.staging
    (List.range (q.chans (bits v 5 0))).foldl (fun s ch =>
     (List.range (g.rdN (0x2A00 + p) 0x05)).foldl (fun s line =>
      match g.lampAt p (bits v 5 0) ch line with
      | none => s
      | some n =>
       let need := 8 * q.reg (bits v 5 0) 8
       let code := s.codeOf g p f k (some n)
       if decide (need ≤ pulseOf c.body ch (q.chans (bits v 5 0)) code) ||
         (q.probed.any fun r => r.lamp == n && r.pos == bits v 5 0 && r.slot == k.1 && r.frame == f) &&
          decide (need ≤ probePulse c.body ch code need) then
        s.markTested p (bits v 5 0) ch n
       else s) s) s))

/-- R427: a semaphore is acquired by reading it and released by its holder's write. -/
def Obligations.SemaphoreReadAndWrite : Prop :=
 ∀ (s : State) (m : BitVec 7) (n : Fin 32), isMaster m = true →
  let x := s.hostPort.sem[n]
  let answer (holder last : BitVec 7) (busy : Nat) : Out :=
   .masterRead m (BitVec.ofNat 32 (holder.toNat + last.toNat * 2 ^ 8 + busy * 2 ^ 31))
  (x.held = false → ∃ t, exec (.semRead [m] n) s = .next t ∧ t.sent.getLast? = some (answer m m 0) ∧
   t.hostPort = { s.hostPort with sem := vset s.hostPort.sem n { holder := m, lastWinner := m, held := true } }) ∧
  (x.held = true → x.holder = m → exec (.semRead [m] n) s = .next (s.emit (answer m x.lastWinner 0))) ∧
  (x.held = true → x.holder ≠ m → exec (.semRead [m] n) s = .next (s.emit (answer x.holder x.lastWinner 1))) ∧
  (x.held = true → x.holder = m → ∃ t, exec (.semWrite m n) s = .next t ∧
   t.hostPort = { s.hostPort with sem := vset s.hostPort.sem n { x with held := false } }) ∧
  ((x.held = true → x.holder ≠ m) → ∃ t, exec (.semWrite m n) s = .next t ∧ t.hostPort.sem = s.hostPort.sem ∧
   t.hostPort.violations = min 0xFFFFFFFF (s.hostPort.violations + 1)) ∧
  (∀ (p : Fin 64) (rd : Fin 16) (imm : BitVec 18), imm.toNat = n.1 →
   (s.fetches p (wordI 0x2F rd 0 imm) → exec (.peSema p rd 0 imm) s = .next (s.engineDoes p [] 6 fun s =>
    (s.semRead (engineMaster p) n).2.setReg p rd (s.semRead (engineMaster p) n).1)) ∧
   (s.fetches p (wordI 0x3D 0 0 imm) →
    exec (.peSemr p 0 0 imm) s = .next (s.engineDoes p [] 6 fun s => s.semWrite (engineMaster p) n))) ∧
  (let keeper := (0x40 ≤ m.toNat ∧ m.toNat ≤ 0x43) ∨ m = 0x49
   ∀ v : Word, v.toNat % 32 = n.1 →
   (keeper → v.getLsbD 8 = true → x.held = true → ∃ t, exec (.semForce m v) s = .next t ∧
    t.hostPort.sem = vset s.hostPort.sem n { x with held := false }) ∧
   (keeper → v.getLsbD 8 = false → exec (.semForce m v) s = .next s) ∧
   (¬ keeper → ∃ t, exec (.semForce m v) s = .next t ∧ t.hostPort.sem = s.hostPort.sem)) ∧
  (∀ v : Word, (s.hpWrite 0x3084 v).hostPort = { s.hostPort with orphan := s.hostPort.orphan &&& ~~~v }) ∧
  State.reset.hostPort.sem[n] = { holder := 0, lastWinner := 0x4A, held := false } ∧ State.reset.hostPort.orphan = 0

/-- R561: the first check of a write that fails gives its abort code and nothing else changes (log entry 14). -/
def Obligations.WriteChecksInOrder : Prop :=
 ∀ (s : State) (c : CtxId) (idx : BitVec 16) (sub : BitVec 8) (b : List Byte), s.up = true → tileIndex idx.toNat = none →
  let t := s.touchCtx c
  let x := t.mirror idx.toNat
  let gives (e : Nat) : Prop := exec (.objectWrite c idx sub b) s = .next (s.onlyAnswers c (.written c idx.toNat sub.toNat e))
  (odIndexExists t.role x = false → gives 0x06020000) ∧
  (odIndexExists t.role x = true → odFind t.role x sub.toNat = none →
   gives (if sub = 0 ∧ odHeld t.role x = false then 0x06010002 else 0x06090011)) ∧
  (∀ r, odIndexExists t.role x = true → odFind t.role x sub.toNat = some r →
   let locked := t.rdB 0x3300 0x11 && r.lvl != .operator && !(t.ctxLevel c).2
   (r.role.heldDown t.role = true → gives 0x06090011) ∧
   (r.role.heldDown t.role = false →
    (r.fixed t.role x = true → gives 0x06010002) ∧
    (r.fixed t.role x = false →
     (t.levelOk c r x sub.toNat = false → gives 0x06010000) ∧
     (t.levelOk c r x sub.toNat = true →
      (locked = true → gives 0x08000021) ∧
      (locked = false →
       (r.ty.fits b.length = false → x < 0x2850 ∨ 0x2928 ≤ x → gives 0x06070010) ∧
       (r.ty.fits b.length = true → r.ty.isData = false → r.rng.ok (r.ty.value b).toInt = false → gives 0x06090030))))))

/-- R420: a write of a channel by a master that is not its party changes nothing but the counts. -/
def Obligations.MailboxViolations : Prop :=
 ∀ (s : State) (m : BitVec 7) (c : Fin 128), isMaster m = true →
  let b := s.hostPort.bind[c]
  let refused (i : Instr) : Prop := ∃ t, exec i s = .next t ∧ t.hostPort = { s.hostPort with
   violations := min 0xFFFFFFFF (s.hostPort.violations + 1)
   err := if m = 0x48 then s.hostPort.err ||| 16#5 else s.hostPort.err }
  (b.valid = true → b.sender ≠ m → refused (.mbPost m c) ∧ ∀ (w : Fin 4) (v : Word), refused (.mbMsgWrite m c w v)) ∧
  (b.valid = true → b.receiver ≠ m → refused (.mbTake m c) ∧ refused (.mbFlush m c) ∧
   ∀ code : BitVec 16, refused (.returnCodeWrite m c code)) ∧
  (b.valid = false → exec (.mbPost m c) s = .next s ∧ exec (.mbTake m c) s = .next s ∧ exec (.mbFlush m c) s = .next s ∧
   (∀ (w : Fin 4) (v : Word), exec (.mbMsgWrite m c w v) s = .next s) ∧
   (∀ code : BitVec 16, exec (.returnCodeWrite m c code) s = .next s) ∧
   ∀ v : Word, exec (.mbStatusClear m c v) s = .next s)

/-- R132: the window over SEQ accepts a value once. -/
def Obligations.SeqWindowAcceptsOnce : Prop :=
 (∀ (w : Option SeqWindow) (v : BitVec 32) (w' : SeqWindow), judgeSeq w v = .accept w' → judgeSeq (some w') v = .duplicate) ∧
 (∀ v : BitVec 32, judgeSeq none v = .accept { high := v, seen := 1 }) ∧
 ∀ (w : SeqWindow) (v : BitVec 32), 4096 ≤ (w.high - v).toNat → ((v - w.high).toNat = 0 ∨ 2 ^ 31 ≤ (v - w.high).toNat) →
  judgeSeq (some w) v = .stale
end

