-- ==== Sys2Proof/Laws/Engine.lean ====
section
/-! SUPPORT. What a port engine's instruction does, once for each shape: an illegal word, an instruction that changes the
engine alone, and a jump. -/

namespace Sys2Proof.Machine

open Host

theorem withEngine_withEngine (s : State) (p : Fin 64) (f g : Engine → Engine) :
    (s.withEngine p f).withEngine p g = s.withEngine p (fun e => g (f e)) := by
  simp [State.withEngine, vmod, vset]

@[simp] theorem withEngine_engine (s : State) (p : Fin 64) (f : Engine → Engine) :
    (s.withEngine p f).lamps.engine[p.1] = f s.lamps.engine[p.1] := by
  simp [State.withEngine, vmod, vset]

theorem withEngine_congr (s : State) (p : Fin 64) (f g : Engine → Engine) (h : f s.lamps.engine[p] = g s.lamps.engine[p]) :
    s.withEngine p f = s.withEngine p g := by
  simp only [State.withEngine, vmod, h]

@[simp] theorem setReg_run (e : Engine) (r : Fin 16) (v : Word) : (e.setReg r v).run = e.run := by
  unfold Engine.setReg; split <;> rfl

@[simp] theorem setReg_codeWords (e : Engine) (r : Fin 16) (v : Word) : (e.setReg r v).codeWords = e.codeWords := by
  unfold Engine.setReg; split <;> rfl

@[simp] theorem setReg_cycles (e : Engine) (r : Fin 16) (v : Word) : (e.setReg r v).cycles = e.cycles := by
  unfold Engine.setReg; split <;> rfl

@[simp] theorem setReg_wait (e : Engine) (r : Fin 16) (v : Word) : (e.setReg r v).wait = e.wait := by
  unfold Engine.setReg; split <;> rfl

@[simp] theorem setReg_stall (e : Engine) (r : Fin 16) (v : Word) : (e.setReg r v).stall = e.stall := by
  unfold Engine.setReg; split <;> rfl

theorem setReg_update (e : Engine) (r : Fin 16) (v : Word) (pc c : Nat) (sl : Option (Fin 16)) :
    ({ e with pc := pc, cycles := c, slow := sl } : Engine).setReg r v = { e.setReg r v with pc := pc, cycles := c, slow := sl } := by
  unfold Engine.setReg; split <;> rfl

theorem setReg_reg (e : Engine) (r : Fin 16) (v : Word) (h : r ≠ 0) : (e.setReg r v).reg r = v := by
  simp [Engine.setReg, Engine.reg, h, vset]

/-- The opcode of an R-form word. -/
@[simp] theorem wordR_op (op : Nat) (rd ra rb : Fin 16) (rsv : BitVec 14) (h : op < 64) :
    bits (wordR op rd ra rb rsv).toNat 31 26 = op := by
  have h1 := rd.2
  have h2 := ra.2
  have h3 := rb.2
  have h4 := rsv.isLt
  simp only [wordR, bits, BitVec.toNat_ofNat]
  omega

/-- The opcode of an I-form or B-form word. -/
@[simp] theorem wordI_op (op : Nat) (a b : Fin 16) (imm : BitVec 18) (h : op < 64) : bits (wordI op a b imm).toNat 31 26 = op := by
  have h1 := a.2
  have h2 := b.2
  have h4 := imm.isLt
  simp only [wordI, bits, BitVec.toNat_ofNat]
  omega

/-- A legal instruction whose word the engine takes. -/
theorem onEngine_legal {s : State} {p : Fin 64} {w : Word} (h : s.fetches p w) (ho : opAssigned (bits w.toNat 31 26) = true)
    (uses : List (Fin 16)) (cycles : Nat) (act : State → State) :
    s.onEngine p w true uses cycles act = .next (s.engineDoes p uses cycles act) := by
  obtain ⟨⟨h1, h2, h3, h4⟩, rfl, h6⟩ := h
  unfold State.onEngine
  simp only [h1, h2, h3, h4, h6, ho, State.engineDoes, State.engineSpent, Engine.waitFor, ne_eq, not_true_eq_false, if_false]
  rfl

/-- A word with a field that must be zero faults the engine with cause 1. -/
theorem onEngine_illegal {s : State} {p : Fin 64} {w : Word} (h : s.fetches p w) (uses : List (Fin 16)) (cycles : Nat)
    (act : State → State) : s.onEngine p w false uses cycles act = .next (s.engineFault p 1) := by
  obtain ⟨⟨h1, h2, h3, h4⟩, rfl, h6⟩ := h
  unfold State.onEngine
  simp only [h1, h2, h3, h4, h6, ne_eq, not_true_eq_false, if_false]
  cases opAssigned (bits s.lamps.engine[p].fetch.toNat 31 26) <;> rfl

/-- The effect counts only on the state whose cycles are counted. -/
theorem onEngine_on_spent {s : State} {p : Fin 64} {w : Word} (h : s.fetches p w) (ho : opAssigned (bits w.toNat 31 26) = true)
    (uses : List (Fin 16)) (cycles : Nat) (act act' : State → State)
    (ha : act (s.engineSpent p uses cycles) = act' (s.engineSpent p uses cycles)) :
    s.onEngine p w true uses cycles act = .next (s.engineDoes p uses cycles act') := by
  rw [onEngine_legal h ho, State.engineDoes, State.engineDoes, ha]

@[simp] theorem engineSpent_port (s : State) (p : Fin 64) (uses : List (Fin 16)) (cycles : Nat) :
    (s.engineSpent p uses cycles).lamps.port = s.lamps.port := rfl

@[simp] theorem engineSpent_returns (s : State) (p : Fin 64) (uses : List (Fin 16)) (cycles : Nat) :
    (s.engineSpent p uses cycles).lamps.engine[p.1].returns = s.lamps.engine[p.1].returns := by
  simp [State.engineSpent]

@[simp] theorem engineSpent_refs (s : State) (p : Fin 64) (uses : List (Fin 16)) (cycles : Nat) :
    (s.engineSpent p uses cycles).lamps.engine[p.1].refs = s.lamps.engine[p.1].refs := by
  simp [State.engineSpent]

theorem engineDoes_own {s : State} {p : Fin 64} (h : s.engineRuns p) (uses : List (Fin 16)) (cycles : Nat) (f : Engine → Engine)
    (hf : ∀ e : Engine, (f e).run = e.run ∧ (f e).wait = e.wait ∧ (f e).stall = e.stall) :
    s.engineDoes p uses cycles (fun s => s.withEngine p f) = s.withEngine p fun e => e.run1 uses cycles f := by
  obtain ⟨h1, h2, h3, h4⟩ := h
  simp only [State.engineDoes, State.engineSpent, withEngine_withEngine]
  apply withEngine_congr
  refine (if_pos ?_).trans rfl
  obtain ⟨f1, f2, f3⟩ := hf { s.lamps.engine[p] with
    slow := none, cycles := s.lamps.engine[p].cycles + cycles + s.lamps.engine[p].waitFor uses }
  exact ⟨f1.trans h2, f2.trans h3, f3.trans h4⟩

/-- An instruction that changes the engine alone. -/
theorem onEngine_own {s : State} {p : Fin 64} {w : Word} (h : s.fetches p w) (ho : opAssigned (bits w.toNat 31 26) = true)
    (uses : List (Fin 16)) (cycles : Nat) (f : Engine → Engine)
    (hf : ∀ e : Engine, (f e).run = e.run ∧ (f e).wait = e.wait ∧ (f e).stall = e.stall) :
    s.onEngine p w true uses cycles (fun s => s.withEngine p f) = .next (s.withEngine p fun e => e.run1 uses cycles f) := by
  rw [onEngine_legal h ho, engineDoes_own h.1 _ _ _ hf]

theorem aluR_quick {s : State} {p : Fin 64} {op : Nat} (rd ra rb : Fin 16) (h : s.fetches p (wordR op rd ra rb 0)) (ho : op < 64)
    (ha : opAssigned op = true) (f : Word → Word → Word) :
    s.aluR p op rd ra rb 0 1 f = .next (s.withEngine p fun e => e.run1 [ra, rb] 1 fun e =>
      e.setReg rd (f (s.lamps.engine[p].reg ra) (s.lamps.engine[p].reg rb))) :=
  onEngine_own h (by rw [wordR_op _ _ _ _ _ ho, ha]) [ra, rb] 1 _ (by simp)

theorem aluR_slow {s : State} {p : Fin 64} {op : Nat} (rd ra rb : Fin 16) (h : s.fetches p (wordR op rd ra rb 0)) (ho : op < 64)
    (ha : opAssigned op = true) (f : Word → Word → Word) :
    s.aluR p op rd ra rb 0 2 f = .next (s.withEngine p fun e => e.run1 [ra, rb] 2 fun e =>
      { e.setReg rd (f (s.lamps.engine[p].reg ra) (s.lamps.engine[p].reg rb)) with slow := some rd }) := by
  refine Eq.trans ?_ (onEngine_own h (by rw [wordR_op _ _ _ _ _ ho, ha]) [ra, rb] 2 _ ?_)
  · simp only [State.aluR, State.setReg, withEngine_withEngine, beq_self_eq_true, if_true]
  · simp

theorem aluI_quick {s : State} {p : Fin 64} {op : Nat} (rd ra : Fin 16) (imm : BitVec 18) (h : s.fetches p (wordI op rd ra imm))
    (ho : op < 64) (ha : opAssigned op = true) (f : Word → Word) :
    s.aluI p op rd ra imm true f = .next (s.withEngine p fun e => e.run1 [ra] 1 fun e => e.setReg rd (f (s.lamps.engine[p].reg ra))) :=
  onEngine_own h (by rw [wordI_op _ _ _ _ ho, ha]) [ra] 1 _ (by simp)

/-- A jump inside the loaded code. -/
theorem jumpTo_inside {s : State} {p : Fin 64} {t : Nat} (h : t < s.lamps.engine[p].codeWords) :
    s.jumpTo p t = s.withEngine p fun e => { e with pc := (t + 2047) % 2048, cycles := e.cycles + 1 } := by
  unfold State.jumpTo
  exact if_neg (by omega)

/-- An instruction that changes the engine alone and then jumps inside the loaded code. -/
theorem onEngine_jump {s : State} {p : Fin 64} {w : Word} (h : s.fetches p w) (ho : opAssigned (bits w.toNat 31 26) = true)
    (uses : List (Fin 16)) (f : Engine → Engine) (t : Nat)
    (hf : ∀ e : Engine, (f e).run = e.run ∧ (f e).wait = e.wait ∧ (f e).stall = e.stall) (hc : ∀ e : Engine, (f e).codeWords = e.codeWords)
    (hu : ∀ (e : Engine) (c : Nat), f { e with cycles := c } = { f e with cycles := c })
    (ht : t < s.lamps.engine[p].codeWords) (h2 : t < 2048) :
    s.onEngine p w true uses 1 (fun s => (s.withEngine p f).jumpTo p t) =
      .next (s.withEngine p fun e => { e.run1 uses 2 f with pc := t }) := by
  rw [onEngine_legal h ho]
  obtain ⟨⟨h1, hr, h3, h4⟩, -, -⟩ := h
  have hj : ((t + 2047) % 2048 + 1) % 2048 = t := by omega
  simp only [State.engineDoes, State.engineSpent]
  rw [jumpTo_inside]
  · simp only [withEngine_withEngine]
    refine congrArg Outcome.next (withEngine_congr _ _ _ _ ?_)
    refine (if_pos ?_).trans ?_
    · obtain ⟨f1, f2, f3⟩ := hf { s.lamps.engine[p] with
        slow := none, cycles := s.lamps.engine[p].cycles + 1 + s.lamps.engine[p].waitFor uses }
      exact And.intro (f1.trans hr) (And.intro (f2.trans h3) (f3.trans h4))
    · simp only [Engine.run1, hj]
      have e1 := hu { s.lamps.engine[p] with slow := none } (s.lamps.engine[p].cycles + 1 + s.lamps.engine[p].waitFor uses)
      have e2 := hu { s.lamps.engine[p] with slow := none } (s.lamps.engine[p].cycles + 2 + s.lamps.engine[p].waitFor uses)
      dsimp only at e1 e2
      rw [e1, e2]
      have : s.lamps.engine[p].cycles + 1 + s.lamps.engine[p].waitFor uses + 1 =
        s.lamps.engine[p].cycles + 2 + s.lamps.engine[p].waitFor uses := by omega
      rw [this]
  · rw [withEngine_withEngine]
    simp only [Fin.getElem_fin, withEngine_engine, hc]
    exact ht

theorem withPort_congr (s : State) (p : Fin 64) (f g : LampPort → LampPort) (h : f s.lamps.port[p] = g s.lamps.port[p]) :
    s.withPort p f = s.withPort p g := by
  simp only [State.withPort, vmod, h]

@[simp] theorem withEngine_port (s : State) (p : Fin 64) (f : Engine → Engine) : (s.withEngine p f).lamps.port = s.lamps.port := rfl

@[simp] theorem withPort_engine (s : State) (p : Fin 64) (f : LampPort → LampPort) :
    (s.withPort p f).lamps.engine = s.lamps.engine := rfl

theorem withEngine_id (s : State) (p : Fin 64) : s.withEngine p id = s := by
  simp [State.withEngine, vmod, vset]

/-- A branch that is not taken. -/
theorem branch_not {s : State} {p : Fin 64} {op : Nat} (ra rb : Fin 16) (off : BitVec 18) (h : s.fetches p (wordI op ra rb off))
    (ho : op < 64) (ha : opAssigned op = true) (c : Word → Word → Bool)
    (hc : c (s.lamps.engine[p].reg ra) (s.lamps.engine[p].reg rb) = false) :
    s.branch p op ra rb off c = .next (s.withEngine p fun e => e.run1 [ra, rb] 1 id) := by
  unfold State.branch
  rw [← onEngine_own h (by rw [wordI_op _ _ _ _ ho, ha]) [ra, rb] 1 id (fun _ => ⟨rfl, rfl, rfl⟩)]
  exact congrArg (s.onEngine p (wordI op ra rb off) true [ra, rb] 1) (funext fun t => by rw [withEngine_id, hc]; rfl)

/-- A branch that is taken, inside the loaded code. -/
theorem branch_taken {s : State} {p : Fin 64} {op : Nat} (ra rb : Fin 16) (off : BitVec 18) (h : s.fetches p (wordI op ra rb off))
    (ho : op < 64) (ha : opAssigned op = true) (c : Word → Word → Bool)
    (hc : c (s.lamps.engine[p].reg ra) (s.lamps.engine[p].reg rb) = true)
    (ht : s.lamps.engine[p].target off < s.lamps.engine[p].codeWords) (h2 : s.lamps.engine[p].target off < 2048) :
    s.branch p op ra rb off c = .next (s.withEngine p fun e => { e.run1 [ra, rb] 2 id with pc := s.lamps.engine[p].target off }) := by
  unfold State.branch
  rw [← onEngine_jump h (by rw [wordI_op _ _ _ _ ho, ha]) [ra, rb] id (s.lamps.engine[p].target off) (fun _ => ⟨rfl, rfl, rfl⟩) (fun _ => rfl) (fun _ _ => rfl) ht h2]
  exact congrArg (s.onEngine p (wordI op ra rb off) true [ra, rb] 1) (funext fun t => by rw [withEngine_id, hc]; rfl)

end Sys2Proof.Machine
end

