-- ==== Sys2Proof/Laws/Exec.lean ====
section
/-! SUPPORT. What `exec` is for each command: its meaning. -/

namespace Sys2Proof.Machine

@[simp] theorem exec_powerOn (s : State) :
    exec .powerOn s = execPowerOn s := rfl
@[simp] theorem exec_resetNAssert (s : State) :
    exec .resetNAssert s = execResetNAssert s := rfl
@[simp] theorem exec_supplyDrop (s : State) :
    exec .supplyDrop s = execSupplyDrop s := rfl
@[simp] theorem exec_coldReset (straps : BitVec 4) (fitted flashMib : Nat) (s : State) :
    exec (.coldReset straps fitted flashMib) s = execColdReset straps fitted flashMib s := rfl
@[simp] theorem exec_memoryBistComplete (repairs : List (Nat × Nat)) (faults : List BistFault) (s : State) :
    exec (.memoryBistComplete repairs faults) s = execMemoryBistComplete repairs faults s := rfl
@[simp] theorem exec_imageLoadComplete (elapsed : Nat) (s : State) :
    exec (.imageLoadComplete elapsed) s = execImageLoadComplete elapsed s := rfl
@[simp] theorem exec_warmReset (imageOk : Bool) (elapsed : Nat) (s : State) :
    exec (.warmReset imageOk elapsed) s = execWarmReset imageOk elapsed s := rfl
@[simp] theorem exec_resetWarmCommand (c : CtxId) (s : State) :
    exec (.resetWarmCommand c) s = execResetWarmCommand c s := rfl
@[simp] theorem exec_resetColdCommand (c : CtxId) (s : State) :
    exec (.resetColdCommand c) s = execResetColdCommand c s := rfl
@[simp] theorem exec_objectWrite (c : CtxId) (idx : BitVec 16) (sub : BitVec 8) (value : List Byte) (s : State) :
    exec (.objectWrite c idx sub value) s = execObjectWrite c idx sub value s := rfl
@[simp] theorem exec_sdoInitiateDownload (c : CtxId) (frame : List Byte) (s : State) :
    exec (.sdoInitiateDownload c frame) s = execSdoInitiateDownload c frame s := rfl
@[simp] theorem exec_sdoDownloadSegment (c : CtxId) (frame : List Byte) (s : State) :
    exec (.sdoDownloadSegment c frame) s = execSdoDownloadSegment c frame s := rfl
@[simp] theorem exec_sdoInitiateUpload (c : CtxId) (frame : List Byte) (s : State) :
    exec (.sdoInitiateUpload c frame) s = execSdoInitiateUpload c frame s := rfl
@[simp] theorem exec_sdoUploadSegment (c : CtxId) (frame : List Byte) (s : State) :
    exec (.sdoUploadSegment c frame) s = execSdoUploadSegment c frame s := rfl
@[simp] theorem exec_sdoBlockDownloadInitiate (c : CtxId) (frame : List Byte) (s : State) :
    exec (.sdoBlockDownloadInitiate c frame) s = execSdoBlockDownloadInitiate c frame s := rfl
@[simp] theorem exec_sdoBlockSegment (c : CtxId) (frame : List Byte) (s : State) :
    exec (.sdoBlockSegment c frame) s = execSdoBlockSegment c frame s := rfl
@[simp] theorem exec_sdoBlockDownloadEnd (c : CtxId) (frame : List Byte) (s : State) :
    exec (.sdoBlockDownloadEnd c frame) s = execSdoBlockDownloadEnd c frame s := rfl
@[simp] theorem exec_sdoBlockUploadInitiate (c : CtxId) (frame : List Byte) (s : State) :
    exec (.sdoBlockUploadInitiate c frame) s = execSdoBlockUploadInitiate c frame s := rfl
@[simp] theorem exec_sdoAbortReceive (c : CtxId) (frame : List Byte) (s : State) :
    exec (.sdoAbortReceive c frame) s = execSdoAbortReceive c frame s := rfl
@[simp] theorem exec_sdoProtocolTimeout (c : CtxId) (s : State) :
    exec (.sdoProtocolTimeout c) s = execSdoProtocolTimeout c s := rfl
@[simp] theorem exec_udpDatagramReceive (addr port : Nat) (data : List Byte) (s : State) :
    exec (.udpDatagramReceive addr port data) s = execUdpDatagramReceive addr port data s := rfl
@[simp] theorem exec_udpAssociationIdle (ch : Fin 8) (s : State) :
    exec (.udpAssociationIdle ch) s = execUdpAssociationIdle ch s := rfl
@[simp] theorem exec_challengeRead (c : CtxId) (s : State) :
    exec (.challengeRead c) s = execChallengeRead c s := rfl
@[simp] theorem exec_challengeExpiry (c : CtxId) (s : State) :
    exec (.challengeExpiry c) s = execChallengeExpiry c s := rfl
@[simp] theorem exec_login (c : CtxId) (message : List Byte) (s : State) :
    exec (.login c message) s = execLogin c message s := rfl
@[simp] theorem exec_loginLockoutEnd (c : CtxId) (s : State) :
    exec (.loginLockoutEnd c) s = execLoginLockoutEnd c s := rfl
@[simp] theorem exec_logout (c : CtxId) (v : BitVec 8) (s : State) :
    exec (.logout c v) s = execLogout c v s := rfl
@[simp] theorem exec_idleLogoutExpiry (c : CtxId) (s : State) :
    exec (.idleLogoutExpiry c) s = execIdleLogoutExpiry c s := rfl
@[simp] theorem exec_ownerKeyWrite (c : CtxId) (keyBytes : List Byte) (s : State) :
    exec (.ownerKeyWrite c keyBytes) s = execOwnerKeyWrite c keyBytes s := rfl
@[simp] theorem exec_ownerLockWrite (c : CtxId) (v : BitVec 8) (s : State) :
    exec (.ownerLockWrite c v) s = execOwnerLockWrite c v s := rfl
@[simp] theorem exec_nmtStart (s : State) :
    exec .nmtStart s = execNmtStart s := rfl
@[simp] theorem exec_nmtStop (s : State) :
    exec .nmtStop s = execNmtStop s := rfl
@[simp] theorem exec_nmtEnterPreOperational (s : State) :
    exec .nmtEnterPreOperational s = execNmtEnterPreOperational s := rfl
@[simp] theorem exec_nmtResetNode (s : State) :
    exec .nmtResetNode s = execNmtResetNode s := rfl
@[simp] theorem exec_nmtResetCommunication (s : State) :
    exec .nmtResetCommunication s = execNmtResetCommunication s := rfl
@[simp] theorem exec_syncReceive (s : State) :
    exec .syncReceive s = execSyncReceive s := rfl
@[simp] theorem exec_rpdoReceive (n : Fin 4) (udp : Bool) (data : List Byte) (s : State) :
    exec (.rpdoReceive n udp data) s = execRpdoReceive n udp data s := rfl
@[simp] theorem exec_tpdoEventTimer (n : Fin 4) (s : State) :
    exec (.tpdoEventTimer n) s = execTpdoEventTimer n s := rfl
@[simp] theorem exec_heartbeatProduce (s : State) :
    exec .heartbeatProduce s = execHeartbeatProduce s := rfl
@[simp] theorem exec_heartbeatConsumerTimeout (k : Fin 4) (s : State) :
    exec (.heartbeatConsumerTimeout k) s = execHeartbeatConsumerTimeout k s := rfl
@[simp] theorem exec_udpHeartbeatSend (s : State) :
    exec .udpHeartbeatSend s = execUdpHeartbeatSend s := rfl
@[simp] theorem exec_errorClassClear (c : Fin 3) (s : State) :
    exec (.errorClassClear c) s = execErrorClassClear c s := rfl
@[simp] theorem exec_errorHistoryClear (c : CtxId) (s : State) :
    exec (.errorHistoryClear c) s = execErrorHistoryClear c s := rfl
@[simp] theorem exec_lssSwitchStateGlobal (mode : Byte) (s : State) :
    exec (.lssSwitchStateGlobal mode) s = execLssSwitchStateGlobal mode s := rfl
@[simp] theorem exec_lssSwitchStateSelective (vendor product revision serial : Word) (s : State) :
    exec (.lssSwitchStateSelective vendor product revision serial) s = execLssSwitchStateSelective vendor product revision serial s := rfl
@[simp] theorem exec_lssConfigureNodeId (id : Byte) (s : State) :
    exec (.lssConfigureNodeId id) s = execLssConfigureNodeId id s := rfl
@[simp] theorem exec_lssConfigureBitTiming (table index : Byte) (s : State) :
    exec (.lssConfigureBitTiming table index) s = execLssConfigureBitTiming table index s := rfl
@[simp] theorem exec_lssActivateBitTiming (delay : BitVec 16) (s : State) :
    exec (.lssActivateBitTiming delay) s = execLssActivateBitTiming delay s := rfl
@[simp] theorem exec_lssStoreConfiguration (s : State) :
    exec .lssStoreConfiguration s = execLssStoreConfiguration s := rfl
@[simp] theorem exec_lssInquireIdentity (k : Fin 4) (s : State) :
    exec (.lssInquireIdentity k) s = execLssInquireIdentity k s := rfl
@[simp] theorem exec_lssInquireNodeId (s : State) :
    exec .lssInquireNodeId s = execLssInquireNodeId s := rfl
@[simp] theorem exec_lssIdentifyRemoteSlave (vendor product revLow revHigh serLow serHigh : Word) (s : State) :
    exec (.lssIdentifyRemoteSlave vendor product revLow revHigh serLow serHigh) s = execLssIdentifyRemoteSlave vendor product revLow revHigh serLow serHigh s := rfl
@[simp] theorem exec_lssIdentifyNonConfigured (s : State) :
    exec .lssIdentifyNonConfigured s = execLssIdentifyNonConfigured s := rfl
@[simp] theorem exec_lssFastscan (idNumber : Word) (bitCheck lssSub lssNext : Byte) (s : State) :
    exec (.lssFastscan idNumber bitCheck lssSub lssNext) s = execLssFastscan idNumber bitCheck lssSub lssNext s := rfl
@[simp] theorem exec_settingsStore (c : CtxId) (group : Fin 4) (s : State) :
    exec (.settingsStore c group) s = execSettingsStore c group s := rfl
@[simp] theorem exec_settingsRestore (c : CtxId) (group : Fin 4) (s : State) :
    exec (.settingsRestore c group) s = execSettingsRestore c group s := rfl
@[simp] theorem exec_factoryReset (c : CtxId) (s : State) :
    exec (.factoryReset c) s = execFactoryReset c s := rfl
@[simp] theorem exec_gatewayTimeout (p : Fin 2) (txn : Nat) (s : State) :
    exec (.gatewayTimeout p txn) s = execGatewayTimeout p txn s := rfl
@[simp] theorem exec_mgmtReadReceive (port : Fin 2) (r : RxCell) (s : State) :
    exec (.mgmtReadReceive port r) s = execMgmtReadReceive port r s := rfl
@[simp] theorem exec_mgmtWriteReceive (port : Fin 2) (r : RxCell) (s : State) :
    exec (.mgmtWriteReceive port r) s = execMgmtWriteReceive port r s := rfl
@[simp] theorem exec_mgmtBroadcastWriteReceive (port : Fin 2) (r : RxCell) (s : State) :
    exec (.mgmtBroadcastWriteReceive port r) s = execMgmtBroadcastWriteReceive port r s := rfl
@[simp] theorem exec_mgmtResponseReceive (p : Fin 2) (r : RxCell) (s : State) :
    exec (.mgmtResponseReceive p r) s = execMgmtResponseReceive p r s := rfl
@[simp] theorem exec_mgmtEventReceive (p : Fin 2) (r : RxCell) (s : State) :
    exec (.mgmtEventReceive p r) s = execMgmtEventReceive p r s := rfl
@[simp] theorem exec_tileEventSend (s : State) :
    exec .tileEventSend s = execTileEventSend s := rfl
@[simp] theorem exec_tileEventsClear (c : CtxId) (v : BitVec 8) (s : State) :
    exec (.tileEventsClear c v) s = execTileEventsClear c v s := rfl
@[simp] theorem exec_txPortCEthernetFrame (e : Fin 8) (f : EthFrame) (s : State) :
    exec (.txPortCEthernetFrame e f) s = execTxPortCEthernetFrame e f s := rfl
@[simp] theorem exec_portcConfigWrite (c : CtxId) (v : BitVec 8) (s : State) :
    exec (.portcConfigWrite c v) s = execPortcConfigWrite c v s := rfl
@[simp] theorem exec_igmpQueryReceive (e : Fin 8) (version group : Nat) (sources : List Nat) (s : State) :
    exec (.igmpQueryReceive e version group sources) s = execIgmpQueryReceive e version group sources s := rfl
@[simp] theorem exec_igmpReportTimer (n : Fin 32) (s : State) :
    exec (.igmpReportTimer n) s = execIgmpReportTimer n s := rfl
@[simp] theorem exec_streamEnable (c : CtxId) (n : Fin 32) (v : BitVec 8) (s : State) :
    exec (.streamEnable c n v) s = execStreamEnable c n v s := rfl
@[simp] theorem exec_rtpPacketReceive (n : Fin 32) (path : Fin 2) (data : List Byte) (s : State) :
    exec (.rtpPacketReceive n path data) s = execRtpPacketReceive n path data s := rfl
@[simp] theorem exec_frameCloseTimeout (n : Fin 32) (s : State) :
    exec (.frameCloseTimeout n) s = execFrameCloseTimeout n s := rfl
@[simp] theorem exec_pathLostTimeout (n : Fin 32) (path : Fin 2) (s : State) :
    exec (.pathLostTimeout n path) s = execPathLostTimeout n path s := rfl
@[simp] theorem exec_jpegXsDecodeComplete (n : Fin 32) (failedAt : Option Nat) (s : State) :
    exec (.jpegXsDecodeComplete n failedAt) s = execJpegXsDecodeComplete n failedAt s := rfl
@[simp] theorem exec_freeSelectChoice (s : State) :
    exec .freeSelectChoice s = execFreeSelectChoice s := rfl
@[simp] theorem exec_selectSend (s : State) :
    exec .selectSend s = execSelectSend s := rfl
@[simp] theorem exec_selectUnitReceive (link : Fin 2) (u : CascadeUnit) (s : State) :
    exec (.selectUnitReceive link u) s = execSelectUnitReceive link u s := rfl
@[simp] theorem exec_frameBoundary (errors : List (Nat × Nat)) (s : State) :
    exec (.frameBoundary errors) s = execFrameBoundary errors s := rfl
@[simp] theorem exec_cellSlotSchedule (p : Fin 2) (s : State) :
    exec (.cellSlotSchedule p) s = execCellSlotSchedule p s := rfl
@[simp] theorem exec_determinismChecksum (p : Fin 2) (s : State) :
    exec (.determinismChecksum p) s = execDeterminismChecksum p s := rfl
@[simp] theorem exec_checksumUnitReceive (link : Fin 2) (u : CascadeUnit) (s : State) :
    exec (.checksumUnitReceive link u) s = execChecksumUnitReceive link u s := rfl
@[simp] theorem exec_activateFrameWrite (c : CtxId) (frame : BitVec 64) (s : State) :
    exec (.activateFrameWrite c frame) s = execActivateFrameWrite c frame s := rfl
@[simp] theorem exec_mapActivationDeadline (s : State) :
    exec .mapActivationDeadline s = execMapActivationDeadline s := rfl
@[simp] theorem exec_cascadeLinkUp (link : Fin 2) (s : State) :
    exec (.cascadeLinkUp link) s = execCascadeLinkUp link s := rfl
@[simp] theorem exec_relayUnitReceive (link : Fin 2) (u : CascadeUnit) (s : State) :
    exec (.relayUnitReceive link u) s = execRelayUnitReceive link u s := rfl
@[simp] theorem exec_relayRelease (p : Fin 2) (s : State) :
    exec (.relayRelease p) s = execRelayRelease p s := rfl
@[simp] theorem exec_mgmtUnitReceive (link : Fin 2) (u : CascadeUnit) (s : State) :
    exec (.mgmtUnitReceive link u) s = execMgmtUnitReceive link u s := rfl
@[simp] theorem exec_identityUnitReceive (link : Fin 2) (u : CascadeUnit) (s : State) :
    exec (.identityUnitReceive link u) s = execIdentityUnitReceive link u s := rfl
@[simp] theorem exec_statusUnitReceive (link : Fin 2) (u : CascadeUnit) (s : State) :
    exec (.statusUnitReceive link u) s = execStatusUnitReceive link u s := rfl
@[simp] theorem exec_takeUnitReceive (link : Fin 2) (u : CascadeUnit) (s : State) :
    exec (.takeUnitReceive link u) s = execTakeUnitReceive link u s := rfl
@[simp] theorem exec_reclaimUnitReceive (link : Fin 2) (u : CascadeUnit) (s : State) :
    exec (.reclaimUnitReceive link u) s = execReclaimUnitReceive link u s := rfl
@[simp] theorem exec_ackUnitReceive (link : Fin 2) (u : CascadeUnit) (s : State) :
    exec (.ackUnitReceive link u) s = execAckUnitReceive link u s := rfl
@[simp] theorem exec_deferUnitReceive (link : Fin 2) (u : CascadeUnit) (s : State) :
    exec (.deferUnitReceive link u) s = execDeferUnitReceive link u s := rfl
@[simp] theorem exec_cancelUnitReceive (link : Fin 2) (u : CascadeUnit) (s : State) :
    exec (.cancelUnitReceive link u) s = execCancelUnitReceive link u s := rfl
@[simp] theorem exec_derateUnitReceive (link : Fin 2) (u : CascadeUnit) (s : State) :
    exec (.derateUnitReceive link u) s = execDerateUnitReceive link u s := rfl
@[simp] theorem exec_syncUnitSend (link : Fin 2) (s : State) :
    exec (.syncUnitSend link) s = execSyncUnitSend link s := rfl
@[simp] theorem exec_syncUnitReceive (link : Fin 2) (u : CascadeUnit) (s : State) :
    exec (.syncUnitReceive link u) s = execSyncUnitReceive link u s := rfl
@[simp] theorem exec_parentTimeout (s : State) :
    exec .parentTimeout s = execParentTimeout s := rfl
@[simp] theorem exec_receiverDetectTest (l : Fin 24) (ohms : BitVec 16) (s : State) :
    exec (.receiverDetectTest l ohms) s = execReceiverDetectTest l ohms s := rfl
@[simp] theorem exec_detectTimeout (l : Fin 24) (s : State) :
    exec (.detectTimeout l) s = execDetectTimeout l s := rfl
@[simp] theorem exec_trainingFrameReceive (l : Fin 24) (c1 c2 c3 t1 t2 t3 : BitVec 16) (inverted ready : Bool) (want : BitVec 16) (s : State) :
    exec (.trainingFrameReceive l c1 c2 c3 t1 t2 t3 inverted ready want) s = execTrainingFrameReceive l c1 c2 c3 t1 t2 t3 inverted ready want s := rfl
@[simp] theorem exec_trainingRequestTimeout (l : Fin 24) (s : State) :
    exec (.trainingRequestTimeout l) s = execTrainingRequestTimeout l s := rfl
@[simp] theorem exec_trainingTimeout (l : Fin 24) (s : State) :
    exec (.trainingTimeout l) s = execTrainingTimeout l s := rfl
@[simp] theorem exec_bitLockTimeout (l : Fin 24) (s : State) :
    exec (.bitLockTimeout l) s = execBitLockTimeout l s := rfl
@[simp] theorem exec_alignLockTimeout (l : Fin 24) (s : State) :
    exec (.alignLockTimeout l) s = execAlignLockTimeout l s := rfl
@[simp] theorem exec_electricalIdleEnd (l : Fin 24) (s : State) :
    exec (.electricalIdleEnd l) s = execElectricalIdleEnd l s := rfl
@[simp] theorem exec_alignmentMarkerReceive (l : Fin 24) (m : Option (BitVec 1360)) (skew : BitVec 32) (s : State) :
    exec (.alignmentMarkerReceive l m skew) s = execAlignmentMarkerReceive l m skew s := rfl
@[simp] theorem exec_alignmentMarkerSend (k : Fin 4) (s : State) :
    exec (.alignmentMarkerSend k) s = execAlignmentMarkerSend k s := rfl
@[simp] theorem exec_capBlockReceive (l : Fin 24) (b : BitVec 256) (s : State) :
    exec (.capBlockReceive l b) s = execCapBlockReceive l b s := rfl
@[simp] theorem exec_capabilityTimeout (l : Fin 24) (s : State) :
    exec (.capabilityTimeout l) s = execCapabilityTimeout l s := rfl
@[simp] theorem exec_capabilityRefuseWaitEnd (l : Fin 24) (s : State) :
    exec (.capabilityRefuseWaitEnd l) s = execCapabilityRefuseWaitEnd l s := rfl
@[simp] theorem exec_failedLaneRetry (l : Fin 24) (s : State) :
    exec (.failedLaneRetry l) s = execFailedLaneRetry l s := rfl
@[simp] theorem exec_portRestartTimer (k : Fin 4) (s : State) :
    exec (.portRestartTimer k) s = execPortRestartTimer k s := rfl
@[simp] theorem exec_laneLockLoss (l : Fin 24) (cdr : Bool) (s : State) :
    exec (.laneLockLoss l cdr) s = execLaneLockLoss l cdr s := rfl
@[simp] theorem exec_laneHealthWindow (l : Fin 24) (received : List (Nat × List (BitVec 10))) (load : BitVec 8) (s : State) :
    exec (.laneHealthWindow l received load) s = execLaneHealthWindow l received load s := rfl
@[simp] theorem exec_prbsStart (c : CtxId) (l : Fin 24) (v : BitVec 8) (s : State) :
    exec (.prbsStart c l v) s = execPrbsStart c l v s := rfl
@[simp] theorem exec_prbsDurationEnd (l : Fin 24) (n errors symErrors : BitVec 64) (s : State) :
    exec (.prbsDurationEnd l n errors symErrors) s = execPrbsDurationEnd l n errors symErrors s := rfl
@[simp] theorem exec_liveTestRelockTimeout (l : Fin 24) (s : State) :
    exec (.liveTestRelockTimeout l) s = execLiveTestRelockTimeout l s := rfl
@[simp] theorem exec_injStart (c : CtxId) (l : Fin 24) (s : State) :
    exec (.injStart c l) s = execInjStart c l s := rfl
@[simp] theorem exec_injStop (c : CtxId) (l : Fin 24) (s : State) :
    exec (.injStop c l) s = execInjStop c l s := rfl
@[simp] theorem exec_loopbackWrite (c : CtxId) (p : Fin 3) (v : BitVec 8) (s : State) :
    exec (.loopbackWrite c p v) s = execLoopbackWrite c p v s := rfl
@[simp] theorem exec_testStateWrite (c : CtxId) (p : Fin 3) (v : BitVec 8) (s : State) :
    exec (.testStateWrite c p v) s = execTestStateWrite c p v s := rfl
@[simp] theorem exec_laneCounterClear (c : CtxId) (l : Fin 24) (v : BitVec 8) (s : State) :
    exec (.laneCounterClear c l v) s = execLaneCounterClear c l v s := rfl
@[simp] theorem exec_videoCellReceive (port : Fin 2) (r : RxCell) (s : State) :
    exec (.videoCellReceive port r) s = execVideoCellReceive port r s := rfl
@[simp] theorem exec_idleCellReceive (port : Fin 2) (s : State) :
    exec (.idleCellReceive port) s = execIdleCellReceive port s := rfl
@[simp] theorem exec_rateMatchSend (out : Fin 2) (s : State) :
    exec (.rateMatchSend out) s = execRateMatchSend out s := rfl
@[simp] theorem exec_timingCellReceive (port : Fin 2) (r : RxCell) (s : State) :
    exec (.timingCellReceive port r) s = execTimingCellReceive port r s := rfl
@[simp] theorem exec_timingWindowEnd (s : State) :
    exec .timingWindowEnd s = execTimingWindowEnd s := rfl
@[simp] theorem exec_serviceCellReceive (port : Fin 2) (r : RxCell) (s : State) :
    exec (.serviceCellReceive port r) s = execServiceCellReceive port r s := rfl
@[simp] theorem exec_healthCellReceive (port : Fin 2) (r : RxCell) (s : State) :
    exec (.healthCellReceive port r) s = execHealthCellReceive port r s := rfl
@[simp] theorem exec_topoQueryReceive (port : Fin 2) (r : RxCell) (s : State) :
    exec (.topoQueryReceive port r) s = execTopoQueryReceive port r s := rfl
@[simp] theorem exec_topoAssignReceive (port : Fin 2) (r : RxCell) (s : State) :
    exec (.topoAssignReceive port r) s = execTopoAssignReceive port r s := rfl
@[simp] theorem exec_framectlCommitReceive (port : Fin 2) (r : RxCell) (s : State) :
    exec (.framectlCommitReceive port r) s = execFramectlCommitReceive port r s := rfl
@[simp] theorem exec_framectlGenStateReceive (port : Fin 2) (r : RxCell) (s : State) :
    exec (.framectlGenStateReceive port r) s = execFramectlGenStateReceive port r s := rfl
@[simp] theorem exec_framectlAbortReceive (port : Fin 2) (r : RxCell) (s : State) :
    exec (.framectlAbortReceive port r) s = execFramectlAbortReceive port r s := rfl
@[simp] theorem exec_reservedTypeCellReceive (port : Fin 2) (r : RxCell) (s : State) :
    exec (.reservedTypeCellReceive port r) s = execReservedTypeCellReceive port r s := rfl
@[simp] theorem exec_cellTerminate (p : Fin 2) (r : RxCell) (s : State) :
    exec (.cellTerminate p r) s = execCellTerminate p r s := rfl
@[simp] theorem exec_topoReportReceive (p : Fin 2) (r : RxCell) (s : State) :
    exec (.topoReportReceive p r) s = execTopoReportReceive p r s := rfl
@[simp] theorem exec_oppositePortDown (port : Fin 2) (s : State) :
    exec (.oppositePortDown port) s = execOppositePortDown port s := rfl
@[simp] theorem exec_loopTimingRestore (port : Fin 2) (s : State) :
    exec (.loopTimingRestore port) s = execLoopTimingRestore port s := rfl
@[simp] theorem exec_discover (c : CtxId) (p : Fin 2) (v : BitVec 8) (s : State) :
    exec (.discover c p v) s = execDiscover c p v s := rfl
@[simp] theorem exec_discoveryCollectEnd (p : Fin 2) (s : State) :
    exec (.discoveryCollectEnd p) s = execDiscoveryCollectEnd p s := rfl
@[simp] theorem exec_repeatOnlyWrite (c : CtxId) (v : BitVec 8) (s : State) :
    exec (.repeatOnlyWrite c v) s = execRepeatOnlyWrite c v s := rfl
@[simp] theorem exec_chainCounterClear (c : CtxId) (v : BitVec 8) (s : State) :
    exec (.chainCounterClear c v) s = execChainCounterClear c v s := rfl
@[simp] theorem exec_selfDiagPeriod (secded watchdog : Bool) (s : State) :
    exec (.selfDiagPeriod secded watchdog) s = execSelfDiagPeriod secded watchdog s := rfl
@[simp] theorem exec_healthSend (p : Fin 2) (s : State) :
    exec (.healthSend p) s = execHealthSend p s := rfl
@[simp] theorem exec_tileHealthSend (s : State) :
    exec .tileHealthSend s = execTileHealthSend s := rfl
@[simp] theorem exec_peerCheck (p : Fin 2) (s : State) :
    exec (.peerCheck p) s = execPeerCheck p s := rfl
@[simp] theorem exec_controlStart (p : Fin 2) (s : State) :
    exec (.controlStart p) s = execControlStart p s := rfl
@[simp] theorem exec_reclaimAnswerTimeout (p : Fin 2) (s : State) :
    exec (.reclaimAnswerTimeout p) s = execReclaimAnswerTimeout p s := rfl
@[simp] theorem exec_deferRetry (p : Fin 2) (s : State) :
    exec (.deferRetry p) s = execDeferRetry p s := rfl
@[simp] theorem exec_reclaimNow (c : CtxId) (p : Fin 2) (v : BitVec 8) (s : State) :
    exec (.reclaimNow c p v) s = execReclaimNow c p v s := rfl
@[simp] theorem exec_maintenanceWrite (c : CtxId) (p : Fin 2) (v : BitVec 8) (s : State) :
    exec (.maintenanceWrite c p v) s = execMaintenanceWrite c p v s := rfl
@[simp] theorem exec_feedEndTimeout (o : Fin 2) (s : State) :
    exec (.feedEndTimeout o) s = execFeedEndTimeout o s := rfl
@[simp] theorem exec_holdTimeExpiry (s : State) :
    exec .holdTimeExpiry s = execHoldTimeExpiry s := rfl
@[simp] theorem exec_ptpSyncReceive (port domain ident seq t1 : Nat) (logInterval : Int) (twoStep : Bool) (s : State) :
    exec (.ptpSyncReceive port domain ident seq t1 logInterval twoStep) s = execPtpSyncReceive port domain ident seq t1 logInterval twoStep s := rfl
@[simp] theorem exec_ptpFollowUpReceive (port domain ident seq t1 : Nat) (s : State) :
    exec (.ptpFollowUpReceive port domain ident seq t1) s = execPtpFollowUpReceive port domain ident seq t1 s := rfl
@[simp] theorem exec_ptpDelayReqSend (s : State) :
    exec .ptpDelayReqSend s = execPtpDelayReqSend s := rfl
@[simp] theorem exec_ptpDelayRespReceive (port domain ident seq t4 : Nat) (s : State) :
    exec (.ptpDelayRespReceive port domain ident seq t4) s = execPtpDelayRespReceive port domain ident seq t4 s := rfl
@[simp] theorem exec_ptpAnnounceReceive (port domain : Nat) (d : PtpDataset) (logInterval : Int) (s : State) :
    exec (.ptpAnnounceReceive port domain d logInterval) s = execPtpAnnounceReceive port domain d logInterval s := rfl
@[simp] theorem exec_announceReceiptTimeout (s : State) :
    exec .announceReceiptTimeout s = execAnnounceReceiptTimeout s := rfl
@[simp] theorem exec_quartzSourceLoss (s : State) :
    exec .quartzSourceLoss s = execQuartzSourceLoss s := rfl
@[simp] theorem exec_genlockEdge (falling : Bool) (s : State) :
    exec (.genlockEdge falling) s = execGenlockEdge falling s := rfl
@[simp] theorem exec_ppsEdge (s : State) :
    exec .ppsEdge s = execPpsEdge s := rfl
@[simp] theorem exec_todSet (c : CtxId) (seconds : BitVec 64) (s : State) :
    exec (.todSet c seconds) s = execTodSet c seconds s := rfl
@[simp] theorem exec_timingCellOriginate (p : Fin 2) (s : State) :
    exec (.timingCellOriginate p) s = execTimingCellOriginate p s := rfl
@[simp] theorem exec_trimRecompute (p : Fin 2) (s : State) :
    exec (.trimRecompute p) s = execTrimRecompute p s := rfl
@[simp] theorem exec_applyFrame (c : CtxId) (frame : BitVec 64) (s : State) :
    exec (.applyFrame c frame) s = execApplyFrame c frame s := rfl
@[simp] theorem exec_stepNow (c : CtxId) (ns : BitVec 64) (s : State) :
    exec (.stepNow c ns) s = execStepNow c ns s := rfl
@[simp] theorem exec_recompute (c : CtxId) (v : BitVec 8) (s : State) :
    exec (.recompute c v) s = execRecompute c v s := rfl
@[simp] theorem exec_frameOutPulse (f k : Nat) (s : State) :
    exec (.frameOutPulse f k) s = execFrameOutPulse f k s := rfl
@[simp] theorem exec_ppsOutPulse (s : State) :
    exec .ppsOutPulse s = execPpsOutPulse s := rfl
@[simp] theorem exec_fillClose (s : State) :
    exec .fillClose s = execFillClose s := rfl
@[simp] theorem exec_composeSlot (d : Damage) (s : State) :
    exec (.composeSlot d) s = execComposeSlot d s := rfl
@[simp] theorem exec_composeComplete (s : State) :
    exec .composeComplete s = execComposeComplete s := rfl
@[simp] theorem exec_composeOverrun (s : State) :
    exec .composeOverrun s = execComposeOverrun s := rfl
@[simp] theorem exec_commitFrame (c : CtxId) (frame : BitVec 64) (s : State) :
    exec (.commitFrame c frame) s = execCommitFrame c frame s := rfl
@[simp] theorem exec_commitAbortWrite (c : CtxId) (v : BitVec 8) (s : State) :
    exec (.commitAbortWrite c v) s = execCommitAbortWrite c v s := rfl
@[simp] theorem exec_commitDeadline (checkerDown : Bool) (s : State) :
    exec (.commitDeadline checkerDown) s = execCommitDeadline checkerDown s := rfl
@[simp] theorem exec_framectlSend (p : Fin 2) (s : State) :
    exec (.framectlSend p) s = execFramectlSend p s := rfl
@[simp] theorem exec_coeffSetWrite (c : CtxId) (k : Fin 16) (set : List Byte) (s : State) :
    exec (.coeffSetWrite c k set) s = execCoeffSetWrite c k set s := rfl
@[simp] theorem exec_tfTableWrite (c : CtxId) (k : Fin 8) (table : List Byte) (s : State) :
    exec (.tfTableWrite c k table) s = execTfTableWrite c k table s := rfl
@[simp] theorem exec_corrSelectWrite (c : CtxId) (v : BitVec 8) (s : State) :
    exec (.corrSelectWrite c v) s = execCorrSelectWrite c v s := rfl
@[simp] theorem exec_corrVerify (c : CtxId) (v : BitVec 8) (s : State) :
    exec (.corrVerify c v) s = execCorrVerify c v s := rfl
@[simp] theorem exec_corrVerifyComplete (s : State) :
    exec .corrVerifyComplete s = execCorrVerifyComplete s := rfl
@[simp] theorem exec_corrLoadRow (s : State) :
    exec .corrLoadRow s = execCorrLoadRow s := rfl
@[simp] theorem exec_correctionReread (s : State) :
    exec .correctionReread s = execCorrectionReread s := rfl
@[simp] theorem exec_hkRound (die : Vector (Option Int) 8) (supply : Vector Nat 8) (holdup : Nat) (nvm : Option Int) (s : State) :
    exec (.hkRound die supply holdup nvm) s = execHkRound die supply holdup nvm s := rfl
@[simp] theorem exec_thermalTrip (die : Vector Int 8) (s : State) :
    exec (.thermalTrip die) s = execThermalTrip die s := rfl
@[simp] theorem exec_coolingComplete (s : State) :
    exec .coolingComplete s = execCoolingComplete s := rfl
@[simp] theorem exec_enumStart (c : CtxId) (p : Fin 64) (v : BitVec 8) (s : State) :
    exec (.enumStart c p v) s = execEnumStart c p v s := rfl
@[simp] theorem exec_lrReturn (p : Fin 64) (pulses : List (Nat × Nat)) (loopPs : Nat) (s : State) :
    exec (.lrReturn p pulses loopPs) s = execLrReturn p pulses loopPs s := rfl
@[simp] theorem exec_lrMissingTimeout (p : Fin 64) (s : State) :
    exec (.lrMissingTimeout p) s = execLrMissingTimeout p s := rfl
@[simp] theorem exec_lampPortCounterClear (c : CtxId) (p : Fin 64) (v : BitVec 8) (s : State) :
    exec (.lampPortCounterClear c p v) s = execLampPortCounterClear c p v s := rfl
@[simp] theorem exec_frustumIn (c : CtxId) (record : List Byte) (s : State) :
    exec (.frustumIn c record) s = execFrustumIn c record s := rfl
@[simp] theorem exec_frustumWrite (c : CtxId) (record : List Byte) (s : State) :
    exec (.frustumWrite c record) s = execFrustumWrite c record s := rfl
@[simp] theorem exec_frustumStaleTimeout (s : State) :
    exec .frustumStaleTimeout s = execFrustumStaleTimeout s := rfl
@[simp] theorem exec_schedBuild (p : Fin 64) (s : State) :
    exec (.schedBuild p) s = execSchedBuild p s := rfl
@[simp] theorem exec_schedBuildDone (p : Fin 64) (s : State) :
    exec (.schedBuildDone p) s = execSchedBuildDone p s := rfl
@[simp] theorem exec_epochEnd (damaged : List (Fin 64 × Nat)) (s : State) :
    exec (.epochEnd damaged) s = execEpochEnd damaged s := rfl
@[simp] theorem exec_sweepStart (c : CtxId) (v : BitVec 8) (s : State) :
    exec (.sweepStart c v) s = execSweepStart c v s := rfl
@[simp] theorem exec_sweepEnd (s : State) :
    exec .sweepEnd s = execSweepEnd s := rfl
@[simp] theorem exec_lampDiagClear (c : CtxId) (v : BitVec 8) (s : State) :
    exec (.lampDiagClear c v) s = execLampDiagClear c v s := rfl
@[simp] theorem exec_peAdd (p : Fin 64) (rd ra rb : Fin 16) (rsv : BitVec 14) (s : State) :
    exec (.peAdd p rd ra rb rsv) s = execPeAdd p rd ra rb rsv s := rfl
@[simp] theorem exec_peSub (p : Fin 64) (rd ra rb : Fin 16) (rsv : BitVec 14) (s : State) :
    exec (.peSub p rd ra rb rsv) s = execPeSub p rd ra rb rsv s := rfl
@[simp] theorem exec_peAnd (p : Fin 64) (rd ra rb : Fin 16) (rsv : BitVec 14) (s : State) :
    exec (.peAnd p rd ra rb rsv) s = execPeAnd p rd ra rb rsv s := rfl
@[simp] theorem exec_peOr (p : Fin 64) (rd ra rb : Fin 16) (rsv : BitVec 14) (s : State) :
    exec (.peOr p rd ra rb rsv) s = execPeOr p rd ra rb rsv s := rfl
@[simp] theorem exec_peXor (p : Fin 64) (rd ra rb : Fin 16) (rsv : BitVec 14) (s : State) :
    exec (.peXor p rd ra rb rsv) s = execPeXor p rd ra rb rsv s := rfl
@[simp] theorem exec_peShl (p : Fin 64) (rd ra rb : Fin 16) (rsv : BitVec 14) (s : State) :
    exec (.peShl p rd ra rb rsv) s = execPeShl p rd ra rb rsv s := rfl
@[simp] theorem exec_peShr (p : Fin 64) (rd ra rb : Fin 16) (rsv : BitVec 14) (s : State) :
    exec (.peShr p rd ra rb rsv) s = execPeShr p rd ra rb rsv s := rfl
@[simp] theorem exec_peSra (p : Fin 64) (rd ra rb : Fin 16) (rsv : BitVec 14) (s : State) :
    exec (.peSra p rd ra rb rsv) s = execPeSra p rd ra rb rsv s := rfl
@[simp] theorem exec_peMul (p : Fin 64) (rd ra rb : Fin 16) (rsv : BitVec 14) (s : State) :
    exec (.peMul p rd ra rb rsv) s = execPeMul p rd ra rb rsv s := rfl
@[simp] theorem exec_peMulhu (p : Fin 64) (rd ra rb : Fin 16) (rsv : BitVec 14) (s : State) :
    exec (.peMulhu p rd ra rb rsv) s = execPeMulhu p rd ra rb rsv s := rfl
@[simp] theorem exec_peSltu (p : Fin 64) (rd ra rb : Fin 16) (rsv : BitVec 14) (s : State) :
    exec (.peSltu p rd ra rb rsv) s = execPeSltu p rd ra rb rsv s := rfl
@[simp] theorem exec_peMinu (p : Fin 64) (rd ra rb : Fin 16) (rsv : BitVec 14) (s : State) :
    exec (.peMinu p rd ra rb rsv) s = execPeMinu p rd ra rb rsv s := rfl
@[simp] theorem exec_peMaxu (p : Fin 64) (rd ra rb : Fin 16) (rsv : BitVec 14) (s : State) :
    exec (.peMaxu p rd ra rb rsv) s = execPeMaxu p rd ra rb rsv s := rfl
@[simp] theorem exec_peAddi (p : Fin 64) (rd ra : Fin 16) (imm : BitVec 18) (s : State) :
    exec (.peAddi p rd ra imm) s = execPeAddi p rd ra imm s := rfl
@[simp] theorem exec_peAndi (p : Fin 64) (rd ra : Fin 16) (imm : BitVec 18) (s : State) :
    exec (.peAndi p rd ra imm) s = execPeAndi p rd ra imm s := rfl
@[simp] theorem exec_peOri (p : Fin 64) (rd ra : Fin 16) (imm : BitVec 18) (s : State) :
    exec (.peOri p rd ra imm) s = execPeOri p rd ra imm s := rfl
@[simp] theorem exec_peXori (p : Fin 64) (rd ra : Fin 16) (imm : BitVec 18) (s : State) :
    exec (.peXori p rd ra imm) s = execPeXori p rd ra imm s := rfl
@[simp] theorem exec_peSltui (p : Fin 64) (rd ra : Fin 16) (imm : BitVec 18) (s : State) :
    exec (.peSltui p rd ra imm) s = execPeSltui p rd ra imm s := rfl
@[simp] theorem exec_peShli (p : Fin 64) (rd ra : Fin 16) (imm : BitVec 18) (s : State) :
    exec (.peShli p rd ra imm) s = execPeShli p rd ra imm s := rfl
@[simp] theorem exec_peShri (p : Fin 64) (rd ra : Fin 16) (imm : BitVec 18) (s : State) :
    exec (.peShri p rd ra imm) s = execPeShri p rd ra imm s := rfl
@[simp] theorem exec_peLui (p : Fin 64) (rd ra : Fin 16) (imm : BitVec 18) (s : State) :
    exec (.peLui p rd ra imm) s = execPeLui p rd ra imm s := rfl
@[simp] theorem exec_peLd (p : Fin 64) (rd ra : Fin 16) (imm : BitVec 18) (s : State) :
    exec (.peLd p rd ra imm) s = execPeLd p rd ra imm s := rfl
@[simp] theorem exec_peSt (p : Fin 64) (rd ra : Fin 16) (imm : BitVec 18) (s : State) :
    exec (.peSt p rd ra imm) s = execPeSt p rd ra imm s := rfl
@[simp] theorem exec_peBeq (p : Fin 64) (ra rb : Fin 16) (off : BitVec 18) (s : State) :
    exec (.peBeq p ra rb off) s = execPeBeq p ra rb off s := rfl
@[simp] theorem exec_peBne (p : Fin 64) (ra rb : Fin 16) (off : BitVec 18) (s : State) :
    exec (.peBne p ra rb off) s = execPeBne p ra rb off s := rfl
@[simp] theorem exec_peBltu (p : Fin 64) (ra rb : Fin 16) (off : BitVec 18) (s : State) :
    exec (.peBltu p ra rb off) s = execPeBltu p ra rb off s := rfl
@[simp] theorem exec_peBgeu (p : Fin 64) (ra rb : Fin 16) (off : BitVec 18) (s : State) :
    exec (.peBgeu p ra rb off) s = execPeBgeu p ra rb off s := rfl
@[simp] theorem exec_peDbnz (p : Fin 64) (ra rb : Fin 16) (off : BitVec 18) (s : State) :
    exec (.peDbnz p ra rb off) s = execPeDbnz p ra rb off s := rfl
@[simp] theorem exec_peJal (p : Fin 64) (rd ra : Fin 16) (imm : BitVec 18) (s : State) :
    exec (.peJal p rd ra imm) s = execPeJal p rd ra imm s := rfl
@[simp] theorem exec_peJalr (p : Fin 64) (rd ra : Fin 16) (imm : BitVec 18) (s : State) :
    exec (.peJalr p rd ra imm) s = execPeJalr p rd ra imm s := rfl
@[simp] theorem exec_peRds (p : Fin 64) (rd ra : Fin 16) (imm : BitVec 18) (s : State) :
    exec (.peRds p rd ra imm) s = execPeRds p rd ra imm s := rfl
@[simp] theorem exec_peWrs (p : Fin 64) (rd ra : Fin 16) (imm : BitVec 18) (s : State) :
    exec (.peWrs p rd ra imm) s = execPeWrs p rd ra imm s := rfl
@[simp] theorem exec_peWaite (p : Fin 64) (rd ra : Fin 16) (imm : BitVec 18) (s : State) :
    exec (.peWaite p rd ra imm) s = execPeWaite p rd ra imm s := rfl
@[simp] theorem exec_waiteComplete (p : Fin 64) (s : State) :
    exec (.waiteComplete p) s = execWaiteComplete p s := rfl
@[simp] theorem exec_peWaitt (p : Fin 64) (rd ra : Fin 16) (imm : BitVec 18) (s : State) :
    exec (.peWaitt p rd ra imm) s = execPeWaitt p rd ra imm s := rfl
@[simp] theorem exec_waittComplete (p : Fin 64) (s : State) :
    exec (.waittComplete p) s = execWaittComplete p s := rfl
@[simp] theorem exec_peWdk (p : Fin 64) (rd ra : Fin 16) (imm : BitVec 18) (s : State) :
    exec (.peWdk p rd ra imm) s = execPeWdk p rd ra imm s := rfl
@[simp] theorem exec_peMbs (p : Fin 64) (rd ra : Fin 16) (imm : BitVec 18) (s : State) :
    exec (.peMbs p rd ra imm) s = execPeMbs p rd ra imm s := rfl
@[simp] theorem exec_peMbr (p : Fin 64) (rd ra : Fin 16) (imm : BitVec 18) (s : State) :
    exec (.peMbr p rd ra imm) s = execPeMbr p rd ra imm s := rfl
@[simp] theorem exec_peSema (p : Fin 64) (rd ra : Fin 16) (imm : BitVec 18) (s : State) :
    exec (.peSema p rd ra imm) s = execPeSema p rd ra imm s := rfl
@[simp] theorem exec_peSemr (p : Fin 64) (rd ra : Fin 16) (imm : BitVec 18) (s : State) :
    exec (.peSemr p rd ra imm) s = execPeSemr p rd ra imm s := rfl
@[simp] theorem exec_peFopen (p : Fin 64) (rd ra : Fin 16) (imm : BitVec 18) (s : State) :
    exec (.peFopen p rd ra imm) s = execPeFopen p rd ra imm s := rfl
@[simp] theorem exec_peTxb (p : Fin 64) (rd ra : Fin 16) (imm : BitVec 18) (s : State) :
    exec (.peTxb p rd ra imm) s = execPeTxb p rd ra imm s := rfl
@[simp] theorem exec_peTxf (p : Fin 64) (rd ra : Fin 16) (imm : BitVec 18) (s : State) :
    exec (.peTxf p rd ra imm) s = execPeTxf p rd ra imm s := rfl
@[simp] theorem exec_peTxsh (p : Fin 64) (rd ra rb : Fin 16) (rsv : BitVec 14) (bad : List Nat) (s : State) :
    exec (.peTxsh p rd ra rb rsv bad) s = execPeTxsh p rd ra rb rsv bad s := rfl
@[simp] theorem exec_peTxl (p : Fin 64) (rd ra rb : Fin 16) (rsv : BitVec 14) (bad : List Nat) (s : State) :
    exec (.peTxl p rd ra rb rsv bad) s = execPeTxl p rd ra rb rsv bad s := rfl
@[simp] theorem exec_peTxs (p : Fin 64) (rd ra rb : Fin 16) (rsv : BitVec 14) (s : State) :
    exec (.peTxs p rd ra rb rsv) s = execPeTxs p rd ra rb rsv s := rfl
@[simp] theorem exec_peSlen (p : Fin 64) (rd ra rb : Fin 16) (rsv : BitVec 14) (s : State) :
    exec (.peSlen p rd ra rb rsv) s = execPeSlen p rd ra rb rsv s := rfl
@[simp] theorem exec_peRxw (p : Fin 64) (rd ra rb : Fin 16) (rsv : BitVec 14) (s : State) :
    exec (.peRxw p rd ra rb rsv) s = execPeRxw p rd ra rb rsv s := rfl
@[simp] theorem exec_peRxd (p : Fin 64) (rd ra rb : Fin 16) (rsv : BitVec 14) (s : State) :
    exec (.peRxd p rd ra rb rsv) s = execPeRxd p rd ra rb rsv s := rfl
@[simp] theorem exec_peVerd (p : Fin 64) (rd ra rb : Fin 16) (rsv : BitVec 14) (s : State) :
    exec (.peVerd p rd ra rb rsv) s = execPeVerd p rd ra rb rsv s := rfl
@[simp] theorem exec_peDiagc (p : Fin 64) (rd ra rb : Fin 16) (rsv : BitVec 14) (s : State) :
    exec (.peDiagc p rd ra rb rsv) s = execPeDiagc p rd ra rb rsv s := rfl
@[simp] theorem exec_pePrb (p : Fin 64) (rd ra rb : Fin 16) (rsv : BitVec 14) (s : State) :
    exec (.pePrb p rd ra rb rsv) s = execPePrb p rd ra rb rsv s := rfl
@[simp] theorem exec_pushStallEnd (p : Fin 64) (bad : List Nat) (s : State) :
    exec (.pushStallEnd p bad) s = execPushStallEnd p bad s := rfl
@[simp] theorem exec_referenceFrameLaunch (p : Fin 64) (s : State) :
    exec (.referenceFrameLaunch p) s = execReferenceFrameLaunch p s := rfl
@[simp] theorem exec_frameLaunch (p : Fin 64) (s : State) :
    exec (.frameLaunch p) s = execFrameLaunch p s := rfl
@[simp] theorem exec_framerUnderrun (p : Fin 64) (s : State) :
    exec (.framerUnderrun p) s = execFramerUnderrun p s := rfl
@[simp] theorem exec_engineWatchdogExpiry (p : Fin 64) (s : State) :
    exec (.engineWatchdogExpiry p) s = execEngineWatchdogExpiry p s := rfl
@[simp] theorem exec_engineLoad (p : Fin 64) (s : State) :
    exec (.engineLoad p) s = execEngineLoad p s := rfl
@[simp] theorem exec_enumerate (p : Fin 64) (s : State) :
    exec (.enumerate p) s = execEnumerate p s := rfl
@[simp] theorem exec_stop (p : Fin 64) (s : State) :
    exec (.stop p) s = execStop p s := rfl
@[simp] theorem exec_repoll (p : Fin 64) (s : State) :
    exec (.repoll p) s = execRepoll p s := rfl
@[simp] theorem exec_apply (p : Fin 64) (frame : Nat) (s : State) :
    exec (.apply p frame) s = execApply p frame s := rfl
@[simp] theorem exec_engineCounterClear (c : CtxId) (p : Fin 64) (v : BitVec 8) (s : State) :
    exec (.engineCounterClear c p v) s = execEngineCounterClear c p v s := rfl
@[simp] theorem exec_qspiRead (addr : BitVec 24) (n : Nat) (fast : Bool) (s : State) :
    exec (.qspiRead addr n fast) s = execQspiRead addr n fast s := rfl
@[simp] theorem exec_qspiQread (addr : BitVec 24) (n : Nat) (fast : Bool) (s : State) :
    exec (.qspiQread addr n fast) s = execQspiQread addr n fast s := rfl
@[simp] theorem exec_qspiWrite (addr : BitVec 24) (bytes : List Byte) (s : State) :
    exec (.qspiWrite addr bytes) s = execQspiWrite addr bytes s := rfl
@[simp] theorem exec_qspiQwrite (addr : BitVec 24) (bytes : List Byte) (s : State) :
    exec (.qspiQwrite addr bytes) s = execQspiQwrite addr bytes s := rfl
@[simp] theorem exec_qspiRdsr (n : Nat) (s : State) :
    exec (.qspiRdsr n) s = execQspiRdsr n s := rfl
@[simp] theorem exec_qspiPortReset (s : State) :
    exec .qspiPortReset s = execQspiPortReset s := rfl
@[simp] theorem exec_qspiBadInstruction (s : State) :
    exec .qspiBadInstruction s = execQspiBadInstruction s := rfl
@[simp] theorem exec_hpSdoGo (len : BitVec 7) (s : State) :
    exec (.hpSdoGo len) s = execHpSdoGo len s := rfl
@[simp] theorem exec_mbPost (m : BitVec 7) (c : Fin 128) (s : State) :
    exec (.mbPost m c) s = execMbPost m c s := rfl
@[simp] theorem exec_mbTake (m : BitVec 7) (c : Fin 128) (s : State) :
    exec (.mbTake m c) s = execMbTake m c s := rfl
@[simp] theorem exec_mbFlush (m : BitVec 7) (c : Fin 128) (s : State) :
    exec (.mbFlush m c) s = execMbFlush m c s := rfl
@[simp] theorem exec_returnCodeWrite (m : BitVec 7) (c : Fin 128) (code : BitVec 16) (s : State) :
    exec (.returnCodeWrite m c code) s = execReturnCodeWrite m c code s := rfl
@[simp] theorem exec_mbBindWrite (m : BitVec 7) (c : Fin 128) (v : Word) (s : State) :
    exec (.mbBindWrite m c v) s = execMbBindWrite m c v s := rfl
@[simp] theorem exec_mbLockWrite (m : BitVec 7) (v : Word) (s : State) :
    exec (.mbLockWrite m v) s = execMbLockWrite m v s := rfl
@[simp] theorem exec_semRead (ms_ : List (BitVec 7)) (n : Fin 32) (s : State) :
    exec (.semRead ms_ n) s = execSemRead ms_ n s := rfl
@[simp] theorem exec_semWrite (m : BitVec 7) (n : Fin 32) (s : State) :
    exec (.semWrite m n) s = execSemWrite m n s := rfl
@[simp] theorem exec_semForce (m : BitVec 7) (v : Word) (s : State) :
    exec (.semForce m v) s = execSemForce m v s := rfl
@[simp] theorem exec_masterReset (m : BitVec 7) (s : State) :
    exec (.masterReset m) s = execMasterReset m s := rfl
@[simp] theorem exec_pllLock (p : Fin 8) (s : State) :
    exec (.pllLock p) s = execPllLock p s := rfl
@[simp] theorem exec_pllLockLoss (p : Fin 8) (s : State) :
    exec (.pllLockLoss p) s = execPllLockLoss p s := rfl
@[simp] theorem exec_pllRelockSwitchBack (p : Fin 8) (s : State) :
    exec (.pllRelockSwitchBack p) s = execPllRelockSwitchBack p s := rfl
@[simp] theorem exec_xtalLoss (s : State) :
    exec .xtalLoss s = execXtalLoss s := rfl
@[simp] theorem exec_xtalReturn (s : State) :
    exec .xtalReturn s = execXtalReturn s := rfl
@[simp] theorem exec_refclkLoss (aborted : List (Fin 60 × BitVec 7)) (s : State) :
    exec (.refclkLoss aborted) s = execRefclkLoss aborted s := rfl
@[simp] theorem exec_refclkReturn (s : State) :
    exec .refclkReturn s = execRefclkReturn s := rfl
@[simp] theorem exec_clockGateClose (d : Fin 60) (s : State) :
    exec (.clockGateClose d) s = execClockGateClose d s := rfl
@[simp] theorem exec_clockGateOpen (d : Fin 60) (s : State) :
    exec (.clockGateOpen d) s = execClockGateOpen d s := rfl
@[simp] theorem exec_clockSwitchComplete (d : Fin 60) (s : State) :
    exec (.clockSwitchComplete d) s = execClockSwitchComplete d s := rfl
@[simp] theorem exec_forcedClockSwitch (d : Fin 60) (aborted : List (BitVec 7)) (s : State) :
    exec (.forcedClockSwitch d aborted) s = execForcedClockSwitch d aborted s := rfl
@[simp] theorem exec_dvfsEvaluate (busy1 busy50 : Nat) (s : State) :
    exec (.dvfsEvaluate busy1 busy50) s = execDvfsEvaluate busy1 busy50 s := rfl
@[simp] theorem exec_avsTransferComplete (r : AvsResult) (s : State) :
    exec (.avsTransferComplete r) s = execAvsTransferComplete r s := rfl
@[simp] theorem exec_vdone (s : State) :
    exec .vdone s = execVdone s := rfl
@[simp] theorem exec_vdoneTimeout (s : State) :
    exec .vdoneTimeout s = execVdoneTimeout s := rfl
@[simp] theorem exec_freqStart (c : CtxId) (v : BitVec 8) (s : State) :
    exec (.freqStart c v) s = execFreqStart c v s := rfl
@[simp] theorem exec_freqMeasureComplete (khz : BitVec 32) (s : State) :
    exec (.freqMeasureComplete khz) s = execFreqMeasureComplete khz s := rfl
@[simp] theorem exec_clocksCounterClear (c : CtxId) (v : BitVec 8) (s : State) :
    exec (.clocksCounterClear c v) s = execClocksCounterClear c v s := rfl
@[simp] theorem exec_clusterWatchdogRestart (cluster : Fin 2) (s : State) :
    exec (.clusterWatchdogRestart cluster) s = execClusterWatchdogRestart cluster s := rfl
@[simp] theorem exec_clusterWatchdogExpiry (cluster : Fin 2) (s : State) :
    exec (.clusterWatchdogExpiry cluster) s = execClusterWatchdogExpiry cluster s := rfl
@[simp] theorem exec_flashOpComplete (ok : Bool) (s : State) :
    exec (.flashOpComplete ok) s = execFlashOpComplete ok s := rfl
@[simp] theorem exec_flashOpTimeout (s : State) :
    exec .flashOpTimeout s = execFlashOpTimeout s := rfl
@[simp] theorem exec_bbCommit (s : State) :
    exec .bbCommit s = execBbCommit s := rfl
@[simp] theorem exec_bbResetPinned (c : CtxId) (word : BitVec 32) (s : State) :
    exec (.bbResetPinned c word) s = execBbResetPinned c word s := rfl
@[simp] theorem exec_calStart (c : CtxId) (v : BitVec 8) (s : State) :
    exec (.calStart c v) s = execCalStart c v s := rfl
@[simp] theorem exec_calRunComplete (hop1 hop2 : HopRun) (s : State) :
    exec (.calRunComplete hop1 hop2) s = execCalRunComplete hop1 hop2 s := rfl
@[simp] theorem exec_calDeferredStore (s : State) :
    exec .calDeferredStore s = execCalDeferredStore s := rfl
@[simp] theorem exec_serviceHello (src : SvcSource) (frame : List Byte) (s : State) :
    exec (.serviceHello src frame) s = execServiceHello src frame s := rfl
@[simp] theorem exec_serviceOpen (src : SvcSource) (frame : List Byte) (s : State) :
    exec (.serviceOpen src frame) s = execServiceOpen src frame s := rfl
@[simp] theorem exec_serviceWrite (src : SvcSource) (frame : List Byte) (s : State) :
    exec (.serviceWrite src frame) s = execServiceWrite src frame s := rfl
@[simp] theorem exec_serviceStatus (src : SvcSource) (frame : List Byte) (s : State) :
    exec (.serviceStatus src frame) s = execServiceStatus src frame s := rfl
@[simp] theorem exec_serviceVerify (src : SvcSource) (frame : List Byte) (s : State) :
    exec (.serviceVerify src frame) s = execServiceVerify src frame s := rfl
@[simp] theorem exec_verifyComplete (s : State) :
    exec .verifyComplete s = execVerifyComplete s := rfl
@[simp] theorem exec_serviceActivate (src : SvcSource) (frame : List Byte) (s : State) :
    exec (.serviceActivate src frame) s = execServiceActivate src frame s := rfl
@[simp] theorem exec_serviceCancel (src : SvcSource) (frame : List Byte) (s : State) :
    exec (.serviceCancel src frame) s = execServiceCancel src frame s := rfl
@[simp] theorem exec_serviceFinalize (src : SvcSource) (frame : List Byte) (s : State) :
    exec (.serviceFinalize src frame) s = execServiceFinalize src frame s := rfl
@[simp] theorem exec_serviceRollback (src : SvcSource) (frame : List Byte) (s : State) :
    exec (.serviceRollback src frame) s = execServiceRollback src frame s := rfl
@[simp] theorem exec_serviceClose (src : SvcSource) (frame : List Byte) (s : State) :
    exec (.serviceClose src frame) s = execServiceClose src frame s := rfl
@[simp] theorem exec_serviceRead (src : SvcSource) (frame : List Byte) (s : State) :
    exec (.serviceRead src frame) s = execServiceRead src frame s := rfl
@[simp] theorem exec_serviceReport (p : Fin 2) (station : Nat) (frame : List Byte) (s : State) :
    exec (.serviceReport p station frame) s = execServiceReport p station frame s := rfl
@[simp] theorem exec_sessionIdleTimeout (s : State) :
    exec .sessionIdleTimeout s = execSessionIdleTimeout s := rfl
@[simp] theorem exec_selfTestPass (s : State) :
    exec .selfTestPass s = execSelfTestPass s := rfl
@[simp] theorem exec_confirm (c : CtxId) (v : BitVec 8) (s : State) :
    exec (.confirm c v) s = execConfirm c v s := rfl
@[simp] theorem exec_confirmationTimeout (s : State) :
    exec .confirmationTimeout s = execConfirmationTimeout s := rfl
@[simp] theorem exec_rollbackNow (c : CtxId) (v : BitVec 8) (s : State) :
    exec (.rollbackNow c v) s = execRollbackNow c v s := rfl
@[simp] theorem exec_finalizeNow (c : CtxId) (v : BitVec 8) (s : State) :
    exec (.finalizeNow c v) s = execFinalizeNow c v s := rfl
@[simp] theorem exec_wuStage (c : CtxId) (s : State) :
    exec (.wuStage c) s = execWuStage c s := rfl
@[simp] theorem exec_wuArm (c : CtxId) (s : State) :
    exec (.wuArm c) s = execWuArm c s := rfl
@[simp] theorem exec_wuAbort (c : CtxId) (s : State) :
    exec (.wuAbort c) s = execWuAbort c s := rfl
@[simp] theorem exec_wuPoll (s : State) :
    exec .wuPoll s = execWuPoll s := rfl
@[simp] theorem exec_wuActivateBroadcast (s : State) :
    exec .wuActivateBroadcast s = execWuActivateBroadcast s := rfl
@[simp] theorem exec_wallActivateAtFrame (s : State) :
    exec .wallActivateAtFrame s = execWallActivateAtFrame s := rfl
@[simp] theorem exec_wuConfirmWaitExpiry (s : State) :
    exec .wuConfirmWaitExpiry s = execWuConfirmWaitExpiry s := rfl
@[simp] theorem exec_replayLimitExpiry (s : State) :
    exec .replayLimitExpiry s = execReplayLimitExpiry s := rfl
@[simp] theorem exec_ceilProgram (c : CtxId) (entry : BitVec 64) (s : State) :
    exec (.ceilProgram c entry) s = execCeilProgram c entry s := rfl
@[simp] theorem exec_ceilLock (c : CtxId) (v : BitVec 8) (s : State) :
    exec (.ceilLock c v) s = execCeilLock c v s := rfl
@[simp] theorem exec_bistStart (c : CtxId) (v : BitVec 8) (s : State) :
    exec (.bistStart c v) s = execBistStart c v s := rfl
@[simp] theorem exec_bistComplete (failAddr : Option Nat) (s : State) :
    exec (.bistComplete failAddr) s = execBistComplete failAddr s := rfl
@[simp] theorem exec_tapReset (s : State) :
    exec .tapReset s = execTapReset s := rfl
@[simp] theorem exec_tapExtest (pins shifted : List Bool) (s : State) :
    exec (.tapExtest pins shifted) s = execTapExtest pins shifted s := rfl
@[simp] theorem exec_tapIdcode (s : State) :
    exec .tapIdcode s = execTapIdcode s := rfl
@[simp] theorem exec_tapSamplePreload (pins shifted : List Bool) (s : State) :
    exec (.tapSamplePreload pins shifted) s = execTapSamplePreload pins shifted s := rfl
@[simp] theorem exec_tapExtestPulse (pins shifted : List Bool) (s : State) :
    exec (.tapExtestPulse pins shifted) s = execTapExtestPulse pins shifted s := rfl
@[simp] theorem exec_tapExtestTrain (pins shifted : List Bool) (s : State) :
    exec (.tapExtestTrain pins shifted) s = execTapExtestTrain pins shifted s := rfl
@[simp] theorem exec_tapClamp (s : State) :
    exec .tapClamp s = execTapClamp s := rfl
@[simp] theorem exec_tapHighz (s : State) :
    exec .tapHighz s = execTapHighz s := rfl
@[simp] theorem exec_tapDbgUnlock (update : Option (BitVec 128 × BitVec 128)) (s : State) :
    exec (.tapDbgUnlock update) s = execTapDbgUnlock update s := rfl
@[simp] theorem exec_tapDebug (s : State) :
    exec .tapDebug s = execTapDebug s := rfl
@[simp] theorem exec_tapMbist (s : State) :
    exec .tapMbist s = execTapMbist s := rfl
@[simp] theorem exec_tapBypass (s : State) :
    exec .tapBypass s = execTapBypass s := rfl
@[simp] theorem exec_genlockEdgeMissing (s : State) :
    exec .genlockEdgeMissing s = execGenlockEdgeMissing s := rfl
@[simp] theorem exec_uncorrectedBurst (l : Fin 24) (s : State) :
    exec (.uncorrectedBurst l) s = execUncorrectedBurst l s := rfl
@[simp] theorem exec_prbsCheckerLock (l : Fin 24) (pattern : BitVec 4) (s : State) :
    exec (.prbsCheckerLock l pattern) s = execPrbsCheckerLock l pattern s := rfl
@[simp] theorem exec_prbsCheckerLockLoss (l : Fin 24) (n errors symErrors : BitVec 64) (s : State) :
    exec (.prbsCheckerLockLoss l n errors symErrors) s = execPrbsCheckerLockLoss l n errors symErrors s := rfl
@[simp] theorem exec_injectionInterval (l : Fin 24) (s : State) :
    exec (.injectionInterval l) s = execInjectionInterval l s := rfl
@[simp] theorem exec_loopTimingSlewComplete (port : Fin 2) (s : State) :
    exec (.loopTimingSlewComplete port) s = execLoopTimingSlewComplete port s := rfl
@[simp] theorem exec_wuWritePace (s : State) :
    exec .wuWritePace s = execWuWritePace s := rfl
@[simp] theorem exec_serviceRequestRetry (tag : Nat) (s : State) :
    exec (.serviceRequestRetry tag) s = execServiceRequestRetry tag s := rfl
@[simp] theorem exec_helloNonceExpiry (s : State) :
    exec .helloNonceExpiry s = execHelloNonceExpiry s := rfl
@[simp] theorem exec_mbMsgWrite (m : BitVec 7) (c : Fin 128) (w : Fin 4) (v : Word) (s : State) :
    exec (.mbMsgWrite m c w v) s = execMbMsgWrite m c w v s := rfl
@[simp] theorem exec_mbStatusClear (m : BitVec 7) (c : Fin 128) (v : Word) (s : State) :
    exec (.mbStatusClear m c v) s = execMbStatusClear m c v s := rfl

end Sys2Proof.Machine
end

