-- ==== Sys2Proof/Laws/Sparse.lean ====
section
/-! SUPPORT. The addressed stores: a read after a write, and the canonical form that every write keeps. -/

namespace Sys2Proof.Sparse

variable {α : Type}

theorem find_insert_same (m : Sparse α) (x : Nat) (a : α) : find? (insert m x a) x = some a := by
  induction m with
  | nil => simp [insert, find?]
  | cons e m ih =>
    obtain ⟨k, v⟩ := e
    simp only [insert]
    split
    · simp_all [find?]
    · split
      · simp [find?]
      · rename_i h1 h2
        simp [find?, h1, ih]

theorem find_insert_ne (m : Sparse α) (x y : Nat) (a : α) (h : y ≠ x) : find? (insert m x a) y = find? m y := by
  induction m with
  | nil => simp [insert, find?, h]
  | cons e m ih =>
    obtain ⟨k, v⟩ := e
    simp only [insert]
    split
    · subst_vars; simp [find?, h]
    · split
      · simp [find?, h]
      · simp only [find?, ih]

theorem find_erase (m : Sparse α) (x y : Nat) : find? (erase m x) y = if y = x then none else find? m y := by
  induction m with
  | nil => simp [erase, find?]
  | cons e m ih =>
    obtain ⟨k, v⟩ := e
    simp only [erase] at ih
    by_cases hk : k = x
    · subst hk
      simp only [erase, List.filter_cons, bne_self_eq_false, Bool.false_eq_true, if_false, ih, find?]
      split <;> simp_all
    · simp only [erase, List.filter_cons, bne_iff_ne, ne_eq, hk, not_false_eq_true, if_true, find?, ih]
      split <;> simp_all

/-- A key reads as what was written under it. -/
theorem get_set_same [DecidableEq α] (d : Nat → α) (m : Sparse α) (x : Nat) (a : α) : get d (set d m x a) x = a := by
  unfold get set
  split
  · rename_i h
    simp [find_erase, h]
  · simp [find_insert_same]

/-- A write leaves every other key as it reads. -/
theorem get_set_ne [DecidableEq α] (d : Nat → α) (m : Sparse α) (x y : Nat) (a : α) (h : y ≠ x) :
    get d (set d m x a) y = get d m y := by
  unfold get set
  split
  · simp [find_erase, h]
  · simp [find_insert_ne m x y a h]

theorem mem_insert {m : Sparse α} {x : Nat} {a : α} {e : Nat × α} (h : e ∈ insert m x a) : e = (x, a) ∨ e ∈ m := by
  induction m with
  | nil => simpa [insert] using h
  | cons b m ih =>
    obtain ⟨k, v⟩ := b
    simp only [insert] at h
    split at h
    · rename_i h1; subst h1
      rcases List.mem_cons.mp h with h | h
      · exact .inl h
      · exact .inr (by simp [h])
    · split at h
      · simpa using h
      · rcases List.mem_cons.mp h with h | h
        · exact .inr (by simp [h])
        · rcases ih h with h | h
          · exact .inl h
          · exact .inr (by simp [h])

theorem mem_erase {m : Sparse α} {x : Nat} {e : Nat × α} (h : e ∈ erase m x) : e ∈ m := List.mem_of_mem_filter h

theorem insert_rising (m : Sparse α) (x : Nat) (a : α) (r : Rising m) : Rising (insert m x a) := by
  induction m with
  | nil => simp [insert, Rising]
  | cons b m ih =>
    obtain ⟨k, v⟩ := b
    obtain ⟨hk, hr⟩ := List.pairwise_cons.mp r
    simp only [insert]
    split
    · rename_i h1; subst h1
      exact List.pairwise_cons.mpr ⟨hk, hr⟩
    · split
      · rename_i h1 h2
        refine List.pairwise_cons.mpr ⟨fun e he => ?_, r⟩
        rcases List.mem_cons.mp he with rfl | he
        · exact h2
        · exact Nat.lt_trans h2 (hk e he)
      · rename_i h1 h2
        refine List.pairwise_cons.mpr ⟨fun e he => ?_, ih hr⟩
        rcases mem_insert he with rfl | he
        · simp only; omega
        · exact hk e he

theorem erase_rising (m : Sparse α) (x : Nat) (r : Rising m) : Rising (erase m x) := r.filter _

/-- Every write keeps the canonical form. -/
theorem set_wf [DecidableEq α] (d : Nat → α) (m : Sparse α) (x : Nat) (a : α) (h : wf d m) : wf d (set d m x a) := by
  obtain ⟨r, n⟩ := h
  unfold set
  split
  · exact ⟨erase_rising m x r, fun e he => n e (mem_erase he)⟩
  · rename_i hd
    refine ⟨insert_rising m x a r, fun e he => ?_⟩
    rcases mem_insert he with rfl | he
    · exact hd
    · exact n e he

/-- Dropping keys keeps the canonical form. -/
theorem keep_wf [DecidableEq α] (d : Nat → α) (p : Nat → Bool) (m : Sparse α) (h : wf d m) : wf d (keep p m) :=
  ⟨h.1.filter _, fun e he => h.2 e (List.mem_of_mem_filter he)⟩

/-- The empty store has the canonical form. -/
theorem nil_wf [DecidableEq α] (d : Nat → α) : wf d ([] : Sparse α) := by simp [wf, Rising]

end Sys2Proof.Sparse
end

