-- ==== Sys2Proof/Laws/Keeps.lean ====
section
/-! SUPPORT. What keeps a property of the state across an update: the words in which the files `Kept…` say, once for each operation
and each meaning, which fields it can change. A property that stands whatever those fields become is kept; so is one of the
object store that asks no more of it than its canonical form. -/

namespace Sys2Proof.Machine
open Host

/-- The state has the property. -/
def Keeps (π : State → Prop) (s : State) : Prop := π s

/-- The property stands whatever field `now` becomes. -/
def Ignores.now (π : State → Prop) : Prop := ∀ (s : State) (v : Nat), π s → π { s with now := v }

/-- The property stands whatever field `role` becomes. -/
def Ignores.role (π : State → Prop) : Prop := ∀ (s : State) (v : Role), π s → π { s with role := v }

/-- The property stands whatever field `life` becomes. -/
def Ignores.life (π : State → Prop) : Prop := ∀ (s : State) (v : Life), π s → π { s with life := v }

/-- The property stands whatever field `straps` becomes. -/
def Ignores.straps (π : State → Prop) : Prop := ∀ (s : State) (v : BitVec 4), π s → π { s with straps := v }

/-- The property stands whatever field `railsGood` becomes. -/
def Ignores.railsGood (π : State → Prop) : Prop := ∀ (s : State) (v : Bool), π s → π { s with railsGood := v }

/-- An object store keeps the canonical form that the state's own has. -/
def CanonOd (s : State) (v : Sparse Val) : Prop :=
  Sparse.wf (odDefault s.role) s.od → Sparse.wf (odDefault s.role) v

theorem canon_wr (s : State) (idx sub : Nat) (v : Val) : CanonOd s (Sparse.set (odDefault s.role) s.od (key idx sub) v) :=
  Sparse.set_wf _ _ _ _

theorem canon_filter (s : State) (p : Nat × Val → Bool) : CanonOd s (s.od.filter p) :=
  fun h => ⟨h.1.filter _, fun e he => h.2 e (List.mem_of_mem_filter he)⟩

theorem canon_reload (s : State) (p : Nat → Bool) (g : Sparse Val) :
    CanonOd s (g.foldl (fun m e => Sparse.set (odDefault s.role) m e.1 e.2) (Sparse.keep p s.od)) := by
  intro h
  have h := Sparse.keep_wf _ p _ h
  revert h
  generalize Sparse.keep p s.od = m
  induction g generalizing m with
  | nil => exact id
  | cons e g ih => exact fun h => ih _ (Sparse.set_wf _ _ _ _ h)

theorem canon_rekeyed (s : State) : CanonOd s (s.od.foldl (fun m e => Sparse.set (odDefault s.role) m e.1 e.2) []) := by
  intro _
  have h : Sparse.wf (odDefault s.role) ([] : Sparse Val) := Sparse.nil_wf _
  revert h
  generalize ([] : Sparse Val) = m
  generalize s.od = g
  induction g generalizing m with
  | nil => exact id
  | cons e g ih => exact fun h => ih _ (Sparse.set_wf _ _ _ _ h)

theorem canon_nil (s : State) : CanonOd s [] := fun _ => Sparse.nil_wf _

/-- The property stands whatever the object store becomes, so long as that keeps its canonical form. -/
def Ignores.od (π : State → Prop) : Prop := ∀ (s : State) (v : Sparse Val), CanonOd s v → π s → π { s with od := v }

/-- The property stands whatever field `control` becomes. -/
def Ignores.control (π : State → Prop) : Prop := ∀ (s : State) (v : Control), π s → π { s with control := v }

/-- The property stands whatever field `clocks` becomes. -/
def Ignores.clocks (π : State → Prop) : Prop := ∀ (s : State) (v : Clocks), π s → π { s with clocks := v }

/-- The property stands whatever field `thermal` becomes. -/
def Ignores.thermal (π : State → Prop) : Prop := ∀ (s : State) (v : Thermal), π s → π { s with thermal := v }

/-- A change of the fuses that burns only blank entries and the lock, and loads the shadow only from them. -/
def CanonOtp (s : State) (v : Otp) : Prop :=
  (∀ (p : Fin 64) (c : Ceiling), s.otp.ceilings[p] = some c → v.ceilings[p] = some c) ∧
  (s.otp.ceilLock = true → v.ceilLock = true) ∧
  (v.shadow = s.otp.shadow ∨ ∀ p : Fin 64, v.shadow[p] = Ceiling.unlimited ∨ v.ceilings[p] = some v.shadow[p])

theorem canon_lock (s : State) : CanonOtp s { s.otp with ceilLock := true } := ⟨fun _ _ h => h, fun _ => rfl, .inl rfl⟩

theorem canon_ceiling {s : State} {p : Fin 64} (c : Ceiling) (h : s.otp.ceilings[p].isSome = false) :
    CanonOtp s { s.otp with ceilings := vset s.otp.ceilings p (some c) } := by
  refine ⟨fun q d hd => ?_, id, .inl rfl⟩
  simp only [vset, Fin.getElem_fin] at *
  rw [Vector.getElem_set]
  split
  · rename_i e
    simp only [e, hd, Option.isSome_some, reduceCtorEq] at h
  · exact hd

theorem canon_shadow (s : State) :
    CanonOtp s { s.otp with shadow := s.otp.ceilings.map fun c => c.getD Ceiling.unlimited } := by
  refine ⟨fun _ _ h => h, id, .inr fun p => ?_⟩
  simp only [Fin.getElem_fin, Vector.getElem_map]
  cases s.otp.ceilings[p.1] with
  | none => exact .inl rfl
  | some c => exact .inr rfl

/-- The property stands whatever field `otp` becomes, so long as the fuses change as fuses do. -/
def Ignores.otp (π : State → Prop) : Prop := ∀ (s : State) (v : Otp), CanonOtp s v → π s → π { s with otp := v }

/-- The bytes that are listed for an address range, and where they lie. -/
theorem listed_at (addr : Nat) (bytes : List Byte) (n : Nat) :
    let m := (List.zipIdx bytes n).filterMap fun e => if e.1 = 0xFF then none else some (addr + e.2, e.1)
    Sparse.wf (fun _ => 0xFF#8) m ∧ ∀ e ∈ m, addr + n ≤ e.1 ∧ e.1 < addr + n + bytes.length := by
  induction bytes generalizing n with
  | nil => simp [Sparse.wf, Sparse.Rising]
  | cons b bs ih =>
    obtain ⟨⟨r, d⟩, lt⟩ := ih (n + 1)
    by_cases hb : b = 0xFF
    · refine ⟨⟨?_, ?_⟩, ?_⟩ <;> simp only [List.zipIdx_cons, List.filterMap_cons, hb, if_true]
      · exact r
      · exact d
      · intro e he; have := lt e he; simp only [List.length_cons]; omega
    · refine ⟨⟨?_, ?_⟩, ?_⟩ <;> simp only [List.zipIdx_cons, List.filterMap_cons, hb, if_false]
      · refine List.pairwise_cons.2 ⟨fun e he => ?_, r⟩
        have := lt e he; simp only; omega
      · intro e he
        rcases List.mem_cons.1 he with rfl | he
        · exact hb
        · exact d e he
      · intro e he
        simp only [List.length_cons]
        rcases List.mem_cons.1 he with rfl | he
        · constructor <;> simp only <;> omega
        · have := lt e he; omega

/-- A write of the flash contents keeps their canonical form. -/
theorem flashPut_wf (addr : Nat) (bytes : List Byte) (m : Sparse Byte) (h : Sparse.wf (fun _ => 0xFF#8) m) :
    Sparse.wf (fun _ => 0xFF#8) (flashPut addr bytes m) := by
  obtain ⟨⟨r, d⟩, lt⟩ := listed_at addr bytes 0
  unfold flashPut
  constructor
  · refine List.pairwise_append.2 ⟨List.pairwise_append.2 ⟨h.1.filter _, r, ?_⟩, h.1.filter _, ?_⟩
    · intro a ha b hb
      have := lt b hb
      simp only [List.mem_filter, decide_eq_true_eq] at ha
      omega
    · intro a ha b hb
      simp only [List.mem_append, List.mem_filter, decide_eq_true_eq] at ha hb
      rcases ha with ha | ha
      · omega
      · have := lt a ha; omega
  · intro e he
    simp only [List.mem_append, List.mem_filter] at he
    rcases he with (he | he) | he
    · exact h.2 e he.1
    · exact d e he
    · exact h.2 e he.1

/-- The flash contents keep the canonical form that the state's own have. -/
def CanonNvm (s : State) (v : Nvm) : Prop := Sparse.wf (fun _ => 0xFF#8) s.nvm.flash → Sparse.wf (fun _ => 0xFF#8) v.flash

theorem canon_same {s : State} {v : Nvm} (e : v.flash = s.nvm.flash) : CanonNvm s v := by
  intro h
  rw [e]
  exact h

theorem canon_calRun (s : State) (x : Option CalRun) : CanonNvm s { s.nvm with calRun := x } := canon_same rfl

/-- The property stands whatever field `nvm` becomes, so long as the flash contents keep their canonical form. -/
def Ignores.nvm (π : State → Prop) : Prop := ∀ (s : State) (v : Nvm), CanonNvm s v → π s → π { s with nvm := v }

/-- The property stands whatever field `update` becomes. -/
def Ignores.update (π : State → Prop) : Prop := ∀ (s : State) (v : Update), π s → π { s with update := v }

/-- The property stands whatever field `beat` becomes. -/
def Ignores.beat (π : State → Prop) : Prop := ∀ (s : State) (v : Heartbeat), π s → π { s with beat := v }

/-- The property stands whatever field `tap` becomes. -/
def Ignores.tap (π : State → Prop) : Prop := ∀ (s : State) (v : Tap), π s → π { s with tap := v }

/-- The property stands whatever field `hostPort` becomes. -/
def Ignores.hostPort (π : State → Prop) : Prop := ∀ (s : State) (v : HostPort), π s → π { s with hostPort := v }

/-- The property stands whatever field `lanes` becomes. -/
def Ignores.lanes (π : State → Prop) : Prop := ∀ (s : State) (v : Lanes), π s → π { s with lanes := v }

/-- The property stands whatever field `quartz` becomes. -/
def Ignores.quartz (π : State → Prop) : Prop := ∀ (s : State) (v : Quartz), π s → π { s with quartz := v }

/-- The property stands whatever field `tile` becomes. -/
def Ignores.tile (π : State → Prop) : Prop := ∀ (s : State) (v : TileChain), π s → π { s with tile := v }

/-- The property stands whatever field `ports` becomes. -/
def Ignores.ports (π : State → Prop) : Prop := ∀ (s : State) (v : Vector ChainPort 2), π s → π { s with ports := v }

/-- The property stands whatever field `cascade` becomes. -/
def Ignores.cascade (π : State → Prop) : Prop := ∀ (s : State) (v : Cascade), π s → π { s with cascade := v }

/-- The property stands whatever field `ingress` becomes. -/
def Ignores.ingress (π : State → Prop) : Prop := ∀ (s : State) (v : Ingress), π s → π { s with ingress := v }

/-- The property stands whatever field `video` becomes. -/
def Ignores.video (π : State → Prop) : Prop := ∀ (s : State) (v : Video), π s → π { s with video := v }

/-- The property stands whatever field `lamps` becomes. -/
def Ignores.lamps (π : State → Prop) : Prop := ∀ (s : State) (v : Lamps), π s → π { s with lamps := v }

/-- The property stands whatever field `sent` becomes. -/
def Ignores.sent (π : State → Prop) : Prop := ∀ (s : State) (v : List Out), π s → π { s with sent := v }

/-- The property stands whatever field `freeCount` becomes. -/
def Ignores.freeCount (π : State → Prop) : Prop := ∀ (s : State) (v : Nat), π s → π { s with freeCount := v }

/-- The property stands whatever field `pending` becomes. -/
def Ignores.pending (π : State → Prop) : Prop := ∀ (s : State) (v : List Instr), π s → π { s with pending := v }

section
variable {π : State → Prop}

theorem keeps_set_now {s : State} {v : Nat} (i : Ignores.now π) (k : Keeps π s) : Keeps π { s with now := v } :=
  i s v k

theorem keeps_set_role {s : State} {v : Role} (i : Ignores.role π) (k : Keeps π s) : Keeps π { s with role := v
  } := i s v k

theorem keeps_set_life {s : State} {v : Life} (i : Ignores.life π) (k : Keeps π s) : Keeps π { s with life := v
  } := i s v k

theorem keeps_set_straps {s : State} {v : BitVec 4} (i : Ignores.straps π) (k : Keeps π s) : Keeps π { s with
  straps := v } := i s v k

theorem keeps_set_railsGood {s : State} {v : Bool} (i : Ignores.railsGood π) (k : Keeps π s) : Keeps π { s with
  railsGood := v } := i s v k

theorem keeps_set_od {s : State} {v : Sparse Val} (i : Ignores.od π) (c : CanonOd s v) (k : Keeps π s) : Keeps π { s with od := v
  } := i s v c k

theorem keeps_set_control {s : State} {v : Control} (i : Ignores.control π) (k : Keeps π s) : Keeps π { s with
  control := v } := i s v k

theorem keeps_set_clocks {s : State} {v : Clocks} (i : Ignores.clocks π) (k : Keeps π s) : Keeps π { s with
  clocks := v } := i s v k

theorem keeps_set_thermal {s : State} {v : Thermal} (i : Ignores.thermal π) (k : Keeps π s) : Keeps π { s with
  thermal := v } := i s v k

theorem keeps_set_otp {s : State} {v : Otp} (i : Ignores.otp π) (c : CanonOtp s v) (k : Keeps π s) :
    Keeps π { s with otp := v } := i s v c k

theorem keeps_set_nvm {s : State} {v : Nvm} (i : Ignores.nvm π) (c : CanonNvm s v) (k : Keeps π s) :
    Keeps π { s with nvm := v } := i s v c k

theorem keeps_set_update {s : State} {v : Update} (i : Ignores.update π) (k : Keeps π s) : Keeps π { s with
  update := v } := i s v k

theorem keeps_set_beat {s : State} {v : Heartbeat} (i : Ignores.beat π) (k : Keeps π s) : Keeps π { s with beat
  := v } := i s v k

theorem keeps_set_tap {s : State} {v : Tap} (i : Ignores.tap π) (k : Keeps π s) : Keeps π { s with tap := v } :=
  i s v k

theorem keeps_set_hostPort {s : State} {v : HostPort} (i : Ignores.hostPort π) (k : Keeps π s) : Keeps π { s
  with hostPort := v } := i s v k

theorem keeps_set_lanes {s : State} {v : Lanes} (i : Ignores.lanes π) (k : Keeps π s) : Keeps π { s with lanes
  := v } := i s v k

theorem keeps_set_quartz {s : State} {v : Quartz} (i : Ignores.quartz π) (k : Keeps π s) : Keeps π { s with
  quartz := v } := i s v k

theorem keeps_set_tile {s : State} {v : TileChain} (i : Ignores.tile π) (k : Keeps π s) : Keeps π { s with tile
  := v } := i s v k

theorem keeps_set_ports {s : State} {v : Vector ChainPort 2} (i : Ignores.ports π) (k : Keeps π s) : Keeps π { s
  with ports := v } := i s v k

theorem keeps_set_cascade {s : State} {v : Cascade} (i : Ignores.cascade π) (k : Keeps π s) : Keeps π { s with
  cascade := v } := i s v k

theorem keeps_set_ingress {s : State} {v : Ingress} (i : Ignores.ingress π) (k : Keeps π s) : Keeps π { s with
  ingress := v } := i s v k

theorem keeps_set_video {s : State} {v : Video} (i : Ignores.video π) (k : Keeps π s) : Keeps π { s with video
  := v } := i s v k

theorem keeps_set_lamps {s : State} {v : Lamps} (i : Ignores.lamps π) (k : Keeps π s) : Keeps π { s with lamps
  := v } := i s v k

theorem keeps_set_sent {s : State} {v : List Out} (i : Ignores.sent π) (k : Keeps π s) : Keeps π { s with sent
  := v } := i s v k

theorem keeps_set_freeCount {s : State} {v : Nat} (i : Ignores.freeCount π) (k : Keeps π s) : Keeps π { s with
  freeCount := v } := i s v k

theorem keeps_set_pending {s : State} {v : List Instr} (i : Ignores.pending π) (k : Keeps π s) : Keeps π { s
  with pending := v } := i s v k

theorem keeps_set_life_nvm_update_tile_ports_cascade_ingress_video_lamps {s : State} {v0 : Life} {v1 : Nvm} {v2 :
  Update} {v3 : TileChain} {v4 : Vector ChainPort 2} {v5 : Cascade} {v6 : Ingress} {v7 : Video} {v8 : Lamps} (igLife :
  Ignores.life π) (igNvm : Ignores.nvm π) (canonNvm : CanonNvm s v1) (igUpdate : Ignores.update π) (igTile : Ignores.tile π) (igPorts :
  Ignores.ports π) (igCascade : Ignores.cascade π) (igIngress : Ignores.ingress π) (igVideo : Ignores.video π)
  (igLamps : Ignores.lamps π) (k : Keeps π s) :
    Keeps π { s with
      life := v0
      nvm := v1
      update := v2
      tile := v3
      ports := v4
      cascade := v5
      ingress := v6
      video := v7
      lamps := v8 } := by
  replace k := keeps_set_life (v := v0) igLife k
  try dsimp only at k
  replace k := keeps_set_nvm (v := v1) igNvm (by exact canonNvm) k
  try dsimp only at k
  replace k := keeps_set_update (v := v2) igUpdate k
  try dsimp only at k
  replace k := keeps_set_tile (v := v3) igTile k
  try dsimp only at k
  replace k := keeps_set_ports (v := v4) igPorts k
  try dsimp only at k
  replace k := keeps_set_cascade (v := v5) igCascade k
  try dsimp only at k
  replace k := keeps_set_ingress (v := v6) igIngress k
  try dsimp only at k
  replace k := keeps_set_video (v := v7) igVideo k
  try dsimp only at k
  replace k := keeps_set_lamps (v := v8) igLamps k
  try dsimp only at k
  exact k

theorem keeps_set_nvm_freeCount {s : State} {v0 : Nvm} {v1 : Nat} (igNvm : Ignores.nvm π) (canonNvm : CanonNvm s v0) (igFreeCount :
  Ignores.freeCount π) (k : Keeps π s) :
    Keeps π { s with
      nvm := v0
      freeCount := v1 } := by
  replace k := keeps_set_nvm (v := v0) igNvm (by exact canonNvm) k
  try dsimp only at k
  replace k := keeps_set_freeCount (v := v1) igFreeCount k
  try dsimp only at k
  exact k

theorem
  keeps_set_life_od_control_clocks_thermal_nvm_update_beat_tap_hostPort_lanes_quartz_tile_ports_cascade_ingress_video_lamps
  {s : State} {v0 : Life} {v1 : Sparse Val} {v2 : Control} {v3 : Clocks} {v4 : Thermal} {v5 : Nvm} {v6 : Update} {v7 :
  Heartbeat} {v8 : Tap} {v9 : HostPort} {v10 : Lanes} {v11 : Quartz} {v12 : TileChain} {v13 : Vector ChainPort 2} {v14
  : Cascade} {v15 : Ingress} {v16 : Video} {v17 : Lamps} (igLife : Ignores.life π) (igOd : Ignores.od π) (canon : CanonOd s v1) (igControl :
  Ignores.control π) (igClocks : Ignores.clocks π) (igThermal : Ignores.thermal π) (igNvm : Ignores.nvm π) (canonNvm : CanonNvm s v5) (igUpdate :
  Ignores.update π) (igBeat : Ignores.beat π) (igTap : Ignores.tap π) (igHostPort : Ignores.hostPort π) (igLanes :
  Ignores.lanes π) (igQuartz : Ignores.quartz π) (igTile : Ignores.tile π) (igPorts : Ignores.ports π) (igCascade :
  Ignores.cascade π) (igIngress : Ignores.ingress π) (igVideo : Ignores.video π) (igLamps : Ignores.lamps π) (k :
  Keeps π s) :
    Keeps π { s with
      life := v0
      od := v1
      control := v2
      clocks := v3
      thermal := v4
      nvm := v5
      update := v6
      beat := v7
      tap := v8
      hostPort := v9
      lanes := v10
      quartz := v11
      tile := v12
      ports := v13
      cascade := v14
      ingress := v15
      video := v16
      lamps := v17 } := by
  replace k := keeps_set_life (v := v0) igLife k
  try dsimp only at k
  replace k := keeps_set_od (v := v1) igOd (by exact canon) k
  try dsimp only at k
  replace k := keeps_set_control (v := v2) igControl k
  try dsimp only at k
  replace k := keeps_set_clocks (v := v3) igClocks k
  try dsimp only at k
  replace k := keeps_set_thermal (v := v4) igThermal k
  try dsimp only at k
  replace k := keeps_set_nvm (v := v5) igNvm (by exact canonNvm) k
  try dsimp only at k
  replace k := keeps_set_update (v := v6) igUpdate k
  try dsimp only at k
  replace k := keeps_set_beat (v := v7) igBeat k
  try dsimp only at k
  replace k := keeps_set_tap (v := v8) igTap k
  try dsimp only at k
  replace k := keeps_set_hostPort (v := v9) igHostPort k
  try dsimp only at k
  replace k := keeps_set_lanes (v := v10) igLanes k
  try dsimp only at k
  replace k := keeps_set_quartz (v := v11) igQuartz k
  try dsimp only at k
  replace k := keeps_set_tile (v := v12) igTile k
  try dsimp only at k
  replace k := keeps_set_ports (v := v13) igPorts k
  try dsimp only at k
  replace k := keeps_set_cascade (v := v14) igCascade k
  try dsimp only at k
  replace k := keeps_set_ingress (v := v15) igIngress k
  try dsimp only at k
  replace k := keeps_set_video (v := v16) igVideo k
  try dsimp only at k
  replace k := keeps_set_lamps (v := v17) igLamps k
  try dsimp only at k
  exact k

theorem keeps_set_od_lanes {s : State} {v0 : Sparse Val} {v1 : Lanes} (igOd : Ignores.od π) (canon : CanonOd s v0) (igLanes :
  Ignores.lanes π) (k : Keeps π s) :
    Keeps π { s with
      od := v0
      lanes := v1 } := by
  replace k := keeps_set_od (v := v0) igOd (by exact canon) k
  try dsimp only at k
  replace k := keeps_set_lanes (v := v1) igLanes k
  try dsimp only at k
  exact k

theorem keeps_set_od_tile {s : State} {v0 : Sparse Val} {v1 : TileChain} (igOd : Ignores.od π) (canon : CanonOd s v0) (igTile : Ignores.tile
  π) (k : Keeps π s) :
    Keeps π { s with
      od := v0
      tile := v1 } := by
  replace k := keeps_set_od (v := v0) igOd (by exact canon) k
  try dsimp only at k
  replace k := keeps_set_tile (v := v1) igTile k
  try dsimp only at k
  exact k

theorem keeps_set_tile_lamps {s : State} {v0 : TileChain} {v1 : Lamps} (igTile : Ignores.tile π) (igLamps :
  Ignores.lamps π) (k : Keeps π s) :
    Keeps π { s with
      tile := v0
      lamps := v1 } := by
  replace k := keeps_set_tile (v := v0) igTile k
  try dsimp only at k
  replace k := keeps_set_lamps (v := v1) igLamps k
  try dsimp only at k
  exact k

theorem keeps_set_now_quartz {s : State} {v0 : Nat} {v1 : Quartz} (igNow : Ignores.now π) (igQuartz : Ignores.quartz
  π) (k : Keeps π s) :
    Keeps π { s with
      now := v0
      quartz := v1 } := by
  replace k := keeps_set_now (v := v0) igNow k
  try dsimp only at k
  replace k := keeps_set_quartz (v := v1) igQuartz k
  try dsimp only at k
  exact k

theorem keeps_set_tap_lanes_tile_ports_lamps {s : State} {v0 : Tap} {v1 : Lanes} {v2 : TileChain} {v3 : Vector
  ChainPort 2} {v4 : Lamps} (igTap : Ignores.tap π) (igLanes : Ignores.lanes π) (igTile : Ignores.tile π) (igPorts :
  Ignores.ports π) (igLamps : Ignores.lamps π) (k : Keeps π s) :
    Keeps π { s with
      tap := v0
      lanes := v1
      tile := v2
      ports := v3
      lamps := v4 } := by
  replace k := keeps_set_tap (v := v0) igTap k
  try dsimp only at k
  replace k := keeps_set_lanes (v := v1) igLanes k
  try dsimp only at k
  replace k := keeps_set_tile (v := v2) igTile k
  try dsimp only at k
  replace k := keeps_set_ports (v := v3) igPorts k
  try dsimp only at k
  replace k := keeps_set_lamps (v := v4) igLamps k
  try dsimp only at k
  exact k

theorem keeps_set_role_life_straps_railsGood_otp_ingress {s : State} {v0 : Role} {v1 : Life} {v2 : BitVec 4} {v3 :
  Bool} {v4 : Otp} {v5 : Ingress} (igRole : Ignores.role π) (igLife : Ignores.life π) (igStraps : Ignores.straps π)
  (igRailsGood : Ignores.railsGood π) (igOtp : Ignores.otp π) (igIngress : Ignores.ingress π) (canonOtp : CanonOtp s v4) (k : Keeps π s) :
    Keeps π { s with
      role := v0
      life := v1
      straps := v2
      railsGood := v3
      otp := v4
      ingress := v5 } := by
  replace k := keeps_set_role (v := v0) igRole k
  try dsimp only at k
  replace k := keeps_set_life (v := v1) igLife k
  try dsimp only at k
  replace k := keeps_set_straps (v := v2) igStraps k
  try dsimp only at k
  replace k := keeps_set_railsGood (v := v3) igRailsGood k
  try dsimp only at k
  replace k := keeps_set_otp (v := v4) igOtp (by exact canonOtp) k
  try dsimp only at k
  replace k := keeps_set_ingress (v := v5) igIngress k
  try dsimp only at k
  exact k

theorem keeps_ite {c : Prop} [Decidable c] {a b : State} (ha : Keeps π a) (hb : Keeps π b) : Keeps π (if c
  then a else b) := by
  split <;> assumption

theorem keeps_dite {c : Prop} [Decidable c] {a : c → State} {b : ¬c → State} (ha : ∀ h, Keeps π (a h)) (hb : ∀ h,
  Keeps π (b h)) :
    Keeps π (if h : c then a h else b h) := by
  split
  · exact ha _
  · exact hb _

theorem keeps_ite_snd {γ : Type} {c : Prop} [Decidable c] {a b : γ × State} (ha : Keeps π a.2) (hb : Keeps π b.2) :
    Keeps π (if c then a else b).2 := by
  split <;> assumption

theorem keeps_dite_snd {γ : Type} {c : Prop} [Decidable c] {a : c → γ × State} {b : ¬c → γ × State} (ha : ∀ h, Keeps π (a h).2)
    (hb : ∀ h, Keeps π (b h).2) : Keeps π (if h : c then a h else b h).2 := by
  split
  · exact ha _
  · exact hb _

theorem keeps_ite_snd2 {γ δ : Type} {c : Prop} [Decidable c] {a b : γ × δ × State} (ha : Keeps π a.2.2) (hb : Keeps
  π b.2.2) :
    Keeps π (if c then a else b).2.2 := by
  split <;> assumption

theorem keeps_pair {γ : Type} {p : γ × State} {a : γ} {s : State} (hk : Keeps π p.2) (h : p = (a, s)) : Keeps π s := by
  subst h; exact hk

theorem keeps_triple {γ δ : Type} {p : γ × δ × State} {a : γ} {b : δ} {s : State} (hk : Keeps π p.2.2) (h : p = (a,
  b, s)) : Keeps π s := by
  subst h; exact hk

theorem keeps_mk_snd {γ : Type} {a : γ} {s : State} (k : Keeps π s) : Keeps π (a, s).2 := k

theorem keeps_foldl_snd {γ δ : Type} {f : δ × State → γ → δ × State} {l : List γ} {a : δ × State} (h : ∀ a x, Keeps π a.2 → Keeps π (f a x).2) (k : Keeps π a.2) :
    Keeps π (l.foldl f a).2 := by
  induction l generalizing a with
  | nil => exact k
  | cons x xs ih => exact ih (h a x k)

theorem keeps_foldl {γ : Type} {f : State → γ → State} {l : List γ} {s : State} (h : ∀ s x, Keeps π s → Keeps π
  (f s x)) (k : Keeps π s) :
    Keeps π (l.foldl f s) := by
  induction l generalizing s with
  | nil => exact k
  | cons x xs ih => exact ih (h s x k)

end

/-- Every next state that the outcome answers has the property. -/
structure KeepsO (π : State → Prop) (o : Out1) : Prop where
  next : ∀ t, o = .next t → Keeps π t

section
variable {π : State → Prop}

theorem keepsO_next {s : State} (k : Keeps π s) : KeepsO π (.next s) := by
  exact ⟨fun t h => by cases h; exact k⟩

theorem keepsO_ite {c : Prop} [Decidable c] {a b : Out1} (ha : KeepsO π a) (hb : KeepsO π b) : KeepsO π (if c
  then a else b) := by
  split <;> assumption

theorem keepsO_dite {c : Prop} [Decidable c] {a : c → Out1} {b : ¬c → Out1} (ha : ∀ h, KeepsO π (a h)) (hb : ∀ h,
  KeepsO π (b h)) :
    KeepsO π (if h : c then a h else b h) := by
  split
  · exact ha _
  · exact hb _

theorem keeps_id {s : State} (k : Keeps π s) : Keeps π (id s) := k

theorem keeps_outState {o : Out1} {s : State} (h : KeepsO π o) (k : Keeps π s) : Keeps π (outState o s) := by
  unfold outState
  split
  · exact h.next _ rfl
  · exact k

end

end Sys2Proof.Machine
end

