-- ==== Sys2Proof/Laws/KeptShared.lean ====
section
/-! SUPPORT. What each operation can change, one lemma for each, in the words of `Keeps`: the shared operations: registers, events, layers, commits, cells, lanes, timing, mailboxes and access. -/

namespace Sys2Proof.Machine
open Host

variable {π : State → Prop}

theorem kept_wr (igOd : Ignores.od π) (s : State) (a1 a2 : Nat) (a3 : Val) (k : Keeps π s) :
    Keeps π (State.wr s a1 a2 a3) := by
  unfold State.wr
  repeat' (first
    | exact canon_wr _ _ _ _
    | exact canon_filter _ _
    | exact canon_reload _ _ _
    | exact canon_nil _
    | exact canon_rekeyed _
    | with_reducible assumption
    | intro _
    | (with_reducible first
        | apply keeps_ite | apply keeps_ite_snd)
    | split
    | simp -iota -proj only []
    | dsimp only
    | with_reducible apply keeps_set_od)

theorem kept_wrN (igOd : Ignores.od π) (s : State) (a1 a2 a3 : Nat) (k : Keeps π s) :
    Keeps π (State.wrN s a1 a2 a3) := by
  unfold State.wrN
  repeat' (first
    | with_reducible assumption
    | intro _
    | (with_reducible first
        | apply keeps_ite | apply keeps_ite_snd | apply kept_wr))

theorem kept_bump (igOd : Ignores.od π) (s : State) (a1 a2 a3 : Nat) (k : Keeps π s) :
    Keeps π (State.bump s a1 a2 a3) := by
  unfold State.bump
  repeat' (first
    | with_reducible assumption
    | intro _
    | (with_reducible first
        | apply keeps_ite | apply keeps_ite_snd | apply kept_wrN))

theorem kept_emit (igSent : Ignores.sent π) (s : State) (a1 : Out) (k : Keeps π s) :
    Keeps π (State.emit s a1) := by
  unfold State.emit
  repeat' (first
    | with_reducible assumption
    | intro _
    | (with_reducible first
        | apply keeps_ite | apply keeps_ite_snd)
    | split
    | simp -iota -proj only []
    | dsimp only
    | with_reducible apply keeps_set_sent)

theorem kept_drainEmcy (igControl : Ignores.control π) (igSent : Ignores.sent π) (s : State) (k : Keeps π s) :
    Keeps π (State.drainEmcy s) := by
  unfold State.drainEmcy
  repeat' (first
    | with_reducible assumption
    | intro _
    | (with_reducible first
        | apply keeps_ite | apply keeps_ite_snd | apply kept_emit)
    | split
    | simp -iota -proj only []
    | dsimp only
    | with_reducible apply keeps_set_control)

theorem kept_sendEmcy (igControl : Ignores.control π) (igSent : Ignores.sent π) (s : State) (a1 : List Byte) (k :
  Keeps π s) :
    Keeps π (State.sendEmcy s a1) := by
  unfold State.sendEmcy
  repeat' (first
    | with_reducible assumption
    | intro _
    | (with_reducible first
        | apply keeps_ite | apply keeps_ite_snd | apply kept_drainEmcy | apply kept_emit)
    | split
    | simp -iota -proj only []
    | dsimp only
    | with_reducible apply keeps_set_control)

theorem kept_note (igOd : Ignores.od π) (igControl : Ignores.control π) (igSent : Ignores.sent π) (s : State) (a1 a2 :
  Nat) (k : Keeps π s) :
    Keeps π (State.note s a1 a2) := by
  unfold State.note
  repeat' (first
    | with_reducible assumption
    | intro _
    | (with_reducible first
        | apply keeps_ite | apply keeps_ite_snd | apply kept_wrN | apply kept_bump | apply kept_sendEmcy)
    | split
    | simp -iota -proj only []
    | dsimp only
    | with_reducible apply keeps_set_control)

theorem kept_loseRecord (igOd : Ignores.od π) (igControl : Ignores.control π) (igSent : Ignores.sent π) (s : State) (k
  : Keeps π s) :
    Keeps π (State.loseRecord s) := by
  unfold State.loseRecord
  repeat' (first
    | with_reducible assumption
    | intro _
    | (with_reducible first
        | apply keeps_ite | apply keeps_ite_snd | apply kept_bump | apply kept_note))

theorem kept_withBb (igNvm : Ignores.nvm π) (s : State) (a1 : BlackBox → BlackBox) (k : Keeps π s) :
    Keeps π (State.withBb s a1) := by
  unfold State.withBb
  repeat' (first
    | exact fun h => h
    | exact canon_calRun _ _
    | exact fun h => flashPut_wf _ _ _ h
    | with_reducible assumption
    | intro _
    | (with_reducible first
        | apply keeps_ite | apply keeps_ite_snd)
    | split
    | simp -iota -proj only []
    | dsimp only
    | with_reducible apply keeps_set_nvm)

theorem kept_stage (igOd : Ignores.od π) (igControl : Ignores.control π) (igNvm : Ignores.nvm π) (igSent :
  Ignores.sent π) (s : State) (a1 : Flint) (k : Keeps π s) :
    Keeps π (State.stage s a1) := by
  unfold State.stage
  repeat' (first
    | with_reducible assumption
    | intro _
    | (with_reducible first
        | apply keeps_ite | apply keeps_ite_snd | apply kept_withBb | apply kept_loseRecord)
    | split)

theorem kept_setLimiter (igControl : Ignores.control π) (s : State) (a1 : Limiter) (k : Keeps π s) :
    Keeps π (State.setLimiter s a1) := by
  unfold State.setLimiter
  repeat' (first
    | with_reducible assumption
    | intro _
    | (with_reducible first
        | apply keeps_ite | apply keeps_ite_snd)
    | split
    | simp -iota -proj only []
    | dsimp only
    | with_reducible apply keeps_set_control)

theorem kept_record (igOd : Ignores.od π) (igControl : Ignores.control π) (igNvm : Ignores.nvm π) (igSent :
  Ignores.sent π) (s : State) (a1 a2 : Nat) (a3 : List Byte) (k : Keeps π s) :
    Keeps π (State.record s a1 a2 a3) := by
  unfold State.record
  repeat' (first
    | with_reducible assumption
    | intro _
    | (with_reducible first
        | apply keeps_ite | apply keeps_ite_snd | apply kept_withBb | apply kept_bump | apply kept_note
        | apply kept_setLimiter | apply kept_stage))

theorem kept_raiseWith (igOd : Ignores.od π) (igControl : Ignores.control π) (igNvm : Ignores.nvm π) (igSent :
  Ignores.sent π) (s : State) (a1 a2 : Nat) (a3 : List Byte) (k : Keeps π s) :
    Keeps π (State.raiseWith s a1 a2 a3) := by
  unfold State.raiseWith
  repeat' (first
    | with_reducible assumption
    | intro _
    | (with_reducible first
        | apply keeps_ite | apply keeps_ite_snd | apply kept_note | apply kept_record))

theorem kept_raise (igOd : Ignores.od π) (igControl : Ignores.control π) (igNvm : Ignores.nvm π) (igSent :
  Ignores.sent π) (s : State) (a1 a2 : Nat) (k : Keeps π s) :
    Keeps π (State.raise s a1 a2) := by
  unfold State.raise
  repeat' (first
    | with_reducible assumption
    | intro _
    | (with_reducible first
        | apply keeps_ite | apply keeps_ite_snd | apply kept_raiseWith))

theorem kept_wrI (igOd : Ignores.od π) (s : State) (a1 a2 : Nat) (a3 : Int) (k : Keeps π s) :
    Keeps π (State.wrI s a1 a2 a3) := by
  unfold State.wrI
  repeat' (first
    | with_reducible assumption
    | intro _
    | (with_reducible first
        | apply keeps_ite | apply keeps_ite_snd | apply kept_wr))

theorem kept_wrD (igOd : Ignores.od π) (s : State) (a1 a2 : Nat) (a3 : List Byte) (k : Keeps π s) :
    Keeps π (State.wrD s a1 a2 a3) := by
  unfold State.wrD
  repeat' (first
    | with_reducible assumption
    | intro _
    | (with_reducible first
        | apply keeps_ite | apply keeps_ite_snd | apply kept_wr))

theorem kept_raiseLimited (igOd : Ignores.od π) (igControl : Ignores.control π) (igNvm : Ignores.nvm π) (igSent :
  Ignores.sent π) (s : State) (a1 a2 a3 : Nat) (a4 : Nat → Nat) (a5 : optParam (List Byte) []) (k : Keeps π s) :
    Keeps π (State.raiseLimited s a1 a2 a3 a4 a5) := by
  unfold State.raiseLimited
  repeat' (first
    | with_reducible assumption
    | intro _
    | (with_reducible first
        | apply keeps_ite | apply keeps_ite_snd | apply kept_raiseWith | apply kept_setLimiter))

theorem kept_wrB (igOd : Ignores.od π) (s : State) (a1 a2 : Nat) (a3 : Bool) (k : Keeps π s) :
    Keeps π (State.wrB s a1 a2 a3) := by
  unfold State.wrB
  repeat' (first
    | with_reducible assumption
    | intro _
    | (with_reducible first
        | apply keeps_ite | apply keeps_ite_snd | apply kept_wr))

theorem kept_cause (igOd : Ignores.od π) (s : State) (a1 : Nat) (k : Keeps π s) :
    Keeps π (State.cause s a1) := by
  unfold State.cause
  repeat' (first
    | with_reducible assumption
    | intro _
    | (with_reducible first
        | apply keeps_ite | apply keeps_ite_snd | apply kept_wrN))

theorem kept_raiseIf (igOd : Ignores.od π) (igControl : Ignores.control π) (igNvm : Ignores.nvm π) (igSent :
  Ignores.sent π) (s : State) (a1 : Bool) (a2 a3 : Nat) (k : Keeps π s) :
    Keeps π (State.raiseIf s a1 a2 a3) := by
  unfold State.raiseIf
  repeat' (first
    | with_reducible assumption
    | intro _
    | (with_reducible first
        | apply keeps_ite | apply keeps_ite_snd | apply kept_raise))

theorem kept_startRun (igOd : Ignores.od π) (s : State) (a1 a2 : Nat) (k : Keeps π s) :
    Keeps π (State.startRun s a1 a2) := by
  unfold State.startRun
  repeat' (first
    | with_reducible assumption
    | intro _
    | (with_reducible first
        | apply keeps_ite | apply keeps_ite_snd | apply kept_wrN))

theorem kept_publish (igOd : Ignores.od π) (s : State) (a1 a2 a3 : Nat) (a4 : Bool) (k : Keeps π s) :
    Keeps π (State.publish s a1 a2 a3 a4) := by
  unfold State.publish
  repeat' (first
    | with_reducible assumption
    | intro _
    | (with_reducible first
        | apply keeps_ite | apply keeps_ite_snd | apply kept_wrN))

theorem kept_zero (igOd : Ignores.od π) (s : State) (a1 : Nat) (a2 : List Nat) (k : Keeps π s) :
    Keeps π (State.zero s a1 a2) := by
  unfold State.zero
  repeat' (first
    | with_reducible assumption
    | intro _
    | (with_reducible first
        | apply keeps_ite | apply keeps_ite_snd | apply keeps_foldl | apply kept_wrN))

theorem kept_nonce (igFreeCount : Ignores.freeCount π) (s : State) (k : Keeps π s) :
    Keeps π (State.nonce s).2 := by
  unfold State.nonce
  repeat' (first
    | with_reducible assumption
    | intro _
    | (with_reducible first
        | apply keeps_ite | apply keeps_ite_snd)
    | split
    | simp -iota -proj only []
    | dsimp only
    | with_reducible apply keeps_set_freeCount)

theorem kept_until_ (igNow : Ignores.now π) (igQuartz : Ignores.quartz π) (s : State) (a1 : Nat) (k : Keeps π s) :
    Keeps π (State.until_ s a1) := by
  unfold State.until_
  repeat' (first
    | with_reducible assumption
    | intro _
    | (with_reducible first
        | apply keeps_ite | apply keeps_ite_snd)
    | split
    | simp -iota -proj only []
    | dsimp only
    | with_reducible apply keeps_set_now_quartz)

theorem kept_untilWall (igNow : Ignores.now π) (igQuartz : Ignores.quartz π) (s : State) (a1 : Nat) (k : Keeps π s) :
    Keeps π (State.untilWall s a1) := by
  unfold State.untilWall
  repeat' (first
    | with_reducible assumption
    | intro _
    | (with_reducible first
        | apply keeps_ite | apply keeps_ite_snd)
    | split
    | simp -iota -proj only []
    | dsimp only
    | with_reducible apply keeps_set_now_quartz)

theorem kept_pass (igNow : Ignores.now π) (igQuartz : Ignores.quartz π) (s : State) (a1 : Nat) (k : Keeps π s) :
    Keeps π (State.pass s a1) := by
  unfold State.pass
  repeat' (first
    | with_reducible assumption
    | intro _
    | (with_reducible first
        | apply keeps_ite | apply keeps_ite_snd | apply kept_until_))

theorem kept_freeNat (igFreeCount : Ignores.freeCount π) (s : State) (k : Keeps π s) :
    Keeps π (State.freeNat s).2 := by
  unfold State.freeNat
  repeat' (first
    | with_reducible assumption
    | intro _
    | (with_reducible first
        | apply keeps_ite | apply keeps_ite_snd)
    | split
    | simp -iota -proj only []
    | dsimp only
    | with_reducible apply keeps_set_freeCount)

theorem kept_emits (igSent : Ignores.sent π) (s : State) (a1 : List Out) (k : Keeps π s) :
    Keeps π (State.emits s a1) := by
  unfold State.emits
  repeat' (first
    | with_reducible assumption
    | intro _
    | (with_reducible first
        | apply keeps_ite | apply keeps_ite_snd)
    | split
    | simp -iota -proj only []
    | dsimp only
    | with_reducible apply keeps_set_sent)

theorem kept_withCompose (igVideo : Ignores.video π) (s : State) (a1 : Compose → Compose) (k : Keeps π s) :
    Keeps π (State.withCompose s a1) := by
  unfold State.withCompose
  repeat' (first
    | with_reducible assumption
    | intro _
    | (with_reducible first
        | apply keeps_ite | apply keeps_ite_snd)
    | split
    | simp -iota -proj only []
    | dsimp only
    | with_reducible apply keeps_set_video)

theorem kept_withColour (igVideo : Ignores.video π) (s : State) (a1 : Colour → Colour) (k : Keeps π s) :
    Keeps π (State.withColour s a1) := by
  unfold State.withColour
  repeat' (first
    | with_reducible assumption
    | intro _
    | (with_reducible first
        | apply keeps_ite | apply keeps_ite_snd)
    | split
    | simp -iota -proj only []
    | dsimp only
    | with_reducible apply keeps_set_video)

theorem kept_withStore (igVideo : Ignores.video π) (s : State) (a1 : FrameStore → FrameStore) (k : Keeps π s) :
    Keeps π (State.withStore s a1) := by
  unfold State.withStore
  repeat' (first
    | with_reducible assumption
    | intro _
    | (with_reducible first
        | apply keeps_ite | apply keeps_ite_snd)
    | split
    | simp -iota -proj only []
    | dsimp only
    | with_reducible apply keeps_set_video)

theorem kept_withClocks (igClocks : Ignores.clocks π) (s : State) (a1 : Clocks → Clocks) (k : Keeps π s) :
    Keeps π (State.withClocks s a1) := by
  unfold State.withClocks
  repeat' (first
    | with_reducible assumption
    | intro _
    | (with_reducible first
        | apply keeps_ite | apply keeps_ite_snd)
    | split
    | simp -iota -proj only []
    | dsimp only
    | with_reducible apply keeps_set_clocks)

theorem kept_commandLevel (igOd : Ignores.od π) (igSent : Ignores.sent π) (s : State) (a1 : Nat) (k : Keeps π s) :
    Keeps π (State.commandLevel s a1) := by
  unfold State.commandLevel
  repeat' (first
    | with_reducible assumption
    | intro _
    | (with_reducible first
        | apply keeps_ite | apply keeps_ite_snd | apply kept_emit | apply kept_wrN))

theorem kept_withDomain (igClocks : Ignores.clocks π) (s : State) (a1 : Fin 60) (a2 : Domain → Domain) (k : Keeps π s)
  :
    Keeps π (State.withDomain s a1 a2) := by
  unfold State.withDomain
  repeat' (first
    | with_reducible assumption
    | intro _
    | (with_reducible first
        | apply keeps_ite | apply keeps_ite_snd | apply kept_withClocks))

theorem kept_beginSwitch (igClocks : Ignores.clocks π) (s : State) (a1 : Fin 60) (a2 : Bool) (k : Keeps π s) :
    Keeps π (State.beginSwitch s a1 a2) := by
  unfold State.beginSwitch
  repeat' (first
    | with_reducible assumption
    | intro _
    | (with_reducible first
        | apply keeps_ite | apply keeps_ite_snd | apply kept_withDomain))

theorem kept_switchClusters (igClocks : Ignores.clocks π) (s : State) (a1 a2 : Nat) (k : Keeps π s) :
    Keeps π (State.switchClusters s a1 a2) := by
  unfold State.switchClusters
  repeat' (first
    | with_reducible assumption
    | intro _
    | (with_reducible first
        | apply keeps_ite | apply keeps_ite_snd | apply keeps_foldl | apply kept_beginSwitch))

theorem kept_startLevel (igOd : Ignores.od π) (igClocks : Ignores.clocks π) (igSent : Ignores.sent π) (s : State) (a1
  : Nat) (k : Keeps π s) :
    Keeps π (State.startLevel s a1) := by
  unfold State.startLevel
  repeat' (first
    | with_reducible assumption
    | intro _
    | (with_reducible first
        | apply keeps_ite | apply keeps_ite_snd | apply kept_withClocks | apply kept_commandLevel
        | apply kept_switchClusters)
    | split)

theorem kept_wantLevel (igOd : Ignores.od π) (igControl : Ignores.control π) (igClocks : Ignores.clocks π) (igNvm :
  Ignores.nvm π) (igSent : Ignores.sent π) (s : State) (a1 : Nat) (k : Keeps π s) :
    Keeps π (State.wantLevel s a1) := by
  unfold State.wantLevel
  repeat' (first
    | with_reducible assumption
    | intro _
    | (with_reducible first
        | apply keeps_ite | apply keeps_ite_snd | apply kept_raiseIf | apply kept_startLevel))

theorem kept_trackLevel (igOd : Ignores.od π) (igControl : Ignores.control π) (igClocks : Ignores.clocks π) (igNvm :
  Ignores.nvm π) (igSent : Ignores.sent π) (s : State) (k : Keeps π s) :
    Keeps π (State.trackLevel s) := by
  unfold State.trackLevel
  repeat' (first
    | with_reducible assumption
    | intro _
    | (with_reducible first
        | apply keeps_ite | apply keeps_ite_snd | apply kept_wantLevel))

theorem kept_endLevel (igOd : Ignores.od π) (igClocks : Ignores.clocks π) (igSent : Ignores.sent π) (s : State) (a1 a2
  : Nat) (k : Keeps π s) :
    Keeps π (State.endLevel s a1 a2) := by
  unfold State.endLevel
  repeat' (first
    | with_reducible assumption
    | intro _
    | (with_reducible first
        | apply keeps_ite | apply keeps_ite_snd | apply kept_withClocks | apply kept_bump | apply kept_wrN
        | apply kept_startLevel)
    | split
    | simp -iota -proj only [])

theorem kept_advanceLevel (igOd : Ignores.od π) (igClocks : Ignores.clocks π) (igSent : Ignores.sent π) (s : State)
  (a1 : LevelChange) (k : Keeps π s) :
    Keeps π (State.advanceLevel s a1) := by
  unfold State.advanceLevel
  repeat' (first
    | with_reducible assumption
    | intro _
    | (with_reducible first
        | apply keeps_ite | apply keeps_ite_snd | apply kept_withClocks | apply kept_switchClusters
        | apply kept_endLevel | apply kept_commandLevel))

theorem kept_forceSwitch (igOd : Ignores.od π) (igControl : Ignores.control π) (igClocks : Ignores.clocks π) (igNvm :
  Ignores.nvm π) (igSent : Ignores.sent π) (s : State) (a1 : Fin 60) (a2 : Bool) (a3 : List (BitVec 7)) (k : Keeps π
  s) :
    Keeps π (State.forceSwitch s a1 a2 a3) := by
  unfold State.forceSwitch
  repeat' (first
    | with_reducible assumption
    | intro _
    | (with_reducible first
        | apply keeps_ite | apply keeps_ite_snd | apply keeps_foldl | apply kept_withDomain | apply kept_raise
        | apply kept_bump))

theorem kept_failLevel (igOd : Ignores.od π) (igClocks : Ignores.clocks π) (igSent : Ignores.sent π) (s : State) (k :
  Keeps π s) :
    Keeps π (State.failLevel s) := by
  unfold State.failLevel
  repeat' (first
    | with_reducible assumption
    | intro _
    | (with_reducible first
        | apply keeps_ite | apply keeps_ite_snd | apply kept_withClocks | apply kept_endLevel)
    | split)

theorem kept_withEngine (igLamps : Ignores.lamps π) (s : State) (a1 : Fin 64) (a2 : Engine → Engine) (k : Keeps π s) :
    Keeps π (State.withEngine s a1 a2) := by
  unfold State.withEngine
  repeat' (first
    | with_reducible assumption
    | intro _
    | (with_reducible first
        | apply keeps_ite | apply keeps_ite_snd)
    | split
    | simp -iota -proj only []
    | dsimp only
    | with_reducible apply keeps_set_lamps)

theorem kept_request (igLamps : Ignores.lamps π) (s : State) (a1 : Fin 64) (a2 a3 : Nat) (k : Keeps π s) :
    Keeps π (State.request s a1 a2 a3) := by
  unfold State.request
  repeat' (first
    | with_reducible assumption
    | intro _
    | (with_reducible first
        | apply keeps_ite | apply keeps_ite_snd | apply kept_withEngine))

theorem kept_setPending (igOd : Ignores.od π) (igVideo : Ignores.video π) (s : State) (a1 : Option CommitPending) (k :
  Keeps π s) :
    Keeps π (State.setPending s a1) := by
  unfold State.setPending
  repeat' (first
    | with_reducible assumption
    | intro _
    | (with_reducible first
        | apply keeps_ite | apply keeps_ite_snd | apply kept_wrN | apply kept_withCompose))

theorem kept_reloadStaging (igOd : Ignores.od π) (igTile : Ignores.tile π) (s : State) (k : Keeps π s) :
    Keeps π (State.reloadStaging s) := by
  unfold State.reloadStaging
  repeat' (first
    | exact canon_wr _ _ _ _
    | exact canon_filter _ _
    | exact canon_reload _ _ _
    | exact canon_nil _
    | exact canon_rekeyed _
    | with_reducible assumption
    | intro _
    | (with_reducible first
        | apply keeps_ite | apply keeps_ite_snd | apply keeps_foldl)
    | split
    | simp -iota -proj only []
    | dsimp only
    | with_reducible apply keeps_set_od_tile)

theorem kept_abortCommit (igOd : Ignores.od π) (igTile : Ignores.tile π) (igVideo : Ignores.video π) (s : State) (k :
  Keeps π s) :
    Keeps π (State.abortCommit s) := by
  unfold State.abortCommit
  repeat' (first
    | with_reducible assumption
    | intro _
    | (with_reducible first
        | apply keeps_ite | apply keeps_ite_snd | apply kept_reloadStaging | apply kept_setPending)
    | split)

theorem kept_requestCommit (igOd : Ignores.od π) (igVideo : Ignores.video π) (s : State) (a1 : Nat) (k : Keeps π s) :
    Keeps π (State.requestCommit s a1).2 := by
  unfold State.requestCommit
  refine keeps_ite_snd k ?_
  dsimp only
  generalize (if a1 = 0 then s.earliest ms else a1) = f
  split
  · exact keeps_ite_snd k k
  · exact keeps_ite_snd k (keeps_ite_snd (kept_cause igOd _ _ k) (kept_setPending igOd igVideo _ _ k))

theorem kept_withPort (igLamps : Ignores.lamps π) (s : State) (a1 : Fin 64) (a2 : LampPort → LampPort) (k : Keeps π s)
  :
    Keeps π (State.withPort s a1 a2) := by
  unfold State.withPort
  repeat' (first
    | with_reducible assumption
    | intro _
    | (with_reducible first
        | apply keeps_ite | apply keeps_ite_snd)
    | split
    | simp -iota -proj only []
    | dsimp only
    | with_reducible apply keeps_set_lamps)

theorem kept_stopPresenting (igOd : Ignores.od π) (igVideo : Ignores.video π) (s : State) (k : Keeps π s) :
    Keeps π (State.stopPresenting s) := by
  unfold State.stopPresenting
  repeat' (first
    | with_reducible assumption
    | intro _
    | (with_reducible first
        | apply keeps_ite | apply keeps_ite_snd | apply kept_withCompose | apply kept_wrN))

theorem kept_abortCell (igOd : Ignores.od π) (igTile : Ignores.tile π) (igVideo : Ignores.video π) (s : State) (a1 :
  Nat) (k : Keeps π s) :
    Keeps π (State.abortCell s a1) := by
  unfold State.abortCell
  repeat' (first
    | with_reducible assumption
    | intro _
    | (with_reducible first
        | apply keeps_ite | apply keeps_ite_snd | apply kept_abortCommit | apply kept_reloadStaging)
    | split)

theorem kept_pixelFault (igOd : Ignores.od π) (igControl : Ignores.control π) (igNvm : Ignores.nvm π) (igTile :
  Ignores.tile π) (igVideo : Ignores.video π) (igSent : Ignores.sent π) (s : State) (a1 : Nat) (k : Keeps π s) :
    Keeps π (State.pixelFault s a1) := by
  unfold State.pixelFault
  repeat' (first
    | with_reducible assumption
    | intro _
    | (with_reducible first
        | apply keeps_ite | apply keeps_ite_snd | apply kept_raise | apply kept_stopPresenting)
    | split
    | simp -iota -proj only []
    | dsimp only
    | with_reducible apply keeps_set_tile)

theorem kept_commitCell (igOd : Ignores.od π) (igControl : Ignores.control π) (igNvm : Ignores.nvm π) (igVideo :
  Ignores.video π) (igSent : Ignores.sent π) (s : State) (a1 a2 a3 : Nat) (k : Keeps π s) :
    Keeps π (State.commitCell s a1 a2 a3) := by
  unfold State.commitCell
  repeat' (first
    | with_reducible assumption
    | intro _
    | (with_reducible first
        | apply keeps_ite | apply keeps_ite_snd | apply kept_raise | apply kept_setPending)
    | split)

theorem kept_checkLamps (igOd : Ignores.od π) (igControl : Ignores.control π) (igNvm : Ignores.nvm π) (igLamps :
  Ignores.lamps π) (igSent : Ignores.sent π) (s : State) (a1 a2 : Gen) (a3 : TimingSet) (k : Keeps π s) :
    Keeps π (State.checkLamps s a1 a2 a3).2 := by
  unfold State.checkLamps
  repeat' (first
    | with_reducible assumption
    | intro _
    | (with_reducible first
        | apply keeps_ite | apply keeps_ite_snd | apply keeps_foldl | apply kept_wrN | apply kept_raiseIf
        | apply kept_raise)
    | split
    | simp -iota -proj only []
    | dsimp only
    | with_reducible apply keeps_set_lamps)

theorem kept_publishLayer (igOd : Ignores.od π) (igControl : Ignores.control π) (igNvm : Ignores.nvm π) (igSent :
  Ignores.sent π) (s : State) (a1 : Gen) (a2 : Refusals) (a3 : Nat) (k : Keeps π s) :
    Keeps π (State.publishLayer s a1 a2 a3) := by
  unfold State.publishLayer
  repeat' (first
    | with_reducible assumption
    | intro _
    | (with_reducible first
        | apply keeps_ite | apply keeps_ite_snd | apply keeps_foldl | apply kept_wrN | apply kept_publish
        | apply kept_raise)
    | split
    | simp -iota -proj only [])

theorem kept_checkCorr (igOd : Ignores.od π) (igControl : Ignores.control π) (igNvm : Ignores.nvm π) (igSent :
  Ignores.sent π) (s : State) (a1 : Gen) (k : Keeps π s) :
    Keeps π (State.checkCorr s a1).2 := by
  unfold State.checkCorr
  repeat' (first
    | with_reducible assumption
    | intro _
    | (with_reducible first
        | apply keeps_ite | apply keeps_ite_snd | apply kept_raise))

theorem kept_commitAt (igOd : Ignores.od π) (igControl : Ignores.control π) (igClocks : Ignores.clocks π) (igNvm :
  Ignores.nvm π) (igVideo : Ignores.video π) (igLamps : Ignores.lamps π) (igSent : Ignores.sent π) (s : State) (a1 :
  CommitPending) (k : Keeps π s) :
    Keeps π (State.commitAt s a1) := by
  unfold State.commitAt
  repeat' (first
    | with_reducible assumption
    | intro _
    | (with_reducible first
        | apply keeps_ite | apply keeps_ite_snd | apply keeps_foldl | apply kept_checkCorr | apply kept_checkLamps
        | apply kept_publishLayer | apply kept_wrN | apply kept_publish | apply kept_raise | apply kept_bump
        | apply kept_setPending | apply kept_request | apply kept_trackLevel | apply kept_withCompose)
    | (refine keeps_pair ?_ (by with_reducible assumption))
    | (refine keeps_triple ?_ (by with_reducible assumption)))

theorem kept_holdCommit (igOd : Ignores.od π) (igVideo : Ignores.video π) (s : State) (a1 : CommitPending) (a2 : Nat)
  (a3 : Bool) (k : Keeps π s) :
    Keeps π (State.holdCommit s a1 a2 a3) := by
  unfold State.holdCommit
  repeat' (first
    | with_reducible assumption
    | intro _
    | (with_reducible first
        | apply keeps_ite | apply keeps_ite_snd | apply kept_setPending))

theorem kept_tellFull (igOd : Ignores.od π) (igControl : Ignores.control π) (igNvm : Ignores.nvm π) (igSent :
  Ignores.sent π) (s : State) (a1 : CommitPending) (k : Keeps π s) :
    Keeps π (State.tellFull s a1).2 := by
  unfold State.tellFull
  repeat' (first
    | with_reducible assumption
    | intro _
    | (with_reducible first
        | apply keeps_ite | apply keeps_ite_snd | apply kept_raise)
    | split)

theorem kept_execCommitDeadline (igNow : Ignores.now π) (igOd : Ignores.od π) (igControl : Ignores.control π)
  (igClocks : Ignores.clocks π) (igNvm : Ignores.nvm π) (igQuartz : Ignores.quartz π) (igTile : Ignores.tile π)
  (igVideo : Ignores.video π) (igLamps : Ignores.lamps π) (igSent : Ignores.sent π) (a0 : Bool) (s : State) (k : Keeps
  π s) :
    KeepsO π (execCommitDeadline a0 s) := by
  unfold execCommitDeadline
  repeat' (first
    | with_reducible assumption
    | intro _
    | (with_reducible first
        | apply keeps_ite | apply keeps_ite_snd | apply keepsO_next | apply keepsO_ite | apply keepsO_dite
        | apply kept_untilWall | apply kept_holdCommit | apply kept_tellFull | apply kept_pixelFault
        | apply kept_publish | apply kept_setPending | apply kept_commitAt)
    | split
    | (refine keeps_pair ?_ (by with_reducible assumption))
    | (refine keeps_triple ?_ (by with_reducible assumption)))

theorem kept_genStateCell (igOd : Ignores.od π) (igControl : Ignores.control π) (igNvm : Ignores.nvm π) (igVideo :
  Ignores.video π) (igSent : Ignores.sent π) (s : State) (a1 a2 : Nat) (k : Keeps π s) :
    Keeps π (State.genStateCell s a1 a2) := by
  unfold State.genStateCell
  repeat' (first
    | with_reducible assumption
    | intro _
    | (with_reducible first
        | apply keeps_ite | apply keeps_ite_snd | apply kept_setPending | apply kept_raiseIf)
    | split)

theorem kept_withTile (igTile : Ignores.tile π) (s : State) (a1 : TileChain → TileChain) (k : Keeps π s) :
    Keeps π (State.withTile s a1) := by
  unfold State.withTile
  repeat' (first
    | with_reducible assumption
    | intro _
    | (with_reducible first
        | apply keeps_ite | apply keeps_ite_snd)
    | split
    | simp -iota -proj only []
    | dsimp only
    | with_reducible apply keeps_set_tile)

theorem kept_originate1 (igOd : Ignores.od π) (igControl : Ignores.control π) (igNvm : Ignores.nvm π) (igTile :
  Ignores.tile π) (igSent : Ignores.sent π) (s : State) (a1 : Fin 2) (a2 a3 : Nat) (a4 : List Byte) (a5 : BitVec 32)
  (k : Keeps π s) :
    Keeps π (State.originate1 s a1 a2 a3 a4 a5) := by
  unfold State.originate1
  repeat' (first
    | with_reducible assumption
    | intro _
    | (with_reducible first
        | apply keeps_ite | apply keeps_ite_snd | apply kept_withTile | apply kept_bump | apply kept_raiseLimited))

theorem kept_originate (igOd : Ignores.od π) (igControl : Ignores.control π) (igNvm : Ignores.nvm π) (igTile :
  Ignores.tile π) (igSent : Ignores.sent π) (s : State) (a1 a2 : Nat) (a3 : List Byte) (k : Keeps π s) :
    Keeps π (State.originate s a1 a2 a3) := by
  unfold State.originate
  repeat' (first
    | with_reducible assumption
    | intro _
    | (with_reducible first
        | apply keeps_ite | apply keeps_ite_snd | apply kept_originate1 | apply kept_withTile))

theorem kept_paceMgmt (igOd : Ignores.od π) (igControl : Ignores.control π) (igNvm : Ignores.nvm π) (igTile :
  Ignores.tile π) (igSent : Ignores.sent π) (a0 : Nat) (s : State) (k : Keeps π s) :
    Keeps π (State.paceMgmt a0 s) := by
  induction a0 generalizing s with
  | zero => exact k
  | succ n ih =>
    unfold State.paceMgmt
    split
    · exact k
    · split
      · exact ih _ (kept_originate igOd igControl igNvm igTile igSent _ _ _ _ (kept_withTile igTile _ _ k))
      · exact k

theorem kept_buffer (igOd : Ignores.od π) (igControl : Ignores.control π) (igNvm : Ignores.nvm π) (igTile :
  Ignores.tile π) (igSent : Ignores.sent π) (s : State) (a1 : Fin 2) (a2 : Cell) (k : Keeps π s) :
    Keeps π (State.buffer s a1 a2) := by
  unfold State.buffer
  repeat' (first
    | with_reducible assumption
    | intro _
    | (with_reducible first
        | apply keeps_ite | apply keeps_ite_snd | apply kept_withTile | apply kept_bump | apply kept_raiseLimited))

theorem kept_withLink (igLanes : Ignores.lanes π) (s : State) (a1 : Fin 4) (a2 : Link → Link) (k : Keeps π s) :
    Keeps π (State.withLink s a1 a2) := by
  unfold State.withLink
  repeat' (first
    | with_reducible assumption
    | intro _
    | (with_reducible first
        | apply keeps_ite | apply keeps_ite_snd)
    | split
    | simp -iota -proj only []
    | dsimp only
    | with_reducible apply keeps_set_lanes)

theorem kept_withLane (igLanes : Ignores.lanes π) (s : State) (a1 : Fin 24) (a2 : Lane → Lane) (k : Keeps π s) :
    Keeps π (State.withLane s a1 a2) := by
  unfold State.withLane
  repeat' (first
    | with_reducible assumption
    | intro _
    | (with_reducible first
        | apply keeps_ite | apply keeps_ite_snd)
    | split
    | simp -iota -proj only []
    | dsimp only
    | with_reducible apply keeps_set_lanes)

theorem kept_pushBlock (igLanes : Ignores.lanes π) (igSent : Ignores.sent π) (s : State) (a1 : Fin 4) (a2 : Fin 24)
  (a3 : BitVec 256) (k : Keeps π s) :
    Keeps π (State.pushBlock s a1 a2 a3) := by
  unfold State.pushBlock
  repeat' (first
    | with_reducible assumption
    | intro _
    | (with_reducible first
        | apply keeps_ite | apply keeps_ite_snd | apply kept_withLane | apply kept_emit))

theorem kept_fillOthers (igLanes : Ignores.lanes π) (igSent : Ignores.sent π) (s : State) (a1 : Fin 4) (k : Keeps π s)
  :
    Keeps π (State.fillOthers s a1) := by
  unfold State.fillOthers
  repeat' (first
    | with_reducible assumption
    | intro _
    | (with_reducible first
        | apply keeps_ite | apply keeps_ite_snd | apply keeps_foldl | apply kept_pushBlock)
    | split)

theorem kept_linkBlock (igLanes : Ignores.lanes π) (igSent : Ignores.sent π) (s : State) (a1 : Fin 4) (a2 : BitVec
  256) (k : Keeps π s) :
    Keeps π (State.linkBlock s a1 a2) := by
  unfold State.linkBlock
  repeat' (first
    | with_reducible assumption
    | intro _
    | (with_reducible first
        | apply keeps_ite | apply keeps_ite_snd | apply kept_pushBlock | apply kept_withLink | apply kept_fillOthers)
    | split
    | simp -iota -proj only [])

theorem kept_linkBlocks (igLanes : Ignores.lanes π) (igSent : Ignores.sent π) (s : State) (a1 : Fin 4) (a2 : List
  (BitVec 256)) (k : Keeps π s) :
    Keeps π (State.linkBlocks s a1 a2) := by
  unfold State.linkBlocks
  repeat' (first
    | with_reducible assumption
    | intro _
    | (with_reducible first
        | apply keeps_ite | apply keeps_ite_snd | apply keeps_foldl | apply kept_linkBlock))

theorem kept_sendCell (igLanes : Ignores.lanes π) (igSent : Ignores.sent π) (s : State) (a1 : Fin 2) (a2 : Cell) (k :
  Keeps π s) :
    Keeps π (State.sendCell s a1 a2) := by
  unfold State.sendCell
  repeat' (first
    | with_reducible assumption
    | intro _
    | (with_reducible first
        | apply keeps_ite | apply keeps_ite_snd | apply kept_withLink | apply kept_linkBlocks | apply kept_emit))

theorem kept_forward (igOd : Ignores.od π) (igControl : Ignores.control π) (igNvm : Ignores.nvm π) (igLanes :
  Ignores.lanes π) (igTile : Ignores.tile π) (igSent : Ignores.sent π) (s : State) (a1 : Fin 2) (a2 : RxCell) (k :
  Keeps π s) :
    Keeps π (State.forward s a1 a2) := by
  unfold State.forward
  repeat' (first
    | with_reducible assumption
    | intro _
    | (with_reducible first
        | apply keeps_ite | apply keeps_ite_snd | apply kept_bump | apply kept_buffer | apply kept_sendCell))

theorem kept_countDamage (igOd : Ignores.od π) (igControl : Ignores.control π) (igNvm : Ignores.nvm π) (igTile :
  Ignores.tile π) (igSent : Ignores.sent π) (s : State) (a1 : Fin 2) (a2 : RxCell) (k : Keeps π s) :
    Keeps π (State.countDamage s a1 a2) := by
  unfold State.countDamage
  repeat' (first
    | with_reducible assumption
    | intro _
    | (with_reducible first
        | apply keeps_ite | apply keeps_ite_snd | apply kept_bump | apply kept_withTile | apply kept_raiseLimited))

theorem kept_arrive (igOd : Ignores.od π) (igControl : Ignores.control π) (igNvm : Ignores.nvm π) (igLanes :
  Ignores.lanes π) (igTile : Ignores.tile π) (igSent : Ignores.sent π) (s : State) (a1 : Fin 2) (a2 : RxCell) (k :
  Keeps π s) :
    Keeps π (State.arrive s a1 a2) := by
  unfold State.arrive
  repeat' (first
    | with_reducible assumption
    | intro _
    | (with_reducible first
        | apply keeps_ite | apply keeps_ite_snd | apply kept_forward | apply kept_countDamage | apply kept_bump
        | apply kept_wrN))

theorem kept_dedup (igOd : Ignores.od π) (igTile : Ignores.tile π) (s : State) (a1 : Cell) (k : Keeps π s) :
    Keeps π (State.dedup s a1).2 := by
  unfold State.dedup
  repeat' (first
    | with_reducible assumption
    | intro _
    | (with_reducible first
        | apply keeps_ite | apply keeps_ite_snd | apply kept_withTile | apply kept_bump)
    | split)

theorem kept_originateMgmt (igOd : Ignores.od π) (igControl : Ignores.control π) (igNvm : Ignores.nvm π) (igTile :
  Ignores.tile π) (igSent : Ignores.sent π) (s : State) (a1 : List (Nat × List Byte)) (k : Keeps π s) :
    Keeps π (State.originateMgmt s a1) := by
  unfold State.originateMgmt
  repeat' (first
    | with_reducible assumption
    | intro _
    | (with_reducible first
        | apply keeps_ite | apply keeps_ite_snd | apply kept_paceMgmt | apply kept_withTile))

theorem kept_publishPrbs (igOd : Ignores.od π) (s : State) (a1 : Fin 24) (a2 : Bool) (k : Keeps π s) :
    Keeps π (State.publishPrbs s a1 a2) := by
  unfold State.publishPrbs
  repeat' (first
    | with_reducible assumption
    | intro _
    | (with_reducible first
        | apply keeps_ite | apply keeps_ite_snd | apply kept_wrN | apply kept_cause | apply kept_publish))

theorem kept_returnLane (igLanes : Ignores.lanes π) (s : State) (a1 : Fin 24) (k : Keeps π s) :
    Keeps π (State.returnLane s a1) := by
  unfold State.returnLane
  repeat' (first
    | with_reducible assumption
    | intro _
    | (with_reducible first
        | apply keeps_ite | apply keeps_ite_snd | apply kept_withLane))

theorem kept_failTest (igOd : Ignores.od π) (igLanes : Ignores.lanes π) (s : State) (a1 : Fin 4) (k : Keeps π s) :
    Keeps π (State.failTest s a1) := by
  unfold State.failTest
  repeat' (first
    | with_reducible assumption
    | intro _
    | (with_reducible first
        | apply keeps_ite | apply keeps_ite_snd | apply kept_withLink | apply kept_publishPrbs | apply kept_returnLane)
    | split)

theorem kept_sendTraining (igSent : Ignores.sent π) (s : State) (a1 : Fin 24) (k : Keeps π s) :
    Keeps π (State.sendTraining s a1) := by
  unfold State.sendTraining
  repeat' (first
    | with_reducible assumption
    | intro _
    | (with_reducible first
        | apply keeps_ite | apply keeps_ite_snd | apply kept_emit))

theorem kept_startTraining (igLanes : Ignores.lanes π) (igSent : Ignores.sent π) (s : State) (a1 : Fin 24) (k : Keeps
  π s) :
    Keeps π (State.startTraining s a1) := by
  unfold State.startTraining
  repeat' (first
    | with_reducible assumption
    | intro _
    | (with_reducible first
        | apply keeps_ite | apply keeps_ite_snd | apply kept_sendTraining | apply kept_withLane))

theorem kept_cutRun (igOd : Ignores.od π) (igLanes : Ignores.lanes π) (s : State) (a1 : Fin 24) (k : Keeps π s) :
    Keeps π (State.cutRun s a1) := by
  unfold State.cutRun
  repeat' (first
    | with_reducible assumption
    | intro _
    | (with_reducible first
        | apply keeps_ite | apply keeps_ite_snd | apply kept_withLane | apply kept_publishPrbs))

theorem kept_laneOff (igOd : Ignores.od π) (igLanes : Ignores.lanes π) (s : State) (a1 : Fin 24) (k : Keeps π s) :
    Keeps π (State.laneOff s a1) := by
  unfold State.laneOff
  repeat' (first
    | with_reducible assumption
    | intro _
    | (with_reducible first
        | apply keeps_ite | apply keeps_ite_snd | apply kept_withLane | apply kept_cutRun))

theorem kept_startLane (igOd : Ignores.od π) (igLanes : Ignores.lanes π) (igSent : Ignores.sent π) (s : State) (a1 :
  Fin 24) (k : Keeps π s) :
    Keeps π (State.startLane s a1) := by
  unfold State.startLane
  repeat' (first
    | with_reducible assumption
    | intro _
    | (with_reducible first
        | apply keeps_ite | apply keeps_ite_snd | apply kept_cutRun | apply kept_laneOff | apply kept_withLane
        | apply kept_startTraining))

theorem kept_planned (igLanes : Ignores.lanes π) (s : State) (a1 : Fin 4) (a2 : BitVec 8) (k : Keeps π s) :
    Keeps π (State.planned s a1 a2) := by
  unfold State.planned
  repeat' (first
    | with_reducible assumption
    | intro _
    | (with_reducible first
        | apply keeps_ite | apply keeps_ite_snd | apply kept_withLink))

theorem kept_endTest (igOd : Ignores.od π) (igLanes : Ignores.lanes π) (s : State) (a1 : Fin 4) (a2 : Fin 24) (k :
  Keeps π s) :
    Keeps π (State.endTest s a1 a2) := by
  unfold State.endTest
  repeat' (first
    | with_reducible assumption
    | intro _
    | (with_reducible first
        | apply keeps_ite | apply keeps_ite_snd | apply kept_withLink | apply kept_publishPrbs)
    | split)

theorem kept_laneEnableWrite (igOd : Ignores.od π) (igLanes : Ignores.lanes π) (igSent : Ignores.sent π) (s : State)
  (a1 : Fin 24) (a2 : Int) (k : Keeps π s) :
    Keeps π (State.laneEnableWrite s a1 a2).2 := by
  unfold State.laneEnableWrite
  repeat' (first
    | with_reducible assumption
    | intro _
    | (with_reducible first
        | apply keeps_ite | apply keeps_ite_snd | apply kept_wrI | apply kept_startLane | apply kept_endTest
        | apply kept_planned | apply kept_laneOff)
    | split
    | simp -iota -proj only [])

theorem kept_laneClear (igOd : Ignores.od π) (s : State) (a1 : Fin 24) (a2 : Int) (k : Keeps π s) :
    Keeps π (State.laneClear s a1 a2).2 := by
  unfold State.laneClear
  repeat' (first
    | with_reducible assumption
    | intro _
    | (with_reducible first
        | apply keeps_ite | apply keeps_ite_snd | apply kept_zero))

theorem kept_beginTest (igOd : Ignores.od π) (igLanes : Ignores.lanes π) (s : State) (a1 : Fin 4) (a2 : Fin 24) (a3 :
  Bool) (a4 : Nat) (k : Keeps π s) :
    Keeps π (State.beginTest s a1 a2 a3 a4) := by
  unfold State.beginTest
  repeat' (first
    | with_reducible assumption
    | intro _
    | (with_reducible first
        | apply keeps_ite | apply keeps_ite_snd | apply kept_startRun | apply kept_withLink | apply kept_planned))

theorem kept_prbsStart (igOd : Ignores.od π) (igControl : Ignores.control π) (igNvm : Ignores.nvm π) (igLanes :
  Ignores.lanes π) (igSent : Ignores.sent π) (s : State) (a1 : Fin 24) (a2 : Int) (k : Keeps π s) :
    Keeps π (State.prbsStart s a1 a2).2 := by
  unfold State.prbsStart
  repeat' (first
    | with_reducible assumption
    | intro _
    | (with_reducible first
        | apply keeps_ite | apply keeps_ite_snd | apply kept_withLane | apply kept_startRun | apply kept_raise
        | apply kept_publishPrbs | apply kept_beginTest)
    | split)

theorem kept_tapsWrite (igOd : Ignores.od π) (igLanes : Ignores.lanes π) (s : State) (a1 : Fin 24) (a2 : Nat) (a3 :
  Int) (k : Keeps π s) :
    Keeps π (State.tapsWrite s a1 a2 a3).2 := by
  unfold State.tapsWrite
  repeat' (first
    | with_reducible assumption
    | intro _
    | (with_reducible first
        | apply keeps_ite | apply keeps_ite_snd | apply kept_wrI | apply kept_withLane))

theorem kept_prbsTxWrite (igOd : Ignores.od π) (igLanes : Ignores.lanes π) (s : State) (a1 : Fin 24) (a2 : Int) (k :
  Keeps π s) :
    Keeps π (State.prbsTxWrite s a1 a2).2 := by
  unfold State.prbsTxWrite
  repeat' (first
    | with_reducible assumption
    | intro _
    | (with_reducible first
        | apply keeps_ite | apply keeps_ite_snd | apply kept_wrI | apply kept_withLane))

theorem kept_injStart (igLanes : Ignores.lanes π) (s : State) (a1 : Fin 24) (a2 : Int) (k : Keeps π s) :
    Keeps π (State.injStart s a1 a2).2 := by
  unfold State.injStart
  repeat' (first
    | with_reducible assumption
    | intro _
    | (with_reducible first
        | apply keeps_ite | apply keeps_ite_snd | apply kept_withLane))

theorem kept_startOthers (igOd : Ignores.od π) (igLanes : Ignores.lanes π) (igSent : Ignores.sent π) (s : State) (a1 :
  Fin 3) (k : Keeps π s) :
    Keeps π (State.startOthers s a1) := by
  unfold State.startOthers
  repeat' (first
    | with_reducible assumption
    | intro _
    | (with_reducible first
        | apply keeps_ite | apply keeps_ite_snd | apply keeps_foldl | apply kept_startLane))

theorem kept_bringUp (igOd : Ignores.od π) (igLanes : Ignores.lanes π) (igSent : Ignores.sent π) (s : State) (a1 : Fin
  4) (k : Keeps π s) :
    Keeps π (State.bringUp s a1) := by
  unfold State.bringUp
  repeat' (first
    | with_reducible assumption
    | intro _
    | (with_reducible first
        | apply keeps_ite | apply keeps_ite_snd | apply keeps_foldl | apply kept_withLink | apply kept_startLane))

theorem kept_bringUpPort (igOd : Ignores.od π) (igLanes : Ignores.lanes π) (igSent : Ignores.sent π) (s : State) (a1 :
  Fin 3) (k : Keeps π s) :
    Keeps π (State.bringUpPort s a1) := by
  unfold State.bringUpPort
  repeat' (first
    | with_reducible assumption
    | intro _
    | (with_reducible first
        | apply keeps_ite | apply keeps_ite_snd | apply keeps_foldl | apply kept_withLink | apply kept_bringUp
        | apply kept_startOthers))

theorem kept_neighbourDown (igOd : Ignores.od π) (igQuartz : Ignores.quartz π) (s : State) (a1 : Fin 4) (k : Keeps π
  s) :
    Keeps π (State.neighbourDown s a1) := by
  unfold State.neighbourDown
  repeat' (first
    | with_reducible assumption
    | intro _
    | (with_reducible first
        | apply keeps_ite | apply keeps_ite_snd | apply kept_wrN)
    | split
    | simp -iota -proj only []
    | dsimp only
    | with_reducible apply keeps_set_quartz)

theorem kept_restartPort (igOd : Ignores.od π) (igLanes : Ignores.lanes π) (igQuartz : Ignores.quartz π) (igSent :
  Ignores.sent π) (s : State) (a1 : Fin 3) (k : Keeps π s) :
    Keeps π (State.restartPort s a1) := by
  unfold State.restartPort
  repeat' (first
    | with_reducible assumption
    | intro _
    | (with_reducible first
        | apply keeps_ite | apply keeps_ite_snd | apply keeps_foldl | apply kept_withLink | apply kept_neighbourDown
        | apply kept_failTest | apply kept_bringUpPort))

theorem kept_testStateWrite (igOd : Ignores.od π) (igLanes : Ignores.lanes π) (igQuartz : Ignores.quartz π) (igSent :
  Ignores.sent π) (s : State) (a1 : Fin 3) (a2 : Int) (k : Keeps π s) :
    Keeps π (State.testStateWrite s a1 a2).2 := by
  unfold State.testStateWrite
  repeat' (first
    | with_reducible assumption
    | intro _
    | (with_reducible first
        | apply keeps_ite | apply keeps_ite_snd | apply kept_restartPort | apply kept_wrI))

theorem kept_portcWrite (igOd : Ignores.od π) (igLanes : Ignores.lanes π) (igQuartz : Ignores.quartz π) (igSent :
  Ignores.sent π) (s : State) (a1 : Int) (k : Keeps π s) :
    Keeps π (State.portcWrite s a1).2 := by
  unfold State.portcWrite
  repeat' (first
    | with_reducible assumption
    | intro _
    | (with_reducible first
        | apply keeps_ite | apply keeps_ite_snd | apply kept_restartPort | apply kept_wrI))

theorem kept_loopbackWrite (igOd : Ignores.od π) (igLanes : Ignores.lanes π) (igQuartz : Ignores.quartz π) (igSent :
  Ignores.sent π) (s : State) (a1 : Fin 3) (a2 : Int) (k : Keeps π s) :
    Keeps π (State.loopbackWrite s a1 a2).2 := by
  unfold State.loopbackWrite
  repeat' (first
    | with_reducible assumption
    | intro _
    | (with_reducible first
        | apply keeps_ite | apply keeps_ite_snd | apply kept_restartPort | apply kept_wrI))

theorem kept_portComesUp (igOd : Ignores.od π) (igControl : Ignores.control π) (igNvm : Ignores.nvm π) (igLanes :
  Ignores.lanes π) (igSent : Ignores.sent π) (s : State) (a1 : Fin 4) (k : Keeps π s) :
    Keeps π (State.portComesUp s a1) := by
  unfold State.portComesUp
  repeat' (first
    | with_reducible assumption
    | intro _
    | (with_reducible first
        | apply keeps_ite | apply keeps_ite_snd | apply kept_withLink | apply kept_raise)
    | split)

theorem kept_parkLane (igLanes : Ignores.lanes π) (s : State) (a1 : Fin 24) (a2 : LaneHold) (k : Keeps π s) :
    Keeps π (State.parkLane s a1 a2) := by
  unfold State.parkLane
  repeat' (first
    | with_reducible assumption
    | intro _
    | (with_reducible first
        | apply keeps_ite | apply keeps_ite_snd | apply kept_withLane))

theorem kept_rateStepDown (igOd : Ignores.od π) (igControl : Ignores.control π) (igNvm : Ignores.nvm π) (igLanes :
  Ignores.lanes π) (igSent : Ignores.sent π) (s : State) (a1 : Fin 4) (k : Keeps π s) :
    Keeps π (State.rateStepDown s a1) := by
  unfold State.rateStepDown
  repeat' (first
    | with_reducible assumption
    | intro _
    | (with_reducible first
        | apply keeps_ite | apply keeps_ite_snd | apply keeps_foldl | apply kept_parkLane | apply kept_withLink
        | apply kept_raise | apply kept_withLane))

theorem kept_judgeRate (igOd : Ignores.od π) (igControl : Ignores.control π) (igNvm : Ignores.nvm π) (igLanes :
  Ignores.lanes π) (igSent : Ignores.sent π) (s : State) (a1 : Fin 4) (k : Keeps π s) :
    Keeps π (State.judgeRate s a1) := by
  unfold State.judgeRate
  repeat' (first
    | with_reducible assumption
    | intro _
    | (with_reducible first
        | apply keeps_ite | apply keeps_ite_snd | apply kept_rateStepDown))

theorem kept_trainingFails (igOd : Ignores.od π) (igControl : Ignores.control π) (igNvm : Ignores.nvm π) (igLanes :
  Ignores.lanes π) (igSent : Ignores.sent π) (s : State) (a1 : Fin 24) (k : Keeps π s) :
    Keeps π (State.trainingFails s a1) := by
  unfold State.trainingFails
  repeat' (first
    | with_reducible assumption
    | intro _
    | (with_reducible first
        | apply keeps_ite | apply keeps_ite_snd | apply kept_withLane | apply kept_parkLane | apply kept_judgeRate)
    | split
    | simp -iota -proj only [])

theorem kept_execTrainingTimeout (igNow : Ignores.now π) (igOd : Ignores.od π) (igControl : Ignores.control π) (igNvm
  : Ignores.nvm π) (igLanes : Ignores.lanes π) (igQuartz : Ignores.quartz π) (igSent : Ignores.sent π) (a0 : Fin 24)
  (s : State) (k : Keeps π s) :
    KeepsO π (execTrainingTimeout a0 s) := by
  unfold execTrainingTimeout
  repeat' (first
    | with_reducible assumption
    | intro _
    | (with_reducible first
        | apply keeps_ite | apply keeps_ite_snd | apply keepsO_next | apply keepsO_ite | apply keepsO_dite
        | apply kept_until_ | apply kept_trainingFails | apply kept_raise))

theorem kept_stageOver (igNow : Ignores.now π) (igQuartz : Ignores.quartz π) (s : State) (a1 : Fin 24) (a2 : Nat) (k :
  Keeps π s) :
    Keeps π (State.stageOver s a1 a2) := by
  unfold State.stageOver
  repeat' (first
    | with_reducible assumption
    | intro _
    | (with_reducible first
        | apply keeps_ite | apply keeps_ite_snd | apply kept_until_))

theorem kept_endHold (igNow : Ignores.now π) (igOd : Ignores.od π) (igLanes : Ignores.lanes π) (igQuartz :
  Ignores.quartz π) (igSent : Ignores.sent π) (s : State) (a1 : Fin 24) (a2 : LaneHold) (a3 : Nat) (k : Keeps π s) :
    Keeps π (State.endHold s a1 a2 a3) := by
  unfold State.endHold
  repeat' (first
    | with_reducible assumption
    | intro _
    | (with_reducible first
        | apply keeps_ite | apply keeps_ite_snd | apply kept_startLane | apply kept_stageOver))

theorem kept_execTrainingRequestTimeout (igNow : Ignores.now π) (igOd : Ignores.od π) (igControl : Ignores.control π)
  (igNvm : Ignores.nvm π) (igLanes : Ignores.lanes π) (igQuartz : Ignores.quartz π) (igSent : Ignores.sent π) (a0 :
  Fin 24) (s : State) (k : Keeps π s) :
    KeepsO π (execTrainingRequestTimeout a0 s) := by
  unfold execTrainingRequestTimeout
  repeat' (first
    | with_reducible assumption
    | intro _
    | (with_reducible first
        | apply keeps_ite | apply keeps_ite_snd | apply keepsO_next | apply keepsO_ite | apply keepsO_dite
        | apply kept_pass | apply kept_trainingFails | apply kept_sendTraining | apply kept_withLane)
    | split
    | simp -iota -proj only [])

theorem kept_failPortTests (igOd : Ignores.od π) (igLanes : Ignores.lanes π) (s : State) (a1 : Fin 4) (k : Keeps π s)
  :
    Keeps π (State.failPortTests s a1) := by
  unfold State.failPortTests
  repeat' (first
    | with_reducible assumption
    | intro _
    | (with_reducible first
        | apply keeps_ite | apply keeps_ite_snd | apply keeps_foldl | apply kept_failTest))

theorem kept_faultChange (igOd : Ignores.od π) (igControl : Ignores.control π) (igNvm : Ignores.nvm π) (igLanes :
  Ignores.lanes π) (igSent : Ignores.sent π) (s : State) (a1 : Fin 4) (a2 : Fin 24) (k : Keeps π s) :
    Keeps π (State.faultChange s a1 a2) := by
  unfold State.faultChange
  repeat' (first
    | with_reducible assumption
    | intro _
    | (with_reducible first
        | apply keeps_ite | apply keeps_ite_snd | apply kept_withLink | apply kept_raise | apply kept_failPortTests)
    | split)

theorem kept_failLane (igOd : Ignores.od π) (igControl : Ignores.control π) (igNvm : Ignores.nvm π) (igLanes :
  Ignores.lanes π) (igSent : Ignores.sent π) (s : State) (a1 : Fin 24) (a2 : Nat) (k : Keeps π s) :
    Keeps π (State.failLane s a1 a2) := by
  unfold State.failLane
  repeat' (first
    | with_reducible assumption
    | intro _
    | (with_reducible first
        | apply keeps_ite | apply keeps_ite_snd | apply kept_wrN | apply kept_bump | apply kept_raise
        | apply kept_parkLane | apply kept_withLink | apply kept_faultChange | apply kept_endTest)
    | split
    | simp -iota -proj only [])

theorem kept_takeSets (igOd : Ignores.od π) (igControl : Ignores.control π) (igNvm : Ignores.nvm π) (igLanes :
  Ignores.lanes π) (igSent : Ignores.sent π) (s : State) (a1 : Fin 4) (a2 : BitVec 1360) (k : Keeps π s) :
    Keeps π (State.takeSets s a1 a2) := by
  unfold State.takeSets
  repeat' (first
    | with_reducible assumption
    | intro _
    | (with_reducible first
        | apply keeps_ite | apply keeps_ite_snd | apply keeps_foldl | apply kept_withLink | apply kept_faultChange))

theorem kept_trainingEnds (igOd : Ignores.od π) (igControl : Ignores.control π) (igNvm : Ignores.nvm π) (igLanes :
  Ignores.lanes π) (igSent : Ignores.sent π) (s : State) (a1 : Fin 24) (k : Keeps π s) :
    Keeps π (State.trainingEnds s a1) := by
  unfold State.trainingEnds
  repeat' (first
    | with_reducible assumption
    | intro _
    | (with_reducible first
        | apply keeps_ite | apply keeps_ite_snd | apply kept_withLane | apply kept_judgeRate)
    | split
    | simp -iota -proj only []
    | dsimp only
    | with_reducible apply keeps_set_lanes)

theorem kept_steerPartner (igLanes : Ignores.lanes π) (s : State) (a1 : Fin 24) (a2 a3 : BitVec 16) (k : Keeps π s) :
    Keeps π (State.steerPartner s a1 a2 a3) := by
  unfold State.steerPartner
  repeat' (first
    | with_reducible assumption
    | intro _
    | (with_reducible first
        | apply keeps_ite | apply keeps_ite_snd | apply kept_withLane))

theorem kept_answerRequest (igLanes : Ignores.lanes π) (s : State) (a1 : Fin 24) (a2 : BitVec 16) (k : Keeps π s) :
    Keeps π (State.answerRequest s a1 a2) := by
  unfold State.answerRequest
  repeat' (first
    | with_reducible assumption
    | intro _
    | (with_reducible first
        | apply keeps_ite | apply keeps_ite_snd | apply kept_withLane))

theorem kept_execTrainingFrameReceive (igOd : Ignores.od π) (igControl : Ignores.control π) (igNvm : Ignores.nvm π)
  (igLanes : Ignores.lanes π) (igSent : Ignores.sent π) (a0 : Fin 24) (a1 a2 a3 a4 a5 a6 : BitVec 16) (a7 a8 : Bool)
  (a9 : BitVec 16) (s : State) (k : Keeps π s) :
    KeepsO π (execTrainingFrameReceive a0 a1 a2 a3 a4 a5 a6 a7 a8 a9 s) := by
  unfold execTrainingFrameReceive
  repeat' (first
    | with_reducible assumption
    | intro _
    | (with_reducible first
        | apply keeps_ite | apply keeps_ite_snd | apply keepsO_next | apply keepsO_ite | apply keepsO_dite
        | apply kept_wrB | apply kept_steerPartner | apply kept_answerRequest | apply kept_withLane
        | apply kept_sendTraining | apply kept_trainingEnds))

theorem kept_execPrbsCheckerLock (igLanes : Ignores.lanes π) (a0 : Fin 24) (a1 : BitVec 4) (s : State) (k : Keeps π s)
  :
    KeepsO π (execPrbsCheckerLock a0 a1 s) := by
  unfold execPrbsCheckerLock
  repeat' (first
    | with_reducible assumption
    | intro _
    | (with_reducible first
        | apply keeps_ite | apply keeps_ite_snd | apply keepsO_next | apply keepsO_ite | apply keepsO_dite
        | apply kept_withLane))

theorem kept_execPortRestartTimer (igNow : Ignores.now π) (igOd : Ignores.od π) (igLanes : Ignores.lanes π) (igQuartz
  : Ignores.quartz π) (igSent : Ignores.sent π) (a0 : Fin 4) (s : State) (k : Keeps π s) :
    KeepsO π (execPortRestartTimer a0 s) := by
  unfold execPortRestartTimer
  repeat' (first
    | with_reducible assumption
    | intro _
    | (with_reducible first
        | apply keeps_ite | apply keeps_ite_snd | apply keepsO_next | apply keepsO_ite | apply keepsO_dite
        | apply kept_bringUp | apply kept_until_))

theorem kept_execCapabilityTimeout (igNow : Ignores.now π) (igOd : Ignores.od π) (igControl : Ignores.control π)
  (igNvm : Ignores.nvm π) (igLanes : Ignores.lanes π) (igQuartz : Ignores.quartz π) (igSent : Ignores.sent π) (a0 :
  Fin 24) (s : State) (k : Keeps π s) :
    KeepsO π (execCapabilityTimeout a0 s) := by
  unfold execCapabilityTimeout
  repeat' (first
    | with_reducible assumption
    | intro _
    | (with_reducible first
        | apply keeps_ite | apply keeps_ite_snd | apply keepsO_next | apply keepsO_ite | apply keepsO_dite
        | apply kept_stageOver | apply kept_parkLane | apply kept_raise))

theorem kept_execInjectionInterval (igOd : Ignores.od π) (igLanes : Ignores.lanes π) (igSent : Ignores.sent π) (a0 :
  Fin 24) (s : State) (k : Keeps π s) :
    KeepsO π (execInjectionInterval a0 s) := by
  unfold execInjectionInterval
  repeat' (first
    | with_reducible assumption
    | intro _
    | (with_reducible first
        | apply keeps_ite | apply keeps_ite_snd | apply keepsO_next | apply keepsO_ite | apply keepsO_dite
        | apply kept_withLane | apply kept_bump | apply kept_emit))

theorem kept_execUncorrectedBurst (igOd : Ignores.od π) (igControl : Ignores.control π) (igNvm : Ignores.nvm π)
  (igLanes : Ignores.lanes π) (igSent : Ignores.sent π) (a0 : Fin 24) (s : State) (k : Keeps π s) :
    KeepsO π (execUncorrectedBurst a0 s) := by
  unfold execUncorrectedBurst
  repeat' (first
    | with_reducible assumption
    | intro _
    | (with_reducible first
        | apply keeps_ite | apply keeps_ite_snd | apply keepsO_next | apply keepsO_ite | apply keepsO_dite
        | apply kept_failLane))

theorem kept_execElectricalIdleEnd (igNow : Ignores.now π) (igOd : Ignores.od π) (igLanes : Ignores.lanes π) (igQuartz
  : Ignores.quartz π) (igSent : Ignores.sent π) (a0 : Fin 24) (s : State) (k : Keeps π s) :
    KeepsO π (execElectricalIdleEnd a0 s) := by
  unfold execElectricalIdleEnd
  repeat' (first
    | with_reducible assumption
    | intro _
    | (with_reducible first
        | apply keeps_ite | apply keeps_ite_snd | apply keepsO_next | apply keepsO_ite | apply keepsO_dite
        | apply kept_endHold))

theorem kept_laneActive (igOd : Ignores.od π) (igControl : Ignores.control π) (igNvm : Ignores.nvm π) (igLanes :
  Ignores.lanes π) (igSent : Ignores.sent π) (s : State) (a1 : Fin 4) (a2 : Fin 24) (k : Keeps π s) :
    Keeps π (State.laneActive s a1 a2) := by
  unfold State.laneActive
  repeat' (first
    | with_reducible assumption
    | intro _
    | (with_reducible first
        | apply keeps_ite | apply keeps_ite_snd | apply kept_wrN | apply kept_withLane | apply kept_withLink
        | apply kept_planned | apply kept_portComesUp))

theorem kept_refuseLane (igOd : Ignores.od π) (igControl : Ignores.control π) (igNvm : Ignores.nvm π) (igLanes :
  Ignores.lanes π) (igSent : Ignores.sent π) (s : State) (a1 : Fin 24) (a2 a3 : Nat) (k : Keeps π s) :
    Keeps π (State.refuseLane s a1 a2 a3) := by
  unfold State.refuseLane
  repeat' (first
    | with_reducible assumption
    | intro _
    | (with_reducible first
        | apply keeps_ite | apply keeps_ite_snd | apply kept_parkLane | apply kept_raise))

theorem kept_settleCap (igOd : Ignores.od π) (igControl : Ignores.control π) (igNvm : Ignores.nvm π) (igLanes :
  Ignores.lanes π) (igSent : Ignores.sent π) (s : State) (a1 : Fin 4) (a2 : Fin 24) (a3 : BitVec 256) (k : Keeps π s)
  :
    Keeps π (State.settleCap s a1 a2 a3) := by
  unfold State.settleCap
  repeat' (first
    | with_reducible assumption
    | intro _
    | (with_reducible first
        | apply keeps_ite | apply keeps_ite_snd | apply kept_refuseLane | apply kept_withLane | apply kept_laneActive
        | apply kept_withLink))

theorem kept_execCapBlockReceive (igOd : Ignores.od π) (igControl : Ignores.control π) (igNvm : Ignores.nvm π)
  (igLanes : Ignores.lanes π) (igSent : Ignores.sent π) (a0 : Fin 24) (a1 : BitVec 256) (s : State) (k : Keeps π s) :
    KeepsO π (execCapBlockReceive a0 a1 s) := by
  unfold execCapBlockReceive
  repeat' (first
    | with_reducible assumption
    | intro _
    | (with_reducible first
        | apply keeps_ite | apply keeps_ite_snd | apply keepsO_next | apply keepsO_ite | apply keepsO_dite
        | apply kept_withLane | apply kept_settleCap)
    | split)

theorem kept_execLaneLockLoss (igOd : Ignores.od π) (igControl : Ignores.control π) (igNvm : Ignores.nvm π) (igLanes :
  Ignores.lanes π) (igSent : Ignores.sent π) (a0 : Fin 24) (a1 : Bool) (s : State) (k : Keeps π s) :
    KeepsO π (execLaneLockLoss a0 a1 s) := by
  unfold execLaneLockLoss
  repeat' (first
    | with_reducible assumption
    | intro _
    | (with_reducible first
        | apply keeps_ite | apply keeps_ite_snd | apply keepsO_next | apply keepsO_ite | apply keepsO_dite
        | apply kept_failLane))

theorem kept_countPrbs (igLanes : Ignores.lanes π) (s : State) (a1 : Fin 24) (a2 a3 a4 : Nat) (k : Keeps π s) :
    Keeps π (State.countPrbs s a1 a2 a3 a4) := by
  unfold State.countPrbs
  repeat' (first
    | with_reducible assumption
    | intro _
    | (with_reducible first
        | apply keeps_ite | apply keeps_ite_snd | apply kept_withLane))

theorem kept_execPrbsCheckerLockLoss (igLanes : Ignores.lanes π) (a0 : Fin 24) (a1 a2 a3 : BitVec 64) (s : State) (k :
  Keeps π s) :
    KeepsO π (execPrbsCheckerLockLoss a0 a1 a2 a3 s) := by
  unfold execPrbsCheckerLockLoss
  repeat' (first
    | with_reducible assumption
    | intro _
    | (with_reducible first
        | apply keeps_ite | apply keeps_ite_snd | apply keepsO_next | apply keepsO_ite | apply keepsO_dite
        | apply kept_countPrbs | apply kept_withLane))

theorem kept_execBitLockTimeout (igNow : Ignores.now π) (igLanes : Ignores.lanes π) (igQuartz : Ignores.quartz π) (a0
  : Fin 24) (s : State) (k : Keeps π s) :
    KeepsO π (execBitLockTimeout a0 s) := by
  unfold execBitLockTimeout
  repeat' (first
    | with_reducible assumption
    | intro _
    | (with_reducible first
        | apply keeps_ite | apply keeps_ite_snd | apply keepsO_next | apply keepsO_ite | apply keepsO_dite
        | apply kept_parkLane | apply kept_stageOver))

theorem kept_execLiveTestRelockTimeout (igNow : Ignores.now π) (igOd : Ignores.od π) (igControl : Ignores.control π)
  (igNvm : Ignores.nvm π) (igLanes : Ignores.lanes π) (igQuartz : Ignores.quartz π) (igSent : Ignores.sent π) (a0 :
  Fin 24) (s : State) (k : Keeps π s) :
    KeepsO π (execLiveTestRelockTimeout a0 s) := by
  unfold execLiveTestRelockTimeout
  repeat' (first
    | with_reducible assumption
    | intro _
    | (with_reducible first
        | apply keeps_ite | apply keeps_ite_snd | apply keepsO_next | apply keepsO_ite | apply keepsO_dite
        | apply kept_until_ | apply kept_raise | apply kept_wrN | apply kept_endTest | apply kept_startLane
        | apply kept_withLink)
    | split)

theorem kept_execOppositePortDown (igOd : Ignores.od π) (igControl : Ignores.control π) (igNvm : Ignores.nvm π)
  (igTile : Ignores.tile π) (igSent : Ignores.sent π) (a0 : Fin 2) (s : State) (k : Keeps π s) :
    KeepsO π (execOppositePortDown a0 s) := by
  unfold execOppositePortDown
  repeat' (first
    | with_reducible assumption
    | intro _
    | (with_reducible first
        | apply keeps_ite | apply keeps_ite_snd | apply keepsO_next | apply keepsO_ite | apply keepsO_dite
        | apply kept_withTile | apply kept_raise))

theorem kept_runOver (igNow : Ignores.now π) (igQuartz : Ignores.quartz π) (s : State) (a1 : Fin 24) (k : Keeps π s) :
    Keeps π (State.runOver s a1) := by
  unfold State.runOver
  repeat' (first
    | with_reducible assumption
    | intro _
    | (with_reducible first
        | apply keeps_ite | apply keeps_ite_snd | apply kept_until_))

theorem kept_execPrbsDurationEnd (igNow : Ignores.now π) (igOd : Ignores.od π) (igLanes : Ignores.lanes π) (igQuartz :
  Ignores.quartz π) (a0 : Fin 24) (a1 a2 a3 : BitVec 64) (s : State) (k : Keeps π s) :
    KeepsO π (execPrbsDurationEnd a0 a1 a2 a3 s) := by
  unfold execPrbsDurationEnd
  repeat' (first
    | with_reducible assumption
    | intro _
    | (with_reducible first
        | apply keeps_ite | apply keeps_ite_snd | apply keepsO_next | apply keepsO_ite | apply keepsO_dite
        | apply kept_countPrbs | apply kept_publishPrbs | apply kept_withLane | apply kept_runOver
        | apply kept_withLink | apply kept_returnLane)
    | split)

theorem kept_execLoopTimingSlewComplete (igTile : Ignores.tile π) (a0 : Fin 2) (s : State) (k : Keeps π s) :
    KeepsO π (execLoopTimingSlewComplete a0 s) := by
  unfold execLoopTimingSlewComplete
  repeat' (first
    | with_reducible assumption
    | intro _
    | (with_reducible first
        | apply keeps_ite | apply keeps_ite_snd | apply keepsO_next | apply keepsO_ite | apply keepsO_dite
        | apply kept_withTile))

theorem kept_regain (igOd : Ignores.od π) (igLanes : Ignores.lanes π) (s : State) (a1 : Fin 4) (a2 : Fin 24) (a3 :
  LiveTest) (k : Keeps π s) :
    Keeps π (State.regain s a1 a2 a3) := by
  unfold State.regain
  repeat' (first
    | with_reducible assumption
    | intro _
    | (with_reducible first
        | apply keeps_ite | apply keeps_ite_snd | apply kept_planned | apply kept_withLink | apply kept_publishPrbs
        | apply kept_withLane))

theorem kept_startCap (igOd : Ignores.od π) (igControl : Ignores.control π) (igNvm : Ignores.nvm π) (igLanes :
  Ignores.lanes π) (igSent : Ignores.sent π) (s : State) (a1 : Fin 4) (a2 : Fin 24) (k : Keeps π s) :
    Keeps π (State.startCap s a1 a2) := by
  unfold State.startCap
  repeat' (first
    | with_reducible assumption
    | intro _
    | (with_reducible first
        | apply keeps_ite | apply keeps_ite_snd | apply kept_refuseLane | apply kept_withLane | apply kept_emit))

theorem kept_captureArrival (igLanes : Ignores.lanes π) (s : State) (a1 : Fin 4) (a2 : Fin 24) (a3 : Nat) (k : Keeps π
  s) :
    Keeps π (State.captureArrival s a1 a2 a3) := by
  unfold State.captureArrival
  repeat' (first
    | with_reducible assumption
    | intro _
    | (with_reducible first
        | apply keeps_ite | apply keeps_ite_snd | apply kept_withLink))

theorem kept_goodMarker (igOd : Ignores.od π) (igControl : Ignores.control π) (igNvm : Ignores.nvm π) (igLanes :
  Ignores.lanes π) (igSent : Ignores.sent π) (s : State) (a1 : Fin 4) (a2 : Fin 24) (a3 : BitVec 1360) (a4 : Nat) (k :
  Keeps π s) :
    Keeps π (State.goodMarker s a1 a2 a3 a4) := by
  unfold State.goodMarker
  repeat' (first
    | with_reducible assumption
    | intro _
    | (with_reducible first
        | apply keeps_ite | apply keeps_ite_snd | apply kept_wrN | apply kept_withLane | apply kept_captureArrival
        | apply kept_startCap | apply kept_takeSets | apply kept_regain)
    | split
    | simp -iota -proj only [])

theorem kept_answerTest (igOd : Ignores.od π) (igLanes : Ignores.lanes π) (s : State) (a1 : Fin 4) (a2 : Fin 24) (a3 :
  Nat) (k : Keeps π s) :
    Keeps π (State.answerTest s a1 a2 a3) := by
  unfold State.answerTest
  repeat' (first
    | with_reducible assumption
    | intro _
    | (with_reducible first
        | apply keeps_ite | apply keeps_ite_snd | apply kept_beginTest | apply kept_withLink))

theorem kept_takeTest (igOd : Ignores.od π) (igControl : Ignores.control π) (igNvm : Ignores.nvm π) (igLanes :
  Ignores.lanes π) (igSent : Ignores.sent π) (s : State) (a1 : Fin 4) (a2 : BitVec 1360) (k : Keeps π s) :
    Keeps π (State.takeTest s a1 a2) := by
  unfold State.takeTest
  repeat' (first
    | with_reducible assumption
    | intro _
    | (with_reducible first
        | apply keeps_ite | apply keeps_ite_snd | apply kept_answerTest | apply kept_withLink | apply kept_raise
        | apply kept_publishPrbs | apply kept_returnLane | apply kept_failTest)
    | split
    | simp -iota -proj only [])

theorem kept_execAlignmentMarkerReceive (igOd : Ignores.od π) (igControl : Ignores.control π) (igNvm : Ignores.nvm π)
  (igLanes : Ignores.lanes π) (igSent : Ignores.sent π) (a0 : Fin 24) (a1 : Option (BitVec 1360)) (a2 : BitVec 32) (s
  : State) (k : Keeps π s) :
    KeepsO π (execAlignmentMarkerReceive a0 a1 a2 s) := by
  unfold execAlignmentMarkerReceive
  repeat' (first
    | with_reducible assumption
    | intro _
    | (with_reducible first
        | apply keeps_ite | apply keeps_ite_snd | apply keepsO_next | apply keepsO_ite | apply keepsO_dite
        | apply kept_withLane | apply kept_bump | apply kept_goodMarker | apply kept_takeTest)
    | split)

theorem kept_execCapabilityRefuseWaitEnd (igNow : Ignores.now π) (igOd : Ignores.od π) (igLanes : Ignores.lanes π)
  (igQuartz : Ignores.quartz π) (igSent : Ignores.sent π) (a0 : Fin 24) (s : State) (k : Keeps π s) :
    KeepsO π (execCapabilityRefuseWaitEnd a0 s) := by
  unfold execCapabilityRefuseWaitEnd
  repeat' (first
    | with_reducible assumption
    | intro _
    | (with_reducible first
        | apply keeps_ite | apply keeps_ite_snd | apply keepsO_next | apply keepsO_ite | apply keepsO_dite
        | apply kept_endHold))

theorem kept_execReceiverDetectTest (igLanes : Ignores.lanes π) (igSent : Ignores.sent π) (a0 : Fin 24) (a1 : BitVec
  16) (s : State) (k : Keeps π s) :
    KeepsO π (execReceiverDetectTest a0 a1 s) := by
  unfold execReceiverDetectTest
  repeat' (first
    | with_reducible assumption
    | intro _
    | (with_reducible first
        | apply keeps_ite | apply keeps_ite_snd | apply keepsO_next | apply keepsO_ite | apply keepsO_dite
        | apply kept_startTraining | apply kept_emit | apply kept_withLane))

theorem kept_addCounts (igOd : Ignores.od π) (s : State) (a1 : Fin 24) (a2 : CwCounts) (k : Keeps π s) :
    Keeps π (State.addCounts s a1 a2) := by
  unfold State.addCounts
  repeat' (first
    | with_reducible assumption
    | intro _
    | (with_reducible first
        | apply keeps_ite | apply keeps_ite_snd | apply kept_bump))

theorem kept_execLaneHealthWindow (igNow : Ignores.now π) (igOd : Ignores.od π) (igControl : Ignores.control π) (igNvm
  : Ignores.nvm π) (igLanes : Ignores.lanes π) (igQuartz : Ignores.quartz π) (igSent : Ignores.sent π) (a0 : Fin 24)
  (a1 : List (Nat × List Sym)) (a2 : BitVec 8) (s : State) (k : Keeps π s) :
    KeepsO π (execLaneHealthWindow a0 a1 a2 s) := by
  unfold execLaneHealthWindow
  repeat' (first
    | with_reducible assumption
    | intro _
    | (with_reducible first
        | apply keeps_ite | apply keeps_ite_snd | apply keepsO_next | apply keepsO_ite | apply keepsO_dite
        | apply kept_pass | apply kept_addCounts | apply kept_withLink | apply kept_wrN | apply kept_raise
        | apply kept_planned)
    | split
    | simp -iota -proj only [])

theorem kept_execAlignLockTimeout (igNow : Ignores.now π) (igLanes : Ignores.lanes π) (igQuartz : Ignores.quartz π)
  (a0 : Fin 24) (s : State) (k : Keeps π s) :
    KeepsO π (execAlignLockTimeout a0 s) := by
  unfold execAlignLockTimeout
  repeat' (first
    | with_reducible assumption
    | intro _
    | (with_reducible first
        | apply keeps_ite | apply keeps_ite_snd | apply keepsO_next | apply keepsO_ite | apply keepsO_dite
        | apply kept_parkLane | apply kept_stageOver))

theorem kept_execLoopTimingRestore (igTile : Ignores.tile π) (a0 : Fin 2) (s : State) (k : Keeps π s) :
    KeepsO π (execLoopTimingRestore a0 s) := by
  unfold execLoopTimingRestore
  repeat' (first
    | with_reducible assumption
    | intro _
    | (with_reducible first
        | apply keeps_ite | apply keeps_ite_snd | apply keepsO_next | apply keepsO_ite | apply keepsO_dite
        | apply kept_withTile))

theorem kept_execDetectTimeout (igNow : Ignores.now π) (igOd : Ignores.od π) (igControl : Ignores.control π) (igNvm :
  Ignores.nvm π) (igLanes : Ignores.lanes π) (igQuartz : Ignores.quartz π) (igSent : Ignores.sent π) (a0 : Fin 24) (s
  : State) (k : Keeps π s) :
    KeepsO π (execDetectTimeout a0 s) := by
  unfold execDetectTimeout
  repeat' (first
    | with_reducible assumption
    | intro _
    | (with_reducible first
        | apply keeps_ite | apply keeps_ite_snd | apply keepsO_next | apply keepsO_ite | apply keepsO_dite
        | apply kept_until_ | apply kept_raise | apply kept_withLane))

theorem kept_execFailedLaneRetry (igNow : Ignores.now π) (igOd : Ignores.od π) (igLanes : Ignores.lanes π) (igQuartz :
  Ignores.quartz π) (igSent : Ignores.sent π) (a0 : Fin 24) (s : State) (k : Keeps π s) :
    KeepsO π (execFailedLaneRetry a0 s) := by
  unfold execFailedLaneRetry
  repeat' (first
    | with_reducible assumption
    | intro _
    | (with_reducible first
        | apply keeps_ite | apply keeps_ite_snd | apply keepsO_next | apply keepsO_ite | apply keepsO_dite
        | apply kept_endHold))

theorem kept_portDown (igOd : Ignores.od π) (igControl : Ignores.control π) (igNvm : Ignores.nvm π) (igLanes :
  Ignores.lanes π) (igQuartz : Ignores.quartz π) (igSent : Ignores.sent π) (s : State) (a1 : Fin 4) (a2 : Nat) (k :
  Keeps π s) :
    Keeps π (State.portDown s a1 a2) := by
  unfold State.portDown
  repeat' (first
    | with_reducible assumption
    | intro _
    | (with_reducible first
        | apply keeps_ite | apply keeps_ite_snd | apply kept_raise | apply kept_withLink | apply kept_neighbourDown
        | apply kept_bringUp | apply kept_failTest))

theorem kept_takeSet (igOd : Ignores.od π) (igLanes : Ignores.lanes π) (s : State) (a1 : BitVec 8) (a2 : Option Nat)
  (a3 : Fin 24) (k : Keeps π s) :
    Keeps π (State.takeSet s a1 a2 a3) := by
  unfold State.takeSet
  repeat' (first
    | with_reducible assumption
    | intro _
    | (with_reducible first
        | apply keeps_ite | apply keeps_ite_snd | apply kept_withLane | apply kept_laneOff))

theorem kept_switchTest (igOd : Ignores.od π) (igLanes : Ignores.lanes π) (s : State) (a1 : Fin 4) (k : Keeps π s) :
    Keeps π (State.switchTest s a1) := by
  unfold State.switchTest
  repeat' (first
    | with_reducible assumption
    | intro _
    | (with_reducible first
        | apply keeps_ite | apply keeps_ite_snd | apply kept_withLink | apply kept_publishPrbs | apply kept_withLane)
    | split
    | simp -iota -proj only [])

theorem kept_applySet (igOd : Ignores.od π) (igControl : Ignores.control π) (igNvm : Ignores.nvm π) (igLanes :
  Ignores.lanes π) (igQuartz : Ignores.quartz π) (igSent : Ignores.sent π) (s : State) (a1 : Fin 4) (a2 : BitVec 8) (k
  : Keeps π s) :
    Keeps π (State.applySet s a1 a2) := by
  unfold State.applySet
  repeat' (first
    | with_reducible assumption
    | intro _
    | (with_reducible first
        | apply keeps_ite | apply keeps_ite_snd | apply keeps_foldl | apply kept_withLink | apply kept_switchTest
        | apply kept_takeSet | apply kept_portDown | apply kept_portComesUp))

theorem kept_fillInterval (igLanes : Ignores.lanes π) (igSent : Ignores.sent π) (s : State) (a1 : Fin 4) (a2 : List
  (BitVec 256)) (k : Keeps π s) :
    Keeps π (State.fillInterval s a1 a2) := by
  unfold State.fillInterval
  repeat' (first
    | with_reducible assumption
    | intro _
    | (with_reducible first
        | apply keeps_ite | apply keeps_ite_snd | apply kept_linkBlocks))

theorem kept_execAlignmentMarkerSend (igOd : Ignores.od π) (igControl : Ignores.control π) (igNvm : Ignores.nvm π)
  (igLanes : Ignores.lanes π) (igQuartz : Ignores.quartz π) (igSent : Ignores.sent π) (a0 : Fin 4) (s : State) (k :
  Keeps π s) :
    KeepsO π (execAlignmentMarkerSend a0 s) := by
  unfold execAlignmentMarkerSend
  repeat' (first
    | with_reducible assumption
    | intro _
    | (with_reducible first
        | apply keeps_ite | apply keeps_ite_snd | apply keepsO_next | apply keepsO_ite | apply keepsO_dite
        | apply keeps_foldl | apply kept_fillInterval | apply kept_emits | apply kept_withLane | apply kept_withLink
        | apply kept_applySet)
    | split)

theorem kept_withQuartz (igQuartz : Ignores.quartz π) (s : State) (a1 : Quartz → Quartz) (k : Keeps π s) :
    Keeps π (State.withQuartz s a1) := by
  unfold State.withQuartz
  repeat' (first
    | with_reducible assumption
    | intro _
    | (with_reducible first
        | apply keeps_ite | apply keeps_ite_snd)
    | split
    | simp -iota -proj only []
    | dsimp only
    | with_reducible apply keeps_set_quartz)

theorem kept_applyChange (igOd : Ignores.od π) (igControl : Ignores.control π) (igNvm : Ignores.nvm π) (igQuartz :
  Ignores.quartz π) (igSent : Ignores.sent π) (s : State) (a1 : TimingChange) (k : Keeps π s) :
    Keeps π (State.applyChange s a1) := by
  unfold State.applyChange
  repeat' (first
    | with_reducible assumption
    | intro _
    | (with_reducible first
        | apply keeps_ite | apply keeps_ite_snd | apply kept_withQuartz | apply kept_wrN | apply kept_raise)
    | split)

theorem kept_takeChange (igOd : Ignores.od π) (igControl : Ignores.control π) (igNvm : Ignores.nvm π) (igQuartz :
  Ignores.quartz π) (igSent : Ignores.sent π) (s : State) (a1 : Option TimingChange) (k : Keeps π s) :
    Keeps π (State.takeChange s a1) := by
  unfold State.takeChange
  repeat' (first
    | with_reducible assumption
    | intro _
    | (with_reducible first
        | apply keeps_ite | apply keeps_ite_snd | apply kept_withQuartz | apply kept_applyChange)
    | split)

theorem kept_holdover (igOd : Ignores.od π) (igControl : Ignores.control π) (igNvm : Ignores.nvm π) (igQuartz :
  Ignores.quartz π) (igSent : Ignores.sent π) (s : State) (a1 : Nat) (k : Keeps π s) :
    Keeps π (State.holdover s a1) := by
  unfold State.holdover
  repeat' (first
    | with_reducible assumption
    | intro _
    | (with_reducible first
        | apply keeps_ite | apply keeps_ite_snd | apply kept_withQuartz | apply kept_raise))

theorem kept_quartzLock (igOd : Ignores.od π) (igControl : Ignores.control π) (igNvm : Ignores.nvm π) (igQuartz :
  Ignores.quartz π) (igSent : Ignores.sent π) (s : State) (a1 : Nat) (k : Keeps π s) :
    Keeps π (State.quartzLock s a1) := by
  unfold State.quartzLock
  repeat' (first
    | with_reducible assumption
    | intro _
    | (with_reducible first
        | apply keeps_ite | apply keeps_ite_snd | apply kept_withQuartz | apply kept_raise))

theorem kept_steer (igQuartz : Ignores.quartz π) (s : State) (a1 : Int) (k : Keeps π s) :
    Keeps π (State.steer s a1) := by
  unfold State.steer
  repeat' (first
    | with_reducible assumption
    | intro _
    | (with_reducible first
        | apply keeps_ite | apply keeps_ite_snd | apply kept_withQuartz))

theorem kept_settlePending (igOd : Ignores.od π) (igControl : Ignores.control π) (igNvm : Ignores.nvm π) (igQuartz :
  Ignores.quartz π) (igSent : Ignores.sent π) (s : State) (a1 : TimingSet) (k : Keeps π s) :
    Keeps π (State.settlePending s a1) := by
  unfold State.settlePending
  repeat' (first
    | with_reducible assumption
    | intro _
    | (with_reducible first
        | apply keeps_ite | apply keeps_ite_snd | apply kept_applyChange | apply kept_withQuartz)
    | split)

theorem kept_adoptSet (igOd : Ignores.od π) (igControl : Ignores.control π) (igNvm : Ignores.nvm π) (igQuartz :
  Ignores.quartz π) (igSent : Ignores.sent π) (s : State) (a1 : TimingSet) (k : Keeps π s) :
    Keeps π (State.adoptSet s a1) := by
  unfold State.adoptSet
  repeat' (first
    | with_reducible assumption
    | intro _
    | (with_reducible first
        | apply keeps_ite | apply keeps_ite_snd | apply kept_settlePending | apply kept_wrN | apply kept_withQuartz))

theorem kept_untilPhase (igNow : Ignores.now π) (igQuartz : Ignores.quartz π) (s : State) (a1 a2 : Nat) (k : Keeps π
  s) :
    Keeps π (State.untilPhase s a1 a2) := by
  unfold State.untilPhase
  repeat' (first
    | with_reducible assumption
    | intro _
    | (with_reducible first
        | apply keeps_ite | apply keeps_ite_snd | apply kept_untilWall))

theorem kept_withHost (igHostPort : Ignores.hostPort π) (igSent : Ignores.sent π) (s : State) (a1 : HostPort →
  HostPort) (k : Keeps π s) :
    Keeps π (State.withHost s a1) := by
  unfold State.withHost
  repeat' (first
    | with_reducible assumption
    | intro _
    | (with_reducible first
        | apply keeps_ite | apply keeps_ite_snd | apply kept_emit)
    | split
    | simp -iota -proj only []
    | dsimp only
    | with_reducible apply keeps_set_hostPort)

theorem kept_withBox (igHostPort : Ignores.hostPort π) (igSent : Ignores.sent π) (s : State) (a1 : Fin 128) (a2 :
  MbChannel → MbChannel) (k : Keeps π s) :
    Keeps π (State.withBox s a1 a2) := by
  unfold State.withBox
  repeat' (first
    | with_reducible assumption
    | intro _
    | (with_reducible first
        | apply keeps_ite | apply keeps_ite_snd | apply kept_withHost))

theorem kept_withSem (igHostPort : Ignores.hostPort π) (igSent : Ignores.sent π) (s : State) (a1 : Fin 32) (a2 :
  Semaphore → Semaphore) (k : Keeps π s) :
    Keeps π (State.withSem s a1 a2) := by
  unfold State.withSem
  repeat' (first
    | with_reducible assumption
    | intro _
    | (with_reducible first
        | apply keeps_ite | apply keeps_ite_snd | apply kept_withHost))

theorem kept_freeSem (igOd : Ignores.od π) (igControl : Ignores.control π) (igNvm : Ignores.nvm π) (igHostPort :
  Ignores.hostPort π) (igSent : Ignores.sent π) (s : State) (a1 : Fin 32) (a2 : Nat) (k : Keeps π s) :
    Keeps π (State.freeSem s a1 a2) := by
  unfold State.freeSem
  repeat' (first
    | with_reducible assumption
    | intro _
    | (with_reducible first
        | apply keeps_ite | apply keeps_ite_snd | apply kept_withSem | apply kept_withHost | apply kept_raise))

theorem kept_tellSender (igSent : Ignores.sent π) (s : State) (a1 : Fin 128) (k : Keeps π s) :
    Keeps π (State.tellSender s a1) := by
  unfold State.tellSender
  repeat' (first
    | with_reducible assumption
    | intro _
    | (with_reducible first
        | apply keeps_ite | apply keeps_ite_snd | apply kept_emit))

theorem kept_masterReset (igOd : Ignores.od π) (igControl : Ignores.control π) (igNvm : Ignores.nvm π) (igHostPort :
  Ignores.hostPort π) (igSent : Ignores.sent π) (s : State) (a1 : BitVec 7) (k : Keeps π s) :
    Keeps π (State.masterReset s a1) := by
  unfold State.masterReset
  repeat' (first
    | with_reducible assumption
    | intro _
    | (with_reducible first
        | apply keeps_ite | apply keeps_ite_snd | apply keeps_foldl | apply kept_withBox | apply kept_tellSender
        | apply kept_freeSem))

theorem kept_resetMasters (igOd : Ignores.od π) (igControl : Ignores.control π) (igNvm : Ignores.nvm π) (igHostPort :
  Ignores.hostPort π) (igSent : Ignores.sent π) (s : State) (k : Keeps π s) :
    Keeps π (State.resetMasters s) := by
  unfold State.resetMasters
  repeat' (first
    | with_reducible assumption
    | intro _
    | (with_reducible first
        | apply keeps_ite | apply keeps_ite_snd | apply keeps_foldl | apply kept_masterReset))

theorem kept_emptyNative (igHostPort : Ignores.hostPort π) (igSent : Ignores.sent π) (s : State) (a1 : Fin 128) (k :
  Keeps π s) :
    Keeps π (State.emptyNative s a1) := by
  unfold State.emptyNative
  repeat' (first
    | with_reducible assumption
    | intro _
    | (with_reducible first
        | apply keeps_ite | apply keeps_ite_snd | apply kept_tellSender | apply kept_withBox))

theorem kept_violation (igOd : Ignores.od π) (igControl : Ignores.control π) (igNvm : Ignores.nvm π) (igHostPort :
  Ignores.hostPort π) (igSent : Ignores.sent π) (s : State) (a1 : BitVec 7) (a2 : Nat) (k : Keeps π s) :
    Keeps π (State.violation s a1 a2) := by
  unfold State.violation
  repeat' (first
    | with_reducible assumption
    | intro _
    | (with_reducible first
        | apply keeps_ite | apply keeps_ite_snd | apply kept_withHost | apply kept_raiseLimited))

theorem kept_semWrite (igOd : Ignores.od π) (igControl : Ignores.control π) (igNvm : Ignores.nvm π) (igHostPort :
  Ignores.hostPort π) (igSent : Ignores.sent π) (s : State) (a1 : BitVec 7) (a2 : Fin 32) (k : Keeps π s) :
    Keeps π (State.semWrite s a1 a2) := by
  unfold State.semWrite
  repeat' (first
    | with_reducible assumption
    | intro _
    | (with_reducible first
        | apply keeps_ite | apply keeps_ite_snd | apply kept_withSem | apply kept_violation))

theorem kept_boundWrite (igOd : Ignores.od π) (igControl : Ignores.control π) (igNvm : Ignores.nvm π) (igHostPort :
  Ignores.hostPort π) (igSent : Ignores.sent π) (s : State) (a1 : BitVec 7) (a2 : Fin 128) (a3 : Bool) (a4 : State →
  State) (hf : ∀ s, Keeps π s → Keeps π (a4 s)) (k : Keeps π s) :
    KeepsO π (State.boundWrite s a1 a2 a3 a4) := by
  unfold State.boundWrite
  repeat' (first
    | with_reducible assumption
    | intro _
    | (with_reducible first
        | apply keeps_ite | apply keeps_ite_snd | apply keepsO_next | apply keepsO_ite | apply keepsO_dite
        | apply kept_violation | apply hf))

theorem kept_execMbTake (igOd : Ignores.od π) (igControl : Ignores.control π) (igNvm : Ignores.nvm π) (igHostPort :
  Ignores.hostPort π) (igSent : Ignores.sent π) (a0 : BitVec 7) (a1 : Fin 128) (s : State) (k : Keeps π s) :
    KeepsO π (execMbTake a0 a1 s) := by
  unfold execMbTake
  repeat' (first
    | with_reducible assumption
    | intro _
    | (with_reducible first
        | apply keeps_ite | apply keeps_ite_snd | apply keepsO_next | apply keepsO_ite | apply keepsO_dite
        | apply kept_boundWrite | apply kept_emptyNative))

theorem kept_posted (igHostPort : Ignores.hostPort π) (igSent : Ignores.sent π) (s : State) (a1 : Fin 128) (k : Keeps
  π s) :
    Keeps π (State.posted s a1) := by
  unfold State.posted
  repeat' (first
    | with_reducible assumption
    | intro _
    | (with_reducible first
        | apply keeps_ite | apply keeps_ite_snd | apply kept_withBox | apply kept_emit))

theorem kept_execMbBindWrite (igOd : Ignores.od π) (igControl : Ignores.control π) (igNvm : Ignores.nvm π) (igHostPort
  : Ignores.hostPort π) (igSent : Ignores.sent π) (a0 : BitVec 7) (a1 : Fin 128) (a2 : Word) (s : State) (k : Keeps π
  s) :
    KeepsO π (execMbBindWrite a0 a1 a2 s) := by
  unfold execMbBindWrite
  repeat' (first
    | with_reducible assumption
    | intro _
    | (with_reducible first
        | apply keeps_ite | apply keeps_ite_snd | apply keepsO_next | apply keepsO_ite | apply keepsO_dite
        | apply kept_raise | apply kept_withBox | apply kept_withHost))

theorem kept_execMbLockWrite (igOd : Ignores.od π) (igControl : Ignores.control π) (igNvm : Ignores.nvm π) (igHostPort
  : Ignores.hostPort π) (igSent : Ignores.sent π) (a0 : BitVec 7) (a1 : Word) (s : State) (k : Keeps π s) :
    KeepsO π (execMbLockWrite a0 a1 s) := by
  unfold execMbLockWrite
  repeat' (first
    | with_reducible assumption
    | intro _
    | (with_reducible first
        | apply keeps_ite | apply keeps_ite_snd | apply keepsO_next | apply keepsO_ite | apply keepsO_dite
        | apply kept_raise | apply kept_withHost))

theorem kept_execSemWrite (igOd : Ignores.od π) (igControl : Ignores.control π) (igNvm : Ignores.nvm π) (igHostPort :
  Ignores.hostPort π) (igSent : Ignores.sent π) (a0 : BitVec 7) (a1 : Fin 32) (s : State) (k : Keeps π s) :
    KeepsO π (execSemWrite a0 a1 s) := by
  unfold execSemWrite
  repeat' (first
    | with_reducible assumption
    | intro _
    | (with_reducible first
        | apply keeps_ite | apply keeps_ite_snd | apply keepsO_next | apply keepsO_ite | apply keepsO_dite
        | apply kept_semWrite))

theorem kept_execSemForce (igOd : Ignores.od π) (igControl : Ignores.control π) (igNvm : Ignores.nvm π) (igHostPort :
  Ignores.hostPort π) (igSent : Ignores.sent π) (a0 : BitVec 7) (a1 : Word) (s : State) (k : Keeps π s) :
    KeepsO π (execSemForce a0 a1 s) := by
  unfold execSemForce
  repeat' (first
    | with_reducible assumption
    | intro _
    | (with_reducible first
        | apply keeps_ite | apply keeps_ite_snd | apply keepsO_next | apply keepsO_ite | apply keepsO_dite
        | apply kept_violation | apply kept_freeSem))

theorem kept_emptyExplicit (igHostPort : Ignores.hostPort π) (igSent : Ignores.sent π) (s : State) (a1 : Fin 128) (a2
  : BitVec 16) (k : Keeps π s) :
    Keeps π (State.emptyExplicit s a1 a2) := by
  unfold State.emptyExplicit
  repeat' (first
    | with_reducible assumption
    | intro _
    | (with_reducible first
        | apply keeps_ite | apply keeps_ite_snd | apply kept_tellSender | apply kept_withBox))

theorem kept_execMbFlush (igOd : Ignores.od π) (igControl : Ignores.control π) (igNvm : Ignores.nvm π) (igHostPort :
  Ignores.hostPort π) (igSent : Ignores.sent π) (a0 : BitVec 7) (a1 : Fin 128) (s : State) (k : Keeps π s) :
    KeepsO π (execMbFlush a0 a1 s) := by
  unfold execMbFlush
  repeat' (first
    | with_reducible assumption
    | intro _
    | (with_reducible first
        | apply keeps_ite | apply keeps_ite_snd | apply keepsO_next | apply keepsO_ite | apply keepsO_dite
        | apply kept_boundWrite | apply kept_emptyExplicit | apply kept_emptyNative))

theorem kept_execMbPost (igOd : Ignores.od π) (igControl : Ignores.control π) (igNvm : Ignores.nvm π) (igHostPort :
  Ignores.hostPort π) (igSent : Ignores.sent π) (a0 : BitVec 7) (a1 : Fin 128) (s : State) (k : Keeps π s) :
    KeepsO π (execMbPost a0 a1 s) := by
  unfold execMbPost
  repeat' (first
    | with_reducible assumption
    | intro _
    | (with_reducible first
        | apply keeps_ite | apply keeps_ite_snd | apply keepsO_next | apply keepsO_ite | apply keepsO_dite
        | apply kept_boundWrite | apply kept_withBox | apply kept_posted))

theorem kept_execReturnCodeWrite (igOd : Ignores.od π) (igControl : Ignores.control π) (igNvm : Ignores.nvm π)
  (igHostPort : Ignores.hostPort π) (igSent : Ignores.sent π) (a0 : BitVec 7) (a1 : Fin 128) (a2 : BitVec 16) (s :
  State) (k : Keeps π s) :
    KeepsO π (execReturnCodeWrite a0 a1 a2 s) := by
  unfold execReturnCodeWrite
  repeat' (first
    | with_reducible assumption
    | intro _
    | (with_reducible first
        | apply keeps_ite | apply keeps_ite_snd | apply keepsO_next | apply keepsO_ite | apply keepsO_dite
        | apply kept_boundWrite | apply kept_emptyExplicit))

theorem kept_execMbMsgWrite (igOd : Ignores.od π) (igControl : Ignores.control π) (igNvm : Ignores.nvm π) (igHostPort
  : Ignores.hostPort π) (igSent : Ignores.sent π) (a0 : BitVec 7) (a1 : Fin 128) (a2 : Fin 4) (a3 : Word) (s : State)
  (k : Keeps π s) :
    KeepsO π (execMbMsgWrite a0 a1 a2 a3 s) := by
  unfold execMbMsgWrite
  repeat' (first
    | with_reducible assumption
    | intro _
    | (with_reducible first
        | apply keeps_ite | apply keeps_ite_snd | apply keepsO_next | apply keepsO_ite | apply keepsO_dite
        | apply kept_boundWrite | apply kept_withBox))

theorem kept_clearStatus (igOd : Ignores.od π) (igControl : Ignores.control π) (igNvm : Ignores.nvm π) (igHostPort :
  Ignores.hostPort π) (igSent : Ignores.sent π) (s : State) (a1 : BitVec 7) (a2 : Fin 128) (a3 : Word) (k : Keeps π s)
  :
    Keeps π (State.clearStatus s a1 a2 a3) := by
  unfold State.clearStatus
  repeat' (first
    | with_reducible assumption
    | intro _
    | (with_reducible first
        | apply keeps_ite | apply keeps_ite_snd | apply kept_withBox | apply kept_violation))

theorem kept_execMbStatusClear (igOd : Ignores.od π) (igControl : Ignores.control π) (igNvm : Ignores.nvm π)
  (igHostPort : Ignores.hostPort π) (igSent : Ignores.sent π) (a0 : BitVec 7) (a1 : Fin 128) (a2 : Word) (s : State)
  (k : Keeps π s) :
    KeepsO π (execMbStatusClear a0 a1 a2 s) := by
  unfold execMbStatusClear
  repeat' (first
    | with_reducible assumption
    | intro _
    | (with_reducible first
        | apply keeps_ite | apply keeps_ite_snd | apply keepsO_next | apply keepsO_ite | apply keepsO_dite
        | apply kept_boundWrite | apply kept_clearStatus))

theorem kept_semRead (igHostPort : Ignores.hostPort π) (igSent : Ignores.sent π) (s : State) (a1 : BitVec 7) (a2 : Fin
  32) (k : Keeps π s) :
    Keeps π (State.semRead s a1 a2).2 := by
  unfold State.semRead
  repeat' (first
    | with_reducible assumption
    | intro _
    | (with_reducible first
        | apply keeps_ite | apply keeps_ite_snd | apply kept_withSem))

theorem kept_execSemRead (igHostPort : Ignores.hostPort π) (igSent : Ignores.sent π) (a0 : List (BitVec 7)) (a1 : Fin
  32) (s : State) (k : Keeps π s) :
    KeepsO π (execSemRead a0 a1 s) := by
  unfold execSemRead
  repeat' (first
    | with_reducible assumption
    | intro _
    | (with_reducible first
        | apply keeps_ite | apply keeps_ite_snd | apply keepsO_next | apply keepsO_ite | apply keepsO_dite
        | apply keeps_foldl | apply kept_semRead | apply kept_emit)
    | (refine keeps_pair ?_ (by with_reducible assumption))
    | (refine keeps_triple ?_ (by with_reducible assumption)))

theorem kept_execMasterReset (igOd : Ignores.od π) (igControl : Ignores.control π) (igNvm : Ignores.nvm π) (igHostPort
  : Ignores.hostPort π) (igSent : Ignores.sent π) (a0 : BitVec 7) (s : State) (k : Keeps π s) :
    KeepsO π (execMasterReset a0 s) := by
  unfold execMasterReset
  repeat' (first
    | with_reducible assumption
    | intro _
    | (with_reducible first
        | apply keeps_ite | apply keeps_ite_snd | apply keepsO_next | apply keepsO_ite | apply keepsO_dite
        | apply kept_masterReset))

theorem kept_withChain (igPorts : Ignores.ports π) (s : State) (a1 : Fin 2) (a2 : ChainPort → ChainPort) (k : Keeps π
  s) :
    Keeps π (State.withChain s a1 a2) := by
  unfold State.withChain
  repeat' (first
    | with_reducible assumption
    | intro _
    | (with_reducible first
        | apply keeps_ite | apply keeps_ite_snd)
    | split
    | simp -iota -proj only []
    | dsimp only
    | with_reducible apply keeps_set_ports)

theorem kept_sendOn (igLanes : Ignores.lanes π) (igSent : Ignores.sent π) (s : State) (a1 : Fin 2) (a2 : CascadeUnit)
  (k : Keeps π s) :
    Keeps π (State.sendOn s a1 a2) := by
  unfold State.sendOn
  repeat' (first
    | with_reducible assumption
    | intro _
    | (with_reducible first
        | apply keeps_ite | apply keeps_ite_snd | apply kept_linkBlocks | apply kept_emit))

theorem kept_sendUnit (igLanes : Ignores.lanes π) (igCascade : Ignores.cascade π) (igSent : Ignores.sent π) (s :
  State) (a1 a2 a3 a4 : Nat) (a5 : List Byte) (k : Keeps π s) :
    Keeps π (State.sendUnit s a1 a2 a3 a4 a5) := by
  unfold State.sendUnit
  repeat' (first
    | with_reducible assumption
    | intro _
    | (with_reducible first
        | apply keeps_ite | apply keeps_ite_snd | apply keeps_foldl | apply kept_sendOn)
    | split
    | simp -iota -proj only []
    | dsimp only
    | with_reducible apply keeps_set_cascade)

theorem kept_release (igPorts : Ignores.ports π) (s : State) (a1 : Fin 2) (a2 : Nat) (a3 : Cell) (k : Keeps π s) :
    Keeps π (State.release s a1 a2 a3) := by
  unfold State.release
  repeat' (first
    | with_reducible assumption
    | intro _
    | (with_reducible first
        | apply keeps_ite | apply keeps_ite_snd | apply kept_withChain))

theorem kept_originateAt (igLanes : Ignores.lanes π) (igPorts : Ignores.ports π) (igCascade : Ignores.cascade π)
  (igSent : Ignores.sent π) (s : State) (a1 : Fin 2) (a2 a3 a4 : Nat) (a5 : List Byte) (a6 : Nat) (k : Keeps π s) :
    Keeps π (State.originateAt s a1 a2 a3 a4 a5 a6) := by
  unfold State.originateAt
  repeat' (first
    | with_reducible assumption
    | intro _
    | (with_reducible first
        | apply keeps_ite | apply keeps_ite_snd | apply kept_withChain | apply kept_release | apply kept_sendUnit))

theorem kept_originateChain (igLanes : Ignores.lanes π) (igPorts : Ignores.ports π) (igCascade : Ignores.cascade π)
  (igSent : Ignores.sent π) (s : State) (a1 : Fin 2) (a2 a3 a4 : Nat) (a5 : List Byte) (k : Keeps π s) :
    Keeps π (State.originateChain s a1 a2 a3 a4 a5) := by
  unfold State.originateChain
  repeat' (first
    | with_reducible assumption
    | intro _
    | (with_reducible first
        | apply keeps_ite | apply keeps_ite_snd | apply kept_originateAt))

theorem kept_withControl (igControl : Ignores.control π) (s : State) (a1 : Control → Control) (k : Keeps π s) :
    Keeps π (State.withControl s a1) := by
  unfold State.withControl
  repeat' (first
    | with_reducible assumption
    | intro _
    | (with_reducible first
        | apply keeps_ite | apply keeps_ite_snd)
    | split
    | simp -iota -proj only []
    | dsimp only
    | with_reducible apply keeps_set_control)

theorem kept_sendMgmtUnit (igLanes : Ignores.lanes π) (igCascade : Ignores.cascade π) (igSent : Ignores.sent π) (s :
  State) (a1 a2 : Nat) (a3 : List Byte) (k : Keeps π s) :
    Keeps π (State.sendMgmtUnit s a1 a2 a3) := by
  unfold State.sendMgmtUnit
  repeat' (first
    | with_reducible assumption
    | intro _
    | (with_reducible first
        | apply keeps_ite | apply keeps_ite_snd | apply kept_sendUnit))

theorem kept_withCtx (igControl : Ignores.control π) (s : State) (a1 : CtxId) (a2 : Ctx → Ctx) (k : Keeps π s) :
    Keeps π (State.withCtx s a1 a2) := by
  unfold State.withCtx
  repeat' (first
    | with_reducible assumption
    | intro _
    | (with_reducible first
        | apply keeps_ite | apply keeps_ite_snd)
    | split
    | simp -iota -proj only []
    | dsimp only
    | with_reducible apply keeps_set_control)

theorem kept_sendCtrl (igLanes : Ignores.lanes π) (igCascade : Ignores.cascade π) (igSent : Ignores.sent π) (s :
  State) (a1 a2 a3 a4 a5 : Nat) (a6 : List Byte) (k : Keeps π s) :
    Keeps π (State.sendCtrl s a1 a2 a3 a4 a5 a6) := by
  unfold State.sendCtrl
  repeat' (first
    | with_reducible assumption
    | intro _
    | (with_reducible first
        | apply keeps_ite | apply keeps_ite_snd | apply kept_sendUnit))

theorem kept_sendPeer (igLanes : Ignores.lanes π) (igCascade : Ignores.cascade π) (igSent : Ignores.sent π) (s :
  State) (a1 : Fin 2) (a2 a3 a4 : Nat) (a5 : List Byte) (k : Keeps π s) :
    Keeps π (State.sendPeer s a1 a2 a3 a4 a5) := by
  unfold State.sendPeer
  repeat' (first
    | with_reducible assumption
    | intro _
    | (with_reducible first
        | apply keeps_ite | apply keeps_ite_snd | apply kept_sendCtrl))

theorem kept_setCState (igOd : Ignores.od π) (igPorts : Ignores.ports π) (s : State) (a1 : Fin 2) (a2 : CState) (k :
  Keeps π s) :
    Keeps π (State.setCState s a1 a2) := by
  unfold State.setCState
  repeat' (first
    | with_reducible assumption
    | intro _
    | (with_reducible first
        | apply keeps_ite | apply keeps_ite_snd | apply kept_wrN | apply kept_withChain))

theorem kept_answer (igControl : Ignores.control π) (igHostPort : Ignores.hostPort π) (igSent : Ignores.sent π) (s :
  State) (a1 : CtxId) (a2 : Bool) (a3 : List Byte) (k : Keeps π s) :
    Keeps π (State.answer s a1 a2 a3) := by
  unfold State.answer
  repeat' (first
    | with_reducible assumption
    | intro _
    | (with_reducible first
        | apply keeps_ite | apply keeps_ite_snd | apply kept_withControl | apply kept_emit | apply kept_withHost)
    | split
    | simp -iota -proj only [])

theorem kept_abortSdo (igControl : Ignores.control π) (igHostPort : Ignores.hostPort π) (igSent : Ignores.sent π) (s :
  State) (a1 : CtxId) (a2 : Bool) (a3 a4 a5 : Nat) (k : Keeps π s) :
    Keeps π (State.abortSdo s a1 a2 a3 a4 a5) := by
  unfold State.abortSdo
  repeat' (first
    | with_reducible assumption
    | intro _
    | (with_reducible first
        | apply keeps_ite | apply keeps_ite_snd | apply kept_answer | apply kept_withCtx))

theorem kept_takeUnit (igLanes : Ignores.lanes π) (igCascade : Ignores.cascade π) (igSent : Ignores.sent π) (s :
  State) (a1 : Fin 2) (a2 : CascadeUnit) (k : Keeps π s) :
    Keeps π (State.takeUnit s a1 a2).2 := by
  unfold State.takeUnit
  repeat' (first
    | with_reducible assumption
    | intro _
    | (with_reducible first
        | apply keeps_ite | apply keeps_ite_snd | apply kept_sendOn)
    | split
    | simp -iota -proj only []
    | dsimp only
    | with_reducible apply keeps_set_cascade)

theorem kept_execRelayRelease (igNow : Ignores.now π) (igQuartz : Ignores.quartz π) (igPorts : Ignores.ports π) (a0 :
  Fin 2) (s : State) (k : Keeps π s) :
    KeepsO π (execRelayRelease a0 s) := by
  unfold execRelayRelease
  repeat' (first
    | with_reducible assumption
    | intro _
    | (with_reducible first
        | apply keeps_ite | apply keeps_ite_snd | apply keepsO_next | apply keepsO_ite | apply keepsO_dite
        | apply kept_untilWall | apply kept_withChain)
    | split)

theorem kept_execCellSlotSchedule (igLanes : Ignores.lanes π) (igPorts : Ignores.ports π) (igSent : Ignores.sent π)
  (a0 : Fin 2) (s : State) (k : Keeps π s) :
    KeepsO π (execCellSlotSchedule a0 s) := by
  unfold execCellSlotSchedule
  repeat' (first
    | with_reducible assumption
    | intro _
    | (with_reducible first
        | apply keeps_ite | apply keeps_ite_snd | apply keepsO_next | apply keepsO_ite | apply keepsO_dite
        | apply kept_sendCell | apply kept_withChain)
    | split
    | simp -iota -proj only [])

theorem kept_sendMgmt (igLanes : Ignores.lanes π) (igPorts : Ignores.ports π) (igCascade : Ignores.cascade π) (igSent
  : Ignores.sent π) (s : State) (a1 : Fin 2) (a2 a3 a4 a5 a6 a7 : Nat) (a8 : List Byte) (k : Keeps π s) :
    Keeps π (State.sendMgmt s a1 a2 a3 a4 a5 a6 a7 a8) := by
  unfold State.sendMgmt
  repeat' (first
    | with_reducible assumption
    | intro _
    | (with_reducible first
        | apply keeps_ite | apply keeps_ite_snd | apply keeps_foldl | apply kept_originateChain))

theorem kept_takeTxn (igControl : Ignores.control π) (s : State) (a1 : Fin 2) (k : Keeps π s) :
    Keeps π (State.takeTxn s a1).2 := by
  unfold State.takeTxn
  repeat' (first
    | with_reducible assumption
    | intro _
    | (with_reducible first
        | apply keeps_ite | apply keeps_ite_snd | apply kept_withControl))

theorem kept_broadcastWrite (igControl : Ignores.control π) (igLanes : Ignores.lanes π) (igPorts : Ignores.ports π)
  (igCascade : Ignores.cascade π) (igSent : Ignores.sent π) (s : State) (a1 : Fin 2) (a2 a3 : Nat) (a4 : List Byte) (k
  : Keeps π s) :
    Keeps π (State.broadcastWrite s a1 a2 a3 a4) := by
  unfold State.broadcastWrite
  repeat' (first
    | with_reducible assumption
    | intro _
    | (with_reducible first
        | apply keeps_ite | apply keeps_ite_snd | apply kept_takeTxn | apply kept_sendMgmt)
    | (refine keeps_pair ?_ (by with_reducible assumption))
    | (refine keeps_triple ?_ (by with_reducible assumption)))

theorem kept_sendTx (igLanes : Ignores.lanes π) (igPorts : Ignores.ports π) (igCascade : Ignores.cascade π) (igSent :
  Ignores.sent π) (s : State) (a1 : Fin 2) (a2 : GwTx) (k : Keeps π s) :
    Keeps π (State.sendTx s a1 a2) := by
  unfold State.sendTx
  repeat' (first
    | with_reducible assumption
    | intro _
    | (with_reducible first
        | apply keeps_ite | apply keeps_ite_snd | apply kept_sendMgmt))

theorem kept_gwOpenTx (igOd : Ignores.od π) (igControl : Ignores.control π) (igLanes : Ignores.lanes π) (igPorts :
  Ignores.ports π) (igCascade : Ignores.cascade π) (igSent : Ignores.sent π) (s : State) (a1 : Fin 2) (a2 : CtxId) (a3
  : GwKind) (a4 : Nat) (a5 : Bool) (a6 a7 a8 : Nat) (a9 : List Byte) (a10 : Bool) (k : Keeps π s) :
    Keeps π (State.gwOpenTx s a1 a2 a3 a4 a5 a6 a7 a8 a9 a10) := by
  unfold State.gwOpenTx
  repeat' (first
    | with_reducible assumption
    | intro _
    | (with_reducible first
        | apply keeps_ite | apply keeps_ite_snd | apply kept_takeTxn | apply kept_withControl | apply kept_sendTx
        | apply kept_bump)
    | (refine keeps_pair ?_ (by with_reducible assumption))
    | (refine keeps_triple ?_ (by with_reducible assumption)))

theorem kept_ownWrite (igOd : Ignores.od π) (igControl : Ignores.control π) (igLanes : Ignores.lanes π) (igPorts :
  Ignores.ports π) (igCascade : Ignores.cascade π) (igSent : Ignores.sent π) (s : State) (a1 : Fin 2) (a2 a3 a4 : Nat)
  (a5 : List Byte) (k : Keeps π s) :
    Keeps π (State.ownWrite s a1 a2 a3 a4 a5) := by
  unfold State.ownWrite
  repeat' (first
    | with_reducible assumption
    | intro _
    | (with_reducible first
        | apply keeps_ite | apply keeps_ite_snd | apply kept_gwOpenTx))

theorem kept_tileEventsClear (igControl : Ignores.control π) (s : State) (a1 : Int) (k : Keeps π s) :
    Keeps π (State.tileEventsClear s a1).2 := by
  unfold State.tileEventsClear
  repeat' (first
    | with_reducible assumption
    | intro _
    | (with_reducible first
        | apply keeps_ite | apply keeps_ite_snd | apply kept_withControl))

theorem kept_startBlockUpload (igControl : Ignores.control π) (igHostPort : Ignores.hostPort π) (igSent : Ignores.sent
  π) (s : State) (a1 : CtxId) (a2 : Bool) (a3 a4 a5 : Nat) (a6 : Bool) (a7 : List Byte) (k : Keeps π s) :
    Keeps π (State.startBlockUpload s a1 a2 a3 a4 a5 a6 a7) := by
  unfold State.startBlockUpload
  repeat' (first
    | with_reducible assumption
    | intro _
    | (with_reducible first
        | apply keeps_ite | apply keeps_ite_snd | apply kept_answer | apply kept_withCtx))

theorem kept_gwClose (igControl : Ignores.control π) (s : State) (a1 : Fin 2) (a2 : Nat) (k : Keeps π s) :
    Keeps π (State.gwClose s a1 a2) := by
  unfold State.gwClose
  repeat' (first
    | with_reducible assumption
    | intro _
    | (with_reducible first
        | apply keeps_ite | apply keeps_ite_snd | apply kept_withControl))

theorem kept_startUpload (igControl : Ignores.control π) (igHostPort : Ignores.hostPort π) (igSent : Ignores.sent π)
  (s : State) (a1 : CtxId) (a2 : Bool) (a3 a4 : Nat) (a5 : List Byte) (k : Keeps π s) :
    Keeps π (State.startUpload s a1 a2 a3 a4 a5) := by
  unfold State.startUpload
  repeat' (first
    | with_reducible assumption
    | intro _
    | (with_reducible first
        | apply keeps_ite | apply keeps_ite_snd | apply kept_answer | apply kept_withCtx))

theorem kept_blendAsked (igLanes : Ignores.lanes π) (igCascade : Ignores.cascade π) (igIngress : Ignores.ingress π)
  (igSent : Ignores.sent π) (s : State) (a1 : GwTx) (k : Keeps π s) :
    Keeps π (State.blendAsked s a1) := by
  unfold State.blendAsked
  repeat' (first
    | with_reducible assumption
    | intro _
    | (with_reducible first
        | apply keeps_ite | apply keeps_ite_snd | apply kept_sendMgmtUnit)
    | split
    | simp -iota -proj only []
    | dsimp only
    | with_reducible apply keeps_set_ingress)

theorem kept_commitAsked (igPorts : Ignores.ports π) (s : State) (a1 : Fin 2) (a2 : GwTx) (k : Keeps π s) :
    Keeps π (State.commitAsked s a1 a2) := by
  unfold State.commitAsked
  repeat' (first
    | with_reducible assumption
    | intro _
    | (with_reducible first
        | apply keeps_ite | apply keeps_ite_snd | apply kept_withChain))

theorem kept_gwFinish (igControl : Ignores.control π) (igHostPort : Ignores.hostPort π) (igLanes : Ignores.lanes π)
  (igQuartz : Ignores.quartz π) (igPorts : Ignores.ports π) (igCascade : Ignores.cascade π) (igIngress :
  Ignores.ingress π) (igSent : Ignores.sent π) (s : State) (a1 : Fin 2) (a2 : GwTx) (a3 : Nat) (a4 : List Byte) (k :
  Keeps π s) :
    Keeps π (State.gwFinish s a1 a2 a3 a4) := by
  unfold State.gwFinish
  repeat' (first
    | with_reducible assumption
    | intro _
    | (with_reducible first
        | apply keeps_ite | apply keeps_ite_snd | apply kept_gwClose | apply kept_blendAsked | apply kept_commitAsked
        | apply kept_emit | apply kept_abortSdo | apply kept_startUpload | apply kept_startBlockUpload
        | apply kept_answer | apply kept_withCtx)
    | split
    | simp -iota -proj only []
    | dsimp only
    | with_reducible apply keeps_set_ingress
    | with_reducible apply keeps_set_quartz)

theorem kept_dropGateway (igControl : Ignores.control π) (igHostPort : Ignores.hostPort π) (igLanes : Ignores.lanes π)
  (igQuartz : Ignores.quartz π) (igPorts : Ignores.ports π) (igCascade : Ignores.cascade π) (igIngress :
  Ignores.ingress π) (igSent : Ignores.sent π) (s : State) (a1 : Fin 2) (a2 : Nat) (k : Keeps π s) :
    Keeps π (State.dropGateway s a1 a2) := by
  unfold State.dropGateway
  repeat' (first
    | with_reducible assumption
    | intro _
    | (with_reducible first
        | apply keeps_ite | apply keeps_ite_snd | apply keeps_foldl | apply kept_gwFinish))

theorem kept_stationNew (igPorts : Ignores.ports π) (s : State) (a1 : Fin 2) (a2 : Cell) (k : Keeps π s) :
    Keeps π (State.stationNew s a1 a2).2 := by
  unfold State.stationNew
  repeat' (first
    | with_reducible assumption
    | intro _
    | (with_reducible first
        | apply keeps_ite | apply keeps_ite_snd | apply kept_withChain)
    | split
    | simp -iota -proj only [])

theorem kept_takeResponse (igControl : Ignores.control π) (igHostPort : Ignores.hostPort π) (igLanes : Ignores.lanes
  π) (igQuartz : Ignores.quartz π) (igPorts : Ignores.ports π) (igCascade : Ignores.cascade π) (igIngress :
  Ignores.ingress π) (igSent : Ignores.sent π) (s : State) (a1 : Fin 2) (a2 : Cell) (k : Keeps π s) :
    Keeps π (State.takeResponse s a1 a2) := by
  unfold State.takeResponse
  repeat' (first
    | with_reducible assumption
    | intro _
    | (with_reducible first
        | apply keeps_ite | apply keeps_ite_snd | apply kept_withControl | apply kept_gwFinish)
    | split
    | simp -iota -proj only [])

theorem kept_takeTileEvent (igOd : Ignores.od π) (igControl : Ignores.control π) (igNvm : Ignores.nvm π) (igSent :
  Ignores.sent π) (s : State) (a1 : Fin 2) (a2 : Cell) (k : Keeps π s) :
    Keeps π (State.takeTileEvent s a1 a2) := by
  unfold State.takeTileEvent
  repeat' (first
    | with_reducible assumption
    | intro _
    | (with_reducible first
        | apply keeps_ite | apply keeps_ite_snd | apply kept_bump | apply kept_withControl | apply kept_raise))

theorem kept_senderMgmt (igOd : Ignores.od π) (igControl : Ignores.control π) (igNvm : Ignores.nvm π) (igHostPort :
  Ignores.hostPort π) (igLanes : Ignores.lanes π) (igQuartz : Ignores.quartz π) (igPorts : Ignores.ports π) (igCascade
  : Ignores.cascade π) (igIngress : Ignores.ingress π) (igSent : Ignores.sent π) (s : State) (a1 : Fin 2) (a2 : Cell)
  (k : Keeps π s) :
    Keeps π (State.senderMgmt s a1 a2) := by
  unfold State.senderMgmt
  repeat' (first
    | with_reducible assumption
    | intro _
    | (with_reducible first
        | apply keeps_ite | apply keeps_ite_snd | apply kept_takeResponse | apply kept_takeTileEvent)
    | split)

theorem kept_writeTransit (igOd : Ignores.od π) (igControl : Ignores.control π) (igLanes : Ignores.lanes π) (igQuartz
  : Ignores.quartz π) (igPorts : Ignores.ports π) (igCascade : Ignores.cascade π) (igSent : Ignores.sent π) (s :
  State) (a1 : Fin 2) (a2 : Nat) (k : Keeps π s) :
    Keeps π (State.writeTransit s a1 a2) := by
  unfold State.writeTransit
  repeat' (first
    | with_reducible assumption
    | intro _
    | (with_reducible first
        | apply keeps_ite | apply keeps_ite_snd | apply keeps_foldl | apply kept_gwOpenTx)
    | split
    | simp -iota -proj only []
    | dsimp only
    | with_reducible apply keeps_set_quartz)

theorem kept_readLamps (igOd : Ignores.od π) (igControl : Ignores.control π) (igLanes : Ignores.lanes π) (igQuartz :
  Ignores.quartz π) (igPorts : Ignores.ports π) (igCascade : Ignores.cascade π) (igSent : Ignores.sent π) (s : State)
  (a1 : Fin 2) (k : Keeps π s) :
    Keeps π (State.readLamps s a1) := by
  unfold State.readLamps
  repeat' (first
    | with_reducible assumption
    | intro _
    | (with_reducible first
        | apply keeps_ite | apply keeps_ite_snd | apply keeps_foldl | apply kept_gwOpenTx)
    | split
    | simp -iota -proj only []
    | dsimp only
    | with_reducible apply keeps_set_quartz)

theorem kept_execGatewayTimeout (igNow : Ignores.now π) (igOd : Ignores.od π) (igControl : Ignores.control π) (igNvm :
  Ignores.nvm π) (igHostPort : Ignores.hostPort π) (igLanes : Ignores.lanes π) (igQuartz : Ignores.quartz π) (igPorts
  : Ignores.ports π) (igCascade : Ignores.cascade π) (igIngress : Ignores.ingress π) (igSent : Ignores.sent π) (a0 :
  Fin 2) (a1 : Nat) (s : State) (k : Keeps π s) :
    KeepsO π (execGatewayTimeout a0 a1 s) := by
  unfold execGatewayTimeout
  repeat' (first
    | with_reducible assumption
    | intro _
    | (with_reducible first
        | apply keeps_ite | apply keeps_ite_snd | apply keepsO_next | apply keepsO_ite | apply keepsO_dite
        | apply kept_untilWall | apply kept_withControl | apply kept_sendTx | apply kept_gwFinish | apply kept_bump
        | apply kept_raise)
    | split)

theorem kept_clearErrors (igOd : Ignores.od π) (igControl : Ignores.control π) (igSent : Ignores.sent π) (s : State)
  (a1 : Vector (Option Nat) 3) (k : Keeps π s) :
    Keeps π (State.clearErrors s a1) := by
  unfold State.clearErrors
  repeat' (first
    | with_reducible assumption
    | intro _
    | (with_reducible first
        | apply keeps_ite | apply keeps_ite_snd | apply kept_withControl | apply kept_wrN | apply kept_sendEmcy))

theorem kept_historyClear (igOd : Ignores.od π) (igControl : Ignores.control π) (igSent : Ignores.sent π) (s : State)
  (a1 : Int) (k : Keeps π s) :
    Keeps π (State.historyClear s a1).2 := by
  unfold State.historyClear
  repeat' (first
    | with_reducible assumption
    | intro _
    | (with_reducible first
        | apply keeps_ite | apply keeps_ite_snd | apply kept_clearErrors | apply kept_withControl))

theorem kept_forgetGw (igControl : Ignores.control π) (s : State) (a1 : CtxId → Bool) (k : Keeps π s) :
    Keeps π (State.forgetGw s a1) := by
  unfold State.forgetGw
  repeat' (first
    | with_reducible assumption
    | intro _
    | (with_reducible first
        | apply keeps_ite | apply keeps_ite_snd | apply kept_withControl))

theorem kept_canSend (igSent : Ignores.sent π) (s : State) (a1 : Nat) (a2 : List Byte) (k : Keeps π s) :
    Keeps π (State.canSend s a1 a2) := by
  unfold State.canSend
  repeat' (first
    | with_reducible assumption
    | intro _
    | (with_reducible first
        | apply keeps_ite | apply keeps_ite_snd | apply kept_emit))

theorem kept_newCtx (igControl : Ignores.control π) (s : State) (a1 : Nat) (k : Keeps π s) :
    Keeps π (State.newCtx s a1).2 := by
  unfold State.newCtx
  repeat' (first
    | with_reducible assumption
    | intro _
    | (with_reducible first
        | apply keeps_ite | apply keeps_ite_snd | apply kept_withControl))

theorem kept_restartCan (igControl : Ignores.control π) (igSent : Ignores.sent π) (s : State) (k : Keeps π s) :
    Keeps π (State.restartCan s) := by
  unfold State.restartCan
  repeat' (first
    | with_reducible assumption
    | intro _
    | (with_reducible first
        | apply keeps_ite | apply keeps_ite_snd | apply keeps_foldl | apply kept_forgetGw | apply kept_newCtx
        | apply kept_withControl | apply kept_canSend)
    | (refine keeps_pair ?_ (by with_reducible assumption))
    | (refine keeps_triple ?_ (by with_reducible assumption)))

theorem kept_restartAccess (igControl : Ignores.control π) (igSent : Ignores.sent π) (s : State) (k : Keeps π s) :
    Keeps π (State.restartAccess s) := by
  unfold State.restartAccess
  repeat' (first
    | with_reducible assumption
    | intro _
    | (with_reducible first
        | apply keeps_ite | apply keeps_ite_snd | apply keeps_foldl | apply kept_forgetGw | apply kept_withControl
        | apply kept_newCtx | apply kept_restartCan)
    | (refine keeps_pair ?_ (by with_reducible assumption))
    | (refine keeps_triple ?_ (by with_reducible assumption)))

theorem kept_resetHostPort (igControl : Ignores.control π) (igHostPort : Ignores.hostPort π) (igSent : Ignores.sent π)
  (s : State) (a1 : Bool) (k : Keeps π s) :
    Keeps π (State.resetHostPort s a1) := by
  unfold State.resetHostPort
  repeat' (first
    | with_reducible assumption
    | intro _
    | (with_reducible first
        | apply keeps_ite | apply keeps_ite_snd | apply kept_forgetGw | apply kept_withHost | apply kept_newCtx
        | apply kept_withControl)
    | (refine keeps_pair ?_ (by with_reducible assumption))
    | (refine keeps_triple ?_ (by with_reducible assumption)))

theorem kept_ownerKeyWrite (igOd : Ignores.od π) (s : State) (a1 : Nat) (a2 : Bool) (a3 : List Byte) (k : Keeps π s) :
    Keeps π (State.ownerKeyWrite s a1 a2 a3).2 := by
  unfold State.ownerKeyWrite
  repeat' (first
    | with_reducible assumption
    | intro _
    | (with_reducible first
        | apply keeps_ite | apply keeps_ite_snd | apply kept_wrD))

theorem kept_toDefault (igControl : Ignores.control π) (s : State) (a1 : CtxId) (k : Keeps π s) :
    Keeps π (State.toDefault s a1) := by
  unfold State.toDefault
  repeat' (first
    | with_reducible assumption
    | intro _
    | (with_reducible first
        | apply keeps_ite | apply keeps_ite_snd | apply kept_withCtx))

theorem kept_logout (igControl : Ignores.control π) (s : State) (a1 : CtxId) (a2 : Int) (k : Keeps π s) :
    Keeps π (State.logout s a1 a2).2 := by
  unfold State.logout
  repeat' (first
    | with_reducible assumption
    | intro _
    | (with_reducible first
        | apply keeps_ite | apply keeps_ite_snd | apply kept_toDefault))

theorem kept_ownerLockWrite (igOd : Ignores.od π) (igControl : Ignores.control π) (igNvm : Ignores.nvm π) (igSent :
  Ignores.sent π) (s : State) (a1 : CtxId) (a2 : Bool) (a3 : Int) (k : Keeps π s) :
    Keeps π (State.ownerLockWrite s a1 a2 a3).2 := by
  unfold State.ownerLockWrite
  repeat' (first
    | with_reducible assumption
    | intro _
    | (with_reducible first
        | apply keeps_ite | apply keeps_ite_snd | apply kept_raise | apply kept_wrI))

theorem kept_loginFails (igOd : Ignores.od π) (igControl : Ignores.control π) (igNvm : Ignores.nvm π) (igSent :
  Ignores.sent π) (s : State) (a1 : CtxId) (a2 : Nat) (a3 : Bool) (k : Keeps π s) :
    Keeps π (State.loginFails s a1 a2 a3).2 := by
  unfold State.loginFails
  repeat' (first
    | with_reducible assumption
    | intro _
    | (with_reducible first
        | apply keeps_ite | apply keeps_ite_snd | apply kept_bump | apply kept_withCtx | apply kept_raise))

theorem kept_login (igOd : Ignores.od π) (igControl : Ignores.control π) (igNvm : Ignores.nvm π) (igSent :
  Ignores.sent π) (s : State) (a1 : CtxId) (a2 : List Byte) (k : Keeps π s) :
    Keeps π (State.login s a1 a2).2 := by
  unfold State.login
  repeat' (first
    | with_reducible assumption
    | intro _
    | (with_reducible first
        | apply keeps_ite | apply keeps_ite_snd | apply kept_loginFails | apply kept_withCtx)
    | split
    | (refine keeps_pair ?_ (by with_reducible assumption))
    | (refine keeps_triple ?_ (by with_reducible assumption)))

theorem kept_challenge (igControl : Ignores.control π) (igFreeCount : Ignores.freeCount π) (s : State) (a1 : CtxId) (k
  : Keeps π s) :
    Keeps π (State.challenge s a1).2 := by
  unfold State.challenge
  repeat' (first
    | with_reducible assumption
    | intro _
    | (with_reducible first
        | apply keeps_ite | apply keeps_ite_snd | apply kept_nonce | apply kept_withCtx)
    | (refine keeps_pair ?_ (by with_reducible assumption))
    | (refine keeps_triple ?_ (by with_reducible assumption)))

theorem kept_execIdleLogoutExpiry (igNow : Ignores.now π) (igControl : Ignores.control π) (igQuartz : Ignores.quartz
  π) (a0 : CtxId) (s : State) (k : Keeps π s) :
    KeepsO π (execIdleLogoutExpiry a0 s) := by
  unfold execIdleLogoutExpiry
  repeat' (first
    | with_reducible assumption
    | intro _
    | (with_reducible first
        | apply keeps_ite | apply keeps_ite_snd | apply keepsO_next | apply keepsO_ite | apply keepsO_dite
        | apply kept_toDefault | apply kept_until_)
    | split)

theorem kept_execQspiPortReset (igOd : Ignores.od π) (igControl : Ignores.control π) (igNvm : Ignores.nvm π)
  (igHostPort : Ignores.hostPort π) (igSent : Ignores.sent π) (s : State) (k : Keeps π s) :
    KeepsO π (execQspiPortReset s) := by
  unfold execQspiPortReset
  repeat' (first
    | with_reducible assumption
    | intro _
    | (with_reducible first
        | apply keeps_ite | apply keeps_ite_snd | apply keepsO_next | apply keepsO_ite | apply keepsO_dite
        | apply kept_masterReset | apply kept_resetHostPort))

theorem kept_execErrorClassClear (igNow : Ignores.now π) (igOd : Ignores.od π) (igControl : Ignores.control π)
  (igQuartz : Ignores.quartz π) (igSent : Ignores.sent π) (a0 : Fin 3) (s : State) (k : Keeps π s) :
    KeepsO π (execErrorClassClear a0 s) := by
  unfold execErrorClassClear
  repeat' (first
    | with_reducible assumption
    | intro _
    | (with_reducible first
        | apply keeps_ite | apply keeps_ite_snd | apply keepsO_next | apply keepsO_ite | apply keepsO_dite
        | apply kept_until_ | apply kept_clearErrors)
    | split)

theorem kept_execLoginLockoutEnd (igNow : Ignores.now π) (igControl : Ignores.control π) (igQuartz : Ignores.quartz π)
  (a0 : CtxId) (s : State) (k : Keeps π s) :
    KeepsO π (execLoginLockoutEnd a0 s) := by
  unfold execLoginLockoutEnd
  repeat' (first
    | with_reducible assumption
    | intro _
    | (with_reducible first
        | apply keeps_ite | apply keeps_ite_snd | apply keepsO_next | apply keepsO_ite | apply keepsO_dite
        | apply kept_withCtx | apply kept_until_)
    | split)

theorem kept_execChallengeExpiry (igNow : Ignores.now π) (igControl : Ignores.control π) (igQuartz : Ignores.quartz π)
  (a0 : CtxId) (s : State) (k : Keeps π s) :
    KeepsO π (execChallengeExpiry a0 s) := by
  unfold execChallengeExpiry
  repeat' (first
    | with_reducible assumption
    | intro _
    | (with_reducible first
        | apply keeps_ite | apply keeps_ite_snd | apply keepsO_next | apply keepsO_ite | apply keepsO_dite
        | apply kept_withCtx | apply kept_until_)
    | split)

theorem kept_nameMarks (igLanes : Ignores.lanes π) (s : State) (a1 : List Nat) (k : Keeps π s) :
    Keeps π (State.nameMarks s a1) := by
  unfold State.nameMarks
  repeat' (first
    | with_reducible assumption
    | intro _
    | (with_reducible first
        | apply keeps_ite | apply keeps_ite_snd | apply kept_withLink))

theorem kept_admitCell (igOd : Ignores.od π) (igTile : Ignores.tile π) (s : State) (a1 : RxCell) (k : Keeps π s) :
    Keeps π (State.admitCell s a1).2 := by
  unfold State.admitCell
  repeat' (first
    | with_reducible assumption
    | intro _
    | (with_reducible first
        | apply keeps_ite | apply keeps_ite_snd | apply kept_dedup)
    | (refine keeps_pair ?_ (by with_reducible assumption))
    | (refine keeps_triple ?_ (by with_reducible assumption)))

theorem kept_follow (igQuartz : Ignores.quartz π) (s : State) (a1 : Int) (a2 : Nat) (k : Keeps π s) :
    Keeps π (State.follow s a1 a2) := by
  unfold State.follow
  repeat' (first
    | with_reducible assumption
    | intro _
    | (with_reducible first
        | apply keeps_ite | apply keeps_ite_snd | apply kept_withQuartz))

theorem kept_drainDue (igControl : Ignores.control π) (igSent : Ignores.sent π) (a0 : Nat) (s : State) (k : Keeps π s)
  :
    Keeps π (State.drainDue a0 s) := by
  induction a0 generalizing s with
  | zero => exact k
  | succ n ih =>
    unfold State.drainDue
    split
    · refine keeps_ite (ih _ ?_) k
      exact keeps_set_control igControl (kept_emit igSent _ _ k)
    · exact kept_drainEmcy igControl igSent _ k
    · exact k

theorem kept_judgeStandby (igOd : Ignores.od π) (igPorts : Ignores.ports π) (s : State) (a1 : Fin 2) (k : Keeps π s) :
    Keeps π (State.judgeStandby s a1) := by
  unfold State.judgeStandby
  repeat' (first
    | with_reducible assumption
    | intro _
    | (with_reducible first
        | apply keeps_ite | apply keeps_ite_snd | apply kept_setCState))

theorem kept_startMode (igOd : Ignores.od π) (igPorts : Ignores.ports π) (s : State) (k : Keeps π s) :
    Keeps π (State.startMode s) := by
  unfold State.startMode
  repeat' (first
    | with_reducible assumption
    | intro _
    | (with_reducible first
        | apply keeps_ite | apply keeps_ite_snd | apply keeps_foldl | apply kept_setCState))

theorem kept_detectWrite (igOd : Ignores.od π) (igLanes : Ignores.lanes π) (igSent : Ignores.sent π) (s : State) (a1 :
  Fin 24) (a2 : Int) (k : Keeps π s) :
    Keeps π (State.detectWrite s a1 a2).2 := by
  unfold State.detectWrite
  repeat' (first
    | with_reducible assumption
    | intro _
    | (with_reducible first
        | apply keeps_ite | apply keeps_ite_snd | apply kept_wrI | apply kept_startTraining))

end Sys2Proof.Machine
end

