-- ==== Sys2Proof/Laws/KeptPixel.lean ====
section
/-! SUPPORT. What each operation can change, one lemma for each, in the words of `Keeps`: the frame store, the composition, the port engine and the lamps. -/

namespace Sys2Proof.Machine
open Host

variable {π : State → Prop}

theorem kept_countSlate (igOd : Ignores.od π) (igControl : Ignores.control π) (igNvm : Ignores.nvm π) (igSent :
  Ignores.sent π) (s : State) (a1 : Nat) (a2 : Cell) (k : Keeps π s) :
    Keeps π (State.countSlate s a1 a2) := by
  unfold State.countSlate
  repeat' (first
    | with_reducible assumption
    | intro _
    | (with_reducible first
        | apply keeps_ite | apply keeps_ite_snd | apply keeps_foldl | apply kept_bump | apply kept_raiseLimited))

theorem kept_storeCell (igOd : Ignores.od π) (igControl : Ignores.control π) (igNvm : Ignores.nvm π) (igVideo :
  Ignores.video π) (igSent : Ignores.sent π) (s : State) (a1 : Fin 8) (a2 : Nat) (a3 : Bool) (a4 : Nat) (a5 : Cell) (k
  : Keeps π s) :
    Keeps π (State.storeCell s a1 a2 a3 a4 a5) := by
  unfold State.storeCell
  repeat' (first
    | with_reducible assumption
    | intro _
    | (with_reducible first
        | apply keeps_ite | apply keeps_ite_snd | apply kept_withStore | apply kept_wrN | apply kept_raiseLimited
        | apply kept_bump))

theorem kept_acceptVideo (igOd : Ignores.od π) (igControl : Ignores.control π) (igNvm : Ignores.nvm π) (igVideo :
  Ignores.video π) (igSent : Ignores.sent π) (s : State) (a1 : Fin 2) (a2 : Cell) (k : Keeps π s) :
    Keeps π (State.acceptVideo s a1 a2) := by
  unfold State.acceptVideo
  repeat' (first
    | with_reducible assumption
    | intro _
    | (with_reducible first
        | apply keeps_ite | apply keeps_ite_snd | apply keeps_foldl | apply kept_bump | apply kept_raiseLimited
        | apply kept_storeCell | apply kept_countSlate)
    | split
    | simp -iota -proj only [])

theorem kept_latchGains (igOd : Ignores.od π) (igVideo : Ignores.video π) (s : State) (a1 : Gen) (a2 : Nat) (k : Keeps
  π s) :
    Keeps π (State.latchGains s a1 a2) := by
  unfold State.latchGains
  repeat' (first
    | with_reducible assumption
    | intro _
    | (with_reducible first
        | apply keeps_ite | apply keeps_ite_snd | apply kept_wrN | apply kept_withColour))

theorem kept_takeCurrent (igVideo : Ignores.video π) (s : State) (a1 : Gen) (a2 : Nat) (a3 : Fin 8) (a4 : Verdict) (k
  : Keeps π s) :
    Keeps π (State.takeCurrent s a1 a2 a3 a4) := by
  unfold State.takeCurrent
  repeat' (first
    | with_reducible assumption
    | intro _
    | (with_reducible first
        | apply keeps_ite | apply keeps_ite_snd | apply kept_withStore))

theorem kept_applyVerdict (igOd : Ignores.od π) (igControl : Ignores.control π) (igNvm : Ignores.nvm π) (igVideo :
  Ignores.video π) (igSent : Ignores.sent π) (s : State) (a1 : Gen) (a2 : Nat) (a3 : Fin 8) (a4 : Verdict) (k : Keeps
  π s) :
    Keeps π (State.applyVerdict s a1 a2 a3 a4) := by
  unfold State.applyVerdict
  repeat' (first
    | with_reducible assumption
    | intro _
    | (with_reducible first
        | apply keeps_ite | apply keeps_ite_snd | apply kept_takeCurrent | apply kept_wrN | apply kept_withCompose
        | apply kept_bump | apply kept_raiseLimited)
    | split)

theorem kept_present (igOd : Ignores.od π) (igVideo : Ignores.video π) (s : State) (k : Keeps π s) :
    Keeps π (State.present s) := by
  unfold State.present
  repeat' (first
    | with_reducible assumption
    | intro _
    | (with_reducible first
        | apply keeps_ite | apply keeps_ite_snd | apply kept_withCompose | apply kept_wrN))

theorem kept_judge (igOd : Ignores.od π) (igControl : Ignores.control π) (igNvm : Ignores.nvm π) (igVideo :
  Ignores.video π) (igSent : Ignores.sent π) (s : State) (a1 : Gen) (a2 : Nat) (k : Keeps π s) :
    Keeps π (State.judge s a1 a2) := by
  unfold State.judge
  repeat' (first
    | with_reducible assumption
    | intro _
    | (with_reducible first
        | apply keeps_ite | apply keeps_ite_snd | apply keeps_foldl | apply kept_applyVerdict | apply kept_withCompose
        | apply kept_present))

theorem kept_openFill (igVideo : Ignores.video π) (s : State) (a1 : Nat) (k : Keeps π s) :
    Keeps π (State.openFill s a1) := by
  unfold State.openFill
  repeat' (first
    | with_reducible assumption
    | intro _
    | (with_reducible first
        | apply keeps_ite | apply keeps_ite_snd | apply keeps_dite | apply keeps_foldl | apply kept_withStore))

theorem kept_countMissing (igOd : Ignores.od π) (s : State) (k : Keeps π s) :
    Keeps π (State.countMissing s) := by
  unfold State.countMissing
  repeat' (first
    | with_reducible assumption
    | intro _
    | (with_reducible first
        | apply keeps_ite | apply keeps_ite_snd | apply keeps_foldl | apply kept_wrN))

theorem kept_keepFrames (igVideo : Ignores.video π) (s : State) (a1 : Gen) (a2 : Nat) (k : Keeps π s) :
    Keeps π (State.keepFrames s a1 a2) := by
  unfold State.keepFrames
  repeat' (first
    | with_reducible assumption
    | intro _
    | (with_reducible first
        | apply keeps_ite | apply keeps_ite_snd | apply keeps_foldl | apply kept_takeCurrent))

theorem kept_dropCorr (igOd : Ignores.od π) (igVideo : Ignores.video π) (s : State) (k : Keeps π s) :
    Keeps π (State.dropCorr s) := by
  unfold State.dropCorr
  repeat' (first
    | with_reducible assumption
    | intro _
    | (with_reducible first
        | apply keeps_ite | apply keeps_ite_snd | apply kept_withColour | apply kept_wrN))

theorem kept_applyCorr (igOd : Ignores.od π) (igVideo : Ignores.video π) (s : State) (a1 : Gen) (k : Keeps π s) :
    Keeps π (State.applyCorr s a1) := by
  unfold State.applyCorr
  repeat' (first
    | with_reducible assumption
    | intro _
    | (with_reducible first
        | apply keeps_ite | apply keeps_ite_snd | apply kept_dropCorr | apply kept_withColour | apply kept_startRun))

theorem kept_execFillClose (igNow : Ignores.now π) (igOd : Ignores.od π) (igControl : Ignores.control π) (igNvm :
  Ignores.nvm π) (igQuartz : Ignores.quartz π) (igVideo : Ignores.video π) (igSent : Ignores.sent π) (s : State) (k :
  Keeps π s) :
    KeepsO π (execFillClose s) := by
  unfold execFillClose
  repeat' (first
    | with_reducible assumption
    | intro _
    | (with_reducible first
        | apply keeps_ite | apply keeps_ite_snd | apply keepsO_next | apply keepsO_ite | apply keepsO_dite
        | apply kept_untilWall | apply kept_countMissing | apply kept_keepFrames | apply kept_judge
        | apply kept_applyCorr | apply kept_latchGains | apply kept_withCompose | apply kept_openFill)
    | split)

theorem kept_withBeat (igBeat : Ignores.beat π) (s : State) (a1 : Heartbeat → Heartbeat) (k : Keeps π s) :
    Keeps π (State.withBeat s a1) := by
  unfold State.withBeat
  repeat' (first
    | with_reducible assumption
    | intro _
    | (with_reducible first
        | apply keeps_ite | apply keeps_ite_snd)
    | split
    | simp -iota -proj only []
    | dsimp only
    | with_reducible apply keeps_set_beat)

theorem kept_verifyCorr (igOd : Ignores.od π) (igVideo : Ignores.video π) (s : State) (a1 : Nat) (k : Keeps π s) :
    Keeps π (State.verifyCorr s a1).2 := by
  unfold State.verifyCorr
  repeat' (first
    | with_reducible assumption
    | intro _
    | (with_reducible first
        | apply keeps_ite | apply keeps_ite_snd | apply kept_withColour | apply kept_startRun))

theorem kept_loadCoeff (igOd : Ignores.od π) (s : State) (a1 : Nat) (a2 : List Byte) (a3 : Nat) (k : Keeps π s) :
    Keeps π (State.loadCoeff s a1 a2 a3) := by
  unfold State.loadCoeff
  repeat' (first
    | with_reducible assumption
    | intro _
    | (with_reducible first
        | apply keeps_ite | apply keeps_ite_snd | apply kept_wrN | apply kept_wrB | apply kept_wrD))

theorem kept_refuseCoeff (igOd : Ignores.od π) (igControl : Ignores.control π) (igNvm : Ignores.nvm π) (igSent :
  Ignores.sent π) (s : State) (a1 a2 : Nat) (k : Keeps π s) :
    Keeps π (State.refuseCoeff s a1 a2).2 := by
  unfold State.refuseCoeff
  repeat' (first
    | with_reducible assumption
    | intro _
    | (with_reducible first
        | apply keeps_ite | apply keeps_ite_snd | apply kept_raise))

theorem kept_writeCoeff (igOd : Ignores.od π) (igControl : Ignores.control π) (igNvm : Ignores.nvm π) (igSent :
  Ignores.sent π) (s : State) (a1 : Nat) (a2 : List Byte) (k : Keeps π s) :
    Keeps π (State.writeCoeff s a1 a2).2 := by
  unfold State.writeCoeff
  repeat' (first
    | with_reducible assumption
    | intro _
    | (with_reducible first
        | apply keeps_ite | apply keeps_ite_snd | apply kept_refuseCoeff | apply kept_loadCoeff))

theorem kept_refuseTable (igOd : Ignores.od π) (igControl : Ignores.control π) (igNvm : Ignores.nvm π) (igSent :
  Ignores.sent π) (s : State) (a1 a2 a3 : Nat) (k : Keeps π s) :
    Keeps π (State.refuseTable s a1 a2 a3).2 := by
  unfold State.refuseTable
  repeat' (first
    | with_reducible assumption
    | intro _
    | (with_reducible first
        | apply keeps_ite | apply keeps_ite_snd | apply kept_raise))

theorem kept_writeTable (igOd : Ignores.od π) (igControl : Ignores.control π) (igNvm : Ignores.nvm π) (igSent :
  Ignores.sent π) (s : State) (a1 : Nat) (a2 : List Byte) (k : Keeps π s) :
    Keeps π (State.writeTable s a1 a2).2 := by
  unfold State.writeTable
  repeat' (first
    | with_reducible assumption
    | intro _
    | (with_reducible first
        | apply keeps_ite | apply keeps_ite_snd | apply kept_refuseTable | apply kept_wrN | apply kept_wrB
        | apply kept_wrD))

theorem kept_publishCorr (igOd : Ignores.od π) (s : State) (a1 a2 : Nat) (k : Keeps π s) :
    Keeps π (State.publishCorr s a1 a2) := by
  unfold State.publishCorr
  repeat' (first
    | with_reducible assumption
    | intro _
    | (with_reducible first
        | apply keeps_ite | apply keeps_ite_snd | apply kept_publish | apply kept_wrN))

theorem kept_forceCorr (igOd : Ignores.od π) (igVideo : Ignores.video π) (s : State) (a1 : Nat) (a2 : List Byte) (k :
  Keeps π s) :
    Keeps π (State.forceCorr s a1 a2) := by
  unfold State.forceCorr
  repeat' (first
    | with_reducible assumption
    | intro _
    | (with_reducible first
        | apply keeps_ite | apply keeps_ite_snd | apply kept_withColour | apply kept_wrN))

theorem kept_execCorrLoadRow (igOd : Ignores.od π) (igControl : Ignores.control π) (igNvm : Ignores.nvm π) (igVideo :
  Ignores.video π) (igSent : Ignores.sent π) (s : State) (k : Keeps π s) :
    KeepsO π (execCorrLoadRow s) := by
  unfold execCorrLoadRow
  repeat' (first
    | with_reducible assumption
    | intro _
    | (with_reducible first
        | apply keeps_ite | apply keeps_ite_snd | apply keepsO_next | apply keepsO_ite | apply keepsO_dite
        | apply kept_wrN | apply kept_raise | apply kept_publishCorr | apply kept_forceCorr)
    | split)

theorem kept_countCeilings (igOd : Ignores.od π) (igControl : Ignores.control π) (igNvm : Ignores.nvm π) (igSent :
  Ignores.sent π) (s : State) (a1 : Bank) (k : Keeps π s) :
    Keeps π (State.countCeilings s a1) := by
  unfold State.countCeilings
  repeat' (first
    | with_reducible assumption
    | intro _
    | (with_reducible first
        | apply keeps_ite | apply keeps_ite_snd | apply keeps_foldl | apply kept_raiseLimited | apply kept_bump))

theorem kept_beatOf (igOd : Ignores.od π) (igBeat : Ignores.beat π) (s : State) (a1 : Bool) (k : Keeps π s) :
    Keeps π (State.beatOf s a1) := by
  unfold State.beatOf
  repeat' (first
    | with_reducible assumption
    | intro _
    | (with_reducible first
        | apply keeps_ite | apply keeps_ite_snd | apply kept_withBeat | apply kept_wrN))

theorem kept_endFrame (igOd : Ignores.od π) (igControl : Ignores.control π) (igNvm : Ignores.nvm π) (igTile :
  Ignores.tile π) (igVideo : Ignores.video π) (igSent : Ignores.sent π) (s : State) (k : Keeps π s) :
    Keeps π (State.endFrame s) := by
  unfold State.endFrame
  repeat' (first
    | with_reducible assumption
    | intro _
    | (with_reducible first
        | apply keeps_ite | apply keeps_ite_snd | apply kept_withCompose | apply kept_pixelFault))

theorem kept_execComposeComplete (igOd : Ignores.od π) (igControl : Ignores.control π) (igNvm : Ignores.nvm π) (igBeat
  : Ignores.beat π) (igTile : Ignores.tile π) (igVideo : Ignores.video π) (igSent : Ignores.sent π) (s : State) (k :
  Keeps π s) :
    KeepsO π (execComposeComplete s) := by
  unfold execComposeComplete
  repeat' (first
    | with_reducible assumption
    | intro _
    | (with_reducible first
        | apply keeps_ite | apply keeps_ite_snd | apply keepsO_next | apply keepsO_ite | apply keepsO_dite
        | apply kept_withCompose | apply kept_withColour | apply kept_endFrame | apply kept_beatOf
        | apply kept_countCeilings)
    | split
    | simp -iota -proj only [])

theorem kept_endBlanking (igOd : Ignores.od π) (igControl : Ignores.control π) (igNvm : Ignores.nvm π) (igBeat :
  Ignores.beat π) (igLamps : Ignores.lamps π) (igSent : Ignores.sent π) (s : State) (k : Keeps π s) :
    Keeps π (State.endBlanking s) := by
  unfold State.endBlanking
  repeat' (first
    | with_reducible assumption
    | intro _
    | (with_reducible first
        | apply keeps_ite | apply keeps_ite_snd | apply kept_withBeat | apply kept_wrN | apply kept_raise
        | apply kept_emit)
    | split
    | simp -iota -proj only []
    | dsimp only
    | with_reducible apply keeps_set_lamps)

theorem kept_blank (igOd : Ignores.od π) (igControl : Ignores.control π) (igNvm : Ignores.nvm π) (igBeat :
  Ignores.beat π) (igLamps : Ignores.lamps π) (igSent : Ignores.sent π) (s : State) (a1 : Bool) (k : Keeps π s) :
    Keeps π (State.blank s a1) := by
  unfold State.blank
  repeat' (first
    | with_reducible assumption
    | intro _
    | (with_reducible first
        | apply keeps_ite | apply keeps_ite_snd | apply kept_wrN | apply kept_bump | apply kept_withBeat
        | apply kept_emit | apply kept_raise)
    | split
    | simp -iota -proj only []
    | dsimp only
    | with_reducible apply keeps_set_lamps)

theorem kept_beatCheck (igOd : Ignores.od π) (igControl : Ignores.control π) (igNvm : Ignores.nvm π) (igBeat :
  Ignores.beat π) (igLamps : Ignores.lamps π) (igSent : Ignores.sent π) (s : State) (k : Keeps π s) :
    Keeps π (State.beatCheck s) := by
  unfold State.beatCheck
  repeat' (first
    | with_reducible assumption
    | intro _
    | (with_reducible first
        | apply keeps_ite | apply keeps_ite_snd | apply kept_withBeat | apply kept_blank))

theorem kept_execCorrectionReread (igVideo : Ignores.video π) (s : State) (k : Keeps π s) :
    KeepsO π (execCorrectionReread s) := by
  unfold execCorrectionReread
  repeat' (first
    | with_reducible assumption
    | intro _
    | (with_reducible first
        | apply keeps_ite | apply keeps_ite_snd | apply keepsO_next | apply keepsO_ite | apply keepsO_dite
        | apply kept_withColour)
    | split)

theorem kept_execComposeOverrun (igNow : Ignores.now π) (igOd : Ignores.od π) (igControl : Ignores.control π) (igNvm :
  Ignores.nvm π) (igQuartz : Ignores.quartz π) (igTile : Ignores.tile π) (igVideo : Ignores.video π) (igSent :
  Ignores.sent π) (s : State) (k : Keeps π s) :
    KeepsO π (execComposeOverrun s) := by
  unfold execComposeOverrun
  repeat' (first
    | with_reducible assumption
    | intro _
    | (with_reducible first
        | apply keeps_ite | apply keeps_ite_snd | apply keepsO_next | apply keepsO_ite | apply keepsO_dite
        | apply kept_pass | apply kept_withCompose | apply kept_endFrame | apply kept_raise | apply kept_bump)
    | split)

theorem kept_damagedWord (igOd : Ignores.od π) (igControl : Ignores.control π) (igNvm : Ignores.nvm π) (igSent :
  Ignores.sent π) (s : State) (a1 : DamagedWord) (k : Keeps π s) :
    Keeps π (State.damagedWord s a1) := by
  unfold State.damagedWord
  repeat' (first
    | with_reducible assumption
    | intro _
    | (with_reducible first
        | apply keeps_ite | apply keeps_ite_snd | apply kept_raiseLimited | apply kept_wrN))

theorem kept_blendDamage (igOd : Ignores.od π) (igControl : Ignores.control π) (igNvm : Ignores.nvm π) (igSent :
  Ignores.sent π) (s : State) (a1 : Gen) (a2 : Damage) (k : Keeps π s) :
    Keeps π (State.blendDamage s a1 a2) := by
  unfold State.blendDamage
  repeat' (first
    | with_reducible assumption
    | intro _
    | (with_reducible first
        | apply keeps_ite | apply keeps_ite_snd | apply keeps_foldl | apply kept_bump | apply kept_damagedWord
        | apply kept_raiseLimited)
    | split)

theorem kept_blendSlot (igOd : Ignores.od π) (igControl : Ignores.control π) (igNvm : Ignores.nvm π) (igVideo :
  Ignores.video π) (igSent : Ignores.sent π) (s : State) (a1 : Gen) (a2 : Fin 4) (a3 : Damage) (k : Keeps π s) :
    Keeps π (State.blendSlot s a1 a2 a3).2 := by
  unfold State.blendSlot
  repeat' (first
    | with_reducible assumption
    | intro _
    | (with_reducible first
        | apply keeps_ite | apply keeps_ite_snd | apply kept_blendDamage | apply kept_withCompose)
    | split)

theorem kept_corrDamage (igOd : Ignores.od π) (igControl : Ignores.control π) (igNvm : Ignores.nvm π) (igVideo :
  Ignores.video π) (igSent : Ignores.sent π) (s : State) (a1 : Damage) (k : Keeps π s) :
    Keeps π (State.corrDamage s a1) := by
  unfold State.corrDamage
  repeat' (first
    | with_reducible assumption
    | intro _
    | (with_reducible first
        | apply keeps_ite | apply keeps_ite_snd | apply keeps_foldl | apply kept_bump | apply kept_withColour
        | apply kept_raise))

theorem kept_composeInto (igOd : Ignores.od π) (igControl : Ignores.control π) (igNvm : Ignores.nvm π) (igTile :
  Ignores.tile π) (igVideo : Ignores.video π) (igSent : Ignores.sent π) (s : State) (a1 : Fin 4) (a2 : Damage) (k :
  Keeps π s) :
    Keeps π (State.composeInto s a1 a2) := by
  unfold State.composeInto
  repeat' (first
    | with_reducible assumption
    | intro _
    | (with_reducible first
        | apply keeps_ite | apply keeps_ite_snd | apply kept_pixelFault | apply kept_withCompose
        | apply kept_blendSlot | apply kept_corrDamage | apply kept_raise)
    | split)

theorem kept_execComposeSlot (igNow : Ignores.now π) (igOd : Ignores.od π) (igControl : Ignores.control π) (igNvm :
  Ignores.nvm π) (igQuartz : Ignores.quartz π) (igTile : Ignores.tile π) (igVideo : Ignores.video π) (igSent :
  Ignores.sent π) (a0 : Damage) (s : State) (k : Keeps π s) :
    KeepsO π (execComposeSlot a0 s) := by
  unfold execComposeSlot
  repeat' (first
    | with_reducible assumption
    | intro _
    | (with_reducible first
        | apply keeps_ite | apply keeps_ite_snd | apply keepsO_next | apply keepsO_ite | apply keepsO_dite
        | apply kept_composeInto | apply kept_untilWall))

theorem kept_execCorrVerifyComplete (igOd : Ignores.od π) (igControl : Ignores.control π) (igNvm : Ignores.nvm π)
  (igVideo : Ignores.video π) (igSent : Ignores.sent π) (s : State) (k : Keeps π s) :
    KeepsO π (execCorrVerifyComplete s) := by
  unfold execCorrVerifyComplete
  repeat' (first
    | with_reducible assumption
    | intro _
    | (with_reducible first
        | apply keeps_ite | apply keeps_ite_snd | apply keepsO_next | apply keepsO_ite | apply keepsO_dite
        | apply kept_withColour | apply kept_publishCorr | apply kept_raiseIf)
    | split)

theorem kept_clearEngine (igOd : Ignores.od π) (s : State) (a1 : Fin 64) (k : Keeps π s) :
    Keeps π (State.clearEngine s a1) := by
  unfold State.clearEngine
  repeat' (first
    | with_reducible assumption
    | intro _
    | (with_reducible first
        | apply keeps_ite | apply keeps_ite_snd | apply kept_zero))

theorem kept_enumerate (igOd : Ignores.od π) (igLamps : Ignores.lamps π) (s : State) (a1 : Fin 64) (k : Keeps π s) :
    Keeps π (State.enumerate s a1) := by
  unfold State.enumerate
  repeat' (first
    | with_reducible assumption
    | intro _
    | (with_reducible first
        | apply keeps_ite | apply keeps_ite_snd | apply kept_startRun | apply kept_wrN | apply kept_withPort
        | apply kept_withEngine | apply kept_request))

theorem kept_failPort (igOd : Ignores.od π) (igLamps : Ignores.lamps π) (s : State) (a1 : Fin 64) (k : Keeps π s) :
    Keeps π (State.failPort s a1) := by
  unfold State.failPort
  repeat' (first
    | with_reducible assumption
    | intro _
    | (with_reducible first
        | apply keeps_ite | apply keeps_ite_snd | apply kept_publish | apply kept_withPort | apply kept_wrN))

theorem kept_finishFrame (igOd : Ignores.od π) (igLamps : Ignores.lamps π) (igSent : Ignores.sent π) (s : State) (a1 :
  Fin 64) (k : Keeps π s) :
    Keeps π (State.finishFrame s a1) := by
  unfold State.finishFrame
  repeat' (first
    | with_reducible assumption
    | intro _
    | (with_reducible first
        | apply keeps_ite | apply keeps_ite_snd | apply kept_withEngine | apply kept_bump | apply kept_emit)
    | split
    | simp -iota -proj only [])

theorem kept_killTx (igOd : Ignores.od π) (igLamps : Ignores.lamps π) (igSent : Ignores.sent π) (s : State) (a1 : Fin
  64) (k : Keeps π s) :
    Keeps π (State.killTx s a1) := by
  unfold State.killTx
  repeat' (first
    | with_reducible assumption
    | intro _
    | (with_reducible first
        | apply keeps_ite | apply keeps_ite_snd | apply kept_withEngine | apply kept_finishFrame))

theorem kept_engineFault (igOd : Ignores.od π) (igControl : Ignores.control π) (igNvm : Ignores.nvm π) (igHostPort :
  Ignores.hostPort π) (igLamps : Ignores.lamps π) (igSent : Ignores.sent π) (s : State) (a1 : Fin 64) (a2 : Nat) (k :
  Keeps π s) :
    Keeps π (State.engineFault s a1 a2) := by
  unfold State.engineFault
  repeat' (first
    | with_reducible assumption
    | intro _
    | (with_reducible first
        | apply keeps_ite | apply keeps_ite_snd | apply kept_wrN | apply kept_bump | apply kept_masterReset
        | apply kept_withEngine | apply kept_killTx | apply kept_raiseWith | apply kept_failPort))

theorem kept_onEngine (igOd : Ignores.od π) (igControl : Ignores.control π) (igNvm : Ignores.nvm π) (igHostPort :
  Ignores.hostPort π) (igLamps : Ignores.lamps π) (igSent : Ignores.sent π) (s : State) (a1 : Fin 64) (a2 : Word) (a3
  : Bool) (a4 : List (Fin 16)) (a5 : Nat) (a6 : State → State) (hf : ∀ s, Keeps π s → Keeps π (a6 s)) (k : Keeps π s)
  :
    KeepsO π (State.onEngine s a1 a2 a3 a4 a5 a6) := by
  unfold State.onEngine
  repeat' (first
    | with_reducible assumption
    | intro _
    | (with_reducible first
        | apply keeps_ite | apply keeps_ite_snd | apply keepsO_next | apply keepsO_ite | apply keepsO_dite
        | apply kept_engineFault | apply kept_withEngine | apply hf))

theorem kept_execPeWaitt (igOd : Ignores.od π) (igControl : Ignores.control π) (igNvm : Ignores.nvm π) (igHostPort :
  Ignores.hostPort π) (igLamps : Ignores.lamps π) (igSent : Ignores.sent π) (a0 : Fin 64) (a1 a2 : Fin 16) (a3 :
  BitVec 18) (s : State) (k : Keeps π s) :
    KeepsO π (execPeWaitt a0 a1 a2 a3 s) := by
  unfold execPeWaitt
  repeat' (first
    | with_reducible assumption
    | intro _
    | (with_reducible first
        | apply keeps_ite | apply keeps_ite_snd | apply keepsO_next | apply keepsO_ite | apply keepsO_dite
        | apply kept_onEngine | apply kept_withEngine))

theorem kept_execPeSt (igOd : Ignores.od π) (igControl : Ignores.control π) (igNvm : Ignores.nvm π) (igHostPort :
  Ignores.hostPort π) (igLamps : Ignores.lamps π) (igSent : Ignores.sent π) (a0 : Fin 64) (a1 a2 : Fin 16) (a3 :
  BitVec 18) (s : State) (k : Keeps π s) :
    KeepsO π (execPeSt a0 a1 a2 a3 s) := by
  unfold execPeSt
  repeat' (first
    | with_reducible assumption
    | intro _
    | (with_reducible first
        | apply keeps_ite | apply keeps_ite_snd | apply keepsO_next | apply keepsO_ite | apply keepsO_dite
        | apply kept_onEngine | apply kept_engineFault | apply kept_withEngine))

theorem kept_setReg (igLamps : Ignores.lamps π) (s : State) (a1 : Fin 64) (a2 : Fin 16) (a3 : Word) (k : Keeps π s) :
    Keeps π (State.setReg s a1 a2 a3) := by
  unfold State.setReg
  repeat' (first
    | with_reducible assumption
    | intro _
    | (with_reducible first
        | apply keeps_ite | apply keeps_ite_snd | apply kept_withEngine))

theorem kept_aluR (igOd : Ignores.od π) (igControl : Ignores.control π) (igNvm : Ignores.nvm π) (igHostPort :
  Ignores.hostPort π) (igLamps : Ignores.lamps π) (igSent : Ignores.sent π) (s : State) (a1 : Fin 64) (a2 : Nat) (a3
  a4 a5 : Fin 16) (a6 : BitVec 14) (a7 : Nat) (a8 : Word → Word → Word) (k : Keeps π s) :
    KeepsO π (State.aluR s a1 a2 a3 a4 a5 a6 a7 a8) := by
  unfold State.aluR
  repeat' (first
    | with_reducible assumption
    | intro _
    | (with_reducible first
        | apply keeps_ite | apply keeps_ite_snd | apply keepsO_next | apply keepsO_ite | apply keepsO_dite
        | apply kept_onEngine | apply kept_setReg | apply kept_withEngine))

theorem kept_execPeSub (igOd : Ignores.od π) (igControl : Ignores.control π) (igNvm : Ignores.nvm π) (igHostPort :
  Ignores.hostPort π) (igLamps : Ignores.lamps π) (igSent : Ignores.sent π) (a0 : Fin 64) (a1 a2 a3 : Fin 16) (a4 :
  BitVec 14) (s : State) (k : Keeps π s) :
    KeepsO π (execPeSub a0 a1 a2 a3 a4 s) := by
  unfold execPeSub
  repeat' (first
    | with_reducible assumption
    | intro _
    | (with_reducible first
        | apply keeps_ite | apply keeps_ite_snd | apply keepsO_next | apply keepsO_ite | apply keepsO_dite
        | apply kept_aluR))

theorem kept_countBadWords (igOd : Ignores.od π) (igControl : Ignores.control π) (igNvm : Ignores.nvm π) (igSent :
  Ignores.sent π) (s : State) (a1 : Fin 64) (a2 : Push) (a3 : List Nat) (k : Keeps π s) :
    Keeps π (State.countBadWords s a1 a2 a3) := by
  unfold State.countBadWords
  repeat' (first
    | with_reducible assumption
    | intro _
    | (with_reducible first
        | apply keeps_ite | apply keeps_ite_snd | apply kept_raiseLimited | apply kept_bump))

theorem kept_withOpen (igLamps : Ignores.lamps π) (s : State) (a1 : Fin 64) (a2 : TxFrame → TxFrame) (k : Keeps π s) :
    Keeps π (State.withOpen s a1 a2) := by
  unfold State.withOpen
  repeat' (first
    | with_reducible assumption
    | intro _
    | (with_reducible first
        | apply keeps_ite | apply keeps_ite_snd | apply kept_withEngine))

theorem kept_count (igOd : Ignores.od π) (igControl : Ignores.control π) (igNvm : Ignores.nvm π) (igLamps :
  Ignores.lamps π) (igSent : Ignores.sent π) (s : State) (a1 : Fin 64) (a2 : Nat) (k : Keeps π s) :
    Keeps π (State.count s a1 a2) := by
  unfold State.count
  repeat' (first
    | with_reducible assumption
    | intro _
    | (with_reducible first
        | apply keeps_ite | apply keeps_ite_snd | apply kept_withEngine | apply kept_wrN | apply kept_raiseLimited
        | apply kept_bump))

theorem kept_append (igOd : Ignores.od π) (igControl : Ignores.control π) (igNvm : Ignores.nvm π) (igLamps :
  Ignores.lamps π) (igSent : Ignores.sent π) (s : State) (a1 : Fin 64) (a2 : List Bool) (a3 a4 : Bool) (k : Keeps π s)
  :
    Keeps π (State.append s a1 a2 a3 a4) := by
  unfold State.append
  repeat' (first
    | with_reducible assumption
    | intro _
    | (with_reducible first
        | apply keeps_ite | apply keeps_ite_snd | apply kept_count | apply kept_withOpen | apply kept_finishFrame))

theorem kept_push (igOd : Ignores.od π) (igControl : Ignores.control π) (igNvm : Ignores.nvm π) (igHostPort :
  Ignores.hostPort π) (igLamps : Ignores.lamps π) (igSent : Ignores.sent π) (s : State) (a1 : Fin 64) (a2 : Push) (a3
  : List Nat) (k : Keeps π s) :
    Keeps π (State.push s a1 a2 a3) := by
  unfold State.push
  repeat' (first
    | with_reducible assumption
    | intro _
    | (with_reducible first
        | apply keeps_ite | apply keeps_ite_snd | apply kept_engineFault | apply kept_withEngine | apply kept_append
        | apply kept_countBadWords)
    | split
    | simp -iota -proj only [])

theorem kept_execPushStallEnd (igNow : Ignores.now π) (igOd : Ignores.od π) (igControl : Ignores.control π) (igNvm :
  Ignores.nvm π) (igHostPort : Ignores.hostPort π) (igQuartz : Ignores.quartz π) (igLamps : Ignores.lamps π) (igSent :
  Ignores.sent π) (a0 : Fin 64) (a1 : List Nat) (s : State) (k : Keeps π s) :
    KeepsO π (execPushStallEnd a0 a1 s) := by
  unfold execPushStallEnd
  repeat' (first
    | with_reducible assumption
    | intro _
    | (with_reducible first
        | apply keeps_ite | apply keeps_ite_snd | apply keepsO_next | apply keepsO_ite | apply keepsO_dite
        | apply kept_until_ | apply kept_pass | apply kept_withEngine | apply kept_push)
    | split
    | simp -iota -proj only [])

theorem kept_execPeTxb (igOd : Ignores.od π) (igControl : Ignores.control π) (igNvm : Ignores.nvm π) (igHostPort :
  Ignores.hostPort π) (igLamps : Ignores.lamps π) (igSent : Ignores.sent π) (a0 : Fin 64) (a1 a2 : Fin 16) (a3 :
  BitVec 18) (s : State) (k : Keeps π s) :
    KeepsO π (execPeTxb a0 a1 a2 a3 s) := by
  unfold execPeTxb
  repeat' (first
    | with_reducible assumption
    | intro _
    | (with_reducible first
        | apply keeps_ite | apply keeps_ite_snd | apply keepsO_next | apply keepsO_ite | apply keepsO_dite
        | apply kept_onEngine | apply kept_push))

theorem kept_defaultWalk (igOd : Ignores.od π) (igVideo : Ignores.video π) (s : State) (a1 : Fin 64) (a2 : List Byte)
  (k : Keeps π s) :
    Keeps π (State.defaultWalk s a1 a2) := by
  unfold State.defaultWalk
  repeat' (first
    | with_reducible assumption
    | intro _
    | (with_reducible first
        | apply keeps_ite | apply keeps_ite_snd | apply kept_wrD | apply kept_withCompose))

theorem kept_loadEngine (igOd : Ignores.od π) (igControl : Ignores.control π) (igNvm : Ignores.nvm π) (igHostPort :
  Ignores.hostPort π) (igVideo : Ignores.video π) (igLamps : Ignores.lamps π) (igSent : Ignores.sent π) (s : State)
  (a1 : Fin 64) (a2 : List Byte) (k : Keeps π s) :
    Keeps π (State.loadEngine s a1 a2) := by
  unfold State.loadEngine
  repeat' (first
    | with_reducible assumption
    | intro _
    | (with_reducible first
        | apply keeps_ite | apply keeps_ite_snd | apply kept_raise | apply kept_failPort | apply kept_withEngine
        | apply kept_wrN | apply kept_masterReset | apply kept_defaultWalk)
    | split)

theorem kept_reenumerate (igOd : Ignores.od π) (igControl : Ignores.control π) (igNvm : Ignores.nvm π) (igHostPort :
  Ignores.hostPort π) (igVideo : Ignores.video π) (igLamps : Ignores.lamps π) (igSent : Ignores.sent π) (s : State)
  (a1 : Fin 64) (k : Keeps π s) :
    Keeps π (State.reenumerate s a1) := by
  unfold State.reenumerate
  repeat' (first
    | with_reducible assumption
    | intro _
    | (with_reducible first
        | apply keeps_ite | apply keeps_ite_snd | apply kept_loadEngine | apply kept_enumerate))

theorem kept_pollRate (igLamps : Ignores.lamps π) (s : State) (a1 : Fin 64) (k : Keeps π s) :
    Keeps π (State.pollRate s a1) := by
  unfold State.pollRate
  repeat' (first
    | with_reducible assumption
    | intro _
    | (with_reducible first
        | apply keeps_ite | apply keeps_ite_snd | apply kept_withPort))

theorem kept_jumpTo (igOd : Ignores.od π) (igControl : Ignores.control π) (igNvm : Ignores.nvm π) (igHostPort :
  Ignores.hostPort π) (igLamps : Ignores.lamps π) (igSent : Ignores.sent π) (s : State) (a1 : Fin 64) (a2 : Nat) (k :
  Keeps π s) :
    Keeps π (State.jumpTo s a1 a2) := by
  unfold State.jumpTo
  repeat' (first
    | with_reducible assumption
    | intro _
    | (with_reducible first
        | apply keeps_ite | apply keeps_ite_snd | apply kept_engineFault | apply kept_withEngine))

theorem kept_branch (igOd : Ignores.od π) (igControl : Ignores.control π) (igNvm : Ignores.nvm π) (igHostPort :
  Ignores.hostPort π) (igLamps : Ignores.lamps π) (igSent : Ignores.sent π) (s : State) (a1 : Fin 64) (a2 : Nat) (a3
  a4 : Fin 16) (a5 : BitVec 18) (a6 : Word → Word → Bool) (k : Keeps π s) :
    KeepsO π (State.branch s a1 a2 a3 a4 a5 a6) := by
  unfold State.branch
  repeat' (first
    | with_reducible assumption
    | intro _
    | (with_reducible first
        | apply keeps_ite | apply keeps_ite_snd | apply keepsO_next | apply keepsO_ite | apply keepsO_dite
        | apply kept_onEngine | apply kept_jumpTo))

theorem kept_execPeBltu (igOd : Ignores.od π) (igControl : Ignores.control π) (igNvm : Ignores.nvm π) (igHostPort :
  Ignores.hostPort π) (igLamps : Ignores.lamps π) (igSent : Ignores.sent π) (a0 : Fin 64) (a1 a2 : Fin 16) (a3 :
  BitVec 18) (s : State) (k : Keeps π s) :
    KeepsO π (execPeBltu a0 a1 a2 a3 s) := by
  unfold execPeBltu
  repeat' (first
    | with_reducible assumption
    | intro _
    | (with_reducible first
        | apply keeps_ite | apply keeps_ite_snd | apply keepsO_next | apply keepsO_ite | apply keepsO_dite
        | apply kept_branch))

theorem kept_launch (igOd : Ignores.od π) (igLamps : Ignores.lamps π) (igSent : Ignores.sent π) (s : State) (a1 : Fin
  64) (k : Keeps π s) :
    Keeps π (State.launch s a1) := by
  unfold State.launch
  repeat' (first
    | with_reducible assumption
    | intro _
    | (with_reducible first
        | apply keeps_ite | apply keeps_ite_snd | apply kept_withEngine | apply kept_finishFrame))

theorem kept_sendHead (igOd : Ignores.od π) (igControl : Ignores.control π) (igNvm : Ignores.nvm π) (igLamps :
  Ignores.lamps π) (igSent : Ignores.sent π) (s : State) (a1 : Fin 64) (a2 : TxFrame) (a3 : List TxFrame) (k : Keeps π
  s) :
    Keeps π (State.sendHead s a1 a2 a3).2 := by
  unfold State.sendHead
  repeat' (first
    | with_reducible assumption
    | intro _
    | (with_reducible first
        | apply keeps_ite | apply keeps_ite_snd | apply kept_launch | apply kept_count | apply kept_withEngine
        | apply kept_raise | apply kept_bump))

theorem kept_execFrameLaunch (igNow : Ignores.now π) (igOd : Ignores.od π) (igControl : Ignores.control π) (igNvm :
  Ignores.nvm π) (igQuartz : Ignores.quartz π) (igLamps : Ignores.lamps π) (igSent : Ignores.sent π) (a0 : Fin 64) (s
  : State) (k : Keeps π s) :
    KeepsO π (execFrameLaunch a0 s) := by
  unfold execFrameLaunch
  repeat' (first
    | with_reducible assumption
    | intro _
    | (with_reducible first
        | apply keeps_ite | apply keeps_ite_snd | apply keepsO_next | apply keepsO_ite | apply keepsO_dite
        | apply kept_sendHead | apply kept_until_)
    | split
    | simp -iota -proj only [])

theorem kept_execRepoll (igLamps : Ignores.lamps π) (a0 : Fin 64) (s : State) (k : Keeps π s) :
    KeepsO π (execRepoll a0 s) := by
  unfold execRepoll
  repeat' (first
    | with_reducible assumption
    | intro _
    | (with_reducible first
        | apply keeps_ite | apply keeps_ite_snd | apply keepsO_next | apply keepsO_ite | apply keepsO_dite
        | apply kept_request))

theorem kept_execPeSra (igOd : Ignores.od π) (igControl : Ignores.control π) (igNvm : Ignores.nvm π) (igHostPort :
  Ignores.hostPort π) (igLamps : Ignores.lamps π) (igSent : Ignores.sent π) (a0 : Fin 64) (a1 a2 a3 : Fin 16) (a4 :
  BitVec 14) (s : State) (k : Keeps π s) :
    KeepsO π (execPeSra a0 a1 a2 a3 a4 s) := by
  unfold execPeSra
  repeat' (first
    | with_reducible assumption
    | intro _
    | (with_reducible first
        | apply keeps_ite | apply keeps_ite_snd | apply keepsO_next | apply keepsO_ite | apply keepsO_dite
        | apply kept_aluR))

theorem kept_setLatches (igOd : Ignores.od π) (igLamps : Ignores.lamps π) (s : State) (a1 : Fin 64) (a2 a3 : Nat) (k :
  Keeps π s) :
    Keeps π (State.setLatches s a1 a2 a3).2 := by
  unfold State.setLatches
  repeat' (first
    | with_reducible assumption
    | intro _
    | (with_reducible first
        | apply keeps_ite | apply keeps_ite_snd | apply kept_withPort | apply kept_wrN))

theorem kept_execPeRds (igOd : Ignores.od π) (igControl : Ignores.control π) (igNvm : Ignores.nvm π) (igHostPort :
  Ignores.hostPort π) (igLamps : Ignores.lamps π) (igSent : Ignores.sent π) (a0 : Fin 64) (a1 a2 : Fin 16) (a3 :
  BitVec 18) (s : State) (k : Keeps π s) :
    KeepsO π (execPeRds a0 a1 a2 a3 s) := by
  unfold execPeRds
  repeat' (first
    | with_reducible assumption
    | intro _
    | (with_reducible first
        | apply keeps_ite | apply keeps_ite_snd | apply keepsO_next | apply keepsO_ite | apply keepsO_dite
        | apply keeps_id | apply kept_onEngine | apply kept_setReg | apply kept_withEngine)
    | split)

theorem kept_execPeMul (igOd : Ignores.od π) (igControl : Ignores.control π) (igNvm : Ignores.nvm π) (igHostPort :
  Ignores.hostPort π) (igLamps : Ignores.lamps π) (igSent : Ignores.sent π) (a0 : Fin 64) (a1 a2 a3 : Fin 16) (a4 :
  BitVec 14) (s : State) (k : Keeps π s) :
    KeepsO π (execPeMul a0 a1 a2 a3 a4 s) := by
  unfold execPeMul
  repeat' (first
    | with_reducible assumption
    | intro _
    | (with_reducible first
        | apply keeps_ite | apply keeps_ite_snd | apply keepsO_next | apply keepsO_ite | apply keepsO_dite
        | apply kept_aluR))

theorem kept_execPeTxs (igOd : Ignores.od π) (igControl : Ignores.control π) (igNvm : Ignores.nvm π) (igHostPort :
  Ignores.hostPort π) (igLamps : Ignores.lamps π) (igSent : Ignores.sent π) (a0 : Fin 64) (a1 a2 a3 : Fin 16) (a4 :
  BitVec 14) (s : State) (k : Keeps π s) :
    KeepsO π (execPeTxs a0 a1 a2 a3 a4 s) := by
  unfold execPeTxs
  repeat' (first
    | with_reducible assumption
    | intro _
    | (with_reducible first
        | apply keeps_ite | apply keeps_ite_snd | apply keepsO_next | apply keepsO_ite | apply keepsO_dite
        | apply kept_onEngine | apply kept_push))

theorem kept_started (igOd : Ignores.od π) (igControl : Ignores.control π) (igClocks : Ignores.clocks π) (igNvm :
  Ignores.nvm π) (igSent : Ignores.sent π) (s : State) (a1 : Nat) (k : Keeps π s) :
    Keeps π (State.started s a1) := by
  unfold State.started
  repeat' (first
    | with_reducible assumption
    | intro _
    | (with_reducible first
        | apply keeps_ite | apply keeps_ite_snd | apply kept_wrN | apply kept_raiseWith | apply kept_raiseIf)
    | split
    | simp -iota -proj only []
    | dsimp only
    | with_reducible apply keeps_set_clocks)

theorem kept_lights (igOd : Ignores.od π) (igControl : Ignores.control π) (igClocks : Ignores.clocks π) (igNvm :
  Ignores.nvm π) (igSent : Ignores.sent π) (s : State) (k : Keeps π s) :
    Keeps π (State.lights s) := by
  unfold State.lights
  repeat' (first
    | with_reducible assumption
    | intro _
    | (with_reducible first
        | apply keeps_ite | apply keeps_ite_snd | apply kept_started))

theorem kept_execReferenceFrameLaunch (igNow : Ignores.now π) (igOd : Ignores.od π) (igControl : Ignores.control π)
  (igClocks : Ignores.clocks π) (igNvm : Ignores.nvm π) (igBeat : Ignores.beat π) (igQuartz : Ignores.quartz π)
  (igLamps : Ignores.lamps π) (igSent : Ignores.sent π) (a0 : Fin 64) (s : State) (k : Keeps π s) :
    KeepsO π (execReferenceFrameLaunch a0 s) := by
  unfold execReferenceFrameLaunch
  repeat' (first
    | with_reducible assumption
    | intro _
    | (with_reducible first
        | apply keeps_ite | apply keeps_ite_snd | apply keepsO_next | apply keepsO_ite | apply keepsO_dite
        | apply kept_endBlanking | apply kept_untilWall | apply kept_sendHead | apply kept_lights
        | apply kept_withPort)
    | split
    | simp -iota -proj only [])

theorem kept_disablePort (igOd : Ignores.od π) (igLamps : Ignores.lamps π) (igSent : Ignores.sent π) (s : State) (a1 :
  Fin 64) (k : Keeps π s) :
    Keeps π (State.disablePort s a1) := by
  unfold State.disablePort
  repeat' (first
    | with_reducible assumption
    | intro _
    | (with_reducible first
        | apply keeps_ite | apply keeps_ite_snd | apply kept_withEngine | apply kept_killTx | apply kept_withPort
        | apply kept_wrN))

theorem kept_latchAfterEnum (igOd : Ignores.od π) (igControl : Ignores.control π) (igNvm : Ignores.nvm π) (igLamps :
  Ignores.lamps π) (igSent : Ignores.sent π) (s : State) (a1 : Fin 64) (a2 : List Byte) (k : Keeps π s) :
    Keeps π (State.latchAfterEnum s a1 a2).2 := by
  unfold State.latchAfterEnum
  repeat' (first
    | with_reducible assumption
    | intro _
    | (with_reducible first
        | apply keeps_ite | apply keeps_ite_snd | apply kept_setLatches | apply kept_withPort | apply kept_wrN
        | apply kept_raise)
    | split
    | simp -iota -proj only [])

theorem kept_execPeTxsh (igOd : Ignores.od π) (igControl : Ignores.control π) (igNvm : Ignores.nvm π) (igHostPort :
  Ignores.hostPort π) (igLamps : Ignores.lamps π) (igSent : Ignores.sent π) (a0 : Fin 64) (a1 a2 a3 : Fin 16) (a4 :
  BitVec 14) (a5 : List Nat) (s : State) (k : Keeps π s) :
    KeepsO π (execPeTxsh a0 a1 a2 a3 a4 a5 s) := by
  unfold execPeTxsh
  repeat' (first
    | with_reducible assumption
    | intro _
    | (with_reducible first
        | apply keeps_ite | apply keeps_ite_snd | apply keepsO_next | apply keepsO_ite | apply keepsO_dite
        | apply kept_onEngine | apply kept_engineFault | apply kept_push))

theorem kept_execPeDbnz (igOd : Ignores.od π) (igControl : Ignores.control π) (igNvm : Ignores.nvm π) (igHostPort :
  Ignores.hostPort π) (igLamps : Ignores.lamps π) (igSent : Ignores.sent π) (a0 : Fin 64) (a1 a2 : Fin 16) (a3 :
  BitVec 18) (s : State) (k : Keeps π s) :
    KeepsO π (execPeDbnz a0 a1 a2 a3 s) := by
  unfold execPeDbnz
  repeat' (first
    | with_reducible assumption
    | intro _
    | (with_reducible first
        | apply keeps_ite | apply keeps_ite_snd | apply keepsO_next | apply keepsO_ite | apply keepsO_dite
        | apply kept_onEngine | apply kept_setReg | apply kept_jumpTo))

theorem kept_execPeWdk (igOd : Ignores.od π) (igControl : Ignores.control π) (igNvm : Ignores.nvm π) (igHostPort :
  Ignores.hostPort π) (igLamps : Ignores.lamps π) (igSent : Ignores.sent π) (a0 : Fin 64) (a1 a2 : Fin 16) (a3 :
  BitVec 18) (s : State) (k : Keeps π s) :
    KeepsO π (execPeWdk a0 a1 a2 a3 s) := by
  unfold execPeWdk
  repeat' (first
    | with_reducible assumption
    | intro _
    | (with_reducible first
        | apply keeps_ite | apply keeps_ite_snd | apply keepsO_next | apply keepsO_ite | apply keepsO_dite
        | apply kept_onEngine | apply kept_withEngine))

theorem kept_execPeXor (igOd : Ignores.od π) (igControl : Ignores.control π) (igNvm : Ignores.nvm π) (igHostPort :
  Ignores.hostPort π) (igLamps : Ignores.lamps π) (igSent : Ignores.sent π) (a0 : Fin 64) (a1 a2 a3 : Fin 16) (a4 :
  BitVec 14) (s : State) (k : Keeps π s) :
    KeepsO π (execPeXor a0 a1 a2 a3 a4 s) := by
  unfold execPeXor
  repeat' (first
    | with_reducible assumption
    | intro _
    | (with_reducible first
        | apply keeps_ite | apply keeps_ite_snd | apply keepsO_next | apply keepsO_ite | apply keepsO_dite
        | apply kept_aluR))

theorem kept_execPeJalr (igOd : Ignores.od π) (igControl : Ignores.control π) (igNvm : Ignores.nvm π) (igHostPort :
  Ignores.hostPort π) (igLamps : Ignores.lamps π) (igSent : Ignores.sent π) (a0 : Fin 64) (a1 a2 : Fin 16) (a3 :
  BitVec 18) (s : State) (k : Keeps π s) :
    KeepsO π (execPeJalr a0 a1 a2 a3 s) := by
  unfold execPeJalr
  repeat' (first
    | with_reducible assumption
    | intro _
    | (with_reducible first
        | apply keeps_ite | apply keeps_ite_snd | apply keepsO_next | apply keepsO_ite | apply keepsO_dite
        | apply kept_onEngine | apply kept_jumpTo | apply kept_setReg))

theorem kept_execPeBne (igOd : Ignores.od π) (igControl : Ignores.control π) (igNvm : Ignores.nvm π) (igHostPort :
  Ignores.hostPort π) (igLamps : Ignores.lamps π) (igSent : Ignores.sent π) (a0 : Fin 64) (a1 a2 : Fin 16) (a3 :
  BitVec 18) (s : State) (k : Keeps π s) :
    KeepsO π (execPeBne a0 a1 a2 a3 s) := by
  unfold execPeBne
  repeat' (first
    | with_reducible assumption
    | intro _
    | (with_reducible first
        | apply keeps_ite | apply keeps_ite_snd | apply keepsO_next | apply keepsO_ite | apply keepsO_dite
        | apply kept_branch))

theorem kept_execPeBeq (igOd : Ignores.od π) (igControl : Ignores.control π) (igNvm : Ignores.nvm π) (igHostPort :
  Ignores.hostPort π) (igLamps : Ignores.lamps π) (igSent : Ignores.sent π) (a0 : Fin 64) (a1 a2 : Fin 16) (a3 :
  BitVec 18) (s : State) (k : Keeps π s) :
    KeepsO π (execPeBeq a0 a1 a2 a3 s) := by
  unfold execPeBeq
  repeat' (first
    | with_reducible assumption
    | intro _
    | (with_reducible first
        | apply keeps_ite | apply keeps_ite_snd | apply keepsO_next | apply keepsO_ite | apply keepsO_dite
        | apply kept_branch))

theorem kept_execPeFopen (igOd : Ignores.od π) (igControl : Ignores.control π) (igNvm : Ignores.nvm π) (igHostPort :
  Ignores.hostPort π) (igLamps : Ignores.lamps π) (igSent : Ignores.sent π) (a0 : Fin 64) (a1 a2 : Fin 16) (a3 :
  BitVec 18) (s : State) (k : Keeps π s) :
    KeepsO π (execPeFopen a0 a1 a2 a3 s) := by
  unfold execPeFopen
  repeat' (first
    | with_reducible assumption
    | intro _
    | (with_reducible first
        | apply keeps_ite | apply keeps_ite_snd | apply keepsO_next | apply keepsO_ite | apply keepsO_dite
        | apply kept_onEngine | apply kept_engineFault | apply kept_withEngine | apply kept_setReg | apply kept_raise
        | apply kept_bump | apply kept_raiseIf | apply kept_pollRate | apply kept_count | apply kept_withOpen))

theorem kept_execPeMaxu (igOd : Ignores.od π) (igControl : Ignores.control π) (igNvm : Ignores.nvm π) (igHostPort :
  Ignores.hostPort π) (igLamps : Ignores.lamps π) (igSent : Ignores.sent π) (a0 : Fin 64) (a1 a2 a3 : Fin 16) (a4 :
  BitVec 14) (s : State) (k : Keeps π s) :
    KeepsO π (execPeMaxu a0 a1 a2 a3 a4 s) := by
  unfold execPeMaxu
  repeat' (first
    | with_reducible assumption
    | intro _
    | (with_reducible first
        | apply keeps_ite | apply keeps_ite_snd | apply keepsO_next | apply keepsO_ite | apply keepsO_dite
        | apply kept_aluR))

theorem kept_aluI (igOd : Ignores.od π) (igControl : Ignores.control π) (igNvm : Ignores.nvm π) (igHostPort :
  Ignores.hostPort π) (igLamps : Ignores.lamps π) (igSent : Ignores.sent π) (s : State) (a1 : Fin 64) (a2 : Nat) (a3
  a4 : Fin 16) (a5 : BitVec 18) (a6 : Bool) (a7 : Word → Word) (k : Keeps π s) :
    KeepsO π (State.aluI s a1 a2 a3 a4 a5 a6 a7) := by
  unfold State.aluI
  repeat' (first
    | with_reducible assumption
    | intro _
    | (with_reducible first
        | apply keeps_ite | apply keeps_ite_snd | apply keepsO_next | apply keepsO_ite | apply keepsO_dite
        | apply kept_onEngine | apply kept_setReg))

theorem kept_execPeAddi (igOd : Ignores.od π) (igControl : Ignores.control π) (igNvm : Ignores.nvm π) (igHostPort :
  Ignores.hostPort π) (igLamps : Ignores.lamps π) (igSent : Ignores.sent π) (a0 : Fin 64) (a1 a2 : Fin 16) (a3 :
  BitVec 18) (s : State) (k : Keeps π s) :
    KeepsO π (execPeAddi a0 a1 a2 a3 s) := by
  unfold execPeAddi
  repeat' (first
    | with_reducible assumption
    | intro _
    | (with_reducible first
        | apply keeps_ite | apply keeps_ite_snd | apply keepsO_next | apply keepsO_ite | apply keepsO_dite
        | apply kept_aluI))

theorem kept_execPeBgeu (igOd : Ignores.od π) (igControl : Ignores.control π) (igNvm : Ignores.nvm π) (igHostPort :
  Ignores.hostPort π) (igLamps : Ignores.lamps π) (igSent : Ignores.sent π) (a0 : Fin 64) (a1 a2 : Fin 16) (a3 :
  BitVec 18) (s : State) (k : Keeps π s) :
    KeepsO π (execPeBgeu a0 a1 a2 a3 s) := by
  unfold execPeBgeu
  repeat' (first
    | with_reducible assumption
    | intro _
    | (with_reducible first
        | apply keeps_ite | apply keeps_ite_snd | apply keepsO_next | apply keepsO_ite | apply keepsO_dite
        | apply kept_branch))

theorem kept_execPeRxd (igOd : Ignores.od π) (igControl : Ignores.control π) (igNvm : Ignores.nvm π) (igHostPort :
  Ignores.hostPort π) (igLamps : Ignores.lamps π) (igSent : Ignores.sent π) (a0 : Fin 64) (a1 a2 a3 : Fin 16) (a4 :
  BitVec 14) (s : State) (k : Keeps π s) :
    KeepsO π (execPeRxd a0 a1 a2 a3 a4 s) := by
  unfold execPeRxd
  repeat' (first
    | with_reducible assumption
    | intro _
    | (with_reducible first
        | apply keeps_ite | apply keeps_ite_snd | apply keepsO_next | apply keepsO_ite | apply keepsO_dite
        | apply kept_onEngine | apply kept_withEngine))

theorem kept_execPeShl (igOd : Ignores.od π) (igControl : Ignores.control π) (igNvm : Ignores.nvm π) (igHostPort :
  Ignores.hostPort π) (igLamps : Ignores.lamps π) (igSent : Ignores.sent π) (a0 : Fin 64) (a1 a2 a3 : Fin 16) (a4 :
  BitVec 14) (s : State) (k : Keeps π s) :
    KeepsO π (execPeShl a0 a1 a2 a3 a4 s) := by
  unfold execPeShl
  repeat' (first
    | with_reducible assumption
    | intro _
    | (with_reducible first
        | apply keeps_ite | apply keeps_ite_snd | apply keepsO_next | apply keepsO_ite | apply keepsO_dite
        | apply kept_aluR))

theorem kept_execPeTxf (igOd : Ignores.od π) (igControl : Ignores.control π) (igNvm : Ignores.nvm π) (igHostPort :
  Ignores.hostPort π) (igLamps : Ignores.lamps π) (igSent : Ignores.sent π) (a0 : Fin 64) (a1 a2 : Fin 16) (a3 :
  BitVec 18) (s : State) (k : Keeps π s) :
    KeepsO π (execPeTxf a0 a1 a2 a3 s) := by
  unfold execPeTxf
  repeat' (first
    | with_reducible assumption
    | intro _
    | (with_reducible first
        | apply keeps_ite | apply keeps_ite_snd | apply keepsO_next | apply keepsO_ite | apply keepsO_dite
        | apply kept_onEngine | apply kept_push))

theorem kept_execPeSltui (igOd : Ignores.od π) (igControl : Ignores.control π) (igNvm : Ignores.nvm π) (igHostPort :
  Ignores.hostPort π) (igLamps : Ignores.lamps π) (igSent : Ignores.sent π) (a0 : Fin 64) (a1 a2 : Fin 16) (a3 :
  BitVec 18) (s : State) (k : Keeps π s) :
    KeepsO π (execPeSltui a0 a1 a2 a3 s) := by
  unfold execPeSltui
  repeat' (first
    | with_reducible assumption
    | intro _
    | (with_reducible first
        | apply keeps_ite | apply keeps_ite_snd | apply keepsO_next | apply keepsO_ite | apply keepsO_dite
        | apply kept_aluI))

theorem kept_execPeTxl (igOd : Ignores.od π) (igControl : Ignores.control π) (igNvm : Ignores.nvm π) (igHostPort :
  Ignores.hostPort π) (igLamps : Ignores.lamps π) (igSent : Ignores.sent π) (a0 : Fin 64) (a1 a2 a3 : Fin 16) (a4 :
  BitVec 14) (a5 : List Nat) (s : State) (k : Keeps π s) :
    KeepsO π (execPeTxl a0 a1 a2 a3 a4 a5 s) := by
  unfold execPeTxl
  repeat' (first
    | with_reducible assumption
    | intro _
    | (with_reducible first
        | apply keeps_ite | apply keeps_ite_snd | apply keepsO_next | apply keepsO_ite | apply keepsO_dite
        | apply kept_onEngine | apply kept_push))

theorem kept_execFramerUnderrun (igOd : Ignores.od π) (igControl : Ignores.control π) (igNvm : Ignores.nvm π) (igLamps
  : Ignores.lamps π) (igSent : Ignores.sent π) (a0 : Fin 64) (s : State) (k : Keeps π s) :
    KeepsO π (execFramerUnderrun a0 s) := by
  unfold execFramerUnderrun
  repeat' (first
    | with_reducible assumption
    | intro _
    | (with_reducible first
        | apply keeps_ite | apply keeps_ite_snd | apply keepsO_next | apply keepsO_ite | apply keepsO_dite
        | apply kept_withEngine | apply kept_finishFrame | apply kept_raise | apply kept_bump)
    | split
    | simp -iota -proj only [])

theorem kept_execPeMulhu (igOd : Ignores.od π) (igControl : Ignores.control π) (igNvm : Ignores.nvm π) (igHostPort :
  Ignores.hostPort π) (igLamps : Ignores.lamps π) (igSent : Ignores.sent π) (a0 : Fin 64) (a1 a2 a3 : Fin 16) (a4 :
  BitVec 14) (s : State) (k : Keeps π s) :
    KeepsO π (execPeMulhu a0 a1 a2 a3 a4 s) := by
  unfold execPeMulhu
  repeat' (first
    | with_reducible assumption
    | intro _
    | (with_reducible first
        | apply keeps_ite | apply keeps_ite_snd | apply keepsO_next | apply keepsO_ite | apply keepsO_dite
        | apply kept_aluR))

theorem kept_execPeSlen (igOd : Ignores.od π) (igControl : Ignores.control π) (igNvm : Ignores.nvm π) (igHostPort :
  Ignores.hostPort π) (igLamps : Ignores.lamps π) (igSent : Ignores.sent π) (a0 : Fin 64) (a1 a2 a3 : Fin 16) (a4 :
  BitVec 14) (s : State) (k : Keeps π s) :
    KeepsO π (execPeSlen a0 a1 a2 a3 a4 s) := by
  unfold execPeSlen
  repeat' (first
    | with_reducible assumption
    | intro _
    | (with_reducible first
        | apply keeps_ite | apply keeps_ite_snd | apply keepsO_next | apply keepsO_ite | apply keepsO_dite
        | apply kept_onEngine | apply kept_setReg))

theorem kept_execPeMinu (igOd : Ignores.od π) (igControl : Ignores.control π) (igNvm : Ignores.nvm π) (igHostPort :
  Ignores.hostPort π) (igLamps : Ignores.lamps π) (igSent : Ignores.sent π) (a0 : Fin 64) (a1 a2 a3 : Fin 16) (a4 :
  BitVec 14) (s : State) (k : Keeps π s) :
    KeepsO π (execPeMinu a0 a1 a2 a3 a4 s) := by
  unfold execPeMinu
  repeat' (first
    | with_reducible assumption
    | intro _
    | (with_reducible first
        | apply keeps_ite | apply keeps_ite_snd | apply keepsO_next | apply keepsO_ite | apply keepsO_dite
        | apply kept_aluR))

theorem kept_execPeShri (igOd : Ignores.od π) (igControl : Ignores.control π) (igNvm : Ignores.nvm π) (igHostPort :
  Ignores.hostPort π) (igLamps : Ignores.lamps π) (igSent : Ignores.sent π) (a0 : Fin 64) (a1 a2 : Fin 16) (a3 :
  BitVec 18) (s : State) (k : Keeps π s) :
    KeepsO π (execPeShri a0 a1 a2 a3 s) := by
  unfold execPeShri
  repeat' (first
    | with_reducible assumption
    | intro _
    | (with_reducible first
        | apply keeps_ite | apply keeps_ite_snd | apply keepsO_next | apply keepsO_ite | apply keepsO_dite
        | apply kept_aluI))

theorem kept_execPeLui (igOd : Ignores.od π) (igControl : Ignores.control π) (igNvm : Ignores.nvm π) (igHostPort :
  Ignores.hostPort π) (igLamps : Ignores.lamps π) (igSent : Ignores.sent π) (a0 : Fin 64) (a1 a2 : Fin 16) (a3 :
  BitVec 18) (s : State) (k : Keeps π s) :
    KeepsO π (execPeLui a0 a1 a2 a3 s) := by
  unfold execPeLui
  repeat' (first
    | with_reducible assumption
    | intro _
    | (with_reducible first
        | apply keeps_ite | apply keeps_ite_snd | apply keepsO_next | apply keepsO_ite | apply keepsO_dite
        | apply kept_aluI))

theorem kept_execPeAdd (igOd : Ignores.od π) (igControl : Ignores.control π) (igNvm : Ignores.nvm π) (igHostPort :
  Ignores.hostPort π) (igLamps : Ignores.lamps π) (igSent : Ignores.sent π) (a0 : Fin 64) (a1 a2 a3 : Fin 16) (a4 :
  BitVec 14) (s : State) (k : Keeps π s) :
    KeepsO π (execPeAdd a0 a1 a2 a3 a4 s) := by
  unfold execPeAdd
  repeat' (first
    | with_reducible assumption
    | intro _
    | (with_reducible first
        | apply keeps_ite | apply keeps_ite_snd | apply keepsO_next | apply keepsO_ite | apply keepsO_dite
        | apply kept_aluR))

theorem kept_execPeXori (igOd : Ignores.od π) (igControl : Ignores.control π) (igNvm : Ignores.nvm π) (igHostPort :
  Ignores.hostPort π) (igLamps : Ignores.lamps π) (igSent : Ignores.sent π) (a0 : Fin 64) (a1 a2 : Fin 16) (a3 :
  BitVec 18) (s : State) (k : Keeps π s) :
    KeepsO π (execPeXori a0 a1 a2 a3 s) := by
  unfold execPeXori
  repeat' (first
    | with_reducible assumption
    | intro _
    | (with_reducible first
        | apply keeps_ite | apply keeps_ite_snd | apply keepsO_next | apply keepsO_ite | apply keepsO_dite
        | apply kept_aluI))

theorem kept_execPeOr (igOd : Ignores.od π) (igControl : Ignores.control π) (igNvm : Ignores.nvm π) (igHostPort :
  Ignores.hostPort π) (igLamps : Ignores.lamps π) (igSent : Ignores.sent π) (a0 : Fin 64) (a1 a2 a3 : Fin 16) (a4 :
  BitVec 14) (s : State) (k : Keeps π s) :
    KeepsO π (execPeOr a0 a1 a2 a3 a4 s) := by
  unfold execPeOr
  repeat' (first
    | with_reducible assumption
    | intro _
    | (with_reducible first
        | apply keeps_ite | apply keeps_ite_snd | apply keepsO_next | apply keepsO_ite | apply keepsO_dite
        | apply kept_aluR))

theorem kept_execPeLd (igOd : Ignores.od π) (igControl : Ignores.control π) (igNvm : Ignores.nvm π) (igHostPort :
  Ignores.hostPort π) (igLamps : Ignores.lamps π) (igSent : Ignores.sent π) (a0 : Fin 64) (a1 a2 : Fin 16) (a3 :
  BitVec 18) (s : State) (k : Keeps π s) :
    KeepsO π (execPeLd a0 a1 a2 a3 s) := by
  unfold execPeLd
  repeat' (first
    | with_reducible assumption
    | intro _
    | (with_reducible first
        | apply keeps_ite | apply keeps_ite_snd | apply keepsO_next | apply keepsO_ite | apply keepsO_dite
        | apply kept_onEngine | apply kept_engineFault | apply kept_withEngine))

theorem kept_execPeSltu (igOd : Ignores.od π) (igControl : Ignores.control π) (igNvm : Ignores.nvm π) (igHostPort :
  Ignores.hostPort π) (igLamps : Ignores.lamps π) (igSent : Ignores.sent π) (a0 : Fin 64) (a1 a2 a3 : Fin 16) (a4 :
  BitVec 14) (s : State) (k : Keeps π s) :
    KeepsO π (execPeSltu a0 a1 a2 a3 a4 s) := by
  unfold execPeSltu
  repeat' (first
    | with_reducible assumption
    | intro _
    | (with_reducible first
        | apply keeps_ite | apply keeps_ite_snd | apply keepsO_next | apply keepsO_ite | apply keepsO_dite
        | apply kept_aluR))

theorem kept_execWaiteComplete (igNow : Ignores.now π) (igQuartz : Ignores.quartz π) (igLamps : Ignores.lamps π) (a0 :
  Fin 64) (s : State) (k : Keeps π s) :
    KeepsO π (execWaiteComplete a0 s) := by
  unfold execWaiteComplete
  repeat' (first
    | with_reducible assumption
    | intro _
    | (with_reducible first
        | apply keeps_ite | apply keeps_ite_snd | apply keepsO_next | apply keepsO_ite | apply keepsO_dite
        | apply kept_until_ | apply kept_withEngine | apply kept_setReg)
    | split
    | simp -iota -proj only [])

theorem kept_execEngineWatchdogExpiry (igNow : Ignores.now π) (igOd : Ignores.od π) (igControl : Ignores.control π)
  (igNvm : Ignores.nvm π) (igHostPort : Ignores.hostPort π) (igQuartz : Ignores.quartz π) (igLamps : Ignores.lamps π)
  (igSent : Ignores.sent π) (a0 : Fin 64) (s : State) (k : Keeps π s) :
    KeepsO π (execEngineWatchdogExpiry a0 s) := by
  unfold execEngineWatchdogExpiry
  repeat' (first
    | with_reducible assumption
    | intro _
    | (with_reducible first
        | apply keeps_ite | apply keeps_ite_snd | apply keepsO_next | apply keepsO_ite | apply keepsO_dite
        | apply kept_engineFault | apply kept_until_))

theorem kept_execPeOri (igOd : Ignores.od π) (igControl : Ignores.control π) (igNvm : Ignores.nvm π) (igHostPort :
  Ignores.hostPort π) (igLamps : Ignores.lamps π) (igSent : Ignores.sent π) (a0 : Fin 64) (a1 a2 : Fin 16) (a3 :
  BitVec 18) (s : State) (k : Keeps π s) :
    KeepsO π (execPeOri a0 a1 a2 a3 s) := by
  unfold execPeOri
  repeat' (first
    | with_reducible assumption
    | intro _
    | (with_reducible first
        | apply keeps_ite | apply keeps_ite_snd | apply keepsO_next | apply keepsO_ite | apply keepsO_dite
        | apply kept_aluI))

theorem kept_execPeWaite (igOd : Ignores.od π) (igControl : Ignores.control π) (igNvm : Ignores.nvm π) (igHostPort :
  Ignores.hostPort π) (igLamps : Ignores.lamps π) (igSent : Ignores.sent π) (a0 : Fin 64) (a1 a2 : Fin 16) (a3 :
  BitVec 18) (s : State) (k : Keeps π s) :
    KeepsO π (execPeWaite a0 a1 a2 a3 s) := by
  unfold execPeWaite
  repeat' (first
    | with_reducible assumption
    | intro _
    | (with_reducible first
        | apply keeps_ite | apply keeps_ite_snd | apply keepsO_next | apply keepsO_ite | apply keepsO_dite
        | apply kept_onEngine | apply kept_withEngine | apply kept_setReg))

theorem kept_execStop (igLamps : Ignores.lamps π) (a0 : Fin 64) (s : State) (k : Keeps π s) :
    KeepsO π (execStop a0 s) := by
  unfold execStop
  repeat' (first
    | with_reducible assumption
    | intro _
    | (with_reducible first
        | apply keeps_ite | apply keeps_ite_snd | apply keepsO_next | apply keepsO_ite | apply keepsO_dite
        | apply kept_request))

theorem kept_execEnumerate (igNow : Ignores.now π) (igOd : Ignores.od π) (igControl : Ignores.control π) (igNvm :
  Ignores.nvm π) (igHostPort : Ignores.hostPort π) (igQuartz : Ignores.quartz π) (igVideo : Ignores.video π) (igLamps
  : Ignores.lamps π) (igSent : Ignores.sent π) (a0 : Fin 64) (s : State) (k : Keeps π s) :
    KeepsO π (execEnumerate a0 s) := by
  unfold execEnumerate
  repeat' (first
    | with_reducible assumption
    | intro _
    | (with_reducible first
        | apply keeps_ite | apply keeps_ite_snd | apply keepsO_next | apply keepsO_ite | apply keepsO_dite
        | apply kept_until_ | apply kept_reenumerate)
    | split)

theorem kept_execPeAnd (igOd : Ignores.od π) (igControl : Ignores.control π) (igNvm : Ignores.nvm π) (igHostPort :
  Ignores.hostPort π) (igLamps : Ignores.lamps π) (igSent : Ignores.sent π) (a0 : Fin 64) (a1 a2 a3 : Fin 16) (a4 :
  BitVec 14) (s : State) (k : Keeps π s) :
    KeepsO π (execPeAnd a0 a1 a2 a3 a4 s) := by
  unfold execPeAnd
  repeat' (first
    | with_reducible assumption
    | intro _
    | (with_reducible first
        | apply keeps_ite | apply keeps_ite_snd | apply keepsO_next | apply keepsO_ite | apply keepsO_dite
        | apply kept_aluR))

theorem kept_execPeAndi (igOd : Ignores.od π) (igControl : Ignores.control π) (igNvm : Ignores.nvm π) (igHostPort :
  Ignores.hostPort π) (igLamps : Ignores.lamps π) (igSent : Ignores.sent π) (a0 : Fin 64) (a1 a2 : Fin 16) (a3 :
  BitVec 18) (s : State) (k : Keeps π s) :
    KeepsO π (execPeAndi a0 a1 a2 a3 s) := by
  unfold execPeAndi
  repeat' (first
    | with_reducible assumption
    | intro _
    | (with_reducible first
        | apply keeps_ite | apply keeps_ite_snd | apply keepsO_next | apply keepsO_ite | apply keepsO_dite
        | apply kept_aluI))

theorem kept_execPeShli (igOd : Ignores.od π) (igControl : Ignores.control π) (igNvm : Ignores.nvm π) (igHostPort :
  Ignores.hostPort π) (igLamps : Ignores.lamps π) (igSent : Ignores.sent π) (a0 : Fin 64) (a1 a2 : Fin 16) (a3 :
  BitVec 18) (s : State) (k : Keeps π s) :
    KeepsO π (execPeShli a0 a1 a2 a3 s) := by
  unfold execPeShli
  repeat' (first
    | with_reducible assumption
    | intro _
    | (with_reducible first
        | apply keeps_ite | apply keeps_ite_snd | apply keepsO_next | apply keepsO_ite | apply keepsO_dite
        | apply kept_aluI))

theorem kept_execApply (igLamps : Ignores.lamps π) (a0 : Fin 64) (a1 : Nat) (s : State) (k : Keeps π s) :
    KeepsO π (execApply a0 a1 s) := by
  unfold execApply
  repeat' (first
    | with_reducible assumption
    | intro _
    | (with_reducible first
        | apply keeps_ite | apply keeps_ite_snd | apply keepsO_next | apply keepsO_ite | apply keepsO_dite
        | apply kept_request))

theorem kept_execPeRxw (igOd : Ignores.od π) (igControl : Ignores.control π) (igNvm : Ignores.nvm π) (igHostPort :
  Ignores.hostPort π) (igLamps : Ignores.lamps π) (igSent : Ignores.sent π) (a0 : Fin 64) (a1 a2 a3 : Fin 16) (a4 :
  BitVec 14) (s : State) (k : Keeps π s) :
    KeepsO π (execPeRxw a0 a1 a2 a3 a4 s) := by
  unfold execPeRxw
  repeat' (first
    | with_reducible assumption
    | intro _
    | (with_reducible first
        | apply keeps_ite | apply keeps_ite_snd | apply keepsO_next | apply keepsO_ite | apply keepsO_dite
        | apply kept_onEngine | apply kept_setReg | apply kept_withEngine)
    | split)

theorem kept_execWaittComplete (igNow : Ignores.now π) (igQuartz : Ignores.quartz π) (igLamps : Ignores.lamps π) (a0 :
  Fin 64) (s : State) (k : Keeps π s) :
    KeepsO π (execWaittComplete a0 s) := by
  unfold execWaittComplete
  repeat' (first
    | with_reducible assumption
    | intro _
    | (with_reducible first
        | apply keeps_ite | apply keeps_ite_snd | apply keepsO_next | apply keepsO_ite | apply keepsO_dite
        | apply kept_untilWall | apply kept_withEngine)
    | split)

theorem kept_execPeShr (igOd : Ignores.od π) (igControl : Ignores.control π) (igNvm : Ignores.nvm π) (igHostPort :
  Ignores.hostPort π) (igLamps : Ignores.lamps π) (igSent : Ignores.sent π) (a0 : Fin 64) (a1 a2 a3 : Fin 16) (a4 :
  BitVec 14) (s : State) (k : Keeps π s) :
    KeepsO π (execPeShr a0 a1 a2 a3 a4 s) := by
  unfold execPeShr
  repeat' (first
    | with_reducible assumption
    | intro _
    | (with_reducible first
        | apply keeps_ite | apply keeps_ite_snd | apply keepsO_next | apply keepsO_ite | apply keepsO_dite
        | apply kept_aluR))

theorem kept_takeResult (igOd : Ignores.od π) (igControl : Ignores.control π) (igNvm : Ignores.nvm π) (igLamps :
  Ignores.lamps π) (igSent : Ignores.sent π) (s : State) (a1 : Fin 64) (a2 : Word) (k : Keeps π s) :
    Keeps π (State.takeResult s a1 a2) := by
  unfold State.takeResult
  repeat' (first
    | with_reducible assumption
    | intro _
    | (with_reducible first
        | apply keeps_ite | apply keeps_ite_snd | apply kept_latchAfterEnum | apply kept_wrN | apply kept_wrD
        | apply kept_publish | apply kept_withPort | apply kept_failPort | apply kept_raiseIf))

theorem kept_execPeWrs (igOd : Ignores.od π) (igControl : Ignores.control π) (igNvm : Ignores.nvm π) (igHostPort :
  Ignores.hostPort π) (igLamps : Ignores.lamps π) (igSent : Ignores.sent π) (a0 : Fin 64) (a1 a2 : Fin 16) (a3 :
  BitVec 18) (s : State) (k : Keeps π s) :
    KeepsO π (execPeWrs a0 a1 a2 a3 s) := by
  unfold execPeWrs
  repeat' (first
    | with_reducible assumption
    | intro _
    | (with_reducible first
        | apply keeps_ite | apply keeps_ite_snd | apply keepsO_next | apply keepsO_ite | apply keepsO_dite
        | apply kept_onEngine | apply kept_withEngine | apply kept_wrN | apply kept_takeResult)
    | split)

theorem kept_execPeJal (igOd : Ignores.od π) (igControl : Ignores.control π) (igNvm : Ignores.nvm π) (igHostPort :
  Ignores.hostPort π) (igLamps : Ignores.lamps π) (igSent : Ignores.sent π) (a0 : Fin 64) (a1 a2 : Fin 16) (a3 :
  BitVec 18) (s : State) (k : Keeps π s) :
    KeepsO π (execPeJal a0 a1 a2 a3 s) := by
  unfold execPeJal
  repeat' (first
    | with_reducible assumption
    | intro _
    | (with_reducible first
        | apply keeps_ite | apply keeps_ite_snd | apply keepsO_next | apply keepsO_ite | apply keepsO_dite
        | apply kept_onEngine | apply kept_jumpTo | apply kept_setReg))

theorem kept_clearPort (igOd : Ignores.od π) (s : State) (a1 : Fin 64) (k : Keeps π s) :
    Keeps π (State.clearPort s a1) := by
  unfold State.clearPort
  repeat' (first
    | with_reducible assumption
    | intro _
    | (with_reducible first
        | apply keeps_ite | apply keeps_ite_snd | apply kept_zero))

theorem kept_startSweep (igOd : Ignores.od π) (igLamps : Ignores.lamps π) (s : State) (a1 : Nat) (k : Keeps π s) :
    Keeps π (State.startSweep s a1).2 := by
  unfold State.startSweep
  repeat' (first
    | with_reducible assumption
    | intro _
    | (with_reducible first
        | apply keeps_ite | apply keeps_ite_snd | apply kept_startRun)
    | split
    | simp -iota -proj only []
    | dsimp only
    | with_reducible apply keeps_set_lamps)

theorem kept_startEnum (igOd : Ignores.od π) (igControl : Ignores.control π) (igNvm : Ignores.nvm π) (igHostPort :
  Ignores.hostPort π) (igVideo : Ignores.video π) (igLamps : Ignores.lamps π) (igSent : Ignores.sent π) (s : State)
  (a1 : Fin 64) (k : Keeps π s) :
    Keeps π (State.startEnum s a1).2 := by
  unfold State.startEnum
  repeat' (first
    | with_reducible assumption
    | intro _
    | (with_reducible first
        | apply keeps_ite | apply keeps_ite_snd | apply kept_reenumerate))

theorem kept_clearDiag (igOd : Ignores.od π) (s : State) (k : Keeps π s) :
    Keeps π (State.clearDiag s) := by
  unfold State.clearDiag
  repeat' (first
    | with_reducible assumption
    | intro _
    | (with_reducible first
        | apply keeps_ite | apply keeps_ite_snd | apply kept_zero))

theorem kept_writeFrustum (igOd : Ignores.od π) (igControl : Ignores.control π) (igNvm : Ignores.nvm π) (igLamps :
  Ignores.lamps π) (igSent : Ignores.sent π) (s : State) (a1 : List Byte) (k : Keeps π s) :
    Keeps π (State.writeFrustum s a1).2 := by
  unfold State.writeFrustum
  repeat' (first
    | with_reducible assumption
    | intro _
    | (with_reducible first
        | apply keeps_ite | apply keeps_ite_snd | apply kept_raise | apply kept_bump | apply kept_wrD)
    | split
    | simp -iota -proj only []
    | dsimp only
    | with_reducible apply keeps_set_lamps)

theorem kept_setVerdict (igOd : Ignores.od π) (igControl : Ignores.control π) (igNvm : Ignores.nvm π) (igLamps :
  Ignores.lamps π) (igSent : Ignores.sent π) (s : State) (a1 : Fin 64) (a2 a3 a4 : Nat) (a5 : BitVec 8) (k : Keeps π
  s) :
    Keeps π (State.setVerdict s a1 a2 a3 a4 a5) := by
  unfold State.setVerdict
  repeat' (first
    | with_reducible assumption
    | intro _
    | (with_reducible first
        | apply keeps_ite | apply keeps_ite_snd | apply kept_withPort | apply kept_raiseLimited))

theorem kept_markTested (igOd : Ignores.od π) (igControl : Ignores.control π) (igNvm : Ignores.nvm π) (igLamps :
  Ignores.lamps π) (igSent : Ignores.sent π) (s : State) (a1 : Fin 64) (a2 a3 a4 : Nat) (k : Keeps π s) :
    Keeps π (State.markTested s a1 a2 a3 a4) := by
  unfold State.markTested
  repeat' (first
    | with_reducible assumption
    | intro _
    | (with_reducible first
        | apply keeps_ite | apply keeps_ite_snd | apply kept_setVerdict | apply kept_withPort))

theorem kept_takeStatus (igOd : Ignores.od π) (igControl : Ignores.control π) (igNvm : Ignores.nvm π) (igHostPort :
  Ignores.hostPort π) (igVideo : Ignores.video π) (igLamps : Ignores.lamps π) (igSent : Ignores.sent π) (s : State)
  (a1 : Fin 64) (a2 a3 : Nat) (k : Keeps π s) :
    Keeps π (State.takeStatus s a1 a2 a3) := by
  unfold State.takeStatus
  repeat' (first
    | with_reducible assumption
    | intro _
    | (with_reducible first
        | apply keeps_ite | apply keeps_ite_snd | apply kept_raise | apply kept_bump | apply kept_raiseLimited
        | apply kept_raiseIf | apply kept_withPort | apply kept_wrI | apply kept_reenumerate))

theorem kept_pollFallback (igOd : Ignores.od π) (igControl : Ignores.control π) (igNvm : Ignores.nvm π) (igLamps :
  Ignores.lamps π) (igSent : Ignores.sent π) (s : State) (a1 : Fin 64) (a2 : List Bool) (k : Keeps π s) :
    Keeps π (State.pollFallback s a1 a2) := by
  unfold State.pollFallback
  repeat' (first
    | with_reducible assumption
    | intro _
    | (with_reducible first
        | apply keeps_ite | apply keeps_ite_snd | apply kept_raise | apply kept_withPort))

theorem kept_warmPoll (igOd : Ignores.od π) (igControl : Ignores.control π) (igNvm : Ignores.nvm π) (igHostPort :
  Ignores.hostPort π) (igVideo : Ignores.video π) (igLamps : Ignores.lamps π) (igSent : Ignores.sent π) (s : State)
  (a1 : Fin 64) (a2 : List Bool) (k : Keeps π s) :
    Keeps π (State.warmPoll s a1 a2) := by
  unfold State.warmPoll
  repeat' (first
    | with_reducible assumption
    | intro _
    | (with_reducible first
        | apply keeps_ite | apply keeps_ite_snd | apply kept_withPort | apply kept_reenumerate))

theorem kept_takeReturn (igOd : Ignores.od π) (igControl : Ignores.control π) (igNvm : Ignores.nvm π) (igHostPort :
  Ignores.hostPort π) (igVideo : Ignores.video π) (igLamps : Ignores.lamps π) (igSent : Ignores.sent π) (s : State)
  (a1 : Fin 64) (a2 : Nat) (a3 : List Bool) (k : Keeps π s) :
    Keeps π (State.takeReturn s a1 a2 a3) := by
  unfold State.takeReturn
  repeat' (first
    | with_reducible assumption
    | intro _
    | (with_reducible first
        | apply keeps_ite | apply keeps_ite_snd | apply keeps_foldl | apply kept_withPort | apply kept_wrI
        | apply kept_takeStatus | apply kept_warmPoll | apply kept_pollFallback)
    | split)

theorem kept_chooseProbes (igOd : Ignores.od π) (igControl : Ignores.control π) (igNvm : Ignores.nvm π) (igLamps :
  Ignores.lamps π) (igSent : Ignores.sent π) (s : State) (a1 : Nat) (a2 : Fin 64) (k : Keeps π s) :
    Keeps π (State.chooseProbes s a1 a2) := by
  unfold State.chooseProbes
  repeat' (first
    | with_reducible assumption
    | intro _
    | (with_reducible first
        | apply keeps_ite | apply keeps_ite_snd | apply kept_withPort | apply kept_bump | apply kept_raiseLimited))

theorem kept_rollFails (igLamps : Ignores.lamps π) (s : State) (a1 : Fin 64) (a2 a3 : Nat) (k : Keeps π s) :
    Keeps π (State.rollFails s a1 a2 a3) := by
  unfold State.rollFails
  repeat' (first
    | with_reducible assumption
    | intro _
    | (with_reducible first
        | apply keeps_ite | apply keeps_ite_snd | apply kept_withPort))

theorem kept_execLrMissingTimeout (igNow : Ignores.now π) (igOd : Ignores.od π) (igControl : Ignores.control π) (igNvm
  : Ignores.nvm π) (igQuartz : Ignores.quartz π) (igLamps : Ignores.lamps π) (igSent : Ignores.sent π) (a0 : Fin 64)
  (s : State) (k : Keeps π s) :
    KeepsO π (execLrMissingTimeout a0 s) := by
  unfold execLrMissingTimeout
  repeat' (first
    | with_reducible assumption
    | intro _
    | (with_reducible first
        | apply keeps_ite | apply keeps_ite_snd | apply keepsO_next | apply keepsO_ite | apply keepsO_dite
        | apply kept_until_ | apply kept_withEngine | apply kept_bump | apply kept_withPort | apply kept_rollFails
        | apply kept_raiseIf)
    | split)

theorem kept_wakeEngine (igOd : Ignores.od π) (igControl : Ignores.control π) (igNvm : Ignores.nvm π) (igHostPort :
  Ignores.hostPort π) (igVideo : Ignores.video π) (igLamps : Ignores.lamps π) (igSent : Ignores.sent π) (s : State)
  (a1 : Fin 64) (a2 : List Byte) (k : Keeps π s) :
    Keeps π (State.wakeEngine s a1 a2) := by
  unfold State.wakeEngine
  repeat' (first
    | with_reducible assumption
    | intro _
    | (with_reducible first
        | apply keeps_ite | apply keeps_ite_snd | apply kept_withEngine | apply kept_loadEngine))

theorem kept_switchPorts (igOd : Ignores.od π) (igControl : Ignores.control π) (igNvm : Ignores.nvm π) (igHostPort :
  Ignores.hostPort π) (igVideo : Ignores.video π) (igLamps : Ignores.lamps π) (igSent : Ignores.sent π) (s : State)
  (a1 : Gen) (a2 : List Byte) (k : Keeps π s) :
    Keeps π (State.switchPorts s a1 a2) := by
  unfold State.switchPorts
  repeat' (first
    | with_reducible assumption
    | intro _
    | (with_reducible first
        | apply keeps_ite | apply keeps_ite_snd | apply keeps_foldl | apply kept_wakeEngine | apply kept_withPort
        | apply kept_enumerate | apply kept_disablePort))

theorem kept_execPeDiagc (igOd : Ignores.od π) (igControl : Ignores.control π) (igNvm : Ignores.nvm π) (igHostPort :
  Ignores.hostPort π) (igLamps : Ignores.lamps π) (igSent : Ignores.sent π) (a0 : Fin 64) (a1 a2 a3 : Fin 16) (a4 :
  BitVec 14) (s : State) (k : Keeps π s) :
    KeepsO π (execPeDiagc a0 a1 a2 a3 a4 s) := by
  unfold execPeDiagc
  repeat' (first
    | with_reducible assumption
    | intro _
    | (with_reducible first
        | apply keeps_ite | apply keeps_ite_snd | apply keepsO_next | apply keepsO_ite | apply keepsO_dite
        | apply keeps_foldl | apply kept_onEngine | apply kept_markTested)
    | split
    | simp -iota -proj only [])

theorem kept_engineBoundary (igOd : Ignores.od π) (igLamps : Ignores.lamps π) (s : State) (a1 : Fin 64) (k : Keeps π
  s) :
    Keeps π (State.engineBoundary s a1) := by
  unfold State.engineBoundary
  repeat' (first
    | with_reducible assumption
    | intro _
    | (with_reducible first
        | apply keeps_ite | apply keeps_ite_snd | apply kept_wrN | apply kept_withEngine))

theorem kept_frustumAt (igOd : Ignores.od π) (igLamps : Ignores.lamps π) (s : State) (a1 : Nat) (k : Keeps π s) :
    Keeps π (State.frustumAt s a1) := by
  unfold State.frustumAt
  repeat' (first
    | with_reducible assumption
    | intro _
    | (with_reducible first
        | apply keeps_ite | apply keeps_ite_snd | apply keeps_foldl | apply kept_wrN)
    | split
    | simp -iota -proj only []
    | dsimp only
    | with_reducible apply keeps_set_lamps)

theorem kept_execPeVerd (igOd : Ignores.od π) (igControl : Ignores.control π) (igNvm : Ignores.nvm π) (igHostPort :
  Ignores.hostPort π) (igLamps : Ignores.lamps π) (igSent : Ignores.sent π) (a0 : Fin 64) (a1 a2 a3 : Fin 16) (a4 :
  BitVec 14) (s : State) (k : Keeps π s) :
    KeepsO π (execPeVerd a0 a1 a2 a3 a4 s) := by
  unfold execPeVerd
  repeat' (first
    | with_reducible assumption
    | intro _
    | (with_reducible first
        | apply keeps_ite | apply keeps_ite_snd | apply keepsO_next | apply keepsO_ite | apply keepsO_dite
        | apply keeps_foldl | apply kept_onEngine | apply kept_raise | apply kept_setVerdict)
    | split)

theorem kept_loseVerdicts (igOd : Ignores.od π) (igControl : Ignores.control π) (igNvm : Ignores.nvm π) (igLamps :
  Ignores.lamps π) (igSent : Ignores.sent π) (s : State) (a1 : Gen) (a2 : Fin 64) (a3 : Nat) (k : Keeps π s) :
    Keeps π (State.loseVerdicts s a1 a2 a3) := by
  unfold State.loseVerdicts
  repeat' (first
    | with_reducible assumption
    | intro _
    | (with_reducible first
        | apply keeps_ite | apply keeps_ite_snd | apply keeps_foldl | apply kept_withPort | apply kept_raise))

theorem kept_execEpochEnd (igOd : Ignores.od π) (igControl : Ignores.control π) (igNvm : Ignores.nvm π) (igLamps :
  Ignores.lamps π) (igSent : Ignores.sent π) (a0 : List (Fin 64 × Nat)) (s : State) (k : Keeps π s) :
    KeepsO π (execEpochEnd a0 s) := by
  unfold execEpochEnd
  repeat' (first
    | with_reducible assumption
    | intro _
    | (with_reducible first
        | apply keeps_ite | apply keeps_ite_snd | apply keepsO_next | apply keepsO_ite | apply keepsO_dite
        | apply keeps_foldl | apply kept_loseVerdicts | apply kept_withPort | apply kept_raiseIf)
    | split
    | simp -iota -proj only []
    | dsimp only
    | with_reducible apply keeps_set_lamps)

theorem kept_execPePrb (igOd : Ignores.od π) (igControl : Ignores.control π) (igNvm : Ignores.nvm π) (igHostPort :
  Ignores.hostPort π) (igLamps : Ignores.lamps π) (igSent : Ignores.sent π) (a0 : Fin 64) (a1 a2 a3 : Fin 16) (a4 :
  BitVec 14) (s : State) (k : Keeps π s) :
    KeepsO π (execPePrb a0 a1 a2 a3 a4 s) := by
  unfold execPePrb
  repeat' (first
    | with_reducible assumption
    | intro _
    | (with_reducible first
        | apply keeps_ite | apply keeps_ite_snd | apply keepsO_next | apply keepsO_ite | apply keepsO_dite
        | apply kept_onEngine | apply kept_setReg | apply kept_withPort)
    | split)

theorem kept_useDelay (igOd : Ignores.od π) (igControl : Ignores.control π) (igNvm : Ignores.nvm π) (igLamps :
  Ignores.lamps π) (igSent : Ignores.sent π) (s : State) (a1 : Fin 64) (a2 a3 : Nat) (k : Keeps π s) :
    Keeps π (State.useDelay s a1 a2 a3) := by
  unfold State.useDelay
  repeat' (first
    | with_reducible assumption
    | intro _
    | (with_reducible first
        | apply keeps_ite | apply keeps_ite_snd | apply kept_setLatches | apply kept_raise | apply kept_failPort))

theorem kept_takeDelay (igOd : Ignores.od π) (igControl : Ignores.control π) (igNvm : Ignores.nvm π) (igLamps :
  Ignores.lamps π) (igSent : Ignores.sent π) (s : State) (a1 : Fin 64) (a2 : Nat) (k : Keeps π s) :
    Keeps π (State.takeDelay s a1 a2) := by
  unfold State.takeDelay
  repeat' (first
    | with_reducible assumption
    | intro _
    | (with_reducible first
        | apply keeps_ite | apply keeps_ite_snd | apply kept_wrN | apply kept_withPort | apply kept_raiseIf
        | apply kept_useDelay)
    | split
    | simp -iota -proj only [])

theorem kept_execLrReturn (igNow : Ignores.now π) (igOd : Ignores.od π) (igControl : Ignores.control π) (igNvm :
  Ignores.nvm π) (igHostPort : Ignores.hostPort π) (igQuartz : Ignores.quartz π) (igVideo : Ignores.video π) (igLamps
  : Ignores.lamps π) (igSent : Ignores.sent π) (a0 : Fin 64) (a1 : List (Nat × Nat)) (a2 : Nat) (s : State) (k : Keeps
  π s) :
    KeepsO π (execLrReturn a0 a1 a2 s) := by
  unfold execLrReturn
  repeat' (first
    | with_reducible assumption
    | intro _
    | (with_reducible first
        | apply keeps_ite | apply keeps_ite_snd | apply keepsO_next | apply keepsO_ite | apply keepsO_dite
        | apply kept_until_ | apply kept_withPort | apply kept_withEngine | apply kept_bump | apply kept_takeReturn
        | apply kept_takeDelay | apply kept_rollFails | apply kept_request)
    | split)

theorem kept_execSchedBuildDone (igLamps : Ignores.lamps π) (a0 : Fin 64) (s : State) (k : Keeps π s) :
    KeepsO π (execSchedBuildDone a0 s) := by
  unfold execSchedBuildDone
  repeat' (first
    | with_reducible assumption
    | intro _
    | (with_reducible first
        | apply keeps_ite | apply keeps_ite_snd | apply keepsO_next | apply keepsO_ite | apply keepsO_dite
        | apply kept_withPort))

theorem kept_execSweepEnd (igOd : Ignores.od π) (igControl : Ignores.control π) (igNvm : Ignores.nvm π) (igLamps :
  Ignores.lamps π) (igSent : Ignores.sent π) (s : State) (k : Keeps π s) :
    KeepsO π (execSweepEnd s) := by
  unfold execSweepEnd
  repeat' (first
    | with_reducible assumption
    | intro _
    | (with_reducible first
        | apply keeps_ite | apply keeps_ite_snd | apply keepsO_next | apply keepsO_ite | apply keepsO_dite
        | apply kept_wrN | apply kept_raise | apply kept_publish)
    | split
    | simp -iota -proj only []
    | dsimp only
    | with_reducible apply keeps_set_lamps)

theorem kept_deriveShape (igOd : Ignores.od π) (igControl : Ignores.control π) (igNvm : Ignores.nvm π) (igLamps :
  Ignores.lamps π) (igSent : Ignores.sent π) (s : State) (a1 : Gen) (a2 : Fin 64) (a3 : Nat) (k : Keeps π s) :
    Keeps π (State.deriveShape s a1 a2 a3) := by
  unfold State.deriveShape
  repeat' (first
    | with_reducible assumption
    | intro _
    | (with_reducible first
        | apply keeps_ite | apply keeps_ite_snd | apply keeps_foldl | apply kept_raise | apply kept_withPort
        | apply kept_wrN))

theorem kept_execSchedBuild (igOd : Ignores.od π) (igControl : Ignores.control π) (igNvm : Ignores.nvm π) (igLamps :
  Ignores.lamps π) (igSent : Ignores.sent π) (a0 : Fin 64) (s : State) (k : Keeps π s) :
    KeepsO π (execSchedBuild a0 s) := by
  unfold execSchedBuild
  repeat' (first
    | with_reducible assumption
    | intro _
    | (with_reducible first
        | apply keeps_ite | apply keeps_ite_snd | apply keepsO_next | apply keepsO_ite | apply keepsO_dite
        | apply keeps_foldl | apply kept_withPort | apply kept_deriveShape | apply kept_wrN | apply kept_raiseLimited
        | apply kept_bump | apply kept_raise))

theorem kept_bistStart (igOd : Ignores.od π) (igLamps : Ignores.lamps π) (s : State) (a1 : Int) (k : Keeps π s) :
    Keeps π (State.bistStart s a1).2 := by
  unfold State.bistStart
  repeat' (first
    | with_reducible assumption
    | intro _
    | (with_reducible first
        | apply keeps_ite | apply keeps_ite_snd | apply kept_startRun)
    | split
    | simp -iota -proj only []
    | dsimp only
    | with_reducible apply keeps_set_lamps)

theorem kept_ceilLockWrite (igOtp : Ignores.otp π) (s : State) (a1 : Int) (k : Keeps π s) :
    Keeps π (State.ceilLockWrite s a1).2 := by
  unfold State.ceilLockWrite
  split
  · exact k
  · exact keeps_set_otp igOtp (canon_lock s) k

theorem kept_ceilProgram (igOd : Ignores.od π) (igControl : Ignores.control π) (igOtp : Ignores.otp π) (igNvm :
  Ignores.nvm π) (igSent : Ignores.sent π) (s : State) (a1 : Int) (k : Keeps π s) :
    Keeps π (State.ceilProgram s a1).2 := by
  unfold State.ceilProgram
  dsimp only
  split
  · split
    · exact k
    · rename_i h
      simp only [Bool.or_eq_true, not_or, Bool.not_eq_true] at h
      refine keeps_mk_snd (kept_raise igOd igControl igNvm igSent _ _ _ ?_)
      exact keeps_set_otp igOtp (canon_ceiling _ h.1) k
  · exact k

theorem kept_takeBalls (igTap : Ignores.tap π) (igLanes : Ignores.lanes π) (igTile : Ignores.tile π) (igPorts :
  Ignores.ports π) (igLamps : Ignores.lamps π) (s : State) (k : Keeps π s) :
    Keeps π (State.takeBalls s) := by
  unfold State.takeBalls
  repeat' (first
    | with_reducible assumption
    | intro _
    | (with_reducible first
        | apply keeps_ite | apply keeps_ite_snd)
    | split
    | simp -iota -proj only []
    | dsimp only
    | with_reducible apply keeps_set_tap_lanes_tile_ports_lamps)

theorem kept_withTap (igTap : Ignores.tap π) (s : State) (a1 : Tap → Tap) (k : Keeps π s) :
    Keeps π (State.withTap s a1) := by
  unfold State.withTap
  repeat' (first
    | with_reducible assumption
    | intro _
    | (with_reducible first
        | apply keeps_ite | apply keeps_ite_snd)
    | split
    | simp -iota -proj only []
    | dsimp only
    | with_reducible apply keeps_set_tap)

theorem kept_boundaryScan (igTap : Ignores.tap π) (igSent : Ignores.sent π) (s : State) (a1 : TapInstr) (a2 a3 : List
  Bool) (k : Keeps π s) :
    Keeps π (State.boundaryScan s a1 a2 a3) := by
  unfold State.boundaryScan
  repeat' (first
    | with_reducible assumption
    | intro _
    | (with_reducible first
        | apply keeps_ite | apply keeps_ite_snd | apply kept_emit | apply kept_withTap))

theorem kept_execTapExtestTrain (igTap : Ignores.tap π) (igLanes : Ignores.lanes π) (igTile : Ignores.tile π) (igPorts
  : Ignores.ports π) (igLamps : Ignores.lamps π) (igSent : Ignores.sent π) (a0 a1 : List Bool) (s : State) (k : Keeps
  π s) :
    KeepsO π (execTapExtestTrain a0 a1 s) := by
  unfold execTapExtestTrain
  repeat' (first
    | with_reducible assumption
    | intro _
    | (with_reducible first
        | apply keeps_ite | apply keeps_ite_snd | apply keepsO_next | apply keepsO_ite | apply keepsO_dite
        | apply kept_boundaryScan | apply kept_takeBalls))

theorem kept_bypassScan (igTap : Ignores.tap π) (igSent : Ignores.sent π) (s : State) (a1 : TapInstr) (k : Keeps π s)
  :
    Keeps π (State.bypassScan s a1) := by
  unfold State.bypassScan
  repeat' (first
    | with_reducible assumption
    | intro _
    | (with_reducible first
        | apply keeps_ite | apply keeps_ite_snd | apply kept_emit | apply kept_withTap))

theorem kept_execTapDbgUnlock (igOd : Ignores.od π) (igControl : Ignores.control π) (igNvm : Ignores.nvm π) (igTap :
  Ignores.tap π) (igSent : Ignores.sent π) (igFreeCount : Ignores.freeCount π) (a0 : Option (BitVec 128 × BitVec 128))
  (s : State) (k : Keeps π s) :
    KeepsO π (execTapDbgUnlock a0 s) := by
  unfold execTapDbgUnlock
  repeat' (first
    | with_reducible assumption
    | intro _
    | (with_reducible first
        | apply keeps_ite | apply keeps_ite_snd | apply keepsO_next | apply keepsO_ite | apply keepsO_dite
        | apply kept_withTap | apply kept_emit | apply kept_nonce | apply kept_raise)
    | split)

theorem kept_retire (igOd : Ignores.od π) (igLamps : Ignores.lamps π) (s : State) (a1 : Fin 8) (a2 : Nat) (k : Keeps π
  s) :
    Keeps π (State.retire s a1 a2) := by
  unfold State.retire
  repeat' (first
    | with_reducible assumption
    | intro _
    | (with_reducible first
        | apply keeps_ite | apply keeps_ite_snd | apply kept_wrN)
    | split
    | simp -iota -proj only []
    | dsimp only
    | with_reducible apply keeps_set_lamps)

theorem kept_execTapIdcode (igTap : Ignores.tap π) (igSent : Ignores.sent π) (s : State) (k : Keeps π s) :
    KeepsO π (execTapIdcode s) := by
  unfold execTapIdcode
  repeat' (first
    | with_reducible assumption
    | intro _
    | (with_reducible first
        | apply keeps_ite | apply keeps_ite_snd | apply keepsO_next | apply keepsO_ite | apply keepsO_dite
        | apply kept_emit | apply kept_withTap))

theorem kept_execTapExtestPulse (igTap : Ignores.tap π) (igLanes : Ignores.lanes π) (igTile : Ignores.tile π) (igPorts
  : Ignores.ports π) (igLamps : Ignores.lamps π) (igSent : Ignores.sent π) (a0 a1 : List Bool) (s : State) (k : Keeps
  π s) :
    KeepsO π (execTapExtestPulse a0 a1 s) := by
  unfold execTapExtestPulse
  repeat' (first
    | with_reducible assumption
    | intro _
    | (with_reducible first
        | apply keeps_ite | apply keeps_ite_snd | apply keepsO_next | apply keepsO_ite | apply keepsO_dite
        | apply kept_boundaryScan | apply kept_takeBalls))

theorem kept_execTapClamp (igTap : Ignores.tap π) (igLanes : Ignores.lanes π) (igTile : Ignores.tile π) (igPorts :
  Ignores.ports π) (igLamps : Ignores.lamps π) (igSent : Ignores.sent π) (s : State) (k : Keeps π s) :
    KeepsO π (execTapClamp s) := by
  unfold execTapClamp
  repeat' (first
    | with_reducible assumption
    | intro _
    | (with_reducible first
        | apply keeps_ite | apply keeps_ite_snd | apply keepsO_next | apply keepsO_ite | apply keepsO_dite
        | apply kept_bypassScan | apply kept_takeBalls))

theorem kept_execTapMbist (igTap : Ignores.tap π) (s : State) (k : Keeps π s) :
    KeepsO π (execTapMbist s) := by
  unfold execTapMbist
  repeat' (first
    | with_reducible assumption
    | intro _
    | (with_reducible first
        | apply keeps_ite | apply keeps_ite_snd | apply keepsO_next | apply keepsO_ite | apply keepsO_dite
        | apply kept_withTap))

theorem kept_execTapBypass (igTap : Ignores.tap π) (igSent : Ignores.sent π) (s : State) (k : Keeps π s) :
    KeepsO π (execTapBypass s) := by
  unfold execTapBypass
  repeat' (first
    | with_reducible assumption
    | intro _
    | (with_reducible first
        | apply keeps_ite | apply keeps_ite_snd | apply keepsO_next | apply keepsO_ite | apply keepsO_dite
        | apply kept_bypassScan))

theorem kept_execTapDebug (igTap : Ignores.tap π) (igSent : Ignores.sent π) (s : State) (k : Keeps π s) :
    KeepsO π (execTapDebug s) := by
  unfold execTapDebug
  repeat' (first
    | with_reducible assumption
    | intro _
    | (with_reducible first
        | apply keeps_ite | apply keeps_ite_snd | apply keepsO_next | apply keepsO_ite | apply keepsO_dite
        | apply kept_withTap | apply kept_bypassScan))

theorem kept_deadPort (igOd : Ignores.od π) (igLamps : Ignores.lamps π) (s : State) (a1 : Fin 64) (k : Keeps π s) :
    Keeps π (State.deadPort s a1) := by
  unfold State.deadPort
  repeat' (first
    | with_reducible assumption
    | intro _
    | (with_reducible first
        | apply keeps_ite | apply keeps_ite_snd | apply kept_wrN)
    | split
    | simp -iota -proj only []
    | dsimp only
    | with_reducible apply keeps_set_lamps)

theorem kept_memoryFault (igLife : Ignores.life π) (igOd : Ignores.od π) (igControl : Ignores.control π) (igNvm :
  Ignores.nvm π) (igTile : Ignores.tile π) (igVideo : Ignores.video π) (igLamps : Ignores.lamps π) (igSent :
  Ignores.sent π) (s : State) (a1 : BistFault) (k : Keeps π s) :
    Keeps π (State.memoryFault s a1) := by
  unfold State.memoryFault
  repeat' (first
    | with_reducible assumption
    | intro _
    | (with_reducible first
        | apply keeps_ite | apply keeps_ite_snd | apply kept_raise | apply kept_retire | apply kept_deadPort
        | apply kept_stopPresenting)
    | split
    | simp -iota -proj only []
    | dsimp only
    | with_reducible apply keeps_set_tile
    | with_reducible apply keeps_set_life)

theorem kept_execMemoryBistComplete (igNow : Ignores.now π) (igLife : Ignores.life π) (igOd : Ignores.od π) (igControl
  : Ignores.control π) (igNvm : Ignores.nvm π) (igQuartz : Ignores.quartz π) (igTile : Ignores.tile π) (igVideo :
  Ignores.video π) (igLamps : Ignores.lamps π) (igSent : Ignores.sent π) (a0 : List (Nat × Nat)) (a1 : List BistFault)
  (s : State) (k : Keeps π s) :
    KeepsO π (execMemoryBistComplete a0 a1 s) := by
  unfold execMemoryBistComplete
  repeat' (first
    | with_reducible assumption
    | intro _
    | (with_reducible first
        | apply keeps_ite | apply keeps_ite_snd | apply keepsO_next | apply keepsO_ite | apply keepsO_dite
        | apply keeps_foldl | apply kept_until_ | apply kept_raise | apply kept_wrN | apply kept_memoryFault))

theorem kept_execTapHighz (igTap : Ignores.tap π) (igLanes : Ignores.lanes π) (igTile : Ignores.tile π) (igPorts :
  Ignores.ports π) (igLamps : Ignores.lamps π) (igSent : Ignores.sent π) (s : State) (k : Keeps π s) :
    KeepsO π (execTapHighz s) := by
  unfold execTapHighz
  repeat' (first
    | with_reducible assumption
    | intro _
    | (with_reducible first
        | apply keeps_ite | apply keeps_ite_snd | apply keepsO_next | apply keepsO_ite | apply keepsO_dite
        | apply kept_bypassScan | apply kept_withTap | apply kept_takeBalls))

theorem kept_execReplayLimitExpiry (igNow : Ignores.now π) (igOd : Ignores.od π) (igControl : Ignores.control π)
  (igNvm : Ignores.nvm π) (igBeat : Ignores.beat π) (igQuartz : Ignores.quartz π) (igLamps : Ignores.lamps π) (igSent
  : Ignores.sent π) (s : State) (k : Keeps π s) :
    KeepsO π (execReplayLimitExpiry s) := by
  unfold execReplayLimitExpiry
  repeat' (first
    | with_reducible assumption
    | intro _
    | (with_reducible first
        | apply keeps_ite | apply keeps_ite_snd | apply keepsO_next | apply keepsO_ite | apply keepsO_dite
        | apply kept_blank | apply kept_withBeat | apply kept_until_)
    | split)

theorem kept_execTapReset (igTap : Ignores.tap π) (s : State) (k : Keeps π s) :
    KeepsO π (execTapReset s) := by
  unfold execTapReset
  repeat' (first
    | with_reducible assumption
    | intro _
    | (with_reducible first
        | apply keeps_ite | apply keeps_ite_snd | apply keepsO_next | apply keepsO_ite | apply keepsO_dite
        | apply kept_withTap))

theorem kept_execTapSamplePreload (igTap : Ignores.tap π) (igSent : Ignores.sent π) (a0 a1 : List Bool) (s : State) (k
  : Keeps π s) :
    KeepsO π (execTapSamplePreload a0 a1 s) := by
  unfold execTapSamplePreload
  repeat' (first
    | with_reducible assumption
    | intro _
    | (with_reducible first
        | apply keeps_ite | apply keeps_ite_snd | apply keepsO_next | apply keepsO_ite | apply keepsO_dite
        | apply kept_boundaryScan))

theorem kept_execBistComplete (igNow : Ignores.now π) (igOd : Ignores.od π) (igControl : Ignores.control π) (igNvm :
  Ignores.nvm π) (igQuartz : Ignores.quartz π) (igLamps : Ignores.lamps π) (igSent : Ignores.sent π) (a0 : Option Nat)
  (s : State) (k : Keeps π s) :
    KeepsO π (execBistComplete a0 s) := by
  unfold execBistComplete
  repeat' (first
    | with_reducible assumption
    | intro _
    | (with_reducible first
        | apply keeps_ite | apply keeps_ite_snd | apply keepsO_next | apply keepsO_ite | apply keepsO_dite
        | apply kept_pass | apply kept_wrN | apply kept_publish | apply kept_retire | apply kept_deadPort
        | apply kept_raise)
    | split
    | simp -iota -proj only []
    | dsimp only
    | with_reducible apply keeps_set_lamps)

theorem kept_execTapExtest (igTap : Ignores.tap π) (igLanes : Ignores.lanes π) (igTile : Ignores.tile π) (igPorts :
  Ignores.ports π) (igLamps : Ignores.lamps π) (igSent : Ignores.sent π) (a0 a1 : List Bool) (s : State) (k : Keeps π
  s) :
    KeepsO π (execTapExtest a0 a1 s) := by
  unfold execTapExtest
  repeat' (first
    | with_reducible assumption
    | intro _
    | (with_reducible first
        | apply keeps_ite | apply keeps_ite_snd | apply keepsO_next | apply keepsO_ite | apply keepsO_dite
        | apply kept_boundaryScan | apply kept_takeBalls))

theorem kept_complementLine (igSent : Ignores.sent π) (s : State) (a1 : Fin 64) (k : Keeps π s) :
    Keeps π (State.complementLine s a1) := by
  unfold State.complementLine
  repeat' (first
    | with_reducible assumption
    | intro _
    | (with_reducible first
        | apply keeps_ite | apply keeps_ite_snd)
    | split
    | simp -iota -proj only []
    | dsimp only
    | with_reducible apply keeps_set_sent)

theorem kept_damageEngines (igLamps : Ignores.lamps π) (s : State) (a1 : List (Nat × Nat)) (k : Keeps π s) :
    Keeps π (State.damageEngines s a1) := by
  unfold State.damageEngines
  repeat' (first
    | with_reducible assumption
    | intro _
    | (with_reducible first
        | apply keeps_ite | apply keeps_ite_snd | apply keeps_dite | apply keeps_foldl | apply kept_withEngine))

theorem kept_deriveShapes (igOd : Ignores.od π) (igControl : Ignores.control π) (igNvm : Ignores.nvm π) (igLamps :
  Ignores.lamps π) (igSent : Ignores.sent π) (s : State) (a1 : Gen) (a2 : Nat) (k : Keeps π s) :
    Keeps π (State.deriveShapes s a1 a2) := by
  unfold State.deriveShapes
  repeat' (first
    | with_reducible assumption
    | intro _
    | (with_reducible first
        | apply keeps_ite | apply keeps_ite_snd | apply keeps_foldl | apply kept_deriveShape))

end Sys2Proof.Machine
end

