-- ==== Sys2Proof/Laws/KeptPlatform.lean ====
section
/-! SUPPORT. What each operation can change, one lemma for each, in the words of `Keeps`: the flash, the calibration, the image, the discovery, the chain, the sender timing, the clocks and the thermal loop. -/

namespace Sys2Proof.Machine
open Host

variable {π : State → Prop}

theorem kept_withNvm (igNvm : Ignores.nvm π) (s : State) (a1 : Nvm → Nvm) (c : CanonNvm s (a1 s.nvm)) (k : Keeps π s)
  :
    Keeps π (State.withNvm s a1) := by
  exact keeps_set_nvm igNvm c k

theorem kept_issueFlash (igNvm : Ignores.nvm π) (s : State) (k : Keeps π s) :
    Keeps π (State.issueFlash s) := by
  unfold State.issueFlash
  repeat' (first
    | exact fun h => h
    | exact canon_calRun _ _
    | exact fun h => flashPut_wf _ _ _ h
    | with_reducible assumption
    | intro _
    | (with_reducible first
        | apply keeps_ite | apply keeps_ite_snd | apply kept_withNvm))

theorem kept_addJob (igOd : Ignores.od π) (igControl : Ignores.control π) (igNvm : Ignores.nvm π) (igSent :
  Ignores.sent π) (s : State) (a1 : FlashJob) (k : Keeps π s) :
    Keeps π (State.addJob s a1).2 := by
  unfold State.addJob
  repeat' (first
    | exact fun h => h
    | exact canon_calRun _ _
    | exact fun h => flashPut_wf _ _ _ h
    | with_reducible assumption
    | intro _
    | (with_reducible first
        | apply keeps_ite | apply keeps_ite_snd | apply kept_raise | apply kept_bump | apply kept_withNvm
        | apply kept_issueFlash)
    | split)

theorem kept_refuseWrite (igOd : Ignores.od π) (igControl : Ignores.control π) (igNvm : Ignores.nvm π) (igSent :
  Ignores.sent π) (s : State) (a1 : Nat) (k : Keeps π s) :
    Keeps π (State.refuseWrite s a1) := by
  unfold State.refuseWrite
  repeat' (first
    | with_reducible assumption
    | intro _
    | (with_reducible first
        | apply keeps_ite | apply keeps_ite_snd | apply kept_raiseLimited | apply kept_bump))

theorem kept_refillBucket (igNvm : Ignores.nvm π) (s : State) (k : Keeps π s) :
    Keeps π (State.refillBucket s) := by
  unfold State.refillBucket
  repeat' (first
    | exact fun h => h
    | exact canon_calRun _ _
    | exact fun h => flashPut_wf _ _ _ h
    | with_reducible assumption
    | intro _
    | (with_reducible first
        | apply keeps_ite | apply keeps_ite_snd | apply kept_withNvm))

theorem kept_limited (igOd : Ignores.od π) (igControl : Ignores.control π) (igNvm : Ignores.nvm π) (igSent :
  Ignores.sent π) (s : State) (a1 : Nat) (k : Keeps π s) :
    Keeps π (State.limited s a1).2 := by
  unfold State.limited
  repeat' (first
    | with_reducible assumption
    | intro _
    | (with_reducible first
        | apply keeps_ite | apply keeps_ite_snd | apply kept_refuseWrite))

theorem kept_charge (igNvm : Ignores.nvm π) (s : State) (a1 : Nat) (k : Keeps π s) :
    Keeps π (State.charge s a1) := by
  unfold State.charge
  repeat' (first
    | exact fun h => h
    | exact canon_calRun _ _
    | exact fun h => flashPut_wf _ _ _ h
    | with_reducible assumption
    | intro _
    | (with_reducible first
        | apply keeps_ite | apply keeps_ite_snd | apply kept_refillBucket | apply kept_withNvm))

theorem kept_doStep (igNvm : Ignores.nvm π) (igFreeCount : Ignores.freeCount π) (s : State) (a1 : FlashStep) (a2 :
  Bool) (k : Keeps π s) :
    Keeps π (State.doStep s a1 a2).2 := by
  unfold State.doStep
  repeat' (first
    | exact fun h => h
    | exact canon_calRun _ _
    | exact fun h => flashPut_wf _ _ _ h
    | with_reducible assumption
    | intro _
    | (with_reducible first
        | apply keeps_ite | apply keeps_ite_snd | apply kept_charge | apply kept_withNvm)
    | split
    | simp -iota -proj only []
    | dsimp only
    | with_reducible apply keeps_set_nvm_freeCount)

theorem kept_writePointer (igOd : Ignores.od π) (igControl : Ignores.control π) (igNvm : Ignores.nvm π) (igSent :
  Ignores.sent π) (s : State) (a1 : BootPointer) (a2 : Nat) (k : Keeps π s) :
    Keeps π (State.writePointer s a1 a2) := by
  unfold State.writePointer
  repeat' (first
    | with_reducible assumption
    | intro _
    | (with_reducible first
        | apply keeps_ite | apply keeps_ite_snd | apply kept_addJob))

theorem kept_deferKinds (igOd : Ignores.od π) (igControl : Ignores.control π) (igNvm : Ignores.nvm π) (igSent :
  Ignores.sent π) (s : State) (a1 : Nat) (k : Keeps π s) :
    Keeps π (State.deferKinds s a1) := by
  unfold State.deferKinds
  repeat' (first
    | with_reducible assumption
    | intro _
    | (with_reducible first
        | apply keeps_ite | apply keeps_ite_snd | apply keeps_foldl | apply kept_wrN | apply kept_raiseIf))

theorem kept_deferCal (igOd : Ignores.od π) (igControl : Ignores.control π) (igNvm : Ignores.nvm π) (igSent :
  Ignores.sent π) (s : State) (k : Keeps π s) :
    Keeps π (State.deferCal s) := by
  unfold State.deferCal
  repeat' (first
    | with_reducible assumption
    | intro _
    | (with_reducible first
        | apply keeps_ite | apply keeps_ite_snd | apply keeps_foldl | apply kept_deferKinds)
    | split)

theorem kept_sendBases (igOd : Ignores.od π) (igControl : Ignores.control π) (igLanes : Ignores.lanes π) (igPorts :
  Ignores.ports π) (igCascade : Ignores.cascade π) (igSent : Ignores.sent π) (s : State) (a1 : Fin 2) (a2 : List (Nat
  × Nat)) (a3 : Bool) (k : Keeps π s) :
    Keeps π (State.sendBases s a1 a2 a3) := by
  unfold State.sendBases
  repeat' (first
    | with_reducible assumption
    | intro _
    | (with_reducible first
        | apply keeps_ite | apply keeps_ite_snd | apply keeps_foldl | apply kept_gwOpenTx))

theorem kept_applyBases (igOd : Ignores.od π) (igControl : Ignores.control π) (igLanes : Ignores.lanes π) (igQuartz :
  Ignores.quartz π) (igPorts : Ignores.ports π) (igCascade : Ignores.cascade π) (igSent : Ignores.sent π) (s : State)
  (a1 : Fin 2) (a2 : List (Nat × Nat)) (a3 : Bool) (k : Keeps π s) :
    Keeps π (State.applyBases s a1 a2 a3) := by
  unfold State.applyBases
  repeat' (first
    | with_reducible assumption
    | intro _
    | (with_reducible first
        | apply keeps_ite | apply keeps_ite_snd | apply kept_sendBases)
    | split
    | simp -iota -proj only []
    | dsimp only
    | with_reducible apply keeps_set_quartz)

theorem kept_nameMarkers (igControl : Ignores.control π) (igLanes : Ignores.lanes π) (igPorts : Ignores.ports π)
  (igCascade : Ignores.cascade π) (igSent : Ignores.sent π) (s : State) (a1 : Fin 2) (a2 : Nat) (k : Keeps π s) :
    Keeps π (State.nameMarkers s a1 a2) := by
  unfold State.nameMarkers
  repeat' (first
    | with_reducible assumption
    | intro _
    | (with_reducible first
        | apply keeps_ite | apply keeps_ite_snd | apply kept_broadcastWrite | apply kept_nameMarks
        | apply kept_sendMgmtUnit))

theorem kept_startHop (igControl : Ignores.control π) (igNvm : Ignores.nvm π) (igLanes : Ignores.lanes π) (igPorts :
  Ignores.ports π) (igCascade : Ignores.cascade π) (igSent : Ignores.sent π) (s : State) (k : Keeps π s) :
    Keeps π (State.startHop s) := by
  unfold State.startHop
  repeat' (first
    | exact fun h => h
    | exact canon_calRun _ _
    | exact fun h => flashPut_wf _ _ _ h
    | with_reducible assumption
    | intro _
    | (with_reducible first
        | apply keeps_ite | apply keeps_ite_snd | apply kept_withChain | apply kept_nameMarkers | apply kept_withNvm)
    | split)

theorem kept_hopAfterDiscovery (igOd : Ignores.od π) (igControl : Ignores.control π) (igNvm : Ignores.nvm π) (igLanes
  : Ignores.lanes π) (igQuartz : Ignores.quartz π) (igPorts : Ignores.ports π) (igCascade : Ignores.cascade π) (igSent
  : Ignores.sent π) (s : State) (a1 : Fin 2) (k : Keeps π s) :
    Keeps π (State.hopAfterDiscovery s a1) := by
  unfold State.hopAfterDiscovery
  repeat' (first
    | with_reducible assumption
    | intro _
    | (with_reducible first
        | apply keeps_ite | apply keeps_ite_snd | apply kept_startHop | apply kept_withChain | apply kept_applyBases
        | apply kept_raise)
    | split)

theorem kept_withCal (igNvm : Ignores.nvm π) (s : State) (a1 : Cal → Cal) (k : Keeps π s) :
    Keeps π (State.withCal s a1) := by
  unfold State.withCal
  repeat' (first
    | exact fun h => h
    | exact canon_calRun _ _
    | exact fun h => flashPut_wf _ _ _ h
    | with_reducible assumption
    | intro _
    | (with_reducible first
        | apply keeps_ite | apply keeps_ite_snd)
    | split
    | simp -iota -proj only []
    | dsimp only
    | with_reducible apply keeps_set_nvm)

theorem kept_dropCalJobs (igNvm : Ignores.nvm π) (s : State) (k : Keeps π s) :
    Keeps π (State.dropCalJobs s) := by
  unfold State.dropCalJobs
  repeat' (first
    | exact fun h => h
    | exact canon_calRun _ _
    | exact fun h => flashPut_wf _ _ _ h
    | with_reducible assumption
    | intro _
    | (with_reducible first
        | apply keeps_ite | apply keeps_ite_snd | apply kept_withNvm))

theorem kept_calStore (igOd : Ignores.od π) (igControl : Ignores.control π) (igNvm : Ignores.nvm π) (igSent :
  Ignores.sent π) (s : State) (a1 : Nat) (k : Keeps π s) :
    Keeps π (State.calStore s a1) := by
  unfold State.calStore
  repeat' (first
    | with_reducible assumption
    | intro _
    | (with_reducible first
        | apply keeps_ite | apply keeps_ite_snd | apply keeps_foldl | apply kept_deferKinds | apply kept_refuseWrite
        | apply kept_addJob | apply kept_dropCalJobs))

theorem kept_shareBases (igLanes : Ignores.lanes π) (igCascade : Ignores.cascade π) (igSent : Ignores.sent π) (s :
  State) (a1 : Fin 2) (a2 : Nat) (a3 : List (Nat × Nat)) (k : Keeps π s) :
    Keeps π (State.shareBases s a1 a2 a3) := by
  unfold State.shareBases
  repeat' (first
    | with_reducible assumption
    | intro _
    | (with_reducible first
        | apply keeps_ite | apply keeps_ite_snd | apply keeps_foldl | apply kept_sendMgmtUnit))

theorem kept_takeBases (igOd : Ignores.od π) (igControl : Ignores.control π) (igNvm : Ignores.nvm π) (igQuartz :
  Ignores.quartz π) (igSent : Ignores.sent π) (s : State) (a1 : Fin 2) (a2 : List Byte) (k : Keeps π s) :
    Keeps π (State.takeBases s a1 a2) := by
  unfold State.takeBases
  repeat' (first
    | with_reducible assumption
    | intro _
    | (with_reducible first
        | apply keeps_ite | apply keeps_ite_snd | apply kept_withCal | apply kept_calStore)
    | split
    | simp -iota -proj only []
    | dsimp only
    | with_reducible apply keeps_set_quartz)

theorem kept_calStored (igOd : Ignores.od π) (igControl : Ignores.control π) (igNvm : Ignores.nvm π) (igSent :
  Ignores.sent π) (s : State) (a1 : Nat) (k : Keeps π s) :
    Keeps π (State.calStored s a1) := by
  unfold State.calStored
  repeat' (first
    | with_reducible assumption
    | intro _
    | (with_reducible first
        | apply keeps_ite | apply keeps_ite_snd | apply keeps_foldl | apply kept_withCal | apply kept_wrN
        | apply kept_raiseIf)
    | split)

theorem kept_writeSettings (igOd : Ignores.od π) (igControl : Ignores.control π) (igNvm : Ignores.nvm π) (igSent :
  Ignores.sent π) (s : State) (a1 : List SetEntry) (a2 a3 : Nat) (k : Keeps π s) :
    Keeps π (State.writeSettings s a1 a2 a3) := by
  unfold State.writeSettings
  repeat' (first
    | with_reducible assumption
    | intro _
    | (with_reducible first
        | apply keeps_ite | apply keeps_ite_snd | apply kept_addJob))

theorem kept_storeCheck (igOd : Ignores.od π) (igControl : Ignores.control π) (igNvm : Ignores.nvm π) (igSent :
  Ignores.sent π) (s : State) (k : Keeps π s) :
    Keeps π (State.storeCheck s).2 := by
  unfold State.storeCheck
  exact keeps_ite_snd k (keeps_ite_snd k (keeps_mk_snd (kept_limited igOd igControl igNvm igSent _ _ k)))

theorem kept_restoreWrite (igOd : Ignores.od π) (igControl : Ignores.control π) (igNvm : Ignores.nvm π) (igSent :
  Ignores.sent π) (s : State) (a1 : Nat) (k : Keeps π s) :
    Keeps π (State.restoreWrite s a1).2 := by
  unfold State.restoreWrite
  repeat' (first
    | with_reducible assumption
    | intro _
    | (with_reducible first
        | apply keeps_ite | apply keeps_ite_snd | apply kept_storeCheck | apply kept_writeSettings))

theorem kept_storeWrite (igOd : Ignores.od π) (igControl : Ignores.control π) (igNvm : Ignores.nvm π) (igSent :
  Ignores.sent π) (s : State) (a1 : Nat) (k : Keeps π s) :
    Keeps π (State.storeWrite s a1).2 := by
  unfold State.storeWrite
  repeat' (first
    | with_reducible assumption
    | intro _
    | (with_reducible first
        | apply keeps_ite | apply keeps_ite_snd | apply kept_storeCheck | apply kept_writeSettings))

theorem kept_factoryWrite (igOd : Ignores.od π) (igControl : Ignores.control π) (igNvm : Ignores.nvm π) (igSent :
  Ignores.sent π) (s : State) (k : Keeps π s) :
    Keeps π (State.factoryWrite s).2 := by
  unfold State.factoryWrite
  repeat' (first
    | with_reducible assumption
    | intro _
    | (with_reducible first
        | apply keeps_ite | apply keeps_ite_snd | apply kept_storeCheck | apply kept_writeSettings | apply kept_raise))

theorem kept_loadEntry (igOd : Ignores.od π) (igControl : Ignores.control π) (igNvm : Ignores.nvm π) (igSent :
  Ignores.sent π) (s : State) (a1 : SetEntry) (k : Keeps π s) :
    Keeps π (State.loadEntry s a1) := by
  unfold State.loadEntry
  repeat' (first
    | with_reducible assumption
    | intro _
    | (with_reducible first
        | apply keeps_ite | apply keeps_ite_snd | apply kept_wr | apply kept_raise)
    | split)

theorem kept_sendQuery (igLanes : Ignores.lanes π) (igPorts : Ignores.ports π) (igCascade : Ignores.cascade π) (igSent
  : Ignores.sent π) (s : State) (a1 : Fin 2) (k : Keeps π s) :
    Keeps π (State.sendQuery s a1) := by
  unfold State.sendQuery
  repeat' (first
    | with_reducible assumption
    | intro _
    | (with_reducible first
        | apply keeps_ite | apply keeps_ite_snd | apply kept_originateChain))

theorem kept_startDiscovery (igOd : Ignores.od π) (igLanes : Ignores.lanes π) (igPorts : Ignores.ports π) (igCascade :
  Ignores.cascade π) (igSent : Ignores.sent π) (s : State) (a1 : Fin 2) (a2 : Bool) (k : Keeps π s) :
    Keeps π (State.startDiscovery s a1 a2).2 := by
  unfold State.startDiscovery
  repeat' (first
    | with_reducible assumption
    | intro _
    | (with_reducible first
        | apply keeps_ite | apply keeps_ite_snd | apply kept_startRun | apply kept_wrN | apply kept_withChain
        | apply kept_sendQuery))

theorem kept_discoverWrite (igOd : Ignores.od π) (igLanes : Ignores.lanes π) (igPorts : Ignores.ports π) (igCascade :
  Ignores.cascade π) (igSent : Ignores.sent π) (s : State) (a1 : Fin 2) (a2 : Int) (k : Keeps π s) :
    Keeps π (State.discoverWrite s a1 a2).2 := by
  unfold State.discoverWrite
  repeat' (first
    | with_reducible assumption
    | intro _
    | (with_reducible first
        | apply keeps_ite | apply keeps_ite_snd | apply kept_startDiscovery))

theorem kept_sendAssign (igLanes : Ignores.lanes π) (igPorts : Ignores.ports π) (igCascade : Ignores.cascade π)
  (igSent : Ignores.sent π) (s : State) (a1 : Fin 2) (a2 : List Byte) (a3 : Nat) (k : Keeps π s) :
    Keeps π (State.sendAssign s a1 a2 a3) := by
  unfold State.sendAssign
  repeat' (first
    | with_reducible assumption
    | intro _
    | (with_reducible first
        | apply keeps_ite | apply keeps_ite_snd | apply keeps_foldl | apply kept_originateChain))

theorem kept_takeReport (igLanes : Ignores.lanes π) (igPorts : Ignores.ports π) (igCascade : Ignores.cascade π)
  (igSent : Ignores.sent π) (s : State) (a1 : Fin 2) (a2 : List Byte) (k : Keeps π s) :
    Keeps π (State.takeReport s a1 a2) := by
  unfold State.takeReport
  repeat' (first
    | with_reducible assumption
    | intro _
    | (with_reducible first
        | apply keeps_ite | apply keeps_ite_snd | apply kept_sendAssign | apply kept_withChain)
    | split
    | simp -iota -proj only [])

theorem kept_discoveryFails (igOd : Ignores.od π) (igControl : Ignores.control π) (igNvm : Ignores.nvm π) (igSent :
  Ignores.sent π) (s : State) (a1 : Fin 2) (a2 a3 : Nat) (k : Keeps π s) :
    Keeps π (State.discoveryFails s a1 a2 a3) := by
  unfold State.discoveryFails
  repeat' (first
    | with_reducible assumption
    | intro _
    | (with_reducible first
        | apply keeps_ite | apply keeps_ite_snd | apply kept_raise | apply kept_cause | apply kept_publish
        | apply kept_wrN))

theorem kept_discoveryEnds (igOd : Ignores.od π) (igControl : Ignores.control π) (igNvm : Ignores.nvm π) (igLanes :
  Ignores.lanes π) (igQuartz : Ignores.quartz π) (igPorts : Ignores.ports π) (igCascade : Ignores.cascade π) (igSent :
  Ignores.sent π) (s : State) (a1 : Fin 2) (a2 : Discovery) (k : Keeps π s) :
    Keeps π (State.discoveryEnds s a1 a2) := by
  unfold State.discoveryEnds
  repeat' (first
    | with_reducible assumption
    | intro _
    | (with_reducible first
        | apply keeps_ite | apply keeps_ite_snd | apply keeps_foldl | apply kept_withChain | apply kept_discoveryFails
        | apply kept_wrN | apply kept_wrD | apply kept_raiseIf | apply kept_raise | apply kept_readLamps
        | apply kept_publish | apply kept_hopAfterDiscovery | apply kept_sendAssign))

theorem kept_execDiscoveryCollectEnd (igNow : Ignores.now π) (igOd : Ignores.od π) (igControl : Ignores.control π)
  (igNvm : Ignores.nvm π) (igLanes : Ignores.lanes π) (igQuartz : Ignores.quartz π) (igPorts : Ignores.ports π)
  (igCascade : Ignores.cascade π) (igSent : Ignores.sent π) (a0 : Fin 2) (s : State) (k : Keeps π s) :
    KeepsO π (execDiscoveryCollectEnd a0 s) := by
  unfold execDiscoveryCollectEnd
  repeat' (first
    | with_reducible assumption
    | intro _
    | (with_reducible first
        | apply keeps_ite | apply keeps_ite_snd | apply keepsO_next | apply keepsO_ite | apply keepsO_dite
        | apply kept_until_ | apply kept_sendQuery | apply kept_withChain | apply kept_discoveryEnds)
    | split)

theorem kept_discoverSelf (igOd : Ignores.od π) (igLanes : Ignores.lanes π) (igPorts : Ignores.ports π) (igCascade :
  Ignores.cascade π) (igSent : Ignores.sent π) (s : State) (a1 : Fin 2) (k : Keeps π s) :
    Keeps π (State.discoverSelf s a1) := by
  unfold State.discoverSelf
  repeat' (first
    | with_reducible assumption
    | intro _
    | (with_reducible first
        | apply keeps_ite | apply keeps_ite_snd | apply kept_startDiscovery))

theorem kept_repeatOnlyWrite (igOd : Ignores.od π) (igControl : Ignores.control π) (igNvm : Ignores.nvm π) (igVideo :
  Ignores.video π) (igSent : Ignores.sent π) (s : State) (a1 : Int) (k : Keeps π s) :
    Keeps π (State.repeatOnlyWrite s a1).2 := by
  unfold State.repeatOnlyWrite
  repeat' (first
    | with_reducible assumption
    | intro _
    | (with_reducible first
        | apply keeps_ite | apply keeps_ite_snd | apply kept_wrI | apply kept_raise | apply kept_stopPresenting))

theorem kept_chainClear (igOd : Ignores.od π) (s : State) (a1 : Int) (k : Keeps π s) :
    Keeps π (State.chainClear s a1).2 := by
  unfold State.chainClear
  repeat' (first
    | with_reducible assumption
    | intro _
    | (with_reducible first
        | apply keeps_ite | apply keeps_ite_snd | apply kept_zero))

theorem kept_sendReport (igOd : Ignores.od π) (igControl : Ignores.control π) (igNvm : Ignores.nvm π) (igTile :
  Ignores.tile π) (igSent : Ignores.sent π) (s : State) (k : Keeps π s) :
    Keeps π (State.sendReport s) := by
  unfold State.sendReport
  repeat' (first
    | with_reducible assumption
    | intro _
    | (with_reducible first
        | apply keeps_ite | apply keeps_ite_snd | apply kept_originate))

theorem kept_idleSlot (igOd : Ignores.od π) (igControl : Ignores.control π) (igNvm : Ignores.nvm π) (igLanes :
  Ignores.lanes π) (igTile : Ignores.tile π) (igSent : Ignores.sent π) (s : State) (a1 : Fin 2) (k : Keeps π s) :
    Keeps π (State.idleSlot s a1) := by
  unfold State.idleSlot
  repeat' (first
    | with_reducible assumption
    | intro _
    | (with_reducible first
        | apply keeps_ite | apply keeps_ite_snd | apply kept_sendCell | apply kept_paceMgmt | apply kept_withTile)
    | split)

theorem kept_execRateMatchSend (igOd : Ignores.od π) (igControl : Ignores.control π) (igNvm : Ignores.nvm π) (igLanes
  : Ignores.lanes π) (igTile : Ignores.tile π) (igSent : Ignores.sent π) (a0 : Fin 2) (s : State) (k : Keeps π s) :
    KeepsO π (execRateMatchSend a0 s) := by
  unfold execRateMatchSend
  repeat' (first
    | with_reducible assumption
    | intro _
    | (with_reducible first
        | apply keeps_ite | apply keeps_ite_snd | apply keepsO_next | apply keepsO_ite | apply keepsO_dite
        | apply kept_idleSlot | apply kept_sendCell | apply kept_withTile)
    | split)

theorem kept_execReservedTypeCellReceive (igOd : Ignores.od π) (igControl : Ignores.control π) (igNvm : Ignores.nvm π)
  (igLanes : Ignores.lanes π) (igTile : Ignores.tile π) (igSent : Ignores.sent π) (a0 : Fin 2) (a1 : RxCell) (s :
  State) (k : Keeps π s) :
    KeepsO π (execReservedTypeCellReceive a0 a1 s) := by
  unfold execReservedTypeCellReceive
  repeat' (first
    | with_reducible assumption
    | intro _
    | (with_reducible first
        | apply keeps_ite | apply keeps_ite_snd | apply keepsO_next | apply keepsO_ite | apply keepsO_dite
        | apply kept_arrive | apply kept_raiseLimited | apply kept_bump))

theorem kept_endAlive (igOd : Ignores.od π) (igControl : Ignores.control π) (igNvm : Ignores.nvm π) (igTile :
  Ignores.tile π) (igSent : Ignores.sent π) (s : State) (a1 : Fin 2) (k : Keeps π s) :
    Keeps π (State.endAlive s a1) := by
  unfold State.endAlive
  repeat' (first
    | with_reducible assumption
    | intro _
    | (with_reducible first
        | apply keeps_ite | apply keeps_ite_snd | apply kept_withTile | apply kept_wrN | apply kept_raise)
    | split
    | simp -iota -proj only [])

theorem kept_execFramectlCommitReceive (igOd : Ignores.od π) (igControl : Ignores.control π) (igNvm : Ignores.nvm π)
  (igLanes : Ignores.lanes π) (igTile : Ignores.tile π) (igVideo : Ignores.video π) (igSent : Ignores.sent π) (a0 :
  Fin 2) (a1 : RxCell) (s : State) (k : Keeps π s) :
    KeepsO π (execFramectlCommitReceive a0 a1 s) := by
  unfold execFramectlCommitReceive
  repeat' (first
    | with_reducible assumption
    | intro _
    | (with_reducible first
        | apply keeps_ite | apply keeps_ite_snd | apply keepsO_next | apply keepsO_ite | apply keepsO_dite
        | apply kept_arrive | apply kept_admitCell | apply kept_commitCell))

theorem kept_topoNew (igTile : Ignores.tile π) (s : State) (a1 : RxCell) (a2 : Nat) (k : Keeps π s) :
    Keeps π (State.topoNew s a1 a2).2 := by
  unfold State.topoNew
  repeat' (first
    | with_reducible assumption
    | intro _
    | (with_reducible first
        | apply keeps_ite | apply keeps_ite_snd | apply kept_withTile))

theorem kept_execTopoQueryReceive (igOd : Ignores.od π) (igControl : Ignores.control π) (igNvm : Ignores.nvm π)
  (igLanes : Ignores.lanes π) (igTile : Ignores.tile π) (igSent : Ignores.sent π) (a0 : Fin 2) (a1 : RxCell) (s :
  State) (k : Keeps π s) :
    KeepsO π (execTopoQueryReceive a0 a1 s) := by
  unfold execTopoQueryReceive
  repeat' (first
    | with_reducible assumption
    | intro _
    | (with_reducible first
        | apply keeps_ite | apply keeps_ite_snd | apply keepsO_next | apply keepsO_ite | apply keepsO_dite
        | apply kept_topoNew | apply kept_arrive | apply kept_sendReport))

theorem kept_takeSample (igOd : Ignores.od π) (igQuartz : Ignores.quartz π) (s : State) (a1 : Fin 2) (a2 : Nat) (k :
  Keeps π s) :
    Keeps π (State.takeSample s a1 a2) := by
  unfold State.takeSample
  repeat' (first
    | with_reducible assumption
    | intro _
    | (with_reducible first
        | apply keeps_ite | apply keeps_ite_snd | apply kept_wrN | apply kept_bump | apply kept_withQuartz))

theorem kept_takeTimingFields (igQuartz : Ignores.quartz π) (igVideo : Ignores.video π) (s : State) (a1 : List Byte)
  (k : Keeps π s) :
    Keeps π (State.takeTimingFields s a1) := by
  unfold State.takeTimingFields
  repeat' (first
    | with_reducible assumption
    | intro _
    | (with_reducible first
        | apply keeps_ite | apply keeps_ite_snd | apply kept_withQuartz | apply kept_withColour))

theorem kept_execFramectlAbortReceive (igOd : Ignores.od π) (igControl : Ignores.control π) (igNvm : Ignores.nvm π)
  (igLanes : Ignores.lanes π) (igTile : Ignores.tile π) (igVideo : Ignores.video π) (igSent : Ignores.sent π) (a0 :
  Fin 2) (a1 : RxCell) (s : State) (k : Keeps π s) :
    KeepsO π (execFramectlAbortReceive a0 a1 s) := by
  unfold execFramectlAbortReceive
  repeat' (first
    | with_reducible assumption
    | intro _
    | (with_reducible first
        | apply keeps_ite | apply keeps_ite_snd | apply keepsO_next | apply keepsO_ite | apply keepsO_dite
        | apply kept_arrive | apply kept_admitCell | apply kept_abortCell))

theorem kept_execTimingCellReceive (igOd : Ignores.od π) (igControl : Ignores.control π) (igNvm : Ignores.nvm π)
  (igLanes : Ignores.lanes π) (igQuartz : Ignores.quartz π) (igTile : Ignores.tile π) (igVideo : Ignores.video π)
  (igSent : Ignores.sent π) (a0 : Fin 2) (a1 : RxCell) (s : State) (k : Keeps π s) :
    KeepsO π (execTimingCellReceive a0 a1 s) := by
  unfold execTimingCellReceive
  repeat' (first
    | with_reducible assumption
    | intro _
    | (with_reducible first
        | apply keeps_ite | apply keeps_ite_snd | apply keepsO_next | apply keepsO_ite | apply keepsO_dite
        | apply kept_arrive | apply kept_endAlive | apply kept_takeTimingFields | apply kept_adoptSet
        | apply kept_takeSample | apply kept_takeChange))

theorem kept_execFeedEndTimeout (igNow : Ignores.now π) (igOd : Ignores.od π) (igControl : Ignores.control π) (igNvm :
  Ignores.nvm π) (igQuartz : Ignores.quartz π) (igTile : Ignores.tile π) (igVideo : Ignores.video π) (igSent :
  Ignores.sent π) (a0 : Fin 2) (s : State) (k : Keeps π s) :
    KeepsO π (execFeedEndTimeout a0 s) := by
  unfold execFeedEndTimeout
  repeat' (first
    | with_reducible assumption
    | intro _
    | (with_reducible first
        | apply keeps_ite | apply keeps_ite_snd | apply keepsO_next | apply keepsO_ite | apply keepsO_dite
        | apply kept_until_ | apply kept_withTile | apply kept_wrN | apply kept_holdover | apply kept_raise
        | apply kept_bump | apply kept_stopPresenting | apply kept_withCompose)
    | split)

theorem kept_execTopoAssignReceive (igOd : Ignores.od π) (igControl : Ignores.control π) (igNvm : Ignores.nvm π)
  (igLanes : Ignores.lanes π) (igQuartz : Ignores.quartz π) (igTile : Ignores.tile π) (igSent : Ignores.sent π) (a0 :
  Fin 2) (a1 : RxCell) (s : State) (k : Keeps π s) :
    KeepsO π (execTopoAssignReceive a0 a1 s) := by
  unfold execTopoAssignReceive
  repeat' (first
    | with_reducible assumption
    | intro _
    | (with_reducible first
        | apply keeps_ite | apply keeps_ite_snd | apply keepsO_next | apply keepsO_ite | apply keepsO_dite
        | apply kept_topoNew | apply kept_arrive | apply kept_wrB | apply kept_wrN | apply kept_withTile
        | apply kept_withQuartz | apply kept_sendReport)
    | split)

theorem kept_execHoldTimeExpiry (igNow : Ignores.now π) (igOd : Ignores.od π) (igControl : Ignores.control π) (igNvm :
  Ignores.nvm π) (igQuartz : Ignores.quartz π) (igVideo : Ignores.video π) (igSent : Ignores.sent π) (s : State) (k :
  Keeps π s) :
    KeepsO π (execHoldTimeExpiry s) := by
  unfold execHoldTimeExpiry
  repeat' (first
    | with_reducible assumption
    | intro _
    | (with_reducible first
        | apply keeps_ite | apply keeps_ite_snd | apply keepsO_next | apply keepsO_ite | apply keepsO_dite
        | apply kept_until_ | apply kept_withCompose | apply kept_wrN | apply kept_raise)
    | split)

theorem kept_learnGen (igIngress : Ignores.ingress π) (s : State) (a1 : Fin 2) (a2 : RxCell) (k : Keeps π s) :
    Keeps π (State.learnGen s a1 a2) := by
  unfold State.learnGen
  repeat' (first
    | with_reducible assumption
    | intro _
    | (with_reducible first
        | apply keeps_ite | apply keeps_ite_snd)
    | split
    | simp -iota -proj only []
    | dsimp only
    | with_reducible apply keeps_set_ingress)

theorem kept_execFramectlGenStateReceive (igOd : Ignores.od π) (igControl : Ignores.control π) (igNvm : Ignores.nvm π)
  (igLanes : Ignores.lanes π) (igTile : Ignores.tile π) (igIngress : Ignores.ingress π) (igVideo : Ignores.video π)
  (igSent : Ignores.sent π) (a0 : Fin 2) (a1 : RxCell) (s : State) (k : Keeps π s) :
    KeepsO π (execFramectlGenStateReceive a0 a1 s) := by
  unfold execFramectlGenStateReceive
  repeat' (first
    | with_reducible assumption
    | intro _
    | (with_reducible first
        | apply keeps_ite | apply keeps_ite_snd | apply keepsO_next | apply keepsO_ite | apply keepsO_dite
        | apply kept_arrive | apply kept_learnGen | apply kept_admitCell | apply kept_genStateCell))

theorem kept_execVideoCellReceive (igOd : Ignores.od π) (igControl : Ignores.control π) (igNvm : Ignores.nvm π)
  (igLanes : Ignores.lanes π) (igTile : Ignores.tile π) (igVideo : Ignores.video π) (igSent : Ignores.sent π) (a0 :
  Fin 2) (a1 : RxCell) (s : State) (k : Keeps π s) :
    KeepsO π (execVideoCellReceive a0 a1 s) := by
  unfold execVideoCellReceive
  repeat' (first
    | with_reducible assumption
    | intro _
    | (with_reducible first
        | apply keeps_ite | apply keeps_ite_snd | apply keepsO_next | apply keepsO_ite | apply keepsO_dite
        | apply kept_arrive | apply kept_acceptVideo))

theorem kept_compareEnds (igOd : Ignores.od π) (igControl : Ignores.control π) (igNvm : Ignores.nvm π) (igQuartz :
  Ignores.quartz π) (igSent : Ignores.sent π) (s : State) (k : Keeps π s) :
    Keeps π (State.compareEnds s) := by
  unfold State.compareEnds
  repeat' (first
    | with_reducible assumption
    | intro _
    | (with_reducible first
        | apply keeps_ite | apply keeps_ite_snd | apply kept_withQuartz | apply kept_wrI | apply kept_raiseIf)
    | split)

theorem kept_stepLater (igOd : Ignores.od π) (igQuartz : Ignores.quartz π) (igVideo : Ignores.video π) (s : State) (a1
  : Int) (k : Keeps π s) :
    Keeps π (State.stepLater s a1) := by
  unfold State.stepLater
  repeat' (first
    | with_reducible assumption
    | intro _
    | (with_reducible first
        | apply keeps_ite | apply keeps_ite_snd | apply kept_withQuartz | apply kept_withCompose
        | apply kept_stopPresenting))

theorem kept_execTimingWindowEnd (igOd : Ignores.od π) (igControl : Ignores.control π) (igNvm : Ignores.nvm π)
  (igQuartz : Ignores.quartz π) (igVideo : Ignores.video π) (igSent : Ignores.sent π) (s : State) (k : Keeps π s) :
    KeepsO π (execTimingWindowEnd s) := by
  unfold execTimingWindowEnd
  repeat' (first
    | with_reducible assumption
    | intro _
    | (with_reducible first
        | apply keeps_ite | apply keeps_ite_snd | apply keepsO_next | apply keepsO_ite | apply keepsO_dite
        | apply kept_compareEnds | apply kept_withQuartz | apply kept_holdover | apply kept_wrI | apply kept_stepLater
        | apply kept_follow | apply kept_quartzLock)
    | split
    | simp -iota -proj only [])

theorem kept_execHealthCellReceive (igOd : Ignores.od π) (igControl : Ignores.control π) (igNvm : Ignores.nvm π)
  (igLanes : Ignores.lanes π) (igTile : Ignores.tile π) (igSent : Ignores.sent π) (a0 : Fin 2) (a1 : RxCell) (s :
  State) (k : Keeps π s) :
    KeepsO π (execHealthCellReceive a0 a1 s) := by
  unfold execHealthCellReceive
  repeat' (first
    | with_reducible assumption
    | intro _
    | (with_reducible first
        | apply keeps_ite | apply keeps_ite_snd | apply keepsO_next | apply keepsO_ite | apply keepsO_dite
        | apply kept_arrive | apply kept_wrN))

theorem kept_execTileHealthSend (igNow : Ignores.now π) (igOd : Ignores.od π) (igControl : Ignores.control π) (igNvm :
  Ignores.nvm π) (igQuartz : Ignores.quartz π) (igTile : Ignores.tile π) (igSent : Ignores.sent π) (s : State) (k :
  Keeps π s) :
    KeepsO π (execTileHealthSend s) := by
  unfold execTileHealthSend
  repeat' (first
    | with_reducible assumption
    | intro _
    | (with_reducible first
        | apply keeps_ite | apply keeps_ite_snd | apply keepsO_next | apply keepsO_ite | apply keepsO_dite
        | apply kept_untilPhase | apply kept_withTile | apply kept_originate))

theorem kept_execIdleCellReceive (igOd : Ignores.od π) (igControl : Ignores.control π) (igNvm : Ignores.nvm π)
  (igLanes : Ignores.lanes π) (igTile : Ignores.tile π) (igSent : Ignores.sent π) (a0 : Fin 2) (s : State) (k : Keeps
  π s) :
    KeepsO π (execIdleCellReceive a0 s) := by
  unfold execIdleCellReceive
  repeat' (first
    | with_reducible assumption
    | intro _
    | (with_reducible first
        | apply keeps_ite | apply keeps_ite_snd | apply keepsO_next | apply keepsO_ite | apply keepsO_dite
        | apply kept_idleSlot))

theorem kept_schedule (igQuartz : Ignores.quartz π) (s : State) (a1 : TimingChange) (k : Keeps π s) :
    Keeps π (State.schedule s a1) := by
  unfold State.schedule
  repeat' (first
    | with_reducible assumption
    | intro _
    | (with_reducible first
        | apply keeps_ite | apply keeps_ite_snd | apply kept_withQuartz))

theorem kept_stepNowWrite (igQuartz : Ignores.quartz π) (s : State) (a1 : Int) (k : Keeps π s) :
    Keeps π (State.stepNowWrite s a1).2 := by
  unfold State.stepNowWrite
  repeat' (first
    | with_reducible assumption
    | intro _
    | (with_reducible first
        | apply keeps_ite | apply keeps_ite_snd | apply kept_schedule))

theorem kept_stagedWrite (igOd : Ignores.od π) (s : State) (a1 a2 : Nat) (k : Keeps π s) :
    Keeps π (State.stagedWrite s a1 a2).2 := by
  unfold State.stagedWrite
  repeat' (first
    | with_reducible assumption
    | intro _
    | (with_reducible first
        | apply keeps_ite | apply keeps_ite_snd | apply kept_wrN))

theorem kept_todWrite (igQuartz : Ignores.quartz π) (s : State) (a1 : Nat) (k : Keeps π s) :
    Keeps π (State.todWrite s a1).2 := by
  unfold State.todWrite
  repeat' (first
    | with_reducible assumption
    | intro _
    | (with_reducible first
        | apply keeps_ite | apply keeps_ite_snd | apply kept_withQuartz))

theorem kept_recomputeWrite (igQuartz : Ignores.quartz π) (s : State) (a1 : Int) (k : Keeps π s) :
    Keeps π (State.recomputeWrite s a1).2 := by
  unfold State.recomputeWrite
  repeat' (first
    | with_reducible assumption
    | intro _
    | (with_reducible first
        | apply keeps_ite | apply keeps_ite_snd | apply kept_schedule))

theorem kept_wrSlots (igOd : Ignores.od π) (s : State) (a1 a2 : Vector Nat 4) (k : Keeps π s) :
    Keeps π (State.wrSlots s a1 a2) := by
  unfold State.wrSlots
  repeat' (first
    | with_reducible assumption
    | intro _
    | (with_reducible first
        | apply keeps_ite | apply keeps_ite_snd | apply keeps_foldl | apply kept_wrN))

theorem kept_rateWrite (igOd : Ignores.od π) (s : State) (a1 a2 : Nat) (k : Keeps π s) :
    Keeps π (State.rateWrite s a1 a2).2 := by
  unfold State.rateWrite
  repeat' (first
    | with_reducible assumption
    | intro _
    | (with_reducible first
        | apply keeps_ite | apply keeps_ite_snd | apply kept_wrN | apply kept_wrSlots))

theorem kept_unstage (igOd : Ignores.od π) (s : State) (k : Keeps π s) :
    Keeps π (State.unstage s) := by
  unfold State.unstage
  repeat' (first
    | with_reducible assumption
    | intro _
    | (with_reducible first
        | apply keeps_ite | apply keeps_ite_snd | apply kept_wrSlots | apply kept_wrN))

theorem kept_takeDelayMode (igQuartz : Ignores.quartz π) (s : State) (k : Keeps π s) :
    Keeps π (State.takeDelayMode s) := by
  unfold State.takeDelayMode
  repeat' (first
    | with_reducible assumption
    | intro _
    | (with_reducible first
        | apply keeps_ite | apply keeps_ite_snd | apply kept_withQuartz))

theorem kept_applyFrameWrite (igOd : Ignores.od π) (igControl : Ignores.control π) (igNvm : Ignores.nvm π) (igQuartz :
  Ignores.quartz π) (igSent : Ignores.sent π) (s : State) (a1 : Nat) (k : Keeps π s) :
    Keeps π (State.applyFrameWrite s a1).2 := by
  unfold State.applyFrameWrite
  repeat' (first
    | with_reducible assumption
    | intro _
    | (with_reducible first
        | apply keeps_ite | apply keeps_ite_snd | apply kept_raise | apply kept_unstage | apply kept_takeDelayMode
        | apply kept_schedule))

theorem kept_edgeMissed (igOd : Ignores.od π) (igControl : Ignores.control π) (igNvm : Ignores.nvm π) (igQuartz :
  Ignores.quartz π) (igSent : Ignores.sent π) (s : State) (k : Keeps π s) :
    Keeps π (State.edgeMissed s) := by
  unfold State.edgeMissed
  repeat' (first
    | with_reducible assumption
    | intro _
    | (with_reducible first
        | apply keeps_ite | apply keeps_ite_snd | apply kept_withQuartz | apply kept_raise | apply kept_holdover))

theorem kept_execGenlockEdgeMissing (igNow : Ignores.now π) (igOd : Ignores.od π) (igControl : Ignores.control π)
  (igNvm : Ignores.nvm π) (igQuartz : Ignores.quartz π) (igSent : Ignores.sent π) (s : State) (k : Keeps π s) :
    KeepsO π (execGenlockEdgeMissing s) := by
  unfold execGenlockEdgeMissing
  repeat' (first
    | with_reducible assumption
    | intro _
    | (with_reducible first
        | apply keeps_ite | apply keeps_ite_snd | apply keepsO_next | apply keepsO_ite | apply keepsO_dite
        | apply kept_edgeMissed | apply kept_untilWall))

theorem kept_withCascade (igCascade : Ignores.cascade π) (s : State) (a1 : Cascade → Cascade) (k : Keeps π s) :
    Keeps π (State.withCascade s a1) := by
  unfold State.withCascade
  repeat' (first
    | with_reducible assumption
    | intro _
    | (with_reducible first
        | apply keeps_ite | apply keeps_ite_snd)
    | split
    | simp -iota -proj only []
    | dsimp only
    | with_reducible apply keeps_set_cascade)

theorem kept_withNeighbour (igQuartz : Ignores.quartz π) (s : State) (a1 : Fin 2) (a2 : Neighbour → Neighbour) (k :
  Keeps π s) :
    Keeps π (State.withNeighbour s a1 a2) := by
  unfold State.withNeighbour
  repeat' (first
    | with_reducible assumption
    | intro _
    | (with_reducible first
        | apply keeps_ite | apply keeps_ite_snd | apply kept_withQuartz))

theorem kept_execCascadeLinkUp (igLanes : Ignores.lanes π) (igQuartz : Ignores.quartz π) (igCascade : Ignores.cascade
  π) (igSent : Ignores.sent π) (a0 : Fin 2) (s : State) (k : Keeps π s) :
    KeepsO π (execCascadeLinkUp a0 s) := by
  unfold execCascadeLinkUp
  repeat' (first
    | with_reducible assumption
    | intro _
    | (with_reducible first
        | apply keeps_ite | apply keeps_ite_snd | apply keepsO_next | apply keepsO_ite | apply keepsO_dite
        | apply kept_withNeighbour | apply kept_withCascade | apply kept_sendOn))

theorem kept_orphaned (igOd : Ignores.od π) (igControl : Ignores.control π) (igNvm : Ignores.nvm π) (igQuartz :
  Ignores.quartz π) (igSent : Ignores.sent π) (s : State) (k : Keeps π s) :
    Keeps π (State.orphaned s) := by
  unfold State.orphaned
  repeat' (first
    | with_reducible assumption
    | intro _
    | (with_reducible first
        | apply keeps_ite | apply keeps_ite_snd | apply kept_withQuartz | apply kept_holdover))

theorem kept_execParentTimeout (igNow : Ignores.now π) (igOd : Ignores.od π) (igControl : Ignores.control π) (igNvm :
  Ignores.nvm π) (igQuartz : Ignores.quartz π) (igSent : Ignores.sent π) (s : State) (k : Keeps π s) :
    KeepsO π (execParentTimeout s) := by
  unfold execParentTimeout
  repeat' (first
    | with_reducible assumption
    | intro _
    | (with_reducible first
        | apply keeps_ite | apply keeps_ite_snd | apply keepsO_next | apply keepsO_ite | apply keepsO_dite
        | apply kept_until_ | apply kept_withNeighbour | apply kept_withQuartz | apply kept_orphaned)
    | split)

theorem kept_sourceSample (igOd : Ignores.od π) (igControl : Ignores.control π) (igNvm : Ignores.nvm π) (igQuartz :
  Ignores.quartz π) (igSent : Ignores.sent π) (s : State) (a1 : Int) (k : Keeps π s) :
    Keeps π (State.sourceSample s a1) := by
  unfold State.sourceSample
  repeat' (first
    | with_reducible assumption
    | intro _
    | (with_reducible first
        | apply keeps_ite | apply keeps_ite_snd | apply kept_withQuartz | apply kept_wrI | apply kept_steer
        | apply kept_raiseLimited | apply kept_follow | apply kept_quartzLock))

theorem kept_takeTod (igQuartz : Ignores.quartz π) (s : State) (k : Keeps π s) :
    Keeps π (State.takeTod s) := by
  unfold State.takeTod
  repeat' (first
    | with_reducible assumption
    | intro _
    | (with_reducible first
        | apply keeps_ite | apply keeps_ite_snd | apply kept_withQuartz)
    | split)

theorem kept_execPpsEdge (igOd : Ignores.od π) (igControl : Ignores.control π) (igNvm : Ignores.nvm π) (igQuartz :
  Ignores.quartz π) (igSent : Ignores.sent π) (s : State) (k : Keeps π s) :
    KeepsO π (execPpsEdge s) := by
  unfold execPpsEdge
  repeat' (first
    | with_reducible assumption
    | intro _
    | (with_reducible first
        | apply keeps_ite | apply keeps_ite_snd | apply keepsO_next | apply keepsO_ite | apply keepsO_dite
        | apply kept_takeTod | apply kept_sourceSample))

theorem kept_steerTo (igOd : Ignores.od π) (igControl : Ignores.control π) (igNvm : Ignores.nvm π) (igQuartz :
  Ignores.quartz π) (igSent : Ignores.sent π) (s : State) (a1 : Fin 2) (a2 : Int) (a3 : Nat) (k : Keeps π s) :
    Keeps π (State.steerTo s a1 a2 a3) := by
  unfold State.steerTo
  repeat' (first
    | with_reducible assumption
    | intro _
    | (with_reducible first
        | apply keeps_ite | apply keeps_ite_snd | apply kept_wrI | apply kept_withQuartz | apply kept_steer
        | apply kept_follow | apply kept_quartzLock))

theorem kept_fromParent (igOd : Ignores.od π) (igControl : Ignores.control π) (igNvm : Ignores.nvm π) (igQuartz :
  Ignores.quartz π) (igCascade : Ignores.cascade π) (igSent : Ignores.sent π) (s : State) (a1 : Fin 2) (a2 : List
  Byte) (k : Keeps π s) :
    Keeps π (State.fromParent s a1 a2) := by
  unfold State.fromParent
  repeat' (first
    | with_reducible assumption
    | intro _
    | (with_reducible first
        | apply keeps_ite | apply keeps_ite_snd | apply kept_adoptSet | apply kept_takeChange | apply kept_withQuartz
        | apply kept_withCascade)
    | split)

theorem kept_sendTiming (igNow : Ignores.now π) (igLanes : Ignores.lanes π) (igQuartz : Ignores.quartz π) (igPorts :
  Ignores.ports π) (igCascade : Ignores.cascade π) (igSent : Ignores.sent π) (s : State) (a1 : Fin 2) (k : Keeps π s)
  :
    Keeps π (State.sendTiming s a1) := by
  unfold State.sendTiming
  repeat' (first
    | with_reducible assumption
    | intro _
    | (with_reducible first
        | apply keeps_ite | apply keeps_ite_snd | apply kept_originateChain | apply kept_untilPhase))

theorem kept_takeDmin (igOd : Ignores.od π) (igControl : Ignores.control π) (igNvm : Ignores.nvm π) (igQuartz :
  Ignores.quartz π) (igSent : Ignores.sent π) (s : State) (a1 a2 a3 : Nat) (k : Keeps π s) :
    Keeps π (State.takeDmin s a1 a2 a3) := by
  unfold State.takeDmin
  repeat' (first
    | with_reducible assumption
    | intro _
    | (with_reducible first
        | apply keeps_ite | apply keeps_ite_snd | apply kept_withQuartz | apply kept_wrN | apply kept_raiseIf
        | apply kept_schedule))

theorem kept_judgeClosure (igOd : Ignores.od π) (igControl : Ignores.control π) (igNvm : Ignores.nvm π) (igQuartz :
  Ignores.quartz π) (igSent : Ignores.sent π) (s : State) (a1 : Fin 2) (k : Keeps π s) :
    Keeps π (State.judgeClosure s a1) := by
  unfold State.judgeClosure
  repeat' (first
    | with_reducible assumption
    | intro _
    | (with_reducible first
        | apply keeps_ite | apply keeps_ite_snd | apply kept_raiseLimited | apply kept_withQuartz)
    | split)

theorem kept_computeTrims (igQuartz : Ignores.quartz π) (s : State) (a1 : Fin 2) (k : Keeps π s) :
    Keeps π (State.computeTrims s a1) := by
  unfold State.computeTrims
  repeat' (first
    | with_reducible assumption
    | intro _
    | (with_reducible first
        | apply keeps_ite | apply keeps_ite_snd | apply kept_withQuartz)
    | split)

theorem kept_execTrimRecompute (igNow : Ignores.now π) (igOd : Ignores.od π) (igControl : Ignores.control π) (igNvm :
  Ignores.nvm π) (igLanes : Ignores.lanes π) (igQuartz : Ignores.quartz π) (igPorts : Ignores.ports π) (igCascade :
  Ignores.cascade π) (igSent : Ignores.sent π) (a0 : Fin 2) (s : State) (k : Keeps π s) :
    KeepsO π (execTrimRecompute a0 s) := by
  unfold execTrimRecompute
  repeat' (first
    | with_reducible assumption
    | intro _
    | (with_reducible first
        | apply keeps_ite | apply keeps_ite_snd | apply keepsO_next | apply keepsO_ite | apply keepsO_dite
        | apply kept_untilPhase | apply kept_judgeClosure | apply kept_computeTrims | apply kept_writeTransit
        | apply kept_takeDmin | apply kept_sendMgmtUnit))

theorem kept_withPtp (igQuartz : Ignores.quartz π) (s : State) (a1 : Ptp → Ptp) (k : Keeps π s) :
    Keeps π (State.withPtp s a1) := by
  unfold State.withPtp
  repeat' (first
    | with_reducible assumption
    | intro _
    | (with_reducible first
        | apply keeps_ite | apply keeps_ite_snd | apply kept_withQuartz))

theorem kept_ptpSample (igOd : Ignores.od π) (igControl : Ignores.control π) (igNvm : Ignores.nvm π) (igQuartz :
  Ignores.quartz π) (igSent : Ignores.sent π) (s : State) (a1 a2 : Nat) (k : Keeps π s) :
    Keeps π (State.ptpSample s a1 a2) := by
  unfold State.ptpSample
  repeat' (first
    | with_reducible assumption
    | intro _
    | (with_reducible first
        | apply keeps_ite | apply keeps_ite_snd | apply kept_withPtp | apply kept_sourceSample))

theorem kept_execPtpSyncReceive (igOd : Ignores.od π) (igControl : Ignores.control π) (igNvm : Ignores.nvm π)
  (igQuartz : Ignores.quartz π) (igSent : Ignores.sent π) (a0 a1 a2 a3 a4 : Nat) (a5 : Int) (a6 : Bool) (s : State) (k
  : Keeps π s) :
    KeepsO π (execPtpSyncReceive a0 a1 a2 a3 a4 a5 a6 s) := by
  unfold execPtpSyncReceive
  repeat' (first
    | with_reducible assumption
    | intro _
    | (with_reducible first
        | apply keeps_ite | apply keeps_ite_snd | apply keepsO_next | apply keepsO_ite | apply keepsO_dite
        | apply kept_withPtp | apply kept_ptpSample))

theorem kept_pulse (igSent : Ignores.sent π) (s : State) (a1 : Pin) (k : Keeps π s) :
    Keeps π (State.pulse s a1) := by
  unfold State.pulse
  repeat' (first
    | with_reducible assumption
    | intro _
    | (with_reducible first
        | apply keeps_ite | apply keeps_ite_snd | apply kept_emits))

theorem kept_execFrameOutPulse (igNow : Ignores.now π) (igQuartz : Ignores.quartz π) (igSent : Ignores.sent π) (a0 a1
  : Nat) (s : State) (k : Keeps π s) :
    KeepsO π (execFrameOutPulse a0 a1 s) := by
  unfold execFrameOutPulse
  repeat' (first
    | with_reducible assumption
    | intro _
    | (with_reducible first
        | apply keeps_ite | apply keeps_ite_snd | apply keepsO_next | apply keepsO_ite | apply keepsO_dite
        | apply kept_pulse | apply kept_untilWall | apply kept_withQuartz)
    | split)

theorem kept_execGenlockEdge (igOd : Ignores.od π) (igControl : Ignores.control π) (igNvm : Ignores.nvm π) (igQuartz :
  Ignores.quartz π) (igSent : Ignores.sent π) (a0 : Bool) (s : State) (k : Keeps π s) :
    KeepsO π (execGenlockEdge a0 s) := by
  unfold execGenlockEdge
  repeat' (first
    | with_reducible assumption
    | intro _
    | (with_reducible first
        | apply keeps_ite | apply keeps_ite_snd | apply keepsO_next | apply keepsO_ite | apply keepsO_dite
        | apply kept_edgeMissed | apply kept_sourceSample | apply kept_withQuartz))

theorem kept_followMaster (igOd : Ignores.od π) (igControl : Ignores.control π) (igNvm : Ignores.nvm π) (igQuartz :
  Ignores.quartz π) (igSent : Ignores.sent π) (s : State) (a1 : PtpForeign) (k : Keeps π s) :
    Keeps π (State.followMaster s a1) := by
  unfold State.followMaster
  repeat' (first
    | with_reducible assumption
    | intro _
    | (with_reducible first
        | apply keeps_ite | apply keeps_ite_snd | apply kept_wrN | apply kept_withPtp | apply kept_raiseIf))

theorem kept_execPtpAnnounceReceive (igOd : Ignores.od π) (igControl : Ignores.control π) (igNvm : Ignores.nvm π)
  (igQuartz : Ignores.quartz π) (igSent : Ignores.sent π) (a0 a1 : Nat) (a2 : PtpDataset) (a3 : Int) (s : State) (k :
  Keeps π s) :
    KeepsO π (execPtpAnnounceReceive a0 a1 a2 a3 s) := by
  unfold execPtpAnnounceReceive
  repeat' (first
    | with_reducible assumption
    | intro _
    | (with_reducible first
        | apply keeps_ite | apply keeps_ite_snd | apply keepsO_next | apply keepsO_ite | apply keepsO_dite
        | apply kept_withPtp | apply kept_followMaster)
    | split
    | simp -iota -proj only [])

theorem kept_execPpsOutPulse (igNow : Ignores.now π) (igQuartz : Ignores.quartz π) (igSent : Ignores.sent π) (s :
  State) (k : Keeps π s) :
    KeepsO π (execPpsOutPulse s) := by
  unfold execPpsOutPulse
  repeat' (first
    | with_reducible assumption
    | intro _
    | (with_reducible first
        | apply keeps_ite | apply keeps_ite_snd | apply keepsO_next | apply keepsO_ite | apply keepsO_dite
        | apply kept_pulse | apply kept_untilPhase | apply kept_withQuartz | apply kept_takeTod))

theorem kept_sendPresence (igLanes : Ignores.lanes π) (igCascade : Ignores.cascade π) (igSent : Ignores.sent π) (s :
  State) (k : Keeps π s) :
    Keeps π (State.sendPresence s) := by
  unfold State.sendPresence
  repeat' (first
    | with_reducible assumption
    | intro _
    | (with_reducible first
        | apply keeps_ite | apply keeps_ite_snd | apply kept_sendMgmtUnit))

theorem kept_judgeIdentity (igOd : Ignores.od π) (igControl : Ignores.control π) (igNvm : Ignores.nvm π) (igLanes :
  Ignores.lanes π) (igQuartz : Ignores.quartz π) (igCascade : Ignores.cascade π) (igSent : Ignores.sent π) (s : State)
  (a1 : Fin 2) (a2 : List Byte) (k : Keeps π s) :
    Keeps π (State.judgeIdentity s a1 a2) := by
  unfold State.judgeIdentity
  repeat' (first
    | with_reducible assumption
    | intro _
    | (with_reducible first
        | apply keeps_ite | apply keeps_ite_snd | apply kept_raise | apply kept_withNeighbour
        | apply kept_sendPresence))

theorem kept_execIdentityUnitReceive (igOd : Ignores.od π) (igControl : Ignores.control π) (igNvm : Ignores.nvm π)
  (igLanes : Ignores.lanes π) (igQuartz : Ignores.quartz π) (igCascade : Ignores.cascade π) (igSent : Ignores.sent π)
  (a0 : Fin 2) (a1 : CascadeUnit) (s : State) (k : Keeps π s) :
    KeepsO π (execIdentityUnitReceive a0 a1 s) := by
  unfold execIdentityUnitReceive
  repeat' (first
    | with_reducible assumption
    | intro _
    | (with_reducible first
        | apply keeps_ite | apply keeps_ite_snd | apply keepsO_next | apply keepsO_ite | apply keepsO_dite
        | apply kept_takeUnit | apply kept_judgeIdentity))

theorem kept_execSyncUnitReceive (igOd : Ignores.od π) (igControl : Ignores.control π) (igNvm : Ignores.nvm π)
  (igLanes : Ignores.lanes π) (igQuartz : Ignores.quartz π) (igCascade : Ignores.cascade π) (igSent : Ignores.sent π)
  (a0 : Fin 2) (a1 : CascadeUnit) (s : State) (k : Keeps π s) :
    KeepsO π (execSyncUnitReceive a0 a1 s) := by
  unfold execSyncUnitReceive
  repeat' (first
    | with_reducible assumption
    | intro _
    | (with_reducible first
        | apply keeps_ite | apply keeps_ite_snd | apply keepsO_next | apply keepsO_ite | apply keepsO_dite
        | apply kept_takeUnit | apply kept_withNeighbour | apply kept_withQuartz | apply kept_orphaned
        | apply kept_fromParent | apply kept_steerTo)
    | split)

theorem kept_execAnnounceReceiptTimeout (igNow : Ignores.now π) (igOd : Ignores.od π) (igControl : Ignores.control π)
  (igNvm : Ignores.nvm π) (igQuartz : Ignores.quartz π) (igSent : Ignores.sent π) (s : State) (k : Keeps π s) :
    KeepsO π (execAnnounceReceiptTimeout s) := by
  unfold execAnnounceReceiptTimeout
  repeat' (first
    | with_reducible assumption
    | intro _
    | (with_reducible first
        | apply keeps_ite | apply keeps_ite_snd | apply keepsO_next | apply keepsO_ite | apply keepsO_dite
        | apply kept_until_ | apply kept_withPtp | apply kept_followMaster | apply kept_wrN)
    | split
    | simp -iota -proj only [])

theorem kept_execQuartzSourceLoss (igNow : Ignores.now π) (igOd : Ignores.od π) (igControl : Ignores.control π) (igNvm
  : Ignores.nvm π) (igQuartz : Ignores.quartz π) (igSent : Ignores.sent π) (s : State) (k : Keeps π s) :
    KeepsO π (execQuartzSourceLoss s) := by
  unfold execQuartzSourceLoss
  repeat' (first
    | with_reducible assumption
    | intro _
    | (with_reducible first
        | apply keeps_ite | apply keeps_ite_snd | apply keepsO_next | apply keepsO_ite | apply keepsO_dite
        | apply kept_holdover | apply kept_until_))

theorem kept_execPtpDelayRespReceive (igQuartz : Ignores.quartz π) (a0 a1 a2 a3 a4 : Nat) (s : State) (k : Keeps π s)
  :
    KeepsO π (execPtpDelayRespReceive a0 a1 a2 a3 a4 s) := by
  unfold execPtpDelayRespReceive
  repeat' (first
    | with_reducible assumption
    | intro _
    | (with_reducible first
        | apply keeps_ite | apply keeps_ite_snd | apply keepsO_next | apply keepsO_ite | apply keepsO_dite
        | apply kept_withPtp)
    | split)

theorem kept_execTimingCellOriginate (igNow : Ignores.now π) (igLanes : Ignores.lanes π) (igQuartz : Ignores.quartz π)
  (igPorts : Ignores.ports π) (igCascade : Ignores.cascade π) (igSent : Ignores.sent π) (a0 : Fin 2) (s : State) (k :
  Keeps π s) :
    KeepsO π (execTimingCellOriginate a0 s) := by
  unfold execTimingCellOriginate
  repeat' (first
    | with_reducible assumption
    | intro _
    | (with_reducible first
        | apply keeps_ite | apply keeps_ite_snd | apply keepsO_next | apply keepsO_ite | apply keepsO_dite
        | apply kept_sendTiming))

theorem kept_execSyncUnitSend (igNow : Ignores.now π) (igLanes : Ignores.lanes π) (igQuartz : Ignores.quartz π)
  (igCascade : Ignores.cascade π) (igSent : Ignores.sent π) (a0 : Fin 2) (s : State) (k : Keeps π s) :
    KeepsO π (execSyncUnitSend a0 s) := by
  unfold execSyncUnitSend
  repeat' (first
    | with_reducible assumption
    | intro _
    | (with_reducible first
        | apply keeps_ite | apply keeps_ite_snd | apply keepsO_next | apply keepsO_ite | apply keepsO_dite
        | apply keeps_foldl | apply kept_untilPhase | apply kept_withCascade | apply kept_sendOn))

theorem kept_execPtpFollowUpReceive (igOd : Ignores.od π) (igControl : Ignores.control π) (igNvm : Ignores.nvm π)
  (igQuartz : Ignores.quartz π) (igSent : Ignores.sent π) (a0 a1 a2 a3 a4 : Nat) (s : State) (k : Keeps π s) :
    KeepsO π (execPtpFollowUpReceive a0 a1 a2 a3 a4 s) := by
  unfold execPtpFollowUpReceive
  repeat' (first
    | with_reducible assumption
    | intro _
    | (with_reducible first
        | apply keeps_ite | apply keeps_ite_snd | apply keepsO_next | apply keepsO_ite | apply keepsO_dite
        | apply kept_ptpSample)
    | split)

theorem kept_execPtpDelayReqSend (igQuartz : Ignores.quartz π) (igSent : Ignores.sent π) (s : State) (k : Keeps π s) :
    KeepsO π (execPtpDelayReqSend s) := by
  unfold execPtpDelayReqSend
  repeat' (first
    | with_reducible assumption
    | intro _
    | (with_reducible first
        | apply keeps_ite | apply keeps_ite_snd | apply keepsO_next | apply keepsO_ite | apply keepsO_dite
        | apply kept_withPtp | apply kept_emit))

theorem kept_clocksClear (igOd : Ignores.od π) (igClocks : Ignores.clocks π) (s : State) (a1 : Int) (k : Keeps π s) :
    Keeps π (State.clocksClear s a1).2 := by
  unfold State.clocksClear
  repeat' (first
    | with_reducible assumption
    | intro _
    | (with_reducible first
        | apply keeps_ite | apply keeps_ite_snd | apply kept_withClocks | apply kept_zero))

theorem kept_freqStart (igOd : Ignores.od π) (igClocks : Ignores.clocks π) (s : State) (a1 : Int) (k : Keeps π s) :
    Keeps π (State.freqStart s a1).2 := by
  unfold State.freqStart
  repeat' (first
    | with_reducible assumption
    | intro _
    | (with_reducible first
        | apply keeps_ite | apply keeps_ite_snd | apply kept_withClocks | apply kept_startRun))

theorem kept_clockStep (igOd : Ignores.od π) (igClocks : Ignores.clocks π) (igSent : Ignores.sent π) (s : State) (k :
  Keeps π s) :
    Keeps π (State.clockStep s) := by
  unfold State.clockStep
  repeat' (first
    | with_reducible assumption
    | intro _
    | (with_reducible first
        | apply keeps_ite | apply keeps_ite_snd | apply kept_advanceLevel)
    | split)

theorem kept_idleLanes (igOd : Ignores.od π) (igControl : Ignores.control π) (igNvm : Ignores.nvm π) (igLanes :
  Ignores.lanes π) (igQuartz : Ignores.quartz π) (igSent : Ignores.sent π) (s : State) (k : Keeps π s) :
    Keeps π (State.idleLanes s) := by
  unfold State.idleLanes
  refine keeps_set_lanes igLanes (keeps_foldl (fun s x k => ?_) (keeps_foldl (fun s x k => keeps_ite ?_ k) k))
  · apply kept_failTest <;> with_reducible assumption
  · apply kept_neighbourDown
    all_goals try with_reducible assumption
    apply kept_raise <;> with_reducible assumption

theorem kept_execRefclkLoss (igOd : Ignores.od π) (igControl : Ignores.control π) (igClocks : Ignores.clocks π) (igNvm
  : Ignores.nvm π) (igLanes : Ignores.lanes π) (igQuartz : Ignores.quartz π) (igSent : Ignores.sent π) (a0 : List (Fin
  60 × BitVec 7)) (s : State) (k : Keeps π s) :
    KeepsO π (execRefclkLoss a0 s) := by
  unfold execRefclkLoss
  repeat' (first
    | with_reducible assumption
    | intro _
    | (with_reducible first
        | apply keeps_ite | apply keeps_ite_snd | apply keepsO_next | apply keepsO_ite | apply keepsO_dite
        | apply keeps_foldl | apply kept_withClocks | apply kept_forceSwitch | apply kept_raise | apply kept_idleLanes
        | apply kept_clockStep))

theorem kept_toPll (igClocks : Ignores.clocks π) (s : State) (a1 : Fin 8) (k : Keeps π s) :
    Keeps π (State.toPll s a1) := by
  unfold State.toPll
  repeat' (first
    | with_reducible assumption
    | intro _
    | (with_reducible first
        | apply keeps_ite | apply keeps_ite_snd | apply keeps_foldl | apply kept_withClocks | apply kept_beginSwitch))

theorem kept_execPllLock (igClocks : Ignores.clocks π) (a0 : Fin 8) (s : State) (k : Keeps π s) :
    KeepsO π (execPllLock a0 s) := by
  unfold execPllLock
  repeat' (first
    | with_reducible assumption
    | intro _
    | (with_reducible first
        | apply keeps_ite | apply keeps_ite_snd | apply keepsO_next | apply keepsO_ite | apply keepsO_dite
        | apply kept_withClocks | apply kept_toPll))

theorem kept_execXtalReturn (igNow : Ignores.now π) (igClocks : Ignores.clocks π) (igQuartz : Ignores.quartz π) (s :
  State) (k : Keeps π s) :
    KeepsO π (execXtalReturn s) := by
  unfold execXtalReturn
  repeat' (first
    | with_reducible assumption
    | intro _
    | (with_reducible first
        | apply keeps_ite | apply keeps_ite_snd | apply keepsO_next | apply keepsO_ite | apply keepsO_dite
        | apply kept_withClocks | apply kept_pass))

theorem kept_execAvsTransferComplete (igOd : Ignores.od π) (igControl : Ignores.control π) (igClocks : Ignores.clocks
  π) (igNvm : Ignores.nvm π) (igSent : Ignores.sent π) (a0 : AvsResult) (s : State) (k : Keeps π s) :
    KeepsO π (execAvsTransferComplete a0 s) := by
  unfold execAvsTransferComplete
  repeat' (first
    | with_reducible assumption
    | intro _
    | (with_reducible first
        | apply keeps_ite | apply keeps_ite_snd | apply keepsO_next | apply keepsO_ite | apply keepsO_dite
        | apply kept_advanceLevel | apply kept_wrN | apply kept_failLevel | apply kept_raise | apply kept_bump)
    | split)

theorem kept_execDvfsEvaluate (igOd : Ignores.od π) (igControl : Ignores.control π) (igClocks : Ignores.clocks π)
  (igNvm : Ignores.nvm π) (igSent : Ignores.sent π) (a0 a1 : Nat) (s : State) (k : Keeps π s) :
    KeepsO π (execDvfsEvaluate a0 a1 s) := by
  unfold execDvfsEvaluate
  repeat' (first
    | with_reducible assumption
    | intro _
    | (with_reducible first
        | apply keeps_ite | apply keeps_ite_snd | apply keepsO_next | apply keepsO_ite | apply keepsO_dite
        | apply kept_wantLevel)
    | split)

theorem kept_execPllRelockSwitchBack (igNow : Ignores.now π) (igClocks : Ignores.clocks π) (igQuartz : Ignores.quartz
  π) (a0 : Fin 8) (s : State) (k : Keeps π s) :
    KeepsO π (execPllRelockSwitchBack a0 s) := by
  unfold execPllRelockSwitchBack
  repeat' (first
    | with_reducible assumption
    | intro _
    | (with_reducible first
        | apply keeps_ite | apply keeps_ite_snd | apply keepsO_next | apply keepsO_ite | apply keepsO_dite
        | apply kept_toPll | apply kept_until_)
    | split)

theorem kept_execVdoneTimeout (igNow : Ignores.now π) (igOd : Ignores.od π) (igControl : Ignores.control π) (igClocks
  : Ignores.clocks π) (igNvm : Ignores.nvm π) (igQuartz : Ignores.quartz π) (igSent : Ignores.sent π) (s : State) (k :
  Keeps π s) :
    KeepsO π (execVdoneTimeout s) := by
  unfold execVdoneTimeout
  repeat' (first
    | with_reducible assumption
    | intro _
    | (with_reducible first
        | apply keeps_ite | apply keeps_ite_snd | apply keepsO_next | apply keepsO_ite | apply keepsO_dite
        | apply kept_failLevel | apply kept_raise | apply kept_pass)
    | split)

theorem kept_execForcedClockSwitch (igNow : Ignores.now π) (igOd : Ignores.od π) (igControl : Ignores.control π)
  (igClocks : Ignores.clocks π) (igNvm : Ignores.nvm π) (igQuartz : Ignores.quartz π) (igSent : Ignores.sent π) (a0 :
  Fin 60) (a1 : List (BitVec 7)) (s : State) (k : Keeps π s) :
    KeepsO π (execForcedClockSwitch a0 a1 s) := by
  unfold execForcedClockSwitch
  repeat' (first
    | with_reducible assumption
    | intro _
    | (with_reducible first
        | apply keeps_ite | apply keeps_ite_snd | apply keepsO_next | apply keepsO_ite | apply keepsO_dite
        | apply kept_clockStep | apply kept_forceSwitch | apply kept_pass)
    | split)

theorem kept_execClockSwitchComplete (igOd : Ignores.od π) (igClocks : Ignores.clocks π) (igSent : Ignores.sent π) (a0
  : Fin 60) (s : State) (k : Keeps π s) :
    KeepsO π (execClockSwitchComplete a0 s) := by
  unfold execClockSwitchComplete
  repeat' (first
    | with_reducible assumption
    | intro _
    | (with_reducible first
        | apply keeps_ite | apply keeps_ite_snd | apply keepsO_next | apply keepsO_ite | apply keepsO_dite
        | apply kept_clockStep | apply kept_withDomain)
    | split)

theorem kept_execFreqMeasureComplete (igNow : Ignores.now π) (igOd : Ignores.od π) (igClocks : Ignores.clocks π)
  (igQuartz : Ignores.quartz π) (a0 : BitVec 32) (s : State) (k : Keeps π s) :
    KeepsO π (execFreqMeasureComplete a0 s) := by
  unfold execFreqMeasureComplete
  repeat' (first
    | with_reducible assumption
    | intro _
    | (with_reducible first
        | apply keeps_ite | apply keeps_ite_snd | apply keepsO_next | apply keepsO_ite | apply keepsO_dite
        | apply kept_wrN | apply kept_pass | apply kept_publish | apply kept_withClocks)
    | split)

theorem kept_execClockGateClose (igClocks : Ignores.clocks π) (a0 : Fin 60) (s : State) (k : Keeps π s) :
    KeepsO π (execClockGateClose a0 s) := by
  unfold execClockGateClose
  repeat' (first
    | with_reducible assumption
    | intro _
    | (with_reducible first
        | apply keeps_ite | apply keeps_ite_snd | apply keepsO_next | apply keepsO_ite | apply keepsO_dite
        | apply kept_withDomain))

theorem kept_execVdone (igOd : Ignores.od π) (igClocks : Ignores.clocks π) (igSent : Ignores.sent π) (s : State) (k :
  Keeps π s) :
    KeepsO π (execVdone s) := by
  unfold execVdone
  repeat' (first
    | with_reducible assumption
    | intro _
    | (with_reducible first
        | apply keeps_ite | apply keeps_ite_snd | apply keepsO_next | apply keepsO_ite | apply keepsO_dite
        | apply kept_advanceLevel)
    | split)

theorem kept_execXtalLoss (igOd : Ignores.od π) (igControl : Ignores.control π) (igClocks : Ignores.clocks π) (igNvm :
  Ignores.nvm π) (igSent : Ignores.sent π) (s : State) (k : Keeps π s) :
    KeepsO π (execXtalLoss s) := by
  unfold execXtalLoss
  repeat' (first
    | with_reducible assumption
    | intro _
    | (with_reducible first
        | apply keeps_ite | apply keeps_ite_snd | apply keepsO_next | apply keepsO_ite | apply keepsO_dite
        | apply kept_raise | apply kept_withClocks))

theorem kept_execClockGateOpen (igClocks : Ignores.clocks π) (a0 : Fin 60) (s : State) (k : Keeps π s) :
    KeepsO π (execClockGateOpen a0 s) := by
  unfold execClockGateOpen
  repeat' (first
    | with_reducible assumption
    | intro _
    | (with_reducible first
        | apply keeps_ite | apply keeps_ite_snd | apply keepsO_next | apply keepsO_ite | apply keepsO_dite
        | apply kept_withDomain))

theorem kept_execPllLockLoss (igOd : Ignores.od π) (igControl : Ignores.control π) (igClocks : Ignores.clocks π)
  (igNvm : Ignores.nvm π) (igSent : Ignores.sent π) (a0 : Fin 8) (s : State) (k : Keeps π s) :
    KeepsO π (execPllLockLoss a0 s) := by
  unfold execPllLockLoss
  repeat' (first
    | with_reducible assumption
    | intro _
    | (with_reducible first
        | apply keeps_ite | apply keeps_ite_snd | apply keepsO_next | apply keepsO_ite | apply keepsO_dite
        | apply keeps_foldl | apply kept_withClocks | apply kept_beginSwitch | apply kept_raise | apply kept_bump))

theorem kept_withThermal (igThermal : Ignores.thermal π) (s : State) (a1 : Thermal → Thermal) (k : Keeps π s) :
    Keeps π (State.withThermal s a1) := by
  unfold State.withThermal
  repeat' (first
    | with_reducible assumption
    | intro _
    | (with_reducible first
        | apply keeps_ite | apply keeps_ite_snd)
    | split
    | simp -iota -proj only []
    | dsimp only
    | with_reducible apply keeps_set_thermal)

theorem kept_closeWindow (igOd : Ignores.od π) (igControl : Ignores.control π) (igThermal : Ignores.thermal π) (igNvm
  : Ignores.nvm π) (igSent : Ignores.sent π) (s : State) (a1 : Nat) (k : Keeps π s) :
    Keeps π (State.closeWindow s a1) := by
  unfold State.closeWindow
  repeat' (first
    | with_reducible assumption
    | intro _
    | (with_reducible first
        | apply keeps_ite | apply keeps_ite_snd | apply kept_deferCal | apply kept_raise | apply kept_withThermal
        | apply kept_wrB))

theorem kept_powerDomains (igClocks : Ignores.clocks π) (s : State) (a1 : Bool) (k : Keeps π s) :
    Keeps π (State.powerDomains s a1) := by
  unfold State.powerDomains
  repeat' (first
    | with_reducible assumption
    | intro _
    | (with_reducible first
        | apply keeps_ite | apply keeps_ite_snd | apply kept_withClocks))

theorem kept_tripRole (igOd : Ignores.od π) (igControl : Ignores.control π) (igNvm : Ignores.nvm π) (igQuartz :
  Ignores.quartz π) (igTile : Ignores.tile π) (igVideo : Ignores.video π) (igLamps : Ignores.lamps π) (igSent :
  Ignores.sent π) (s : State) (k : Keeps π s) :
    Keeps π (State.tripRole s) := by
  unfold State.tripRole
  repeat' (first
    | with_reducible assumption
    | intro _
    | (with_reducible first
        | apply keeps_ite | apply keeps_ite_snd | apply kept_raise | apply kept_emit | apply kept_stopPresenting
        | apply kept_withQuartz)
    | split
    | simp -iota -proj only []
    | dsimp only
    | with_reducible apply keeps_set_tile_lamps)

theorem kept_execThermalTrip (igLife : Ignores.life π) (igOd : Ignores.od π) (igControl : Ignores.control π) (igClocks
  : Ignores.clocks π) (igThermal : Ignores.thermal π) (igNvm : Ignores.nvm π) (igQuartz : Ignores.quartz π) (igTile :
  Ignores.tile π) (igVideo : Ignores.video π) (igLamps : Ignores.lamps π) (igSent : Ignores.sent π) (a0 : Vector Int
  8) (s : State) (k : Keeps π s) :
    KeepsO π (execThermalTrip a0 s) := by
  unfold execThermalTrip
  repeat' (first
    | with_reducible assumption
    | intro _
    | (with_reducible first
        | apply keeps_ite | apply keeps_ite_snd | apply keepsO_next | apply keepsO_ite | apply keepsO_dite
        | apply kept_withThermal | apply kept_withClocks | apply kept_bump | apply kept_emit | apply kept_powerDomains
        | apply kept_raiseWith | apply kept_closeWindow | apply kept_tripRole)
    | split
    | simp -iota -proj only []
    | dsimp only
    | with_reducible apply keeps_set_life)

theorem kept_countCool (igThermal : Ignores.thermal π) (s : State) (k : Keeps π s) :
    Keeps π (State.countCool s) := by
  unfold State.countCool
  repeat' (first
    | with_reducible assumption
    | intro _
    | (with_reducible first
        | apply keeps_ite | apply keeps_ite_snd | apply kept_withThermal)
    | split)

theorem kept_publishRound (igOd : Ignores.od π) (igControl : Ignores.control π) (igThermal : Ignores.thermal π) (igNvm
  : Ignores.nvm π) (igSent : Ignores.sent π) (igFreeCount : Ignores.freeCount π) (s : State) (a1 : Nat → Option Int)
  (k : Keeps π s) :
    Keeps π (State.publishRound s a1) := by
  unfold State.publishRound
  repeat' (first
    | with_reducible assumption
    | intro _
    | (with_reducible first
        | apply keeps_ite | apply keeps_ite_snd | apply keeps_foldl | apply kept_freeNat | apply kept_withThermal
        | apply kept_wrN | apply kept_bump | apply kept_raise)
    | split)

theorem kept_lampTemp (igOd : Ignores.od π) (igControl : Ignores.control π) (igNvm : Ignores.nvm π) (igVideo :
  Ignores.video π) (igSent : Ignores.sent π) (s : State) (a1 : Fin 64) (k : Keeps π s) :
    Keeps π (State.lampTemp s a1) := by
  unfold State.lampTemp
  repeat' (first
    | with_reducible assumption
    | intro _
    | (with_reducible first
        | apply keeps_ite | apply keeps_ite_snd | apply kept_withColour | apply kept_raiseIf))

theorem kept_lampTemps (igOd : Ignores.od π) (igControl : Ignores.control π) (igNvm : Ignores.nvm π) (igVideo :
  Ignores.video π) (igSent : Ignores.sent π) (s : State) (k : Keeps π s) :
    Keeps π (State.lampTemps s) := by
  unfold State.lampTemps
  repeat' (first
    | with_reducible assumption
    | intro _
    | (with_reducible first
        | apply keeps_ite | apply keeps_ite_snd | apply keeps_foldl | apply kept_lampTemp | apply kept_withColour))

theorem kept_flashWindow (igOd : Ignores.od π) (igControl : Ignores.control π) (igThermal : Ignores.thermal π) (igNvm
  : Ignores.nvm π) (igSent : Ignores.sent π) (s : State) (k : Keeps π s) :
    Keeps π (State.flashWindow s) := by
  unfold State.flashWindow
  repeat' (first
    | with_reducible assumption
    | intro _
    | (with_reducible first
        | apply keeps_ite | apply keeps_ite_snd | apply kept_closeWindow | apply kept_issueFlash | apply kept_wrB
        | apply kept_withThermal | apply kept_raise))

theorem kept_boardTemp (igOd : Ignores.od π) (igControl : Ignores.control π) (igThermal : Ignores.thermal π) (igNvm :
  Ignores.nvm π) (igSent : Ignores.sent π) (s : State) (k : Keeps π s) :
    Keeps π (State.boardTemp s) := by
  unfold State.boardTemp
  repeat' (first
    | with_reducible assumption
    | intro _
    | (with_reducible first
        | apply keeps_ite | apply keeps_ite_snd | apply kept_wrI | apply kept_withThermal | apply kept_raise)
    | split
    | simp -iota -proj only [])

theorem kept_dieEstimate (igOd : Ignores.od π) (igControl : Ignores.control π) (igThermal : Ignores.thermal π) (igNvm
  : Ignores.nvm π) (igSent : Ignores.sent π) (s : State) (k : Keeps π s) :
    Keeps π (State.dieEstimate s) := by
  unfold State.dieEstimate
  repeat' (first
    | with_reducible assumption
    | intro _
    | (with_reducible first
        | apply keeps_ite | apply keeps_ite_snd | apply kept_wrI | apply kept_withThermal | apply kept_raiseIf))

theorem kept_checkCore (igOd : Ignores.od π) (igControl : Ignores.control π) (igClocks : Ignores.clocks π) (igNvm :
  Ignores.nvm π) (igSent : Ignores.sent π) (s : State) (k : Keeps π s) :
    Keeps π (State.checkCore s) := by
  unfold State.checkCore
  repeat' (first
    | with_reducible assumption
    | intro _
    | (with_reducible first
        | apply keeps_ite | apply keeps_ite_snd | apply kept_wrI | apply kept_advanceLevel | apply kept_commandLevel
        | apply kept_withClocks | apply kept_raise | apply kept_startLevel)
    | split)

theorem kept_checkSupplies (igOd : Ignores.od π) (igControl : Ignores.control π) (igThermal : Ignores.thermal π)
  (igNvm : Ignores.nvm π) (igSent : Ignores.sent π) (s : State) (k : Keeps π s) :
    Keeps π (State.checkSupplies s) := by
  unfold State.checkSupplies
  repeat' (first
    | with_reducible assumption
    | intro _
    | (with_reducible first
        | apply keeps_ite | apply keeps_ite_snd | apply keeps_foldl | apply kept_withThermal | apply kept_raiseIf))

theorem kept_checkHoldup (igOd : Ignores.od π) (s : State) (k : Keeps π s) :
    Keeps π (State.checkHoldup s) := by
  unfold State.checkHoldup
  repeat' (first
    | with_reducible assumption
    | intro _
    | (with_reducible first
        | apply keeps_ite | apply keeps_ite_snd | apply kept_wrB))

theorem kept_calRound (igNvm : Ignores.nvm π) (s : State) (a1 : Vector (Option Int) 8) (k : Keeps π s) :
    Keeps π (State.calRound s a1) := by
  unfold State.calRound
  repeat' (first
    | exact fun h => h
    | exact canon_calRun _ _
    | exact fun h => flashPut_wf _ _ _ h
    | with_reducible assumption
    | intro _
    | (with_reducible first
        | apply keeps_ite | apply keeps_ite_snd)
    | split
    | simp -iota -proj only []
    | dsimp only
    | with_reducible apply keeps_set_nvm)

theorem kept_derateTarget (igOd : Ignores.od π) (igControl : Ignores.control π) (igThermal : Ignores.thermal π) (igNvm
  : Ignores.nvm π) (igSent : Ignores.sent π) (s : State) (k : Keeps π s) :
    Keeps π (State.derateTarget s) := by
  unfold State.derateTarget
  repeat' (first
    | with_reducible assumption
    | intro _
    | (with_reducible first
        | apply keeps_ite | apply keeps_ite_snd | apply kept_wrI | apply kept_withThermal | apply kept_raise))

theorem kept_execHkRound (igNow : Ignores.now π) (igOd : Ignores.od π) (igControl : Ignores.control π) (igClocks :
  Ignores.clocks π) (igThermal : Ignores.thermal π) (igNvm : Ignores.nvm π) (igQuartz : Ignores.quartz π) (igVideo :
  Ignores.video π) (igLamps : Ignores.lamps π) (igSent : Ignores.sent π) (igFreeCount : Ignores.freeCount π) (a0 :
  Vector (Option Int) 8) (a1 : Vector Nat 8) (a2 : Nat) (a3 : Option Int) (s : State) (k : Keeps π s) :
    KeepsO π (execHkRound a0 a1 a2 a3 s) := by
  unfold execHkRound
  repeat' (first
    | with_reducible assumption
    | intro _
    | (with_reducible first
        | apply keeps_ite | apply keeps_ite_snd | apply keepsO_next | apply keepsO_ite | apply keepsO_dite
        | apply kept_until_ | apply kept_drainDue | apply kept_publishRound | apply kept_derateTarget
        | apply kept_boardTemp | apply kept_dieEstimate | apply kept_calRound | apply kept_flashWindow
        | apply kept_countCool | apply kept_checkCore | apply kept_checkHoldup | apply kept_checkSupplies
        | apply kept_trackLevel | apply kept_lampTemps)
    | split
    | simp -iota -proj only []
    | dsimp only
    | with_reducible apply keeps_set_lamps)

theorem kept_takeTrims (igQuartz : Ignores.quartz π) (s : State) (k : Keeps π s) :
    Keeps π (State.takeTrims s) := by
  unfold State.takeTrims
  repeat' (first
    | with_reducible assumption
    | intro _
    | (with_reducible first
        | apply keeps_ite | apply keeps_ite_snd | apply kept_withQuartz))

theorem kept_sourceWrite (igOd : Ignores.od π) (igQuartz : Ignores.quartz π) (s : State) (a1 : Int) (k : Keeps π s) :
    Keeps π (State.sourceWrite s a1).2 := by
  unfold State.sourceWrite
  repeat' (first
    | with_reducible assumption
    | intro _
    | (with_reducible first
        | apply keeps_ite | apply keeps_ite_snd | apply kept_withQuartz | apply kept_wrI))

end Sys2Proof.Machine
end

