-- ==== Sys2Proof/Laws/KeptService.lean ====
section
/-! SUPPORT. What each operation can change, one lemma for each, in the words of `Keeps`: the redundancy, the resets, the service and update operations, the nonvolatile store, the ingress and the region map. -/

namespace Sys2Proof.Machine
open Host

variable {π : State → Prop}

theorem kept_sendReclaim (igLanes : Ignores.lanes π) (igPorts : Ignores.ports π) (igCascade : Ignores.cascade π)
  (igSent : Ignores.sent π) (s : State) (a1 : Fin 2) (a2 : Nat) (k : Keeps π s) :
    Keeps π (State.sendReclaim s a1 a2) := by
  unfold State.sendReclaim
  repeat' (first
    | with_reducible assumption
    | intro _
    | (with_reducible first
        | apply keeps_ite | apply keeps_ite_snd | apply kept_sendPeer | apply kept_withChain))

theorem kept_reclaimNowWrite (igLanes : Ignores.lanes π) (igPorts : Ignores.ports π) (igCascade : Ignores.cascade π)
  (igSent : Ignores.sent π) (s : State) (a1 : Fin 2) (a2 : Int) (k : Keeps π s) :
    Keeps π (State.reclaimNowWrite s a1 a2).2 := by
  unfold State.reclaimNowWrite
  repeat' (first
    | with_reducible assumption
    | intro _
    | (with_reducible first
        | apply keeps_ite | apply keeps_ite_snd | apply kept_sendReclaim))

theorem kept_maintenanceWrite (igOd : Ignores.od π) (igControl : Ignores.control π) (igNvm : Ignores.nvm π) (igPorts :
  Ignores.ports π) (igSent : Ignores.sent π) (s : State) (a1 : Fin 2) (a2 : Int) (k : Keeps π s) :
    Keeps π (State.maintenanceWrite s a1 a2).2 := by
  unfold State.maintenanceWrite
  repeat' (first
    | with_reducible assumption
    | intro _
    | (with_reducible first
        | apply keeps_ite | apply keeps_ite_snd | apply kept_wrI | apply kept_withChain | apply kept_bump
        | apply kept_setCState | apply kept_raise))

theorem kept_giveControl (igOd : Ignores.od π) (igControl : Ignores.control π) (igHostPort : Ignores.hostPort π)
  (igLanes : Ignores.lanes π) (igQuartz : Ignores.quartz π) (igPorts : Ignores.ports π) (igCascade : Ignores.cascade
  π) (igIngress : Ignores.ingress π) (igSent : Ignores.sent π) (s : State) (a1 : Fin 2) (k : Keeps π s) :
    Keeps π (State.giveControl s a1) := by
  unfold State.giveControl
  repeat' (first
    | with_reducible assumption
    | intro _
    | (with_reducible first
        | apply keeps_ite | apply keeps_ite_snd | apply kept_withChain | apply kept_dropGateway | apply kept_setCState))

theorem kept_keepControl (igNow : Ignores.now π) (igOd : Ignores.od π) (igControl : Ignores.control π) (igNvm :
  Ignores.nvm π) (igLanes : Ignores.lanes π) (igQuartz : Ignores.quartz π) (igPorts : Ignores.ports π) (igCascade :
  Ignores.cascade π) (igSent : Ignores.sent π) (s : State) (a1 : Fin 2) (k : Keeps π s) :
    Keeps π (State.keepControl s a1) := by
  unfold State.keepControl
  repeat' (first
    | with_reducible assumption
    | intro _
    | (with_reducible first
        | apply keeps_ite | apply keeps_ite_snd | apply kept_raise | apply kept_withChain | apply kept_sendTiming
        | apply kept_startDiscovery))

theorem kept_yieldControl (igOd : Ignores.od π) (igControl : Ignores.control π) (igNvm : Ignores.nvm π) (igHostPort :
  Ignores.hostPort π) (igLanes : Ignores.lanes π) (igQuartz : Ignores.quartz π) (igPorts : Ignores.ports π) (igCascade
  : Ignores.cascade π) (igIngress : Ignores.ingress π) (igSent : Ignores.sent π) (s : State) (a1 : Fin 2) (k : Keeps π
  s) :
    Keeps π (State.yieldControl s a1) := by
  unfold State.yieldControl
  repeat' (first
    | with_reducible assumption
    | intro _
    | (with_reducible first
        | apply keeps_ite | apply keeps_ite_snd | apply kept_raise | apply kept_giveControl))

theorem kept_dualControl (igNow : Ignores.now π) (igOd : Ignores.od π) (igControl : Ignores.control π) (igNvm :
  Ignores.nvm π) (igHostPort : Ignores.hostPort π) (igLanes : Ignores.lanes π) (igQuartz : Ignores.quartz π) (igPorts
  : Ignores.ports π) (igCascade : Ignores.cascade π) (igIngress : Ignores.ingress π) (igSent : Ignores.sent π) (s :
  State) (a1 : Fin 2) (k : Keeps π s) :
    Keeps π (State.dualControl s a1) := by
  unfold State.dualControl
  repeat' (first
    | with_reducible assumption
    | intro _
    | (with_reducible first
        | apply keeps_ite | apply keeps_ite_snd | apply kept_keepControl | apply kept_yieldControl))

theorem kept_answerRelinquish (igLanes : Ignores.lanes π) (igPorts : Ignores.ports π) (igCascade : Ignores.cascade π)
  (igSent : Ignores.sent π) (s : State) (a1 : Fin 2) (k : Keeps π s) :
    Keeps π (State.answerRelinquish s a1) := by
  unfold State.answerRelinquish
  repeat' (first
    | with_reducible assumption
    | intro _
    | (with_reducible first
        | apply keeps_ite | apply keeps_ite_snd | apply kept_sendPeer | apply kept_withChain))

theorem kept_meetPeer (igNow : Ignores.now π) (igOd : Ignores.od π) (igControl : Ignores.control π) (igNvm :
  Ignores.nvm π) (igHostPort : Ignores.hostPort π) (igLanes : Ignores.lanes π) (igQuartz : Ignores.quartz π) (igPorts
  : Ignores.ports π) (igCascade : Ignores.cascade π) (igIngress : Ignores.ingress π) (igSent : Ignores.sent π) (s :
  State) (a1 : Fin 2) (a2 : Option Nat) (a3 : List Byte) (k : Keeps π s) :
    Keeps π (State.meetPeer s a1 a2 a3) := by
  unfold State.meetPeer
  repeat' (first
    | with_reducible assumption
    | intro _
    | (with_reducible first
        | apply keeps_ite | apply keeps_ite_snd | apply kept_giveControl | apply kept_dualControl
        | apply kept_answerRelinquish | apply kept_judgeStandby)
    | split
    | simp -iota -proj only [])

theorem kept_hearPeer (igNow : Ignores.now π) (igOd : Ignores.od π) (igControl : Ignores.control π) (igNvm :
  Ignores.nvm π) (igHostPort : Ignores.hostPort π) (igLanes : Ignores.lanes π) (igQuartz : Ignores.quartz π) (igPorts
  : Ignores.ports π) (igCascade : Ignores.cascade π) (igIngress : Ignores.ingress π) (igSent : Ignores.sent π) (s :
  State) (a1 : Fin 2) (a2 : List Byte) (k : Keeps π s) :
    Keeps π (State.hearPeer s a1 a2) := by
  unfold State.hearPeer
  repeat' (first
    | with_reducible assumption
    | intro _
    | (with_reducible first
        | apply keeps_ite | apply keeps_ite_snd | apply kept_withChain | apply kept_wrN | apply kept_raiseIf
        | apply kept_setCState | apply kept_meetPeer))

theorem kept_takeControl (igNow : Ignores.now π) (igOd : Ignores.od π) (igControl : Ignores.control π) (igNvm :
  Ignores.nvm π) (igLanes : Ignores.lanes π) (igQuartz : Ignores.quartz π) (igPorts : Ignores.ports π) (igCascade :
  Ignores.cascade π) (igSent : Ignores.sent π) (s : State) (a1 : Fin 2) (a2 : Nat) (k : Keeps π s) :
    Keeps π (State.takeControl s a1 a2) := by
  unfold State.takeControl
  repeat' (first
    | with_reducible assumption
    | intro _
    | (with_reducible first
        | apply keeps_ite | apply keeps_ite_snd | apply kept_setCState | apply kept_withChain | apply kept_wrN
        | apply kept_raise | apply kept_bump | apply kept_sendTiming | apply kept_startDiscovery))

theorem kept_runApart (igNow : Ignores.now π) (igOd : Ignores.od π) (igControl : Ignores.control π) (igNvm :
  Ignores.nvm π) (igHostPort : Ignores.hostPort π) (igLanes : Ignores.lanes π) (igQuartz : Ignores.quartz π) (igPorts
  : Ignores.ports π) (igCascade : Ignores.cascade π) (igIngress : Ignores.ingress π) (igSent : Ignores.sent π) (s :
  State) (a1 : Fin 2) (a2 : List Byte) (k : Keeps π s) :
    Keeps π (State.runApart s a1 a2) := by
  unfold State.runApart
  repeat' (first
    | with_reducible assumption
    | intro _
    | (with_reducible first
        | apply keeps_ite | apply keeps_ite_snd | apply kept_keepControl | apply kept_takeControl
        | apply kept_yieldControl | apply kept_giveControl))

theorem kept_healthThroughRing (igNow : Ignores.now π) (igOd : Ignores.od π) (igControl : Ignores.control π) (igNvm :
  Ignores.nvm π) (igHostPort : Ignores.hostPort π) (igLanes : Ignores.lanes π) (igQuartz : Ignores.quartz π) (igPorts
  : Ignores.ports π) (igCascade : Ignores.cascade π) (igIngress : Ignores.ingress π) (igSent : Ignores.sent π) (s :
  State) (a1 : Fin 2) (a2 : List Byte) (k : Keeps π s) :
    Keeps π (State.healthThroughRing s a1 a2) := by
  unfold State.healthThroughRing
  repeat' (first
    | with_reducible assumption
    | intro _
    | (with_reducible first
        | apply keeps_ite | apply keeps_ite_snd | apply kept_withChain | apply kept_hearPeer | apply kept_runApart
        | apply kept_raiseIf))

theorem kept_tileReport (igQuartz : Ignores.quartz π) (igPorts : Ignores.ports π) (s : State) (a1 : Fin 2) (a2 : List
  Byte) (k : Keeps π s) :
    Keeps π (State.tileReport s a1 a2) := by
  unfold State.tileReport
  repeat' (first
    | with_reducible assumption
    | intro _
    | (with_reducible first
        | apply keeps_ite | apply keeps_ite_snd | apply kept_withQuartz | apply kept_withChain))

theorem kept_takeCtrl (igLanes : Ignores.lanes π) (igCascade : Ignores.cascade π) (igSent : Ignores.sent π) (s :
  State) (a1 : Fin 2) (a2 : CascadeUnit) (a3 : Nat) (k : Keeps π s) :
    Keeps π (State.takeCtrl s a1 a2 a3).2 := by
  unfold State.takeCtrl
  repeat' (first
    | with_reducible assumption
    | intro _
    | (with_reducible first
        | apply keeps_ite | apply keeps_ite_snd | apply kept_takeUnit))

theorem kept_execDeferUnitReceive (igOd : Ignores.od π) (igControl : Ignores.control π) (igNvm : Ignores.nvm π)
  (igLanes : Ignores.lanes π) (igPorts : Ignores.ports π) (igCascade : Ignores.cascade π) (igSent : Ignores.sent π)
  (a0 : Fin 2) (a1 : CascadeUnit) (s : State) (k : Keeps π s) :
    KeepsO π (execDeferUnitReceive a0 a1 s) := by
  unfold execDeferUnitReceive
  repeat' (first
    | with_reducible assumption
    | intro _
    | (with_reducible first
        | apply keeps_ite | apply keeps_ite_snd | apply keepsO_next | apply keepsO_ite | apply keepsO_dite
        | apply kept_takeCtrl | apply kept_withChain | apply kept_raise)
    | split
    | simp -iota -proj only []
    | (refine keeps_pair ?_ (by with_reducible assumption)))

theorem kept_compareStream (igOd : Ignores.od π) (igControl : Ignores.control π) (igNvm : Ignores.nvm π) (igPorts :
  Ignores.ports π) (igSent : Ignores.sent π) (s : State) (a1 : Fin 2) (a2 : List Byte) (a3 : Fin 32) (k : Keeps π s) :
    Keeps π (State.compareStream s a1 a2 a3) := by
  unfold State.compareStream
  repeat' (first
    | with_reducible assumption
    | intro _
    | (with_reducible first
        | apply keeps_ite | apply keeps_ite_snd | apply kept_withChain | apply kept_raise))

theorem kept_execChecksumUnitReceive (igOd : Ignores.od π) (igControl : Ignores.control π) (igNvm : Ignores.nvm π)
  (igLanes : Ignores.lanes π) (igPorts : Ignores.ports π) (igCascade : Ignores.cascade π) (igSent : Ignores.sent π)
  (a0 : Fin 2) (a1 : CascadeUnit) (s : State) (k : Keeps π s) :
    KeepsO π (execChecksumUnitReceive a0 a1 s) := by
  unfold execChecksumUnitReceive
  repeat' (first
    | with_reducible assumption
    | intro _
    | (with_reducible first
        | apply keeps_ite | apply keeps_ite_snd | apply keepsO_next | apply keepsO_ite | apply keepsO_dite
        | apply keeps_foldl | apply kept_takeCtrl | apply kept_withChain | apply kept_compareStream | apply kept_bump
        | apply kept_wrN)
    | split
    | simp -iota -proj only []
    | (refine keeps_pair ?_ (by with_reducible assumption)))

theorem kept_keepDerate (igVideo : Ignores.video π) (s : State) (a1 : Nat × Nat) (k : Keeps π s) :
    Keeps π (State.keepDerate s a1) := by
  unfold State.keepDerate
  repeat' (first
    | with_reducible assumption
    | intro _
    | (with_reducible first
        | apply keeps_ite | apply keeps_ite_snd)
    | split
    | simp -iota -proj only []
    | dsimp only
    | with_reducible apply keeps_set_video)

theorem kept_derateFrame (igOd : Ignores.od π) (igControl : Ignores.control π) (igNvm : Ignores.nvm π) (igLanes :
  Ignores.lanes π) (igCascade : Ignores.cascade π) (igVideo : Ignores.video π) (igSent : Ignores.sent π) (s : State)
  (k : Keeps π s) :
    Keeps π (State.derateFrame s) := by
  unfold State.derateFrame
  repeat' (first
    | with_reducible assumption
    | intro _
    | (with_reducible first
        | apply keeps_ite | apply keeps_ite_snd | apply keeps_foldl | apply kept_sendCtrl | apply kept_wrN
        | apply kept_keepDerate | apply kept_raiseLimited))

theorem kept_standbyPeriod (igNow : Ignores.now π) (igOd : Ignores.od π) (igControl : Ignores.control π) (igNvm :
  Ignores.nvm π) (igLanes : Ignores.lanes π) (igQuartz : Ignores.quartz π) (igPorts : Ignores.ports π) (igCascade :
  Ignores.cascade π) (igSent : Ignores.sent π) (s : State) (a1 : Fin 2) (a2 : Bool) (k : Keeps π s) :
    Keeps π (State.standbyPeriod s a1 a2) := by
  unfold State.standbyPeriod
  repeat' (first
    | with_reducible assumption
    | intro _
    | (with_reducible first
        | apply keeps_ite | apply keeps_ite_snd | apply kept_answerRelinquish | apply kept_judgeStandby
        | apply kept_sendPeer | apply kept_withChain | apply kept_raise | apply kept_takeControl
        | apply kept_sendReclaim))

theorem kept_controlPeriod (igNow : Ignores.now π) (igOd : Ignores.od π) (igControl : Ignores.control π) (igNvm :
  Ignores.nvm π) (igHostPort : Ignores.hostPort π) (igLanes : Ignores.lanes π) (igQuartz : Ignores.quartz π) (igPorts
  : Ignores.ports π) (igCascade : Ignores.cascade π) (igIngress : Ignores.ingress π) (igSent : Ignores.sent π) (s :
  State) (a1 : Fin 2) (a2 : Bool) (a3 : Nat) (k : Keeps π s) :
    Keeps π (State.controlPeriod s a1 a2 a3) := by
  unfold State.controlPeriod
  repeat' (first
    | with_reducible assumption
    | intro _
    | (with_reducible first
        | apply keeps_ite | apply keeps_ite_snd | apply kept_setCState | apply kept_giveControl | apply kept_bump
        | apply kept_raise | apply kept_standbyPeriod)
    | split)

theorem kept_diagPort (igNow : Ignores.now π) (igOd : Ignores.od π) (igControl : Ignores.control π) (igNvm :
  Ignores.nvm π) (igHostPort : Ignores.hostPort π) (igLanes : Ignores.lanes π) (igQuartz : Ignores.quartz π) (igPorts
  : Ignores.ports π) (igCascade : Ignores.cascade π) (igIngress : Ignores.ingress π) (igSent : Ignores.sent π) (s :
  State) (a1 : Fin 2) (a2 a3 : Bool) (k : Keeps π s) :
    Keeps π (State.diagPort s a1 a2 a3) := by
  unfold State.diagPort
  repeat' (first
    | with_reducible assumption
    | intro _
    | (with_reducible first
        | apply keeps_ite | apply keeps_ite_snd | apply kept_withChain | apply kept_wrN | apply kept_controlPeriod))

theorem kept_becomeMaster (igLanes : Ignores.lanes π) (igQuartz : Ignores.quartz π) (igCascade : Ignores.cascade π)
  (igSent : Ignores.sent π) (s : State) (k : Keeps π s) :
    Keeps π (State.becomeMaster s) := by
  unfold State.becomeMaster
  repeat' (first
    | with_reducible assumption
    | intro _
    | (with_reducible first
        | apply keeps_ite | apply keeps_ite_snd | apply kept_sendPresence | apply kept_withCascade
        | apply kept_withQuartz))

theorem kept_returnMaster (igCascade : Ignores.cascade π) (s : State) (a1 : Bool) (k : Keeps π s) :
    Keeps π (State.returnMaster s a1) := by
  unfold State.returnMaster
  repeat' (first
    | with_reducible assumption
    | intro _
    | (with_reducible first
        | apply keeps_ite | apply keeps_ite_snd | apply kept_withCascade)
    | split)

theorem kept_elect (igOd : Ignores.od π) (igControl : Ignores.control π) (igNvm : Ignores.nvm π) (igLanes :
  Ignores.lanes π) (igQuartz : Ignores.quartz π) (igCascade : Ignores.cascade π) (igSent : Ignores.sent π) (s : State)
  (a1 : Bool) (k : Keeps π s) :
    Keeps π (State.elect s a1) := by
  unfold State.elect
  repeat' (first
    | with_reducible assumption
    | intro _
    | (with_reducible first
        | apply keeps_ite | apply keeps_ite_snd | apply kept_withCascade | apply kept_returnMaster
        | apply kept_becomeMaster | apply kept_raise | apply kept_holdover))

theorem kept_execSelfDiagPeriod (igNow : Ignores.now π) (igOd : Ignores.od π) (igControl : Ignores.control π) (igNvm :
  Ignores.nvm π) (igHostPort : Ignores.hostPort π) (igLanes : Ignores.lanes π) (igQuartz : Ignores.quartz π) (igPorts
  : Ignores.ports π) (igCascade : Ignores.cascade π) (igIngress : Ignores.ingress π) (igSent : Ignores.sent π) (a0 a1
  : Bool) (s : State) (k : Keeps π s) :
    KeepsO π (execSelfDiagPeriod a0 a1 s) := by
  unfold execSelfDiagPeriod
  repeat' (first
    | with_reducible assumption
    | intro _
    | (with_reducible first
        | apply keeps_ite | apply keeps_ite_snd | apply keepsO_next | apply keepsO_ite | apply keepsO_dite
        | apply kept_untilPhase | apply kept_quartzLock | apply kept_withCascade | apply kept_elect
        | apply kept_diagPort))

theorem kept_execPeerCheck (igNow : Ignores.now π) (igOd : Ignores.od π) (igControl : Ignores.control π) (igNvm :
  Ignores.nvm π) (igLanes : Ignores.lanes π) (igQuartz : Ignores.quartz π) (igPorts : Ignores.ports π) (igCascade :
  Ignores.cascade π) (igSent : Ignores.sent π) (a0 : Fin 2) (s : State) (k : Keeps π s) :
    KeepsO π (execPeerCheck a0 s) := by
  unfold execPeerCheck
  repeat' (first
    | with_reducible assumption
    | intro _
    | (with_reducible first
        | apply keeps_ite | apply keeps_ite_snd | apply keepsO_next | apply keepsO_ite | apply keepsO_dite
        | apply kept_untilPhase | apply kept_wrN | apply kept_withChain | apply kept_raise | apply kept_takeControl))

theorem kept_execReclaimAnswerTimeout (igNow : Ignores.now π) (igOd : Ignores.od π) (igControl : Ignores.control π)
  (igNvm : Ignores.nvm π) (igLanes : Ignores.lanes π) (igQuartz : Ignores.quartz π) (igPorts : Ignores.ports π)
  (igCascade : Ignores.cascade π) (igSent : Ignores.sent π) (a0 : Fin 2) (s : State) (k : Keeps π s) :
    KeepsO π (execReclaimAnswerTimeout a0 s) := by
  unfold execReclaimAnswerTimeout
  repeat' (first
    | with_reducible assumption
    | intro _
    | (with_reducible first
        | apply keeps_ite | apply keeps_ite_snd | apply keepsO_next | apply keepsO_ite | apply keepsO_dite
        | apply kept_withChain | apply kept_until_ | apply kept_sendReclaim | apply kept_raise)
    | split)

theorem kept_ringCheck (igOd : Ignores.od π) (igControl : Ignores.control π) (igNvm : Ignores.nvm π) (igSent :
  Ignores.sent π) (s : State) (a1 : Fin 2) (k : Keeps π s) :
    Keeps π (State.ringCheck s a1) := by
  unfold State.ringCheck
  repeat' (first
    | with_reducible assumption
    | intro _
    | (with_reducible first
        | apply keeps_ite | apply keeps_ite_snd | apply kept_raise | apply kept_wrN))

theorem kept_execHealthSend (igNow : Ignores.now π) (igOd : Ignores.od π) (igControl : Ignores.control π) (igNvm :
  Ignores.nvm π) (igLanes : Ignores.lanes π) (igQuartz : Ignores.quartz π) (igPorts : Ignores.ports π) (igCascade :
  Ignores.cascade π) (igSent : Ignores.sent π) (a0 : Fin 2) (s : State) (k : Keeps π s) :
    KeepsO π (execHealthSend a0 s) := by
  unfold execHealthSend
  repeat' (first
    | with_reducible assumption
    | intro _
    | (with_reducible first
        | apply keeps_ite | apply keeps_ite_snd | apply keepsO_next | apply keepsO_ite | apply keepsO_dite
        | apply kept_untilPhase | apply kept_withChain | apply kept_ringCheck | apply kept_sendPeer))

theorem kept_execControlStart (igNow : Ignores.now π) (igOd : Ignores.od π) (igControl : Ignores.control π) (igNvm :
  Ignores.nvm π) (igHostPort : Ignores.hostPort π) (igLanes : Ignores.lanes π) (igQuartz : Ignores.quartz π) (igPorts
  : Ignores.ports π) (igCascade : Ignores.cascade π) (igIngress : Ignores.ingress π) (igSent : Ignores.sent π) (a0 :
  Fin 2) (s : State) (k : Keeps π s) :
    KeepsO π (execControlStart a0 s) := by
  unfold execControlStart
  repeat' (first
    | with_reducible assumption
    | intro _
    | (with_reducible first
        | apply keeps_ite | apply keeps_ite_snd | apply keepsO_next | apply keepsO_ite | apply keepsO_dite
        | apply kept_untilWall | apply kept_takeControl | apply kept_withChain | apply kept_giveControl)
    | split)

theorem kept_execReclaimUnitReceive (igLanes : Ignores.lanes π) (igPorts : Ignores.ports π) (igCascade :
  Ignores.cascade π) (igSent : Ignores.sent π) (a0 : Fin 2) (a1 : CascadeUnit) (s : State) (k : Keeps π s) :
    KeepsO π (execReclaimUnitReceive a0 a1 s) := by
  unfold execReclaimUnitReceive
  repeat' (first
    | with_reducible assumption
    | intro _
    | (with_reducible first
        | apply keeps_ite | apply keeps_ite_snd | apply keepsO_next | apply keepsO_ite | apply keepsO_dite
        | apply kept_takeCtrl | apply kept_sendPeer | apply kept_withChain)
    | split
    | simp -iota -proj only []
    | (refine keeps_pair ?_ (by with_reducible assumption)))

theorem kept_execCancelUnitReceive (igOd : Ignores.od π) (igControl : Ignores.control π) (igNvm : Ignores.nvm π)
  (igLanes : Ignores.lanes π) (igPorts : Ignores.ports π) (igCascade : Ignores.cascade π) (igSent : Ignores.sent π)
  (a0 : Fin 2) (a1 : CascadeUnit) (s : State) (k : Keeps π s) :
    KeepsO π (execCancelUnitReceive a0 a1 s) := by
  unfold execCancelUnitReceive
  repeat' (first
    | with_reducible assumption
    | intro _
    | (with_reducible first
        | apply keeps_ite | apply keeps_ite_snd | apply keepsO_next | apply keepsO_ite | apply keepsO_dite
        | apply kept_takeCtrl | apply kept_withChain | apply kept_raise)
    | split
    | simp -iota -proj only []
    | (refine keeps_pair ?_ (by with_reducible assumption)))

theorem kept_execDerateUnitReceive (igLanes : Ignores.lanes π) (igCascade : Ignores.cascade π) (igVideo :
  Ignores.video π) (igSent : Ignores.sent π) (a0 : Fin 2) (a1 : CascadeUnit) (s : State) (k : Keeps π s) :
    KeepsO π (execDerateUnitReceive a0 a1 s) := by
  unfold execDerateUnitReceive
  repeat' (first
    | with_reducible assumption
    | intro _
    | (with_reducible first
        | apply keeps_ite | apply keeps_ite_snd | apply keepsO_next | apply keepsO_ite | apply keepsO_dite
        | apply kept_takeUnit | apply kept_withCascade | apply kept_keepDerate))

theorem kept_execAckUnitReceive (igLanes : Ignores.lanes π) (igPorts : Ignores.ports π) (igCascade : Ignores.cascade
  π) (igSent : Ignores.sent π) (a0 : Fin 2) (a1 : CascadeUnit) (s : State) (k : Keeps π s) :
    KeepsO π (execAckUnitReceive a0 a1 s) := by
  unfold execAckUnitReceive
  repeat' (first
    | with_reducible assumption
    | intro _
    | (with_reducible first
        | apply keeps_ite | apply keeps_ite_snd | apply keepsO_next | apply keepsO_ite | apply keepsO_dite
        | apply kept_takeCtrl | apply kept_withChain)
    | split
    | simp -iota -proj only []
    | (refine keeps_pair ?_ (by with_reducible assumption)))

theorem kept_execTakeUnitReceive (igLanes : Ignores.lanes π) (igPorts : Ignores.ports π) (igCascade : Ignores.cascade
  π) (igSent : Ignores.sent π) (a0 : Fin 2) (a1 : CascadeUnit) (s : State) (k : Keeps π s) :
    KeepsO π (execTakeUnitReceive a0 a1 s) := by
  unfold execTakeUnitReceive
  repeat' (first
    | with_reducible assumption
    | intro _
    | (with_reducible first
        | apply keeps_ite | apply keeps_ite_snd | apply keepsO_next | apply keepsO_ite | apply keepsO_dite
        | apply kept_takeCtrl | apply kept_withChain)
    | split
    | simp -iota -proj only []
    | (refine keeps_pair ?_ (by with_reducible assumption)))

theorem kept_execDeterminismChecksum (igLanes : Ignores.lanes π) (igCascade : Ignores.cascade π) (igSent :
  Ignores.sent π) (a0 : Fin 2) (s : State) (k : Keeps π s) :
    KeepsO π (execDeterminismChecksum a0 s) := by
  unfold execDeterminismChecksum
  repeat' (first
    | with_reducible assumption
    | intro _
    | (with_reducible first
        | apply keeps_ite | apply keeps_ite_snd | apply keepsO_next | apply keepsO_ite | apply keepsO_dite
        | apply kept_sendPeer))

theorem kept_execDeferRetry (igNow : Ignores.now π) (igLanes : Ignores.lanes π) (igQuartz : Ignores.quartz π) (igPorts
  : Ignores.ports π) (igCascade : Ignores.cascade π) (igSent : Ignores.sent π) (a0 : Fin 2) (s : State) (k : Keeps π
  s) :
    KeepsO π (execDeferRetry a0 s) := by
  unfold execDeferRetry
  repeat' (first
    | with_reducible assumption
    | intro _
    | (with_reducible first
        | apply keeps_ite | apply keeps_ite_snd | apply keepsO_next | apply keepsO_ite | apply keepsO_dite
        | apply kept_withChain | apply kept_until_ | apply kept_sendReclaim)
    | split)

theorem kept_execStatusUnitReceive (igNow : Ignores.now π) (igOd : Ignores.od π) (igControl : Ignores.control π)
  (igNvm : Ignores.nvm π) (igHostPort : Ignores.hostPort π) (igLanes : Ignores.lanes π) (igQuartz : Ignores.quartz π)
  (igPorts : Ignores.ports π) (igCascade : Ignores.cascade π) (igIngress : Ignores.ingress π) (igSent : Ignores.sent
  π) (a0 : Fin 2) (a1 : CascadeUnit) (s : State) (k : Keeps π s) :
    KeepsO π (execStatusUnitReceive a0 a1 s) := by
  unfold execStatusUnitReceive
  repeat' (first
    | with_reducible assumption
    | intro _
    | (with_reducible first
        | apply keeps_ite | apply keeps_ite_snd | apply keepsO_next | apply keepsO_ite | apply keepsO_dite
        | apply kept_takeUnit | apply kept_hearPeer | apply kept_withChain)
    | split)

theorem kept_clearLatch (igThermal : Ignores.thermal π) (igSent : Ignores.sent π) (s : State) (k : Keeps π s) :
    Keeps π (State.clearLatch s) := by
  unfold State.clearLatch
  repeat' (first
    | with_reducible assumption
    | intro _
    | (with_reducible first
        | apply keeps_ite | apply keeps_ite_snd | apply kept_emit | apply kept_withThermal))

theorem kept_warmEngine (igOd : Ignores.od π) (igLamps : Ignores.lamps π) (igSent : Ignores.sent π) (s : State) (a1 :
  Fin 64) (k : Keeps π s) :
    Keeps π (State.warmEngine s a1) := by
  unfold State.warmEngine
  repeat' (first
    | with_reducible assumption
    | intro _
    | (with_reducible first
        | apply keeps_ite | apply keeps_ite_snd | apply kept_withEngine | apply kept_complementLine
        | apply kept_withPort | apply kept_finishFrame | apply kept_enumerate | apply kept_request))

theorem kept_dropRuns (igOd : Ignores.od π) (igLanes : Ignores.lanes π) (s : State) (k : Keeps π s) :
    Keeps π (State.dropRuns s) := by
  unfold State.dropRuns
  repeat' (first
    | exact canon_wr _ _ _ _
    | exact canon_filter _ _
    | exact canon_reload _ _ _
    | exact canon_nil _
    | exact canon_rekeyed _
    | with_reducible assumption
    | intro _
    | (with_reducible first
        | apply keeps_ite | apply keeps_ite_snd | apply keeps_foldl | apply kept_failTest)
    | split
    | simp -iota -proj only []
    | dsimp only
    | with_reducible apply keeps_set_od_lanes)

theorem kept_warmParts (igLife : Ignores.life π) (igNvm : Ignores.nvm π) (igUpdate : Ignores.update π) (igTile :
  Ignores.tile π) (igPorts : Ignores.ports π) (igCascade : Ignores.cascade π) (igIngress : Ignores.ingress π) (igVideo
  : Ignores.video π) (igLamps : Ignores.lamps π) (s : State) (k : Keeps π s) :
    Keeps π (State.warmParts s) := by
  unfold State.warmParts
  repeat' (first
    | exact fun h => h
    | exact canon_calRun _ _
    | exact fun h => flashPut_wf _ _ _ h
    | with_reducible assumption
    | intro _
    | (with_reducible first
        | apply keeps_ite | apply keeps_ite_snd)
    | split
    | simp -iota -proj only []
    | dsimp only
    | with_reducible apply keeps_set_life_nvm_update_tile_ports_cascade_ingress_video_lamps)

theorem kept_warmBeat (igOd : Ignores.od π) (igBeat : Ignores.beat π) (s : State) (k : Keeps π s) :
    Keeps π (State.warmBeat s) := by
  unfold State.warmBeat
  repeat' (first
    | with_reducible assumption
    | intro _
    | (with_reducible first
        | apply keeps_ite | apply keeps_ite_snd | apply kept_withBeat | apply kept_wrN))

theorem kept_clearRed (igOd : Ignores.od π) (igPorts : Ignores.ports π) (s : State) (a1 : Fin 2) (k : Keeps π s) :
    Keeps π (State.clearRed s a1) := by
  unfold State.clearRed
  repeat' (first
    | with_reducible assumption
    | intro _
    | (with_reducible first
        | apply keeps_ite | apply keeps_ite_snd | apply kept_setCState | apply kept_wrN | apply kept_zero))

theorem kept_beginWarm (igLife : Ignores.life π) (igOd : Ignores.od π) (igControl : Ignores.control π) (igClocks :
  Ignores.clocks π) (igNvm : Ignores.nvm π) (igUpdate : Ignores.update π) (igBeat : Ignores.beat π) (igHostPort :
  Ignores.hostPort π) (igLanes : Ignores.lanes π) (igTile : Ignores.tile π) (igPorts : Ignores.ports π) (igCascade :
  Ignores.cascade π) (igIngress : Ignores.ingress π) (igVideo : Ignores.video π) (igLamps : Ignores.lamps π) (igSent :
  Ignores.sent π) (s : State) (a1 : Nat) (k : Keeps π s) :
    Keeps π (State.beginWarm s a1) := by
  unfold State.beginWarm
  repeat' (first
    | with_reducible assumption
    | intro _
    | (with_reducible first
        | apply keeps_ite | apply keeps_ite_snd | apply keeps_foldl | apply kept_dropRuns | apply kept_bump
        | apply kept_wrN | apply kept_clearRed | apply kept_setPending | apply kept_warmParts | apply kept_warmBeat
        | apply kept_resetHostPort | apply kept_restartAccess | apply kept_resetMasters | apply kept_withClocks
        | apply kept_warmEngine | apply kept_startLevel))

theorem kept_settleFlash (igNvm : Ignores.nvm π) (igFreeCount : Ignores.freeCount π) (s : State) (a1 : Bool) (k :
  Keeps π s) :
    Keeps π (State.settleFlash s a1) := by
  unfold State.settleFlash
  repeat' (first
    | exact fun h => h
    | exact canon_calRun _ _
    | exact fun h => flashPut_wf _ _ _ h
    | with_reducible assumption
    | intro _
    | (with_reducible first
        | apply keeps_ite | apply keeps_ite_snd | apply kept_doStep | apply kept_withNvm)
    | split)

theorem kept_beginCold (igLife : Ignores.life π) (igOd : Ignores.od π) (igControl : Ignores.control π) (igClocks :
  Ignores.clocks π) (igThermal : Ignores.thermal π) (igNvm : Ignores.nvm π) (igUpdate : Ignores.update π) (igBeat :
  Ignores.beat π) (igTap : Ignores.tap π) (igHostPort : Ignores.hostPort π) (igLanes : Ignores.lanes π) (igQuartz :
  Ignores.quartz π) (igTile : Ignores.tile π) (igPorts : Ignores.ports π) (igCascade : Ignores.cascade π) (igIngress :
  Ignores.ingress π) (igVideo : Ignores.video π) (igLamps : Ignores.lamps π) (igSent : Ignores.sent π) (igFreeCount :
  Ignores.freeCount π) (s : State) (a1 : Nat) (k : Keeps π s) :
    Keeps π (State.beginCold s a1) := by
  unfold State.beginCold
  have h : Keeps π ((s.settleFlash (a1 == 1)).withHost fun _ => HostPort.reset) := by
    refine kept_withHost igHostPort igSent _ _ ?_
    apply kept_settleFlash <;> with_reducible assumption
  dsimp only
  refine keeps_ite ?_ ?_
  · refine kept_wrN igOd _ _ _ _ ?_
    apply keeps_set_life_od_control_clocks_thermal_nvm_update_beat_tap_hostPort_lanes_quartz_tile_ports_cascade_ingress_video_lamps <;>
      first | with_reducible assumption | exact canon_nil _ | exact canon_same rfl
  · refine kept_wrN igOd _ _ _ _ (kept_wrN igOd _ _ _ _ (kept_wrN igOd _ _ _ _ (kept_wrN igOd _ _ _ _ ?_)))
    apply keeps_set_life_od_control_clocks_thermal_nvm_update_beat_tap_hostPort_lanes_quartz_tile_ports_cascade_ingress_video_lamps <;>
      first | with_reducible assumption | exact canon_nil _ | exact canon_same rfl

theorem kept_resetWrite (igLife : Ignores.life π) (igOd : Ignores.od π) (igControl : Ignores.control π) (igClocks :
  Ignores.clocks π) (igThermal : Ignores.thermal π) (igNvm : Ignores.nvm π) (igUpdate : Ignores.update π) (igBeat :
  Ignores.beat π) (igTap : Ignores.tap π) (igHostPort : Ignores.hostPort π) (igLanes : Ignores.lanes π) (igQuartz :
  Ignores.quartz π) (igTile : Ignores.tile π) (igPorts : Ignores.ports π) (igCascade : Ignores.cascade π) (igIngress :
  Ignores.ingress π) (igVideo : Ignores.video π) (igLamps : Ignores.lamps π) (igSent : Ignores.sent π) (igFreeCount :
  Ignores.freeCount π) (s : State) (a1 : Int) (k : Keeps π s) :
    Keeps π (State.resetWrite s a1).2 := by
  unfold State.resetWrite
  repeat' (first
    | with_reducible assumption
    | intro _
    | (with_reducible first
        | apply keeps_ite | apply keeps_ite_snd | apply kept_beginWarm | apply kept_clearLatch | apply kept_beginCold))

theorem kept_execCoolingComplete (igLife : Ignores.life π) (igOd : Ignores.od π) (igControl : Ignores.control π)
  (igClocks : Ignores.clocks π) (igThermal : Ignores.thermal π) (igNvm : Ignores.nvm π) (igUpdate : Ignores.update π)
  (igBeat : Ignores.beat π) (igHostPort : Ignores.hostPort π) (igLanes : Ignores.lanes π) (igTile : Ignores.tile π)
  (igPorts : Ignores.ports π) (igCascade : Ignores.cascade π) (igIngress : Ignores.ingress π) (igVideo : Ignores.video
  π) (igLamps : Ignores.lamps π) (igSent : Ignores.sent π) (s : State) (k : Keeps π s) :
    KeepsO π (execCoolingComplete s) := by
  unfold execCoolingComplete
  repeat' (first
    | with_reducible assumption
    | intro _
    | (with_reducible first
        | apply keeps_ite | apply keeps_ite_snd | apply keepsO_next | apply keepsO_ite | apply keepsO_dite
        | apply kept_emit | apply kept_withThermal | apply kept_beginWarm | apply kept_raise)
    | split)

theorem kept_execPowerOn (igLife : Ignores.life π) (igRailsGood : Ignores.railsGood π) (igOd : Ignores.od π)
  (igControl : Ignores.control π) (igClocks : Ignores.clocks π) (igThermal : Ignores.thermal π) (igNvm : Ignores.nvm
  π) (igUpdate : Ignores.update π) (igBeat : Ignores.beat π) (igTap : Ignores.tap π) (igHostPort : Ignores.hostPort π)
  (igLanes : Ignores.lanes π) (igQuartz : Ignores.quartz π) (igTile : Ignores.tile π) (igPorts : Ignores.ports π)
  (igCascade : Ignores.cascade π) (igIngress : Ignores.ingress π) (igVideo : Ignores.video π) (igLamps : Ignores.lamps
  π) (igSent : Ignores.sent π) (igFreeCount : Ignores.freeCount π) (s : State) (k : Keeps π s) :
    KeepsO π (execPowerOn s) := by
  unfold execPowerOn
  repeat' (first
    | with_reducible assumption
    | intro _
    | (with_reducible first
        | apply keeps_ite | apply keeps_ite_snd | apply keepsO_next | apply keepsO_ite | apply keepsO_dite
        | apply kept_beginCold)
    | split
    | simp -iota -proj only []
    | dsimp only
    | with_reducible apply keeps_set_railsGood)

theorem kept_execClusterWatchdogRestart (igClocks : Ignores.clocks π) (a0 : Fin 2) (s : State) (k : Keeps π s) :
    KeepsO π (execClusterWatchdogRestart a0 s) := by
  unfold execClusterWatchdogRestart
  repeat' (first
    | with_reducible assumption
    | intro _
    | (with_reducible first
        | apply keeps_ite | apply keeps_ite_snd | apply keepsO_next | apply keepsO_ite | apply keepsO_dite
        | apply kept_withClocks))

theorem kept_execSupplyDrop (igNow : Ignores.now π) (igLife : Ignores.life π) (igRailsGood : Ignores.railsGood π)
  (igOd : Ignores.od π) (igControl : Ignores.control π) (igClocks : Ignores.clocks π) (igThermal : Ignores.thermal π)
  (igNvm : Ignores.nvm π) (igUpdate : Ignores.update π) (igBeat : Ignores.beat π) (igTap : Ignores.tap π) (igHostPort
  : Ignores.hostPort π) (igLanes : Ignores.lanes π) (igQuartz : Ignores.quartz π) (igTile : Ignores.tile π) (igPorts :
  Ignores.ports π) (igCascade : Ignores.cascade π) (igIngress : Ignores.ingress π) (igVideo : Ignores.video π)
  (igLamps : Ignores.lamps π) (igSent : Ignores.sent π) (igFreeCount : Ignores.freeCount π) (s : State) (k : Keeps π
  s) :
    KeepsO π (execSupplyDrop s) := by
  unfold execSupplyDrop
  repeat' (first
    | with_reducible assumption
    | intro _
    | (with_reducible first
        | apply keeps_ite | apply keeps_ite_snd | apply keepsO_next | apply keepsO_ite | apply keepsO_dite
        | apply kept_beginCold | apply kept_pass)
    | split
    | simp -iota -proj only []
    | dsimp only
    | with_reducible apply keeps_set_railsGood)

theorem kept_execRefclkReturn (igNow : Ignores.now π) (igLife : Ignores.life π) (igOd : Ignores.od π) (igControl :
  Ignores.control π) (igClocks : Ignores.clocks π) (igNvm : Ignores.nvm π) (igUpdate : Ignores.update π) (igBeat :
  Ignores.beat π) (igHostPort : Ignores.hostPort π) (igLanes : Ignores.lanes π) (igQuartz : Ignores.quartz π) (igTile
  : Ignores.tile π) (igPorts : Ignores.ports π) (igCascade : Ignores.cascade π) (igIngress : Ignores.ingress π)
  (igVideo : Ignores.video π) (igLamps : Ignores.lamps π) (igSent : Ignores.sent π) (s : State) (k : Keeps π s) :
    KeepsO π (execRefclkReturn s) := by
  unfold execRefclkReturn
  repeat' (first
    | with_reducible assumption
    | intro _
    | (with_reducible first
        | apply keeps_ite | apply keeps_ite_snd | apply keepsO_next | apply keepsO_ite | apply keepsO_dite
        | apply keeps_foldl | apply kept_withClocks | apply kept_pass | apply kept_toPll | apply kept_beginWarm
        | apply kept_bringUpPort))

theorem kept_execResetNAssert (igNow : Ignores.now π) (igLife : Ignores.life π) (igOd : Ignores.od π) (igControl :
  Ignores.control π) (igClocks : Ignores.clocks π) (igThermal : Ignores.thermal π) (igNvm : Ignores.nvm π) (igUpdate :
  Ignores.update π) (igBeat : Ignores.beat π) (igTap : Ignores.tap π) (igHostPort : Ignores.hostPort π) (igLanes :
  Ignores.lanes π) (igQuartz : Ignores.quartz π) (igTile : Ignores.tile π) (igPorts : Ignores.ports π) (igCascade :
  Ignores.cascade π) (igIngress : Ignores.ingress π) (igVideo : Ignores.video π) (igLamps : Ignores.lamps π) (igSent :
  Ignores.sent π) (igFreeCount : Ignores.freeCount π) (s : State) (k : Keeps π s) :
    KeepsO π (execResetNAssert s) := by
  unfold execResetNAssert
  repeat' (first
    | with_reducible assumption
    | intro _
    | (with_reducible first
        | apply keeps_ite | apply keeps_ite_snd | apply keepsO_next | apply keepsO_ite | apply keepsO_dite
        | apply kept_clearLatch | apply kept_pass | apply kept_beginCold)
    | split
    | simp -iota -proj only []
    | dsimp only
    | with_reducible apply keeps_set_tap)

theorem kept_execClusterWatchdogExpiry (igNow : Ignores.now π) (igLife : Ignores.life π) (igOd : Ignores.od π)
  (igControl : Ignores.control π) (igClocks : Ignores.clocks π) (igThermal : Ignores.thermal π) (igNvm : Ignores.nvm
  π) (igUpdate : Ignores.update π) (igBeat : Ignores.beat π) (igTap : Ignores.tap π) (igHostPort : Ignores.hostPort π)
  (igLanes : Ignores.lanes π) (igQuartz : Ignores.quartz π) (igTile : Ignores.tile π) (igPorts : Ignores.ports π)
  (igCascade : Ignores.cascade π) (igIngress : Ignores.ingress π) (igVideo : Ignores.video π) (igLamps : Ignores.lamps
  π) (igSent : Ignores.sent π) (igFreeCount : Ignores.freeCount π) (a0 : Fin 2) (s : State) (k : Keeps π s) :
    KeepsO π (execClusterWatchdogExpiry a0 s) := by
  unfold execClusterWatchdogExpiry
  repeat' (first
    | with_reducible assumption
    | intro _
    | (with_reducible first
        | apply keeps_ite | apply keeps_ite_snd | apply keepsO_next | apply keepsO_ite | apply keepsO_dite
        | apply keeps_foldl | apply kept_until_ | apply kept_withCascade | apply kept_raise | apply kept_beginCold
        | apply kept_beginWarm | apply kept_withClocks | apply kept_masterReset))

theorem kept_execNmtResetNode (igLife : Ignores.life π) (igOd : Ignores.od π) (igControl : Ignores.control π)
  (igClocks : Ignores.clocks π) (igThermal : Ignores.thermal π) (igNvm : Ignores.nvm π) (igUpdate : Ignores.update π)
  (igBeat : Ignores.beat π) (igHostPort : Ignores.hostPort π) (igLanes : Ignores.lanes π) (igTile : Ignores.tile π)
  (igPorts : Ignores.ports π) (igCascade : Ignores.cascade π) (igIngress : Ignores.ingress π) (igVideo : Ignores.video
  π) (igLamps : Ignores.lamps π) (igSent : Ignores.sent π) (s : State) (k : Keeps π s) :
    KeepsO π (execNmtResetNode s) := by
  unfold execNmtResetNode
  repeat' (first
    | with_reducible assumption
    | intro _
    | (with_reducible first
        | apply keeps_ite | apply keeps_ite_snd | apply keepsO_next | apply keepsO_ite | apply keepsO_dite
        | apply kept_raise | apply kept_beginWarm | apply kept_clearLatch))

theorem kept_confirm (igOd : Ignores.od π) (igControl : Ignores.control π) (igNvm : Ignores.nvm π) (igSent :
  Ignores.sent π) (s : State) (k : Keeps π s) :
    Keeps π (State.confirm s) := by
  unfold State.confirm
  repeat' (first
    | with_reducible assumption
    | intro _
    | (with_reducible first
        | apply keeps_ite | apply keeps_ite_snd | apply kept_writePointer))

theorem kept_confirmWrite (igOd : Ignores.od π) (igControl : Ignores.control π) (igNvm : Ignores.nvm π) (igSent :
  Ignores.sent π) (s : State) (a1 : Int) (k : Keeps π s) :
    Keeps π (State.confirmWrite s a1).2 := by
  unfold State.confirmWrite
  repeat' (first
    | with_reducible assumption
    | intro _
    | (with_reducible first
        | apply keeps_ite | apply keeps_ite_snd | apply kept_confirm))

theorem kept_withUpdate (igUpdate : Ignores.update π) (s : State) (a1 : Update → Update) (k : Keeps π s) :
    Keeps π (State.withUpdate s a1) := by
  unfold State.withUpdate
  repeat' (first
    | with_reducible assumption
    | intro _
    | (with_reducible first
        | apply keeps_ite | apply keeps_ite_snd)
    | split
    | simp -iota -proj only []
    | dsimp only
    | with_reducible apply keeps_set_update)

theorem kept_finalizeWrite (igOd : Ignores.od π) (igControl : Ignores.control π) (igNvm : Ignores.nvm π) (igSent :
  Ignores.sent π) (s : State) (a1 : Int) (k : Keeps π s) :
    Keeps π (State.finalizeWrite s a1).2 := by
  unfold State.finalizeWrite
  repeat' (first
    | with_reducible assumption
    | intro _
    | (with_reducible first
        | apply keeps_ite | apply keeps_ite_snd | apply kept_writePointer))

theorem kept_rollback (igOd : Ignores.od π) (igControl : Ignores.control π) (igNvm : Ignores.nvm π) (igSent :
  Ignores.sent π) (s : State) (k : Keeps π s) :
    Keeps π (State.rollback s) := by
  unfold State.rollback
  repeat' (first
    | with_reducible assumption
    | intro _
    | (with_reducible first
        | apply keeps_ite | apply keeps_ite_snd | apply kept_addJob | apply kept_writePointer | apply kept_raise))

theorem kept_rollbackWrite (igOd : Ignores.od π) (igControl : Ignores.control π) (igNvm : Ignores.nvm π) (igSent :
  Ignores.sent π) (s : State) (a1 : Int) (k : Keeps π s) :
    Keeps π (State.rollbackWrite s a1).2 := by
  unfold State.rollbackWrite
  repeat' (first
    | with_reducible assumption
    | intro _
    | (with_reducible first
        | apply keeps_ite | apply keeps_ite_snd | apply kept_rollback))

theorem kept_programBlock (igOd : Ignores.od π) (igControl : Ignores.control π) (igNvm : Ignores.nvm π) (igSent :
  Ignores.sent π) (s : State) (a1 : SessionRecord) (a2 : Nat) (a3 : List Byte) (k : Keeps π s) :
    Keeps π (State.programBlock s a1 a2 a3).2 := by
  unfold State.programBlock
  repeat' (first
    | with_reducible assumption
    | intro _
    | (with_reducible first
        | apply keeps_ite | apply keeps_ite_snd | apply kept_addJob))

theorem kept_showRecord (igOd : Ignores.od π) (s : State) (k : Keeps π s) :
    Keeps π (State.showRecord s) := by
  unfold State.showRecord
  repeat' (first
    | with_reducible assumption
    | intro _
    | (with_reducible first
        | apply keeps_ite | apply keeps_ite_snd | apply kept_wrN | apply kept_wrD)
    | split)

theorem kept_sendService (igOd : Ignores.od π) (igControl : Ignores.control π) (igNvm : Ignores.nvm π) (igUpdate :
  Ignores.update π) (igTile : Ignores.tile π) (igSent : Ignores.sent π) (s : State) (a1 : SvcSource) (a2 : List Byte)
  (k : Keeps π s) :
    Keeps π (State.sendService s a1 a2) := by
  unfold State.sendService
  repeat' (first
    | with_reducible assumption
    | intro _
    | (with_reducible first
        | apply keeps_ite | apply keeps_ite_snd | apply kept_emit | apply kept_originate | apply kept_withUpdate)
    | split)

theorem kept_sendReportFrame (igOd : Ignores.od π) (igControl : Ignores.control π) (igNvm : Ignores.nvm π) (igUpdate :
  Ignores.update π) (igTile : Ignores.tile π) (igSent : Ignores.sent π) (s : State) (a1 a2 : Nat) (k : Keeps π s) :
    Keeps π (State.sendReportFrame s a1 a2) := by
  unfold State.sendReportFrame
  repeat' (first
    | with_reducible assumption
    | intro _
    | (with_reducible first
        | apply keeps_ite | apply keeps_ite_snd | apply kept_sendService))

theorem kept_updState (igOd : Ignores.od π) (igControl : Ignores.control π) (igNvm : Ignores.nvm π) (igUpdate :
  Ignores.update π) (igTile : Ignores.tile π) (igSent : Ignores.sent π) (s : State) (a1 : Nat) (k : Keeps π s) :
    Keeps π (State.updState s a1) := by
  unfold State.updState
  repeat' (first
    | with_reducible assumption
    | intro _
    | (with_reducible first
        | apply keeps_ite | apply keeps_ite_snd | apply kept_wrN | apply kept_sendReportFrame))

theorem kept_endSession (igOd : Ignores.od π) (igUpdate : Ignores.update π) (s : State) (k : Keeps π s) :
    Keeps π (State.endSession s) := by
  unfold State.endSession
  repeat' (first
    | with_reducible assumption
    | intro _
    | (with_reducible first
        | apply keeps_ite | apply keeps_ite_snd | apply kept_withUpdate | apply kept_wrN))

theorem kept_blockArrives (igOd : Ignores.od π) (igControl : Ignores.control π) (igNvm : Ignores.nvm π) (igUpdate :
  Ignores.update π) (igTile : Ignores.tile π) (igSent : Ignores.sent π) (s : State) (a1 : SessionRecord) (a2 a3 : Nat)
  (a4 : List Byte) (k : Keeps π s) :
    Keeps π (State.blockArrives s a1 a2 a3 a4).2 := by
  unfold State.blockArrives
  repeat' (first
    | with_reducible assumption
    | intro _
    | (with_reducible first
        | apply keeps_ite | apply keeps_ite_snd | apply kept_withUpdate | apply kept_raiseLimited | apply kept_bump
        | apply kept_raise | apply kept_endSession | apply kept_updState | apply kept_showRecord
        | apply kept_programBlock))

theorem kept_writeStatus (igOd : Ignores.od π) (igControl : Ignores.control π) (igNvm : Ignores.nvm π) (igUpdate :
  Ignores.update π) (igTile : Ignores.tile π) (igSent : Ignores.sent π) (s : State) (a1 : SvcSource) (a2 : List Byte)
  (k : Keeps π s) :
    Keeps π (State.writeStatus s a1 a2).2 := by
  unfold State.writeStatus
  simp -iota -proj only []
  split
  · exact k
  · rename_i r _
    have h := kept_limited igOd igControl igNvm igSent s (targetArea r.target s.inactiveSlot) k
    refine keeps_ite_snd k (keeps_ite_snd k (keeps_ite_snd (keeps_mk_snd h) (keeps_ite_snd (keeps_mk_snd h) (keeps_ite_snd (keeps_mk_snd h)
      (keeps_ite_snd (keeps_mk_snd h) (keeps_ite_snd (keeps_mk_snd h) (keeps_ite_snd (keeps_mk_snd (kept_withUpdate igUpdate _ _ h)) ?_)))))))
    apply kept_blockArrives <;> with_reducible assumption

theorem kept_keepAnswer (igUpdate : Ignores.update π) (s : State) (a1 : SvcSource) (a2 : Nat) (a3 : List Byte) (k :
  Keeps π s) :
    Keeps π (State.keepAnswer s a1 a2 a3) := by
  unfold State.keepAnswer
  repeat' (first
    | with_reducible assumption
    | intro _
    | (with_reducible first
        | apply keeps_ite | apply keeps_ite_snd | apply kept_withUpdate))

theorem kept_svcAnswer (igOd : Ignores.od π) (igControl : Ignores.control π) (igNvm : Ignores.nvm π) (igUpdate :
  Ignores.update π) (igTile : Ignores.tile π) (igSent : Ignores.sent π) (s : State) (a1 : SvcSource) (a2 : List Byte)
  (a3 a4 : Nat) (a5 : List Byte) (k : Keeps π s) :
    Keeps π (State.svcAnswer s a1 a2 a3 a4 a5) := by
  unfold State.svcAnswer
  repeat' (first
    | with_reducible assumption
    | intro _
    | (with_reducible first
        | apply keeps_ite | apply keeps_ite_snd | apply kept_sendService | apply kept_keepAnswer))

theorem kept_svcWrite (igOd : Ignores.od π) (igControl : Ignores.control π) (igNvm : Ignores.nvm π) (igUpdate :
  Ignores.update π) (igTile : Ignores.tile π) (igSent : Ignores.sent π) (s : State) (a1 : SvcSource) (a2 : List Byte)
  (k : Keeps π s) :
    Keeps π (State.svcWrite s a1 a2) := by
  unfold State.svcWrite
  repeat' (first
    | with_reducible assumption
    | intro _
    | (with_reducible first
        | apply keeps_ite | apply keeps_ite_snd | apply kept_writeStatus | apply kept_keepAnswer
        | apply kept_svcAnswer))

theorem kept_svcRead (igOd : Ignores.od π) (igControl : Ignores.control π) (igNvm : Ignores.nvm π) (igUpdate :
  Ignores.update π) (igTile : Ignores.tile π) (igSent : Ignores.sent π) (s : State) (a1 : SvcSource) (a2 : List Byte)
  (k : Keeps π s) :
    Keeps π (State.svcRead s a1 a2) := by
  unfold State.svcRead
  repeat' (first
    | with_reducible assumption
    | intro _
    | (with_reducible first
        | apply keeps_ite | apply keeps_ite_snd | apply kept_svcAnswer)
    | split
    | simp -iota -proj only [])

theorem kept_proofFails (igOd : Ignores.od π) (igControl : Ignores.control π) (s : State) (k : Keeps π s) :
    Keeps π (State.proofFails s) := by
  unfold State.proofFails
  repeat' (first
    | with_reducible assumption
    | intro _
    | (with_reducible first
        | apply keeps_ite | apply keeps_ite_snd | apply kept_withControl | apply kept_bump))

theorem kept_openStatus (igOd : Ignores.od π) (igControl : Ignores.control π) (igUpdate : Ignores.update π) (s :
  State) (a1 : SvcSource) (a2 : List Byte) (k : Keeps π s) :
    Keeps π (State.openStatus s a1 a2).2.2 := by
  unfold State.openStatus
  repeat' (first
    | with_reducible assumption
    | intro _
    | (with_reducible first
        | apply keeps_ite | apply keeps_ite_snd | apply keeps_ite_snd2 | apply kept_withUpdate | apply kept_proofFails)
    | split)

theorem kept_svcOpen (igOd : Ignores.od π) (igControl : Ignores.control π) (igNvm : Ignores.nvm π) (igUpdate :
  Ignores.update π) (igTile : Ignores.tile π) (igSent : Ignores.sent π) (s : State) (a1 : SvcSource) (a2 : List Byte)
  (k : Keeps π s) :
    Keeps π (State.svcOpen s a1 a2) := by
  unfold State.svcOpen
  repeat' (first
    | with_reducible assumption
    | intro _
    | (with_reducible first
        | apply keeps_ite | apply keeps_ite_snd | apply kept_openStatus | apply kept_raise | apply kept_svcAnswer
        | apply kept_charge | apply kept_withUpdate | apply kept_updState | apply kept_wrN | apply kept_showRecord)
    | split)

theorem kept_abandon (igOd : Ignores.od π) (igControl : Ignores.control π) (igNvm : Ignores.nvm π) (igUpdate :
  Ignores.update π) (igTile : Ignores.tile π) (igSent : Ignores.sent π) (s : State) (k : Keeps π s) :
    Keeps π (State.abandon s) := by
  unfold State.abandon
  repeat' (first
    | with_reducible assumption
    | intro _
    | (with_reducible first
        | apply keeps_ite | apply keeps_ite_snd | apply kept_raise | apply kept_endSession | apply kept_updState))

theorem kept_svcClose (igOd : Ignores.od π) (igControl : Ignores.control π) (igNvm : Ignores.nvm π) (igUpdate :
  Ignores.update π) (igTile : Ignores.tile π) (igSent : Ignores.sent π) (s : State) (a1 : SvcSource) (a2 : List Byte)
  (k : Keeps π s) :
    Keeps π (State.svcClose s a1 a2) := by
  unfold State.svcClose
  repeat' (first
    | with_reducible assumption
    | intro _
    | (with_reducible first
        | apply keeps_ite | apply keeps_ite_snd | apply kept_svcAnswer | apply kept_abandon)
    | split)

theorem kept_replyLater (igUpdate : Ignores.update π) (s : State) (a1 : SvcSource) (a2 : List Byte) (k : Keeps π s) :
    Keeps π (State.replyLater s a1 a2) := by
  unfold State.replyLater
  repeat' (first
    | with_reducible assumption
    | intro _
    | (with_reducible first
        | apply keeps_ite | apply keeps_ite_snd | apply kept_withUpdate))

theorem kept_svcFinalize (igOd : Ignores.od π) (igControl : Ignores.control π) (igNvm : Ignores.nvm π) (igUpdate :
  Ignores.update π) (igTile : Ignores.tile π) (igSent : Ignores.sent π) (s : State) (a1 : SvcSource) (a2 : List Byte)
  (k : Keeps π s) :
    Keeps π (State.svcFinalize s a1 a2) := by
  unfold State.svcFinalize
  repeat' (first
    | with_reducible assumption
    | intro _
    | (with_reducible first
        | apply keeps_ite | apply keeps_ite_snd | apply kept_svcAnswer | apply kept_replyLater
        | apply kept_writePointer)
    | split)

theorem kept_svcHello (igOd : Ignores.od π) (igControl : Ignores.control π) (igNvm : Ignores.nvm π) (igUpdate :
  Ignores.update π) (igTile : Ignores.tile π) (igSent : Ignores.sent π) (igFreeCount : Ignores.freeCount π) (s :
  State) (a1 : SvcSource) (a2 : List Byte) (k : Keeps π s) :
    Keeps π (State.svcHello s a1 a2) := by
  unfold State.svcHello
  repeat' (first
    | with_reducible assumption
    | intro _
    | (with_reducible first
        | apply keeps_ite | apply keeps_ite_snd | apply kept_nonce | apply kept_withUpdate | apply kept_svcAnswer))

theorem kept_activate (igOd : Ignores.od π) (igControl : Ignores.control π) (igNvm : Ignores.nvm π) (igUpdate :
  Ignores.update π) (igSent : Ignores.sent π) (s : State) (a1 : SessionRecord) (k : Keeps π s) :
    Keeps π (State.activate s a1) := by
  unfold State.activate
  repeat' (first
    | with_reducible assumption
    | intro _
    | (with_reducible first
        | apply keeps_ite | apply keeps_ite_snd | apply kept_withUpdate | apply kept_writePointer))

theorem kept_svcActivate (igOd : Ignores.od π) (igControl : Ignores.control π) (igNvm : Ignores.nvm π) (igUpdate :
  Ignores.update π) (igTile : Ignores.tile π) (igSent : Ignores.sent π) (s : State) (a1 : SvcSource) (a2 : List Byte)
  (k : Keeps π s) :
    Keeps π (State.svcActivate s a1 a2) := by
  unfold State.svcActivate
  repeat' (first
    | with_reducible assumption
    | intro _
    | (with_reducible first
        | apply keeps_ite | apply keeps_ite_snd | apply kept_svcAnswer | apply kept_raise | apply kept_replyLater
        | apply kept_activate | apply kept_updState | apply kept_withUpdate)
    | split)

theorem kept_svcCancel (igOd : Ignores.od π) (igControl : Ignores.control π) (igNvm : Ignores.nvm π) (igUpdate :
  Ignores.update π) (igTile : Ignores.tile π) (igSent : Ignores.sent π) (s : State) (a1 : SvcSource) (a2 : List Byte)
  (k : Keeps π s) :
    Keeps π (State.svcCancel s a1 a2) := by
  unfold State.svcCancel
  repeat' (first
    | with_reducible assumption
    | intro _
    | (with_reducible first
        | apply keeps_ite | apply keeps_ite_snd | apply kept_svcAnswer | apply kept_updState | apply kept_withUpdate))

theorem kept_svcVerify (igOd : Ignores.od π) (igControl : Ignores.control π) (igNvm : Ignores.nvm π) (igUpdate :
  Ignores.update π) (igTile : Ignores.tile π) (igSent : Ignores.sent π) (s : State) (a1 : SvcSource) (a2 : List Byte)
  (k : Keeps π s) :
    Keeps π (State.svcVerify s a1 a2) := by
  unfold State.svcVerify
  repeat' (first
    | with_reducible assumption
    | intro _
    | (with_reducible first
        | apply keeps_ite | apply keeps_ite_snd | apply kept_svcAnswer | apply kept_startRun | apply kept_updState)
    | split)

theorem kept_svcStatus (igOd : Ignores.od π) (igControl : Ignores.control π) (igNvm : Ignores.nvm π) (igUpdate :
  Ignores.update π) (igTile : Ignores.tile π) (igSent : Ignores.sent π) (s : State) (a1 : SvcSource) (a2 : List Byte)
  (k : Keeps π s) :
    Keeps π (State.svcStatus s a1 a2) := by
  unfold State.svcStatus
  repeat' (first
    | with_reducible assumption
    | intro _
    | (with_reducible first
        | apply keeps_ite | apply keeps_ite_snd | apply kept_svcAnswer))

theorem kept_svcRollback (igOd : Ignores.od π) (igControl : Ignores.control π) (igNvm : Ignores.nvm π) (igUpdate :
  Ignores.update π) (igTile : Ignores.tile π) (igSent : Ignores.sent π) (s : State) (a1 : SvcSource) (a2 : List Byte)
  (k : Keeps π s) :
    Keeps π (State.svcRollback s a1 a2) := by
  unfold State.svcRollback
  repeat' (first
    | with_reducible assumption
    | intro _
    | (with_reducible first
        | apply keeps_ite | apply keeps_ite_snd | apply kept_svcAnswer | apply kept_rollback))

theorem kept_service_go (igOd : Ignores.od π) (igControl : Ignores.control π) (igNvm : Ignores.nvm π) (igUpdate :
  Ignores.update π) (igTile : Ignores.tile π) (igSent : Ignores.sent π) (igFreeCount : Ignores.freeCount π) (a0 : Nat)
  (a1 : SvcSource) (a2 : List Byte) (s : State) (k : Keeps π s) :
    Keeps π (State.service.go a0 a1 a2 s) := by
  unfold State.service.go
  repeat' (first
    | with_reducible assumption
    | intro _
    | (with_reducible first
        | apply keeps_ite | apply keeps_ite_snd | apply kept_svcHello | apply kept_svcOpen | apply kept_svcWrite
        | apply kept_svcStatus | apply kept_svcVerify | apply kept_svcActivate | apply kept_svcCancel
        | apply kept_svcFinalize | apply kept_svcRollback | apply kept_svcClose | apply kept_svcRead)
    | split)

theorem kept_service (igOd : Ignores.od π) (igControl : Ignores.control π) (igNvm : Ignores.nvm π) (igUpdate :
  Ignores.update π) (igTile : Ignores.tile π) (igSent : Ignores.sent π) (igFreeCount : Ignores.freeCount π) (s :
  State) (a1 : Nat) (a2 : SvcSource) (a3 : List Byte) (k : Keeps π s) :
    Keeps π (State.service s a1 a2 a3) := by
  unfold State.service
  repeat' (first
    | with_reducible assumption
    | intro _
    | (with_reducible first
        | apply keeps_ite | apply keeps_ite_snd | apply kept_withUpdate | apply kept_sendService
        | apply kept_service_go)
    | split
    | simp -iota -proj only [])

theorem kept_execServiceRollback (igOd : Ignores.od π) (igControl : Ignores.control π) (igNvm : Ignores.nvm π)
  (igUpdate : Ignores.update π) (igTile : Ignores.tile π) (igSent : Ignores.sent π) (igFreeCount : Ignores.freeCount
  π) (a0 : SvcSource) (a1 : List Byte) (s : State) (k : Keeps π s) :
    KeepsO π (execServiceRollback a0 a1 s) := by
  unfold execServiceRollback
  repeat' (first
    | with_reducible assumption
    | intro _
    | (with_reducible first
        | apply keeps_ite | apply keeps_ite_snd | apply keepsO_next | apply keepsO_ite | apply keepsO_dite
        | apply kept_service))

theorem kept_execServiceClose (igOd : Ignores.od π) (igControl : Ignores.control π) (igNvm : Ignores.nvm π) (igUpdate
  : Ignores.update π) (igTile : Ignores.tile π) (igSent : Ignores.sent π) (igFreeCount : Ignores.freeCount π) (a0 :
  SvcSource) (a1 : List Byte) (s : State) (k : Keeps π s) :
    KeepsO π (execServiceClose a0 a1 s) := by
  unfold execServiceClose
  repeat' (first
    | with_reducible assumption
    | intro _
    | (with_reducible first
        | apply keeps_ite | apply keeps_ite_snd | apply keepsO_next | apply keepsO_ite | apply keepsO_dite
        | apply kept_service))

theorem kept_pointerDone (igLife : Ignores.life π) (igOd : Ignores.od π) (igControl : Ignores.control π) (igClocks :
  Ignores.clocks π) (igThermal : Ignores.thermal π) (igNvm : Ignores.nvm π) (igUpdate : Ignores.update π) (igBeat :
  Ignores.beat π) (igTap : Ignores.tap π) (igHostPort : Ignores.hostPort π) (igLanes : Ignores.lanes π) (igQuartz :
  Ignores.quartz π) (igTile : Ignores.tile π) (igPorts : Ignores.ports π) (igCascade : Ignores.cascade π) (igIngress :
  Ignores.ingress π) (igVideo : Ignores.video π) (igLamps : Ignores.lamps π) (igSent : Ignores.sent π) (igFreeCount :
  Ignores.freeCount π) (s : State) (a1 : Nat) (k : Keeps π s) :
    Keeps π (State.pointerDone s a1) := by
  unfold State.pointerDone
  repeat' (first
    | with_reducible assumption
    | intro _
    | (with_reducible first
        | apply keeps_ite | apply keeps_ite_snd | apply kept_svcAnswer | apply kept_withUpdate | apply kept_beginCold
        | apply kept_raise | apply kept_updState)
    | split)

theorem kept_execWallActivateAtFrame (igNow : Ignores.now π) (igOd : Ignores.od π) (igControl : Ignores.control π)
  (igNvm : Ignores.nvm π) (igUpdate : Ignores.update π) (igQuartz : Ignores.quartz π) (igTile : Ignores.tile π)
  (igSent : Ignores.sent π) (s : State) (k : Keeps π s) :
    KeepsO π (execWallActivateAtFrame s) := by
  unfold execWallActivateAtFrame
  repeat' (first
    | with_reducible assumption
    | intro _
    | (with_reducible first
        | apply keeps_ite | apply keeps_ite_snd | apply keepsO_next | apply keepsO_ite | apply keepsO_dite
        | apply kept_withUpdate | apply kept_untilWall | apply kept_activate | apply kept_raise
        | apply kept_sendReportFrame | apply kept_wrN)
    | split)

theorem kept_execServiceHello (igOd : Ignores.od π) (igControl : Ignores.control π) (igNvm : Ignores.nvm π) (igUpdate
  : Ignores.update π) (igTile : Ignores.tile π) (igSent : Ignores.sent π) (igFreeCount : Ignores.freeCount π) (a0 :
  SvcSource) (a1 : List Byte) (s : State) (k : Keeps π s) :
    KeepsO π (execServiceHello a0 a1 s) := by
  unfold execServiceHello
  repeat' (first
    | with_reducible assumption
    | intro _
    | (with_reducible first
        | apply keeps_ite | apply keeps_ite_snd | apply keepsO_next | apply keepsO_ite | apply keepsO_dite
        | apply kept_service))

theorem kept_execServiceCellReceive (igOd : Ignores.od π) (igControl : Ignores.control π) (igNvm : Ignores.nvm π)
  (igUpdate : Ignores.update π) (igLanes : Ignores.lanes π) (igTile : Ignores.tile π) (igSent : Ignores.sent π)
  (igFreeCount : Ignores.freeCount π) (a0 : Fin 2) (a1 : RxCell) (s : State) (k : Keeps π s) :
    KeepsO π (execServiceCellReceive a0 a1 s) := by
  unfold execServiceCellReceive
  repeat' (first
    | with_reducible assumption
    | intro _
    | (with_reducible first
        | apply keeps_ite | apply keeps_ite_snd | apply keepsO_next | apply keepsO_ite | apply keepsO_dite
        | apply kept_arrive | apply kept_admitCell | apply kept_service))

theorem kept_execVerifyComplete (igOd : Ignores.od π) (igControl : Ignores.control π) (igNvm : Ignores.nvm π)
  (igUpdate : Ignores.update π) (igTile : Ignores.tile π) (igSent : Ignores.sent π) (s : State) (k : Keeps π s) :
    KeepsO π (execVerifyComplete s) := by
  unfold execVerifyComplete
  repeat' (first
    | with_reducible assumption
    | intro _
    | (with_reducible first
        | apply keeps_ite | apply keeps_ite_snd | apply keepsO_next | apply keepsO_ite | apply keepsO_dite
        | apply kept_updState | apply kept_publish | apply kept_wrN | apply kept_raise | apply kept_endSession
        | apply kept_withUpdate | apply kept_charge | apply kept_showRecord)
    | split)

theorem kept_execServiceOpen (igOd : Ignores.od π) (igControl : Ignores.control π) (igNvm : Ignores.nvm π) (igUpdate :
  Ignores.update π) (igTile : Ignores.tile π) (igSent : Ignores.sent π) (igFreeCount : Ignores.freeCount π) (a0 :
  SvcSource) (a1 : List Byte) (s : State) (k : Keeps π s) :
    KeepsO π (execServiceOpen a0 a1 s) := by
  unfold execServiceOpen
  repeat' (first
    | with_reducible assumption
    | intro _
    | (with_reducible first
        | apply keeps_ite | apply keeps_ite_snd | apply keepsO_next | apply keepsO_ite | apply keepsO_dite
        | apply kept_service))

theorem kept_execSessionIdleTimeout (igNow : Ignores.now π) (igOd : Ignores.od π) (igControl : Ignores.control π)
  (igNvm : Ignores.nvm π) (igUpdate : Ignores.update π) (igQuartz : Ignores.quartz π) (igTile : Ignores.tile π)
  (igSent : Ignores.sent π) (s : State) (k : Keeps π s) :
    KeepsO π (execSessionIdleTimeout s) := by
  unfold execSessionIdleTimeout
  repeat' (first
    | with_reducible assumption
    | intro _
    | (with_reducible first
        | apply keeps_ite | apply keeps_ite_snd | apply keepsO_next | apply keepsO_ite | apply keepsO_dite
        | apply kept_abandon | apply kept_until_))

theorem kept_execServiceStatus (igOd : Ignores.od π) (igControl : Ignores.control π) (igNvm : Ignores.nvm π) (igUpdate
  : Ignores.update π) (igTile : Ignores.tile π) (igSent : Ignores.sent π) (igFreeCount : Ignores.freeCount π) (a0 :
  SvcSource) (a1 : List Byte) (s : State) (k : Keeps π s) :
    KeepsO π (execServiceStatus a0 a1 s) := by
  unfold execServiceStatus
  repeat' (first
    | with_reducible assumption
    | intro _
    | (with_reducible first
        | apply keeps_ite | apply keeps_ite_snd | apply keepsO_next | apply keepsO_ite | apply keepsO_dite
        | apply kept_service))

theorem kept_execServiceRead (igOd : Ignores.od π) (igControl : Ignores.control π) (igNvm : Ignores.nvm π) (igUpdate :
  Ignores.update π) (igTile : Ignores.tile π) (igSent : Ignores.sent π) (igFreeCount : Ignores.freeCount π) (a0 :
  SvcSource) (a1 : List Byte) (s : State) (k : Keeps π s) :
    KeepsO π (execServiceRead a0 a1 s) := by
  unfold execServiceRead
  repeat' (first
    | with_reducible assumption
    | intro _
    | (with_reducible first
        | apply keeps_ite | apply keeps_ite_snd | apply keepsO_next | apply keepsO_ite | apply keepsO_dite
        | apply kept_service))

theorem kept_execHelloNonceExpiry (igNow : Ignores.now π) (igUpdate : Ignores.update π) (igQuartz : Ignores.quartz π)
  (s : State) (k : Keeps π s) :
    KeepsO π (execHelloNonceExpiry s) := by
  unfold execHelloNonceExpiry
  repeat' (first
    | with_reducible assumption
    | intro _
    | (with_reducible first
        | apply keeps_ite | apply keeps_ite_snd | apply keepsO_next | apply keepsO_ite | apply keepsO_dite
        | apply kept_withUpdate | apply kept_until_)
    | split)

theorem kept_execServiceActivate (igOd : Ignores.od π) (igControl : Ignores.control π) (igNvm : Ignores.nvm π)
  (igUpdate : Ignores.update π) (igTile : Ignores.tile π) (igSent : Ignores.sent π) (igFreeCount : Ignores.freeCount
  π) (a0 : SvcSource) (a1 : List Byte) (s : State) (k : Keeps π s) :
    KeepsO π (execServiceActivate a0 a1 s) := by
  unfold execServiceActivate
  repeat' (first
    | with_reducible assumption
    | intro _
    | (with_reducible first
        | apply keeps_ite | apply keeps_ite_snd | apply keepsO_next | apply keepsO_ite | apply keepsO_dite
        | apply kept_service))

theorem kept_execServiceWrite (igOd : Ignores.od π) (igControl : Ignores.control π) (igNvm : Ignores.nvm π) (igUpdate
  : Ignores.update π) (igTile : Ignores.tile π) (igSent : Ignores.sent π) (igFreeCount : Ignores.freeCount π) (a0 :
  SvcSource) (a1 : List Byte) (s : State) (k : Keeps π s) :
    KeepsO π (execServiceWrite a0 a1 s) := by
  unfold execServiceWrite
  repeat' (first
    | with_reducible assumption
    | intro _
    | (with_reducible first
        | apply keeps_ite | apply keeps_ite_snd | apply keepsO_next | apply keepsO_ite | apply keepsO_dite
        | apply kept_service))

theorem kept_execServiceFinalize (igOd : Ignores.od π) (igControl : Ignores.control π) (igNvm : Ignores.nvm π)
  (igUpdate : Ignores.update π) (igTile : Ignores.tile π) (igSent : Ignores.sent π) (igFreeCount : Ignores.freeCount
  π) (a0 : SvcSource) (a1 : List Byte) (s : State) (k : Keeps π s) :
    KeepsO π (execServiceFinalize a0 a1 s) := by
  unfold execServiceFinalize
  repeat' (first
    | with_reducible assumption
    | intro _
    | (with_reducible first
        | apply keeps_ite | apply keeps_ite_snd | apply keepsO_next | apply keepsO_ite | apply keepsO_dite
        | apply kept_service))

theorem kept_execServiceVerify (igOd : Ignores.od π) (igControl : Ignores.control π) (igNvm : Ignores.nvm π) (igUpdate
  : Ignores.update π) (igTile : Ignores.tile π) (igSent : Ignores.sent π) (igFreeCount : Ignores.freeCount π) (a0 :
  SvcSource) (a1 : List Byte) (s : State) (k : Keeps π s) :
    KeepsO π (execServiceVerify a0 a1 s) := by
  unfold execServiceVerify
  repeat' (first
    | with_reducible assumption
    | intro _
    | (with_reducible first
        | apply keeps_ite | apply keeps_ite_snd | apply keepsO_next | apply keepsO_ite | apply keepsO_dite
        | apply kept_service))

theorem kept_blockDone (igOd : Ignores.od π) (igNvm : Ignores.nvm π) (igUpdate : Ignores.update π) (igVideo :
  Ignores.video π) (s : State) (a1 a2 : Nat) (k : Keeps π s) :
    Keeps π (State.blockDone s a1 a2) := by
  unfold State.blockDone
  repeat' (first
    | with_reducible assumption
    | intro _
    | (with_reducible first
        | apply keeps_ite | apply keeps_ite_snd | apply kept_withUpdate | apply kept_charge | apply kept_showRecord)
    | split
    | simp -iota -proj only []
    | dsimp only
    | with_reducible apply keeps_set_video)

theorem kept_execServiceCancel (igOd : Ignores.od π) (igControl : Ignores.control π) (igNvm : Ignores.nvm π) (igUpdate
  : Ignores.update π) (igTile : Ignores.tile π) (igSent : Ignores.sent π) (igFreeCount : Ignores.freeCount π) (a0 :
  SvcSource) (a1 : List Byte) (s : State) (k : Keeps π s) :
    KeepsO π (execServiceCancel a0 a1 s) := by
  unfold execServiceCancel
  repeat' (first
    | with_reducible assumption
    | intro _
    | (with_reducible first
        | apply keeps_ite | apply keeps_ite_snd | apply keepsO_next | apply keepsO_ite | apply keepsO_dite
        | apply kept_service))

theorem kept_execConfirmationTimeout (igNow : Ignores.now π) (igLife : Ignores.life π) (igOd : Ignores.od π)
  (igControl : Ignores.control π) (igClocks : Ignores.clocks π) (igThermal : Ignores.thermal π) (igNvm : Ignores.nvm
  π) (igUpdate : Ignores.update π) (igBeat : Ignores.beat π) (igTap : Ignores.tap π) (igHostPort : Ignores.hostPort π)
  (igLanes : Ignores.lanes π) (igQuartz : Ignores.quartz π) (igTile : Ignores.tile π) (igPorts : Ignores.ports π)
  (igCascade : Ignores.cascade π) (igIngress : Ignores.ingress π) (igVideo : Ignores.video π) (igLamps : Ignores.lamps
  π) (igSent : Ignores.sent π) (igFreeCount : Ignores.freeCount π) (s : State) (k : Keeps π s) :
    KeepsO π (execConfirmationTimeout s) := by
  unfold execConfirmationTimeout
  repeat' (first
    | with_reducible assumption
    | intro _
    | (with_reducible first
        | apply keeps_ite | apply keeps_ite_snd | apply keepsO_next | apply keepsO_ite | apply keepsO_dite
        | apply kept_beginCold | apply kept_until_)
    | split)

theorem kept_execSelfTestPass (igOd : Ignores.od π) (igControl : Ignores.control π) (igNvm : Ignores.nvm π) (igSent :
  Ignores.sent π) (s : State) (k : Keeps π s) :
    KeepsO π (execSelfTestPass s) := by
  unfold execSelfTestPass
  repeat' (first
    | with_reducible assumption
    | intro _
    | (with_reducible first
        | apply keeps_ite | apply keeps_ite_snd | apply keepsO_next | apply keepsO_ite | apply keepsO_dite
        | apply kept_confirm))

theorem kept_svcCell (igUpdate : Ignores.update π) (igLanes : Ignores.lanes π) (igPorts : Ignores.ports π) (igCascade
  : Ignores.cascade π) (igSent : Ignores.sent π) (s : State) (a1 : Fin 2) (a2 : Nat) (a3 : List Byte) (k : Keeps π s)
  :
    Keeps π (State.svcCell s a1 a2 a3) := by
  unfold State.svcCell
  repeat' (first
    | with_reducible assumption
    | intro _
    | (with_reducible first
        | apply keeps_ite | apply keeps_ite_snd | apply kept_originateChain | apply kept_withUpdate))

theorem kept_wuBroadcast (igUpdate : Ignores.update π) (igLanes : Ignores.lanes π) (igPorts : Ignores.ports π)
  (igCascade : Ignores.cascade π) (igSent : Ignores.sent π) (s : State) (a1 : List Byte) (k : Keeps π s) :
    Keeps π (State.wuBroadcast s a1) := by
  unfold State.wuBroadcast
  repeat' (first
    | with_reducible assumption
    | intro _
    | (with_reducible first
        | apply keeps_ite | apply keeps_ite_snd | apply keeps_foldl | apply kept_svcCell))

theorem kept_takeTag (igUpdate : Ignores.update π) (s : State) (k : Keeps π s) :
    Keeps π (State.takeTag s).2 := by
  unfold State.takeTag
  repeat' (first
    | with_reducible assumption
    | intro _
    | (with_reducible first
        | apply keeps_ite | apply keeps_ite_snd | apply kept_withUpdate))

theorem kept_wuCommand (igUpdate : Ignores.update π) (igLanes : Ignores.lanes π) (igPorts : Ignores.ports π)
  (igCascade : Ignores.cascade π) (igSent : Ignores.sent π) (s : State) (a1 : Nat) (a2 : List Byte) (k : Keeps π s) :
    Keeps π (State.wuCommand s a1 a2) := by
  unfold State.wuCommand
  repeat' (first
    | with_reducible assumption
    | intro _
    | (with_reducible first
        | apply keeps_ite | apply keeps_ite_snd | apply kept_takeTag | apply kept_wuBroadcast))

theorem kept_withWu (igUpdate : Ignores.update π) (s : State) (a1 : WallUpdate → WallUpdate) (k : Keeps π s) :
    Keeps π (State.withWu s a1) := by
  unfold State.withWu
  repeat' (first
    | with_reducible assumption
    | intro _
    | (with_reducible first
        | apply keeps_ite | apply keeps_ite_snd | apply kept_withUpdate))

theorem kept_wuClose (igUpdate : Ignores.update π) (igLanes : Ignores.lanes π) (igPorts : Ignores.ports π) (igCascade
  : Ignores.cascade π) (igSent : Ignores.sent π) (s : State) (a1 : Bool) (k : Keeps π s) :
    Keeps π (State.wuClose s a1) := by
  unfold State.wuClose
  repeat' (first
    | with_reducible assumption
    | intro _
    | (with_reducible first
        | apply keeps_ite | apply keeps_ite_snd | apply kept_wuCommand | apply kept_withWu))

theorem kept_wuRollback (igOd : Ignores.od π) (igControl : Ignores.control π) (igNvm : Ignores.nvm π) (igUpdate :
  Ignores.update π) (igLanes : Ignores.lanes π) (igPorts : Ignores.ports π) (igCascade : Ignores.cascade π) (igSent :
  Ignores.sent π) (s : State) (a1 : Nat × Nat) (k : Keeps π s) :
    Keeps π (State.wuRollback s a1) := by
  unfold State.wuRollback
  repeat' (first
    | with_reducible assumption
    | intro _
    | (with_reducible first
        | apply keeps_ite | apply keeps_ite_snd | apply kept_raise | apply kept_wuClose))

theorem kept_wuShare (igLanes : Ignores.lanes π) (igCascade : Ignores.cascade π) (igSent : Ignores.sent π) (s : State)
  (k : Keeps π s) :
    Keeps π (State.wuShare s) := by
  unfold State.wuShare
  repeat' (first
    | with_reducible assumption
    | intro _
    | (with_reducible first
        | apply keeps_ite | apply keeps_ite_snd | apply keeps_foldl | apply kept_sendMgmtUnit))

theorem kept_setWu (igOd : Ignores.od π) (igLanes : Ignores.lanes π) (igCascade : Ignores.cascade π) (igSent :
  Ignores.sent π) (s : State) (a1 : Nat) (k : Keeps π s) :
    Keeps π (State.setWu s a1) := by
  unfold State.setWu
  repeat' (first
    | with_reducible assumption
    | intro _
    | (with_reducible first
        | apply keeps_ite | apply keeps_ite_snd | apply kept_wuShare | apply kept_wrN))

theorem kept_wuEnd (igOd : Ignores.od π) (igUpdate : Ignores.update π) (igLanes : Ignores.lanes π) (igCascade :
  Ignores.cascade π) (igSent : Ignores.sent π) (s : State) (a1 : Nat) (a2 : Bool) (k : Keeps π s) :
    Keeps π (State.wuEnd s a1 a2) := by
  unfold State.wuEnd
  repeat' (first
    | with_reducible assumption
    | intro _
    | (with_reducible first
        | apply keeps_ite | apply keeps_ite_snd | apply kept_publish | apply kept_setWu | apply kept_withWu))

theorem kept_wuFail (igOd : Ignores.od π) (igControl : Ignores.control π) (igNvm : Ignores.nvm π) (igUpdate :
  Ignores.update π) (igLanes : Ignores.lanes π) (igPorts : Ignores.ports π) (igCascade : Ignores.cascade π) (igSent :
  Ignores.sent π) (s : State) (a1 : Nat × Nat) (a2 : Nat) (k : Keeps π s) :
    Keeps π (State.wuFail s a1 a2) := by
  unfold State.wuFail
  repeat' (first
    | with_reducible assumption
    | intro _
    | (with_reducible first
        | apply keeps_ite | apply keeps_ite_snd | apply kept_raise | apply kept_wuEnd | apply kept_wuCommand))

theorem kept_wuOpen (igUpdate : Ignores.update π) (igLanes : Ignores.lanes π) (igPorts : Ignores.ports π) (igCascade :
  Ignores.cascade π) (igSent : Ignores.sent π) (s : State) (k : Keeps π s) :
    Keeps π (State.wuOpen s) := by
  unfold State.wuOpen
  repeat' (first
    | with_reducible assumption
    | intro _
    | (with_reducible first
        | apply keeps_ite | apply keeps_ite_snd | apply kept_wuBroadcast))

theorem kept_wuStart (igOd : Ignores.od π) (igControl : Ignores.control π) (igNvm : Ignores.nvm π) (igUpdate :
  Ignores.update π) (igLanes : Ignores.lanes π) (igPorts : Ignores.ports π) (igCascade : Ignores.cascade π) (igSent :
  Ignores.sent π) (s : State) (a1 : Nat) (a2 : Bool) (a3 : Int) (k : Keeps π s) :
    Keeps π (State.wuStart s a1 a2 a3).2 := by
  unfold State.wuStart
  repeat' (first
    | with_reducible assumption
    | intro _
    | (with_reducible first
        | apply keeps_ite | apply keeps_ite_snd | apply kept_takeTag | apply kept_withWu | apply kept_wuOpen
        | apply kept_setWu | apply kept_startRun | apply kept_raise | apply kept_wuCommand | apply kept_wuFail
        | apply kept_wuRollback)
    | split)

theorem kept_wuReported (igUpdate : Ignores.update π) (s : State) (a1 : Nat × Nat) (a2 : Nat) (k : Keeps π s) :
    Keeps π (State.wuReported s a1 a2) := by
  unfold State.wuReported
  repeat' (first
    | with_reducible assumption
    | intro _
    | (with_reducible first
        | apply keeps_ite | apply keeps_ite_snd | apply kept_withWu))

theorem kept_wuStep (igOd : Ignores.od π) (igControl : Ignores.control π) (igNvm : Ignores.nvm π) (igUpdate :
  Ignores.update π) (igLanes : Ignores.lanes π) (igPorts : Ignores.ports π) (igCascade : Ignores.cascade π) (igSent :
  Ignores.sent π) (s : State) (k : Keeps π s) :
    Keeps π (State.wuStep s) := by
  unfold State.wuStep
  repeat' (first
    | with_reducible assumption
    | intro _
    | (with_reducible first
        | apply keeps_ite | apply keeps_ite_snd | apply kept_withWu | apply kept_withUpdate | apply kept_wuCommand
        | apply kept_raise | apply kept_setWu)
    | split)

theorem kept_wuDone (igUpdate : Ignores.update π) (s : State) (a1 : Nat × Nat) (k : Keeps π s) :
    Keeps π (State.wuDone s a1) := by
  unfold State.wuDone
  repeat' (first
    | with_reducible assumption
    | intro _
    | (with_reducible first
        | apply keeps_ite | apply keeps_ite_snd | apply kept_withWu))

theorem kept_wuBlock (igUpdate : Ignores.update π) (igLanes : Ignores.lanes π) (igPorts : Ignores.ports π) (igCascade
  : Ignores.cascade π) (igSent : Ignores.sent π) (s : State) (a1 : Nat) (a2 : Option (Nat × Nat)) (k : Keeps π s) :
    Keeps π (State.wuBlock s a1 a2) := by
  unfold State.wuBlock
  repeat' (first
    | with_reducible assumption
    | intro _
    | (with_reducible first
        | apply keeps_ite | apply keeps_ite_snd | apply keeps_foldl | apply kept_takeTag | apply kept_wuBroadcast
        | apply kept_svcCell)
    | split
    | simp -iota -proj only []
    | (refine keeps_pair ?_ (by with_reducible assumption)))

theorem kept_wuStatusFrom (igUpdate : Ignores.update π) (igLanes : Ignores.lanes π) (igPorts : Ignores.ports π)
  (igCascade : Ignores.cascade π) (igSent : Ignores.sent π) (s : State) (a1 : Nat × Nat) (a2 : Nat) (k : Keeps π s) :
    Keeps π (State.wuStatusFrom s a1 a2) := by
  unfold State.wuStatusFrom
  repeat' (first
    | with_reducible assumption
    | intro _
    | (with_reducible first
        | apply keeps_ite | apply keeps_ite_snd | apply kept_takeTag | apply kept_withUpdate | apply kept_svcCell))

theorem kept_wuTakeStatus (igOd : Ignores.od π) (igControl : Ignores.control π) (igNvm : Ignores.nvm π) (igUpdate :
  Ignores.update π) (igLanes : Ignores.lanes π) (igPorts : Ignores.ports π) (igCascade : Ignores.cascade π) (igSent :
  Ignores.sent π) (s : State) (a1 : Nat × Nat) (a2 : List Byte) (k : Keeps π s) :
    Keeps π (State.wuTakeStatus s a1 a2) := by
  unfold State.wuTakeStatus
  repeat' (first
    | with_reducible assumption
    | intro _
    | (with_reducible first
        | apply keeps_ite | apply keeps_ite_snd | apply keeps_foldl | apply kept_wuReported | apply kept_wuStep
        | apply kept_wuDone | apply kept_wuStatusFrom | apply kept_wuBlock | apply kept_wuFail))

theorem kept_wuTake (igOd : Ignores.od π) (igControl : Ignores.control π) (igNvm : Ignores.nvm π) (igUpdate :
  Ignores.update π) (igLanes : Ignores.lanes π) (igPorts : Ignores.ports π) (igCascade : Ignores.cascade π) (igSent :
  Ignores.sent π) (s : State) (a1 : Fin 2) (a2 : Nat) (a3 : List Byte) (k : Keeps π s) :
    Keeps π (State.wuTake s a1 a2 a3) := by
  unfold State.wuTake
  repeat' (first
    | with_reducible assumption
    | intro _
    | (with_reducible first
        | apply keeps_ite | apply keeps_ite_snd | apply kept_withUpdate | apply kept_wuStep | apply kept_wuDone
        | apply kept_wuTakeStatus | apply kept_wuReported | apply kept_wuRollback)
    | split)

theorem kept_takeWu (igOd : Ignores.od π) (igUpdate : Ignores.update π) (s : State) (a1 : Fin 2) (a2 : List Byte) (k :
  Keeps π s) :
    Keeps π (State.takeWu s a1 a2) := by
  unfold State.takeWu
  repeat' (first
    | with_reducible assumption
    | intro _
    | (with_reducible first
        | apply keeps_ite | apply keeps_ite_snd | apply kept_wrN | apply kept_withWu))

theorem kept_execWuConfirmWaitExpiry (igNow : Ignores.now π) (igOd : Ignores.od π) (igControl : Ignores.control π)
  (igNvm : Ignores.nvm π) (igUpdate : Ignores.update π) (igLanes : Ignores.lanes π) (igQuartz : Ignores.quartz π)
  (igPorts : Ignores.ports π) (igCascade : Ignores.cascade π) (igSent : Ignores.sent π) (s : State) (k : Keeps π s) :
    KeepsO π (execWuConfirmWaitExpiry s) := by
  unfold execWuConfirmWaitExpiry
  repeat' (first
    | with_reducible assumption
    | intro _
    | (with_reducible first
        | apply keeps_ite | apply keeps_ite_snd | apply keepsO_next | apply keepsO_ite | apply keepsO_dite
        | apply kept_until_ | apply kept_wuClose | apply kept_wuRollback)
    | split
    | simp -iota -proj only [])

theorem kept_execServiceReport (igOd : Ignores.od π) (igControl : Ignores.control π) (igNvm : Ignores.nvm π) (igUpdate
  : Ignores.update π) (igLanes : Ignores.lanes π) (igPorts : Ignores.ports π) (igCascade : Ignores.cascade π) (igSent
  : Ignores.sent π) (a0 : Fin 2) (a1 : Nat) (a2 : List Byte) (s : State) (k : Keeps π s) :
    KeepsO π (execServiceReport a0 a1 a2 s) := by
  unfold execServiceReport
  repeat' (first
    | with_reducible assumption
    | intro _
    | (with_reducible first
        | apply keeps_ite | apply keeps_ite_snd | apply keepsO_next | apply keepsO_ite | apply keepsO_dite
        | apply kept_wuTake))

theorem kept_execServiceRequestRetry (igNow : Ignores.now π) (igUpdate : Ignores.update π) (igLanes : Ignores.lanes π)
  (igQuartz : Ignores.quartz π) (igPorts : Ignores.ports π) (igCascade : Ignores.cascade π) (igSent : Ignores.sent π)
  (a0 : Nat) (s : State) (k : Keeps π s) :
    KeepsO π (execServiceRequestRetry a0 s) := by
  unfold execServiceRequestRetry
  repeat' (first
    | with_reducible assumption
    | intro _
    | (with_reducible first
        | apply keeps_ite | apply keeps_ite_snd | apply keepsO_next | apply keepsO_ite | apply keepsO_dite
        | apply kept_until_ | apply kept_withUpdate | apply kept_svcCell)
    | split)

theorem kept_execWuActivateBroadcast (igNow : Ignores.now π) (igOd : Ignores.od π) (igControl : Ignores.control π)
  (igNvm : Ignores.nvm π) (igUpdate : Ignores.update π) (igLanes : Ignores.lanes π) (igQuartz : Ignores.quartz π)
  (igPorts : Ignores.ports π) (igCascade : Ignores.cascade π) (igSent : Ignores.sent π) (s : State) (k : Keeps π s) :
    KeepsO π (execWuActivateBroadcast s) := by
  unfold execWuActivateBroadcast
  simp -iota -proj only []
  refine keepsO_ite (keepsO_next k) ?_
  have h := kept_pass igNow igQuartz s (100 * ms) k
  generalize s.pass (100 * ms) = t at h ⊢
  split
  · refine keepsO_ite (keepsO_next h) (keepsO_next ?_)
    apply kept_setWu
    all_goals try with_reducible assumption
    exact kept_withWu igUpdate _ _ h
  · refine keepsO_ite (keepsO_next ?_) (keepsO_ite (keepsO_next ?_) (keepsO_next ?_))
    · apply kept_wuCommand <;> with_reducible assumption
    · apply kept_wuCommand <;> with_reducible assumption
    · refine kept_withWu igUpdate _ _ ?_
      apply kept_wuClose
      all_goals try with_reducible assumption
      apply kept_raise
      all_goals try with_reducible assumption
      apply kept_setWu <;> with_reducible assumption

theorem kept_wuStatus (igUpdate : Ignores.update π) (igLanes : Ignores.lanes π) (igPorts : Ignores.ports π) (igCascade
  : Ignores.cascade π) (igSent : Ignores.sent π) (s : State) (a1 : Nat × Nat) (k : Keeps π s) :
    Keeps π (State.wuStatus s a1) := by
  unfold State.wuStatus
  repeat' (first
    | with_reducible assumption
    | intro _
    | (with_reducible first
        | apply keeps_ite | apply keeps_ite_snd | apply kept_wuStatusFrom))

theorem kept_wuPollAll (igUpdate : Ignores.update π) (igLanes : Ignores.lanes π) (igPorts : Ignores.ports π)
  (igCascade : Ignores.cascade π) (igSent : Ignores.sent π) (s : State) (k : Keeps π s) :
    Keeps π (State.wuPollAll s) := by
  unfold State.wuPollAll
  repeat' (first
    | with_reducible assumption
    | intro _
    | (with_reducible first
        | apply keeps_ite | apply keeps_ite_snd | apply keeps_foldl | apply kept_wuStatus))

theorem kept_execWuPoll (igNow : Ignores.now π) (igOd : Ignores.od π) (igControl : Ignores.control π) (igNvm :
  Ignores.nvm π) (igUpdate : Ignores.update π) (igLanes : Ignores.lanes π) (igQuartz : Ignores.quartz π) (igPorts :
  Ignores.ports π) (igCascade : Ignores.cascade π) (igSent : Ignores.sent π) (s : State) (k : Keeps π s) :
    KeepsO π (execWuPoll s) := by
  unfold execWuPoll
  repeat' (first
    | with_reducible assumption
    | intro _
    | (with_reducible first
        | apply keeps_ite | apply keeps_ite_snd | apply keepsO_next | apply keepsO_ite | apply keepsO_dite
        | apply keeps_foldl | apply kept_pass | apply kept_raise | apply kept_wuEnd | apply kept_wuCommand
        | apply kept_wuStep | apply kept_wuFail | apply kept_wuOpen | apply kept_withWu | apply kept_wuStatus
        | apply kept_wuPollAll | apply kept_wuClose | apply kept_wuRollback)
    | split
    | simp -iota -proj only [])

theorem kept_execWuWritePace (igNow : Ignores.now π) (igUpdate : Ignores.update π) (igLanes : Ignores.lanes π)
  (igQuartz : Ignores.quartz π) (igPorts : Ignores.ports π) (igCascade : Ignores.cascade π) (igSent : Ignores.sent π)
  (s : State) (k : Keeps π s) :
    KeepsO π (execWuWritePace s) := by
  unfold execWuWritePace
  repeat' (first
    | with_reducible assumption
    | intro _
    | (with_reducible first
        | apply keeps_ite | apply keeps_ite_snd | apply keepsO_next | apply keepsO_ite | apply keepsO_dite
        | apply kept_pass | apply kept_wuBlock | apply kept_withWu | apply kept_wuPollAll))

theorem kept_resetPinned (igOd : Ignores.od π) (igControl : Ignores.control π) (igNvm : Ignores.nvm π) (igSent :
  Ignores.sent π) (s : State) (k : Keeps π s) :
    Keeps π (State.resetPinned s).2 := by
  unfold State.resetPinned
  repeat' (first
    | with_reducible assumption
    | intro _
    | (with_reducible first
        | apply keeps_ite | apply keeps_ite_snd | apply kept_addJob))

theorem kept_calStart (igOd : Ignores.od π) (igControl : Ignores.control π) (igNvm : Ignores.nvm π) (igLanes :
  Ignores.lanes π) (igPorts : Ignores.ports π) (igCascade : Ignores.cascade π) (igLamps : Ignores.lamps π) (igSent :
  Ignores.sent π) (s : State) (a1 : CtxId) (a2 : Nat) (k : Keeps π s) :
    Keeps π (State.calStart s a1 a2).2 := by
  unfold State.calStart
  repeat' (first
    | exact fun h => h
    | exact canon_calRun _ _
    | exact fun h => flashPut_wf _ _ _ h
    | with_reducible assumption
    | intro _
    | (with_reducible first
        | apply keeps_ite | apply keeps_ite_snd | apply kept_withChain | apply kept_withNvm | apply kept_startRun
        | apply kept_nameMarkers)
    | split
    | simp -iota -proj only []
    | dsimp only
    | with_reducible apply keeps_set_lamps)

theorem kept_calEnds (igOd : Ignores.od π) (igControl : Ignores.control π) (igNvm : Ignores.nvm π) (igSent :
  Ignores.sent π) (s : State) (a1 a2 a3 a4 : Nat) (k : Keeps π s) :
    Keeps π (State.calEnds s a1 a2 a3 a4) := by
  unfold State.calEnds
  repeat' (first
    | exact fun h => h
    | exact canon_calRun _ _
    | exact fun h => flashPut_wf _ _ _ h
    | with_reducible assumption
    | intro _
    | (with_reducible first
        | apply keeps_ite | apply keeps_ite_snd | apply kept_withNvm | apply kept_wrN | apply kept_publish
        | apply kept_withCal | apply kept_raise | apply kept_cause))

theorem kept_skewEnds (igOd : Ignores.od π) (igControl : Ignores.control π) (igNvm : Ignores.nvm π) (igLamps :
  Ignores.lamps π) (igSent : Ignores.sent π) (s : State) (k : Keeps π s) :
    Keeps π (State.skewEnds s) := by
  unfold State.skewEnds
  repeat' (first
    | with_reducible assumption
    | intro _
    | (with_reducible first
        | apply keeps_ite | apply keeps_ite_snd | apply keeps_foldl | apply kept_calEnds | apply kept_useDelay
        | apply kept_withCal | apply kept_calStore))

theorem kept_pinnedErased (igOd : Ignores.od π) (igControl : Ignores.control π) (igNvm : Ignores.nvm π) (igSent :
  Ignores.sent π) (s : State) (k : Keeps π s) :
    Keeps π (State.pinnedErased s) := by
  unfold State.pinnedErased
  repeat' (first
    | with_reducible assumption
    | intro _
    | (with_reducible first
        | apply keeps_ite | apply keeps_ite_snd | apply kept_raise))

theorem kept_hopEnds (igOd : Ignores.od π) (igControl : Ignores.control π) (igNvm : Ignores.nvm π) (igLanes :
  Ignores.lanes π) (igQuartz : Ignores.quartz π) (igPorts : Ignores.ports π) (igCascade : Ignores.cascade π) (igSent :
  Ignores.sent π) (s : State) (a1 : Fin 2) (a2 a3 : HopRun) (k : Keeps π s) :
    Keeps π (State.hopEnds s a1 a2 a3) := by
  unfold State.hopEnds
  repeat' (first
    | with_reducible assumption
    | intro _
    | (with_reducible first
        | apply keeps_ite | apply keeps_ite_snd | apply kept_calEnds | apply kept_applyBases | apply kept_withCal
        | apply kept_calStore | apply kept_shareBases)
    | split
    | simp -iota -proj only []
    | dsimp only
    | with_reducible apply keeps_set_quartz)

theorem kept_provisionalEnds (igOd : Ignores.od π) (igControl : Ignores.control π) (igNvm : Ignores.nvm π) (igLanes :
  Ignores.lanes π) (igQuartz : Ignores.quartz π) (igPorts : Ignores.ports π) (igCascade : Ignores.cascade π) (igSent :
  Ignores.sent π) (s : State) (a1 : Fin 2) (a2 : HopRun) (k : Keeps π s) :
    Keeps π (State.provisionalEnds s a1 a2) := by
  unfold State.provisionalEnds
  repeat' (first
    | exact fun h => h
    | exact canon_calRun _ _
    | exact fun h => flashPut_wf _ _ _ h
    | with_reducible assumption
    | intro _
    | (with_reducible first
        | apply keeps_ite | apply keeps_ite_snd | apply kept_withNvm | apply kept_applyBases))

theorem kept_trimEnds (igOd : Ignores.od π) (igControl : Ignores.control π) (igNvm : Ignores.nvm π) (igSent :
  Ignores.sent π) (s : State) (a1 : List (Vector Int 8)) (k : Keeps π s) :
    Keeps π (State.trimEnds s a1) := by
  unfold State.trimEnds
  repeat' (first
    | with_reducible assumption
    | intro _
    | (with_reducible first
        | apply keeps_ite | apply keeps_ite_snd | apply kept_calEnds | apply kept_calStore | apply kept_withCal))

theorem kept_execCalRunComplete (igOd : Ignores.od π) (igControl : Ignores.control π) (igNvm : Ignores.nvm π) (igLanes
  : Ignores.lanes π) (igQuartz : Ignores.quartz π) (igPorts : Ignores.ports π) (igCascade : Ignores.cascade π)
  (igLamps : Ignores.lamps π) (igSent : Ignores.sent π) (a0 a1 : HopRun) (s : State) (k : Keeps π s) :
    KeepsO π (execCalRunComplete a0 a1 s) := by
  unfold execCalRunComplete
  repeat' (first
    | with_reducible assumption
    | intro _
    | (with_reducible first
        | apply keeps_ite | apply keeps_ite_snd | apply keepsO_next | apply keepsO_ite | apply keepsO_dite
        | apply kept_startHop | apply kept_provisionalEnds | apply kept_skewEnds | apply kept_hopEnds
        | apply kept_trimEnds)
    | split)

theorem kept_execBbCommit (igOd : Ignores.od π) (igControl : Ignores.control π) (igNvm : Ignores.nvm π) (igSent :
  Ignores.sent π) (s : State) (k : Keeps π s) :
    KeepsO π (execBbCommit s) := by
  unfold execBbCommit
  repeat' (first
    | with_reducible assumption
    | intro _
    | (with_reducible first
        | apply keeps_ite | apply keeps_ite_snd | apply keepsO_next | apply keepsO_ite | apply keepsO_dite
        | apply kept_addJob)
    | split)

theorem kept_execCalDeferredStore (igOd : Ignores.od π) (igControl : Ignores.control π) (igNvm : Ignores.nvm π)
  (igSent : Ignores.sent π) (s : State) (k : Keeps π s) :
    KeepsO π (execCalDeferredStore s) := by
  unfold execCalDeferredStore
  repeat' (first
    | with_reducible assumption
    | intro _
    | (with_reducible first
        | apply keeps_ite | apply keeps_ite_snd | apply keepsO_next | apply keepsO_ite | apply keepsO_dite
        | apply kept_calStore))

theorem kept_eraseAhead (igOd : Ignores.od π) (igControl : Ignores.control π) (igNvm : Ignores.nvm π) (igSent :
  Ignores.sent π) (s : State) (a1 : Nat) (k : Keeps π s) :
    Keeps π (State.eraseAhead s a1) := by
  unfold State.eraseAhead
  repeat' (first
    | with_reducible assumption
    | intro _
    | (with_reducible first
        | apply keeps_ite | apply keeps_ite_snd | apply kept_addJob))

theorem kept_scanBlackBox (igOd : Ignores.od π) (igControl : Ignores.control π) (igNvm : Ignores.nvm π) (igSent :
  Ignores.sent π) (s : State) (k : Keeps π s) :
    Keeps π (State.scanBlackBox s) := by
  unfold State.scanBlackBox
  repeat' (first
    | with_reducible assumption
    | intro _
    | (with_reducible first
        | apply keeps_ite | apply keeps_ite_snd | apply keeps_foldl | apply kept_raise | apply kept_bump
        | apply kept_withBb | apply kept_eraseAhead))

theorem kept_committed (igOd : Ignores.od π) (igControl : Ignores.control π) (igNvm : Ignores.nvm π) (igSent :
  Ignores.sent π) (s : State) (a1 a2 : Nat) (k : Keeps π s) :
    Keeps π (State.committed s a1 a2) := by
  unfold State.committed
  repeat' (first
    | with_reducible assumption
    | intro _
    | (with_reducible first
        | apply keeps_ite | apply keeps_ite_snd | apply kept_withBb | apply kept_raiseIf | apply kept_eraseAhead))

theorem kept_streamParam (igOd : Ignores.od π) (s : State) (a1 a2 : Nat) (a3 : Int) (k : Keeps π s) :
    Keeps π (State.streamParam s a1 a2 a3).2 := by
  unfold State.streamParam
  repeat' (first
    | with_reducible assumption
    | intro _
    | (with_reducible first
        | apply keeps_ite | apply keeps_ite_snd | apply kept_wrI))

theorem kept_withIngress (igIngress : Ignores.ingress π) (s : State) (a1 : Ingress → Ingress) (k : Keeps π s) :
    Keeps π (State.withIngress s a1) := by
  unfold State.withIngress
  repeat' (first
    | with_reducible assumption
    | intro _
    | (with_reducible first
        | apply keeps_ite | apply keeps_ite_snd)
    | split
    | simp -iota -proj only []
    | dsimp only
    | with_reducible apply keeps_set_ingress)

theorem kept_ethSend (igSent : Ignores.sent π) (s : State) (a1 a2 a3 : Nat) (a4 : List Byte) (k : Keeps π s) :
    Keeps π (State.ethSend s a1 a2 a3 a4) := by
  unfold State.ethSend
  repeat' (first
    | with_reducible assumption
    | intro _
    | (with_reducible first
        | apply keeps_ite | apply keeps_ite_snd | apply kept_emit))

theorem kept_igmpFor (igSent : Ignores.sent π) (s : State) (a1 : Nat) (a2 : Fin 2) (a3 : Nat) (a4 : List Nat) (a5 :
  Nat) (k : Keeps π s) :
    Keeps π (State.igmpFor s a1 a2 a3 a4 a5) := by
  unfold State.igmpFor
  repeat' (first
    | with_reducible assumption
    | intro _
    | (with_reducible first
        | apply keeps_ite | apply keeps_ite_snd | apply kept_ethSend))

theorem kept_igmpLeave (igSent : Ignores.sent π) (s : State) (a1 : Nat) (k : Keeps π s) :
    Keeps π (State.igmpLeave s a1) := by
  unfold State.igmpLeave
  repeat' (first
    | with_reducible assumption
    | intro _
    | (with_reducible first
        | apply keeps_ite | apply keeps_ite_snd | apply kept_igmpFor))

theorem kept_withStream (igIngress : Ignores.ingress π) (s : State) (a1 : Fin 32) (a2 : StreamRun → StreamRun) (k :
  Keeps π s) :
    Keeps π (State.withStream s a1 a2) := by
  unfold State.withStream
  repeat' (first
    | with_reducible assumption
    | intro _
    | (with_reducible first
        | apply keeps_ite | apply keeps_ite_snd | apply kept_withIngress))

theorem kept_igmpJoin (igSent : Ignores.sent π) (s : State) (a1 : Nat) (k : Keeps π s) :
    Keeps π (State.igmpJoin s a1) := by
  unfold State.igmpJoin
  repeat' (first
    | with_reducible assumption
    | intro _
    | (with_reducible first
        | apply keeps_ite | apply keeps_ite_snd | apply keeps_foldl | apply kept_igmpFor))

theorem kept_ssmUnderV2 (igOd : Ignores.od π) (igControl : Ignores.control π) (igNvm : Ignores.nvm π) (igSent :
  Ignores.sent π) (s : State) (a1 : Nat) (k : Keeps π s) :
    Keeps π (State.ssmUnderV2 s a1) := by
  unfold State.ssmUnderV2
  repeat' (first
    | with_reducible assumption
    | intro _
    | (with_reducible first
        | apply keeps_ite | apply keeps_ite_snd | apply keeps_foldl | apply kept_raiseIf))

theorem kept_streamEnable (igOd : Ignores.od π) (igControl : Ignores.control π) (igNvm : Ignores.nvm π) (igIngress :
  Ignores.ingress π) (igSent : Ignores.sent π) (s : State) (a1 : Fin 32) (a2 : Int) (k : Keeps π s) :
    Keeps π (State.streamEnable s a1 a2).2 := by
  unfold State.streamEnable
  repeat' (first
    | with_reducible assumption
    | intro _
    | (with_reducible first
        | apply keeps_ite | apply keeps_ite_snd | apply kept_igmpLeave | apply kept_withStream | apply kept_wrN
        | apply kept_wrB | apply kept_cause | apply kept_raise | apply kept_ssmUnderV2 | apply kept_igmpJoin))

theorem kept_ethDrop (igIngress : Ignores.ingress π) (s : State) (a1 : Fin 8) (k : Keeps π s) :
    Keeps π (State.ethDrop s a1) := by
  unfold State.ethDrop
  repeat' (first
    | with_reducible assumption
    | intro _
    | (with_reducible first
        | apply keeps_ite | apply keeps_ite_snd | apply kept_withIngress))

theorem kept_store (igOd : Ignores.od π) (igIngress : Ignores.ingress π) (s : State) (a1 : Fin 32) (a2 : SrcFrame) (k
  : Keeps π s) :
    Keeps π (State.store s a1 a2) := by
  unfold State.store
  repeat' (first
    | with_reducible assumption
    | intro _
    | (with_reducible first
        | apply keeps_ite | apply keeps_ite_snd | apply kept_bump | apply kept_withStream))

theorem kept_complete (igOd : Ignores.od π) (igIngress : Ignores.ingress π) (s : State) (a1 : Fin 32) (a2 : BitVec 32)
  (a3 : SrcData) (k : Keeps π s) :
    Keeps π (State.complete s a1 a2 a3) := by
  unfold State.complete
  repeat' (first
    | with_reducible assumption
    | intro _
    | (with_reducible first
        | apply keeps_ite | apply keeps_ite_snd | apply kept_store | apply kept_bump))

theorem kept_incomplete (igOd : Ignores.od π) (igControl : Ignores.control π) (igNvm : Ignores.nvm π) (igIngress :
  Ignores.ingress π) (igSent : Ignores.sent π) (s : State) (a1 : Fin 32) (a2 : BitVec 32) (a3 : Nat) (k : Keeps π s) :
    Keeps π (State.incomplete s a1 a2 a3) := by
  unfold State.incomplete
  repeat' (first
    | with_reducible assumption
    | intro _
    | (with_reducible first
        | apply keeps_ite | apply keeps_ite_snd | apply kept_raise | apply kept_bump | apply kept_store))

theorem kept_countLost (igOd : Ignores.od π) (igIngress : Ignores.ingress π) (s : State) (a1 : Fin 32) (k : Keeps π s)
  :
    Keeps π (State.countLost s a1) := by
  unfold State.countLost
  repeat' (first
    | with_reducible assumption
    | intro _
    | (with_reducible first
        | apply keeps_ite | apply keeps_ite_snd | apply kept_bump | apply kept_withStream))

theorem kept_frameArrived (igOd : Ignores.od π) (igControl : Ignores.control π) (igNvm : Ignores.nvm π) (igIngress :
  Ignores.ingress π) (igSent : Ignores.sent π) (s : State) (a1 : Fin 32) (a2 : Nat) (k : Keeps π s) :
    Keeps π (State.frameArrived s a1 a2) := by
  unfold State.frameArrived
  repeat' (first
    | with_reducible assumption
    | intro _
    | (with_reducible first
        | apply keeps_ite | apply keeps_ite_snd | apply kept_withStream | apply kept_wrN | apply kept_raiseLimited))

theorem kept_closeFrame (igOd : Ignores.od π) (igControl : Ignores.control π) (igNvm : Ignores.nvm π) (igIngress :
  Ignores.ingress π) (igSent : Ignores.sent π) (s : State) (a1 : Fin 32) (a2 : OpenFrame) (k : Keeps π s) :
    Keeps π (State.closeFrame s a1 a2) := by
  unfold State.closeFrame
  repeat' (first
    | with_reducible assumption
    | intro _
    | (with_reducible first
        | apply keeps_ite | apply keeps_ite_snd | apply kept_frameArrived | apply kept_countLost
        | apply kept_withStream | apply kept_incomplete | apply kept_complete))

theorem kept_closeTs (igOd : Ignores.od π) (igControl : Ignores.control π) (igNvm : Ignores.nvm π) (igIngress :
  Ignores.ingress π) (igSent : Ignores.sent π) (s : State) (a1 : Fin 32) (a2 : BitVec 32) (k : Keeps π s) :
    Keeps π (State.closeTs s a1 a2) := by
  unfold State.closeTs
  repeat' (first
    | with_reducible assumption
    | intro _
    | (with_reducible first
        | apply keeps_ite | apply keeps_ite_snd | apply kept_closeFrame | apply kept_withStream)
    | split)

theorem kept_placePacket (igOd : Ignores.od π) (igControl : Ignores.control π) (igNvm : Ignores.nvm π) (igIngress :
  Ignores.ingress π) (igSent : Ignores.sent π) (s : State) (a1 : Fin 32) (a2 : Nat) (a3 : Rtp) (k : Keeps π s) :
    Keeps π (State.placePacket s a1 a2 a3) := by
  unfold State.placePacket
  repeat' (first
    | with_reducible assumption
    | intro _
    | (with_reducible first
        | apply keeps_ite | apply keeps_ite_snd | apply kept_withStream | apply kept_closeTs))

theorem kept_rtpPacket (igOd : Ignores.od π) (igControl : Ignores.control π) (igNvm : Ignores.nvm π) (igIngress :
  Ignores.ingress π) (igSent : Ignores.sent π) (s : State) (a1 : Fin 32) (a2 : Fin 2) (a3 : List Byte) (k : Keeps π s)
  :
    Keeps π (State.rtpPacket s a1 a2 a3) := by
  unfold State.rtpPacket
  repeat' (first
    | with_reducible assumption
    | intro _
    | (with_reducible first
        | apply keeps_ite | apply keeps_ite_snd | apply kept_wrN | apply kept_countLost | apply kept_withStream
        | apply kept_placePacket)
    | split)

theorem kept_execTxPortCEthernetFrame (igOd : Ignores.od π) (igControl : Ignores.control π) (igNvm : Ignores.nvm π)
  (igIngress : Ignores.ingress π) (igSent : Ignores.sent π) (a0 : Fin 8) (a1 : EthFrame) (s : State) (k : Keeps π s) :
    KeepsO π (execTxPortCEthernetFrame a0 a1 s) := by
  unfold execTxPortCEthernetFrame
  repeat' (first
    | with_reducible assumption
    | intro _
    | (with_reducible first
        | apply keeps_ite | apply keeps_ite_snd | apply keepsO_next | apply keepsO_ite | apply keepsO_dite
        | apply keeps_foldl | apply kept_ethDrop | apply kept_ethSend | apply kept_rtpPacket)
    | split)

theorem kept_execSelectSend (igNow : Ignores.now π) (igLanes : Ignores.lanes π) (igQuartz : Ignores.quartz π)
  (igCascade : Ignores.cascade π) (igSent : Ignores.sent π) (s : State) (k : Keeps π s) :
    KeepsO π (execSelectSend s) := by
  unfold execSelectSend
  repeat' (first
    | with_reducible assumption
    | intro _
    | (with_reducible first
        | apply keeps_ite | apply keeps_ite_snd | apply keepsO_next | apply keepsO_ite | apply keepsO_dite
        | apply kept_untilWall | apply kept_sendUnit))

theorem kept_chooseFor (igOd : Ignores.od π) (igControl : Ignores.control π) (igNvm : Ignores.nvm π) (igIngress :
  Ignores.ingress π) (igSent : Ignores.sent π) (s : State) (a1 : Fin 32) (a2 : Nat) (k : Keeps π s) :
    Keeps π (State.chooseFor s a1 a2).2 := by
  unfold State.chooseFor
  repeat' (first
    | with_reducible assumption
    | intro _
    | (with_reducible first
        | apply keeps_ite | apply keeps_ite_snd | apply kept_raise | apply kept_setLimiter | apply kept_withStream
        | apply kept_bump))

theorem kept_selectFor (igOd : Ignores.od π) (igControl : Ignores.control π) (igNvm : Ignores.nvm π) (igIngress :
  Ignores.ingress π) (igSent : Ignores.sent π) (s : State) (a1 : Fin 32) (a2 : Nat) (k : Keeps π s) :
    Keeps π (State.selectFor s a1 a2).2 := by
  unfold State.selectFor
  repeat' (first
    | with_reducible assumption
    | intro _
    | (with_reducible first
        | apply keeps_ite | apply keeps_ite_snd | apply kept_chooseFor | apply kept_withStream | apply kept_bump
        | apply kept_raiseLimited)
    | split
    | simp -iota -proj only []
    | (refine keeps_pair ?_ (by with_reducible assumption)))

theorem kept_execJpegXsDecodeComplete (igOd : Ignores.od π) (igControl : Ignores.control π) (igNvm : Ignores.nvm π)
  (igIngress : Ignores.ingress π) (igSent : Ignores.sent π) (a0 : Fin 32) (a1 : Option Nat) (s : State) (k : Keeps π
  s) :
    KeepsO π (execJpegXsDecodeComplete a0 a1 s) := by
  unfold execJpegXsDecodeComplete
  repeat' (first
    | with_reducible assumption
    | intro _
    | (with_reducible first
        | apply keeps_ite | apply keeps_ite_snd | apply keepsO_next | apply keepsO_ite | apply keepsO_dite
        | apply kept_withStream | apply kept_complete | apply kept_raise | apply kept_incomplete)
    | split)

theorem kept_execSelectUnitReceive (igLanes : Ignores.lanes π) (igCascade : Ignores.cascade π) (igIngress :
  Ignores.ingress π) (igSent : Ignores.sent π) (a0 : Fin 2) (a1 : CascadeUnit) (s : State) (k : Keeps π s) :
    KeepsO π (execSelectUnitReceive a0 a1 s) := by
  unfold execSelectUnitReceive
  repeat' (first
    | with_reducible assumption
    | intro _
    | (with_reducible first
        | apply keeps_ite | apply keeps_ite_snd | apply keepsO_next | apply keepsO_ite | apply keepsO_dite
        | apply keeps_foldl | apply kept_takeUnit | apply kept_withStream)
    | split
    | simp -iota -proj only [])

theorem kept_execRtpPacketReceive (igOd : Ignores.od π) (igControl : Ignores.control π) (igNvm : Ignores.nvm π)
  (igIngress : Ignores.ingress π) (igSent : Ignores.sent π) (a0 : Fin 32) (a1 : Fin 2) (a2 : List Byte) (s : State) (k
  : Keeps π s) :
    KeepsO π (execRtpPacketReceive a0 a1 a2 s) := by
  unfold execRtpPacketReceive
  repeat' (first
    | with_reducible assumption
    | intro _
    | (with_reducible first
        | apply keeps_ite | apply keeps_ite_snd | apply keepsO_next | apply keepsO_ite | apply keepsO_dite
        | apply kept_rtpPacket))

theorem kept_execFreeSelectChoice (igNow : Ignores.now π) (igQuartz : Ignores.quartz π) (igIngress : Ignores.ingress
  π) (s : State) (k : Keeps π s) :
    KeepsO π (execFreeSelectChoice s) := by
  unfold execFreeSelectChoice
  repeat' (first
    | with_reducible assumption
    | intro _
    | (with_reducible first
        | apply keeps_ite | apply keeps_ite_snd | apply keepsO_next | apply keepsO_ite | apply keepsO_dite
        | apply keeps_foldl | apply kept_untilWall | apply kept_withStream))

theorem kept_execIgmpReportTimer (igNow : Ignores.now π) (igQuartz : Ignores.quartz π) (igIngress : Ignores.ingress π)
  (igSent : Ignores.sent π) (a0 : Fin 32) (s : State) (k : Keeps π s) :
    KeepsO π (execIgmpReportTimer a0 s) := by
  unfold execIgmpReportTimer
  repeat' (first
    | with_reducible assumption
    | intro _
    | (with_reducible first
        | apply keeps_ite | apply keeps_ite_snd | apply keepsO_next | apply keepsO_ite | apply keepsO_dite
        | apply kept_igmpJoin | apply kept_withStream | apply kept_until_)
    | split)

theorem kept_igmpAnswer (igSent : Ignores.sent π) (s : State) (a1 : Nat) (a2 : Fin 2) (a3 : List Nat) (k : Keeps π s)
  :
    Keeps π (State.igmpAnswer s a1 a2 a3) := by
  unfold State.igmpAnswer
  repeat' (first
    | with_reducible assumption
    | intro _
    | (with_reducible first
        | apply keeps_ite | apply keeps_ite_snd | apply kept_igmpFor))

theorem kept_execIgmpQueryReceive (igOd : Ignores.od π) (igControl : Ignores.control π) (igNvm : Ignores.nvm π)
  (igIngress : Ignores.ingress π) (igSent : Ignores.sent π) (a0 : Fin 8) (a1 a2 : Nat) (a3 : List Nat) (s : State) (k
  : Keeps π s) :
    KeepsO π (execIgmpQueryReceive a0 a1 a2 a3 s) := by
  unfold execIgmpQueryReceive
  repeat' (first
    | with_reducible assumption
    | intro _
    | (with_reducible first
        | apply keeps_ite | apply keeps_ite_snd | apply keepsO_next | apply keepsO_ite | apply keepsO_dite
        | apply keeps_foldl | apply kept_withIngress | apply kept_raise | apply kept_igmpAnswer))

theorem kept_execFrameCloseTimeout (igNow : Ignores.now π) (igOd : Ignores.od π) (igControl : Ignores.control π)
  (igNvm : Ignores.nvm π) (igQuartz : Ignores.quartz π) (igIngress : Ignores.ingress π) (igSent : Ignores.sent π) (a0
  : Fin 32) (s : State) (k : Keeps π s) :
    KeepsO π (execFrameCloseTimeout a0 s) := by
  unfold execFrameCloseTimeout
  repeat' (first
    | with_reducible assumption
    | intro _
    | (with_reducible first
        | apply keeps_ite | apply keeps_ite_snd | apply keepsO_next | apply keepsO_ite | apply keepsO_dite
        | apply kept_closeTs | apply kept_until_)
    | split)

theorem kept_execPathLostTimeout (igNow : Ignores.now π) (igOd : Ignores.od π) (igControl : Ignores.control π) (igNvm
  : Ignores.nvm π) (igQuartz : Ignores.quartz π) (igIngress : Ignores.ingress π) (igSent : Ignores.sent π) (a0 : Fin
  32) (a1 : Fin 2) (s : State) (k : Keeps π s) :
    KeepsO π (execPathLostTimeout a0 a1 s) := by
  unfold execPathLostTimeout
  repeat' (first
    | with_reducible assumption
    | intro _
    | (with_reducible first
        | apply keeps_ite | apply keeps_ite_snd | apply keepsO_next | apply keepsO_ite | apply keepsO_dite
        | apply kept_until_ | apply kept_raise | apply kept_withStream | apply kept_countLost | apply kept_wrN))

theorem kept_mapTableWrite (igOd : Ignores.od π) (s : State) (a1 : Nat) (a2 : List Byte) (k : Keeps π s) :
    Keeps π (State.mapTableWrite s a1 a2).2 := by
  unfold State.mapTableWrite
  repeat' (first
    | with_reducible assumption
    | intro _
    | (with_reducible first
        | apply keeps_ite | apply keeps_ite_snd | apply kept_wrD))

theorem kept_frustumIn (igOd : Ignores.od π) (igControl : Ignores.control π) (igNvm : Ignores.nvm π) (igLanes :
  Ignores.lanes π) (igPorts : Ignores.ports π) (igCascade : Ignores.cascade π) (igIngress : Ignores.ingress π) (igSent
  : Ignores.sent π) (s : State) (a1 : List Byte) (k : Keeps π s) :
    Keeps π (State.frustumIn s a1).2 := by
  unfold State.frustumIn
  repeat' (first
    | with_reducible assumption
    | intro _
    | (with_reducible first
        | apply keeps_ite | apply keeps_ite_snd | apply keeps_foldl | apply kept_raise | apply kept_raiseLimited
        | apply kept_bump | apply kept_wrD | apply kept_withIngress | apply kept_broadcastWrite))

theorem kept_sendTable (igLanes : Ignores.lanes π) (igCascade : Ignores.cascade π) (igSent : Ignores.sent π) (s :
  State) (a1 : Nat) (a2 : List Byte) (k : Keeps π s) :
    Keeps π (State.sendTable s a1 a2) := by
  unfold State.sendTable
  repeat' (first
    | with_reducible assumption
    | intro _
    | (with_reducible first
        | apply keeps_ite | apply keeps_ite_snd | apply keeps_foldl | apply kept_sendMgmtUnit))

theorem kept_validateMap (igOd : Ignores.od π) (igControl : Ignores.control π) (igNvm : Ignores.nvm π) (igSent :
  Ignores.sent π) (s : State) (a1 a2 : List Byte) (k : Keeps π s) :
    Keeps π (State.validateMap s a1 a2).2.2 := by
  unfold State.validateMap
  repeat' (first
    | with_reducible assumption
    | intro _
    | (with_reducible first
        | apply keeps_ite | apply keeps_ite_snd | apply keeps_ite_snd2 | apply kept_wrN | apply kept_raiseIf))

theorem kept_beginCommit (igOd : Ignores.od π) (igControl : Ignores.control π) (igLanes : Ignores.lanes π) (igPorts :
  Ignores.ports π) (igCascade : Ignores.cascade π) (igIngress : Ignores.ingress π) (igSent : Ignores.sent π) (s :
  State) (a1 : Fin 2) (a2 : MapPending) (k : Keeps π s) :
    Keeps π (State.beginCommit s a1 a2) := by
  unfold State.beginCommit
  repeat' (first
    | with_reducible assumption
    | intro _
    | (with_reducible first
        | apply keeps_ite | apply keeps_ite_snd | apply keeps_foldl | apply kept_withIngress
        | apply kept_broadcastWrite | apply kept_ownWrite))

theorem kept_commitChains (igOd : Ignores.od π) (igControl : Ignores.control π) (igLanes : Ignores.lanes π) (igPorts :
  Ignores.ports π) (igCascade : Ignores.cascade π) (igIngress : Ignores.ingress π) (igSent : Ignores.sent π) (s :
  State) (a1 : MapPending) (k : Keeps π s) :
    Keeps π (State.commitChains s a1) := by
  unfold State.commitChains
  repeat' (first
    | with_reducible assumption
    | intro _
    | (with_reducible first
        | apply keeps_ite | apply keeps_ite_snd | apply kept_withIngress | apply kept_beginCommit))

theorem kept_holdMap (igOd : Ignores.od π) (igControl : Ignores.control π) (igLanes : Ignores.lanes π) (igPorts :
  Ignores.ports π) (igCascade : Ignores.cascade π) (igIngress : Ignores.ingress π) (igSent : Ignores.sent π) (s :
  State) (a1 : MapPending) (k : Keeps π s) :
    Keeps π (State.holdMap s a1) := by
  unfold State.holdMap
  repeat' (first
    | with_reducible assumption
    | intro _
    | (with_reducible first
        | apply keeps_ite | apply keeps_ite_snd | apply kept_commitChains | apply kept_wrN | apply kept_withIngress))

theorem kept_activateFrameWrite (igOd : Ignores.od π) (igControl : Ignores.control π) (igNvm : Ignores.nvm π) (igLanes
  : Ignores.lanes π) (igPorts : Ignores.ports π) (igCascade : Ignores.cascade π) (igIngress : Ignores.ingress π)
  (igSent : Ignores.sent π) (s : State) (a1 : Nat) (k : Keeps π s) :
    Keeps π (State.activateFrameWrite s a1).2 := by
  unfold State.activateFrameWrite
  repeat' (first
    | with_reducible assumption
    | intro _
    | (with_reducible first
        | apply keeps_ite | apply keeps_ite_snd | apply kept_sendTable | apply kept_startRun | apply kept_sendMgmtUnit
        | apply kept_validateMap | apply kept_holdMap | apply kept_wrN | apply kept_withIngress))

theorem kept_mapEnds (igOd : Ignores.od π) (s : State) (a1 : Bool) (a2 : List Nat) (k : Keeps π s) :
    Keeps π (State.mapEnds s a1 a2) := by
  unfold State.mapEnds
  repeat' (first
    | with_reducible assumption
    | intro _
    | (with_reducible first
        | apply keeps_ite | apply keeps_ite_snd | apply kept_publish | apply kept_wrN))

theorem kept_abortCommits (igIngress : Ignores.ingress π) (s : State) (k : Keeps π s) :
    Keeps π (State.abortCommits s) := by
  unfold State.abortCommits
  repeat' (first
    | with_reducible assumption
    | intro _
    | (with_reducible first
        | apply keeps_ite | apply keeps_ite_snd | apply kept_withIngress))

theorem kept_mapDropped (igOd : Ignores.od π) (igIngress : Ignores.ingress π) (s : State) (k : Keeps π s) :
    Keeps π (State.mapDropped s) := by
  unfold State.mapDropped
  repeat' (first
    | with_reducible assumption
    | intro _
    | (with_reducible first
        | apply keeps_ite | apply keeps_ite_snd | apply kept_cause | apply kept_mapEnds | apply kept_abortCommits
        | apply kept_withIngress))

theorem kept_activateMap (igOd : Ignores.od π) (igLanes : Ignores.lanes π) (igPorts : Ignores.ports π) (igCascade :
  Ignores.cascade π) (igIngress : Ignores.ingress π) (igSent : Ignores.sent π) (s : State) (a1 : Nat) (k : Keeps π s)
  :
    Keeps π (State.activateMap s a1) := by
  unfold State.activateMap
  repeat' (first
    | with_reducible assumption
    | intro _
    | (with_reducible first
        | apply keeps_ite | apply keeps_ite_snd | apply keeps_foldl | apply kept_mapDropped | apply kept_withIngress
        | apply kept_wrD | apply kept_mapEnds | apply kept_wrN | apply kept_withChain | apply kept_sendAssign)
    | split)

theorem kept_sendFramectl (igLanes : Ignores.lanes π) (igPorts : Ignores.ports π) (igCascade : Ignores.cascade π)
  (igSent : Ignores.sent π) (s : State) (a1 : Fin 2) (a2 a3 : Nat) (a4 : List Byte) (k : Keeps π s) :
    Keeps π (State.sendFramectl s a1 a2 a3 a4) := by
  unfold State.sendFramectl
  repeat' (first
    | with_reducible assumption
    | intro _
    | (with_reducible first
        | apply keeps_ite | apply keeps_ite_snd | apply kept_originateChain))

theorem kept_sendCommit (igLanes : Ignores.lanes π) (igPorts : Ignores.ports π) (igCascade : Ignores.cascade π)
  (igIngress : Ignores.ingress π) (igSent : Ignores.sent π) (s : State) (a1 : Fin 2) (k : Keeps π s) :
    Keeps π (State.sendCommit s a1) := by
  unfold State.sendCommit
  repeat' (first
    | with_reducible assumption
    | intro _
    | (with_reducible first
        | apply keeps_ite | apply keeps_ite_snd | apply kept_sendFramectl | apply kept_withIngress)
    | split)

theorem kept_execFramectlSend (igNow : Ignores.now π) (igLanes : Ignores.lanes π) (igQuartz : Ignores.quartz π)
  (igPorts : Ignores.ports π) (igCascade : Ignores.cascade π) (igIngress : Ignores.ingress π) (igSent : Ignores.sent
  π) (a0 : Fin 2) (s : State) (k : Keeps π s) :
    KeepsO π (execFramectlSend a0 s) := by
  unfold execFramectlSend
  repeat' (first
    | with_reducible assumption
    | intro _
    | (with_reducible first
        | apply keeps_ite | apply keeps_ite_snd | apply keepsO_next | apply keepsO_ite | apply keepsO_dite
        | apply kept_sendCommit | apply kept_untilWall | apply kept_sendFramectl))

theorem kept_takeActivation (igOd : Ignores.od π) (igControl : Ignores.control π) (igNvm : Ignores.nvm π) (igLanes :
  Ignores.lanes π) (igPorts : Ignores.ports π) (igCascade : Ignores.cascade π) (igIngress : Ignores.ingress π) (igSent
  : Ignores.sent π) (s : State) (a1 : Nat) (a2 : List Byte) (k : Keeps π s) :
    Keeps π (State.takeActivation s a1 a2) := by
  unfold State.takeActivation
  repeat' (first
    | with_reducible assumption
    | intro _
    | (with_reducible first
        | apply keeps_ite | apply keeps_ite_snd | apply kept_withIngress | apply kept_sendMgmtUnit
        | apply kept_validateMap | apply kept_startRun | apply kept_holdMap | apply kept_mapEnds))

theorem kept_takeMapAnswer (igIngress : Ignores.ingress π) (s : State) (a1 : Nat) (a2 : List Byte) (k : Keeps π s) :
    Keeps π (State.takeMapAnswer s a1 a2) := by
  unfold State.takeMapAnswer
  repeat' (first
    | with_reducible assumption
    | intro _
    | (with_reducible first
        | apply keeps_ite | apply keeps_ite_snd | apply kept_withIngress)
    | split)

theorem kept_execMgmtUnitReceive (igOd : Ignores.od π) (igControl : Ignores.control π) (igNvm : Ignores.nvm π)
  (igUpdate : Ignores.update π) (igLanes : Ignores.lanes π) (igQuartz : Ignores.quartz π) (igPorts : Ignores.ports π)
  (igCascade : Ignores.cascade π) (igIngress : Ignores.ingress π) (igSent : Ignores.sent π) (a0 : Fin 2) (a1 :
  CascadeUnit) (s : State) (k : Keeps π s) :
    KeepsO π (execMgmtUnitReceive a0 a1 s) := by
  unfold execMgmtUnitReceive
  repeat' (first
    | with_reducible assumption
    | intro _
    | (with_reducible first
        | apply keeps_ite | apply keeps_ite_snd | apply keepsO_next | apply keepsO_ite | apply keepsO_dite
        | apply kept_takeUnit | apply kept_withIngress | apply kept_takeActivation | apply kept_takeMapAnswer
        | apply kept_withQuartz | apply kept_takeDmin | apply kept_takeBases | apply kept_takeWu
        | apply kept_nameMarks | apply kept_withCascade | apply kept_mapDropped)
    | split)

theorem kept_sliceChain (igOd : Ignores.od π) (igPorts : Ignores.ports π) (s : State) (a1 : Fin 2) (a2 : Nat) (a3 :
  List (Fin 32 × SrcFrame)) (a4 : List (Nat × Nat)) (k : Keeps π s) :
    Keeps π (State.sliceChain s a1 a2 a3 a4) := by
  unfold State.sliceChain
  repeat' (first
    | with_reducible assumption
    | intro _
    | (with_reducible first
        | apply keeps_ite | apply keeps_ite_snd | apply keeps_foldl | apply kept_withChain | apply kept_wrN))

theorem kept_sliceFrame (igOd : Ignores.od π) (igControl : Ignores.control π) (igNvm : Ignores.nvm π) (igPorts :
  Ignores.ports π) (igCascade : Ignores.cascade π) (igIngress : Ignores.ingress π) (igSent : Ignores.sent π) (s :
  State) (a1 : Nat) (a2 : List (Nat × Nat)) (k : Keeps π s) :
    Keeps π (State.sliceFrame s a1 a2) := by
  unfold State.sliceFrame
  have h : ∀ (a : List (Fin 32 × SrcFrame) × State) (n : Fin 32), Keeps π a.2 → Keeps π (if !a.2.subscribed n then
        (a.1, if a.2.streamOn n && !a.2.freeStream n then (a.2.chooseFor n a1).2 else a.2)
      else
        let (g, s) := a.2.selectFor n a1
        (match g with
          | some g => a.1 ++ [(n, g)]
          | none => a.1, s)).2 := by
    intro a n ka
    refine keeps_ite_snd (keeps_ite (kept_chooseFor igOd igControl igNvm igIngress igSent a.2 n a1 ka) ka) ?_
    have h := kept_selectFor igOd igControl igNvm igIngress igSent a.2 n a1 ka
    generalize a.2.selectFor n a1 = p at h
    obtain ⟨g, t⟩ := p
    exact h
  have h2 := keeps_foldl_snd (l := List.finRange 32) (a := ([], s)) h k
  generalize List.foldl _ ([], s) (List.finRange 32) = p at h2
  obtain ⟨sel, t⟩ := p
  dsimp only
  apply kept_sliceChain
  all_goals try with_reducible assumption
  apply kept_sliceChain
  all_goals try with_reducible assumption
  exact keeps_ite (keeps_foldl (fun s e k => kept_bump igOd _ _ _ _ k) h2)
    (keeps_set_cascade igCascade (keeps_foldl (fun s e k => kept_bump igOd _ _ _ _ k) h2))

theorem kept_commitInForce (igOd : Ignores.od π) (igControl : Ignores.control π) (igLanes : Ignores.lanes π) (igQuartz
  : Ignores.quartz π) (igPorts : Ignores.ports π) (igCascade : Ignores.cascade π) (igIngress : Ignores.ingress π)
  (igSent : Ignores.sent π) (s : State) (a1 : Fin 2) (a2 : Nat) (k : Keeps π s) :
    Keeps π (State.commitInForce s a1 a2) := by
  unfold State.commitInForce
  repeat' (first
    | with_reducible assumption
    | intro _
    | (with_reducible first
        | apply keeps_ite | apply keeps_ite_snd | apply kept_withIngress | apply kept_readLamps)
    | split)

theorem kept_execMapActivationDeadline (igNow : Ignores.now π) (igOd : Ignores.od π) (igControl : Ignores.control π)
  (igNvm : Ignores.nvm π) (igLanes : Ignores.lanes π) (igQuartz : Ignores.quartz π) (igCascade : Ignores.cascade π)
  (igIngress : Ignores.ingress π) (igSent : Ignores.sent π) (s : State) (k : Keeps π s) :
    KeepsO π (execMapActivationDeadline s) := by
  unfold execMapActivationDeadline
  repeat' (first
    | with_reducible assumption
    | intro _
    | (with_reducible first
        | apply keeps_ite | apply keeps_ite_snd | apply keepsO_next | apply keepsO_ite | apply keepsO_dite
        | apply kept_untilWall | apply kept_sendMgmtUnit | apply kept_withIngress | apply kept_mapEnds
        | apply kept_abortCommits | apply kept_raiseIf)
    | split)

theorem kept_execFrustumStaleTimeout (igNow : Ignores.now π) (igOd : Ignores.od π) (igControl : Ignores.control π)
  (igNvm : Ignores.nvm π) (igQuartz : Ignores.quartz π) (igIngress : Ignores.ingress π) (igSent : Ignores.sent π) (s :
  State) (k : Keeps π s) :
    KeepsO π (execFrustumStaleTimeout s) := by
  unfold execFrustumStaleTimeout
  repeat' (first
    | with_reducible assumption
    | intro _
    | (with_reducible first
        | apply keeps_ite | apply keeps_ite_snd | apply keepsO_next | apply keepsO_ite | apply keepsO_dite
        | apply kept_untilWall | apply kept_raise | apply kept_withIngress))

theorem kept_rejudge (igOd : Ignores.od π) (igControl : Ignores.control π) (igHostPort : Ignores.hostPort π) (igLanes
  : Ignores.lanes π) (igQuartz : Ignores.quartz π) (igPorts : Ignores.ports π) (igCascade : Ignores.cascade π)
  (igIngress : Ignores.ingress π) (igSent : Ignores.sent π) (s : State) (a1 : Fin 2) (k : Keeps π s) :
    Keeps π (State.rejudge s a1) := by
  unfold State.rejudge
  repeat' (first
    | with_reducible assumption
    | intro _
    | (with_reducible first
        | apply keeps_ite | apply keeps_ite_snd | apply kept_setCState | apply kept_giveControl
        | apply kept_judgeStandby))

theorem kept_chainNumberWrite (igOd : Ignores.od π) (igControl : Ignores.control π) (igNvm : Ignores.nvm π)
  (igHostPort : Ignores.hostPort π) (igLanes : Ignores.lanes π) (igQuartz : Ignores.quartz π) (igPorts : Ignores.ports
  π) (igCascade : Ignores.cascade π) (igIngress : Ignores.ingress π) (igSent : Ignores.sent π) (s : State) (a1 : Fin
  2) (a2 : Int) (k : Keeps π s) :
    Keeps π (State.chainNumberWrite s a1 a2).2 := by
  unfold State.chainNumberWrite
  repeat' (first
    | with_reducible assumption
    | intro _
    | (with_reducible first
        | apply keeps_ite | apply keeps_ite_snd | apply kept_wrI | apply kept_raiseIf | apply kept_withChain
        | apply kept_rejudge))

theorem kept_modeWrite (igOd : Ignores.od π) (igControl : Ignores.control π) (igHostPort : Ignores.hostPort π)
  (igLanes : Ignores.lanes π) (igQuartz : Ignores.quartz π) (igPorts : Ignores.ports π) (igCascade : Ignores.cascade
  π) (igIngress : Ignores.ingress π) (igSent : Ignores.sent π) (s : State) (a1 : Int) (k : Keeps π s) :
    Keeps π (State.modeWrite s a1).2 := by
  unfold State.modeWrite
  repeat' (first
    | with_reducible assumption
    | intro _
    | (with_reducible first
        | apply keeps_ite | apply keeps_ite_snd | apply kept_rejudge | apply kept_wrI))

theorem kept_lampsAgain (igOd : Ignores.od π) (igControl : Ignores.control π) (igLanes : Ignores.lanes π) (igQuartz :
  Ignores.quartz π) (igPorts : Ignores.ports π) (igCascade : Ignores.cascade π) (igSent : Ignores.sent π) (s : State)
  (a1 : Fin 2) (a2 : Nat) (k : Keeps π s) :
    Keeps π (State.lampsAgain s a1 a2) := by
  unfold State.lampsAgain
  repeat' (first
    | with_reducible assumption
    | intro _
    | (with_reducible first
        | apply keeps_ite | apply keeps_ite_snd | apply kept_withChain | apply kept_readLamps)
    | split)

theorem kept_recommit (igOd : Ignores.od π) (igControl : Ignores.control π) (igLanes : Ignores.lanes π) (igPorts :
  Ignores.ports π) (igCascade : Ignores.cascade π) (igIngress : Ignores.ingress π) (igSent : Ignores.sent π) (s :
  State) (a1 : Nat) (k : Keeps π s) :
    Keeps π (State.recommit s a1) := by
  unfold State.recommit
  repeat' (first
    | with_reducible assumption
    | intro _
    | (with_reducible first
        | apply keeps_ite | apply keeps_ite_snd | apply kept_commitChains))

end Sys2Proof.Machine
end

