-- ==== Sys2Proof/Laws/KeptCommands.lean ====
section
/-! SUPPORT. What each operation can change, one lemma for each, in the words of `Keeps`: the dictionary writes, the start, the field buses, the engine box, the cells and the object rows. -/

namespace Sys2Proof.Machine
open Host

variable {π : State → Prop}

theorem kept_readObject (igControl : Ignores.control π) (igFreeCount : Ignores.freeCount π) (s : State) (a1 : CtxId)
  (a2 a3 : Nat) (k : Keeps π s) :
    Keeps π (State.readObject s a1 a2 a3).2.2 := by
  unfold State.readObject
  repeat' (first
    | with_reducible assumption
    | intro _
    | (with_reducible first
        | apply keeps_ite | apply keeps_ite_snd | apply keeps_ite_snd2 | apply kept_challenge)
    | split)

theorem kept_startTiming (igOd : Ignores.od π) (igQuartz : Ignores.quartz π) (s : State) (k : Keeps π s) :
    Keeps π (State.startTiming s) := by
  unfold State.startTiming
  repeat' (first
    | with_reducible assumption
    | intro _
    | (with_reducible first
        | apply keeps_ite | apply keeps_ite_snd | apply kept_wrN | apply kept_takeDelayMode | apply kept_wrSlots
        | apply kept_withQuartz))

theorem kept_holdBoot (igLife : Ignores.life π) (igOd : Ignores.od π) (igControl : Ignores.control π) (igNvm :
  Ignores.nvm π) (igSent : Ignores.sent π) (s : State) (a1 : Bool) (k : Keeps π s) :
    Keeps π (State.holdBoot s a1) := by
  unfold State.holdBoot
  repeat' (first
    | with_reducible assumption
    | intro _
    | (with_reducible first
        | apply keeps_ite | apply keeps_ite_snd | apply kept_raiseIf)
    | split
    | simp -iota -proj only []
    | dsimp only
    | with_reducible apply keeps_set_life)

theorem kept_bootSlot (igOd : Ignores.od π) (s : State) (a1 : Nat) (k : Keeps π s) :
    Keeps π (State.bootSlot s a1) := by
  unfold State.bootSlot
  repeat' (first
    | with_reducible assumption
    | intro _
    | (with_reducible first
        | apply keeps_ite | apply keeps_ite_snd | apply kept_wrN))

theorem kept_bootRevert (igLife : Ignores.life π) (igOd : Ignores.od π) (igControl : Ignores.control π) (igNvm :
  Ignores.nvm π) (igSent : Ignores.sent π) (s : State) (a1 : BootPointer) (a2 : Nat) (k : Keeps π s) :
    Keeps π (State.bootRevert s a1 a2) := by
  unfold State.bootRevert
  repeat' (first
    | with_reducible assumption
    | intro _
    | (with_reducible first
        | apply keeps_ite | apply keeps_ite_snd | apply kept_addJob | apply kept_writePointer | apply kept_raise
        | apply kept_bootSlot | apply kept_holdBoot))

theorem kept_bootStep (igLife : Ignores.life π) (igOd : Ignores.od π) (igControl : Ignores.control π) (igNvm :
  Ignores.nvm π) (igUpdate : Ignores.update π) (igSent : Ignores.sent π) (s : State) (k : Keeps π s) :
    Keeps π (State.bootStep s) := by
  unfold State.bootStep
  repeat' (first
    | with_reducible assumption
    | intro _
    | (with_reducible first
        | apply keeps_ite | apply keeps_ite_snd | apply kept_holdBoot | apply kept_bootSlot | apply kept_writePointer
        | apply kept_bootRevert | apply kept_wrN | apply kept_withUpdate | apply kept_raise)
    | split)

theorem kept_latchPeak (igVideo : Ignores.video π) (s : State) (k : Keeps π s) :
    Keeps π (State.latchPeak s) := by
  unfold State.latchPeak
  repeat' (first
    | with_reducible assumption
    | intro _
    | (with_reducible first
        | apply keeps_ite | apply keeps_ite_snd | apply kept_withColour))

theorem kept_loadCorr (igOd : Ignores.od π) (igControl : Ignores.control π) (igNvm : Ignores.nvm π) (igVideo :
  Ignores.video π) (igSent : Ignores.sent π) (s : State) (k : Keeps π s) :
    Keeps π (State.loadCorr s) := by
  unfold State.loadCorr
  repeat' (first
    | with_reducible assumption
    | intro _
    | (with_reducible first
        | apply keeps_ite | apply keeps_ite_snd | apply kept_withColour | apply kept_dropCorr | apply kept_raise
        | apply kept_forceCorr))

theorem kept_loadSettings (igOd : Ignores.od π) (igControl : Ignores.control π) (igNvm : Ignores.nvm π) (igSent :
  Ignores.sent π) (s : State) (k : Keeps π s) :
    Keeps π (State.loadSettings s) := by
  unfold State.loadSettings
  repeat' (first
    | with_reducible assumption
    | intro _
    | (with_reducible first
        | apply keeps_ite | apply keeps_ite_snd | apply keeps_foldl | apply kept_raise | apply kept_loadEntry
        | apply kept_raiseIf | apply kept_wrN)
    | split)

theorem kept_loadLibrary (igOd : Ignores.od π) (s : State) (k : Keeps π s) :
    Keeps π (State.loadLibrary s) := by
  unfold State.loadLibrary
  repeat' (first
    | with_reducible assumption
    | intro _
    | (with_reducible first
        | apply keeps_ite | apply keeps_ite_snd | apply keeps_foldl | apply kept_loadCoeff))

theorem kept_startPixels (igOd : Ignores.od π) (igControl : Ignores.control π) (igNvm : Ignores.nvm π) (igHostPort :
  Ignores.hostPort π) (igVideo : Ignores.video π) (igLamps : Ignores.lamps π) (igSent : Ignores.sent π) (s : State) (k
  : Keeps π s) :
    Keeps π (State.startPixels s) := by
  unfold State.startPixels
  repeat' (first
    | with_reducible assumption
    | intro _
    | (with_reducible first
        | apply keeps_ite | apply keeps_ite_snd | apply kept_switchPorts | apply kept_loadCorr
        | apply kept_loadLibrary))

theorem kept_rekeyed (igOd : Ignores.od π) (s : State) (k : Keeps π s) :
    Keeps π (State.rekeyed s) := by
  unfold State.rekeyed
  repeat' (first
    | exact canon_wr _ _ _ _
    | exact canon_filter _ _
    | exact canon_reload _ _ _
    | exact canon_nil _
    | exact canon_rekeyed _
    | with_reducible assumption
    | intro _
    | (with_reducible first
        | apply keeps_ite | apply keeps_ite_snd | apply keeps_foldl)
    | split
    | simp -iota -proj only []
    | dsimp only
    | with_reducible apply keeps_set_od)

theorem kept_startTimers (igClocks : Ignores.clocks π) (s : State) (k : Keeps π s) :
    Keeps π (State.startTimers s) := by
  unfold State.startTimers
  repeat' (first
    | with_reducible assumption
    | intro _
    | (with_reducible first
        | apply keeps_ite | apply keeps_ite_snd | apply kept_withClocks))

theorem kept_takeRole (igRole : Ignores.role π) (igLife : Ignores.life π) (igStraps : Ignores.straps π) (igRailsGood :
  Ignores.railsGood π) (igOtp : Ignores.otp π) (igIngress : Ignores.ingress π) (s : State) (a1 : BitVec 4) (a2 : Nat)
  (k : Keeps π s) :
    Keeps π (State.takeRole s a1 a2) := by
  unfold State.takeRole
  repeat' (first
    | exact canon_shadow _
    | with_reducible assumption
    | intro _
    | (with_reducible first
        | apply keeps_ite | apply keeps_ite_snd)
    | split
    | simp -iota -proj only []
    | dsimp only
    | with_reducible apply keeps_set_role_life_straps_railsGood_otp_ingress)

theorem kept_holdTripped (igClocks : Ignores.clocks π) (igTile : Ignores.tile π) (s : State) (k : Keeps π s) :
    Keeps π (State.holdTripped s) := by
  unfold State.holdTripped
  repeat' (first
    | with_reducible assumption
    | intro _
    | (with_reducible first
        | apply keeps_ite | apply keeps_ite_snd | apply kept_withTile | apply kept_powerDomains))

theorem kept_execColdReset (igRole : Ignores.role π) (igLife : Ignores.life π) (igStraps : Ignores.straps π)
  (igRailsGood : Ignores.railsGood π) (igOd : Ignores.od π) (igControl : Ignores.control π) (igClocks : Ignores.clocks
  π) (igOtp : Ignores.otp π) (igNvm : Ignores.nvm π) (igUpdate : Ignores.update π) (igLanes : Ignores.lanes π) (igTile
  : Ignores.tile π) (igIngress : Ignores.ingress π) (igSent : Ignores.sent π) (a0 : BitVec 4) (a1 a2 : Nat) (s :
  State) (k : Keeps π s) :
    KeepsO π (execColdReset a0 a1 a2 s) := by
  unfold execColdReset
  repeat' (first
    | with_reducible assumption
    | intro _
    | (with_reducible first
        | apply keeps_ite | apply keeps_ite_snd | apply keepsO_next | apply keepsO_ite | apply keepsO_dite
        | apply keeps_foldl | apply kept_startTimers | apply kept_rekeyed | apply kept_takeRole | apply kept_wrN
        | apply kept_bump | apply kept_commandLevel | apply kept_holdTripped | apply kept_bringUpPort
        | apply kept_bootStep)
    | split
    | simp -iota -proj only []
    | dsimp only
    | with_reducible apply keeps_set_life)

theorem kept_applyLaneSettings (igOd : Ignores.od π) (igLanes : Ignores.lanes π) (igQuartz : Ignores.quartz π) (igSent
  : Ignores.sent π) (s : State) (k : Keeps π s) :
    Keeps π (State.applyLaneSettings s) := by
  unfold State.applyLaneSettings
  repeat' (first
    | with_reducible assumption
    | intro _
    | (with_reducible first
        | apply keeps_ite | apply keeps_ite_snd | apply keeps_foldl | apply kept_restartPort))

theorem kept_migrate (igOd : Ignores.od π) (igControl : Ignores.control π) (igNvm : Ignores.nvm π) (igUpdate :
  Ignores.update π) (igSent : Ignores.sent π) (s : State) (k : Keeps π s) :
    Keeps π (State.migrate s) := by
  unfold State.migrate
  repeat' (first
    | with_reducible assumption
    | intro _
    | (with_reducible first
        | apply keeps_ite | apply keeps_ite_snd | apply kept_withUpdate | apply kept_writeSettings
        | apply kept_raiseIf)
    | split)

theorem kept_loadCal (igOd : Ignores.od π) (igControl : Ignores.control π) (igNvm : Ignores.nvm π) (igSent :
  Ignores.sent π) (s : State) (k : Keeps π s) :
    Keeps π (State.loadCal s) := by
  unfold State.loadCal
  repeat' (first
    | with_reducible assumption
    | intro _
    | (with_reducible first
        | apply keeps_ite | apply keeps_ite_snd | apply kept_withCal | apply kept_raise)
    | split)

theorem kept_execImageLoadComplete (igNow : Ignores.now π) (igLife : Ignores.life π) (igOd : Ignores.od π) (igControl
  : Ignores.control π) (igClocks : Ignores.clocks π) (igNvm : Ignores.nvm π) (igUpdate : Ignores.update π) (igHostPort
  : Ignores.hostPort π) (igLanes : Ignores.lanes π) (igQuartz : Ignores.quartz π) (igPorts : Ignores.ports π) (igVideo
  : Ignores.video π) (igLamps : Ignores.lamps π) (igSent : Ignores.sent π) (a0 : Nat) (s : State) (k : Keeps π s) :
    KeepsO π (execImageLoadComplete a0 s) := by
  unfold execImageLoadComplete
  repeat' (first
    | with_reducible assumption
    | intro _
    | (with_reducible first
        | apply keeps_ite | apply keeps_ite_snd | apply keepsO_next | apply keepsO_ite | apply keepsO_dite
        | apply kept_raiseLimited | apply kept_until_ | apply kept_withClocks | apply kept_loadSettings
        | apply kept_restartAccess | apply kept_applyLaneSettings | apply kept_latchPeak | apply kept_loadCal
        | apply kept_resetHostPort | apply kept_wrN | apply kept_trackLevel | apply kept_migrate
        | apply kept_scanBlackBox | apply kept_startPixels | apply kept_started | apply kept_startMode
        | apply kept_startTiming)
    | split
    | simp -iota -proj only []
    | dsimp only
    | with_reducible apply keeps_set_life)

theorem kept_afterTrip (igOd : Ignores.od π) (igControl : Ignores.control π) (igClocks : Ignores.clocks π) (igNvm :
  Ignores.nvm π) (igHostPort : Ignores.hostPort π) (igTile : Ignores.tile π) (igVideo : Ignores.video π) (igLamps :
  Ignores.lamps π) (igSent : Ignores.sent π) (s : State) (k : Keeps π s) :
    Keeps π (State.afterTrip s) := by
  unfold State.afterTrip
  repeat' (first
    | with_reducible assumption
    | intro _
    | (with_reducible first
        | apply keeps_ite | apply keeps_ite_snd | apply keeps_foldl | apply kept_powerDomains | apply kept_withCompose
        | apply kept_loadCorr | apply kept_loadLibrary | apply kept_emit | apply kept_loadEngine
        | apply kept_enumerate)
    | split
    | simp -iota -proj only []
    | dsimp only
    | with_reducible apply keeps_set_tile
    | with_reducible apply keeps_set_lamps)

theorem kept_execWarmReset (igNow : Ignores.now π) (igLife : Ignores.life π) (igOd : Ignores.od π) (igControl :
  Ignores.control π) (igClocks : Ignores.clocks π) (igThermal : Ignores.thermal π) (igNvm : Ignores.nvm π) (igUpdate :
  Ignores.update π) (igBeat : Ignores.beat π) (igTap : Ignores.tap π) (igHostPort : Ignores.hostPort π) (igLanes :
  Ignores.lanes π) (igQuartz : Ignores.quartz π) (igTile : Ignores.tile π) (igPorts : Ignores.ports π) (igCascade :
  Ignores.cascade π) (igIngress : Ignores.ingress π) (igVideo : Ignores.video π) (igLamps : Ignores.lamps π) (igSent :
  Ignores.sent π) (igFreeCount : Ignores.freeCount π) (a0 : Bool) (a1 : Nat) (s : State) (k : Keeps π s) :
    KeepsO π (execWarmReset a0 a1 s) := by
  unfold execWarmReset
  repeat' (first
    | with_reducible assumption
    | intro _
    | (with_reducible first
        | apply keeps_ite | apply keeps_ite_snd | apply keepsO_next | apply keepsO_ite | apply keepsO_dite
        | apply kept_beginCold | apply kept_raise | apply kept_latchPeak | apply kept_until_ | apply kept_afterTrip
        | apply kept_started | apply kept_startMode)
    | split
    | simp -iota -proj only []
    | dsimp only
    | with_reducible apply keeps_set_life)

theorem kept_ok (s : State) (k : Keeps π s) :
    Keeps π (State.ok s).2 := by
  unfold State.ok
  with_reducible assumption

theorem kept_periodWrite (igOd : Ignores.od π) (s : State) (a1 : Nat) (a2 : Int) (k : Keeps π s) :
    Keeps π (State.periodWrite s a1 a2).2 := by
  unfold State.periodWrite
  repeat' (first
    | with_reducible assumption
    | intro _
    | (with_reducible first
        | apply keeps_ite | apply keeps_ite_snd | apply kept_ok | apply kept_wrI))

theorem kept_storeQuartz (igOd : Ignores.od π) (igControl : Ignores.control π) (igNvm : Ignores.nvm π) (igQuartz :
  Ignores.quartz π) (igSent : Ignores.sent π) (s : State) (a1 : Nat) (a2 : Val) (k : Keeps π s) :
    Keeps π (State.storeQuartz s a1 a2).2 := by
  unfold State.storeQuartz
  repeat' (first
    | with_reducible assumption
    | intro _
    | (with_reducible first
        | apply keeps_ite | apply keeps_ite_snd | apply kept_sourceWrite | apply kept_rateWrite
        | apply kept_applyFrameWrite | apply kept_recomputeWrite | apply kept_todWrite | apply kept_stepNowWrite
        | apply kept_periodWrite | apply kept_stagedWrite | apply kept_ok | apply kept_wr)
    | split)

theorem kept_storeIngress (igOd : Ignores.od π) (igControl : Ignores.control π) (igNvm : Ignores.nvm π) (igLanes :
  Ignores.lanes π) (igPorts : Ignores.ports π) (igCascade : Ignores.cascade π) (igIngress : Ignores.ingress π) (igSent
  : Ignores.sent π) (s : State) (a1 a2 : Nat) (a3 : Val) (k : Keeps π s) :
    Keeps π (State.storeIngress s a1 a2 a3).2 := by
  unfold State.storeIngress
  repeat' (first
    | with_reducible assumption
    | intro _
    | (with_reducible first
        | apply keeps_ite | apply keeps_ite_snd | apply keeps_dite | apply kept_streamEnable | apply kept_streamParam
        | apply kept_activateFrameWrite | apply kept_mapTableWrite | apply kept_frustumIn | apply kept_ok
        | apply kept_wr)
    | split)

theorem kept_mapWrite (igOd : Ignores.od π) (s : State) (a1 : Bool) (a2 a3 : Nat) (a4 : Int) (k : Keeps π s) :
    Keeps π (State.mapWrite s a1 a2 a3 a4).2 := by
  unfold State.mapWrite
  repeat' (first
    | with_reducible assumption
    | intro _
    | (with_reducible first
        | apply keeps_ite | apply keeps_ite_snd | apply kept_wrI))

theorem kept_storeDevice (igLife : Ignores.life π) (igOd : Ignores.od π) (igControl : Ignores.control π) (igClocks :
  Ignores.clocks π) (igThermal : Ignores.thermal π) (igNvm : Ignores.nvm π) (igUpdate : Ignores.update π) (igBeat :
  Ignores.beat π) (igTap : Ignores.tap π) (igHostPort : Ignores.hostPort π) (igLanes : Ignores.lanes π) (igQuartz :
  Ignores.quartz π) (igTile : Ignores.tile π) (igPorts : Ignores.ports π) (igCascade : Ignores.cascade π) (igIngress :
  Ignores.ingress π) (igVideo : Ignores.video π) (igLamps : Ignores.lamps π) (igSent : Ignores.sent π) (igFreeCount :
  Ignores.freeCount π) (s : State) (a1 a2 : Nat) (a3 : Val) (k : Keeps π s) :
    Keeps π (State.storeDevice s a1 a2 a3).2 := by
  unfold State.storeDevice
  repeat' (first
    | with_reducible assumption
    | intro _
    | (with_reducible first
        | apply keeps_ite | apply keeps_ite_snd | apply kept_historyClear | apply kept_storeWrite
        | apply kept_restoreWrite | apply kept_ok | apply kept_withControl | apply kept_wr | apply kept_resetWrite
        | apply kept_mapWrite)
    | split)

theorem kept_storeLane (igOd : Ignores.od π) (igControl : Ignores.control π) (igNvm : Ignores.nvm π) (igLanes :
  Ignores.lanes π) (igSent : Ignores.sent π) (s : State) (a1 : Fin 24) (a2 : Nat) (a3 : Val) (k : Keeps π s) :
    Keeps π (State.storeLane s a1 a2 a3).2 := by
  unfold State.storeLane
  repeat' (first
    | with_reducible assumption
    | intro _
    | (with_reducible first
        | apply keeps_ite | apply keeps_ite_snd | apply kept_laneEnableWrite | apply kept_detectWrite
        | apply kept_tapsWrite | apply kept_laneClear | apply kept_prbsTxWrite | apply kept_prbsStart
        | apply kept_injStart | apply kept_ok | apply kept_wr)
    | split)

theorem kept_storePlatform (igOd : Ignores.od π) (igControl : Ignores.control π) (igClocks : Ignores.clocks π) (igNvm
  : Ignores.nvm π) (igLanes : Ignores.lanes π) (igPorts : Ignores.ports π) (igCascade : Ignores.cascade π) (igLamps :
  Ignores.lamps π) (igSent : Ignores.sent π) (s : State) (a1 : CtxId) (a2 a3 : Nat) (a4 : Val) (k : Keeps π s) :
    Keeps π (State.storePlatform s a1 a2 a3 a4).2 := by
  unfold State.storePlatform
  repeat' (first
    | with_reducible assumption
    | intro _
    | (with_reducible first
        | apply keeps_ite | apply keeps_ite_snd | apply kept_ok | apply kept_trackLevel | apply kept_wr
        | apply kept_clocksClear | apply kept_freqStart | apply kept_calStart | apply kept_factoryWrite
        | apply kept_withCtx | apply kept_resetPinned)
    | split)

theorem kept_storeService (igOd : Ignores.od π) (igControl : Ignores.control π) (igOtp : Ignores.otp π) (igNvm :
  Ignores.nvm π) (igUpdate : Ignores.update π) (igLanes : Ignores.lanes π) (igPorts : Ignores.ports π) (igCascade :
  Ignores.cascade π) (igLamps : Ignores.lamps π) (igSent : Ignores.sent π) (s : State) (a1 : CtxId) (a2 a3 : Nat) (a4
  : Val) (k : Keeps π s) :
    Keeps π (State.storeService s a1 a2 a3 a4).2 := by
  unfold State.storeService
  repeat' (first
    | with_reducible assumption
    | intro _
    | (with_reducible first
        | apply keeps_ite | apply keeps_ite_snd | apply kept_confirmWrite | apply kept_rollbackWrite
        | apply kept_finalizeWrite | apply kept_wuStart | apply kept_ceilProgram | apply kept_ceilLockWrite
        | apply kept_ok | apply kept_wr | apply kept_bistStart | apply kept_login | apply kept_logout
        | apply kept_ownerKeyWrite | apply kept_ownerLockWrite)
    | split)

theorem kept_corrSelect (igOd : Ignores.od π) (igVideo : Ignores.video π) (s : State) (a1 : Int) (k : Keeps π s) :
    Keeps π (State.corrSelect s a1).2 := by
  unfold State.corrSelect
  repeat' (first
    | with_reducible assumption
    | intro _
    | (with_reducible first
        | apply keeps_ite | apply keeps_ite_snd | apply kept_ok | apply kept_wrI | apply kept_verifyCorr))

theorem kept_onOne (s : State) (a1 : Int) (a2 : State → State) (hf : ∀ s, Keeps π s → Keeps π (a2 s)) (k : Keeps π s)
  :
    Keeps π (State.onOne s a1 a2).2 := by
  unfold State.onOne
  split
  · exact k
  · exact hf s k

theorem kept_storeVideo (igOd : Ignores.od π) (igControl : Ignores.control π) (igNvm : Ignores.nvm π) (igTile :
  Ignores.tile π) (igVideo : Ignores.video π) (igSent : Ignores.sent π) (s : State) (a1 : CtxId) (a2 a3 : Nat) (a4 :
  Val) (k : Keeps π s) :
    Keeps π (State.storeVideo s a1 a2 a3 a4).2 := by
  unfold State.storeVideo
  repeat' (first
    | with_reducible assumption
    | intro _
    | (with_reducible first
        | apply keeps_ite | apply keeps_ite_snd | apply kept_writeCoeff | apply kept_writeTable | apply kept_onOne
        | apply kept_zero | apply kept_requestCommit | apply kept_abortCommit | apply kept_ok | apply kept_withControl
        | apply kept_wrN | apply kept_wr | apply kept_corrSelect | apply kept_verifyCorr)
    | split)

theorem kept_storeLamps (igOd : Ignores.od π) (igControl : Ignores.control π) (igNvm : Ignores.nvm π) (igHostPort :
  Ignores.hostPort π) (igVideo : Ignores.video π) (igLamps : Ignores.lamps π) (igSent : Ignores.sent π) (s : State)
  (a1 a2 : Nat) (a3 : Val) (k : Keeps π s) :
    Keeps π (State.storeLamps s a1 a2 a3).2 := by
  unfold State.storeLamps
  repeat' (first
    | with_reducible assumption
    | intro _
    | (with_reducible first
        | apply keeps_ite | apply keeps_ite_snd | apply keeps_dite | apply kept_ok | apply kept_startEnum
        | apply kept_onOne | apply kept_clearPort | apply kept_wr | apply kept_clearEngine | apply kept_writeFrustum
        | apply kept_startSweep | apply kept_clearDiag)
    | split)

theorem kept_storePort (igOd : Ignores.od π) (igLanes : Ignores.lanes π) (igQuartz : Ignores.quartz π) (igSent :
  Ignores.sent π) (s : State) (a1 : Fin 3) (a2 : Nat) (a3 : Val) (k : Keeps π s) :
    Keeps π (State.storePort s a1 a2 a3).2 := by
  unfold State.storePort
  repeat' (first
    | with_reducible assumption
    | intro _
    | (with_reducible first
        | apply keeps_ite | apply keeps_ite_snd | apply kept_portcWrite | apply kept_ok | apply kept_wr
        | apply kept_loopbackWrite | apply kept_testStateWrite)
    | split)

theorem kept_storeChain (igOd : Ignores.od π) (igControl : Ignores.control π) (igNvm : Ignores.nvm π) (igHostPort :
  Ignores.hostPort π) (igLanes : Ignores.lanes π) (igQuartz : Ignores.quartz π) (igPorts : Ignores.ports π) (igCascade
  : Ignores.cascade π) (igIngress : Ignores.ingress π) (igVideo : Ignores.video π) (igSent : Ignores.sent π) (s :
  State) (a1 : CtxId) (a2 a3 : Nat) (a4 : Val) (k : Keeps π s) :
    Keeps π (State.storeChain s a1 a2 a3 a4).2 := by
  unfold State.storeChain
  repeat' (first
    | with_reducible assumption
    | intro _
    | (with_reducible first
        | apply keeps_ite | apply keeps_ite_snd | apply keeps_dite | apply kept_chainNumberWrite
        | apply kept_discoverWrite | apply kept_ok | apply kept_wr | apply kept_repeatOnlyWrite
        | apply kept_chainClear | apply kept_withCtx | apply kept_tileEventsClear | apply kept_modeWrite
        | apply kept_reclaimNowWrite | apply kept_maintenanceWrite)
    | split)

theorem kept_storeObject (igLife : Ignores.life π) (igOd : Ignores.od π) (igControl : Ignores.control π) (igClocks :
  Ignores.clocks π) (igThermal : Ignores.thermal π) (igOtp : Ignores.otp π) (igNvm : Ignores.nvm π) (igUpdate :
  Ignores.update π) (igBeat : Ignores.beat π) (igTap : Ignores.tap π) (igHostPort : Ignores.hostPort π) (igLanes :
  Ignores.lanes π) (igQuartz : Ignores.quartz π) (igTile : Ignores.tile π) (igPorts : Ignores.ports π) (igCascade :
  Ignores.cascade π) (igIngress : Ignores.ingress π) (igVideo : Ignores.video π) (igLamps : Ignores.lamps π) (igSent :
  Ignores.sent π) (igFreeCount : Ignores.freeCount π) (s : State) (a1 : CtxId) (a2 a3 : Nat) (a4 : Val) (k : Keeps π
  s) :
    Keeps π (State.storeObject s a1 a2 a3 a4).2 := by
  unfold State.storeObject
  repeat' (first
    | with_reducible assumption
    | intro _
    | (with_reducible first
        | apply keeps_ite | apply keeps_ite_snd | apply keeps_dite | apply kept_storeDevice | apply kept_storePort
        | apply kept_storeLane | apply kept_storeChain | apply kept_storeIngress | apply kept_storeQuartz
        | apply kept_storeVideo | apply kept_storeLamps | apply kept_storePlatform | apply kept_storeService)
    | split)

theorem kept_wrongLength (igOd : Ignores.od π) (igControl : Ignores.control π) (igNvm : Ignores.nvm π) (igSent :
  Ignores.sent π) (s : State) (a1 a2 : Nat) (k : Keeps π s) :
    Keeps π (State.wrongLength s a1 a2).2 := by
  unfold State.wrongLength
  repeat' (first
    | with_reducible assumption
    | intro _
    | (with_reducible first
        | apply keeps_ite | apply keeps_ite_snd | apply kept_refuseCoeff | apply kept_refuseTable))

theorem kept_writeLocal (igLife : Ignores.life π) (igOd : Ignores.od π) (igControl : Ignores.control π) (igClocks :
  Ignores.clocks π) (igThermal : Ignores.thermal π) (igOtp : Ignores.otp π) (igNvm : Ignores.nvm π) (igUpdate :
  Ignores.update π) (igBeat : Ignores.beat π) (igTap : Ignores.tap π) (igHostPort : Ignores.hostPort π) (igLanes :
  Ignores.lanes π) (igQuartz : Ignores.quartz π) (igTile : Ignores.tile π) (igPorts : Ignores.ports π) (igCascade :
  Ignores.cascade π) (igIngress : Ignores.ingress π) (igVideo : Ignores.video π) (igLamps : Ignores.lamps π) (igSent :
  Ignores.sent π) (igFreeCount : Ignores.freeCount π) (s : State) (a1 : CtxId) (a2 a3 : Nat) (a4 : List Byte) (k :
  Keeps π s) :
    Keeps π (State.writeLocal s a1 a2 a3 a4).2 := by
  unfold State.writeLocal
  repeat' (first
    | with_reducible assumption
    | intro _
    | (with_reducible first
        | apply keeps_ite | apply keeps_ite_snd | apply kept_wrongLength | apply kept_storeObject)
    | split
    | simp -iota -proj only [])

theorem kept_touchCtx (igControl : Ignores.control π) (s : State) (a1 : CtxId) (k : Keeps π s) :
    Keeps π (State.touchCtx s a1) := by
  unfold State.touchCtx
  repeat' (first
    | with_reducible assumption
    | intro _
    | (with_reducible first
        | apply keeps_ite | apply keeps_ite_snd | apply kept_withCtx))

theorem kept_objectWrite (igLife : Ignores.life π) (igOd : Ignores.od π) (igControl : Ignores.control π) (igClocks :
  Ignores.clocks π) (igThermal : Ignores.thermal π) (igOtp : Ignores.otp π) (igNvm : Ignores.nvm π) (igUpdate :
  Ignores.update π) (igBeat : Ignores.beat π) (igTap : Ignores.tap π) (igHostPort : Ignores.hostPort π) (igLanes :
  Ignores.lanes π) (igQuartz : Ignores.quartz π) (igTile : Ignores.tile π) (igPorts : Ignores.ports π) (igCascade :
  Ignores.cascade π) (igIngress : Ignores.ingress π) (igVideo : Ignores.video π) (igLamps : Ignores.lamps π) (igSent :
  Ignores.sent π) (igFreeCount : Ignores.freeCount π) (s : State) (a1 : CtxId) (a2 a3 : Nat) (a4 : List Byte) (k :
  Keeps π s) :
    Keeps π (State.objectWrite s a1 a2 a3 a4) := by
  unfold State.objectWrite
  repeat' (first
    | with_reducible assumption
    | intro _
    | (with_reducible first
        | apply keeps_ite | apply keeps_ite_snd | apply kept_touchCtx | apply kept_emit | apply kept_gwOpenTx
        | apply kept_writeLocal)
    | split)

theorem kept_numWrite (igLife : Ignores.life π) (igOd : Ignores.od π) (igControl : Ignores.control π) (igClocks :
  Ignores.clocks π) (igThermal : Ignores.thermal π) (igOtp : Ignores.otp π) (igNvm : Ignores.nvm π) (igUpdate :
  Ignores.update π) (igBeat : Ignores.beat π) (igTap : Ignores.tap π) (igHostPort : Ignores.hostPort π) (igLanes :
  Ignores.lanes π) (igQuartz : Ignores.quartz π) (igTile : Ignores.tile π) (igPorts : Ignores.ports π) (igCascade :
  Ignores.cascade π) (igIngress : Ignores.ingress π) (igVideo : Ignores.video π) (igLamps : Ignores.lamps π) (igSent :
  Ignores.sent π) (igFreeCount : Ignores.freeCount π) (s : State) (a1 : CtxId) (a2 a3 : Nat) {a4 : Nat} (a5 : BitVec
  a4) (k : Keeps π s) :
    Keeps π (State.numWrite s a1 a2 a3 a5) := by
  unfold State.numWrite
  repeat' (first
    | with_reducible assumption
    | intro _
    | (with_reducible first
        | apply keeps_ite | apply keeps_ite_snd | apply kept_objectWrite))

theorem kept_readLocal (igControl : Ignores.control π) (igFreeCount : Ignores.freeCount π) (s : State) (a1 : CtxId)
  (a2 a3 : Nat) (k : Keeps π s) :
    Keeps π (State.readLocal s a1 a2 a3).2.2 := by
  unfold State.readLocal
  repeat' (first
    | with_reducible assumption
    | intro _
    | (with_reducible first
        | apply keeps_ite | apply keeps_ite_snd | apply keeps_ite_snd2 | apply kept_readObject))

theorem kept_execObjectWrite (igLife : Ignores.life π) (igOd : Ignores.od π) (igControl : Ignores.control π) (igClocks
  : Ignores.clocks π) (igThermal : Ignores.thermal π) (igOtp : Ignores.otp π) (igNvm : Ignores.nvm π) (igUpdate :
  Ignores.update π) (igBeat : Ignores.beat π) (igTap : Ignores.tap π) (igHostPort : Ignores.hostPort π) (igLanes :
  Ignores.lanes π) (igQuartz : Ignores.quartz π) (igTile : Ignores.tile π) (igPorts : Ignores.ports π) (igCascade :
  Ignores.cascade π) (igIngress : Ignores.ingress π) (igVideo : Ignores.video π) (igLamps : Ignores.lamps π) (igSent :
  Ignores.sent π) (igFreeCount : Ignores.freeCount π) (a0 : CtxId) (a1 : BitVec 16) (a2 : BitVec 8) (a3 : List Byte)
  (s : State) (k : Keeps π s) :
    KeepsO π (execObjectWrite a0 a1 a2 a3 s) := by
  unfold execObjectWrite
  repeat' (first
    | with_reducible assumption
    | intro _
    | (with_reducible first
        | apply keeps_ite | apply keeps_ite_snd | apply keepsO_next | apply keepsO_ite | apply keepsO_dite
        | apply kept_objectWrite))

theorem kept_execSdoProtocolTimeout (igNow : Ignores.now π) (igControl : Ignores.control π) (igHostPort :
  Ignores.hostPort π) (igQuartz : Ignores.quartz π) (igSent : Ignores.sent π) (a0 : CtxId) (s : State) (k : Keeps π s)
  :
    KeepsO π (execSdoProtocolTimeout a0 s) := by
  unfold execSdoProtocolTimeout
  repeat' (first
    | with_reducible assumption
    | intro _
    | (with_reducible first
        | apply keeps_ite | apply keeps_ite_snd | apply keepsO_next | apply keepsO_ite | apply keepsO_dite
        | apply kept_abortSdo | apply kept_until_)
    | split)

theorem kept_abortNow (igControl : Ignores.control π) (igHostPort : Ignores.hostPort π) (igSent : Ignores.sent π) (s :
  State) (a1 : CtxId) (a2 : List Byte) (a3 : Nat) (k : Keeps π s) :
    Keeps π (State.abortNow s a1 a2 a3) := by
  unfold State.abortNow
  repeat' (first
    | with_reducible assumption
    | intro _
    | (with_reducible first
        | apply keeps_ite | apply keeps_ite_snd | apply kept_abortSdo))

theorem kept_setXfer (igControl : Ignores.control π) (s : State) (a1 : CtxId) (a2 : Xfer) (k : Keeps π s) :
    Keeps π (State.setXfer s a1 a2) := by
  unfold State.setXfer
  repeat' (first
    | with_reducible assumption
    | intro _
    | (with_reducible first
        | apply keeps_ite | apply keeps_ite_snd | apply kept_withCtx))

theorem kept_settle (igLife : Ignores.life π) (igOd : Ignores.od π) (igControl : Ignores.control π) (igClocks :
  Ignores.clocks π) (igThermal : Ignores.thermal π) (igOtp : Ignores.otp π) (igNvm : Ignores.nvm π) (igUpdate :
  Ignores.update π) (igBeat : Ignores.beat π) (igTap : Ignores.tap π) (igHostPort : Ignores.hostPort π) (igLanes :
  Ignores.lanes π) (igQuartz : Ignores.quartz π) (igTile : Ignores.tile π) (igPorts : Ignores.ports π) (igCascade :
  Ignores.cascade π) (igIngress : Ignores.ingress π) (igVideo : Ignores.video π) (igLamps : Ignores.lamps π) (igSent :
  Ignores.sent π) (igFreeCount : Ignores.freeCount π) (s : State) (a1 : CtxId) (a2 : Bool) (a3 a4 : Nat) (a5 : GwKind)
  (a6 a7 : List Byte) (k : Keeps π s) :
    Keeps π (State.settle s a1 a2 a3 a4 a5 a6 a7) := by
  unfold State.settle
  repeat' (first
    | with_reducible assumption
    | intro _
    | (with_reducible first
        | apply keeps_ite | apply keeps_ite_snd | apply kept_abortSdo | apply kept_gwOpenTx | apply kept_setXfer
        | apply kept_writeLocal | apply kept_answer)
    | split)

theorem kept_blockEnd (igLife : Ignores.life π) (igOd : Ignores.od π) (igControl : Ignores.control π) (igClocks :
  Ignores.clocks π) (igThermal : Ignores.thermal π) (igOtp : Ignores.otp π) (igNvm : Ignores.nvm π) (igUpdate :
  Ignores.update π) (igBeat : Ignores.beat π) (igTap : Ignores.tap π) (igHostPort : Ignores.hostPort π) (igLanes :
  Ignores.lanes π) (igQuartz : Ignores.quartz π) (igTile : Ignores.tile π) (igPorts : Ignores.ports π) (igCascade :
  Ignores.cascade π) (igIngress : Ignores.ingress π) (igVideo : Ignores.video π) (igLamps : Ignores.lamps π) (igSent :
  Ignores.sent π) (igFreeCount : Ignores.freeCount π) (s : State) (a1 : CtxId) (a2 : List Byte) (k : Keeps π s) :
    Keeps π (State.blockEnd s a1 a2) := by
  unfold State.blockEnd
  repeat' (first
    | with_reducible assumption
    | intro _
    | (with_reducible first
        | apply keeps_ite | apply keeps_ite_snd | apply kept_abortNow | apply kept_settle)
    | split)

theorem kept_downloadSegment (igLife : Ignores.life π) (igOd : Ignores.od π) (igControl : Ignores.control π) (igClocks
  : Ignores.clocks π) (igThermal : Ignores.thermal π) (igOtp : Ignores.otp π) (igNvm : Ignores.nvm π) (igUpdate :
  Ignores.update π) (igBeat : Ignores.beat π) (igTap : Ignores.tap π) (igHostPort : Ignores.hostPort π) (igLanes :
  Ignores.lanes π) (igQuartz : Ignores.quartz π) (igTile : Ignores.tile π) (igPorts : Ignores.ports π) (igCascade :
  Ignores.cascade π) (igIngress : Ignores.ingress π) (igVideo : Ignores.video π) (igLamps : Ignores.lamps π) (igSent :
  Ignores.sent π) (igFreeCount : Ignores.freeCount π) (s : State) (a1 : CtxId) (a2 : List Byte) (k : Keeps π s) :
    Keeps π (State.downloadSegment s a1 a2) := by
  unfold State.downloadSegment
  repeat' (first
    | with_reducible assumption
    | intro _
    | (with_reducible first
        | apply keeps_ite | apply keeps_ite_snd | apply kept_abortNow | apply kept_settle | apply kept_answer
        | apply kept_setXfer)
    | split)

theorem kept_takeAbort (igControl : Ignores.control π) (s : State) (a1 : CtxId) (k : Keeps π s) :
    Keeps π (State.takeAbort s a1) := by
  unfold State.takeAbort
  repeat' (first
    | with_reducible assumption
    | intro _
    | (with_reducible first
        | apply keeps_ite | apply keeps_ite_snd | apply kept_forgetGw | apply kept_setXfer))

theorem kept_initChecks (igOd : Ignores.od π) (igControl : Ignores.control π) (igNvm : Ignores.nvm π) (igSent :
  Ignores.sent π) (s : State) (a1 : CtxId) (a2 a3 : Nat) (a4 : Option Nat) (k : Keeps π s) :
    Keeps π (State.initChecks s a1 a2 a3 a4).2 := by
  unfold State.initChecks
  repeat' (first
    | with_reducible assumption
    | intro _
    | (with_reducible first
        | apply keeps_ite | apply keeps_ite_snd | apply kept_wrongLength)
    | split)

theorem kept_blockInitiate (igOd : Ignores.od π) (igControl : Ignores.control π) (igNvm : Ignores.nvm π) (igHostPort :
  Ignores.hostPort π) (igSent : Ignores.sent π) (s : State) (a1 : CtxId) (a2 : List Byte) (k : Keeps π s) :
    Keeps π (State.blockInitiate s a1 a2) := by
  unfold State.blockInitiate
  repeat' (first
    | with_reducible assumption
    | intro _
    | (with_reducible first
        | apply keeps_ite | apply keeps_ite_snd | apply kept_setXfer | apply kept_initChecks | apply kept_abortSdo
        | apply kept_answer))

theorem kept_fetch (igOd : Ignores.od π) (igControl : Ignores.control π) (igHostPort : Ignores.hostPort π) (igLanes :
  Ignores.lanes π) (igPorts : Ignores.ports π) (igCascade : Ignores.cascade π) (igSent : Ignores.sent π) (igFreeCount
  : Ignores.freeCount π) (s : State) (a1 : CtxId) (a2 : Bool) (a3 a4 : Nat) (a5 : GwKind) (a6 : List Byte → State →
  State) (hf : ∀ b s, Keeps π s → Keeps π (a6 b s)) (k : Keeps π s) :
    Keeps π (State.fetch s a1 a2 a3 a4 a5 a6) := by
  unfold State.fetch
  repeat' (first
    | with_reducible assumption
    | intro _
    | (with_reducible first
        | apply keeps_ite | apply keeps_ite_snd | apply kept_abortSdo | apply kept_gwOpenTx | apply kept_setXfer
        | apply kept_readLocal | apply hf)
    | split)

theorem kept_initiateUpload (igOd : Ignores.od π) (igControl : Ignores.control π) (igHostPort : Ignores.hostPort π)
  (igLanes : Ignores.lanes π) (igPorts : Ignores.ports π) (igCascade : Ignores.cascade π) (igSent : Ignores.sent π)
  (igFreeCount : Ignores.freeCount π) (s : State) (a1 : CtxId) (a2 : List Byte) (k : Keeps π s) :
    Keeps π (State.initiateUpload s a1 a2) := by
  unfold State.initiateUpload
  repeat' (first
    | with_reducible assumption
    | intro _
    | (with_reducible first
        | apply keeps_ite | apply keeps_ite_snd | apply kept_fetch | apply kept_setXfer | apply kept_startUpload))

theorem kept_uploadSegment (igControl : Ignores.control π) (igHostPort : Ignores.hostPort π) (igSent : Ignores.sent π)
  (s : State) (a1 : CtxId) (a2 : List Byte) (k : Keeps π s) :
    Keeps π (State.uploadSegment s a1 a2) := by
  unfold State.uploadSegment
  repeat' (first
    | with_reducible assumption
    | intro _
    | (with_reducible first
        | apply keeps_ite | apply keeps_ite_snd | apply kept_abortNow | apply kept_answer | apply kept_setXfer)
    | split)

theorem kept_sendBlock (igControl : Ignores.control π) (igHostPort : Ignores.hostPort π) (igSent : Ignores.sent π) (s
  : State) (a1 : CtxId) (a2 : List Byte) (a3 a4 : Nat) (a5 : Bool) (k : Keeps π s) :
    Keeps π (State.sendBlock s a1 a2 a3 a4 a5) := by
  unfold State.sendBlock
  repeat' (first
    | with_reducible assumption
    | intro _
    | (with_reducible first
        | apply keeps_ite | apply keeps_ite_snd | apply keeps_foldl | apply kept_answer))

theorem kept_blockUpload (igOd : Ignores.od π) (igControl : Ignores.control π) (igHostPort : Ignores.hostPort π)
  (igLanes : Ignores.lanes π) (igPorts : Ignores.ports π) (igCascade : Ignores.cascade π) (igSent : Ignores.sent π)
  (igFreeCount : Ignores.freeCount π) (s : State) (a1 : CtxId) (a2 : List Byte) (k : Keeps π s) :
    Keeps π (State.blockUpload s a1 a2) := by
  unfold State.blockUpload
  repeat' (first
    | with_reducible assumption
    | intro _
    | (with_reducible first
        | apply keeps_ite | apply keeps_ite_snd | apply kept_setXfer | apply kept_abortSdo | apply kept_fetch
        | apply kept_startBlockUpload | apply kept_abortNow | apply kept_sendBlock | apply kept_answer)
    | split
    | simp -iota -proj only [])

theorem kept_initiateDownload (igLife : Ignores.life π) (igOd : Ignores.od π) (igControl : Ignores.control π)
  (igClocks : Ignores.clocks π) (igThermal : Ignores.thermal π) (igOtp : Ignores.otp π) (igNvm : Ignores.nvm π)
  (igUpdate : Ignores.update π) (igBeat : Ignores.beat π) (igTap : Ignores.tap π) (igHostPort : Ignores.hostPort π)
  (igLanes : Ignores.lanes π) (igQuartz : Ignores.quartz π) (igTile : Ignores.tile π) (igPorts : Ignores.ports π)
  (igCascade : Ignores.cascade π) (igIngress : Ignores.ingress π) (igVideo : Ignores.video π) (igLamps : Ignores.lamps
  π) (igSent : Ignores.sent π) (igFreeCount : Ignores.freeCount π) (s : State) (a1 : CtxId) (a2 : List Byte) (k :
  Keeps π s) :
    Keeps π (State.initiateDownload s a1 a2) := by
  unfold State.initiateDownload
  repeat' (first
    | with_reducible assumption
    | intro _
    | (with_reducible first
        | apply keeps_ite | apply keeps_ite_snd | apply kept_setXfer | apply kept_initChecks | apply kept_abortSdo
        | apply kept_settle | apply kept_answer))

theorem kept_blockSegment (igControl : Ignores.control π) (igHostPort : Ignores.hostPort π) (igSent : Ignores.sent π)
  (s : State) (a1 : CtxId) (a2 : List Byte) (k : Keeps π s) :
    Keeps π (State.blockSegment s a1 a2) := by
  unfold State.blockSegment
  repeat' (first
    | with_reducible assumption
    | intro _
    | (with_reducible first
        | apply keeps_ite | apply keeps_ite_snd | apply kept_abortNow | apply kept_answer | apply kept_setXfer)
    | split)

theorem kept_serve (igLife : Ignores.life π) (igOd : Ignores.od π) (igControl : Ignores.control π) (igClocks :
  Ignores.clocks π) (igThermal : Ignores.thermal π) (igOtp : Ignores.otp π) (igNvm : Ignores.nvm π) (igUpdate :
  Ignores.update π) (igBeat : Ignores.beat π) (igTap : Ignores.tap π) (igHostPort : Ignores.hostPort π) (igLanes :
  Ignores.lanes π) (igQuartz : Ignores.quartz π) (igTile : Ignores.tile π) (igPorts : Ignores.ports π) (igCascade :
  Ignores.cascade π) (igIngress : Ignores.ingress π) (igVideo : Ignores.video π) (igLamps : Ignores.lamps π) (igSent :
  Ignores.sent π) (igFreeCount : Ignores.freeCount π) (s : State) (a1 : CtxId) (a2 : List Byte) (k : Keeps π s) :
    Keeps π (State.serve s a1 a2) := by
  unfold State.serve
  repeat' (first
    | with_reducible assumption
    | intro _
    | (with_reducible first
        | apply keeps_ite | apply keeps_ite_snd | apply kept_initiateDownload | apply kept_downloadSegment
        | apply kept_initiateUpload | apply kept_uploadSegment | apply kept_blockInitiate | apply kept_blockSegment
        | apply kept_blockEnd | apply kept_blockUpload | apply kept_takeAbort | apply kept_abortNow)
    | split)

theorem kept_execUdpAssociationIdle (igNow : Ignores.now π) (igQuartz : Ignores.quartz π) (a0 : Fin 8) (s : State) (k
  : Keeps π s) :
    KeepsO π (execUdpAssociationIdle a0 s) := by
  unfold execUdpAssociationIdle
  repeat' (first
    | with_reducible assumption
    | intro _
    | (with_reducible first
        | apply keeps_ite | apply keeps_ite_snd | apply keepsO_next | apply keepsO_ite | apply keepsO_dite
        | apply kept_until_))

theorem kept_sdoRow (igLife : Ignores.life π) (igOd : Ignores.od π) (igControl : Ignores.control π) (igClocks :
  Ignores.clocks π) (igThermal : Ignores.thermal π) (igOtp : Ignores.otp π) (igNvm : Ignores.nvm π) (igUpdate :
  Ignores.update π) (igBeat : Ignores.beat π) (igTap : Ignores.tap π) (igHostPort : Ignores.hostPort π) (igLanes :
  Ignores.lanes π) (igQuartz : Ignores.quartz π) (igTile : Ignores.tile π) (igPorts : Ignores.ports π) (igCascade :
  Ignores.cascade π) (igIngress : Ignores.ingress π) (igVideo : Ignores.video π) (igLamps : Ignores.lamps π) (igSent :
  Ignores.sent π) (igFreeCount : Ignores.freeCount π) (s : State) (a1 : CtxId) (a2 : SdoClass) (a3 : List Byte) (k :
  Keeps π s) :
    Keeps π (State.sdoRow s a1 a2 a3) := by
  unfold State.sdoRow
  repeat' (first
    | with_reducible assumption
    | intro _
    | (with_reducible first
        | apply keeps_ite | apply keeps_ite_snd | apply kept_serve | apply kept_touchCtx))

theorem kept_execSdoInitiateDownload (igLife : Ignores.life π) (igOd : Ignores.od π) (igControl : Ignores.control π)
  (igClocks : Ignores.clocks π) (igThermal : Ignores.thermal π) (igOtp : Ignores.otp π) (igNvm : Ignores.nvm π)
  (igUpdate : Ignores.update π) (igBeat : Ignores.beat π) (igTap : Ignores.tap π) (igHostPort : Ignores.hostPort π)
  (igLanes : Ignores.lanes π) (igQuartz : Ignores.quartz π) (igTile : Ignores.tile π) (igPorts : Ignores.ports π)
  (igCascade : Ignores.cascade π) (igIngress : Ignores.ingress π) (igVideo : Ignores.video π) (igLamps : Ignores.lamps
  π) (igSent : Ignores.sent π) (igFreeCount : Ignores.freeCount π) (a0 : CtxId) (a1 : List Byte) (s : State) (k :
  Keeps π s) :
    KeepsO π (execSdoInitiateDownload a0 a1 s) := by
  unfold execSdoInitiateDownload
  repeat' (first
    | with_reducible assumption
    | intro _
    | (with_reducible first
        | apply keeps_ite | apply keeps_ite_snd | apply keepsO_next | apply keepsO_ite | apply keepsO_dite
        | apply kept_sdoRow))

theorem kept_execSdoBlockSegment (igLife : Ignores.life π) (igOd : Ignores.od π) (igControl : Ignores.control π)
  (igClocks : Ignores.clocks π) (igThermal : Ignores.thermal π) (igOtp : Ignores.otp π) (igNvm : Ignores.nvm π)
  (igUpdate : Ignores.update π) (igBeat : Ignores.beat π) (igTap : Ignores.tap π) (igHostPort : Ignores.hostPort π)
  (igLanes : Ignores.lanes π) (igQuartz : Ignores.quartz π) (igTile : Ignores.tile π) (igPorts : Ignores.ports π)
  (igCascade : Ignores.cascade π) (igIngress : Ignores.ingress π) (igVideo : Ignores.video π) (igLamps : Ignores.lamps
  π) (igSent : Ignores.sent π) (igFreeCount : Ignores.freeCount π) (a0 : CtxId) (a1 : List Byte) (s : State) (k :
  Keeps π s) :
    KeepsO π (execSdoBlockSegment a0 a1 s) := by
  unfold execSdoBlockSegment
  repeat' (first
    | with_reducible assumption
    | intro _
    | (with_reducible first
        | apply keeps_ite | apply keeps_ite_snd | apply keepsO_next | apply keepsO_ite | apply keepsO_dite
        | apply kept_sdoRow))

theorem kept_execSdoInitiateUpload (igLife : Ignores.life π) (igOd : Ignores.od π) (igControl : Ignores.control π)
  (igClocks : Ignores.clocks π) (igThermal : Ignores.thermal π) (igOtp : Ignores.otp π) (igNvm : Ignores.nvm π)
  (igUpdate : Ignores.update π) (igBeat : Ignores.beat π) (igTap : Ignores.tap π) (igHostPort : Ignores.hostPort π)
  (igLanes : Ignores.lanes π) (igQuartz : Ignores.quartz π) (igTile : Ignores.tile π) (igPorts : Ignores.ports π)
  (igCascade : Ignores.cascade π) (igIngress : Ignores.ingress π) (igVideo : Ignores.video π) (igLamps : Ignores.lamps
  π) (igSent : Ignores.sent π) (igFreeCount : Ignores.freeCount π) (a0 : CtxId) (a1 : List Byte) (s : State) (k :
  Keeps π s) :
    KeepsO π (execSdoInitiateUpload a0 a1 s) := by
  unfold execSdoInitiateUpload
  repeat' (first
    | with_reducible assumption
    | intro _
    | (with_reducible first
        | apply keeps_ite | apply keeps_ite_snd | apply keepsO_next | apply keepsO_ite | apply keepsO_dite
        | apply kept_sdoRow))

theorem kept_dropDatagram (igControl : Ignores.control π) (s : State) (k : Keeps π s) :
    Keeps π (State.dropDatagram s) := by
  unfold State.dropDatagram
  repeat' (first
    | with_reducible assumption
    | intro _
    | (with_reducible first
        | apply keeps_ite | apply keeps_ite_snd | apply kept_withControl))

theorem kept_udpServe (igLife : Ignores.life π) (igOd : Ignores.od π) (igControl : Ignores.control π) (igClocks :
  Ignores.clocks π) (igThermal : Ignores.thermal π) (igOtp : Ignores.otp π) (igNvm : Ignores.nvm π) (igUpdate :
  Ignores.update π) (igBeat : Ignores.beat π) (igTap : Ignores.tap π) (igHostPort : Ignores.hostPort π) (igLanes :
  Ignores.lanes π) (igQuartz : Ignores.quartz π) (igTile : Ignores.tile π) (igPorts : Ignores.ports π) (igCascade :
  Ignores.cascade π) (igIngress : Ignores.ingress π) (igVideo : Ignores.video π) (igLamps : Ignores.lamps π) (igSent :
  Ignores.sent π) (igFreeCount : Ignores.freeCount π) (s : State) (a1 : Fin 8) (a2 : Nat) (a3 : List Byte) (k : Keeps
  π s) :
    Keeps π (State.udpServe s a1 a2 a3) := by
  unfold State.udpServe
  repeat' (first
    | with_reducible assumption
    | intro _
    | (with_reducible first
        | apply keeps_ite | apply keeps_ite_snd | apply kept_withControl | apply kept_serve | apply kept_touchCtx))

theorem kept_udpRequest (igLife : Ignores.life π) (igOd : Ignores.od π) (igControl : Ignores.control π) (igClocks :
  Ignores.clocks π) (igThermal : Ignores.thermal π) (igOtp : Ignores.otp π) (igNvm : Ignores.nvm π) (igUpdate :
  Ignores.update π) (igBeat : Ignores.beat π) (igTap : Ignores.tap π) (igHostPort : Ignores.hostPort π) (igLanes :
  Ignores.lanes π) (igQuartz : Ignores.quartz π) (igTile : Ignores.tile π) (igPorts : Ignores.ports π) (igCascade :
  Ignores.cascade π) (igIngress : Ignores.ingress π) (igVideo : Ignores.video π) (igLamps : Ignores.lamps π) (igSent :
  Ignores.sent π) (igFreeCount : Ignores.freeCount π) (s : State) (a1 : Fin 8) (a2 : Nat × Nat) (a3 : Nat) (a4 : List
  Byte) (k : Keeps π s) :
    Keeps π (State.udpRequest s a1 a2 a3 a4) := by
  unfold State.udpRequest
  repeat' (first
    | with_reducible assumption
    | intro _
    | (with_reducible first
        | apply keeps_ite | apply keeps_ite_snd | apply kept_withControl | apply kept_emit | apply kept_touchCtx
        | apply kept_udpServe | apply kept_forgetGw | apply kept_newCtx))

theorem kept_takeRpdo (igOd : Ignores.od π) (igControl : Ignores.control π) (igNvm : Ignores.nvm π) (igLanes :
  Ignores.lanes π) (igPorts : Ignores.ports π) (igCascade : Ignores.cascade π) (igIngress : Ignores.ingress π) (igSent
  : Ignores.sent π) (s : State) (a1 : Fin 4) (a2 : Bool) (a3 : List Byte) (k : Keeps π s) :
    Keeps π (State.takeRpdo s a1 a2 a3) := by
  unfold State.takeRpdo
  repeat' (first
    | with_reducible assumption
    | intro _
    | (with_reducible first
        | apply keeps_ite | apply keeps_ite_snd | apply kept_raiseLimited | apply kept_frustumIn))

theorem kept_execUdpDatagramReceive (igLife : Ignores.life π) (igOd : Ignores.od π) (igControl : Ignores.control π)
  (igClocks : Ignores.clocks π) (igThermal : Ignores.thermal π) (igOtp : Ignores.otp π) (igNvm : Ignores.nvm π)
  (igUpdate : Ignores.update π) (igBeat : Ignores.beat π) (igTap : Ignores.tap π) (igHostPort : Ignores.hostPort π)
  (igLanes : Ignores.lanes π) (igQuartz : Ignores.quartz π) (igTile : Ignores.tile π) (igPorts : Ignores.ports π)
  (igCascade : Ignores.cascade π) (igIngress : Ignores.ingress π) (igVideo : Ignores.video π) (igLamps : Ignores.lamps
  π) (igSent : Ignores.sent π) (igFreeCount : Ignores.freeCount π) (a0 a1 : Nat) (a2 : List Byte) (s : State) (k :
  Keeps π s) :
    KeepsO π (execUdpDatagramReceive a0 a1 a2 s) := by
  unfold execUdpDatagramReceive
  repeat' (first
    | with_reducible assumption
    | intro _
    | (with_reducible first
        | apply keeps_ite | apply keeps_ite_snd | apply keepsO_next | apply keepsO_ite | apply keepsO_dite
        | apply kept_udpRequest | apply kept_takeRpdo | apply kept_dropDatagram))

theorem kept_execSdoAbortReceive (igLife : Ignores.life π) (igOd : Ignores.od π) (igControl : Ignores.control π)
  (igClocks : Ignores.clocks π) (igThermal : Ignores.thermal π) (igOtp : Ignores.otp π) (igNvm : Ignores.nvm π)
  (igUpdate : Ignores.update π) (igBeat : Ignores.beat π) (igTap : Ignores.tap π) (igHostPort : Ignores.hostPort π)
  (igLanes : Ignores.lanes π) (igQuartz : Ignores.quartz π) (igTile : Ignores.tile π) (igPorts : Ignores.ports π)
  (igCascade : Ignores.cascade π) (igIngress : Ignores.ingress π) (igVideo : Ignores.video π) (igLamps : Ignores.lamps
  π) (igSent : Ignores.sent π) (igFreeCount : Ignores.freeCount π) (a0 : CtxId) (a1 : List Byte) (s : State) (k :
  Keeps π s) :
    KeepsO π (execSdoAbortReceive a0 a1 s) := by
  unfold execSdoAbortReceive
  repeat' (first
    | with_reducible assumption
    | intro _
    | (with_reducible first
        | apply keeps_ite | apply keeps_ite_snd | apply keepsO_next | apply keepsO_ite | apply keepsO_dite
        | apply kept_sdoRow))

theorem kept_execSdoBlockDownloadInitiate (igLife : Ignores.life π) (igOd : Ignores.od π) (igControl : Ignores.control
  π) (igClocks : Ignores.clocks π) (igThermal : Ignores.thermal π) (igOtp : Ignores.otp π) (igNvm : Ignores.nvm π)
  (igUpdate : Ignores.update π) (igBeat : Ignores.beat π) (igTap : Ignores.tap π) (igHostPort : Ignores.hostPort π)
  (igLanes : Ignores.lanes π) (igQuartz : Ignores.quartz π) (igTile : Ignores.tile π) (igPorts : Ignores.ports π)
  (igCascade : Ignores.cascade π) (igIngress : Ignores.ingress π) (igVideo : Ignores.video π) (igLamps : Ignores.lamps
  π) (igSent : Ignores.sent π) (igFreeCount : Ignores.freeCount π) (a0 : CtxId) (a1 : List Byte) (s : State) (k :
  Keeps π s) :
    KeepsO π (execSdoBlockDownloadInitiate a0 a1 s) := by
  unfold execSdoBlockDownloadInitiate
  repeat' (first
    | with_reducible assumption
    | intro _
    | (with_reducible first
        | apply keeps_ite | apply keeps_ite_snd | apply keepsO_next | apply keepsO_ite | apply keepsO_dite
        | apply kept_sdoRow))

theorem kept_execSdoDownloadSegment (igLife : Ignores.life π) (igOd : Ignores.od π) (igControl : Ignores.control π)
  (igClocks : Ignores.clocks π) (igThermal : Ignores.thermal π) (igOtp : Ignores.otp π) (igNvm : Ignores.nvm π)
  (igUpdate : Ignores.update π) (igBeat : Ignores.beat π) (igTap : Ignores.tap π) (igHostPort : Ignores.hostPort π)
  (igLanes : Ignores.lanes π) (igQuartz : Ignores.quartz π) (igTile : Ignores.tile π) (igPorts : Ignores.ports π)
  (igCascade : Ignores.cascade π) (igIngress : Ignores.ingress π) (igVideo : Ignores.video π) (igLamps : Ignores.lamps
  π) (igSent : Ignores.sent π) (igFreeCount : Ignores.freeCount π) (a0 : CtxId) (a1 : List Byte) (s : State) (k :
  Keeps π s) :
    KeepsO π (execSdoDownloadSegment a0 a1 s) := by
  unfold execSdoDownloadSegment
  repeat' (first
    | with_reducible assumption
    | intro _
    | (with_reducible first
        | apply keeps_ite | apply keeps_ite_snd | apply keepsO_next | apply keepsO_ite | apply keepsO_dite
        | apply kept_sdoRow))

theorem kept_execSdoBlockUploadInitiate (igLife : Ignores.life π) (igOd : Ignores.od π) (igControl : Ignores.control
  π) (igClocks : Ignores.clocks π) (igThermal : Ignores.thermal π) (igOtp : Ignores.otp π) (igNvm : Ignores.nvm π)
  (igUpdate : Ignores.update π) (igBeat : Ignores.beat π) (igTap : Ignores.tap π) (igHostPort : Ignores.hostPort π)
  (igLanes : Ignores.lanes π) (igQuartz : Ignores.quartz π) (igTile : Ignores.tile π) (igPorts : Ignores.ports π)
  (igCascade : Ignores.cascade π) (igIngress : Ignores.ingress π) (igVideo : Ignores.video π) (igLamps : Ignores.lamps
  π) (igSent : Ignores.sent π) (igFreeCount : Ignores.freeCount π) (a0 : CtxId) (a1 : List Byte) (s : State) (k :
  Keeps π s) :
    KeepsO π (execSdoBlockUploadInitiate a0 a1 s) := by
  unfold execSdoBlockUploadInitiate
  repeat' (first
    | with_reducible assumption
    | intro _
    | (with_reducible first
        | apply keeps_ite | apply keeps_ite_snd | apply keepsO_next | apply keepsO_ite | apply keepsO_dite
        | apply kept_sdoRow))

theorem kept_execSdoBlockDownloadEnd (igLife : Ignores.life π) (igOd : Ignores.od π) (igControl : Ignores.control π)
  (igClocks : Ignores.clocks π) (igThermal : Ignores.thermal π) (igOtp : Ignores.otp π) (igNvm : Ignores.nvm π)
  (igUpdate : Ignores.update π) (igBeat : Ignores.beat π) (igTap : Ignores.tap π) (igHostPort : Ignores.hostPort π)
  (igLanes : Ignores.lanes π) (igQuartz : Ignores.quartz π) (igTile : Ignores.tile π) (igPorts : Ignores.ports π)
  (igCascade : Ignores.cascade π) (igIngress : Ignores.ingress π) (igVideo : Ignores.video π) (igLamps : Ignores.lamps
  π) (igSent : Ignores.sent π) (igFreeCount : Ignores.freeCount π) (a0 : CtxId) (a1 : List Byte) (s : State) (k :
  Keeps π s) :
    KeepsO π (execSdoBlockDownloadEnd a0 a1 s) := by
  unfold execSdoBlockDownloadEnd
  repeat' (first
    | with_reducible assumption
    | intro _
    | (with_reducible first
        | apply keeps_ite | apply keeps_ite_snd | apply keepsO_next | apply keepsO_ite | apply keepsO_dite
        | apply kept_sdoRow))

theorem kept_execChallengeRead (igLife : Ignores.life π) (igOd : Ignores.od π) (igControl : Ignores.control π)
  (igClocks : Ignores.clocks π) (igThermal : Ignores.thermal π) (igOtp : Ignores.otp π) (igNvm : Ignores.nvm π)
  (igUpdate : Ignores.update π) (igBeat : Ignores.beat π) (igTap : Ignores.tap π) (igHostPort : Ignores.hostPort π)
  (igLanes : Ignores.lanes π) (igQuartz : Ignores.quartz π) (igTile : Ignores.tile π) (igPorts : Ignores.ports π)
  (igCascade : Ignores.cascade π) (igIngress : Ignores.ingress π) (igVideo : Ignores.video π) (igLamps : Ignores.lamps
  π) (igSent : Ignores.sent π) (igFreeCount : Ignores.freeCount π) (a0 : CtxId) (s : State) (k : Keeps π s) :
    KeepsO π (execChallengeRead a0 s) := by
  unfold execChallengeRead
  repeat' (first
    | with_reducible assumption
    | intro _
    | (with_reducible first
        | apply keeps_ite | apply keeps_ite_snd | apply keepsO_next | apply keepsO_ite | apply keepsO_dite
        | apply kept_sdoRow))

theorem kept_execRpdoReceive (igOd : Ignores.od π) (igControl : Ignores.control π) (igNvm : Ignores.nvm π) (igLanes :
  Ignores.lanes π) (igPorts : Ignores.ports π) (igCascade : Ignores.cascade π) (igIngress : Ignores.ingress π) (igSent
  : Ignores.sent π) (a0 : Fin 4) (a1 : Bool) (a2 : List Byte) (s : State) (k : Keeps π s) :
    KeepsO π (execRpdoReceive a0 a1 a2 s) := by
  unfold execRpdoReceive
  repeat' (first
    | with_reducible assumption
    | intro _
    | (with_reducible first
        | apply keeps_ite | apply keeps_ite_snd | apply keepsO_next | apply keepsO_ite | apply keepsO_dite
        | apply kept_takeRpdo))

theorem kept_execSdoUploadSegment (igLife : Ignores.life π) (igOd : Ignores.od π) (igControl : Ignores.control π)
  (igClocks : Ignores.clocks π) (igThermal : Ignores.thermal π) (igOtp : Ignores.otp π) (igNvm : Ignores.nvm π)
  (igUpdate : Ignores.update π) (igBeat : Ignores.beat π) (igTap : Ignores.tap π) (igHostPort : Ignores.hostPort π)
  (igLanes : Ignores.lanes π) (igQuartz : Ignores.quartz π) (igTile : Ignores.tile π) (igPorts : Ignores.ports π)
  (igCascade : Ignores.cascade π) (igIngress : Ignores.ingress π) (igVideo : Ignores.video π) (igLamps : Ignores.lamps
  π) (igSent : Ignores.sent π) (igFreeCount : Ignores.freeCount π) (a0 : CtxId) (a1 : List Byte) (s : State) (k :
  Keeps π s) :
    KeepsO π (execSdoUploadSegment a0 a1 s) := by
  unfold execSdoUploadSegment
  repeat' (first
    | with_reducible assumption
    | intro _
    | (with_reducible first
        | apply keeps_ite | apply keeps_ite_snd | apply keepsO_next | apply keepsO_ite | apply keepsO_dite
        | apply kept_sdoRow))

theorem kept_nmtSet (igControl : Ignores.control π) (s : State) (a1 : Nmt) (k : Keeps π s) :
    Keeps π (State.nmtSet s a1) := by
  unfold State.nmtSet
  repeat' (first
    | with_reducible assumption
    | intro _
    | (with_reducible first
        | apply keeps_ite | apply keeps_ite_snd | apply kept_withControl))

theorem kept_execNmtStop (igControl : Ignores.control π) (s : State) (k : Keeps π s) :
    KeepsO π (execNmtStop s) := by
  unfold execNmtStop
  repeat' (first
    | with_reducible assumption
    | intro _
    | (with_reducible first
        | apply keeps_ite | apply keeps_ite_snd | apply keepsO_next | apply keepsO_ite | apply keepsO_dite
        | apply kept_nmtSet))

theorem kept_sendTpdo (igControl : Ignores.control π) (igSent : Ignores.sent π) (s : State) (a1 : Fin 4) (k : Keeps π
  s) :
    Keeps π (State.sendTpdo s a1) := by
  unfold State.sendTpdo
  repeat' (first
    | with_reducible assumption
    | intro _
    | (with_reducible first
        | apply keeps_ite | apply keeps_ite_snd | apply kept_withControl | apply kept_canSend))

theorem kept_syncTpdo (igControl : Ignores.control π) (igSent : Ignores.sent π) (s : State) (a1 : Fin 4) (k : Keeps π
  s) :
    Keeps π (State.syncTpdo s a1) := by
  unfold State.syncTpdo
  repeat' (first
    | with_reducible assumption
    | intro _
    | (with_reducible first
        | apply keeps_ite | apply keeps_ite_snd | apply kept_sendTpdo | apply kept_withControl))

theorem kept_withLss (igControl : Ignores.control π) (s : State) (a1 : Lss → Lss) (k : Keeps π s) :
    Keeps π (State.withLss s a1) := by
  unfold State.withLss
  repeat' (first
    | with_reducible assumption
    | intro _
    | (with_reducible first
        | apply keeps_ite | apply keeps_ite_snd | apply kept_withControl))

theorem kept_execHeartbeatProduce (igNow : Ignores.now π) (igControl : Ignores.control π) (igQuartz : Ignores.quartz
  π) (igSent : Ignores.sent π) (s : State) (k : Keeps π s) :
    KeepsO π (execHeartbeatProduce s) := by
  unfold execHeartbeatProduce
  repeat' (first
    | with_reducible assumption
    | intro _
    | (with_reducible first
        | apply keeps_ite | apply keeps_ite_snd | apply keepsO_next | apply keepsO_ite | apply keepsO_dite
        | apply kept_until_ | apply kept_canSend | apply kept_withControl))

theorem kept_execLssActivateBitTiming (igNow : Ignores.now π) (igOd : Ignores.od π) (igControl : Ignores.control π)
  (igQuartz : Ignores.quartz π) (a0 : BitVec 16) (s : State) (k : Keeps π s) :
    KeepsO π (execLssActivateBitTiming a0 s) := by
  unfold execLssActivateBitTiming
  repeat' (first
    | with_reducible assumption
    | intro _
    | (with_reducible first
        | apply keeps_ite | apply keeps_ite_snd | apply keepsO_next | apply keepsO_ite | apply keepsO_dite
        | apply kept_pass | apply kept_withLss | apply kept_withControl | apply kept_wrN)
    | split)

theorem kept_lssAnswer (igSent : Ignores.sent π) (s : State) (a1 : List Byte) (k : Keeps π s) :
    Keeps π (State.lssAnswer s a1) := by
  unfold State.lssAnswer
  repeat' (first
    | with_reducible assumption
    | intro _
    | (with_reducible first
        | apply keeps_ite | apply keeps_ite_snd | apply kept_emit))

theorem kept_execLssInquireIdentity (igSent : Ignores.sent π) (a0 : Fin 4) (s : State) (k : Keeps π s) :
    KeepsO π (execLssInquireIdentity a0 s) := by
  unfold execLssInquireIdentity
  repeat' (first
    | with_reducible assumption
    | intro _
    | (with_reducible first
        | apply keeps_ite | apply keeps_ite_snd | apply keepsO_next | apply keepsO_ite | apply keepsO_dite
        | apply kept_lssAnswer))

theorem kept_execNmtResetCommunication (igOd : Ignores.od π) (igControl : Ignores.control π) (igNvm : Ignores.nvm π)
  (igSent : Ignores.sent π) (s : State) (k : Keeps π s) :
    KeepsO π (execNmtResetCommunication s) := by
  unfold execNmtResetCommunication
  repeat' (first
    | with_reducible assumption
    | intro _
    | (with_reducible first
        | apply keeps_ite | apply keeps_ite_snd | apply keepsO_next | apply keepsO_ite | apply keepsO_dite
        | apply kept_raise | apply kept_restartCan))

theorem kept_execNmtEnterPreOperational (igControl : Ignores.control π) (s : State) (k : Keeps π s) :
    KeepsO π (execNmtEnterPreOperational s) := by
  unfold execNmtEnterPreOperational
  repeat' (first
    | with_reducible assumption
    | intro _
    | (with_reducible first
        | apply keeps_ite | apply keeps_ite_snd | apply keepsO_next | apply keepsO_ite | apply keepsO_dite
        | apply kept_nmtSet))

theorem kept_execLssConfigureNodeId (igOd : Ignores.od π) (igSent : Ignores.sent π) (a0 : Byte) (s : State) (k : Keeps
  π s) :
    KeepsO π (execLssConfigureNodeId a0 s) := by
  unfold execLssConfigureNodeId
  repeat' (first
    | with_reducible assumption
    | intro _
    | (with_reducible first
        | apply keeps_ite | apply keeps_ite_snd | apply keepsO_next | apply keepsO_ite | apply keepsO_dite
        | apply kept_lssAnswer | apply kept_wrN))

theorem kept_execLssIdentifyRemoteSlave (igSent : Ignores.sent π) (a0 a1 a2 a3 a4 a5 : Word) (s : State) (k : Keeps π
  s) :
    KeepsO π (execLssIdentifyRemoteSlave a0 a1 a2 a3 a4 a5 s) := by
  unfold execLssIdentifyRemoteSlave
  repeat' (first
    | with_reducible assumption
    | intro _
    | (with_reducible first
        | apply keeps_ite | apply keeps_ite_snd | apply keepsO_next | apply keepsO_ite | apply keepsO_dite
        | apply kept_lssAnswer))

theorem kept_execNmtStart (igControl : Ignores.control π) (s : State) (k : Keeps π s) :
    KeepsO π (execNmtStart s) := by
  unfold execNmtStart
  repeat' (first
    | with_reducible assumption
    | intro _
    | (with_reducible first
        | apply keeps_ite | apply keeps_ite_snd | apply keepsO_next | apply keepsO_ite | apply keepsO_dite
        | apply kept_nmtSet))

theorem kept_execLssInquireNodeId (igSent : Ignores.sent π) (s : State) (k : Keeps π s) :
    KeepsO π (execLssInquireNodeId s) := by
  unfold execLssInquireNodeId
  repeat' (first
    | with_reducible assumption
    | intro _
    | (with_reducible first
        | apply keeps_ite | apply keeps_ite_snd | apply keepsO_next | apply keepsO_ite | apply keepsO_dite
        | apply kept_lssAnswer))

theorem kept_execLssSwitchStateGlobal (igControl : Ignores.control π) (a0 : Byte) (s : State) (k : Keeps π s) :
    KeepsO π (execLssSwitchStateGlobal a0 s) := by
  unfold execLssSwitchStateGlobal
  repeat' (first
    | with_reducible assumption
    | intro _
    | (with_reducible first
        | apply keeps_ite | apply keeps_ite_snd | apply keepsO_next | apply keepsO_ite | apply keepsO_dite
        | apply kept_withLss))

theorem kept_execLssStoreConfiguration (igOd : Ignores.od π) (igControl : Ignores.control π) (igNvm : Ignores.nvm π)
  (igSent : Ignores.sent π) (s : State) (k : Keeps π s) :
    KeepsO π (execLssStoreConfiguration s) := by
  unfold execLssStoreConfiguration
  repeat' (first
    | with_reducible assumption
    | intro _
    | (with_reducible first
        | apply keeps_ite | apply keeps_ite_snd | apply keepsO_next | apply keepsO_ite | apply keepsO_dite
        | apply kept_storeWrite | apply kept_lssAnswer))

theorem kept_execSyncReceive (igControl : Ignores.control π) (igSent : Ignores.sent π) (s : State) (k : Keeps π s) :
    KeepsO π (execSyncReceive s) := by
  unfold execSyncReceive
  repeat' (first
    | with_reducible assumption
    | intro _
    | (with_reducible first
        | apply keeps_ite | apply keeps_ite_snd | apply keepsO_next | apply keepsO_ite | apply keepsO_dite
        | apply keeps_foldl | apply kept_syncTpdo))

theorem kept_execLssConfigureBitTiming (igControl : Ignores.control π) (igSent : Ignores.sent π) (a0 a1 : Byte) (s :
  State) (k : Keeps π s) :
    KeepsO π (execLssConfigureBitTiming a0 a1 s) := by
  unfold execLssConfigureBitTiming
  repeat' (first
    | with_reducible assumption
    | intro _
    | (with_reducible first
        | apply keeps_ite | apply keeps_ite_snd | apply keepsO_next | apply keepsO_ite | apply keepsO_dite
        | apply kept_lssAnswer | apply kept_withLss))

theorem kept_execTpdoEventTimer (igNow : Ignores.now π) (igControl : Ignores.control π) (igQuartz : Ignores.quartz π)
  (igSent : Ignores.sent π) (a0 : Fin 4) (s : State) (k : Keeps π s) :
    KeepsO π (execTpdoEventTimer a0 s) := by
  unfold execTpdoEventTimer
  repeat' (first
    | with_reducible assumption
    | intro _
    | (with_reducible first
        | apply keeps_ite | apply keeps_ite_snd | apply keepsO_next | apply keepsO_ite | apply keepsO_dite
        | apply kept_sendTpdo | apply kept_until_))

theorem kept_execLssIdentifyNonConfigured (igSent : Ignores.sent π) (s : State) (k : Keeps π s) :
    KeepsO π (execLssIdentifyNonConfigured s) := by
  unfold execLssIdentifyNonConfigured
  repeat' (first
    | with_reducible assumption
    | intro _
    | (with_reducible first
        | apply keeps_ite | apply keeps_ite_snd | apply keepsO_next | apply keepsO_ite | apply keepsO_dite
        | apply kept_lssAnswer))

theorem kept_execLssSwitchStateSelective (igControl : Ignores.control π) (igSent : Ignores.sent π) (a0 a1 a2 a3 :
  Word) (s : State) (k : Keeps π s) :
    KeepsO π (execLssSwitchStateSelective a0 a1 a2 a3 s) := by
  unfold execLssSwitchStateSelective
  repeat' (first
    | with_reducible assumption
    | intro _
    | (with_reducible first
        | apply keeps_ite | apply keeps_ite_snd | apply keepsO_next | apply keepsO_ite | apply keepsO_dite
        | apply kept_lssAnswer | apply kept_withLss))

theorem kept_execLssFastscan (igControl : Ignores.control π) (igSent : Ignores.sent π) (a0 : Word) (a1 a2 a3 : Byte)
  (s : State) (k : Keeps π s) :
    KeepsO π (execLssFastscan a0 a1 a2 a3 s) := by
  unfold execLssFastscan
  repeat' (first
    | with_reducible assumption
    | intro _
    | (with_reducible first
        | apply keeps_ite | apply keeps_ite_snd | apply keepsO_next | apply keepsO_ite | apply keepsO_dite
        | apply kept_lssAnswer | apply kept_withLss))

theorem kept_execHeartbeatConsumerTimeout (igControl : Ignores.control π) (a0 : Fin 4) (s : State) (k : Keeps π s) :
    KeepsO π (execHeartbeatConsumerTimeout a0 s) := by
  unfold execHeartbeatConsumerTimeout
  repeat' (first
    | with_reducible assumption
    | intro _
    | (with_reducible first
        | apply keeps_ite | apply keeps_ite_snd | apply keepsO_next | apply keepsO_ite | apply keepsO_dite
        | apply kept_withControl))

theorem kept_execUdpHeartbeatSend (igNow : Ignores.now π) (igControl : Ignores.control π) (igQuartz : Ignores.quartz
  π) (igSent : Ignores.sent π) (igFreeCount : Ignores.freeCount π) (s : State) (k : Keeps π s) :
    KeepsO π (execUdpHeartbeatSend s) := by
  unfold execUdpHeartbeatSend
  repeat' (first
    | with_reducible assumption
    | intro _
    | (with_reducible first
        | apply keeps_ite | apply keeps_ite_snd | apply keepsO_next | apply keepsO_ite | apply keepsO_dite
        | apply kept_until_ | apply kept_withControl | apply kept_freeNat | apply kept_emit))

theorem kept_engineTake (igHostPort : Ignores.hostPort π) (igLamps : Ignores.lamps π) (igSent : Ignores.sent π) (s :
  State) (a1 : Fin 64) (a2 : BitVec 18) (k : Keeps π s) :
    Keeps π (State.engineTake s a1 a2).2 := by
  unfold State.engineTake
  repeat' (first
    | with_reducible assumption
    | intro _
    | (with_reducible first
        | apply keeps_ite | apply keeps_ite_snd | apply kept_emptyNative | apply kept_withEngine)
    | split)

theorem kept_execPeMbr (igOd : Ignores.od π) (igControl : Ignores.control π) (igNvm : Ignores.nvm π) (igHostPort :
  Ignores.hostPort π) (igLamps : Ignores.lamps π) (igSent : Ignores.sent π) (a0 : Fin 64) (a1 a2 : Fin 16) (a3 :
  BitVec 18) (s : State) (k : Keeps π s) :
    KeepsO π (execPeMbr a0 a1 a2 a3 s) := by
  unfold execPeMbr
  repeat' (first
    | with_reducible assumption
    | intro _
    | (with_reducible first
        | apply keeps_ite | apply keeps_ite_snd | apply keepsO_next | apply keepsO_ite | apply keepsO_dite
        | apply kept_onEngine | apply kept_engineTake | apply kept_setReg))

theorem kept_execPeSemr (igOd : Ignores.od π) (igControl : Ignores.control π) (igNvm : Ignores.nvm π) (igHostPort :
  Ignores.hostPort π) (igLamps : Ignores.lamps π) (igSent : Ignores.sent π) (a0 : Fin 64) (a1 a2 : Fin 16) (a3 :
  BitVec 18) (s : State) (k : Keeps π s) :
    KeepsO π (execPeSemr a0 a1 a2 a3 s) := by
  unfold execPeSemr
  repeat' (first
    | with_reducible assumption
    | intro _
    | (with_reducible first
        | apply keeps_ite | apply keeps_ite_snd | apply keepsO_next | apply keepsO_ite | apply keepsO_dite
        | apply kept_onEngine | apply kept_semWrite)
    | split)

theorem kept_execEngineLoad (igOd : Ignores.od π) (igControl : Ignores.control π) (igNvm : Ignores.nvm π) (igHostPort
  : Ignores.hostPort π) (igVideo : Ignores.video π) (igLamps : Ignores.lamps π) (igSent : Ignores.sent π) (a0 : Fin
  64) (s : State) (k : Keeps π s) :
    KeepsO π (execEngineLoad a0 s) := by
  unfold execEngineLoad
  repeat' (first
    | with_reducible assumption
    | intro _
    | (with_reducible first
        | apply keeps_ite | apply keeps_ite_snd | apply keepsO_next | apply keepsO_ite | apply keepsO_dite
        | apply kept_loadEngine))

theorem kept_execPeSema (igOd : Ignores.od π) (igControl : Ignores.control π) (igNvm : Ignores.nvm π) (igHostPort :
  Ignores.hostPort π) (igLamps : Ignores.lamps π) (igSent : Ignores.sent π) (a0 : Fin 64) (a1 a2 : Fin 16) (a3 :
  BitVec 18) (s : State) (k : Keeps π s) :
    KeepsO π (execPeSema a0 a1 a2 a3 s) := by
  unfold execPeSema
  repeat' (first
    | with_reducible assumption
    | intro _
    | (with_reducible first
        | apply keeps_ite | apply keeps_ite_snd | apply keepsO_next | apply keepsO_ite | apply keepsO_dite
        | apply kept_onEngine | apply kept_semRead | apply kept_setReg)
    | split)

theorem kept_enginePost (igHostPort : Ignores.hostPort π) (igSent : Ignores.sent π) (s : State) (a1 : Fin 64) (a2 :
  BitVec 18) (k : Keeps π s) :
    Keeps π (State.enginePost s a1 a2).2 := by
  unfold State.enginePost
  repeat' (first
    | with_reducible assumption
    | intro _
    | (with_reducible first
        | apply keeps_ite | apply keeps_ite_snd | apply kept_withBox | apply kept_posted)
    | split)

theorem kept_execPeMbs (igOd : Ignores.od π) (igControl : Ignores.control π) (igNvm : Ignores.nvm π) (igHostPort :
  Ignores.hostPort π) (igLamps : Ignores.lamps π) (igSent : Ignores.sent π) (a0 : Fin 64) (a1 a2 : Fin 16) (a3 :
  BitVec 18) (s : State) (k : Keeps π s) :
    KeepsO π (execPeMbs a0 a1 a2 a3 s) := by
  unfold execPeMbs
  repeat' (first
    | with_reducible assumption
    | intro _
    | (with_reducible first
        | apply keeps_ite | apply keeps_ite_snd | apply keepsO_next | apply keepsO_ite | apply keepsO_dite
        | apply kept_onEngine | apply kept_enginePost | apply kept_setReg))

theorem kept_showSettings (igOd : Ignores.od π) (s : State) (k : Keeps π s) :
    Keeps π (State.showSettings s) := by
  unfold State.showSettings
  repeat' (first
    | with_reducible assumption
    | intro _
    | (with_reducible first
        | apply keeps_ite | apply keeps_ite_snd | apply kept_wrN)
    | split)

theorem kept_jobFails (igOd : Ignores.od π) (igControl : Ignores.control π) (igNvm : Ignores.nvm π) (igUpdate :
  Ignores.update π) (igSent : Ignores.sent π) (s : State) (a1 : FlashPurpose) (k : Keeps π s) :
    Keeps π (State.jobFails s a1) := by
  unfold State.jobFails
  repeat' (first
    | with_reducible assumption
    | intro _
    | (with_reducible first
        | apply keeps_ite | apply keeps_ite_snd | apply kept_raise | apply kept_withUpdate)
    | split)

theorem kept_touch (igVideo : Ignores.video π) (s : State) (a1 : FlashStep) (k : Keeps π s) :
    Keeps π (State.touch s a1) := by
  unfold State.touch
  repeat' (first
    | with_reducible assumption
    | intro _
    | (with_reducible first
        | apply keeps_ite | apply keeps_ite_snd | apply kept_withColour))

theorem kept_jobDone (igLife : Ignores.life π) (igOd : Ignores.od π) (igControl : Ignores.control π) (igClocks :
  Ignores.clocks π) (igThermal : Ignores.thermal π) (igNvm : Ignores.nvm π) (igUpdate : Ignores.update π) (igBeat :
  Ignores.beat π) (igTap : Ignores.tap π) (igHostPort : Ignores.hostPort π) (igLanes : Ignores.lanes π) (igQuartz :
  Ignores.quartz π) (igTile : Ignores.tile π) (igPorts : Ignores.ports π) (igCascade : Ignores.cascade π) (igIngress :
  Ignores.ingress π) (igVideo : Ignores.video π) (igLamps : Ignores.lamps π) (igSent : Ignores.sent π) (igFreeCount :
  Ignores.freeCount π) (s : State) (a1 : FlashPurpose) (k : Keeps π s) :
    Keeps π (State.jobDone s a1) := by
  unfold State.jobDone
  repeat' (first
    | with_reducible assumption
    | intro _
    | (with_reducible first
        | apply keeps_ite | apply keeps_ite_snd | apply kept_committed | apply kept_pinnedErased
        | apply kept_calStored | apply kept_beginCold | apply kept_raise | apply kept_withUpdate
        | apply kept_showSettings | apply kept_blockDone | apply kept_pointerDone)
    | split)

theorem kept_flashEnds (igLife : Ignores.life π) (igOd : Ignores.od π) (igControl : Ignores.control π) (igClocks :
  Ignores.clocks π) (igThermal : Ignores.thermal π) (igNvm : Ignores.nvm π) (igUpdate : Ignores.update π) (igBeat :
  Ignores.beat π) (igTap : Ignores.tap π) (igHostPort : Ignores.hostPort π) (igLanes : Ignores.lanes π) (igQuartz :
  Ignores.quartz π) (igTile : Ignores.tile π) (igPorts : Ignores.ports π) (igCascade : Ignores.cascade π) (igIngress :
  Ignores.ingress π) (igVideo : Ignores.video π) (igLamps : Ignores.lamps π) (igSent : Ignores.sent π) (igFreeCount :
  Ignores.freeCount π) (s : State) (a1 : Bool) (k : Keeps π s) :
    Keeps π (State.flashEnds s a1) := by
  unfold State.flashEnds
  repeat' (first
    | exact fun h => h
    | exact canon_calRun _ _
    | exact fun h => flashPut_wf _ _ _ h
    | with_reducible assumption
    | intro _
    | (with_reducible first
        | apply keeps_ite | apply keeps_ite_snd | apply kept_withNvm | apply kept_issueFlash | apply kept_doStep
        | apply kept_touch | apply kept_jobFails | apply kept_raise | apply kept_jobDone)
    | split)

theorem kept_execFlashOpComplete (igLife : Ignores.life π) (igOd : Ignores.od π) (igControl : Ignores.control π)
  (igClocks : Ignores.clocks π) (igThermal : Ignores.thermal π) (igNvm : Ignores.nvm π) (igUpdate : Ignores.update π)
  (igBeat : Ignores.beat π) (igTap : Ignores.tap π) (igHostPort : Ignores.hostPort π) (igLanes : Ignores.lanes π)
  (igQuartz : Ignores.quartz π) (igTile : Ignores.tile π) (igPorts : Ignores.ports π) (igCascade : Ignores.cascade π)
  (igIngress : Ignores.ingress π) (igVideo : Ignores.video π) (igLamps : Ignores.lamps π) (igSent : Ignores.sent π)
  (igFreeCount : Ignores.freeCount π) (a0 : Bool) (s : State) (k : Keeps π s) :
    KeepsO π (execFlashOpComplete a0 s) := by
  unfold execFlashOpComplete
  repeat' (first
    | with_reducible assumption
    | intro _
    | (with_reducible first
        | apply keeps_ite | apply keeps_ite_snd | apply keepsO_next | apply keepsO_ite | apply keepsO_dite
        | apply kept_flashEnds))

theorem kept_execFlashOpTimeout (igLife : Ignores.life π) (igOd : Ignores.od π) (igControl : Ignores.control π)
  (igClocks : Ignores.clocks π) (igThermal : Ignores.thermal π) (igNvm : Ignores.nvm π) (igUpdate : Ignores.update π)
  (igBeat : Ignores.beat π) (igTap : Ignores.tap π) (igHostPort : Ignores.hostPort π) (igLanes : Ignores.lanes π)
  (igQuartz : Ignores.quartz π) (igTile : Ignores.tile π) (igPorts : Ignores.ports π) (igCascade : Ignores.cascade π)
  (igIngress : Ignores.ingress π) (igVideo : Ignores.video π) (igLamps : Ignores.lamps π) (igSent : Ignores.sent π)
  (igFreeCount : Ignores.freeCount π) (s : State) (k : Keeps π s) :
    KeepsO π (execFlashOpTimeout s) := by
  unfold execFlashOpTimeout
  repeat' (first
    | with_reducible assumption
    | intro _
    | (with_reducible first
        | apply keeps_ite | apply keeps_ite_snd | apply keepsO_next | apply keepsO_ite | apply keepsO_dite
        | apply kept_flashEnds))

theorem kept_tableWrite (igLanes : Ignores.lanes π) (igQuartz : Ignores.quartz π) (igTile : Ignores.tile π) (s :
  State) (a1 : Nat) (a2 : List Byte) (k : Keeps π s) :
    Keeps π (State.tableWrite s a1 a2).2 := by
  unfold State.tableWrite
  repeat' (first
    | with_reducible assumption
    | intro _
    | (with_reducible first
        | apply keeps_ite | apply keeps_ite_snd | apply kept_withTile | apply kept_withQuartz | apply kept_nameMarks)
    | split)

theorem kept_tileWrite (igLife : Ignores.life π) (igOd : Ignores.od π) (igControl : Ignores.control π) (igClocks :
  Ignores.clocks π) (igThermal : Ignores.thermal π) (igOtp : Ignores.otp π) (igNvm : Ignores.nvm π) (igUpdate :
  Ignores.update π) (igBeat : Ignores.beat π) (igTap : Ignores.tap π) (igHostPort : Ignores.hostPort π) (igLanes :
  Ignores.lanes π) (igQuartz : Ignores.quartz π) (igTile : Ignores.tile π) (igPorts : Ignores.ports π) (igCascade :
  Ignores.cascade π) (igIngress : Ignores.ingress π) (igVideo : Ignores.video π) (igLamps : Ignores.lamps π) (igSent :
  Ignores.sent π) (igFreeCount : Ignores.freeCount π) (s : State) (a1 : MgmtHead) (a2 : List Byte) (k : Keeps π s) :
    Keeps π (State.tileWrite s a1 a2).2 := by
  unfold State.tileWrite
  repeat' (first
    | with_reducible assumption
    | intro _
    | (with_reducible first
        | apply keeps_ite | apply keeps_ite_snd | apply kept_tableWrite | apply kept_writeLocal))

theorem kept_gather (igControl : Ignores.control π) (s : State) (a1 : Cell) (k : Keeps π s) :
    Keeps π (State.gather s a1).2 := by
  unfold State.gather
  repeat' (first
    | with_reducible assumption
    | intro _
    | (with_reducible first
        | apply keeps_ite | apply keeps_ite_snd | apply kept_withControl)
    | split
    | simp -iota -proj only [])

theorem kept_mgmtIn (igOd : Ignores.od π) (igControl : Ignores.control π) (igNvm : Ignores.nvm π) (igLanes :
  Ignores.lanes π) (igTile : Ignores.tile π) (igSent : Ignores.sent π) (s : State) (a1 : Fin 2) (a2 : RxCell) (a3 :
  Nat) (k : Keeps π s) :
    Keeps π (State.mgmtIn s a1 a2 a3).2 := by
  unfold State.mgmtIn
  repeat' (first
    | with_reducible assumption
    | intro _
    | (with_reducible first
        | apply keeps_ite | apply keeps_ite_snd | apply kept_arrive | apply kept_admitCell | apply kept_gather))

theorem kept_execMgmtBroadcastWriteReceive (igLife : Ignores.life π) (igOd : Ignores.od π) (igControl :
  Ignores.control π) (igClocks : Ignores.clocks π) (igThermal : Ignores.thermal π) (igOtp : Ignores.otp π) (igNvm :
  Ignores.nvm π) (igUpdate : Ignores.update π) (igBeat : Ignores.beat π) (igTap : Ignores.tap π) (igHostPort :
  Ignores.hostPort π) (igLanes : Ignores.lanes π) (igQuartz : Ignores.quartz π) (igTile : Ignores.tile π) (igPorts :
  Ignores.ports π) (igCascade : Ignores.cascade π) (igIngress : Ignores.ingress π) (igVideo : Ignores.video π)
  (igLamps : Ignores.lamps π) (igSent : Ignores.sent π) (igFreeCount : Ignores.freeCount π) (a0 : Fin 2) (a1 : RxCell)
  (s : State) (k : Keeps π s) :
    KeepsO π (execMgmtBroadcastWriteReceive a0 a1 s) := by
  unfold execMgmtBroadcastWriteReceive
  repeat' (first
    | with_reducible assumption
    | intro _
    | (with_reducible first
        | apply keeps_ite | apply keeps_ite_snd | apply keepsO_next | apply keepsO_ite | apply keepsO_dite
        | apply kept_mgmtIn | apply kept_tileWrite)
    | split
    | simp -iota -proj only []
    | (refine keeps_pair ?_ (by with_reducible assumption)))

theorem kept_transact (igOd : Ignores.od π) (igControl : Ignores.control π) (igNvm : Ignores.nvm π) (igTile :
  Ignores.tile π) (igSent : Ignores.sent π) (s : State) (a1 : MgmtHead) (a2 : State → Nat × List Byte × State) (hf : ∀
  s, Keeps π s → Keeps π (a2 s).2.2) (k : Keeps π s) :
    Keeps π (State.transact s a1 a2) := by
  unfold State.transact
  repeat' (first
    | with_reducible assumption
    | intro _
    | (with_reducible first
        | apply keeps_ite | apply keeps_ite_snd | apply kept_originateMgmt | apply kept_withControl | apply hf)
    | split)

theorem kept_tileRead (igControl : Ignores.control π) (igFreeCount : Ignores.freeCount π) (s : State) (a1 : MgmtHead)
  (k : Keeps π s) :
    Keeps π (State.tileRead s a1).2.2 := by
  unfold State.tileRead
  repeat' (first
    | with_reducible assumption
    | intro _
    | (with_reducible first
        | apply keeps_ite | apply keeps_ite_snd | apply keeps_ite_snd2 | apply kept_readLocal))

theorem kept_execMgmtReadReceive (igOd : Ignores.od π) (igControl : Ignores.control π) (igNvm : Ignores.nvm π)
  (igLanes : Ignores.lanes π) (igTile : Ignores.tile π) (igSent : Ignores.sent π) (igFreeCount : Ignores.freeCount π)
  (a0 : Fin 2) (a1 : RxCell) (s : State) (k : Keeps π s) :
    KeepsO π (execMgmtReadReceive a0 a1 s) := by
  unfold execMgmtReadReceive
  repeat' (first
    | with_reducible assumption
    | intro _
    | (with_reducible first
        | apply keeps_ite | apply keeps_ite_snd | apply keepsO_next | apply keepsO_ite | apply keepsO_dite
        | apply kept_mgmtIn | apply kept_transact | apply kept_tileRead)
    | split
    | simp -iota -proj only []
    | (refine keeps_pair ?_ (by with_reducible assumption)))

theorem kept_execTileEventSend (igNow : Ignores.now π) (igOd : Ignores.od π) (igControl : Ignores.control π) (igNvm :
  Ignores.nvm π) (igQuartz : Ignores.quartz π) (igTile : Ignores.tile π) (igSent : Ignores.sent π) (s : State) (k :
  Keeps π s) :
    KeepsO π (execTileEventSend s) := by
  unfold execTileEventSend
  repeat' (first
    | with_reducible assumption
    | intro _
    | (with_reducible first
        | apply keeps_ite | apply keeps_ite_snd | apply keepsO_next | apply keepsO_ite | apply keepsO_dite
        | apply kept_until_ | apply kept_withControl | apply kept_originateMgmt)
    | split)

theorem kept_execMgmtWriteReceive (igLife : Ignores.life π) (igOd : Ignores.od π) (igControl : Ignores.control π)
  (igClocks : Ignores.clocks π) (igThermal : Ignores.thermal π) (igOtp : Ignores.otp π) (igNvm : Ignores.nvm π)
  (igUpdate : Ignores.update π) (igBeat : Ignores.beat π) (igTap : Ignores.tap π) (igHostPort : Ignores.hostPort π)
  (igLanes : Ignores.lanes π) (igQuartz : Ignores.quartz π) (igTile : Ignores.tile π) (igPorts : Ignores.ports π)
  (igCascade : Ignores.cascade π) (igIngress : Ignores.ingress π) (igVideo : Ignores.video π) (igLamps : Ignores.lamps
  π) (igSent : Ignores.sent π) (igFreeCount : Ignores.freeCount π) (a0 : Fin 2) (a1 : RxCell) (s : State) (k : Keeps π
  s) :
    KeepsO π (execMgmtWriteReceive a0 a1 s) := by
  unfold execMgmtWriteReceive
  repeat' (first
    | with_reducible assumption
    | intro _
    | (with_reducible first
        | apply keeps_ite | apply keeps_ite_snd | apply keepsO_next | apply keepsO_ite | apply keepsO_dite
        | apply kept_mgmtIn | apply kept_transact | apply kept_tileWrite)
    | split
    | simp -iota -proj only []
    | (refine keeps_pair ?_ (by with_reducible assumption)))

theorem kept_ringSample (igOd : Ignores.od π) (igLanes : Ignores.lanes π) (igQuartz : Ignores.quartz π) (igCascade :
  Ignores.cascade π) (igSent : Ignores.sent π) (s : State) (a1 : Fin 2) (a2 : Cell) (k : Keeps π s) :
    Keeps π (State.ringSample s a1 a2) := by
  unfold State.ringSample
  repeat' (first
    | with_reducible assumption
    | intro _
    | (with_reducible first
        | apply keeps_ite | apply keeps_ite_snd | apply kept_wrN | apply kept_withQuartz | apply kept_sendMgmtUnit))

theorem kept_deliver (igOd : Ignores.od π) (igControl : Ignores.control π) (igNvm : Ignores.nvm π) (igUpdate :
  Ignores.update π) (igHostPort : Ignores.hostPort π) (igLanes : Ignores.lanes π) (igQuartz : Ignores.quartz π)
  (igPorts : Ignores.ports π) (igCascade : Ignores.cascade π) (igIngress : Ignores.ingress π) (igSent : Ignores.sent
  π) (s : State) (a1 : Fin 2) (a2 : Cell) (k : Keeps π s) :
    Keeps π (State.deliver s a1 a2) := by
  unfold State.deliver
  repeat' (first
    | with_reducible assumption
    | intro _
    | (with_reducible first
        | apply keeps_ite | apply keeps_ite_snd | apply kept_takeReport | apply kept_stationNew
        | apply kept_senderMgmt | apply kept_wuTake | apply kept_tileReport)
    | split)

theorem kept_fromTile (igOd : Ignores.od π) (igControl : Ignores.control π) (igNvm : Ignores.nvm π) (igUpdate :
  Ignores.update π) (igHostPort : Ignores.hostPort π) (igLanes : Ignores.lanes π) (igQuartz : Ignores.quartz π)
  (igPorts : Ignores.ports π) (igCascade : Ignores.cascade π) (igIngress : Ignores.ingress π) (igSent : Ignores.sent
  π) (s : State) (a1 : Fin 2) (a2 : Cell) (k : Keeps π s) :
    Keeps π (State.fromTile s a1 a2) := by
  unfold State.fromTile
  repeat' (first
    | with_reducible assumption
    | intro _
    | (with_reducible first
        | apply keeps_ite | apply keeps_ite_snd | apply kept_deliver | apply kept_sendUnit))

theorem kept_terminate (igNow : Ignores.now π) (igOd : Ignores.od π) (igControl : Ignores.control π) (igNvm :
  Ignores.nvm π) (igUpdate : Ignores.update π) (igHostPort : Ignores.hostPort π) (igLanes : Ignores.lanes π) (igQuartz
  : Ignores.quartz π) (igPorts : Ignores.ports π) (igCascade : Ignores.cascade π) (igIngress : Ignores.ingress π)
  (igSent : Ignores.sent π) (s : State) (a1 : Fin 2) (a2 : Cell) (k : Keeps π s) :
    Keeps π (State.terminate s a1 a2) := by
  unfold State.terminate
  repeat' (first
    | with_reducible assumption
    | intro _
    | (with_reducible first
        | apply keeps_ite | apply keeps_ite_snd | apply kept_fromTile | apply kept_healthThroughRing
        | apply kept_ringSample))

theorem kept_arriveSender (igNow : Ignores.now π) (igOd : Ignores.od π) (igControl : Ignores.control π) (igNvm :
  Ignores.nvm π) (igUpdate : Ignores.update π) (igHostPort : Ignores.hostPort π) (igLanes : Ignores.lanes π) (igQuartz
  : Ignores.quartz π) (igPorts : Ignores.ports π) (igCascade : Ignores.cascade π) (igIngress : Ignores.ingress π)
  (igSent : Ignores.sent π) (s : State) (a1 : Fin 2) (a2 : RxCell) (a3 : Bool) (k : Keeps π s) :
    Keeps π (State.arriveSender s a1 a2 a3) := by
  unfold State.arriveSender
  repeat' (first
    | with_reducible assumption
    | intro _
    | (with_reducible first
        | apply keeps_ite | apply keeps_ite_snd | apply kept_bump | apply kept_terminate))

theorem kept_execCellTerminate (igNow : Ignores.now π) (igOd : Ignores.od π) (igControl : Ignores.control π) (igNvm :
  Ignores.nvm π) (igUpdate : Ignores.update π) (igHostPort : Ignores.hostPort π) (igLanes : Ignores.lanes π) (igQuartz
  : Ignores.quartz π) (igPorts : Ignores.ports π) (igCascade : Ignores.cascade π) (igIngress : Ignores.ingress π)
  (igSent : Ignores.sent π) (a0 : Fin 2) (a1 : RxCell) (s : State) (k : Keeps π s) :
    KeepsO π (execCellTerminate a0 a1 s) := by
  unfold execCellTerminate
  repeat' (first
    | with_reducible assumption
    | intro _
    | (with_reducible first
        | apply keeps_ite | apply keeps_ite_snd | apply keepsO_next | apply keepsO_ite | apply keepsO_dite
        | apply kept_arriveSender))

theorem kept_execTopoReportReceive (igNow : Ignores.now π) (igOd : Ignores.od π) (igControl : Ignores.control π)
  (igNvm : Ignores.nvm π) (igUpdate : Ignores.update π) (igHostPort : Ignores.hostPort π) (igLanes : Ignores.lanes π)
  (igQuartz : Ignores.quartz π) (igPorts : Ignores.ports π) (igCascade : Ignores.cascade π) (igIngress :
  Ignores.ingress π) (igSent : Ignores.sent π) (a0 : Fin 2) (a1 : RxCell) (s : State) (k : Keeps π s) :
    KeepsO π (execTopoReportReceive a0 a1 s) := by
  unfold execTopoReportReceive
  repeat' (first
    | with_reducible assumption
    | intro _
    | (with_reducible first
        | apply keeps_ite | apply keeps_ite_snd | apply keepsO_next | apply keepsO_ite | apply keepsO_dite
        | apply kept_arriveSender))

theorem kept_execMgmtEventReceive (igNow : Ignores.now π) (igOd : Ignores.od π) (igControl : Ignores.control π) (igNvm
  : Ignores.nvm π) (igUpdate : Ignores.update π) (igHostPort : Ignores.hostPort π) (igLanes : Ignores.lanes π)
  (igQuartz : Ignores.quartz π) (igPorts : Ignores.ports π) (igCascade : Ignores.cascade π) (igIngress :
  Ignores.ingress π) (igSent : Ignores.sent π) (a0 : Fin 2) (a1 : RxCell) (s : State) (k : Keeps π s) :
    KeepsO π (execMgmtEventReceive a0 a1 s) := by
  unfold execMgmtEventReceive
  repeat' (first
    | with_reducible assumption
    | intro _
    | (with_reducible first
        | apply keeps_ite | apply keeps_ite_snd | apply keepsO_next | apply keepsO_ite | apply keepsO_dite
        | apply kept_arriveSender))

theorem kept_execMgmtResponseReceive (igNow : Ignores.now π) (igOd : Ignores.od π) (igControl : Ignores.control π)
  (igNvm : Ignores.nvm π) (igUpdate : Ignores.update π) (igHostPort : Ignores.hostPort π) (igLanes : Ignores.lanes π)
  (igQuartz : Ignores.quartz π) (igPorts : Ignores.ports π) (igCascade : Ignores.cascade π) (igIngress :
  Ignores.ingress π) (igSent : Ignores.sent π) (a0 : Fin 2) (a1 : RxCell) (s : State) (k : Keeps π s) :
    KeepsO π (execMgmtResponseReceive a0 a1 s) := by
  unfold execMgmtResponseReceive
  repeat' (first
    | with_reducible assumption
    | intro _
    | (with_reducible first
        | apply keeps_ite | apply keeps_ite_snd | apply keepsO_next | apply keepsO_ite | apply keepsO_dite
        | apply kept_arriveSender))

theorem kept_execRelayUnitReceive (igOd : Ignores.od π) (igControl : Ignores.control π) (igNvm : Ignores.nvm π)
  (igUpdate : Ignores.update π) (igHostPort : Ignores.hostPort π) (igLanes : Ignores.lanes π) (igQuartz :
  Ignores.quartz π) (igPorts : Ignores.ports π) (igCascade : Ignores.cascade π) (igIngress : Ignores.ingress π)
  (igSent : Ignores.sent π) (a0 : Fin 2) (a1 : CascadeUnit) (s : State) (k : Keeps π s) :
    KeepsO π (execRelayUnitReceive a0 a1 s) := by
  unfold execRelayUnitReceive
  repeat' (first
    | with_reducible assumption
    | intro _
    | (with_reducible first
        | apply keeps_ite | apply keeps_ite_snd | apply keepsO_next | apply keepsO_ite | apply keepsO_dite
        | apply kept_takeUnit | apply kept_deliver | apply kept_raiseLimited | apply kept_bump | apply kept_release)
    | split)

theorem kept_takeStep (igOd : Ignores.od π) (igControl : Ignores.control π) (igNvm : Ignores.nvm π) (igQuartz :
  Ignores.quartz π) (igSent : Ignores.sent π) (s : State) (k : Keeps π s) :
    Keeps π (State.takeStep s) := by
  unfold State.takeStep
  repeat' (first
    | with_reducible assumption
    | intro _
    | (with_reducible first
        | apply keeps_ite | apply keeps_ite_snd | apply kept_steer | apply kept_withQuartz | apply kept_raiseIf)
    | split)

theorem kept_beginFrame (igNow : Ignores.now π) (igOd : Ignores.od π) (igControl : Ignores.control π) (igNvm :
  Ignores.nvm π) (igQuartz : Ignores.quartz π) (igSent : Ignores.sent π) (s : State) (k : Keeps π s) :
    Keeps π (State.beginFrame s) := by
  unfold State.beginFrame
  repeat' (first
    | with_reducible assumption
    | intro _
    | (with_reducible first
        | apply keeps_ite | apply keeps_ite_snd | apply kept_withQuartz | apply kept_untilWall
        | apply kept_applyChange | apply kept_takeStep)
    | split)

theorem kept_takeBaseDelays (igOd : Ignores.od π) (igControl : Ignores.control π) (igNvm : Ignores.nvm π) (igQuartz :
  Ignores.quartz π) (igSent : Ignores.sent π) (s : State) (a1 : Nat) (k : Keeps π s) :
    Keeps π (State.takeBaseDelays s a1) := by
  unfold State.takeBaseDelays
  repeat' (first
    | with_reducible assumption
    | intro _
    | (with_reducible first
        | apply keeps_ite | apply keeps_ite_snd | apply kept_withQuartz | apply kept_wrN | apply kept_raiseIf)
    | split)

theorem kept_newRates (igOd : Ignores.od π) (s : State) (a1 : Option Gen) (a2 : Gen) (k : Keeps π s) :
    Keeps π (State.newRates s a1 a2) := by
  unfold State.newRates
  repeat' (first
    | with_reducible assumption
    | intro _
    | (with_reducible first
        | apply keeps_ite | apply keeps_ite_snd | apply keeps_foldl | apply kept_wrN)
    | split)

theorem kept_takeGen (igOd : Ignores.od π) (igControl : Ignores.control π) (igNvm : Ignores.nvm π) (igHostPort :
  Ignores.hostPort π) (igTile : Ignores.tile π) (igVideo : Ignores.video π) (igLamps : Ignores.lamps π) (igSent :
  Ignores.sent π) (s : State) (a1 : Option Gen) (a2 : Nat) (k : Keeps π s) :
    Keeps π (State.takeGen s a1 a2) := by
  unfold State.takeGen
  repeat' (first
    | with_reducible assumption
    | intro _
    | (with_reducible first
        | apply keeps_ite | apply keeps_ite_snd | apply kept_switchPorts | apply kept_newRates | apply kept_withTile
        | apply kept_withCompose)
    | split)

theorem kept_tileFrame (igOd : Ignores.od π) (igControl : Ignores.control π) (igNvm : Ignores.nvm π) (igBeat :
  Ignores.beat π) (igHostPort : Ignores.hostPort π) (igQuartz : Ignores.quartz π) (igTile : Ignores.tile π) (igVideo :
  Ignores.video π) (igLamps : Ignores.lamps π) (igSent : Ignores.sent π) (s : State) (a1 : Option Gen) (a2 : List (Nat
  × Nat)) (k : Keeps π s) :
    Keeps π (State.tileFrame s a1 a2) := by
  unfold State.tileFrame
  repeat' (first
    | with_reducible assumption
    | intro _
    | (with_reducible first
        | apply keeps_ite | apply keeps_ite_snd | apply keeps_foldl | apply kept_damageEngines | apply kept_takeGen
        | apply kept_takeBaseDelays | apply kept_openFill | apply kept_frustumAt | apply kept_beatCheck
        | apply kept_deriveShapes | apply kept_engineBoundary | apply kept_chooseProbes)
    | split)

theorem kept_senderFrame (igOd : Ignores.od π) (igControl : Ignores.control π) (igNvm : Ignores.nvm π) (igLanes :
  Ignores.lanes π) (igQuartz : Ignores.quartz π) (igPorts : Ignores.ports π) (igCascade : Ignores.cascade π)
  (igIngress : Ignores.ingress π) (igVideo : Ignores.video π) (igSent : Ignores.sent π) (s : State) (a1 : List (Nat ×
  Nat)) (k : Keeps π s) :
    Keeps π (State.senderFrame s a1) := by
  unfold State.senderFrame
  repeat' (first
    | with_reducible assumption
    | intro _
    | (with_reducible first
        | apply keeps_ite | apply keeps_ite_snd | apply kept_becomeMaster | apply kept_withCascade
        | apply kept_lampsAgain | apply kept_judgeStandby | apply kept_activateMap | apply kept_takeTrims
        | apply kept_sliceFrame | apply kept_recommit | apply kept_commitInForce | apply kept_sendPresence
        | apply kept_derateFrame)
    | split)

theorem kept_execFrameBoundary (igNow : Ignores.now π) (igOd : Ignores.od π) (igControl : Ignores.control π) (igNvm :
  Ignores.nvm π) (igBeat : Ignores.beat π) (igHostPort : Ignores.hostPort π) (igLanes : Ignores.lanes π) (igQuartz :
  Ignores.quartz π) (igTile : Ignores.tile π) (igPorts : Ignores.ports π) (igCascade : Ignores.cascade π) (igIngress :
  Ignores.ingress π) (igVideo : Ignores.video π) (igLamps : Ignores.lamps π) (igSent : Ignores.sent π) (a0 : List (Nat
  × Nat)) (s : State) (k : Keeps π s) :
    KeepsO π (execFrameBoundary a0 s) := by
  unfold execFrameBoundary
  repeat' (first
    | with_reducible assumption
    | intro _
    | (with_reducible first
        | apply keeps_ite | apply keeps_ite_snd | apply keepsO_next | apply keepsO_ite | apply keepsO_dite
        | apply kept_beginFrame | apply kept_tileFrame | apply kept_senderFrame))

theorem kept_execActivateFrameWrite (igLife : Ignores.life π) (igOd : Ignores.od π) (igControl : Ignores.control π)
  (igClocks : Ignores.clocks π) (igThermal : Ignores.thermal π) (igOtp : Ignores.otp π) (igNvm : Ignores.nvm π)
  (igUpdate : Ignores.update π) (igBeat : Ignores.beat π) (igTap : Ignores.tap π) (igHostPort : Ignores.hostPort π)
  (igLanes : Ignores.lanes π) (igQuartz : Ignores.quartz π) (igTile : Ignores.tile π) (igPorts : Ignores.ports π)
  (igCascade : Ignores.cascade π) (igIngress : Ignores.ingress π) (igVideo : Ignores.video π) (igLamps : Ignores.lamps
  π) (igSent : Ignores.sent π) (igFreeCount : Ignores.freeCount π) (a0 : CtxId) (a1 : BitVec 64) (s : State) (k :
  Keeps π s) :
    KeepsO π (execActivateFrameWrite a0 a1 s) := by
  unfold execActivateFrameWrite
  exact keepsO_next (kept_numWrite igLife igOd igControl igClocks igThermal igOtp igNvm igUpdate igBeat igTap igHostPort igLanes igQuartz igTile igPorts igCascade igIngress igVideo igLamps igSent igFreeCount s _ _ _ _ k)

theorem kept_execChainCounterClear (igLife : Ignores.life π) (igOd : Ignores.od π) (igControl : Ignores.control π)
  (igClocks : Ignores.clocks π) (igThermal : Ignores.thermal π) (igOtp : Ignores.otp π) (igNvm : Ignores.nvm π)
  (igUpdate : Ignores.update π) (igBeat : Ignores.beat π) (igTap : Ignores.tap π) (igHostPort : Ignores.hostPort π)
  (igLanes : Ignores.lanes π) (igQuartz : Ignores.quartz π) (igTile : Ignores.tile π) (igPorts : Ignores.ports π)
  (igCascade : Ignores.cascade π) (igIngress : Ignores.ingress π) (igVideo : Ignores.video π) (igLamps : Ignores.lamps
  π) (igSent : Ignores.sent π) (igFreeCount : Ignores.freeCount π) (a0 : CtxId) (a1 : BitVec 8) (s : State) (k : Keeps
  π s) :
    KeepsO π (execChainCounterClear a0 a1 s) := by
  unfold execChainCounterClear
  exact keepsO_next (kept_numWrite igLife igOd igControl igClocks igThermal igOtp igNvm igUpdate igBeat igTap igHostPort igLanes igQuartz igTile igPorts igCascade igIngress igVideo igLamps igSent igFreeCount s _ _ _ _ k)

theorem kept_execCommitFrame (igLife : Ignores.life π) (igOd : Ignores.od π) (igControl : Ignores.control π) (igClocks
  : Ignores.clocks π) (igThermal : Ignores.thermal π) (igOtp : Ignores.otp π) (igNvm : Ignores.nvm π) (igUpdate :
  Ignores.update π) (igBeat : Ignores.beat π) (igTap : Ignores.tap π) (igHostPort : Ignores.hostPort π) (igLanes :
  Ignores.lanes π) (igQuartz : Ignores.quartz π) (igTile : Ignores.tile π) (igPorts : Ignores.ports π) (igCascade :
  Ignores.cascade π) (igIngress : Ignores.ingress π) (igVideo : Ignores.video π) (igLamps : Ignores.lamps π) (igSent :
  Ignores.sent π) (igFreeCount : Ignores.freeCount π) (a0 : CtxId) (a1 : BitVec 64) (s : State) (k : Keeps π s) :
    KeepsO π (execCommitFrame a0 a1 s) := by
  unfold execCommitFrame
  exact keepsO_next (kept_numWrite igLife igOd igControl igClocks igThermal igOtp igNvm igUpdate igBeat igTap igHostPort igLanes igQuartz igTile igPorts igCascade igIngress igVideo igLamps igSent igFreeCount s _ _ _ _ k)

theorem kept_execPortcConfigWrite (igLife : Ignores.life π) (igOd : Ignores.od π) (igControl : Ignores.control π)
  (igClocks : Ignores.clocks π) (igThermal : Ignores.thermal π) (igOtp : Ignores.otp π) (igNvm : Ignores.nvm π)
  (igUpdate : Ignores.update π) (igBeat : Ignores.beat π) (igTap : Ignores.tap π) (igHostPort : Ignores.hostPort π)
  (igLanes : Ignores.lanes π) (igQuartz : Ignores.quartz π) (igTile : Ignores.tile π) (igPorts : Ignores.ports π)
  (igCascade : Ignores.cascade π) (igIngress : Ignores.ingress π) (igVideo : Ignores.video π) (igLamps : Ignores.lamps
  π) (igSent : Ignores.sent π) (igFreeCount : Ignores.freeCount π) (a0 : CtxId) (a1 : BitVec 8) (s : State) (k : Keeps
  π s) :
    KeepsO π (execPortcConfigWrite a0 a1 s) := by
  unfold execPortcConfigWrite
  exact keepsO_next (kept_numWrite igLife igOd igControl igClocks igThermal igOtp igNvm igUpdate igBeat igTap igHostPort igLanes igQuartz igTile igPorts igCascade igIngress igVideo igLamps igSent igFreeCount s _ _ _ _ k)

theorem kept_execSettingsRestore (igLife : Ignores.life π) (igOd : Ignores.od π) (igControl : Ignores.control π)
  (igClocks : Ignores.clocks π) (igThermal : Ignores.thermal π) (igOtp : Ignores.otp π) (igNvm : Ignores.nvm π)
  (igUpdate : Ignores.update π) (igBeat : Ignores.beat π) (igTap : Ignores.tap π) (igHostPort : Ignores.hostPort π)
  (igLanes : Ignores.lanes π) (igQuartz : Ignores.quartz π) (igTile : Ignores.tile π) (igPorts : Ignores.ports π)
  (igCascade : Ignores.cascade π) (igIngress : Ignores.ingress π) (igVideo : Ignores.video π) (igLamps : Ignores.lamps
  π) (igSent : Ignores.sent π) (igFreeCount : Ignores.freeCount π) (a0 : CtxId) (a1 : Fin 4) (s : State) (k : Keeps π
  s) :
    KeepsO π (execSettingsRestore a0 a1 s) := by
  unfold execSettingsRestore
  exact keepsO_next (kept_numWrite igLife igOd igControl igClocks igThermal igOtp igNvm igUpdate igBeat igTap igHostPort igLanes igQuartz igTile igPorts igCascade igIngress igVideo igLamps igSent igFreeCount s _ _ _ _ k)

theorem kept_execRecompute (igLife : Ignores.life π) (igOd : Ignores.od π) (igControl : Ignores.control π) (igClocks :
  Ignores.clocks π) (igThermal : Ignores.thermal π) (igOtp : Ignores.otp π) (igNvm : Ignores.nvm π) (igUpdate :
  Ignores.update π) (igBeat : Ignores.beat π) (igTap : Ignores.tap π) (igHostPort : Ignores.hostPort π) (igLanes :
  Ignores.lanes π) (igQuartz : Ignores.quartz π) (igTile : Ignores.tile π) (igPorts : Ignores.ports π) (igCascade :
  Ignores.cascade π) (igIngress : Ignores.ingress π) (igVideo : Ignores.video π) (igLamps : Ignores.lamps π) (igSent :
  Ignores.sent π) (igFreeCount : Ignores.freeCount π) (a0 : CtxId) (a1 : BitVec 8) (s : State) (k : Keeps π s) :
    KeepsO π (execRecompute a0 a1 s) := by
  unfold execRecompute
  exact keepsO_next (kept_numWrite igLife igOd igControl igClocks igThermal igOtp igNvm igUpdate igBeat igTap igHostPort igLanes igQuartz igTile igPorts igCascade igIngress igVideo igLamps igSent igFreeCount s _ _ _ _ k)

theorem kept_execLogin (igLife : Ignores.life π) (igOd : Ignores.od π) (igControl : Ignores.control π) (igClocks :
  Ignores.clocks π) (igThermal : Ignores.thermal π) (igOtp : Ignores.otp π) (igNvm : Ignores.nvm π) (igUpdate :
  Ignores.update π) (igBeat : Ignores.beat π) (igTap : Ignores.tap π) (igHostPort : Ignores.hostPort π) (igLanes :
  Ignores.lanes π) (igQuartz : Ignores.quartz π) (igTile : Ignores.tile π) (igPorts : Ignores.ports π) (igCascade :
  Ignores.cascade π) (igIngress : Ignores.ingress π) (igVideo : Ignores.video π) (igLamps : Ignores.lamps π) (igSent :
  Ignores.sent π) (igFreeCount : Ignores.freeCount π) (a0 : CtxId) (a1 : List Byte) (s : State) (k : Keeps π s) :
    KeepsO π (execLogin a0 a1 s) := by
  unfold execLogin
  repeat' (first
    | with_reducible assumption
    | intro _
    | (with_reducible first
        | apply keeps_ite | apply keeps_ite_snd | apply keepsO_next | apply keepsO_ite | apply keepsO_dite
        | apply kept_objectWrite))

theorem kept_execRepeatOnlyWrite (igLife : Ignores.life π) (igOd : Ignores.od π) (igControl : Ignores.control π)
  (igClocks : Ignores.clocks π) (igThermal : Ignores.thermal π) (igOtp : Ignores.otp π) (igNvm : Ignores.nvm π)
  (igUpdate : Ignores.update π) (igBeat : Ignores.beat π) (igTap : Ignores.tap π) (igHostPort : Ignores.hostPort π)
  (igLanes : Ignores.lanes π) (igQuartz : Ignores.quartz π) (igTile : Ignores.tile π) (igPorts : Ignores.ports π)
  (igCascade : Ignores.cascade π) (igIngress : Ignores.ingress π) (igVideo : Ignores.video π) (igLamps : Ignores.lamps
  π) (igSent : Ignores.sent π) (igFreeCount : Ignores.freeCount π) (a0 : CtxId) (a1 : BitVec 8) (s : State) (k : Keeps
  π s) :
    KeepsO π (execRepeatOnlyWrite a0 a1 s) := by
  unfold execRepeatOnlyWrite
  exact keepsO_next (kept_numWrite igLife igOd igControl igClocks igThermal igOtp igNvm igUpdate igBeat igTap igHostPort igLanes igQuartz igTile igPorts igCascade igIngress igVideo igLamps igSent igFreeCount s _ _ _ _ k)

theorem kept_execCalStart (igLife : Ignores.life π) (igOd : Ignores.od π) (igControl : Ignores.control π) (igClocks :
  Ignores.clocks π) (igThermal : Ignores.thermal π) (igOtp : Ignores.otp π) (igNvm : Ignores.nvm π) (igUpdate :
  Ignores.update π) (igBeat : Ignores.beat π) (igTap : Ignores.tap π) (igHostPort : Ignores.hostPort π) (igLanes :
  Ignores.lanes π) (igQuartz : Ignores.quartz π) (igTile : Ignores.tile π) (igPorts : Ignores.ports π) (igCascade :
  Ignores.cascade π) (igIngress : Ignores.ingress π) (igVideo : Ignores.video π) (igLamps : Ignores.lamps π) (igSent :
  Ignores.sent π) (igFreeCount : Ignores.freeCount π) (a0 : CtxId) (a1 : BitVec 8) (s : State) (k : Keeps π s) :
    KeepsO π (execCalStart a0 a1 s) := by
  unfold execCalStart
  exact keepsO_next (kept_numWrite igLife igOd igControl igClocks igThermal igOtp igNvm igUpdate igBeat igTap igHostPort igLanes igQuartz igTile igPorts igCascade igIngress igVideo igLamps igSent igFreeCount s _ _ _ _ k)

theorem kept_execClocksCounterClear (igLife : Ignores.life π) (igOd : Ignores.od π) (igControl : Ignores.control π)
  (igClocks : Ignores.clocks π) (igThermal : Ignores.thermal π) (igOtp : Ignores.otp π) (igNvm : Ignores.nvm π)
  (igUpdate : Ignores.update π) (igBeat : Ignores.beat π) (igTap : Ignores.tap π) (igHostPort : Ignores.hostPort π)
  (igLanes : Ignores.lanes π) (igQuartz : Ignores.quartz π) (igTile : Ignores.tile π) (igPorts : Ignores.ports π)
  (igCascade : Ignores.cascade π) (igIngress : Ignores.ingress π) (igVideo : Ignores.video π) (igLamps : Ignores.lamps
  π) (igSent : Ignores.sent π) (igFreeCount : Ignores.freeCount π) (a0 : CtxId) (a1 : BitVec 8) (s : State) (k : Keeps
  π s) :
    KeepsO π (execClocksCounterClear a0 a1 s) := by
  unfold execClocksCounterClear
  exact keepsO_next (kept_numWrite igLife igOd igControl igClocks igThermal igOtp igNvm igUpdate igBeat igTap igHostPort igLanes igQuartz igTile igPorts igCascade igIngress igVideo igLamps igSent igFreeCount s _ _ _ _ k)

theorem kept_execFrustumWrite (igLife : Ignores.life π) (igOd : Ignores.od π) (igControl : Ignores.control π)
  (igClocks : Ignores.clocks π) (igThermal : Ignores.thermal π) (igOtp : Ignores.otp π) (igNvm : Ignores.nvm π)
  (igUpdate : Ignores.update π) (igBeat : Ignores.beat π) (igTap : Ignores.tap π) (igHostPort : Ignores.hostPort π)
  (igLanes : Ignores.lanes π) (igQuartz : Ignores.quartz π) (igTile : Ignores.tile π) (igPorts : Ignores.ports π)
  (igCascade : Ignores.cascade π) (igIngress : Ignores.ingress π) (igVideo : Ignores.video π) (igLamps : Ignores.lamps
  π) (igSent : Ignores.sent π) (igFreeCount : Ignores.freeCount π) (a0 : CtxId) (a1 : List Byte) (s : State) (k :
  Keeps π s) :
    KeepsO π (execFrustumWrite a0 a1 s) := by
  unfold execFrustumWrite
  repeat' (first
    | with_reducible assumption
    | intro _
    | (with_reducible first
        | apply keeps_ite | apply keeps_ite_snd | apply keepsO_next | apply keepsO_ite | apply keepsO_dite
        | apply kept_objectWrite))

theorem kept_execLaneCounterClear (igLife : Ignores.life π) (igOd : Ignores.od π) (igControl : Ignores.control π)
  (igClocks : Ignores.clocks π) (igThermal : Ignores.thermal π) (igOtp : Ignores.otp π) (igNvm : Ignores.nvm π)
  (igUpdate : Ignores.update π) (igBeat : Ignores.beat π) (igTap : Ignores.tap π) (igHostPort : Ignores.hostPort π)
  (igLanes : Ignores.lanes π) (igQuartz : Ignores.quartz π) (igTile : Ignores.tile π) (igPorts : Ignores.ports π)
  (igCascade : Ignores.cascade π) (igIngress : Ignores.ingress π) (igVideo : Ignores.video π) (igLamps : Ignores.lamps
  π) (igSent : Ignores.sent π) (igFreeCount : Ignores.freeCount π) (a0 : CtxId) (a1 : Fin 24) (a2 : BitVec 8) (s :
  State) (k : Keeps π s) :
    KeepsO π (execLaneCounterClear a0 a1 a2 s) := by
  unfold execLaneCounterClear
  exact keepsO_next (kept_numWrite igLife igOd igControl igClocks igThermal igOtp igNvm igUpdate igBeat igTap igHostPort igLanes igQuartz igTile igPorts igCascade igIngress igVideo igLamps igSent igFreeCount s _ _ _ _ k)

theorem kept_execSweepStart (igLife : Ignores.life π) (igOd : Ignores.od π) (igControl : Ignores.control π) (igClocks
  : Ignores.clocks π) (igThermal : Ignores.thermal π) (igOtp : Ignores.otp π) (igNvm : Ignores.nvm π) (igUpdate :
  Ignores.update π) (igBeat : Ignores.beat π) (igTap : Ignores.tap π) (igHostPort : Ignores.hostPort π) (igLanes :
  Ignores.lanes π) (igQuartz : Ignores.quartz π) (igTile : Ignores.tile π) (igPorts : Ignores.ports π) (igCascade :
  Ignores.cascade π) (igIngress : Ignores.ingress π) (igVideo : Ignores.video π) (igLamps : Ignores.lamps π) (igSent :
  Ignores.sent π) (igFreeCount : Ignores.freeCount π) (a0 : CtxId) (a1 : BitVec 8) (s : State) (k : Keeps π s) :
    KeepsO π (execSweepStart a0 a1 s) := by
  unfold execSweepStart
  exact keepsO_next (kept_numWrite igLife igOd igControl igClocks igThermal igOtp igNvm igUpdate igBeat igTap igHostPort igLanes igQuartz igTile igPorts igCascade igIngress igVideo igLamps igSent igFreeCount s _ _ _ _ k)

theorem kept_execWuAbort (igLife : Ignores.life π) (igOd : Ignores.od π) (igControl : Ignores.control π) (igClocks :
  Ignores.clocks π) (igThermal : Ignores.thermal π) (igOtp : Ignores.otp π) (igNvm : Ignores.nvm π) (igUpdate :
  Ignores.update π) (igBeat : Ignores.beat π) (igTap : Ignores.tap π) (igHostPort : Ignores.hostPort π) (igLanes :
  Ignores.lanes π) (igQuartz : Ignores.quartz π) (igTile : Ignores.tile π) (igPorts : Ignores.ports π) (igCascade :
  Ignores.cascade π) (igIngress : Ignores.ingress π) (igVideo : Ignores.video π) (igLamps : Ignores.lamps π) (igSent :
  Ignores.sent π) (igFreeCount : Ignores.freeCount π) (a0 : CtxId) (s : State) (k : Keeps π s) :
    KeepsO π (execWuAbort a0 s) := by
  unfold execWuAbort
  exact keepsO_next (kept_numWrite igLife igOd igControl igClocks igThermal igOtp igNvm igUpdate igBeat igTap igHostPort igLanes igQuartz igTile igPorts igCascade igIngress igVideo igLamps igSent igFreeCount s _ _ _ _ k)

theorem kept_execDiscover (igLife : Ignores.life π) (igOd : Ignores.od π) (igControl : Ignores.control π) (igClocks :
  Ignores.clocks π) (igThermal : Ignores.thermal π) (igOtp : Ignores.otp π) (igNvm : Ignores.nvm π) (igUpdate :
  Ignores.update π) (igBeat : Ignores.beat π) (igTap : Ignores.tap π) (igHostPort : Ignores.hostPort π) (igLanes :
  Ignores.lanes π) (igQuartz : Ignores.quartz π) (igTile : Ignores.tile π) (igPorts : Ignores.ports π) (igCascade :
  Ignores.cascade π) (igIngress : Ignores.ingress π) (igVideo : Ignores.video π) (igLamps : Ignores.lamps π) (igSent :
  Ignores.sent π) (igFreeCount : Ignores.freeCount π) (a0 : CtxId) (a1 : Fin 2) (a2 : BitVec 8) (s : State) (k : Keeps
  π s) :
    KeepsO π (execDiscover a0 a1 a2 s) := by
  unfold execDiscover
  exact keepsO_next (kept_numWrite igLife igOd igControl igClocks igThermal igOtp igNvm igUpdate igBeat igTap igHostPort igLanes igQuartz igTile igPorts igCascade igIngress igVideo igLamps igSent igFreeCount s _ _ _ _ k)

theorem kept_execCeilLock (igLife : Ignores.life π) (igOd : Ignores.od π) (igControl : Ignores.control π) (igClocks :
  Ignores.clocks π) (igThermal : Ignores.thermal π) (igOtp : Ignores.otp π) (igNvm : Ignores.nvm π) (igUpdate :
  Ignores.update π) (igBeat : Ignores.beat π) (igTap : Ignores.tap π) (igHostPort : Ignores.hostPort π) (igLanes :
  Ignores.lanes π) (igQuartz : Ignores.quartz π) (igTile : Ignores.tile π) (igPorts : Ignores.ports π) (igCascade :
  Ignores.cascade π) (igIngress : Ignores.ingress π) (igVideo : Ignores.video π) (igLamps : Ignores.lamps π) (igSent :
  Ignores.sent π) (igFreeCount : Ignores.freeCount π) (a0 : CtxId) (a1 : BitVec 8) (s : State) (k : Keeps π s) :
    KeepsO π (execCeilLock a0 a1 s) := by
  unfold execCeilLock
  exact keepsO_next (kept_numWrite igLife igOd igControl igClocks igThermal igOtp igNvm igUpdate igBeat igTap igHostPort igLanes igQuartz igTile igPorts igCascade igIngress igVideo igLamps igSent igFreeCount s _ _ _ _ k)

theorem kept_execErrorHistoryClear (igLife : Ignores.life π) (igOd : Ignores.od π) (igControl : Ignores.control π)
  (igClocks : Ignores.clocks π) (igThermal : Ignores.thermal π) (igOtp : Ignores.otp π) (igNvm : Ignores.nvm π)
  (igUpdate : Ignores.update π) (igBeat : Ignores.beat π) (igTap : Ignores.tap π) (igHostPort : Ignores.hostPort π)
  (igLanes : Ignores.lanes π) (igQuartz : Ignores.quartz π) (igTile : Ignores.tile π) (igPorts : Ignores.ports π)
  (igCascade : Ignores.cascade π) (igIngress : Ignores.ingress π) (igVideo : Ignores.video π) (igLamps : Ignores.lamps
  π) (igSent : Ignores.sent π) (igFreeCount : Ignores.freeCount π) (a0 : CtxId) (s : State) (k : Keeps π s) :
    KeepsO π (execErrorHistoryClear a0 s) := by
  unfold execErrorHistoryClear
  exact keepsO_next (kept_numWrite igLife igOd igControl igClocks igThermal igOtp igNvm igUpdate igBeat igTap igHostPort igLanes igQuartz igTile igPorts igCascade igIngress igVideo igLamps igSent igFreeCount s _ _ _ _ k)

theorem kept_execEnumStart (igLife : Ignores.life π) (igOd : Ignores.od π) (igControl : Ignores.control π) (igClocks :
  Ignores.clocks π) (igThermal : Ignores.thermal π) (igOtp : Ignores.otp π) (igNvm : Ignores.nvm π) (igUpdate :
  Ignores.update π) (igBeat : Ignores.beat π) (igTap : Ignores.tap π) (igHostPort : Ignores.hostPort π) (igLanes :
  Ignores.lanes π) (igQuartz : Ignores.quartz π) (igTile : Ignores.tile π) (igPorts : Ignores.ports π) (igCascade :
  Ignores.cascade π) (igIngress : Ignores.ingress π) (igVideo : Ignores.video π) (igLamps : Ignores.lamps π) (igSent :
  Ignores.sent π) (igFreeCount : Ignores.freeCount π) (a0 : CtxId) (a1 : Fin 64) (a2 : BitVec 8) (s : State) (k :
  Keeps π s) :
    KeepsO π (execEnumStart a0 a1 a2 s) := by
  unfold execEnumStart
  exact keepsO_next (kept_numWrite igLife igOd igControl igClocks igThermal igOtp igNvm igUpdate igBeat igTap igHostPort igLanes igQuartz igTile igPorts igCascade igIngress igVideo igLamps igSent igFreeCount s _ _ _ _ k)

theorem kept_execInjStart (igLife : Ignores.life π) (igOd : Ignores.od π) (igControl : Ignores.control π) (igClocks :
  Ignores.clocks π) (igThermal : Ignores.thermal π) (igOtp : Ignores.otp π) (igNvm : Ignores.nvm π) (igUpdate :
  Ignores.update π) (igBeat : Ignores.beat π) (igTap : Ignores.tap π) (igHostPort : Ignores.hostPort π) (igLanes :
  Ignores.lanes π) (igQuartz : Ignores.quartz π) (igTile : Ignores.tile π) (igPorts : Ignores.ports π) (igCascade :
  Ignores.cascade π) (igIngress : Ignores.ingress π) (igVideo : Ignores.video π) (igLamps : Ignores.lamps π) (igSent :
  Ignores.sent π) (igFreeCount : Ignores.freeCount π) (a0 : CtxId) (a1 : Fin 24) (s : State) (k : Keeps π s) :
    KeepsO π (execInjStart a0 a1 s) := by
  unfold execInjStart
  exact keepsO_next (kept_numWrite igLife igOd igControl igClocks igThermal igOtp igNvm igUpdate igBeat igTap igHostPort igLanes igQuartz igTile igPorts igCascade igIngress igVideo igLamps igSent igFreeCount s _ _ _ _ k)

theorem kept_execLoopbackWrite (igLife : Ignores.life π) (igOd : Ignores.od π) (igControl : Ignores.control π)
  (igClocks : Ignores.clocks π) (igThermal : Ignores.thermal π) (igOtp : Ignores.otp π) (igNvm : Ignores.nvm π)
  (igUpdate : Ignores.update π) (igBeat : Ignores.beat π) (igTap : Ignores.tap π) (igHostPort : Ignores.hostPort π)
  (igLanes : Ignores.lanes π) (igQuartz : Ignores.quartz π) (igTile : Ignores.tile π) (igPorts : Ignores.ports π)
  (igCascade : Ignores.cascade π) (igIngress : Ignores.ingress π) (igVideo : Ignores.video π) (igLamps : Ignores.lamps
  π) (igSent : Ignores.sent π) (igFreeCount : Ignores.freeCount π) (a0 : CtxId) (a1 : Fin 3) (a2 : BitVec 8) (s :
  State) (k : Keeps π s) :
    KeepsO π (execLoopbackWrite a0 a1 a2 s) := by
  unfold execLoopbackWrite
  exact keepsO_next (kept_numWrite igLife igOd igControl igClocks igThermal igOtp igNvm igUpdate igBeat igTap igHostPort igLanes igQuartz igTile igPorts igCascade igIngress igVideo igLamps igSent igFreeCount s _ _ _ _ k)

theorem kept_execApplyFrame (igLife : Ignores.life π) (igOd : Ignores.od π) (igControl : Ignores.control π) (igClocks
  : Ignores.clocks π) (igThermal : Ignores.thermal π) (igOtp : Ignores.otp π) (igNvm : Ignores.nvm π) (igUpdate :
  Ignores.update π) (igBeat : Ignores.beat π) (igTap : Ignores.tap π) (igHostPort : Ignores.hostPort π) (igLanes :
  Ignores.lanes π) (igQuartz : Ignores.quartz π) (igTile : Ignores.tile π) (igPorts : Ignores.ports π) (igCascade :
  Ignores.cascade π) (igIngress : Ignores.ingress π) (igVideo : Ignores.video π) (igLamps : Ignores.lamps π) (igSent :
  Ignores.sent π) (igFreeCount : Ignores.freeCount π) (a0 : CtxId) (a1 : BitVec 64) (s : State) (k : Keeps π s) :
    KeepsO π (execApplyFrame a0 a1 s) := by
  unfold execApplyFrame
  exact keepsO_next (kept_numWrite igLife igOd igControl igClocks igThermal igOtp igNvm igUpdate igBeat igTap igHostPort igLanes igQuartz igTile igPorts igCascade igIngress igVideo igLamps igSent igFreeCount s _ _ _ _ k)

theorem kept_execFinalizeNow (igLife : Ignores.life π) (igOd : Ignores.od π) (igControl : Ignores.control π) (igClocks
  : Ignores.clocks π) (igThermal : Ignores.thermal π) (igOtp : Ignores.otp π) (igNvm : Ignores.nvm π) (igUpdate :
  Ignores.update π) (igBeat : Ignores.beat π) (igTap : Ignores.tap π) (igHostPort : Ignores.hostPort π) (igLanes :
  Ignores.lanes π) (igQuartz : Ignores.quartz π) (igTile : Ignores.tile π) (igPorts : Ignores.ports π) (igCascade :
  Ignores.cascade π) (igIngress : Ignores.ingress π) (igVideo : Ignores.video π) (igLamps : Ignores.lamps π) (igSent :
  Ignores.sent π) (igFreeCount : Ignores.freeCount π) (a0 : CtxId) (a1 : BitVec 8) (s : State) (k : Keeps π s) :
    KeepsO π (execFinalizeNow a0 a1 s) := by
  unfold execFinalizeNow
  exact keepsO_next (kept_numWrite igLife igOd igControl igClocks igThermal igOtp igNvm igUpdate igBeat igTap igHostPort igLanes igQuartz igTile igPorts igCascade igIngress igVideo igLamps igSent igFreeCount s _ _ _ _ k)

theorem kept_execCoeffSetWrite (igLife : Ignores.life π) (igOd : Ignores.od π) (igControl : Ignores.control π)
  (igClocks : Ignores.clocks π) (igThermal : Ignores.thermal π) (igOtp : Ignores.otp π) (igNvm : Ignores.nvm π)
  (igUpdate : Ignores.update π) (igBeat : Ignores.beat π) (igTap : Ignores.tap π) (igHostPort : Ignores.hostPort π)
  (igLanes : Ignores.lanes π) (igQuartz : Ignores.quartz π) (igTile : Ignores.tile π) (igPorts : Ignores.ports π)
  (igCascade : Ignores.cascade π) (igIngress : Ignores.ingress π) (igVideo : Ignores.video π) (igLamps : Ignores.lamps
  π) (igSent : Ignores.sent π) (igFreeCount : Ignores.freeCount π) (a0 : CtxId) (a1 : Fin 16) (a2 : List Byte) (s :
  State) (k : Keeps π s) :
    KeepsO π (execCoeffSetWrite a0 a1 a2 s) := by
  unfold execCoeffSetWrite
  repeat' (first
    | with_reducible assumption
    | intro _
    | (with_reducible first
        | apply keeps_ite | apply keeps_ite_snd | apply keepsO_next | apply keepsO_ite | apply keepsO_dite
        | apply kept_objectWrite))

theorem kept_execFactoryReset (igLife : Ignores.life π) (igOd : Ignores.od π) (igControl : Ignores.control π)
  (igClocks : Ignores.clocks π) (igThermal : Ignores.thermal π) (igOtp : Ignores.otp π) (igNvm : Ignores.nvm π)
  (igUpdate : Ignores.update π) (igBeat : Ignores.beat π) (igTap : Ignores.tap π) (igHostPort : Ignores.hostPort π)
  (igLanes : Ignores.lanes π) (igQuartz : Ignores.quartz π) (igTile : Ignores.tile π) (igPorts : Ignores.ports π)
  (igCascade : Ignores.cascade π) (igIngress : Ignores.ingress π) (igVideo : Ignores.video π) (igLamps : Ignores.lamps
  π) (igSent : Ignores.sent π) (igFreeCount : Ignores.freeCount π) (a0 : CtxId) (s : State) (k : Keeps π s) :
    KeepsO π (execFactoryReset a0 s) := by
  unfold execFactoryReset
  exact keepsO_next (kept_numWrite igLife igOd igControl igClocks igThermal igOtp igNvm igUpdate igBeat igTap igHostPort igLanes igQuartz igTile igPorts igCascade igIngress igVideo igLamps igSent igFreeCount s _ _ _ _ k)

theorem kept_execTileEventsClear (igLife : Ignores.life π) (igOd : Ignores.od π) (igControl : Ignores.control π)
  (igClocks : Ignores.clocks π) (igThermal : Ignores.thermal π) (igOtp : Ignores.otp π) (igNvm : Ignores.nvm π)
  (igUpdate : Ignores.update π) (igBeat : Ignores.beat π) (igTap : Ignores.tap π) (igHostPort : Ignores.hostPort π)
  (igLanes : Ignores.lanes π) (igQuartz : Ignores.quartz π) (igTile : Ignores.tile π) (igPorts : Ignores.ports π)
  (igCascade : Ignores.cascade π) (igIngress : Ignores.ingress π) (igVideo : Ignores.video π) (igLamps : Ignores.lamps
  π) (igSent : Ignores.sent π) (igFreeCount : Ignores.freeCount π) (a0 : CtxId) (a1 : BitVec 8) (s : State) (k : Keeps
  π s) :
    KeepsO π (execTileEventsClear a0 a1 s) := by
  unfold execTileEventsClear
  exact keepsO_next (kept_numWrite igLife igOd igControl igClocks igThermal igOtp igNvm igUpdate igBeat igTap igHostPort igLanes igQuartz igTile igPorts igCascade igIngress igVideo igLamps igSent igFreeCount s _ _ _ _ k)

theorem kept_execCeilProgram (igLife : Ignores.life π) (igOd : Ignores.od π) (igControl : Ignores.control π) (igClocks
  : Ignores.clocks π) (igThermal : Ignores.thermal π) (igOtp : Ignores.otp π) (igNvm : Ignores.nvm π) (igUpdate :
  Ignores.update π) (igBeat : Ignores.beat π) (igTap : Ignores.tap π) (igHostPort : Ignores.hostPort π) (igLanes :
  Ignores.lanes π) (igQuartz : Ignores.quartz π) (igTile : Ignores.tile π) (igPorts : Ignores.ports π) (igCascade :
  Ignores.cascade π) (igIngress : Ignores.ingress π) (igVideo : Ignores.video π) (igLamps : Ignores.lamps π) (igSent :
  Ignores.sent π) (igFreeCount : Ignores.freeCount π) (a0 : CtxId) (a1 : BitVec 64) (s : State) (k : Keeps π s) :
    KeepsO π (execCeilProgram a0 a1 s) := by
  unfold execCeilProgram
  exact keepsO_next (kept_numWrite igLife igOd igControl igClocks igThermal igOtp igNvm igUpdate igBeat igTap igHostPort igLanes igQuartz igTile igPorts igCascade igIngress igVideo igLamps igSent igFreeCount s _ _ _ _ k)

theorem kept_execStreamEnable (igLife : Ignores.life π) (igOd : Ignores.od π) (igControl : Ignores.control π)
  (igClocks : Ignores.clocks π) (igThermal : Ignores.thermal π) (igOtp : Ignores.otp π) (igNvm : Ignores.nvm π)
  (igUpdate : Ignores.update π) (igBeat : Ignores.beat π) (igTap : Ignores.tap π) (igHostPort : Ignores.hostPort π)
  (igLanes : Ignores.lanes π) (igQuartz : Ignores.quartz π) (igTile : Ignores.tile π) (igPorts : Ignores.ports π)
  (igCascade : Ignores.cascade π) (igIngress : Ignores.ingress π) (igVideo : Ignores.video π) (igLamps : Ignores.lamps
  π) (igSent : Ignores.sent π) (igFreeCount : Ignores.freeCount π) (a0 : CtxId) (a1 : Fin 32) (a2 : BitVec 8) (s :
  State) (k : Keeps π s) :
    KeepsO π (execStreamEnable a0 a1 a2 s) := by
  unfold execStreamEnable
  exact keepsO_next (kept_numWrite igLife igOd igControl igClocks igThermal igOtp igNvm igUpdate igBeat igTap igHostPort igLanes igQuartz igTile igPorts igCascade igIngress igVideo igLamps igSent igFreeCount s _ _ _ _ k)

theorem kept_execCommitAbortWrite (igLife : Ignores.life π) (igOd : Ignores.od π) (igControl : Ignores.control π)
  (igClocks : Ignores.clocks π) (igThermal : Ignores.thermal π) (igOtp : Ignores.otp π) (igNvm : Ignores.nvm π)
  (igUpdate : Ignores.update π) (igBeat : Ignores.beat π) (igTap : Ignores.tap π) (igHostPort : Ignores.hostPort π)
  (igLanes : Ignores.lanes π) (igQuartz : Ignores.quartz π) (igTile : Ignores.tile π) (igPorts : Ignores.ports π)
  (igCascade : Ignores.cascade π) (igIngress : Ignores.ingress π) (igVideo : Ignores.video π) (igLamps : Ignores.lamps
  π) (igSent : Ignores.sent π) (igFreeCount : Ignores.freeCount π) (a0 : CtxId) (a1 : BitVec 8) (s : State) (k : Keeps
  π s) :
    KeepsO π (execCommitAbortWrite a0 a1 s) := by
  unfold execCommitAbortWrite
  exact keepsO_next (kept_numWrite igLife igOd igControl igClocks igThermal igOtp igNvm igUpdate igBeat igTap igHostPort igLanes igQuartz igTile igPorts igCascade igIngress igVideo igLamps igSent igFreeCount s _ _ _ _ k)

theorem kept_execEngineCounterClear (igLife : Ignores.life π) (igOd : Ignores.od π) (igControl : Ignores.control π)
  (igClocks : Ignores.clocks π) (igThermal : Ignores.thermal π) (igOtp : Ignores.otp π) (igNvm : Ignores.nvm π)
  (igUpdate : Ignores.update π) (igBeat : Ignores.beat π) (igTap : Ignores.tap π) (igHostPort : Ignores.hostPort π)
  (igLanes : Ignores.lanes π) (igQuartz : Ignores.quartz π) (igTile : Ignores.tile π) (igPorts : Ignores.ports π)
  (igCascade : Ignores.cascade π) (igIngress : Ignores.ingress π) (igVideo : Ignores.video π) (igLamps : Ignores.lamps
  π) (igSent : Ignores.sent π) (igFreeCount : Ignores.freeCount π) (a0 : CtxId) (a1 : Fin 64) (a2 : BitVec 8) (s :
  State) (k : Keeps π s) :
    KeepsO π (execEngineCounterClear a0 a1 a2 s) := by
  unfold execEngineCounterClear
  exact keepsO_next (kept_numWrite igLife igOd igControl igClocks igThermal igOtp igNvm igUpdate igBeat igTap igHostPort igLanes igQuartz igTile igPorts igCascade igIngress igVideo igLamps igSent igFreeCount s _ _ _ _ k)

theorem kept_execConfirm (igLife : Ignores.life π) (igOd : Ignores.od π) (igControl : Ignores.control π) (igClocks :
  Ignores.clocks π) (igThermal : Ignores.thermal π) (igOtp : Ignores.otp π) (igNvm : Ignores.nvm π) (igUpdate :
  Ignores.update π) (igBeat : Ignores.beat π) (igTap : Ignores.tap π) (igHostPort : Ignores.hostPort π) (igLanes :
  Ignores.lanes π) (igQuartz : Ignores.quartz π) (igTile : Ignores.tile π) (igPorts : Ignores.ports π) (igCascade :
  Ignores.cascade π) (igIngress : Ignores.ingress π) (igVideo : Ignores.video π) (igLamps : Ignores.lamps π) (igSent :
  Ignores.sent π) (igFreeCount : Ignores.freeCount π) (a0 : CtxId) (a1 : BitVec 8) (s : State) (k : Keeps π s) :
    KeepsO π (execConfirm a0 a1 s) := by
  unfold execConfirm
  exact keepsO_next (kept_numWrite igLife igOd igControl igClocks igThermal igOtp igNvm igUpdate igBeat igTap igHostPort igLanes igQuartz igTile igPorts igCascade igIngress igVideo igLamps igSent igFreeCount s _ _ _ _ k)

theorem kept_execResetColdCommand (igLife : Ignores.life π) (igOd : Ignores.od π) (igControl : Ignores.control π)
  (igClocks : Ignores.clocks π) (igThermal : Ignores.thermal π) (igOtp : Ignores.otp π) (igNvm : Ignores.nvm π)
  (igUpdate : Ignores.update π) (igBeat : Ignores.beat π) (igTap : Ignores.tap π) (igHostPort : Ignores.hostPort π)
  (igLanes : Ignores.lanes π) (igQuartz : Ignores.quartz π) (igTile : Ignores.tile π) (igPorts : Ignores.ports π)
  (igCascade : Ignores.cascade π) (igIngress : Ignores.ingress π) (igVideo : Ignores.video π) (igLamps : Ignores.lamps
  π) (igSent : Ignores.sent π) (igFreeCount : Ignores.freeCount π) (a0 : CtxId) (s : State) (k : Keeps π s) :
    KeepsO π (execResetColdCommand a0 s) := by
  unfold execResetColdCommand
  exact keepsO_next (kept_numWrite igLife igOd igControl igClocks igThermal igOtp igNvm igUpdate igBeat igTap igHostPort igLanes igQuartz igTile igPorts igCascade igIngress igVideo igLamps igSent igFreeCount s _ _ _ _ k)

theorem kept_execWuStage (igLife : Ignores.life π) (igOd : Ignores.od π) (igControl : Ignores.control π) (igClocks :
  Ignores.clocks π) (igThermal : Ignores.thermal π) (igOtp : Ignores.otp π) (igNvm : Ignores.nvm π) (igUpdate :
  Ignores.update π) (igBeat : Ignores.beat π) (igTap : Ignores.tap π) (igHostPort : Ignores.hostPort π) (igLanes :
  Ignores.lanes π) (igQuartz : Ignores.quartz π) (igTile : Ignores.tile π) (igPorts : Ignores.ports π) (igCascade :
  Ignores.cascade π) (igIngress : Ignores.ingress π) (igVideo : Ignores.video π) (igLamps : Ignores.lamps π) (igSent :
  Ignores.sent π) (igFreeCount : Ignores.freeCount π) (a0 : CtxId) (s : State) (k : Keeps π s) :
    KeepsO π (execWuStage a0 s) := by
  unfold execWuStage
  exact keepsO_next (kept_numWrite igLife igOd igControl igClocks igThermal igOtp igNvm igUpdate igBeat igTap igHostPort igLanes igQuartz igTile igPorts igCascade igIngress igVideo igLamps igSent igFreeCount s _ _ _ _ k)

theorem kept_execOwnerKeyWrite (igLife : Ignores.life π) (igOd : Ignores.od π) (igControl : Ignores.control π)
  (igClocks : Ignores.clocks π) (igThermal : Ignores.thermal π) (igOtp : Ignores.otp π) (igNvm : Ignores.nvm π)
  (igUpdate : Ignores.update π) (igBeat : Ignores.beat π) (igTap : Ignores.tap π) (igHostPort : Ignores.hostPort π)
  (igLanes : Ignores.lanes π) (igQuartz : Ignores.quartz π) (igTile : Ignores.tile π) (igPorts : Ignores.ports π)
  (igCascade : Ignores.cascade π) (igIngress : Ignores.ingress π) (igVideo : Ignores.video π) (igLamps : Ignores.lamps
  π) (igSent : Ignores.sent π) (igFreeCount : Ignores.freeCount π) (a0 : CtxId) (a1 : List Byte) (s : State) (k :
  Keeps π s) :
    KeepsO π (execOwnerKeyWrite a0 a1 s) := by
  unfold execOwnerKeyWrite
  repeat' (first
    | with_reducible assumption
    | intro _
    | (with_reducible first
        | apply keeps_ite | apply keeps_ite_snd | apply keepsO_next | apply keepsO_ite | apply keepsO_dite
        | apply kept_objectWrite))

theorem kept_execTodSet (igLife : Ignores.life π) (igOd : Ignores.od π) (igControl : Ignores.control π) (igClocks :
  Ignores.clocks π) (igThermal : Ignores.thermal π) (igOtp : Ignores.otp π) (igNvm : Ignores.nvm π) (igUpdate :
  Ignores.update π) (igBeat : Ignores.beat π) (igTap : Ignores.tap π) (igHostPort : Ignores.hostPort π) (igLanes :
  Ignores.lanes π) (igQuartz : Ignores.quartz π) (igTile : Ignores.tile π) (igPorts : Ignores.ports π) (igCascade :
  Ignores.cascade π) (igIngress : Ignores.ingress π) (igVideo : Ignores.video π) (igLamps : Ignores.lamps π) (igSent :
  Ignores.sent π) (igFreeCount : Ignores.freeCount π) (a0 : CtxId) (a1 : BitVec 64) (s : State) (k : Keeps π s) :
    KeepsO π (execTodSet a0 a1 s) := by
  unfold execTodSet
  exact keepsO_next (kept_numWrite igLife igOd igControl igClocks igThermal igOtp igNvm igUpdate igBeat igTap igHostPort igLanes igQuartz igTile igPorts igCascade igIngress igVideo igLamps igSent igFreeCount s _ _ _ _ k)

theorem kept_execFreqStart (igLife : Ignores.life π) (igOd : Ignores.od π) (igControl : Ignores.control π) (igClocks :
  Ignores.clocks π) (igThermal : Ignores.thermal π) (igOtp : Ignores.otp π) (igNvm : Ignores.nvm π) (igUpdate :
  Ignores.update π) (igBeat : Ignores.beat π) (igTap : Ignores.tap π) (igHostPort : Ignores.hostPort π) (igLanes :
  Ignores.lanes π) (igQuartz : Ignores.quartz π) (igTile : Ignores.tile π) (igPorts : Ignores.ports π) (igCascade :
  Ignores.cascade π) (igIngress : Ignores.ingress π) (igVideo : Ignores.video π) (igLamps : Ignores.lamps π) (igSent :
  Ignores.sent π) (igFreeCount : Ignores.freeCount π) (a0 : CtxId) (a1 : BitVec 8) (s : State) (k : Keeps π s) :
    KeepsO π (execFreqStart a0 a1 s) := by
  unfold execFreqStart
  exact keepsO_next (kept_numWrite igLife igOd igControl igClocks igThermal igOtp igNvm igUpdate igBeat igTap igHostPort igLanes igQuartz igTile igPorts igCascade igIngress igVideo igLamps igSent igFreeCount s _ _ _ _ k)

theorem kept_execStepNow (igLife : Ignores.life π) (igOd : Ignores.od π) (igControl : Ignores.control π) (igClocks :
  Ignores.clocks π) (igThermal : Ignores.thermal π) (igOtp : Ignores.otp π) (igNvm : Ignores.nvm π) (igUpdate :
  Ignores.update π) (igBeat : Ignores.beat π) (igTap : Ignores.tap π) (igHostPort : Ignores.hostPort π) (igLanes :
  Ignores.lanes π) (igQuartz : Ignores.quartz π) (igTile : Ignores.tile π) (igPorts : Ignores.ports π) (igCascade :
  Ignores.cascade π) (igIngress : Ignores.ingress π) (igVideo : Ignores.video π) (igLamps : Ignores.lamps π) (igSent :
  Ignores.sent π) (igFreeCount : Ignores.freeCount π) (a0 : CtxId) (a1 : BitVec 64) (s : State) (k : Keeps π s) :
    KeepsO π (execStepNow a0 a1 s) := by
  unfold execStepNow
  exact keepsO_next (kept_numWrite igLife igOd igControl igClocks igThermal igOtp igNvm igUpdate igBeat igTap igHostPort igLanes igQuartz igTile igPorts igCascade igIngress igVideo igLamps igSent igFreeCount s _ _ _ _ k)

theorem kept_execBbResetPinned (igLife : Ignores.life π) (igOd : Ignores.od π) (igControl : Ignores.control π)
  (igClocks : Ignores.clocks π) (igThermal : Ignores.thermal π) (igOtp : Ignores.otp π) (igNvm : Ignores.nvm π)
  (igUpdate : Ignores.update π) (igBeat : Ignores.beat π) (igTap : Ignores.tap π) (igHostPort : Ignores.hostPort π)
  (igLanes : Ignores.lanes π) (igQuartz : Ignores.quartz π) (igTile : Ignores.tile π) (igPorts : Ignores.ports π)
  (igCascade : Ignores.cascade π) (igIngress : Ignores.ingress π) (igVideo : Ignores.video π) (igLamps : Ignores.lamps
  π) (igSent : Ignores.sent π) (igFreeCount : Ignores.freeCount π) (a0 : CtxId) (a1 : BitVec 32) (s : State) (k :
  Keeps π s) :
    KeepsO π (execBbResetPinned a0 a1 s) := by
  unfold execBbResetPinned
  exact keepsO_next (kept_numWrite igLife igOd igControl igClocks igThermal igOtp igNvm igUpdate igBeat igTap igHostPort igLanes igQuartz igTile igPorts igCascade igIngress igVideo igLamps igSent igFreeCount s _ _ _ _ k)

theorem kept_execPrbsStart (igLife : Ignores.life π) (igOd : Ignores.od π) (igControl : Ignores.control π) (igClocks :
  Ignores.clocks π) (igThermal : Ignores.thermal π) (igOtp : Ignores.otp π) (igNvm : Ignores.nvm π) (igUpdate :
  Ignores.update π) (igBeat : Ignores.beat π) (igTap : Ignores.tap π) (igHostPort : Ignores.hostPort π) (igLanes :
  Ignores.lanes π) (igQuartz : Ignores.quartz π) (igTile : Ignores.tile π) (igPorts : Ignores.ports π) (igCascade :
  Ignores.cascade π) (igIngress : Ignores.ingress π) (igVideo : Ignores.video π) (igLamps : Ignores.lamps π) (igSent :
  Ignores.sent π) (igFreeCount : Ignores.freeCount π) (a0 : CtxId) (a1 : Fin 24) (a2 : BitVec 8) (s : State) (k :
  Keeps π s) :
    KeepsO π (execPrbsStart a0 a1 a2 s) := by
  unfold execPrbsStart
  exact keepsO_next (kept_numWrite igLife igOd igControl igClocks igThermal igOtp igNvm igUpdate igBeat igTap igHostPort igLanes igQuartz igTile igPorts igCascade igIngress igVideo igLamps igSent igFreeCount s _ _ _ _ k)

theorem kept_execTestStateWrite (igLife : Ignores.life π) (igOd : Ignores.od π) (igControl : Ignores.control π)
  (igClocks : Ignores.clocks π) (igThermal : Ignores.thermal π) (igOtp : Ignores.otp π) (igNvm : Ignores.nvm π)
  (igUpdate : Ignores.update π) (igBeat : Ignores.beat π) (igTap : Ignores.tap π) (igHostPort : Ignores.hostPort π)
  (igLanes : Ignores.lanes π) (igQuartz : Ignores.quartz π) (igTile : Ignores.tile π) (igPorts : Ignores.ports π)
  (igCascade : Ignores.cascade π) (igIngress : Ignores.ingress π) (igVideo : Ignores.video π) (igLamps : Ignores.lamps
  π) (igSent : Ignores.sent π) (igFreeCount : Ignores.freeCount π) (a0 : CtxId) (a1 : Fin 3) (a2 : BitVec 8) (s :
  State) (k : Keeps π s) :
    KeepsO π (execTestStateWrite a0 a1 a2 s) := by
  unfold execTestStateWrite
  exact keepsO_next (kept_numWrite igLife igOd igControl igClocks igThermal igOtp igNvm igUpdate igBeat igTap igHostPort igLanes igQuartz igTile igPorts igCascade igIngress igVideo igLamps igSent igFreeCount s _ _ _ _ k)

theorem kept_execOwnerLockWrite (igLife : Ignores.life π) (igOd : Ignores.od π) (igControl : Ignores.control π)
  (igClocks : Ignores.clocks π) (igThermal : Ignores.thermal π) (igOtp : Ignores.otp π) (igNvm : Ignores.nvm π)
  (igUpdate : Ignores.update π) (igBeat : Ignores.beat π) (igTap : Ignores.tap π) (igHostPort : Ignores.hostPort π)
  (igLanes : Ignores.lanes π) (igQuartz : Ignores.quartz π) (igTile : Ignores.tile π) (igPorts : Ignores.ports π)
  (igCascade : Ignores.cascade π) (igIngress : Ignores.ingress π) (igVideo : Ignores.video π) (igLamps : Ignores.lamps
  π) (igSent : Ignores.sent π) (igFreeCount : Ignores.freeCount π) (a0 : CtxId) (a1 : BitVec 8) (s : State) (k : Keeps
  π s) :
    KeepsO π (execOwnerLockWrite a0 a1 s) := by
  unfold execOwnerLockWrite
  exact keepsO_next (kept_numWrite igLife igOd igControl igClocks igThermal igOtp igNvm igUpdate igBeat igTap igHostPort igLanes igQuartz igTile igPorts igCascade igIngress igVideo igLamps igSent igFreeCount s _ _ _ _ k)

theorem kept_execWuArm (igLife : Ignores.life π) (igOd : Ignores.od π) (igControl : Ignores.control π) (igClocks :
  Ignores.clocks π) (igThermal : Ignores.thermal π) (igOtp : Ignores.otp π) (igNvm : Ignores.nvm π) (igUpdate :
  Ignores.update π) (igBeat : Ignores.beat π) (igTap : Ignores.tap π) (igHostPort : Ignores.hostPort π) (igLanes :
  Ignores.lanes π) (igQuartz : Ignores.quartz π) (igTile : Ignores.tile π) (igPorts : Ignores.ports π) (igCascade :
  Ignores.cascade π) (igIngress : Ignores.ingress π) (igVideo : Ignores.video π) (igLamps : Ignores.lamps π) (igSent :
  Ignores.sent π) (igFreeCount : Ignores.freeCount π) (a0 : CtxId) (s : State) (k : Keeps π s) :
    KeepsO π (execWuArm a0 s) := by
  unfold execWuArm
  exact keepsO_next (kept_numWrite igLife igOd igControl igClocks igThermal igOtp igNvm igUpdate igBeat igTap igHostPort igLanes igQuartz igTile igPorts igCascade igIngress igVideo igLamps igSent igFreeCount s _ _ _ _ k)

theorem kept_execCorrVerify (igLife : Ignores.life π) (igOd : Ignores.od π) (igControl : Ignores.control π) (igClocks
  : Ignores.clocks π) (igThermal : Ignores.thermal π) (igOtp : Ignores.otp π) (igNvm : Ignores.nvm π) (igUpdate :
  Ignores.update π) (igBeat : Ignores.beat π) (igTap : Ignores.tap π) (igHostPort : Ignores.hostPort π) (igLanes :
  Ignores.lanes π) (igQuartz : Ignores.quartz π) (igTile : Ignores.tile π) (igPorts : Ignores.ports π) (igCascade :
  Ignores.cascade π) (igIngress : Ignores.ingress π) (igVideo : Ignores.video π) (igLamps : Ignores.lamps π) (igSent :
  Ignores.sent π) (igFreeCount : Ignores.freeCount π) (a0 : CtxId) (a1 : BitVec 8) (s : State) (k : Keeps π s) :
    KeepsO π (execCorrVerify a0 a1 s) := by
  unfold execCorrVerify
  exact keepsO_next (kept_numWrite igLife igOd igControl igClocks igThermal igOtp igNvm igUpdate igBeat igTap igHostPort igLanes igQuartz igTile igPorts igCascade igIngress igVideo igLamps igSent igFreeCount s _ _ _ _ k)

theorem kept_execLampPortCounterClear (igLife : Ignores.life π) (igOd : Ignores.od π) (igControl : Ignores.control π)
  (igClocks : Ignores.clocks π) (igThermal : Ignores.thermal π) (igOtp : Ignores.otp π) (igNvm : Ignores.nvm π)
  (igUpdate : Ignores.update π) (igBeat : Ignores.beat π) (igTap : Ignores.tap π) (igHostPort : Ignores.hostPort π)
  (igLanes : Ignores.lanes π) (igQuartz : Ignores.quartz π) (igTile : Ignores.tile π) (igPorts : Ignores.ports π)
  (igCascade : Ignores.cascade π) (igIngress : Ignores.ingress π) (igVideo : Ignores.video π) (igLamps : Ignores.lamps
  π) (igSent : Ignores.sent π) (igFreeCount : Ignores.freeCount π) (a0 : CtxId) (a1 : Fin 64) (a2 : BitVec 8) (s :
  State) (k : Keeps π s) :
    KeepsO π (execLampPortCounterClear a0 a1 a2 s) := by
  unfold execLampPortCounterClear
  exact keepsO_next (kept_numWrite igLife igOd igControl igClocks igThermal igOtp igNvm igUpdate igBeat igTap igHostPort igLanes igQuartz igTile igPorts igCascade igIngress igVideo igLamps igSent igFreeCount s _ _ _ _ k)

theorem kept_execSettingsStore (igLife : Ignores.life π) (igOd : Ignores.od π) (igControl : Ignores.control π)
  (igClocks : Ignores.clocks π) (igThermal : Ignores.thermal π) (igOtp : Ignores.otp π) (igNvm : Ignores.nvm π)
  (igUpdate : Ignores.update π) (igBeat : Ignores.beat π) (igTap : Ignores.tap π) (igHostPort : Ignores.hostPort π)
  (igLanes : Ignores.lanes π) (igQuartz : Ignores.quartz π) (igTile : Ignores.tile π) (igPorts : Ignores.ports π)
  (igCascade : Ignores.cascade π) (igIngress : Ignores.ingress π) (igVideo : Ignores.video π) (igLamps : Ignores.lamps
  π) (igSent : Ignores.sent π) (igFreeCount : Ignores.freeCount π) (a0 : CtxId) (a1 : Fin 4) (s : State) (k : Keeps π
  s) :
    KeepsO π (execSettingsStore a0 a1 s) := by
  unfold execSettingsStore
  exact keepsO_next (kept_numWrite igLife igOd igControl igClocks igThermal igOtp igNvm igUpdate igBeat igTap igHostPort igLanes igQuartz igTile igPorts igCascade igIngress igVideo igLamps igSent igFreeCount s _ _ _ _ k)

theorem kept_execFrustumIn (igLife : Ignores.life π) (igOd : Ignores.od π) (igControl : Ignores.control π) (igClocks :
  Ignores.clocks π) (igThermal : Ignores.thermal π) (igOtp : Ignores.otp π) (igNvm : Ignores.nvm π) (igUpdate :
  Ignores.update π) (igBeat : Ignores.beat π) (igTap : Ignores.tap π) (igHostPort : Ignores.hostPort π) (igLanes :
  Ignores.lanes π) (igQuartz : Ignores.quartz π) (igTile : Ignores.tile π) (igPorts : Ignores.ports π) (igCascade :
  Ignores.cascade π) (igIngress : Ignores.ingress π) (igVideo : Ignores.video π) (igLamps : Ignores.lamps π) (igSent :
  Ignores.sent π) (igFreeCount : Ignores.freeCount π) (a0 : CtxId) (a1 : List Byte) (s : State) (k : Keeps π s) :
    KeepsO π (execFrustumIn a0 a1 s) := by
  unfold execFrustumIn
  repeat' (first
    | with_reducible assumption
    | intro _
    | (with_reducible first
        | apply keeps_ite | apply keeps_ite_snd | apply keepsO_next | apply keepsO_ite | apply keepsO_dite
        | apply kept_objectWrite))

theorem kept_execResetWarmCommand (igLife : Ignores.life π) (igOd : Ignores.od π) (igControl : Ignores.control π)
  (igClocks : Ignores.clocks π) (igThermal : Ignores.thermal π) (igOtp : Ignores.otp π) (igNvm : Ignores.nvm π)
  (igUpdate : Ignores.update π) (igBeat : Ignores.beat π) (igTap : Ignores.tap π) (igHostPort : Ignores.hostPort π)
  (igLanes : Ignores.lanes π) (igQuartz : Ignores.quartz π) (igTile : Ignores.tile π) (igPorts : Ignores.ports π)
  (igCascade : Ignores.cascade π) (igIngress : Ignores.ingress π) (igVideo : Ignores.video π) (igLamps : Ignores.lamps
  π) (igSent : Ignores.sent π) (igFreeCount : Ignores.freeCount π) (a0 : CtxId) (s : State) (k : Keeps π s) :
    KeepsO π (execResetWarmCommand a0 s) := by
  unfold execResetWarmCommand
  exact keepsO_next (kept_numWrite igLife igOd igControl igClocks igThermal igOtp igNvm igUpdate igBeat igTap igHostPort igLanes igQuartz igTile igPorts igCascade igIngress igVideo igLamps igSent igFreeCount s _ _ _ _ k)

theorem kept_execCorrSelectWrite (igLife : Ignores.life π) (igOd : Ignores.od π) (igControl : Ignores.control π)
  (igClocks : Ignores.clocks π) (igThermal : Ignores.thermal π) (igOtp : Ignores.otp π) (igNvm : Ignores.nvm π)
  (igUpdate : Ignores.update π) (igBeat : Ignores.beat π) (igTap : Ignores.tap π) (igHostPort : Ignores.hostPort π)
  (igLanes : Ignores.lanes π) (igQuartz : Ignores.quartz π) (igTile : Ignores.tile π) (igPorts : Ignores.ports π)
  (igCascade : Ignores.cascade π) (igIngress : Ignores.ingress π) (igVideo : Ignores.video π) (igLamps : Ignores.lamps
  π) (igSent : Ignores.sent π) (igFreeCount : Ignores.freeCount π) (a0 : CtxId) (a1 : BitVec 8) (s : State) (k : Keeps
  π s) :
    KeepsO π (execCorrSelectWrite a0 a1 s) := by
  unfold execCorrSelectWrite
  exact keepsO_next (kept_numWrite igLife igOd igControl igClocks igThermal igOtp igNvm igUpdate igBeat igTap igHostPort igLanes igQuartz igTile igPorts igCascade igIngress igVideo igLamps igSent igFreeCount s _ _ _ _ k)

theorem kept_execInjStop (igLife : Ignores.life π) (igOd : Ignores.od π) (igControl : Ignores.control π) (igClocks :
  Ignores.clocks π) (igThermal : Ignores.thermal π) (igOtp : Ignores.otp π) (igNvm : Ignores.nvm π) (igUpdate :
  Ignores.update π) (igBeat : Ignores.beat π) (igTap : Ignores.tap π) (igHostPort : Ignores.hostPort π) (igLanes :
  Ignores.lanes π) (igQuartz : Ignores.quartz π) (igTile : Ignores.tile π) (igPorts : Ignores.ports π) (igCascade :
  Ignores.cascade π) (igIngress : Ignores.ingress π) (igVideo : Ignores.video π) (igLamps : Ignores.lamps π) (igSent :
  Ignores.sent π) (igFreeCount : Ignores.freeCount π) (a0 : CtxId) (a1 : Fin 24) (s : State) (k : Keeps π s) :
    KeepsO π (execInjStop a0 a1 s) := by
  unfold execInjStop
  exact keepsO_next (kept_numWrite igLife igOd igControl igClocks igThermal igOtp igNvm igUpdate igBeat igTap igHostPort igLanes igQuartz igTile igPorts igCascade igIngress igVideo igLamps igSent igFreeCount s _ _ _ _ k)

theorem kept_execTfTableWrite (igLife : Ignores.life π) (igOd : Ignores.od π) (igControl : Ignores.control π)
  (igClocks : Ignores.clocks π) (igThermal : Ignores.thermal π) (igOtp : Ignores.otp π) (igNvm : Ignores.nvm π)
  (igUpdate : Ignores.update π) (igBeat : Ignores.beat π) (igTap : Ignores.tap π) (igHostPort : Ignores.hostPort π)
  (igLanes : Ignores.lanes π) (igQuartz : Ignores.quartz π) (igTile : Ignores.tile π) (igPorts : Ignores.ports π)
  (igCascade : Ignores.cascade π) (igIngress : Ignores.ingress π) (igVideo : Ignores.video π) (igLamps : Ignores.lamps
  π) (igSent : Ignores.sent π) (igFreeCount : Ignores.freeCount π) (a0 : CtxId) (a1 : Fin 8) (a2 : List Byte) (s :
  State) (k : Keeps π s) :
    KeepsO π (execTfTableWrite a0 a1 a2 s) := by
  unfold execTfTableWrite
  repeat' (first
    | with_reducible assumption
    | intro _
    | (with_reducible first
        | apply keeps_ite | apply keeps_ite_snd | apply keepsO_next | apply keepsO_ite | apply keepsO_dite
        | apply kept_objectWrite))

theorem kept_execMaintenanceWrite (igLife : Ignores.life π) (igOd : Ignores.od π) (igControl : Ignores.control π)
  (igClocks : Ignores.clocks π) (igThermal : Ignores.thermal π) (igOtp : Ignores.otp π) (igNvm : Ignores.nvm π)
  (igUpdate : Ignores.update π) (igBeat : Ignores.beat π) (igTap : Ignores.tap π) (igHostPort : Ignores.hostPort π)
  (igLanes : Ignores.lanes π) (igQuartz : Ignores.quartz π) (igTile : Ignores.tile π) (igPorts : Ignores.ports π)
  (igCascade : Ignores.cascade π) (igIngress : Ignores.ingress π) (igVideo : Ignores.video π) (igLamps : Ignores.lamps
  π) (igSent : Ignores.sent π) (igFreeCount : Ignores.freeCount π) (a0 : CtxId) (a1 : Fin 2) (a2 : BitVec 8) (s :
  State) (k : Keeps π s) :
    KeepsO π (execMaintenanceWrite a0 a1 a2 s) := by
  unfold execMaintenanceWrite
  exact keepsO_next (kept_numWrite igLife igOd igControl igClocks igThermal igOtp igNvm igUpdate igBeat igTap igHostPort igLanes igQuartz igTile igPorts igCascade igIngress igVideo igLamps igSent igFreeCount s _ _ _ _ k)

theorem kept_execBistStart (igLife : Ignores.life π) (igOd : Ignores.od π) (igControl : Ignores.control π) (igClocks :
  Ignores.clocks π) (igThermal : Ignores.thermal π) (igOtp : Ignores.otp π) (igNvm : Ignores.nvm π) (igUpdate :
  Ignores.update π) (igBeat : Ignores.beat π) (igTap : Ignores.tap π) (igHostPort : Ignores.hostPort π) (igLanes :
  Ignores.lanes π) (igQuartz : Ignores.quartz π) (igTile : Ignores.tile π) (igPorts : Ignores.ports π) (igCascade :
  Ignores.cascade π) (igIngress : Ignores.ingress π) (igVideo : Ignores.video π) (igLamps : Ignores.lamps π) (igSent :
  Ignores.sent π) (igFreeCount : Ignores.freeCount π) (a0 : CtxId) (a1 : BitVec 8) (s : State) (k : Keeps π s) :
    KeepsO π (execBistStart a0 a1 s) := by
  unfold execBistStart
  exact keepsO_next (kept_numWrite igLife igOd igControl igClocks igThermal igOtp igNvm igUpdate igBeat igTap igHostPort igLanes igQuartz igTile igPorts igCascade igIngress igVideo igLamps igSent igFreeCount s _ _ _ _ k)

theorem kept_execRollbackNow (igLife : Ignores.life π) (igOd : Ignores.od π) (igControl : Ignores.control π) (igClocks
  : Ignores.clocks π) (igThermal : Ignores.thermal π) (igOtp : Ignores.otp π) (igNvm : Ignores.nvm π) (igUpdate :
  Ignores.update π) (igBeat : Ignores.beat π) (igTap : Ignores.tap π) (igHostPort : Ignores.hostPort π) (igLanes :
  Ignores.lanes π) (igQuartz : Ignores.quartz π) (igTile : Ignores.tile π) (igPorts : Ignores.ports π) (igCascade :
  Ignores.cascade π) (igIngress : Ignores.ingress π) (igVideo : Ignores.video π) (igLamps : Ignores.lamps π) (igSent :
  Ignores.sent π) (igFreeCount : Ignores.freeCount π) (a0 : CtxId) (a1 : BitVec 8) (s : State) (k : Keeps π s) :
    KeepsO π (execRollbackNow a0 a1 s) := by
  unfold execRollbackNow
  exact keepsO_next (kept_numWrite igLife igOd igControl igClocks igThermal igOtp igNvm igUpdate igBeat igTap igHostPort igLanes igQuartz igTile igPorts igCascade igIngress igVideo igLamps igSent igFreeCount s _ _ _ _ k)

theorem kept_execLampDiagClear (igLife : Ignores.life π) (igOd : Ignores.od π) (igControl : Ignores.control π)
  (igClocks : Ignores.clocks π) (igThermal : Ignores.thermal π) (igOtp : Ignores.otp π) (igNvm : Ignores.nvm π)
  (igUpdate : Ignores.update π) (igBeat : Ignores.beat π) (igTap : Ignores.tap π) (igHostPort : Ignores.hostPort π)
  (igLanes : Ignores.lanes π) (igQuartz : Ignores.quartz π) (igTile : Ignores.tile π) (igPorts : Ignores.ports π)
  (igCascade : Ignores.cascade π) (igIngress : Ignores.ingress π) (igVideo : Ignores.video π) (igLamps : Ignores.lamps
  π) (igSent : Ignores.sent π) (igFreeCount : Ignores.freeCount π) (a0 : CtxId) (a1 : BitVec 8) (s : State) (k : Keeps
  π s) :
    KeepsO π (execLampDiagClear a0 a1 s) := by
  unfold execLampDiagClear
  exact keepsO_next (kept_numWrite igLife igOd igControl igClocks igThermal igOtp igNvm igUpdate igBeat igTap igHostPort igLanes igQuartz igTile igPorts igCascade igIngress igVideo igLamps igSent igFreeCount s _ _ _ _ k)

theorem kept_execLogout (igLife : Ignores.life π) (igOd : Ignores.od π) (igControl : Ignores.control π) (igClocks :
  Ignores.clocks π) (igThermal : Ignores.thermal π) (igOtp : Ignores.otp π) (igNvm : Ignores.nvm π) (igUpdate :
  Ignores.update π) (igBeat : Ignores.beat π) (igTap : Ignores.tap π) (igHostPort : Ignores.hostPort π) (igLanes :
  Ignores.lanes π) (igQuartz : Ignores.quartz π) (igTile : Ignores.tile π) (igPorts : Ignores.ports π) (igCascade :
  Ignores.cascade π) (igIngress : Ignores.ingress π) (igVideo : Ignores.video π) (igLamps : Ignores.lamps π) (igSent :
  Ignores.sent π) (igFreeCount : Ignores.freeCount π) (a0 : CtxId) (a1 : BitVec 8) (s : State) (k : Keeps π s) :
    KeepsO π (execLogout a0 a1 s) := by
  unfold execLogout
  exact keepsO_next (kept_numWrite igLife igOd igControl igClocks igThermal igOtp igNvm igUpdate igBeat igTap igHostPort igLanes igQuartz igTile igPorts igCascade igIngress igVideo igLamps igSent igFreeCount s _ _ _ _ k)

theorem kept_execReclaimNow (igLife : Ignores.life π) (igOd : Ignores.od π) (igControl : Ignores.control π) (igClocks
  : Ignores.clocks π) (igThermal : Ignores.thermal π) (igOtp : Ignores.otp π) (igNvm : Ignores.nvm π) (igUpdate :
  Ignores.update π) (igBeat : Ignores.beat π) (igTap : Ignores.tap π) (igHostPort : Ignores.hostPort π) (igLanes :
  Ignores.lanes π) (igQuartz : Ignores.quartz π) (igTile : Ignores.tile π) (igPorts : Ignores.ports π) (igCascade :
  Ignores.cascade π) (igIngress : Ignores.ingress π) (igVideo : Ignores.video π) (igLamps : Ignores.lamps π) (igSent :
  Ignores.sent π) (igFreeCount : Ignores.freeCount π) (a0 : CtxId) (a1 : Fin 2) (a2 : BitVec 8) (s : State) (k : Keeps
  π s) :
    KeepsO π (execReclaimNow a0 a1 a2 s) := by
  unfold execReclaimNow
  exact keepsO_next (kept_numWrite igLife igOd igControl igClocks igThermal igOtp igNvm igUpdate igBeat igTap igHostPort igLanes igQuartz igTile igPorts igCascade igIngress igVideo igLamps igSent igFreeCount s _ _ _ _ k)

theorem kept_hpError (igOd : Ignores.od π) (igControl : Ignores.control π) (igNvm : Ignores.nvm π) (igHostPort :
  Ignores.hostPort π) (igSent : Ignores.sent π) (s : State) (a1 : BitVec 5) (k : Keeps π s) :
    Keeps π (State.hpError s a1) := by
  unfold State.hpError
  repeat' (first
    | with_reducible assumption
    | intro _
    | (with_reducible first
        | apply keeps_ite | apply keeps_ite_snd | apply kept_withHost | apply kept_raiseIf))

theorem kept_sdoGo (igLife : Ignores.life π) (igOd : Ignores.od π) (igControl : Ignores.control π) (igClocks :
  Ignores.clocks π) (igThermal : Ignores.thermal π) (igOtp : Ignores.otp π) (igNvm : Ignores.nvm π) (igUpdate :
  Ignores.update π) (igBeat : Ignores.beat π) (igTap : Ignores.tap π) (igHostPort : Ignores.hostPort π) (igLanes :
  Ignores.lanes π) (igQuartz : Ignores.quartz π) (igTile : Ignores.tile π) (igPorts : Ignores.ports π) (igCascade :
  Ignores.cascade π) (igIngress : Ignores.ingress π) (igVideo : Ignores.video π) (igLamps : Ignores.lamps π) (igSent :
  Ignores.sent π) (igFreeCount : Ignores.freeCount π) (s : State) (a1 : Nat) (k : Keeps π s) :
    Keeps π (State.sdoGo s a1) := by
  unfold State.sdoGo
  repeat' (first
    | with_reducible assumption
    | intro _
    | (with_reducible first
        | apply keeps_ite | apply keeps_ite_snd | apply kept_hpError | apply kept_withHost | apply kept_cause
        | apply kept_touchCtx | apply kept_serve))

theorem kept_hpBoxWrite (igOd : Ignores.od π) (igControl : Ignores.control π) (igNvm : Ignores.nvm π) (igHostPort :
  Ignores.hostPort π) (igSent : Ignores.sent π) (s : State) (a1 : Fin 128) (a2 : Nat) (a3 : Word) (k : Keeps π s) :
    Keeps π (State.hpBoxWrite s a1 a2 a3) := by
  unfold State.hpBoxWrite
  repeat' (first
    | with_reducible assumption
    | intro _
    | (with_reducible first
        | apply keeps_ite | apply keeps_ite_snd | apply keeps_outState | apply kept_execMbMsgWrite
        | apply kept_execMbPost | apply kept_execMbTake | apply kept_execMbFlush | apply kept_execMbStatusClear
        | apply kept_execReturnCodeWrite)
    | split)

theorem kept_hpWrite (igLife : Ignores.life π) (igOd : Ignores.od π) (igControl : Ignores.control π) (igClocks :
  Ignores.clocks π) (igThermal : Ignores.thermal π) (igOtp : Ignores.otp π) (igNvm : Ignores.nvm π) (igUpdate :
  Ignores.update π) (igBeat : Ignores.beat π) (igTap : Ignores.tap π) (igHostPort : Ignores.hostPort π) (igLanes :
  Ignores.lanes π) (igQuartz : Ignores.quartz π) (igTile : Ignores.tile π) (igPorts : Ignores.ports π) (igCascade :
  Ignores.cascade π) (igIngress : Ignores.ingress π) (igVideo : Ignores.video π) (igLamps : Ignores.lamps π) (igSent :
  Ignores.sent π) (igFreeCount : Ignores.freeCount π) (s : State) (a1 : Nat) (a2 : Word) (k : Keeps π s) :
    Keeps π (State.hpWrite s a1 a2) := by
  unfold State.hpWrite
  repeat' (first
    | with_reducible assumption
    | intro _
    | (with_reducible first
        | apply keeps_ite | apply keeps_ite_snd | apply kept_hpError | apply kept_withHost | apply kept_hpBoxWrite
        | apply keeps_outState | apply kept_execMbBindWrite | apply kept_execSemWrite | apply kept_sdoGo
        | apply kept_execMbLockWrite | apply kept_execSemForce)
    | split)

theorem kept_hpWrites (igLife : Ignores.life π) (igOd : Ignores.od π) (igControl : Ignores.control π) (igClocks :
  Ignores.clocks π) (igThermal : Ignores.thermal π) (igOtp : Ignores.otp π) (igNvm : Ignores.nvm π) (igUpdate :
  Ignores.update π) (igBeat : Ignores.beat π) (igTap : Ignores.tap π) (igHostPort : Ignores.hostPort π) (igLanes :
  Ignores.lanes π) (igQuartz : Ignores.quartz π) (igTile : Ignores.tile π) (igPorts : Ignores.ports π) (igCascade :
  Ignores.cascade π) (igIngress : Ignores.ingress π) (igVideo : Ignores.video π) (igLamps : Ignores.lamps π) (igSent :
  Ignores.sent π) (igFreeCount : Ignores.freeCount π) (s : State) (a1 : Nat) (a2 : List (List Byte)) (k : Keeps π s) :
    Keeps π (State.hpWrites s a1 a2) := by
  induction a2 generalizing s a1 with
  | nil => exact k
  | cons w rest ih => exact ih _ _ (kept_hpWrite igLife igOd igControl igClocks igThermal igOtp igNvm igUpdate igBeat igTap igHostPort igLanes igQuartz igTile igPorts igCascade igIngress igVideo igLamps igSent igFreeCount _ _ _ k)

theorem kept_hpRead (igOd : Ignores.od π) (igControl : Ignores.control π) (igNvm : Ignores.nvm π) (igHostPort :
  Ignores.hostPort π) (igSent : Ignores.sent π) (s : State) (a1 : Nat) (k : Keeps π s) :
    Keeps π (State.hpRead s a1).2 := by
  unfold State.hpRead
  repeat' (first
    | with_reducible assumption
    | intro _
    | (with_reducible first
        | apply keeps_ite | apply keeps_ite_snd | apply kept_hpError | apply kept_semRead))

theorem kept_freeBytes (igFreeCount : Ignores.freeCount π) (s : State) (a1 : Nat) (k : Keeps π s) :
    Keeps π (State.freeBytes s a1).2 := by
  induction a1 generalizing s with
  | zero => exact k
  | succ n ih => exact ih _ (kept_freeNat igFreeCount s k)

theorem kept_hpReads (igOd : Ignores.od π) (igControl : Ignores.control π) (igNvm : Ignores.nvm π) (igHostPort :
  Ignores.hostPort π) (igSent : Ignores.sent π) (s : State) (a1 a2 : Nat) (k : Keeps π s) :
    Keeps π (State.hpReads s a1 a2).2 := by
  induction a2 generalizing s a1 with
  | zero => exact k
  | succ n ih => exact ih _ _ (kept_hpRead igOd igControl igNvm igHostPort igSent _ _ k)

theorem kept_qspiRead (igOd : Ignores.od π) (igControl : Ignores.control π) (igNvm : Ignores.nvm π) (igHostPort :
  Ignores.hostPort π) (igSent : Ignores.sent π) (igFreeCount : Ignores.freeCount π) (s : State) (a1 a2 : Nat) (a3 :
  Bool) (k : Keeps π s) :
    Keeps π (State.qspiRead s a1 a2 a3) := by
  unfold State.qspiRead
  repeat' (first
    | with_reducible assumption
    | intro _
    | (with_reducible first
        | apply keeps_ite | apply keeps_ite_snd | apply kept_hpReads | apply kept_freeBytes | apply kept_emit))

theorem kept_execQspiRead (igOd : Ignores.od π) (igControl : Ignores.control π) (igNvm : Ignores.nvm π) (igHostPort :
  Ignores.hostPort π) (igSent : Ignores.sent π) (igFreeCount : Ignores.freeCount π) (a0 : BitVec 24) (a1 : Nat) (a2 :
  Bool) (s : State) (k : Keeps π s) :
    KeepsO π (execQspiRead a0 a1 a2 s) := by
  unfold execQspiRead
  repeat' (first
    | with_reducible assumption
    | intro _
    | (with_reducible first
        | apply keeps_ite | apply keeps_ite_snd | apply keepsO_next | apply keepsO_ite | apply keepsO_dite
        | apply kept_qspiRead))

theorem kept_execQspiQread (igOd : Ignores.od π) (igControl : Ignores.control π) (igNvm : Ignores.nvm π) (igHostPort :
  Ignores.hostPort π) (igSent : Ignores.sent π) (igFreeCount : Ignores.freeCount π) (a0 : BitVec 24) (a1 : Nat) (a2 :
  Bool) (s : State) (k : Keeps π s) :
    KeepsO π (execQspiQread a0 a1 a2 s) := by
  unfold execQspiQread
  repeat' (first
    | with_reducible assumption
    | intro _
    | (with_reducible first
        | apply keeps_ite | apply keeps_ite_snd | apply keepsO_next | apply keepsO_ite | apply keepsO_dite
        | apply kept_qspiRead))

theorem kept_qspiWrite (igLife : Ignores.life π) (igOd : Ignores.od π) (igControl : Ignores.control π) (igClocks :
  Ignores.clocks π) (igThermal : Ignores.thermal π) (igOtp : Ignores.otp π) (igNvm : Ignores.nvm π) (igUpdate :
  Ignores.update π) (igBeat : Ignores.beat π) (igTap : Ignores.tap π) (igHostPort : Ignores.hostPort π) (igLanes :
  Ignores.lanes π) (igQuartz : Ignores.quartz π) (igTile : Ignores.tile π) (igPorts : Ignores.ports π) (igCascade :
  Ignores.cascade π) (igIngress : Ignores.ingress π) (igVideo : Ignores.video π) (igLamps : Ignores.lamps π) (igSent :
  Ignores.sent π) (igFreeCount : Ignores.freeCount π) (s : State) (a1 : Nat) (a2 : List Byte) (k : Keeps π s) :
    Keeps π (State.qspiWrite s a1 a2) := by
  unfold State.qspiWrite
  repeat' (first
    | with_reducible assumption
    | intro _
    | (with_reducible first
        | apply keeps_ite | apply keeps_ite_snd | apply kept_hpWrites | apply kept_hpError))

theorem kept_execQspiWrite (igLife : Ignores.life π) (igOd : Ignores.od π) (igControl : Ignores.control π) (igClocks :
  Ignores.clocks π) (igThermal : Ignores.thermal π) (igOtp : Ignores.otp π) (igNvm : Ignores.nvm π) (igUpdate :
  Ignores.update π) (igBeat : Ignores.beat π) (igTap : Ignores.tap π) (igHostPort : Ignores.hostPort π) (igLanes :
  Ignores.lanes π) (igQuartz : Ignores.quartz π) (igTile : Ignores.tile π) (igPorts : Ignores.ports π) (igCascade :
  Ignores.cascade π) (igIngress : Ignores.ingress π) (igVideo : Ignores.video π) (igLamps : Ignores.lamps π) (igSent :
  Ignores.sent π) (igFreeCount : Ignores.freeCount π) (a0 : BitVec 24) (a1 : List Byte) (s : State) (k : Keeps π s) :
    KeepsO π (execQspiWrite a0 a1 s) := by
  unfold execQspiWrite
  repeat' (first
    | with_reducible assumption
    | intro _
    | (with_reducible first
        | apply keeps_ite | apply keeps_ite_snd | apply keepsO_next | apply keepsO_ite | apply keepsO_dite
        | apply kept_qspiWrite))

theorem kept_execQspiQwrite (igLife : Ignores.life π) (igOd : Ignores.od π) (igControl : Ignores.control π) (igClocks
  : Ignores.clocks π) (igThermal : Ignores.thermal π) (igOtp : Ignores.otp π) (igNvm : Ignores.nvm π) (igUpdate :
  Ignores.update π) (igBeat : Ignores.beat π) (igTap : Ignores.tap π) (igHostPort : Ignores.hostPort π) (igLanes :
  Ignores.lanes π) (igQuartz : Ignores.quartz π) (igTile : Ignores.tile π) (igPorts : Ignores.ports π) (igCascade :
  Ignores.cascade π) (igIngress : Ignores.ingress π) (igVideo : Ignores.video π) (igLamps : Ignores.lamps π) (igSent :
  Ignores.sent π) (igFreeCount : Ignores.freeCount π) (a0 : BitVec 24) (a1 : List Byte) (s : State) (k : Keeps π s) :
    KeepsO π (execQspiQwrite a0 a1 s) := by
  unfold execQspiQwrite
  repeat' (first
    | with_reducible assumption
    | intro _
    | (with_reducible first
        | apply keeps_ite | apply keeps_ite_snd | apply keepsO_next | apply keepsO_ite | apply keepsO_dite
        | apply kept_qspiWrite))

theorem kept_execQspiBadInstruction (igOd : Ignores.od π) (igControl : Ignores.control π) (igNvm : Ignores.nvm π)
  (igHostPort : Ignores.hostPort π) (igSent : Ignores.sent π) (s : State) (k : Keeps π s) :
    KeepsO π (execQspiBadInstruction s) := by
  unfold execQspiBadInstruction
  repeat' (first
    | with_reducible assumption
    | intro _
    | (with_reducible first
        | apply keeps_ite | apply keeps_ite_snd | apply keepsO_next | apply keepsO_ite | apply keepsO_dite
        | apply kept_emit | apply kept_hpError))

theorem kept_execQspiRdsr (igSent : Ignores.sent π) (a0 : Nat) (s : State) (k : Keeps π s) :
    KeepsO π (execQspiRdsr a0 s) := by
  unfold execQspiRdsr
  repeat' (first
    | with_reducible assumption
    | intro _
    | (with_reducible first
        | apply keeps_ite | apply keeps_ite_snd | apply keepsO_next | apply keepsO_ite | apply keepsO_dite
        | apply kept_emit))

theorem kept_execHpSdoGo (igLife : Ignores.life π) (igOd : Ignores.od π) (igControl : Ignores.control π) (igClocks :
  Ignores.clocks π) (igThermal : Ignores.thermal π) (igOtp : Ignores.otp π) (igNvm : Ignores.nvm π) (igUpdate :
  Ignores.update π) (igBeat : Ignores.beat π) (igTap : Ignores.tap π) (igHostPort : Ignores.hostPort π) (igLanes :
  Ignores.lanes π) (igQuartz : Ignores.quartz π) (igTile : Ignores.tile π) (igPorts : Ignores.ports π) (igCascade :
  Ignores.cascade π) (igIngress : Ignores.ingress π) (igVideo : Ignores.video π) (igLamps : Ignores.lamps π) (igSent :
  Ignores.sent π) (igFreeCount : Ignores.freeCount π) (a0 : BitVec 7) (s : State) (k : Keeps π s) :
    KeepsO π (execHpSdoGo a0 s) := by
  unfold execHpSdoGo
  repeat' (first
    | with_reducible assumption
    | intro _
    | (with_reducible first
        | apply keeps_ite | apply keeps_ite_snd | apply keepsO_next | apply keepsO_ite | apply keepsO_dite
        | apply kept_sdoGo))

end Sys2Proof.Machine
end

