-- ==== Sys2Proof/Laws/Frame.lean ====
section
/-! SUPPORT. A part of the state that is the same as in an earlier state stays so under a change of any other part: the properties
to which the lemmas of the files `Kept…` are applied for a frame. -/

namespace Sys2Proof.Machine

variable {s₀ : State} {x : Part}

theorem same_now (h : x ≠ .now) : Ignores.now (fun t => s₀.same t x) := by
  intro _ _ e
  cases x <;> first | exact e | exact absurd rfl h

theorem same_role (h : x ≠ .role) : Ignores.role (fun t => s₀.same t x) := by
  intro _ _ e
  cases x <;> first | exact e | exact absurd rfl h

theorem same_life (h : x ≠ .life) : Ignores.life (fun t => s₀.same t x) := by
  intro _ _ e
  cases x <;> first | exact e | exact absurd rfl h

theorem same_straps (h : x ≠ .straps) : Ignores.straps (fun t => s₀.same t x) := by
  intro _ _ e
  cases x <;> first | exact e | exact absurd rfl h

theorem same_railsGood (h : x ≠ .railsGood) : Ignores.railsGood (fun t => s₀.same t x) := by
  intro _ _ e
  cases x <;> first | exact e | exact absurd rfl h

theorem same_od (h : x ≠ .od) : Ignores.od (fun t => s₀.same t x) := by
  intro _ _ _ e
  cases x <;> first | exact e | exact absurd rfl h

theorem same_control (h : x ≠ .control) : Ignores.control (fun t => s₀.same t x) := by
  intro _ _ e
  cases x <;> first | exact e | exact absurd rfl h

theorem same_clocks (h : x ≠ .clocks) : Ignores.clocks (fun t => s₀.same t x) := by
  intro _ _ e
  cases x <;> first | exact e | exact absurd rfl h

theorem same_thermal (h : x ≠ .thermal) : Ignores.thermal (fun t => s₀.same t x) := by
  intro _ _ e
  cases x <;> first | exact e | exact absurd rfl h

theorem same_otp (h : x ≠ .otp) : Ignores.otp (fun t => s₀.same t x) := by
  intro _ _ _ e
  cases x <;> first | exact e | exact absurd rfl h

theorem same_nvm (h : x ≠ .nvm) : Ignores.nvm (fun t => s₀.same t x) := by
  intro _ _ _ e
  cases x <;> first | exact e | exact absurd rfl h

theorem same_update (h : x ≠ .update) : Ignores.update (fun t => s₀.same t x) := by
  intro _ _ e
  cases x <;> first | exact e | exact absurd rfl h

theorem same_beat (h : x ≠ .beat) : Ignores.beat (fun t => s₀.same t x) := by
  intro _ _ e
  cases x <;> first | exact e | exact absurd rfl h

theorem same_tap (h : x ≠ .tap) : Ignores.tap (fun t => s₀.same t x) := by
  intro _ _ e
  cases x <;> first | exact e | exact absurd rfl h

theorem same_hostPort (h : x ≠ .hostPort) : Ignores.hostPort (fun t => s₀.same t x) := by
  intro _ _ e
  cases x <;> first | exact e | exact absurd rfl h

theorem same_lanes (h : x ≠ .lanes) : Ignores.lanes (fun t => s₀.same t x) := by
  intro _ _ e
  cases x <;> first | exact e | exact absurd rfl h

theorem same_quartz (h : x ≠ .quartz) : Ignores.quartz (fun t => s₀.same t x) := by
  intro _ _ e
  cases x <;> first | exact e | exact absurd rfl h

theorem same_tile (h : x ≠ .tile) : Ignores.tile (fun t => s₀.same t x) := by
  intro _ _ e
  cases x <;> first | exact e | exact absurd rfl h

theorem same_ports (h : x ≠ .ports) : Ignores.ports (fun t => s₀.same t x) := by
  intro _ _ e
  cases x <;> first | exact e | exact absurd rfl h

theorem same_cascade (h : x ≠ .cascade) : Ignores.cascade (fun t => s₀.same t x) := by
  intro _ _ e
  cases x <;> first | exact e | exact absurd rfl h

theorem same_ingress (h : x ≠ .ingress) : Ignores.ingress (fun t => s₀.same t x) := by
  intro _ _ e
  cases x <;> first | exact e | exact absurd rfl h

theorem same_video (h : x ≠ .video) : Ignores.video (fun t => s₀.same t x) := by
  intro _ _ e
  cases x <;> first | exact e | exact absurd rfl h

theorem same_lamps (h : x ≠ .lamps) : Ignores.lamps (fun t => s₀.same t x) := by
  intro _ _ e
  cases x <;> first | exact e | exact absurd rfl h

theorem same_sent (h : x ≠ .sent) : Ignores.sent (fun t => s₀.same t x) := by
  intro _ _ e
  cases x <;> first | exact e | exact absurd rfl h

theorem same_freeCount (h : x ≠ .freeCount) : Ignores.freeCount (fun t => s₀.same t x) := by
  intro _ _ e
  cases x <;> first | exact e | exact absurd rfl h

theorem same_pending (h : x ≠ .pending) : Ignores.pending (fun t => s₀.same t x) := by
  intro _ _ e
  cases x <;> first | exact e | exact absurd rfl h

/-- Where an outcome keeps a part, each next state that it answers has the part as it was. -/
theorem same_next {o : Out1} {t : State} (k : KeepsO (fun t => s₀.same t x) o) (h : o = .next t) : s₀.same t x := k.next t h

/-- The part is the same in the state itself. -/
theorem same_self (s : State) (x : Part) : s.same s x := by cases x <;> rfl

end Sys2Proof.Machine
end

