-- ==== Sys2Proof/Laws/State.lean ====
section
/-! SUPPORT. What each update of the state leaves alone, one lemma for each update and each field it does not write. -/

namespace Sys2Proof.Machine

open Host

@[simp] theorem withQuartz_quartz (s : State) (a1 : Quartz → Quartz) : (s.withQuartz a1).quartz = a1 s.quartz := rfl
@[simp] theorem withQuartz_now (s : State) (a1 : Quartz → Quartz) : (s.withQuartz a1).now = s.now := rfl
@[simp] theorem withQuartz_role (s : State) (a1 : Quartz → Quartz) : (s.withQuartz a1).role = s.role := rfl
@[simp] theorem withQuartz_life (s : State) (a1 : Quartz → Quartz) : (s.withQuartz a1).life = s.life := rfl
@[simp] theorem withQuartz_straps (s : State) (a1 : Quartz → Quartz) : (s.withQuartz a1).straps = s.straps := rfl
@[simp] theorem withQuartz_railsGood (s : State) (a1 : Quartz → Quartz) : (s.withQuartz a1).railsGood = s.railsGood := rfl
@[simp] theorem withQuartz_od (s : State) (a1 : Quartz → Quartz) : (s.withQuartz a1).od = s.od := rfl
@[simp] theorem withQuartz_control (s : State) (a1 : Quartz → Quartz) : (s.withQuartz a1).control = s.control := rfl
@[simp] theorem withQuartz_clocks (s : State) (a1 : Quartz → Quartz) : (s.withQuartz a1).clocks = s.clocks := rfl
@[simp] theorem withQuartz_thermal (s : State) (a1 : Quartz → Quartz) : (s.withQuartz a1).thermal = s.thermal := rfl
@[simp] theorem withQuartz_otp (s : State) (a1 : Quartz → Quartz) : (s.withQuartz a1).otp = s.otp := rfl
@[simp] theorem withQuartz_nvm (s : State) (a1 : Quartz → Quartz) : (s.withQuartz a1).nvm = s.nvm := rfl
@[simp] theorem withQuartz_update (s : State) (a1 : Quartz → Quartz) : (s.withQuartz a1).update = s.update := rfl
@[simp] theorem withQuartz_beat (s : State) (a1 : Quartz → Quartz) : (s.withQuartz a1).beat = s.beat := rfl
@[simp] theorem withQuartz_tap (s : State) (a1 : Quartz → Quartz) : (s.withQuartz a1).tap = s.tap := rfl
@[simp] theorem withQuartz_hostPort (s : State) (a1 : Quartz → Quartz) : (s.withQuartz a1).hostPort = s.hostPort := rfl
@[simp] theorem withQuartz_lanes (s : State) (a1 : Quartz → Quartz) : (s.withQuartz a1).lanes = s.lanes := rfl
@[simp] theorem withQuartz_tile (s : State) (a1 : Quartz → Quartz) : (s.withQuartz a1).tile = s.tile := rfl
@[simp] theorem withQuartz_ports (s : State) (a1 : Quartz → Quartz) : (s.withQuartz a1).ports = s.ports := rfl
@[simp] theorem withQuartz_cascade (s : State) (a1 : Quartz → Quartz) : (s.withQuartz a1).cascade = s.cascade := rfl
@[simp] theorem withQuartz_ingress (s : State) (a1 : Quartz → Quartz) : (s.withQuartz a1).ingress = s.ingress := rfl
@[simp] theorem withQuartz_video (s : State) (a1 : Quartz → Quartz) : (s.withQuartz a1).video = s.video := rfl
@[simp] theorem withQuartz_lamps (s : State) (a1 : Quartz → Quartz) : (s.withQuartz a1).lamps = s.lamps := rfl
@[simp] theorem withQuartz_sent (s : State) (a1 : Quartz → Quartz) : (s.withQuartz a1).sent = s.sent := rfl
@[simp] theorem withQuartz_freeCount (s : State) (a1 : Quartz → Quartz) : (s.withQuartz a1).freeCount = s.freeCount := rfl
@[simp] theorem withQuartz_pending (s : State) (a1 : Quartz → Quartz) : (s.withQuartz a1).pending = s.pending := rfl

@[simp] theorem withBb_now (s : State) (a1 : BlackBox → BlackBox) : (s.withBb a1).now = s.now := rfl
@[simp] theorem withBb_role (s : State) (a1 : BlackBox → BlackBox) : (s.withBb a1).role = s.role := rfl
@[simp] theorem withBb_life (s : State) (a1 : BlackBox → BlackBox) : (s.withBb a1).life = s.life := rfl
@[simp] theorem withBb_straps (s : State) (a1 : BlackBox → BlackBox) : (s.withBb a1).straps = s.straps := rfl
@[simp] theorem withBb_railsGood (s : State) (a1 : BlackBox → BlackBox) : (s.withBb a1).railsGood = s.railsGood := rfl
@[simp] theorem withBb_od (s : State) (a1 : BlackBox → BlackBox) : (s.withBb a1).od = s.od := rfl
@[simp] theorem withBb_control (s : State) (a1 : BlackBox → BlackBox) : (s.withBb a1).control = s.control := rfl
@[simp] theorem withBb_clocks (s : State) (a1 : BlackBox → BlackBox) : (s.withBb a1).clocks = s.clocks := rfl
@[simp] theorem withBb_thermal (s : State) (a1 : BlackBox → BlackBox) : (s.withBb a1).thermal = s.thermal := rfl
@[simp] theorem withBb_otp (s : State) (a1 : BlackBox → BlackBox) : (s.withBb a1).otp = s.otp := rfl
@[simp] theorem withBb_update (s : State) (a1 : BlackBox → BlackBox) : (s.withBb a1).update = s.update := rfl
@[simp] theorem withBb_beat (s : State) (a1 : BlackBox → BlackBox) : (s.withBb a1).beat = s.beat := rfl
@[simp] theorem withBb_tap (s : State) (a1 : BlackBox → BlackBox) : (s.withBb a1).tap = s.tap := rfl
@[simp] theorem withBb_hostPort (s : State) (a1 : BlackBox → BlackBox) : (s.withBb a1).hostPort = s.hostPort := rfl
@[simp] theorem withBb_lanes (s : State) (a1 : BlackBox → BlackBox) : (s.withBb a1).lanes = s.lanes := rfl
@[simp] theorem withBb_quartz (s : State) (a1 : BlackBox → BlackBox) : (s.withBb a1).quartz = s.quartz := rfl
@[simp] theorem withBb_tile (s : State) (a1 : BlackBox → BlackBox) : (s.withBb a1).tile = s.tile := rfl
@[simp] theorem withBb_ports (s : State) (a1 : BlackBox → BlackBox) : (s.withBb a1).ports = s.ports := rfl
@[simp] theorem withBb_cascade (s : State) (a1 : BlackBox → BlackBox) : (s.withBb a1).cascade = s.cascade := rfl
@[simp] theorem withBb_ingress (s : State) (a1 : BlackBox → BlackBox) : (s.withBb a1).ingress = s.ingress := rfl
@[simp] theorem withBb_video (s : State) (a1 : BlackBox → BlackBox) : (s.withBb a1).video = s.video := rfl
@[simp] theorem withBb_lamps (s : State) (a1 : BlackBox → BlackBox) : (s.withBb a1).lamps = s.lamps := rfl
@[simp] theorem withBb_sent (s : State) (a1 : BlackBox → BlackBox) : (s.withBb a1).sent = s.sent := rfl
@[simp] theorem withBb_freeCount (s : State) (a1 : BlackBox → BlackBox) : (s.withBb a1).freeCount = s.freeCount := rfl
@[simp] theorem withBb_pending (s : State) (a1 : BlackBox → BlackBox) : (s.withBb a1).pending = s.pending := rfl

@[simp] theorem withChain_now (s : State) (a1 : Fin 2) (a2 : ChainPort → ChainPort) : (s.withChain a1 a2).now = s.now := rfl
@[simp] theorem withChain_role (s : State) (a1 : Fin 2) (a2 : ChainPort → ChainPort) : (s.withChain a1 a2).role = s.role := rfl
@[simp] theorem withChain_life (s : State) (a1 : Fin 2) (a2 : ChainPort → ChainPort) : (s.withChain a1 a2).life = s.life := rfl
@[simp] theorem withChain_straps (s : State) (a1 : Fin 2) (a2 : ChainPort → ChainPort) : (s.withChain a1 a2).straps = s.straps := rfl
@[simp] theorem withChain_railsGood (s : State) (a1 : Fin 2) (a2 : ChainPort → ChainPort) : (s.withChain a1 a2).railsGood = s.railsGood := rfl
@[simp] theorem withChain_od (s : State) (a1 : Fin 2) (a2 : ChainPort → ChainPort) : (s.withChain a1 a2).od = s.od := rfl
@[simp] theorem withChain_control (s : State) (a1 : Fin 2) (a2 : ChainPort → ChainPort) : (s.withChain a1 a2).control = s.control := rfl
@[simp] theorem withChain_clocks (s : State) (a1 : Fin 2) (a2 : ChainPort → ChainPort) : (s.withChain a1 a2).clocks = s.clocks := rfl
@[simp] theorem withChain_thermal (s : State) (a1 : Fin 2) (a2 : ChainPort → ChainPort) : (s.withChain a1 a2).thermal = s.thermal := rfl
@[simp] theorem withChain_otp (s : State) (a1 : Fin 2) (a2 : ChainPort → ChainPort) : (s.withChain a1 a2).otp = s.otp := rfl
@[simp] theorem withChain_nvm (s : State) (a1 : Fin 2) (a2 : ChainPort → ChainPort) : (s.withChain a1 a2).nvm = s.nvm := rfl
@[simp] theorem withChain_update (s : State) (a1 : Fin 2) (a2 : ChainPort → ChainPort) : (s.withChain a1 a2).update = s.update := rfl
@[simp] theorem withChain_beat (s : State) (a1 : Fin 2) (a2 : ChainPort → ChainPort) : (s.withChain a1 a2).beat = s.beat := rfl
@[simp] theorem withChain_tap (s : State) (a1 : Fin 2) (a2 : ChainPort → ChainPort) : (s.withChain a1 a2).tap = s.tap := rfl
@[simp] theorem withChain_hostPort (s : State) (a1 : Fin 2) (a2 : ChainPort → ChainPort) : (s.withChain a1 a2).hostPort = s.hostPort := rfl
@[simp] theorem withChain_lanes (s : State) (a1 : Fin 2) (a2 : ChainPort → ChainPort) : (s.withChain a1 a2).lanes = s.lanes := rfl
@[simp] theorem withChain_quartz (s : State) (a1 : Fin 2) (a2 : ChainPort → ChainPort) : (s.withChain a1 a2).quartz = s.quartz := rfl
@[simp] theorem withChain_tile (s : State) (a1 : Fin 2) (a2 : ChainPort → ChainPort) : (s.withChain a1 a2).tile = s.tile := rfl
@[simp] theorem withChain_cascade (s : State) (a1 : Fin 2) (a2 : ChainPort → ChainPort) : (s.withChain a1 a2).cascade = s.cascade := rfl
@[simp] theorem withChain_ingress (s : State) (a1 : Fin 2) (a2 : ChainPort → ChainPort) : (s.withChain a1 a2).ingress = s.ingress := rfl
@[simp] theorem withChain_video (s : State) (a1 : Fin 2) (a2 : ChainPort → ChainPort) : (s.withChain a1 a2).video = s.video := rfl
@[simp] theorem withChain_lamps (s : State) (a1 : Fin 2) (a2 : ChainPort → ChainPort) : (s.withChain a1 a2).lamps = s.lamps := rfl
@[simp] theorem withChain_sent (s : State) (a1 : Fin 2) (a2 : ChainPort → ChainPort) : (s.withChain a1 a2).sent = s.sent := rfl
@[simp] theorem withChain_freeCount (s : State) (a1 : Fin 2) (a2 : ChainPort → ChainPort) : (s.withChain a1 a2).freeCount = s.freeCount := rfl
@[simp] theorem withChain_pending (s : State) (a1 : Fin 2) (a2 : ChainPort → ChainPort) : (s.withChain a1 a2).pending = s.pending := rfl

@[simp] theorem withControl_control (s : State) (a1 : Control → Control) : (s.withControl a1).control = a1 s.control := rfl
@[simp] theorem withControl_now (s : State) (a1 : Control → Control) : (s.withControl a1).now = s.now := rfl
@[simp] theorem withControl_role (s : State) (a1 : Control → Control) : (s.withControl a1).role = s.role := rfl
@[simp] theorem withControl_life (s : State) (a1 : Control → Control) : (s.withControl a1).life = s.life := rfl
@[simp] theorem withControl_straps (s : State) (a1 : Control → Control) : (s.withControl a1).straps = s.straps := rfl
@[simp] theorem withControl_railsGood (s : State) (a1 : Control → Control) : (s.withControl a1).railsGood = s.railsGood := rfl
@[simp] theorem withControl_od (s : State) (a1 : Control → Control) : (s.withControl a1).od = s.od := rfl
@[simp] theorem withControl_clocks (s : State) (a1 : Control → Control) : (s.withControl a1).clocks = s.clocks := rfl
@[simp] theorem withControl_thermal (s : State) (a1 : Control → Control) : (s.withControl a1).thermal = s.thermal := rfl
@[simp] theorem withControl_otp (s : State) (a1 : Control → Control) : (s.withControl a1).otp = s.otp := rfl
@[simp] theorem withControl_nvm (s : State) (a1 : Control → Control) : (s.withControl a1).nvm = s.nvm := rfl
@[simp] theorem withControl_update (s : State) (a1 : Control → Control) : (s.withControl a1).update = s.update := rfl
@[simp] theorem withControl_beat (s : State) (a1 : Control → Control) : (s.withControl a1).beat = s.beat := rfl
@[simp] theorem withControl_tap (s : State) (a1 : Control → Control) : (s.withControl a1).tap = s.tap := rfl
@[simp] theorem withControl_hostPort (s : State) (a1 : Control → Control) : (s.withControl a1).hostPort = s.hostPort := rfl
@[simp] theorem withControl_lanes (s : State) (a1 : Control → Control) : (s.withControl a1).lanes = s.lanes := rfl
@[simp] theorem withControl_quartz (s : State) (a1 : Control → Control) : (s.withControl a1).quartz = s.quartz := rfl
@[simp] theorem withControl_tile (s : State) (a1 : Control → Control) : (s.withControl a1).tile = s.tile := rfl
@[simp] theorem withControl_ports (s : State) (a1 : Control → Control) : (s.withControl a1).ports = s.ports := rfl
@[simp] theorem withControl_cascade (s : State) (a1 : Control → Control) : (s.withControl a1).cascade = s.cascade := rfl
@[simp] theorem withControl_ingress (s : State) (a1 : Control → Control) : (s.withControl a1).ingress = s.ingress := rfl
@[simp] theorem withControl_video (s : State) (a1 : Control → Control) : (s.withControl a1).video = s.video := rfl
@[simp] theorem withControl_lamps (s : State) (a1 : Control → Control) : (s.withControl a1).lamps = s.lamps := rfl
@[simp] theorem withControl_sent (s : State) (a1 : Control → Control) : (s.withControl a1).sent = s.sent := rfl
@[simp] theorem withControl_freeCount (s : State) (a1 : Control → Control) : (s.withControl a1).freeCount = s.freeCount := rfl
@[simp] theorem withControl_pending (s : State) (a1 : Control → Control) : (s.withControl a1).pending = s.pending := rfl

@[simp] theorem withIngress_ingress (s : State) (a1 : Ingress → Ingress) : (s.withIngress a1).ingress = a1 s.ingress := rfl
@[simp] theorem withIngress_now (s : State) (a1 : Ingress → Ingress) : (s.withIngress a1).now = s.now := rfl
@[simp] theorem withIngress_role (s : State) (a1 : Ingress → Ingress) : (s.withIngress a1).role = s.role := rfl
@[simp] theorem withIngress_life (s : State) (a1 : Ingress → Ingress) : (s.withIngress a1).life = s.life := rfl
@[simp] theorem withIngress_straps (s : State) (a1 : Ingress → Ingress) : (s.withIngress a1).straps = s.straps := rfl
@[simp] theorem withIngress_railsGood (s : State) (a1 : Ingress → Ingress) : (s.withIngress a1).railsGood = s.railsGood := rfl
@[simp] theorem withIngress_od (s : State) (a1 : Ingress → Ingress) : (s.withIngress a1).od = s.od := rfl
@[simp] theorem withIngress_control (s : State) (a1 : Ingress → Ingress) : (s.withIngress a1).control = s.control := rfl
@[simp] theorem withIngress_clocks (s : State) (a1 : Ingress → Ingress) : (s.withIngress a1).clocks = s.clocks := rfl
@[simp] theorem withIngress_thermal (s : State) (a1 : Ingress → Ingress) : (s.withIngress a1).thermal = s.thermal := rfl
@[simp] theorem withIngress_otp (s : State) (a1 : Ingress → Ingress) : (s.withIngress a1).otp = s.otp := rfl
@[simp] theorem withIngress_nvm (s : State) (a1 : Ingress → Ingress) : (s.withIngress a1).nvm = s.nvm := rfl
@[simp] theorem withIngress_update (s : State) (a1 : Ingress → Ingress) : (s.withIngress a1).update = s.update := rfl
@[simp] theorem withIngress_beat (s : State) (a1 : Ingress → Ingress) : (s.withIngress a1).beat = s.beat := rfl
@[simp] theorem withIngress_tap (s : State) (a1 : Ingress → Ingress) : (s.withIngress a1).tap = s.tap := rfl
@[simp] theorem withIngress_hostPort (s : State) (a1 : Ingress → Ingress) : (s.withIngress a1).hostPort = s.hostPort := rfl
@[simp] theorem withIngress_lanes (s : State) (a1 : Ingress → Ingress) : (s.withIngress a1).lanes = s.lanes := rfl
@[simp] theorem withIngress_quartz (s : State) (a1 : Ingress → Ingress) : (s.withIngress a1).quartz = s.quartz := rfl
@[simp] theorem withIngress_tile (s : State) (a1 : Ingress → Ingress) : (s.withIngress a1).tile = s.tile := rfl
@[simp] theorem withIngress_ports (s : State) (a1 : Ingress → Ingress) : (s.withIngress a1).ports = s.ports := rfl
@[simp] theorem withIngress_cascade (s : State) (a1 : Ingress → Ingress) : (s.withIngress a1).cascade = s.cascade := rfl
@[simp] theorem withIngress_video (s : State) (a1 : Ingress → Ingress) : (s.withIngress a1).video = s.video := rfl
@[simp] theorem withIngress_lamps (s : State) (a1 : Ingress → Ingress) : (s.withIngress a1).lamps = s.lamps := rfl
@[simp] theorem withIngress_sent (s : State) (a1 : Ingress → Ingress) : (s.withIngress a1).sent = s.sent := rfl
@[simp] theorem withIngress_freeCount (s : State) (a1 : Ingress → Ingress) : (s.withIngress a1).freeCount = s.freeCount := rfl
@[simp] theorem withIngress_pending (s : State) (a1 : Ingress → Ingress) : (s.withIngress a1).pending = s.pending := rfl

@[simp] theorem withStream_now (s : State) (a1 : Fin 32) (a2 : StreamRun → StreamRun) : (s.withStream a1 a2).now = s.now := 
  kept_withStream (π := fun t => t.now = s.now) (fun _ _ h => h) s a1 a2 rfl
@[simp] theorem withStream_role (s : State) (a1 : Fin 32) (a2 : StreamRun → StreamRun) : (s.withStream a1 a2).role = s.role := 
  kept_withStream (π := fun t => t.role = s.role) (fun _ _ h => h) s a1 a2 rfl
@[simp] theorem withStream_life (s : State) (a1 : Fin 32) (a2 : StreamRun → StreamRun) : (s.withStream a1 a2).life = s.life := 
  kept_withStream (π := fun t => t.life = s.life) (fun _ _ h => h) s a1 a2 rfl
@[simp] theorem withStream_straps (s : State) (a1 : Fin 32) (a2 : StreamRun → StreamRun) : (s.withStream a1 a2).straps = s.straps := 
  kept_withStream (π := fun t => t.straps = s.straps) (fun _ _ h => h) s a1 a2 rfl
@[simp] theorem withStream_railsGood (s : State) (a1 : Fin 32) (a2 : StreamRun → StreamRun) : (s.withStream a1 a2).railsGood = s.railsGood := 
  kept_withStream (π := fun t => t.railsGood = s.railsGood) (fun _ _ h => h) s a1 a2 rfl
@[simp] theorem withStream_od (s : State) (a1 : Fin 32) (a2 : StreamRun → StreamRun) : (s.withStream a1 a2).od = s.od := 
  kept_withStream (π := fun t => t.od = s.od) (fun _ _ h => h) s a1 a2 rfl
@[simp] theorem withStream_control (s : State) (a1 : Fin 32) (a2 : StreamRun → StreamRun) : (s.withStream a1 a2).control = s.control := 
  kept_withStream (π := fun t => t.control = s.control) (fun _ _ h => h) s a1 a2 rfl
@[simp] theorem withStream_clocks (s : State) (a1 : Fin 32) (a2 : StreamRun → StreamRun) : (s.withStream a1 a2).clocks = s.clocks := 
  kept_withStream (π := fun t => t.clocks = s.clocks) (fun _ _ h => h) s a1 a2 rfl
@[simp] theorem withStream_thermal (s : State) (a1 : Fin 32) (a2 : StreamRun → StreamRun) : (s.withStream a1 a2).thermal = s.thermal := 
  kept_withStream (π := fun t => t.thermal = s.thermal) (fun _ _ h => h) s a1 a2 rfl
@[simp] theorem withStream_otp (s : State) (a1 : Fin 32) (a2 : StreamRun → StreamRun) : (s.withStream a1 a2).otp = s.otp := 
  kept_withStream (π := fun t => t.otp = s.otp) (fun _ _ h => h) s a1 a2 rfl
@[simp] theorem withStream_nvm (s : State) (a1 : Fin 32) (a2 : StreamRun → StreamRun) : (s.withStream a1 a2).nvm = s.nvm := 
  kept_withStream (π := fun t => t.nvm = s.nvm) (fun _ _ h => h) s a1 a2 rfl
@[simp] theorem withStream_update (s : State) (a1 : Fin 32) (a2 : StreamRun → StreamRun) : (s.withStream a1 a2).update = s.update := 
  kept_withStream (π := fun t => t.update = s.update) (fun _ _ h => h) s a1 a2 rfl
@[simp] theorem withStream_beat (s : State) (a1 : Fin 32) (a2 : StreamRun → StreamRun) : (s.withStream a1 a2).beat = s.beat := 
  kept_withStream (π := fun t => t.beat = s.beat) (fun _ _ h => h) s a1 a2 rfl
@[simp] theorem withStream_tap (s : State) (a1 : Fin 32) (a2 : StreamRun → StreamRun) : (s.withStream a1 a2).tap = s.tap := 
  kept_withStream (π := fun t => t.tap = s.tap) (fun _ _ h => h) s a1 a2 rfl
@[simp] theorem withStream_hostPort (s : State) (a1 : Fin 32) (a2 : StreamRun → StreamRun) : (s.withStream a1 a2).hostPort = s.hostPort := 
  kept_withStream (π := fun t => t.hostPort = s.hostPort) (fun _ _ h => h) s a1 a2 rfl
@[simp] theorem withStream_lanes (s : State) (a1 : Fin 32) (a2 : StreamRun → StreamRun) : (s.withStream a1 a2).lanes = s.lanes := 
  kept_withStream (π := fun t => t.lanes = s.lanes) (fun _ _ h => h) s a1 a2 rfl
@[simp] theorem withStream_quartz (s : State) (a1 : Fin 32) (a2 : StreamRun → StreamRun) : (s.withStream a1 a2).quartz = s.quartz := 
  kept_withStream (π := fun t => t.quartz = s.quartz) (fun _ _ h => h) s a1 a2 rfl
@[simp] theorem withStream_tile (s : State) (a1 : Fin 32) (a2 : StreamRun → StreamRun) : (s.withStream a1 a2).tile = s.tile := 
  kept_withStream (π := fun t => t.tile = s.tile) (fun _ _ h => h) s a1 a2 rfl
@[simp] theorem withStream_ports (s : State) (a1 : Fin 32) (a2 : StreamRun → StreamRun) : (s.withStream a1 a2).ports = s.ports := 
  kept_withStream (π := fun t => t.ports = s.ports) (fun _ _ h => h) s a1 a2 rfl
@[simp] theorem withStream_cascade (s : State) (a1 : Fin 32) (a2 : StreamRun → StreamRun) : (s.withStream a1 a2).cascade = s.cascade := 
  kept_withStream (π := fun t => t.cascade = s.cascade) (fun _ _ h => h) s a1 a2 rfl
@[simp] theorem withStream_video (s : State) (a1 : Fin 32) (a2 : StreamRun → StreamRun) : (s.withStream a1 a2).video = s.video := 
  kept_withStream (π := fun t => t.video = s.video) (fun _ _ h => h) s a1 a2 rfl
@[simp] theorem withStream_lamps (s : State) (a1 : Fin 32) (a2 : StreamRun → StreamRun) : (s.withStream a1 a2).lamps = s.lamps := 
  kept_withStream (π := fun t => t.lamps = s.lamps) (fun _ _ h => h) s a1 a2 rfl
@[simp] theorem withStream_sent (s : State) (a1 : Fin 32) (a2 : StreamRun → StreamRun) : (s.withStream a1 a2).sent = s.sent := 
  kept_withStream (π := fun t => t.sent = s.sent) (fun _ _ h => h) s a1 a2 rfl
@[simp] theorem withStream_freeCount (s : State) (a1 : Fin 32) (a2 : StreamRun → StreamRun) : (s.withStream a1 a2).freeCount = s.freeCount := 
  kept_withStream (π := fun t => t.freeCount = s.freeCount) (fun _ _ h => h) s a1 a2 rfl
@[simp] theorem withStream_pending (s : State) (a1 : Fin 32) (a2 : StreamRun → StreamRun) : (s.withStream a1 a2).pending = s.pending := 
  kept_withStream (π := fun t => t.pending = s.pending) (fun _ _ h => h) s a1 a2 rfl

@[simp] theorem withNvm_nvm (s : State) (a1 : Nvm → Nvm) : (s.withNvm a1).nvm = a1 s.nvm := rfl
@[simp] theorem withNvm_now (s : State) (a1 : Nvm → Nvm) : (s.withNvm a1).now = s.now := rfl
@[simp] theorem withNvm_role (s : State) (a1 : Nvm → Nvm) : (s.withNvm a1).role = s.role := rfl
@[simp] theorem withNvm_life (s : State) (a1 : Nvm → Nvm) : (s.withNvm a1).life = s.life := rfl
@[simp] theorem withNvm_straps (s : State) (a1 : Nvm → Nvm) : (s.withNvm a1).straps = s.straps := rfl
@[simp] theorem withNvm_railsGood (s : State) (a1 : Nvm → Nvm) : (s.withNvm a1).railsGood = s.railsGood := rfl
@[simp] theorem withNvm_od (s : State) (a1 : Nvm → Nvm) : (s.withNvm a1).od = s.od := rfl
@[simp] theorem withNvm_control (s : State) (a1 : Nvm → Nvm) : (s.withNvm a1).control = s.control := rfl
@[simp] theorem withNvm_clocks (s : State) (a1 : Nvm → Nvm) : (s.withNvm a1).clocks = s.clocks := rfl
@[simp] theorem withNvm_thermal (s : State) (a1 : Nvm → Nvm) : (s.withNvm a1).thermal = s.thermal := rfl
@[simp] theorem withNvm_otp (s : State) (a1 : Nvm → Nvm) : (s.withNvm a1).otp = s.otp := rfl
@[simp] theorem withNvm_update (s : State) (a1 : Nvm → Nvm) : (s.withNvm a1).update = s.update := rfl
@[simp] theorem withNvm_beat (s : State) (a1 : Nvm → Nvm) : (s.withNvm a1).beat = s.beat := rfl
@[simp] theorem withNvm_tap (s : State) (a1 : Nvm → Nvm) : (s.withNvm a1).tap = s.tap := rfl
@[simp] theorem withNvm_hostPort (s : State) (a1 : Nvm → Nvm) : (s.withNvm a1).hostPort = s.hostPort := rfl
@[simp] theorem withNvm_lanes (s : State) (a1 : Nvm → Nvm) : (s.withNvm a1).lanes = s.lanes := rfl
@[simp] theorem withNvm_quartz (s : State) (a1 : Nvm → Nvm) : (s.withNvm a1).quartz = s.quartz := rfl
@[simp] theorem withNvm_tile (s : State) (a1 : Nvm → Nvm) : (s.withNvm a1).tile = s.tile := rfl
@[simp] theorem withNvm_ports (s : State) (a1 : Nvm → Nvm) : (s.withNvm a1).ports = s.ports := rfl
@[simp] theorem withNvm_cascade (s : State) (a1 : Nvm → Nvm) : (s.withNvm a1).cascade = s.cascade := rfl
@[simp] theorem withNvm_ingress (s : State) (a1 : Nvm → Nvm) : (s.withNvm a1).ingress = s.ingress := rfl
@[simp] theorem withNvm_video (s : State) (a1 : Nvm → Nvm) : (s.withNvm a1).video = s.video := rfl
@[simp] theorem withNvm_lamps (s : State) (a1 : Nvm → Nvm) : (s.withNvm a1).lamps = s.lamps := rfl
@[simp] theorem withNvm_sent (s : State) (a1 : Nvm → Nvm) : (s.withNvm a1).sent = s.sent := rfl
@[simp] theorem withNvm_freeCount (s : State) (a1 : Nvm → Nvm) : (s.withNvm a1).freeCount = s.freeCount := rfl
@[simp] theorem withNvm_pending (s : State) (a1 : Nvm → Nvm) : (s.withNvm a1).pending = s.pending := rfl

@[simp] theorem withThermal_thermal (s : State) (a1 : Thermal → Thermal) : (s.withThermal a1).thermal = a1 s.thermal := rfl
@[simp] theorem withThermal_now (s : State) (a1 : Thermal → Thermal) : (s.withThermal a1).now = s.now := rfl
@[simp] theorem withThermal_role (s : State) (a1 : Thermal → Thermal) : (s.withThermal a1).role = s.role := rfl
@[simp] theorem withThermal_life (s : State) (a1 : Thermal → Thermal) : (s.withThermal a1).life = s.life := rfl
@[simp] theorem withThermal_straps (s : State) (a1 : Thermal → Thermal) : (s.withThermal a1).straps = s.straps := rfl
@[simp] theorem withThermal_railsGood (s : State) (a1 : Thermal → Thermal) : (s.withThermal a1).railsGood = s.railsGood := rfl
@[simp] theorem withThermal_od (s : State) (a1 : Thermal → Thermal) : (s.withThermal a1).od = s.od := rfl
@[simp] theorem withThermal_control (s : State) (a1 : Thermal → Thermal) : (s.withThermal a1).control = s.control := rfl
@[simp] theorem withThermal_clocks (s : State) (a1 : Thermal → Thermal) : (s.withThermal a1).clocks = s.clocks := rfl
@[simp] theorem withThermal_otp (s : State) (a1 : Thermal → Thermal) : (s.withThermal a1).otp = s.otp := rfl
@[simp] theorem withThermal_nvm (s : State) (a1 : Thermal → Thermal) : (s.withThermal a1).nvm = s.nvm := rfl
@[simp] theorem withThermal_update (s : State) (a1 : Thermal → Thermal) : (s.withThermal a1).update = s.update := rfl
@[simp] theorem withThermal_beat (s : State) (a1 : Thermal → Thermal) : (s.withThermal a1).beat = s.beat := rfl
@[simp] theorem withThermal_tap (s : State) (a1 : Thermal → Thermal) : (s.withThermal a1).tap = s.tap := rfl
@[simp] theorem withThermal_hostPort (s : State) (a1 : Thermal → Thermal) : (s.withThermal a1).hostPort = s.hostPort := rfl
@[simp] theorem withThermal_lanes (s : State) (a1 : Thermal → Thermal) : (s.withThermal a1).lanes = s.lanes := rfl
@[simp] theorem withThermal_quartz (s : State) (a1 : Thermal → Thermal) : (s.withThermal a1).quartz = s.quartz := rfl
@[simp] theorem withThermal_tile (s : State) (a1 : Thermal → Thermal) : (s.withThermal a1).tile = s.tile := rfl
@[simp] theorem withThermal_ports (s : State) (a1 : Thermal → Thermal) : (s.withThermal a1).ports = s.ports := rfl
@[simp] theorem withThermal_cascade (s : State) (a1 : Thermal → Thermal) : (s.withThermal a1).cascade = s.cascade := rfl
@[simp] theorem withThermal_ingress (s : State) (a1 : Thermal → Thermal) : (s.withThermal a1).ingress = s.ingress := rfl
@[simp] theorem withThermal_video (s : State) (a1 : Thermal → Thermal) : (s.withThermal a1).video = s.video := rfl
@[simp] theorem withThermal_lamps (s : State) (a1 : Thermal → Thermal) : (s.withThermal a1).lamps = s.lamps := rfl
@[simp] theorem withThermal_sent (s : State) (a1 : Thermal → Thermal) : (s.withThermal a1).sent = s.sent := rfl
@[simp] theorem withThermal_freeCount (s : State) (a1 : Thermal → Thermal) : (s.withThermal a1).freeCount = s.freeCount := rfl
@[simp] theorem withThermal_pending (s : State) (a1 : Thermal → Thermal) : (s.withThermal a1).pending = s.pending := rfl

@[simp] theorem withEngine_now (s : State) (a1 : Fin 64) (a2 : Engine → Engine) : (s.withEngine a1 a2).now = s.now := rfl
@[simp] theorem withEngine_role (s : State) (a1 : Fin 64) (a2 : Engine → Engine) : (s.withEngine a1 a2).role = s.role := rfl
@[simp] theorem withEngine_life (s : State) (a1 : Fin 64) (a2 : Engine → Engine) : (s.withEngine a1 a2).life = s.life := rfl
@[simp] theorem withEngine_straps (s : State) (a1 : Fin 64) (a2 : Engine → Engine) : (s.withEngine a1 a2).straps = s.straps := rfl
@[simp] theorem withEngine_railsGood (s : State) (a1 : Fin 64) (a2 : Engine → Engine) : (s.withEngine a1 a2).railsGood = s.railsGood := rfl
@[simp] theorem withEngine_od (s : State) (a1 : Fin 64) (a2 : Engine → Engine) : (s.withEngine a1 a2).od = s.od := rfl
@[simp] theorem withEngine_control (s : State) (a1 : Fin 64) (a2 : Engine → Engine) : (s.withEngine a1 a2).control = s.control := rfl
@[simp] theorem withEngine_clocks (s : State) (a1 : Fin 64) (a2 : Engine → Engine) : (s.withEngine a1 a2).clocks = s.clocks := rfl
@[simp] theorem withEngine_thermal (s : State) (a1 : Fin 64) (a2 : Engine → Engine) : (s.withEngine a1 a2).thermal = s.thermal := rfl
@[simp] theorem withEngine_otp (s : State) (a1 : Fin 64) (a2 : Engine → Engine) : (s.withEngine a1 a2).otp = s.otp := rfl
@[simp] theorem withEngine_nvm (s : State) (a1 : Fin 64) (a2 : Engine → Engine) : (s.withEngine a1 a2).nvm = s.nvm := rfl
@[simp] theorem withEngine_update (s : State) (a1 : Fin 64) (a2 : Engine → Engine) : (s.withEngine a1 a2).update = s.update := rfl
@[simp] theorem withEngine_beat (s : State) (a1 : Fin 64) (a2 : Engine → Engine) : (s.withEngine a1 a2).beat = s.beat := rfl
@[simp] theorem withEngine_tap (s : State) (a1 : Fin 64) (a2 : Engine → Engine) : (s.withEngine a1 a2).tap = s.tap := rfl
@[simp] theorem withEngine_hostPort (s : State) (a1 : Fin 64) (a2 : Engine → Engine) : (s.withEngine a1 a2).hostPort = s.hostPort := rfl
@[simp] theorem withEngine_lanes (s : State) (a1 : Fin 64) (a2 : Engine → Engine) : (s.withEngine a1 a2).lanes = s.lanes := rfl
@[simp] theorem withEngine_quartz (s : State) (a1 : Fin 64) (a2 : Engine → Engine) : (s.withEngine a1 a2).quartz = s.quartz := rfl
@[simp] theorem withEngine_tile (s : State) (a1 : Fin 64) (a2 : Engine → Engine) : (s.withEngine a1 a2).tile = s.tile := rfl
@[simp] theorem withEngine_ports (s : State) (a1 : Fin 64) (a2 : Engine → Engine) : (s.withEngine a1 a2).ports = s.ports := rfl
@[simp] theorem withEngine_cascade (s : State) (a1 : Fin 64) (a2 : Engine → Engine) : (s.withEngine a1 a2).cascade = s.cascade := rfl
@[simp] theorem withEngine_ingress (s : State) (a1 : Fin 64) (a2 : Engine → Engine) : (s.withEngine a1 a2).ingress = s.ingress := rfl
@[simp] theorem withEngine_video (s : State) (a1 : Fin 64) (a2 : Engine → Engine) : (s.withEngine a1 a2).video = s.video := rfl
@[simp] theorem withEngine_sent (s : State) (a1 : Fin 64) (a2 : Engine → Engine) : (s.withEngine a1 a2).sent = s.sent := rfl
@[simp] theorem withEngine_freeCount (s : State) (a1 : Fin 64) (a2 : Engine → Engine) : (s.withEngine a1 a2).freeCount = s.freeCount := rfl
@[simp] theorem withEngine_pending (s : State) (a1 : Fin 64) (a2 : Engine → Engine) : (s.withEngine a1 a2).pending = s.pending := rfl

@[simp] theorem withClocks_clocks (s : State) (a1 : Clocks → Clocks) : (s.withClocks a1).clocks = a1 s.clocks := rfl
@[simp] theorem withClocks_now (s : State) (a1 : Clocks → Clocks) : (s.withClocks a1).now = s.now := rfl
@[simp] theorem withClocks_role (s : State) (a1 : Clocks → Clocks) : (s.withClocks a1).role = s.role := rfl
@[simp] theorem withClocks_life (s : State) (a1 : Clocks → Clocks) : (s.withClocks a1).life = s.life := rfl
@[simp] theorem withClocks_straps (s : State) (a1 : Clocks → Clocks) : (s.withClocks a1).straps = s.straps := rfl
@[simp] theorem withClocks_railsGood (s : State) (a1 : Clocks → Clocks) : (s.withClocks a1).railsGood = s.railsGood := rfl
@[simp] theorem withClocks_od (s : State) (a1 : Clocks → Clocks) : (s.withClocks a1).od = s.od := rfl
@[simp] theorem withClocks_control (s : State) (a1 : Clocks → Clocks) : (s.withClocks a1).control = s.control := rfl
@[simp] theorem withClocks_thermal (s : State) (a1 : Clocks → Clocks) : (s.withClocks a1).thermal = s.thermal := rfl
@[simp] theorem withClocks_otp (s : State) (a1 : Clocks → Clocks) : (s.withClocks a1).otp = s.otp := rfl
@[simp] theorem withClocks_nvm (s : State) (a1 : Clocks → Clocks) : (s.withClocks a1).nvm = s.nvm := rfl
@[simp] theorem withClocks_update (s : State) (a1 : Clocks → Clocks) : (s.withClocks a1).update = s.update := rfl
@[simp] theorem withClocks_beat (s : State) (a1 : Clocks → Clocks) : (s.withClocks a1).beat = s.beat := rfl
@[simp] theorem withClocks_tap (s : State) (a1 : Clocks → Clocks) : (s.withClocks a1).tap = s.tap := rfl
@[simp] theorem withClocks_hostPort (s : State) (a1 : Clocks → Clocks) : (s.withClocks a1).hostPort = s.hostPort := rfl
@[simp] theorem withClocks_lanes (s : State) (a1 : Clocks → Clocks) : (s.withClocks a1).lanes = s.lanes := rfl
@[simp] theorem withClocks_quartz (s : State) (a1 : Clocks → Clocks) : (s.withClocks a1).quartz = s.quartz := rfl
@[simp] theorem withClocks_tile (s : State) (a1 : Clocks → Clocks) : (s.withClocks a1).tile = s.tile := rfl
@[simp] theorem withClocks_ports (s : State) (a1 : Clocks → Clocks) : (s.withClocks a1).ports = s.ports := rfl
@[simp] theorem withClocks_cascade (s : State) (a1 : Clocks → Clocks) : (s.withClocks a1).cascade = s.cascade := rfl
@[simp] theorem withClocks_ingress (s : State) (a1 : Clocks → Clocks) : (s.withClocks a1).ingress = s.ingress := rfl
@[simp] theorem withClocks_video (s : State) (a1 : Clocks → Clocks) : (s.withClocks a1).video = s.video := rfl
@[simp] theorem withClocks_lamps (s : State) (a1 : Clocks → Clocks) : (s.withClocks a1).lamps = s.lamps := rfl
@[simp] theorem withClocks_sent (s : State) (a1 : Clocks → Clocks) : (s.withClocks a1).sent = s.sent := rfl
@[simp] theorem withClocks_freeCount (s : State) (a1 : Clocks → Clocks) : (s.withClocks a1).freeCount = s.freeCount := rfl
@[simp] theorem withClocks_pending (s : State) (a1 : Clocks → Clocks) : (s.withClocks a1).pending = s.pending := rfl

@[simp] theorem withDomain_now (s : State) (a1 : Fin 60) (a2 : Domain → Domain) : (s.withDomain a1 a2).now = s.now := 
  kept_withDomain (π := fun t => t.now = s.now) (fun _ _ h => h) s a1 a2 rfl
@[simp] theorem withDomain_role (s : State) (a1 : Fin 60) (a2 : Domain → Domain) : (s.withDomain a1 a2).role = s.role := 
  kept_withDomain (π := fun t => t.role = s.role) (fun _ _ h => h) s a1 a2 rfl
@[simp] theorem withDomain_life (s : State) (a1 : Fin 60) (a2 : Domain → Domain) : (s.withDomain a1 a2).life = s.life := 
  kept_withDomain (π := fun t => t.life = s.life) (fun _ _ h => h) s a1 a2 rfl
@[simp] theorem withDomain_straps (s : State) (a1 : Fin 60) (a2 : Domain → Domain) : (s.withDomain a1 a2).straps = s.straps := 
  kept_withDomain (π := fun t => t.straps = s.straps) (fun _ _ h => h) s a1 a2 rfl
@[simp] theorem withDomain_railsGood (s : State) (a1 : Fin 60) (a2 : Domain → Domain) : (s.withDomain a1 a2).railsGood = s.railsGood := 
  kept_withDomain (π := fun t => t.railsGood = s.railsGood) (fun _ _ h => h) s a1 a2 rfl
@[simp] theorem withDomain_od (s : State) (a1 : Fin 60) (a2 : Domain → Domain) : (s.withDomain a1 a2).od = s.od := 
  kept_withDomain (π := fun t => t.od = s.od) (fun _ _ h => h) s a1 a2 rfl
@[simp] theorem withDomain_control (s : State) (a1 : Fin 60) (a2 : Domain → Domain) : (s.withDomain a1 a2).control = s.control := 
  kept_withDomain (π := fun t => t.control = s.control) (fun _ _ h => h) s a1 a2 rfl
@[simp] theorem withDomain_thermal (s : State) (a1 : Fin 60) (a2 : Domain → Domain) : (s.withDomain a1 a2).thermal = s.thermal := 
  kept_withDomain (π := fun t => t.thermal = s.thermal) (fun _ _ h => h) s a1 a2 rfl
@[simp] theorem withDomain_otp (s : State) (a1 : Fin 60) (a2 : Domain → Domain) : (s.withDomain a1 a2).otp = s.otp := 
  kept_withDomain (π := fun t => t.otp = s.otp) (fun _ _ h => h) s a1 a2 rfl
@[simp] theorem withDomain_nvm (s : State) (a1 : Fin 60) (a2 : Domain → Domain) : (s.withDomain a1 a2).nvm = s.nvm := 
  kept_withDomain (π := fun t => t.nvm = s.nvm) (fun _ _ h => h) s a1 a2 rfl
@[simp] theorem withDomain_update (s : State) (a1 : Fin 60) (a2 : Domain → Domain) : (s.withDomain a1 a2).update = s.update := 
  kept_withDomain (π := fun t => t.update = s.update) (fun _ _ h => h) s a1 a2 rfl
@[simp] theorem withDomain_beat (s : State) (a1 : Fin 60) (a2 : Domain → Domain) : (s.withDomain a1 a2).beat = s.beat := 
  kept_withDomain (π := fun t => t.beat = s.beat) (fun _ _ h => h) s a1 a2 rfl
@[simp] theorem withDomain_tap (s : State) (a1 : Fin 60) (a2 : Domain → Domain) : (s.withDomain a1 a2).tap = s.tap := 
  kept_withDomain (π := fun t => t.tap = s.tap) (fun _ _ h => h) s a1 a2 rfl
@[simp] theorem withDomain_hostPort (s : State) (a1 : Fin 60) (a2 : Domain → Domain) : (s.withDomain a1 a2).hostPort = s.hostPort := 
  kept_withDomain (π := fun t => t.hostPort = s.hostPort) (fun _ _ h => h) s a1 a2 rfl
@[simp] theorem withDomain_lanes (s : State) (a1 : Fin 60) (a2 : Domain → Domain) : (s.withDomain a1 a2).lanes = s.lanes := 
  kept_withDomain (π := fun t => t.lanes = s.lanes) (fun _ _ h => h) s a1 a2 rfl
@[simp] theorem withDomain_quartz (s : State) (a1 : Fin 60) (a2 : Domain → Domain) : (s.withDomain a1 a2).quartz = s.quartz := 
  kept_withDomain (π := fun t => t.quartz = s.quartz) (fun _ _ h => h) s a1 a2 rfl
@[simp] theorem withDomain_tile (s : State) (a1 : Fin 60) (a2 : Domain → Domain) : (s.withDomain a1 a2).tile = s.tile := 
  kept_withDomain (π := fun t => t.tile = s.tile) (fun _ _ h => h) s a1 a2 rfl
@[simp] theorem withDomain_ports (s : State) (a1 : Fin 60) (a2 : Domain → Domain) : (s.withDomain a1 a2).ports = s.ports := 
  kept_withDomain (π := fun t => t.ports = s.ports) (fun _ _ h => h) s a1 a2 rfl
@[simp] theorem withDomain_cascade (s : State) (a1 : Fin 60) (a2 : Domain → Domain) : (s.withDomain a1 a2).cascade = s.cascade := 
  kept_withDomain (π := fun t => t.cascade = s.cascade) (fun _ _ h => h) s a1 a2 rfl
@[simp] theorem withDomain_ingress (s : State) (a1 : Fin 60) (a2 : Domain → Domain) : (s.withDomain a1 a2).ingress = s.ingress := 
  kept_withDomain (π := fun t => t.ingress = s.ingress) (fun _ _ h => h) s a1 a2 rfl
@[simp] theorem withDomain_video (s : State) (a1 : Fin 60) (a2 : Domain → Domain) : (s.withDomain a1 a2).video = s.video := 
  kept_withDomain (π := fun t => t.video = s.video) (fun _ _ h => h) s a1 a2 rfl
@[simp] theorem withDomain_lamps (s : State) (a1 : Fin 60) (a2 : Domain → Domain) : (s.withDomain a1 a2).lamps = s.lamps := 
  kept_withDomain (π := fun t => t.lamps = s.lamps) (fun _ _ h => h) s a1 a2 rfl
@[simp] theorem withDomain_sent (s : State) (a1 : Fin 60) (a2 : Domain → Domain) : (s.withDomain a1 a2).sent = s.sent := 
  kept_withDomain (π := fun t => t.sent = s.sent) (fun _ _ h => h) s a1 a2 rfl
@[simp] theorem withDomain_freeCount (s : State) (a1 : Fin 60) (a2 : Domain → Domain) : (s.withDomain a1 a2).freeCount = s.freeCount := 
  kept_withDomain (π := fun t => t.freeCount = s.freeCount) (fun _ _ h => h) s a1 a2 rfl
@[simp] theorem withDomain_pending (s : State) (a1 : Fin 60) (a2 : Domain → Domain) : (s.withDomain a1 a2).pending = s.pending := 
  kept_withDomain (π := fun t => t.pending = s.pending) (fun _ _ h => h) s a1 a2 rfl

@[simp] theorem withHost_now (s : State) (a1 : HostPort → HostPort) : (s.withHost a1).now = s.now := 
  kept_withHost (π := fun t => t.now = s.now) (fun _ _ h => h) (fun _ _ h => h) s a1 rfl
@[simp] theorem withHost_role (s : State) (a1 : HostPort → HostPort) : (s.withHost a1).role = s.role := 
  kept_withHost (π := fun t => t.role = s.role) (fun _ _ h => h) (fun _ _ h => h) s a1 rfl
@[simp] theorem withHost_life (s : State) (a1 : HostPort → HostPort) : (s.withHost a1).life = s.life := 
  kept_withHost (π := fun t => t.life = s.life) (fun _ _ h => h) (fun _ _ h => h) s a1 rfl
@[simp] theorem withHost_straps (s : State) (a1 : HostPort → HostPort) : (s.withHost a1).straps = s.straps := 
  kept_withHost (π := fun t => t.straps = s.straps) (fun _ _ h => h) (fun _ _ h => h) s a1 rfl
@[simp] theorem withHost_railsGood (s : State) (a1 : HostPort → HostPort) : (s.withHost a1).railsGood = s.railsGood := 
  kept_withHost (π := fun t => t.railsGood = s.railsGood) (fun _ _ h => h) (fun _ _ h => h) s a1 rfl
@[simp] theorem withHost_od (s : State) (a1 : HostPort → HostPort) : (s.withHost a1).od = s.od := 
  kept_withHost (π := fun t => t.od = s.od) (fun _ _ h => h) (fun _ _ h => h) s a1 rfl
@[simp] theorem withHost_control (s : State) (a1 : HostPort → HostPort) : (s.withHost a1).control = s.control := 
  kept_withHost (π := fun t => t.control = s.control) (fun _ _ h => h) (fun _ _ h => h) s a1 rfl
@[simp] theorem withHost_clocks (s : State) (a1 : HostPort → HostPort) : (s.withHost a1).clocks = s.clocks := 
  kept_withHost (π := fun t => t.clocks = s.clocks) (fun _ _ h => h) (fun _ _ h => h) s a1 rfl
@[simp] theorem withHost_thermal (s : State) (a1 : HostPort → HostPort) : (s.withHost a1).thermal = s.thermal := 
  kept_withHost (π := fun t => t.thermal = s.thermal) (fun _ _ h => h) (fun _ _ h => h) s a1 rfl
@[simp] theorem withHost_otp (s : State) (a1 : HostPort → HostPort) : (s.withHost a1).otp = s.otp := 
  kept_withHost (π := fun t => t.otp = s.otp) (fun _ _ h => h) (fun _ _ h => h) s a1 rfl
@[simp] theorem withHost_nvm (s : State) (a1 : HostPort → HostPort) : (s.withHost a1).nvm = s.nvm := 
  kept_withHost (π := fun t => t.nvm = s.nvm) (fun _ _ h => h) (fun _ _ h => h) s a1 rfl
@[simp] theorem withHost_update (s : State) (a1 : HostPort → HostPort) : (s.withHost a1).update = s.update := 
  kept_withHost (π := fun t => t.update = s.update) (fun _ _ h => h) (fun _ _ h => h) s a1 rfl
@[simp] theorem withHost_beat (s : State) (a1 : HostPort → HostPort) : (s.withHost a1).beat = s.beat := 
  kept_withHost (π := fun t => t.beat = s.beat) (fun _ _ h => h) (fun _ _ h => h) s a1 rfl
@[simp] theorem withHost_tap (s : State) (a1 : HostPort → HostPort) : (s.withHost a1).tap = s.tap := 
  kept_withHost (π := fun t => t.tap = s.tap) (fun _ _ h => h) (fun _ _ h => h) s a1 rfl
@[simp] theorem withHost_lanes (s : State) (a1 : HostPort → HostPort) : (s.withHost a1).lanes = s.lanes := 
  kept_withHost (π := fun t => t.lanes = s.lanes) (fun _ _ h => h) (fun _ _ h => h) s a1 rfl
@[simp] theorem withHost_quartz (s : State) (a1 : HostPort → HostPort) : (s.withHost a1).quartz = s.quartz := 
  kept_withHost (π := fun t => t.quartz = s.quartz) (fun _ _ h => h) (fun _ _ h => h) s a1 rfl
@[simp] theorem withHost_tile (s : State) (a1 : HostPort → HostPort) : (s.withHost a1).tile = s.tile := 
  kept_withHost (π := fun t => t.tile = s.tile) (fun _ _ h => h) (fun _ _ h => h) s a1 rfl
@[simp] theorem withHost_ports (s : State) (a1 : HostPort → HostPort) : (s.withHost a1).ports = s.ports := 
  kept_withHost (π := fun t => t.ports = s.ports) (fun _ _ h => h) (fun _ _ h => h) s a1 rfl
@[simp] theorem withHost_cascade (s : State) (a1 : HostPort → HostPort) : (s.withHost a1).cascade = s.cascade := 
  kept_withHost (π := fun t => t.cascade = s.cascade) (fun _ _ h => h) (fun _ _ h => h) s a1 rfl
@[simp] theorem withHost_ingress (s : State) (a1 : HostPort → HostPort) : (s.withHost a1).ingress = s.ingress := 
  kept_withHost (π := fun t => t.ingress = s.ingress) (fun _ _ h => h) (fun _ _ h => h) s a1 rfl
@[simp] theorem withHost_video (s : State) (a1 : HostPort → HostPort) : (s.withHost a1).video = s.video := 
  kept_withHost (π := fun t => t.video = s.video) (fun _ _ h => h) (fun _ _ h => h) s a1 rfl
@[simp] theorem withHost_lamps (s : State) (a1 : HostPort → HostPort) : (s.withHost a1).lamps = s.lamps := 
  kept_withHost (π := fun t => t.lamps = s.lamps) (fun _ _ h => h) (fun _ _ h => h) s a1 rfl
@[simp] theorem withHost_freeCount (s : State) (a1 : HostPort → HostPort) : (s.withHost a1).freeCount = s.freeCount := 
  kept_withHost (π := fun t => t.freeCount = s.freeCount) (fun _ _ h => h) (fun _ _ h => h) s a1 rfl
@[simp] theorem withHost_pending (s : State) (a1 : HostPort → HostPort) : (s.withHost a1).pending = s.pending := 
  kept_withHost (π := fun t => t.pending = s.pending) (fun _ _ h => h) (fun _ _ h => h) s a1 rfl

@[simp] theorem withBox_now (s : State) (a1 : Fin 128) (a2 : MbChannel → MbChannel) : (s.withBox a1 a2).now = s.now := 
  kept_withBox (π := fun t => t.now = s.now) (fun _ _ h => h) (fun _ _ h => h) s a1 a2 rfl
@[simp] theorem withBox_role (s : State) (a1 : Fin 128) (a2 : MbChannel → MbChannel) : (s.withBox a1 a2).role = s.role := 
  kept_withBox (π := fun t => t.role = s.role) (fun _ _ h => h) (fun _ _ h => h) s a1 a2 rfl
@[simp] theorem withBox_life (s : State) (a1 : Fin 128) (a2 : MbChannel → MbChannel) : (s.withBox a1 a2).life = s.life := 
  kept_withBox (π := fun t => t.life = s.life) (fun _ _ h => h) (fun _ _ h => h) s a1 a2 rfl
@[simp] theorem withBox_straps (s : State) (a1 : Fin 128) (a2 : MbChannel → MbChannel) : (s.withBox a1 a2).straps = s.straps := 
  kept_withBox (π := fun t => t.straps = s.straps) (fun _ _ h => h) (fun _ _ h => h) s a1 a2 rfl
@[simp] theorem withBox_railsGood (s : State) (a1 : Fin 128) (a2 : MbChannel → MbChannel) : (s.withBox a1 a2).railsGood = s.railsGood := 
  kept_withBox (π := fun t => t.railsGood = s.railsGood) (fun _ _ h => h) (fun _ _ h => h) s a1 a2 rfl
@[simp] theorem withBox_od (s : State) (a1 : Fin 128) (a2 : MbChannel → MbChannel) : (s.withBox a1 a2).od = s.od := 
  kept_withBox (π := fun t => t.od = s.od) (fun _ _ h => h) (fun _ _ h => h) s a1 a2 rfl
@[simp] theorem withBox_control (s : State) (a1 : Fin 128) (a2 : MbChannel → MbChannel) : (s.withBox a1 a2).control = s.control := 
  kept_withBox (π := fun t => t.control = s.control) (fun _ _ h => h) (fun _ _ h => h) s a1 a2 rfl
@[simp] theorem withBox_clocks (s : State) (a1 : Fin 128) (a2 : MbChannel → MbChannel) : (s.withBox a1 a2).clocks = s.clocks := 
  kept_withBox (π := fun t => t.clocks = s.clocks) (fun _ _ h => h) (fun _ _ h => h) s a1 a2 rfl
@[simp] theorem withBox_thermal (s : State) (a1 : Fin 128) (a2 : MbChannel → MbChannel) : (s.withBox a1 a2).thermal = s.thermal := 
  kept_withBox (π := fun t => t.thermal = s.thermal) (fun _ _ h => h) (fun _ _ h => h) s a1 a2 rfl
@[simp] theorem withBox_otp (s : State) (a1 : Fin 128) (a2 : MbChannel → MbChannel) : (s.withBox a1 a2).otp = s.otp := 
  kept_withBox (π := fun t => t.otp = s.otp) (fun _ _ h => h) (fun _ _ h => h) s a1 a2 rfl
@[simp] theorem withBox_nvm (s : State) (a1 : Fin 128) (a2 : MbChannel → MbChannel) : (s.withBox a1 a2).nvm = s.nvm := 
  kept_withBox (π := fun t => t.nvm = s.nvm) (fun _ _ h => h) (fun _ _ h => h) s a1 a2 rfl
@[simp] theorem withBox_update (s : State) (a1 : Fin 128) (a2 : MbChannel → MbChannel) : (s.withBox a1 a2).update = s.update := 
  kept_withBox (π := fun t => t.update = s.update) (fun _ _ h => h) (fun _ _ h => h) s a1 a2 rfl
@[simp] theorem withBox_beat (s : State) (a1 : Fin 128) (a2 : MbChannel → MbChannel) : (s.withBox a1 a2).beat = s.beat := 
  kept_withBox (π := fun t => t.beat = s.beat) (fun _ _ h => h) (fun _ _ h => h) s a1 a2 rfl
@[simp] theorem withBox_tap (s : State) (a1 : Fin 128) (a2 : MbChannel → MbChannel) : (s.withBox a1 a2).tap = s.tap := 
  kept_withBox (π := fun t => t.tap = s.tap) (fun _ _ h => h) (fun _ _ h => h) s a1 a2 rfl
@[simp] theorem withBox_lanes (s : State) (a1 : Fin 128) (a2 : MbChannel → MbChannel) : (s.withBox a1 a2).lanes = s.lanes := 
  kept_withBox (π := fun t => t.lanes = s.lanes) (fun _ _ h => h) (fun _ _ h => h) s a1 a2 rfl
@[simp] theorem withBox_quartz (s : State) (a1 : Fin 128) (a2 : MbChannel → MbChannel) : (s.withBox a1 a2).quartz = s.quartz := 
  kept_withBox (π := fun t => t.quartz = s.quartz) (fun _ _ h => h) (fun _ _ h => h) s a1 a2 rfl
@[simp] theorem withBox_tile (s : State) (a1 : Fin 128) (a2 : MbChannel → MbChannel) : (s.withBox a1 a2).tile = s.tile := 
  kept_withBox (π := fun t => t.tile = s.tile) (fun _ _ h => h) (fun _ _ h => h) s a1 a2 rfl
@[simp] theorem withBox_ports (s : State) (a1 : Fin 128) (a2 : MbChannel → MbChannel) : (s.withBox a1 a2).ports = s.ports := 
  kept_withBox (π := fun t => t.ports = s.ports) (fun _ _ h => h) (fun _ _ h => h) s a1 a2 rfl
@[simp] theorem withBox_cascade (s : State) (a1 : Fin 128) (a2 : MbChannel → MbChannel) : (s.withBox a1 a2).cascade = s.cascade := 
  kept_withBox (π := fun t => t.cascade = s.cascade) (fun _ _ h => h) (fun _ _ h => h) s a1 a2 rfl
@[simp] theorem withBox_ingress (s : State) (a1 : Fin 128) (a2 : MbChannel → MbChannel) : (s.withBox a1 a2).ingress = s.ingress := 
  kept_withBox (π := fun t => t.ingress = s.ingress) (fun _ _ h => h) (fun _ _ h => h) s a1 a2 rfl
@[simp] theorem withBox_video (s : State) (a1 : Fin 128) (a2 : MbChannel → MbChannel) : (s.withBox a1 a2).video = s.video := 
  kept_withBox (π := fun t => t.video = s.video) (fun _ _ h => h) (fun _ _ h => h) s a1 a2 rfl
@[simp] theorem withBox_lamps (s : State) (a1 : Fin 128) (a2 : MbChannel → MbChannel) : (s.withBox a1 a2).lamps = s.lamps := 
  kept_withBox (π := fun t => t.lamps = s.lamps) (fun _ _ h => h) (fun _ _ h => h) s a1 a2 rfl
@[simp] theorem withBox_freeCount (s : State) (a1 : Fin 128) (a2 : MbChannel → MbChannel) : (s.withBox a1 a2).freeCount = s.freeCount := 
  kept_withBox (π := fun t => t.freeCount = s.freeCount) (fun _ _ h => h) (fun _ _ h => h) s a1 a2 rfl
@[simp] theorem withBox_pending (s : State) (a1 : Fin 128) (a2 : MbChannel → MbChannel) : (s.withBox a1 a2).pending = s.pending := 
  kept_withBox (π := fun t => t.pending = s.pending) (fun _ _ h => h) (fun _ _ h => h) s a1 a2 rfl

@[simp] theorem withSem_now (s : State) (a1 : Fin 32) (a2 : Semaphore → Semaphore) : (s.withSem a1 a2).now = s.now := 
  kept_withSem (π := fun t => t.now = s.now) (fun _ _ h => h) (fun _ _ h => h) s a1 a2 rfl
@[simp] theorem withSem_role (s : State) (a1 : Fin 32) (a2 : Semaphore → Semaphore) : (s.withSem a1 a2).role = s.role := 
  kept_withSem (π := fun t => t.role = s.role) (fun _ _ h => h) (fun _ _ h => h) s a1 a2 rfl
@[simp] theorem withSem_life (s : State) (a1 : Fin 32) (a2 : Semaphore → Semaphore) : (s.withSem a1 a2).life = s.life := 
  kept_withSem (π := fun t => t.life = s.life) (fun _ _ h => h) (fun _ _ h => h) s a1 a2 rfl
@[simp] theorem withSem_straps (s : State) (a1 : Fin 32) (a2 : Semaphore → Semaphore) : (s.withSem a1 a2).straps = s.straps := 
  kept_withSem (π := fun t => t.straps = s.straps) (fun _ _ h => h) (fun _ _ h => h) s a1 a2 rfl
@[simp] theorem withSem_railsGood (s : State) (a1 : Fin 32) (a2 : Semaphore → Semaphore) : (s.withSem a1 a2).railsGood = s.railsGood := 
  kept_withSem (π := fun t => t.railsGood = s.railsGood) (fun _ _ h => h) (fun _ _ h => h) s a1 a2 rfl
@[simp] theorem withSem_od (s : State) (a1 : Fin 32) (a2 : Semaphore → Semaphore) : (s.withSem a1 a2).od = s.od := 
  kept_withSem (π := fun t => t.od = s.od) (fun _ _ h => h) (fun _ _ h => h) s a1 a2 rfl
@[simp] theorem withSem_control (s : State) (a1 : Fin 32) (a2 : Semaphore → Semaphore) : (s.withSem a1 a2).control = s.control := 
  kept_withSem (π := fun t => t.control = s.control) (fun _ _ h => h) (fun _ _ h => h) s a1 a2 rfl
@[simp] theorem withSem_clocks (s : State) (a1 : Fin 32) (a2 : Semaphore → Semaphore) : (s.withSem a1 a2).clocks = s.clocks := 
  kept_withSem (π := fun t => t.clocks = s.clocks) (fun _ _ h => h) (fun _ _ h => h) s a1 a2 rfl
@[simp] theorem withSem_thermal (s : State) (a1 : Fin 32) (a2 : Semaphore → Semaphore) : (s.withSem a1 a2).thermal = s.thermal := 
  kept_withSem (π := fun t => t.thermal = s.thermal) (fun _ _ h => h) (fun _ _ h => h) s a1 a2 rfl
@[simp] theorem withSem_otp (s : State) (a1 : Fin 32) (a2 : Semaphore → Semaphore) : (s.withSem a1 a2).otp = s.otp := 
  kept_withSem (π := fun t => t.otp = s.otp) (fun _ _ h => h) (fun _ _ h => h) s a1 a2 rfl
@[simp] theorem withSem_nvm (s : State) (a1 : Fin 32) (a2 : Semaphore → Semaphore) : (s.withSem a1 a2).nvm = s.nvm := 
  kept_withSem (π := fun t => t.nvm = s.nvm) (fun _ _ h => h) (fun _ _ h => h) s a1 a2 rfl
@[simp] theorem withSem_update (s : State) (a1 : Fin 32) (a2 : Semaphore → Semaphore) : (s.withSem a1 a2).update = s.update := 
  kept_withSem (π := fun t => t.update = s.update) (fun _ _ h => h) (fun _ _ h => h) s a1 a2 rfl
@[simp] theorem withSem_beat (s : State) (a1 : Fin 32) (a2 : Semaphore → Semaphore) : (s.withSem a1 a2).beat = s.beat := 
  kept_withSem (π := fun t => t.beat = s.beat) (fun _ _ h => h) (fun _ _ h => h) s a1 a2 rfl
@[simp] theorem withSem_tap (s : State) (a1 : Fin 32) (a2 : Semaphore → Semaphore) : (s.withSem a1 a2).tap = s.tap := 
  kept_withSem (π := fun t => t.tap = s.tap) (fun _ _ h => h) (fun _ _ h => h) s a1 a2 rfl
@[simp] theorem withSem_lanes (s : State) (a1 : Fin 32) (a2 : Semaphore → Semaphore) : (s.withSem a1 a2).lanes = s.lanes := 
  kept_withSem (π := fun t => t.lanes = s.lanes) (fun _ _ h => h) (fun _ _ h => h) s a1 a2 rfl
@[simp] theorem withSem_quartz (s : State) (a1 : Fin 32) (a2 : Semaphore → Semaphore) : (s.withSem a1 a2).quartz = s.quartz := 
  kept_withSem (π := fun t => t.quartz = s.quartz) (fun _ _ h => h) (fun _ _ h => h) s a1 a2 rfl
@[simp] theorem withSem_tile (s : State) (a1 : Fin 32) (a2 : Semaphore → Semaphore) : (s.withSem a1 a2).tile = s.tile := 
  kept_withSem (π := fun t => t.tile = s.tile) (fun _ _ h => h) (fun _ _ h => h) s a1 a2 rfl
@[simp] theorem withSem_ports (s : State) (a1 : Fin 32) (a2 : Semaphore → Semaphore) : (s.withSem a1 a2).ports = s.ports := 
  kept_withSem (π := fun t => t.ports = s.ports) (fun _ _ h => h) (fun _ _ h => h) s a1 a2 rfl
@[simp] theorem withSem_cascade (s : State) (a1 : Fin 32) (a2 : Semaphore → Semaphore) : (s.withSem a1 a2).cascade = s.cascade := 
  kept_withSem (π := fun t => t.cascade = s.cascade) (fun _ _ h => h) (fun _ _ h => h) s a1 a2 rfl
@[simp] theorem withSem_ingress (s : State) (a1 : Fin 32) (a2 : Semaphore → Semaphore) : (s.withSem a1 a2).ingress = s.ingress := 
  kept_withSem (π := fun t => t.ingress = s.ingress) (fun _ _ h => h) (fun _ _ h => h) s a1 a2 rfl
@[simp] theorem withSem_video (s : State) (a1 : Fin 32) (a2 : Semaphore → Semaphore) : (s.withSem a1 a2).video = s.video := 
  kept_withSem (π := fun t => t.video = s.video) (fun _ _ h => h) (fun _ _ h => h) s a1 a2 rfl
@[simp] theorem withSem_lamps (s : State) (a1 : Fin 32) (a2 : Semaphore → Semaphore) : (s.withSem a1 a2).lamps = s.lamps := 
  kept_withSem (π := fun t => t.lamps = s.lamps) (fun _ _ h => h) (fun _ _ h => h) s a1 a2 rfl
@[simp] theorem withSem_freeCount (s : State) (a1 : Fin 32) (a2 : Semaphore → Semaphore) : (s.withSem a1 a2).freeCount = s.freeCount := 
  kept_withSem (π := fun t => t.freeCount = s.freeCount) (fun _ _ h => h) (fun _ _ h => h) s a1 a2 rfl
@[simp] theorem withSem_pending (s : State) (a1 : Fin 32) (a2 : Semaphore → Semaphore) : (s.withSem a1 a2).pending = s.pending := 
  kept_withSem (π := fun t => t.pending = s.pending) (fun _ _ h => h) (fun _ _ h => h) s a1 a2 rfl

@[simp] theorem withLane_now (s : State) (a1 : Fin 24) (a2 : Lane → Lane) : (s.withLane a1 a2).now = s.now := rfl
@[simp] theorem withLane_role (s : State) (a1 : Fin 24) (a2 : Lane → Lane) : (s.withLane a1 a2).role = s.role := rfl
@[simp] theorem withLane_life (s : State) (a1 : Fin 24) (a2 : Lane → Lane) : (s.withLane a1 a2).life = s.life := rfl
@[simp] theorem withLane_straps (s : State) (a1 : Fin 24) (a2 : Lane → Lane) : (s.withLane a1 a2).straps = s.straps := rfl
@[simp] theorem withLane_railsGood (s : State) (a1 : Fin 24) (a2 : Lane → Lane) : (s.withLane a1 a2).railsGood = s.railsGood := rfl
@[simp] theorem withLane_od (s : State) (a1 : Fin 24) (a2 : Lane → Lane) : (s.withLane a1 a2).od = s.od := rfl
@[simp] theorem withLane_control (s : State) (a1 : Fin 24) (a2 : Lane → Lane) : (s.withLane a1 a2).control = s.control := rfl
@[simp] theorem withLane_clocks (s : State) (a1 : Fin 24) (a2 : Lane → Lane) : (s.withLane a1 a2).clocks = s.clocks := rfl
@[simp] theorem withLane_thermal (s : State) (a1 : Fin 24) (a2 : Lane → Lane) : (s.withLane a1 a2).thermal = s.thermal := rfl
@[simp] theorem withLane_otp (s : State) (a1 : Fin 24) (a2 : Lane → Lane) : (s.withLane a1 a2).otp = s.otp := rfl
@[simp] theorem withLane_nvm (s : State) (a1 : Fin 24) (a2 : Lane → Lane) : (s.withLane a1 a2).nvm = s.nvm := rfl
@[simp] theorem withLane_update (s : State) (a1 : Fin 24) (a2 : Lane → Lane) : (s.withLane a1 a2).update = s.update := rfl
@[simp] theorem withLane_beat (s : State) (a1 : Fin 24) (a2 : Lane → Lane) : (s.withLane a1 a2).beat = s.beat := rfl
@[simp] theorem withLane_tap (s : State) (a1 : Fin 24) (a2 : Lane → Lane) : (s.withLane a1 a2).tap = s.tap := rfl
@[simp] theorem withLane_hostPort (s : State) (a1 : Fin 24) (a2 : Lane → Lane) : (s.withLane a1 a2).hostPort = s.hostPort := rfl
@[simp] theorem withLane_quartz (s : State) (a1 : Fin 24) (a2 : Lane → Lane) : (s.withLane a1 a2).quartz = s.quartz := rfl
@[simp] theorem withLane_tile (s : State) (a1 : Fin 24) (a2 : Lane → Lane) : (s.withLane a1 a2).tile = s.tile := rfl
@[simp] theorem withLane_ports (s : State) (a1 : Fin 24) (a2 : Lane → Lane) : (s.withLane a1 a2).ports = s.ports := rfl
@[simp] theorem withLane_cascade (s : State) (a1 : Fin 24) (a2 : Lane → Lane) : (s.withLane a1 a2).cascade = s.cascade := rfl
@[simp] theorem withLane_ingress (s : State) (a1 : Fin 24) (a2 : Lane → Lane) : (s.withLane a1 a2).ingress = s.ingress := rfl
@[simp] theorem withLane_video (s : State) (a1 : Fin 24) (a2 : Lane → Lane) : (s.withLane a1 a2).video = s.video := rfl
@[simp] theorem withLane_lamps (s : State) (a1 : Fin 24) (a2 : Lane → Lane) : (s.withLane a1 a2).lamps = s.lamps := rfl
@[simp] theorem withLane_sent (s : State) (a1 : Fin 24) (a2 : Lane → Lane) : (s.withLane a1 a2).sent = s.sent := rfl
@[simp] theorem withLane_freeCount (s : State) (a1 : Fin 24) (a2 : Lane → Lane) : (s.withLane a1 a2).freeCount = s.freeCount := rfl
@[simp] theorem withLane_pending (s : State) (a1 : Fin 24) (a2 : Lane → Lane) : (s.withLane a1 a2).pending = s.pending := rfl

@[simp] theorem withLink_now (s : State) (a1 : Fin 4) (a2 : Link → Link) : (s.withLink a1 a2).now = s.now := rfl
@[simp] theorem withLink_role (s : State) (a1 : Fin 4) (a2 : Link → Link) : (s.withLink a1 a2).role = s.role := rfl
@[simp] theorem withLink_life (s : State) (a1 : Fin 4) (a2 : Link → Link) : (s.withLink a1 a2).life = s.life := rfl
@[simp] theorem withLink_straps (s : State) (a1 : Fin 4) (a2 : Link → Link) : (s.withLink a1 a2).straps = s.straps := rfl
@[simp] theorem withLink_railsGood (s : State) (a1 : Fin 4) (a2 : Link → Link) : (s.withLink a1 a2).railsGood = s.railsGood := rfl
@[simp] theorem withLink_od (s : State) (a1 : Fin 4) (a2 : Link → Link) : (s.withLink a1 a2).od = s.od := rfl
@[simp] theorem withLink_control (s : State) (a1 : Fin 4) (a2 : Link → Link) : (s.withLink a1 a2).control = s.control := rfl
@[simp] theorem withLink_clocks (s : State) (a1 : Fin 4) (a2 : Link → Link) : (s.withLink a1 a2).clocks = s.clocks := rfl
@[simp] theorem withLink_thermal (s : State) (a1 : Fin 4) (a2 : Link → Link) : (s.withLink a1 a2).thermal = s.thermal := rfl
@[simp] theorem withLink_otp (s : State) (a1 : Fin 4) (a2 : Link → Link) : (s.withLink a1 a2).otp = s.otp := rfl
@[simp] theorem withLink_nvm (s : State) (a1 : Fin 4) (a2 : Link → Link) : (s.withLink a1 a2).nvm = s.nvm := rfl
@[simp] theorem withLink_update (s : State) (a1 : Fin 4) (a2 : Link → Link) : (s.withLink a1 a2).update = s.update := rfl
@[simp] theorem withLink_beat (s : State) (a1 : Fin 4) (a2 : Link → Link) : (s.withLink a1 a2).beat = s.beat := rfl
@[simp] theorem withLink_tap (s : State) (a1 : Fin 4) (a2 : Link → Link) : (s.withLink a1 a2).tap = s.tap := rfl
@[simp] theorem withLink_hostPort (s : State) (a1 : Fin 4) (a2 : Link → Link) : (s.withLink a1 a2).hostPort = s.hostPort := rfl
@[simp] theorem withLink_quartz (s : State) (a1 : Fin 4) (a2 : Link → Link) : (s.withLink a1 a2).quartz = s.quartz := rfl
@[simp] theorem withLink_tile (s : State) (a1 : Fin 4) (a2 : Link → Link) : (s.withLink a1 a2).tile = s.tile := rfl
@[simp] theorem withLink_ports (s : State) (a1 : Fin 4) (a2 : Link → Link) : (s.withLink a1 a2).ports = s.ports := rfl
@[simp] theorem withLink_cascade (s : State) (a1 : Fin 4) (a2 : Link → Link) : (s.withLink a1 a2).cascade = s.cascade := rfl
@[simp] theorem withLink_ingress (s : State) (a1 : Fin 4) (a2 : Link → Link) : (s.withLink a1 a2).ingress = s.ingress := rfl
@[simp] theorem withLink_video (s : State) (a1 : Fin 4) (a2 : Link → Link) : (s.withLink a1 a2).video = s.video := rfl
@[simp] theorem withLink_lamps (s : State) (a1 : Fin 4) (a2 : Link → Link) : (s.withLink a1 a2).lamps = s.lamps := rfl
@[simp] theorem withLink_sent (s : State) (a1 : Fin 4) (a2 : Link → Link) : (s.withLink a1 a2).sent = s.sent := rfl
@[simp] theorem withLink_freeCount (s : State) (a1 : Fin 4) (a2 : Link → Link) : (s.withLink a1 a2).freeCount = s.freeCount := rfl
@[simp] theorem withLink_pending (s : State) (a1 : Fin 4) (a2 : Link → Link) : (s.withLink a1 a2).pending = s.pending := rfl

@[simp] theorem withBeat_beat (s : State) (a1 : Heartbeat → Heartbeat) : (s.withBeat a1).beat = a1 s.beat := rfl
@[simp] theorem withBeat_now (s : State) (a1 : Heartbeat → Heartbeat) : (s.withBeat a1).now = s.now := rfl
@[simp] theorem withBeat_role (s : State) (a1 : Heartbeat → Heartbeat) : (s.withBeat a1).role = s.role := rfl
@[simp] theorem withBeat_life (s : State) (a1 : Heartbeat → Heartbeat) : (s.withBeat a1).life = s.life := rfl
@[simp] theorem withBeat_straps (s : State) (a1 : Heartbeat → Heartbeat) : (s.withBeat a1).straps = s.straps := rfl
@[simp] theorem withBeat_railsGood (s : State) (a1 : Heartbeat → Heartbeat) : (s.withBeat a1).railsGood = s.railsGood := rfl
@[simp] theorem withBeat_od (s : State) (a1 : Heartbeat → Heartbeat) : (s.withBeat a1).od = s.od := rfl
@[simp] theorem withBeat_control (s : State) (a1 : Heartbeat → Heartbeat) : (s.withBeat a1).control = s.control := rfl
@[simp] theorem withBeat_clocks (s : State) (a1 : Heartbeat → Heartbeat) : (s.withBeat a1).clocks = s.clocks := rfl
@[simp] theorem withBeat_thermal (s : State) (a1 : Heartbeat → Heartbeat) : (s.withBeat a1).thermal = s.thermal := rfl
@[simp] theorem withBeat_otp (s : State) (a1 : Heartbeat → Heartbeat) : (s.withBeat a1).otp = s.otp := rfl
@[simp] theorem withBeat_nvm (s : State) (a1 : Heartbeat → Heartbeat) : (s.withBeat a1).nvm = s.nvm := rfl
@[simp] theorem withBeat_update (s : State) (a1 : Heartbeat → Heartbeat) : (s.withBeat a1).update = s.update := rfl
@[simp] theorem withBeat_tap (s : State) (a1 : Heartbeat → Heartbeat) : (s.withBeat a1).tap = s.tap := rfl
@[simp] theorem withBeat_hostPort (s : State) (a1 : Heartbeat → Heartbeat) : (s.withBeat a1).hostPort = s.hostPort := rfl
@[simp] theorem withBeat_lanes (s : State) (a1 : Heartbeat → Heartbeat) : (s.withBeat a1).lanes = s.lanes := rfl
@[simp] theorem withBeat_quartz (s : State) (a1 : Heartbeat → Heartbeat) : (s.withBeat a1).quartz = s.quartz := rfl
@[simp] theorem withBeat_tile (s : State) (a1 : Heartbeat → Heartbeat) : (s.withBeat a1).tile = s.tile := rfl
@[simp] theorem withBeat_ports (s : State) (a1 : Heartbeat → Heartbeat) : (s.withBeat a1).ports = s.ports := rfl
@[simp] theorem withBeat_cascade (s : State) (a1 : Heartbeat → Heartbeat) : (s.withBeat a1).cascade = s.cascade := rfl
@[simp] theorem withBeat_ingress (s : State) (a1 : Heartbeat → Heartbeat) : (s.withBeat a1).ingress = s.ingress := rfl
@[simp] theorem withBeat_video (s : State) (a1 : Heartbeat → Heartbeat) : (s.withBeat a1).video = s.video := rfl
@[simp] theorem withBeat_lamps (s : State) (a1 : Heartbeat → Heartbeat) : (s.withBeat a1).lamps = s.lamps := rfl
@[simp] theorem withBeat_sent (s : State) (a1 : Heartbeat → Heartbeat) : (s.withBeat a1).sent = s.sent := rfl
@[simp] theorem withBeat_freeCount (s : State) (a1 : Heartbeat → Heartbeat) : (s.withBeat a1).freeCount = s.freeCount := rfl
@[simp] theorem withBeat_pending (s : State) (a1 : Heartbeat → Heartbeat) : (s.withBeat a1).pending = s.pending := rfl

@[simp] theorem withCtx_now (s : State) (a1 : CtxId) (a2 : Ctx → Ctx) : (s.withCtx a1 a2).now = s.now := 
  kept_withCtx (π := fun t => t.now = s.now) (fun _ _ h => h) s a1 a2 rfl
@[simp] theorem withCtx_role (s : State) (a1 : CtxId) (a2 : Ctx → Ctx) : (s.withCtx a1 a2).role = s.role := 
  kept_withCtx (π := fun t => t.role = s.role) (fun _ _ h => h) s a1 a2 rfl
@[simp] theorem withCtx_life (s : State) (a1 : CtxId) (a2 : Ctx → Ctx) : (s.withCtx a1 a2).life = s.life := 
  kept_withCtx (π := fun t => t.life = s.life) (fun _ _ h => h) s a1 a2 rfl
@[simp] theorem withCtx_straps (s : State) (a1 : CtxId) (a2 : Ctx → Ctx) : (s.withCtx a1 a2).straps = s.straps := 
  kept_withCtx (π := fun t => t.straps = s.straps) (fun _ _ h => h) s a1 a2 rfl
@[simp] theorem withCtx_railsGood (s : State) (a1 : CtxId) (a2 : Ctx → Ctx) : (s.withCtx a1 a2).railsGood = s.railsGood := 
  kept_withCtx (π := fun t => t.railsGood = s.railsGood) (fun _ _ h => h) s a1 a2 rfl
@[simp] theorem withCtx_od (s : State) (a1 : CtxId) (a2 : Ctx → Ctx) : (s.withCtx a1 a2).od = s.od := 
  kept_withCtx (π := fun t => t.od = s.od) (fun _ _ h => h) s a1 a2 rfl
@[simp] theorem withCtx_clocks (s : State) (a1 : CtxId) (a2 : Ctx → Ctx) : (s.withCtx a1 a2).clocks = s.clocks := 
  kept_withCtx (π := fun t => t.clocks = s.clocks) (fun _ _ h => h) s a1 a2 rfl
@[simp] theorem withCtx_thermal (s : State) (a1 : CtxId) (a2 : Ctx → Ctx) : (s.withCtx a1 a2).thermal = s.thermal := 
  kept_withCtx (π := fun t => t.thermal = s.thermal) (fun _ _ h => h) s a1 a2 rfl
@[simp] theorem withCtx_otp (s : State) (a1 : CtxId) (a2 : Ctx → Ctx) : (s.withCtx a1 a2).otp = s.otp := 
  kept_withCtx (π := fun t => t.otp = s.otp) (fun _ _ h => h) s a1 a2 rfl
@[simp] theorem withCtx_nvm (s : State) (a1 : CtxId) (a2 : Ctx → Ctx) : (s.withCtx a1 a2).nvm = s.nvm := 
  kept_withCtx (π := fun t => t.nvm = s.nvm) (fun _ _ h => h) s a1 a2 rfl
@[simp] theorem withCtx_update (s : State) (a1 : CtxId) (a2 : Ctx → Ctx) : (s.withCtx a1 a2).update = s.update := 
  kept_withCtx (π := fun t => t.update = s.update) (fun _ _ h => h) s a1 a2 rfl
@[simp] theorem withCtx_beat (s : State) (a1 : CtxId) (a2 : Ctx → Ctx) : (s.withCtx a1 a2).beat = s.beat := 
  kept_withCtx (π := fun t => t.beat = s.beat) (fun _ _ h => h) s a1 a2 rfl
@[simp] theorem withCtx_tap (s : State) (a1 : CtxId) (a2 : Ctx → Ctx) : (s.withCtx a1 a2).tap = s.tap := 
  kept_withCtx (π := fun t => t.tap = s.tap) (fun _ _ h => h) s a1 a2 rfl
@[simp] theorem withCtx_hostPort (s : State) (a1 : CtxId) (a2 : Ctx → Ctx) : (s.withCtx a1 a2).hostPort = s.hostPort := 
  kept_withCtx (π := fun t => t.hostPort = s.hostPort) (fun _ _ h => h) s a1 a2 rfl
@[simp] theorem withCtx_lanes (s : State) (a1 : CtxId) (a2 : Ctx → Ctx) : (s.withCtx a1 a2).lanes = s.lanes := 
  kept_withCtx (π := fun t => t.lanes = s.lanes) (fun _ _ h => h) s a1 a2 rfl
@[simp] theorem withCtx_quartz (s : State) (a1 : CtxId) (a2 : Ctx → Ctx) : (s.withCtx a1 a2).quartz = s.quartz := 
  kept_withCtx (π := fun t => t.quartz = s.quartz) (fun _ _ h => h) s a1 a2 rfl
@[simp] theorem withCtx_tile (s : State) (a1 : CtxId) (a2 : Ctx → Ctx) : (s.withCtx a1 a2).tile = s.tile := 
  kept_withCtx (π := fun t => t.tile = s.tile) (fun _ _ h => h) s a1 a2 rfl
@[simp] theorem withCtx_ports (s : State) (a1 : CtxId) (a2 : Ctx → Ctx) : (s.withCtx a1 a2).ports = s.ports := 
  kept_withCtx (π := fun t => t.ports = s.ports) (fun _ _ h => h) s a1 a2 rfl
@[simp] theorem withCtx_cascade (s : State) (a1 : CtxId) (a2 : Ctx → Ctx) : (s.withCtx a1 a2).cascade = s.cascade := 
  kept_withCtx (π := fun t => t.cascade = s.cascade) (fun _ _ h => h) s a1 a2 rfl
@[simp] theorem withCtx_ingress (s : State) (a1 : CtxId) (a2 : Ctx → Ctx) : (s.withCtx a1 a2).ingress = s.ingress := 
  kept_withCtx (π := fun t => t.ingress = s.ingress) (fun _ _ h => h) s a1 a2 rfl
@[simp] theorem withCtx_video (s : State) (a1 : CtxId) (a2 : Ctx → Ctx) : (s.withCtx a1 a2).video = s.video := 
  kept_withCtx (π := fun t => t.video = s.video) (fun _ _ h => h) s a1 a2 rfl
@[simp] theorem withCtx_lamps (s : State) (a1 : CtxId) (a2 : Ctx → Ctx) : (s.withCtx a1 a2).lamps = s.lamps := 
  kept_withCtx (π := fun t => t.lamps = s.lamps) (fun _ _ h => h) s a1 a2 rfl
@[simp] theorem withCtx_sent (s : State) (a1 : CtxId) (a2 : Ctx → Ctx) : (s.withCtx a1 a2).sent = s.sent := 
  kept_withCtx (π := fun t => t.sent = s.sent) (fun _ _ h => h) s a1 a2 rfl
@[simp] theorem withCtx_freeCount (s : State) (a1 : CtxId) (a2 : Ctx → Ctx) : (s.withCtx a1 a2).freeCount = s.freeCount := 
  kept_withCtx (π := fun t => t.freeCount = s.freeCount) (fun _ _ h => h) s a1 a2 rfl
@[simp] theorem withCtx_pending (s : State) (a1 : CtxId) (a2 : Ctx → Ctx) : (s.withCtx a1 a2).pending = s.pending := 
  kept_withCtx (π := fun t => t.pending = s.pending) (fun _ _ h => h) s a1 a2 rfl

@[simp] theorem withUpdate_update (s : State) (a1 : Update → Update) : (s.withUpdate a1).update = a1 s.update := rfl
@[simp] theorem withUpdate_now (s : State) (a1 : Update → Update) : (s.withUpdate a1).now = s.now := rfl
@[simp] theorem withUpdate_role (s : State) (a1 : Update → Update) : (s.withUpdate a1).role = s.role := rfl
@[simp] theorem withUpdate_life (s : State) (a1 : Update → Update) : (s.withUpdate a1).life = s.life := rfl
@[simp] theorem withUpdate_straps (s : State) (a1 : Update → Update) : (s.withUpdate a1).straps = s.straps := rfl
@[simp] theorem withUpdate_railsGood (s : State) (a1 : Update → Update) : (s.withUpdate a1).railsGood = s.railsGood := rfl
@[simp] theorem withUpdate_od (s : State) (a1 : Update → Update) : (s.withUpdate a1).od = s.od := rfl
@[simp] theorem withUpdate_control (s : State) (a1 : Update → Update) : (s.withUpdate a1).control = s.control := rfl
@[simp] theorem withUpdate_clocks (s : State) (a1 : Update → Update) : (s.withUpdate a1).clocks = s.clocks := rfl
@[simp] theorem withUpdate_thermal (s : State) (a1 : Update → Update) : (s.withUpdate a1).thermal = s.thermal := rfl
@[simp] theorem withUpdate_otp (s : State) (a1 : Update → Update) : (s.withUpdate a1).otp = s.otp := rfl
@[simp] theorem withUpdate_nvm (s : State) (a1 : Update → Update) : (s.withUpdate a1).nvm = s.nvm := rfl
@[simp] theorem withUpdate_beat (s : State) (a1 : Update → Update) : (s.withUpdate a1).beat = s.beat := rfl
@[simp] theorem withUpdate_tap (s : State) (a1 : Update → Update) : (s.withUpdate a1).tap = s.tap := rfl
@[simp] theorem withUpdate_hostPort (s : State) (a1 : Update → Update) : (s.withUpdate a1).hostPort = s.hostPort := rfl
@[simp] theorem withUpdate_lanes (s : State) (a1 : Update → Update) : (s.withUpdate a1).lanes = s.lanes := rfl
@[simp] theorem withUpdate_quartz (s : State) (a1 : Update → Update) : (s.withUpdate a1).quartz = s.quartz := rfl
@[simp] theorem withUpdate_tile (s : State) (a1 : Update → Update) : (s.withUpdate a1).tile = s.tile := rfl
@[simp] theorem withUpdate_ports (s : State) (a1 : Update → Update) : (s.withUpdate a1).ports = s.ports := rfl
@[simp] theorem withUpdate_cascade (s : State) (a1 : Update → Update) : (s.withUpdate a1).cascade = s.cascade := rfl
@[simp] theorem withUpdate_ingress (s : State) (a1 : Update → Update) : (s.withUpdate a1).ingress = s.ingress := rfl
@[simp] theorem withUpdate_video (s : State) (a1 : Update → Update) : (s.withUpdate a1).video = s.video := rfl
@[simp] theorem withUpdate_lamps (s : State) (a1 : Update → Update) : (s.withUpdate a1).lamps = s.lamps := rfl
@[simp] theorem withUpdate_sent (s : State) (a1 : Update → Update) : (s.withUpdate a1).sent = s.sent := rfl
@[simp] theorem withUpdate_freeCount (s : State) (a1 : Update → Update) : (s.withUpdate a1).freeCount = s.freeCount := rfl
@[simp] theorem withUpdate_pending (s : State) (a1 : Update → Update) : (s.withUpdate a1).pending = s.pending := rfl

@[simp] theorem withWu_now (s : State) (a1 : WallUpdate → WallUpdate) : (s.withWu a1).now = s.now := 
  kept_withWu (π := fun t => t.now = s.now) (fun _ _ h => h) s a1 rfl
@[simp] theorem withWu_role (s : State) (a1 : WallUpdate → WallUpdate) : (s.withWu a1).role = s.role := 
  kept_withWu (π := fun t => t.role = s.role) (fun _ _ h => h) s a1 rfl
@[simp] theorem withWu_life (s : State) (a1 : WallUpdate → WallUpdate) : (s.withWu a1).life = s.life := 
  kept_withWu (π := fun t => t.life = s.life) (fun _ _ h => h) s a1 rfl
@[simp] theorem withWu_straps (s : State) (a1 : WallUpdate → WallUpdate) : (s.withWu a1).straps = s.straps := 
  kept_withWu (π := fun t => t.straps = s.straps) (fun _ _ h => h) s a1 rfl
@[simp] theorem withWu_railsGood (s : State) (a1 : WallUpdate → WallUpdate) : (s.withWu a1).railsGood = s.railsGood := 
  kept_withWu (π := fun t => t.railsGood = s.railsGood) (fun _ _ h => h) s a1 rfl
@[simp] theorem withWu_od (s : State) (a1 : WallUpdate → WallUpdate) : (s.withWu a1).od = s.od := 
  kept_withWu (π := fun t => t.od = s.od) (fun _ _ h => h) s a1 rfl
@[simp] theorem withWu_control (s : State) (a1 : WallUpdate → WallUpdate) : (s.withWu a1).control = s.control := 
  kept_withWu (π := fun t => t.control = s.control) (fun _ _ h => h) s a1 rfl
@[simp] theorem withWu_clocks (s : State) (a1 : WallUpdate → WallUpdate) : (s.withWu a1).clocks = s.clocks := 
  kept_withWu (π := fun t => t.clocks = s.clocks) (fun _ _ h => h) s a1 rfl
@[simp] theorem withWu_thermal (s : State) (a1 : WallUpdate → WallUpdate) : (s.withWu a1).thermal = s.thermal := 
  kept_withWu (π := fun t => t.thermal = s.thermal) (fun _ _ h => h) s a1 rfl
@[simp] theorem withWu_otp (s : State) (a1 : WallUpdate → WallUpdate) : (s.withWu a1).otp = s.otp := 
  kept_withWu (π := fun t => t.otp = s.otp) (fun _ _ h => h) s a1 rfl
@[simp] theorem withWu_nvm (s : State) (a1 : WallUpdate → WallUpdate) : (s.withWu a1).nvm = s.nvm := 
  kept_withWu (π := fun t => t.nvm = s.nvm) (fun _ _ h => h) s a1 rfl
@[simp] theorem withWu_beat (s : State) (a1 : WallUpdate → WallUpdate) : (s.withWu a1).beat = s.beat := 
  kept_withWu (π := fun t => t.beat = s.beat) (fun _ _ h => h) s a1 rfl
@[simp] theorem withWu_tap (s : State) (a1 : WallUpdate → WallUpdate) : (s.withWu a1).tap = s.tap := 
  kept_withWu (π := fun t => t.tap = s.tap) (fun _ _ h => h) s a1 rfl
@[simp] theorem withWu_hostPort (s : State) (a1 : WallUpdate → WallUpdate) : (s.withWu a1).hostPort = s.hostPort := 
  kept_withWu (π := fun t => t.hostPort = s.hostPort) (fun _ _ h => h) s a1 rfl
@[simp] theorem withWu_lanes (s : State) (a1 : WallUpdate → WallUpdate) : (s.withWu a1).lanes = s.lanes := 
  kept_withWu (π := fun t => t.lanes = s.lanes) (fun _ _ h => h) s a1 rfl
@[simp] theorem withWu_quartz (s : State) (a1 : WallUpdate → WallUpdate) : (s.withWu a1).quartz = s.quartz := 
  kept_withWu (π := fun t => t.quartz = s.quartz) (fun _ _ h => h) s a1 rfl
@[simp] theorem withWu_tile (s : State) (a1 : WallUpdate → WallUpdate) : (s.withWu a1).tile = s.tile := 
  kept_withWu (π := fun t => t.tile = s.tile) (fun _ _ h => h) s a1 rfl
@[simp] theorem withWu_ports (s : State) (a1 : WallUpdate → WallUpdate) : (s.withWu a1).ports = s.ports := 
  kept_withWu (π := fun t => t.ports = s.ports) (fun _ _ h => h) s a1 rfl
@[simp] theorem withWu_cascade (s : State) (a1 : WallUpdate → WallUpdate) : (s.withWu a1).cascade = s.cascade := 
  kept_withWu (π := fun t => t.cascade = s.cascade) (fun _ _ h => h) s a1 rfl
@[simp] theorem withWu_ingress (s : State) (a1 : WallUpdate → WallUpdate) : (s.withWu a1).ingress = s.ingress := 
  kept_withWu (π := fun t => t.ingress = s.ingress) (fun _ _ h => h) s a1 rfl
@[simp] theorem withWu_video (s : State) (a1 : WallUpdate → WallUpdate) : (s.withWu a1).video = s.video := 
  kept_withWu (π := fun t => t.video = s.video) (fun _ _ h => h) s a1 rfl
@[simp] theorem withWu_lamps (s : State) (a1 : WallUpdate → WallUpdate) : (s.withWu a1).lamps = s.lamps := 
  kept_withWu (π := fun t => t.lamps = s.lamps) (fun _ _ h => h) s a1 rfl
@[simp] theorem withWu_sent (s : State) (a1 : WallUpdate → WallUpdate) : (s.withWu a1).sent = s.sent := 
  kept_withWu (π := fun t => t.sent = s.sent) (fun _ _ h => h) s a1 rfl
@[simp] theorem withWu_freeCount (s : State) (a1 : WallUpdate → WallUpdate) : (s.withWu a1).freeCount = s.freeCount := 
  kept_withWu (π := fun t => t.freeCount = s.freeCount) (fun _ _ h => h) s a1 rfl
@[simp] theorem withWu_pending (s : State) (a1 : WallUpdate → WallUpdate) : (s.withWu a1).pending = s.pending := 
  kept_withWu (π := fun t => t.pending = s.pending) (fun _ _ h => h) s a1 rfl

@[simp] theorem withCompose_now (s : State) (a1 : Compose → Compose) : (s.withCompose a1).now = s.now := rfl
@[simp] theorem withCompose_role (s : State) (a1 : Compose → Compose) : (s.withCompose a1).role = s.role := rfl
@[simp] theorem withCompose_life (s : State) (a1 : Compose → Compose) : (s.withCompose a1).life = s.life := rfl
@[simp] theorem withCompose_straps (s : State) (a1 : Compose → Compose) : (s.withCompose a1).straps = s.straps := rfl
@[simp] theorem withCompose_railsGood (s : State) (a1 : Compose → Compose) : (s.withCompose a1).railsGood = s.railsGood := rfl
@[simp] theorem withCompose_od (s : State) (a1 : Compose → Compose) : (s.withCompose a1).od = s.od := rfl
@[simp] theorem withCompose_control (s : State) (a1 : Compose → Compose) : (s.withCompose a1).control = s.control := rfl
@[simp] theorem withCompose_clocks (s : State) (a1 : Compose → Compose) : (s.withCompose a1).clocks = s.clocks := rfl
@[simp] theorem withCompose_thermal (s : State) (a1 : Compose → Compose) : (s.withCompose a1).thermal = s.thermal := rfl
@[simp] theorem withCompose_otp (s : State) (a1 : Compose → Compose) : (s.withCompose a1).otp = s.otp := rfl
@[simp] theorem withCompose_nvm (s : State) (a1 : Compose → Compose) : (s.withCompose a1).nvm = s.nvm := rfl
@[simp] theorem withCompose_update (s : State) (a1 : Compose → Compose) : (s.withCompose a1).update = s.update := rfl
@[simp] theorem withCompose_beat (s : State) (a1 : Compose → Compose) : (s.withCompose a1).beat = s.beat := rfl
@[simp] theorem withCompose_tap (s : State) (a1 : Compose → Compose) : (s.withCompose a1).tap = s.tap := rfl
@[simp] theorem withCompose_hostPort (s : State) (a1 : Compose → Compose) : (s.withCompose a1).hostPort = s.hostPort := rfl
@[simp] theorem withCompose_lanes (s : State) (a1 : Compose → Compose) : (s.withCompose a1).lanes = s.lanes := rfl
@[simp] theorem withCompose_quartz (s : State) (a1 : Compose → Compose) : (s.withCompose a1).quartz = s.quartz := rfl
@[simp] theorem withCompose_tile (s : State) (a1 : Compose → Compose) : (s.withCompose a1).tile = s.tile := rfl
@[simp] theorem withCompose_ports (s : State) (a1 : Compose → Compose) : (s.withCompose a1).ports = s.ports := rfl
@[simp] theorem withCompose_cascade (s : State) (a1 : Compose → Compose) : (s.withCompose a1).cascade = s.cascade := rfl
@[simp] theorem withCompose_ingress (s : State) (a1 : Compose → Compose) : (s.withCompose a1).ingress = s.ingress := rfl
@[simp] theorem withCompose_lamps (s : State) (a1 : Compose → Compose) : (s.withCompose a1).lamps = s.lamps := rfl
@[simp] theorem withCompose_sent (s : State) (a1 : Compose → Compose) : (s.withCompose a1).sent = s.sent := rfl
@[simp] theorem withCompose_freeCount (s : State) (a1 : Compose → Compose) : (s.withCompose a1).freeCount = s.freeCount := rfl
@[simp] theorem withCompose_pending (s : State) (a1 : Compose → Compose) : (s.withCompose a1).pending = s.pending := rfl

@[simp] theorem withColour_now (s : State) (a1 : Colour → Colour) : (s.withColour a1).now = s.now := rfl
@[simp] theorem withColour_role (s : State) (a1 : Colour → Colour) : (s.withColour a1).role = s.role := rfl
@[simp] theorem withColour_life (s : State) (a1 : Colour → Colour) : (s.withColour a1).life = s.life := rfl
@[simp] theorem withColour_straps (s : State) (a1 : Colour → Colour) : (s.withColour a1).straps = s.straps := rfl
@[simp] theorem withColour_railsGood (s : State) (a1 : Colour → Colour) : (s.withColour a1).railsGood = s.railsGood := rfl
@[simp] theorem withColour_od (s : State) (a1 : Colour → Colour) : (s.withColour a1).od = s.od := rfl
@[simp] theorem withColour_control (s : State) (a1 : Colour → Colour) : (s.withColour a1).control = s.control := rfl
@[simp] theorem withColour_clocks (s : State) (a1 : Colour → Colour) : (s.withColour a1).clocks = s.clocks := rfl
@[simp] theorem withColour_thermal (s : State) (a1 : Colour → Colour) : (s.withColour a1).thermal = s.thermal := rfl
@[simp] theorem withColour_otp (s : State) (a1 : Colour → Colour) : (s.withColour a1).otp = s.otp := rfl
@[simp] theorem withColour_nvm (s : State) (a1 : Colour → Colour) : (s.withColour a1).nvm = s.nvm := rfl
@[simp] theorem withColour_update (s : State) (a1 : Colour → Colour) : (s.withColour a1).update = s.update := rfl
@[simp] theorem withColour_beat (s : State) (a1 : Colour → Colour) : (s.withColour a1).beat = s.beat := rfl
@[simp] theorem withColour_tap (s : State) (a1 : Colour → Colour) : (s.withColour a1).tap = s.tap := rfl
@[simp] theorem withColour_hostPort (s : State) (a1 : Colour → Colour) : (s.withColour a1).hostPort = s.hostPort := rfl
@[simp] theorem withColour_lanes (s : State) (a1 : Colour → Colour) : (s.withColour a1).lanes = s.lanes := rfl
@[simp] theorem withColour_quartz (s : State) (a1 : Colour → Colour) : (s.withColour a1).quartz = s.quartz := rfl
@[simp] theorem withColour_tile (s : State) (a1 : Colour → Colour) : (s.withColour a1).tile = s.tile := rfl
@[simp] theorem withColour_ports (s : State) (a1 : Colour → Colour) : (s.withColour a1).ports = s.ports := rfl
@[simp] theorem withColour_cascade (s : State) (a1 : Colour → Colour) : (s.withColour a1).cascade = s.cascade := rfl
@[simp] theorem withColour_ingress (s : State) (a1 : Colour → Colour) : (s.withColour a1).ingress = s.ingress := rfl
@[simp] theorem withColour_lamps (s : State) (a1 : Colour → Colour) : (s.withColour a1).lamps = s.lamps := rfl
@[simp] theorem withColour_sent (s : State) (a1 : Colour → Colour) : (s.withColour a1).sent = s.sent := rfl
@[simp] theorem withColour_freeCount (s : State) (a1 : Colour → Colour) : (s.withColour a1).freeCount = s.freeCount := rfl
@[simp] theorem withColour_pending (s : State) (a1 : Colour → Colour) : (s.withColour a1).pending = s.pending := rfl

@[simp] theorem withPort_now (s : State) (a1 : Fin 64) (a2 : LampPort → LampPort) : (s.withPort a1 a2).now = s.now := rfl
@[simp] theorem withPort_role (s : State) (a1 : Fin 64) (a2 : LampPort → LampPort) : (s.withPort a1 a2).role = s.role := rfl
@[simp] theorem withPort_life (s : State) (a1 : Fin 64) (a2 : LampPort → LampPort) : (s.withPort a1 a2).life = s.life := rfl
@[simp] theorem withPort_straps (s : State) (a1 : Fin 64) (a2 : LampPort → LampPort) : (s.withPort a1 a2).straps = s.straps := rfl
@[simp] theorem withPort_railsGood (s : State) (a1 : Fin 64) (a2 : LampPort → LampPort) : (s.withPort a1 a2).railsGood = s.railsGood := rfl
@[simp] theorem withPort_od (s : State) (a1 : Fin 64) (a2 : LampPort → LampPort) : (s.withPort a1 a2).od = s.od := rfl
@[simp] theorem withPort_control (s : State) (a1 : Fin 64) (a2 : LampPort → LampPort) : (s.withPort a1 a2).control = s.control := rfl
@[simp] theorem withPort_clocks (s : State) (a1 : Fin 64) (a2 : LampPort → LampPort) : (s.withPort a1 a2).clocks = s.clocks := rfl
@[simp] theorem withPort_thermal (s : State) (a1 : Fin 64) (a2 : LampPort → LampPort) : (s.withPort a1 a2).thermal = s.thermal := rfl
@[simp] theorem withPort_otp (s : State) (a1 : Fin 64) (a2 : LampPort → LampPort) : (s.withPort a1 a2).otp = s.otp := rfl
@[simp] theorem withPort_nvm (s : State) (a1 : Fin 64) (a2 : LampPort → LampPort) : (s.withPort a1 a2).nvm = s.nvm := rfl
@[simp] theorem withPort_update (s : State) (a1 : Fin 64) (a2 : LampPort → LampPort) : (s.withPort a1 a2).update = s.update := rfl
@[simp] theorem withPort_beat (s : State) (a1 : Fin 64) (a2 : LampPort → LampPort) : (s.withPort a1 a2).beat = s.beat := rfl
@[simp] theorem withPort_tap (s : State) (a1 : Fin 64) (a2 : LampPort → LampPort) : (s.withPort a1 a2).tap = s.tap := rfl
@[simp] theorem withPort_hostPort (s : State) (a1 : Fin 64) (a2 : LampPort → LampPort) : (s.withPort a1 a2).hostPort = s.hostPort := rfl
@[simp] theorem withPort_lanes (s : State) (a1 : Fin 64) (a2 : LampPort → LampPort) : (s.withPort a1 a2).lanes = s.lanes := rfl
@[simp] theorem withPort_quartz (s : State) (a1 : Fin 64) (a2 : LampPort → LampPort) : (s.withPort a1 a2).quartz = s.quartz := rfl
@[simp] theorem withPort_tile (s : State) (a1 : Fin 64) (a2 : LampPort → LampPort) : (s.withPort a1 a2).tile = s.tile := rfl
@[simp] theorem withPort_ports (s : State) (a1 : Fin 64) (a2 : LampPort → LampPort) : (s.withPort a1 a2).ports = s.ports := rfl
@[simp] theorem withPort_cascade (s : State) (a1 : Fin 64) (a2 : LampPort → LampPort) : (s.withPort a1 a2).cascade = s.cascade := rfl
@[simp] theorem withPort_ingress (s : State) (a1 : Fin 64) (a2 : LampPort → LampPort) : (s.withPort a1 a2).ingress = s.ingress := rfl
@[simp] theorem withPort_video (s : State) (a1 : Fin 64) (a2 : LampPort → LampPort) : (s.withPort a1 a2).video = s.video := rfl
@[simp] theorem withPort_sent (s : State) (a1 : Fin 64) (a2 : LampPort → LampPort) : (s.withPort a1 a2).sent = s.sent := rfl
@[simp] theorem withPort_freeCount (s : State) (a1 : Fin 64) (a2 : LampPort → LampPort) : (s.withPort a1 a2).freeCount = s.freeCount := rfl
@[simp] theorem withPort_pending (s : State) (a1 : Fin 64) (a2 : LampPort → LampPort) : (s.withPort a1 a2).pending = s.pending := rfl

@[simp] theorem withTile_tile (s : State) (a1 : TileChain → TileChain) : (s.withTile a1).tile = a1 s.tile := rfl
@[simp] theorem withTile_now (s : State) (a1 : TileChain → TileChain) : (s.withTile a1).now = s.now := rfl
@[simp] theorem withTile_role (s : State) (a1 : TileChain → TileChain) : (s.withTile a1).role = s.role := rfl
@[simp] theorem withTile_life (s : State) (a1 : TileChain → TileChain) : (s.withTile a1).life = s.life := rfl
@[simp] theorem withTile_straps (s : State) (a1 : TileChain → TileChain) : (s.withTile a1).straps = s.straps := rfl
@[simp] theorem withTile_railsGood (s : State) (a1 : TileChain → TileChain) : (s.withTile a1).railsGood = s.railsGood := rfl
@[simp] theorem withTile_od (s : State) (a1 : TileChain → TileChain) : (s.withTile a1).od = s.od := rfl
@[simp] theorem withTile_control (s : State) (a1 : TileChain → TileChain) : (s.withTile a1).control = s.control := rfl
@[simp] theorem withTile_clocks (s : State) (a1 : TileChain → TileChain) : (s.withTile a1).clocks = s.clocks := rfl
@[simp] theorem withTile_thermal (s : State) (a1 : TileChain → TileChain) : (s.withTile a1).thermal = s.thermal := rfl
@[simp] theorem withTile_otp (s : State) (a1 : TileChain → TileChain) : (s.withTile a1).otp = s.otp := rfl
@[simp] theorem withTile_nvm (s : State) (a1 : TileChain → TileChain) : (s.withTile a1).nvm = s.nvm := rfl
@[simp] theorem withTile_update (s : State) (a1 : TileChain → TileChain) : (s.withTile a1).update = s.update := rfl
@[simp] theorem withTile_beat (s : State) (a1 : TileChain → TileChain) : (s.withTile a1).beat = s.beat := rfl
@[simp] theorem withTile_tap (s : State) (a1 : TileChain → TileChain) : (s.withTile a1).tap = s.tap := rfl
@[simp] theorem withTile_hostPort (s : State) (a1 : TileChain → TileChain) : (s.withTile a1).hostPort = s.hostPort := rfl
@[simp] theorem withTile_lanes (s : State) (a1 : TileChain → TileChain) : (s.withTile a1).lanes = s.lanes := rfl
@[simp] theorem withTile_quartz (s : State) (a1 : TileChain → TileChain) : (s.withTile a1).quartz = s.quartz := rfl
@[simp] theorem withTile_ports (s : State) (a1 : TileChain → TileChain) : (s.withTile a1).ports = s.ports := rfl
@[simp] theorem withTile_cascade (s : State) (a1 : TileChain → TileChain) : (s.withTile a1).cascade = s.cascade := rfl
@[simp] theorem withTile_ingress (s : State) (a1 : TileChain → TileChain) : (s.withTile a1).ingress = s.ingress := rfl
@[simp] theorem withTile_video (s : State) (a1 : TileChain → TileChain) : (s.withTile a1).video = s.video := rfl
@[simp] theorem withTile_lamps (s : State) (a1 : TileChain → TileChain) : (s.withTile a1).lamps = s.lamps := rfl
@[simp] theorem withTile_sent (s : State) (a1 : TileChain → TileChain) : (s.withTile a1).sent = s.sent := rfl
@[simp] theorem withTile_freeCount (s : State) (a1 : TileChain → TileChain) : (s.withTile a1).freeCount = s.freeCount := rfl
@[simp] theorem withTile_pending (s : State) (a1 : TileChain → TileChain) : (s.withTile a1).pending = s.pending := rfl

@[simp] theorem withCascade_cascade (s : State) (a1 : Cascade → Cascade) : (s.withCascade a1).cascade = a1 s.cascade := rfl
@[simp] theorem withCascade_now (s : State) (a1 : Cascade → Cascade) : (s.withCascade a1).now = s.now := rfl
@[simp] theorem withCascade_role (s : State) (a1 : Cascade → Cascade) : (s.withCascade a1).role = s.role := rfl
@[simp] theorem withCascade_life (s : State) (a1 : Cascade → Cascade) : (s.withCascade a1).life = s.life := rfl
@[simp] theorem withCascade_straps (s : State) (a1 : Cascade → Cascade) : (s.withCascade a1).straps = s.straps := rfl
@[simp] theorem withCascade_railsGood (s : State) (a1 : Cascade → Cascade) : (s.withCascade a1).railsGood = s.railsGood := rfl
@[simp] theorem withCascade_od (s : State) (a1 : Cascade → Cascade) : (s.withCascade a1).od = s.od := rfl
@[simp] theorem withCascade_control (s : State) (a1 : Cascade → Cascade) : (s.withCascade a1).control = s.control := rfl
@[simp] theorem withCascade_clocks (s : State) (a1 : Cascade → Cascade) : (s.withCascade a1).clocks = s.clocks := rfl
@[simp] theorem withCascade_thermal (s : State) (a1 : Cascade → Cascade) : (s.withCascade a1).thermal = s.thermal := rfl
@[simp] theorem withCascade_otp (s : State) (a1 : Cascade → Cascade) : (s.withCascade a1).otp = s.otp := rfl
@[simp] theorem withCascade_nvm (s : State) (a1 : Cascade → Cascade) : (s.withCascade a1).nvm = s.nvm := rfl
@[simp] theorem withCascade_update (s : State) (a1 : Cascade → Cascade) : (s.withCascade a1).update = s.update := rfl
@[simp] theorem withCascade_beat (s : State) (a1 : Cascade → Cascade) : (s.withCascade a1).beat = s.beat := rfl
@[simp] theorem withCascade_tap (s : State) (a1 : Cascade → Cascade) : (s.withCascade a1).tap = s.tap := rfl
@[simp] theorem withCascade_hostPort (s : State) (a1 : Cascade → Cascade) : (s.withCascade a1).hostPort = s.hostPort := rfl
@[simp] theorem withCascade_lanes (s : State) (a1 : Cascade → Cascade) : (s.withCascade a1).lanes = s.lanes := rfl
@[simp] theorem withCascade_quartz (s : State) (a1 : Cascade → Cascade) : (s.withCascade a1).quartz = s.quartz := rfl
@[simp] theorem withCascade_tile (s : State) (a1 : Cascade → Cascade) : (s.withCascade a1).tile = s.tile := rfl
@[simp] theorem withCascade_ports (s : State) (a1 : Cascade → Cascade) : (s.withCascade a1).ports = s.ports := rfl
@[simp] theorem withCascade_ingress (s : State) (a1 : Cascade → Cascade) : (s.withCascade a1).ingress = s.ingress := rfl
@[simp] theorem withCascade_video (s : State) (a1 : Cascade → Cascade) : (s.withCascade a1).video = s.video := rfl
@[simp] theorem withCascade_lamps (s : State) (a1 : Cascade → Cascade) : (s.withCascade a1).lamps = s.lamps := rfl
@[simp] theorem withCascade_sent (s : State) (a1 : Cascade → Cascade) : (s.withCascade a1).sent = s.sent := rfl
@[simp] theorem withCascade_freeCount (s : State) (a1 : Cascade → Cascade) : (s.withCascade a1).freeCount = s.freeCount := rfl
@[simp] theorem withCascade_pending (s : State) (a1 : Cascade → Cascade) : (s.withCascade a1).pending = s.pending := rfl

@[simp] theorem withNeighbour_now (s : State) (a1 : Fin 2) (a2 : Neighbour → Neighbour) : (s.withNeighbour a1 a2).now = s.now := 
  kept_withNeighbour (π := fun t => t.now = s.now) (fun _ _ h => h) s a1 a2 rfl
@[simp] theorem withNeighbour_role (s : State) (a1 : Fin 2) (a2 : Neighbour → Neighbour) : (s.withNeighbour a1 a2).role = s.role := 
  kept_withNeighbour (π := fun t => t.role = s.role) (fun _ _ h => h) s a1 a2 rfl
@[simp] theorem withNeighbour_life (s : State) (a1 : Fin 2) (a2 : Neighbour → Neighbour) : (s.withNeighbour a1 a2).life = s.life := 
  kept_withNeighbour (π := fun t => t.life = s.life) (fun _ _ h => h) s a1 a2 rfl
@[simp] theorem withNeighbour_straps (s : State) (a1 : Fin 2) (a2 : Neighbour → Neighbour) : (s.withNeighbour a1 a2).straps = s.straps := 
  kept_withNeighbour (π := fun t => t.straps = s.straps) (fun _ _ h => h) s a1 a2 rfl
@[simp] theorem withNeighbour_railsGood (s : State) (a1 : Fin 2) (a2 : Neighbour → Neighbour) : (s.withNeighbour a1 a2).railsGood = s.railsGood := 
  kept_withNeighbour (π := fun t => t.railsGood = s.railsGood) (fun _ _ h => h) s a1 a2 rfl
@[simp] theorem withNeighbour_od (s : State) (a1 : Fin 2) (a2 : Neighbour → Neighbour) : (s.withNeighbour a1 a2).od = s.od := 
  kept_withNeighbour (π := fun t => t.od = s.od) (fun _ _ h => h) s a1 a2 rfl
@[simp] theorem withNeighbour_control (s : State) (a1 : Fin 2) (a2 : Neighbour → Neighbour) : (s.withNeighbour a1 a2).control = s.control := 
  kept_withNeighbour (π := fun t => t.control = s.control) (fun _ _ h => h) s a1 a2 rfl
@[simp] theorem withNeighbour_clocks (s : State) (a1 : Fin 2) (a2 : Neighbour → Neighbour) : (s.withNeighbour a1 a2).clocks = s.clocks := 
  kept_withNeighbour (π := fun t => t.clocks = s.clocks) (fun _ _ h => h) s a1 a2 rfl
@[simp] theorem withNeighbour_thermal (s : State) (a1 : Fin 2) (a2 : Neighbour → Neighbour) : (s.withNeighbour a1 a2).thermal = s.thermal := 
  kept_withNeighbour (π := fun t => t.thermal = s.thermal) (fun _ _ h => h) s a1 a2 rfl
@[simp] theorem withNeighbour_otp (s : State) (a1 : Fin 2) (a2 : Neighbour → Neighbour) : (s.withNeighbour a1 a2).otp = s.otp := 
  kept_withNeighbour (π := fun t => t.otp = s.otp) (fun _ _ h => h) s a1 a2 rfl
@[simp] theorem withNeighbour_nvm (s : State) (a1 : Fin 2) (a2 : Neighbour → Neighbour) : (s.withNeighbour a1 a2).nvm = s.nvm := 
  kept_withNeighbour (π := fun t => t.nvm = s.nvm) (fun _ _ h => h) s a1 a2 rfl
@[simp] theorem withNeighbour_update (s : State) (a1 : Fin 2) (a2 : Neighbour → Neighbour) : (s.withNeighbour a1 a2).update = s.update := 
  kept_withNeighbour (π := fun t => t.update = s.update) (fun _ _ h => h) s a1 a2 rfl
@[simp] theorem withNeighbour_beat (s : State) (a1 : Fin 2) (a2 : Neighbour → Neighbour) : (s.withNeighbour a1 a2).beat = s.beat := 
  kept_withNeighbour (π := fun t => t.beat = s.beat) (fun _ _ h => h) s a1 a2 rfl
@[simp] theorem withNeighbour_tap (s : State) (a1 : Fin 2) (a2 : Neighbour → Neighbour) : (s.withNeighbour a1 a2).tap = s.tap := 
  kept_withNeighbour (π := fun t => t.tap = s.tap) (fun _ _ h => h) s a1 a2 rfl
@[simp] theorem withNeighbour_hostPort (s : State) (a1 : Fin 2) (a2 : Neighbour → Neighbour) : (s.withNeighbour a1 a2).hostPort = s.hostPort := 
  kept_withNeighbour (π := fun t => t.hostPort = s.hostPort) (fun _ _ h => h) s a1 a2 rfl
@[simp] theorem withNeighbour_lanes (s : State) (a1 : Fin 2) (a2 : Neighbour → Neighbour) : (s.withNeighbour a1 a2).lanes = s.lanes := 
  kept_withNeighbour (π := fun t => t.lanes = s.lanes) (fun _ _ h => h) s a1 a2 rfl
@[simp] theorem withNeighbour_tile (s : State) (a1 : Fin 2) (a2 : Neighbour → Neighbour) : (s.withNeighbour a1 a2).tile = s.tile := 
  kept_withNeighbour (π := fun t => t.tile = s.tile) (fun _ _ h => h) s a1 a2 rfl
@[simp] theorem withNeighbour_ports (s : State) (a1 : Fin 2) (a2 : Neighbour → Neighbour) : (s.withNeighbour a1 a2).ports = s.ports := 
  kept_withNeighbour (π := fun t => t.ports = s.ports) (fun _ _ h => h) s a1 a2 rfl
@[simp] theorem withNeighbour_cascade (s : State) (a1 : Fin 2) (a2 : Neighbour → Neighbour) : (s.withNeighbour a1 a2).cascade = s.cascade := 
  kept_withNeighbour (π := fun t => t.cascade = s.cascade) (fun _ _ h => h) s a1 a2 rfl
@[simp] theorem withNeighbour_ingress (s : State) (a1 : Fin 2) (a2 : Neighbour → Neighbour) : (s.withNeighbour a1 a2).ingress = s.ingress := 
  kept_withNeighbour (π := fun t => t.ingress = s.ingress) (fun _ _ h => h) s a1 a2 rfl
@[simp] theorem withNeighbour_video (s : State) (a1 : Fin 2) (a2 : Neighbour → Neighbour) : (s.withNeighbour a1 a2).video = s.video := 
  kept_withNeighbour (π := fun t => t.video = s.video) (fun _ _ h => h) s a1 a2 rfl
@[simp] theorem withNeighbour_lamps (s : State) (a1 : Fin 2) (a2 : Neighbour → Neighbour) : (s.withNeighbour a1 a2).lamps = s.lamps := 
  kept_withNeighbour (π := fun t => t.lamps = s.lamps) (fun _ _ h => h) s a1 a2 rfl
@[simp] theorem withNeighbour_sent (s : State) (a1 : Fin 2) (a2 : Neighbour → Neighbour) : (s.withNeighbour a1 a2).sent = s.sent := 
  kept_withNeighbour (π := fun t => t.sent = s.sent) (fun _ _ h => h) s a1 a2 rfl
@[simp] theorem withNeighbour_freeCount (s : State) (a1 : Fin 2) (a2 : Neighbour → Neighbour) : (s.withNeighbour a1 a2).freeCount = s.freeCount := 
  kept_withNeighbour (π := fun t => t.freeCount = s.freeCount) (fun _ _ h => h) s a1 a2 rfl
@[simp] theorem withNeighbour_pending (s : State) (a1 : Fin 2) (a2 : Neighbour → Neighbour) : (s.withNeighbour a1 a2).pending = s.pending := 
  kept_withNeighbour (π := fun t => t.pending = s.pending) (fun _ _ h => h) s a1 a2 rfl

@[simp] theorem withTap_tap (s : State) (a1 : Tap → Tap) : (s.withTap a1).tap = a1 s.tap := rfl
@[simp] theorem withTap_now (s : State) (a1 : Tap → Tap) : (s.withTap a1).now = s.now := rfl
@[simp] theorem withTap_role (s : State) (a1 : Tap → Tap) : (s.withTap a1).role = s.role := rfl
@[simp] theorem withTap_life (s : State) (a1 : Tap → Tap) : (s.withTap a1).life = s.life := rfl
@[simp] theorem withTap_straps (s : State) (a1 : Tap → Tap) : (s.withTap a1).straps = s.straps := rfl
@[simp] theorem withTap_railsGood (s : State) (a1 : Tap → Tap) : (s.withTap a1).railsGood = s.railsGood := rfl
@[simp] theorem withTap_od (s : State) (a1 : Tap → Tap) : (s.withTap a1).od = s.od := rfl
@[simp] theorem withTap_control (s : State) (a1 : Tap → Tap) : (s.withTap a1).control = s.control := rfl
@[simp] theorem withTap_clocks (s : State) (a1 : Tap → Tap) : (s.withTap a1).clocks = s.clocks := rfl
@[simp] theorem withTap_thermal (s : State) (a1 : Tap → Tap) : (s.withTap a1).thermal = s.thermal := rfl
@[simp] theorem withTap_otp (s : State) (a1 : Tap → Tap) : (s.withTap a1).otp = s.otp := rfl
@[simp] theorem withTap_nvm (s : State) (a1 : Tap → Tap) : (s.withTap a1).nvm = s.nvm := rfl
@[simp] theorem withTap_update (s : State) (a1 : Tap → Tap) : (s.withTap a1).update = s.update := rfl
@[simp] theorem withTap_beat (s : State) (a1 : Tap → Tap) : (s.withTap a1).beat = s.beat := rfl
@[simp] theorem withTap_hostPort (s : State) (a1 : Tap → Tap) : (s.withTap a1).hostPort = s.hostPort := rfl
@[simp] theorem withTap_lanes (s : State) (a1 : Tap → Tap) : (s.withTap a1).lanes = s.lanes := rfl
@[simp] theorem withTap_quartz (s : State) (a1 : Tap → Tap) : (s.withTap a1).quartz = s.quartz := rfl
@[simp] theorem withTap_tile (s : State) (a1 : Tap → Tap) : (s.withTap a1).tile = s.tile := rfl
@[simp] theorem withTap_ports (s : State) (a1 : Tap → Tap) : (s.withTap a1).ports = s.ports := rfl
@[simp] theorem withTap_cascade (s : State) (a1 : Tap → Tap) : (s.withTap a1).cascade = s.cascade := rfl
@[simp] theorem withTap_ingress (s : State) (a1 : Tap → Tap) : (s.withTap a1).ingress = s.ingress := rfl
@[simp] theorem withTap_video (s : State) (a1 : Tap → Tap) : (s.withTap a1).video = s.video := rfl
@[simp] theorem withTap_lamps (s : State) (a1 : Tap → Tap) : (s.withTap a1).lamps = s.lamps := rfl
@[simp] theorem withTap_sent (s : State) (a1 : Tap → Tap) : (s.withTap a1).sent = s.sent := rfl
@[simp] theorem withTap_freeCount (s : State) (a1 : Tap → Tap) : (s.withTap a1).freeCount = s.freeCount := rfl
@[simp] theorem withTap_pending (s : State) (a1 : Tap → Tap) : (s.withTap a1).pending = s.pending := rfl

@[simp] theorem withOpen_now (s : State) (a1 : Fin 64) (a2 : TxFrame → TxFrame) : (s.withOpen a1 a2).now = s.now := 
  kept_withOpen (π := fun t => t.now = s.now) (fun _ _ h => h) s a1 a2 rfl
@[simp] theorem withOpen_role (s : State) (a1 : Fin 64) (a2 : TxFrame → TxFrame) : (s.withOpen a1 a2).role = s.role := 
  kept_withOpen (π := fun t => t.role = s.role) (fun _ _ h => h) s a1 a2 rfl
@[simp] theorem withOpen_life (s : State) (a1 : Fin 64) (a2 : TxFrame → TxFrame) : (s.withOpen a1 a2).life = s.life := 
  kept_withOpen (π := fun t => t.life = s.life) (fun _ _ h => h) s a1 a2 rfl
@[simp] theorem withOpen_straps (s : State) (a1 : Fin 64) (a2 : TxFrame → TxFrame) : (s.withOpen a1 a2).straps = s.straps := 
  kept_withOpen (π := fun t => t.straps = s.straps) (fun _ _ h => h) s a1 a2 rfl
@[simp] theorem withOpen_railsGood (s : State) (a1 : Fin 64) (a2 : TxFrame → TxFrame) : (s.withOpen a1 a2).railsGood = s.railsGood := 
  kept_withOpen (π := fun t => t.railsGood = s.railsGood) (fun _ _ h => h) s a1 a2 rfl
@[simp] theorem withOpen_od (s : State) (a1 : Fin 64) (a2 : TxFrame → TxFrame) : (s.withOpen a1 a2).od = s.od := 
  kept_withOpen (π := fun t => t.od = s.od) (fun _ _ h => h) s a1 a2 rfl
@[simp] theorem withOpen_control (s : State) (a1 : Fin 64) (a2 : TxFrame → TxFrame) : (s.withOpen a1 a2).control = s.control := 
  kept_withOpen (π := fun t => t.control = s.control) (fun _ _ h => h) s a1 a2 rfl
@[simp] theorem withOpen_clocks (s : State) (a1 : Fin 64) (a2 : TxFrame → TxFrame) : (s.withOpen a1 a2).clocks = s.clocks := 
  kept_withOpen (π := fun t => t.clocks = s.clocks) (fun _ _ h => h) s a1 a2 rfl
@[simp] theorem withOpen_thermal (s : State) (a1 : Fin 64) (a2 : TxFrame → TxFrame) : (s.withOpen a1 a2).thermal = s.thermal := 
  kept_withOpen (π := fun t => t.thermal = s.thermal) (fun _ _ h => h) s a1 a2 rfl
@[simp] theorem withOpen_otp (s : State) (a1 : Fin 64) (a2 : TxFrame → TxFrame) : (s.withOpen a1 a2).otp = s.otp := 
  kept_withOpen (π := fun t => t.otp = s.otp) (fun _ _ h => h) s a1 a2 rfl
@[simp] theorem withOpen_nvm (s : State) (a1 : Fin 64) (a2 : TxFrame → TxFrame) : (s.withOpen a1 a2).nvm = s.nvm := 
  kept_withOpen (π := fun t => t.nvm = s.nvm) (fun _ _ h => h) s a1 a2 rfl
@[simp] theorem withOpen_update (s : State) (a1 : Fin 64) (a2 : TxFrame → TxFrame) : (s.withOpen a1 a2).update = s.update := 
  kept_withOpen (π := fun t => t.update = s.update) (fun _ _ h => h) s a1 a2 rfl
@[simp] theorem withOpen_beat (s : State) (a1 : Fin 64) (a2 : TxFrame → TxFrame) : (s.withOpen a1 a2).beat = s.beat := 
  kept_withOpen (π := fun t => t.beat = s.beat) (fun _ _ h => h) s a1 a2 rfl
@[simp] theorem withOpen_tap (s : State) (a1 : Fin 64) (a2 : TxFrame → TxFrame) : (s.withOpen a1 a2).tap = s.tap := 
  kept_withOpen (π := fun t => t.tap = s.tap) (fun _ _ h => h) s a1 a2 rfl
@[simp] theorem withOpen_hostPort (s : State) (a1 : Fin 64) (a2 : TxFrame → TxFrame) : (s.withOpen a1 a2).hostPort = s.hostPort := 
  kept_withOpen (π := fun t => t.hostPort = s.hostPort) (fun _ _ h => h) s a1 a2 rfl
@[simp] theorem withOpen_lanes (s : State) (a1 : Fin 64) (a2 : TxFrame → TxFrame) : (s.withOpen a1 a2).lanes = s.lanes := 
  kept_withOpen (π := fun t => t.lanes = s.lanes) (fun _ _ h => h) s a1 a2 rfl
@[simp] theorem withOpen_quartz (s : State) (a1 : Fin 64) (a2 : TxFrame → TxFrame) : (s.withOpen a1 a2).quartz = s.quartz := 
  kept_withOpen (π := fun t => t.quartz = s.quartz) (fun _ _ h => h) s a1 a2 rfl
@[simp] theorem withOpen_tile (s : State) (a1 : Fin 64) (a2 : TxFrame → TxFrame) : (s.withOpen a1 a2).tile = s.tile := 
  kept_withOpen (π := fun t => t.tile = s.tile) (fun _ _ h => h) s a1 a2 rfl
@[simp] theorem withOpen_ports (s : State) (a1 : Fin 64) (a2 : TxFrame → TxFrame) : (s.withOpen a1 a2).ports = s.ports := 
  kept_withOpen (π := fun t => t.ports = s.ports) (fun _ _ h => h) s a1 a2 rfl
@[simp] theorem withOpen_cascade (s : State) (a1 : Fin 64) (a2 : TxFrame → TxFrame) : (s.withOpen a1 a2).cascade = s.cascade := 
  kept_withOpen (π := fun t => t.cascade = s.cascade) (fun _ _ h => h) s a1 a2 rfl
@[simp] theorem withOpen_ingress (s : State) (a1 : Fin 64) (a2 : TxFrame → TxFrame) : (s.withOpen a1 a2).ingress = s.ingress := 
  kept_withOpen (π := fun t => t.ingress = s.ingress) (fun _ _ h => h) s a1 a2 rfl
@[simp] theorem withOpen_video (s : State) (a1 : Fin 64) (a2 : TxFrame → TxFrame) : (s.withOpen a1 a2).video = s.video := 
  kept_withOpen (π := fun t => t.video = s.video) (fun _ _ h => h) s a1 a2 rfl
@[simp] theorem withOpen_sent (s : State) (a1 : Fin 64) (a2 : TxFrame → TxFrame) : (s.withOpen a1 a2).sent = s.sent := 
  kept_withOpen (π := fun t => t.sent = s.sent) (fun _ _ h => h) s a1 a2 rfl
@[simp] theorem withOpen_freeCount (s : State) (a1 : Fin 64) (a2 : TxFrame → TxFrame) : (s.withOpen a1 a2).freeCount = s.freeCount := 
  kept_withOpen (π := fun t => t.freeCount = s.freeCount) (fun _ _ h => h) s a1 a2 rfl
@[simp] theorem withOpen_pending (s : State) (a1 : Fin 64) (a2 : TxFrame → TxFrame) : (s.withOpen a1 a2).pending = s.pending := 
  kept_withOpen (π := fun t => t.pending = s.pending) (fun _ _ h => h) s a1 a2 rfl

@[simp] theorem withCal_now (s : State) (a1 : Cal → Cal) : (s.withCal a1).now = s.now := rfl
@[simp] theorem withCal_role (s : State) (a1 : Cal → Cal) : (s.withCal a1).role = s.role := rfl
@[simp] theorem withCal_life (s : State) (a1 : Cal → Cal) : (s.withCal a1).life = s.life := rfl
@[simp] theorem withCal_straps (s : State) (a1 : Cal → Cal) : (s.withCal a1).straps = s.straps := rfl
@[simp] theorem withCal_railsGood (s : State) (a1 : Cal → Cal) : (s.withCal a1).railsGood = s.railsGood := rfl
@[simp] theorem withCal_od (s : State) (a1 : Cal → Cal) : (s.withCal a1).od = s.od := rfl
@[simp] theorem withCal_control (s : State) (a1 : Cal → Cal) : (s.withCal a1).control = s.control := rfl
@[simp] theorem withCal_clocks (s : State) (a1 : Cal → Cal) : (s.withCal a1).clocks = s.clocks := rfl
@[simp] theorem withCal_thermal (s : State) (a1 : Cal → Cal) : (s.withCal a1).thermal = s.thermal := rfl
@[simp] theorem withCal_otp (s : State) (a1 : Cal → Cal) : (s.withCal a1).otp = s.otp := rfl
@[simp] theorem withCal_update (s : State) (a1 : Cal → Cal) : (s.withCal a1).update = s.update := rfl
@[simp] theorem withCal_beat (s : State) (a1 : Cal → Cal) : (s.withCal a1).beat = s.beat := rfl
@[simp] theorem withCal_tap (s : State) (a1 : Cal → Cal) : (s.withCal a1).tap = s.tap := rfl
@[simp] theorem withCal_hostPort (s : State) (a1 : Cal → Cal) : (s.withCal a1).hostPort = s.hostPort := rfl
@[simp] theorem withCal_lanes (s : State) (a1 : Cal → Cal) : (s.withCal a1).lanes = s.lanes := rfl
@[simp] theorem withCal_quartz (s : State) (a1 : Cal → Cal) : (s.withCal a1).quartz = s.quartz := rfl
@[simp] theorem withCal_tile (s : State) (a1 : Cal → Cal) : (s.withCal a1).tile = s.tile := rfl
@[simp] theorem withCal_ports (s : State) (a1 : Cal → Cal) : (s.withCal a1).ports = s.ports := rfl
@[simp] theorem withCal_cascade (s : State) (a1 : Cal → Cal) : (s.withCal a1).cascade = s.cascade := rfl
@[simp] theorem withCal_ingress (s : State) (a1 : Cal → Cal) : (s.withCal a1).ingress = s.ingress := rfl
@[simp] theorem withCal_video (s : State) (a1 : Cal → Cal) : (s.withCal a1).video = s.video := rfl
@[simp] theorem withCal_lamps (s : State) (a1 : Cal → Cal) : (s.withCal a1).lamps = s.lamps := rfl
@[simp] theorem withCal_sent (s : State) (a1 : Cal → Cal) : (s.withCal a1).sent = s.sent := rfl
@[simp] theorem withCal_freeCount (s : State) (a1 : Cal → Cal) : (s.withCal a1).freeCount = s.freeCount := rfl
@[simp] theorem withCal_pending (s : State) (a1 : Cal → Cal) : (s.withCal a1).pending = s.pending := rfl

@[simp] theorem withStore_now (s : State) (a1 : FrameStore → FrameStore) : (s.withStore a1).now = s.now := rfl
@[simp] theorem withStore_role (s : State) (a1 : FrameStore → FrameStore) : (s.withStore a1).role = s.role := rfl
@[simp] theorem withStore_life (s : State) (a1 : FrameStore → FrameStore) : (s.withStore a1).life = s.life := rfl
@[simp] theorem withStore_straps (s : State) (a1 : FrameStore → FrameStore) : (s.withStore a1).straps = s.straps := rfl
@[simp] theorem withStore_railsGood (s : State) (a1 : FrameStore → FrameStore) : (s.withStore a1).railsGood = s.railsGood := rfl
@[simp] theorem withStore_od (s : State) (a1 : FrameStore → FrameStore) : (s.withStore a1).od = s.od := rfl
@[simp] theorem withStore_control (s : State) (a1 : FrameStore → FrameStore) : (s.withStore a1).control = s.control := rfl
@[simp] theorem withStore_clocks (s : State) (a1 : FrameStore → FrameStore) : (s.withStore a1).clocks = s.clocks := rfl
@[simp] theorem withStore_thermal (s : State) (a1 : FrameStore → FrameStore) : (s.withStore a1).thermal = s.thermal := rfl
@[simp] theorem withStore_otp (s : State) (a1 : FrameStore → FrameStore) : (s.withStore a1).otp = s.otp := rfl
@[simp] theorem withStore_nvm (s : State) (a1 : FrameStore → FrameStore) : (s.withStore a1).nvm = s.nvm := rfl
@[simp] theorem withStore_update (s : State) (a1 : FrameStore → FrameStore) : (s.withStore a1).update = s.update := rfl
@[simp] theorem withStore_beat (s : State) (a1 : FrameStore → FrameStore) : (s.withStore a1).beat = s.beat := rfl
@[simp] theorem withStore_tap (s : State) (a1 : FrameStore → FrameStore) : (s.withStore a1).tap = s.tap := rfl
@[simp] theorem withStore_hostPort (s : State) (a1 : FrameStore → FrameStore) : (s.withStore a1).hostPort = s.hostPort := rfl
@[simp] theorem withStore_lanes (s : State) (a1 : FrameStore → FrameStore) : (s.withStore a1).lanes = s.lanes := rfl
@[simp] theorem withStore_quartz (s : State) (a1 : FrameStore → FrameStore) : (s.withStore a1).quartz = s.quartz := rfl
@[simp] theorem withStore_tile (s : State) (a1 : FrameStore → FrameStore) : (s.withStore a1).tile = s.tile := rfl
@[simp] theorem withStore_ports (s : State) (a1 : FrameStore → FrameStore) : (s.withStore a1).ports = s.ports := rfl
@[simp] theorem withStore_cascade (s : State) (a1 : FrameStore → FrameStore) : (s.withStore a1).cascade = s.cascade := rfl
@[simp] theorem withStore_ingress (s : State) (a1 : FrameStore → FrameStore) : (s.withStore a1).ingress = s.ingress := rfl
@[simp] theorem withStore_lamps (s : State) (a1 : FrameStore → FrameStore) : (s.withStore a1).lamps = s.lamps := rfl
@[simp] theorem withStore_sent (s : State) (a1 : FrameStore → FrameStore) : (s.withStore a1).sent = s.sent := rfl
@[simp] theorem withStore_freeCount (s : State) (a1 : FrameStore → FrameStore) : (s.withStore a1).freeCount = s.freeCount := rfl
@[simp] theorem withStore_pending (s : State) (a1 : FrameStore → FrameStore) : (s.withStore a1).pending = s.pending := rfl

@[simp] theorem withPtp_now (s : State) (a1 : Ptp → Ptp) : (s.withPtp a1).now = s.now := 
  kept_withPtp (π := fun t => t.now = s.now) (fun _ _ h => h) s a1 rfl
@[simp] theorem withPtp_role (s : State) (a1 : Ptp → Ptp) : (s.withPtp a1).role = s.role := 
  kept_withPtp (π := fun t => t.role = s.role) (fun _ _ h => h) s a1 rfl
@[simp] theorem withPtp_life (s : State) (a1 : Ptp → Ptp) : (s.withPtp a1).life = s.life := 
  kept_withPtp (π := fun t => t.life = s.life) (fun _ _ h => h) s a1 rfl
@[simp] theorem withPtp_straps (s : State) (a1 : Ptp → Ptp) : (s.withPtp a1).straps = s.straps := 
  kept_withPtp (π := fun t => t.straps = s.straps) (fun _ _ h => h) s a1 rfl
@[simp] theorem withPtp_railsGood (s : State) (a1 : Ptp → Ptp) : (s.withPtp a1).railsGood = s.railsGood := 
  kept_withPtp (π := fun t => t.railsGood = s.railsGood) (fun _ _ h => h) s a1 rfl
@[simp] theorem withPtp_od (s : State) (a1 : Ptp → Ptp) : (s.withPtp a1).od = s.od := 
  kept_withPtp (π := fun t => t.od = s.od) (fun _ _ h => h) s a1 rfl
@[simp] theorem withPtp_control (s : State) (a1 : Ptp → Ptp) : (s.withPtp a1).control = s.control := 
  kept_withPtp (π := fun t => t.control = s.control) (fun _ _ h => h) s a1 rfl
@[simp] theorem withPtp_clocks (s : State) (a1 : Ptp → Ptp) : (s.withPtp a1).clocks = s.clocks := 
  kept_withPtp (π := fun t => t.clocks = s.clocks) (fun _ _ h => h) s a1 rfl
@[simp] theorem withPtp_thermal (s : State) (a1 : Ptp → Ptp) : (s.withPtp a1).thermal = s.thermal := 
  kept_withPtp (π := fun t => t.thermal = s.thermal) (fun _ _ h => h) s a1 rfl
@[simp] theorem withPtp_otp (s : State) (a1 : Ptp → Ptp) : (s.withPtp a1).otp = s.otp := 
  kept_withPtp (π := fun t => t.otp = s.otp) (fun _ _ h => h) s a1 rfl
@[simp] theorem withPtp_nvm (s : State) (a1 : Ptp → Ptp) : (s.withPtp a1).nvm = s.nvm := 
  kept_withPtp (π := fun t => t.nvm = s.nvm) (fun _ _ h => h) s a1 rfl
@[simp] theorem withPtp_update (s : State) (a1 : Ptp → Ptp) : (s.withPtp a1).update = s.update := 
  kept_withPtp (π := fun t => t.update = s.update) (fun _ _ h => h) s a1 rfl
@[simp] theorem withPtp_beat (s : State) (a1 : Ptp → Ptp) : (s.withPtp a1).beat = s.beat := 
  kept_withPtp (π := fun t => t.beat = s.beat) (fun _ _ h => h) s a1 rfl
@[simp] theorem withPtp_tap (s : State) (a1 : Ptp → Ptp) : (s.withPtp a1).tap = s.tap := 
  kept_withPtp (π := fun t => t.tap = s.tap) (fun _ _ h => h) s a1 rfl
@[simp] theorem withPtp_hostPort (s : State) (a1 : Ptp → Ptp) : (s.withPtp a1).hostPort = s.hostPort := 
  kept_withPtp (π := fun t => t.hostPort = s.hostPort) (fun _ _ h => h) s a1 rfl
@[simp] theorem withPtp_lanes (s : State) (a1 : Ptp → Ptp) : (s.withPtp a1).lanes = s.lanes := 
  kept_withPtp (π := fun t => t.lanes = s.lanes) (fun _ _ h => h) s a1 rfl
@[simp] theorem withPtp_tile (s : State) (a1 : Ptp → Ptp) : (s.withPtp a1).tile = s.tile := 
  kept_withPtp (π := fun t => t.tile = s.tile) (fun _ _ h => h) s a1 rfl
@[simp] theorem withPtp_ports (s : State) (a1 : Ptp → Ptp) : (s.withPtp a1).ports = s.ports := 
  kept_withPtp (π := fun t => t.ports = s.ports) (fun _ _ h => h) s a1 rfl
@[simp] theorem withPtp_cascade (s : State) (a1 : Ptp → Ptp) : (s.withPtp a1).cascade = s.cascade := 
  kept_withPtp (π := fun t => t.cascade = s.cascade) (fun _ _ h => h) s a1 rfl
@[simp] theorem withPtp_ingress (s : State) (a1 : Ptp → Ptp) : (s.withPtp a1).ingress = s.ingress := 
  kept_withPtp (π := fun t => t.ingress = s.ingress) (fun _ _ h => h) s a1 rfl
@[simp] theorem withPtp_video (s : State) (a1 : Ptp → Ptp) : (s.withPtp a1).video = s.video := 
  kept_withPtp (π := fun t => t.video = s.video) (fun _ _ h => h) s a1 rfl
@[simp] theorem withPtp_lamps (s : State) (a1 : Ptp → Ptp) : (s.withPtp a1).lamps = s.lamps := 
  kept_withPtp (π := fun t => t.lamps = s.lamps) (fun _ _ h => h) s a1 rfl
@[simp] theorem withPtp_sent (s : State) (a1 : Ptp → Ptp) : (s.withPtp a1).sent = s.sent := 
  kept_withPtp (π := fun t => t.sent = s.sent) (fun _ _ h => h) s a1 rfl
@[simp] theorem withPtp_freeCount (s : State) (a1 : Ptp → Ptp) : (s.withPtp a1).freeCount = s.freeCount := 
  kept_withPtp (π := fun t => t.freeCount = s.freeCount) (fun _ _ h => h) s a1 rfl
@[simp] theorem withPtp_pending (s : State) (a1 : Ptp → Ptp) : (s.withPtp a1).pending = s.pending := 
  kept_withPtp (π := fun t => t.pending = s.pending) (fun _ _ h => h) s a1 rfl

@[simp] theorem withLss_now (s : State) (a1 : Lss → Lss) : (s.withLss a1).now = s.now := 
  kept_withLss (π := fun t => t.now = s.now) (fun _ _ h => h) s a1 rfl
@[simp] theorem withLss_role (s : State) (a1 : Lss → Lss) : (s.withLss a1).role = s.role := 
  kept_withLss (π := fun t => t.role = s.role) (fun _ _ h => h) s a1 rfl
@[simp] theorem withLss_life (s : State) (a1 : Lss → Lss) : (s.withLss a1).life = s.life := 
  kept_withLss (π := fun t => t.life = s.life) (fun _ _ h => h) s a1 rfl
@[simp] theorem withLss_straps (s : State) (a1 : Lss → Lss) : (s.withLss a1).straps = s.straps := 
  kept_withLss (π := fun t => t.straps = s.straps) (fun _ _ h => h) s a1 rfl
@[simp] theorem withLss_railsGood (s : State) (a1 : Lss → Lss) : (s.withLss a1).railsGood = s.railsGood := 
  kept_withLss (π := fun t => t.railsGood = s.railsGood) (fun _ _ h => h) s a1 rfl
@[simp] theorem withLss_od (s : State) (a1 : Lss → Lss) : (s.withLss a1).od = s.od := 
  kept_withLss (π := fun t => t.od = s.od) (fun _ _ h => h) s a1 rfl
@[simp] theorem withLss_clocks (s : State) (a1 : Lss → Lss) : (s.withLss a1).clocks = s.clocks := 
  kept_withLss (π := fun t => t.clocks = s.clocks) (fun _ _ h => h) s a1 rfl
@[simp] theorem withLss_thermal (s : State) (a1 : Lss → Lss) : (s.withLss a1).thermal = s.thermal := 
  kept_withLss (π := fun t => t.thermal = s.thermal) (fun _ _ h => h) s a1 rfl
@[simp] theorem withLss_otp (s : State) (a1 : Lss → Lss) : (s.withLss a1).otp = s.otp := 
  kept_withLss (π := fun t => t.otp = s.otp) (fun _ _ h => h) s a1 rfl
@[simp] theorem withLss_nvm (s : State) (a1 : Lss → Lss) : (s.withLss a1).nvm = s.nvm := 
  kept_withLss (π := fun t => t.nvm = s.nvm) (fun _ _ h => h) s a1 rfl
@[simp] theorem withLss_update (s : State) (a1 : Lss → Lss) : (s.withLss a1).update = s.update := 
  kept_withLss (π := fun t => t.update = s.update) (fun _ _ h => h) s a1 rfl
@[simp] theorem withLss_beat (s : State) (a1 : Lss → Lss) : (s.withLss a1).beat = s.beat := 
  kept_withLss (π := fun t => t.beat = s.beat) (fun _ _ h => h) s a1 rfl
@[simp] theorem withLss_tap (s : State) (a1 : Lss → Lss) : (s.withLss a1).tap = s.tap := 
  kept_withLss (π := fun t => t.tap = s.tap) (fun _ _ h => h) s a1 rfl
@[simp] theorem withLss_hostPort (s : State) (a1 : Lss → Lss) : (s.withLss a1).hostPort = s.hostPort := 
  kept_withLss (π := fun t => t.hostPort = s.hostPort) (fun _ _ h => h) s a1 rfl
@[simp] theorem withLss_lanes (s : State) (a1 : Lss → Lss) : (s.withLss a1).lanes = s.lanes := 
  kept_withLss (π := fun t => t.lanes = s.lanes) (fun _ _ h => h) s a1 rfl
@[simp] theorem withLss_quartz (s : State) (a1 : Lss → Lss) : (s.withLss a1).quartz = s.quartz := 
  kept_withLss (π := fun t => t.quartz = s.quartz) (fun _ _ h => h) s a1 rfl
@[simp] theorem withLss_tile (s : State) (a1 : Lss → Lss) : (s.withLss a1).tile = s.tile := 
  kept_withLss (π := fun t => t.tile = s.tile) (fun _ _ h => h) s a1 rfl
@[simp] theorem withLss_ports (s : State) (a1 : Lss → Lss) : (s.withLss a1).ports = s.ports := 
  kept_withLss (π := fun t => t.ports = s.ports) (fun _ _ h => h) s a1 rfl
@[simp] theorem withLss_cascade (s : State) (a1 : Lss → Lss) : (s.withLss a1).cascade = s.cascade := 
  kept_withLss (π := fun t => t.cascade = s.cascade) (fun _ _ h => h) s a1 rfl
@[simp] theorem withLss_ingress (s : State) (a1 : Lss → Lss) : (s.withLss a1).ingress = s.ingress := 
  kept_withLss (π := fun t => t.ingress = s.ingress) (fun _ _ h => h) s a1 rfl
@[simp] theorem withLss_video (s : State) (a1 : Lss → Lss) : (s.withLss a1).video = s.video := 
  kept_withLss (π := fun t => t.video = s.video) (fun _ _ h => h) s a1 rfl
@[simp] theorem withLss_lamps (s : State) (a1 : Lss → Lss) : (s.withLss a1).lamps = s.lamps := 
  kept_withLss (π := fun t => t.lamps = s.lamps) (fun _ _ h => h) s a1 rfl
@[simp] theorem withLss_sent (s : State) (a1 : Lss → Lss) : (s.withLss a1).sent = s.sent := 
  kept_withLss (π := fun t => t.sent = s.sent) (fun _ _ h => h) s a1 rfl
@[simp] theorem withLss_freeCount (s : State) (a1 : Lss → Lss) : (s.withLss a1).freeCount = s.freeCount := 
  kept_withLss (π := fun t => t.freeCount = s.freeCount) (fun _ _ h => h) s a1 rfl
@[simp] theorem withLss_pending (s : State) (a1 : Lss → Lss) : (s.withLss a1).pending = s.pending := 
  kept_withLss (π := fun t => t.pending = s.pending) (fun _ _ h => h) s a1 rfl

@[simp] theorem wrB_now (s : State) (a1 a2 : Nat) (a3 : Bool) : (s.wrB a1 a2 a3).now = s.now := 
  kept_wrB (π := fun t => t.now = s.now) (fun _ _ _ h => h) s a1 a2 a3 rfl
@[simp] theorem wrB_role (s : State) (a1 a2 : Nat) (a3 : Bool) : (s.wrB a1 a2 a3).role = s.role := 
  kept_wrB (π := fun t => t.role = s.role) (fun _ _ _ h => h) s a1 a2 a3 rfl
@[simp] theorem wrB_life (s : State) (a1 a2 : Nat) (a3 : Bool) : (s.wrB a1 a2 a3).life = s.life := 
  kept_wrB (π := fun t => t.life = s.life) (fun _ _ _ h => h) s a1 a2 a3 rfl
@[simp] theorem wrB_straps (s : State) (a1 a2 : Nat) (a3 : Bool) : (s.wrB a1 a2 a3).straps = s.straps := 
  kept_wrB (π := fun t => t.straps = s.straps) (fun _ _ _ h => h) s a1 a2 a3 rfl
@[simp] theorem wrB_railsGood (s : State) (a1 a2 : Nat) (a3 : Bool) : (s.wrB a1 a2 a3).railsGood = s.railsGood := 
  kept_wrB (π := fun t => t.railsGood = s.railsGood) (fun _ _ _ h => h) s a1 a2 a3 rfl
@[simp] theorem wrB_control (s : State) (a1 a2 : Nat) (a3 : Bool) : (s.wrB a1 a2 a3).control = s.control := 
  kept_wrB (π := fun t => t.control = s.control) (fun _ _ _ h => h) s a1 a2 a3 rfl
@[simp] theorem wrB_clocks (s : State) (a1 a2 : Nat) (a3 : Bool) : (s.wrB a1 a2 a3).clocks = s.clocks := 
  kept_wrB (π := fun t => t.clocks = s.clocks) (fun _ _ _ h => h) s a1 a2 a3 rfl
@[simp] theorem wrB_thermal (s : State) (a1 a2 : Nat) (a3 : Bool) : (s.wrB a1 a2 a3).thermal = s.thermal := 
  kept_wrB (π := fun t => t.thermal = s.thermal) (fun _ _ _ h => h) s a1 a2 a3 rfl
@[simp] theorem wrB_otp (s : State) (a1 a2 : Nat) (a3 : Bool) : (s.wrB a1 a2 a3).otp = s.otp := 
  kept_wrB (π := fun t => t.otp = s.otp) (fun _ _ _ h => h) s a1 a2 a3 rfl
@[simp] theorem wrB_nvm (s : State) (a1 a2 : Nat) (a3 : Bool) : (s.wrB a1 a2 a3).nvm = s.nvm := 
  kept_wrB (π := fun t => t.nvm = s.nvm) (fun _ _ _ h => h) s a1 a2 a3 rfl
@[simp] theorem wrB_update (s : State) (a1 a2 : Nat) (a3 : Bool) : (s.wrB a1 a2 a3).update = s.update := 
  kept_wrB (π := fun t => t.update = s.update) (fun _ _ _ h => h) s a1 a2 a3 rfl
@[simp] theorem wrB_beat (s : State) (a1 a2 : Nat) (a3 : Bool) : (s.wrB a1 a2 a3).beat = s.beat := 
  kept_wrB (π := fun t => t.beat = s.beat) (fun _ _ _ h => h) s a1 a2 a3 rfl
@[simp] theorem wrB_tap (s : State) (a1 a2 : Nat) (a3 : Bool) : (s.wrB a1 a2 a3).tap = s.tap := 
  kept_wrB (π := fun t => t.tap = s.tap) (fun _ _ _ h => h) s a1 a2 a3 rfl
@[simp] theorem wrB_hostPort (s : State) (a1 a2 : Nat) (a3 : Bool) : (s.wrB a1 a2 a3).hostPort = s.hostPort := 
  kept_wrB (π := fun t => t.hostPort = s.hostPort) (fun _ _ _ h => h) s a1 a2 a3 rfl
@[simp] theorem wrB_lanes (s : State) (a1 a2 : Nat) (a3 : Bool) : (s.wrB a1 a2 a3).lanes = s.lanes := 
  kept_wrB (π := fun t => t.lanes = s.lanes) (fun _ _ _ h => h) s a1 a2 a3 rfl
@[simp] theorem wrB_quartz (s : State) (a1 a2 : Nat) (a3 : Bool) : (s.wrB a1 a2 a3).quartz = s.quartz := 
  kept_wrB (π := fun t => t.quartz = s.quartz) (fun _ _ _ h => h) s a1 a2 a3 rfl
@[simp] theorem wrB_tile (s : State) (a1 a2 : Nat) (a3 : Bool) : (s.wrB a1 a2 a3).tile = s.tile := 
  kept_wrB (π := fun t => t.tile = s.tile) (fun _ _ _ h => h) s a1 a2 a3 rfl
@[simp] theorem wrB_ports (s : State) (a1 a2 : Nat) (a3 : Bool) : (s.wrB a1 a2 a3).ports = s.ports := 
  kept_wrB (π := fun t => t.ports = s.ports) (fun _ _ _ h => h) s a1 a2 a3 rfl
@[simp] theorem wrB_cascade (s : State) (a1 a2 : Nat) (a3 : Bool) : (s.wrB a1 a2 a3).cascade = s.cascade := 
  kept_wrB (π := fun t => t.cascade = s.cascade) (fun _ _ _ h => h) s a1 a2 a3 rfl
@[simp] theorem wrB_ingress (s : State) (a1 a2 : Nat) (a3 : Bool) : (s.wrB a1 a2 a3).ingress = s.ingress := 
  kept_wrB (π := fun t => t.ingress = s.ingress) (fun _ _ _ h => h) s a1 a2 a3 rfl
@[simp] theorem wrB_video (s : State) (a1 a2 : Nat) (a3 : Bool) : (s.wrB a1 a2 a3).video = s.video := 
  kept_wrB (π := fun t => t.video = s.video) (fun _ _ _ h => h) s a1 a2 a3 rfl
@[simp] theorem wrB_lamps (s : State) (a1 a2 : Nat) (a3 : Bool) : (s.wrB a1 a2 a3).lamps = s.lamps := 
  kept_wrB (π := fun t => t.lamps = s.lamps) (fun _ _ _ h => h) s a1 a2 a3 rfl
@[simp] theorem wrB_sent (s : State) (a1 a2 : Nat) (a3 : Bool) : (s.wrB a1 a2 a3).sent = s.sent := 
  kept_wrB (π := fun t => t.sent = s.sent) (fun _ _ _ h => h) s a1 a2 a3 rfl
@[simp] theorem wrB_freeCount (s : State) (a1 a2 : Nat) (a3 : Bool) : (s.wrB a1 a2 a3).freeCount = s.freeCount := 
  kept_wrB (π := fun t => t.freeCount = s.freeCount) (fun _ _ _ h => h) s a1 a2 a3 rfl
@[simp] theorem wrB_pending (s : State) (a1 a2 : Nat) (a3 : Bool) : (s.wrB a1 a2 a3).pending = s.pending := 
  kept_wrB (π := fun t => t.pending = s.pending) (fun _ _ _ h => h) s a1 a2 a3 rfl

@[simp] theorem wrI_now (s : State) (a1 a2 : Nat) (a3 : Int) : (s.wrI a1 a2 a3).now = s.now := 
  kept_wrI (π := fun t => t.now = s.now) (fun _ _ _ h => h) s a1 a2 a3 rfl
@[simp] theorem wrI_role (s : State) (a1 a2 : Nat) (a3 : Int) : (s.wrI a1 a2 a3).role = s.role := 
  kept_wrI (π := fun t => t.role = s.role) (fun _ _ _ h => h) s a1 a2 a3 rfl
@[simp] theorem wrI_life (s : State) (a1 a2 : Nat) (a3 : Int) : (s.wrI a1 a2 a3).life = s.life := 
  kept_wrI (π := fun t => t.life = s.life) (fun _ _ _ h => h) s a1 a2 a3 rfl
@[simp] theorem wrI_straps (s : State) (a1 a2 : Nat) (a3 : Int) : (s.wrI a1 a2 a3).straps = s.straps := 
  kept_wrI (π := fun t => t.straps = s.straps) (fun _ _ _ h => h) s a1 a2 a3 rfl
@[simp] theorem wrI_railsGood (s : State) (a1 a2 : Nat) (a3 : Int) : (s.wrI a1 a2 a3).railsGood = s.railsGood := 
  kept_wrI (π := fun t => t.railsGood = s.railsGood) (fun _ _ _ h => h) s a1 a2 a3 rfl
@[simp] theorem wrI_control (s : State) (a1 a2 : Nat) (a3 : Int) : (s.wrI a1 a2 a3).control = s.control := 
  kept_wrI (π := fun t => t.control = s.control) (fun _ _ _ h => h) s a1 a2 a3 rfl
@[simp] theorem wrI_clocks (s : State) (a1 a2 : Nat) (a3 : Int) : (s.wrI a1 a2 a3).clocks = s.clocks := 
  kept_wrI (π := fun t => t.clocks = s.clocks) (fun _ _ _ h => h) s a1 a2 a3 rfl
@[simp] theorem wrI_thermal (s : State) (a1 a2 : Nat) (a3 : Int) : (s.wrI a1 a2 a3).thermal = s.thermal := 
  kept_wrI (π := fun t => t.thermal = s.thermal) (fun _ _ _ h => h) s a1 a2 a3 rfl
@[simp] theorem wrI_otp (s : State) (a1 a2 : Nat) (a3 : Int) : (s.wrI a1 a2 a3).otp = s.otp := 
  kept_wrI (π := fun t => t.otp = s.otp) (fun _ _ _ h => h) s a1 a2 a3 rfl
@[simp] theorem wrI_nvm (s : State) (a1 a2 : Nat) (a3 : Int) : (s.wrI a1 a2 a3).nvm = s.nvm := 
  kept_wrI (π := fun t => t.nvm = s.nvm) (fun _ _ _ h => h) s a1 a2 a3 rfl
@[simp] theorem wrI_update (s : State) (a1 a2 : Nat) (a3 : Int) : (s.wrI a1 a2 a3).update = s.update := 
  kept_wrI (π := fun t => t.update = s.update) (fun _ _ _ h => h) s a1 a2 a3 rfl
@[simp] theorem wrI_beat (s : State) (a1 a2 : Nat) (a3 : Int) : (s.wrI a1 a2 a3).beat = s.beat := 
  kept_wrI (π := fun t => t.beat = s.beat) (fun _ _ _ h => h) s a1 a2 a3 rfl
@[simp] theorem wrI_tap (s : State) (a1 a2 : Nat) (a3 : Int) : (s.wrI a1 a2 a3).tap = s.tap := 
  kept_wrI (π := fun t => t.tap = s.tap) (fun _ _ _ h => h) s a1 a2 a3 rfl
@[simp] theorem wrI_hostPort (s : State) (a1 a2 : Nat) (a3 : Int) : (s.wrI a1 a2 a3).hostPort = s.hostPort := 
  kept_wrI (π := fun t => t.hostPort = s.hostPort) (fun _ _ _ h => h) s a1 a2 a3 rfl
@[simp] theorem wrI_lanes (s : State) (a1 a2 : Nat) (a3 : Int) : (s.wrI a1 a2 a3).lanes = s.lanes := 
  kept_wrI (π := fun t => t.lanes = s.lanes) (fun _ _ _ h => h) s a1 a2 a3 rfl
@[simp] theorem wrI_quartz (s : State) (a1 a2 : Nat) (a3 : Int) : (s.wrI a1 a2 a3).quartz = s.quartz := 
  kept_wrI (π := fun t => t.quartz = s.quartz) (fun _ _ _ h => h) s a1 a2 a3 rfl
@[simp] theorem wrI_tile (s : State) (a1 a2 : Nat) (a3 : Int) : (s.wrI a1 a2 a3).tile = s.tile := 
  kept_wrI (π := fun t => t.tile = s.tile) (fun _ _ _ h => h) s a1 a2 a3 rfl
@[simp] theorem wrI_ports (s : State) (a1 a2 : Nat) (a3 : Int) : (s.wrI a1 a2 a3).ports = s.ports := 
  kept_wrI (π := fun t => t.ports = s.ports) (fun _ _ _ h => h) s a1 a2 a3 rfl
@[simp] theorem wrI_cascade (s : State) (a1 a2 : Nat) (a3 : Int) : (s.wrI a1 a2 a3).cascade = s.cascade := 
  kept_wrI (π := fun t => t.cascade = s.cascade) (fun _ _ _ h => h) s a1 a2 a3 rfl
@[simp] theorem wrI_ingress (s : State) (a1 a2 : Nat) (a3 : Int) : (s.wrI a1 a2 a3).ingress = s.ingress := 
  kept_wrI (π := fun t => t.ingress = s.ingress) (fun _ _ _ h => h) s a1 a2 a3 rfl
@[simp] theorem wrI_video (s : State) (a1 a2 : Nat) (a3 : Int) : (s.wrI a1 a2 a3).video = s.video := 
  kept_wrI (π := fun t => t.video = s.video) (fun _ _ _ h => h) s a1 a2 a3 rfl
@[simp] theorem wrI_lamps (s : State) (a1 a2 : Nat) (a3 : Int) : (s.wrI a1 a2 a3).lamps = s.lamps := 
  kept_wrI (π := fun t => t.lamps = s.lamps) (fun _ _ _ h => h) s a1 a2 a3 rfl
@[simp] theorem wrI_sent (s : State) (a1 a2 : Nat) (a3 : Int) : (s.wrI a1 a2 a3).sent = s.sent := 
  kept_wrI (π := fun t => t.sent = s.sent) (fun _ _ _ h => h) s a1 a2 a3 rfl
@[simp] theorem wrI_freeCount (s : State) (a1 a2 : Nat) (a3 : Int) : (s.wrI a1 a2 a3).freeCount = s.freeCount := 
  kept_wrI (π := fun t => t.freeCount = s.freeCount) (fun _ _ _ h => h) s a1 a2 a3 rfl
@[simp] theorem wrI_pending (s : State) (a1 a2 : Nat) (a3 : Int) : (s.wrI a1 a2 a3).pending = s.pending := 
  kept_wrI (π := fun t => t.pending = s.pending) (fun _ _ _ h => h) s a1 a2 a3 rfl

@[simp] theorem raiseLimited_now (s : State) (a1 a2 a3 : Nat) (a4 : Nat → Nat) (a5 : optParam (List Byte) []) : (s.raiseLimited a1 a2 a3 a4 a5).now = s.now := 
  kept_raiseLimited (π := fun t => t.now = s.now) (fun _ _ _ h => h) (fun _ _ h => h) (fun _ _ _ h => h) (fun _ _ h => h) s a1 a2 a3 a4 a5 rfl
@[simp] theorem raiseLimited_role (s : State) (a1 a2 a3 : Nat) (a4 : Nat → Nat) (a5 : optParam (List Byte) []) : (s.raiseLimited a1 a2 a3 a4 a5).role = s.role := 
  kept_raiseLimited (π := fun t => t.role = s.role) (fun _ _ _ h => h) (fun _ _ h => h) (fun _ _ _ h => h) (fun _ _ h => h) s a1 a2 a3 a4 a5 rfl
@[simp] theorem raiseLimited_life (s : State) (a1 a2 a3 : Nat) (a4 : Nat → Nat) (a5 : optParam (List Byte) []) : (s.raiseLimited a1 a2 a3 a4 a5).life = s.life := 
  kept_raiseLimited (π := fun t => t.life = s.life) (fun _ _ _ h => h) (fun _ _ h => h) (fun _ _ _ h => h) (fun _ _ h => h) s a1 a2 a3 a4 a5 rfl
@[simp] theorem raiseLimited_straps (s : State) (a1 a2 a3 : Nat) (a4 : Nat → Nat) (a5 : optParam (List Byte) []) : (s.raiseLimited a1 a2 a3 a4 a5).straps = s.straps := 
  kept_raiseLimited (π := fun t => t.straps = s.straps) (fun _ _ _ h => h) (fun _ _ h => h) (fun _ _ _ h => h) (fun _ _ h => h) s a1 a2 a3 a4 a5 rfl
@[simp] theorem raiseLimited_railsGood (s : State) (a1 a2 a3 : Nat) (a4 : Nat → Nat) (a5 : optParam (List Byte) []) : (s.raiseLimited a1 a2 a3 a4 a5).railsGood = s.railsGood := 
  kept_raiseLimited (π := fun t => t.railsGood = s.railsGood) (fun _ _ _ h => h) (fun _ _ h => h) (fun _ _ _ h => h) (fun _ _ h => h) s a1 a2 a3 a4 a5 rfl
@[simp] theorem raiseLimited_clocks (s : State) (a1 a2 a3 : Nat) (a4 : Nat → Nat) (a5 : optParam (List Byte) []) : (s.raiseLimited a1 a2 a3 a4 a5).clocks = s.clocks := 
  kept_raiseLimited (π := fun t => t.clocks = s.clocks) (fun _ _ _ h => h) (fun _ _ h => h) (fun _ _ _ h => h) (fun _ _ h => h) s a1 a2 a3 a4 a5 rfl
@[simp] theorem raiseLimited_thermal (s : State) (a1 a2 a3 : Nat) (a4 : Nat → Nat) (a5 : optParam (List Byte) []) : (s.raiseLimited a1 a2 a3 a4 a5).thermal = s.thermal := 
  kept_raiseLimited (π := fun t => t.thermal = s.thermal) (fun _ _ _ h => h) (fun _ _ h => h) (fun _ _ _ h => h) (fun _ _ h => h) s a1 a2 a3 a4 a5 rfl
@[simp] theorem raiseLimited_otp (s : State) (a1 a2 a3 : Nat) (a4 : Nat → Nat) (a5 : optParam (List Byte) []) : (s.raiseLimited a1 a2 a3 a4 a5).otp = s.otp := 
  kept_raiseLimited (π := fun t => t.otp = s.otp) (fun _ _ _ h => h) (fun _ _ h => h) (fun _ _ _ h => h) (fun _ _ h => h) s a1 a2 a3 a4 a5 rfl
@[simp] theorem raiseLimited_update (s : State) (a1 a2 a3 : Nat) (a4 : Nat → Nat) (a5 : optParam (List Byte) []) : (s.raiseLimited a1 a2 a3 a4 a5).update = s.update := 
  kept_raiseLimited (π := fun t => t.update = s.update) (fun _ _ _ h => h) (fun _ _ h => h) (fun _ _ _ h => h) (fun _ _ h => h) s a1 a2 a3 a4 a5 rfl
@[simp] theorem raiseLimited_beat (s : State) (a1 a2 a3 : Nat) (a4 : Nat → Nat) (a5 : optParam (List Byte) []) : (s.raiseLimited a1 a2 a3 a4 a5).beat = s.beat := 
  kept_raiseLimited (π := fun t => t.beat = s.beat) (fun _ _ _ h => h) (fun _ _ h => h) (fun _ _ _ h => h) (fun _ _ h => h) s a1 a2 a3 a4 a5 rfl
@[simp] theorem raiseLimited_tap (s : State) (a1 a2 a3 : Nat) (a4 : Nat → Nat) (a5 : optParam (List Byte) []) : (s.raiseLimited a1 a2 a3 a4 a5).tap = s.tap := 
  kept_raiseLimited (π := fun t => t.tap = s.tap) (fun _ _ _ h => h) (fun _ _ h => h) (fun _ _ _ h => h) (fun _ _ h => h) s a1 a2 a3 a4 a5 rfl
@[simp] theorem raiseLimited_hostPort (s : State) (a1 a2 a3 : Nat) (a4 : Nat → Nat) (a5 : optParam (List Byte) []) : (s.raiseLimited a1 a2 a3 a4 a5).hostPort = s.hostPort := 
  kept_raiseLimited (π := fun t => t.hostPort = s.hostPort) (fun _ _ _ h => h) (fun _ _ h => h) (fun _ _ _ h => h) (fun _ _ h => h) s a1 a2 a3 a4 a5 rfl
@[simp] theorem raiseLimited_lanes (s : State) (a1 a2 a3 : Nat) (a4 : Nat → Nat) (a5 : optParam (List Byte) []) : (s.raiseLimited a1 a2 a3 a4 a5).lanes = s.lanes := 
  kept_raiseLimited (π := fun t => t.lanes = s.lanes) (fun _ _ _ h => h) (fun _ _ h => h) (fun _ _ _ h => h) (fun _ _ h => h) s a1 a2 a3 a4 a5 rfl
@[simp] theorem raiseLimited_quartz (s : State) (a1 a2 a3 : Nat) (a4 : Nat → Nat) (a5 : optParam (List Byte) []) : (s.raiseLimited a1 a2 a3 a4 a5).quartz = s.quartz := 
  kept_raiseLimited (π := fun t => t.quartz = s.quartz) (fun _ _ _ h => h) (fun _ _ h => h) (fun _ _ _ h => h) (fun _ _ h => h) s a1 a2 a3 a4 a5 rfl
@[simp] theorem raiseLimited_tile (s : State) (a1 a2 a3 : Nat) (a4 : Nat → Nat) (a5 : optParam (List Byte) []) : (s.raiseLimited a1 a2 a3 a4 a5).tile = s.tile := 
  kept_raiseLimited (π := fun t => t.tile = s.tile) (fun _ _ _ h => h) (fun _ _ h => h) (fun _ _ _ h => h) (fun _ _ h => h) s a1 a2 a3 a4 a5 rfl
@[simp] theorem raiseLimited_ports (s : State) (a1 a2 a3 : Nat) (a4 : Nat → Nat) (a5 : optParam (List Byte) []) : (s.raiseLimited a1 a2 a3 a4 a5).ports = s.ports := 
  kept_raiseLimited (π := fun t => t.ports = s.ports) (fun _ _ _ h => h) (fun _ _ h => h) (fun _ _ _ h => h) (fun _ _ h => h) s a1 a2 a3 a4 a5 rfl
@[simp] theorem raiseLimited_cascade (s : State) (a1 a2 a3 : Nat) (a4 : Nat → Nat) (a5 : optParam (List Byte) []) : (s.raiseLimited a1 a2 a3 a4 a5).cascade = s.cascade := 
  kept_raiseLimited (π := fun t => t.cascade = s.cascade) (fun _ _ _ h => h) (fun _ _ h => h) (fun _ _ _ h => h) (fun _ _ h => h) s a1 a2 a3 a4 a5 rfl
@[simp] theorem raiseLimited_ingress (s : State) (a1 a2 a3 : Nat) (a4 : Nat → Nat) (a5 : optParam (List Byte) []) : (s.raiseLimited a1 a2 a3 a4 a5).ingress = s.ingress := 
  kept_raiseLimited (π := fun t => t.ingress = s.ingress) (fun _ _ _ h => h) (fun _ _ h => h) (fun _ _ _ h => h) (fun _ _ h => h) s a1 a2 a3 a4 a5 rfl
@[simp] theorem raiseLimited_video (s : State) (a1 a2 a3 : Nat) (a4 : Nat → Nat) (a5 : optParam (List Byte) []) : (s.raiseLimited a1 a2 a3 a4 a5).video = s.video := 
  kept_raiseLimited (π := fun t => t.video = s.video) (fun _ _ _ h => h) (fun _ _ h => h) (fun _ _ _ h => h) (fun _ _ h => h) s a1 a2 a3 a4 a5 rfl
@[simp] theorem raiseLimited_lamps (s : State) (a1 a2 a3 : Nat) (a4 : Nat → Nat) (a5 : optParam (List Byte) []) : (s.raiseLimited a1 a2 a3 a4 a5).lamps = s.lamps := 
  kept_raiseLimited (π := fun t => t.lamps = s.lamps) (fun _ _ _ h => h) (fun _ _ h => h) (fun _ _ _ h => h) (fun _ _ h => h) s a1 a2 a3 a4 a5 rfl
@[simp] theorem raiseLimited_freeCount (s : State) (a1 a2 a3 : Nat) (a4 : Nat → Nat) (a5 : optParam (List Byte) []) : (s.raiseLimited a1 a2 a3 a4 a5).freeCount = s.freeCount := 
  kept_raiseLimited (π := fun t => t.freeCount = s.freeCount) (fun _ _ _ h => h) (fun _ _ h => h) (fun _ _ _ h => h) (fun _ _ h => h) s a1 a2 a3 a4 a5 rfl
@[simp] theorem raiseLimited_pending (s : State) (a1 a2 a3 : Nat) (a4 : Nat → Nat) (a5 : optParam (List Byte) []) : (s.raiseLimited a1 a2 a3 a4 a5).pending = s.pending := 
  kept_raiseLimited (π := fun t => t.pending = s.pending) (fun _ _ _ h => h) (fun _ _ h => h) (fun _ _ _ h => h) (fun _ _ h => h) s a1 a2 a3 a4 a5 rfl

@[simp] theorem raiseIf_now (s : State) (a1 : Bool) (a2 a3 : Nat) : (s.raiseIf a1 a2 a3).now = s.now := 
  kept_raiseIf (π := fun t => t.now = s.now) (fun _ _ _ h => h) (fun _ _ h => h) (fun _ _ _ h => h) (fun _ _ h => h) s a1 a2 a3 rfl
@[simp] theorem raiseIf_role (s : State) (a1 : Bool) (a2 a3 : Nat) : (s.raiseIf a1 a2 a3).role = s.role := 
  kept_raiseIf (π := fun t => t.role = s.role) (fun _ _ _ h => h) (fun _ _ h => h) (fun _ _ _ h => h) (fun _ _ h => h) s a1 a2 a3 rfl
@[simp] theorem raiseIf_life (s : State) (a1 : Bool) (a2 a3 : Nat) : (s.raiseIf a1 a2 a3).life = s.life := 
  kept_raiseIf (π := fun t => t.life = s.life) (fun _ _ _ h => h) (fun _ _ h => h) (fun _ _ _ h => h) (fun _ _ h => h) s a1 a2 a3 rfl
@[simp] theorem raiseIf_straps (s : State) (a1 : Bool) (a2 a3 : Nat) : (s.raiseIf a1 a2 a3).straps = s.straps := 
  kept_raiseIf (π := fun t => t.straps = s.straps) (fun _ _ _ h => h) (fun _ _ h => h) (fun _ _ _ h => h) (fun _ _ h => h) s a1 a2 a3 rfl
@[simp] theorem raiseIf_railsGood (s : State) (a1 : Bool) (a2 a3 : Nat) : (s.raiseIf a1 a2 a3).railsGood = s.railsGood := 
  kept_raiseIf (π := fun t => t.railsGood = s.railsGood) (fun _ _ _ h => h) (fun _ _ h => h) (fun _ _ _ h => h) (fun _ _ h => h) s a1 a2 a3 rfl
@[simp] theorem raiseIf_clocks (s : State) (a1 : Bool) (a2 a3 : Nat) : (s.raiseIf a1 a2 a3).clocks = s.clocks := 
  kept_raiseIf (π := fun t => t.clocks = s.clocks) (fun _ _ _ h => h) (fun _ _ h => h) (fun _ _ _ h => h) (fun _ _ h => h) s a1 a2 a3 rfl
@[simp] theorem raiseIf_thermal (s : State) (a1 : Bool) (a2 a3 : Nat) : (s.raiseIf a1 a2 a3).thermal = s.thermal := 
  kept_raiseIf (π := fun t => t.thermal = s.thermal) (fun _ _ _ h => h) (fun _ _ h => h) (fun _ _ _ h => h) (fun _ _ h => h) s a1 a2 a3 rfl
@[simp] theorem raiseIf_otp (s : State) (a1 : Bool) (a2 a3 : Nat) : (s.raiseIf a1 a2 a3).otp = s.otp := 
  kept_raiseIf (π := fun t => t.otp = s.otp) (fun _ _ _ h => h) (fun _ _ h => h) (fun _ _ _ h => h) (fun _ _ h => h) s a1 a2 a3 rfl
@[simp] theorem raiseIf_update (s : State) (a1 : Bool) (a2 a3 : Nat) : (s.raiseIf a1 a2 a3).update = s.update := 
  kept_raiseIf (π := fun t => t.update = s.update) (fun _ _ _ h => h) (fun _ _ h => h) (fun _ _ _ h => h) (fun _ _ h => h) s a1 a2 a3 rfl
@[simp] theorem raiseIf_beat (s : State) (a1 : Bool) (a2 a3 : Nat) : (s.raiseIf a1 a2 a3).beat = s.beat := 
  kept_raiseIf (π := fun t => t.beat = s.beat) (fun _ _ _ h => h) (fun _ _ h => h) (fun _ _ _ h => h) (fun _ _ h => h) s a1 a2 a3 rfl
@[simp] theorem raiseIf_tap (s : State) (a1 : Bool) (a2 a3 : Nat) : (s.raiseIf a1 a2 a3).tap = s.tap := 
  kept_raiseIf (π := fun t => t.tap = s.tap) (fun _ _ _ h => h) (fun _ _ h => h) (fun _ _ _ h => h) (fun _ _ h => h) s a1 a2 a3 rfl
@[simp] theorem raiseIf_hostPort (s : State) (a1 : Bool) (a2 a3 : Nat) : (s.raiseIf a1 a2 a3).hostPort = s.hostPort := 
  kept_raiseIf (π := fun t => t.hostPort = s.hostPort) (fun _ _ _ h => h) (fun _ _ h => h) (fun _ _ _ h => h) (fun _ _ h => h) s a1 a2 a3 rfl
@[simp] theorem raiseIf_lanes (s : State) (a1 : Bool) (a2 a3 : Nat) : (s.raiseIf a1 a2 a3).lanes = s.lanes := 
  kept_raiseIf (π := fun t => t.lanes = s.lanes) (fun _ _ _ h => h) (fun _ _ h => h) (fun _ _ _ h => h) (fun _ _ h => h) s a1 a2 a3 rfl
@[simp] theorem raiseIf_quartz (s : State) (a1 : Bool) (a2 a3 : Nat) : (s.raiseIf a1 a2 a3).quartz = s.quartz := 
  kept_raiseIf (π := fun t => t.quartz = s.quartz) (fun _ _ _ h => h) (fun _ _ h => h) (fun _ _ _ h => h) (fun _ _ h => h) s a1 a2 a3 rfl
@[simp] theorem raiseIf_tile (s : State) (a1 : Bool) (a2 a3 : Nat) : (s.raiseIf a1 a2 a3).tile = s.tile := 
  kept_raiseIf (π := fun t => t.tile = s.tile) (fun _ _ _ h => h) (fun _ _ h => h) (fun _ _ _ h => h) (fun _ _ h => h) s a1 a2 a3 rfl
@[simp] theorem raiseIf_ports (s : State) (a1 : Bool) (a2 a3 : Nat) : (s.raiseIf a1 a2 a3).ports = s.ports := 
  kept_raiseIf (π := fun t => t.ports = s.ports) (fun _ _ _ h => h) (fun _ _ h => h) (fun _ _ _ h => h) (fun _ _ h => h) s a1 a2 a3 rfl
@[simp] theorem raiseIf_cascade (s : State) (a1 : Bool) (a2 a3 : Nat) : (s.raiseIf a1 a2 a3).cascade = s.cascade := 
  kept_raiseIf (π := fun t => t.cascade = s.cascade) (fun _ _ _ h => h) (fun _ _ h => h) (fun _ _ _ h => h) (fun _ _ h => h) s a1 a2 a3 rfl
@[simp] theorem raiseIf_ingress (s : State) (a1 : Bool) (a2 a3 : Nat) : (s.raiseIf a1 a2 a3).ingress = s.ingress := 
  kept_raiseIf (π := fun t => t.ingress = s.ingress) (fun _ _ _ h => h) (fun _ _ h => h) (fun _ _ _ h => h) (fun _ _ h => h) s a1 a2 a3 rfl
@[simp] theorem raiseIf_video (s : State) (a1 : Bool) (a2 a3 : Nat) : (s.raiseIf a1 a2 a3).video = s.video := 
  kept_raiseIf (π := fun t => t.video = s.video) (fun _ _ _ h => h) (fun _ _ h => h) (fun _ _ _ h => h) (fun _ _ h => h) s a1 a2 a3 rfl
@[simp] theorem raiseIf_lamps (s : State) (a1 : Bool) (a2 a3 : Nat) : (s.raiseIf a1 a2 a3).lamps = s.lamps := 
  kept_raiseIf (π := fun t => t.lamps = s.lamps) (fun _ _ _ h => h) (fun _ _ h => h) (fun _ _ _ h => h) (fun _ _ h => h) s a1 a2 a3 rfl
@[simp] theorem raiseIf_freeCount (s : State) (a1 : Bool) (a2 a3 : Nat) : (s.raiseIf a1 a2 a3).freeCount = s.freeCount := 
  kept_raiseIf (π := fun t => t.freeCount = s.freeCount) (fun _ _ _ h => h) (fun _ _ h => h) (fun _ _ _ h => h) (fun _ _ h => h) s a1 a2 a3 rfl
@[simp] theorem raiseIf_pending (s : State) (a1 : Bool) (a2 a3 : Nat) : (s.raiseIf a1 a2 a3).pending = s.pending := 
  kept_raiseIf (π := fun t => t.pending = s.pending) (fun _ _ _ h => h) (fun _ _ h => h) (fun _ _ _ h => h) (fun _ _ h => h) s a1 a2 a3 rfl

@[simp] theorem cause_now (s : State) (a1 : Nat) : (s.cause a1).now = s.now := 
  kept_cause (π := fun t => t.now = s.now) (fun _ _ _ h => h) s a1 rfl
@[simp] theorem cause_role (s : State) (a1 : Nat) : (s.cause a1).role = s.role := 
  kept_cause (π := fun t => t.role = s.role) (fun _ _ _ h => h) s a1 rfl
@[simp] theorem cause_life (s : State) (a1 : Nat) : (s.cause a1).life = s.life := 
  kept_cause (π := fun t => t.life = s.life) (fun _ _ _ h => h) s a1 rfl
@[simp] theorem cause_straps (s : State) (a1 : Nat) : (s.cause a1).straps = s.straps := 
  kept_cause (π := fun t => t.straps = s.straps) (fun _ _ _ h => h) s a1 rfl
@[simp] theorem cause_railsGood (s : State) (a1 : Nat) : (s.cause a1).railsGood = s.railsGood := 
  kept_cause (π := fun t => t.railsGood = s.railsGood) (fun _ _ _ h => h) s a1 rfl
@[simp] theorem cause_control (s : State) (a1 : Nat) : (s.cause a1).control = s.control := 
  kept_cause (π := fun t => t.control = s.control) (fun _ _ _ h => h) s a1 rfl
@[simp] theorem cause_clocks (s : State) (a1 : Nat) : (s.cause a1).clocks = s.clocks := 
  kept_cause (π := fun t => t.clocks = s.clocks) (fun _ _ _ h => h) s a1 rfl
@[simp] theorem cause_thermal (s : State) (a1 : Nat) : (s.cause a1).thermal = s.thermal := 
  kept_cause (π := fun t => t.thermal = s.thermal) (fun _ _ _ h => h) s a1 rfl
@[simp] theorem cause_otp (s : State) (a1 : Nat) : (s.cause a1).otp = s.otp := 
  kept_cause (π := fun t => t.otp = s.otp) (fun _ _ _ h => h) s a1 rfl
@[simp] theorem cause_nvm (s : State) (a1 : Nat) : (s.cause a1).nvm = s.nvm := 
  kept_cause (π := fun t => t.nvm = s.nvm) (fun _ _ _ h => h) s a1 rfl
@[simp] theorem cause_update (s : State) (a1 : Nat) : (s.cause a1).update = s.update := 
  kept_cause (π := fun t => t.update = s.update) (fun _ _ _ h => h) s a1 rfl
@[simp] theorem cause_beat (s : State) (a1 : Nat) : (s.cause a1).beat = s.beat := 
  kept_cause (π := fun t => t.beat = s.beat) (fun _ _ _ h => h) s a1 rfl
@[simp] theorem cause_tap (s : State) (a1 : Nat) : (s.cause a1).tap = s.tap := 
  kept_cause (π := fun t => t.tap = s.tap) (fun _ _ _ h => h) s a1 rfl
@[simp] theorem cause_hostPort (s : State) (a1 : Nat) : (s.cause a1).hostPort = s.hostPort := 
  kept_cause (π := fun t => t.hostPort = s.hostPort) (fun _ _ _ h => h) s a1 rfl
@[simp] theorem cause_lanes (s : State) (a1 : Nat) : (s.cause a1).lanes = s.lanes := 
  kept_cause (π := fun t => t.lanes = s.lanes) (fun _ _ _ h => h) s a1 rfl
@[simp] theorem cause_quartz (s : State) (a1 : Nat) : (s.cause a1).quartz = s.quartz := 
  kept_cause (π := fun t => t.quartz = s.quartz) (fun _ _ _ h => h) s a1 rfl
@[simp] theorem cause_tile (s : State) (a1 : Nat) : (s.cause a1).tile = s.tile := 
  kept_cause (π := fun t => t.tile = s.tile) (fun _ _ _ h => h) s a1 rfl
@[simp] theorem cause_ports (s : State) (a1 : Nat) : (s.cause a1).ports = s.ports := 
  kept_cause (π := fun t => t.ports = s.ports) (fun _ _ _ h => h) s a1 rfl
@[simp] theorem cause_cascade (s : State) (a1 : Nat) : (s.cause a1).cascade = s.cascade := 
  kept_cause (π := fun t => t.cascade = s.cascade) (fun _ _ _ h => h) s a1 rfl
@[simp] theorem cause_ingress (s : State) (a1 : Nat) : (s.cause a1).ingress = s.ingress := 
  kept_cause (π := fun t => t.ingress = s.ingress) (fun _ _ _ h => h) s a1 rfl
@[simp] theorem cause_video (s : State) (a1 : Nat) : (s.cause a1).video = s.video := 
  kept_cause (π := fun t => t.video = s.video) (fun _ _ _ h => h) s a1 rfl
@[simp] theorem cause_lamps (s : State) (a1 : Nat) : (s.cause a1).lamps = s.lamps := 
  kept_cause (π := fun t => t.lamps = s.lamps) (fun _ _ _ h => h) s a1 rfl
@[simp] theorem cause_sent (s : State) (a1 : Nat) : (s.cause a1).sent = s.sent := 
  kept_cause (π := fun t => t.sent = s.sent) (fun _ _ _ h => h) s a1 rfl
@[simp] theorem cause_freeCount (s : State) (a1 : Nat) : (s.cause a1).freeCount = s.freeCount := 
  kept_cause (π := fun t => t.freeCount = s.freeCount) (fun _ _ _ h => h) s a1 rfl
@[simp] theorem cause_pending (s : State) (a1 : Nat) : (s.cause a1).pending = s.pending := 
  kept_cause (π := fun t => t.pending = s.pending) (fun _ _ _ h => h) s a1 rfl

@[simp] theorem publish_now (s : State) (a1 a2 a3 : Nat) (a4 : Bool) : (s.publish a1 a2 a3 a4).now = s.now := 
  kept_publish (π := fun t => t.now = s.now) (fun _ _ _ h => h) s a1 a2 a3 a4 rfl
@[simp] theorem publish_role (s : State) (a1 a2 a3 : Nat) (a4 : Bool) : (s.publish a1 a2 a3 a4).role = s.role := 
  kept_publish (π := fun t => t.role = s.role) (fun _ _ _ h => h) s a1 a2 a3 a4 rfl
@[simp] theorem publish_life (s : State) (a1 a2 a3 : Nat) (a4 : Bool) : (s.publish a1 a2 a3 a4).life = s.life := 
  kept_publish (π := fun t => t.life = s.life) (fun _ _ _ h => h) s a1 a2 a3 a4 rfl
@[simp] theorem publish_straps (s : State) (a1 a2 a3 : Nat) (a4 : Bool) : (s.publish a1 a2 a3 a4).straps = s.straps := 
  kept_publish (π := fun t => t.straps = s.straps) (fun _ _ _ h => h) s a1 a2 a3 a4 rfl
@[simp] theorem publish_railsGood (s : State) (a1 a2 a3 : Nat) (a4 : Bool) : (s.publish a1 a2 a3 a4).railsGood = s.railsGood := 
  kept_publish (π := fun t => t.railsGood = s.railsGood) (fun _ _ _ h => h) s a1 a2 a3 a4 rfl
@[simp] theorem publish_control (s : State) (a1 a2 a3 : Nat) (a4 : Bool) : (s.publish a1 a2 a3 a4).control = s.control := 
  kept_publish (π := fun t => t.control = s.control) (fun _ _ _ h => h) s a1 a2 a3 a4 rfl
@[simp] theorem publish_clocks (s : State) (a1 a2 a3 : Nat) (a4 : Bool) : (s.publish a1 a2 a3 a4).clocks = s.clocks := 
  kept_publish (π := fun t => t.clocks = s.clocks) (fun _ _ _ h => h) s a1 a2 a3 a4 rfl
@[simp] theorem publish_thermal (s : State) (a1 a2 a3 : Nat) (a4 : Bool) : (s.publish a1 a2 a3 a4).thermal = s.thermal := 
  kept_publish (π := fun t => t.thermal = s.thermal) (fun _ _ _ h => h) s a1 a2 a3 a4 rfl
@[simp] theorem publish_otp (s : State) (a1 a2 a3 : Nat) (a4 : Bool) : (s.publish a1 a2 a3 a4).otp = s.otp := 
  kept_publish (π := fun t => t.otp = s.otp) (fun _ _ _ h => h) s a1 a2 a3 a4 rfl
@[simp] theorem publish_nvm (s : State) (a1 a2 a3 : Nat) (a4 : Bool) : (s.publish a1 a2 a3 a4).nvm = s.nvm := 
  kept_publish (π := fun t => t.nvm = s.nvm) (fun _ _ _ h => h) s a1 a2 a3 a4 rfl
@[simp] theorem publish_update (s : State) (a1 a2 a3 : Nat) (a4 : Bool) : (s.publish a1 a2 a3 a4).update = s.update := 
  kept_publish (π := fun t => t.update = s.update) (fun _ _ _ h => h) s a1 a2 a3 a4 rfl
@[simp] theorem publish_beat (s : State) (a1 a2 a3 : Nat) (a4 : Bool) : (s.publish a1 a2 a3 a4).beat = s.beat := 
  kept_publish (π := fun t => t.beat = s.beat) (fun _ _ _ h => h) s a1 a2 a3 a4 rfl
@[simp] theorem publish_tap (s : State) (a1 a2 a3 : Nat) (a4 : Bool) : (s.publish a1 a2 a3 a4).tap = s.tap := 
  kept_publish (π := fun t => t.tap = s.tap) (fun _ _ _ h => h) s a1 a2 a3 a4 rfl
@[simp] theorem publish_hostPort (s : State) (a1 a2 a3 : Nat) (a4 : Bool) : (s.publish a1 a2 a3 a4).hostPort = s.hostPort := 
  kept_publish (π := fun t => t.hostPort = s.hostPort) (fun _ _ _ h => h) s a1 a2 a3 a4 rfl
@[simp] theorem publish_lanes (s : State) (a1 a2 a3 : Nat) (a4 : Bool) : (s.publish a1 a2 a3 a4).lanes = s.lanes := 
  kept_publish (π := fun t => t.lanes = s.lanes) (fun _ _ _ h => h) s a1 a2 a3 a4 rfl
@[simp] theorem publish_quartz (s : State) (a1 a2 a3 : Nat) (a4 : Bool) : (s.publish a1 a2 a3 a4).quartz = s.quartz := 
  kept_publish (π := fun t => t.quartz = s.quartz) (fun _ _ _ h => h) s a1 a2 a3 a4 rfl
@[simp] theorem publish_tile (s : State) (a1 a2 a3 : Nat) (a4 : Bool) : (s.publish a1 a2 a3 a4).tile = s.tile := 
  kept_publish (π := fun t => t.tile = s.tile) (fun _ _ _ h => h) s a1 a2 a3 a4 rfl
@[simp] theorem publish_ports (s : State) (a1 a2 a3 : Nat) (a4 : Bool) : (s.publish a1 a2 a3 a4).ports = s.ports := 
  kept_publish (π := fun t => t.ports = s.ports) (fun _ _ _ h => h) s a1 a2 a3 a4 rfl
@[simp] theorem publish_cascade (s : State) (a1 a2 a3 : Nat) (a4 : Bool) : (s.publish a1 a2 a3 a4).cascade = s.cascade := 
  kept_publish (π := fun t => t.cascade = s.cascade) (fun _ _ _ h => h) s a1 a2 a3 a4 rfl
@[simp] theorem publish_ingress (s : State) (a1 a2 a3 : Nat) (a4 : Bool) : (s.publish a1 a2 a3 a4).ingress = s.ingress := 
  kept_publish (π := fun t => t.ingress = s.ingress) (fun _ _ _ h => h) s a1 a2 a3 a4 rfl
@[simp] theorem publish_video (s : State) (a1 a2 a3 : Nat) (a4 : Bool) : (s.publish a1 a2 a3 a4).video = s.video := 
  kept_publish (π := fun t => t.video = s.video) (fun _ _ _ h => h) s a1 a2 a3 a4 rfl
@[simp] theorem publish_lamps (s : State) (a1 a2 a3 : Nat) (a4 : Bool) : (s.publish a1 a2 a3 a4).lamps = s.lamps := 
  kept_publish (π := fun t => t.lamps = s.lamps) (fun _ _ _ h => h) s a1 a2 a3 a4 rfl
@[simp] theorem publish_sent (s : State) (a1 a2 a3 : Nat) (a4 : Bool) : (s.publish a1 a2 a3 a4).sent = s.sent := 
  kept_publish (π := fun t => t.sent = s.sent) (fun _ _ _ h => h) s a1 a2 a3 a4 rfl
@[simp] theorem publish_freeCount (s : State) (a1 a2 a3 : Nat) (a4 : Bool) : (s.publish a1 a2 a3 a4).freeCount = s.freeCount := 
  kept_publish (π := fun t => t.freeCount = s.freeCount) (fun _ _ _ h => h) s a1 a2 a3 a4 rfl
@[simp] theorem publish_pending (s : State) (a1 a2 a3 : Nat) (a4 : Bool) : (s.publish a1 a2 a3 a4).pending = s.pending := 
  kept_publish (π := fun t => t.pending = s.pending) (fun _ _ _ h => h) s a1 a2 a3 a4 rfl

@[simp] theorem startRun_now (s : State) (a1 a2 : Nat) : (s.startRun a1 a2).now = s.now := 
  kept_startRun (π := fun t => t.now = s.now) (fun _ _ _ h => h) s a1 a2 rfl
@[simp] theorem startRun_role (s : State) (a1 a2 : Nat) : (s.startRun a1 a2).role = s.role := 
  kept_startRun (π := fun t => t.role = s.role) (fun _ _ _ h => h) s a1 a2 rfl
@[simp] theorem startRun_life (s : State) (a1 a2 : Nat) : (s.startRun a1 a2).life = s.life := 
  kept_startRun (π := fun t => t.life = s.life) (fun _ _ _ h => h) s a1 a2 rfl
@[simp] theorem startRun_straps (s : State) (a1 a2 : Nat) : (s.startRun a1 a2).straps = s.straps := 
  kept_startRun (π := fun t => t.straps = s.straps) (fun _ _ _ h => h) s a1 a2 rfl
@[simp] theorem startRun_railsGood (s : State) (a1 a2 : Nat) : (s.startRun a1 a2).railsGood = s.railsGood := 
  kept_startRun (π := fun t => t.railsGood = s.railsGood) (fun _ _ _ h => h) s a1 a2 rfl
@[simp] theorem startRun_control (s : State) (a1 a2 : Nat) : (s.startRun a1 a2).control = s.control := 
  kept_startRun (π := fun t => t.control = s.control) (fun _ _ _ h => h) s a1 a2 rfl
@[simp] theorem startRun_clocks (s : State) (a1 a2 : Nat) : (s.startRun a1 a2).clocks = s.clocks := 
  kept_startRun (π := fun t => t.clocks = s.clocks) (fun _ _ _ h => h) s a1 a2 rfl
@[simp] theorem startRun_thermal (s : State) (a1 a2 : Nat) : (s.startRun a1 a2).thermal = s.thermal := 
  kept_startRun (π := fun t => t.thermal = s.thermal) (fun _ _ _ h => h) s a1 a2 rfl
@[simp] theorem startRun_otp (s : State) (a1 a2 : Nat) : (s.startRun a1 a2).otp = s.otp := 
  kept_startRun (π := fun t => t.otp = s.otp) (fun _ _ _ h => h) s a1 a2 rfl
@[simp] theorem startRun_nvm (s : State) (a1 a2 : Nat) : (s.startRun a1 a2).nvm = s.nvm := 
  kept_startRun (π := fun t => t.nvm = s.nvm) (fun _ _ _ h => h) s a1 a2 rfl
@[simp] theorem startRun_update (s : State) (a1 a2 : Nat) : (s.startRun a1 a2).update = s.update := 
  kept_startRun (π := fun t => t.update = s.update) (fun _ _ _ h => h) s a1 a2 rfl
@[simp] theorem startRun_beat (s : State) (a1 a2 : Nat) : (s.startRun a1 a2).beat = s.beat := 
  kept_startRun (π := fun t => t.beat = s.beat) (fun _ _ _ h => h) s a1 a2 rfl
@[simp] theorem startRun_tap (s : State) (a1 a2 : Nat) : (s.startRun a1 a2).tap = s.tap := 
  kept_startRun (π := fun t => t.tap = s.tap) (fun _ _ _ h => h) s a1 a2 rfl
@[simp] theorem startRun_hostPort (s : State) (a1 a2 : Nat) : (s.startRun a1 a2).hostPort = s.hostPort := 
  kept_startRun (π := fun t => t.hostPort = s.hostPort) (fun _ _ _ h => h) s a1 a2 rfl
@[simp] theorem startRun_lanes (s : State) (a1 a2 : Nat) : (s.startRun a1 a2).lanes = s.lanes := 
  kept_startRun (π := fun t => t.lanes = s.lanes) (fun _ _ _ h => h) s a1 a2 rfl
@[simp] theorem startRun_quartz (s : State) (a1 a2 : Nat) : (s.startRun a1 a2).quartz = s.quartz := 
  kept_startRun (π := fun t => t.quartz = s.quartz) (fun _ _ _ h => h) s a1 a2 rfl
@[simp] theorem startRun_tile (s : State) (a1 a2 : Nat) : (s.startRun a1 a2).tile = s.tile := 
  kept_startRun (π := fun t => t.tile = s.tile) (fun _ _ _ h => h) s a1 a2 rfl
@[simp] theorem startRun_ports (s : State) (a1 a2 : Nat) : (s.startRun a1 a2).ports = s.ports := 
  kept_startRun (π := fun t => t.ports = s.ports) (fun _ _ _ h => h) s a1 a2 rfl
@[simp] theorem startRun_cascade (s : State) (a1 a2 : Nat) : (s.startRun a1 a2).cascade = s.cascade := 
  kept_startRun (π := fun t => t.cascade = s.cascade) (fun _ _ _ h => h) s a1 a2 rfl
@[simp] theorem startRun_ingress (s : State) (a1 a2 : Nat) : (s.startRun a1 a2).ingress = s.ingress := 
  kept_startRun (π := fun t => t.ingress = s.ingress) (fun _ _ _ h => h) s a1 a2 rfl
@[simp] theorem startRun_video (s : State) (a1 a2 : Nat) : (s.startRun a1 a2).video = s.video := 
  kept_startRun (π := fun t => t.video = s.video) (fun _ _ _ h => h) s a1 a2 rfl
@[simp] theorem startRun_lamps (s : State) (a1 a2 : Nat) : (s.startRun a1 a2).lamps = s.lamps := 
  kept_startRun (π := fun t => t.lamps = s.lamps) (fun _ _ _ h => h) s a1 a2 rfl
@[simp] theorem startRun_sent (s : State) (a1 a2 : Nat) : (s.startRun a1 a2).sent = s.sent := 
  kept_startRun (π := fun t => t.sent = s.sent) (fun _ _ _ h => h) s a1 a2 rfl
@[simp] theorem startRun_freeCount (s : State) (a1 a2 : Nat) : (s.startRun a1 a2).freeCount = s.freeCount := 
  kept_startRun (π := fun t => t.freeCount = s.freeCount) (fun _ _ _ h => h) s a1 a2 rfl
@[simp] theorem startRun_pending (s : State) (a1 a2 : Nat) : (s.startRun a1 a2).pending = s.pending := 
  kept_startRun (π := fun t => t.pending = s.pending) (fun _ _ _ h => h) s a1 a2 rfl

@[simp] theorem violation_now (s : State) (a1 : BitVec 7) (a2 : Nat) : (s.violation a1 a2).now = s.now := 
  kept_violation (π := fun t => t.now = s.now) (fun _ _ _ h => h) (fun _ _ h => h) (fun _ _ _ h => h) (fun _ _ h => h) (fun _ _ h => h) s a1 a2 rfl
@[simp] theorem violation_role (s : State) (a1 : BitVec 7) (a2 : Nat) : (s.violation a1 a2).role = s.role := 
  kept_violation (π := fun t => t.role = s.role) (fun _ _ _ h => h) (fun _ _ h => h) (fun _ _ _ h => h) (fun _ _ h => h) (fun _ _ h => h) s a1 a2 rfl
@[simp] theorem violation_life (s : State) (a1 : BitVec 7) (a2 : Nat) : (s.violation a1 a2).life = s.life := 
  kept_violation (π := fun t => t.life = s.life) (fun _ _ _ h => h) (fun _ _ h => h) (fun _ _ _ h => h) (fun _ _ h => h) (fun _ _ h => h) s a1 a2 rfl
@[simp] theorem violation_straps (s : State) (a1 : BitVec 7) (a2 : Nat) : (s.violation a1 a2).straps = s.straps := 
  kept_violation (π := fun t => t.straps = s.straps) (fun _ _ _ h => h) (fun _ _ h => h) (fun _ _ _ h => h) (fun _ _ h => h) (fun _ _ h => h) s a1 a2 rfl
@[simp] theorem violation_railsGood (s : State) (a1 : BitVec 7) (a2 : Nat) : (s.violation a1 a2).railsGood = s.railsGood := 
  kept_violation (π := fun t => t.railsGood = s.railsGood) (fun _ _ _ h => h) (fun _ _ h => h) (fun _ _ _ h => h) (fun _ _ h => h) (fun _ _ h => h) s a1 a2 rfl
@[simp] theorem violation_clocks (s : State) (a1 : BitVec 7) (a2 : Nat) : (s.violation a1 a2).clocks = s.clocks := 
  kept_violation (π := fun t => t.clocks = s.clocks) (fun _ _ _ h => h) (fun _ _ h => h) (fun _ _ _ h => h) (fun _ _ h => h) (fun _ _ h => h) s a1 a2 rfl
@[simp] theorem violation_thermal (s : State) (a1 : BitVec 7) (a2 : Nat) : (s.violation a1 a2).thermal = s.thermal := 
  kept_violation (π := fun t => t.thermal = s.thermal) (fun _ _ _ h => h) (fun _ _ h => h) (fun _ _ _ h => h) (fun _ _ h => h) (fun _ _ h => h) s a1 a2 rfl
@[simp] theorem violation_otp (s : State) (a1 : BitVec 7) (a2 : Nat) : (s.violation a1 a2).otp = s.otp := 
  kept_violation (π := fun t => t.otp = s.otp) (fun _ _ _ h => h) (fun _ _ h => h) (fun _ _ _ h => h) (fun _ _ h => h) (fun _ _ h => h) s a1 a2 rfl
@[simp] theorem violation_update (s : State) (a1 : BitVec 7) (a2 : Nat) : (s.violation a1 a2).update = s.update := 
  kept_violation (π := fun t => t.update = s.update) (fun _ _ _ h => h) (fun _ _ h => h) (fun _ _ _ h => h) (fun _ _ h => h) (fun _ _ h => h) s a1 a2 rfl
@[simp] theorem violation_beat (s : State) (a1 : BitVec 7) (a2 : Nat) : (s.violation a1 a2).beat = s.beat := 
  kept_violation (π := fun t => t.beat = s.beat) (fun _ _ _ h => h) (fun _ _ h => h) (fun _ _ _ h => h) (fun _ _ h => h) (fun _ _ h => h) s a1 a2 rfl
@[simp] theorem violation_tap (s : State) (a1 : BitVec 7) (a2 : Nat) : (s.violation a1 a2).tap = s.tap := 
  kept_violation (π := fun t => t.tap = s.tap) (fun _ _ _ h => h) (fun _ _ h => h) (fun _ _ _ h => h) (fun _ _ h => h) (fun _ _ h => h) s a1 a2 rfl
@[simp] theorem violation_lanes (s : State) (a1 : BitVec 7) (a2 : Nat) : (s.violation a1 a2).lanes = s.lanes := 
  kept_violation (π := fun t => t.lanes = s.lanes) (fun _ _ _ h => h) (fun _ _ h => h) (fun _ _ _ h => h) (fun _ _ h => h) (fun _ _ h => h) s a1 a2 rfl
@[simp] theorem violation_quartz (s : State) (a1 : BitVec 7) (a2 : Nat) : (s.violation a1 a2).quartz = s.quartz := 
  kept_violation (π := fun t => t.quartz = s.quartz) (fun _ _ _ h => h) (fun _ _ h => h) (fun _ _ _ h => h) (fun _ _ h => h) (fun _ _ h => h) s a1 a2 rfl
@[simp] theorem violation_tile (s : State) (a1 : BitVec 7) (a2 : Nat) : (s.violation a1 a2).tile = s.tile := 
  kept_violation (π := fun t => t.tile = s.tile) (fun _ _ _ h => h) (fun _ _ h => h) (fun _ _ _ h => h) (fun _ _ h => h) (fun _ _ h => h) s a1 a2 rfl
@[simp] theorem violation_ports (s : State) (a1 : BitVec 7) (a2 : Nat) : (s.violation a1 a2).ports = s.ports := 
  kept_violation (π := fun t => t.ports = s.ports) (fun _ _ _ h => h) (fun _ _ h => h) (fun _ _ _ h => h) (fun _ _ h => h) (fun _ _ h => h) s a1 a2 rfl
@[simp] theorem violation_cascade (s : State) (a1 : BitVec 7) (a2 : Nat) : (s.violation a1 a2).cascade = s.cascade := 
  kept_violation (π := fun t => t.cascade = s.cascade) (fun _ _ _ h => h) (fun _ _ h => h) (fun _ _ _ h => h) (fun _ _ h => h) (fun _ _ h => h) s a1 a2 rfl
@[simp] theorem violation_ingress (s : State) (a1 : BitVec 7) (a2 : Nat) : (s.violation a1 a2).ingress = s.ingress := 
  kept_violation (π := fun t => t.ingress = s.ingress) (fun _ _ _ h => h) (fun _ _ h => h) (fun _ _ _ h => h) (fun _ _ h => h) (fun _ _ h => h) s a1 a2 rfl
@[simp] theorem violation_video (s : State) (a1 : BitVec 7) (a2 : Nat) : (s.violation a1 a2).video = s.video := 
  kept_violation (π := fun t => t.video = s.video) (fun _ _ _ h => h) (fun _ _ h => h) (fun _ _ _ h => h) (fun _ _ h => h) (fun _ _ h => h) s a1 a2 rfl
@[simp] theorem violation_lamps (s : State) (a1 : BitVec 7) (a2 : Nat) : (s.violation a1 a2).lamps = s.lamps := 
  kept_violation (π := fun t => t.lamps = s.lamps) (fun _ _ _ h => h) (fun _ _ h => h) (fun _ _ _ h => h) (fun _ _ h => h) (fun _ _ h => h) s a1 a2 rfl
@[simp] theorem violation_freeCount (s : State) (a1 : BitVec 7) (a2 : Nat) : (s.violation a1 a2).freeCount = s.freeCount := 
  kept_violation (π := fun t => t.freeCount = s.freeCount) (fun _ _ _ h => h) (fun _ _ h => h) (fun _ _ _ h => h) (fun _ _ h => h) (fun _ _ h => h) s a1 a2 rfl
@[simp] theorem violation_pending (s : State) (a1 : BitVec 7) (a2 : Nat) : (s.violation a1 a2).pending = s.pending := 
  kept_violation (π := fun t => t.pending = s.pending) (fun _ _ _ h => h) (fun _ _ h => h) (fun _ _ _ h => h) (fun _ _ h => h) (fun _ _ h => h) s a1 a2 rfl

@[simp] theorem tellSender_now (s : State) (a1 : Fin 128) : (s.tellSender a1).now = s.now := 
  kept_tellSender (π := fun t => t.now = s.now) (fun _ _ h => h) s a1 rfl
@[simp] theorem tellSender_role (s : State) (a1 : Fin 128) : (s.tellSender a1).role = s.role := 
  kept_tellSender (π := fun t => t.role = s.role) (fun _ _ h => h) s a1 rfl
@[simp] theorem tellSender_life (s : State) (a1 : Fin 128) : (s.tellSender a1).life = s.life := 
  kept_tellSender (π := fun t => t.life = s.life) (fun _ _ h => h) s a1 rfl
@[simp] theorem tellSender_straps (s : State) (a1 : Fin 128) : (s.tellSender a1).straps = s.straps := 
  kept_tellSender (π := fun t => t.straps = s.straps) (fun _ _ h => h) s a1 rfl
@[simp] theorem tellSender_railsGood (s : State) (a1 : Fin 128) : (s.tellSender a1).railsGood = s.railsGood := 
  kept_tellSender (π := fun t => t.railsGood = s.railsGood) (fun _ _ h => h) s a1 rfl
@[simp] theorem tellSender_od (s : State) (a1 : Fin 128) : (s.tellSender a1).od = s.od := 
  kept_tellSender (π := fun t => t.od = s.od) (fun _ _ h => h) s a1 rfl
@[simp] theorem tellSender_control (s : State) (a1 : Fin 128) : (s.tellSender a1).control = s.control := 
  kept_tellSender (π := fun t => t.control = s.control) (fun _ _ h => h) s a1 rfl
@[simp] theorem tellSender_clocks (s : State) (a1 : Fin 128) : (s.tellSender a1).clocks = s.clocks := 
  kept_tellSender (π := fun t => t.clocks = s.clocks) (fun _ _ h => h) s a1 rfl
@[simp] theorem tellSender_thermal (s : State) (a1 : Fin 128) : (s.tellSender a1).thermal = s.thermal := 
  kept_tellSender (π := fun t => t.thermal = s.thermal) (fun _ _ h => h) s a1 rfl
@[simp] theorem tellSender_otp (s : State) (a1 : Fin 128) : (s.tellSender a1).otp = s.otp := 
  kept_tellSender (π := fun t => t.otp = s.otp) (fun _ _ h => h) s a1 rfl
@[simp] theorem tellSender_nvm (s : State) (a1 : Fin 128) : (s.tellSender a1).nvm = s.nvm := 
  kept_tellSender (π := fun t => t.nvm = s.nvm) (fun _ _ h => h) s a1 rfl
@[simp] theorem tellSender_update (s : State) (a1 : Fin 128) : (s.tellSender a1).update = s.update := 
  kept_tellSender (π := fun t => t.update = s.update) (fun _ _ h => h) s a1 rfl
@[simp] theorem tellSender_beat (s : State) (a1 : Fin 128) : (s.tellSender a1).beat = s.beat := 
  kept_tellSender (π := fun t => t.beat = s.beat) (fun _ _ h => h) s a1 rfl
@[simp] theorem tellSender_tap (s : State) (a1 : Fin 128) : (s.tellSender a1).tap = s.tap := 
  kept_tellSender (π := fun t => t.tap = s.tap) (fun _ _ h => h) s a1 rfl
@[simp] theorem tellSender_hostPort (s : State) (a1 : Fin 128) : (s.tellSender a1).hostPort = s.hostPort := 
  kept_tellSender (π := fun t => t.hostPort = s.hostPort) (fun _ _ h => h) s a1 rfl
@[simp] theorem tellSender_lanes (s : State) (a1 : Fin 128) : (s.tellSender a1).lanes = s.lanes := 
  kept_tellSender (π := fun t => t.lanes = s.lanes) (fun _ _ h => h) s a1 rfl
@[simp] theorem tellSender_quartz (s : State) (a1 : Fin 128) : (s.tellSender a1).quartz = s.quartz := 
  kept_tellSender (π := fun t => t.quartz = s.quartz) (fun _ _ h => h) s a1 rfl
@[simp] theorem tellSender_tile (s : State) (a1 : Fin 128) : (s.tellSender a1).tile = s.tile := 
  kept_tellSender (π := fun t => t.tile = s.tile) (fun _ _ h => h) s a1 rfl
@[simp] theorem tellSender_ports (s : State) (a1 : Fin 128) : (s.tellSender a1).ports = s.ports := 
  kept_tellSender (π := fun t => t.ports = s.ports) (fun _ _ h => h) s a1 rfl
@[simp] theorem tellSender_cascade (s : State) (a1 : Fin 128) : (s.tellSender a1).cascade = s.cascade := 
  kept_tellSender (π := fun t => t.cascade = s.cascade) (fun _ _ h => h) s a1 rfl
@[simp] theorem tellSender_ingress (s : State) (a1 : Fin 128) : (s.tellSender a1).ingress = s.ingress := 
  kept_tellSender (π := fun t => t.ingress = s.ingress) (fun _ _ h => h) s a1 rfl
@[simp] theorem tellSender_video (s : State) (a1 : Fin 128) : (s.tellSender a1).video = s.video := 
  kept_tellSender (π := fun t => t.video = s.video) (fun _ _ h => h) s a1 rfl
@[simp] theorem tellSender_lamps (s : State) (a1 : Fin 128) : (s.tellSender a1).lamps = s.lamps := 
  kept_tellSender (π := fun t => t.lamps = s.lamps) (fun _ _ h => h) s a1 rfl
@[simp] theorem tellSender_freeCount (s : State) (a1 : Fin 128) : (s.tellSender a1).freeCount = s.freeCount := 
  kept_tellSender (π := fun t => t.freeCount = s.freeCount) (fun _ _ h => h) s a1 rfl
@[simp] theorem tellSender_pending (s : State) (a1 : Fin 128) : (s.tellSender a1).pending = s.pending := 
  kept_tellSender (π := fun t => t.pending = s.pending) (fun _ _ h => h) s a1 rfl

@[simp] theorem emits_now (s : State) (a1 : List Out) : (s.emits a1).now = s.now := rfl
@[simp] theorem emits_role (s : State) (a1 : List Out) : (s.emits a1).role = s.role := rfl
@[simp] theorem emits_life (s : State) (a1 : List Out) : (s.emits a1).life = s.life := rfl
@[simp] theorem emits_straps (s : State) (a1 : List Out) : (s.emits a1).straps = s.straps := rfl
@[simp] theorem emits_railsGood (s : State) (a1 : List Out) : (s.emits a1).railsGood = s.railsGood := rfl
@[simp] theorem emits_od (s : State) (a1 : List Out) : (s.emits a1).od = s.od := rfl
@[simp] theorem emits_control (s : State) (a1 : List Out) : (s.emits a1).control = s.control := rfl
@[simp] theorem emits_clocks (s : State) (a1 : List Out) : (s.emits a1).clocks = s.clocks := rfl
@[simp] theorem emits_thermal (s : State) (a1 : List Out) : (s.emits a1).thermal = s.thermal := rfl
@[simp] theorem emits_otp (s : State) (a1 : List Out) : (s.emits a1).otp = s.otp := rfl
@[simp] theorem emits_nvm (s : State) (a1 : List Out) : (s.emits a1).nvm = s.nvm := rfl
@[simp] theorem emits_update (s : State) (a1 : List Out) : (s.emits a1).update = s.update := rfl
@[simp] theorem emits_beat (s : State) (a1 : List Out) : (s.emits a1).beat = s.beat := rfl
@[simp] theorem emits_tap (s : State) (a1 : List Out) : (s.emits a1).tap = s.tap := rfl
@[simp] theorem emits_hostPort (s : State) (a1 : List Out) : (s.emits a1).hostPort = s.hostPort := rfl
@[simp] theorem emits_lanes (s : State) (a1 : List Out) : (s.emits a1).lanes = s.lanes := rfl
@[simp] theorem emits_quartz (s : State) (a1 : List Out) : (s.emits a1).quartz = s.quartz := rfl
@[simp] theorem emits_tile (s : State) (a1 : List Out) : (s.emits a1).tile = s.tile := rfl
@[simp] theorem emits_ports (s : State) (a1 : List Out) : (s.emits a1).ports = s.ports := rfl
@[simp] theorem emits_cascade (s : State) (a1 : List Out) : (s.emits a1).cascade = s.cascade := rfl
@[simp] theorem emits_ingress (s : State) (a1 : List Out) : (s.emits a1).ingress = s.ingress := rfl
@[simp] theorem emits_video (s : State) (a1 : List Out) : (s.emits a1).video = s.video := rfl
@[simp] theorem emits_lamps (s : State) (a1 : List Out) : (s.emits a1).lamps = s.lamps := rfl
@[simp] theorem emits_freeCount (s : State) (a1 : List Out) : (s.emits a1).freeCount = s.freeCount := rfl
@[simp] theorem emits_pending (s : State) (a1 : List Out) : (s.emits a1).pending = s.pending := rfl

@[simp] theorem wr_now (s : State) (a1 a2 : Nat) (a3 : Val) : (s.wr a1 a2 a3).now = s.now := rfl
@[simp] theorem wr_role (s : State) (a1 a2 : Nat) (a3 : Val) : (s.wr a1 a2 a3).role = s.role := rfl
@[simp] theorem wr_life (s : State) (a1 a2 : Nat) (a3 : Val) : (s.wr a1 a2 a3).life = s.life := rfl
@[simp] theorem wr_straps (s : State) (a1 a2 : Nat) (a3 : Val) : (s.wr a1 a2 a3).straps = s.straps := rfl
@[simp] theorem wr_railsGood (s : State) (a1 a2 : Nat) (a3 : Val) : (s.wr a1 a2 a3).railsGood = s.railsGood := rfl
@[simp] theorem wr_control (s : State) (a1 a2 : Nat) (a3 : Val) : (s.wr a1 a2 a3).control = s.control := rfl
@[simp] theorem wr_clocks (s : State) (a1 a2 : Nat) (a3 : Val) : (s.wr a1 a2 a3).clocks = s.clocks := rfl
@[simp] theorem wr_thermal (s : State) (a1 a2 : Nat) (a3 : Val) : (s.wr a1 a2 a3).thermal = s.thermal := rfl
@[simp] theorem wr_otp (s : State) (a1 a2 : Nat) (a3 : Val) : (s.wr a1 a2 a3).otp = s.otp := rfl
@[simp] theorem wr_nvm (s : State) (a1 a2 : Nat) (a3 : Val) : (s.wr a1 a2 a3).nvm = s.nvm := rfl
@[simp] theorem wr_update (s : State) (a1 a2 : Nat) (a3 : Val) : (s.wr a1 a2 a3).update = s.update := rfl
@[simp] theorem wr_beat (s : State) (a1 a2 : Nat) (a3 : Val) : (s.wr a1 a2 a3).beat = s.beat := rfl
@[simp] theorem wr_tap (s : State) (a1 a2 : Nat) (a3 : Val) : (s.wr a1 a2 a3).tap = s.tap := rfl
@[simp] theorem wr_hostPort (s : State) (a1 a2 : Nat) (a3 : Val) : (s.wr a1 a2 a3).hostPort = s.hostPort := rfl
@[simp] theorem wr_lanes (s : State) (a1 a2 : Nat) (a3 : Val) : (s.wr a1 a2 a3).lanes = s.lanes := rfl
@[simp] theorem wr_quartz (s : State) (a1 a2 : Nat) (a3 : Val) : (s.wr a1 a2 a3).quartz = s.quartz := rfl
@[simp] theorem wr_tile (s : State) (a1 a2 : Nat) (a3 : Val) : (s.wr a1 a2 a3).tile = s.tile := rfl
@[simp] theorem wr_ports (s : State) (a1 a2 : Nat) (a3 : Val) : (s.wr a1 a2 a3).ports = s.ports := rfl
@[simp] theorem wr_cascade (s : State) (a1 a2 : Nat) (a3 : Val) : (s.wr a1 a2 a3).cascade = s.cascade := rfl
@[simp] theorem wr_ingress (s : State) (a1 a2 : Nat) (a3 : Val) : (s.wr a1 a2 a3).ingress = s.ingress := rfl
@[simp] theorem wr_video (s : State) (a1 a2 : Nat) (a3 : Val) : (s.wr a1 a2 a3).video = s.video := rfl
@[simp] theorem wr_lamps (s : State) (a1 a2 : Nat) (a3 : Val) : (s.wr a1 a2 a3).lamps = s.lamps := rfl
@[simp] theorem wr_sent (s : State) (a1 a2 : Nat) (a3 : Val) : (s.wr a1 a2 a3).sent = s.sent := rfl
@[simp] theorem wr_freeCount (s : State) (a1 a2 : Nat) (a3 : Val) : (s.wr a1 a2 a3).freeCount = s.freeCount := rfl
@[simp] theorem wr_pending (s : State) (a1 a2 : Nat) (a3 : Val) : (s.wr a1 a2 a3).pending = s.pending := rfl

@[simp] theorem wrN_now (s : State) (a1 a2 a3 : Nat) : (s.wrN a1 a2 a3).now = s.now := 
  kept_wrN (π := fun t => t.now = s.now) (fun _ _ _ h => h) s a1 a2 a3 rfl
@[simp] theorem wrN_role (s : State) (a1 a2 a3 : Nat) : (s.wrN a1 a2 a3).role = s.role := 
  kept_wrN (π := fun t => t.role = s.role) (fun _ _ _ h => h) s a1 a2 a3 rfl
@[simp] theorem wrN_life (s : State) (a1 a2 a3 : Nat) : (s.wrN a1 a2 a3).life = s.life := 
  kept_wrN (π := fun t => t.life = s.life) (fun _ _ _ h => h) s a1 a2 a3 rfl
@[simp] theorem wrN_straps (s : State) (a1 a2 a3 : Nat) : (s.wrN a1 a2 a3).straps = s.straps := 
  kept_wrN (π := fun t => t.straps = s.straps) (fun _ _ _ h => h) s a1 a2 a3 rfl
@[simp] theorem wrN_railsGood (s : State) (a1 a2 a3 : Nat) : (s.wrN a1 a2 a3).railsGood = s.railsGood := 
  kept_wrN (π := fun t => t.railsGood = s.railsGood) (fun _ _ _ h => h) s a1 a2 a3 rfl
@[simp] theorem wrN_control (s : State) (a1 a2 a3 : Nat) : (s.wrN a1 a2 a3).control = s.control := 
  kept_wrN (π := fun t => t.control = s.control) (fun _ _ _ h => h) s a1 a2 a3 rfl
@[simp] theorem wrN_clocks (s : State) (a1 a2 a3 : Nat) : (s.wrN a1 a2 a3).clocks = s.clocks := 
  kept_wrN (π := fun t => t.clocks = s.clocks) (fun _ _ _ h => h) s a1 a2 a3 rfl
@[simp] theorem wrN_thermal (s : State) (a1 a2 a3 : Nat) : (s.wrN a1 a2 a3).thermal = s.thermal := 
  kept_wrN (π := fun t => t.thermal = s.thermal) (fun _ _ _ h => h) s a1 a2 a3 rfl
@[simp] theorem wrN_otp (s : State) (a1 a2 a3 : Nat) : (s.wrN a1 a2 a3).otp = s.otp := 
  kept_wrN (π := fun t => t.otp = s.otp) (fun _ _ _ h => h) s a1 a2 a3 rfl
@[simp] theorem wrN_nvm (s : State) (a1 a2 a3 : Nat) : (s.wrN a1 a2 a3).nvm = s.nvm := 
  kept_wrN (π := fun t => t.nvm = s.nvm) (fun _ _ _ h => h) s a1 a2 a3 rfl
@[simp] theorem wrN_update (s : State) (a1 a2 a3 : Nat) : (s.wrN a1 a2 a3).update = s.update := 
  kept_wrN (π := fun t => t.update = s.update) (fun _ _ _ h => h) s a1 a2 a3 rfl
@[simp] theorem wrN_beat (s : State) (a1 a2 a3 : Nat) : (s.wrN a1 a2 a3).beat = s.beat := 
  kept_wrN (π := fun t => t.beat = s.beat) (fun _ _ _ h => h) s a1 a2 a3 rfl
@[simp] theorem wrN_tap (s : State) (a1 a2 a3 : Nat) : (s.wrN a1 a2 a3).tap = s.tap := 
  kept_wrN (π := fun t => t.tap = s.tap) (fun _ _ _ h => h) s a1 a2 a3 rfl
@[simp] theorem wrN_hostPort (s : State) (a1 a2 a3 : Nat) : (s.wrN a1 a2 a3).hostPort = s.hostPort := 
  kept_wrN (π := fun t => t.hostPort = s.hostPort) (fun _ _ _ h => h) s a1 a2 a3 rfl
@[simp] theorem wrN_lanes (s : State) (a1 a2 a3 : Nat) : (s.wrN a1 a2 a3).lanes = s.lanes := 
  kept_wrN (π := fun t => t.lanes = s.lanes) (fun _ _ _ h => h) s a1 a2 a3 rfl
@[simp] theorem wrN_quartz (s : State) (a1 a2 a3 : Nat) : (s.wrN a1 a2 a3).quartz = s.quartz := 
  kept_wrN (π := fun t => t.quartz = s.quartz) (fun _ _ _ h => h) s a1 a2 a3 rfl
@[simp] theorem wrN_tile (s : State) (a1 a2 a3 : Nat) : (s.wrN a1 a2 a3).tile = s.tile := 
  kept_wrN (π := fun t => t.tile = s.tile) (fun _ _ _ h => h) s a1 a2 a3 rfl
@[simp] theorem wrN_ports (s : State) (a1 a2 a3 : Nat) : (s.wrN a1 a2 a3).ports = s.ports := 
  kept_wrN (π := fun t => t.ports = s.ports) (fun _ _ _ h => h) s a1 a2 a3 rfl
@[simp] theorem wrN_cascade (s : State) (a1 a2 a3 : Nat) : (s.wrN a1 a2 a3).cascade = s.cascade := 
  kept_wrN (π := fun t => t.cascade = s.cascade) (fun _ _ _ h => h) s a1 a2 a3 rfl
@[simp] theorem wrN_ingress (s : State) (a1 a2 a3 : Nat) : (s.wrN a1 a2 a3).ingress = s.ingress := 
  kept_wrN (π := fun t => t.ingress = s.ingress) (fun _ _ _ h => h) s a1 a2 a3 rfl
@[simp] theorem wrN_video (s : State) (a1 a2 a3 : Nat) : (s.wrN a1 a2 a3).video = s.video := 
  kept_wrN (π := fun t => t.video = s.video) (fun _ _ _ h => h) s a1 a2 a3 rfl
@[simp] theorem wrN_lamps (s : State) (a1 a2 a3 : Nat) : (s.wrN a1 a2 a3).lamps = s.lamps := 
  kept_wrN (π := fun t => t.lamps = s.lamps) (fun _ _ _ h => h) s a1 a2 a3 rfl
@[simp] theorem wrN_sent (s : State) (a1 a2 a3 : Nat) : (s.wrN a1 a2 a3).sent = s.sent := 
  kept_wrN (π := fun t => t.sent = s.sent) (fun _ _ _ h => h) s a1 a2 a3 rfl
@[simp] theorem wrN_freeCount (s : State) (a1 a2 a3 : Nat) : (s.wrN a1 a2 a3).freeCount = s.freeCount := 
  kept_wrN (π := fun t => t.freeCount = s.freeCount) (fun _ _ _ h => h) s a1 a2 a3 rfl
@[simp] theorem wrN_pending (s : State) (a1 a2 a3 : Nat) : (s.wrN a1 a2 a3).pending = s.pending := 
  kept_wrN (π := fun t => t.pending = s.pending) (fun _ _ _ h => h) s a1 a2 a3 rfl

@[simp] theorem wrD_now (s : State) (a1 a2 : Nat) (a3 : List Byte) : (s.wrD a1 a2 a3).now = s.now := 
  kept_wrD (π := fun t => t.now = s.now) (fun _ _ _ h => h) s a1 a2 a3 rfl
@[simp] theorem wrD_role (s : State) (a1 a2 : Nat) (a3 : List Byte) : (s.wrD a1 a2 a3).role = s.role := 
  kept_wrD (π := fun t => t.role = s.role) (fun _ _ _ h => h) s a1 a2 a3 rfl
@[simp] theorem wrD_life (s : State) (a1 a2 : Nat) (a3 : List Byte) : (s.wrD a1 a2 a3).life = s.life := 
  kept_wrD (π := fun t => t.life = s.life) (fun _ _ _ h => h) s a1 a2 a3 rfl
@[simp] theorem wrD_straps (s : State) (a1 a2 : Nat) (a3 : List Byte) : (s.wrD a1 a2 a3).straps = s.straps := 
  kept_wrD (π := fun t => t.straps = s.straps) (fun _ _ _ h => h) s a1 a2 a3 rfl
@[simp] theorem wrD_railsGood (s : State) (a1 a2 : Nat) (a3 : List Byte) : (s.wrD a1 a2 a3).railsGood = s.railsGood := 
  kept_wrD (π := fun t => t.railsGood = s.railsGood) (fun _ _ _ h => h) s a1 a2 a3 rfl
@[simp] theorem wrD_control (s : State) (a1 a2 : Nat) (a3 : List Byte) : (s.wrD a1 a2 a3).control = s.control := 
  kept_wrD (π := fun t => t.control = s.control) (fun _ _ _ h => h) s a1 a2 a3 rfl
@[simp] theorem wrD_clocks (s : State) (a1 a2 : Nat) (a3 : List Byte) : (s.wrD a1 a2 a3).clocks = s.clocks := 
  kept_wrD (π := fun t => t.clocks = s.clocks) (fun _ _ _ h => h) s a1 a2 a3 rfl
@[simp] theorem wrD_thermal (s : State) (a1 a2 : Nat) (a3 : List Byte) : (s.wrD a1 a2 a3).thermal = s.thermal := 
  kept_wrD (π := fun t => t.thermal = s.thermal) (fun _ _ _ h => h) s a1 a2 a3 rfl
@[simp] theorem wrD_otp (s : State) (a1 a2 : Nat) (a3 : List Byte) : (s.wrD a1 a2 a3).otp = s.otp := 
  kept_wrD (π := fun t => t.otp = s.otp) (fun _ _ _ h => h) s a1 a2 a3 rfl
@[simp] theorem wrD_nvm (s : State) (a1 a2 : Nat) (a3 : List Byte) : (s.wrD a1 a2 a3).nvm = s.nvm := 
  kept_wrD (π := fun t => t.nvm = s.nvm) (fun _ _ _ h => h) s a1 a2 a3 rfl
@[simp] theorem wrD_update (s : State) (a1 a2 : Nat) (a3 : List Byte) : (s.wrD a1 a2 a3).update = s.update := 
  kept_wrD (π := fun t => t.update = s.update) (fun _ _ _ h => h) s a1 a2 a3 rfl
@[simp] theorem wrD_beat (s : State) (a1 a2 : Nat) (a3 : List Byte) : (s.wrD a1 a2 a3).beat = s.beat := 
  kept_wrD (π := fun t => t.beat = s.beat) (fun _ _ _ h => h) s a1 a2 a3 rfl
@[simp] theorem wrD_tap (s : State) (a1 a2 : Nat) (a3 : List Byte) : (s.wrD a1 a2 a3).tap = s.tap := 
  kept_wrD (π := fun t => t.tap = s.tap) (fun _ _ _ h => h) s a1 a2 a3 rfl
@[simp] theorem wrD_hostPort (s : State) (a1 a2 : Nat) (a3 : List Byte) : (s.wrD a1 a2 a3).hostPort = s.hostPort := 
  kept_wrD (π := fun t => t.hostPort = s.hostPort) (fun _ _ _ h => h) s a1 a2 a3 rfl
@[simp] theorem wrD_lanes (s : State) (a1 a2 : Nat) (a3 : List Byte) : (s.wrD a1 a2 a3).lanes = s.lanes := 
  kept_wrD (π := fun t => t.lanes = s.lanes) (fun _ _ _ h => h) s a1 a2 a3 rfl
@[simp] theorem wrD_quartz (s : State) (a1 a2 : Nat) (a3 : List Byte) : (s.wrD a1 a2 a3).quartz = s.quartz := 
  kept_wrD (π := fun t => t.quartz = s.quartz) (fun _ _ _ h => h) s a1 a2 a3 rfl
@[simp] theorem wrD_tile (s : State) (a1 a2 : Nat) (a3 : List Byte) : (s.wrD a1 a2 a3).tile = s.tile := 
  kept_wrD (π := fun t => t.tile = s.tile) (fun _ _ _ h => h) s a1 a2 a3 rfl
@[simp] theorem wrD_ports (s : State) (a1 a2 : Nat) (a3 : List Byte) : (s.wrD a1 a2 a3).ports = s.ports := 
  kept_wrD (π := fun t => t.ports = s.ports) (fun _ _ _ h => h) s a1 a2 a3 rfl
@[simp] theorem wrD_cascade (s : State) (a1 a2 : Nat) (a3 : List Byte) : (s.wrD a1 a2 a3).cascade = s.cascade := 
  kept_wrD (π := fun t => t.cascade = s.cascade) (fun _ _ _ h => h) s a1 a2 a3 rfl
@[simp] theorem wrD_ingress (s : State) (a1 a2 : Nat) (a3 : List Byte) : (s.wrD a1 a2 a3).ingress = s.ingress := 
  kept_wrD (π := fun t => t.ingress = s.ingress) (fun _ _ _ h => h) s a1 a2 a3 rfl
@[simp] theorem wrD_video (s : State) (a1 a2 : Nat) (a3 : List Byte) : (s.wrD a1 a2 a3).video = s.video := 
  kept_wrD (π := fun t => t.video = s.video) (fun _ _ _ h => h) s a1 a2 a3 rfl
@[simp] theorem wrD_lamps (s : State) (a1 a2 : Nat) (a3 : List Byte) : (s.wrD a1 a2 a3).lamps = s.lamps := 
  kept_wrD (π := fun t => t.lamps = s.lamps) (fun _ _ _ h => h) s a1 a2 a3 rfl
@[simp] theorem wrD_sent (s : State) (a1 a2 : Nat) (a3 : List Byte) : (s.wrD a1 a2 a3).sent = s.sent := 
  kept_wrD (π := fun t => t.sent = s.sent) (fun _ _ _ h => h) s a1 a2 a3 rfl
@[simp] theorem wrD_freeCount (s : State) (a1 a2 : Nat) (a3 : List Byte) : (s.wrD a1 a2 a3).freeCount = s.freeCount := 
  kept_wrD (π := fun t => t.freeCount = s.freeCount) (fun _ _ _ h => h) s a1 a2 a3 rfl
@[simp] theorem wrD_pending (s : State) (a1 a2 : Nat) (a3 : List Byte) : (s.wrD a1 a2 a3).pending = s.pending := 
  kept_wrD (π := fun t => t.pending = s.pending) (fun _ _ _ h => h) s a1 a2 a3 rfl

@[simp] theorem bump_now (s : State) (a1 a2 a3 : Nat) : (s.bump a1 a2 a3).now = s.now := 
  kept_bump (π := fun t => t.now = s.now) (fun _ _ _ h => h) s a1 a2 a3 rfl
@[simp] theorem bump_role (s : State) (a1 a2 a3 : Nat) : (s.bump a1 a2 a3).role = s.role := 
  kept_bump (π := fun t => t.role = s.role) (fun _ _ _ h => h) s a1 a2 a3 rfl
@[simp] theorem bump_life (s : State) (a1 a2 a3 : Nat) : (s.bump a1 a2 a3).life = s.life := 
  kept_bump (π := fun t => t.life = s.life) (fun _ _ _ h => h) s a1 a2 a3 rfl
@[simp] theorem bump_straps (s : State) (a1 a2 a3 : Nat) : (s.bump a1 a2 a3).straps = s.straps := 
  kept_bump (π := fun t => t.straps = s.straps) (fun _ _ _ h => h) s a1 a2 a3 rfl
@[simp] theorem bump_railsGood (s : State) (a1 a2 a3 : Nat) : (s.bump a1 a2 a3).railsGood = s.railsGood := 
  kept_bump (π := fun t => t.railsGood = s.railsGood) (fun _ _ _ h => h) s a1 a2 a3 rfl
@[simp] theorem bump_control (s : State) (a1 a2 a3 : Nat) : (s.bump a1 a2 a3).control = s.control := 
  kept_bump (π := fun t => t.control = s.control) (fun _ _ _ h => h) s a1 a2 a3 rfl
@[simp] theorem bump_clocks (s : State) (a1 a2 a3 : Nat) : (s.bump a1 a2 a3).clocks = s.clocks := 
  kept_bump (π := fun t => t.clocks = s.clocks) (fun _ _ _ h => h) s a1 a2 a3 rfl
@[simp] theorem bump_thermal (s : State) (a1 a2 a3 : Nat) : (s.bump a1 a2 a3).thermal = s.thermal := 
  kept_bump (π := fun t => t.thermal = s.thermal) (fun _ _ _ h => h) s a1 a2 a3 rfl
@[simp] theorem bump_otp (s : State) (a1 a2 a3 : Nat) : (s.bump a1 a2 a3).otp = s.otp := 
  kept_bump (π := fun t => t.otp = s.otp) (fun _ _ _ h => h) s a1 a2 a3 rfl
@[simp] theorem bump_nvm (s : State) (a1 a2 a3 : Nat) : (s.bump a1 a2 a3).nvm = s.nvm := 
  kept_bump (π := fun t => t.nvm = s.nvm) (fun _ _ _ h => h) s a1 a2 a3 rfl
@[simp] theorem bump_update (s : State) (a1 a2 a3 : Nat) : (s.bump a1 a2 a3).update = s.update := 
  kept_bump (π := fun t => t.update = s.update) (fun _ _ _ h => h) s a1 a2 a3 rfl
@[simp] theorem bump_beat (s : State) (a1 a2 a3 : Nat) : (s.bump a1 a2 a3).beat = s.beat := 
  kept_bump (π := fun t => t.beat = s.beat) (fun _ _ _ h => h) s a1 a2 a3 rfl
@[simp] theorem bump_tap (s : State) (a1 a2 a3 : Nat) : (s.bump a1 a2 a3).tap = s.tap := 
  kept_bump (π := fun t => t.tap = s.tap) (fun _ _ _ h => h) s a1 a2 a3 rfl
@[simp] theorem bump_hostPort (s : State) (a1 a2 a3 : Nat) : (s.bump a1 a2 a3).hostPort = s.hostPort := 
  kept_bump (π := fun t => t.hostPort = s.hostPort) (fun _ _ _ h => h) s a1 a2 a3 rfl
@[simp] theorem bump_lanes (s : State) (a1 a2 a3 : Nat) : (s.bump a1 a2 a3).lanes = s.lanes := 
  kept_bump (π := fun t => t.lanes = s.lanes) (fun _ _ _ h => h) s a1 a2 a3 rfl
@[simp] theorem bump_quartz (s : State) (a1 a2 a3 : Nat) : (s.bump a1 a2 a3).quartz = s.quartz := 
  kept_bump (π := fun t => t.quartz = s.quartz) (fun _ _ _ h => h) s a1 a2 a3 rfl
@[simp] theorem bump_tile (s : State) (a1 a2 a3 : Nat) : (s.bump a1 a2 a3).tile = s.tile := 
  kept_bump (π := fun t => t.tile = s.tile) (fun _ _ _ h => h) s a1 a2 a3 rfl
@[simp] theorem bump_ports (s : State) (a1 a2 a3 : Nat) : (s.bump a1 a2 a3).ports = s.ports := 
  kept_bump (π := fun t => t.ports = s.ports) (fun _ _ _ h => h) s a1 a2 a3 rfl
@[simp] theorem bump_cascade (s : State) (a1 a2 a3 : Nat) : (s.bump a1 a2 a3).cascade = s.cascade := 
  kept_bump (π := fun t => t.cascade = s.cascade) (fun _ _ _ h => h) s a1 a2 a3 rfl
@[simp] theorem bump_ingress (s : State) (a1 a2 a3 : Nat) : (s.bump a1 a2 a3).ingress = s.ingress := 
  kept_bump (π := fun t => t.ingress = s.ingress) (fun _ _ _ h => h) s a1 a2 a3 rfl
@[simp] theorem bump_video (s : State) (a1 a2 a3 : Nat) : (s.bump a1 a2 a3).video = s.video := 
  kept_bump (π := fun t => t.video = s.video) (fun _ _ _ h => h) s a1 a2 a3 rfl
@[simp] theorem bump_lamps (s : State) (a1 a2 a3 : Nat) : (s.bump a1 a2 a3).lamps = s.lamps := 
  kept_bump (π := fun t => t.lamps = s.lamps) (fun _ _ _ h => h) s a1 a2 a3 rfl
@[simp] theorem bump_sent (s : State) (a1 a2 a3 : Nat) : (s.bump a1 a2 a3).sent = s.sent := 
  kept_bump (π := fun t => t.sent = s.sent) (fun _ _ _ h => h) s a1 a2 a3 rfl
@[simp] theorem bump_freeCount (s : State) (a1 a2 a3 : Nat) : (s.bump a1 a2 a3).freeCount = s.freeCount := 
  kept_bump (π := fun t => t.freeCount = s.freeCount) (fun _ _ _ h => h) s a1 a2 a3 rfl
@[simp] theorem bump_pending (s : State) (a1 a2 a3 : Nat) : (s.bump a1 a2 a3).pending = s.pending := 
  kept_bump (π := fun t => t.pending = s.pending) (fun _ _ _ h => h) s a1 a2 a3 rfl

@[simp] theorem emit_now (s : State) (a1 : Out) : (s.emit a1).now = s.now := rfl
@[simp] theorem emit_role (s : State) (a1 : Out) : (s.emit a1).role = s.role := rfl
@[simp] theorem emit_life (s : State) (a1 : Out) : (s.emit a1).life = s.life := rfl
@[simp] theorem emit_straps (s : State) (a1 : Out) : (s.emit a1).straps = s.straps := rfl
@[simp] theorem emit_railsGood (s : State) (a1 : Out) : (s.emit a1).railsGood = s.railsGood := rfl
@[simp] theorem emit_od (s : State) (a1 : Out) : (s.emit a1).od = s.od := rfl
@[simp] theorem emit_control (s : State) (a1 : Out) : (s.emit a1).control = s.control := rfl
@[simp] theorem emit_clocks (s : State) (a1 : Out) : (s.emit a1).clocks = s.clocks := rfl
@[simp] theorem emit_thermal (s : State) (a1 : Out) : (s.emit a1).thermal = s.thermal := rfl
@[simp] theorem emit_otp (s : State) (a1 : Out) : (s.emit a1).otp = s.otp := rfl
@[simp] theorem emit_nvm (s : State) (a1 : Out) : (s.emit a1).nvm = s.nvm := rfl
@[simp] theorem emit_update (s : State) (a1 : Out) : (s.emit a1).update = s.update := rfl
@[simp] theorem emit_beat (s : State) (a1 : Out) : (s.emit a1).beat = s.beat := rfl
@[simp] theorem emit_tap (s : State) (a1 : Out) : (s.emit a1).tap = s.tap := rfl
@[simp] theorem emit_hostPort (s : State) (a1 : Out) : (s.emit a1).hostPort = s.hostPort := rfl
@[simp] theorem emit_lanes (s : State) (a1 : Out) : (s.emit a1).lanes = s.lanes := rfl
@[simp] theorem emit_quartz (s : State) (a1 : Out) : (s.emit a1).quartz = s.quartz := rfl
@[simp] theorem emit_tile (s : State) (a1 : Out) : (s.emit a1).tile = s.tile := rfl
@[simp] theorem emit_ports (s : State) (a1 : Out) : (s.emit a1).ports = s.ports := rfl
@[simp] theorem emit_cascade (s : State) (a1 : Out) : (s.emit a1).cascade = s.cascade := rfl
@[simp] theorem emit_ingress (s : State) (a1 : Out) : (s.emit a1).ingress = s.ingress := rfl
@[simp] theorem emit_video (s : State) (a1 : Out) : (s.emit a1).video = s.video := rfl
@[simp] theorem emit_lamps (s : State) (a1 : Out) : (s.emit a1).lamps = s.lamps := rfl
@[simp] theorem emit_freeCount (s : State) (a1 : Out) : (s.emit a1).freeCount = s.freeCount := rfl
@[simp] theorem emit_pending (s : State) (a1 : Out) : (s.emit a1).pending = s.pending := rfl

@[simp] theorem raise_now (s : State) (a1 a2 : Nat) : (s.raise a1 a2).now = s.now := 
  kept_raise (π := fun t => t.now = s.now) (fun _ _ _ h => h) (fun _ _ h => h) (fun _ _ _ h => h) (fun _ _ h => h) s a1 a2 rfl
@[simp] theorem raise_role (s : State) (a1 a2 : Nat) : (s.raise a1 a2).role = s.role := 
  kept_raise (π := fun t => t.role = s.role) (fun _ _ _ h => h) (fun _ _ h => h) (fun _ _ _ h => h) (fun _ _ h => h) s a1 a2 rfl
@[simp] theorem raise_life (s : State) (a1 a2 : Nat) : (s.raise a1 a2).life = s.life := 
  kept_raise (π := fun t => t.life = s.life) (fun _ _ _ h => h) (fun _ _ h => h) (fun _ _ _ h => h) (fun _ _ h => h) s a1 a2 rfl
@[simp] theorem raise_straps (s : State) (a1 a2 : Nat) : (s.raise a1 a2).straps = s.straps := 
  kept_raise (π := fun t => t.straps = s.straps) (fun _ _ _ h => h) (fun _ _ h => h) (fun _ _ _ h => h) (fun _ _ h => h) s a1 a2 rfl
@[simp] theorem raise_railsGood (s : State) (a1 a2 : Nat) : (s.raise a1 a2).railsGood = s.railsGood := 
  kept_raise (π := fun t => t.railsGood = s.railsGood) (fun _ _ _ h => h) (fun _ _ h => h) (fun _ _ _ h => h) (fun _ _ h => h) s a1 a2 rfl
@[simp] theorem raise_clocks (s : State) (a1 a2 : Nat) : (s.raise a1 a2).clocks = s.clocks := 
  kept_raise (π := fun t => t.clocks = s.clocks) (fun _ _ _ h => h) (fun _ _ h => h) (fun _ _ _ h => h) (fun _ _ h => h) s a1 a2 rfl
@[simp] theorem raise_thermal (s : State) (a1 a2 : Nat) : (s.raise a1 a2).thermal = s.thermal := 
  kept_raise (π := fun t => t.thermal = s.thermal) (fun _ _ _ h => h) (fun _ _ h => h) (fun _ _ _ h => h) (fun _ _ h => h) s a1 a2 rfl
@[simp] theorem raise_otp (s : State) (a1 a2 : Nat) : (s.raise a1 a2).otp = s.otp := 
  kept_raise (π := fun t => t.otp = s.otp) (fun _ _ _ h => h) (fun _ _ h => h) (fun _ _ _ h => h) (fun _ _ h => h) s a1 a2 rfl
@[simp] theorem raise_update (s : State) (a1 a2 : Nat) : (s.raise a1 a2).update = s.update := 
  kept_raise (π := fun t => t.update = s.update) (fun _ _ _ h => h) (fun _ _ h => h) (fun _ _ _ h => h) (fun _ _ h => h) s a1 a2 rfl
@[simp] theorem raise_beat (s : State) (a1 a2 : Nat) : (s.raise a1 a2).beat = s.beat := 
  kept_raise (π := fun t => t.beat = s.beat) (fun _ _ _ h => h) (fun _ _ h => h) (fun _ _ _ h => h) (fun _ _ h => h) s a1 a2 rfl
@[simp] theorem raise_tap (s : State) (a1 a2 : Nat) : (s.raise a1 a2).tap = s.tap := 
  kept_raise (π := fun t => t.tap = s.tap) (fun _ _ _ h => h) (fun _ _ h => h) (fun _ _ _ h => h) (fun _ _ h => h) s a1 a2 rfl
@[simp] theorem raise_hostPort (s : State) (a1 a2 : Nat) : (s.raise a1 a2).hostPort = s.hostPort := 
  kept_raise (π := fun t => t.hostPort = s.hostPort) (fun _ _ _ h => h) (fun _ _ h => h) (fun _ _ _ h => h) (fun _ _ h => h) s a1 a2 rfl
@[simp] theorem raise_lanes (s : State) (a1 a2 : Nat) : (s.raise a1 a2).lanes = s.lanes := 
  kept_raise (π := fun t => t.lanes = s.lanes) (fun _ _ _ h => h) (fun _ _ h => h) (fun _ _ _ h => h) (fun _ _ h => h) s a1 a2 rfl
@[simp] theorem raise_quartz (s : State) (a1 a2 : Nat) : (s.raise a1 a2).quartz = s.quartz := 
  kept_raise (π := fun t => t.quartz = s.quartz) (fun _ _ _ h => h) (fun _ _ h => h) (fun _ _ _ h => h) (fun _ _ h => h) s a1 a2 rfl
@[simp] theorem raise_tile (s : State) (a1 a2 : Nat) : (s.raise a1 a2).tile = s.tile := 
  kept_raise (π := fun t => t.tile = s.tile) (fun _ _ _ h => h) (fun _ _ h => h) (fun _ _ _ h => h) (fun _ _ h => h) s a1 a2 rfl
@[simp] theorem raise_ports (s : State) (a1 a2 : Nat) : (s.raise a1 a2).ports = s.ports := 
  kept_raise (π := fun t => t.ports = s.ports) (fun _ _ _ h => h) (fun _ _ h => h) (fun _ _ _ h => h) (fun _ _ h => h) s a1 a2 rfl
@[simp] theorem raise_cascade (s : State) (a1 a2 : Nat) : (s.raise a1 a2).cascade = s.cascade := 
  kept_raise (π := fun t => t.cascade = s.cascade) (fun _ _ _ h => h) (fun _ _ h => h) (fun _ _ _ h => h) (fun _ _ h => h) s a1 a2 rfl
@[simp] theorem raise_ingress (s : State) (a1 a2 : Nat) : (s.raise a1 a2).ingress = s.ingress := 
  kept_raise (π := fun t => t.ingress = s.ingress) (fun _ _ _ h => h) (fun _ _ h => h) (fun _ _ _ h => h) (fun _ _ h => h) s a1 a2 rfl
@[simp] theorem raise_video (s : State) (a1 a2 : Nat) : (s.raise a1 a2).video = s.video := 
  kept_raise (π := fun t => t.video = s.video) (fun _ _ _ h => h) (fun _ _ h => h) (fun _ _ _ h => h) (fun _ _ h => h) s a1 a2 rfl
@[simp] theorem raise_lamps (s : State) (a1 a2 : Nat) : (s.raise a1 a2).lamps = s.lamps := 
  kept_raise (π := fun t => t.lamps = s.lamps) (fun _ _ _ h => h) (fun _ _ h => h) (fun _ _ _ h => h) (fun _ _ h => h) s a1 a2 rfl
@[simp] theorem raise_freeCount (s : State) (a1 a2 : Nat) : (s.raise a1 a2).freeCount = s.freeCount := 
  kept_raise (π := fun t => t.freeCount = s.freeCount) (fun _ _ _ h => h) (fun _ _ h => h) (fun _ _ _ h => h) (fun _ _ h => h) s a1 a2 rfl
@[simp] theorem raise_pending (s : State) (a1 a2 : Nat) : (s.raise a1 a2).pending = s.pending := 
  kept_raise (π := fun t => t.pending = s.pending) (fun _ _ _ h => h) (fun _ _ h => h) (fun _ _ _ h => h) (fun _ _ h => h) s a1 a2 rfl

@[simp] theorem until_role (s : State) (a1 : Nat) : (s.until_ a1).role = s.role := 
  kept_until_ (π := fun t => t.role = s.role) (fun _ _ h => h) (fun _ _ h => h) s a1 rfl
@[simp] theorem until_life (s : State) (a1 : Nat) : (s.until_ a1).life = s.life := 
  kept_until_ (π := fun t => t.life = s.life) (fun _ _ h => h) (fun _ _ h => h) s a1 rfl
@[simp] theorem until_straps (s : State) (a1 : Nat) : (s.until_ a1).straps = s.straps := 
  kept_until_ (π := fun t => t.straps = s.straps) (fun _ _ h => h) (fun _ _ h => h) s a1 rfl
@[simp] theorem until_railsGood (s : State) (a1 : Nat) : (s.until_ a1).railsGood = s.railsGood := 
  kept_until_ (π := fun t => t.railsGood = s.railsGood) (fun _ _ h => h) (fun _ _ h => h) s a1 rfl
@[simp] theorem until_od (s : State) (a1 : Nat) : (s.until_ a1).od = s.od := 
  kept_until_ (π := fun t => t.od = s.od) (fun _ _ h => h) (fun _ _ h => h) s a1 rfl
@[simp] theorem until_control (s : State) (a1 : Nat) : (s.until_ a1).control = s.control := 
  kept_until_ (π := fun t => t.control = s.control) (fun _ _ h => h) (fun _ _ h => h) s a1 rfl
@[simp] theorem until_clocks (s : State) (a1 : Nat) : (s.until_ a1).clocks = s.clocks := 
  kept_until_ (π := fun t => t.clocks = s.clocks) (fun _ _ h => h) (fun _ _ h => h) s a1 rfl
@[simp] theorem until_thermal (s : State) (a1 : Nat) : (s.until_ a1).thermal = s.thermal := 
  kept_until_ (π := fun t => t.thermal = s.thermal) (fun _ _ h => h) (fun _ _ h => h) s a1 rfl
@[simp] theorem until_otp (s : State) (a1 : Nat) : (s.until_ a1).otp = s.otp := 
  kept_until_ (π := fun t => t.otp = s.otp) (fun _ _ h => h) (fun _ _ h => h) s a1 rfl
@[simp] theorem until_nvm (s : State) (a1 : Nat) : (s.until_ a1).nvm = s.nvm := 
  kept_until_ (π := fun t => t.nvm = s.nvm) (fun _ _ h => h) (fun _ _ h => h) s a1 rfl
@[simp] theorem until_update (s : State) (a1 : Nat) : (s.until_ a1).update = s.update := 
  kept_until_ (π := fun t => t.update = s.update) (fun _ _ h => h) (fun _ _ h => h) s a1 rfl
@[simp] theorem until_beat (s : State) (a1 : Nat) : (s.until_ a1).beat = s.beat := 
  kept_until_ (π := fun t => t.beat = s.beat) (fun _ _ h => h) (fun _ _ h => h) s a1 rfl
@[simp] theorem until_tap (s : State) (a1 : Nat) : (s.until_ a1).tap = s.tap := 
  kept_until_ (π := fun t => t.tap = s.tap) (fun _ _ h => h) (fun _ _ h => h) s a1 rfl
@[simp] theorem until_hostPort (s : State) (a1 : Nat) : (s.until_ a1).hostPort = s.hostPort := 
  kept_until_ (π := fun t => t.hostPort = s.hostPort) (fun _ _ h => h) (fun _ _ h => h) s a1 rfl
@[simp] theorem until_lanes (s : State) (a1 : Nat) : (s.until_ a1).lanes = s.lanes := 
  kept_until_ (π := fun t => t.lanes = s.lanes) (fun _ _ h => h) (fun _ _ h => h) s a1 rfl
@[simp] theorem until_tile (s : State) (a1 : Nat) : (s.until_ a1).tile = s.tile := 
  kept_until_ (π := fun t => t.tile = s.tile) (fun _ _ h => h) (fun _ _ h => h) s a1 rfl
@[simp] theorem until_ports (s : State) (a1 : Nat) : (s.until_ a1).ports = s.ports := 
  kept_until_ (π := fun t => t.ports = s.ports) (fun _ _ h => h) (fun _ _ h => h) s a1 rfl
@[simp] theorem until_cascade (s : State) (a1 : Nat) : (s.until_ a1).cascade = s.cascade := 
  kept_until_ (π := fun t => t.cascade = s.cascade) (fun _ _ h => h) (fun _ _ h => h) s a1 rfl
@[simp] theorem until_ingress (s : State) (a1 : Nat) : (s.until_ a1).ingress = s.ingress := 
  kept_until_ (π := fun t => t.ingress = s.ingress) (fun _ _ h => h) (fun _ _ h => h) s a1 rfl
@[simp] theorem until_video (s : State) (a1 : Nat) : (s.until_ a1).video = s.video := 
  kept_until_ (π := fun t => t.video = s.video) (fun _ _ h => h) (fun _ _ h => h) s a1 rfl
@[simp] theorem until_lamps (s : State) (a1 : Nat) : (s.until_ a1).lamps = s.lamps := 
  kept_until_ (π := fun t => t.lamps = s.lamps) (fun _ _ h => h) (fun _ _ h => h) s a1 rfl
@[simp] theorem until_sent (s : State) (a1 : Nat) : (s.until_ a1).sent = s.sent := 
  kept_until_ (π := fun t => t.sent = s.sent) (fun _ _ h => h) (fun _ _ h => h) s a1 rfl
@[simp] theorem until_freeCount (s : State) (a1 : Nat) : (s.until_ a1).freeCount = s.freeCount := 
  kept_until_ (π := fun t => t.freeCount = s.freeCount) (fun _ _ h => h) (fun _ _ h => h) s a1 rfl
@[simp] theorem until_pending (s : State) (a1 : Nat) : (s.until_ a1).pending = s.pending := 
  kept_until_ (π := fun t => t.pending = s.pending) (fun _ _ h => h) (fun _ _ h => h) s a1 rfl

@[simp] theorem untilWall_role (s : State) (a1 : Nat) : (s.untilWall a1).role = s.role := 
  kept_untilWall (π := fun t => t.role = s.role) (fun _ _ h => h) (fun _ _ h => h) s a1 rfl
@[simp] theorem untilWall_life (s : State) (a1 : Nat) : (s.untilWall a1).life = s.life := 
  kept_untilWall (π := fun t => t.life = s.life) (fun _ _ h => h) (fun _ _ h => h) s a1 rfl
@[simp] theorem untilWall_straps (s : State) (a1 : Nat) : (s.untilWall a1).straps = s.straps := 
  kept_untilWall (π := fun t => t.straps = s.straps) (fun _ _ h => h) (fun _ _ h => h) s a1 rfl
@[simp] theorem untilWall_railsGood (s : State) (a1 : Nat) : (s.untilWall a1).railsGood = s.railsGood := 
  kept_untilWall (π := fun t => t.railsGood = s.railsGood) (fun _ _ h => h) (fun _ _ h => h) s a1 rfl
@[simp] theorem untilWall_od (s : State) (a1 : Nat) : (s.untilWall a1).od = s.od := 
  kept_untilWall (π := fun t => t.od = s.od) (fun _ _ h => h) (fun _ _ h => h) s a1 rfl
@[simp] theorem untilWall_control (s : State) (a1 : Nat) : (s.untilWall a1).control = s.control := 
  kept_untilWall (π := fun t => t.control = s.control) (fun _ _ h => h) (fun _ _ h => h) s a1 rfl
@[simp] theorem untilWall_clocks (s : State) (a1 : Nat) : (s.untilWall a1).clocks = s.clocks := 
  kept_untilWall (π := fun t => t.clocks = s.clocks) (fun _ _ h => h) (fun _ _ h => h) s a1 rfl
@[simp] theorem untilWall_thermal (s : State) (a1 : Nat) : (s.untilWall a1).thermal = s.thermal := 
  kept_untilWall (π := fun t => t.thermal = s.thermal) (fun _ _ h => h) (fun _ _ h => h) s a1 rfl
@[simp] theorem untilWall_otp (s : State) (a1 : Nat) : (s.untilWall a1).otp = s.otp := 
  kept_untilWall (π := fun t => t.otp = s.otp) (fun _ _ h => h) (fun _ _ h => h) s a1 rfl
@[simp] theorem untilWall_nvm (s : State) (a1 : Nat) : (s.untilWall a1).nvm = s.nvm := 
  kept_untilWall (π := fun t => t.nvm = s.nvm) (fun _ _ h => h) (fun _ _ h => h) s a1 rfl
@[simp] theorem untilWall_update (s : State) (a1 : Nat) : (s.untilWall a1).update = s.update := 
  kept_untilWall (π := fun t => t.update = s.update) (fun _ _ h => h) (fun _ _ h => h) s a1 rfl
@[simp] theorem untilWall_beat (s : State) (a1 : Nat) : (s.untilWall a1).beat = s.beat := 
  kept_untilWall (π := fun t => t.beat = s.beat) (fun _ _ h => h) (fun _ _ h => h) s a1 rfl
@[simp] theorem untilWall_tap (s : State) (a1 : Nat) : (s.untilWall a1).tap = s.tap := 
  kept_untilWall (π := fun t => t.tap = s.tap) (fun _ _ h => h) (fun _ _ h => h) s a1 rfl
@[simp] theorem untilWall_hostPort (s : State) (a1 : Nat) : (s.untilWall a1).hostPort = s.hostPort := 
  kept_untilWall (π := fun t => t.hostPort = s.hostPort) (fun _ _ h => h) (fun _ _ h => h) s a1 rfl
@[simp] theorem untilWall_lanes (s : State) (a1 : Nat) : (s.untilWall a1).lanes = s.lanes := 
  kept_untilWall (π := fun t => t.lanes = s.lanes) (fun _ _ h => h) (fun _ _ h => h) s a1 rfl
@[simp] theorem untilWall_tile (s : State) (a1 : Nat) : (s.untilWall a1).tile = s.tile := 
  kept_untilWall (π := fun t => t.tile = s.tile) (fun _ _ h => h) (fun _ _ h => h) s a1 rfl
@[simp] theorem untilWall_ports (s : State) (a1 : Nat) : (s.untilWall a1).ports = s.ports := 
  kept_untilWall (π := fun t => t.ports = s.ports) (fun _ _ h => h) (fun _ _ h => h) s a1 rfl
@[simp] theorem untilWall_cascade (s : State) (a1 : Nat) : (s.untilWall a1).cascade = s.cascade := 
  kept_untilWall (π := fun t => t.cascade = s.cascade) (fun _ _ h => h) (fun _ _ h => h) s a1 rfl
@[simp] theorem untilWall_ingress (s : State) (a1 : Nat) : (s.untilWall a1).ingress = s.ingress := 
  kept_untilWall (π := fun t => t.ingress = s.ingress) (fun _ _ h => h) (fun _ _ h => h) s a1 rfl
@[simp] theorem untilWall_video (s : State) (a1 : Nat) : (s.untilWall a1).video = s.video := 
  kept_untilWall (π := fun t => t.video = s.video) (fun _ _ h => h) (fun _ _ h => h) s a1 rfl
@[simp] theorem untilWall_lamps (s : State) (a1 : Nat) : (s.untilWall a1).lamps = s.lamps := 
  kept_untilWall (π := fun t => t.lamps = s.lamps) (fun _ _ h => h) (fun _ _ h => h) s a1 rfl
@[simp] theorem untilWall_sent (s : State) (a1 : Nat) : (s.untilWall a1).sent = s.sent := 
  kept_untilWall (π := fun t => t.sent = s.sent) (fun _ _ h => h) (fun _ _ h => h) s a1 rfl
@[simp] theorem untilWall_freeCount (s : State) (a1 : Nat) : (s.untilWall a1).freeCount = s.freeCount := 
  kept_untilWall (π := fun t => t.freeCount = s.freeCount) (fun _ _ h => h) (fun _ _ h => h) s a1 rfl
@[simp] theorem untilWall_pending (s : State) (a1 : Nat) : (s.untilWall a1).pending = s.pending := 
  kept_untilWall (π := fun t => t.pending = s.pending) (fun _ _ h => h) (fun _ _ h => h) s a1 rfl

@[simp] theorem pass_role (s : State) (a1 : Nat) : (s.pass a1).role = s.role := 
  kept_pass (π := fun t => t.role = s.role) (fun _ _ h => h) (fun _ _ h => h) s a1 rfl
@[simp] theorem pass_life (s : State) (a1 : Nat) : (s.pass a1).life = s.life := 
  kept_pass (π := fun t => t.life = s.life) (fun _ _ h => h) (fun _ _ h => h) s a1 rfl
@[simp] theorem pass_straps (s : State) (a1 : Nat) : (s.pass a1).straps = s.straps := 
  kept_pass (π := fun t => t.straps = s.straps) (fun _ _ h => h) (fun _ _ h => h) s a1 rfl
@[simp] theorem pass_railsGood (s : State) (a1 : Nat) : (s.pass a1).railsGood = s.railsGood := 
  kept_pass (π := fun t => t.railsGood = s.railsGood) (fun _ _ h => h) (fun _ _ h => h) s a1 rfl
@[simp] theorem pass_od (s : State) (a1 : Nat) : (s.pass a1).od = s.od := 
  kept_pass (π := fun t => t.od = s.od) (fun _ _ h => h) (fun _ _ h => h) s a1 rfl
@[simp] theorem pass_control (s : State) (a1 : Nat) : (s.pass a1).control = s.control := 
  kept_pass (π := fun t => t.control = s.control) (fun _ _ h => h) (fun _ _ h => h) s a1 rfl
@[simp] theorem pass_clocks (s : State) (a1 : Nat) : (s.pass a1).clocks = s.clocks := 
  kept_pass (π := fun t => t.clocks = s.clocks) (fun _ _ h => h) (fun _ _ h => h) s a1 rfl
@[simp] theorem pass_thermal (s : State) (a1 : Nat) : (s.pass a1).thermal = s.thermal := 
  kept_pass (π := fun t => t.thermal = s.thermal) (fun _ _ h => h) (fun _ _ h => h) s a1 rfl
@[simp] theorem pass_otp (s : State) (a1 : Nat) : (s.pass a1).otp = s.otp := 
  kept_pass (π := fun t => t.otp = s.otp) (fun _ _ h => h) (fun _ _ h => h) s a1 rfl
@[simp] theorem pass_nvm (s : State) (a1 : Nat) : (s.pass a1).nvm = s.nvm := 
  kept_pass (π := fun t => t.nvm = s.nvm) (fun _ _ h => h) (fun _ _ h => h) s a1 rfl
@[simp] theorem pass_update (s : State) (a1 : Nat) : (s.pass a1).update = s.update := 
  kept_pass (π := fun t => t.update = s.update) (fun _ _ h => h) (fun _ _ h => h) s a1 rfl
@[simp] theorem pass_beat (s : State) (a1 : Nat) : (s.pass a1).beat = s.beat := 
  kept_pass (π := fun t => t.beat = s.beat) (fun _ _ h => h) (fun _ _ h => h) s a1 rfl
@[simp] theorem pass_tap (s : State) (a1 : Nat) : (s.pass a1).tap = s.tap := 
  kept_pass (π := fun t => t.tap = s.tap) (fun _ _ h => h) (fun _ _ h => h) s a1 rfl
@[simp] theorem pass_hostPort (s : State) (a1 : Nat) : (s.pass a1).hostPort = s.hostPort := 
  kept_pass (π := fun t => t.hostPort = s.hostPort) (fun _ _ h => h) (fun _ _ h => h) s a1 rfl
@[simp] theorem pass_lanes (s : State) (a1 : Nat) : (s.pass a1).lanes = s.lanes := 
  kept_pass (π := fun t => t.lanes = s.lanes) (fun _ _ h => h) (fun _ _ h => h) s a1 rfl
@[simp] theorem pass_tile (s : State) (a1 : Nat) : (s.pass a1).tile = s.tile := 
  kept_pass (π := fun t => t.tile = s.tile) (fun _ _ h => h) (fun _ _ h => h) s a1 rfl
@[simp] theorem pass_ports (s : State) (a1 : Nat) : (s.pass a1).ports = s.ports := 
  kept_pass (π := fun t => t.ports = s.ports) (fun _ _ h => h) (fun _ _ h => h) s a1 rfl
@[simp] theorem pass_cascade (s : State) (a1 : Nat) : (s.pass a1).cascade = s.cascade := 
  kept_pass (π := fun t => t.cascade = s.cascade) (fun _ _ h => h) (fun _ _ h => h) s a1 rfl
@[simp] theorem pass_ingress (s : State) (a1 : Nat) : (s.pass a1).ingress = s.ingress := 
  kept_pass (π := fun t => t.ingress = s.ingress) (fun _ _ h => h) (fun _ _ h => h) s a1 rfl
@[simp] theorem pass_video (s : State) (a1 : Nat) : (s.pass a1).video = s.video := 
  kept_pass (π := fun t => t.video = s.video) (fun _ _ h => h) (fun _ _ h => h) s a1 rfl
@[simp] theorem pass_lamps (s : State) (a1 : Nat) : (s.pass a1).lamps = s.lamps := 
  kept_pass (π := fun t => t.lamps = s.lamps) (fun _ _ h => h) (fun _ _ h => h) s a1 rfl
@[simp] theorem pass_sent (s : State) (a1 : Nat) : (s.pass a1).sent = s.sent := 
  kept_pass (π := fun t => t.sent = s.sent) (fun _ _ h => h) (fun _ _ h => h) s a1 rfl
@[simp] theorem pass_freeCount (s : State) (a1 : Nat) : (s.pass a1).freeCount = s.freeCount := 
  kept_pass (π := fun t => t.freeCount = s.freeCount) (fun _ _ h => h) (fun _ _ h => h) s a1 rfl
@[simp] theorem pass_pending (s : State) (a1 : Nat) : (s.pass a1).pending = s.pending := 
  kept_pass (π := fun t => t.pending = s.pending) (fun _ _ h => h) (fun _ _ h => h) s a1 rfl

@[simp] theorem touchCtx_now (s : State) (a1 : CtxId) : (s.touchCtx a1).now = s.now := 
  kept_touchCtx (π := fun t => t.now = s.now) (fun _ _ h => h) s a1 rfl
@[simp] theorem touchCtx_role (s : State) (a1 : CtxId) : (s.touchCtx a1).role = s.role := 
  kept_touchCtx (π := fun t => t.role = s.role) (fun _ _ h => h) s a1 rfl
@[simp] theorem touchCtx_life (s : State) (a1 : CtxId) : (s.touchCtx a1).life = s.life := 
  kept_touchCtx (π := fun t => t.life = s.life) (fun _ _ h => h) s a1 rfl
@[simp] theorem touchCtx_straps (s : State) (a1 : CtxId) : (s.touchCtx a1).straps = s.straps := 
  kept_touchCtx (π := fun t => t.straps = s.straps) (fun _ _ h => h) s a1 rfl
@[simp] theorem touchCtx_railsGood (s : State) (a1 : CtxId) : (s.touchCtx a1).railsGood = s.railsGood := 
  kept_touchCtx (π := fun t => t.railsGood = s.railsGood) (fun _ _ h => h) s a1 rfl
@[simp] theorem touchCtx_od (s : State) (a1 : CtxId) : (s.touchCtx a1).od = s.od := 
  kept_touchCtx (π := fun t => t.od = s.od) (fun _ _ h => h) s a1 rfl
@[simp] theorem touchCtx_clocks (s : State) (a1 : CtxId) : (s.touchCtx a1).clocks = s.clocks := 
  kept_touchCtx (π := fun t => t.clocks = s.clocks) (fun _ _ h => h) s a1 rfl
@[simp] theorem touchCtx_thermal (s : State) (a1 : CtxId) : (s.touchCtx a1).thermal = s.thermal := 
  kept_touchCtx (π := fun t => t.thermal = s.thermal) (fun _ _ h => h) s a1 rfl
@[simp] theorem touchCtx_otp (s : State) (a1 : CtxId) : (s.touchCtx a1).otp = s.otp := 
  kept_touchCtx (π := fun t => t.otp = s.otp) (fun _ _ h => h) s a1 rfl
@[simp] theorem touchCtx_nvm (s : State) (a1 : CtxId) : (s.touchCtx a1).nvm = s.nvm := 
  kept_touchCtx (π := fun t => t.nvm = s.nvm) (fun _ _ h => h) s a1 rfl
@[simp] theorem touchCtx_update (s : State) (a1 : CtxId) : (s.touchCtx a1).update = s.update := 
  kept_touchCtx (π := fun t => t.update = s.update) (fun _ _ h => h) s a1 rfl
@[simp] theorem touchCtx_beat (s : State) (a1 : CtxId) : (s.touchCtx a1).beat = s.beat := 
  kept_touchCtx (π := fun t => t.beat = s.beat) (fun _ _ h => h) s a1 rfl
@[simp] theorem touchCtx_tap (s : State) (a1 : CtxId) : (s.touchCtx a1).tap = s.tap := 
  kept_touchCtx (π := fun t => t.tap = s.tap) (fun _ _ h => h) s a1 rfl
@[simp] theorem touchCtx_hostPort (s : State) (a1 : CtxId) : (s.touchCtx a1).hostPort = s.hostPort := 
  kept_touchCtx (π := fun t => t.hostPort = s.hostPort) (fun _ _ h => h) s a1 rfl
@[simp] theorem touchCtx_lanes (s : State) (a1 : CtxId) : (s.touchCtx a1).lanes = s.lanes := 
  kept_touchCtx (π := fun t => t.lanes = s.lanes) (fun _ _ h => h) s a1 rfl
@[simp] theorem touchCtx_quartz (s : State) (a1 : CtxId) : (s.touchCtx a1).quartz = s.quartz := 
  kept_touchCtx (π := fun t => t.quartz = s.quartz) (fun _ _ h => h) s a1 rfl
@[simp] theorem touchCtx_tile (s : State) (a1 : CtxId) : (s.touchCtx a1).tile = s.tile := 
  kept_touchCtx (π := fun t => t.tile = s.tile) (fun _ _ h => h) s a1 rfl
@[simp] theorem touchCtx_ports (s : State) (a1 : CtxId) : (s.touchCtx a1).ports = s.ports := 
  kept_touchCtx (π := fun t => t.ports = s.ports) (fun _ _ h => h) s a1 rfl
@[simp] theorem touchCtx_cascade (s : State) (a1 : CtxId) : (s.touchCtx a1).cascade = s.cascade := 
  kept_touchCtx (π := fun t => t.cascade = s.cascade) (fun _ _ h => h) s a1 rfl
@[simp] theorem touchCtx_ingress (s : State) (a1 : CtxId) : (s.touchCtx a1).ingress = s.ingress := 
  kept_touchCtx (π := fun t => t.ingress = s.ingress) (fun _ _ h => h) s a1 rfl
@[simp] theorem touchCtx_video (s : State) (a1 : CtxId) : (s.touchCtx a1).video = s.video := 
  kept_touchCtx (π := fun t => t.video = s.video) (fun _ _ h => h) s a1 rfl
@[simp] theorem touchCtx_lamps (s : State) (a1 : CtxId) : (s.touchCtx a1).lamps = s.lamps := 
  kept_touchCtx (π := fun t => t.lamps = s.lamps) (fun _ _ h => h) s a1 rfl
@[simp] theorem touchCtx_sent (s : State) (a1 : CtxId) : (s.touchCtx a1).sent = s.sent := 
  kept_touchCtx (π := fun t => t.sent = s.sent) (fun _ _ h => h) s a1 rfl
@[simp] theorem touchCtx_freeCount (s : State) (a1 : CtxId) : (s.touchCtx a1).freeCount = s.freeCount := 
  kept_touchCtx (π := fun t => t.freeCount = s.freeCount) (fun _ _ h => h) s a1 rfl
@[simp] theorem touchCtx_pending (s : State) (a1 : CtxId) : (s.touchCtx a1).pending = s.pending := 
  kept_touchCtx (π := fun t => t.pending = s.pending) (fun _ _ h => h) s a1 rfl

@[simp] theorem sendCell_now (s : State) (p : Fin 2) (c : Cell) : (s.sendCell p c).now = s.now :=
  kept_sendCell (π := fun t => t.now = s.now) (fun _ _ h => h) (fun _ _ h => h) s p c rfl
@[simp] theorem sendCell_role (s : State) (p : Fin 2) (c : Cell) : (s.sendCell p c).role = s.role :=
  kept_sendCell (π := fun t => t.role = s.role) (fun _ _ h => h) (fun _ _ h => h) s p c rfl
@[simp] theorem sendCell_life (s : State) (p : Fin 2) (c : Cell) : (s.sendCell p c).life = s.life :=
  kept_sendCell (π := fun t => t.life = s.life) (fun _ _ h => h) (fun _ _ h => h) s p c rfl
@[simp] theorem sendCell_straps (s : State) (p : Fin 2) (c : Cell) : (s.sendCell p c).straps = s.straps :=
  kept_sendCell (π := fun t => t.straps = s.straps) (fun _ _ h => h) (fun _ _ h => h) s p c rfl
@[simp] theorem sendCell_railsGood (s : State) (p : Fin 2) (c : Cell) : (s.sendCell p c).railsGood = s.railsGood :=
  kept_sendCell (π := fun t => t.railsGood = s.railsGood) (fun _ _ h => h) (fun _ _ h => h) s p c rfl
@[simp] theorem sendCell_od (s : State) (p : Fin 2) (c : Cell) : (s.sendCell p c).od = s.od :=
  kept_sendCell (π := fun t => t.od = s.od) (fun _ _ h => h) (fun _ _ h => h) s p c rfl
@[simp] theorem sendCell_control (s : State) (p : Fin 2) (c : Cell) : (s.sendCell p c).control = s.control :=
  kept_sendCell (π := fun t => t.control = s.control) (fun _ _ h => h) (fun _ _ h => h) s p c rfl
@[simp] theorem sendCell_clocks (s : State) (p : Fin 2) (c : Cell) : (s.sendCell p c).clocks = s.clocks :=
  kept_sendCell (π := fun t => t.clocks = s.clocks) (fun _ _ h => h) (fun _ _ h => h) s p c rfl
@[simp] theorem sendCell_thermal (s : State) (p : Fin 2) (c : Cell) : (s.sendCell p c).thermal = s.thermal :=
  kept_sendCell (π := fun t => t.thermal = s.thermal) (fun _ _ h => h) (fun _ _ h => h) s p c rfl
@[simp] theorem sendCell_otp (s : State) (p : Fin 2) (c : Cell) : (s.sendCell p c).otp = s.otp :=
  kept_sendCell (π := fun t => t.otp = s.otp) (fun _ _ h => h) (fun _ _ h => h) s p c rfl
@[simp] theorem sendCell_nvm (s : State) (p : Fin 2) (c : Cell) : (s.sendCell p c).nvm = s.nvm :=
  kept_sendCell (π := fun t => t.nvm = s.nvm) (fun _ _ h => h) (fun _ _ h => h) s p c rfl
@[simp] theorem sendCell_update (s : State) (p : Fin 2) (c : Cell) : (s.sendCell p c).update = s.update :=
  kept_sendCell (π := fun t => t.update = s.update) (fun _ _ h => h) (fun _ _ h => h) s p c rfl
@[simp] theorem sendCell_beat (s : State) (p : Fin 2) (c : Cell) : (s.sendCell p c).beat = s.beat :=
  kept_sendCell (π := fun t => t.beat = s.beat) (fun _ _ h => h) (fun _ _ h => h) s p c rfl
@[simp] theorem sendCell_tap (s : State) (p : Fin 2) (c : Cell) : (s.sendCell p c).tap = s.tap :=
  kept_sendCell (π := fun t => t.tap = s.tap) (fun _ _ h => h) (fun _ _ h => h) s p c rfl
@[simp] theorem sendCell_hostPort (s : State) (p : Fin 2) (c : Cell) : (s.sendCell p c).hostPort = s.hostPort :=
  kept_sendCell (π := fun t => t.hostPort = s.hostPort) (fun _ _ h => h) (fun _ _ h => h) s p c rfl
@[simp] theorem sendCell_quartz (s : State) (p : Fin 2) (c : Cell) : (s.sendCell p c).quartz = s.quartz :=
  kept_sendCell (π := fun t => t.quartz = s.quartz) (fun _ _ h => h) (fun _ _ h => h) s p c rfl
@[simp] theorem sendCell_tile (s : State) (p : Fin 2) (c : Cell) : (s.sendCell p c).tile = s.tile :=
  kept_sendCell (π := fun t => t.tile = s.tile) (fun _ _ h => h) (fun _ _ h => h) s p c rfl
@[simp] theorem sendCell_ports (s : State) (p : Fin 2) (c : Cell) : (s.sendCell p c).ports = s.ports :=
  kept_sendCell (π := fun t => t.ports = s.ports) (fun _ _ h => h) (fun _ _ h => h) s p c rfl
@[simp] theorem sendCell_cascade (s : State) (p : Fin 2) (c : Cell) : (s.sendCell p c).cascade = s.cascade :=
  kept_sendCell (π := fun t => t.cascade = s.cascade) (fun _ _ h => h) (fun _ _ h => h) s p c rfl
@[simp] theorem sendCell_ingress (s : State) (p : Fin 2) (c : Cell) : (s.sendCell p c).ingress = s.ingress :=
  kept_sendCell (π := fun t => t.ingress = s.ingress) (fun _ _ h => h) (fun _ _ h => h) s p c rfl
@[simp] theorem sendCell_video (s : State) (p : Fin 2) (c : Cell) : (s.sendCell p c).video = s.video :=
  kept_sendCell (π := fun t => t.video = s.video) (fun _ _ h => h) (fun _ _ h => h) s p c rfl
@[simp] theorem sendCell_lamps (s : State) (p : Fin 2) (c : Cell) : (s.sendCell p c).lamps = s.lamps :=
  kept_sendCell (π := fun t => t.lamps = s.lamps) (fun _ _ h => h) (fun _ _ h => h) s p c rfl
@[simp] theorem sendCell_freeCount (s : State) (p : Fin 2) (c : Cell) : (s.sendCell p c).freeCount = s.freeCount :=
  kept_sendCell (π := fun t => t.freeCount = s.freeCount) (fun _ _ h => h) (fun _ _ h => h) s p c rfl
@[simp] theorem sendCell_pending (s : State) (p : Fin 2) (c : Cell) : (s.sendCell p c).pending = s.pending :=
  kept_sendCell (π := fun t => t.pending = s.pending) (fun _ _ h => h) (fun _ _ h => h) s p c rfl

end Sys2Proof.Machine
end

