-- ==== Sys2Proof/Laws/Host.lean ====
section
/-! SUPPORT. What the operations on the host port, its mailboxes and its semaphores do to it. -/

namespace Sys2Proof.Machine

open Host

@[simp] theorem withHost_hostPort (s : State) (f : HostPort → HostPort) : (s.withHost f).hostPort = f s.hostPort := by
  unfold State.withHost
  dsimp only
  split <;> rfl

theorem withBox_hostPort (s : State) (c : Fin 128) (f : MbChannel → MbChannel) :
    (s.withBox c f).hostPort = { s.hostPort with mailbox := vset s.hostPort.mailbox c (f s.hostPort.mailbox[c]) } := by
  simp [State.withBox, vmod]

theorem withSem_hostPort (s : State) (n : Fin 32) (f : Semaphore → Semaphore) :
    (s.withSem n f).hostPort = { s.hostPort with sem := vset s.hostPort.sem n (f s.hostPort.sem[n]) } := by
  simp [State.withSem, vmod]

/-- A violation is counted, and shown to the host where it made it; nothing else of the host port changes. -/
theorem violation_hostPort (s : State) (m : BitVec 7) (n : Nat) : (s.violation m n).hostPort = { s.hostPort with
    violations := sat 0xFFFFFFFF (s.hostPort.violations + 1)
    err := if m = hostMaster then s.hostPort.err ||| 16#5 else s.hostPort.err } := by
  unfold State.violation
  simp

/-- A write of a bound party on a channel in use has its effect. -/
theorem boundWrite_party {s : State} {m : BitVec 7} {c : Fin 128} (act : State → State) (h1 : isMaster m = true)
    (h2 : s.hostPort.bind[c].valid = true) : s.boundWrite m c true act = .next (act s) := by
  simp only [Fin.getElem_fin] at h2
  simp [State.boundWrite, h1, h2]

/-- A write of any other master on a channel in use is a violation. -/
theorem boundWrite_other {s : State} {m : BitVec 7} {c : Fin 128} (act : State → State) (h1 : isMaster m = true)
    (h2 : s.hostPort.bind[c].valid = true) : s.boundWrite m c false act = .next (s.violation m c) := by
  simp only [Fin.getElem_fin] at h2
  simp [State.boundWrite, h1, h2]

end Sys2Proof.Machine
end

