-- ==== Sys2Proof/Laws/Objects.lean ====
section
/-! SUPPORT. What a write of the object dictionary does, once for a write that passes its checks and once for one that is refused. -/

namespace Sys2Proof.Machine

open Host

/-- A write that passes checks 1 to 8 has the effect of its object and is answered with its code. -/
theorem objectWrite_passes {s : State} {c : CtxId} {idx sub : Nat} {b : List Byte} {v : Val} (h : s.passes c idx sub b = some v) :
    s.objectWrite c idx sub b =
      ((s.touchCtx c).storeObject c ((s.touchCtx c).mirror idx) sub v).2.answered c idx sub
        ((s.touchCtx c).storeObject c ((s.touchCtx c).mirror idx) sub v).1 := by
  unfold State.passes at h
  split at h
  · cases h
  · rename_i h0
    simp only [Bool.or_eq_true, Bool.not_eq_true', not_or, Bool.not_eq_true, Bool.not_eq_false] at h0
    simp only [State.objectWrite, h0.1, h0.2, State.writeLocal, State.answered]
    dsimp only at h
    split at h
    · cases h
    · rename_i r hr
      try simp only [hr]
      split at h
      · cases h
      · rename_i h1
        split at h
        · cases h
        · rename_i h2
          cases h
          simp [h1, h2]

/-- The same for a number of n bytes. -/
theorem numWrite_passes {s : State} {c : CtxId} {idx sub n : Nat} {w : BitVec n} {v : Val}
    (h : s.passes c idx sub (leBytes (n / 8) w.toNat) = some v) :
    s.numWrite c idx sub w =
      ((s.touchCtx c).storeObject c ((s.touchCtx c).mirror idx) sub v).2.answered c idx sub
        ((s.touchCtx c).storeObject c ((s.touchCtx c).mirror idx) sub v).1 :=
  objectWrite_passes h

/-- Only 0x2301 is mirrored. -/
theorem mirror_other (s : State) {idx : Nat} (h : idx ≠ 0x2301) : s.mirror idx = idx := by
  unfold State.mirror
  exact if_neg fun k => h k.1

/-- What stands behind a write: its object's effect, where that answers code 0 and leaves state t. -/
theorem numWrite_taken {s t : State} {c : CtxId} {idx sub n : Nat} {w : BitVec n} {v : Val} (hm : idx ≠ 0x2301)
    (h : s.passes c idx sub (leBytes (n / 8) w.toNat) = some v) (hs : (s.touchCtx c).storeObject c idx sub v = (0, t)) :
    s.numWrite c idx sub w = t.answered c idx sub 0 := by
  rw [numWrite_passes h, mirror_other _ hm, hs]

theorem objectWrite_taken {s t : State} {c : CtxId} {idx sub : Nat} {b : List Byte} {v : Val} (hm : idx ≠ 0x2301)
    (h : s.passes c idx sub b = some v) (hs : (s.touchCtx c).storeObject c idx sub v = (0, t)) :
    s.objectWrite c idx sub b = t.answered c idx sub 0 := by
  rw [objectWrite_passes h, mirror_other _ hm, hs]

/-- A write of a local object that one of checks 1 to 6 refuses changes nothing: the abort code is put out. -/
theorem objectWrite_refused {s : State} {c : CtxId} {idx sub e : Nat} {b : List Byte} (hu : s.up = true) (hw : tileIndex idx = none)
    (h : (s.touchCtx c).writeChecks c ((s.touchCtx c).mirror idx) sub = .error e) :
    s.objectWrite c idx sub b = (s.touchCtx c).emit (.written c idx sub e) := by
  simp [State.objectWrite, hu, hw, State.writeLocal, h]

/-! ### Which objects share an effect -/

theorem storeObject_port (s : State) (c : CtxId) (p : Fin 3) (sub : Nat) (v : Val) :
    s.storeObject c (0x2100 + p) sub v = s.storePort p sub v := by
  have := p.2
  unfold State.storeObject
  rw [if_neg (by omega), dif_pos (by omega)]
  have e : (⟨0x2100 + p.1 - 0x2100, by omega⟩ : Fin 3) = p := Fin.ext (by simp)
  simp only [e]

theorem storeObject_lane (s : State) (c : CtxId) (l : Fin 24) (sub : Nat) (v : Val) :
    s.storeObject c (0x2110 + l) sub v = s.storeLane l sub v := by
  have := l.2
  unfold State.storeObject
  rw [if_neg (by omega), dif_neg (by omega), dif_pos (by omega)]
  have e : (⟨0x2110 + l.1 - 0x2110, by omega⟩ : Fin 24) = l := Fin.ext (by simp)
  simp only [e]

theorem storeObject_chain (s : State) (c : CtxId) {idx : Nat} (sub : Nat) (v : Val) (h : 0x2200 ≤ idx) (h2 : idx < 0x2400) :
    s.storeObject c idx sub v = s.storeChain c idx sub v := by
  unfold State.storeObject
  rw [if_neg (by omega), dif_neg (by omega), dif_neg (by omega), if_pos (by omega)]

theorem storeObject_ingress (s : State) (c : CtxId) {idx : Nat} (sub : Nat) (v : Val) (h : 0x2400 ≤ idx) (h2 : idx < 0x2600) :
    s.storeObject c idx sub v = s.storeIngress idx sub v := by
  unfold State.storeObject
  rw [if_neg (by omega), dif_neg (by omega), dif_neg (by omega), if_neg (by omega), if_pos (by omega)]

theorem storeObject_video (s : State) (c : CtxId) {idx : Nat} (sub : Nat) (v : Val) (h : 0x2700 ≤ idx) (h2 : idx < 0x2A00) :
    s.storeObject c idx sub v = s.storeVideo c idx sub v := by
  unfold State.storeObject
  rw [if_neg (by omega), dif_neg (by omega), dif_neg (by omega), if_neg (by omega), if_neg (by omega), if_neg (by omega),
    if_pos (by omega)]

theorem storeObject_lamps (s : State) (c : CtxId) {idx : Nat} (sub : Nat) (v : Val) (h : 0x2A00 ≤ idx) (h2 : idx < 0x2D00) :
    s.storeObject c idx sub v = s.storeLamps idx sub v := by
  unfold State.storeObject
  rw [if_neg (by omega), dif_neg (by omega), dif_neg (by omega), if_neg (by omega), if_neg (by omega), if_neg (by omega),
    if_neg (by omega), if_pos (by omega)]

theorem storeLamps_enum (s : State) (p : Fin 64) (v : Val) :
    s.storeLamps (0x2A00 + p) 0x09 v = if v.toInt = 0 then s.ok else s.startEnum p := by
  have := p.2
  unfold State.storeLamps
  rw [dif_pos (by omega)]
  have e : (⟨0x2A00 + p.1 - 0x2A00, by omega⟩ : Fin 64) = p := Fin.ext (by simp)
  simp only [e]

theorem storeLamps_clear (s : State) (p : Fin 64) (v : Val) :
    s.storeLamps (0x2A00 + p) 0x18 v = s.onOne v.toInt fun s => s.clearPort p := by
  have := p.2
  unfold State.storeLamps
  rw [dif_pos (by omega)]
  have e : (⟨0x2A00 + p.1 - 0x2A00, by omega⟩ : Fin 64) = p := Fin.ext (by simp)
  simp only [e]

theorem storeLamps_engine (s : State) (p : Fin 64) (v : Val) :
    s.storeLamps (0x2C10 + p) 0x0F v = s.onOne v.toInt fun s => s.clearEngine p := by
  have := p.2
  unfold State.storeLamps
  rw [dif_neg (by omega), dif_pos (by omega)]
  have e : (⟨0x2C10 + p.1 - 0x2C10, by omega⟩ : Fin 64) = p := Fin.ext (by simp)
  simp only [e]

theorem storeIngress_stream (s : State) (n : Fin 32) (v : Val) : s.storeIngress (0x2400 + n) 0x01 v = s.streamEnable n v.toInt := by
  have := n.2
  unfold State.storeIngress
  rw [dif_pos (by omega)]
  have e : (⟨0x2400 + n.1 - 0x2400, by omega⟩ : Fin 32) = n := Fin.ext (by simp)
  simp only [e, if_true]

theorem storeChain_discover {s : State} (h : s.role = .sender) (c : CtxId) (p : Fin 2) (v : Val) :
    s.storeChain c (0x2200 + p) 0x04 v = s.discoverWrite p v.toInt := by
  have := p.2
  unfold State.storeChain
  rw [dif_pos ⟨by omega, h⟩]
  have e : (⟨0x2200 + p.1 - 0x2200, by omega⟩ : Fin 2) = p := Fin.ext (by simp)
  simp only [e]
  rfl

theorem storeChain_control {s : State} (h : s.role = .sender) (c : CtxId) (p : Fin 2) (v : Val) :
    s.storeChain c (0x2300 + p) 0x15 v = s.reclaimNowWrite p v.toInt ∧
    s.storeChain c (0x2300 + p) 0x16 v = s.maintenanceWrite p v.toInt := by
  have := p.2
  have e : (⟨0x2300 + p.1 - 0x2300, by omega⟩ : Fin 2) = p := Fin.ext (by simp)
  constructor
  all_goals
    unfold State.storeChain
    rw [dif_neg (by omega), if_neg (by omega), if_neg (by omega), if_neg (by omega), if_neg (by omega),
      dif_pos ⟨by omega, h, by simp⟩]
    simp only [e]
    rw [if_neg (by omega)]
    rfl

end Sys2Proof.Machine
end

