-- ==== Sys2Proof/Tests/Slice0.lean ====
section
/-! SUPPORT. The model's own tests: a witness for the hypotheses of every statement, clause by clause; well-formedness refuses an
ill-formed command for each of its checks; and the spec's worked examples, with a few single commands. Expected values are the
spec's, or published check values of the standards it names. -/

set_option Elab.async false

open Host Sys2Proof Sys2Proof.Machine Sys2Proof.Sparse

namespace Sys2Proof.Tests

/-! ### Small states -/

/-- A device that runs as a tile, everything else as after reset. -/
def tileUp : State := { State.reset with life := .running, role := .tile }

/-- A device that runs as a sender, everything else as after reset. -/
def senderUp : State := { State.reset with life := .running, role := .sender }

/-- A sender whose CAN node is operational. -/
def canUp : State := senderUp.withControl fun k => { k with nodeId := 127, nmt := .operational }

/-- A sender in LSS configuration. -/
def lssOn : State := senderUp.withLss fun l => { l with configuring := true }

/-- A sender whose cascade link X is up, in cascade with the sender of priority 3. -/
def cascX : State := { senderUp.withLink 2 fun k => { k with phase := .up } with
  quartz := { senderUp.quartz with neighbour := vmod senderUp.quartz.neighbour 0 fun n => { n with up := true, priority := 3 } } }

/-- A sender that controls the chains of both its ports. -/
def ctlAB : State := { senderUp with ports := Vector.replicate 2 { ChainPort.reset with cstate := .control } }

/-- The frame master. -/
def masterUp : State := { senderUp with quartz := { senderUp.quartz with master := true } }

/-- A sender whose active map uses a stream, which is FREE. -/
def subscribing (n : Nat) : State := (senderUp.withIngress fun g => { g with regions := leBytes 4 (n + 32) }).wrN (0x2400 + n) 3 1

/-- A sender that is both ends of one chain. -/
def singleUp : State := senderUp.wrB 0x2300 1 true

/-- A chain port changed. -/
def onPort (s : State) (p : Fin 2) (f : ChainPort → ChainPort) : State := { s with ports := vmod s.ports p f }

/-- A grandmaster's data set. -/
def grand (clockClass : Nat) : PtpDataset :=
  { priority1 := 128, clockClass := clockClass, accuracy := 0x21, variance := 1, priority2 := 128, identity := 77, steps := 0, source := 77 }

/-- An Announce of that grandmaster, heard once at time 0. -/
def heard77 : PtpForeign := { data := grand 6, heard := 0, log := 1, qualified := true }

/-- Quartz changed. -/
def onQuartz (s : State) (f : Quartz → Quartz) : State := { s with quartz := f s.quartz }

/-- The flash part changed. -/
def onNvm (s : State) (f : Nvm → Nvm) : State := { s with nvm := f s.nvm }

/-- The lamps changed. -/
def onLamps (s : State) (f : Lamps → Lamps) : State := { s with lamps := f s.lamps }

/-- The wall-update coordinator changed, in the given WU_STATE, on a sender that controls the chain at port A. -/
def coord (state : Nat) (f : WallUpdate → WallUpdate) : State :=
  (((ctlAB.wrN 0x3100 0x30 1).wrN 0x3100 0x36 state).withUpdate fun u => { u with wu := f u.wu })

/-- A tile whose engine 0 runs; position 1 of its registers holds a value. -/
def engine0 (f : Engine → Engine) : State := tileUp.withEngine 0 fun e => f { e with run := .running, codeWords := 2048 }

/-- A tile whose engine 0 takes a word next. -/
def engineAt (w : Word) (f : Engine → Engine) : State := engine0 fun e => { f e with imem := Sparse.set (fun _ => 0) [] 0 w }

theorem fetches_of {s : State} {p : Fin 64} {w : Word} (h : s.isTile = true) (hr : s.lamps.engine[p].run = .running)
    (hw : s.lamps.engine[p].wait = .none) (hs : s.lamps.engine[p].stall = none) (hf : s.lamps.engine[p].fetch = w)
    (hd : s.lamps.engine[p].damaged.contains s.lamps.engine[p].pc = false) : s.fetches p w := ⟨⟨h, hr, hw, hs⟩, hf, hd⟩

/-- An engine whose first word is given takes it. -/
theorem engineAt_fetches (w : Word) : (engineAt w id).fetches 0 w := by
  refine ⟨⟨rfl, rfl, rfl, rfl⟩, ?_, rfl⟩
  exact Sparse.get_set_same _ _ _ _

/-- A cascade unit from the sender of priority 3 to every sender. -/
def unit (kind ttl : Nat) (body : List Byte) : CascadeUnit :=
  { kind := kind, src := 3, dst := 31, ttl := ttl, chain := 1, relSec := 0, relNs := 0, useq := 0, body := padTo 256 body, good := true }

/-- A good cell of a type for a destination, with a type-specific word, from origin A. -/
def rx (type dest tsw : Nat) (payload : List Byte) : RxCell :=
  { cell := mkCell (type * 2 ^ 92 + dest * 2 ^ 32 + tsw) payload, corrected := false, broken := false, missing := 0 }

/-- A cell of zeros. -/
def cell0 : Machine.Cell := { header := 0, payload := [], trailer := 0 }

/-- A lamp frame of no bits. -/
def txf : TxFrame :=
  { cmd := 1, len := 0, capture := false, ref := none, bits := [], dead := false, zeros := false, counted := 0, withheld := false,
    markAt := none, gone := false }

/-- A transaction open at a control sender. -/
def gw (retries : Nat) : GwTx :=
  { port := 0, txn := 1, ctx := .host, kind := .plain, level := 2, owner := false, index := 0x4100, sub := 1, station := 1,
    data := [], retries := retries, due := 0, parts := [], total := 0, wide := false }

/-- A map activation for a frame. -/
def mapFor (frame : Nat) (accepted : List Nat) : MapPending :=
  { frame := frame, gen := 1, geom := [], regions := [], accepted := accepted, refused := [], why := none, go := false }

/-- A tile's report that names a neighbour tile 2 at its port B. -/
def reportNaming2 : TopoReport := { serial := 1, station := 0, flags := 0, nbA := 0, kindA := 0x20, nbB := 2, kindB := 0, rev := 1 }

/-- A discovery in progress. -/
def discoveryOf (repeated : Bool) (reports : List TopoReport) : Discovery :=
  { checkOnly := false, repeated := repeated, before := 0, since := 0, reports := reports }

/-- A frame held open. -/
def openF : OpenFrame := { ts := 0, rows := [], packets := [], firstAt := 0, closeBy := some 7, marked := false }

/-- A lamp bank. -/
def bank0 : Bank :=
  { frame := 0, writing := true, start := false, codes := Vector.replicate 64 [], scale := Vector.replicate 64 0,
    clamped := Vector.replicate 64 0 }

/-- A commit of a frame. -/
def commitOf (f : Nat) : CommitPending :=
  { frame := f, fromChain := true, gen := none, mapGen := none, named := none, late := 0, full := false }

/-- A service request that waits for its answer. -/
def waiting : SvcRequest := { tag := 5, chain := 0, station := 1, frame := [], sentAt := 0 }

/-- A session record. -/
def sess (target : Nat) (length : Nat) : SessionRecord :=
  { target := target, mode := 0, digest := List.replicate 32 0, length := length, number := 7, complete := [], erased := [],
    manifest := true }

/-- A CAP block of which the upper 224 bits are given. -/
def capOf (x : Nat) : BitVec 256 := BitVec.ofNat 256 (x * 2 ^ 32 + crc32Nat (beBytes 28 x))

/-- The host context's transfer set. -/
def hostXfer (s : State) (x : Xfer) : State := s.withControl fun k => { k with host := { k.host with xfer := x } }

/-- The flash replaced. -/
def withPointer (s : State) (flash : Sparse Byte) : State := onNvm s fun n => { n with flash := flash }

/-! ### A microcode image -/

/-- A microcode image of one profile, 0, which serves both modes, with one word of code (Tables 12.5 and 12.6), without its CRC. -/
def profileFront : List Byte :=
  leBytes 4 0x504D4355 ++ leBytes 2 1 ++ [1, 0] ++ leBytes 4 0 ++ leBytes 4 136 ++ List.replicate 48 0 ++
    [0, 3] ++ leBytes 2 1 ++ leBytes 4 128 ++ List.replicate 56 0 ++ List.replicate 4 0

/-- The image with its CRC. -/
def oneProfile : List Byte := profileFront ++ leBytes 4 0xE1896BC1

theorem crc32_append (c : BitVec 32) (a b : List Byte) (d e : BitVec 32) (h : a.foldl crc32Byte c = d)
    (g : b.foldl crc32Byte d = e) : (a ++ b).foldl crc32Byte c = e := by rw [List.foldl_append, h, g]

theorem profileFront_crc : profileFront.foldl crc32Byte 0xFFFFFFFF = 0x1E76943E := by
  rw [show profileFront = profileFront.take 22 ++ ((profileFront.drop 22).take 22 ++ ((profileFront.drop 44).take 22 ++
    ((profileFront.drop 66).take 22 ++ ((profileFront.drop 88).take 22 ++ profileFront.drop 110)))) by decide +kernel]
  refine crc32_append _ _ _ 0x99120057 _ (by decide +kernel) ?_
  refine crc32_append _ _ _ 0x7B78F4E8 _ (by decide +kernel) ?_
  refine crc32_append _ _ _ 0xA5D1D33C _ (by decide +kernel) ?_
  refine crc32_append _ _ _ 0x174C5A94 _ (by decide +kernel) ?_
  exact crc32_append _ _ _ 0x7B3AE224 _ (by decide +kernel) (by decide +kernel)

theorem oneProfile_front : oneProfile.take 132 = profileFront := by decide +kernel

theorem oneProfile_crc : crc32Nat (oneProfile.take 132) = 0xE1896BC1 := by
  rw [oneProfile_front, crc32Nat, crc32, profileFront_crc]
  decide +kernel

theorem oneProfile_ok : microOk oneProfile = true := by
  have hn : field oneProfile 12 4 - 4 = 132 := by decide +kernel
  unfold microOk
  simp only [hn, oneProfile_crc]
  decide +kernel

/-- A slot's image in flash: a manifest that lists the microcode alone, and the microcode behind it. -/
def microFlash (slot : Nat) : Sparse Byte :=
  let m := List.replicate 6 0 ++ [1] ++ List.replicate 57 0 ++
    ([3] ++ List.replicate 7 0 ++ leBytes 4 256 ++ leBytes 4 136 ++ List.replicate 32 0)
  ((m.zip (List.range m.length)).map fun x => (imageArea slot + x.2, x.1)) ++
    (oneProfile.zip (List.range 136)).map fun x => (imageArea slot + 256 + x.2, x.1)

/-- A state whose active image holds that microcode. -/
def withMicro (s : State) : State := onNvm s fun n => { n with flash := microFlash (s.rdN 0x3100 0x10) }

theorem withMicro_microcode : (withMicro tileUp).microcode = oneProfile := by decide +kernel

theorem oneProfile_runs : ((withMicro tileUp).loadEngine 63 oneProfile).lamps.engine[(63 : Fin 64)].run = .running := by
  unfold State.loadEngine
  simp only [oneProfile_ok]
  decide +kernel

/-! ### Images that carry a CRC -/

theorem leNat_leBytes (n v : Nat) : leNat (leBytes n v) = v % 256 ^ n := by
  induction n generalizing v with
  | zero => simp [leBytes, leNat, Nat.mod_one]
  | succ n ih =>
    simp only [leBytes, leNat, ih, BitVec.toNat_ofNat]
    rw [show 256 ^ (n + 1) = 2 ^ 8 * 256 ^ n by ring]
    exact Nat.mod_mul.symm

theorem field_crc (p : List Byte) (n : Nat) (h : p.length = n) :
    field (p ++ leBytes 4 (crc32Nat p)) n 4 = crc32Nat ((p ++ leBytes 4 (crc32Nat p)).take n) := by
  have hl : (leBytes 4 (crc32Nat p)).length = 4 := by simp [leBytes]
  have hc : crc32Nat p < 2 ^ 32 := (crc32 p).isLt
  subst h
  rw [List.take_left' rfl, field, slice, List.drop_left' rfl, List.take_of_length_le (le_of_eq hl), hl]
  simp only [Nat.sub_self, List.replicate_zero, List.append_nil, leNat_leBytes]
  exact Nat.mod_eq_of_lt hc

/-- The front of a boot pointer of the given state, its other bytes erased. -/
def pointerFront (state : Byte) : List Byte := [84, 79, 79, 66, 1, 0, state, 0] ++ List.replicate 4084 255

/-- A boot pointer of the given state. -/
def pointerArea (state : Byte) : List Byte := pointerFront state ++ leBytes 4 (crc32Nat (pointerFront state))

/-- Flash that holds a boot pointer of the given state in its first copy. -/
def pointerFlash (state : Byte) : Sparse Byte := (List.range' 0 4096).zip (pointerArea state)

theorem get_zip (d : Nat → Byte) (b : List Byte) (k : Nat) :
    (List.range' k b.length).map (fun i => Sparse.get d ((List.range' k b.length).zip b) i) = b := by
  induction b generalizing k with
  | nil => rfl
  | cons x b ih =>
    simp only [List.length_cons, List.range'_succ, List.zip_cons_cons, List.map_cons]
    congr 1
    · simp [Sparse.get, Sparse.find?]
    · refine Eq.trans (List.map_congr_left ?_) (ih (k + 1))
      intro i hi
      have hk : k + 1 ≤ i := (List.mem_range'_1.mp hi).1
      simp only [Sparse.get, Sparse.find?]
      rw [if_neg (by omega)]

theorem pointerFront_length (state : Byte) : (pointerFront state).length = 4092 := by
  rw [pointerFront, List.length_append, List.length_replicate]
  simp only [List.length_cons, List.length_nil]

theorem pointerArea_length (state : Byte) : (pointerArea state).length = 4096 := by
  rw [pointerArea, List.length_append, pointerFront_length]
  rfl

theorem flash_pointer (s : State) (state : Byte) : (withPointer s (pointerFlash state)).flash 0 4096 = pointerArea state := by
  have e := get_zip (fun _ => 0xFF) (pointerArea state) 0
  rw [pointerArea_length] at e
  rw [State.flash, List.range_eq_range']
  simp only [Nat.zero_add]
  exact e

theorem get_past (d : Nat → Byte) (b : List Byte) (k x : Nat) (h : k + b.length ≤ x) :
    Sparse.get d ((List.range' k b.length).zip b) x = d x := by
  induction b generalizing k with
  | nil => rfl
  | cons y b ih =>
    simp only [List.length_cons] at h
    simp only [List.length_cons, List.range'_succ, List.zip_cons_cons, Sparse.get, Sparse.find?]
    rw [if_neg (by omega)]
    exact ih (k + 1) (by omega)

theorem flash_second (s : State) (state : Byte) :
    (withPointer s (pointerFlash state)).flash 4096 4096 = List.replicate 4096 255 := by
  have e (x : Nat) (h : 4096 ≤ x) : Sparse.get (fun _ => 0xFF) (pointerFlash state) x = 0xFF := by
    have g := get_past (fun _ => 0xFF) (pointerArea state) 0 x (by rw [pointerArea_length]; omega)
    rw [pointerArea_length] at g
    exact g
  rw [State.flash, List.eq_replicate_iff]
  refine ⟨by simp, fun b hb => ?_⟩
  obtain ⟨i, -, rfl⟩ := List.mem_map.mp hb
  exact e _ (by omega)

theorem erased_pointer : bootPointerOf (List.replicate 4096 255) = none := by decide +kernel

theorem area_pointer (state : Byte) (n : Nat) (h0 : field (pointerArea state) 0 4 = 0x424F4F54)
    (h4 : field (pointerArea state) 4 2 = 1) (h6 : field (pointerArea state) 6 1 = n) :
    (bootPointerOf (pointerArea state)).map BootPointer.state = some n := by
  have hc : field (pointerArea state) 4092 4 = crc32Nat ((pointerArea state).take 4092) :=
    field_crc (pointerFront state) 4092 (pointerFront_length state)
  rw [bootPointerOf, h0, h4, hc, h6, if_pos (by simp only [beq_self_eq_true, Bool.and_true])]
  rfl

theorem copy_reads (s : State) (a : List Byte) (f0 : s.flash (ptrArea 0) 4096 = a)
    (f1 : s.flash (ptrArea 1) 4096 = List.replicate 4096 255) : s.pointerCopy = (bootPointerOf a).map fun p => (p, 0) := by
  unfold State.pointerCopy
  rw [f0, f1, erased_pointer]
  cases bootPointerOf a with
  | none => rfl
  | some p => rfl

theorem copy_state (s : State) (x : Option BootPointer) (n : Nat) (h : x.map BootPointer.state = some n)
    (e : s.pointerCopy = x.map fun p => (p, 0)) : s.pointer.state = n := by
  cases x with
  | none => exact nomatch h
  | some p =>
    have g : s.pointer = p := by
      unfold State.pointer
      rw [e]
      rfl
    rw [g]
    exact Option.some.inj h

theorem pointer_reads (s : State) (state : Byte) (n : Nat) (h0 : field (pointerArea state) 0 4 = 0x424F4F54)
    (h4 : field (pointerArea state) 4 2 = 1) (h6 : field (pointerArea state) 6 1 = n) :
    (withPointer s (pointerFlash state)).pointer.state = n :=
  copy_state _ _ _ (area_pointer state n h0 h4 h6) (copy_reads _ _ (flash_pointer s state) (flash_second s state))

theorem trial_pointer (s : State) : (withPointer s (pointerFlash 1)).pointer.state = 1 :=
  pointer_reads s 1 1 (by decide +kernel) (by decide +kernel) (by decide +kernel)

theorem final_pointer (s : State) : (withPointer s (pointerFlash 2)).pointer.state = 2 :=
  pointer_reads s 2 2 (by decide +kernel) (by decide +kernel) (by decide +kernel)

/-- The row of one phase: the first tap takes the sample, the `n` bytes of the others are 0. -/
def tapRow (n : Nat) : List Byte := [0, 4] ++ List.replicate n 0

/-- A coefficient set that takes the nearest sample, up to its CRC. -/
def coefFront : List Byte :=
  [1, 0, 0, 0] ++ ((List.replicate 64 (tapRow 14)).flatten ++ (List.replicate 64 (tapRow 10)).flatten)

/-- A valid coefficient set (R233). -/
def coefSet : List Byte := coefFront ++ leBytes 4 (crc32Nat coefFront)

theorem coefFront_length : coefFront.length = 1796 := by decide +kernel

theorem coefSet_length : coefSet.length = 1800 := by
  rw [coefSet, List.length_append, coefFront_length]
  rfl

theorem drop_rows (row rest : List Byte) (n p j : Nat) (h : p ≤ n) :
    ((List.replicate n row).flatten ++ rest).drop (row.length * p + j) = ((List.replicate (n - p) row).flatten ++ rest).drop j := by
  induction p generalizing n with
  | zero => simp
  | succ p ih =>
    obtain ⟨m, rfl⟩ : ∃ m, n = m + 1 := ⟨n - 1, by omega⟩
    rw [List.replicate_succ, List.flatten_cons, List.append_assoc, show row.length * (p + 1) + j = row.length + (row.length * p + j) by ring,
      ← List.drop_drop, List.drop_left' rfl, ih m (by omega), Nat.add_sub_add_right]

theorem sfield_drop (b : List Byte) (off len : Nat) : sfield b off len = sfield (b.drop off) 0 len := by
  simp [sfield, field, slice]

theorem coefSet_front : coefSet = [1, 0, 0, 0] ++ ((List.replicate 64 (tapRow 14)).flatten ++
    ((List.replicate 64 (tapRow 10)).flatten ++ leBytes 4 (crc32Nat coefFront))) := by
  have e : coefSet = coefFront ++ leBytes 4 (crc32Nat coefFront) := rfl
  rw [e]
  generalize leBytes 4 (crc32Nat coefFront) = r
  rw [coefFront, List.append_assoc, List.append_assoc]

theorem sfield_row (l r : List Byte) (j : Nat) (h : j + 2 ≤ l.length) : sfield ((l ++ r).drop j) 0 2 = sfield (l.drop j) 0 2 := by
  have e : ((l ++ r).drop j).take 2 = (l.drop j).take 2 := by
    rw [List.drop_append_of_le_length (by omega), List.take_append_of_le_length (by rw [List.length_drop]; omega)]
  simp only [sfield, field, slice, List.drop_zero, e]

theorem hCoef_tap (p t : Nat) (hp : p < 64) (ht : t < 8) : hCoef coefSet p t = if t = 0 then 1024 else 0 := by
  obtain ⟨m, hm⟩ : ∃ m, 64 - p = m + 1 := ⟨63 - p, by omega⟩
  have e : coefSet.drop (4 + 2 * (8 * p + t)) = ((List.replicate (m + 1) (tapRow 14)).flatten ++
      ((List.replicate 64 (tapRow 10)).flatten ++ leBytes 4 (crc32Nat coefFront))).drop (2 * t) := by
    rw [← hm, ← drop_rows _ _ 64 p (2 * t) (by omega), show 4 + 2 * (8 * p + t) = 4 + ((tapRow 14).length * p + 2 * t) by
      rw [show (tapRow 14).length = 16 from rfl]; ring, ← List.drop_drop, coefSet_front, List.drop_left' (by rfl)]
  rw [hCoef, sfield_drop, e, List.replicate_succ, List.flatten_cons, List.append_assoc]
  rw [sfield_row _ _ _ (by rw [show (tapRow 14).length = 16 from rfl]; omega)]
  clear e
  revert t
  decide +kernel

theorem vCoef_tap (p t : Nat) (hp : p < 64) (ht : t < 6) : vCoef coefSet p t = if t = 0 then 1024 else 0 := by
  obtain ⟨m, hm⟩ : ∃ m, 64 - p = m + 1 := ⟨63 - p, by omega⟩
  have e : coefSet.drop (1028 + 2 * (6 * p + t)) = ((List.replicate (m + 1) (tapRow 10)).flatten ++
      leBytes 4 (crc32Nat coefFront)).drop (2 * t) := by
    have hl : ([1, 0, 0, 0] ++ (List.replicate 64 (tapRow 14)).flatten : List Byte).length = 1028 := by decide +kernel
    have hs : coefSet = ([1, 0, 0, 0] ++ (List.replicate 64 (tapRow 14)).flatten) ++
        ((List.replicate 64 (tapRow 10)).flatten ++ leBytes 4 (crc32Nat coefFront)) := by
      rw [coefSet_front, List.append_assoc]
    rw [← hm, ← drop_rows _ _ 64 p (2 * t) (by omega), show 1028 + 2 * (6 * p + t) = 1028 + ((tapRow 10).length * p + 2 * t) by
      rw [show (tapRow 10).length = 12 from rfl]; ring, ← List.drop_drop, hs, List.drop_left' hl]
  rw [vCoef, sfield_drop, e, List.replicate_succ, List.flatten_cons, List.append_assoc]
  rw [sfield_row _ _ _ (by rw [show (tapRow 10).length = 12 from rfl]; omega)]
  clear e
  revert t
  decide +kernel

theorem coefSet_ok : coefOk coefSet = true := by
  have hc : field coefSet 1796 4 = crc32Nat (coefSet.take 1796) := field_crc coefFront 1796 coefFront_length
  have h0 : field coefSet 0 2 = 1 ∧ field coefSet 2 2 = 0 := by decide +kernel
  have row (f : Nat → Int) (n : Nat) (h : ∀ t < n, f t = if t = 0 then 1024 else 0) :
      (List.range n).map f = (List.range n).map fun t => if t = 0 then (1024 : Int) else 0 :=
    List.map_congr_left fun t ht => h t (List.mem_range.mp ht)
  unfold coefOk
  rw [hc, h0.1, h0.2]
  simp only [beq_self_eq_true, Bool.true_and, List.all_eq_true]
  intro p hp
  have hp := List.mem_range.mp hp
  rw [row _ 8 fun t ht => hCoef_tap p t hp ht, row _ 6 fun t ht => vCoef_tap p t hp ht]
  decide

/-- A transfer table of zeros, up to its CRC (R266). -/
def linearTable : List Byte := [1] ++ List.replicate 16391 0

theorem linearTable_size : linearTable.length = 16392 := by
  rw [linearTable, List.length_append, List.length_replicate]
  simp only [List.length_cons, List.length_nil]

theorem linearTable_length : (linearTable ++ leBytes 4 (crc32Nat linearTable)).length = 16396 := by
  rw [List.length_append, linearTable_size]
  rfl

theorem linearTable_head : field (linearTable ++ leBytes 4 (crc32Nat linearTable)) 0 2 = 1 := by decide +kernel

theorem linearTable_spare : field (linearTable ++ leBytes 4 (crc32Nat linearTable)) 2 2 = 0 := by decide +kernel

theorem linearTable_crc : field (linearTable ++ leBytes 4 (crc32Nat linearTable)) 16392 4 =
    crc32Nat ((linearTable ++ leBytes 4 (crc32Nat linearTable)).take 16392) := field_crc linearTable 16392 linearTable_size

theorem linearTable_gaps (i : Nat) (h : i < 4097) : byteAt (linearTable ++ leBytes 4 (crc32Nat linearTable)) (7 + 4 * i) = 0 := by
  have hz : ∀ n k : Nat, (List.replicate n (0 : Byte)).getD k 0 = 0 := by
    intro n k
    rw [List.getD_eq_getElem?_getD, List.getElem?_replicate]
    split <;> rfl
  unfold byteAt
  rw [List.getD_append _ _ _ _ (by rw [linearTable_size]; omega), linearTable, List.singleton_append,
    show 7 + 4 * i = 6 + 4 * i + 1 by omega, List.getD_cons_succ]
  exact hz _ _

theorem identity_serial : senderUp.identity 3 < 2 ^ 32 := by
  have e : senderUp.identity 3 = Config.serial.toNat % 2 ^ 32 := rfl
  rw [e]
  exact Nat.mod_lt _ (by decide)

theorem identity_words : [(0x7D21 : Word).toNat, (0x9600 : Word).toNat, (BitVec.ofNat 32 (senderUp.identity 2)).toNat,
    (BitVec.ofNat 32 (senderUp.identity 3)).toNat] = (List.range 4).map senderUp.identity := by
  have h0 : senderUp.identity 0 = 0x7D21 := by decide +kernel
  have h1 : senderUp.identity 1 = 0x9600 := by decide +kernel
  have h2 : senderUp.identity 2 < 2 ^ 32 := by decide +kernel
  have h3 := identity_serial
  rw [BitVec.toNat_ofNat, BitVec.toNat_ofNat, Nat.mod_eq_of_lt h2, Nat.mod_eq_of_lt h3]
  simp [List.range_succ, h0, h1]

/-! ### A cell that assigns a station to this device -/

/-- The payload of an ASSIGN that gives this device station 1 of chain 1 (Table 4.9). -/
def assignSelf : List Byte := [1, 0, 0, 0] ++ leBytes 6 serialLow ++ [1, 1]

theorem mkCell_crcOk (h : Nat) (p : List Byte) : (mkCell h p).crcOk = true := by
  have hc : ∀ c : BitVec 24, bits (BitVec.ofNat 32 (c.toNat * 256)).toNat 31 8 = c.toNat := by
    intro c
    have := c.isLt
    simp only [bits, BitVec.toNat_ofNat]
    omega
  exact beq_iff_eq.mpr (hc _)

theorem mkCell_low (h : Nat) (p : List Byte) (i : Nat) (hi : i < 8) : (mkCell h p).trailer.getLsbD i = false := by
  have hc : ∀ c : Nat, (BitVec.ofNat 32 (c * 256)).getLsbD i = false := by
    intro c
    rw [BitVec.getLsbD_ofNat, show c * 256 = c * 2 ^ 8 from rfl, Nat.testBit_mul_two_pow]
    simp [show ¬ 8 ≤ i by omega]
  exact hc _

theorem rx_clean (type dest tsw : Nat) (p : List Byte) : (rx type dest tsw p).damaged = false := by
  have e : (rx type dest tsw p).cell = mkCell (type * 2 ^ 92 + dest * 2 ^ 32 + tsw) p := rfl
  rw [RxCell.damaged, Cell.poison, e, mkCell_low _ _ 7 (by decide), mkCell_crcOk]
  rfl

theorem arrive_clean (type dest tsw : Nat) (p : List Byte) :
    ∃ v, tileUp.arrive 1 (rx type dest tsw p) = tileUp.wrN 0x2200 0x07 v := by
  have hd := rx_clean type dest tsw p
  have hc : (rx type dest tsw p).cell.corr = false := mkCell_low _ _ 6 (by decide)
  have hf : tileUp.forward 1 (rx type dest tsw p) = tileUp := by
    unfold State.forward
    exact if_pos (by decide +kernel)
  rw [State.arrive, hf]
  simp only [hd, hc, State.countDamage, Bool.not_false, Bool.false_eq_true, if_true, if_false]
  exact ⟨_, rfl⟩

theorem topo_assign : ((tileUp.arrive 1 (rx 6 0xFFF 0x30000000 assignSelf)).topoNew (rx 6 0xFFF 0x30000000 assignSelf) 3).1 = true := by
  obtain ⟨v, e⟩ := arrive_clean 6 0xFFF 0x30000000 assignSelf
  rw [e, State.topoNew, if_neg]
  have hh : (tileUp.wrN 0x2200 0x07 v).hears (rx 6 0xFFF 0x30000000 assignSelf) = true := by
    rw [State.hears, rx_clean]
    rfl
  have ha : (tileUp.wrN 0x2200 0x07 v).accepts (tileUp.wrN 0x2200 0x07 v).tile.groups
      (rx 6 0xFFF 0x30000000 assignSelf).cell.dest = true := by
    rw [show (rx 6 0xFFF 0x30000000 assignSelf).cell.dest = 0xFFF by decide +kernel]
    rfl
  have hs : (tileUp.wrN 0x2200 0x07 v).tile.topoSeqs = [] := rfl
  rw [hh, ha, hs]
  decide +kernel

theorem assign_entry : assignEntry (rx 6 0xFFF 0x30000000 assignSelf).cell.data serialLow = some (1, 1) := by
  have hv : serialLow < 2 ^ 48 := Nat.mod_lt _ (by decide)
  have e : field (rx 6 0xFFF 0x30000000 assignSelf).cell.data 4 6 = leNat (leBytes 6 serialLow) := rfl
  rw [leNat_leBytes, show 256 ^ 6 = 2 ^ 48 by decide, Nat.mod_eq_of_lt hv] at e
  have n : min 18 (field (rx 6 0xFFF 0x30000000 assignSelf).cell.data 0 1) = 1 := by decide +kernel
  rw [assignEntry, n]
  simp only [List.range_one, List.find?_cons, e, beq_self_eq_true, Nat.mul_zero, Nat.add_zero]
  rfl

/-! ### Well-formedness refuses an ill-formed command, one for each check -/

/-- A PTP dataset of zeros. -/
def dataset0 : PtpDataset :=
  { priority1 := 0, clockClass := 0, accuracy := 0, variance := 0, priority2 := 0, identity := 0, steps := 0, source := 0 }

/-- A damage report with one word of the given layer. -/
def damageOf (layer : Nat) : Damage :=
  { corrected := 0, words := [{ layer := layer, region := 0, cell := 0, word := 0, addr := 0 }], lines := [], corrCorrected := 0,
    corrWords := [], generations := false }

theorem test_wf_sdo_frame_of_seven_bytes :
    (Instr.sdoInitiateDownload (.can 0) [0, 0, 0, 0, 0, 0, 0]).wf = false ∧ (Instr.sdoDownloadSegment (.can 0) [0]).wf = false ∧
      (Instr.sdoInitiateUpload (.can 0) []).wf = false ∧ (Instr.sdoUploadSegment .host [0]).wf = false ∧
      (Instr.sdoBlockDownloadInitiate .host [0]).wf = false ∧ (Instr.sdoBlockSegment .host [0]).wf = false ∧
      (Instr.sdoBlockDownloadEnd .host [0]).wf = false ∧ (Instr.sdoBlockUploadInitiate .host [0]).wf = false ∧
      (Instr.sdoAbortReceive .host [0]).wf = false ∧ (Instr.sdoInitiateDownload (.can 0) [0, 0, 0, 0, 0, 0, 0, 0]).wf = true := by
  decide

theorem test_wf_network_widths :
    (Instr.udpDatagramReceive (2 ^ 32) 0 []).wf = false ∧ (Instr.udpDatagramReceive 0 65536 []).wf = false ∧
      (Instr.txPortCEthernetFrame 0 { vlan := some 4095, body := .other }).wf = false ∧
      (Instr.txPortCEthernetFrame 0 { vlan := none, body := .arp (2 ^ 32) 0 }).wf = false ∧
      (Instr.txPortCEthernetFrame 0 { vlan := none, body := .echo 0 (2 ^ 32) [] }).wf = false ∧
      (Instr.txPortCEthernetFrame 0 { vlan := none, body := .udp 0 0 65536 [] }).wf = false ∧
      (Instr.txPortCEthernetFrame 0 { vlan := some 4094, body := .udp 0 0 65535 [] }).wf = true := by
  decide

theorem test_wf_rpdo_and_gateway :
    (Instr.rpdoReceive 0 false (List.replicate 65 0)).wf = false ∧ (Instr.rpdoReceive 0 false (List.replicate 64 0)).wf = true ∧
      (Instr.gatewayTimeout 0 65536).wf = false ∧ (Instr.gatewayTimeout 0 65535).wf = true := by
  decide

/-- Every row that brings a cell takes exactly 240 bytes of payload. -/
theorem test_wf_cell_payload :
    ∀ c ∈ [Instr.mgmtReadReceive 0, .mgmtWriteReceive 0, .mgmtBroadcastWriteReceive 0, .mgmtResponseReceive 0, .mgmtEventReceive 0,
        .videoCellReceive 0, .timingCellReceive 0, .serviceCellReceive 0, .healthCellReceive 0, .topoQueryReceive 0,
        .topoAssignReceive 0, .framectlCommitReceive 0, .framectlGenStateReceive 0, .framectlAbortReceive 0,
        .reservedTypeCellReceive 0, .cellTerminate 0, .topoReportReceive 0],
      (c { cell := cell0, corrected := false, broken := false, missing := 0 }).wf = false ∧
        (c { cell := { cell0 with payload := List.replicate 240 0 }, corrected := false, broken := false, missing := 0 }).wf = true := by
  decide +kernel

/-- Every row that brings a cascade unit checks its body and each field of its header. -/
theorem test_wf_cascade_unit :
    ∀ c ∈ [Instr.selectUnitReceive 0, .checksumUnitReceive 0, .relayUnitReceive 0, .mgmtUnitReceive 0, .identityUnitReceive 0,
        .statusUnitReceive 0, .takeUnitReceive 0, .reclaimUnitReceive 0, .ackUnitReceive 0, .deferUnitReceive 0,
        .cancelUnitReceive 0, .derateUnitReceive 0, .syncUnitReceive 0],
      (∀ u ∈ [{ unit 1 15 [] with body := [] }, unit 16 15 [], { unit 1 15 [] with src := 32 }, { unit 1 15 [] with dst := 32 },
          unit 1 16 [], { unit 1 15 [] with chain := 32 }, { unit 1 15 [] with relSec := 2 ^ 48 },
          { unit 1 15 [] with relNs := 2 ^ 32 }, { unit 1 15 [] with useq := 2 ^ 32 }], (c u).wf = false) ∧
        (c (unit 1 15 [])).wf = true := by
  decide +kernel

theorem test_wf_ptp :
    (Instr.ptpSyncReceive 9 0 0 0 0 0 false).wf = false ∧ (Instr.ptpSyncReceive 8 256 0 0 0 0 false).wf = false ∧
      (Instr.ptpSyncReceive 8 0 (2 ^ 80) 0 0 0 false).wf = false ∧ (Instr.ptpSyncReceive 8 0 0 65536 0 0 false).wf = false ∧
      (Instr.ptpFollowUpReceive 9 0 0 0 0).wf = false ∧ (Instr.ptpFollowUpReceive 8 256 0 0 0).wf = false ∧
      (Instr.ptpDelayRespReceive 9 0 0 0 0).wf = false ∧ (Instr.ptpDelayRespReceive 8 0 0 65536 0).wf = false ∧
      (Instr.ptpAnnounceReceive 9 0 dataset0 0).wf = false ∧ (Instr.ptpAnnounceReceive 8 256 dataset0 0).wf = false ∧
      (∀ d ∈ [{ dataset0 with priority1 := 256 }, { dataset0 with clockClass := 256 }, { dataset0 with accuracy := 256 },
        { dataset0 with variance := 65536 }, { dataset0 with priority2 := 256 }, { dataset0 with identity := 2 ^ 80 },
        { dataset0 with steps := 65536 }], (Instr.ptpAnnounceReceive 8 0 d 0).wf = false) ∧
      (Instr.ptpAnnounceReceive 8 255 dataset0 0).wf = true := by
  decide

theorem test_wf_slots_and_layers :
    (Instr.frameOutPulse 0 4).wf = false ∧ (Instr.frameOutPulse 0 3).wf = true ∧ (Instr.composeSlot (damageOf 8)).wf = false ∧
      (Instr.composeSlot (damageOf 7)).wf = true := by
  decide

theorem test_wf_host_port_bursts :
    (Instr.qspiRead 0 (2 ^ 24 + 1) false).wf = false ∧ (Instr.qspiQread 0 (2 ^ 24 + 1) false).wf = false ∧
      (Instr.qspiRdsr (2 ^ 24 + 1)).wf = false ∧ (Instr.qspiRead 0 (2 ^ 24) true).wf = true := by
  decide

theorem test_wf_host_port_writes (a : BitVec 24) (b : List Byte) (h : 2 ^ 24 < b.length) :
    (Instr.qspiWrite a b).wf = false ∧ (Instr.qspiQwrite a b).wf = false := by
  simp only [Instr.wf, decide_eq_false_iff_not, not_le]
  exact ⟨h, h⟩

/-- Identity 0x4B names no master; 0x4A, the last, does. -/
theorem test_wf_masters :
    (∀ c ∈ [Instr.mbPost 0x4B 0, .mbTake 0x4B 0, .mbFlush 0x4B 0, .returnCodeWrite 0x4B 0 0, .mbBindWrite 0x4B 0 0,
      .mbLockWrite 0x4B 0, .semRead [0, 0x4B] 0, .semWrite 0x4B 0, .semForce 0x4B 0, .masterReset 0x4B, .refclkLoss [(0, 0x4B)],
      .forcedClockSwitch 0 [0x4B], .mbMsgWrite 0x4B 0 0 0, .mbStatusClear 0x4B 0 0], c.wf = false) ∧
      (Instr.mbPost 0x4A 0).wf = true := by
  decide

theorem test_wf_hop_runs :
    (Instr.calRunComplete { cables := [(0, 0, 0, 0)], latency := [(0, 0)] } { cables := [], latency := [] }).wf = false ∧
      (Instr.calRunComplete { cables := [], latency := [] } { cables := [(0, 0, 0, 0)], latency := [(0, 0)] }).wf = false ∧
      (Instr.calRunComplete { cables := [(0, 0, 0, 0)], latency := [] } { cables := [], latency := [] }).wf = true := by
  decide

theorem test_wf_service_frames :
    (∀ c ∈ [Instr.serviceHello, .serviceOpen, .serviceWrite, .serviceStatus, .serviceVerify, .serviceActivate, .serviceCancel,
      .serviceFinalize, .serviceRollback, .serviceClose, .serviceRead],
      (c (.sgmii 0 0) (List.replicate 1041 0)).wf = false ∧ (c (.sgmii (2 ^ 32) 0) []).wf = false ∧
        (c (.sgmii 0 65536) []).wf = false ∧ (c .chain (List.replicate 241 0)).wf = false ∧
        (c .chainAll (List.replicate 241 0)).wf = false ∧ (c .chain (List.replicate 240 0)).wf = true) ∧
      (Instr.serviceReport 0 256 []).wf = false ∧ (Instr.serviceReport 0 0 (List.replicate 241 0)).wf = false ∧
      (Instr.serviceReport 0 255 []).wf = true := by
  decide +kernel

/-! ### Worked examples of the spec -/

/-- The bytes of "123456789", over which the published check values of CRC-32 (IEEE 802.3), CRC-24 (RFC 4880, R113) and the
CiA 301 block CRC are computed. -/
def digits : List Byte := [0x31, 0x32, 0x33, 0x34, 0x35, 0x36, 0x37, 0x38, 0x39]

theorem test_crc32_check : crc32 digits = 0xCBF43926 := by decide +kernel

theorem test_crc24_check : crc24 digits = 0x21CF02 := by decide +kernel

theorem test_sdo_crc_check : sdoCrc digits = 0x31C3 := by decide +kernel

/-- FIPS 180-4's first example: "abc". -/
theorem test_sha256_abc : (sha256 [0x61, 0x62, 0x63]).take 8 = [0xBA, 0x78, 0x16, 0xBF, 0x8F, 0x01, 0xCF, 0xEA] := by decide +kernel

/-- 07, "Worked example: a smooth block": 16 pixels, each the same ramp in its three components. -/
def ramp : List Nat :=
  slateWords 0 (List.replicate 3 [500, 502, 504, 506, 508, 510, 512, 514, 501, 503, 505, 507, 509, 511, 513, 515])

theorem test_slate_smooth_block_begins :
    (slateEncode 0 ramp).take 37 = msbBits 2 0 ++ msbBits 10 0x1F4 ++ msbBits 4 3 ++ (List.replicate 7 (msbBits 3 2)).flatten := by
  decide +kernel

theorem test_slate_smooth_block_ends :
    (slateEncode 0 ramp).length = 240 ∧ (slateEncode 0 ramp).drop 179 = List.replicate 61 false := by decide +kernel

theorem test_slate_smooth_block_decodes : slateDecode 0 (slateEncode 0 ramp) = some ramp := by decide +kernel

/-- 08, "one pixel, straight and premultiplied". -/
theorem test_blend_example :
    alphaFromKey 8200 0 = 2050 ∧ alphaEff 2050 3072 = 1538 ∧ blend1 false 3072 1538 16000000 8388608 = 11247294 ∧
      blend1 true 3072 1538 8009768 8388608 = 11246808 := by decide

/-- 02, "an inset across two chains": chain 2 needs input lines 0 to 363, chain 3 lines 360 to 1,079. -/
theorem test_need_of_inset : needSpan 0 195 1080 585 2 3 = (0, 363) ∧ needSpan 196 584 1080 585 2 3 = (360, 1079) := by decide

/-- 07, "capacity of two tiles": columns 4,988 to 5,379 and lines 1,437 to 1,802 of the background. -/
theorem test_need_of_background :
    needSpan 5408 5823 7680 8320 3 4 = (4988, 5379) ∧ needSpan 1664 2079 4320 4992 2 3 = (1437, 1802) := by decide

/-- 09, "one red lamp at station 27": drift, brightness, dither. -/
theorem test_lamp_example :
    driftValue 7611136 19057 = 8852870 ∧ brightValue 8852870 14342226 = 7567994 ∧ ditherM 4 5 13 = 70 ∧
      ditherCode true 16 1000003 2 1 0 5500 1800 7567994 = 29562 := by decide

/-- 10, "port 17 of station 27": thirteen drivers and a sensor node. -/
def port17 : LampPort :=
  { LampPort.reset with
    regs := (List.range 13).flatMap (fun i =>
      [((i + 1) * 65536 + 5, 48), ((i + 1) * 65536 + 11, 100), ((i + 1) * 65536 + 13, 48)]) ++
      [(14 * 65536 + 5, 0), (14 * 65536 + 11, 32)] }

theorem test_port17_latches :
    (port17.latches 1 241500 []).1 = 240000 ∧ ((port17.latches 1 241500 []).2.filter fun x => x.1 ∈ [1, 7, 13]) =
      [(1, 1832), (7, 992), (13, 152)] := by decide +kernel

theorem test_port17_transfer : xferNs 8112 16 1 = 1474909 := by decide

/-- 11, "port 17 under a camera": T_SLICE and TG. -/
theorem test_port17_grey_clock : tSlice 16 16 8 = 512 ∧ greyClock 8321666 16 16 8 13 32 = 73 := by decide

/-- 12, "a cascade profile for port 17": position 7, channel 0, scan line 10 is lamp 5,112. The walk's words, 4 bytes each. -/
def walk17 : List Byte :=
  let entry (x y j : Nat) : List Byte := leBytes 4 (x + y * 2 ^ 12 + j * 2 ^ 24)
  (List.range 64).flatMap (fun ch => entry (ch / 3 % 4) (ch / 3 / 4) (ch % 3)) ++
    (List.range 62).flatMap (fun i => entry 0 (4 * (i + 2)) 0) ++ (List.range 32).flatMap fun s => entry (4 * s) 0 0

theorem test_port17_walk : walkLamp walk17 52 52 3 7 0 10 = some 5112 := by decide +kernel

/-- 06, "station 27 of chain 2": D from D_min with the default margin. -/
theorem test_presentation_delay : autoDelay 20000 18190837 = 18211000 := by decide

/-- 16, "a warm corner of the shared wall": F_board at 76.4 °C, and the ramp's last step. -/
theorem test_derate_example : fDie 2099 = 4096 ∧ derateStep 3456 3444 64 64 = 3444 ∧ derateStep 4096 3444 64 64 = 4032 := by decide

/-! ### One command each -/

/-- 14, "a message across a host restart": semaphore 3 free with LAST_WINNER 0x46; the host is served before core 4. -/
theorem test_semaphore_order :
    (match exec (.semRead [0x44, 0x48] 3) (tileUp.withHost fun h => { h with sem := vmod h.sem 3 fun x => { x with lastWinner := 0x46 } }) with
      | .next t => (t.hostPort.sem[3].held, t.hostPort.sem[3].holder, t.hostPort.sem[3].lastWinner)
      | _ => (false, 0, 0)) = (true, 0x48, 0x48) := by decide +kernel

/-- R527: IDCODE reads 0x1960_053D, bit 0 first. -/
theorem test_idcode : (execTapIdcode State.reset) = .next ((State.reset.withTap fun t => { t with instr := .idcode }).emit
    (.tap (tapBits 32 0x1960053D))) := rfl

theorem test_idcode_bits : tapBits 8 0x1960053D = [true, false, true, true, true, true, false, false] := by decide

/-- R86: 60 ohms is a receiver, 61 is none. -/
theorem test_receiver_detect :
    (match exec (.receiverDetectTest 0 60) (tileUp.withLane 0 fun x => { x with stage := .detect }) with
      | .next t => decide (t.lanes.lane[0].stage = .detect) | _ => true) = false ∧
    (match exec (.receiverDetectTest 0 61) (tileUp.withLane 0 fun x => { x with stage := .detect }) with
      | .next t => decide (t.lanes.lane[0].stage = .detect) | _ => false) = true := by decide +kernel

/-- R561: an object that does not exist, a sub-index that does not, and a write of a read-only object. -/
theorem test_write_aborts :
    (match exec (.objectWrite .host 0x1FFF 0 [0]) senderUp with | .next t => t.sent | _ => []) = [.written .host 0x1FFF 0 0x06020000] ∧
    (match exec (.objectWrite .host 0x1000 9 [0]) senderUp with | .next t => t.sent | _ => []) = [.written .host 0x1000 9 0x06090011] ∧
    (match exec (.objectWrite .host 0x1000 0 [0, 0, 0, 0]) senderUp with | .next t => t.sent | _ => []) =
      [.written .host 0x1000 0 0x06010002] := by decide +kernel

/-- R390: NMT start makes the node operational. -/
theorem test_nmt_start :
    (match exec .nmtStart (senderUp.withControl fun k => { k with nodeId := 127, nmt := .preOperational }) with | .next t => decide (t.control.nmt = .operational) | _ => false) = true := by decide +kernel

/-- R359: ADD wraps at 32 bits. -/
theorem test_engine_add_wraps :
    (match exec (.peAdd 0 1 2 3 0) (engineAt 0x0048C000 fun e => { e with regs := (vmod (vmod e.regs 2 fun _ => 0xFFFFFFFF) 3 fun _ => 2) }) with
      | .next t => (t.lamps.engine[0].reg 1, t.lamps.engine[0].pc) | _ => (0, 0)) = (1, 1) := by decide +kernel

/-- R358: word 0x0000_0000 is ADD g0, g0, g0, and the engine goes on; another word at the pc is another instruction. -/
theorem test_engine_takes_the_word_at_its_pc :
    (match exec (.peAdd 0 0 0 0 0) (engineAt 0 id) with | .next t => t.lamps.engine[0].pc | _ => 9) = 1 ∧
    (match exec (.peSub 0 0 0 0 0) (engineAt 0 id) with | .next t => t.lamps.engine[0].pc | _ => 9) = 0 := by decide +kernel

/-- R358, R373: opcode 0x0D is not assigned and faults with cause 1; a damaged word faults with cause 4. -/
theorem test_engine_faults :
    (match exec (.peAdd 0 0 0 0 0) (engineAt 0x34000000 id) with | .next t => t.rdN 0x2C10 0x02 | _ => 9) = 1 ∧
    (match exec (.peAdd 0 0 0 0 0) (engineAt 0 fun e => { e with damaged := [0] }) with | .next t => t.rdN 0x2C10 0x02 | _ => 9) = 4 := by
  decide +kernel

/-- R359: DBNZ falls through when the counter reaches 0. -/
theorem test_engine_dbnz :
    (match exec (.peDbnz 0 2 0 5) (engineAt 0x90800005 fun e => { e with regs := vmod e.regs 2 fun _ => 1 }) with
      | .next t => (t.lamps.engine[0].reg 2, t.lamps.engine[0].pc) | _ => (9, 9)) = (0, 1) := by decide +kernel

/-- Register g0 reads 0, and a write to it is discarded (R356). -/
theorem test_engine_g0_reads_zero :
    (match exec (.peAddi 0 0 0 7) (engineAt 0x40000007 id) with | .next t => (t.lamps.engine[0].reg 0) | _ => 1) = 0 := by decide +kernel

/-- The block takes no words. -/
theorem test_no_words : decodeTableWord 0 0 = none ∧ decodeTableWord 32 0xFFFFFFFF = none := ⟨rfl, rfl⟩

/-- The empty queue idles; the clock advances. -/
theorem test_idle : (match step State.reset with | .next t => (t.pending.length, t.now - State.reset.now) | _ => (1, 0)) = (0, 1) := by
  decide +kernel

/-! ### Witnesses -/

/-- Something meets the hypotheses of `BindingsAndForcedRelease`, clause by clause. -/
theorem witness_BindingsAndForcedRelease :
  (∃ (s : State) (m : BitVec 7) (v : Word),
    let b := bindingOf v
    isMaster m = true ∧ s.hostPort.lock = false ∧ ((64 ≤ m.toNat ∧ m.toNat ≤ 67 ∨ m = 73)) ∧ ((isMaster b.sender = true ∧ isMaster b.receiver = true ∧ (b.ackMode = true → 64 ≤ b.receiver.toNat)))) ∧
  (∃ (s : State) (m : BitVec 7) (v : Word),
    let b := bindingOf v
    isMaster m = true ∧ (s.hostPort.lock = true ∨ ¬(64 ≤ m.toNat ∧ m.toNat ≤ 67 ∨ m = 73) ∨ ¬(isMaster b.sender = true ∧ isMaster b.receiver = true ∧ (b.ackMode = true → 64 ≤ b.receiver.toNat)))) ∧
  (∃ (s : State) (m : BitVec 7),
    isMaster m = true ∧ s.hostPort.lock = false) ∧
  (∃ (s : State) (m : BitVec 7),
    isMaster m = true ∧ s.hostPort.lock = true) ∧
  (∃ (s : State) (m : BitVec 7) (v : Word) (n : Fin 32),
    isMaster m = true ∧ BitVec.toNat v % 32 = ↑n ∧ BitVec.getLsbD v 8 = true ∧ ((64 ≤ m.toNat ∧ m.toNat ≤ 67 ∨ m = 73)) ∧ s.hostPort.sem[n].held = true) :=
  ⟨⟨State.reset, 0x40, 0x40000, by decide +kernel⟩,
   ⟨State.reset.withHost fun h => { h with lock := true }, 0x4A, 0, by decide +kernel⟩,
   ⟨State.reset, 0x4A, by decide +kernel⟩,
   ⟨State.reset.withHost fun h => { h with lock := true }, 0, by decide +kernel⟩,
   ⟨State.reset.withHost fun h => { h with sem := vmod h.sem 31 fun x => { x with held := true } }, 0x49, 0x1FF, 31, by decide +kernel⟩⟩

/-- Something meets the hypotheses of `BistAndTap`, clause by clause. -/
theorem witness_BistAndTap :
  (∃ (s : State) (t : Nat),
    s.isTile = true ∧ s.beat.replayUntil = some t) ∧
  (∃ (s : State),
    s.life = Life.coldStart) ∧
  (∃ (s : State) (kind : Nat) (p : Fin 64),
    s.isTile = true ∧ kind ≠ 1 ∧ s.lamps.bistRun = some (kind, ↑p)) ∧
  (∃ (s : State) (k : Fin 8),
    s.isTile = true ∧ s.lamps.bistRun = some (1, ↑k)) ∧
  (∃ (s : State),
    s.tap.ballsTaken = false) ∧
  (∃ (s : State),
    (s.otp.jtagMode = 0 ∨ s.otp.jtagMode = 1 ∧ s.tap.unlocked = true)) ∧
  (∃ (s : State),
    (¬(s.otp.jtagMode = 0 ∨ s.otp.jtagMode = 1 ∧ s.tap.unlocked = true))) ∧
  (∃ (s : State),
    s.tap.nonceFrom ≤ s.now) ∧
  (∃ (s : State),
    s.now < s.tap.nonceFrom) ∧
  (∃ (s : State) (n : BitVec 128) (proof : BitVec 128),
    s.otp.jtagMode = 1 ∧ s.tap.nonce = some n ∧ proof = s.debugProof n) ∧
  (∃ (s : State) (n : BitVec 128) (proof : BitVec 128),
    s.otp.jtagMode = 1 ∧ s.tap.nonce = some n ∧ proof ≠ s.debugProof n) :=
  ⟨⟨tileUp.withBeat fun b => { b with replayUntil := some 5 }, 5, by decide +kernel⟩,
   ⟨{ State.reset with life := .coldStart }, by decide +kernel⟩,
   ⟨onLamps tileUp fun l => { l with bistRun := some (2, 63) }, 2, 63, by decide +kernel⟩,
   ⟨onLamps tileUp fun l => { l with bistRun := some (1, 7) }, 7, by decide +kernel⟩,
   ⟨State.reset, by decide +kernel⟩,
   ⟨{ State.reset with otp := { Otp.blank with jtagMode := 1 }, tap := { Tap.reset with unlocked := true } }, by decide +kernel⟩,
   ⟨{ State.reset with otp := { Otp.blank with jtagMode := 1 } }, by decide +kernel⟩,
   ⟨State.reset, by decide +kernel⟩,
   ⟨{ State.reset with tap := { Tap.reset with nonceFrom := 1 } }, by decide +kernel⟩,
   ⟨{ State.reset with otp := { Otp.blank with jtagMode := 1 }, tap := { Tap.reset with nonce := some 0 } }, 0, State.debugProof { State.reset with otp := { Otp.blank with jtagMode := 1 }, tap := { Tap.reset with nonce := some 0 } } 0, ⟨rfl, rfl, rfl⟩⟩,
   ⟨{ State.reset with otp := { Otp.blank with jtagMode := 1 }, tap := { Tap.reset with nonce := some 0 } }, 0, State.debugProof { State.reset with otp := { Otp.blank with jtagMode := 1 }, tap := { Tap.reset with nonce := some 0 } } 0 + 1, ⟨rfl, rfl, by intro h; bv_omega⟩⟩⟩

/-- Something meets the hypotheses of `CanNodeServices`, clause by clause. -/
theorem witness_CanNodeServices :
  (∃ (s : State),
    s.nmtOpen = true ∧ s.rdB 0x3300 13 = true) ∧
  (∃ (s : State),
    s.nmtOpen = true ∧ s.rdB 0x3300 13 = false) ∧
  (∃ (s : State),
    s.nmtOpen = true ∧ s.rdN 0x1017 0 ≠ 0) ∧
  (∃ (s : State) (k : Fin 4),
    s.nmtOpen = true ∧ s.rdN 0x1016 (↑k + 1) % 65536 ≠ 0 ∧ s.rdN 0x1016 (↑k + 1) / 65536 % 256 ≠ 0) ∧
  (∃ (s : State) (n : Fin 4),
    s.nmtOpen = true ∧ s.control.nmt = Nmt.operational ∧ bit (s.pdoCob true n) 31 = false ∧ 1 ≤ s.rdN (0x1800 + ↑n) 2 ∧ s.rdN (0x1800 + ↑n) 2 ≤ 240 ∧ s.rdN (0x1800 + ↑n) 2 ≤ s.control.syncCount[n] + 1) ∧
  (∃ (s : State) (n : Fin 4),
    s.nmtOpen = true ∧ s.control.nmt = Nmt.operational ∧ bit (s.pdoCob true n) 31 = false ∧ 1 ≤ s.rdN (0x1800 + ↑n) 2 ∧ s.rdN (0x1800 + ↑n) 2 ≤ 240 ∧ s.control.syncCount[n] + 1 < s.rdN (0x1800 + ↑n) 2) ∧
  (∃ (s : State) (n : Fin 4) (last : Nat),
    s.nmtOpen = true ∧ s.control.nmt = Nmt.operational ∧ bit (s.pdoCob true n) 31 = false ∧ 254 ≤ s.rdN (0x1800 + ↑n) 2 ∧ s.rdN (0x1800 + ↑n) 5 ≠ 0 ∧ s.control.tpdoAt[n] = some last) ∧
  (∃ (s : State) (a : Word) (b : Word) (c : Word) (d : Word),
    s.isSender = true ∧ [BitVec.toNat a, BitVec.toNat b, BitVec.toNat c, BitVec.toNat d] = List.map s.identity (List.range 4)) ∧
  (∃ (s : State) (vendor : Word) (product : Word) (revLow : Word) (revHigh : Word) (serLow : Word) (serHigh : Word),
    s.isSender = true ∧ BitVec.toNat vendor = s.identity 0 ∧ BitVec.toNat product = s.identity 1 ∧ BitVec.toNat revLow ≤ s.identity 2 ∧ s.identity 2 ≤ BitVec.toNat revHigh ∧ BitVec.toNat serLow ≤ s.identity 3 ∧ s.identity 3 ≤ BitVec.toNat serHigh) ∧
  (∃ (s : State),
    s.isSender = true ∧ s.control.nodeId = 255) ∧
  (∃ (s : State),
    s.isSender = true ∧ s.control.nodeId = 255 ∧ s.control.lss.configuring = false) ∧
  (∃ (s : State) (id : Word) (sub : Byte),
    s.isSender = true ∧ s.control.nodeId = 255 ∧ s.control.lss.configuring = false ∧ BitVec.toNat sub < 4 ∧ BitVec.toNat sub = s.control.lss.fastscanSub ∧ BitVec.toNat id = s.identity (BitVec.toNat sub)) ∧
  (∃ (s : State) (id : Byte),
    s.isSender = true ∧ s.control.lss.configuring = true ∧ 1 ≤ BitVec.toNat id ∧ BitVec.toNat id ≤ 127) ∧
  (∃ (s : State) (id : Byte),
    s.isSender = true ∧ s.control.lss.configuring = true ∧ (BitVec.toNat id = 0 ∨ 127 < BitVec.toNat id ∧ BitVec.toNat id ≠ 255)) ∧
  (∃ (s : State) (index : Byte) (r : Nat),
    s.isSender = true ∧ s.control.lss.configuring = true ∧ lssRate (BitVec.toNat index) = some r) ∧
  (∃ (s : State) (r : Nat),
    s.isSender = true ∧ s.control.lss.configuring = true ∧ s.control.lss.pendingRate = some r) ∧
  (∃ (s : State),
    s.isSender = true ∧ s.control.lss.configuring = true ∧ (s.storeWrite 2).1 = 0) ∧
  (∃ (s : State),
    s.isSender = true ∧ s.control.lss.configuring = true ∧ (s.storeWrite 2).1 ≠ 0) :=
  ⟨⟨canUp.wrB 0x3300 0x0D true, by decide +kernel⟩,
   ⟨canUp.wrB 0x3300 0x0D false, by decide +kernel⟩,
   ⟨canUp.wrN 0x1017 0 1, by decide +kernel⟩,
   ⟨canUp.wrN 0x1016 4 0x10001, 3, by decide +kernel⟩,
   ⟨(canUp.wrN 0x1803 1 0x483).wrN 0x1803 2 1, 3, by decide +kernel⟩,
   ⟨(canUp.wrN 0x1803 1 0x483).wrN 0x1803 2 240, 3, by decide +kernel⟩,
   ⟨(((canUp.wrN 0x1803 1 0x483).wrN 0x1803 2 254).wrN 0x1803 5 1).withControl fun k => { k with tpdoAt := vset k.tpdoAt 3 (some 0) }, 3, 0, by decide +kernel⟩,
   ⟨senderUp, 0x7D21, 0x9600, BitVec.ofNat 32 (senderUp.identity 2), BitVec.ofNat 32 (senderUp.identity 3), by exact ⟨by decide +kernel, identity_words⟩⟩,
   ⟨senderUp, 0x7D21, 0x9600, 0, 0xFFFFFFFF, 0, 0xFFFFFFFF, by exact ⟨by decide +kernel, by decide +kernel, by decide +kernel, by decide +kernel, by decide +kernel, Nat.zero_le _, Nat.le_of_lt_succ identity_serial⟩⟩,
   ⟨senderUp, by decide +kernel⟩,
   ⟨senderUp, by decide +kernel⟩,
   ⟨senderUp, 0x7D21, 0, by decide +kernel⟩,
   ⟨lssOn, 127, by decide +kernel⟩,
   ⟨lssOn, 0, by decide +kernel⟩,
   ⟨lssOn, 4, 0, by decide +kernel⟩,
   ⟨lssOn.withLss fun l => { l with pendingRate := some 0 }, 0, by decide +kernel⟩,
   ⟨lssOn.wrB 0x2E00 0x0F true, by decide +kernel⟩,
   ⟨lssOn.wrB 0x2E00 0x0F false, by decide +kernel⟩⟩

/-- Something meets the hypotheses of `CascadeAndChainTiming`, clause by clause. -/
theorem witness_CascadeAndChainTiming :
  (∃ (s : State) (link : Fin 2) (u : CascadeUnit),
    s.isSender = true ∧ s.linkUp (cascLink link) = true ∧ u.good = true ∧ u.kind = 4 ∧ u.ttl = 15 ∧ field u.body 0 1 = 1) ∧
  (∃ (s : State) (link : Fin 2),
    s.isSender = true ∧ s.cascUp link = true) ∧
  (∃ (s : State) (link : Fin 2) (u : CascadeUnit),
    let v := (s.takeUnit link u).2
    (s.takeUnit link u).1 = true ∧ u.kind = 2 ∧ u.ttl = 15 ∧ v.cascUp link = true ∧ field u.body 0 1 = 1 ∧ u.src = v.quartz.neighbour[link].priority) ∧
  (∃ (s : State) (link : Fin 2),
    s.quartz.parent = some link) ∧
  (∃ (s : State) (p : Fin 2) (c : Nat × Nat),
    s.leads p = true ∧ s.quartz.calDelay[p] = some c ∧ s.quartz.ringDelay[p].1 ≠ 0 ∧ s.quartz.ringDelay[p].2 ≠ 0) :=
  ⟨⟨cascX, 0, unit 4 15 [1], by decide +kernel⟩,
   ⟨cascX, 0, by decide +kernel⟩,
   ⟨cascX, 0, unit 2 15 [1], by decide +kernel⟩,
   ⟨onQuartz senderUp fun q => { q with parent := some 1 }, 1, by decide +kernel⟩,
   ⟨onQuartz ctlAB fun q => { q with calDelay := vset q.calDelay 0 (some (1, 2)), ringDelay := vset q.ringDelay 0 (9, 8) }, 0, (1, 2),
     by decide +kernel⟩⟩

/-- Something meets the hypotheses of `ChainsAndMap`, clause by clause. -/
theorem witness_ChainsAndMap :
  (∃ (s : State) (p : Fin 2),
    s.isSender = true ∧ s.portUp p = true ∧ s.lanes.link[chainLink p].slots < s.lanes.link[chainLink p].slotsPerMarker ∧
      s.hasTripped = true) ∧
  (∃ (s : State) (p : Fin 2),
    s.isSender = true ∧ s.portUp p = true ∧ s.lanes.link[chainLink p].slotsPerMarker ≤ s.lanes.link[chainLink p].slots) ∧
  (∃ (s : State) (p : Fin 2) (t0 : Nat) (x : Machine.Cell) (rest : List (Nat × Machine.Cell)),
    s.ports[p].relays = (t0, x) :: rest) ∧
  (∃ (s : State) (p : Fin 2) (txn : Nat) (g : GwTx),
    List.find? (fun g ↦ g.port == ↑p && g.txn == txn) s.control.gwOpen = some g ∧ g.retries = 0) ∧
  (∃ (s : State) (p : Fin 2) (txn : Nat) (g : GwTx) (n : Nat),
    List.find? (fun g ↦ g.port == ↑p && g.txn == txn) s.control.gwOpen = some g ∧ g.retries = n + 1) ∧
  (∃ (s : State) (p : Fin 2) (d : Discovery),
    s.ports[p].discovery = some d ∧ d.repeated = false ∧ unheard d.reports ≠ []) ∧
  (∃ (s : State) (p : Fin 2) (d : Discovery),
    s.ports[p].discovery = some d ∧ (d.repeated = true ∨ unheard d.reports = [])) ∧
  (∃ (s : State) (m : MapPending),
    let u := s.untilWall (s.tFrame (m.frame - 2))
    let all := (u.priority :: u.heardSenders).all m.accepted.contains
    s.isMaster = true ∧ s.ingress.pending = some m ∧ all = true ∧ m.refused = []) ∧
  (∃ (s : State) (m : MapPending),
    let u := s.untilWall (s.tFrame (m.frame - 2))
    let all := (u.priority :: u.heardSenders).all m.accepted.contains
    s.isMaster = true ∧ s.ingress.pending = some m ∧ (all = false ∨ m.refused ≠ [])) ∧
  (∃ (s : State) (link : Fin 2) (u : CascadeUnit),
    (s.takeUnit link u).1 = true ∧ u.kind = 5 ∧ field u.body 0 1 = 1) ∧
  (∃ (s : State) (link : Fin 2) (u : CascadeUnit),
    (s.takeUnit link u).1 = true ∧ u.kind = 5 ∧ field u.body 0 1 = 10) ∧
  (∃ (s : State) (link : Fin 2) (u : CascadeUnit),
    (s.takeUnit link u).1 = true ∧ u.kind = 5 ∧ field u.body 0 1 = 3) ∧
  (∃ (s : State) (link : Fin 2) (u : CascadeUnit) (m : MapPending),
    let v := (s.takeUnit link u).2
    let d := List.drop 1 u.body
    (s.takeUnit link u).1 = true ∧ u.kind = 5 ∧ v.ingress.pending = some m ∧ m.frame = field d 0 8 ∧ field u.body 0 1 = 6) ∧
  (∃ (s : State) (link : Fin 2) (u : CascadeUnit) (m : MapPending),
    let v := (s.takeUnit link u).2
    let d := List.drop 1 u.body
    (s.takeUnit link u).1 = true ∧ u.kind = 5 ∧ v.ingress.pending = some m ∧ m.frame = field d 0 8 ∧ field u.body 0 1 = 7) ∧
  (∃ (s : State) (p : Fin 2),
    s.leads p = true ∧ s.quartz.lockedOnce = true) ∧
  (∃ (s : State),
    s.isSender = true ∧ s.ingress.frustumUsed = true ∧ s.ingress.frustumStale = false) :=
  ⟨⟨{ senderUp.withLink 1 fun k => { k with phase := .up, txSet := 1 } with thermal := { Thermal.reset with phase := .latched } }, 1,
     by decide +kernel⟩,
   ⟨senderUp.withLink 1 fun k => { k with phase := .up, txSet := 1, slots := 2560 }, 1, by decide +kernel⟩,
   ⟨onPort senderUp 1 fun x => { x with relays := [(7, cell0)] }, 1, 7, cell0, [], by decide +kernel⟩,
   ⟨senderUp.withControl fun k => { k with gwOpen := [gw 0] }, 0, 1, gw 0, by decide +kernel⟩,
   ⟨senderUp.withControl fun k => { k with gwOpen := [gw 1] }, 0, 1, gw 1, 0, by decide +kernel⟩,
   ⟨onPort senderUp 0 fun x => { x with discovery := some (discoveryOf false [reportNaming2]) }, 0, discoveryOf false [reportNaming2],
     by decide +kernel⟩,
   ⟨onPort senderUp 0 fun x => { x with discovery := some (discoveryOf true []) }, 0, discoveryOf true [], by decide +kernel⟩,
   ⟨masterUp.withIngress fun g => { g with pending := some (mapFor 2 (List.range 32)) }, mapFor 2 (List.range 32), by decide +kernel⟩,
   ⟨masterUp.withIngress fun g => { g with pending := some (mapFor 2 []) }, mapFor 2 [], by decide +kernel⟩,
   ⟨cascX, 0, unit 5 0 [1], by decide +kernel⟩,
   ⟨cascX, 0, unit 5 0 [10], by decide +kernel⟩,
   ⟨cascX, 0, unit 5 0 [3], by decide +kernel⟩,
   ⟨cascX.withIngress fun g => { g with pending := some (mapFor 9 []) }, 0, unit 5 0 [6, 9], mapFor 9 [], by decide +kernel⟩,
   ⟨cascX.withIngress fun g => { g with pending := some (mapFor 9 []) }, 0, unit 5 0 [7, 9], mapFor 9 [], by decide +kernel⟩,
   ⟨onQuartz ctlAB fun q => { q with lockedOnce := true }, 0, by decide +kernel⟩,
   ⟨senderUp.withIngress fun g => { g with frustumUsed := true }, by decide +kernel⟩⟩

/-- Something meets the hypotheses of `ClockLossHold`, clause by clause. -/
theorem witness_ClockLossHold :
  (∃ (s : State),
    s.clocked = true ∧ s.clocks.hold = false) ∧
  (∃ (s : State),
    s.clocked = true ∧ s.clocks.hold = true ∧ (∀ (p : Fin 8), pllUsed s.role p = true → s.clocks.pllLocked[p] = true)) :=
  ⟨⟨senderUp, by decide +kernel⟩,
   ⟨senderUp.withClocks fun c => { c with hold := true, pllLocked := vset (Vector.replicate 8 true) 5 false }, by decide +kernel⟩⟩

/-- Something meets the hypotheses of `ClocksAndLevels`, clause by clause. -/
theorem witness_ClocksAndLevels :
  (∃ (s : State) (p : Fin 8),
    let c := s.clocks
    s.clocked = true ∧ pllUsed s.role p = true ∧ c.pllLocked[p] = false ∧ c.pllLost[p] = true) ∧
  (∃ (s : State) (p : Fin 8),
    let c := s.clocks
    s.clocked = true ∧ pllUsed s.role p = true ∧ c.pllLocked[p] = false ∧ c.pllLost[p] = false ∧ c.hold = false) ∧
  (∃ (s : State) (p : Fin 8) (t : Nat),
    let c := s.clocks
    s.clocked = true ∧ c.pllRelocked[p] = some t ∧ c.hold = false) ∧
  (∃ (s : State) (p : Fin 8),
    let c := s.clocks
    s.clocked = true ∧ c.pllLocked[p] = true) ∧
  (∃ (s : State),
    let c := s.clocks
    s.clocked = true ∧ c.xtalLost = false) ∧
  (∃ (s : State),
    let c := s.clocks
    s.clocked = true ∧ c.xtalLost = true) ∧
  (∃ (s : State) (d : Fin 60),
    s.clocked = true ∧ autoGated ↑d = true ∧ heldDown s.role ↑d = false) ∧
  (∃ (s : State) (d : Fin 60) (toSafe : Bool),
    s.clocked = true ∧ s.clocks.dom[d].switching = some toSafe) ∧
  (∃ (s : State) (b1 : Nat),
    s.clocked = true ∧ s.fixedLevel = none ∧ 85 < b1 ∧ s.level < 3) ∧
  (∃ (s : State) (b1 : Nat) (b50 : Nat),
    s.clocked = true ∧ s.fixedLevel = none ∧ b1 ≤ 85 ∧ b50 < 40 ∧ 0 < s.level) ∧
  (∃ (s : State) (l : Nat),
    s.clocked = true ∧ s.fixedLevel = some l) ∧
  (∃ (s : State) (mA : Nat),
    s.clocked = true ∧ mA < 2 ^ 32) ∧
  (∃ (s : State) (c : LevelChange),
    s.clocked = true ∧ s.clocks.change = some c ∧ (c.fromLevel < c.toLevel ∧ c.stage = 1 ∨ c.toLevel ≤ c.fromLevel ∧ c.stage = 2)) ∧
  (∃ (s : State) (c : LevelChange),
    s.clocked = true ∧ s.clocks.change = some c ∧ (c.fromLevel < c.toLevel ∧ c.stage = 2 ∨ c.toLevel ≤ c.fromLevel ∧ c.stage = 3)) ∧
  (∃ (s : State) (d : Fin 60),
    s.clocked = true ∧ s.clocks.freqRun = some ↑d) :=
  ⟨⟨senderUp.withClocks fun c => { c with pllLost := vset c.pllLost 0 true }, 0, by decide +kernel⟩,
   ⟨tileUp, 7, by decide +kernel⟩,
   ⟨tileUp.withClocks fun c => { c with pllRelocked := vset c.pllRelocked 7 (some 5) }, 7, 5, by decide +kernel⟩,
   ⟨tileUp.withClocks fun c => { c with pllLocked := vset c.pllLocked 7 true }, 7, by decide +kernel⟩,
   ⟨tileUp, by decide +kernel⟩,
   ⟨tileUp.withClocks fun c => { c with xtalLost := true }, by decide +kernel⟩,
   ⟨senderUp, 57, by decide +kernel⟩,
   ⟨senderUp.withDomain 59 fun d => { d with switching := some true }, 59, true, by decide +kernel⟩,
   ⟨(tileUp.wrN 0x2D00 1 0).wrN 0x2D00 3 2, 86, by decide +kernel⟩,
   ⟨(tileUp.wrN 0x2D00 1 0).wrN 0x2D00 3 1, 85, 39, by decide +kernel⟩,
   ⟨tileUp.withClocks fun c => { c with pinned := some 3 }, 3, by decide +kernel⟩,
   ⟨tileUp, 2 ^ 32 - 1, by decide +kernel⟩,
   ⟨tileUp.withClocks fun c => { c with change := some { fromLevel := 0, toLevel := 1, stage := 1 } }, { fromLevel := 0, toLevel := 1, stage := 1 }, by decide +kernel⟩,
   ⟨tileUp.withClocks fun c => { c with change := some { fromLevel := 1, toLevel := 1, stage := 3 } }, { fromLevel := 1, toLevel := 1, stage := 3 }, by decide +kernel⟩,
   ⟨tileUp.withClocks fun c => { c with freqRun := some 59 }, 59, by decide +kernel⟩⟩

/-- Something meets the hypotheses of `ColdResetsAndReleases`, clause by clause. -/
theorem witness_ColdResetsAndReleases :
  (∃ (s : State) (straps : BitVec 4),
    s.life = Life.inReset ∧ straps.toNat % 4 ≠ 1 ∧ straps.toNat % 4 ≠ 2) ∧
  (∃ (s : State) (straps : BitVec 4) (mib : Nat),
    s.life = Life.inReset ∧ straps.toNat % 4 = 1 ∧ mib < 64) ∧
  (∃ (s : State) (straps : BitVec 4),
    s.life = Life.inReset ∧ straps.toNat % 4 = 2 ∧ straps.getLsbD 2 = true) ∧
  (∃ (s : State),
    s.life = Life.coldStart ∧ s.pointing = false) ∧
  (∃ (s : State),
    s.life = Life.warmStart) :=
  ⟨⟨State.reset, 3, by decide +kernel⟩,
   ⟨State.reset, 1, 63, by decide +kernel⟩,
   ⟨State.reset, 6, by decide +kernel⟩,
   ⟨{ State.reset with life := .coldStart }, by decide +kernel⟩,
   ⟨{ State.reset with life := .warmStart }, by decide +kernel⟩⟩

/-- Something meets the hypotheses of `CommandedResets`, clause by clause. -/
theorem witness_CommandedResets :
  (∃ (s : State),
    s.isSender = true ∧ s.control.nodeId ≠ 255 ∧ s.rdB 0x3300 13 = true ∧ s.cooling = false) ∧
  (∃ (s : State),
    s.isSender = true ∧ s.control.nodeId ≠ 255 ∧ s.rdB 0x3300 13 = false) ∧
  (∃ (s : State),
    s.up = true) ∧
  (∃ (s : State),
    let due := fun (c : Fin 2) ↦ (s.until_ (s.clocks.wdtRestarted[c] + s.clocks.wdtInForce[c] * 1000000)).raise 0xA105 (det 255 ↑c)
    let recent := List.filter (fun t ↦ decide ((due 0).now < t + 60 * 1000000000)) (due 0).clocks.wdtExpiries
    s.up = true ∧ 2 ≤ recent.length) ∧
  (∃ (s : State),
    let due := fun (c : Fin 2) ↦ (s.until_ (s.clocks.wdtRestarted[c] + s.clocks.wdtInForce[c] * 1000000)).raise 0xA105 (det 255 ↑c)
    let recent := List.filter (fun t ↦ decide ((due 0).now < t + 60 * 1000000000)) (due 0).clocks.wdtExpiries
    s.up = true ∧ recent.length < 2) ∧
  (∃ (s : State) (since : Nat),
    let trips := (s.thermal.tripTimes.filter fun t => decide (since < t + 3600 * 1000000000)).length
    s.up = true ∧ s.thermal.phase = TripPhase.cooling since ∧ 16 ≤ s.thermal.coolRounds ∧ trips < 3) ∧
  (∃ (s : State) (since : Nat),
    let trips := (s.thermal.tripTimes.filter fun t => decide (since < t + 3600 * 1000000000)).length
    s.up = true ∧ s.thermal.phase = TripPhase.cooling since ∧ 16 ≤ s.thermal.coolRounds ∧ 3 ≤ trips) :=
  ⟨⟨canUp.wrB 0x3300 0x0D true, by decide +kernel⟩,
   ⟨canUp.wrB 0x3300 0x0D false, by decide +kernel⟩,
   ⟨tileUp, by decide +kernel⟩,
   ⟨tileUp.withClocks fun c => { c with wdtExpiries := [50000000, 0] }, by decide +kernel⟩,
   ⟨tileUp, by decide +kernel⟩,
   ⟨{ tileUp with thermal := { Thermal.reset with phase := .cooling 0, coolRounds := 16, tripTimes := [0, 0] } }, 0, by decide +kernel⟩,
   ⟨{ tileUp with thermal := { Thermal.reset with phase := .cooling 0, coolRounds := 16, tripTimes := [0, 0, 0] } }, 0, by decide +kernel⟩⟩

/-- Something meets the hypotheses of `CorrectionAndSweeps`, clause by clause. -/
theorem witness_CorrectionAndSweeps :
  (∃ (s : State) (i : Fin 2),
    s.isTile = true ∧ s.video.colour.verifying = some ↑i) ∧
  (∃ (s : State) (l : CorrLoad),
    let row := s.rdN 0x2930 8 + 1
    s.isTile = true ∧ s.video.colour.load = some l ∧ s.video.compose.slot = none ∧ row < field l.bytes 10 2) ∧
  (∃ (s : State) (l : CorrLoad),
    let row := s.rdN 0x2930 8 + 1
    s.isTile = true ∧ s.video.colour.load = some l ∧ s.video.compose.slot = none ∧ field l.bytes 10 2 ≤ row) ∧
  (∃ (s : State) (r : Nat × Nat) (rest : List (Nat × Nat)),
    s.isTile = true ∧ s.video.colour.rereads = r :: rest) ∧
  (∃ (s : State) (p : Fin 64),
    let sh := s.schedShape ((s.genFor (s.nextSlot p).1).getD s.staging) p (s.nextSlot p).1
    s.isTile = true ∧ s.rdN (0x2A00 + ↑p) 10 = 3 ∧ 8 ≤ sh.tg) ∧
  (∃ (s : State) (p : Fin 64),
    let sh := s.schedShape ((s.genFor (s.nextSlot p).1).getD s.staging) p (s.nextSlot p).1
    s.isTile = true ∧ s.rdN (0x2A00 + ↑p) 10 = 3 ∧ sh.tg < 8) ∧
  (∃ (s : State) (p : Fin 64),
    s.isTile = true ∧ s.lamps.port[p].sched ≠ []) ∧
  (∃ (s : State) (scope : Nat) (since : Nat),
    s.isTile = true ∧ s.lamps.sweep = some (scope, since) ∧ since + 512 ≤ s.quartz.frame) ∧
  (∃ (s : State) (epoch : Nat) (p : Fin 64),
    s.isTile = true ∧ s.epochOver = some epoch ∧ ((s.genNow).getD s.staging).lamps p = 0) :=
  ⟨⟨tileUp.withColour fun c => { c with verifying := some 1 }, 1, by decide +kernel⟩,
   ⟨tileUp.withColour fun c => { c with load := some { image := 0, bytes := List.replicate 10 0 ++ [2] } }, { image := 0, bytes := List.replicate 10 0 ++ [2] }, by decide +kernel⟩,
   ⟨tileUp.withColour fun c => { c with load := some { image := 0, bytes := List.replicate 10 0 ++ [1] } }, { image := 0, bytes := List.replicate 10 0 ++ [1] }, by decide +kernel⟩,
   ⟨tileUp.withColour fun c => { c with rereads := [(1, 2)] }, (1, 2), [], by decide +kernel⟩,
   ⟨tileUp.wrN 0x2A3F 0x0A 3, 63, by decide +kernel⟩,
   ⟨((tileUp.wrN 0x2A3F 0x0A 3).wrN 0x2A3F 5 32).wrN 0x2A80 3 65535, 63, by decide +kernel⟩,
   ⟨tileUp.withPort 0 fun q => { q with sched := [{ pos := 0, frame := 0, slot := 0, body := [], lamps := [], accepted := false }] }, 0, by decide +kernel⟩,
   ⟨{ onLamps tileUp fun l => { l with sweep := some (255, 0) } with quartz := { Quartz.reset with frame := 512 } }, 255, 0, by decide +kernel⟩,
   ⟨onQuartz tileUp fun q => { q with frame := 127 }, 1, 63, by decide +kernel⟩⟩

/-- Something meets the hypotheses of `EngineFramerInstructions`, clause by clause. -/
theorem witness_EngineFramerInstructions :
  (∃ (s : State) (p : Fin 64) (ra : Fin 16) (imm : BitVec 18) (rd : Fin 16),
    let e := s.lamps.engine[p]
    s.fetches p (wordI 0x30 rd ra imm) ∧ bits imm.toNat 17 10 = 0 ∧ e.openFrame = none ∧ imm.getLsbD 8 = false) ∧
  (∃ (s : State) (p : Fin 64) (ra : Fin 16) (imm : BitVec 18) (rd : Fin 16),
    let e := s.lamps.engine[p]
    let v := BitVec.toNat (e.reg ra)
    let f := s.fullFrame e.bankFrame
    let k := e.bankSlot.toNat
    let edge := s.refEdge f k (BitVec.toNat e.arm)
    s.fetches p (wordI 0x30 rd ra imm) ∧ bits imm.toNat 17 10 = 0 ∧ e.openFrame = none ∧ imm.getLsbD 8 = true ∧ e.refs.contains (f, k) = false ∧ e.tx = [] ∧ s.quartz.wall + (e.gapUntil - s.now) * subNs ≤ edge - edgeBits (v % 131072) * s.bitPeriod p * subNs) ∧
  (∃ (s : State) (p : Fin 64) (ra : Fin 16) (imm : BitVec 18),
    s.fetches p (wordI 0x31 0 ra imm) ∧ 1 ≤ imm.toNat ∧ imm.toNat ≤ 32) ∧
  (∃ (s : State) (p : Fin 64) (imm : BitVec 18),
    s.fetches p (wordI 0x32 0 0 imm) ∧ imm.getLsbD 17 = false) ∧
  (∃ (s : State) (p : Fin 64) (ra rb : Fin 16),
    let e := s.lamps.engine[p]
    let v := BitVec.toNat (e.reg ra)
    s.fetches p (wordR 0x33 0 ra rb 0) ∧ 1 ≤ v ∧ v ≤ 62) ∧
  (∃ (s : State) (p : Fin 64) (ra : Fin 16), s.fetches p (wordR 0x34 0 ra 0 0)) ∧
  (∃ (s : State) (p : Fin 64) (ra : Fin 16), s.fetches p (wordR 0x35 0 ra 0 0)) :=
  ⟨⟨engineAt (wordI 0x30 1 0 1) id, 0, 0, 1, 1, engineAt_fetches _, by decide +kernel, by decide +kernel, by decide +kernel⟩,
   ⟨engineAt (wordI 0x30 1 0 0x101) fun e => { e with bankFrame := 100 }, 0, 0, 0x101, 1, fetches_of (by decide +kernel) (by decide +kernel) (by decide +kernel) (by decide +kernel) (by decide +kernel) (by decide +kernel), by decide +kernel, by decide +kernel, by decide +kernel, by decide +kernel, by decide +kernel, by decide +kernel⟩,
   ⟨engineAt (wordI 0x31 0 15 32) id, 0, 15, 32, engineAt_fetches _, by decide +kernel, by decide +kernel⟩,
   ⟨engineAt (wordI 0x32 0 0 0x1FFFF) id, 0, 0x1FFFF, engineAt_fetches _, by decide +kernel⟩,
   ⟨engineAt (wordR 0x33 0 1 2 0) fun e => e.setReg 1 62, 0, 1, 2, fetches_of (by decide +kernel) (by decide +kernel) (by decide +kernel) (by decide +kernel) (by decide +kernel) (by decide +kernel), by decide +kernel, by decide +kernel⟩,
   ⟨engineAt (wordR 0x34 0 1 0 0) id, 0, 1, engineAt_fetches _⟩,
   ⟨engineAt (wordR 0x35 0 1 0 0) id, 0, 1, engineAt_fetches _⟩⟩

/-- Something meets the hypotheses of `EngineImmediateArithmetic`, for each opcode. -/
theorem witness_EngineImmediateArithmetic : ∀ op : Nat, ∃ (s : State) (p : Fin 64) (rd ra : Fin 16) (imm : BitVec 18),
    s.fetches p (wordI op rd ra imm) ∧ imm.toNat < 32 :=
  fun op => ⟨engineAt (wordI op 1 2 31) id, 0, 1, 2, 31, engineAt_fetches _, by decide +kernel⟩

/-- Something meets the hypotheses of `EngineLife`, clause by clause. -/
theorem witness_EngineLife :
  (∃ (s : State) (p : Fin 64),
    s.isTile = true ∧ (s.genNow.getD s.staging).portOn ↑p = true ∧ s.lamps.port[p].retryAt = none) ∧
  (∃ (s : State) (p : Fin 64) (t : Nat),
    s.isTile = true ∧ (s.genNow.getD s.staging).portOn ↑p = true ∧ s.lamps.port[p].retryAt = some t) ∧
  (∃ (s : State) (p : Fin 64),
    s.isTile = true ∧ s.needsLoad p = false) ∧
  (∃ (s : State) (p : Fin 64),
    let u := s.loadEngine p s.microcode
    s.isTile = true ∧ s.needsLoad p = true ∧ u.lamps.engine[p].run = EngineRun.running) ∧
  (∃ (s : State) (p : Fin 64),
    let u := s.loadEngine p s.microcode
    s.isTile = true ∧ s.needsLoad p = true ∧ u.lamps.engine[p].run ≠ EngineRun.running) ∧
  (∃ (s : State) (p : Fin 64),
    s.isTile = true ∧ s.lamps.engine[p].run = EngineRun.running ∧ s.rdN (0x2A00 + ↑p) 10 ≠ 0 ∧ s.rdN (0x2A00 + ↑p) 10 ≠ 4) :=
  ⟨⟨tileUp.wrN 0x2A00 1 1, 0, by decide +kernel⟩,
   ⟨(tileUp.wrN 0x2A00 1 1).withPort 0 fun q => { q with retryAt := some 10000000000 }, 0, 10000000000, by decide +kernel⟩,
   ⟨withMicro (engine0 fun e => { e with profile := some 0 }), 0, by decide +kernel⟩,
   ⟨withMicro tileUp, 63, by exact ⟨by decide +kernel, by decide +kernel, by rw [withMicro_microcode]; exact oneProfile_runs⟩⟩,
   ⟨tileUp, 63, by decide +kernel⟩,
   ⟨(engine0 id).wrN 0x2A00 0x0A 3, 0, by decide +kernel⟩⟩

/-- Something meets the hypotheses of `EngineMailboxesAndSemaphores`, for each opcode. -/
theorem witness_EngineMailboxesAndSemaphores : ∀ op : Nat, ∃ (s : State) (p : Fin 64) (rd : Fin 16) (imm : BitVec 18) (n : Fin 32),
    s.fetches p (wordI op rd 0 imm) ∧ imm.toNat = ↑n :=
  fun op => ⟨engineAt (wordI op 0 0 31) id, 0, 0, 31, 31, engineAt_fetches _, by decide +kernel⟩

set_option maxRecDepth 100000 in
/-- Something meets the hypotheses of `EngineMemoryAndBranches`, clause by clause. -/
theorem witness_EngineMemoryAndBranches :
  (∃ (s : State) (p : Fin 64) (rd ra : Fin 16) (imm : BitVec 18),
    let e := s.lamps.engine[p]
    let addr := BitVec.toNat (e.reg ra + BitVec.ofInt 32 imm.toInt)
    s.fetches p (wordI 0x18 rd ra imm) ∧ addr ≤ 1023 ∧ e.damaged.contains (addr + 2048) = false) ∧
  (∃ (s : State) (p : Fin 64) (rd ra : Fin 16) (imm : BitVec 18),
    let e := s.lamps.engine[p]
    let addr := BitVec.toNat (e.reg ra + BitVec.ofInt 32 imm.toInt)
    s.fetches p (wordI 0x18 rd ra imm) ∧ 1023 < addr) ∧
  (∃ (s : State) (p : Fin 64) (rd ra : Fin 16) (imm : BitVec 18),
    let e := s.lamps.engine[p]
    let addr := BitVec.toNat (e.reg ra + BitVec.ofInt 32 imm.toInt)
    s.fetches p (wordI 0x18 rd ra imm) ∧ e.damaged.contains (addr + 2048) = true) ∧
  (∃ (s : State) (p : Fin 64) (rd ra : Fin 16) (imm : BitVec 18),
    let e := s.lamps.engine[p]
    let addr := BitVec.toNat (e.reg ra + BitVec.ofInt 32 imm.toInt)
    s.fetches p (wordI 0x19 rd ra imm) ∧ addr ≤ 1023) ∧
  (∀ op : Fin 4, ∃ (s : State) (p : Fin 64) (ra rb : Fin 16) (imm : BitVec 18),
    let e := s.lamps.engine[p]
    let target := (BitVec.ofNat 32 (e.pc + 1) + BitVec.ofInt 32 imm.toInt).toNat
    s.fetches p (wordI (0x20 + op) ra rb imm) ∧ e.reg ra = e.reg rb ∧ target < e.codeWords ∧ target < 2048) ∧
  (∀ op : Fin 4, ∃ (s : State) (p : Fin 64) (ra rb : Fin 16) (imm : BitVec 18),
    let e := s.lamps.engine[p]
    let target := (BitVec.ofNat 32 (e.pc + 1) + BitVec.ofInt 32 imm.toInt).toNat
    s.fetches p (wordI (0x20 + op) ra rb imm) ∧ (e.reg ra).toNat < (e.reg rb).toNat ∧ target < e.codeWords ∧ target < 2048) ∧
  (∃ (s : State) (p : Fin 64) (ra : Fin 16) (imm : BitVec 18),
    let e := s.lamps.engine[p]
    s.fetches p (wordI 0x24 ra 0 imm) ∧ ra ≠ 0 ∧ e.reg ra = 1) ∧
  (∃ (s : State) (p : Fin 64) (ra : Fin 16) (imm : BitVec 18),
    let e := s.lamps.engine[p]
    let target := (BitVec.ofNat 32 (e.pc + 1) + BitVec.ofInt 32 imm.toInt).toNat
    s.fetches p (wordI 0x24 ra 0 imm) ∧ ra ≠ 0 ∧ e.reg ra ≠ 1 ∧ target < e.codeWords ∧ target < 2048) ∧
  (∃ (s : State) (p : Fin 64) (rd ra : Fin 16) (imm : BitVec 18),
    let e := s.lamps.engine[p]
    let addr := BitVec.toNat (e.reg ra + BitVec.ofInt 32 imm.toInt)
    s.fetches p (wordI 0x26 rd ra imm) ∧ addr < e.codeWords ∧ addr < 2048) ∧
  (∃ (s : State) (p : Fin 64), s.engineRuns p ∧ s.lamps.engine[p].damaged.contains s.lamps.engine[p].pc = true) ∧
  (∃ (s : State) (p : Fin 64), s.engineRuns p ∧ opAssigned (bits s.lamps.engine[p].fetch.toNat 31 26) = false) ∧
  (∃ (s : State) (p : Fin 64) (rd ra : Fin 16) (imm : BitVec 18),
    let e := s.lamps.engine[p]
    s.engineRuns p ∧ e.damaged.contains e.pc = false ∧ opAssigned (bits e.fetch.toNat 31 26) = true ∧ e.fetch ≠ wordI 0x18 rd ra imm) :=
  ⟨⟨engineAt (wordI 0x18 1 0 1023) id, 0, 1, 0, 1023, engineAt_fetches _, by decide +kernel, by decide +kernel⟩,
   ⟨engineAt (wordI 0x18 1 0 1024) id, 0, 1, 0, 1024, engineAt_fetches _, by decide +kernel⟩,
   ⟨engineAt (wordI 0x18 1 0 7) fun e => { e with damaged := [2055] }, 0, 1, 0, 7, fetches_of (by decide +kernel) (by decide +kernel) (by decide +kernel) (by decide +kernel) (by decide +kernel) (by decide +kernel), by decide +kernel⟩,
   ⟨engineAt (wordI 0x19 1 0 1023) id, 0, 1, 0, 1023, engineAt_fetches _, by decide +kernel⟩,
   fun op => ⟨engineAt (wordI (0x20 + op) 0 0 2046) id, 0, 0, 0, 2046, engineAt_fetches _, rfl, by revert op; decide +kernel, by revert op; decide +kernel⟩,
   fun op => ⟨engineAt (wordI (0x20 + op) 0 1 2046) fun e => e.setReg 1 1, 0, 0, 1, 2046,
     fetches_of (by revert op; decide +kernel) (by revert op; decide +kernel) (by revert op; decide +kernel) (by revert op; decide +kernel)
       (by revert op; decide +kernel) (by revert op; decide +kernel), by revert op; decide +kernel, by revert op; decide +kernel, by revert op; decide +kernel⟩,
   ⟨engineAt (wordI 0x24 15 0 5) fun e => e.setReg 15 1, 0, 15, 5, fetches_of (by decide +kernel) (by decide +kernel) (by decide +kernel) (by decide +kernel) (by decide +kernel) (by decide +kernel), by decide +kernel, by decide +kernel⟩,
   ⟨engineAt (wordI 0x24 15 0 2046) id, 0, 15, 2046, engineAt_fetches _, by decide +kernel, by decide +kernel, by decide +kernel, by decide +kernel⟩,
   ⟨engineAt (wordI 0x26 1 0 2047) id, 0, 1, 0, 2047, engineAt_fetches _, by decide +kernel, by decide +kernel⟩,
   ⟨engine0 fun e => { e with damaged := [0] }, 0, ⟨by decide +kernel, by decide +kernel, by decide +kernel, by decide +kernel⟩, by decide +kernel⟩,
   ⟨engineAt 0x34000000 id, 0, ⟨by decide +kernel, by decide +kernel, by decide +kernel, by decide +kernel⟩, by decide +kernel⟩,
   ⟨engineAt 0 id, 0, 1, 0, 0, ⟨by decide +kernel, by decide +kernel, by decide +kernel, by decide +kernel⟩, by decide +kernel, by decide +kernel, by decide +kernel⟩⟩

/-- Something meets the hypotheses of `EngineRegisterArithmetic`, for each opcode. -/
theorem witness_EngineRegisterArithmetic : ∀ op : Nat, ∃ (s : State) (p : Fin 64) (rd ra rb : Fin 16),
    s.fetches p (wordR op rd ra rb 0) :=
  fun op => ⟨engineAt (wordR op 1 2 3 0) id, 0, 1, 2, 3, engineAt_fetches _⟩

/-- Something meets the hypotheses of `EngineReturnsAndDiagnostics`, clause by clause. -/
theorem witness_EngineReturnsAndDiagnostics :
  (∃ (s : State) (p : Fin 64) (rd ra : Fin 16), s.fetches p (wordR 0x36 rd ra 0 0)) ∧
  (∃ (s : State) (p : Fin 64) (rd : Fin 16), s.fetches p (wordR 0x38 rd 0 0 0) ∧ s.lamps.engine[p].returns = []) ∧
  (∃ (s : State) (p : Fin 64) (rd : Fin 16) (r : Return) (rest : List Return),
    s.fetches p (wordR 0x38 rd 0 0 0) ∧ s.lamps.engine[p].returns = r :: rest) ∧
  (∃ (s : State) (p : Fin 64), s.fetches p (wordR 0x39 0 0 0 0)) ∧
  (∃ (s : State) (p : Fin 64) (rd : Fin 16), s.fetches p (wordR 0x3C rd 0 0 0) ∧ s.lamps.port[p].probes = []) ∧
  (∃ (s : State) (p : Fin 64) (rd : Fin 16) (r : Probe) (rest : List Probe),
    s.fetches p (wordR 0x3C rd 0 0 0) ∧ s.lamps.port[p].probes = r :: rest) ∧
  (∃ (s : State) (p : Fin 64) (ra rb : Fin 16),
    let v := BitVec.toNat (s.lamps.engine[p].reg ra)
    s.fetches p (wordR 0x3A 0 ra rb 0) ∧ s.lamps.port[p].alerts.contains (bits v 5 0) = false) ∧
  (∃ (s : State) (p : Fin 64) (ra : Fin 16) (f : Nat) (k : Fin 4) (c : Sched),
    let e := s.lamps.engine[p]
    let q := s.lamps.port[p]
    let v := BitVec.toNat (e.reg ra)
    s.fetches p (wordR 0x3B 0 ra 0 0) ∧ List.find? (fun r ↦ r.1 % 16 == bits v 9 6 && r.2 == bits v 11 10) (e.refs.take 2) = some (f, ↑k) ∧ List.find? (fun x ↦ x.pos == bits v 5 0 && x.frame == f && x.slot == ↑k && x.accepted) (q.sched ++ q.schedOld) = some c ∧ q.alerts.contains (bits v 5 0) = false) :=
  ⟨⟨engineAt (wordR 0x36 1 2 0 0) id, 0, 1, 2, engineAt_fetches _⟩,
   ⟨engineAt (wordR 0x38 1 0 0 0) id, 0, 1, engineAt_fetches _, by decide +kernel⟩,
   ⟨engineAt (wordR 0x38 1 0 0 0) fun e => { e with returns := [{ crcClass := 0, cut := false, cmd := 1, words := [], read := 0 }] }, 0, 1, { crcClass := 0, cut := false, cmd := 1, words := [], read := 0 }, [], fetches_of (by decide +kernel) (by decide +kernel) (by decide +kernel) (by decide +kernel) (by decide +kernel) (by decide +kernel), by decide +kernel⟩,
   ⟨engineAt (wordR 0x39 0 0 0 0) id, 0, engineAt_fetches _⟩,
   ⟨engineAt (wordR 0x3C 1 0 0 0) id, 0, 1, engineAt_fetches _, by decide +kernel⟩,
   ⟨(engineAt (wordR 0x3C 1 0 0 0) id).withPort 0 fun q => { q with probes := [{ pos := 0, line := 0, ch := 0, slot := 0, tag := 0, lamp := 0, frame := 0 }] }, 0, 1, { pos := 0, line := 0, ch := 0, slot := 0, tag := 0, lamp := 0, frame := 0 }, [], fetches_of (by decide +kernel) (by decide +kernel) (by decide +kernel) (by decide +kernel) (by decide +kernel) (by decide +kernel), by decide +kernel⟩,
   ⟨(engineAt (wordR 0x3A 0 0 1 0) id).withPort 0 fun q => { q with alerts := [1] }, 0, 0, 1, fetches_of (by decide +kernel) (by decide +kernel) (by decide +kernel) (by decide +kernel) (by decide +kernel) (by decide +kernel), by decide +kernel⟩,
   ⟨(engineAt (wordR 0x3B 0 0 0 0) fun e => { e with refs := [(16, 0)] }).withPort 0 fun q => { q with schedOld := [{ pos := 0, frame := 16, slot := 0, body := [], lamps := [], accepted := true }] }, 0, 0, 16, 0, { pos := 0, frame := 16, slot := 0, body := [], lamps := [], accepted := true }, fetches_of (by decide +kernel) (by decide +kernel) (by decide +kernel) (by decide +kernel) (by decide +kernel) (by decide +kernel), by decide +kernel, by decide +kernel, by decide +kernel⟩⟩

/-- Something meets the hypotheses of `EngineSpecialRegistersAndWaits`, clause by clause. -/
theorem witness_EngineSpecialRegistersAndWaits :
  (∃ (s : State) (p : Fin 64) (imm : BitVec 18) (x : Nat),
    s.fetches p (wordI 0x28 1 0 imm) ∧ s.special p imm.toNat = some x ∧ imm ≠ 14) ∧
  (∀ w : Word, ∃ (s : State) (p : Fin 64), s.fetches p w) ∧
  (∃ (s : State) (p : Fin 64) (mask : Word) (rd : Fin 16),
    s.isTile = true ∧ s.lamps.engine[p].wait = Wait.cond mask rd ∧ BitVec.ofNat 32 (s.conditions p) &&& mask ≠ 0) ∧
  (∃ (s : State) (p : Fin 64) (t : Word),
    s.isTile = true ∧ s.lamps.engine[p].wait = Wait.time t ∧ s.reached t = true) ∧
  (∃ (s : State) (p : Fin 64) (t : Word),
    s.isTile = true ∧ s.lamps.engine[p].wait = Wait.time t ∧ s.reached t = false) :=
  ⟨⟨engineAt (wordI 0x28 1 0 0x13) id, 0, 0x13, 0, engineAt_fetches _, by decide +kernel, by decide +kernel⟩,
   fun w => ⟨engineAt w id, 0, engineAt_fetches w⟩,
   ⟨engine0 fun e => { e with wait := .cond 0x20 1 }, 0, 0x20, 1, by decide +kernel⟩,
   ⟨engine0 fun e => { e with wait := .time 0x80000000 }, 0, 0x80000000, by decide +kernel⟩,
   ⟨engine0 fun e => { e with wait := .time 0x7FFFFFFF }, 0, 0x7FFFFFFF, by decide +kernel⟩⟩

/-- Something meets the hypotheses of `FillsCommitsAndComposition`, clause by clause. -/
theorem witness_FillsCommitsAndComposition :
  (∃ (s : State) (f : Nat),
    s.isTile = true ∧ s.video.store.filling = some f ∧ s.keepsHeld = false) ∧
  (∃ (s : State) (p : CommitPending),
    s.isTile = true ∧ s.video.compose.pending = some p ∧ s.feedLost = true) ∧
  (∃ (s : State) (p : CommitPending),
    s.isTile = true ∧ s.video.compose.pending = some p ∧ s.feedLost = false ∧ s.repeatOnly = true) ∧
  (∃ (s : State) (p : CommitPending),
    let u := s.untilWall (s.deadline p.frame)
    s.isTile = true ∧ s.video.compose.pending = some p ∧ s.feedLost = false ∧ s.repeatOnly = false ∧ p.full = false ∧ (p.fromChain && u.needsFifth p.frame) = false) ∧
  (∃ (s : State) (k : Fin 4) (d : Damage) (src : SlotSource),
    d.generations = false ∧ s.isTile = true ∧ s.repeatOnly = false ∧ s.video.compose.slot = none ∧ s.video.compose.slotsDone = ↑k ∧ ↑k < (s.setFor s.video.compose.frame).s ∧ s.video.store.filling ≠ none ∧ s.slotSource k = some src) ∧
  (∃ (s : State) (k : Fin 4) (d : Damage),
    d.generations = true ∧ s.isTile = true ∧ s.repeatOnly = false ∧ s.video.compose.slot = none ∧ s.video.compose.slotsDone = ↑k ∧ ↑k < (s.setFor s.video.compose.frame).s ∧ s.video.store.filling ≠ none) ∧
  (∃ (s : State) (k : Fin 4) (d : Damage),
    d.generations = false ∧ s.isTile = true ∧ s.repeatOnly = false ∧ s.video.compose.slot = none ∧ s.video.compose.slotsDone = ↑k ∧ ↑k < (s.setFor s.video.compose.frame).s ∧ s.video.store.filling ≠ none ∧ s.slotSource k = none) ∧
  (∃ (s : State) (k : Fin 4) (b : Bank),
    s.isTile = true ∧ s.video.compose.slot = some ↑k ∧ s.video.compose.bank[s.writeSet k * 4 + ↑k]?.getD none = some b) ∧
  (∃ (s : State) (k : Fin 4),
    s.isTile = true ∧ s.video.compose.slot = some ↑k) :=
  ⟨⟨(tileUp.withStore fun f => { f with filling := some 0 }).withTile fun t => { t with alive := vset t.alive 1 (some 0) }, 0, by decide +kernel⟩,
   ⟨tileUp.withCompose fun c => { c with pending := some (commitOf 5) }, commitOf 5, by decide +kernel⟩,
   ⟨((tileUp.withCompose fun c => { c with pending := some (commitOf 5) }).withTile fun t => { t with alive := vset t.alive 1 (some 0) }).wrB
     0x2200 0x04 true, commitOf 5, by decide +kernel⟩,
   ⟨(tileUp.withCompose fun c => { c with pending := some (commitOf 5) }).withTile fun t => { t with alive := vset t.alive 1 (some 0) }, commitOf 5, by decide +kernel⟩,
   ⟨(tileUp.wrB 0x2880 0x0D true).withStore fun f => { f with filling := some 0 }, 0, damageOf 0, .layers, by decide +kernel⟩,
   ⟨(tileUp.wrB 0x2880 0x0D true).withStore fun f => { f with filling := some 0 }, 0, { damageOf 0 with generations := true }, by decide +kernel⟩,
   ⟨((tileUp.wrB 0x2880 0x0D false).withStore fun f => { f with filling := some 0 }).withCompose fun c => { c with held := .banks }, 0, damageOf 0, by decide +kernel⟩,
   ⟨tileUp.withCompose fun c => { c with slot := some 3, bank := Vector.replicate 8 (some bank0) }, 3, bank0, by decide +kernel⟩,
   ⟨tileUp.withCompose fun c => { c with slot := some 3 }, 3, by decide +kernel⟩⟩

/-- Something meets the hypotheses of `FlashRecordsAndCalibration`, clause by clause. -/
theorem witness_FlashRecordsAndCalibration :
  (∃ (s : State) (j : FlashJob) (rest : List FlashJob) (next : FlashStep) (more : List FlashStep) (a : Nat) (n : Nat),
    s.Canon ∧ s.nvm.issued = true ∧ s.nvm.jobs = j :: rest ∧ j.steps = FlashStep.erase a n :: next :: more) ∧
  (∃ (s : State) (j : FlashJob) (rest : List FlashJob) (next : FlashStep) (more : List FlashStep) (a : Nat) (b : List Byte),
    s.Canon ∧ s.nvm.issued = true ∧ s.nvm.jobs = j :: rest ∧ j.steps = FlashStep.program a b :: next :: more ∧ s.flash a b.length = List.replicate b.length 255) ∧
  (∃ (s : State) (j : FlashJob) (rest : List FlashJob) (more : List FlashStep) (x : FlashStep),
    s.Canon ∧ s.nvm.issued = true ∧ s.nvm.jobs = j :: rest ∧ j.steps = x :: more) ∧
  (∃ (s : State) (r : Flint) (rest : List Flint) (n : Nat),
    s.nvm.bb.slots = r :: rest ∧ s.life ≠ Life.inReset ∧ s.windowOpen = true ∧ s.nvm.bb.scanned = true ∧ s.committing = false ∧ s.bucketHolds 256 = true ∧ s.slotFor r = some n) ∧
  (∃ (s : State) (r : CalRun),
    s.up = true ∧ s.nvm.calRun = some r ∧ r.kind = 0) ∧
  (∃ (s : State) (r : CalRun),
    s.up = true ∧ s.nvm.calRun = some r ∧ r.kind = 1 ∧ s.skewDone = true) ∧
  (∃ (s : State) (r : CalRun),
    s.up = true ∧ s.nvm.calRun = some r ∧ r.kind = 2) ∧
  (∃ (s : State) (r : CalRun),
    let one := fun (i : Fin 8) ↦ (List.map (fun (v : Vector Int 8) ↦ v[i]) (List.take 16 r.rounds)).sum
    let two := fun (i : Fin 8) ↦ (List.map (fun (v : Vector Int 8) ↦ v[i]) (List.drop 16 r.rounds)).sum
    let ref := 16 * s.rdI 0x2F00 3
    s.up = true ∧ s.nvm.calRun = some r ∧ r.kind = 3 ∧ r.rounds.length = 32 ∧ (∀ (i k : Fin 8), one i - one k ≤ 1024 ∧ two i - two k ≤ 1024) ∧ (∀ (i : Fin 8), (one i - two i).natAbs ≤ 128) ∧ (∀ (i : Fin 8), (ref - one i).natAbs ≤ 1024 ∧ (ref - two i).natAbs ≤ 1024)) ∧
  (∃ (s : State),
    s.up = true ∧ s.windowOpen = true ∧ s.rdN 0x2F00 25 ≠ 0 ∧ s.nvm.jobs.any FlashJob.isCal = false) :=
  ⟨⟨onNvm State.reset fun n => { n with issued := true, jobs := [{ prio := 0, purpose := .bbAhead, steps := [.erase 0 4096, .program 0 [1]] }] }, { prio := 0, purpose := .bbAhead, steps := [.erase 0 4096, .program 0 [1]] }, [], .program 0 [1], [], 0, 4096, ⟨⟨nil_wf _, nil_wf _⟩, by decide +kernel⟩⟩,
   ⟨onNvm State.reset fun n => { n with issued := true, jobs := [{ prio := 0, purpose := .bbAhead, steps := [.program 0 [1], .program 1 [2]] }] }, { prio := 0, purpose := .bbAhead, steps := [.program 0 [1], .program 1 [2]] }, [], .program 1 [2], [], 0, [1], ⟨⟨nil_wf _, nil_wf _⟩, by decide +kernel⟩⟩,
   ⟨onNvm State.reset fun n => { n with issued := true, jobs := [{ prio := 0, purpose := .bbAhead, steps := [.program 0 [1]] }] }, { prio := 0, purpose := .bbAhead, steps := [.program 0 [1]] }, [], [], .program 0 [1], ⟨⟨nil_wf _, nil_wf _⟩, by decide +kernel⟩⟩,
   ⟨onNvm (tileUp.wrB 0x2E00 0x0F true) fun n => { n with bb := { n.bb with scanned := true, slots := [{ seq := some 0, severe := true, outside := false, event := 0x7101, detail := 0, flags := 0, dropped := 0, body := [] }] } }, { seq := some 0, severe := true, outside := false, event := 0x7101, detail := 0, flags := 0, dropped := 0, body := [] }, [], 0, by decide +kernel⟩,
   ⟨onNvm senderUp fun n => { n with calRun := some { kind := 0, port := 1, rounds := [] } }, { kind := 0, port := 1, rounds := [] }, by decide +kernel⟩,
   ⟨onNvm tileUp fun n => { n with calRun := some { kind := 1, port := 0, rounds := [] } }, { kind := 1, port := 0, rounds := [] }, by decide +kernel⟩,
   ⟨onNvm senderUp fun n => { n with calRun := some { kind := 2, port := 1, rounds := [] } }, { kind := 2, port := 1, rounds := [] }, by decide +kernel⟩,
   ⟨onNvm (tileUp.wrI 0x2F00 3 400) fun n => { n with calRun := some { kind := 3, port := 0, rounds := List.replicate 32 (Vector.replicate 8 400) } }, { kind := 3, port := 0, rounds := List.replicate 32 (Vector.replicate 8 400) }, by decide +kernel⟩,
   ⟨(tileUp.wrB 0x2E00 0x0F true).wrN 0x2F00 0x19 1, by decide +kernel⟩⟩

/-- Something meets the hypotheses of `FramesLeaveTheEngine`, clause by clause. -/
theorem witness_FramesLeaveTheEngine :
  (∃ (s : State) (p : Fin 64) (t : TxFrame) (rest : List TxFrame),
    s.isTile = true ∧ s.lamps.engine[p].tx = t :: rest ∧ t.ref = none ∧ t.markAt = none ∧ t.cmd ≠ 7) ∧
  (∃ (s : State) (p : Fin 64) (t : TxFrame) (rest : List TxFrame),
    let e := s.lamps.engine[p]
    let free := s.until_ e.gapUntil
    s.isTile = true ∧ s.lamps.engine[p].tx = t :: rest ∧ t.ref = none ∧ t.markAt = none ∧ t.cmd = 7 ∧ t.len ≤ t.bits.length ∧ free.withholds p t.bits = false) ∧
  (∃ (s : State) (p : Fin 64) (t : TxFrame) (rest : List TxFrame),
    let e := s.lamps.engine[p]
    let free := s.until_ e.gapUntil
    s.isTile = true ∧ s.lamps.engine[p].tx = t :: rest ∧ t.ref = none ∧ t.markAt = none ∧ t.cmd = 7 ∧ t.len ≤ t.bits.length ∧ free.withholds p t.bits = true) ∧
  (∃ (s : State) (p : Fin 64) (t : TxFrame) (rest : List TxFrame) (f : Nat) (k : Nat) (edge : Nat),
    s.isTile = true ∧ s.lamps.engine[p].tx = t :: rest ∧ t.ref = some (f, k, edge) ∧ t.markAt = none ∧ t.cmd ≠ 7) ∧
  (∀ hot : Bool, ∃ (s : State) (p : Fin 64) (t : TxFrame) (rest : List TxFrame) (f : Nat) (k : Nat) (edge : Nat),
    let due := s.endBlanking.untilWall (edge - edgeBits t.len * s.endBlanking.bitPeriod p * subNs)
    s.isTile = true ∧ s.lamps.engine[p].tx = t :: rest ∧ t.ref = some (f, k, edge) ∧ t.markAt = none ∧ t.cmd = 7 ∧
      t.len ≤ t.bits.length ∧ due.withholds p t.bits = hot) ∧
  (∃ (s : State) (p : Fin 64) (t : TxFrame) (rest : List TxFrame),
    s.isTile = true ∧ s.lamps.engine[p].tx = t :: rest ∧ t.markAt ≠ none ∧ t.gone = false ∧ t.bits.length < t.len) ∧
  (∃ (s : State) (p : Fin 64) (t : TxFrame) (rest : List TxFrame) (u : Push),
    let e := s.lamps.engine[p]
    s.isTile = true ∧ s.lamps.engine[p].tx = t :: rest ∧ e.stall = some u) :=
  ⟨⟨tileUp.withEngine 63 fun e => { e with tx := [txf] }, 63, txf, [], by decide +kernel⟩,
   ⟨tileUp.withEngine 63 fun e => { e with tx := [{ txf with cmd := 7 }] }, 63, { txf with cmd := 7 }, [], by decide +kernel⟩,
   ⟨{ tileUp.withEngine 63 fun e => { e with tx := [{ txf with cmd := 7, len := 96, bits := List.replicate 96 false }] } with otp := { Otp.blank with shadow := vset Otp.blank.shadow 63 { maxGrey := 65535, maxAvg := 65535, refresh := 65534 } } }, 63, { txf with cmd := 7, len := 96, bits := List.replicate 96 false }, [], by decide +kernel⟩,
   ⟨tileUp.withEngine 63 fun e => { e with tx := [{ txf with ref := some (1, 2, 3) }] }, 63, { txf with ref := some (1, 2, 3) }, [], 1, 2, 3, by decide +kernel⟩,
   fun hot => match hot with
     | false => ⟨tileUp.withEngine 63 fun e => { e with tx := [{ txf with cmd := 7, ref := some (1, 2, 3) }] }, 63, { txf with cmd := 7, ref := some (1, 2, 3) }, [], 1, 2, 3, by decide +kernel⟩
     | true => ⟨{ tileUp.withEngine 63 fun e => { e with tx := [{ txf with cmd := 7, len := 96, bits := List.replicate 96 false, ref := some (1, 2, 3) }] } with otp := { Otp.blank with shadow := vset Otp.blank.shadow 63 { maxGrey := 65535, maxAvg := 65535, refresh := 65534 } } }, 63,
         { txf with cmd := 7, len := 96, bits := List.replicate 96 false, ref := some (1, 2, 3) }, [], 1, 2, 3, by decide +kernel⟩,
   ⟨tileUp.withEngine 63 fun e => { e with tx := [{ txf with markAt := some 0, len := 1 }] }, 63, { txf with markAt := some 0, len := 1 }, [], by decide +kernel⟩,
   ⟨tileUp.withEngine 63 fun e => { e with tx := [txf], stall := some (.lamp 0) }, 63, txf, [], .lamp 0, by decide +kernel⟩⟩

/-- Something meets the hypotheses of `HostPort`, clause by clause. -/
theorem witness_HostPort :
  (∃ (s : State),
    s.life = Life.inReset) ∧
  (∃ (s : State) (addr : BitVec 24) (n : Nat),
    s.life ≠ Life.inReset ∧ 0 < n ∧ addr.toNat % 4 = 0 ∧ n = 4) ∧
  (∃ (s : State) (addr : BitVec 24) (bytes : List Byte),
    s.life ≠ Life.inReset ∧ bytes.length = 4 ∧ addr.toNat % 4 = 0) ∧
  (∃ (s : State) (addr : BitVec 24) (bytes : List Byte),
    s.life ≠ Life.inReset ∧ 1 ≤ bytes.length ∧ bytes.length < 4 ∧ addr.toNat % 4 = 0) ∧
  (∃ (a : Nat),
    hpMapped a = false) ∧
  (∃ (v : Word),
    4 ≤ (BitVec.setWidth 4 v).toNat) ∧
  (∃ (v : Word),
    BitVec.getLsbD v 0 = true) ∧
  (∃ (s : State),
    s.up = true ∧ s.hostPort.rsltState = 1) ∧
  (∃ (s : State) (len : BitVec 7),
    s.up = true ∧ s.hostPort.rsltState ≠ 1 ∧ len.toNat ≠ 8 ∧ len.toNat ≠ 64) ∧
  (∃ (s : State) (len : BitVec 7),
    let u := ((s.withHost fun h ↦ { h with rsltState := 1 }).touchCtx CtxId.host).serve CtxId.host (List.take len.toNat s.hostPort.sdoReq.toList)
    s.up = true ∧ s.hostPort.rsltState ≠ 1 ∧ (len.toNat = 8 ∨ len.toNat = 64) ∧ u.hostPort.rsltState ≠ 1) :=
  ⟨⟨State.reset, by decide +kernel⟩,
   ⟨senderUp, 0xFFFFFC, 4, by decide +kernel⟩,
   ⟨senderUp, 0x100, [1, 2, 3, 4], by decide +kernel⟩,
   ⟨senderUp, 0x100, [1, 2, 3], by decide +kernel⟩,
   ⟨0x30, by decide +kernel⟩,
   ⟨4, by decide +kernel⟩,
   ⟨1, by decide +kernel⟩,
   ⟨tileUp.withHost fun h => { h with rsltState := 1 }, by decide +kernel⟩,
   ⟨tileUp, 9, by decide +kernel⟩,
   ⟨tileUp, 64, by decide +kernel⟩⟩

/-- Something meets the hypotheses of `HousekeepingAndTrip`, clause by clause. -/
theorem witness_HousekeepingAndTrip :
  (∃ (s : State),
    s.life ≠ Life.inReset) ∧
  (∃ (s : State) (die : Vector Int 8) (ch : Fin 8),
    s.up = true ∧ s.role ≠ Role.none ∧ s.cooling = false ∧ s.tripChannel die = some ch) :=
  ⟨⟨tileUp, by decide +kernel⟩,
   ⟨tileUp, Vector.replicate 8 2528, 0, by decide +kernel⟩⟩

/-- Something meets the hypotheses of `IdleStepAndWords`. -/
theorem witness_IdleStepAndWords : ∃ (s : State),
    s.pending = [] :=
  ⟨State.reset, by decide +kernel⟩

/-- Something meets the hypotheses of `Ingress`, clause by clause. -/
theorem witness_Ingress :
  (∃ (s : State) (e : Fin 8),
    s.hasEth e = false) ∧
  (∃ (s : State) (e : Fin 8) (f : EthFrame),
    let vlan := s.rdN 0x2102 (24 + ↑e)
    let ours := if vlan = 0 then none else some vlan
    s.hasEth e = true ∧ f.vlan ≠ ours) ∧
  (∃ (s : State) (e : Fin 8) (f : EthFrame) (src : Nat),
    let vlan := s.rdN 0x2102 (24 + ↑e)
    let own := s.rdN 0x2102 (16 + ↑e)
    let ours := if vlan = 0 then none else some vlan
    s.hasEth e = true ∧ f.vlan = ours ∧ f.body = EthBody.arp src own) ∧
  (∃ (s : State) (e : Fin 8) (f : EthFrame) (src : Nat) (b : List Byte),
    let vlan := s.rdN 0x2102 (24 + ↑e)
    let own := s.rdN 0x2102 (16 + ↑e)
    let ours := if vlan = 0 then none else some vlan
    s.hasEth e = true ∧ f.vlan = ours ∧ f.body = EthBody.echo src own b) ∧
  (∃ (s : State) (e : Fin 8) (f : EthFrame),
    let vlan := s.rdN 0x2102 (24 + ↑e)
    let ours := if vlan = 0 then none else some vlan
    s.hasEth e = true ∧ f.vlan = ours ∧ f.body = EthBody.other) ∧
  (∃ (s : State) (e : Fin 8) (f : EthFrame) (src : Nat) (dst : Nat) (port : Nat) (b : List Byte) (r : Fin 32 × Fin 2),
    let vlan := s.rdN 0x2102 (24 + ↑e)
    let ours := if vlan = 0 then none else some vlan
    s.hasEth e = true ∧ f.vlan = ours ∧ f.body = EthBody.udp src dst port b ∧ dst ≠ 3758096769 ∧ s.receivers (↑e) src dst port = [r]) ∧
  (∃ (s : State) (e : Fin 8) (group : Nat),
    s.hasEth e = true ∧ group ≠ 0) ∧
  (∃ (s : State) (n : Fin 32) (t0 : Nat),
    s.ingress.stream[n].reportAt = some t0) ∧
  (∃ (s : State) (n : Fin 32) (at_ : Nat) (ts : BitVec 32),
    s.ingress.stream[n].dueFirst = some (at_, ts)) ∧
  (∃ (s : State) (n : Fin 32) (path : Fin 2),
    s.streamOn ↑n = true ∧ s.pathUsed (↑n) path = true ∧ s.ingress.stream[n].lost[path] = false) ∧
  (∃ (s : State) (n : Fin 32) (f : OpenFrame) (rest : List OpenFrame),
    s.ingress.stream[n].decoding = f :: rest) ∧
  (∃ (s : State) (n : Fin 32),
    let u := s.untilWall (s.tFrame (s.quartz.frame + 1) - 500000 * subNs)
    s.isSender = true ∧ s.quartz.lockedOnce = true ∧ u.selector = true ∧ u.subscribed n = true ∧ u.freeStream n = true) ∧
  (∃ (s : State) (n : Fin 32),
    let f := s.quartz.frame + 1
    let v := s.untilWall (s.tFrame f - 400000 * subNs)
    s.isSender = true ∧ s.quartz.lockedOnce = true ∧ v.selector = true ∧ v.subscribed n = true ∧ v.freeStream n = true ∧
      (v.ingress.stream[n].selection f).isSome = true) ∧
  (∃ (s : State) (link : Fin 2) (u : CascadeUnit),
    (s.takeUnit link u).1 = true ∧ u.kind = 3 ∧ (∀ k < 32, field u.body (8 * k) 8 = 0)) ∧
  (∃ (s : State) (link : Fin 2) (u : CascadeUnit) (n : Fin 32),
    let v := (s.takeUnit link u).2
    let f := v.quartz.frame + 1
    let e := field u.body 0 8
    (s.takeUnit link u).1 = true ∧ u.kind = 3 ∧ e ≠ 0 ∧ bits e 63 56 = n ∧ bits e 55 48 = f % 256 ∧
      v.ingress.stream[n].selection f = none) ∧
  (∃ (s : State),
    s.up = true ∧ s.quartz.lockedOnce = true ∧ s.role = Role.tile) ∧
  (∃ (s : State),
    s.up = true ∧ s.quartz.lockedOnce = true ∧ s.role = Role.sender) :=
  ⟨⟨tileUp, 0, by decide +kernel⟩,
   ⟨senderUp.wrN 0x2102 1 3, 7, { vlan := some 5, body := .other }, by decide +kernel⟩,
   ⟨((senderUp.wrN 0x2102 1 3).wrN 0x2102 0x1F 4094).wrN 0x2102 0x17 0xC0A80001, 7,
     { vlan := some 4094, body := .arp 9 0xC0A80001 }, 9, by decide +kernel⟩,
   ⟨senderUp.wrN 0x2102 0x10 0xC0A80001, 0, { vlan := none, body := .echo 9 0xC0A80001 [1] }, 9, [1], by decide +kernel⟩,
   ⟨senderUp, 0, { vlan := none, body := .other }, by decide +kernel⟩,
   ⟨((((senderUp.wrB 0x241F 1 true).wrN 0x241F 0x10 0xEF000001).wrN 0x241F 0x12 5004).wrN 0x241F 0x13 0).wrN 0x241F 0x17 0xFF, 0,
     { vlan := none, body := .udp 9 0xEF000001 5004 [1] }, 9, 0xEF000001, 5004, [1], (31, 0), by decide +kernel⟩,
   ⟨senderUp, 4, 0xEF000001, by decide +kernel⟩,
   ⟨senderUp.withStream 31 fun r => { r with reportAt := some 5 }, 31, 5, by decide +kernel⟩,
   ⟨senderUp.withStream 31 fun r => { r with opens := [openF] }, 31, 7, 0, by decide +kernel⟩,
   ⟨senderUp.wrB 0x241F 1 true, 31, 0, by decide +kernel⟩,
   ⟨senderUp.withStream 31 fun r => { r with decoding := [openF] }, 31, openF, [], by decide +kernel⟩,
   ⟨onQuartz (subscribing 31) fun q => { q with lockedOnce := true }, 31, by decide +kernel⟩,
   ⟨onQuartz ((subscribing 31).withStream 31 fun r => { r with selected := [(1, none)] }) fun q => { q with lockedOnce := true }, 31,
     by decide +kernel⟩,
   ⟨cascX, 0, unit 3 0 [], by decide +kernel⟩,
   ⟨cascX, 0, unit 3 0 [0, 0, 0, 0, 0, 1, 1, 31], 31, by decide +kernel⟩,
   ⟨onQuartz tileUp fun q => { q with lockedOnce := true }, by decide +kernel⟩,
   ⟨onQuartz senderUp fun q => { q with lockedOnce := true }, by decide +kernel⟩⟩

/-- Something meets the hypotheses of `LampReturns`. -/
theorem witness_LampReturns : ∃ (s : State) (p : Fin 64) (f : LineFrame) (rest : List LineFrame),
    s.isTile = true ∧ s.lamps.engine[p].line = f :: rest :=
  ⟨tileUp.withEngine 63 fun e => { e with line := [{ cmd := 1, bits := [], capture := false, edgeAt := 0, length := 0 }] }, 63, { cmd := 1, bits := [], capture := false, edgeAt := 0, length := 0 }, [], by decide +kernel⟩

/-- Something meets the hypotheses of `LaneBringUp`, clause by clause. -/
theorem witness_LaneBringUp :
  (∃ (s : State) (l : Fin 24),
    let x := s.lanes.lane[l]
    x.stage = LaneStage.detect) ∧
  (∃ (s : State) (l : Fin 24),
    let x := s.lanes.lane[l]
    x.stage = LaneStage.detect ∧ x.detectRaised = false) ∧
  (∃ (s : State) (l : Fin 24) (status : BitVec 16),
    let x := s.lanes.lane[l]
    x.stage = LaneStage.training ∧ s.rdB (0x2110 + ↑l) 5 = false ∧ status.getLsbD 15 = false) ∧
  (∃ (s : State) (l : Fin 24) (status : BitVec 16) (want : BitVec 16),
    let x := s.lanes.lane[l]
    x.stage = LaneStage.training ∧ s.rdB (0x2110 + ↑l) 5 = false ∧ status.getLsbD 15 = true ∧ isRequest want = false ∧ x.request = none ∧ 7 ≤ x.readyIn ∧ 7 ≤ x.readyOut ∧ s.portTest (portOf l) = false ∧ s.linkOf l ≠ none) ∧
  (∃ (s : State) (l : Fin 24) (status : BitVec 16) (want : BitVec 16),
    let x := s.lanes.lane[l]
    x.stage = LaneStage.training ∧ s.rdB (0x2110 + ↑l) 5 = false ∧ status.getLsbD 15 = true ∧ isRequest want = false ∧ x.request = none ∧ 7 ≤ x.readyIn ∧ 7 ≤ x.readyOut ∧ s.portTest (portOf l) = false ∧ s.linkOf l = none) ∧
  (∃ (s : State) (l : Fin 24) (r : BitVec 16 × Nat),
    let x := s.lanes.lane[l]
    x.stage = LaneStage.training ∧ x.request = some r ∧ r.2 < 2) ∧
  (∃ (s : State) (l : Fin 24) (r : BitVec 16 × Nat),
    let x := s.lanes.lane[l]
    x.stage = LaneStage.training ∧ x.request = some r ∧ 2 ≤ r.2) ∧
  (∃ (s : State) (l : Fin 24),
    let x := s.lanes.lane[l]
    x.stage = LaneStage.training) ∧
  (∃ (s : State) (l : Fin 24),
    let x := s.lanes.lane[l]
    x.stage = LaneStage.bitLock) ∧
  (∃ (s : State) (l : Fin 24),
    let x := s.lanes.lane[l]
    x.stage = LaneStage.alignLock) ∧
  (∃ (s : State) (l : Fin 24),
    let x := s.lanes.lane[l]
    x.stage = LaneStage.capability) ∧
  (∃ (s : State) (l : Fin 24),
    let x := s.lanes.lane[l]
    x.stage = LaneStage.failed ∧ s.rdB (0x2110 + ↑l) 2 = true ∧ s.rdN (0x2100 + portOf l) 13 = 0 ∧ (s.linkOf l ≠ none ∨ s.ethOf l ≠ none) ∧ x.hold = LaneHold.idle) ∧
  (∃ (s : State) (l : Fin 24),
    let x := s.lanes.lane[l]
    x.stage = LaneStage.failed ∧ s.rdB (0x2110 + ↑l) 2 = true ∧ s.rdN (0x2100 + portOf l) 13 = 0 ∧ (s.linkOf l ≠ none ∨ s.ethOf l ≠ none) ∧ x.hold = LaneHold.refused) ∧
  (∃ (s : State) (l : Fin 24),
    let x := s.lanes.lane[l]
    x.stage = LaneStage.failed ∧ s.rdB (0x2110 + ↑l) 2 = true ∧ s.rdN (0x2100 + portOf l) 13 = 0 ∧ (s.linkOf l ≠ none ∨ s.ethOf l ≠ none) ∧ x.hold = LaneHold.retry) ∧
  (∃ (s : State) (k : Fin 4),
    s.lanes.link[k].resting = true) ∧
  (∃ (s : State) (l : Fin 24) (k : Fin 4) (b : BitVec 256),
    s.linkOf l = some k ∧ s.lanes.lane[l].stage = LaneStage.capability ∧ capOk b = false) ∧
  (∃ (s : State) (l : Fin 24) (k : Fin 4) (b : BitVec 256),
    let x := s.lanes.lane[l]
    s.linkOf l = some k ∧ x.stage = LaneStage.capability ∧ capOk b = true ∧ x.cap = some b ∧ x.capRun = 1) ∧
  (∃ (s : State) (l : Fin 24) (k : Fin 4) (b : BitVec 256),
    let x := s.lanes.lane[l]
    s.linkOf l = some k ∧ x.stage = LaneStage.capability ∧ capOk b = true ∧ x.cap = some b ∧ 2 ≤ x.capRun ∧ cfield b 239 236 ≠ 1) ∧
  (∃ (s : State) (l : Fin 24) (k : Fin 4) (b : BitVec 256),
    let x := s.lanes.lane[l]
    let long := s.lanes.link[k].fecReq || b.getLsbD 224
    s.linkOf l = some k ∧ x.stage = LaneStage.capability ∧ capOk b = true ∧ x.cap = some b ∧ 2 ≤ x.capRun ∧ cfield b 239 236 = 1 ∧ cfield b 231 228 = kindOf k ∧ (s.lanes.link[k].fec = none ∨ s.lanes.link[k].fec = some long)) :=
  ⟨⟨tileUp.withLane 23 fun x => { x with stage := .detect }, 23, by decide +kernel⟩,
   ⟨tileUp.withLane 23 fun x => { x with stage := .detect }, 23, by decide +kernel⟩,
   ⟨tileUp.withLane 0 fun x => { x with stage := .training }, 0, 0x7FFF, by decide +kernel⟩,
   ⟨tileUp.withLane 0 fun x => { x with stage := .training, readyIn := 7, readyOut := 7 }, 0, 0x8000, 0, by decide +kernel⟩,
   ⟨senderUp.withLane 23 fun x => { x with stage := .training, readyIn := 7, readyOut := 7 }, 23, 0x8000, 0, by decide +kernel⟩,
   ⟨tileUp.withLane 0 fun x => { x with stage := .training, request := some (1, 1) }, 0, (1, 1), by decide +kernel⟩,
   ⟨tileUp.withLane 0 fun x => { x with stage := .training, request := some (1, 2) }, 0, (1, 2), by decide +kernel⟩,
   ⟨tileUp.withLane 0 fun x => { x with stage := .training }, 0, by decide +kernel⟩,
   ⟨tileUp.withLane 0 fun x => { x with stage := .bitLock }, 0, by decide +kernel⟩,
   ⟨tileUp.withLane 0 fun x => { x with stage := .alignLock }, 0, by decide +kernel⟩,
   ⟨tileUp.withLane 0 fun x => { x with stage := .capability }, 0, by decide +kernel⟩,
   ⟨(tileUp.wrB 0x2110 2 true).withLane 0 fun x => { x with stage := .failed, hold := .idle }, 0, by decide +kernel⟩,
   ⟨(tileUp.wrB 0x2110 2 true).withLane 0 fun x => { x with stage := .failed, hold := .refused }, 0, by decide +kernel⟩,
   ⟨(senderUp.wrB 0x2127 2 true).withLane 23 fun x => { x with stage := .failed, hold := .retry }, 23, by decide +kernel⟩,
   ⟨tileUp.withLink 3 fun k => { k with resting := true }, 3, by decide +kernel⟩,
   ⟨tileUp.withLane 0 fun x => { x with stage := .capability }, 0, 0, 0, by decide +kernel⟩,
   ⟨tileUp.withLane 0 fun x => { x with stage := .capability, cap := some (capOf (0x5C1A * 2 ^ 208 + 2 ^ 204)), capRun := 1 }, 0, 0, capOf (0x5C1A * 2 ^ 208 + 2 ^ 204), by decide +kernel⟩,
   ⟨tileUp.withLane 0 fun x => { x with stage := .capability, cap := some (capOf (0x5C1A * 2 ^ 208)), capRun := 2 }, 0, 0, capOf (0x5C1A * 2 ^ 208), by decide +kernel⟩,
   ⟨tileUp.withLane 0 fun x => { x with stage := .capability, cap := some (capOf (0x5C1A * 2 ^ 208 + 2 ^ 204)), capRun := 2 }, 0, 0, capOf (0x5C1A * 2 ^ 208 + 2 ^ 204), by decide +kernel⟩⟩

set_option maxRecDepth 100000 in
/-- Something meets the hypotheses of `LaneMarkersAndFailures`, clause by clause. -/
theorem witness_LaneMarkersAndFailures :
  (∃ (s : State) (l : Fin 24) (k : Fin 4) (m : BitVec 1360),
    let x := s.lanes.lane[l]
    s.Canon ∧ s.linkOf l = some k ∧ x.stage.pastTraining = true ∧ markerOk m = false) ∧
  (∃ (s : State) (l : Fin 24) (k : Fin 4) (m : BitVec 1360),
    let x := s.lanes.lane[l]
    s.Canon ∧ s.linkOf l = some k ∧ x.stage.pastTraining = true ∧ markerOk m = true ∧ x.stage = LaneStage.bitLock) ∧
  (∃ (s : State) (l : Fin 24) (k : Fin 4),
    let x := s.lanes.lane[l]
    let y := s.lanes.link[k]
    s.Canon ∧ s.linkOf l = some k ∧ x.tx = TxMode.codewords ∧ y.change = none) ∧
  (∃ (s : State) (l : Fin 24) (k : Fin 4) (c : SetChange),
    let x := s.lanes.lane[l]
    let y := s.lanes.link[k]
    s.Canon ∧ s.linkOf l = some k ∧ x.tx = TxMode.codewords ∧ y.change = some c ∧ c.countdown ≠ 0) ∧
  (∃ (s : State) (l : Fin 24) (k : Fin 4) (c : SetChange),
    let x := s.lanes.lane[l]
    let y := s.lanes.link[k]
    s.Canon ∧ s.linkOf l = some k ∧ x.tx = TxMode.codewords ∧ y.change = some c ∧ c.countdown = 0 ∧ y.minLanes ≤ lanesIn c.next) ∧
  (∃ (s : State) (l : Fin 24) (k : Fin 4),
    let x := s.lanes.lane[l]
    s.Canon ∧ s.linkOf l = some k ∧ (x.stage = LaneStage.active ∨ x.stage = LaneStage.spare) ∧ 2 ≤ x.badRun) ∧
  (∃ (s : State) (l : Fin 24) (k : Fin 4),
    let x := s.lanes.lane[l]
    s.Canon ∧ s.linkOf l = some k ∧ x.badRun < 2) ∧
  (∃ (s : State) (l : Fin 24) (k : Fin 4) (received : List (Nat × List (BitVec 10))),
    let x := s.lanes.lane[l]
    let c := countCodewords (s.longFec l) received
    s.Canon ∧ s.linkOf l = some k ∧ x.stage = LaneStage.active ∧ c.total = 9 ∧ c.uncorrected = 0 ∧
      c.symbols * 100000 ≤ c.total * fecSize (s.longFec l)) :=
  ⟨⟨tileUp.withLane 15 fun x => { x with stage := .bitLock }, 15, 1, 0, ⟨⟨nil_wf _, nil_wf _⟩, by decide +kernel⟩⟩,
   ⟨tileUp.withLane 15 fun x => { x with stage := .bitLock }, 15, 1, BitVec.ofNat 1360 (crc32Nat (beBytes 166 0)), ⟨⟨nil_wf _, nil_wf _⟩, by decide +kernel⟩⟩,
   ⟨tileUp.withLane 15 fun x => { x with tx := .codewords }, 15, 1, ⟨⟨nil_wf _, nil_wf _⟩, by decide +kernel⟩⟩,
   ⟨(tileUp.withLane 15 fun x => { x with tx := .codewords }).withLink 1 fun k => { k with change := some { next := 1, countdown := 1, fault := false } }, 15, 1, { next := 1, countdown := 1, fault := false }, ⟨⟨nil_wf _, nil_wf _⟩, by decide +kernel⟩⟩,
   ⟨(tileUp.withLane 15 fun x => { x with tx := .codewords }).withLink 1 fun k => { k with change := some { next := 1, countdown := 0, fault := false } }, 15, 1, { next := 1, countdown := 0, fault := false }, ⟨⟨nil_wf _, nil_wf _⟩, by decide +kernel⟩⟩,
   ⟨tileUp.withLane 15 fun x => { x with stage := .spare, badRun := 2 }, 15, 1, ⟨⟨nil_wf _, nil_wf _⟩, by decide +kernel⟩⟩,
   ⟨tileUp.withLane 15 fun x => { x with badRun := 1 }, 15, 1, ⟨⟨nil_wf _, nil_wf _⟩, by decide +kernel⟩⟩,
   ⟨tileUp.withLane 15 fun x => { x with stage := .active }, 15, 1, [(9, List.replicate 136 0)], ⟨⟨nil_wf _, nil_wf _⟩, by decide +kernel⟩⟩⟩

/-- Something meets the hypotheses of `LinkAndChainObjectWrites`, clause by clause. -/
theorem witness_LinkAndChainObjectWrites :
  (∃ (x : Val),
    x.toInt ≠ 0) ∧
  (∃ (s : State) (c : CtxId) (x : Val) (l : Fin 24),
    let t := s.touchCtx c
    x.toInt ≠ 0 ∧ t.rdN (0x2110 + ↑l) 36 ≠ 1 ∧ t.portTest (portOf l) = true) ∧
  (∃ (s : State) (c : CtxId) (x : Val) (l : Fin 24) (k : Fin 4),
    let t := s.touchCtx c
    x.toInt ≠ 0 ∧ t.rdN (0x2110 + ↑l) 36 ≠ 1 ∧ t.portTest (portOf l) = false ∧ t.linkOf l = some k ∧ t.lanes.link[k].phase = LinkPhase.up ∧ (t.lanes.lane[l].stage = LaneStage.active ∨ t.lanes.lane[l].stage = LaneStage.spare) ∧ t.testBar k l = 0) ∧
  (∃ (s : State) (c : CtxId) (x : Val) (l : Fin 24),
    let t := s.touchCtx c
    x.toInt ≠ 0 ∧ t.rdN (0x2110 + ↑l) 48 ≠ 0 ∧ t.injSizeOk l (t.rdN (0x2110 + ↑l) 48) (t.rdN (0x2110 + ↑l) 49) = true ∧ t.injKindOk l (t.rdN (0x2110 + ↑l) 48) = true) ∧
  (∃ (x : Val),
    x.toInt = 0) ∧
  (∃ (s : State) (c : CtxId) (x : Val) (p : Fin 3),
    let t := s.touchCtx c
    x.toInt ≠ t.rdI (0x2100 + ↑p) 13 ∧ (x.toInt = 0 ∨ t.rdB (0x2100 + ↑p) 14 = true ∨ t.portFresh p = true ∨ t.portRecovers p = true)) ∧
  (∃ (s : State) (c : CtxId) (x : Val) (p : Fin 3),
    let t := s.touchCtx c
    x.toInt ≠ t.rdI (0x2100 + ↑p) 14) ∧
  (∃ (s : State) (c : CtxId),
    let t := s.touchCtx c
    (∀ n < 32, t.rdB (0x2400 + n) 1 = false)) ∧
  (∃ (s : State) (c : CtxId) (x : Val),
    let t := s.touchCtx c
    t.role = Role.tile ∧ x.toInt ≠ 0) ∧
  (∃ (s : State) (c : CtxId) (x : Val),
    let t := s.touchCtx c
    t.role = Role.tile ∧ x.toInt ≠ 0 ∧ t.commanded = false) ∧
  (∃ (s : State) (c : CtxId) (x : Val) (p : Fin 2),
    let t := s.touchCtx c
    t.role = Role.sender ∧ x.toInt ≠ 0 ∧ t.leads p = true ∧ t.rdN (0x2200 + ↑p) 5 ≠ 1) ∧
  (∃ (s : State) (c : CtxId) (x : Val) (p : Fin 2) (q : Fin 2),
    let t := s.touchCtx c
    t.role = Role.sender ∧ t.mirror (0x2300 + ↑p) = 8960 + ↑q ∧ x.toInt ≠ 0 ∧ t.rdN (0x2300 + ↑q) 3 = 0 ∧ t.mayReclaim q = true) ∧
  (∃ (s : State) (c : CtxId) (x : Val) (p : Fin 2) (q : Fin 2),
    let t := s.touchCtx c
    t.role = Role.sender ∧ t.mirror (0x2300 + ↑p) = 8960 + ↑q ∧ x.toInt ≠ 0 ∧ t.ports[q].cstate = CState.control) ∧
  (∃ (s : State) (c : CtxId) (x : Val) (n : Fin 32),
    let t := s.touchCtx c
    t.role = Role.sender ∧ x.toInt = 0 ∧ t.streamOn ↑n = true) ∧
  (∃ (s : State) (c : CtxId) (x : Val) (n : Fin 32),
    let t := s.touchCtx c
    t.role = Role.sender ∧ x.toInt ≠ 0 ∧ t.streamOn ↑n = false ∧ t.streamLimits ↑n = true ∧ t.budgetCause ↑n = 0) ∧
  (∃ (s : State) (c : CtxId) (x : Val),
    let t := s.touchCtx c
    t.isMaster = true ∧ t.ingress.pending = none ∧ t.quartz.frame + 4 ≤ x.toInt.toNat) :=
  ⟨⟨.num 1, by decide +kernel⟩,
   ⟨tileUp.wrN 0x2101 0x0D 1, .host, .num 1, 8, by decide +kernel⟩,
   ⟨(tileUp.withLink 0 fun k => { k with phase := .up }).withLane 7 fun x => { x with stage := .spare }, .host, .num 1, 7, 0, by decide +kernel⟩,
   ⟨((tileUp.wrN 0x2110 0x30 2).wrN 0x2110 0x31 64).withLane 0 fun x => { x with tx := .prbs }, .host, .num 1, 0, by decide +kernel⟩,
   ⟨.num 0, by decide +kernel⟩,
   ⟨tileUp, .host, .num 1, 1, by decide +kernel⟩,
   ⟨tileUp, .host, .num 1, 1, by decide +kernel⟩,
   ⟨senderUp, .host, by decide +kernel⟩,
   ⟨tileUp, .host, .num 1, by decide +kernel⟩,
   ⟨tileUp, .host, .num 1, by decide +kernel⟩,
   ⟨ctlAB, .host, .num 1, 1, by decide +kernel⟩,
   ⟨((onQuartz (onPort senderUp 1 fun x => { x with cstate := .eligible, peerCState := some 2 }) fun q => { q with state := .locked }).wrN 0x2301 2 1).wrN 0x2301 3 0, .host, .num 1, 1, 1, by decide +kernel⟩,
   ⟨ctlAB, .host, .num 1, 1, 1, by decide +kernel⟩,
   ⟨senderUp.wrB 0x241F 1 true, .host, .num 0, 31, by decide +kernel⟩,
   ⟨((((senderUp.wrN 0x241F 4 64).wrN 0x241F 5 16).wrN 0x241F 6 24000).wrN 0x241F 7 1001).wrN 0x241F 9 10, .host, .num 1, 31, by decide +kernel⟩,
   ⟨masterUp, .host, .num 4, by decide +kernel⟩⟩

/-- Something meets the hypotheses of `MailboxChannel`, clause by clause. -/
theorem witness_MailboxChannel :
  (∃ (s : State) (m : BitVec 7) (c : Fin 128),
    let b := s.hostPort.bind[c]
    let x := s.hostPort.mailbox[c]
    isMaster m = true ∧ s.hostPort.bind[c].valid = true ∧ b.sender = m ∧ x.full = false) ∧
  (∃ (s : State) (m : BitVec 7) (c : Fin 128),
    let b := s.hostPort.bind[c]
    let x := s.hostPort.mailbox[c]
    isMaster m = true ∧ s.hostPort.bind[c].valid = true ∧ b.sender = m ∧ x.full = true) ∧
  (∃ (s : State) (m : BitVec 7) (c : Fin 128) (v : Word),
    let b := s.hostPort.bind[c]
    isMaster m = true ∧ s.hostPort.bind[c].valid = true ∧ b.sender = m ∧ BitVec.getLsbD v 4 = false) ∧
  (∃ (s : State) (m : BitVec 7) (c : Fin 128),
    let b := s.hostPort.bind[c]
    isMaster m = true ∧ s.hostPort.bind[c].valid = true ∧ b.receiver = m ∧ b.ackMode = false) ∧
  (∃ (s : State) (m : BitVec 7) (c : Fin 128),
    let b := s.hostPort.bind[c]
    isMaster m = true ∧ s.hostPort.bind[c].valid = true ∧ b.receiver = m ∧ b.ackMode = true) :=
  ⟨⟨State.reset.withHost fun h => { h with bind := vmod h.bind 127 fun b => { b with sender := 0x4A, valid := true } }, 0x4A, 127, by decide +kernel⟩,
   ⟨State.reset.withHost fun h => { h with bind := vmod h.bind 127 fun b => { b with sender := 0x4A, valid := true }, mailbox := vmod h.mailbox 127 fun x => { x with full := true } }, 0x4A, 127, by decide +kernel⟩,
   ⟨State.reset.withHost fun h => { h with bind := vmod h.bind 127 fun b => { b with sender := 0x4A, valid := true } }, 0x4A, 127, 0xF, by decide +kernel⟩,
   ⟨State.reset.withHost fun h => { h with bind := vmod h.bind 127 fun b => { b with receiver := 0x4A, valid := true } }, 0x4A, 127, by decide +kernel⟩,
   ⟨State.reset.withHost fun h => { h with bind := vmod h.bind 127 fun b => { b with receiver := 0x4A, valid := true, ackMode := true } }, 0x4A, 127, by decide +kernel⟩⟩

/-- Something meets the hypotheses of `MailboxViolations`, clause by clause. -/
theorem witness_MailboxViolations :
  (∃ (s : State) (m : BitVec 7) (c : Fin 128),
    let b := s.hostPort.bind[c]
    isMaster m = true ∧ b.valid = true ∧ b.sender ≠ m) ∧
  (∃ (s : State) (m : BitVec 7) (c : Fin 128),
    let b := s.hostPort.bind[c]
    isMaster m = true ∧ b.valid = true ∧ b.receiver ≠ m) ∧
  (∃ (s : State) (m : BitVec 7) (c : Fin 128),
    let b := s.hostPort.bind[c]
    isMaster m = true ∧ b.valid = false) :=
  ⟨⟨State.reset.withHost fun h => { h with bind := vmod h.bind 127 fun b => { b with valid := true } }, 1, 127, by decide +kernel⟩,
   ⟨State.reset.withHost fun h => { h with bind := vmod h.bind 127 fun b => { b with valid := true } }, 1, 127, by decide +kernel⟩,
   ⟨State.reset, 0x4A, 127, by decide +kernel⟩⟩

/-- Something meets the hypotheses of `MasterResetKeepsMessages`. -/
theorem witness_MasterResetKeepsMessages : ∃ (m : BitVec 7),
    isMaster m = true :=
  ⟨0x4A, by decide +kernel⟩

/-- Something meets the hypotheses of `PatternsInjectionAndLoopTiming`, clause by clause. -/
theorem witness_PatternsInjectionAndLoopTiming :
  (∃ (s : State) (l : Fin 24),
    let x := s.lanes.lane[l]
    x.timedRun = true) ∧
  (∃ (s : State) (l : Fin 24) (k : Fin 4) (y : LiveTest),
    let x := s.lanes.lane[l]
    x.timedRun = false ∧ s.linkOf l = some k ∧ s.lanes.link[k].test = some y ∧ y.lane = laneIdx l ∧ y.initiator = true ∧ y.stage = 1) ∧
  (∃ (s : State) (l : Fin 24) (k : Fin 4) (y : LiveTest),
    let x := s.lanes.lane[l]
    x.timedRun = false ∧ s.linkOf l = some k ∧ s.lanes.link[k].test = some y ∧ y.lane = laneIdx l ∧ y.stage = 2) ∧
  (∃ (s : State) (l : Fin 24),
    let x := s.lanes.lane[l]
    s.prbsLane l = true ∧ x.checker.locked = false ∧ s.rxPattern l = 15) ∧
  (∃ (s : State) (l : Fin 24),
    let x := s.lanes.lane[l]
    x.checker.locked = true) ∧
  (∃ (s : State) (l : Fin 24),
    let x := s.lanes.lane[l]
    x.injecting = true ∧ (s.injSizeOk l x.injKind x.injSize && s.injKindOk l x.injKind) = true) ∧
  (∃ (s : State) (l : Fin 24),
    let x := s.lanes.lane[l]
    x.injecting = true ∧ (s.injSizeOk l x.injKind x.injSize && s.injKindOk l x.injKind) = false) ∧
  (∃ (s : State) (port : Fin 2),
    s.role = Role.tile ∧ s.portUp (other port) = false) ∧
  (∃ (s : State) (port : Fin 2),
    s.role = Role.tile ∧ s.portUp (other port) = true ∧ s.tile.loopTimed[port] = false) ∧
  (∃ (s : State) (port : Fin 2),
    s.tile.slewing[port] = true) :=
  ⟨⟨tileUp.withLane 23 fun x => { x with timedRun := true }, 23, by decide +kernel⟩,
   ⟨tileUp.withLink 0 fun k => { k with test := some { lane := 7, initiator := true, pattern := 0, wasActive := false, stage := 1, announced := 0, failed := false } }, 7, 0, { lane := 7, initiator := true, pattern := 0, wasActive := false, stage := 1, announced := 0, failed := false }, by decide +kernel⟩,
   ⟨tileUp.withLink 0 fun k => { k with test := some { lane := 7, initiator := false, pattern := 0, wasActive := false, stage := 2, announced := 0, failed := false } }, 7, 0, { lane := 7, initiator := false, pattern := 0, wasActive := false, stage := 2, announced := 0, failed := false }, by decide +kernel⟩,
   ⟨(tileUp.withLane 23 fun x => { x with tx := .prbs }).wrN 0x2127 0x21 15, 23, by decide +kernel⟩,
   ⟨tileUp.withLane 23 fun x => { x with checker := { x.checker with locked := true } }, 23, by decide +kernel⟩,
   ⟨tileUp.withLane 15 fun x => { x with injecting := true, stage := .active, injKind := 3, injSize := 4 }, 15, by decide +kernel⟩,
   ⟨tileUp.withLane 15 fun x => { x with injecting := true, stage := .active, injKind := 3, injSize := 5 }, 15, by decide +kernel⟩,
   ⟨tileUp, 1, by decide +kernel⟩,
   ⟨tileUp.withLink 0 fun k => { k with phase := .up }, 1, by decide +kernel⟩,
   ⟨tileUp.withTile fun t => { t with slewing := vset t.slewing 1 true }, 1, by decide +kernel⟩⟩

set_option maxRecDepth 100000 in
/-- Something meets the hypotheses of `PictureAndLampObjectWrites`, clause by clause. -/
theorem witness_PictureAndLampObjectWrites :
  (∃ (s : State) (c : CtxId) (x : Val),
    let t := s.touchCtx c
    let f := x.toInt.toNat
    let asked := if f = 0 then t.earliest ms else f
    t.hasTiming = true ∧ t.video.compose.pending = none ∧ t.passed asked = false ∧ t.needsFifth asked = false) ∧
  (∃ (x : Val),
    x.toInt ≠ 0) ∧
  (∃ (s : State) (c : CtxId) (k : Fin 16) (set : List Byte),
    let t := s.touchCtx c
    set.length = 1800 ∧ coefOk set = true ∧ (t.configs.any fun g ↦ g.namesSet ↑k) = false) ∧
  (∃ (s : State) (c : CtxId) (k : Fin 8) (b : List Byte),
    let t := s.touchCtx c
    3 ≤ ↑k ∧ b.length = 16396 ∧ field b 0 2 = 1 ∧ field b 2 2 = 0 ∧ field b 16392 4 = crc32Nat (List.take 16392 b) ∧ (∀ i < 4097, byteAt b (7 + 4 * i) = 0) ∧ (t.configs.any fun g ↦ g.namesTable ↑k) = false) ∧
  (∃ (x : Val),
    x.toInt = 2) ∧
  (∃ (s : State) (c : CtxId) (x : Val),
    let t := s.touchCtx c
    x.toInt ≠ 2 ∧ t.rdN 0x2930 4 ≠ 1) ∧
  (∃ (s : State) (c : CtxId),
    let t := s.touchCtx c
    t.rdN 0x2930 4 ≠ 1) ∧
  (∃ (s : State) (c : CtxId) (x : Val) (p : Fin 64) (g : Gen),
    let t := s.touchCtx c
    x.toInt ≠ 0 ∧ t.genNow = some g ∧ g.portOn ↑p = true ∧ t.rdN (0x2A00 + ↑p) 11 ≠ 1) ∧
  (∃ (s : State) (c : CtxId),
    let t := s.touchCtx c
    t.rdN 0x2B00 17 ≠ 1 ∧ t.rdN 0x2B00 1 ≠ 0) ∧
  (∃ (s : State) (c : CtxId) (b : List Byte),
    let t := s.touchCtx c
    frustumOk b = true ∧ t.quartz.frame < field b 0 8) ∧
  (∃ (s : State) (c : CtxId) (b : List Byte),
    let t := s.touchCtx c
    let u := ((t.bump 0x2510 3 1).wrD 0x2510 1 b).withIngress fun g ↦ { g with frustumFrame := t.quartz.frame, frustumUsed := frustumUses b, frustumStale := false }
    t.controls 0 = true ∧ t.controls 1 = true ∧ u.single = false ∧ frustumOk b = true ∧ t.frustumEarliest ≤ field b 0 8) :=
  ⟨⟨onQuartz tileUp fun q => { q with lockedOnce := true }, .host, .num 0, by decide +kernel⟩,
   ⟨.num 1, by decide +kernel⟩,
   ⟨tileUp, .host, 15, coefSet, by exact ⟨coefSet_length, coefSet_ok, by decide +kernel⟩⟩,
   ⟨tileUp, .host, 3, linearTable ++ leBytes 4 (crc32Nat linearTable), by exact ⟨by decide, linearTable_length, linearTable_head, linearTable_spare, linearTable_crc, linearTable_gaps, by decide +kernel⟩⟩,
   ⟨.num 2, by decide +kernel⟩,
   ⟨tileUp, .host, .num 1, by decide +kernel⟩,
   ⟨tileUp, .host, by decide +kernel⟩,
   ⟨tileUp.withCompose fun c => { c with gens := [{ Gen.none_ with od := [(key 0x2A3F 1, .num 1)] }] }, .host, .num 1, 63, { Gen.none_ with od := [(key 0x2A3F 1, .num 1)] }, by decide +kernel⟩,
   ⟨tileUp.wrN 0x2B00 1 1, .host, by decide +kernel⟩,
   ⟨tileUp, .host, [1] ++ List.replicate 63 0, by decide +kernel⟩,
   ⟨ctlAB, .host, [1] ++ List.replicate 63 0, by decide +kernel⟩⟩

/-- Something meets the hypotheses of `RedundancyTimers`, clause by clause. -/
theorem witness_RedundancyTimers :
  (∃ (s : State) (p : Fin 2) (t0 : Nat),
    s.isSender = true ∧ s.single = false ∧ s.ports[p].take = some (t0, false)) ∧
  (∃ (s : State) (p : Fin 2) (t0 : Nat),
    s.isSender = true ∧ s.single = false ∧ s.ports[p].take = some (t0, true)) ∧
  (∃ (s : State),
    s.isSender = true ∧ s.single = true) ∧
  (∃ (s : State),
    s.isSender = true ∧ s.quartz.master = false) ∧
  (∃ (s : State) (p : Fin 2),
    s.isSender = true ∧ s.chainNo p ≠ 0 ∧ (s.single = false ∨ p = 0)) ∧
  (∃ (s : State) (p : Fin 2),
    s.isSender = true ∧ s.chainNo p ≠ 0 ∧ s.single = false) ∧
  (∃ (s : State) (p : Fin 2) (r : Reclaim),
    s.isSender = true ∧ s.ports[p].reclaim = some r ∧ r.acked = false ∧ 0 < r.attempts ∧ r.attempts < 3) ∧
  (∃ (s : State) (p : Fin 2) (r : Reclaim),
    s.isSender = true ∧ s.ports[p].reclaim = some r ∧ r.acked = false ∧ 3 ≤ r.attempts) ∧
  (∃ (s : State) (p : Fin 2) (r : Reclaim),
    s.isSender = true ∧ s.ports[p].reclaim = some r ∧ r.attempts = 0) :=
  ⟨⟨onPort senderUp 1 fun x => { x with take := some (5, false) }, 1, 5, by decide +kernel⟩,
   ⟨onPort senderUp 1 fun x => { x with take := some (5, true) }, 1, 5, by decide +kernel⟩,
   ⟨singleUp, by decide +kernel⟩,
   ⟨senderUp, by decide +kernel⟩,
   ⟨senderUp.wrN 0x2201 1 1, 1, by decide +kernel⟩,
   ⟨senderUp.wrN 0x2201 1 1, 1, by decide +kernel⟩,
   ⟨onPort senderUp 1 fun x => { x with reclaim := some { frame := 9, attempts := 2, acked := false, since := 0 } }, 1, { frame := 9, attempts := 2, acked := false, since := 0 }, by decide +kernel⟩,
   ⟨onPort senderUp 1 fun x => { x with reclaim := some { frame := 9, attempts := 3, acked := false, since := 0 } }, 1, { frame := 9, attempts := 3, acked := false, since := 0 }, by decide +kernel⟩,
   ⟨onPort senderUp 1 fun x => { x with reclaim := some { frame := 9, attempts := 0, acked := false, since := 0 } }, 1, { frame := 9, attempts := 0, acked := false, since := 0 }, by decide +kernel⟩⟩

/-- Something meets the hypotheses of `RedundancyUnits`, clause by clause. -/
theorem witness_RedundancyUnits :
  (∃ (s : State) (link : Fin 2) (u : CascadeUnit),
    let v := (s.takeUnit link u).2
    (s.takeUnit link u).1 = true ∧ u.kind = 4 ∧ field u.body 0 1 = 9 ∧ v.quartz.master = true) ∧
  (∃ (s : State) (link : Fin 2) (p : Fin 2) (u : CascadeUnit),
    let v := (s.takeUnit link u).2
    (s.takeUnit link u).1 = true ∧ u.kind = 4 ∧ v.portFor (field u.body 1 1) = some p ∧ field u.body 0 1 = 2) ∧
  (∃ (s : State) (link : Fin 2) (p : Fin 2) (u : CascadeUnit),
    let v := (s.takeUnit link u).2
    (s.takeUnit link u).1 = true ∧ u.kind = 4 ∧ v.portFor (field u.body 1 1) = some p ∧ field u.body 0 1 = 3 ∧ v.ports[p].cstate = CState.relinquishing) ∧
  (∃ (s : State) (link : Fin 2) (p : Fin 2) (u : CascadeUnit),
    let v := (s.takeUnit link u).2
    (s.takeUnit link u).1 = true ∧ u.kind = 4 ∧ v.portFor (field u.body 1 1) = some p ∧ field u.body 0 1 = 4 ∧
      v.ports[p].cstate.controls = true ∧ v.single = false ∧ v.ingress.pending ≠ none) ∧
  (∃ (s : State) (link : Fin 2) (p : Fin 2) (u : CascadeUnit),
    let v := (s.takeUnit link u).2
    let updates := v.update.armed.isSome || v.update.wu.closing.isSome || v.rdN 0x3100 0x36 == 3
    (s.takeUnit link u).1 = true ∧ u.kind = 4 ∧ v.portFor (field u.body 1 1) = some p ∧ field u.body 0 1 = 4 ∧
      v.ports[p].cstate.controls = true ∧ v.single = false ∧ v.ingress.pending = none ∧ updates = true) ∧
  (∃ (s : State) (link : Fin 2) (p : Fin 2) (u : CascadeUnit),
    let v := (s.takeUnit link u).2
    let f := v.ctrlFrame u.body
    let updates := v.update.armed.isSome || v.update.wu.closing.isSome || v.rdN 0x3100 0x36 == 3
    (s.takeUnit link u).1 = true ∧ u.kind = 4 ∧ v.portFor (field u.body 1 1) = some p ∧ field u.body 0 1 = 4 ∧
      v.ports[p].cstate.controls = true ∧ v.single = false ∧ v.ingress.pending = none ∧ updates = false ∧ f < v.quartz.frame + 2) ∧
  (∃ (s : State) (link : Fin 2) (p : Fin 2) (u : CascadeUnit),
    let v := (s.takeUnit link u).2
    let f := v.ctrlFrame u.body
    let updates := v.update.armed.isSome || v.update.wu.closing.isSome || v.rdN 0x3100 0x36 == 3
    (s.takeUnit link u).1 = true ∧ u.kind = 4 ∧ v.portFor (field u.body 1 1) = some p ∧ field u.body 0 1 = 4 ∧
      v.ports[p].cstate.controls = true ∧ v.single = false ∧ v.ingress.pending = none ∧ updates = false ∧ v.quartz.frame + 2 ≤ f) ∧
  (∃ (s : State) (link : Fin 2) (p : Fin 2) (u : CascadeUnit) (r : Reclaim),
    let v := (s.takeUnit link u).2
    let f := v.ctrlFrame u.body
    (s.takeUnit link u).1 = true ∧ u.kind = 4 ∧ v.portFor (field u.body 1 1) = some p ∧ v.ports[p].reclaim = some r ∧ field u.body 0 1 = 5 ∧ r.attempts ≠ 0 ∧ r.frame = f) ∧
  (∃ (s : State) (link : Fin 2) (p : Fin 2) (u : CascadeUnit) (r : Reclaim),
    let v := (s.takeUnit link u).2
    (s.takeUnit link u).1 = true ∧ u.kind = 4 ∧ v.portFor (field u.body 1 1) = some p ∧ v.ports[p].reclaim = some r ∧ field u.body 0 1 = 6) ∧
  (∃ (s : State) (link : Fin 2) (p : Fin 2) (u : CascadeUnit),
    let v := (s.takeUnit link u).2
    (s.takeUnit link u).1 = true ∧ u.kind = 4 ∧ v.portFor (field u.body 1 1) = some p ∧ field u.body 0 1 = 7 ∧ v.ports[p].cstate.controls = true) ∧
  (∃ (s : State) (link : Fin 2) (p : Fin 2) (u : CascadeUnit),
    let v := (s.takeUnit link u).2
    let f := v.ctrlFrame u.body
    (s.takeUnit link u).1 = true ∧ u.kind = 4 ∧ v.portFor (field u.body 1 1) = some p ∧ field u.body 0 1 = 8 ∧ v.ports[p].sumsLast.frame ≠ f) ∧
  (∃ (s : State) (link : Fin 2) (p : Fin 2) (u : CascadeUnit),
    let v := (s.takeUnit link u).2
    let f := v.ctrlFrame u.body
    (s.takeUnit link u).1 = true ∧ u.kind = 4 ∧ v.portFor (field u.body 1 1) = some p ∧ field u.body 0 1 = 8 ∧ v.ports[p].sumsLast.frame = f) :=
  ⟨⟨onQuartz cascX fun q => { q with master := true }, 0, unit 4 0 [9], by decide +kernel⟩,
   ⟨cascX.wrN 0x2201 1 255, 0, 1, unit 4 0 [2, 255], by decide +kernel⟩,
   ⟨onPort (cascX.wrN 0x2200 1 1) 0 fun x => { x with cstate := .relinquishing }, 0, 0, unit 4 0 [3, 1], by decide +kernel⟩,
   ⟨(onPort (cascX.wrN 0x2200 1 1) 0 fun x => { x with cstate := .control }).withIngress fun g => { g with pending := some (mapFor 9 []) }, 0, 0,
     unit 4 0 [4, 1], by decide +kernel⟩,
   ⟨(onPort (cascX.wrN 0x2200 1 1) 0 fun x => { x with cstate := .control }).wrN 0x3100 0x36 3, 0, 0, unit 4 0 [4, 1], by decide +kernel⟩,
   ⟨onPort (cascX.wrN 0x2200 1 1) 0 fun x => { x with cstate := .control }, 0, 0, unit 4 0 [4, 1, 0, 0, 1], by decide +kernel⟩,
   ⟨onPort (cascX.wrN 0x2200 1 1) 0 fun x => { x with cstate := .control }, 0, 0, unit 4 0 [4, 1, 0, 0, 2], by decide +kernel⟩,
   ⟨onPort (cascX.wrN 0x2200 1 1) 0 fun x => { x with reclaim := some { frame := 9, attempts := 1, acked := false, since := 0 } }, 0, 0, unit 4 0 [5, 1, 0, 0, 9], { frame := 9, attempts := 1, acked := false, since := 0 }, by decide +kernel⟩,
   ⟨onPort (cascX.wrN 0x2200 1 1) 0 fun x => { x with reclaim := some { frame := 9, attempts := 1, acked := false, since := 0 } }, 0, 0, unit 4 0 [6, 1], { frame := 9, attempts := 1, acked := false, since := 0 }, by decide +kernel⟩,
   ⟨onPort (cascX.wrN 0x2200 1 1) 0 fun x => { x with cstate := .control }, 0, 0, unit 4 0 [7, 1], by decide +kernel⟩,
   ⟨cascX.wrN 0x2200 1 1, 0, 0, unit 4 0 [8, 1, 0, 0, 1], by decide +kernel⟩,
   ⟨cascX.wrN 0x2200 1 1, 0, 0, unit 4 0 [8, 1], by decide +kernel⟩⟩

/-- Something meets the hypotheses of `SdoChannels`, clause by clause. -/
theorem witness_SdoChannels :
  (∃ (s : State) (c : CtxId) (frame : List Byte),
    let x := s.xferOf c
    let k := sdoClass x frame
    s.sdoOpen c frame = true ∧ (s.xferOf c).waits = false ∧ k = SdoClass.initiateDownload) ∧
  (∃ (s : State) (c : CtxId) (frame : List Byte),
    let x := s.xferOf c
    let k := sdoClass x frame
    s.sdoOpen c frame = true ∧ (s.xferOf c).waits = false ∧ k = SdoClass.initiateUpload) ∧
  (∃ (s : State) (c : CtxId) (frame : List Byte),
    let x := s.xferOf c
    let k := sdoClass x frame
    s.sdoOpen c frame = true ∧ (s.xferOf c).waits = false ∧ k = SdoClass.blockInitiate) ∧
  (∃ (s : State) (c : CtxId) (frame : List Byte),
    let x := s.xferOf c
    let k := sdoClass x frame
    s.sdoOpen c frame = true ∧ (s.xferOf c).waits = false ∧ k = SdoClass.blockUpload) ∧
  (∃ (s : State) (c : CtxId) (frame : List Byte),
    let x := s.xferOf c
    let k := sdoClass x frame
    s.sdoOpen c frame = true ∧ (s.xferOf c).waits = false ∧ k = SdoClass.abort) ∧
  (∃ (s : State) (c : CtxId) (frame : List Byte) (idx : Nat) (sub : Nat) (buf : List Byte) (size : Option Nat) (toggle : Bool) (wide : Bool) (d : List Byte),
    let u := s.touchCtx c
    let x := s.xferOf c
    let k := sdoClass x frame
    let cmd := BitVec.toNat (byteAt frame 0)
    s.sdoOpen c frame = true ∧ (s.xferOf c).waits = false ∧ k = SdoClass.downloadSegment ∧ u.xferOf c = Xfer.segDown idx sub buf size toggle wide ∧ segmentData frame = some d ∧ wide = (frame.length == 64) ∧ (tileIndex idx).isSome = false ∧ bit cmd 4 ≠ toggle) ∧
  (∃ (s : State) (c : CtxId) (frame : List Byte) (idx : Nat) (sub : Nat) (buf : List Byte) (size : Option Nat) (toggle : Bool) (wide : Bool) (d : List Byte),
    let u := s.touchCtx c
    let x := s.xferOf c
    let k := sdoClass x frame
    let cmd := BitVec.toNat (byteAt frame 0)
    s.sdoOpen c frame = true ∧ (s.xferOf c).waits = false ∧ k = SdoClass.downloadSegment ∧ u.xferOf c = Xfer.segDown idx sub buf size toggle wide ∧ segmentData frame = some d ∧ wide = (frame.length == 64) ∧ (tileIndex idx).isSome = false ∧ bit cmd 4 = toggle ∧ (∀ (n : Nat), size = some n → n < buf.length + d.length) ∧ size ≠ none) ∧
  (∃ (s : State) (c : CtxId) (frame : List Byte) (idx : Nat) (sub : Nat) (buf : List Byte) (size : Option Nat) (toggle : Bool) (wide : Bool) (d : List Byte),
    let u := s.touchCtx c
    let x := s.xferOf c
    let k := sdoClass x frame
    let cmd := BitVec.toNat (byteAt frame 0)
    s.sdoOpen c frame = true ∧ (s.xferOf c).waits = false ∧ k = SdoClass.downloadSegment ∧ u.xferOf c = Xfer.segDown idx sub buf size toggle wide ∧ segmentData frame = some d ∧ wide = (frame.length == 64) ∧ (tileIndex idx).isSome = false ∧ bit cmd 4 = toggle ∧ (∀ (n : Nat), size = some n → buf.length + d.length ≤ n) ∧ bit cmd 0 = false) ∧
  (∃ (s : State) (c : CtxId) (frame : List Byte) (idx : Nat) (sub : Nat) (buf : List Byte) (size : Option Nat) (toggle : Bool) (wide : Bool) (d : List Byte),
    let u := s.touchCtx c
    let x := s.xferOf c
    let k := sdoClass x frame
    let cmd := BitVec.toNat (byteAt frame 0)
    s.sdoOpen c frame = true ∧ (s.xferOf c).waits = false ∧ k = SdoClass.downloadSegment ∧ u.xferOf c = Xfer.segDown idx sub buf size toggle wide ∧ segmentData frame = some d ∧ wide = (frame.length == 64) ∧ (tileIndex idx).isSome = false ∧ bit cmd 4 = toggle ∧ (∀ (n : Nat), size = some n → n = buf.length + d.length) ∧ bit cmd 0 = true) ∧
  (∃ (s : State) (c : CtxId) (frame : List Byte) (idx : Nat) (sub : Nat) (rest : List Byte) (toggle : Bool),
    let u := s.touchCtx c
    let x := s.xferOf c
    let k := sdoClass x frame
    let cmd := BitVec.toNat (byteAt frame 0)
    s.sdoOpen c frame = true ∧ (s.xferOf c).waits = false ∧ k = SdoClass.uploadSegment ∧ u.xferOf c = Xfer.segUp idx sub rest toggle false ∧ frame.length = 8 ∧ bit cmd 4 = toggle ∧ 7 < rest.length) ∧
  (∃ (s : State) (c : CtxId) (frame : List Byte) (idx : Nat) (sub : Nat) (rest : List Byte) (toggle : Bool),
    let u := s.touchCtx c
    let x := s.xferOf c
    let k := sdoClass x frame
    let cmd := BitVec.toNat (byteAt frame 0)
    s.sdoOpen c frame = true ∧ (s.xferOf c).waits = false ∧ k = SdoClass.uploadSegment ∧ u.xferOf c = Xfer.segUp idx sub rest toggle false ∧ frame.length = 8 ∧ bit cmd 4 = toggle ∧ rest.length ≤ 7) ∧
  (∃ (s : State) (c : CtxId) (frame : List Byte) (idx : Nat) (sub : Nat) (buf : List Byte) (size : Option Nat) (seq : Nat) (crc : Bool),
    let u := s.touchCtx c
    let x := s.xferOf c
    let k := sdoClass x frame
    let cmd := BitVec.toNat (byteAt frame 0)
    s.sdoOpen c frame = true ∧ (s.xferOf c).waits = false ∧ k = SdoClass.blockSegment ∧ u.xferOf c = Xfer.blkDown idx sub buf size seq crc false false ∧ frame.length = 8 ∧ (tileIndex idx).isSome = false ∧ cmd % 128 = seq ∧ 1 ≤ seq ∧ seq < 127 ∧ bit cmd 7 = false) ∧
  (∃ (s : State) (c : CtxId) (frame : List Byte) (idx : Nat) (sub : Nat) (buf : List Byte) (size : Option Nat) (seq : Nat) (crc : Bool),
    let u := s.touchCtx c
    let x := s.xferOf c
    let k := sdoClass x frame
    let cmd := BitVec.toNat (byteAt frame 0)
    let d := List.take (buf.length - bits cmd 4 2) buf
    s.sdoOpen c frame = true ∧ (s.xferOf c).waits = false ∧ k = SdoClass.blockEnd ∧ u.xferOf c = Xfer.blkDown idx sub buf size seq crc true false ∧ frame.length = 8 ∧ (crc = true → (sdoCrc d).toNat = field frame 1 2) ∧ (∀ (n : Nat), size = some n → n = d.length)) ∧
  (∃ (s : State) (c : CtxId) (idx : Nat) (sub : Nat) (frame : List Byte) (n : Nat),
    let u := s.setXfer c Xfer.idle
    let checks := u.initChecks c idx sub (some n)
    let w := checks.2.writeLocal c idx sub (List.take n (List.drop 4 frame))
    frame.length = 8 ∧ field frame 1 2 = idx ∧ field frame 3 1 = sub ∧ (tileIndex idx).isSome = false ∧ BitVec.toNat (byteAt frame 0) = 35 + 4 * (4 - n) ∧ 1 ≤ n ∧ n ≤ 4 ∧ checks.1 = 0 ∧ w.1 = 0) ∧
  (∃ (s : State) (c : CtxId) (idx : Nat) (sub : Nat) (frame : List Byte) (n : Nat),
    let u := s.setXfer c Xfer.idle
    let checks := u.initChecks c idx sub (some n)
    let w := checks.2.writeLocal c idx sub (List.take n (List.drop 4 frame))
    frame.length = 8 ∧ field frame 1 2 = idx ∧ field frame 3 1 = sub ∧ (tileIndex idx).isSome = false ∧ BitVec.toNat (byteAt frame 0) = 35 + 4 * (4 - n) ∧ 1 ≤ n ∧ n ≤ 4 ∧ checks.1 = 0 ∧ w.1 ≠ 0) ∧
  (∃ (s : State) (c : CtxId) (idx : Nat) (sub : Nat) (frame : List Byte) (n : Nat),
    let u := s.setXfer c Xfer.idle
    let checks := u.initChecks c idx sub (some n)
    frame.length = 8 ∧ field frame 1 2 = idx ∧ field frame 3 1 = sub ∧ (tileIndex idx).isSome = false ∧ BitVec.toNat (byteAt frame 0) = 35 + 4 * (4 - n) ∧ 1 ≤ n ∧ n ≤ 4 ∧ checks.1 ≠ 0) ∧
  (∃ (s : State) (c : CtxId) (idx : Nat) (sub : Nat) (frame : List Byte) (x : Ctx),
    frame.length = 8 ∧ field frame 1 2 = idx ∧ field frame 3 1 = sub ∧ (tileIndex idx).isSome = false ∧ s.ctx? c = some x ∧ s.up = true ∧ x.xfer.waits = false ∧ x.xfer.object = some (idx, sub)) ∧
  (∃ (s : State) (c : CtxId) (idx : Nat) (sub : Nat) (frame : List Byte),
    frame.length = 8 ∧ field frame 1 2 = idx ∧ field frame 3 1 = sub ∧ (tileIndex idx).isSome = false ∧ s.sdoOpen c (padTo 8 (sdoHead 64 13056 1)) = true ∧ s.xferOf c = Xfer.idle) :=
  ⟨⟨tileUp, .host, padTo 8 [0x20], by decide +kernel⟩,
   ⟨tileUp, .host, padTo 64 [0x40], by decide +kernel⟩,
   ⟨tileUp, .host, padTo 8 [0xC0], by decide +kernel⟩,
   ⟨tileUp, .host, padTo 8 [0xA0], by decide +kernel⟩,
   ⟨tileUp, .host, padTo 8 [0x80], by decide +kernel⟩,
   ⟨hostXfer tileUp (.segDown 0x1008 0 [] none false false), .host, padTo 8 [0x10], 0x1008, 0, [], none, false, false, List.replicate 7 0, by decide +kernel⟩,
   ⟨hostXfer tileUp (.segDown 0x1008 0 [] (some 6) false false), .host, padTo 8 [0x00], 0x1008, 0, [], some 6, false, false, List.replicate 7 0, by decide +kernel⟩,
   ⟨hostXfer tileUp (.segDown 0x1008 0 [] (some 7) false false), .host, padTo 8 [0x00], 0x1008, 0, [], some 7, false, false, List.replicate 7 0, by decide +kernel⟩,
   ⟨hostXfer tileUp (.segDown 0x1008 0 [] (some 7) false false), .host, padTo 8 [0x01], 0x1008, 0, [], some 7, false, false, List.replicate 7 0, by decide +kernel⟩,
   ⟨hostXfer tileUp (.segUp 0x1008 0 (List.replicate 8 1) false false), .host, padTo 8 [0x60], 0x1008, 0, List.replicate 8 1, false, by decide +kernel⟩,
   ⟨hostXfer tileUp (.segUp 0x1008 0 (List.replicate 7 1) true false), .host, padTo 8 [0x70], 0x1008, 0, List.replicate 7 1, true, by decide +kernel⟩,
   ⟨hostXfer tileUp (.blkDown 0x1008 0 [] none 126 true false false), .host, padTo 8 [126], 0x1008, 0, [], none, 126, true, by decide +kernel⟩,
   ⟨hostXfer tileUp (.blkDown 0x1008 0 (List.replicate 7 0) (some 3) 1 true true false), .host, padTo 8 [0xD1], 0x1008, 0, List.replicate 7 0, some 3, 1, true, by decide +kernel⟩,
   ⟨tileUp, .host, 0x2D00, 1, [0x2F, 0x00, 0x2D, 1, 1, 0, 0, 0], 1, by decide +kernel⟩,
   ⟨tileUp, .host, 0x2D00, 1, [0x2F, 0x00, 0x2D, 1, 2, 0, 0, 0], 1, by decide +kernel⟩,
   ⟨tileUp, .host, 1, 0, [0x23, 1, 0, 0, 1, 2, 3, 4], 4, by decide +kernel⟩,
   ⟨hostXfer tileUp (.segUp 0x1008 0 [1] false false), .host, 0x1008, 0, [0x80, 8, 0x10, 0, 0, 0, 0, 0], { Ctx.fresh 2 5 0 with xfer := .segUp 0x1008 0 [1] false false }, by decide +kernel⟩,
   ⟨tileUp, .host, 0x1008, 0, [0x80, 8, 0x10, 0, 0, 0, 0, 0], by decide +kernel⟩⟩

/-- Something meets the hypotheses of `SemaphoreReadAndWrite`, clause by clause. -/
theorem witness_SemaphoreReadAndWrite :
  (∃ (s : State) (m : BitVec 7) (n : Fin 32),
    let x := s.hostPort.sem[n]
    isMaster m = true ∧ x.held = false) ∧
  (∃ (s : State) (m : BitVec 7) (n : Fin 32),
    let x := s.hostPort.sem[n]
    isMaster m = true ∧ x.held = true ∧ x.holder = m) ∧
  (∃ (s : State) (m : BitVec 7) (n : Fin 32),
    let x := s.hostPort.sem[n]
    isMaster m = true ∧ x.held = true ∧ x.holder ≠ m) ∧
  (∃ (s : State) (m : BitVec 7) (n : Fin 32),
    let x := s.hostPort.sem[n]
    isMaster m = true ∧ (x.held = true → x.holder ≠ m)) ∧
  (∃ (s : State) (m : BitVec 7) (n : Fin 32) (p : Fin 64) (imm : BitVec 18),
    isMaster m = true ∧ s.fetches p (wordI 0x2F 1 0 imm) ∧ imm.toNat = ↑n) ∧
  (∃ (s : State) (m : BitVec 7) (n : Fin 32) (p : Fin 64) (imm : BitVec 18),
    isMaster m = true ∧ s.fetches p (wordI 0x3D 0 0 imm) ∧ imm.toNat = ↑n) ∧
  (∃ (s : State) (m : BitVec 7) (n : Fin 32) (v : Word),
    let x := s.hostPort.sem[n]
    isMaster m = true ∧ BitVec.toNat v % 32 = ↑n ∧ ((64 ≤ m.toNat ∧ m.toNat ≤ 67 ∨ m = 73)) ∧ BitVec.getLsbD v 8 = true ∧ x.held = true) ∧
  (∃ (m : BitVec 7) (n : Fin 32) (v : Word),
    isMaster m = true ∧ BitVec.toNat v % 32 = ↑n ∧ ((64 ≤ m.toNat ∧ m.toNat ≤ 67 ∨ m = 73)) ∧ BitVec.getLsbD v 8 = false) ∧
  (∃ (m : BitVec 7) (n : Fin 32) (v : Word),
    isMaster m = true ∧ BitVec.toNat v % 32 = ↑n ∧ (¬(64 ≤ m.toNat ∧ m.toNat ≤ 67 ∨ m = 73))) :=
  ⟨⟨State.reset, 0x4A, 31, by decide +kernel⟩,
   ⟨State.reset.withHost fun h => { h with sem := vmod h.sem 31 fun x => { x with held := true, holder := 0x4A } }, 0x4A, 31, by decide +kernel⟩,
   ⟨State.reset.withHost fun h => { h with sem := vmod h.sem 31 fun x => { x with held := true, holder := 1 } }, 0x4A, 31, by decide +kernel⟩,
   ⟨State.reset, 0x4A, 31, by decide +kernel⟩,
   ⟨engineAt (wordI 0x2F 1 0 31) id, 0, 31, 0, 31, by decide +kernel, engineAt_fetches _, by decide +kernel⟩,
   ⟨engineAt (wordI 0x3D 0 0 31) id, 0, 31, 0, 31, by decide +kernel, engineAt_fetches _, by decide +kernel⟩,
   ⟨State.reset.withHost fun h => { h with sem := vmod h.sem 31 fun x => { x with held := true } }, 0x43, 31, 0x1FF, by decide +kernel⟩,
   ⟨0x40, 31, 0x1F, by decide +kernel⟩,
   ⟨0x44, 31, 0x1FF, by decide +kernel⟩⟩

/-- Something meets the hypotheses of `SeqWindowAcceptsOnce`, clause by clause. -/
theorem witness_SeqWindowAcceptsOnce :
  (∃ (w : Option SeqWindow) (v : BitVec 32) (w' : SeqWindow),
    judgeSeq w v = SeqVerdict.accept w') ∧
  (∃ (w : SeqWindow) (v : BitVec 32),
    4096 ≤ (w.high - v).toNat ∧ ((v - w.high).toNat = 0 ∨ 2 ^ 31 ≤ (v - w.high).toNat)) :=
  ⟨⟨none, 0, { high := 0, seen := 1 }, by decide +kernel⟩,
   ⟨{ high := 4096, seen := 1 }, 0, by decide +kernel⟩⟩

/-- Something meets the hypotheses of `ServiceAndAccessObjectWrites`, clause by clause. -/
theorem witness_ServiceAndAccessObjectWrites :
  (∃ (s : State) (c : CtxId) (x : Val) (idx : BitVec 16) (sub : BitVec 8) (b : List Byte),
    s.passes c idx.toNat sub.toNat b = some x) ∧
  (∃ (s : State) (c : CtxId) (x : Val),
    let t := s.touchCtx c
    x.toInt ≠ 0 ∧ t.pointer.state = 1 ∧ t.rdB 0x3100 21 = false ∧ t.pointing = false ∧ t.windowOpen = true) ∧
  (∃ (s : State) (c : CtxId) (x : Val),
    let t := s.touchCtx c
    x.toInt ≠ 0 ∧ t.pointer.state ≠ 0 ∧ t.pointing = false ∧ t.windowOpen = true) ∧
  (∃ (s : State) (c : CtxId) (x : Val),
    let t := s.touchCtx c
    x.toInt ≠ 0 ∧ t.pointer.state = 2 ∧ t.pointing = false ∧ t.windowOpen = true) ∧
  (∃ (s : State) (c : CtxId) (x : Val),
    let t := s.touchCtx c
    x.toInt = 1 ∧ t.coordinates = true ∧ t.rdN 0x3100 51 = 1 ∧ t.wuState = 0 ∧ t.update.wu.closing = none) ∧
  (∃ (s : State) (c : CtxId) (x : Val),
    let t := s.touchCtx c
    let fr := t.rdN 0x3100 50
    x.toInt = 2 ∧ t.coordinates = true ∧ t.wuState = 2 ∧ t.quartz.wall + 2 * second * subNs ≤ t.tFrame fr ∧ t.tFrame fr ≤ t.quartz.wall + 600 * second * subNs) ∧
  (∃ (s : State) (c : CtxId) (x : Val),
    let t := s.touchCtx c
    x.toInt = 3 ∧ t.coordinates = true ∧ (t.wuState = 1 ∨ t.wuState = 2)) ∧
  (∃ (s : State) (c : CtxId) (x : Val) (p : Fin 64),
    let t := s.touchCtx c
    let n := x.toInt.toNat
    n % 256 = ↑p ∧ t.otp.ceilings[p] = none ∧ t.otp.ceilLock = false) ∧
  (∃ (x : Val),
    x.toInt ≠ 0) ∧
  (∃ (s : State) (c : CtxId) (x : Val) (p : Fin 64),
    let t := s.touchCtx c
    x.toInt ≠ 0 ∧ t.isTile = true ∧ t.rdN 0x3200 34 ≠ 1 ∧ bistUnit (t.rdN 0x3200 32) = (2, ↑p) ∧ t.staging.portOn ↑p = false ∧ t.lamps.port[p].on = false) ∧
  (∃ (s : State) (c : CtxId) (a : Ctx) (b : List Byte),
    let t := s.touchCtx c
    t.ctx? c = some a ∧ byteAt b 0 = 1 ∧ b.length = 1 ∧ a.lockedUntil ≤ t.now) ∧
  (∃ (s : State) (c : CtxId) (a : Ctx) (b : List Byte) (nonce : BitVec 128),
    let t := s.touchCtx c
    t.ctx? c = some a ∧ [2, 3, 4].contains (BitVec.toNat (byteAt b 0)) = true ∧ b.length = 33 ∧ a.lockedUntil ≤ t.now ∧ a.nonceNow t.now = some nonce ∧ t.proofOk (BitVec.toNat (byteAt b 0)) (beBytes 16 nonce.toNat ++ leBytes 4 a.id ++ leBytes 1 (BitVec.toNat (byteAt b 0))) (List.drop 1 b) = true) ∧
  (∃ (s : State) (c : CtxId) (a : Ctx) (b : List Byte) (nonce : BitVec 128),
    let t := s.touchCtx c
    t.ctx? c = some a ∧ byteAt b 0 = 8 ∧ b.length = 65 ∧ a.lockedUntil ≤ t.now ∧ a.nonceNow t.now = some nonce ∧ t.proofOk 8 (beBytes 16 nonce.toNat ++ leBytes 4 a.id ++ leBytes 1 8) (List.drop 1 b) = true) ∧
  (∃ (s : State) (c : CtxId),
    let t := s.touchCtx c
    ((t.ctxLevel c).2 = true ∨ (t.rdD 0x3300 16).isEmpty = true ∧ 3 ≤ (t.ctxLevel c).1)) ∧
  (∃ (s : State) (c : CtxId) (x : Val),
    let t := s.touchCtx c
    (t.ctxLevel c).2 = true ∧ x.toInt ≠ t.rdI 0x3300 17) :=
  ⟨⟨tileUp, .gateway 4 true, .num 1, 0x2D00, 1, [1], by decide +kernel⟩,
   ⟨withPointer ((tileUp.wrB 0x3100 0x15 false).wrB 0x2E00 0x0F true) (pointerFlash 1), .host, .num 1, by exact ⟨by decide, trial_pointer _, by decide +kernel⟩⟩,
   ⟨withPointer ((tileUp.wrB 0x3100 0x15 false).wrB 0x2E00 0x0F true) (pointerFlash 1), .host, .num 1, by exact ⟨by decide, ne_of_eq_of_ne (trial_pointer _) (by decide), by decide +kernel⟩⟩,
   ⟨withPointer (tileUp.wrB 0x2E00 0x0F true) (pointerFlash 2), .host, .num 1, by exact ⟨by decide, final_pointer _, by decide +kernel⟩⟩,
   ⟨(coord 0 id).wrN 0x3100 0x33 1, .host, .num 1, by decide +kernel⟩,
   ⟨(coord 2 id).wrN 0x3100 0x32 1000, .host, .num 2, by decide +kernel⟩,
   ⟨coord 1 id, .host, .num 3, by decide +kernel⟩,
   ⟨tileUp, .host, .num 63, 63, by decide +kernel⟩,
   ⟨.num 1, by decide +kernel⟩,
   ⟨tileUp.wrN 0x3200 0x20 0xBF, .host, .num 1, 63, by decide +kernel⟩,
   ⟨tileUp, .host, Ctx.fresh 2 5 0, [1], by decide +kernel⟩,
   ⟨tileUp.withControl fun k => { k with host := { k.host with nonce := some (9, 0) } }, .host, { Ctx.fresh 2 5 0 with nonce := some (9, 0) }, [3] ++ List.replicate 32 0, 9, by decide +kernel⟩,
   ⟨tileUp.withControl fun k => { k with host := { k.host with nonce := some (9, 0) } }, .host, { Ctx.fresh 2 5 0 with nonce := some (9, 0) }, [8] ++ List.replicate 64 0, 9, by decide +kernel⟩,
   ⟨tileUp, .gateway 3 false, by decide +kernel⟩,
   ⟨tileUp, .gateway 4 true, .num 1, by decide +kernel⟩⟩

/-- Something meets the hypotheses of `ServicePort`, clause by clause. -/
theorem witness_ServicePort :
  (∃ (s : State) (src : SvcSource) (b : List Byte),
    let kept := List.find? (fun a ↦ a.1 == src.key) s.update.answers
    s.serviceUp = true ∧ field b 0 1 = 1 ∧ s.pointing = false ∧ (∀ (a : SvcSource × Nat × List Byte), kept = some a → a.2.1 ≠ field b 4 4) ∧ field b 1 1 = 1) ∧
  (∃ (s : State) (src : SvcSource) (b : List Byte),
    let kept := List.find? (fun a ↦ a.1 == src.key) s.update.answers
    s.serviceUp = true ∧ field b 0 1 = 1 ∧ s.pointing = false ∧ (∀ (a : SvcSource × Nat × List Byte), kept = some a → a.2.1 ≠ field b 4 4) ∧ field b 1 1 = 2) ∧
  (∃ (s : State) (src : SvcSource) (b : List Byte),
    let kept := List.find? (fun a ↦ a.1 == src.key) s.update.answers
    s.serviceUp = true ∧ field b 0 1 = 1 ∧ s.pointing = false ∧ (∀ (a : SvcSource × Nat × List Byte), kept = some a → a.2.1 ≠ field b 4 4) ∧ field b 1 1 = 3) ∧
  (∃ (s : State) (src : SvcSource) (b : List Byte),
    let kept := List.find? (fun a ↦ a.1 == src.key) s.update.answers
    s.serviceUp = true ∧ field b 0 1 = 1 ∧ s.pointing = false ∧ (∀ (a : SvcSource × Nat × List Byte), kept = some a → a.2.1 ≠ field b 4 4) ∧ field b 1 1 = 4) ∧
  (∃ (s : State) (src : SvcSource) (b : List Byte),
    let kept := List.find? (fun a ↦ a.1 == src.key) s.update.answers
    s.serviceUp = true ∧ field b 0 1 = 1 ∧ s.pointing = false ∧ (∀ (a : SvcSource × Nat × List Byte), kept = some a → a.2.1 ≠ field b 4 4) ∧ field b 1 1 = 5) ∧
  (∃ (s : State) (src : SvcSource) (b : List Byte),
    let kept := List.find? (fun a ↦ a.1 == src.key) s.update.answers
    s.serviceUp = true ∧ field b 0 1 = 1 ∧ s.pointing = false ∧ (∀ (a : SvcSource × Nat × List Byte), kept = some a → a.2.1 ≠ field b 4 4) ∧ field b 1 1 = 6) ∧
  (∃ (s : State) (src : SvcSource) (b : List Byte),
    let kept := List.find? (fun a ↦ a.1 == src.key) s.update.answers
    s.serviceUp = true ∧ field b 0 1 = 1 ∧ s.pointing = false ∧ (∀ (a : SvcSource × Nat × List Byte), kept = some a → a.2.1 ≠ field b 4 4) ∧ field b 1 1 = 7) ∧
  (∃ (s : State) (src : SvcSource) (b : List Byte),
    let kept := List.find? (fun a ↦ a.1 == src.key) s.update.answers
    s.serviceUp = true ∧ field b 0 1 = 1 ∧ s.pointing = false ∧ (∀ (a : SvcSource × Nat × List Byte), kept = some a → a.2.1 ≠ field b 4 4) ∧ field b 1 1 = 8) ∧
  (∃ (s : State) (src : SvcSource) (b : List Byte),
    let kept := List.find? (fun a ↦ a.1 == src.key) s.update.answers
    s.serviceUp = true ∧ field b 0 1 = 1 ∧ s.pointing = false ∧ (∀ (a : SvcSource × Nat × List Byte), kept = some a → a.2.1 ≠ field b 4 4) ∧ field b 1 1 = 9) ∧
  (∃ (s : State) (src : SvcSource) (b : List Byte),
    let kept := List.find? (fun a ↦ a.1 == src.key) s.update.answers
    s.serviceUp = true ∧ field b 0 1 = 1 ∧ s.pointing = false ∧ (∀ (a : SvcSource × Nat × List Byte), kept = some a → a.2.1 ≠ field b 4 4) ∧ field b 1 1 = 10) ∧
  (∃ (s : State) (src : SvcSource) (b : List Byte),
    let kept := List.find? (fun a ↦ a.1 == src.key) s.update.answers
    s.serviceUp = true ∧ field b 0 1 = 1 ∧ s.pointing = false ∧ (∀ (a : SvcSource × Nat × List Byte), kept = some a → a.2.1 ≠ field b 4 4) ∧ field b 1 1 = 11) ∧
  (∃ (s : State) (src : SvcSource) (b : List Byte) (k : SvcSource) (a : List Byte),
    let kept := List.find? (fun a ↦ a.1 == src.key) s.update.answers
    s.serviceUp = true ∧ field b 0 1 = 1 ∧ s.pointing = false ∧ kept = some (k, field b 4 4, a) ∧ a ≠ [] ∧ field b 1 1 = 2) ∧
  (∃ (s : State) (b : List Byte) (k : SvcSource) (r : SessionRecord),
    s.update.session = some k ∧ s.update.record = some r ∧ r.digest = slice (svcData b) 0 32) ∧
  (∃ (s : State) (b : List Byte) (k : SvcSource) (r : SessionRecord),
    s.update.session = some k ∧ s.update.record = some r ∧ r.digest ≠ slice (svcData b) 0 32) ∧
  (∃ (s : State) (src : SvcSource) (b : List Byte),
    s.sessionOf src b = none) ∧
  (∃ (s : State) (src : SvcSource) (b : List Byte) (r : SessionRecord),
    s.sessionOf src b = some r ∧ s.rdN 0x3100 1 = 1 ∧ r.full = true ∧ s.windowOpen = true) ∧
  (∃ (s : State) (src : SvcSource) (b : List Byte) (r : SessionRecord),
    s.sessionOf src b = some r ∧ r.full = false) ∧
  (∃ (s : State) (src : SvcSource) (b : List Byte) (r : SessionRecord),
    s.sessionOf src b = some r ∧ r.target = 0 ∧ s.rdN 0x3100 1 = 3 ∧ s.refusal s.update.ownerProof [3, 4, 5, 6] = 0 ∧ svcData b = []) ∧
  (∃ (s : State) (src : SvcSource) (b : List Byte) (r : SessionRecord),
    s.sessionOf src b = some r ∧ r.target = 0 ∧ s.rdN 0x3100 1 = 3 ∧ s.refusal s.update.ownerProof [3, 4, 5, 6] = 0 ∧ svcData b ≠ []) ∧
  (∃ (s : State),
    s.rdN 0x3100 1 = 4) ∧
  (∃ (s : State),
    s.pointer.state = 0) ∧
  (∃ (s : State),
    s.pointer.state = 1) :=
  ⟨⟨tileUp, .sgmii 1 2, [1, 1], by decide +kernel⟩,
   ⟨tileUp, .sgmii 1 2, [1, 2], by decide +kernel⟩,
   ⟨tileUp, .sgmii 1 2, [1, 3], by decide +kernel⟩,
   ⟨tileUp, .sgmii 1 2, [1, 4], by decide +kernel⟩,
   ⟨tileUp, .sgmii 1 2, [1, 5], by decide +kernel⟩,
   ⟨tileUp, .sgmii 1 2, [1, 6], by decide +kernel⟩,
   ⟨tileUp, .sgmii 1 2, [1, 7], by decide +kernel⟩,
   ⟨tileUp, .sgmii 1 2, [1, 8], by decide +kernel⟩,
   ⟨tileUp, .sgmii 1 2, [1, 9], by decide +kernel⟩,
   ⟨tileUp, .sgmii 1 2, [1, 10], by decide +kernel⟩,
   ⟨tileUp, .sgmii 1 2, [1, 11], by decide +kernel⟩,
   ⟨tileUp.withUpdate fun u => { u with answers := [(.chain, 9, [1])] }, .chainAll, [1, 2, 0, 0, 9], .chain, [1], by decide +kernel⟩,
   ⟨tileUp.withUpdate fun u => { u with session := some .chain, record := some (sess 0 0) }, [], .chain, sess 0 0, by decide +kernel⟩,
   ⟨tileUp.withUpdate fun u => { u with session := some .chain, record := some (sess 0 0) }, List.replicate 16 0 ++ [1, 0, 0, 0, 1], .chain, sess 0 0, by decide +kernel⟩,
   ⟨tileUp, .chain, [], by decide +kernel⟩,
   ⟨((tileUp.wrB 0x2E00 0x0F true).wrN 0x3100 1 1).withUpdate fun u => { u with session := some .chain, record := some (sess 0 0) }, .chain, [], sess 0 0, by decide +kernel⟩,
   ⟨tileUp.withUpdate fun u => { u with session := some .chain, record := some (sess 0 1) }, .chain, [1, 5, 7], sess 0 1, by decide +kernel⟩,
   ⟨(((tileUp.wrB 0x2E00 0x0F true).wrN 0x3100 1 3).wrB 0x2E00 0x12 true).withUpdate fun u => { u with session := some .chain, record := some (sess 0 0) }, .chain, [1, 6, 7], sess 0 0, by decide +kernel⟩,
   ⟨(((tileUp.wrB 0x2E00 0x0F true).wrN 0x3100 1 3).wrB 0x2E00 0x12 true).withUpdate fun u => { u with session := some .chain, record := some (sess 0 0) }, .chain, [1, 6, 7] ++ List.replicate 13 0 ++ [8], sess 0 0, by decide +kernel⟩,
   ⟨tileUp.wrN 0x3100 1 4, by decide +kernel⟩,
   ⟨tileUp, by decide +kernel⟩,
   ⟨withPointer tileUp (pointerFlash 1), by exact trial_pointer _⟩⟩

set_option maxRecDepth 100000 in
/-- Something meets the hypotheses of `ServiceTimers`, clause by clause. -/
theorem witness_ServiceTimers :
  (∃ (s : State) (k : SvcSource),
    s.update.session = some k) ∧
  (∃ (s : State) (n : BitVec 128) (at_ : Nat),
    s.update.hello = some (n, at_)) ∧
  (∃ (s : State) (due : Nat),
    s.update.confirmAt = some due) ∧
  (∃ (s : State),
    s.up = true ∧ s.pointer.state = 1 ∧ s.rdB 0x3100 21 = true ∧ s.pointing = false ∧ s.selfTestOk = true) ∧
  (∃ (s : State) (r : SessionRecord),
    s.serviceUp = true ∧ s.rdN 0x3100 1 = 2 ∧ s.update.record = some r ∧ s.failingPart r = none) ∧
  (∃ (s : State) (r : SessionRecord) (i : Nat),
    s.serviceUp = true ∧ s.rdN 0x3100 1 = 2 ∧ s.update.record = some r ∧ s.failingPart r = some i) ∧
  (∃ (s : State) (f : Nat) (r : SessionRecord),
    let u := (s.untilWall (s.tFrame f)).withUpdate fun x ↦ { x with armed := none }
    s.update.armed = some f ∧ s.update.record = some r ∧ u.refusal u.update.ownerProof [3, 4, 5, 6] = 0) ∧
  (∃ (s : State) (port : Fin 2) (x : RxCell),
    let u := s.arrive port x
    x.cell.type = 5 ∧ (u.admitCell x).1 = true) ∧
  (∃ (s : State) (port : Fin 2) (x : RxCell),
    let u := s.arrive port x
    x.cell.type = 5 ∧ (u.admitCell x).1 = false) :=
  ⟨⟨tileUp.withUpdate fun u => { u with session := some .chain }, .chain, by decide +kernel⟩,
   ⟨tileUp.withUpdate fun u => { u with hello := some (9, 5) }, 9, 5, by decide +kernel⟩,
   ⟨tileUp.withUpdate fun u => { u with confirmAt := some 5 }, 5, by decide +kernel⟩,
   ⟨withPointer ((onQuartz (tileUp.wrB 0x3100 0x15 true) fun q => { q with state := .locked }).withUpdate fun u => { u with migrated := true }) (pointerFlash 1), by exact ⟨by decide, trial_pointer _, by decide +kernel⟩⟩,
   ⟨onNvm ((tileUp.wrN 0x3100 1 2).withUpdate fun u => { u with record := some (sess 0 4096) }) fun n => { n with flash := [(0x2000006, 0)] }, sess 0 4096, by decide +kernel⟩,
   ⟨(tileUp.wrN 0x3100 1 2).withUpdate fun u => { u with record := some (sess 3 1) }, sess 3 1, 0, by decide +kernel⟩,
   ⟨((tileUp.wrB 0x2E00 0x0F true).wrB 0x2E00 0x12 true).withUpdate fun u => { u with armed := some 5, record := some (sess 0 0) }, 5, sess 0 0, by decide +kernel⟩,
   ⟨tileUp, 1, rx 5 0xFFF 0 [1, 1], by decide +kernel⟩,
   ⟨tileUp, 1, rx 5 0 0 [1, 1], by decide +kernel⟩⟩

/-- Something meets the hypotheses of `SimultaneousSemaphoreReads`. -/
theorem witness_SimultaneousSemaphoreReads : ∃ (s : State) (ms_ : List (BitVec 7)) (n : Fin 32) (w : BitVec 7),
    let last := s.hostPort.sem[n].lastWinner
    let rank := fun m ↦ (m.toNat + 75 - (last.toNat + 1) % 75) % 75
    s.hostPort.sem[n].held = false ∧ (∀ m ∈ ms_, m.toNat ≤ 74) ∧ w ∈ ms_ ∧ (∀ m ∈ ms_, m ≠ w → rank w < rank m) :=
  ⟨State.reset, [0x4A, 1, 0], 31, 0, by decide +kernel⟩

/-- Something meets the hypotheses of `SourcesAndPulses`, clause by clause. -/
theorem witness_SourcesAndPulses :
  (∃ (s : State) (port : Nat) (domain : Nat) (ident : Nat),
    s.ptpFrom port domain ident = true) ∧
  (∃ (s : State) (port : Nat) (domain : Nat) (ident : Nat) (seq : Nat) (t2 : Nat),
    s.ptpFrom port domain ident = true ∧ s.quartz.ptp.syncWait = some (seq, t2)) ∧
  (∃ (s : State) (port : Nat) (domain : Nat) (ident : Nat) (seq : Nat) (t3 : Nat),
    s.ptpFrom port domain ident = true ∧ s.quartz.ptp.reqWait = some (seq, t3)) ∧
  (∃ (s : State),
    s.isSender = true ∧ s.quartz.ptp.master ≠ none) ∧
  (∃ (s : State) (d : PtpDataset) (log : Int),
    let again := s.quartz.ptp.seen.any fun x => x.data.source == d.source && decide (s.now ≤ x.heard + 4 * announceNs log)
    let seen : List PtpForeign := { data := d, heard := s.now, log := log, qualified := again } ::
      s.quartz.ptp.seen.filter fun x => x.data.source != d.source
    s.isSender = true ∧ -3 ≤ log ∧ log ≤ 1 ∧ ∀ x ∈ seen, x.qualified = false) ∧
  (∃ (s : State) (d : PtpDataset) (log : Int),
    let again := s.quartz.ptp.seen.any fun x => x.data.source == d.source && decide (s.now ≤ x.heard + 4 * announceNs log)
    let m : PtpForeign := { data := d, heard := s.now, log := log, qualified := again }
    let seen := m :: s.quartz.ptp.seen.filter fun x => x.data.source != d.source
    s.isSender = true ∧ -3 ≤ log ∧ log ≤ 1 ∧ again = true ∧ ∀ x ∈ seen, x.qualified = true → x = m) ∧
  (∃ (s : State) (d : PtpDataset),
    s.quartz.ptp.master = some d ∧ ∀ x ∈ s.quartz.ptp.seen, x.data.source ≠ d.source → x.qualified = false) ∧
  (∃ (s : State),
    s.isMaster = true ∧ s.rdN 0x2600 1 ≠ 3 ∧ s.quartz.state = QState.locked) ∧
  (∃ (s : State),
    let theta := s.edgeDue s.edgeFrame - ↑s.quartz.wall
    s.isMaster = true ∧ s.rdN 0x2600 1 = 1 ∧ s.quartz.glLocked = true ∧ 1000 * subNs < theta.natAbs) ∧
  (∃ (s : State),
    let theta := s.edgeDue s.edgeFrame - ↑s.quartz.wall
    s.isMaster = true ∧ s.rdN 0x2600 1 = 1 ∧ (s.quartz.glLocked = false ∨ theta.natAbs ≤ 1000 * subNs)) ∧
  (∃ (s : State),
    s.isMaster = true ∧ s.rdN 0x2600 1 = 2) ∧
  (∃ (s : State) (f : Nat) (k : Nat) (w : Int),
    s.up = true ∧ s.quartz.lockedOnce = true ∧ s.frameOutAt f k = some w) :=
  ⟨⟨onQuartz ((senderUp.wrN 0x2600 4 127).wrN 0x2600 3 8) fun q => { q with ptp := { q.ptp with master := some (grand 6) } }, 8, 127, 77, by decide +kernel⟩,
   ⟨onQuartz ((senderUp.wrN 0x2600 4 127).wrN 0x2600 3 8) fun q => { q with ptp := { q.ptp with master := some (grand 6), syncWait := some (3, 4) } }, 8, 127, 77, 3, 4, by decide +kernel⟩,
   ⟨onQuartz ((senderUp.wrN 0x2600 4 127).wrN 0x2600 3 8) fun q => { q with ptp := { q.ptp with master := some (grand 6), reqWait := some (3, 4) } }, 8, 127, 77, 3, 4, by decide +kernel⟩,
   ⟨onQuartz senderUp fun q => { q with ptp := { q.ptp with master := some (grand 6) } }, by decide +kernel⟩,
   ⟨senderUp, grand 6, -3, by decide +kernel⟩,
   ⟨onQuartz senderUp fun q => { q with ptp := { q.ptp with seen := [heard77] } }, grand 7, 1, by decide +kernel⟩,
   ⟨onQuartz senderUp fun q => { q with ptp := { q.ptp with master := some (grand 6), seen := [heard77] } }, grand 6, by decide +kernel⟩,
   ⟨(onQuartz masterUp fun q => { q with state := .locked }).wrN 0x2600 1 1, by decide +kernel⟩,
   ⟨(onQuartz masterUp fun q => { q with glLocked := true, wall := 1001 * subNs, set := { q.set with tBase := 0 } }).wrN 0x2600 1 1, by decide +kernel⟩,
   ⟨(onQuartz masterUp fun q => { q with glLocked := true, wall := 1000 * subNs }).wrN 0x2600 1 1, by decide +kernel⟩,
   ⟨masterUp.wrN 0x2600 1 2, by decide +kernel⟩,
   ⟨(onQuartz senderUp fun q => { q with lockedOnce := true }).wrN 0x2600 0x1E 1, 0, 0, 0, by decide +kernel⟩⟩

/-- A write passes its checks and the object takes it. -/
def taken (w : State × CtxId × Nat × Nat × List Byte) : Bool :=
  match w.1.passes w.2.1 w.2.2.1 w.2.2.2.1 w.2.2.2.2 with
  | some x => (((w.1.touchCtx w.2.1).storeObject w.2.1 ((w.1.touchCtx w.2.1).mirror w.2.2.1) w.2.2.2.1 x).1) == 0
  | none => false

/-- The checks of a write that do not look at its content. -/
theorem passes_of {s : State} {c : CtxId} {idx sub : Nat} {b : List Byte} {r : OdRow} (hu : s.up = true)
    (hw : (tileIndex idx).isSome = false) (hr : (s.touchCtx c).writeChecks c ((s.touchCtx c).mirror idx) sub = .ok r)
    (hf : r.ty.fits b.length = true) (hd : r.ty.isData = true) : s.passes c idx sub b = some (r.ty.value b) := by
  simp [State.passes, hu, hw, hr, hf, hd]

theorem stores_coeff (s : State) (c : CtxId) (h : (s.configs.any fun g => g.namesSet 15) = false) :
    (s.storeObject c 0x285F 0x01 (.data coefSet)).1 = 0 := by
  rw [storeObject_video s c 0x01 _ (by decide) (by decide)]
  simp [State.storeVideo, Val.toData, State.writeCoeff, coefSet_length, coefSet_ok, h]

theorem stores_table {s : State} (c : CtxId) {b : List Byte} (hl : b.length = 16396) (hv : field b 0 2 = 1) (hs : field b 2 2 = 0)
    (hc : field b 16392 4 = crc32Nat (b.take 16392)) (hg : ∀ i < 4097, byteAt b (7 + 4 * i) = 0)
    (h : (s.configs.any fun g => g.namesTable 3) = false) : (s.storeObject c 0x2923 0x01 (.data b)).1 = 0 := by
  rw [storeObject_video s c 0x01 _ (by decide) (by decide)]
  simp [State.storeVideo, Val.toData, State.writeTable, hl, hv, hs, hc, h]
  rw [if_neg (by simpa using hg)]

theorem stores_confirm {s : State} (c : CtxId) (h : s.pointer.state = 1) (hd : s.rdB 0x3100 0x15 = false) (hp : s.pointing = false)
    (hw : s.windowOpen = true) : (s.storeObject c 0x3100 0x14 (.num 1)).1 = 0 := by
  simp [State.storeObject, State.storeService, Val.toInt, State.confirmWrite, h, hd, hp, hw]

theorem stores_rollback {s : State} (c : CtxId) (h : s.pointer.state ≠ 0) (hp : s.pointing = false) (hw : s.windowOpen = true) :
    (s.storeObject c 0x3100 0x1B (.num 1)).1 = 0 := by
  simp [State.storeObject, State.storeService, Val.toInt, State.rollbackWrite, h, hp, hw]

theorem stores_finalize {s : State} (c : CtxId) (h : s.pointer.state = 2) (hp : s.pointing = false) (hw : s.windowOpen = true) :
    (s.storeObject c 0x3100 0x1C (.num 1)).1 = 0 := by
  simp [State.storeObject, State.storeService, Val.toInt, State.finalizeWrite, h, hp, hw]

/-- A tile whose flash holds a boot pointer, with a window for its writes. -/
def booted (state : Byte) : State := withPointer ((tileUp.wrB 0x3100 0x15 false).wrB 0x2E00 0x0F true) (pointerFlash state)

set_option maxRecDepth 100000 in
/-- Something meets the hypotheses of `CommandsTakeEffect`, clause by clause: a write of each object, a request of each class of
an SDO channel, and each of the other commands. -/
theorem witness_CommandsTakeEffect :
  (∀ w ∈ ([
      (tileUp, .gateway 4 true, 0x2D00, 1, [1]),
      (tileUp, .gateway 4 true, 0x2117, 0x16, [1]),
      ((tileUp.withLink 0 fun k => { k with phase := .up }).withLane 7 fun x => { x with stage := .spare }, .gateway 4 true, 0x2117, 0x23, [1]),
      (((tileUp.wrN 0x2110 0x30 2).wrN 0x2110 0x31 64).withLane 0 fun x => { x with tx := .prbs }, .gateway 4 true, 0x2110, 0x34, [1]),
      (tileUp, .gateway 4 true, 0x2110, 0x34, [0]),
      (tileUp, .gateway 4 true, 0x2101, 0x0D, [1]),
      (tileUp, .gateway 4 true, 0x2101, 0x0E, [1]),
      (ctlAB, .gateway 4 true, 0x2201, 4, [1]),
      (((onQuartz (onPort senderUp 1 fun x => { x with cstate := .eligible, peerCState := some 2 }) fun q => { q with state := .locked }).wrN 0x2301 2 1).wrN 0x2301 3 0, .gateway 4 true, 0x2301, 0x15, [1]),
      (ctlAB, .gateway 4 true, 0x2301, 0x16, [1]),
      (senderUp.wrB 0x241F 1 true, .gateway 4 true, 0x241F, 1, [0]),
      (tileUp.withCompose fun c => { c with gens := [{ Gen.none_ with od := [(key 0x2A3F 1, .num 1)] }] }, .gateway 4 true, 0x2A3F, 9, [1]),
      (tileUp, .gateway 4 true, 0x2A3F, 0x18, [1]),
      (tileUp, .gateway 4 true, 0x2C4F, 0x0F, [1]),
      (tileUp.wrB 0x2E00 0x0F true, .gateway 4 true, 0x1010, 2, leBytes 4 0x65766173),
      (tileUp.wrB 0x2E00 0x0F true, .gateway 4 true, 0x1011, 2, leBytes 4 0x64616F6C),
      (tileUp.wrB 0x2E00 0x0F true, .gateway 4 true, 0x3000, 5, leBytes 4 0x74636166),
      (tileUp, .gateway 4 true, 0x1003, 0, [0,0,0,0]),
      (tileUp, .gateway 4 true, 0x2000, 0x10, [1]),
      (tileUp, .gateway 4 true, 0x2000, 0x10, [2]),
      ((coord 0 id).wrN 0x3100 0x33 1, .gateway 4 true, 0x3100, 0x31, [1]),
      ((coord 2 id).wrN 0x3100 0x32 1000, .gateway 4 true, 0x3100, 0x31, [2]),
      (coord 1 id, .gateway 4 true, 0x3100, 0x31, [3]),
      (senderUp, .gateway 4 true, 0x2102, 1, [2]),
      (tileUp, .gateway 4 true, 0x2200, 0x0F, [1]),
      (senderUp, .gateway 4 true, 0x2212, 3, [1]),
      (tileUp, .gateway 4 true, 0x2200, 4, [1]),
      (masterUp, .gateway 4 true, 0x2500, 3, leBytes 8 4),
      (onQuartz tileUp fun q => { q with lockedOnce := true }, .gateway 4 true, 0x2880, 2, leBytes 8 0),
      (tileUp, .gateway 4 true, 0x2880, 6, [1]),
      (tileUp, .gateway 4 true, 0x2930, 1, [1]),
      (tileUp, .gateway 4 true, 0x2930, 3, [1]),
      (tileUp, .gateway 4 true, 0x2B00, 0x17, [1]),
      (tileUp.wrN 0x2B00 1 1, .gateway 4 true, 0x2B00, 0x10, [0xFF]),
      (tileUp, .gateway 4 true, 0x2A80, 7, [1] ++ List.replicate 63 0),
      (ctlAB, .gateway 4 true, 0x2510, 1, [1] ++ List.replicate 63 0),
      (tileUp, .gateway 4 true, 0x2D00, 0x15, [1]),
      (tileUp, .gateway 4 true, 0x2D00, 0x21, [1]),
      (tileUp.wrB 0x2E00 0x0F true, .gateway 4 true, 0x2F00, 1, [3]),
      (masterUp, .gateway 4 true, 0x2600, 0x23, leBytes 8 1),
      (masterUp, .gateway 4 true, 0x2600, 0x24, leBytes 8 1),
      (onQuartz masterUp fun q => { q with set := { q.set with d := 123457 } }, .gateway 4 true, 0x2600, 0x0F, [1]),
      (masterUp.wrN 0x2600 0x14 16683333, .gateway 4 true, 0x2600, 8, leBytes 8 16),
      (tileUp, .gateway 4 true, 0x3200, 2, leBytes 8 63),
      (tileUp, .gateway 4 true, 0x3200, 3, [1]),
      (tileUp.wrN 0x3200 0x20 0xBF, .gateway 4 true, 0x3200, 0x21, [1]),
      (tileUp, .host, 0x3300, 2, [1]),
      (tileUp, .host, 0x3300, 4, [1]),
      (tileUp, .gateway 4 true, 0x3300, 0x10, List.replicate 32 1),
      (tileUp, .gateway 4 true, 0x3300, 0x11, [1]),
      (tileUp.wrB 0x2E00 0x0F true, .gateway 5 true, 0x3000, 0x1B, leBytes 4 1936746862)] : List (State × CtxId × Nat × Nat × List Byte)), taken w = true) ∧
  (∃ (s : State) (c : CtxId) (x : Val),
    s.passes c 0x285F 1 coefSet = some x ∧ ((s.touchCtx c).storeObject c ((s.touchCtx c).mirror 0x285F) 1 x).1 = 0) ∧
  (∃ (s : State) (c : CtxId) (x : Val) (b : List Byte),
    s.passes c 0x2923 1 b = some x ∧ ((s.touchCtx c).storeObject c ((s.touchCtx c).mirror 0x2923) 1 x).1 = 0) ∧
  (∃ (s : State) (c : CtxId) (x : Val),
    s.passes c 0x3100 0x14 (leBytes 1 1) = some x ∧ ((s.touchCtx c).storeObject c ((s.touchCtx c).mirror 0x3100) 0x14 x).1 = 0) ∧
  (∃ (s : State) (c : CtxId) (x : Val),
    s.passes c 0x3100 0x1B (leBytes 1 1) = some x ∧ ((s.touchCtx c).storeObject c ((s.touchCtx c).mirror 0x3100) 0x1B x).1 = 0) ∧
  (∃ (s : State) (c : CtxId) (x : Val),
    s.passes c 0x3100 0x1C (leBytes 1 1) = some x ∧ ((s.touchCtx c).storeObject c ((s.touchCtx c).mirror 0x3100) 0x1C x).1 = 0) ∧
  (∀ w ∈ ([(tileUp, padTo 8 [0x20], .initiateDownload), (tileUp, padTo 8 [0x40], .initiateUpload),
      (tileUp, padTo 8 [0xC0], .blockInitiate), (tileUp, padTo 8 [0xA0], .blockUpload), (tileUp, padTo 8 [0x80], .abort),
      (hostXfer tileUp (.segDown 0x1008 0 [] none false false), padTo 8 [0x10], .downloadSegment),
      (hostXfer tileUp (.segUp 0x1008 0 [1] false false), padTo 8 [0x60], .uploadSegment),
      (hostXfer tileUp (.blkDown 0x1008 0 [] none 126 true false false), padTo 8 [126], .blockSegment),
      (hostXfer tileUp (.blkDown 0x1008 0 (List.replicate 7 0) (some 3) 1 true true false), padTo 8 [0xD1], .blockEnd)] :
      List (State × List Byte × SdoClass)),
    w.1.sdoOpen .host w.2.1 = true ∧ sdoClass (w.1.xferOf .host) w.2.1 = w.2.2 ∧ (w.1.xferOf .host).waits = false) ∧
  (∃ (s : State) (c : CtxId) (x : Ctx) (idx sub : Nat),
    s.ctx? c = some x ∧ s.up = true ∧ x.xfer.waits = false ∧ x.xfer.object = some (idx, sub)) ∧
  (∃ (s : State) (c : CtxId), s.sdoOpen c (padTo 8 (sdoHead 0x40 0x3300 0x01)) = true ∧ s.xferOf c = .idle) ∧
  (∃ (s : State) (f : Nat), s.isTile = true ∧ s.video.store.filling = some f) ∧
  (∃ (s : State) (q : CommitPending), s.isTile = true ∧ s.video.compose.pending = some q ∧ s.feedLost = true) ∧
  (∃ (s : State) (k : Fin 4) (d : Damage), d.generations = false ∧ s.isTile = true ∧ s.repeatOnly = false ∧ s.video.compose.slot = none ∧
    s.video.compose.slotsDone = k.1 ∧ k.1 < (s.setFor s.video.compose.frame).s ∧ s.video.store.filling ≠ none ∧ s.slotSource k ≠ none) ∧
  (∃ (s : State) (k : Fin 4) (b : Bank), s.isTile = true ∧ s.video.compose.slot = some k.1 ∧
    (s.video.compose.bank[s.writeSet k * 4 + k.1]?).getD none = some b) ∧
  (∀ w : Word, ∃ (s : State) (p : Fin 64), s.fetches p w) ∧
  (∃ (s : State) (m : BitVec 7) (n : Fin 32), isMaster m = true ∧ s.hostPort.sem[n].held = true ∧ s.hostPort.sem[n].holder = m) ∧
  (∀ op : Fin 12, ∃ (s : State) (src : SvcSource) (b : List Byte), s.serviceUp = true ∧ field b 0 1 = 1 ∧ s.pointing = false ∧
    (∀ a, (s.update.answers.find? fun a => a.1 == src.key) = some a → a.2.1 ≠ field b 4 4) ∧ field b 1 1 = op) ∧
  (∃ s : State, s.isSender = true ∧ s.nmtOpen = true ∧ s.rdN 0x1017 0 ≠ 0) ∧
  (∃ (s : State) (k : Fin 4), s.isSender = true ∧ s.nmtOpen = true ∧ s.rdN 0x1016 (k + 1) % 65536 ≠ 0 ∧
    s.rdN 0x1016 (k + 1) / 65536 % 256 ≠ 0) ∧
  (∃ s : State, s.isSender = true ∧ s.rdB 0x3300 0x0D = true) ∧
  (∃ (s : State) (n : Fin 4) (at_ : Nat), s.isSender = true ∧ s.tpdoOn n = true ∧ 254 ≤ s.rdN (0x1800 + n) 0x02 ∧
    s.rdN (0x1800 + n) 0x05 ≠ 0 ∧ s.control.tpdoAt[n] = some at_) ∧
  (∃ (s : State) (v p r n : Word), s.isSender = true ∧ [v.toNat, p.toNat, r.toNat, n.toNat] = (List.range 4).map s.identity) ∧
  (∃ s : State, s.isSender = true ∧ s.control.nodeId = 0xFF ∧ s.control.lss.configuring = false) ∧
  (∃ (s : State) (r : Nat), s.isSender = true ∧ s.control.lss.configuring = true ∧ s.control.lss.pendingRate = some r) ∧
  (∃ (s : State) (c : CtxId) (x : Ctx) (ch : Fin 8), s.up = true ∧ s.ctx? c = some x ∧ s.control.udp[ch].assoc ≠ none) ∧
  (∃ (s : State) (c : CtxId) (x : Ctx), s.up = true ∧ s.ctx? c = some x ∧ s.rdN 0x2002 0x06 ≠ 0 ∧ s.rdN 0x2002 0x08 ≠ 0) ∧
  (∃ (s : State) (c : CtxId) (x : Ctx) (n : Fin 4) (d : List Byte), s.up = true ∧ s.ctx? c = some x ∧ s.role = .sender ∧
    s.control.nmt = .operational ∧ bit (s.pdoCob false n) 31 = false ∧ d ≠ [] ∧
    d.length = s.mapTotal (0x1600 + n) (s.rdN (0x1600 + n) 0)) ∧
  (∃ (s : State) (c : CtxId) (x : Ctx), s.up = true ∧ s.ctx? c = some x ∧ x.nonce ≠ none) ∧
  (∃ (s : State) (c : CtxId) (x : Ctx), s.up = true ∧ s.ctx? c = some x ∧ s.now < x.lockedUntil) ∧
  (∃ (s : State) (c : CtxId) (x : Ctx) (k : Fin 3), s.up = true ∧ s.ctx? c = some x ∧ s.control.errTimes[k] ≠ none) ∧
  (∃ (s : State) (e : Fin 8) (f : EthFrame) (src dst port : Nat) (b : List Byte) (r : Fin 32 × Fin 2), s.hasEth e = true ∧
    s.rdN 0x2102 (0x18 + e) = 0 ∧ f.vlan = none ∧ f.body = .udp src dst port b ∧ dst ≠ 0xE0000181 ∧ s.receivers e src dst port = [r]) ∧
  (∃ (s : State) (n : Fin 32) (t0 : Nat), s.ingress.stream[n].reportAt = some t0) ∧
  (∃ (s : State) (n : Fin 32) (d : Nat) (ts : BitVec 32), s.ingress.stream[n].dueFirst = some (d, ts)) ∧
  (∃ (s : State) (n : Fin 32) (p : Fin 2), s.streamOn n = true ∧ s.pathUsed n p = true ∧ s.ingress.stream[n].lost[p] = false) ∧
  (∃ (s : State) (n : Fin 32) (f : OpenFrame) (rest : List OpenFrame), s.ingress.stream[n].decoding = f :: rest) ∧
  (∃ (s : State) (n : Fin 32), s.isSender = true ∧ s.quartz.lockedOnce = true ∧
    let f := s.quartz.frame + 1
    let u := s.untilWall (s.tFrame f - 500000 * subNs)
    let v := s.untilWall (s.tFrame f - 400000 * subNs)
    u.selector = true ∧ u.subscribed n = true ∧ u.freeStream n = true ∧ v.selector = true ∧ v.subscribed n = true ∧
      v.freeStream n = true ∧ (v.ingress.stream[n].selection f).isSome = true) ∧
  (∃ (s : State) (link : Fin 2) (u : CascadeUnit), (s.takeUnit link u).1 = true ∧ u.kind = 3 ∧ ∀ k < 32, field u.body (8 * k) 8 = 0) ∧
  (∃ s : State, s.up = true ∧ s.quartz.lockedOnce = true ∧ s.role = .tile) ∧
  (∃ s : State, s.up = true ∧ s.quartz.lockedOnce = true ∧ s.role = .sender) :=
  ⟨by decide +kernel,
   ⟨tileUp, .gateway 4 true, _, passes_of (r := ((odFind .tile 0x285F 1).getD (odRows1000.head (by decide)))) (by decide +kernel) (by decide +kernel) (by decide +kernel)
     (by rw [coefSet_length]; decide +kernel) (by decide +kernel), stores_coeff _ _ (by decide +kernel)⟩,
   ⟨tileUp, .gateway 4 true, _, linearTable ++ leBytes 4 (crc32Nat linearTable), passes_of (r := ((odFind .tile 0x2923 1).getD (odRows1000.head (by decide)))) (by decide +kernel) (by decide +kernel)
     (by decide +kernel) (by rw [linearTable_length]; decide +kernel) (by decide +kernel), stores_table _ linearTable_length linearTable_head linearTable_spare linearTable_crc
       linearTable_gaps (by decide +kernel)⟩,
   ⟨booted 1, .gateway 4 true, .num 1, by decide +kernel, stores_confirm _ (trial_pointer _) (by decide +kernel) (by decide +kernel) (by decide +kernel)⟩,
   ⟨booted 1, .gateway 4 true, .num 1, by decide +kernel, stores_rollback _ (ne_of_eq_of_ne (trial_pointer _) (by decide)) (by decide +kernel) (by decide +kernel)⟩,
   ⟨booted 2, .gateway 4 true, .num 1, by decide +kernel, stores_finalize _ (final_pointer _) (by decide +kernel) (by decide +kernel)⟩,
   by decide +kernel,
   ⟨hostXfer tileUp (.segUp 0x1008 0 [1] false false), .host, { Ctx.fresh 2 5 0 with xfer := .segUp 0x1008 0 [1] false false }, 0x1008, 0, by decide +kernel⟩,
   ⟨tileUp, .host, by decide +kernel⟩,
   ⟨tileUp.withStore fun f => { f with filling := some 0 }, 0, by decide +kernel⟩,
   ⟨tileUp.withCompose fun c => { c with pending := some (commitOf 5) }, commitOf 5, by decide +kernel⟩,
   ⟨(tileUp.wrB 0x2880 0x0D true).withStore fun f => { f with filling := some 0 }, 0, damageOf 0, by decide +kernel⟩,
   ⟨tileUp.withCompose fun c => { c with slot := some 3, bank := Vector.replicate 8 (some bank0) }, 3, bank0, by decide +kernel⟩,
   fun w => ⟨engineAt w id, 0, engineAt_fetches w⟩,
   ⟨State.reset.withHost fun h => { h with sem := vmod h.sem 31 fun x => { x with held := true, holder := 0x4A } }, 0x4A, 31, by decide +kernel⟩,
   fun op => ⟨tileUp, .sgmii 1 2, [1, BitVec.ofNat 8 op.1], by decide +kernel, by revert op; decide +kernel, by decide +kernel,
     fun a h => (by change none = some a at h; cases h), by revert op; decide +kernel⟩,
   ⟨canUp.wrN 0x1017 0 1, by decide +kernel⟩,
   ⟨canUp.wrN 0x1016 4 0x10001, 3, by decide +kernel⟩,
   ⟨canUp.wrB 0x3300 0x0D true, by decide +kernel⟩,
   ⟨(((canUp.wrN 0x1803 1 0x483).wrN 0x1803 2 254).wrN 0x1803 5 1).withControl fun k => { k with tpdoAt := vset k.tpdoAt 3 (some 0) }, 3, 0, by decide +kernel⟩,
   ⟨senderUp, 0x7D21, 0x9600, BitVec.ofNat 32 (senderUp.identity 2), BitVec.ofNat 32 (senderUp.identity 3), ⟨by decide +kernel, identity_words⟩⟩,
   ⟨senderUp, by decide +kernel⟩,
   ⟨lssOn.withLss fun l => { l with pendingRate := some 0 }, 0, by decide +kernel⟩,
   ⟨tileUp.withControl fun k => { k with udp := vmod k.udp 7 fun u => { u with assoc := some (1, 2) } }, .can 3, Ctx.fresh 1 4 0, 7, by decide +kernel⟩,
   ⟨(tileUp.wrN 0x2002 6 1).wrN 0x2002 8 1, .can 3, Ctx.fresh 1 4 0, by decide +kernel⟩,
   ⟨((canUp.wrN 0x1403 1 0x503).wrN 0x1603 0 1).wrN 0x1603 1 0x2B000108, .can 3, Ctx.fresh 1 4 0, 3, [5], by decide +kernel⟩,
   ⟨tileUp.withControl fun k => { k with host := { k.host with nonce := some (9, 5) } }, .host, { Ctx.fresh 2 5 0 with nonce := some (9, 5) }, by decide +kernel⟩,
   ⟨tileUp.withControl fun k => { k with host := { k.host with lockedUntil := 1 } }, .host, { Ctx.fresh 2 5 0 with lockedUntil := 1 }, by decide +kernel⟩,
   ⟨tileUp.withControl fun k => { k with errTimes := vset k.errTimes 2 (some 5) }, .udp 7, Ctx.fresh 1 13 0, 2, by decide +kernel⟩,
   ⟨((((senderUp.wrB 0x241F 1 true).wrN 0x241F 0x10 0xEF000001).wrN 0x241F 0x12 5004).wrN 0x241F 0x13 0).wrN 0x241F 0x17 0xFF, 0,
     { vlan := none, body := .udp 9 0xEF000001 5004 [1] }, 9, 0xEF000001, 5004, [1], (31, 0), by decide +kernel⟩,
   ⟨senderUp.withStream 31 fun r => { r with reportAt := some 5 }, 31, 5, by decide +kernel⟩,
   ⟨senderUp.withStream 31 fun r => { r with opens := [openF] }, 31, 7, 0, by decide +kernel⟩,
   ⟨senderUp.wrB 0x241F 1 true, 31, 0, by decide +kernel⟩,
   ⟨senderUp.withStream 31 fun r => { r with decoding := [openF] }, 31, openF, [], by decide +kernel⟩,
   ⟨onQuartz ((subscribing 31).withStream 31 fun r => { r with selected := [(1, none)] }) fun q => { q with lockedOnce := true }, 31, by decide +kernel⟩,
   ⟨cascX, 0, unit 3 0 [], by decide +kernel⟩,
   ⟨onQuartz tileUp fun q => { q with lockedOnce := true }, by decide +kernel⟩,
   ⟨onQuartz senderUp fun q => { q with lockedOnce := true }, by decide +kernel⟩⟩

/-- Something meets the hypotheses of `StepRunsFrontCommand`. -/
theorem witness_StepRunsFrontCommand : ∃ (s : State) (c : Instr) (rest : List Instr),
    s.pending = c :: rest :=
  ⟨{ State.reset with pending := [.tapReset, .tapIdcode] }, .tapReset, [.tapIdcode], by decide +kernel⟩

set_option maxRecDepth 100000 in
/-- Something meets the hypotheses of `TerminationAndManagement`, clause by clause. -/
theorem witness_TerminationAndManagement :
  (∃ (s : State) (p : Fin 2) (r : RxCell),
    s.isSender = true ∧ s.portUp p = true ∧ r.damaged = true) ∧
  (∃ (s : State) (p : Fin 2) (r : RxCell),
    s.isSender = true ∧ s.portUp p = true ∧ r.damaged = false ∧ r.cell.type = 6 ∧ r.cell.tsw 31 28 = 2) ∧
  (∃ (s : State) (p : Fin 2) (r : RxCell),
    s.isSender = true ∧ s.portUp p = true ∧ r.damaged = false ∧ r.cell.type = 4 ∧ field r.cell.data 1 1 = 3) ∧
  (∃ (s : State) (p : Fin 2) (r : RxCell),
    s.isSender = true ∧ s.portUp p = true ∧ r.damaged = false ∧ r.cell.type = 4 ∧ field r.cell.data 1 1 = 4) ∧
  (∃ (s : State) (link : Fin 2) (p : Fin 2) (u : CascadeUnit),
    let v := (s.takeUnit link u).2
    let c := cellOf u.body
    (s.takeUnit link u).1 = true ∧ u.kind = 1 ∧ v.portFor u.chain = some p ∧ c.crcOk = true ∧ u.relSec = 0 ∧ u.relNs = 0) ∧
  (∃ (s : State) (link : Fin 2) (p : Fin 2) (u : CascadeUnit),
    let v := (s.takeUnit link u).2
    let c := cellOf u.body
    (s.takeUnit link u).1 = true ∧ u.kind = 1 ∧ v.portFor u.chain = some p ∧ c.crcOk = true ∧ u.relNs ≠ 0 ∧ v.controls p = false ∧ v.relayAt p u < ↑v.quartz.wall) ∧
  (∃ (s : State) (link : Fin 2) (p : Fin 2) (u : CascadeUnit),
    let v := (s.takeUnit link u).2
    let c := cellOf u.body
    (s.takeUnit link u).1 = true ∧ u.kind = 1 ∧ v.portFor u.chain = some p ∧ c.crcOk = true ∧ u.relNs ≠ 0 ∧ v.controls p = false ∧ ↑v.quartz.wall ≤ v.relayAt p u) ∧
  (∃ (s : State) (port : Fin 2) (r : RxCell) (d : List Byte) (v : State),
    s.mgmtIn port r 1 = (some d, v)) ∧
  (∃ (s : State) (port : Fin 2) (r : RxCell) (d : List Byte) (v : State),
    s.mgmtIn port r 2 = (some d, v)) ∧
  (∃ (s : State) (port : Fin 2) (r : RxCell) (d : List Byte) (v : State),
    s.mgmtIn port r 5 = (some d, v) ∧ r.cell.dest = 4095) ∧
  (∃ (s : State) (e : EventMsg) (rest : List EventMsg),
    s.control.eventQueue = e :: rest ∧ s.isTile = true ∧ s.station ≠ 0) :=
  ⟨⟨senderUp.withLink 1 fun k => { k with phase := .up }, 1, { rx 5 1 0 [] with broken := true }, by decide +kernel⟩,
   ⟨senderUp.withLink 1 fun k => { k with phase := .up }, 1, rx 6 1 0x20000000 [], by decide +kernel⟩,
   ⟨senderUp.withLink 1 fun k => { k with phase := .up }, 1, rx 4 1 0 [1, 3], by decide +kernel⟩,
   ⟨senderUp.withLink 1 fun k => { k with phase := .up }, 1, rx 4 1 0 [1, 4], by decide +kernel⟩,
   ⟨cascX.wrN 0x2200 1 1, 0, 0, unit 1 0 (beBytes 12 (mkCell (4 * 2 ^ 92) []).header.toNat ++ List.replicate 240 0 ++ beBytes 4 (mkCell (4 * 2 ^ 92) []).trailer.toNat), by decide +kernel⟩,
   ⟨onQuartz (cascX.wrN 0x2200 1 1) fun q => { q with wall := 2 * subNs }, 0, 0, { unit 1 0 (beBytes 12 (mkCell (4 * 2 ^ 92) []).header.toNat ++ List.replicate 240 0 ++ beBytes 4 (mkCell (4 * 2 ^ 92) []).trailer.toNat) with relNs := 1 }, by decide +kernel⟩,
   ⟨onQuartz (cascX.wrN 0x2200 1 1) fun q => { q with wall := subNs }, 0, 0, { unit 1 0 (beBytes 12 (mkCell (4 * 2 ^ 92) []).header.toNat ++ List.replicate 240 0 ++ beBytes 4 (mkCell (4 * 2 ^ 92) []).trailer.toNat) with relNs := 1 }, by decide +kernel⟩,
   ⟨tileUp, 0, rx 4 0xFFF 0 [1, 1], [], (tileUp.mgmtIn 0 (rx 4 0xFFF 0 [1, 1]) 1).2, by exact Prod.ext (by decide +kernel) rfl⟩,
   ⟨tileUp, 0, rx 4 0xFFF 0 [1, 2], [], (tileUp.mgmtIn 0 (rx 4 0xFFF 0 [1, 2]) 2).2, by exact Prod.ext (by decide +kernel) rfl⟩,
   ⟨tileUp, 0, rx 4 0xFFF 0 [1, 5], [], (tileUp.mgmtIn 0 (rx 4 0xFFF 0 [1, 5]) 5).2, by exact ⟨Prod.ext (by decide +kernel) rfl, by decide +kernel⟩⟩,
   ⟨(tileUp.wrN 0x2200 2 255).withControl fun k => { k with eventQueue := [{ code := 1, detail := 2, sec := 3, ns := 4 }] }, { code := 1, detail := 2, sec := 3, ns := 4 }, [], by decide +kernel⟩⟩

set_option maxRecDepth 100000 in
/-- Something meets the hypotheses of `TileControlFeedAndClock`, clause by clause. -/
theorem witness_TileControlFeedAndClock :
  (∃ (s : State) (port : Fin 2) (x : RxCell),
    let u := s.arrive port x
    (u.topoNew x 1).1 = true) ∧
  (∃ (s : State) (port : Fin 2) (x : RxCell) (e : Nat × Nat),
    let u := s.arrive port x
    (u.topoNew x 3).1 = true ∧ assignEntry x.cell.data serialLow = some e) ∧
  (∃ (s : State) (port : Fin 2) (x : RxCell),
    let u := s.arrive port x
    u.hears x = true ∧ x.cell.type = 7 ∧ x.cell.tsw 31 31 ≠ 1 ∧ u.accepts u.tile.groups x.cell.dest = true) ∧
  (∃ (s : State) (port : Fin 2) (x : RxCell),
    let u := s.arrive port x
    let v := (u.admitCell x).2
    let b := x.cell.data
    x.cell.type = 8 ∧ (u.admitCell x).1 = true ∧ x.cell.tsw 31 28 = 1 ∧ bit (field b 16 32) v.station = true ∧ v.station ≠ 0) ∧
  (∃ (s : State) (port : Fin 2) (x : RxCell),
    let u := s.arrive port x
    x.cell.type = 8 ∧ (u.admitCell x).1 = true ∧ x.cell.tsw 31 28 = 2) ∧
  (∃ (s : State) (port : Fin 2) (x : RxCell),
    let u := s.arrive port x
    x.cell.type = 8 ∧ (u.admitCell x).1 = true ∧ x.cell.tsw 31 28 = 3) ∧
  (∃ (s : State) (port : Fin 2) (x : RxCell),
    let u := s.arrive port x
    u.hears x = true ∧ x.cell.type = 3 ∧ x.cell.tsw 31 28 = 1 ∧ u.accepts u.tile.groups x.cell.dest = true) ∧
  (∃ (s : State) (o : Fin 2) (t0 : Nat),
    s.tile.alive[o] = some t0) ∧
  (∃ (s : State) (t0 : Nat),
    s.tile.lostSince = some t0 ∧ s.rdN 0x2300 2 ≠ 3) ∧
  (∃ (s : State),
    s.isTile = true ∧ s.quartz.servo.stepped = true ∧ s.quartz.servo.steering = none) ∧
  (∃ (s : State) (v : Int),
    s.isTile = true ∧ s.quartz.servo.stepped = true ∧ s.quartz.servo.steering = some v ∧ s.quartz.state = QState.holdover ∧ 1000 * subNs < v.natAbs) ∧
  (∃ (s : State) (v : Int),
    s.isTile = true ∧ s.quartz.servo.stepped = true ∧ s.quartz.servo.steering = some v ∧ s.quartz.state ≠ QState.holdover ∧ 1000000 * subNs < v.natAbs) ∧
  (∃ (s : State) (v : Int),
    s.isTile = true ∧ s.quartz.servo.stepped = true ∧ s.quartz.servo.steering = some v ∧
      v.natAbs ≤ (if s.quartz.state = QState.holdover then 1000 else 1000000) * subNs) :=
  ⟨⟨tileUp, 1, rx 6 0xFFF 0x10000000 [], by decide +kernel⟩,
   ⟨tileUp, 1, rx 6 0xFFF 0x30000000 assignSelf, (1, 1), by exact ⟨topo_assign, assign_entry⟩⟩,
   ⟨tileUp, 1, rx 7 0xFFF 0 [], by decide +kernel⟩,
   ⟨tileUp.wrN 0x2200 2 255, 1, rx 8 0xFFF 0x10000000 (List.replicate 16 0 ++ List.replicate 32 0xFF), by decide +kernel⟩,
   ⟨tileUp, 1, rx 8 0xFFF 0x20000000 [], by decide +kernel⟩,
   ⟨tileUp, 1, rx 8 0xFFF 0x30000000 [], by decide +kernel⟩,
   ⟨tileUp, 1, rx 3 0xFFF 0x10000000 [], by decide +kernel⟩,
   ⟨tileUp.withTile fun t => { t with alive := vset t.alive 1 (some 5) }, 1, 5, by decide +kernel⟩,
   ⟨(tileUp.withTile fun t => { t with lostSince := some 5 }).wrN 0x2300 2 0, 5, by decide +kernel⟩,
   ⟨onQuartz tileUp fun q => { q with servo := { q.servo with stepped := true } }, by decide +kernel⟩,
   ⟨onQuartz tileUp fun q => { q with state := .holdover, servo := { q.servo with stepped := true, window := vset q.servo.window 1 (some (1000 * subNs + 1)) } }, 1000 * subNs + 1, by decide +kernel⟩,
   ⟨onQuartz tileUp fun q => { q with state := .locked, servo := { q.servo with stepped := true, window := vset q.servo.window 1 (some (1000000 * subNs + 1)) } }, 1000000 * subNs + 1, by decide +kernel⟩,
   ⟨onQuartz tileUp fun q => { q with state := .holdover, servo := { q.servo with stepped := true, window := vset q.servo.window 1 (some (1000 * subNs)) } }, 1000 * subNs, by decide +kernel⟩⟩

set_option maxRecDepth 100000 in
/-- Something meets the hypotheses of `TileRepeater`, clause by clause. -/
theorem witness_TileRepeater :
  (∃ (s : State) (port : Fin 2),
    let out := other port
    s.isTile = true ∧ s.portUp port = true ∧ s.portUp (other port) = true ∧ s.matching out = false ∧ s.tile.match_[out] = [] ∧ s.tile.orig[out] = []) ∧
  (∃ (s : State) (port : Fin 2) (c : Machine.Cell) (cs : List Machine.Cell),
    let out := other port
    s.isTile = true ∧ s.portUp port = true ∧ s.portUp (other port) = true ∧ s.matching out = false ∧ s.tile.match_[out] = [] ∧ s.tile.orig[out] = c :: cs ∧ s.tile.backlog = []) ∧
  (∃ (s : State) (port : Fin 2) (c : Machine.Cell) (cs : List Machine.Cell),
    let out := other port
    s.isTile = true ∧ s.portUp port = true ∧ s.portUp (other port) = true ∧ s.tile.match_[out] = c :: cs) ∧
  (∃ (s : State) (port : Fin 2) (x : RxCell),
    let out := other port
    s.isTile = true ∧ s.portUp port = true ∧ s.portUp (other port) = true ∧ s.matching out = true ∧ s.tile.match_[out].length < 64 ∧ x.forwarded.type ≠ 3) ∧
  (∃ (s : State) (port : Fin 2) (x : RxCell),
    s.isTile = true ∧ s.portUp port = true ∧ s.portUp (other port) = true ∧ x.damaged = false ∧ (x.cell.type = 1 ∨ x.cell.type = 2) ∧ s.repeatOnly = false) ∧
  (∃ (s : State) (port : Fin 2) (x : RxCell),
    s.isTile = true ∧ s.portUp port = true ∧ s.portUp (other port) = true ∧ x.damaged = false ∧ (x.cell.type = 1 ∨ x.cell.type = 2) ∧ s.repeatOnly = true) ∧
  (∃ (s : State) (port : Fin 2) (x : RxCell),
    s.isTile = true ∧ s.portUp port = true ∧ s.portUp (other port) = true ∧ x.damaged = false ∧ 9 ≤ x.cell.type) ∧
  (∃ (s : State) (port : Fin 2),
    s.isTile = true ∧ s.portUp port = true ∧ s.portUp (other port) = true ∧ s.station ≠ 0) :=
  ⟨⟨(tileUp.withLink 0 fun k => { k with phase := .up }).withLink 1 fun k => { k with phase := .up }, 1, by decide +kernel⟩,
   ⟨((tileUp.withLink 0 fun k => { k with phase := .up }).withLink 1 fun k => { k with phase := .up }).withTile fun t => { t with orig := vset t.orig 0 [cell0] }, 1, cell0, [], by decide +kernel⟩,
   ⟨((tileUp.withLink 0 fun k => { k with phase := .up }).withLink 1 fun k => { k with phase := .up }).withTile fun t => { t with match_ := vset t.match_ 0 [cell0] }, 1, cell0, [], by decide +kernel⟩,
   ⟨((tileUp.withLink 0 fun k => { k with phase := .up }).withLink 1 fun k => { k with phase := .up, rxSet := 1 }).withTile fun t => { t with match_ := vset t.match_ 0 (List.replicate 63 cell0) }, 1, rx 5 0xFFF 0 [], by decide +kernel⟩,
   ⟨(tileUp.withLink 0 fun k => { k with phase := .up }).withLink 1 fun k => { k with phase := .up }, 1, rx 2 0xFFF 0 [], by decide +kernel⟩,
   ⟨((tileUp.withLink 0 fun k => { k with phase := .up }).withLink 1 fun k => { k with phase := .up }).wrB 0x2200 4 true, 1, rx 1 0xFFF 0 [], by decide +kernel⟩,
   ⟨(tileUp.withLink 0 fun k => { k with phase := .up }).withLink 1 fun k => { k with phase := .up }, 1, rx 9 0xFFF 0 [], by decide +kernel⟩,
   ⟨((tileUp.withLink 0 fun k => { k with phase := .up }).withLink 1 fun k => { k with phase := .up }).wrN 0x2200 2 255, 1, by decide +kernel⟩⟩

/-- Something meets the hypotheses of `TimeAndPlatformObjectWrites`, clause by clause. -/
theorem witness_TimeAndPlatformObjectWrites :
  (∃ (s : State) (c : CtxId) (x : Val),
    let t := s.touchCtx c
    t.cooling = false ∧ x.toInt = 1) ∧
  (∃ (s : State) (c : CtxId) (x : Val),
    let t := s.touchCtx c
    t.cooling = false ∧ x.toInt = 2) ∧
  (∃ (s : State) (c : CtxId),
    let t := s.touchCtx c
    ((t.pointer.state = 0 ∧ t.storing = false ∧ t.windowOpen = true ∧ t.bucketHolds 1048576 = true))) ∧
  (∃ (x : Val),
    x.toInt = 0) ∧
  (∃ (x : Val),
    x.toInt ≠ 0) ∧
  (∃ (s : State) (c : CtxId) (x : Val),
    let t := s.touchCtx c
    x.toInt ≠ 0 ∧ t.rdN 0x2D00 34 ≠ 1) ∧
  (∃ (s : State) (c : CtxId) (x : Val),
    let t := s.touchCtx c
    let f := x.toInt.toNat
    t.nvm.calRun = none ∧ t.windowOpen = true ∧ (f = 1 ∧ t.isTile = true ∨ f = 3 ∧ (t.isTile = true ∨ t.isSender = true))) ∧
  (∃ (s : State) (c : CtxId) (x : Val) (p : Fin 2),
    let t := s.touchCtx c
    let f := x.toInt.toNat
    t.nvm.calRun = none ∧ t.windowOpen = true ∧ f = 2 ∧ t.isSender = true ∧ t.ctxPort c = some p ∧ t.leads p = true) ∧
  (∃ (s : State) (c : CtxId),
    let t := s.touchCtx c
    t.isMaster = true ∧ t.quartz.pending = none) ∧
  (∃ (s : State) (c : CtxId) (x : Val),
    let t := s.touchCtx c
    x.toInt ≠ 0 ∧ t.isMaster = true ∧ t.quartz.pending = none ∧ t.wantedDelay t.wallDmin ≠ t.quartz.set.d) ∧
  (∃ (s : State) (c : CtxId) (x : Val),
    let t := s.touchCtx c
    let f := x.toInt.toNat
    t.isMaster = true ∧ t.quartz.pending = none ∧ t.quartz.frame + 16 ≤ f ∧ t.setFails t.stagedSet = 0) :=
  ⟨⟨tileUp, .host, .num 1, by decide +kernel⟩,
   ⟨tileUp, .host, .num 2, by decide +kernel⟩,
   ⟨tileUp.wrB 0x2E00 0x0F true, .host, by decide +kernel⟩,
   ⟨.num 0, by decide +kernel⟩,
   ⟨.num 1, by decide +kernel⟩,
   ⟨tileUp, .host, .num 1, by decide +kernel⟩,
   ⟨tileUp.wrB 0x2E00 0x0F true, .host, .num 3, by decide +kernel⟩,
   ⟨ctlAB.wrB 0x2E00 0x0F true, .host, .num 2, 0, by decide +kernel⟩,
   ⟨masterUp, .host, by decide +kernel⟩,
   ⟨onQuartz masterUp fun q => { q with set := { q.set with d := 123457 } }, .host, .num 1, by decide +kernel⟩,
   ⟨masterUp.wrN 0x2600 0x14 16683333, .host, .num 16, by decide +kernel⟩⟩

/-- Something meets the hypotheses of `UdpPdoAndAccessTimers`, clause by clause. -/
theorem witness_UdpPdoAndAccessTimers :
  (∃ (s : State) (frame : List Byte),
    s.up = true ∧ (frame.length = 8 ∨ frame.length = 64)) ∧
  (∃ (s : State) (ch : Fin 8) (src : Nat × Nat) (tag : Nat),
    let u := s.control.udp[ch]
    s.up = true ∧ u.assoc = some src ∧ u.busy = false ∧ u.lastTag = some tag ∧ u.lastResponse ≠ []) ∧
  (∃ (s : State) (ch : Fin 8) (src : Nat × Nat) (tag : Nat),
    let u := s.control.udp[ch]
    s.up = true ∧ u.assoc = some src ∧ u.busy = false ∧ u.lastTag ≠ some tag) ∧
  (∃ (s : State) (ch : Fin 8) (src : Nat × Nat) (other : Nat × Nat),
    let u := s.control.udp[ch]
    s.up = true ∧ u.assoc = some other ∧ other ≠ src ∧ s.now < u.lastRequest + 10000000000) ∧
  (∃ (s : State) (data : List Byte),
    s.up = true ∧ byteAt data 0 ≠ 17 ∧ byteAt data 0 ≠ 19) ∧
  (∃ (s : State) (ch : Fin 8),
    s.up = true ∧ s.control.udp[ch].assoc ≠ none) ∧
  (∃ (s : State),
    s.up = true ∧ s.rdN 0x2002 6 ≠ 0 ∧ s.rdN 0x2002 8 ≠ 0) ∧
  (∃ (s : State) (n : Fin 4) (data : List Byte),
    s.up = true ∧ s.role = Role.sender ∧ s.control.nmt = Nmt.operational ∧ bit (s.pdoCob false n) 31 = false ∧ data ≠ [] ∧ data.length = s.mapTotal (5632 + ↑n) (s.rdN (0x1600 + ↑n) 0)) ∧
  (∃ (s : State) (n : Fin 4) (data : List Byte),
    s.up = true ∧ s.role = Role.sender ∧ s.control.nmt = Nmt.operational ∧ bit (s.pdoCob false n) 31 = false ∧ data ≠ [] ∧ data.length ≠ s.mapTotal (5632 + ↑n) (s.rdN (0x1600 + ↑n) 0)) ∧
  (∃ (s : State) (c : CtxId) (x : Ctx) (n : BitVec 128) (t : Nat),
    s.ctx? c = some x ∧ x.nonce = some (n, t)) ∧
  (∃ (s : State) (c : CtxId) (x : Ctx),
    s.ctx? c = some x ∧ s.now < x.lockedUntil) ∧
  (∃ (s : State) (c : CtxId) (x : Ctx),
    s.ctx? c = some x ∧ s.up = true) ∧
  (∃ (s : State) (c : CtxId) (x : Ctx) (k : Fin 3) (t : Nat),
    s.ctx? c = some x ∧ s.control.errTimes[k] = some t) ∧
  (∃ (s : State) (c : CtxId) (x : Ctx),
    s.ctx? c = some x ∧ s.life ≠ Life.inReset) :=
  ⟨⟨tileUp, List.replicate 64 0, by decide +kernel⟩,
   ⟨tileUp.withControl fun k => { k with udp := vmod k.udp 7 fun u => { u with assoc := some (1, 2), lastTag := some 3, lastResponse := [4] } }, 7, (1, 2), 3, by decide +kernel⟩,
   ⟨tileUp.withControl fun k => { k with udp := vmod k.udp 7 fun u => { u with assoc := some (1, 2) } }, 7, (1, 2), 3, by decide +kernel⟩,
   ⟨tileUp.withControl fun k => { k with udp := vmod k.udp 7 fun u => { u with assoc := some (1, 2) } }, 7, (1, 3), (1, 2), by decide +kernel⟩,
   ⟨tileUp, [18], by decide +kernel⟩,
   ⟨tileUp.withControl fun k => { k with udp := vmod k.udp 7 fun u => { u with assoc := some (1, 2) } }, 7, by decide +kernel⟩,
   ⟨(tileUp.wrN 0x2002 6 1).wrN 0x2002 8 1, by decide +kernel⟩,
   ⟨((canUp.wrN 0x1403 1 0x503).wrN 0x1603 0 1).wrN 0x1603 1 0x2B000108, 3, [5], by decide +kernel⟩,
   ⟨((canUp.wrN 0x1403 1 0x503).wrN 0x1603 0 1).wrN 0x1603 1 0x2B000108, 3, [5, 6], by decide +kernel⟩,
   ⟨tileUp.withControl fun k => { k with host := { k.host with nonce := some (9, 5) } }, .host, { Ctx.fresh 2 5 0 with nonce := some (9, 5) }, 9, 5, by decide +kernel⟩,
   ⟨tileUp.withControl fun k => { k with host := { k.host with lockedUntil := 1 } }, .host, { Ctx.fresh 2 5 0 with lockedUntil := 1 }, by decide +kernel⟩,
   ⟨tileUp, .can 3, Ctx.fresh 1 4 0, by decide +kernel⟩,
   ⟨tileUp.withControl fun k => { k with errTimes := vset k.errTimes 2 (some 5) }, .udp 7, Ctx.fresh 1 13 0, 2, 5, by decide +kernel⟩,
   ⟨tileUp, .host, Ctx.fresh 2 5 0, by decide +kernel⟩⟩

/-- Something meets the hypotheses of `WallUpdateCoordinator`, clause by clause. -/
theorem witness_WallUpdateCoordinator :
  (∃ (s : State),
    let w := s.update.wu
    s.coordinates = true ∧ s.wuState = 1 ∧ w.stage = 1 ∧ (w.nextBlock + 1) * 4096 < w.length) ∧
  (∃ (s : State),
    let w := s.update.wu
    s.coordinates = true ∧ s.wuState = 1 ∧ w.stage = 1 ∧ w.length ≤ (w.nextBlock + 1) * 4096) ∧
  (∃ (s : State) (fin : Bool),
    let w := s.update.wu
    s.coordinates = true ∧ w.closing = some fin ∧ w.late ≠ []) ∧
  (∃ (s : State) (fin : Bool),
    let w := s.update.wu
    s.coordinates = true ∧ w.closing = some fin ∧ w.late = [] ∧ fin = true) ∧
  (∃ (s : State) (fin : Bool),
    let w := s.update.wu
    s.coordinates = true ∧ w.closing = some fin ∧ w.late = [] ∧ fin = false) ∧
  (∃ (s : State),
    let w := s.update.wu
    let u := s.pass 100000000
    let t := u.tFrame (s.rdN 0x3100 50)
    s.coordinates = true ∧ s.wuState = 3 ∧ w.late = [] ∧ t ≤ u.quartz.wall) ∧
  (∃ (s : State),
    let w := s.update.wu
    let u := s.pass 100000000
    let t := u.tFrame (s.rdN 0x3100 50)
    s.coordinates = true ∧ s.wuState = 3 ∧ w.late ≠ [] ∧ u.quartz.wall + 200000000 * subNs < t) ∧
  (∃ (s : State),
    let w := s.update.wu
    s.coordinates = true ∧ s.wuState = 4 ∧ w.closing = none ∧ w.late = []) ∧
  (∃ (s : State) (e : Nat × Nat) (l : List (Nat × Nat)),
    let w := s.update.wu
    s.coordinates = true ∧ s.wuState = 4 ∧ w.closing = none ∧ w.late = e :: l) ∧
  (∃ (s : State) (b : List Byte),
    s.coordinates = true ∧ field b 1 1 = 12) ∧
  (∃ (s : State) (tag : Nat) (q : SvcRequest),
    s.coordinates = true ∧ List.find? (fun q ↦ q.tag == tag) s.update.requests = some q) :=
  ⟨⟨coord 1 fun w => { w with stage := 1, length := 4097 }, by decide +kernel⟩,
   ⟨coord 1 fun w => { w with stage := 1, length := 4096 }, by decide +kernel⟩,
   ⟨coord 0 fun w => { w with closing := some true, stations := [(0, 1)] }, true, by decide +kernel⟩,
   ⟨coord 0 fun w => { w with closing := some true, stations := [(0, 1)], done := [(0, 1)] }, true, by decide +kernel⟩,
   ⟨coord 0 fun w => { w with closing := some false }, false, by decide +kernel⟩,
   ⟨(coord 3 id).wrN 0x3100 0x32 5, by decide +kernel⟩,
   ⟨(coord 3 fun w => { w with stations := [(0, 1)] }).wrN 0x3100 0x32 1000, by decide +kernel⟩,
   ⟨coord 4 id, by decide +kernel⟩,
   ⟨coord 4 fun w => { w with stations := [(0, 1)] }, (0, 1), [], by decide +kernel⟩,
   ⟨coord 4 id, [1, 12], by decide +kernel⟩,
   ⟨(coord 4 id).withUpdate fun u => { u with requests := [waiting] }, 5, waiting, by decide +kernel⟩⟩

/-- Something meets the hypotheses of `WriteChecksInOrder`, clause by clause. -/
theorem witness_WriteChecksInOrder :
  (∃ (s : State) (c : CtxId) (idx : BitVec 16),
    let t := s.touchCtx c
    let x := t.mirror idx.toNat
    s.up = true ∧ tileIndex idx.toNat = none ∧ odIndexExists t.role x = false) ∧
  (∃ (s : State) (c : CtxId) (idx : BitVec 16) (sub : BitVec 8),
    let t := s.touchCtx c
    let x := t.mirror idx.toNat
    s.up = true ∧ tileIndex idx.toNat = none ∧ odIndexExists t.role x = true ∧ odFind t.role x sub.toNat = none ∧ sub = 0 ∧ odHeld t.role x = false) ∧
  (∃ (s : State) (c : CtxId) (idx : BitVec 16) (sub : BitVec 8),
    let t := s.touchCtx c
    let x := t.mirror idx.toNat
    s.up = true ∧ tileIndex idx.toNat = none ∧ odIndexExists t.role x = true ∧ odFind t.role x sub.toNat = none ∧ ¬ (sub = 0 ∧ odHeld t.role x = false)) ∧
  (∃ (s : State) (c : CtxId) (idx : BitVec 16) (sub : BitVec 8) (r : OdRow),
    let t := s.touchCtx c
    let x := t.mirror idx.toNat
    s.up = true ∧ tileIndex idx.toNat = none ∧ odIndexExists t.role x = true ∧ odFind t.role x sub.toNat = some r ∧ r.role.heldDown t.role = true) ∧
  (∃ (s : State) (c : CtxId) (idx : BitVec 16) (sub : BitVec 8) (r : OdRow),
    let t := s.touchCtx c
    let x := t.mirror idx.toNat
    s.up = true ∧ tileIndex idx.toNat = none ∧ odIndexExists t.role x = true ∧ odFind t.role x sub.toNat = some r ∧ r.role.heldDown t.role = false ∧ r.fixed t.role x = true) ∧
  (∃ (s : State) (c : CtxId) (idx : BitVec 16) (sub : BitVec 8) (r : OdRow),
    let t := s.touchCtx c
    let x := t.mirror idx.toNat
    s.up = true ∧ tileIndex idx.toNat = none ∧ odIndexExists t.role x = true ∧ odFind t.role x sub.toNat = some r ∧ r.role.heldDown t.role = false ∧ r.fixed t.role x = false ∧ t.levelOk c r x sub.toNat = false) ∧
  (∃ (s : State) (c : CtxId) (idx : BitVec 16) (sub : BitVec 8) (r : OdRow),
    let t := s.touchCtx c
    let x := t.mirror idx.toNat
    let locked := t.rdB 0x3300 17 && r.lvl != Lvl.operator && !(t.ctxLevel c).2
    s.up = true ∧ tileIndex idx.toNat = none ∧ odIndexExists t.role x = true ∧ odFind t.role x sub.toNat = some r ∧ r.role.heldDown t.role = false ∧ r.fixed t.role x = false ∧ t.levelOk c r x sub.toNat = true ∧ locked = true) ∧
  (∃ (s : State) (c : CtxId) (idx : BitVec 16) (sub : BitVec 8) (b : List Byte) (r : OdRow),
    let t := s.touchCtx c
    let x := t.mirror idx.toNat
    let locked := t.rdB 0x3300 17 && r.lvl != Lvl.operator && !(t.ctxLevel c).2
    s.up = true ∧ tileIndex idx.toNat = none ∧ odIndexExists t.role x = true ∧ odFind t.role x sub.toNat = some r ∧ r.role.heldDown t.role = false ∧ r.fixed t.role x = false ∧ t.levelOk c r x sub.toNat = true ∧ locked = false ∧ r.ty.fits b.length = false ∧ (x < 10320 ∨ 10536 ≤ x)) ∧
  (∃ (s : State) (c : CtxId) (idx : BitVec 16) (sub : BitVec 8) (b : List Byte) (r : OdRow),
    let t := s.touchCtx c
    let x := t.mirror idx.toNat
    let locked := t.rdB 0x3300 17 && r.lvl != Lvl.operator && !(t.ctxLevel c).2
    s.up = true ∧ tileIndex idx.toNat = none ∧ odIndexExists t.role x = true ∧ odFind t.role x sub.toNat = some r ∧ r.role.heldDown t.role = false ∧ r.fixed t.role x = false ∧ t.levelOk c r x sub.toNat = true ∧ locked = false ∧ r.ty.fits b.length = true ∧ r.ty.isData = false ∧ r.rng.ok (r.ty.value b).toInt = false) :=
  ⟨⟨tileUp, .host, 1, by decide +kernel⟩,
   ⟨tileUp, .host, 0x2D00, 0, by decide +kernel⟩,
   ⟨tileUp, .host, 0x2D00, 0xFE, by decide +kernel⟩,
   ⟨tileUp, .host, 0x2102, 0x1F, ⟨0x2102, 1, 0x18, 8, "ETH_VLAN0 to ETH_VLAN7", .u16, .rw, .integrator, .num 0, (.span (0) 4094), .senderHeld, false⟩, by decide +kernel⟩,
   ⟨tileUp, .host, 0x1000, 0, ⟨0x1000, 1, 0x00, 1, "DEVICE_TYPE", .u32, .const, .operator, .num 0, .any, .both, false⟩, by decide +kernel⟩,
   ⟨tileUp, .gateway 1 false, 0x2D00, 1, ⟨0x2D00, 1, 0x01, 1, "DVFS_MODE", .u8, .rw, .integrator, .num 0, (.span (0) 1), .both, false⟩, by decide +kernel⟩,
   ⟨tileUp.wrB 0x3300 0x11 true, .gateway 4 false, 0x2D00, 1, ⟨0x2D00, 1, 0x01, 1, "DVFS_MODE", .u8, .rw, .integrator, .num 0, (.span (0) 1), .both, false⟩, by decide +kernel⟩,
   ⟨tileUp, .gateway 4 false, 0x2D00, 1, [1, 2], ⟨0x2D00, 1, 0x01, 1, "DVFS_MODE", .u8, .rw, .integrator, .num 0, (.span (0) 1), .both, false⟩, by decide +kernel⟩,
   ⟨tileUp, .gateway 4 false, 0x2D00, 1, [2], ⟨0x2D00, 1, 0x01, 1, "DVFS_MODE", .u8, .rw, .integrator, .num 0, (.span (0) 1), .both, false⟩, by decide +kernel⟩⟩

/-! ### Hypotheses about a step -/

/-- The state after reset with a command in front. -/
def fronted : State := { State.reset with pending := [.tapReset] }

theorem fronted_ceil : fronted.CeilInv := by
  intro p
  left
  revert p
  decide +kernel

theorem witness_CeilingsAreBurntOnce : ∃ s t : State, step s = .next t := ⟨fronted, _, rfl⟩

theorem witness_CeilingsInForceAreBurnt : ∃ s t : State, s.CeilInv ∧ step s = .next t := ⟨fronted, _, fronted_ceil, rfl⟩

theorem witness_StoresStayCanonical : ∃ s t : State, s.Canon ∧ step s = .next t := ⟨fronted, _, ⟨nil_wf _, nil_wf _⟩, rfl⟩

theorem witness_FrameOfEveryCommand : ∃ (c : Instr) (s t : State) (x : Part), exec c s = .next t ∧ x ∉ reachOf c :=
  ⟨.tapReset, fronted, _, .hostPort, rfl, by decide⟩

theorem witness_RoleIsReadAtColdReset :
    (∃ (c : Instr) (s t : State), exec c s = .next t ∧ ∀ a f m, c ≠ .coldReset a f m) ∧
      ∃ (c : Instr) (s t : State) (a : BitVec 4) (f m : Nat), exec c s = .next t ∧ c = .coldReset a f m ∧ s.life = .inReset :=
  ⟨⟨.tapReset, fronted, _, rfl, fun _ _ _ h => nomatch h⟩, .coldReset 3 8 64, State.reset, _, 3, 8, 64, rfl, rfl, rfl⟩

end Sys2Proof.Tests
end

section
/-! Every command keeps a property that stands whatever the parts become that the command can reach: the lemmas of the files
`Kept…` brought together once, over `exec` and `reachOf`. From it the frame of `exec`, and what a cold reset leaves of the role
that it has read from the straps. -/

namespace Sys2Proof.Machine
open Host

variable {π : State → Prop}

/-! ### Properties that ignore a list of parts -/

/-- The property stands whatever the part of the state becomes. -/
def Ignores.part (π : State → Prop) : Part → Prop
  | .now => Ignores.now π
  | .role => Ignores.role π
  | .life => Ignores.life π
  | .straps => Ignores.straps π
  | .railsGood => Ignores.railsGood π
  | .od => Ignores.od π
  | .control => Ignores.control π
  | .clocks => Ignores.clocks π
  | .thermal => Ignores.thermal π
  | .otp => Ignores.otp π
  | .nvm => Ignores.nvm π
  | .update => Ignores.update π
  | .beat => Ignores.beat π
  | .tap => Ignores.tap π
  | .hostPort => Ignores.hostPort π
  | .lanes => Ignores.lanes π
  | .quartz => Ignores.quartz π
  | .tile => Ignores.tile π
  | .ports => Ignores.ports π
  | .cascade => Ignores.cascade π
  | .ingress => Ignores.ingress π
  | .video => Ignores.video π
  | .lamps => Ignores.lamps π
  | .sent => Ignores.sent π
  | .freeCount => Ignores.freeCount π
  | .pending => Ignores.pending π

/-- The property stands whatever each part of the list becomes. -/
def IgnoresAll (π : State → Prop) (l : List Part) : Prop := ∀ x ∈ l, Ignores.part π x

/-- The claim `q` under the premises that the property ignores each part of the list: the form in which the `kept_…` lemma of a
command says what the command keeps. -/
def UnderIgnores (π : State → Prop) : List Part → Prop → Prop
  | [], q => q
  | x :: l, q => Ignores.part π x → UnderIgnores π l q

theorem IgnoresAll.discharge {l : List Part} {q : Prop} (h : IgnoresAll π l) (claim : UnderIgnores π l q) : q := by
  induction l with
  | nil => exact claim
  | cons x l ih =>
    obtain ⟨hx, hl⟩ := List.forall_mem_cons.mp h
    exact ih hl (claim hx)

/-- A part that is not in the list stays the same under a change of the parts that are. -/
theorem ignoresAll_same {s₀ : State} {x : Part} {l : List Part} (hx : x ∉ l) : IgnoresAll (fun t => s₀.same t x) l := by
  intro y hy
  have ne : x ≠ y := fun e => hx (e ▸ hy)
  cases y with
  | now => exact same_now ne
  | role => exact same_role ne
  | life => exact same_life ne
  | straps => exact same_straps ne
  | railsGood => exact same_railsGood ne
  | od => exact same_od ne
  | control => exact same_control ne
  | clocks => exact same_clocks ne
  | thermal => exact same_thermal ne
  | otp => exact same_otp ne
  | nvm => exact same_nvm ne
  | update => exact same_update ne
  | beat => exact same_beat ne
  | tap => exact same_tap ne
  | hostPort => exact same_hostPort ne
  | lanes => exact same_lanes ne
  | quartz => exact same_quartz ne
  | tile => exact same_tile ne
  | ports => exact same_ports ne
  | cascade => exact same_cascade ne
  | ingress => exact same_ingress ne
  | video => exact same_video ne
  | lamps => exact same_lamps ne
  | sent => exact same_sent ne
  | freeCount => exact same_freeCount ne
  | pending => exact same_pending ne

/-! ### What a command keeps -/

/-- A property that stands whatever the parts become that a command can reach is kept by the command. -/
theorem keepsO_exec (c : Instr) (s : State) (h : IgnoresAll π (reachOf c)) (keep : Keeps π s) : KeepsO π (exec c s) := by
  cases c with
  | powerOn => exact h.discharge kept_execPowerOn s keep
  | resetNAssert => exact h.discharge kept_execResetNAssert s keep
  | supplyDrop => exact h.discharge kept_execSupplyDrop s keep
  | coldReset straps fitted flashMib => exact h.discharge kept_execColdReset straps fitted flashMib s keep
  | memoryBistComplete repairs faults => exact h.discharge kept_execMemoryBistComplete repairs faults s keep
  | imageLoadComplete elapsed => exact h.discharge kept_execImageLoadComplete elapsed s keep
  | warmReset imageOk elapsed => exact h.discharge kept_execWarmReset imageOk elapsed s keep
  | resetWarmCommand c => exact h.discharge kept_execResetWarmCommand c s keep
  | resetColdCommand c => exact h.discharge kept_execResetColdCommand c s keep
  | objectWrite c idx sub value => exact h.discharge kept_execObjectWrite c idx sub value s keep
  | sdoInitiateDownload c frame => exact h.discharge kept_execSdoInitiateDownload c frame s keep
  | sdoDownloadSegment c frame => exact h.discharge kept_execSdoDownloadSegment c frame s keep
  | sdoInitiateUpload c frame => exact h.discharge kept_execSdoInitiateUpload c frame s keep
  | sdoUploadSegment c frame => exact h.discharge kept_execSdoUploadSegment c frame s keep
  | sdoBlockDownloadInitiate c frame => exact h.discharge kept_execSdoBlockDownloadInitiate c frame s keep
  | sdoBlockSegment c frame => exact h.discharge kept_execSdoBlockSegment c frame s keep
  | sdoBlockDownloadEnd c frame => exact h.discharge kept_execSdoBlockDownloadEnd c frame s keep
  | sdoBlockUploadInitiate c frame => exact h.discharge kept_execSdoBlockUploadInitiate c frame s keep
  | sdoAbortReceive c frame => exact h.discharge kept_execSdoAbortReceive c frame s keep
  | sdoProtocolTimeout c => exact h.discharge kept_execSdoProtocolTimeout c s keep
  | udpDatagramReceive addr port data => exact h.discharge kept_execUdpDatagramReceive addr port data s keep
  | udpAssociationIdle ch => exact h.discharge kept_execUdpAssociationIdle ch s keep
  | challengeRead c => exact h.discharge kept_execChallengeRead c s keep
  | challengeExpiry c => exact h.discharge kept_execChallengeExpiry c s keep
  | login c message => exact h.discharge kept_execLogin c message s keep
  | loginLockoutEnd c => exact h.discharge kept_execLoginLockoutEnd c s keep
  | logout c v => exact h.discharge kept_execLogout c v s keep
  | idleLogoutExpiry c => exact h.discharge kept_execIdleLogoutExpiry c s keep
  | ownerKeyWrite c keyBytes => exact h.discharge kept_execOwnerKeyWrite c keyBytes s keep
  | ownerLockWrite c v => exact h.discharge kept_execOwnerLockWrite c v s keep
  | nmtStart => exact h.discharge kept_execNmtStart s keep
  | nmtStop => exact h.discharge kept_execNmtStop s keep
  | nmtEnterPreOperational => exact h.discharge kept_execNmtEnterPreOperational s keep
  | nmtResetNode => exact h.discharge kept_execNmtResetNode s keep
  | nmtResetCommunication => exact h.discharge kept_execNmtResetCommunication s keep
  | syncReceive => exact h.discharge kept_execSyncReceive s keep
  | rpdoReceive n udp data => exact h.discharge kept_execRpdoReceive n udp data s keep
  | tpdoEventTimer n => exact h.discharge kept_execTpdoEventTimer n s keep
  | heartbeatProduce => exact h.discharge kept_execHeartbeatProduce s keep
  | heartbeatConsumerTimeout k => exact h.discharge kept_execHeartbeatConsumerTimeout k s keep
  | udpHeartbeatSend => exact h.discharge kept_execUdpHeartbeatSend s keep
  | errorClassClear c => exact h.discharge kept_execErrorClassClear c s keep
  | errorHistoryClear c => exact h.discharge kept_execErrorHistoryClear c s keep
  | lssSwitchStateGlobal mode => exact h.discharge kept_execLssSwitchStateGlobal mode s keep
  | lssSwitchStateSelective vendor product revision serial => exact h.discharge kept_execLssSwitchStateSelective vendor product revision serial s keep
  | lssConfigureNodeId id => exact h.discharge kept_execLssConfigureNodeId id s keep
  | lssConfigureBitTiming table index => exact h.discharge kept_execLssConfigureBitTiming table index s keep
  | lssActivateBitTiming delay => exact h.discharge kept_execLssActivateBitTiming delay s keep
  | lssStoreConfiguration => exact h.discharge kept_execLssStoreConfiguration s keep
  | lssInquireIdentity k => exact h.discharge kept_execLssInquireIdentity k s keep
  | lssInquireNodeId => exact h.discharge kept_execLssInquireNodeId s keep
  | lssIdentifyRemoteSlave vendor product revLow revHigh serLow serHigh => exact h.discharge kept_execLssIdentifyRemoteSlave vendor product revLow revHigh serLow serHigh s keep
  | lssIdentifyNonConfigured => exact h.discharge kept_execLssIdentifyNonConfigured s keep
  | lssFastscan idNumber bitCheck lssSub lssNext => exact h.discharge kept_execLssFastscan idNumber bitCheck lssSub lssNext s keep
  | settingsStore c group => exact h.discharge kept_execSettingsStore c group s keep
  | settingsRestore c group => exact h.discharge kept_execSettingsRestore c group s keep
  | factoryReset c => exact h.discharge kept_execFactoryReset c s keep
  | gatewayTimeout p txn => exact h.discharge kept_execGatewayTimeout p txn s keep
  | mgmtReadReceive port r => exact h.discharge kept_execMgmtReadReceive port r s keep
  | mgmtWriteReceive port r => exact h.discharge kept_execMgmtWriteReceive port r s keep
  | mgmtBroadcastWriteReceive port r => exact h.discharge kept_execMgmtBroadcastWriteReceive port r s keep
  | mgmtResponseReceive p r => exact h.discharge kept_execMgmtResponseReceive p r s keep
  | mgmtEventReceive p r => exact h.discharge kept_execMgmtEventReceive p r s keep
  | tileEventSend => exact h.discharge kept_execTileEventSend s keep
  | tileEventsClear c v => exact h.discharge kept_execTileEventsClear c v s keep
  | txPortCEthernetFrame e f => exact h.discharge kept_execTxPortCEthernetFrame e f s keep
  | portcConfigWrite c v => exact h.discharge kept_execPortcConfigWrite c v s keep
  | igmpQueryReceive e version group sources => exact h.discharge kept_execIgmpQueryReceive e version group sources s keep
  | igmpReportTimer n => exact h.discharge kept_execIgmpReportTimer n s keep
  | streamEnable c n v => exact h.discharge kept_execStreamEnable c n v s keep
  | rtpPacketReceive n path data => exact h.discharge kept_execRtpPacketReceive n path data s keep
  | frameCloseTimeout n => exact h.discharge kept_execFrameCloseTimeout n s keep
  | pathLostTimeout n path => exact h.discharge kept_execPathLostTimeout n path s keep
  | jpegXsDecodeComplete n failedAt => exact h.discharge kept_execJpegXsDecodeComplete n failedAt s keep
  | freeSelectChoice => exact h.discharge kept_execFreeSelectChoice s keep
  | selectSend => exact h.discharge kept_execSelectSend s keep
  | selectUnitReceive link u => exact h.discharge kept_execSelectUnitReceive link u s keep
  | frameBoundary errors => exact h.discharge kept_execFrameBoundary errors s keep
  | cellSlotSchedule p => exact h.discharge kept_execCellSlotSchedule p s keep
  | determinismChecksum p => exact h.discharge kept_execDeterminismChecksum p s keep
  | checksumUnitReceive link u => exact h.discharge kept_execChecksumUnitReceive link u s keep
  | activateFrameWrite c frame => exact h.discharge kept_execActivateFrameWrite c frame s keep
  | mapActivationDeadline => exact h.discharge kept_execMapActivationDeadline s keep
  | cascadeLinkUp link => exact h.discharge kept_execCascadeLinkUp link s keep
  | relayUnitReceive link u => exact h.discharge kept_execRelayUnitReceive link u s keep
  | relayRelease p => exact h.discharge kept_execRelayRelease p s keep
  | mgmtUnitReceive link u => exact h.discharge kept_execMgmtUnitReceive link u s keep
  | identityUnitReceive link u => exact h.discharge kept_execIdentityUnitReceive link u s keep
  | statusUnitReceive link u => exact h.discharge kept_execStatusUnitReceive link u s keep
  | takeUnitReceive link u => exact h.discharge kept_execTakeUnitReceive link u s keep
  | reclaimUnitReceive link u => exact h.discharge kept_execReclaimUnitReceive link u s keep
  | ackUnitReceive link u => exact h.discharge kept_execAckUnitReceive link u s keep
  | deferUnitReceive link u => exact h.discharge kept_execDeferUnitReceive link u s keep
  | cancelUnitReceive link u => exact h.discharge kept_execCancelUnitReceive link u s keep
  | derateUnitReceive link u => exact h.discharge kept_execDerateUnitReceive link u s keep
  | syncUnitSend link => exact h.discharge kept_execSyncUnitSend link s keep
  | syncUnitReceive link u => exact h.discharge kept_execSyncUnitReceive link u s keep
  | parentTimeout => exact h.discharge kept_execParentTimeout s keep
  | receiverDetectTest l ohms => exact h.discharge kept_execReceiverDetectTest l ohms s keep
  | detectTimeout l => exact h.discharge kept_execDetectTimeout l s keep
  | trainingFrameReceive l c1 c2 c3 t1 t2 t3 inverted ready want => exact h.discharge kept_execTrainingFrameReceive l c1 c2 c3 t1 t2 t3 inverted ready want s keep
  | trainingRequestTimeout l => exact h.discharge kept_execTrainingRequestTimeout l s keep
  | trainingTimeout l => exact h.discharge kept_execTrainingTimeout l s keep
  | bitLockTimeout l => exact h.discharge kept_execBitLockTimeout l s keep
  | alignLockTimeout l => exact h.discharge kept_execAlignLockTimeout l s keep
  | electricalIdleEnd l => exact h.discharge kept_execElectricalIdleEnd l s keep
  | alignmentMarkerReceive l m skew => exact h.discharge kept_execAlignmentMarkerReceive l m skew s keep
  | alignmentMarkerSend k => exact h.discharge kept_execAlignmentMarkerSend k s keep
  | capBlockReceive l b => exact h.discharge kept_execCapBlockReceive l b s keep
  | capabilityTimeout l => exact h.discharge kept_execCapabilityTimeout l s keep
  | capabilityRefuseWaitEnd l => exact h.discharge kept_execCapabilityRefuseWaitEnd l s keep
  | failedLaneRetry l => exact h.discharge kept_execFailedLaneRetry l s keep
  | portRestartTimer k => exact h.discharge kept_execPortRestartTimer k s keep
  | laneLockLoss l cdr => exact h.discharge kept_execLaneLockLoss l cdr s keep
  | laneHealthWindow l received load => exact h.discharge kept_execLaneHealthWindow l received load s keep
  | prbsStart c l v => exact h.discharge kept_execPrbsStart c l v s keep
  | prbsDurationEnd l n errors symErrors => exact h.discharge kept_execPrbsDurationEnd l n errors symErrors s keep
  | liveTestRelockTimeout l => exact h.discharge kept_execLiveTestRelockTimeout l s keep
  | injStart c l => exact h.discharge kept_execInjStart c l s keep
  | injStop c l => exact h.discharge kept_execInjStop c l s keep
  | loopbackWrite c p v => exact h.discharge kept_execLoopbackWrite c p v s keep
  | testStateWrite c p v => exact h.discharge kept_execTestStateWrite c p v s keep
  | laneCounterClear c l v => exact h.discharge kept_execLaneCounterClear c l v s keep
  | videoCellReceive port r => exact h.discharge kept_execVideoCellReceive port r s keep
  | idleCellReceive port => exact h.discharge kept_execIdleCellReceive port s keep
  | rateMatchSend out => exact h.discharge kept_execRateMatchSend out s keep
  | timingCellReceive port r => exact h.discharge kept_execTimingCellReceive port r s keep
  | timingWindowEnd => exact h.discharge kept_execTimingWindowEnd s keep
  | serviceCellReceive port r => exact h.discharge kept_execServiceCellReceive port r s keep
  | healthCellReceive port r => exact h.discharge kept_execHealthCellReceive port r s keep
  | topoQueryReceive port r => exact h.discharge kept_execTopoQueryReceive port r s keep
  | topoAssignReceive port r => exact h.discharge kept_execTopoAssignReceive port r s keep
  | framectlCommitReceive port r => exact h.discharge kept_execFramectlCommitReceive port r s keep
  | framectlGenStateReceive port r => exact h.discharge kept_execFramectlGenStateReceive port r s keep
  | framectlAbortReceive port r => exact h.discharge kept_execFramectlAbortReceive port r s keep
  | reservedTypeCellReceive port r => exact h.discharge kept_execReservedTypeCellReceive port r s keep
  | cellTerminate p r => exact h.discharge kept_execCellTerminate p r s keep
  | topoReportReceive p r => exact h.discharge kept_execTopoReportReceive p r s keep
  | oppositePortDown port => exact h.discharge kept_execOppositePortDown port s keep
  | loopTimingRestore port => exact h.discharge kept_execLoopTimingRestore port s keep
  | discover c p v => exact h.discharge kept_execDiscover c p v s keep
  | discoveryCollectEnd p => exact h.discharge kept_execDiscoveryCollectEnd p s keep
  | repeatOnlyWrite c v => exact h.discharge kept_execRepeatOnlyWrite c v s keep
  | chainCounterClear c v => exact h.discharge kept_execChainCounterClear c v s keep
  | selfDiagPeriod secded watchdog => exact h.discharge kept_execSelfDiagPeriod secded watchdog s keep
  | healthSend p => exact h.discharge kept_execHealthSend p s keep
  | tileHealthSend => exact h.discharge kept_execTileHealthSend s keep
  | peerCheck p => exact h.discharge kept_execPeerCheck p s keep
  | controlStart p => exact h.discharge kept_execControlStart p s keep
  | reclaimAnswerTimeout p => exact h.discharge kept_execReclaimAnswerTimeout p s keep
  | deferRetry p => exact h.discharge kept_execDeferRetry p s keep
  | reclaimNow c p v => exact h.discharge kept_execReclaimNow c p v s keep
  | maintenanceWrite c p v => exact h.discharge kept_execMaintenanceWrite c p v s keep
  | feedEndTimeout o => exact h.discharge kept_execFeedEndTimeout o s keep
  | holdTimeExpiry => exact h.discharge kept_execHoldTimeExpiry s keep
  | ptpSyncReceive port domain ident seq t1 logInterval twoStep => exact h.discharge kept_execPtpSyncReceive port domain ident seq t1 logInterval twoStep s keep
  | ptpFollowUpReceive port domain ident seq t1 => exact h.discharge kept_execPtpFollowUpReceive port domain ident seq t1 s keep
  | ptpDelayReqSend => exact h.discharge kept_execPtpDelayReqSend s keep
  | ptpDelayRespReceive port domain ident seq t4 => exact h.discharge kept_execPtpDelayRespReceive port domain ident seq t4 s keep
  | ptpAnnounceReceive port domain d logInterval => exact h.discharge kept_execPtpAnnounceReceive port domain d logInterval s keep
  | announceReceiptTimeout => exact h.discharge kept_execAnnounceReceiptTimeout s keep
  | quartzSourceLoss => exact h.discharge kept_execQuartzSourceLoss s keep
  | genlockEdge falling => exact h.discharge kept_execGenlockEdge falling s keep
  | ppsEdge => exact h.discharge kept_execPpsEdge s keep
  | todSet c seconds => exact h.discharge kept_execTodSet c seconds s keep
  | timingCellOriginate p => exact h.discharge kept_execTimingCellOriginate p s keep
  | trimRecompute p => exact h.discharge kept_execTrimRecompute p s keep
  | applyFrame c frame => exact h.discharge kept_execApplyFrame c frame s keep
  | stepNow c ns => exact h.discharge kept_execStepNow c ns s keep
  | recompute c v => exact h.discharge kept_execRecompute c v s keep
  | frameOutPulse f k => exact h.discharge kept_execFrameOutPulse f k s keep
  | ppsOutPulse => exact h.discharge kept_execPpsOutPulse s keep
  | fillClose => exact h.discharge kept_execFillClose s keep
  | composeSlot d => exact h.discharge kept_execComposeSlot d s keep
  | composeComplete => exact h.discharge kept_execComposeComplete s keep
  | composeOverrun => exact h.discharge kept_execComposeOverrun s keep
  | commitFrame c frame => exact h.discharge kept_execCommitFrame c frame s keep
  | commitAbortWrite c v => exact h.discharge kept_execCommitAbortWrite c v s keep
  | commitDeadline checkerDown => exact h.discharge kept_execCommitDeadline checkerDown s keep
  | framectlSend p => exact h.discharge kept_execFramectlSend p s keep
  | coeffSetWrite c k set => exact h.discharge kept_execCoeffSetWrite c k set s keep
  | tfTableWrite c k table => exact h.discharge kept_execTfTableWrite c k table s keep
  | corrSelectWrite c v => exact h.discharge kept_execCorrSelectWrite c v s keep
  | corrVerify c v => exact h.discharge kept_execCorrVerify c v s keep
  | corrVerifyComplete => exact h.discharge kept_execCorrVerifyComplete s keep
  | corrLoadRow => exact h.discharge kept_execCorrLoadRow s keep
  | correctionReread => exact h.discharge kept_execCorrectionReread s keep
  | hkRound die supply holdup nvm => exact h.discharge kept_execHkRound die supply holdup nvm s keep
  | thermalTrip die => exact h.discharge kept_execThermalTrip die s keep
  | coolingComplete => exact h.discharge kept_execCoolingComplete s keep
  | enumStart c p v => exact h.discharge kept_execEnumStart c p v s keep
  | lrReturn p pulses loopPs => exact h.discharge kept_execLrReturn p pulses loopPs s keep
  | lrMissingTimeout p => exact h.discharge kept_execLrMissingTimeout p s keep
  | lampPortCounterClear c p v => exact h.discharge kept_execLampPortCounterClear c p v s keep
  | frustumIn c record => exact h.discharge kept_execFrustumIn c record s keep
  | frustumWrite c record => exact h.discharge kept_execFrustumWrite c record s keep
  | frustumStaleTimeout => exact h.discharge kept_execFrustumStaleTimeout s keep
  | schedBuild p => exact h.discharge kept_execSchedBuild p s keep
  | schedBuildDone p => exact h.discharge kept_execSchedBuildDone p s keep
  | epochEnd damaged => exact h.discharge kept_execEpochEnd damaged s keep
  | sweepStart c v => exact h.discharge kept_execSweepStart c v s keep
  | sweepEnd => exact h.discharge kept_execSweepEnd s keep
  | lampDiagClear c v => exact h.discharge kept_execLampDiagClear c v s keep
  | peAdd p rd ra rb rsv => exact h.discharge kept_execPeAdd p rd ra rb rsv s keep
  | peSub p rd ra rb rsv => exact h.discharge kept_execPeSub p rd ra rb rsv s keep
  | peAnd p rd ra rb rsv => exact h.discharge kept_execPeAnd p rd ra rb rsv s keep
  | peOr p rd ra rb rsv => exact h.discharge kept_execPeOr p rd ra rb rsv s keep
  | peXor p rd ra rb rsv => exact h.discharge kept_execPeXor p rd ra rb rsv s keep
  | peShl p rd ra rb rsv => exact h.discharge kept_execPeShl p rd ra rb rsv s keep
  | peShr p rd ra rb rsv => exact h.discharge kept_execPeShr p rd ra rb rsv s keep
  | peSra p rd ra rb rsv => exact h.discharge kept_execPeSra p rd ra rb rsv s keep
  | peMul p rd ra rb rsv => exact h.discharge kept_execPeMul p rd ra rb rsv s keep
  | peMulhu p rd ra rb rsv => exact h.discharge kept_execPeMulhu p rd ra rb rsv s keep
  | peSltu p rd ra rb rsv => exact h.discharge kept_execPeSltu p rd ra rb rsv s keep
  | peMinu p rd ra rb rsv => exact h.discharge kept_execPeMinu p rd ra rb rsv s keep
  | peMaxu p rd ra rb rsv => exact h.discharge kept_execPeMaxu p rd ra rb rsv s keep
  | peAddi p rd ra imm => exact h.discharge kept_execPeAddi p rd ra imm s keep
  | peAndi p rd ra imm => exact h.discharge kept_execPeAndi p rd ra imm s keep
  | peOri p rd ra imm => exact h.discharge kept_execPeOri p rd ra imm s keep
  | peXori p rd ra imm => exact h.discharge kept_execPeXori p rd ra imm s keep
  | peSltui p rd ra imm => exact h.discharge kept_execPeSltui p rd ra imm s keep
  | peShli p rd ra imm => exact h.discharge kept_execPeShli p rd ra imm s keep
  | peShri p rd ra imm => exact h.discharge kept_execPeShri p rd ra imm s keep
  | peLui p rd ra imm => exact h.discharge kept_execPeLui p rd ra imm s keep
  | peLd p rd ra imm => exact h.discharge kept_execPeLd p rd ra imm s keep
  | peSt p rd ra imm => exact h.discharge kept_execPeSt p rd ra imm s keep
  | peBeq p ra rb off => exact h.discharge kept_execPeBeq p ra rb off s keep
  | peBne p ra rb off => exact h.discharge kept_execPeBne p ra rb off s keep
  | peBltu p ra rb off => exact h.discharge kept_execPeBltu p ra rb off s keep
  | peBgeu p ra rb off => exact h.discharge kept_execPeBgeu p ra rb off s keep
  | peDbnz p ra rb off => exact h.discharge kept_execPeDbnz p ra rb off s keep
  | peJal p rd ra imm => exact h.discharge kept_execPeJal p rd ra imm s keep
  | peJalr p rd ra imm => exact h.discharge kept_execPeJalr p rd ra imm s keep
  | peRds p rd ra imm => exact h.discharge kept_execPeRds p rd ra imm s keep
  | peWrs p rd ra imm => exact h.discharge kept_execPeWrs p rd ra imm s keep
  | peWaite p rd ra imm => exact h.discharge kept_execPeWaite p rd ra imm s keep
  | waiteComplete p => exact h.discharge kept_execWaiteComplete p s keep
  | peWaitt p rd ra imm => exact h.discharge kept_execPeWaitt p rd ra imm s keep
  | waittComplete p => exact h.discharge kept_execWaittComplete p s keep
  | peWdk p rd ra imm => exact h.discharge kept_execPeWdk p rd ra imm s keep
  | peMbs p rd ra imm => exact h.discharge kept_execPeMbs p rd ra imm s keep
  | peMbr p rd ra imm => exact h.discharge kept_execPeMbr p rd ra imm s keep
  | peSema p rd ra imm => exact h.discharge kept_execPeSema p rd ra imm s keep
  | peSemr p rd ra imm => exact h.discharge kept_execPeSemr p rd ra imm s keep
  | peFopen p rd ra imm => exact h.discharge kept_execPeFopen p rd ra imm s keep
  | peTxb p rd ra imm => exact h.discharge kept_execPeTxb p rd ra imm s keep
  | peTxf p rd ra imm => exact h.discharge kept_execPeTxf p rd ra imm s keep
  | peTxsh p rd ra rb rsv bad => exact h.discharge kept_execPeTxsh p rd ra rb rsv bad s keep
  | peTxl p rd ra rb rsv bad => exact h.discharge kept_execPeTxl p rd ra rb rsv bad s keep
  | peTxs p rd ra rb rsv => exact h.discharge kept_execPeTxs p rd ra rb rsv s keep
  | peSlen p rd ra rb rsv => exact h.discharge kept_execPeSlen p rd ra rb rsv s keep
  | peRxw p rd ra rb rsv => exact h.discharge kept_execPeRxw p rd ra rb rsv s keep
  | peRxd p rd ra rb rsv => exact h.discharge kept_execPeRxd p rd ra rb rsv s keep
  | peVerd p rd ra rb rsv => exact h.discharge kept_execPeVerd p rd ra rb rsv s keep
  | peDiagc p rd ra rb rsv => exact h.discharge kept_execPeDiagc p rd ra rb rsv s keep
  | pePrb p rd ra rb rsv => exact h.discharge kept_execPePrb p rd ra rb rsv s keep
  | pushStallEnd p bad => exact h.discharge kept_execPushStallEnd p bad s keep
  | referenceFrameLaunch p => exact h.discharge kept_execReferenceFrameLaunch p s keep
  | frameLaunch p => exact h.discharge kept_execFrameLaunch p s keep
  | framerUnderrun p => exact h.discharge kept_execFramerUnderrun p s keep
  | engineWatchdogExpiry p => exact h.discharge kept_execEngineWatchdogExpiry p s keep
  | engineLoad p => exact h.discharge kept_execEngineLoad p s keep
  | enumerate p => exact h.discharge kept_execEnumerate p s keep
  | stop p => exact h.discharge kept_execStop p s keep
  | repoll p => exact h.discharge kept_execRepoll p s keep
  | apply p frame => exact h.discharge kept_execApply p frame s keep
  | engineCounterClear c p v => exact h.discharge kept_execEngineCounterClear c p v s keep
  | qspiRead addr n fast => exact h.discharge kept_execQspiRead addr n fast s keep
  | qspiQread addr n fast => exact h.discharge kept_execQspiQread addr n fast s keep
  | qspiWrite addr bytes => exact h.discharge kept_execQspiWrite addr bytes s keep
  | qspiQwrite addr bytes => exact h.discharge kept_execQspiQwrite addr bytes s keep
  | qspiRdsr n => exact h.discharge kept_execQspiRdsr n s keep
  | qspiPortReset => exact h.discharge kept_execQspiPortReset s keep
  | qspiBadInstruction => exact h.discharge kept_execQspiBadInstruction s keep
  | hpSdoGo len => exact h.discharge kept_execHpSdoGo len s keep
  | mbPost m c => exact h.discharge kept_execMbPost m c s keep
  | mbTake m c => exact h.discharge kept_execMbTake m c s keep
  | mbFlush m c => exact h.discharge kept_execMbFlush m c s keep
  | returnCodeWrite m c code => exact h.discharge kept_execReturnCodeWrite m c code s keep
  | mbBindWrite m c v => exact h.discharge kept_execMbBindWrite m c v s keep
  | mbLockWrite m v => exact h.discharge kept_execMbLockWrite m v s keep
  | semRead ms_ n => exact h.discharge kept_execSemRead ms_ n s keep
  | semWrite m n => exact h.discharge kept_execSemWrite m n s keep
  | semForce m v => exact h.discharge kept_execSemForce m v s keep
  | masterReset m => exact h.discharge kept_execMasterReset m s keep
  | pllLock p => exact h.discharge kept_execPllLock p s keep
  | pllLockLoss p => exact h.discharge kept_execPllLockLoss p s keep
  | pllRelockSwitchBack p => exact h.discharge kept_execPllRelockSwitchBack p s keep
  | xtalLoss => exact h.discharge kept_execXtalLoss s keep
  | xtalReturn => exact h.discharge kept_execXtalReturn s keep
  | refclkLoss aborted => exact h.discharge kept_execRefclkLoss aborted s keep
  | refclkReturn => exact h.discharge kept_execRefclkReturn s keep
  | clockGateClose d => exact h.discharge kept_execClockGateClose d s keep
  | clockGateOpen d => exact h.discharge kept_execClockGateOpen d s keep
  | clockSwitchComplete d => exact h.discharge kept_execClockSwitchComplete d s keep
  | forcedClockSwitch d aborted => exact h.discharge kept_execForcedClockSwitch d aborted s keep
  | dvfsEvaluate busy1 busy50 => exact h.discharge kept_execDvfsEvaluate busy1 busy50 s keep
  | avsTransferComplete r => exact h.discharge kept_execAvsTransferComplete r s keep
  | vdone => exact h.discharge kept_execVdone s keep
  | vdoneTimeout => exact h.discharge kept_execVdoneTimeout s keep
  | freqStart c v => exact h.discharge kept_execFreqStart c v s keep
  | freqMeasureComplete khz => exact h.discharge kept_execFreqMeasureComplete khz s keep
  | clocksCounterClear c v => exact h.discharge kept_execClocksCounterClear c v s keep
  | clusterWatchdogRestart cluster => exact h.discharge kept_execClusterWatchdogRestart cluster s keep
  | clusterWatchdogExpiry cluster => exact h.discharge kept_execClusterWatchdogExpiry cluster s keep
  | flashOpComplete ok => exact h.discharge kept_execFlashOpComplete ok s keep
  | flashOpTimeout => exact h.discharge kept_execFlashOpTimeout s keep
  | bbCommit => exact h.discharge kept_execBbCommit s keep
  | bbResetPinned c word => exact h.discharge kept_execBbResetPinned c word s keep
  | calStart c v => exact h.discharge kept_execCalStart c v s keep
  | calRunComplete hop1 hop2 => exact h.discharge kept_execCalRunComplete hop1 hop2 s keep
  | calDeferredStore => exact h.discharge kept_execCalDeferredStore s keep
  | serviceHello src frame => exact h.discharge kept_execServiceHello src frame s keep
  | serviceOpen src frame => exact h.discharge kept_execServiceOpen src frame s keep
  | serviceWrite src frame => exact h.discharge kept_execServiceWrite src frame s keep
  | serviceStatus src frame => exact h.discharge kept_execServiceStatus src frame s keep
  | serviceVerify src frame => exact h.discharge kept_execServiceVerify src frame s keep
  | verifyComplete => exact h.discharge kept_execVerifyComplete s keep
  | serviceActivate src frame => exact h.discharge kept_execServiceActivate src frame s keep
  | serviceCancel src frame => exact h.discharge kept_execServiceCancel src frame s keep
  | serviceFinalize src frame => exact h.discharge kept_execServiceFinalize src frame s keep
  | serviceRollback src frame => exact h.discharge kept_execServiceRollback src frame s keep
  | serviceClose src frame => exact h.discharge kept_execServiceClose src frame s keep
  | serviceRead src frame => exact h.discharge kept_execServiceRead src frame s keep
  | serviceReport p station frame => exact h.discharge kept_execServiceReport p station frame s keep
  | sessionIdleTimeout => exact h.discharge kept_execSessionIdleTimeout s keep
  | selfTestPass => exact h.discharge kept_execSelfTestPass s keep
  | confirm c v => exact h.discharge kept_execConfirm c v s keep
  | confirmationTimeout => exact h.discharge kept_execConfirmationTimeout s keep
  | rollbackNow c v => exact h.discharge kept_execRollbackNow c v s keep
  | finalizeNow c v => exact h.discharge kept_execFinalizeNow c v s keep
  | wuStage c => exact h.discharge kept_execWuStage c s keep
  | wuArm c => exact h.discharge kept_execWuArm c s keep
  | wuAbort c => exact h.discharge kept_execWuAbort c s keep
  | wuPoll => exact h.discharge kept_execWuPoll s keep
  | wuActivateBroadcast => exact h.discharge kept_execWuActivateBroadcast s keep
  | wallActivateAtFrame => exact h.discharge kept_execWallActivateAtFrame s keep
  | wuConfirmWaitExpiry => exact h.discharge kept_execWuConfirmWaitExpiry s keep
  | replayLimitExpiry => exact h.discharge kept_execReplayLimitExpiry s keep
  | ceilProgram c entry => exact h.discharge kept_execCeilProgram c entry s keep
  | ceilLock c v => exact h.discharge kept_execCeilLock c v s keep
  | bistStart c v => exact h.discharge kept_execBistStart c v s keep
  | bistComplete failAddr => exact h.discharge kept_execBistComplete failAddr s keep
  | tapReset => exact h.discharge kept_execTapReset s keep
  | tapExtest pins shifted => exact h.discharge kept_execTapExtest pins shifted s keep
  | tapIdcode => exact h.discharge kept_execTapIdcode s keep
  | tapSamplePreload pins shifted => exact h.discharge kept_execTapSamplePreload pins shifted s keep
  | tapExtestPulse pins shifted => exact h.discharge kept_execTapExtestPulse pins shifted s keep
  | tapExtestTrain pins shifted => exact h.discharge kept_execTapExtestTrain pins shifted s keep
  | tapClamp => exact h.discharge kept_execTapClamp s keep
  | tapHighz => exact h.discharge kept_execTapHighz s keep
  | tapDbgUnlock update => exact h.discharge kept_execTapDbgUnlock update s keep
  | tapDebug => exact h.discharge kept_execTapDebug s keep
  | tapMbist => exact h.discharge kept_execTapMbist s keep
  | tapBypass => exact h.discharge kept_execTapBypass s keep
  | genlockEdgeMissing => exact h.discharge kept_execGenlockEdgeMissing s keep
  | uncorrectedBurst l => exact h.discharge kept_execUncorrectedBurst l s keep
  | prbsCheckerLock l pattern => exact h.discharge kept_execPrbsCheckerLock l pattern s keep
  | prbsCheckerLockLoss l n errors symErrors => exact h.discharge kept_execPrbsCheckerLockLoss l n errors symErrors s keep
  | injectionInterval l => exact h.discharge kept_execInjectionInterval l s keep
  | loopTimingSlewComplete port => exact h.discharge kept_execLoopTimingSlewComplete port s keep
  | wuWritePace => exact h.discharge kept_execWuWritePace s keep
  | serviceRequestRetry tag => exact h.discharge kept_execServiceRequestRetry tag s keep
  | helloNonceExpiry => exact h.discharge kept_execHelloNonceExpiry s keep
  | mbMsgWrite m c w v => exact h.discharge kept_execMbMsgWrite m c w v s keep
  | mbStatusClear m c v => exact h.discharge kept_execMbStatusClear m c v s keep

/-- A part out of a command's reach is the same in the next state. -/
theorem exec_same {c : Instr} {s t : State} {x : Part} (hx : x ∉ reachOf c) (h : exec c s = .next t) : s.same t x :=
  same_next (keepsO_exec c s (ignoresAll_same hx) (same_self s x)) h

/-! ### Role and straps -/

/-- No command but the cold reset reaches the role or the straps. -/
theorem reachOf_avoids_role_straps {c : Instr} (hc : ∀ a f m, c ≠ .coldReset a f m) :
    Part.role ∉ reachOf c ∧ Part.straps ∉ reachOf c := by
  cases c with
  | coldReset a f m => exact absurd rfl (hc a f m)
  | _ => exact of_decide_eq_true rfl

theorem roleOf_eq (straps : BitVec 4) :
    roleOf straps = if straps.toNat % 4 = 1 then .sender else if straps.toNat % 4 = 2 then .tile else .none := by
  unfold roleOf
  split
  next h => simp [h]
  next h => simp [h]
  next h1 h2 => rw [if_neg h1, if_neg h2]

/-- What holds once the role is taken, whatever the bring-up and the boot change, holds after the cold reset (R1, R447). -/
theorem keepsO_execColdReset_of_takeRole (igLife : Ignores.life π) (igOd : Ignores.od π) (igControl : Ignores.control π)
    (igClocks : Ignores.clocks π) (igNvm : Ignores.nvm π) (igUpdate : Ignores.update π) (igLanes : Ignores.lanes π)
    (igTile : Ignores.tile π) (igSent : Ignores.sent π) {straps : BitVec 4} {fitted flashMib : Nat} {s : State}
    (hlife : s.life = .inReset) (keep : Keeps π (s.takeRole straps fitted)) :
    KeepsO π (execColdReset straps fitted flashMib s) := by
  have started := kept_startTimers igClocks _ (kept_rekeyed igOd _ keep)
  have sized := kept_wrN igOd _ 0x3000 0x01 flashMib (kept_bump igOd _ 0x2D00 0x19 1 started)
  have broughtUp := keeps_foldl (l := List.finRange 3) (fun t p => kept_bringUpPort igOd igLanes igSent t p)
    (kept_commandLevel igOd igSent _ 2 sized)
  have held := kept_holdTripped igClocks igTile _ broughtUp
  unfold execColdReset
  rw [if_neg (not_not.mpr hlife)]
  exact keepsO_ite (keepsO_next sized) (keepsO_ite (keepsO_next (keeps_set_life igLife held))
    (keepsO_next (kept_bootStep igLife igOd igControl igNvm igUpdate igSent _ held)))

/-- The cold reset leaves a part that only taking the role writes as taking the role made it. -/
theorem execColdReset_same_takeRole {straps : BitVec 4} {fitted flashMib : Nat} {s t : State} {x : Part}
    (hx : x ∉ [.life, .od, .control, .clocks, .nvm, .update, .lanes, .tile, .sent]) (hlife : s.life = .inReset)
    (h : execColdReset straps fitted flashMib s = .next t) : (s.takeRole straps fitted).same t x :=
  same_next ((ignoresAll_same hx).discharge keepsO_execColdReset_of_takeRole hlife (same_self _ x)) h

theorem readDevice_role (s : State) : s.readDevice 0x2000 1 = some (numVal s.role.code) := rfl

theorem readDevice_siliconRev (s : State) : s.readDevice 0x2000 2 = some (numVal Config.siliconRev) := rfl

/-- Settles O7: role and straps are out of every other command's reach, and a cold reset changes neither once it has taken them. -/
theorem roleIsReadAtColdReset : Obligations.RoleIsReadAtColdReset := by
  intro c s t h
  refine ⟨fun hc => ?_, ?_, readDevice_role t, readDevice_siliconRev t⟩
  · obtain ⟨hrole, hstraps⟩ := reachOf_avoids_role_straps hc
    exact ⟨exec_same hrole h, exec_same hstraps h⟩
  · rintro a f m rfl hlife
    have hstraps : t.straps = a := execColdReset_same_takeRole (x := .straps) (by decide) hlife h
    have hrole : t.role = roleOf a := execColdReset_same_takeRole (x := .role) (by decide) hlife h
    exact ⟨hstraps, hrole.trans (roleOf_eq a)⟩

end Sys2Proof.Machine
end

section
/-! Semaphores (R427 to R429): what a read, the masters' reads of one cycle, a write and a forced release leave. -/

namespace Sys2Proof.Machine
open Host

/-! ### One read and one write -/

/-- A semaphore that a master has just acquired. -/
def Semaphore.acquiredBy (m : BitVec 7) : Semaphore := { holder := m, lastWinner := m, held := true }

theorem withSem_sem (s : State) (n : Fin 32) (f : Semaphore → Semaphore) :
    (s.withSem n f).hostPort.sem[n] = f s.hostPort.sem[n] := by
  simp [withSem_hostPort, vset]

/-- The holder reads BUSY 0. -/
theorem word_of_holder {x : Semaphore} {m : BitVec 7} (h : x.holder = m) :
    x.word m = BitVec.ofNat 32 (x.holder.toNat + x.lastWinner.toNat * 2 ^ 8) := by
  simp [Semaphore.word, bitAt, h]

/-- Every master but the holder reads BUSY 1 of a semaphore that is held. -/
theorem word_of_other {x : Semaphore} {m : BitVec 7} (hx : x.held = true) (h : x.holder ≠ m) :
    x.word m = BitVec.ofNat 32 (x.holder.toNat + x.lastWinner.toNat * 2 ^ 8 + 2 ^ 31) := by
  simp [Semaphore.word, bitAt, hx, h]

theorem semRead_free {s : State} {n : Fin 32} (m : BitVec 7) (h : s.hostPort.sem[n].held = false) :
    s.semRead m n = ((Semaphore.acquiredBy m).word m, s.withSem n fun _ => .acquiredBy m) := by
  unfold State.semRead
  rw [h]
  exact Prod.ext (congrArg (·.word m) (withSem_sem s n fun _ => .acquiredBy m)) rfl

theorem semRead_held {s : State} {n : Fin 32} (m : BitVec 7) (h : s.hostPort.sem[n].held = true) :
    s.semRead m n = (s.hostPort.sem[n].word m, s) := by
  unfold State.semRead
  rw [h]
  rfl

theorem semWrite_holder {s : State} {m : BitVec 7} {n : Fin 32} (hx : s.hostPort.sem[n].held = true)
    (h : s.hostPort.sem[n].holder = m) : s.semWrite m n = s.withSem n fun x => { x with held := false } :=
  if_pos (Bool.and_eq_true_iff.mpr ⟨hx, beq_iff_eq.mpr h⟩)

theorem semWrite_other {s : State} {m : BitVec 7} {n : Fin 32}
    (h : s.hostPort.sem[n].held = true → s.hostPort.sem[n].holder ≠ m) : s.semWrite m n = s.violation m n :=
  if_neg (by simpa using h)

theorem execSemWrite_of_master {m : BitVec 7} (hm : isMaster m = true) (n : Fin 32) (s : State) :
    execSemWrite m n s = .next (s.semWrite m n) := if_pos hm

/-! ### The reads of one cycle (R428) -/

/-- One master of the cycle is served. -/
def State.serveSem (n : Fin 32) (s : State) (m : BitVec 7) : State :=
  (s.semRead m n).2.emit (.masterRead m (s.semRead m n).1)

/-- The order in which the masters of one cycle are served. -/
def semOrder (last : BitVec 7) (ms_ : List (BitVec 7)) : List (BitVec 7) :=
  (ms_.filter isMaster).foldr (semInsert last) []

theorem execSemRead_eq (ms_ : List (BitVec 7)) (n : Fin 32) (s : State) :
    execSemRead ms_ n s = .next ((semOrder s.hostPort.sem[n].lastWinner ms_).foldl (State.serveSem n) s) := rfl

theorem serveSem_free {s : State} {n : Fin 32} (m : BitVec 7) (h : s.hostPort.sem[n].held = false) :
    s.serveSem n m = (s.withSem n fun _ => .acquiredBy m).emit (.masterRead m ((Semaphore.acquiredBy m).word m)) := by
  rw [State.serveSem, semRead_free m h]

theorem serveSem_held {s : State} {n : Fin 32} (m : BitVec 7) (h : s.hostPort.sem[n].held = true) :
    s.serveSem n m = s.emit (.masterRead m (s.hostPort.sem[n].word m)) := by
  rw [State.serveSem, semRead_held m h]

theorem execSemRead_of_master {m : BitVec 7} (hm : isMaster m = true) (n : Fin 32) (s : State) :
    execSemRead [m] n s = .next (s.serveSem n m) := by
  rw [execSemRead_eq, semOrder, List.filter_singleton, hm]
  rfl

/-- Reads of a semaphore that is held change nothing and answer each reader. -/
theorem foldl_serveSem_held (ms_ : List (BitVec 7)) {s : State} {n : Fin 32} (h : s.hostPort.sem[n].held = true) :
    ms_.foldl (State.serveSem n) s = s.emits (ms_.map fun m => .masterRead m (s.hostPort.sem[n].word m)) := by
  induction ms_ generalizing s with
  | nil => simp [State.emits]
  | cons m ms_ ih =>
    rw [List.foldl_cons, serveSem_held m h, ih (s := s.emit _) h]
    simp [State.emits, State.emit]

/-- Insertion by rank is Mathlib's ordered insertion. -/
theorem semInsert_eq_orderedInsert (last m : BitVec 7) (ms_ : List (BitVec 7)) :
    semInsert last m ms_ = ms_.orderedInsert (fun a b => semRank last a < semRank last b) m := by
  induction ms_ with
  | nil => rfl
  | cons x xs ih => rw [semInsert, List.orderedInsert_cons, ih]

theorem mem_semOrder {last a : BitVec 7} {ms_ : List (BitVec 7)} :
    a ∈ semOrder last ms_ ↔ a ∈ ms_ ∧ isMaster a = true := by
  have hsort : semOrder last ms_ = (ms_.filter isMaster).insertionSort fun a b => semRank last a < semRank last b := by
    unfold semOrder List.insertionSort
    congr 1
    funext m l
    exact semInsert_eq_orderedInsert last m l
  rw [hsort, List.mem_insertionSort, List.mem_filter]

theorem semInsert_ranked (last m : BitVec 7) {ms_ : List (BitVec 7)}
    (h : ms_.Pairwise fun a b => semRank last a ≤ semRank last b) :
    (semInsert last m ms_).Pairwise fun a b => semRank last a ≤ semRank last b := by
  induction ms_ with
  | nil => exact List.pairwise_singleton _ _
  | cons x xs ih =>
    obtain ⟨hx, hxs⟩ := List.pairwise_cons.mp h
    unfold semInsert
    split
    next hlt =>
      refine List.pairwise_cons.mpr ⟨fun a ha => ?_, h⟩
      rcases List.mem_cons.mp ha with rfl | ha
      · exact hlt.le
      · exact hlt.le.trans (hx a ha)
    next hge =>
      refine List.pairwise_cons.mpr ⟨fun a ha => ?_, ih hxs⟩
      rw [semInsert_eq_orderedInsert, List.mem_orderedInsert] at ha
      rcases ha with rfl | ha
      · exact not_lt.mp hge
      · exact hx a ha

/-- The masters of one cycle are served in the order of their ranks. -/
theorem semOrder_ranked (last : BitVec 7) (ms_ : List (BitVec 7)) :
    (semOrder last ms_).Pairwise fun a b => semRank last a ≤ semRank last b := by
  unfold semOrder
  induction ms_.filter isMaster with
  | nil => exact List.Pairwise.nil
  | cons m ms_ ih => exact semInsert_ranked last m ih

/-- The master of the least rank is served first. -/
theorem semOrder_eq_cons {last w : BitVec 7} {ms_ : List (BitVec 7)} (hw : w ∈ ms_) (hm : isMaster w = true)
    (hleast : ∀ m ∈ ms_, m ≠ w → semRank last w < semRank last m) : ∃ rest, semOrder last ms_ = w :: rest := by
  have hmem : w ∈ semOrder last ms_ := mem_semOrder.mpr ⟨hw, hm⟩
  have hranked := semOrder_ranked last ms_
  cases horder : semOrder last ms_ with
  | nil => rw [horder] at hmem; exact absurd hmem List.not_mem_nil
  | cons x rest =>
    have hx : x ∈ ms_ := (mem_semOrder.mp (horder ▸ List.mem_cons_self)).1
    rw [horder] at hmem hranked
    suffices x = w from ⟨rest, by rw [this]⟩
    by_contra hne
    rcases List.mem_cons.mp hmem with rfl | hrest
    · exact hne rfl
    · exact absurd ((List.pairwise_cons.mp hranked).1 w hrest) (not_le.mpr (hleast x hx hne))

/-- Reads of a free semaphore in one cycle: the first served acquires it, and the others are answered as it stands then. -/
theorem execSemRead_free {s : State} {n : Fin 32} {w : BitVec 7} {ms_ rest : List (BitVec 7)}
    (h : s.hostPort.sem[n].held = false) (horder : semOrder s.hostPort.sem[n].lastWinner ms_ = w :: rest) :
    execSemRead ms_ n s = .next ((s.withSem n fun _ => .acquiredBy w).emits
      ((w :: rest).map fun m => .masterRead m ((Semaphore.acquiredBy w).word m))) := by
  have hsem : (s.serveSem n w).hostPort.sem[n] = .acquiredBy w := by
    rw [serveSem_free w h, emit_hostPort]
    exact withSem_sem s n _
  rw [execSemRead_eq, horder, List.foldl_cons, foldl_serveSem_held rest (by rw [hsem]; rfl), hsem, serveSem_free w h]
  simp [State.emits, State.emit]

/-- Settles O35: the candidates are served in the order of their ranks, so the one of the least rank acquires the semaphore. -/
theorem simultaneousSemaphoreReads : Obligations.SimultaneousSemaphoreReads := by
  intro s ms_ n w last rank hfree hms hw hleast
  have master (m : BitVec 7) (h : m ∈ ms_) : isMaster m = true := decide_eq_true (hms m h)
  obtain ⟨rest, horder⟩ := semOrder_eq_cons (last := last) hw (master w hw) hleast
  have answered (m : BitVec 7) (h : m ∈ ms_) : Out.masterRead m ((Semaphore.acquiredBy w).word m) ∈
      (w :: rest).map fun m => Out.masterRead m ((Semaphore.acquiredBy w).word m) :=
    List.mem_map_of_mem (horder ▸ mem_semOrder.mpr ⟨h, master m h⟩)
  refine ⟨_, execSemRead_free hfree horder, withSem_sem s n _, ?_, fun m hm hne => ?_⟩
  · exact List.mem_append_right _ (word_of_holder (x := .acquiredBy w) rfl ▸ answered w hw)
  · exact List.mem_append_right _ (word_of_other (x := .acquiredBy w) rfl hne.symm ▸ answered m hm)

/-! ### The port engines' read and write (R370) -/

theorem execPeSema_eq {s : State} {p : Fin 64} {rd : Fin 16} {imm : BitVec 18} {n : Fin 32} (hn : imm.toNat = n.1)
    (h : s.fetches p (wordI 0x2F rd 0 imm)) : execPeSema p rd 0 imm s = .next (s.engineDoes p [] 6 fun s =>
      (s.semRead (engineMaster p) n).2.setReg p rd (s.semRead (engineMaster p) n).1) := by
  have hlt : imm.toNat < 32 := hn ▸ n.2
  obtain rfl : n = ⟨imm.toNat, hlt⟩ := Fin.ext hn.symm
  exact onEngine_on_spent h (by rw [wordI_op _ _ _ _ (by decide)]; rfl) _ _ _ _ (dif_pos hlt)

theorem execPeSemr_eq {s : State} {p : Fin 64} {imm : BitVec 18} {n : Fin 32} (hn : imm.toNat = n.1)
    (h : s.fetches p (wordI 0x3D 0 0 imm)) :
    execPeSemr p 0 0 imm s = .next (s.engineDoes p [] 6 fun s => s.semWrite (engineMaster p) n) := by
  have hlt : imm.toNat < 32 := hn ▸ n.2
  obtain rfl : n = ⟨imm.toNat, hlt⟩ := Fin.ext hn.symm
  exact onEngine_on_spent h (by rw [wordI_op _ _ _ _ (by decide)]; rfl) _ _ _ _ (dif_pos hlt)

/-! ### Forced release, orphans and reset (R429) -/

theorem isKeeper_iff {m : BitVec 7} : isKeeper m = true ↔ (0x40 ≤ m.toNat ∧ m.toNat ≤ 0x43) ∨ m = 0x49 := by
  simp [isKeeper]

theorem freeSem_sem (s : State) (n : Fin 32) (cause : Nat) :
    (s.freeSem n cause).hostPort.sem = vset s.hostPort.sem n { s.hostPort.sem[n] with held := false } := by
  unfold State.freeSem
  split <;> simp [withSem_hostPort]

theorem violation_sem (s : State) (m : BitVec 7) (n : Nat) : (s.violation m n).hostPort.sem = s.hostPort.sem := by
  rw [violation_hostPort]

theorem execSemForce_release {s : State} {m : BitVec 7} {v : Word} {n : Fin 32} (hm : isMaster m = true)
    (hk : isKeeper m = true) (hn : v.toNat % 32 = n.1) (hv : v.getLsbD 8 = true) (hx : s.hostPort.sem[n].held = true) :
    execSemForce m v s = .next (s.freeSem n 2) := by
  obtain rfl : n = ⟨v.toNat % 32, Nat.mod_lt _ (by decide)⟩ := Fin.ext hn.symm
  unfold execSemForce
  dsimp only
  rw [hm, hk, hv, hx]
  rfl

theorem execSemForce_no_release {m : BitVec 7} {v : Word} (hm : isMaster m = true) (hk : isKeeper m = true)
    (hv : v.getLsbD 8 = false) (s : State) : execSemForce m v s = .next s := by
  unfold execSemForce
  rw [hm, hk, hv]
  rfl

theorem execSemForce_not_keeper {m : BitVec 7} (hm : isMaster m = true) (hk : isKeeper m = false) (v : Word) (s : State) :
    execSemForce m v s = .next (s.violation m (v.toNat % 32)) := by
  unfold execSemForce
  rw [hm, hk]
  rfl

/-- SEM_ORPHAN is cleared by writing ones (Table 14.10). -/
theorem hpWrite_orphan (s : State) (v : Word) :
    s.hpWrite 0x3084 v = s.withHost fun h => { h with orphan := h.orphan &&& ~~~v } := rfl

theorem reset_sem (n : Fin 32) : State.reset.hostPort.sem[n] = { holder := 0, lastWinner := 0x4A, held := false } :=
  Vector.getElem_replicate n.2

/-- Settles O57: each clause is what the read, the write or the forced release leaves in its case. -/
theorem semaphoreReadAndWrite : Obligations.SemaphoreReadAndWrite := by
  intro s m n hm x answer
  have read : exec (.semRead [m] n) s = .next (s.serveSem n m) := execSemRead_of_master hm n s
  have write : exec (.semWrite m n) s = .next (s.semWrite m n) := execSemWrite_of_master hm n s
  have busy0 (y : Semaphore) (h : y.holder = m) : Out.masterRead m (y.word m) = answer y.holder y.lastWinner 0 := by
    rw [word_of_holder h]; simp [answer]
  have busy1 (h : x.held = true) (hne : x.holder ≠ m) : Out.masterRead m (x.word m) = answer x.holder x.lastWinner 1 := by
    rw [word_of_other h hne]; simp [answer]
  refine ⟨fun h => ?_, fun h hold => ?_, fun h hne => ?_, fun h hold => ?_, fun h => ?_, fun p rd imm hn => ?_,
    fun v hn => ⟨fun hk hv h => ?_, fun hk hv => ?_, fun hk => ?_⟩, fun v => ?_, reset_sem n, rfl⟩
  · refine ⟨_, read, ?_, ?_⟩
    · rw [serveSem_free m h, busy0 _ rfl]
      exact List.getLast?_concat
    · rw [serveSem_free m h]
      exact withSem_hostPort s n _
  · rw [read, serveSem_held m h, busy0 x hold, hold]
  · rw [read, serveSem_held m h, busy1 h hne]
  · exact ⟨_, write, by rw [semWrite_holder h hold]; exact withSem_hostPort s n _⟩
  · rw [semWrite_other h] at write
    exact ⟨_, write, violation_sem s m n, by rw [violation_hostPort]; rfl⟩
  · exact ⟨execPeSema_eq hn, execPeSemr_eq hn⟩
  · exact ⟨_, execSemForce_release hm (isKeeper_iff.mpr hk) hn hv h, freeSem_sem s n 2⟩
  · exact execSemForce_no_release hm (isKeeper_iff.mpr hk) hv s
  · have hk' : isKeeper m = false := Bool.eq_false_iff.mpr fun h => hk (isKeeper_iff.mp h)
    exact ⟨_, execSemForce_not_keeper hm hk' v s, violation_sem s m _⟩
  · rw [hpWrite_orphan, withHost_hostPort]

end Sys2Proof.Machine
end

section
/-! What every step keeps: the invariants of the ceilings (R520) and of the addressed stores, brought from `exec` to `step`; the frame of
every command; and what an idle step does. -/

namespace Sys2Proof.Machine
open Host

/-! ### From the parts to a step -/

variable {π : State → Prop}

/-- A step keeps a property that every command keeps and that time and the queue leave alone. -/
theorem step_keeps (igNow : Ignores.now π) (igQuartz : Ignores.quartz π) (igPending : Ignores.pending π)
    (run : ∀ (c : Instr) (s t : State), π s → exec c s = .next t → π t) {s t : State} (h : π s) (hstep : step s = .next t) :
    π t := by
  unfold step at hstep
  split at hstep
  next => exact (keepsO_next (kept_pass igNow igQuartz s 1 h)).next t hstep
  next c rest _ => exact run c _ t (igPending s rest h) hstep

/-- A step keeps a property that stands whatever any part becomes, so long as the stores and the fuses change as they may. -/
theorem step_keeps_of_ignores (ig : ∀ x, Ignores.part π x) {s t : State} (h : π s) (hstep : step s = .next t) : π t :=
  step_keeps (ig .now) (ig .quartz) (ig .pending)
    (fun c s _ hs hex => (keepsO_exec c s (fun x _ => ig x) hs).next _ hex) h hstep

/-! ### The ceilings (R520) -/

theorem ignores_keepsCeilings (s₀ : State) (x : Part) : Ignores.part s₀.KeepsCeilings x := by
  cases x with
  | otp =>
    rintro s v ⟨burnt, lock, -⟩ ⟨hburnt, hlock⟩
    exact ⟨fun p c h => burnt p c (hburnt p c h), fun h => lock (hlock h)⟩
  | od | nvm => exact fun _ _ _ h => h
  | _ => exact fun _ _ h => h

/-- Settles O8: a change of the fuses burns only blank entries, and nothing else touches the ceilings. -/
theorem ceilingsAreBurntOnce : Obligations.CeilingsAreBurntOnce := fun s _ hstep =>
  step_keeps_of_ignores (ignores_keepsCeilings s) ⟨fun _ _ h => h, id⟩ hstep

theorem ignores_ceilInv (x : Part) : Ignores.part State.CeilInv x := by
  cases x with
  | otp =>
    rintro s v ⟨burnt, -, shadow⟩ h
    rcases shadow with same | loaded
    · intro p
      change v.shadow[p] = _ ∨ v.ceilings[p] = some v.shadow[p]
      rw [same]
      exact (h p).imp_right (burnt p _)
    · exact loaded
  | od | nvm => exact fun _ _ _ h => h
  | _ => exact fun _ _ h => h

/-- Settles O9: the shadow is loaded from the entries burnt, and an entry burnt later is not the one in force. -/
theorem ceilingsInForceAreBurnt : Obligations.CeilingsInForceAreBurnt := fun _ _ h hstep =>
  step_keeps_of_ignores ignores_ceilInv h hstep

/-! ### The addressed stores -/

/-- The canonical form depends on the role, by which an unlisted object reads; it stands whatever else becomes. -/
theorem ignores_canon {x : Part} (hx : x ≠ .role) : Ignores.part State.Canon x := by
  cases x with
  | role => exact absurd rfl hx
  | od => exact fun s v canon h => ⟨canon h.1, h.2⟩
  | nvm => exact fun s v canon h => ⟨h.1, canon h.2⟩
  | otp => exact fun _ _ _ h => h
  | _ => exact fun _ _ h => h

/-- Where the role is taken the object store is listed anew, in the canonical form of that role (R1, R447). -/
theorem canon_rekeyed_takeRole {s : State} (h : s.Canon) (straps : BitVec 4) (fitted : Nat) :
    (s.takeRole straps fitted).rekeyed.Canon := by
  have listed (l m : Sparse Val) (d : Nat → Val) (hm : Sparse.wf d m) :
      Sparse.wf d (l.foldl (fun m e => Sparse.set d m e.1 e.2) m) := by
    induction l generalizing m with
    | nil => exact hm
    | cons e l ih => exact ih _ (Sparse.set_wf d m e.1 e.2 hm)
  exact ⟨listed _ _ _ (Sparse.nil_wf _), h.2⟩

theorem keepsO_execColdReset_canon (straps : BitVec 4) (fitted flashMib : Nat) {s : State} (h : s.Canon) :
    KeepsO State.Canon (execColdReset straps fitted flashMib s) := by
  have ig {x : Part} (hx : x ≠ .role) := ignores_canon hx
  have igOd : Ignores.od State.Canon := ig (x := .od) (by decide)
  have igSent : Ignores.sent State.Canon := ig (x := .sent) (by decide)
  have igClocks : Ignores.clocks State.Canon := ig (x := .clocks) (by decide)
  have igLanes : Ignores.lanes State.Canon := ig (x := .lanes) (by decide)
  have igTile : Ignores.tile State.Canon := ig (x := .tile) (by decide)
  have igLife : Ignores.life State.Canon := ig (x := .life) (by decide)
  have sized := kept_wrN igOd _ 0x3000 0x01 flashMib
    (kept_bump igOd _ 0x2D00 0x19 1 (kept_startTimers igClocks _ (canon_rekeyed_takeRole h straps fitted)))
  have broughtUp := keeps_foldl (l := List.finRange 3) (fun t p => kept_bringUpPort igOd igLanes igSent t p)
    (kept_commandLevel igOd igSent _ 2 sized)
  have held := kept_holdTripped igClocks igTile _ broughtUp
  have booted := kept_bootStep igLife igOd (ig (x := .control) (by decide)) (ig (x := .nvm) (by decide))
    (ig (x := .update) (by decide)) igSent _ held
  unfold execColdReset
  exact keepsO_ite (keepsO_next h) (keepsO_ite (keepsO_next sized)
    (keepsO_ite (keepsO_next (keeps_set_life igLife held)) (keepsO_next booted)))

theorem exec_canon (c : Instr) (s t : State) (h : s.Canon) (hex : exec c s = .next t) : t.Canon := by
  by_cases hc : ∃ a f m, c = .coldReset a f m
  · obtain ⟨a, f, m, rfl⟩ := hc
    exact (keepsO_execColdReset_canon a f m h).next t hex
  · have norole := (reachOf_avoids_role_straps fun a f m e => hc ⟨a, f, m, e⟩).1
    exact (keepsO_exec c s (fun x hx => ignores_canon fun e => norole (e ▸ hx)) h).next t hex

/-- Settles O10: every write of a store keeps its form, and the cold reset lists the object store anew for the role taken. -/
theorem storesStayCanonical : Obligations.StoresStayCanonical := fun _ _ h hstep =>
  step_keeps (ignores_canon (x := .now) (by decide)) (ignores_canon (x := .quartz) (by decide))
    (ignores_canon (x := .pending) (by decide)) exec_canon h hstep

/-! ### The frame -/

/-- Settles O5: a part out of reach is the same, for every command. -/
theorem frameOfEveryCommand : Obligations.FrameOfEveryCommand := fun _ _ _ hex _ hx => exec_same hx hex

/-! ### The queue and the idle step -/

/-- Settles O1: the queue's front decides which arm of the step is taken. -/
theorem stepRunsFrontCommand : Obligations.StepRunsFrontCommand := by
  intro s c rest h
  unfold step
  rw [h]

theorem until_ahead {s : State} {t : Nat} (h : s.now < t) : s.until_ t = { s with
    now := t
    quartz := { s.quartz with
      wall := s.quartz.wall + ((t - s.now : Nat) * subNs + s.drift (t - s.now)).toNat
      slew := s.slewLeft (t - s.now) } } := by
  unfold State.until_
  rw [if_neg (by omega)]

theorem pass_one (s : State) : s.pass 1 = { s with
    now := s.now + 1
    quartz := { s.quartz with wall := s.quartz.wall + ((subNs : Int) + s.drift 1).toNat, slew := s.slewLeft 1 } } := by
  have one : s.now + 1 - s.now = 1 := by omega
  rw [State.pass, until_ahead (by omega), one, Nat.cast_one, one_mul]

theorem step_idle {s : State} (h : s.pending = []) : step s = .next (s.pass 1) := by
  unfold step
  rw [h]

/-- Settles O2: an empty queue passes one nanosecond, and no word of the table spells a command. -/
theorem idleStepAndWords : Obligations.IdleStepAndWords :=
  ⟨fun s h => (step_idle h).trans (congrArg Outcome.next (pass_one s)), fun _ _ _ => ⟨rfl, rfl⟩⟩

/-- Settles O3: every store of the reset state is empty and every ceiling unlimited. -/
theorem resetState : Obligations.ResetState := by
  have shadow (p : Fin 64) : State.reset.otp.shadow[p] = Ceiling.unlimited := Vector.getElem_replicate p.2
  have blank (p : Fin 64) : State.reset.otp.ceilings[p] = none := Vector.getElem_replicate p.2
  exact ⟨⟨Sparse.nil_wf _, Sparse.nil_wf _⟩, fun p => .inl (shadow p), rfl, rfl, rfl, rfl, rfl, rfl,
    fun p => ⟨blank p, shadow p⟩⟩

end Sys2Proof.Machine
end

section
/-! No meaning faults or refuses (log entry 5): each is a tree of conditions and matches whose every leaf is a next state. -/

namespace Sys2Proof.Machine
open Host

/-- The outcome is a next state. -/
def Answers (o : Out1) : Prop := ∃ t, o = .next t

theorem answers_next (s : State) : Answers (.next s) := ⟨s, rfl⟩

theorem answers_ite {c : Prop} [Decidable c] {a b : Out1} (ha : Answers a) (hb : Answers b) : Answers (if c then a else b) := by
  split <;> assumption

theorem answers_onEngine (s : State) (p : Fin 64) (w : Word) (legal : Bool) (uses : List (Fin 16)) (cycles : Nat)
    (act : State → State) : Answers (s.onEngine p w legal uses cycles act) :=
  answers_ite (answers_next _) (answers_ite (answers_next _) (answers_ite (answers_next _) (answers_ite (answers_next _)
    (answers_ite (answers_next _) (answers_next _)))))

theorem answers_boundWrite (s : State) (m : BitVec 7) (c : Fin 128) (party : Bool) (act : State → State) :
    Answers (s.boundWrite m c party act) :=
  answers_ite (answers_next _) (answers_ite (answers_next _) (answers_next _))

theorem answers_execTimingWindowEnd (s : State) : Answers (execTimingWindowEnd s) := by
  unfold execTimingWindowEnd
  dsimp only
  refine answers_ite (answers_next _) ?_
  split
  · exact answers_next _
  · exact answers_ite (answers_next _) (answers_next _)

theorem exec_answers (c : Instr) (s : State) : Answers (exec c s) := by
  cases c with
  | peAdd | peSub | peAnd | peOr | peXor | peShl | peShr | peSra | peMul | peMulhu | peSltu | peMinu | peMaxu | peAddi
  | peAndi | peOri | peXori | peSltui | peShli | peShri | peLui | peLd | peSt | peBeq | peBne | peBltu | peBgeu
  | peDbnz | peJal | peJalr | peRds | peWrs | peWaite | peWaitt | peWdk | peFopen | peTxb | peTxf | peTxsh | peTxl
  | peTxs | peSlen | peRxw | peRxd | peMbs | peMbr | peSema | peSemr | peVerd | peDiagc | pePrb =>
    dsimp -zeta only [exec, State.aluR, State.aluI, State.branch,
    execPeAdd, execPeSub, execPeAnd, execPeOr, execPeXor, execPeShl, execPeShr, execPeSra, execPeMul, execPeMulhu,
    execPeSltu, execPeMinu, execPeMaxu, execPeAddi, execPeAndi, execPeOri, execPeXori, execPeSltui, execPeShli,
    execPeShri, execPeLui, execPeLd, execPeSt, execPeBeq, execPeBne, execPeBltu, execPeBgeu, execPeDbnz, execPeJal,
    execPeJalr, execPeRds, execPeWrs, execPeWaite, execPeWaitt, execPeWdk, execPeFopen, execPeTxb, execPeTxf,
    execPeTxsh, execPeTxl, execPeTxs, execPeSlen, execPeRxw, execPeRxd, execPeMbs, execPeMbr, execPeSema,
    execPeSemr, execPeVerd, execPeDiagc, execPePrb]
    repeat' (first | with_reducible exact answers_onEngine .. | extract_lets | split)
  | mbPost | mbTake | mbFlush | returnCodeWrite | mbMsgWrite | mbStatusClear =>
    dsimp -zeta only [exec, execMbPost, execMbTake, execMbFlush, execReturnCodeWrite, execMbMsgWrite, execMbStatusClear]
    exact answers_boundWrite ..
  | electricalIdleEnd | capabilityRefuseWaitEnd | failedLaneRetry | uncorrectedBurst | tapReset | tapExtest
  | tapIdcode | tapSamplePreload | tapExtestPulse | tapExtestTrain | tapClamp | tapHighz | tapBypass | tapMbist
  | rtpPacketReceive | powerOn | supplyDrop | serviceHello | serviceOpen | serviceWrite | serviceStatus
  | serviceVerify | serviceActivate | serviceCancel | serviceFinalize | serviceRollback | serviceClose | serviceRead
  | objectWrite | sdoInitiateDownload | sdoDownloadSegment | sdoInitiateUpload | sdoUploadSegment
  | sdoBlockDownloadInitiate | sdoBlockSegment | sdoBlockDownloadEnd | sdoBlockUploadInitiate | sdoAbortReceive
  | challengeRead | nmtStart | nmtStop | nmtEnterPreOperational | syncReceive | flashOpComplete | flashOpTimeout
  | cellTerminate | topoReportReceive | mgmtResponseReceive | mgmtEventReceive | resetWarmCommand | resetColdCommand
  | settingsStore | settingsRestore | factoryReset | errorHistoryClear | commitFrame | commitAbortWrite
  | coeffSetWrite | tfTableWrite | corrSelectWrite | corrVerify | enumStart | lampPortCounterClear | lampDiagClear
  | engineCounterClear | laneCounterClear | chainCounterClear | clocksCounterClear | tileEventsClear | sweepStart
  | frustumWrite | frustumIn | prbsStart | injStart | injStop | loopbackWrite | testStateWrite | portcConfigWrite
  | repeatOnlyWrite | discover | reclaimNow | maintenanceWrite | streamEnable | activateFrameWrite | applyFrame
  | recompute | todSet | stepNow | freqStart | calStart | bbResetPinned | confirm | rollbackNow | finalizeNow
  | wuStage | wuArm | wuAbort | ceilProgram | ceilLock | bistStart | login | logout | ownerKeyWrite | ownerLockWrite
  | hpSdoGo | qspiRead | qspiQread | qspiWrite | qspiQwrite | qspiRdsr | qspiBadInstruction => exact answers_next _
  | timingWindowEnd => exact answers_execTimingWindowEnd s
  | _ =>
    dsimp -zeta only [exec,
    execMbBindWrite, execMbLockWrite, execSemRead, execSemWrite, execSemForce, execMasterReset, execCommitDeadline,
    execReceiverDetectTest, execDetectTimeout, execTrainingFrameReceive, execTrainingRequestTimeout,
    execTrainingTimeout, execBitLockTimeout, execAlignLockTimeout, execPortRestartTimer, execCapBlockReceive,
    execCapabilityTimeout, execAlignmentMarkerReceive, execAlignmentMarkerSend, execLaneLockLoss,
    execLaneHealthWindow, execPrbsDurationEnd, execLiveTestRelockTimeout, execPrbsCheckerLock,
    execPrbsCheckerLockLoss, execInjectionInterval, execOppositePortDown, execLoopTimingRestore,
    execLoopTimingSlewComplete, execRelayRelease, execCellSlotSchedule, execGatewayTimeout, execQspiPortReset,
    execChallengeExpiry, execLoginLockoutEnd, execIdleLogoutExpiry, execErrorClassClear, execFillClose,
    execComposeSlot, execComposeComplete, execComposeOverrun, execCorrVerifyComplete, execCorrLoadRow,
    execCorrectionReread, execWaiteComplete, execWaittComplete, execEngineWatchdogExpiry, execPushStallEnd,
    execFrameLaunch, execReferenceFrameLaunch, execFramerUnderrun, execStop, execRepoll, execApply, execEnumerate,
    execEngineLoad, execLrReturn, execLrMissingTimeout, execSchedBuild, execSchedBuildDone, execEpochEnd,
    execSweepEnd, execReplayLimitExpiry, execMemoryBistComplete, execBistComplete, execTapDebug, execTapDbgUnlock,
    execDiscoveryCollectEnd, execIdleCellReceive, execRateMatchSend, execVideoCellReceive,
    execReservedTypeCellReceive, execTopoQueryReceive, execTopoAssignReceive, execHealthCellReceive,
    execTileHealthSend, execFramectlCommitReceive, execFramectlGenStateReceive, execFramectlAbortReceive,
    execFeedEndTimeout, execHoldTimeExpiry, execTimingCellReceive, execPtpSyncReceive, execPtpFollowUpReceive,
    execPtpDelayReqSend, execPtpDelayRespReceive, execPtpAnnounceReceive, execAnnounceReceiptTimeout,
    execQuartzSourceLoss, execGenlockEdge, execGenlockEdgeMissing, execPpsEdge, execCascadeLinkUp,
    execIdentityUnitReceive, execSyncUnitSend, execSyncUnitReceive, execParentTimeout, execTimingCellOriginate,
    execTrimRecompute, execFrameOutPulse, execPpsOutPulse, execPllLock, execPllLockLoss, execPllRelockSwitchBack,
    execXtalLoss, execXtalReturn, execRefclkLoss, execClockGateClose, execClockGateOpen, execClockSwitchComplete,
    execForcedClockSwitch, execDvfsEvaluate, execAvsTransferComplete, execVdone, execVdoneTimeout,
    execFreqMeasureComplete, execHkRound, execThermalTrip, execCalRunComplete, execCalDeferredStore, execBbCommit,
    execControlStart, execSelfDiagPeriod, execHealthSend, execPeerCheck, execStatusUnitReceive, execTakeUnitReceive,
    execReclaimUnitReceive, execAckUnitReceive, execDeferUnitReceive, execCancelUnitReceive,
    execReclaimAnswerTimeout, execDeferRetry, execDerateUnitReceive, execDeterminismChecksum,
    execChecksumUnitReceive, execIgmpQueryReceive, execIgmpReportTimer, execFrameCloseTimeout, execPathLostTimeout,
    execJpegXsDecodeComplete, execTxPortCEthernetFrame, execFreeSelectChoice, execSelectSend, execSelectUnitReceive,
    execResetNAssert, execNmtResetNode, execClusterWatchdogRestart, execClusterWatchdogExpiry, execRefclkReturn,
    execCoolingComplete, execVerifyComplete, execServiceCellReceive, execSessionIdleTimeout, execHelloNonceExpiry,
    execWallActivateAtFrame, execSelfTestPass, execConfirmationTimeout, execServiceReport, execWuWritePace,
    execWuPoll, execWuActivateBroadcast, execWuConfirmWaitExpiry, execServiceRequestRetry,
    execMapActivationDeadline, execMgmtUnitReceive, execFramectlSend, execFrustumStaleTimeout, execColdReset,
    execImageLoadComplete, execWarmReset, execSdoProtocolTimeout, execRpdoReceive, execUdpDatagramReceive,
    execUdpAssociationIdle, execNmtResetCommunication, execTpdoEventTimer, execHeartbeatProduce,
    execHeartbeatConsumerTimeout, execUdpHeartbeatSend, execLssSwitchStateGlobal, execLssSwitchStateSelective,
    execLssConfigureNodeId, execLssConfigureBitTiming, execLssActivateBitTiming, execLssStoreConfiguration,
    execLssInquireIdentity, execLssInquireNodeId, execLssIdentifyRemoteSlave, execLssIdentifyNonConfigured,
    execLssFastscan, execRelayUnitReceive, execMgmtReadReceive, execMgmtWriteReceive, execMgmtBroadcastWriteReceive,
    execTileEventSend, execFrameBoundary]
    repeat' (first | with_reducible exact answers_next _ | extract_lets | split)

/-- No command reaches the queue. -/
theorem pending_notMem_reachOf (c : Instr) : Part.pending ∉ reachOf c := by
  cases c <;> exact of_decide_eq_true rfl

/-- Settles O4: every meaning answers a next state, and the queue is out of every command's reach. -/
theorem everyCommandAnswersNext : Obligations.EveryCommandAnswersNext := by
  intro c s
  obtain ⟨t, ht⟩ := exec_answers c s
  exact ⟨t, ht, exec_same (x := .pending) (pending_notMem_reachOf c) ht⟩

end Sys2Proof.Machine
end

section
/-! The register, immediate, memory and branch instructions of a port engine (R359, R360), by the lemmas of `Laws/Engine` on the
shapes of instruction. -/

namespace Sys2Proof.Machine
open Host

/-! ### Registers and immediates -/

/-- Settles O25: each is a value of the two-register form, quick or slow. -/
theorem engineRegisterArithmetic : Obligations.EngineRegisterArithmetic := by
  intro s p rd ra rb
  have quick {op : Nat} (h : s.fetches p (wordR op rd ra rb 0)) (ho : op < 64) (ha : opAssigned op = true) (f : Word → Word → Word) :=
    aluR_quick rd ra rb h ho ha f
  have slow {op : Nat} (h : s.fetches p (wordR op rd ra rb 0)) (ho : op < 64) (ha : opAssigned op = true) (f : Word → Word → Word) :=
    aluR_slow rd ra rb h ho ha f
  exact ⟨fun h => quick h (by decide) rfl (· + ·), fun h => quick h (by decide) rfl (· - ·),
    fun h => quick h (by decide) rfl (· &&& ·), fun h => quick h (by decide) rfl (· ||| ·),
    fun h => quick h (by decide) rfl (· ^^^ ·), fun h => quick h (by decide) rfl fun a b => a <<< (b.toNat % 32),
    fun h => quick h (by decide) rfl fun a b => a >>> (b.toNat % 32),
    fun h => quick h (by decide) rfl fun a b => a.sshiftRight (b.toNat % 32),
    fun h => slow h (by decide) rfl (· * ·), fun h => slow h (by decide) rfl fun a b => BitVec.ofNat 32 (a.toNat * b.toNat / 2 ^ 32),
    fun h => quick h (by decide) rfl fun a b => if a < b then 1 else 0,
    fun h => quick h (by decide) rfl fun a b => if a < b then a else b,
    fun h => quick h (by decide) rfl fun a b => if a < b then b else a⟩

theorem sx_eq (imm : BitVec 18) : sx imm = BitVec.ofInt 32 imm.toInt := rfl

theorem zx_eq (imm : BitVec 18) : zx imm = BitVec.ofNat 32 imm.toNat := by
  rw [zx, BitVec.ofNat_toNat]

theorem zx_shift_eq (imm : BitVec 18) : zx imm <<< 14 = BitVec.ofNat 32 (imm.toNat * 2 ^ 14) := by
  apply BitVec.eq_of_toNat_eq
  simp only [zx_eq, BitVec.toNat_shiftLeft, BitVec.toNat_ofNat, Nat.shiftLeft_eq]
  omega

theorem zx_toNat (imm : BitVec 18) : (zx imm).toNat = imm.toNat := by
  have := imm.isLt
  rw [zx_eq, BitVec.toNat_ofNat]
  omega

theorem lt_zx_iff (a : Word) (imm : BitVec 18) : a < zx imm ↔ a.toNat < imm.toNat := by
  rw [BitVec.lt_def, zx_toNat]

/-- A shift by an immediate below 32 is legal, and its amount is the immediate. -/
theorem aluI_shift {s : State} {p : Fin 64} {op : Nat} (rd ra : Fin 16) (imm : BitVec 18) (hi : imm.toNat < 32)
    (h : s.fetches p (wordI op rd ra imm)) (ho : op < 64) (ha : opAssigned op = true) (f : Word → Nat → Word) :
    s.aluI p op rd ra imm (imm.toNat < 32) (fun a => f a (imm.toNat % 32)) =
      .next (s.withEngine p fun e => e.run1 [ra] 1 fun e => e.setReg rd (f (s.lamps.engine[p].reg ra) imm.toNat)) := by
  rw [decide_eq_true hi, Nat.mod_eq_of_lt hi]
  exact aluI_quick rd ra imm h ho ha _

/-- Settles O26: each is a value of the immediate form, its immediate extended as the instruction says. -/
theorem engineImmediateArithmetic : Obligations.EngineImmediateArithmetic := by
  intro s p rd ra imm
  simp only [← sx_eq, ← zx_eq, ← zx_shift_eq, ← lt_zx_iff]
  exact ⟨fun h => aluI_quick rd ra imm h (by decide) rfl (· + sx imm), fun h => aluI_quick rd ra imm h (by decide) rfl (· &&& zx imm),
    fun h => aluI_quick rd ra imm h (by decide) rfl (· ||| zx imm), fun h => aluI_quick rd ra imm h (by decide) rfl (· ^^^ zx imm),
    fun hi h => aluI_shift rd ra imm hi h (by decide) rfl (· <<< ·),
    fun hi h => aluI_shift rd ra imm hi h (by decide) rfl (· >>> ·),
    fun h => aluI_quick rd 0 imm h (by decide) rfl fun _ => zx imm <<< 14,
    fun h => aluI_quick rd ra imm h (by decide) rfl fun a => if a < zx imm then 1 else 0⟩

end Sys2Proof.Machine
end

section
/-! ### Data memory, branches and jumps -/

namespace Sys2Proof.Machine
open Host

theorem setReg_setCycles (e : Engine) (r : Fin 16) (v : Word) (c : Nat) :
    ({ e with cycles := c } : Engine).setReg r v = { e.setReg r v with cycles := c } := by
  unfold Engine.setReg; split <;> rfl

/-- What an instruction reads of the engine before its cycles are counted it reads of it after. -/
theorem engineDoes_own_on {s : State} {p : Fin 64} (h : s.engineRuns p) (uses : List (Fin 16)) (cycles : Nat) (f : Engine → Engine)
    (act : State → State) (hf : ∀ e : Engine, (f e).run = e.run ∧ (f e).wait = e.wait ∧ (f e).stall = e.stall)
    (ha : act (s.engineSpent p uses cycles) = (s.engineSpent p uses cycles).withEngine p f) :
    s.engineDoes p uses cycles act = s.withEngine p fun e => e.run1 uses cycles f := by
  rw [← engineDoes_own h uses cycles f hf, State.engineDoes, State.engineDoes, ha]

/-- An instruction that in its case changes the engine alone. -/
theorem onEngine_own_on {s : State} {p : Fin 64} {w : Word} (h : s.fetches p w) (ho : opAssigned (bits w.toNat 31 26) = true)
    (uses : List (Fin 16)) (cycles : Nat) (f : Engine → Engine) (act : State → State)
    (hf : ∀ e : Engine, (f e).run = e.run ∧ (f e).wait = e.wait ∧ (f e).stall = e.stall)
    (ha : act (s.engineSpent p uses cycles) = (s.engineSpent p uses cycles).withEngine p f) :
    s.onEngine p w true uses cycles act = .next (s.withEngine p fun e => e.run1 uses cycles f) := by
  rw [onEngine_legal h ho, engineDoes_own_on h.1 uses cycles f act hf ha]

theorem wordI_assigned {op : Nat} (a b : Fin 16) (imm : BitVec 18) (ho : op < 64) (ha : opAssigned op = true) :
    opAssigned (bits (wordI op a b imm).toNat 31 26) = true := by
  rw [wordI_op _ _ _ _ ho, ha]

theorem wordR_assigned {op : Nat} (rd ra rb : Fin 16) (rsv : BitVec 14) (ho : op < 64) (ha : opAssigned op = true) :
    opAssigned (bits (wordR op rd ra rb rsv).toNat 31 26) = true := by
  rw [wordR_op _ _ _ _ _ ho, ha]

section
variable {s : State} {p : Fin 64} {rd ra rb : Fin 16} {imm : BitVec 18}

/-- The address that a load or a store forms. -/
def Engine.addr (e : Engine) (ra : Fin 16) (imm : BitVec 18) : Nat := (e.reg ra + sx imm).toNat

theorem execPeLd_reaches (h : s.fetches p (wordI 0x18 rd ra imm)) (ha : s.lamps.engine[p].addr ra imm ≤ 1023)
    (hd : s.lamps.engine[p].damaged.contains (s.lamps.engine[p].addr ra imm + 2048) = false) :
    execPeLd p rd ra imm s = .next (s.withEngine p fun e => e.run1 [ra] 2 fun e =>
      { e.setReg rd (Sparse.get (fun _ => 0) e.dmem (s.lamps.engine[p].addr ra imm)) with slow := some rd }) := by
  unfold execPeLd
  refine onEngine_own_on h (wordI_assigned _ _ _ (by decide) rfl) [ra] 2 _ _ (fun e => by simp) ?_
  exact (if_neg (Nat.not_lt.mpr ha)).trans (if_neg (ne_true_of_eq_false hd))

/-- A load out of reach, or of a word with an uncorrectable error, faults the engine (R373). -/
theorem execPeLd_faults (h : s.fetches p (wordI 0x18 rd ra imm)) (ha : 1023 < s.lamps.engine[p].addr ra imm ∨
      s.lamps.engine[p].damaged.contains (s.lamps.engine[p].addr ra imm + 2048) = true) :
    execPeLd p rd ra imm s = .next (s.engineDoes p [ra] 2 fun s' =>
      s'.engineFault p (if 1023 < s.lamps.engine[p].addr ra imm then 2 else 4)) := by
  unfold execPeLd
  refine onEngine_on_spent h (wordI_assigned _ _ _ (by decide) rfl) [ra] 2 _ _ ?_
  by_cases hlt : 1023 < s.lamps.engine[p].addr ra imm
  · rw [if_pos hlt]
    exact if_pos hlt
  · rw [if_neg hlt]
    exact (if_neg hlt).trans (if_pos (ha.resolve_left hlt))

theorem execPeSt_reaches (h : s.fetches p (wordI 0x19 rd ra imm)) (ha : s.lamps.engine[p].addr ra imm ≤ 1023) :
    execPeSt p rd ra imm s = .next (s.withEngine p fun e => e.run1 [rd, ra] 1 fun e => { e with
      dmem := Sparse.set (fun _ => 0) e.dmem (s.lamps.engine[p].addr ra imm) (e.reg rd)
      damaged := e.damaged.filter (· != s.lamps.engine[p].addr ra imm + 2048) }) := by
  unfold execPeSt
  exact onEngine_own_on h (wordI_assigned _ _ _ (by decide) rfl) [rd, ra] 1 _ _ (fun e => ⟨rfl, rfl, rfl⟩)
    (if_neg (Nat.not_lt.mpr ha))

/-- A branch of the form `on`: not taken it runs on, taken it goes to its target inside the loaded code. -/
theorem branch_cases {op : Nat} (ho : op < 64) (hop : opAssigned op = true) (c : Word → Word → Bool)
    (h : s.fetches p (wordI op ra rb imm)) :
    (c (s.lamps.engine[p].reg ra) (s.lamps.engine[p].reg rb) = false →
      s.branch p op ra rb imm c = .next (s.withEngine p fun e => e.run1 [ra, rb] 1 id)) ∧
    (c (s.lamps.engine[p].reg ra) (s.lamps.engine[p].reg rb) = true →
      s.lamps.engine[p].target imm < s.lamps.engine[p].codeWords → s.lamps.engine[p].target imm < 2048 →
      s.branch p op ra rb imm c =
        .next (s.withEngine p fun e => { e.run1 [ra, rb] 2 id with pc := s.lamps.engine[p].target imm })) :=
  ⟨branch_not ra rb imm h ho hop c, branch_taken ra rb imm h ho hop c⟩

theorem execPeDbnz_ends (hra : ra ≠ 0) (h : s.fetches p (wordI 0x24 ra 0 imm)) (h1 : s.lamps.engine[p].reg ra = 1) :
    execPeDbnz p ra 0 imm s = .next (s.withEngine p fun e => e.run1 [ra] 1 fun e => e.setReg ra 0) := by
  unfold execPeDbnz
  dsimp only
  rw [h1]
  refine onEngine_own_on h (wordI_assigned _ _ _ (by decide) rfl) [ra] 1 _ _ (fun e => by simp) (if_pos ?_)
  simp [State.setReg, setReg_reg _ _ _ hra]

theorem execPeDbnz_loops (hra : ra ≠ 0) (h : s.fetches p (wordI 0x24 ra 0 imm)) (h1 : s.lamps.engine[p].reg ra ≠ 1)
    (ht : s.lamps.engine[p].target imm < s.lamps.engine[p].codeWords) (h2 : s.lamps.engine[p].target imm < 2048) :
    execPeDbnz p ra 0 imm s = .next (s.withEngine p fun e =>
      { e.run1 [ra] 2 fun e => e.setReg ra (s.lamps.engine[p].reg ra - 1) with pc := s.lamps.engine[p].target imm }) := by
  have hne : s.lamps.engine[p].reg ra - 1 ≠ 0 := fun e => h1 (sub_eq_zero.mp e)
  unfold execPeDbnz
  rw [← onEngine_jump h (wordI_assigned _ _ _ (by decide) rfl) [ra] (fun e => e.setReg ra (s.lamps.engine[p].reg ra - 1)) _
    (fun e => by simp) (fun e => by simp) (fun e c => setReg_setCycles e ra _ c) ht h2]
  refine congrArg (s.onEngine p _ true [ra] 1) (funext fun t => if_neg ?_)
  simpa [State.setReg, setReg_reg _ _ _ hra] using hne

theorem execPeJal_inside (h : s.fetches p (wordI 0x25 rd 0 imm))
    (ht : s.lamps.engine[p].target imm < s.lamps.engine[p].codeWords) (h2 : s.lamps.engine[p].target imm < 2048) :
    execPeJal p rd 0 imm s = .next (s.withEngine p fun e =>
      { e.run1 [] 2 fun e => e.setReg rd (BitVec.ofNat 32 (s.lamps.engine[p].pc + 1)) with pc := s.lamps.engine[p].target imm }) :=
  onEngine_jump h (wordI_assigned _ _ _ (by decide) rfl) [] (fun e => e.setReg rd (BitVec.ofNat 32 (s.lamps.engine[p].pc + 1))) _
    (fun e => by simp) (fun e => by simp) (fun e c => setReg_setCycles e rd _ c) ht h2

theorem execPeJalr_inside (h : s.fetches p (wordI 0x26 rd ra imm))
    (ht : s.lamps.engine[p].addr ra imm < s.lamps.engine[p].codeWords) (h2 : s.lamps.engine[p].addr ra imm < 2048) :
    execPeJalr p rd ra imm s = .next (s.withEngine p fun e =>
      { e.run1 [ra] 2 fun e => e.setReg rd (BitVec.ofNat 32 (s.lamps.engine[p].pc + 1)) with pc := s.lamps.engine[p].addr ra imm }) :=
  onEngine_jump h (wordI_assigned _ _ _ (by decide) rfl) [ra] (fun e => e.setReg rd (BitVec.ofNat 32 (s.lamps.engine[p].pc + 1))) _
    (fun e => by simp) (fun e => by simp) (fun e c => setReg_setCycles e rd _ c) ht h2

/-! ### What stands at the pc (R358, R373; log entry 126) -/

/-- A damaged word faults the engine with cause 4, a word of an unassigned opcode with cause 1. -/
theorem onEngine_faults (h : s.engineRuns p) (hw : s.lamps.engine[p].damaged.contains s.lamps.engine[p].pc = true ∨
      opAssigned (bits s.lamps.engine[p].fetch.toNat 31 26) = false) (w : Word) (legal : Bool) (uses : List (Fin 16)) (cycles : Nat)
    (act : State → State) : s.onEngine p w legal uses cycles act =
      .next (s.engineFault p (if s.lamps.engine[p].damaged.contains s.lamps.engine[p].pc then 4 else 1)) := by
  obtain ⟨htile, hrun, hwait, hstall⟩ := h
  unfold State.onEngine
  simp only [htile, hrun, hwait, hstall]
  cases hd : s.lamps.engine[p].damaged.contains s.lamps.engine[p].pc with
  | true => rfl
  | false =>
    have hop := hw.resolve_left (by rw [hd]; decide)
    simp only [hop]
    rfl

/-- Where another legal word stands the engine does not execute this instruction. -/
theorem onEngine_other {w : Word} (h : s.engineRuns p) (hd : s.lamps.engine[p].damaged.contains s.lamps.engine[p].pc = false)
    (ho : opAssigned (bits s.lamps.engine[p].fetch.toNat 31 26) = true) (hw : s.lamps.engine[p].fetch ≠ w) (legal : Bool)
    (uses : List (Fin 16)) (cycles : Nat) (act : State → State) : s.onEngine p w legal uses cycles act = .next s := by
  obtain ⟨htile, hrun, hwait, hstall⟩ := h
  unfold State.onEngine
  simp only [htile, hrun, hwait, hstall, hd, ho]
  exact if_pos hw

end

/-- Settles O27: each by what the instruction does in its case, at an address or a target that it forms. -/
theorem engineMemoryAndBranches : Obligations.EngineMemoryAndBranches := by
  intro s p rd ra rb imm
  dsimp only [← sx_eq]
  exact ⟨fun ha hd h => execPeLd_reaches h ha hd, fun ha h => execPeLd_faults h ha, fun ha h => execPeSt_reaches h ha,
    ⟨fun hc h => (branch_cases (by decide) rfl (fun a b => a == b) h).1 hc,
      fun hc ht h2 h => (branch_cases (by decide) rfl (fun a b => a == b) h).2 hc ht h2⟩,
    ⟨fun hc h => (branch_cases (by decide) rfl (fun a b => a != b) h).1 hc,
      fun hc ht h2 h => (branch_cases (by decide) rfl (fun a b => a != b) h).2 hc ht h2⟩,
    ⟨fun hc h => (branch_cases (by decide) rfl (fun a b => decide (a < b)) h).1 hc,
      fun hc ht h2 h => (branch_cases (by decide) rfl (fun a b => decide (a < b)) h).2 hc ht h2⟩,
    ⟨fun hc h => (branch_cases (by decide) rfl (fun a b => decide (b ≤ a)) h).1 hc,
      fun hc ht h2 h => (branch_cases (by decide) rfl (fun a b => decide (b ≤ a)) h).2 hc ht h2⟩,
    fun hra h1 h => execPeDbnz_ends hra h h1, fun hra h1 ht h2 h => execPeDbnz_loops hra h h1 ht h2,
    fun ht h2 h => execPeJal_inside h ht h2, fun ha h2 h => execPeJalr_inside h ha h2,
    fun hr hw => by rw [exec_peLd, execPeLd]; exact onEngine_faults hr hw ..,
    fun hr hd ho hw => by rw [exec_peLd, execPeLd]; exact onEngine_other hr hd ho hw ..⟩

end Sys2Proof.Machine
end

section
/-! Special registers, waits and the watchdog, the framer, mailboxes and semaphores, and returns, from a port engine's
instructions (R357 to R372). -/

namespace Sys2Proof.Machine
open Host

/-! ### Shapes of instruction whose fields decide whether it is legal -/

section
variable {s : State} {p : Fin 64}

/-- A legal instruction whose effect is given on the state whose cycles are counted. -/
theorem onEngine_does {w : Word} {legal : Bool} (hl : legal = true) (h : s.fetches p w)
    (ho : opAssigned (bits w.toNat 31 26) = true) {uses : List (Fin 16)} {cycles : Nat} {act act' : State → State}
    (ha : act (s.engineSpent p uses cycles) = act' (s.engineSpent p uses cycles)) :
    s.onEngine p w legal uses cycles act = .next (s.engineDoes p uses cycles act') := by
  rw [hl, onEngine_on_spent h ho uses cycles act act' ha]

/-- A legal instruction that changes the engine alone. -/
theorem onEngine_owns {w : Word} {legal : Bool} (hl : legal = true) (h : s.fetches p w)
    (ho : opAssigned (bits w.toNat 31 26) = true) {uses : List (Fin 16)} {cycles : Nat} {f : Engine → Engine} {act : State → State}
    (hf : ∀ e : Engine, (f e).run = e.run ∧ (f e).wait = e.wait ∧ (f e).stall = e.stall)
    (ha : act (s.engineSpent p uses cycles) = (s.engineSpent p uses cycles).withEngine p f) :
    s.onEngine p w legal uses cycles act = .next (s.withEngine p fun e => e.run1 uses cycles f) := by
  rw [hl, onEngine_own_on h ho uses cycles f act hf ha]

/-! ### Special registers (R357) -/

theorem execPeRds_reads {rd : Fin 16} {imm : BitVec 18} {x : Nat} (hx : s.special p imm.toNat = some x) (hi : imm ≠ 0x0E)
    (h : s.fetches p (wordI 0x28 rd 0 imm)) :
    execPeRds p rd 0 imm s = .next (s.withEngine p fun e => e.run1 [] 1 fun e => e.setReg rd (BitVec.ofNat 32 x)) := by
  unfold execPeRds
  rw [hx]
  exact onEngine_owns rfl h (wordI_assigned _ _ _ (by decide) rfl) (fun e => by simp) (if_neg hi)

/-- Reading REQ takes the request. -/
theorem execPeRds_request {rd : Fin 16} (h : s.fetches p (wordI 0x28 rd 0 0x0E)) :
    execPeRds p rd 0 0x0E s = .next (s.withEngine p fun x => x.run1 [] 1 fun x =>
      { x.setReg rd s.lamps.engine[p].req with req := 0, reqWaiting := false }) := by
  have hx : s.special p (0x0E : BitVec 18).toNat = some s.lamps.engine[p].req.toNat := rfl
  unfold execPeRds
  rw [hx]
  refine onEngine_owns rfl h (wordI_assigned _ _ _ (by decide) rfl) (fun e => by simp) ?_
  simp only [BitVec.ofNat_toNat, BitVec.setWidth_eq, State.setReg, withEngine_withEngine, if_true]

/-- A write of a special register that changes the engine alone. -/
theorem execPeWrs_owns {ra : Fin 16} {sel : BitVec 18} (hsel : [0x07, 0x08, 0x0B, 0x0C, 0x0F, 0x10].contains sel.toNat = true)
    {f : Engine → Engine} (hf : ∀ e : Engine, (f e).run = e.run ∧ (f e).wait = e.wait ∧ (f e).stall = e.stall)
    (h : s.fetches p (wordI 0x29 0 ra sel))
    (ha : execPeWrs p 0 ra sel s =
      s.onEngine p (wordI 0x29 0 ra sel) ((0 : Fin 16) == 0 && [0x07, 0x08, 0x0B, 0x0C, 0x0F, 0x10].contains sel.toNat) [ra] 1
        fun s => s.withEngine p f) :
    execPeWrs p 0 ra sel s = .next (s.withEngine p fun e => e.run1 [ra] 1 f) :=
  ha.trans (onEngine_owns (by rw [hsel]; rfl) h (wordI_assigned _ _ _ (by decide) rfl) hf rfl)

theorem bit_toNat (v : Word) (i : Nat) : bit v.toNat i = v.getLsbD i := by
  rw [BitVec.getLsbD, Nat.testBit_eq_decide_div_mod_eq]
  rfl

/-- The reading that a write of HK_TEMP gives: valid by bit 16, and none for 0x8000. -/
theorem hkRead_eq (v : Word) : (if bit v.toNat 16 && v.setWidth 16 != (0x8000 : BitVec 16) then some (v.setWidth 16).toInt else none) =
    if v.getLsbD 16 = true ∧ v.setWidth 16 ≠ (0x8000 : BitVec 16) then some (v.setWidth 16).toInt else none := by
  rw [bit_toNat]
  simp only [Bool.and_eq_true, bne_iff_ne]

/-! ### Waits (R368) -/

theorem execWaiteComplete_met {mask : Word} {rd : Fin 16} (ht : s.isTile = true) (hw : s.lamps.engine[p].wait = .cond mask rd)
    (hm : BitVec.ofNat 32 (s.conditions p) &&& mask ≠ 0) : execWaiteComplete p s = .next (s.withEngine p fun e =>
      { e.setReg rd (BitVec.ofNat 32 (s.conditions p) &&& mask) with
        wait := .none, pc := ((e.setReg rd (BitVec.ofNat 32 (s.conditions p) &&& mask)).pc + 1) % 2048 }) := by
  have met : (BitVec.ofNat 32 (s.conditions p) &&& mask == 0) = false := beq_eq_false_iff_ne.mpr hm
  unfold execWaiteComplete
  dsimp only
  rw [hw]
  dsimp only
  rw [met, Bool.and_false, if_neg Bool.false_ne_true, 
    if_neg (by simpa [ht] using hm), State.setReg, withEngine_withEngine]

theorem execWaittComplete_reached {t : Word} (ht : s.isTile = true) (hw : s.lamps.engine[p].wait = .time t)
    (hr : s.reached t = true) :
    execWaittComplete p s = .next (s.withEngine p fun e => { e with wait := .none, pc := (e.pc + 1) % 2048 }) := by
  unfold execWaittComplete
  rw [hw]
  simp only [ht, hr, Bool.not_true, Bool.false_eq_true, if_false, if_true]

theorem execWaittComplete_ahead {t : Word} (ht : s.isTile = true) (hw : s.lamps.engine[p].wait = .time t)
    (hr : s.reached t = false) : execWaittComplete p s =
      .next ((s.untilWall ((s.quartz.wall / subNs + (t - s.portTime).toNat) * subNs)).withEngine p fun e =>
        { e with wait := .none, pc := (e.pc + 1) % 2048 }) := by
  unfold execWaittComplete
  rw [hw]
  simp only [ht, hr, Bool.not_true, Bool.false_eq_true, if_false]

end

/-- Settles O28: each register by its read or write, each wait by how it begins and how it ends. -/
theorem engineSpecialRegistersAndWaits : Obligations.EngineSpecialRegistersAndWaits := by
  refine ⟨fun s p rd ra imm => ?_, fun s p ht => ⟨fun mask rd hw hm => execWaiteComplete_met ht hw hm,
    fun t hw => ⟨execWaittComplete_reached ht hw, execWaittComplete_ahead ht hw⟩⟩⟩
  have assigned {op : Nat} {a b : Fin 16} {imm : BitVec 18} := wordI_assigned (op := op) a b imm
  have wrs {sel : BitVec 18} {f : Engine → Engine} := execPeWrs_owns (s := s) (p := p) (ra := ra) (sel := sel) (f := f)
  refine ⟨fun x hx hi h => execPeRds_reads hx hi h, execPeRds_request, fun h => wrs rfl (fun _ => ⟨rfl, rfl, rfl⟩) h rfl,
    fun h => wrs rfl (fun _ => ⟨rfl, rfl, rfl⟩) h rfl, fun h => wrs rfl (fun _ => ⟨rfl, rfl, rfl⟩) h rfl,
    fun h => wrs rfl (fun _ => ⟨rfl, rfl, rfl⟩) h ?_, fun h => ?_, fun h => ?_, fun h => ?_, fun h => ?_, fun h => ?_⟩
  · rw [← hkRead_eq]
    rfl
  · rw [exec_peWrs, execPeWrs]
    exact onEngine_does rfl h (assigned (by decide) rfl) rfl
  · rw [exec_peWrs, execPeWrs]
    exact onEngine_does rfl h (assigned (by decide) rfl) rfl
  · rw [exec_peWaite, execPeWaite]
    exact onEngine_does rfl h (assigned (by decide) rfl) rfl
  · rw [exec_peWaitt, execPeWaitt]
    exact onEngine_does rfl h (assigned (by decide) rfl) rfl
  · rw [exec_peWdk, execPeWdk]
    exact onEngine_owns rfl h (assigned (by decide) rfl) (fun _ => ⟨rfl, rfl, rfl⟩) rfl

end Sys2Proof.Machine
end

section
/-! The framer's instructions, mailboxes and semaphores, and what an engine takes from its port (R361 to R371). -/

namespace Sys2Proof.Machine
open Host

/-! ### Opening a frame (R361, R365, R371) -/

section
variable {s : State} {p : Fin 64}

@[simp] theorem engineSpent_tx (s : State) (p : Fin 64) (uses : List (Fin 16)) (cycles : Nat) :
    (s.engineSpent p uses cycles).lamps.engine[p.1].tx = s.lamps.engine[p.1].tx := by
  simp [State.engineSpent]

theorem engineSpent_fullFrame (s : State) (p : Fin 64) (uses : List (Fin 16)) (cycles : Nat) :
    (s.engineSpent p uses cycles).fullFrame = s.fullFrame := rfl

theorem engineSpent_refEdge (s : State) (p : Fin 64) (uses : List (Fin 16)) (cycles : Nat) :
    (s.engineSpent p uses cycles).refEdge = s.refEdge := rfl

theorem engineSpent_bitPeriod (s : State) (p : Fin 64) (uses : List (Fin 16)) (cycles : Nat) :
    (s.engineSpent p uses cycles).bitPeriod = s.bitPeriod := rfl

/-- On a line that nothing waits for, the next frame may begin when the last gap ends. -/
theorem lineFree_engineSpent (h : s.lamps.engine[p].tx = []) (uses : List (Fin 16)) (cycles : Nat) :
    (s.engineSpent p uses cycles).lineFree p = s.quartz.wall + (s.lamps.engine[p].gapUntil - s.now) * subNs := by
  have gap : (s.engineSpent p uses cycles).lamps.engine[p].gapUntil = s.lamps.engine[p].gapUntil := by
    simp [State.engineSpent]
  have tx : (s.engineSpent p uses cycles).lamps.engine[p].tx = [] := (engineSpent_tx s p uses cycles).trans h
  unfold State.lineFree
  dsimp only
  rw [tx, gap]
  rfl

/-- What FOPEN charges to the budget, and the rate of the poll that it opens. -/
def State.chargeOpen (s : State) (p : Fin 64) (cmd : Nat) : State :=
  let s := if cmd = 9 ∧ s.rdN (0x2A00 + p) 0x0A ≠ 3 ∧ s.lamps.port[p].rate = 0xFF then s.pollRate p else s
  if cmd = 7 then s
  else
    let s := s.count p 8
    if s.lamps.engine[p].budgetHit then s.withOpen p fun t => { t with zeros := true, dead := true } else s

/-- The frame that FOPEN opens, before any bit of it. -/
def blankFrame (cmd len : Nat) (capture : Bool) (ref : Option (Nat × Nat × Nat)) : TxFrame := {
  cmd := cmd, len := len, capture := capture, ref := ref, bits := [], dead := false, zeros := false
  counted := 0, withheld := false, markAt := none, gone := false }

theorem execPeFopen_plain {rd ra : Fin 16} {imm : BitVec 18} (hz : bits imm.toNat 17 10 = 0) (ho : s.lamps.engine[p].openFrame = none)
    (href : imm.getLsbD 8 = false) (h : s.fetches p (wordI 0x30 rd ra imm)) :
    execPeFopen p rd ra imm s = .next (s.engineDoes p [ra] 1 fun s' =>
      State.chargeOpen ((s'.withEngine p fun e => { e with tx := e.tx ++
        [blankFrame (bits imm.toNat 7 0) ((s.lamps.engine[p].reg ra).toNat % 131072) (imm.getLsbD 9) none] }).setReg p rd 0) p
        (bits imm.toNat 7 0)) := by
  unfold execPeFopen
  refine onEngine_does (by rw [hz]; rfl) h (wordI_assigned _ _ _ (by decide) rfl) ?_
  dsimp only
  rw [ho, if_neg (by decide), href]
  rfl

theorem execPeFopen_reference {rd ra : Fin 16} {imm : BitVec 18} (hz : bits imm.toNat 17 10 = 0)
    (ho : s.lamps.engine[p].openFrame = none) (href : imm.getLsbD 8 = true) {f k len edge : Nat}
    (hf : f = s.fullFrame s.lamps.engine[p].bankFrame) (hk : k = s.lamps.engine[p].bankSlot.toNat)
    (hlen : len = (s.lamps.engine[p].reg ra).toNat % 131072) (hedge : edge = s.refEdge f k s.lamps.engine[p].arm.toNat)
    (first : s.lamps.engine[p].refs.contains (f, k) = false) (alone : s.lamps.engine[p].tx = [])
    (intime : s.quartz.wall + (s.lamps.engine[p].gapUntil - s.now) * subNs ≤ edge - edgeBits len * s.bitPeriod p * subNs)
    (h : s.fetches p (wordI 0x30 rd ra imm)) :
    execPeFopen p rd ra imm s = .next (s.engineDoes p [ra] 1 fun s' =>
      State.chargeOpen ((s'.withEngine p fun e => { e with
        tx := e.tx ++ [blankFrame (bits imm.toNat 7 0) len (imm.getLsbD 9) (some (f, k, edge))]
        refs := ((f, k) :: e.refs).take 16 }).setReg p rd 0) p (bits imm.toNat 7 0)) := by
  subst hf hk hlen hedge
  have notLate := decide_eq_false (Nat.not_lt.mpr intime)
  unfold execPeFopen
  refine onEngine_does (by rw [hz]; rfl) h (wordI_assigned _ _ _ (by decide) rfl) ?_
  simp only [engineSpent_fullFrame, engineSpent_refEdge, engineSpent_bitPeriod, lineFree_engineSpent alone, ho, href, first,
    notLate]
  rfl

/-! ### Pushes (R364, R367, R371) -/

theorem execPeTxb_pushes {ra : Fin 16} {imm : BitVec 18} (h1 : 1 ≤ imm.toNat) (h32 : imm.toNat ≤ 32)
    (h : s.fetches p (wordI 0x31 0 ra imm)) : execPeTxb p 0 ra imm s = .next (s.engineDoes p [ra] 1 fun s' =>
      s'.push p (.bits (msbBits imm.toNat (s.lamps.engine[p].reg ra).toNat) (s.lamps.engine[p].openCmd != 7)) []) := by
  unfold execPeTxb
  exact onEngine_does (by simp [h1, h32]) h (wordI_assigned _ _ _ (by decide) rfl) rfl

theorem execPeTxf_pushes {imm : BitVec 18} (h17 : imm.getLsbD 17 = false) (h : s.fetches p (wordI 0x32 0 0 imm)) :
    execPeTxf p 0 0 imm s = .next (s.engineDoes p [] 1 fun s' =>
      s'.push p (.bits (List.replicate (bits imm.toNat 15 0) (imm.getLsbD 16))
        (!(List.contains [0x04, 0x06, 0x07, 0x09] s.lamps.engine[p].openCmd))) []) := by
  unfold execPeTxf
  exact onEngine_does (by rw [h17]; rfl) h (wordI_assigned _ _ _ (by decide) rfl) rfl

/-- A share of a position of the walk is pushed, or is an operand fault at a line that is not used. -/
theorem execPeTxsh_pushes {ra rb : Fin 16} {v w : Nat} (hv : v = (s.lamps.engine[p].reg ra).toNat)
    (hw : w = (s.lamps.engine[p].reg rb).toNat) (h1 : 1 ≤ v) (h62 : v ≤ 62) (h : s.fetches p (wordR 0x33 0 ra rb 0)) (bad : List Nat) :
    execPeTxsh p 0 ra rb 0 bad s = .next (s.engineDoes p [ra, rb] 1 fun s' =>
      if w < bits (s'.cfgWord p) 13 8 then s'.push p (.share v w) bad else s'.engineFault p 7) := by
  subst hv hw
  unfold execPeTxsh
  refine onEngine_does rfl h (wordR_assigned _ _ _ _ (by decide) rfl) ?_
  by_cases hline : (s.lamps.engine[p].reg rb).toNat < bits ((s.engineSpent p [ra, rb] 1).cfgWord p) 13 8
  · rw [if_pos hline]
    exact if_neg (by omega)
  · rw [if_neg hline]
    exact if_pos (.inr (.inr (Nat.not_lt.mp hline)))

end

/-- Settles O29: a frame is opened plain or as the reference, and each push hands its bits to the open frame. -/
theorem engineFramerInstructions : Obligations.EngineFramerInstructions := by
  intro s p ra rb imm
  refine ⟨fun rd hz ho href h => execPeFopen_plain hz ho href h,
    fun rd hz ho href first alone intime h => execPeFopen_reference hz ho href rfl rfl rfl rfl first alone intime h,
    fun h1 h32 h => execPeTxb_pushes h1 h32 h, fun h17 h => execPeTxf_pushes h17 h,
    fun bad h1 h62 h => execPeTxsh_pushes rfl rfl h1 h62 h bad, fun bad h => ?_, fun h => ?_⟩
  · rw [exec_peTxl, execPeTxl]
    exact onEngine_does rfl h (wordR_assigned _ _ _ _ (by decide) rfl) rfl
  · rw [exec_peTxs, execPeTxs]
    exact onEngine_does rfl h (wordR_assigned _ _ _ _ (by decide) rfl) rfl

/-! ### Mailboxes and semaphores (R370, R427) -/

/-- Settles O30: a message goes out or comes in by the channel's own functions, and the semaphores as O57 has them. -/
theorem engineMailboxesAndSemaphores : Obligations.EngineMailboxesAndSemaphores := by
  intro s p rd imm
  refine ⟨fun h => ?_, fun h => ?_, fun n hn h => execPeSema_eq hn h, fun n hn h => execPeSemr_eq hn h⟩
  · rw [exec_peMbs, execPeMbs]
    exact onEngine_does rfl h (wordI_assigned _ _ _ (by decide) rfl) rfl
  · rw [exec_peMbr, execPeMbr]
    exact onEngine_does rfl h (wordI_assigned _ _ _ (by decide) rfl) rfl

end Sys2Proof.Machine
end

section
/-! What a port engine takes from its port: schedule lengths, returns, probes, verdicts and tests (R366, R367). -/

namespace Sys2Proof.Machine
open Host

section
variable {s : State} {p : Fin 64}

theorem execPeSlen_reads {rd ra : Fin 16} (h : s.fetches p (wordR 0x36 rd ra 0 0)) :
    execPeSlen p rd ra 0 0 s = .next (s.withEngine p fun x => x.run1 [ra] 1 fun x => x.setReg rd (BitVec.ofNat 32
      (((s.lamps.port[p].sched.find? fun c => c.pos == (s.lamps.engine[p].reg ra).toNat).map fun c => c.body.length).getD 0))) := by
  unfold execPeSlen
  exact onEngine_owns rfl h (wordR_assigned _ _ _ _ (by decide) rfl) (fun e => by simp) rfl

theorem execPeRxw_empty {rd : Fin 16} (hr : s.lamps.engine[p].returns = []) (h : s.fetches p (wordR 0x38 rd 0 0 0)) :
    execPeRxw p rd 0 0 0 s = .next (s.withEngine p fun x => x.run1 [] 1 fun x => x.setReg rd 0xFFFFFFFF) := by
  unfold execPeRxw
  refine onEngine_owns rfl h (wordR_assigned _ _ _ _ (by decide) rfl) (fun e => by simp) ?_
  have hr' : (s.engineSpent p [] 1).lamps.engine[p].returns = [] := (engineSpent_returns s p [] 1).trans hr
  rw [hr']
  rfl

theorem execPeRxw_next {rd : Fin 16} {r : Return} {rest : List Return} (hr : s.lamps.engine[p].returns = r :: rest)
    (h : s.fetches p (wordR 0x38 rd 0 0 0)) :
    execPeRxw p rd 0 0 0 s = .next (s.withEngine p fun x => x.run1 [] 1 fun x =>
      { x.setReg rd ((r.words[r.read]?).getD 0xFFFFFFFF) with
        returns := { r with read := min r.words.length (r.read + 1) } :: rest }) := by
  unfold execPeRxw
  refine onEngine_owns rfl h (wordR_assigned _ _ _ _ (by decide) rfl) (fun e => by simp) ?_
  have hr' : (s.engineSpent p [] 1).lamps.engine[p].returns = r :: rest := (engineSpent_returns s p [] 1).trans hr
  rw [hr']
  exact withEngine_withEngine _ p _ _

theorem execPeRxd_drops (h : s.fetches p (wordR 0x39 0 0 0 0)) :
    execPeRxd p 0 0 0 0 s = .next (s.withEngine p fun x => x.run1 [] 1 fun x =>
      { x with returns := x.returns.drop 1, overflow := false }) := by
  unfold execPeRxd
  exact onEngine_owns rfl h (wordR_assigned _ _ _ _ (by decide) rfl) (fun _ => ⟨rfl, rfl, rfl⟩) rfl

theorem execPePrb_empty {rd : Fin 16} (hq : s.lamps.port[p].probes = []) (h : s.fetches p (wordR 0x3C rd 0 0 0)) :
    execPePrb p rd 0 0 0 s = .next (s.withEngine p fun x => x.run1 [] 1 fun x => x.setReg rd 0) := by
  unfold execPePrb
  refine onEngine_owns rfl h (wordR_assigned _ _ _ _ (by decide) rfl) (fun e => by simp) ?_
  rw [engineSpent_port, hq]
  rfl

theorem execPePrb_oldest {rd : Fin 16} {r : Probe} {rest : List Probe} (hq : s.lamps.port[p].probes = r :: rest)
    (h : s.fetches p (wordR 0x3C rd 0 0 0)) :
    execPePrb p rd 0 0 0 s = .next (s.engineDoes p [] 1 fun s =>
      (s.setReg p rd (BitVec.ofNat 32 (r.pos % 64 + r.line % 32 * 256 + r.ch % 64 * 65536 + r.slot % 4 * 2 ^ 22 + r.tag % 16 * 2 ^ 24
        + 2 ^ 31))).withPort p fun q => { q with
          probes := rest, probed := (r :: q.probed.filter fun x => decide (r.frame ≤ x.frame + 4)).take 96 }) := by
  unfold execPePrb
  refine onEngine_does rfl h (wordR_assigned _ _ _ _ (by decide) rfl) ?_
  rw [engineSpent_port, hq]

end

theorem bits_lt (v hi lo : Nat) : bits v hi lo < 2 ^ (hi + 1 - lo) := Nat.mod_lt _ (by positivity)

theorem foldl_const {α : Type} (s : State) (l : List α) {f : State → α → State} (hf : ∀ t a, f t a = t) : l.foldl f s = s := by
  induction l with
  | nil => rfl
  | cons a l ih => rw [List.foldl_cons, hf, ih]

/-- Settles O56: each instruction by what it takes; VERD at a position that no walk has changes nothing. -/
theorem engineReturnsAndDiagnostics : Obligations.EngineReturnsAndDiagnostics := by
  intro s p rd ra rb
  refine ⟨execPeSlen_reads, execPeRxw_empty, fun r rest hr => execPeRxw_next hr, execPeRxd_drops, execPePrb_empty,
    fun r rest hq => execPePrb_oldest hq, fun ha h => ?_, fun f k c hr hc ha h => ?_⟩
  · rw [exec_peVerd, execPeVerd]
    refine onEngine_does rfl h (wordR_assigned _ _ _ _ (by decide) rfl) ?_
    have hlt := bits_lt (s.lamps.engine[p].reg ra).toNat 5 0
    dsimp only
    by_cases hp : bits (s.lamps.engine[p].reg ra).toNat 5 0 ≠ 0 ∧ bits (s.lamps.engine[p].reg ra).toNat 5 0 ≠ 63
    · rw [if_neg (by omega), engineSpent_port, ha, if_neg (by decide)]
      refine congrArg (fun f => List.foldl f _ _) (funext₂ fun t i => ?_)
      simp only [hp.1, hp.2, ne_eq, not_false_eq_true, true_and] <;> rfl
    · rw [if_pos (by omega)]
      refine (foldl_const _ _ fun t i => ?_).symm
      rw [if_neg (by omega)]
  · rw [exec_peDiagc, execPeDiagc]
    refine onEngine_does rfl h (wordR_assigned _ _ _ _ (by decide) rfl) ?_
    dsimp only
    rw [hr]
    dsimp only
    rw [engineSpent_port, hc]
    dsimp only
    rw [dif_pos k.2, ha, if_neg (by decide)] <;> rfl

end Sys2Proof.Machine
end

section
/-! Frames leave an engine (R333, R360, R361, R365), and an engine's life (R318, R369, R372, R375). -/

namespace Sys2Proof.Machine
open Host

section
variable {s : State} {p : Fin 64} {t : TxFrame} {rest : List TxFrame}

/-! ### The head of the queue -/

/-- The schedule frame that the refresh ceiling withholds is dropped, charged to the budget, counted and told (R333, R371). -/
def State.dropHead (s : State) (p : Fin 64) (t : TxFrame) (rest : List TxFrame) : State :=
  (((s.withEngine p fun e => { e with tx := rest }).count p (8 + t.counted)).bump (0x2A00 + p) 0x36 1).raise 0x6202
    (det p.1 (bitsNat (t.bits.take 8)))

theorem sendHead_goes (h : t.cmd ≠ 7 ∨ t.len ≤ t.bits.length ∧ s.withholds p t.bits = false) :
    s.sendHead p t rest = (true, s.launch p) := by
  unfold State.sendHead
  by_cases hc : t.cmd = 7
  · obtain ⟨hlen, hw⟩ := h.resolve_left (not_not.mpr hc)
    rw [if_neg (not_not.mpr hc), if_neg (by omega), hw, if_neg (by decide)]
  · exact if_pos hc

theorem sendHead_withheld (hc : t.cmd = 7) (hlen : t.len ≤ t.bits.length) (hw : s.withholds p t.bits = true) :
    s.sendHead p t rest = (false, s.dropHead p t rest) := by
  unfold State.sendHead
  rw [if_neg (not_not.mpr hc), if_neg (by omega), if_pos hw]
  rfl

theorem execFrameLaunch_head (ht : s.isTile = true) (htx : s.lamps.engine[p].tx = t :: rest) (hr : t.ref = none)
    (hm : t.markAt = none) :
    execFrameLaunch p s = .next ((s.until_ s.lamps.engine[p].gapUntil).sendHead p t rest).2 := by
  unfold execFrameLaunch
  dsimp only
  rw [htx]
  dsimp only
  rw [ht, hr, hm]
  rfl

theorem execReferenceFrameLaunch_head {f k edge : Nat} (ht : s.isTile = true) (htx : s.lamps.engine[p].tx = t :: rest)
    (hr : t.ref = some (f, k, edge)) (hm : t.markAt = none) {due : State}
    (hdue : due = s.endBlanking.untilWall (edge - edgeBits t.len * s.endBlanking.bitPeriod p * subNs)) :
    execReferenceFrameLaunch p s = .next (if due.withheld p t || !(due.sendHead p t rest).1 then (due.sendHead p t rest).2
      else ((due.sendHead p t rest).2.withPort p fun q => { q with lit := true }).lights) := by
  subst hdue
  unfold execReferenceFrameLaunch
  dsimp only
  rw [htx]
  dsimp only
  rw [hr, hm]
  dsimp only
  rw [ht, if_neg (by decide), apply_ite Outcome.next]

theorem execFramerUnderrun_kills (ht : s.isTile = true) (htx : s.lamps.engine[p].tx = t :: rest) (hm : t.markAt ≠ none)
    (hg : t.gone = false) (hlen : t.bits.length < t.len) :
    execFramerUnderrun p s = .next (((((s.withEngine p fun e => { e with tx := killFrames [t] ++ rest }).bump (0x2C10 + p) 0x08
      1).raise 0xA304 (det p.1 t.cmd)).finishFrame p).withEngine p fun e => { e with
        tx := { t with zeros := true, dead := true, gone := true } :: e.tx }) := by
  unfold execFramerUnderrun
  dsimp only
  rw [htx]
  dsimp only
  rw [ht, hg, decide_eq_false (Nat.not_le.mpr hlen), Option.isNone_eq_false_iff.mpr (Option.isSome_iff_ne_none.mpr hm)]
  rfl

theorem execPushStallEnd_resumes (ht : s.isTile = true) {u : Push} (hs : s.lamps.engine[p].stall = some u) (bad : List Nat)
    {v : State} (hv : v = s.until_ s.lamps.engine[p].busyUntil) {n : Nat} (hn : n = min 2048 ((v.pushBits p u bad).getD []).length) :
    execPushStallEnd p bad s = .next (((if v.fifo p + n ≤ 2048 ∨
        (s.lamps.engine[p].tx.all fun t => t.markAt.isNone) && s.lamps.engine[p].line.isEmpty then v
      else v.pass ((v.fifo p + n - 2048) * v.bitPeriod p)).push p u bad).withEngine p Engine.advance) := by
  subst hn hv
  unfold execPushStallEnd
  dsimp only
  rw [hs]
  dsimp only
  rw [ht]
  rfl

end

/-- Settles O24: the head goes out unless the ceiling withholds it, and the reference frame's edge brings the clock to its mark. -/
theorem framesLeaveTheEngine : Obligations.FramesLeaveTheEngine := by
  intro s p t rest ht htx
  refine ⟨fun hr hm hc => ?_, fun hr hm hc hlen => ?_, fun f k edge hr hm => ⟨fun hgo => ?_, fun hc hlen hw => ?_⟩,
    execFramerUnderrun_kills ht htx, fun u bad hs => execPushStallEnd_resumes ht hs bad rfl rfl⟩
  · rw [exec_frameLaunch, execFrameLaunch_head ht htx hr hm, sendHead_goes (.inl hc)]
  · rw [exec_frameLaunch, execFrameLaunch_head ht htx hr hm]
    split
    next hw => rw [sendHead_withheld hc hlen hw]; rfl
    next hw => rw [sendHead_goes (.inr ⟨hlen, Bool.eq_false_iff.mpr hw⟩)]
  · rw [exec_referenceFrameLaunch, execReferenceFrameLaunch_head ht htx hr hm rfl, sendHead_goes hgo, Bool.not_true, Bool.or_false]
  · rw [exec_referenceFrameLaunch, execReferenceFrameLaunch_head ht htx hr hm rfl, sendHead_withheld hc hlen hw, Bool.not_false,
      Bool.or_true, if_pos rfl]
    rfl

/-! ### An engine's life -/

section
variable {s : State} {p : Fin 64}

theorem reenumerate_loaded (h : s.needsLoad p = false) : s.reenumerate p = s.enumerate p := by
  have hrun : s.lamps.engine[p].run = .running := by
    obtain ⟨hrest, -⟩ := Bool.or_eq_false_iff.mp h
    exact bne_eq_false_iff_eq.mp (Bool.or_eq_false_iff.mp hrest).1
  unfold State.reenumerate
  rw [h]
  exact if_pos hrun

end

/-- Settles O31: each command of the supervisor on a running tile. -/
theorem engineLife : Obligations.EngineLife := by
  intro s p ht
  refine ⟨if_pos ht, fun hon => ⟨fun hr => ?_, fun t hr => ?_⟩, reenumerate_loaded, fun hl => ⟨fun hrun => ?_, fun hrun => ?_⟩,
    if_pos ht, if_pos ht, fun frame => if_pos ht, fun hrun h0 h4 => ?_⟩
  · rw [exec_enumerate, execEnumerate, ht, hon, hr]
    rfl
  · rw [exec_enumerate, execEnumerate, ht, hon, hr]
    rfl
  · unfold State.reenumerate
    rw [hl]
    exact if_pos hrun
  · unfold State.reenumerate
    rw [hl]
    exact if_neg hrun
  · rw [exec_engineWatchdogExpiry, execEngineWatchdogExpiry]
    simp only [ht, hrun, h0, h4]
    rfl

end Sys2Proof.Machine
end

section
/-! The deduplication window over SEQ (R132). -/

namespace Sys2Proof.Machine
open Host

/-- A value that is not ahead and whose place in the window is marked is a duplicate. -/
theorem judgeSeq_of_seen {w : SeqWindow} {v : BitVec 32} (ha : ¬ (1 ≤ (v - w.high).toNat ∧ (v - w.high).toNat < 2 ^ 31))
    (hb : (w.high - v).toNat < 4096) (hs : w.seen.getLsbD (w.high - v).toNat = true) : judgeSeq (some w) v = .duplicate := by
  unfold judgeSeq
  dsimp only
  rw [if_neg ha, if_pos hb, if_pos hs]

/-- The highest value itself, once marked, is a duplicate. -/
theorem judgeSeq_high {w : SeqWindow} (hs : w.seen.getLsbD 0 = true) : judgeSeq (some w) w.high = .duplicate := by
  have same : (w.high - w.high).toNat = 0 := by rw [BitVec.sub_self]; rfl
  exact judgeSeq_of_seen (by omega) (by omega) (same ▸ hs)

theorem seen_one_or (x : BitVec 4096) : (x ||| 1).getLsbD 0 = true := by
  simp

theorem seen_mark (x : BitVec 4096) {i : Nat} (hi : i < 4096) : (x ||| BitVec.ofNat 4096 (2 ^ i)).getLsbD i = true := by
  rw [BitVec.getLsbD_or, BitVec.getLsbD_ofNat, Nat.testBit_two_pow_self, decide_eq_true hi]
  simp

theorem judgeSeq_stale {w : SeqWindow} {v : BitVec 32} (hb : 4096 ≤ (w.high - v).toNat)
    (ha : (v - w.high).toNat = 0 ∨ 2 ^ 31 ≤ (v - w.high).toNat) : judgeSeq (some w) v = .stale := by
  unfold judgeSeq
  dsimp only
  rw [if_neg (by omega), if_neg (by omega)]

/-- The window that accepts a value marks it. -/
theorem judgeSeq_accepted {w : Option SeqWindow} {v : BitVec 32} {w' : SeqWindow} (h : judgeSeq w v = .accept w') :
    judgeSeq (some w') v = .duplicate := by
  cases w with
  | none =>
    obtain rfl : { high := v, seen := 1 } = w' := SeqVerdict.accept.inj h
    exact judgeSeq_high (w := ⟨v, 1⟩) (by simp)
  | some w =>
    unfold judgeSeq at h
    dsimp only at h
    split at h
    next ahead =>
      obtain rfl := SeqVerdict.accept.inj h
      exact judgeSeq_high (seen_one_or _)
    next ahead =>
      split at h
      next behind =>
        split at h
        next => nomatch h
        next =>
          obtain rfl := SeqVerdict.accept.inj h
          exact judgeSeq_of_seen ahead behind (seen_mark _ behind)
      next => nomatch h

/-- Settles O60: the window that accepts a value marks it, and what lies 4,096 or more behind is stale. -/
theorem seqWindowAcceptsOnce : Obligations.SeqWindowAcceptsOnce :=
  ⟨fun _ _ _ h => judgeSeq_accepted h, fun _ => rfl, fun _ _ hb ha => judgeSeq_stale hb ha⟩

end Sys2Proof.Machine
end

section
/-! The interconnect (R409 to R429): violations, the binding table, and the reset of a master. -/

namespace Sys2Proof.Machine
open Host

/-! ### Writes by a master that is not the party (R420) -/

section
variable {s : State} {m : BitVec 7} {c : Fin 128}

theorem sends_false (h : s.hostPort.bind[c].sender ≠ m) : s.hostPort.sends m c = false := by
  unfold HostPort.sends
  rw [beq_eq_false_iff_ne.mpr h, Bool.and_false]

theorem receives_false (h : s.hostPort.bind[c].receiver ≠ m) : s.hostPort.receives m c = false := by
  unfold HostPort.receives
  rw [beq_eq_false_iff_ne.mpr h, Bool.and_false]

/-- A write that no party of a channel in use makes counts as a violation and changes nothing else of the host port. -/
theorem boundWrite_refused (hm : isMaster m = true) (hv : s.hostPort.bind[c].valid = true) {party : Bool} (hp : party = false)
    (act : State → State) : ∃ t, s.boundWrite m c party act = .next t ∧ t.hostPort = { s.hostPort with
      violations := min 0xFFFFFFFF (s.hostPort.violations + 1)
      err := if m = 0x48 then s.hostPort.err ||| 16#5 else s.hostPort.err } :=
  ⟨_, by rw [hp, boundWrite_other act hm hv], violation_hostPort s m c⟩

/-- A channel with VALID = 0 ignores every write. -/
theorem boundWrite_unused (hv : s.hostPort.bind[c].valid = false) (party : Bool) (act : State → State) :
    s.boundWrite m c party act = .next s := by
  unfold State.boundWrite
  rw [hv, Bool.not_false, Bool.or_true, if_pos rfl]

end

/-- Settles O59: the writes of both parties go through one check of the binding. -/
theorem mailboxViolations : Obligations.MailboxViolations := by
  intro s m c hm
  simp only [exec_mbPost, exec_mbMsgWrite, exec_mbTake, exec_mbFlush, exec_returnCodeWrite, exec_mbStatusClear, execMbPost,
    execMbMsgWrite, execMbTake, execMbFlush, execReturnCodeWrite, execMbStatusClear]
  refine ⟨fun hv hs => ?_, fun hv hr => ?_, fun hv => ?_⟩
  · have notSender := sends_false hs
    exact ⟨boundWrite_refused hm hv notSender _, fun w v => boundWrite_refused hm hv notSender _⟩
  · have notReceiver := receives_false hr
    exact ⟨boundWrite_refused hm hv notReceiver _, boundWrite_refused hm hv notReceiver _,
      fun code => boundWrite_refused hm hv notReceiver _⟩
  · exact ⟨boundWrite_unused hv .., boundWrite_unused hv .., boundWrite_unused hv .., fun w v => boundWrite_unused hv ..,
      fun code => boundWrite_unused hv .., fun v => boundWrite_unused hv ..⟩

/-! ### The binding table (R422) -/

section
variable {s : State} {m : BitVec 7} {c : Fin 128} {v : Word}

/-- The cause for which a write of an entry is refused, 0 for none. -/
def State.bindCause (s : State) (m : BitVec 7) (b : Binding) : Nat :=
  if s.hostPort.lock then 1 else if !isKeeper m then 4
  else if b.ackMode && decide (b.receiver.toNat < 0x40) then 2 else if !Machine.isMaster b.sender || !Machine.isMaster b.receiver then 3 else 0

theorem bindCause_eq_zero_iff {b : Binding} : s.bindCause m b = 0 ↔ s.hostPort.lock = false ∧ isKeeper m = true ∧
    (b.ackMode = true → 0x40 ≤ b.receiver.toNat) ∧ isMaster b.sender = true ∧ isMaster b.receiver = true := by
  unfold State.bindCause
  split_ifs <;> simp_all
  next bad =>
    intro hs
    simpa [hs] using bad

theorem execMbBindWrite_refused (hm : isMaster m = true) (hc : s.bindCause m (bindingOf v) ≠ 0) :
    execMbBindWrite m c v s = .next (s.raise 0x1401 (det3 c m.toNat (s.bindCause m (bindingOf v)))) := by
  unfold execMbBindWrite
  rw [hm]
  exact if_pos hc

/-- A write of an entry, where it is taken: a full channel is emptied first, its epochs kept. -/
theorem execMbBindWrite_taken (hm : isMaster m = true) (hc : s.bindCause m (bindingOf v) = 0) : ∃ t,
    execMbBindWrite m c v s = .next t ∧ t.hostPort.bind = vset s.hostPort.bind c (bindingOf v) ∧
    t.hostPort.mailbox = if s.hostPort.mailbox[c].full then vset s.hostPort.mailbox c { s.hostPort.mailbox[c] with
      full := false, emptyEvt := false, ackValid := false, refused := false, doorbell := false } else s.hostPort.mailbox := by
  unfold execMbBindWrite
  rw [hm]
  refine ⟨_, if_neg (not_not.mpr hc), ?_⟩
  rw [withHost_hostPort]
  split
  · rw [withBox_hostPort]
    exact ⟨rfl, rfl⟩
  · exact ⟨rfl, rfl⟩

end

/-- Settles O34: the table's checks in one cause, its lock, and the release by a keeper. -/
theorem bindingsAndForcedRelease : Obligations.BindingsAndForcedRelease := by
  intro s m c v hm
  refine ⟨fun hl hk ⟨hsnd, hrcv, hack⟩ => ?_, fun hbad => ?_, fun hl => ?_, fun hl => ?_, fun n hn hv hk hx => ?_⟩
  · exact execMbBindWrite_taken hm (bindCause_eq_zero_iff.mpr ⟨hl, isKeeper_iff.mpr hk, hack, hsnd, hrcv⟩)
  · refine ⟨_, execMbBindWrite_refused hm fun h0 => ?_, raise_hostPort ..⟩
    obtain ⟨hl, hk, hack, hsnd, hrcv⟩ := bindCause_eq_zero_iff.mp h0
    rcases hbad with h | h | h
    · rw [hl] at h
      exact Bool.false_ne_true h
    · exact h (isKeeper_iff.mp hk)
    · exact h ⟨hsnd, hrcv, hack⟩
  · rw [exec_mbLockWrite, execMbLockWrite, hm, hl]
    exact ⟨_, rfl, withHost_hostPort ..⟩
  · rw [exec_mbLockWrite, execMbLockWrite, hm, hl]
    exact ⟨_, rfl, raise_hostPort ..⟩
  · refine ⟨_, execSemForce_release hm (isKeeper_iff.mpr hk) hn hv hx, ?_⟩
    simp [State.freeSem, withSem_hostPort]

/-! ### The reset of a master (R424 to R426, R429) -/

/-- Writing each place of a list of places once by its own function changes those places by their functions, and no other. -/
theorem getElem_foldl_vset {α : Type} {n : Nat} (f : Fin n → α → α) (l : List (Fin n)) (hl : l.Nodup) (v : Vector α n) (i : Fin n) :
    (l.foldl (fun v c => vset v c (f c v[c])) v)[i] = if i ∈ l then f i v[i] else v[i] := by
  induction l generalizing v with
  | nil => rfl
  | cons c l ih =>
    obtain ⟨hc, hl⟩ := List.nodup_cons.mp hl
    rw [List.foldl_cons, ih hl]
    by_cases h : i = c
    · subst h
      simp [hc, vset]
    · have hne : c.1 ≠ i.1 := fun e => h (Fin.ext e.symm)
      simp [h, vset, hne]

/-- A channel after the reset of a master: the epoch of each side that is the master counts, and a waiting message rings again. -/
def Binding.resetBox (b : Binding) (m : BitVec 7) (x : MbChannel) : MbChannel :=
  let rx := b.valid && b.receiver == m
  let tx := b.valid && b.sender == m
  { x with
    epochRx := if rx then x.epochRx + 1 else x.epochRx
    epochTx := if tx then x.epochTx + 1 else x.epochTx
    doorbell := x.doorbell || rx && x.full }

/-- The reset of a master at one channel. -/
def State.resetChannel (m : BitVec 7) (s : State) (c : Fin 128) : State :=
  let s := if s.hostPort.receives m c then
      s.withBox c fun x => { x with epochRx := x.epochRx + 1, doorbell := x.doorbell || x.full }
    else s
  if s.hostPort.sends m c then
    let s := s.withBox c fun x => { x with epochTx := x.epochTx + 1 }
    if s.hostPort.mailbox[c].emptyEvt || s.hostPort.mailbox[c].ackValid then s.tellSender c else s
  else s

/-- The reset of a master at one semaphore. -/
def State.resetSem (m : BitVec 7) (s : State) (n : Fin 32) : State :=
  if s.hostPort.sem[n].held && s.hostPort.sem[n].holder == m then s.freeSem n 1 else s

theorem masterReset_eq (s : State) (m : BitVec 7) :
    s.masterReset m = (List.finRange 32).foldl (State.resetSem m) ((List.finRange 128).foldl (State.resetChannel m) s) := rfl

theorem vset_self {α : Type} {n : Nat} (v : Vector α n) (i : Fin n) : vset v i v[i] = v := Vector.set_getElem_self _

theorem resetChannel_hostPort (s : State) (m : BitVec 7) (c : Fin 128) : (s.resetChannel m c).hostPort = { s.hostPort with
    mailbox := vset s.hostPort.mailbox c (s.hostPort.bind[c].resetBox m s.hostPort.mailbox[c]) } := by
  have told (u : State) (b : Prop) [Decidable b] : (if b then u.tellSender c else u).hostPort = u.hostPort := by
    split <;> simp
  unfold State.resetChannel Binding.resetBox
  cases hr : s.hostPort.receives m c with
  | true =>
    have hr' : (s.hostPort.bind[c].valid && s.hostPort.bind[c].receiver == m) = true := hr
    have hs : (s.withBox c fun x => { x with epochRx := x.epochRx + 1, doorbell := x.doorbell || x.full }).hostPort.sends m c =
        (s.hostPort.bind[c].valid && s.hostPort.bind[c].sender == m) := by rw [withBox_hostPort]; rfl
    dsimp only
    rw [if_pos rfl, hs, hr']
    split
    next h => 
      rw [told, withBox_hostPort, withBox_hostPort]
      simp [vset]
    next h =>
      rw [withBox_hostPort]
      simp
  | false =>
    have hr' : (s.hostPort.bind[c].valid && s.hostPort.bind[c].receiver == m) = false := hr
    have hs : s.hostPort.sends m c = (s.hostPort.bind[c].valid && s.hostPort.bind[c].sender == m) := rfl
    dsimp only
    rw [if_neg Bool.false_ne_true, hs, hr']
    split
    next h => 
      rw [told, withBox_hostPort]
      simp
    next h =>
      simp only [Bool.false_and, Bool.or_false, Bool.false_eq_true, if_false]
      exact (congrArg (fun v => ({ s.hostPort with mailbox := v } : HostPort)) (vset_self _ c)).symm

theorem foldl_resetChannel_hostPort (s : State) (m : BitVec 7) (l : List (Fin 128)) :
    (l.foldl (State.resetChannel m) s).hostPort = { s.hostPort with
      mailbox := l.foldl (fun v c => vset v c (s.hostPort.bind[c].resetBox m v[c])) s.hostPort.mailbox } := by
  induction l generalizing s with
  | nil => rfl
  | cons c l ih => rw [List.foldl_cons, ih, resetChannel_hostPort]; rfl

/-- A semaphore is held by a master. -/
def Semaphore.heldBy (x : Semaphore) (m : BitVec 7) : Bool := x.held && x.holder == m

/-- A semaphore after the reset of a master: free where it was the master's. -/
def Semaphore.afterReset (x : Semaphore) (m : BitVec 7) : Semaphore := { x with held := x.held && !x.heldBy m }

theorem freeSem_reset_hostPort (s : State) (n : Fin 32) : (s.freeSem n 1).hostPort = { s.hostPort with
    sem := vset s.hostPort.sem n { s.hostPort.sem[n] with held := false }
    orphan := s.hostPort.orphan ||| BitVec.twoPow 32 n } := by
  simp [State.freeSem, withSem_hostPort]

theorem resetSem_hostPort (s : State) (m : BitVec 7) (n : Fin 32) : (s.resetSem m n).hostPort = { s.hostPort with
    sem := vset s.hostPort.sem n (s.hostPort.sem[n].afterReset m)
    orphan := s.hostPort.orphan ||| if s.hostPort.sem[n].heldBy m then BitVec.twoPow 32 n else 0#32 } := by
  unfold State.resetSem Semaphore.afterReset Semaphore.heldBy
  cases h : s.hostPort.sem[n].held && s.hostPort.sem[n].holder == m with
  | true =>
    rw [if_pos rfl, freeSem_reset_hostPort, Bool.not_true, Bool.and_false, if_pos rfl]
  | false =>
    rw [if_neg Bool.false_ne_true, Bool.not_false, Bool.and_true, if_neg Bool.false_ne_true, BitVec.or_zero]
    exact (congrArg (fun v => ({ s.hostPort with sem := v } : HostPort)) (vset_self _ n)).symm

theorem foldl_resetSem_sem (s : State) (m : BitVec 7) (l : List (Fin 32)) :
    (l.foldl (State.resetSem m) s).hostPort.sem = l.foldl (fun v n => vset v n (v[n].afterReset m)) s.hostPort.sem := by
  induction l generalizing s with
  | nil => rfl
  | cons n l ih => rw [List.foldl_cons, ih, resetSem_hostPort]; rfl

theorem foldl_resetSem_box (s : State) (m : BitVec 7) (l : List (Fin 32)) :
    (l.foldl (State.resetSem m) s).hostPort.mailbox = s.hostPort.mailbox ∧
      (l.foldl (State.resetSem m) s).hostPort.bind = s.hostPort.bind := by
  induction l generalizing s with
  | nil => exact ⟨rfl, rfl⟩
  | cons n l ih => rw [List.foldl_cons, (ih _).1, (ih _).2, resetSem_hostPort]; exact ⟨rfl, rfl⟩

theorem foldl_resetSem_orphan (s : State) (m : BitVec 7) (l : List (Fin 32)) (hl : l.Nodup) (n : Fin 32) :
    (l.foldl (State.resetSem m) s).hostPort.orphan.getLsbD n =
      (s.hostPort.orphan.getLsbD n || decide (n ∈ l) && s.hostPort.sem[n].heldBy m) := by
  induction l generalizing s with
  | nil => simp
  | cons k l ih =>
    obtain ⟨hk, hl⟩ := List.nodup_cons.mp hl
    rw [List.foldl_cons, ih _ hl, resetSem_hostPort]
    by_cases h : n = k
    · subst h
      cases hx : s.hostPort.sem[n].heldBy m <;> simp [hk]
    · have hne : k.1 ≠ n.1 := fun e => h (Fin.ext e.symm)
      cases hx : s.hostPort.sem[k].heldBy m <;> simp [h, vset, hne, hne.symm]

/-- Settles O36: the reset goes over every channel once and over every semaphore once. -/
theorem masterResetKeepsMessages : Obligations.MasterResetKeepsMessages := by
  intro s m hm
  refine ⟨s.masterReset m, if_pos hm, ?_, fun c => ?_, fun n => ⟨?_, ?_⟩⟩
  · rw [masterReset_eq, (foldl_resetSem_box _ m _).2, foldl_resetChannel_hostPort]
  · rw [masterReset_eq, (foldl_resetSem_box _ m _).1, foldl_resetChannel_hostPort,
      getElem_foldl_vset (fun c => s.hostPort.bind[c].resetBox m) _ (List.nodup_finRange 128), if_pos (List.mem_finRange c)]
    rfl
  · rw [masterReset_eq, foldl_resetSem_sem, getElem_foldl_vset (fun _ (x : Semaphore) => x.afterReset m) _ (List.nodup_finRange 32),
      if_pos (List.mem_finRange n), foldl_resetChannel_hostPort]
    rfl
  · rw [masterReset_eq, foldl_resetSem_orphan _ m _ (List.nodup_finRange 32), foldl_resetChannel_hostPort,
      decide_eq_true (List.mem_finRange n), Bool.true_and]
    rfl

end Sys2Proof.Machine
end

section
/-! The order of the checks of a write (R561), and the host port (R411 to R418). -/

namespace Sys2Proof.Machine
open Host

/-! ### The first check that fails -/

section
variable {s : State} {c : CtxId} {idx sub : Nat} {r : OdRow}

theorem writeChecks_noObject (h : odIndexExists s.role idx = false) : s.writeChecks c idx sub = .error 0x06020000 := by
  unfold State.writeChecks
  rw [h]
  rfl

theorem writeChecks_noSub (h : odIndexExists s.role idx = true) (hf : odFind s.role idx sub = none) :
    s.writeChecks c idx sub = .error (if sub = 0 ∧ odHeld s.role idx = false then 0x06010002 else 0x06090011) := by
  unfold State.writeChecks
  rw [h, hf]
  simp [abReadOnly, abNoSub]

/-- Checks 3 to 6, once the object is found. -/
theorem writeChecks_row (h : odIndexExists s.role idx = true) (hf : odFind s.role idx sub = some r) :
    s.writeChecks c idx sub = if r.role.heldDown s.role then .error 0x06090011
      else if r.fixed s.role idx then .error 0x06010002
      else if !s.levelOk c r idx sub then .error 0x06010000
      else if s.rdB 0x3300 0x11 && r.lvl != .operator && !(s.ctxLevel c).2 then .error 0x08000021
      else .ok r := by
  unfold State.writeChecks
  rw [h, hf]
  rfl

/-- Outside the two kinds of table, a value of the wrong length changes nothing. -/
theorem writeLocal_wrongLength {b : List Byte} (h : s.writeChecks c (s.mirror idx) sub = .ok r) (hb : r.ty.fits b.length = false)
    (hi : s.mirror idx < 0x2850 ∨ 0x2928 ≤ s.mirror idx) : s.writeLocal c idx sub b = (0x06070010, s) := by
  unfold State.writeLocal State.wrongLength
  dsimp only
  rw [h]
  dsimp only
  rw [hb, Bool.not_false, if_pos rfl, if_neg (by omega), if_neg (by omega)]
  rfl

theorem writeLocal_range {b : List Byte} (h : s.writeChecks c (s.mirror idx) sub = .ok r) (hb : r.ty.fits b.length = true)
    (hd : r.ty.isData = false) (hr : r.rng.ok (r.ty.value b).toInt = false) : s.writeLocal c idx sub b = (0x06090030, s) := by
  unfold State.writeLocal
  dsimp only
  rw [h]
  dsimp only
  rw [hb, hd, hr]
  rfl

/-- A local write is answered with its code. -/
theorem objectWrite_local {b : List Byte} (hu : s.up = true) (hw : tileIndex idx = none) : s.objectWrite c idx sub b =
    ((s.touchCtx c).writeLocal c idx sub b).2.emit (.written c idx sub ((s.touchCtx c).writeLocal c idx sub b).1) := by
  unfold State.objectWrite
  rw [hu, hw]
  rfl

end

/-- Settles O58: the checks are one chain of conditions, and each is the first to fail where those before it pass. -/
theorem writeChecksInOrder : Obligations.WriteChecksInOrder := by
  intro s c idx sub b hu hw t x gives
  have refused {e : Nat} (h : t.writeChecks c x sub.toNat = .error e) : gives e :=
    congrArg Outcome.next (objectWrite_refused hu hw h)
  have judged {e : Nat} (h : t.writeLocal c idx.toNat sub.toNat b = (e, t)) : gives e := by
    change Outcome.next (s.objectWrite c idx.toNat sub.toNat b) = _
    rw [objectWrite_local hu hw, h]
    rfl
  have zero : sub.toNat = 0 ↔ sub = 0 := by rw [← BitVec.toNat_inj]; rfl
  refine ⟨fun hi => refused (writeChecks_noObject hi), fun hi hf => refused ((writeChecks_noSub hi hf).trans (by simp only [zero])),
    fun r hi hf => ?_⟩
  have row := writeChecks_row (c := c) hi hf
  refine ⟨fun hd => refused (row.trans (by rw [hd]; rfl)), fun hd => ⟨fun hx => refused (row.trans (by rw [hd, hx]; rfl)),
    fun hx => ⟨fun hl => refused (row.trans (by rw [hd, hx, hl]; rfl)), fun hl => ⟨fun ho => refused (row.trans ?_), fun ho => ?_⟩⟩⟩⟩
  · rw [hd, hx, hl, ho]
    rfl
  · have ok : t.writeChecks c x sub.toNat = .ok r := by
      rw [row, hd, hx, hl, ho]
      rfl
    exact ⟨fun hb hidx => judged (writeLocal_wrongLength ok hb hidx), fun hb hdata hr => judged (writeLocal_range ok hb hdata hr)⟩

/-! ### Transactions of the host port (R411 to R413) -/

section
variable {s : State} {addr : BitVec 24} {bytes : List Byte}

theorem leBytes_length (n v : Nat) : (leBytes n v).length = n := by
  induction n generalizing v with
  | zero => rfl
  | succ n ih => rw [leBytes, List.length_cons, ih]

theorem addr_mod (addr : BitVec 24) : addr.toNat % 2 ^ 24 = addr.toNat := Nat.mod_eq_of_lt addr.isLt

theorem qspiRead_word (hl : s.life ≠ .inReset) (ha : addr.toNat % 4 = 0) : s.qspiRead addr.toNat 4 false =
    (s.hpRead addr.toNat).2.emit (.host (leBytes 4 (s.hpRead addr.toNat).1.toNat)) := by
  have words : (addr.toNat + 4 - addr.toNat + 3) / 4 = 1 := by omega
  unfold State.qspiRead
  rw [if_neg (by simp [hl])]
  simp only [ha, Nat.sub_zero, words, State.hpReads, addr_mod, List.append_nil, List.drop_zero]
  rw [List.take_of_length_le (by rw [leBytes_length])]
  rfl

theorem qspiWrite_word (hl : s.life ≠ .inReset) (ha : addr.toNat % 4 = 0) (hb : bytes.length = 4) :
    s.qspiWrite addr.toNat bytes = s.hpWrite addr.toNat (BitVec.ofNat 32 (leNat bytes)) := by
  have hne : bytes ≠ [] := fun e => by simp [e] at hb
  unfold State.qspiWrite
  rw [if_neg (by simp [hl, hne])]
  simp only [ha, hb, chunks, List.isEmpty_iff, hne, if_false, Nat.sub_zero, Nat.mod_self, Nat.min_zero, List.drop_zero, Nat.div_self,
    Nat.zero_lt_succ, List.take_of_length_le hb.le, Nat.add_zero, State.hpWrites, addr_mod, and_self, if_true]

theorem qspiWrite_partial (hl : s.life ≠ .inReset) (ha : addr.toNat % 4 = 0) (h1 : 1 ≤ bytes.length) (h4 : bytes.length < 4) :
    s.qspiWrite addr.toNat bytes = s.hpError 4#5 := by
  have hne : bytes ≠ [] := fun e => by simp [e] at h1
  have whole : bytes.length / 4 = 0 := by omega
  unfold State.qspiWrite
  rw [if_neg (by simp [hl, hne])]
  have rest : bytes.length % 4 ≠ 0 := by omega
  simp [ha, whole, chunks, State.hpWrites, rest]

theorem hpError_hostPort (s : State) (e : BitVec 5) : (s.hpError e).hostPort = { s.hostPort with err := s.hostPort.err ||| e } := by
  unfold State.hpError
  simp

theorem hpRead_unmapped {a : Nat} (h : hpMapped a = false) : s.hpRead a = (0, s.hpError 2#5) := by
  unfold State.hpRead
  rw [h]
  rfl

theorem hpWrite_unmapped {a : Nat} (h : hpMapped a = false) (v : Word) : s.hpWrite a v = s.hpError 2#5 := by
  unfold State.hpWrite
  rw [h]
  rfl

/-! ### Registers of the host port (Tables 14.5 and 14.6) -/

theorem hpWrite_irqEn (v : Word) : s.hpWrite 0x10 v = s.withHost fun h => { h with irqEn := v.setWidth 5 } := rfl

theorem hpRead_irqEn (s : State) : (s.hpRead 0x10).1 = s.hostPort.irqEn.setWidth 32 :=
  BitVec.ofNat_toNat 32 s.hostPort.irqEn

theorem hpWrite_dummy {v : Word} (h : 4 ≤ (v.setWidth 4).toNat) :
    s.hpWrite 0x04 v = s.withHost fun h => { h with dummy := v.setWidth 4 } := if_pos h

theorem hpRead_dummy (s : State) : (s.hpRead 0x04).1 = s.hostPort.dummy.setWidth 32 :=
  BitVec.ofNat_toNat 32 s.hostPort.dummy

theorem hpWrite_err (v : Word) : s.hpWrite 0x14 v = s.withHost fun h => { h with err := h.err &&& ~~~(v.setWidth 5) } := rfl

theorem hpWrite_done {v : Word} (h : v.getLsbD 0 = true) :
    s.hpWrite 0x0C v = s.withHost fun h => { h with sdoDone := false } := if_pos h

/-! ### GO (R418) -/

theorem sdoGo_busy {len : Nat} (hu : s.up = true) (h : s.hostPort.rsltState = 1) : s.sdoGo len = s.hpError 8#5 := by
  unfold State.sdoGo
  rw [hu, if_neg (by decide), if_pos h]

theorem sdoGo_badLength {len : Nat} (hu : s.up = true) (h : s.hostPort.rsltState ≠ 1) (h8 : len ≠ 8) (h64 : len ≠ 64) :
    (s.sdoGo len).hostPort = { s.hostPort with
      rsltState := 3, rspLen := 0, sdoDone := true, rsltSeq := BitVec.ofNat 16 (nextSeq s.hostPort.rsltSeq.toNat) } := by
  unfold State.sdoGo
  rw [hu, if_neg (by decide), if_neg h, if_pos ⟨h8, h64⟩, cause_hostPort, withHost_hostPort]

/-- A request of a good length is handed to the SDO server; where the server has answered, nothing more is published. -/
theorem sdoGo_served {len : Nat} {u : State} (hu : s.up = true) (h : s.hostPort.rsltState ≠ 1) (hl : len = 8 ∨ len = 64)
    (hserve : u = ((s.withHost fun h => { h with rsltState := 1 }).touchCtx .host).serve .host (s.hostPort.sdoReq.toList.take len))
    (hdone : u.hostPort.rsltState ≠ 1) : s.sdoGo len = u := by
  subst hserve
  unfold State.sdoGo
  rw [hu, if_neg (by decide), if_neg h, if_neg (by omega)]
  exact if_neg fun hr => hdone hr.1

end

/-- Settles O32: each transaction by the words it touches, each register by its own write and read. -/
theorem hostPort : Obligations.HostPort := by
  refine ⟨fun s addr n bytes => ⟨fun hl => ?_, fun hl => ⟨fun _ ha hn => ?_, fun hb ha => ?_, fun h1 h4 ha => ?_, ?_, ?_⟩⟩,
    fun s v len => ⟨hpError_hostPort s, fun a ha => ⟨hpRead_unmapped ha, hpWrite_unmapped ha v⟩, ?_, fun hv => ?_, ?_, ?_, fun hv => ?_,
      fun hu h => ?_, fun hu h h8 h64 => ⟨_, rfl, sdoGo_badLength hu h h8 h64⟩, fun hu h hl hd => ?_⟩⟩
  · exact ⟨congrArg Outcome.next (if_pos (.inl hl)), congrArg Outcome.next (if_pos (.inl hl)), congrArg Outcome.next (if_pos hl)⟩
  · subst hn
    exact ⟨congrArg Outcome.next (qspiRead_word hl ha), congrArg Outcome.next (qspiRead_word hl ha)⟩
  · exact ⟨congrArg Outcome.next (qspiWrite_word hl ha hb), congrArg Outcome.next (qspiWrite_word hl ha hb)⟩
  · exact congrArg Outcome.next (qspiWrite_partial hl ha h1 h4)
  · exact congrArg Outcome.next (if_neg hl)
  · exact congrArg Outcome.next (if_neg hl)
  · rw [hpRead_irqEn, hpWrite_irqEn, withHost_hostPort]
  · rw [hpRead_dummy, hpWrite_dummy hv, withHost_hostPort]
  · rw [hpWrite_err, withHost_hostPort]
  · rw [hpWrite_orphan, withHost_hostPort]
  · rw [hpWrite_done hv, withHost_hostPort]
  · exact congrArg Outcome.next (sdoGo_busy hu h)
  · exact congrArg Outcome.next (sdoGo_served hu h hl rfl hd)

end Sys2Proof.Machine
end

section
/-! SUPPORT. What a port reads after an update of it, and a lamp port's return line (R366, R320). -/

namespace Sys2Proof.Machine
open Host

theorem withPort_port (s : State) (p : Fin 64) (f : LampPort → LampPort) : (s.withPort p f).lamps.port[p] = f s.lamps.port[p] := by
  simp [State.withPort, vmod, vset]

/-- Settles O23: a return that is taken goes to its class (good, short or wrong), and a missing one leaves its engine. -/
theorem lampReturns : Obligations.LampReturns := by
  intro s p f rest ht hl
  refine ⟨fun pulses ps => ?_, ?_⟩
  · simp only [exec_lrReturn, execLrReturn, hl, ht, Bool.not_true, Bool.false_eq_true, if_false, until_lamps, Bool.not_eq_true',
      ← apply_ite Outcome.next, withPort_port]
    congr 2
    obtain ⟨payload, k⟩ := classifyReturn pulses
    dsimp only
    by_cases hk : k = 0
    · subst hk
      rfl
    · rw [if_neg hk, if_neg hk]
  · simp only [exec_lrMissingTimeout, execLrMissingTimeout, hl, ht, Bool.not_true, Bool.false_eq_true, if_false, until_lamps, bump_lamps,
      withEngine_port]
    congr 3
    refine withPort_congr _ _ _ _ ?_
    simp only [bump_lamps, withEngine_port, until_lamps]

end Sys2Proof.Machine
end

section
/-! SUPPORT. What an operation leaves: its `kept_…` lemma read as an equation of the part. -/

namespace Sys2Proof.Machine
open Host

/-- The parts that a warm start can reach. -/
def warmReach : List Part := [.life, .od, .control, .clocks, .nvm, .update, .beat, .hostPort, .lanes, .tile, .ports, .cascade,
  .ingress, .video, .lamps, .sent]

@[simp] theorem beginWarm_thermal (s : State) (c : Nat) : (s.beginWarm c).thermal = s.thermal :=
  (ignoresAll_same (x := .thermal) (s₀ := s) (l := warmReach) (by decide)).discharge kept_beginWarm s c rfl

@[simp] theorem beginWarm_role (s : State) (c : Nat) : (s.beginWarm c).role = s.role :=
  (ignoresAll_same (x := .role) (s₀ := s) (l := warmReach) (by decide)).discharge kept_beginWarm s c rfl

/-- A part of the state that each step of a fold leaves is the same after the fold. -/
theorem foldl_proj {α β : Type} (g : State → β) {f : State → α → State} (h : ∀ s a, g (f s a) = g s) (l : List α) (s : State) :
    g (l.foldl f s) = g s := by
  induction l generalizing s with
  | nil => rfl
  | cons a l ih => exact (ih (f s a)).trans (h s a)

theorem startLevel_life (s : State) (l : Nat) : (s.startLevel l).life = s.life :=
  (ignoresAll_same (x := .life) (s₀ := s) (l := [.od, .clocks, .sent]) (by decide)).discharge kept_startLevel s l rfl

theorem warmEngine_life (s : State) (p : Fin 64) : (s.warmEngine p).life = s.life :=
  (ignoresAll_same (x := .life) (s₀ := s) (l := [.od, .lamps, .sent]) (by decide)).discharge kept_warmEngine s p rfl

theorem clearRed_life (s : State) (p : Fin 2) : (s.clearRed p).life = s.life :=
  (ignoresAll_same (x := .life) (s₀ := s) (l := [.od, .ports]) (by decide)).discharge kept_clearRed s p rfl

theorem setPending_life (s : State) (p : Option CommitPending) : (s.setPending p).life = s.life :=
  (ignoresAll_same (x := .life) (s₀ := s) (l := [.od, .video]) (by decide)).discharge kept_setPending s p rfl

theorem masterReset_life (s : State) (m : BitVec 7) : (s.masterReset m).life = s.life :=
  (ignoresAll_same (x := .life) (s₀ := s) (l := [.od, .control, .nvm, .hostPort, .sent]) (by decide)).discharge kept_masterReset s m rfl

theorem masterReset_clocks (s : State) (m : BitVec 7) : (s.masterReset m).clocks = s.clocks :=
  (ignoresAll_same (x := .clocks) (s₀ := s) (l := [.od, .control, .nvm, .hostPort, .sent]) (by decide)).discharge kept_masterReset s m rfl

theorem masterReset_now (s : State) (m : BitVec 7) : (s.masterReset m).now = s.now :=
  (ignoresAll_same (x := .now) (s₀ := s) (l := [.od, .control, .nvm, .hostPort, .sent]) (by decide)).discharge kept_masterReset s m rfl

theorem warmParts_life (s : State) : s.warmParts.life = .warmStart := rfl

/-- What both branches have in a part, the choice has. -/
theorem ite_proj {α β : Type} {a b : α} {v : β} (g : α → β) (p : Prop) [Decidable p] (ha : g a = v) (hb : g b = v) : g (if p then a else b) = v := by
  split
  · exact ha
  · exact hb

theorem warmed_life (s : State) : ((((s.warmParts.setPending none).clearRed 0).clearRed 1).wrN 0x2880 0x0D 0 |>.wrN 0x3100 0x03 0).life =
    .warmStart :=
  (wrN_life _ _ _ _).trans <| (wrN_life _ _ _ _).trans <| (clearRed_life _ _).trans <| (clearRed_life _ _).trans <| setPending_life _ _

@[simp] theorem beginWarm_life (s : State) (c : Nat) : (s.beginWarm c).life = .warmStart := by
  unfold State.beginWarm
  refine (startLevel_life _ _).trans ((foldl_proj State.life warmEngine_life _ _).trans ((withClocks_life _ _).trans ?_))
  exact ite_proj State.life _ ((wrN_life _ _ _ _).trans (warmed_life _)) (warmed_life _)

/-! ### The resets that the device brings about (R390, R445, R463, R526) -/

theorem watchdogExpiry_main {s u : State} {recent : List Nat} (hu : s.up = true)
    (hdue : ((s.until_ (s.clocks.wdtRestarted[(0 : Fin 2)] + s.clocks.wdtInForce[(0 : Fin 2)] * ms)).raise 0xA105
      (det 0xFF (0 : Fin 2))).withCascade (fun c => { c with wdtFault := true }) = u)
    (hrecent : (u.clocks.wdtExpiries.filter fun t => decide (u.now < t + 60 * second)) = recent) : execClusterWatchdogExpiry 0 s =
    if 3 ≤ (u.now :: recent).length then .next (u.beginCold 4)
    else .next ((u.withClocks fun c => { c with wdtExpiries := u.now :: recent }).beginWarm 18) := by
  subst hdue hrecent
  unfold execClusterWatchdogExpiry
  rw [hu]
  exact (if_neg Bool.false_ne_true).trans (if_pos rfl)

theorem watchdogExpiry_service {s u v : State} (hu : s.up = true) (hdue : ((s.until_ (s.clocks.wdtRestarted[(1 : Fin 2)] + s.clocks.wdtInForce[(1 : Fin 2)] * ms)).raise 0xA105
      (det 0xFF (1 : Fin 2))).withCascade (fun c => { c with wdtFault := true }) = u)
    (hv : ([0x44, 0x45, 0x46, 0x47] : List (BitVec 7)).foldl State.masterReset u = v) : execClusterWatchdogExpiry 1 s =
    .next (v.withClocks fun c => { c with
      wdtRestarted := vset c.wdtRestarted 1 v.now
      wdtInForce := vset c.wdtInForce 1 (v.rdN 0x3200 0x14) }) := by
  subst hdue hv
  unfold execClusterWatchdogExpiry
  rw [hu]
  exact (if_neg Bool.false_ne_true).trans (if_neg (by decide))

theorem vset_same {α : Type} {n : Nat} (v : Vector α n) (i : Fin n) (x : α) : (vset v i x)[i] = x := Vector.getElem_set_self _

theorem coolingComplete_cooled {s : State} {since : Nat} (hu : s.up = true) (hp : s.thermal.phase = .cooling since)
    (h16 : 16 ≤ s.thermal.coolRounds) : execCoolingComplete s =
    if (s.thermal.tripTimes.filter fun t => decide (since < t + 3600 * second)).length < 3 then
      .next (((((s.withThermal fun t => { t with phase := .normal }).emit (.pin .thermTripN true)).raise 0x7104
        (0xFF + sat 0xFFFF ((((s.withThermal fun t => { t with phase := .normal }).emit (.pin .thermTripN true)).now - since) / second) * 256))).beginWarm 20)
    else .next ((s.withThermal fun t => { t with phase := .latched }).raise 0x7103
      (det 0xFF (s.thermal.tripTimes.filter fun t => decide (since < t + 3600 * second)).length)) := by
  unfold execCoolingComplete
  rw [hp]
  exact if_neg (by simp [hu, h16])

/-- Settles O40: each reset begins where its conditions stand, and a service cluster restarts alone. -/
theorem commandedResets : Obligations.CommandedResets := by
  intro s
  refine ⟨fun hs hn he hc => ?_, fun hs hn he => ?_, fun c hu => if_pos hu, ?_, fun since hu hp h16 => ⟨fun ht => ?_, fun ht => ?_⟩⟩
  · simp [execNmtResetNode, hs, hn, he, hc]
  · simp [execNmtResetNode, hs, hn, he]
  · intro hu due recent
    have main := watchdogExpiry_main (u := due 0) (recent := recent) hu (by simp only [due, ms]) rfl
    have service := watchdogExpiry_service (u := due 1) hu (by simp only [due, ms]) rfl
    refine ⟨fun h => main.trans (if_pos ?_), fun h => main.trans (if_neg ?_),
      _, (exec_clusterWatchdogExpiry _ _).trans service, ?_, ?_⟩
    · rw [List.length_cons]
      omega
    · rw [List.length_cons]
      omega
    · rw [withClocks_life, foldl_proj State.life masterReset_life]
      have life : (due 1).life = s.life := by rw [withCascade_life, raise_life, until_life]
      rw [life]
      exact beq_iff_eq.mp hu
    · rw [withClocks_clocks]
      exact (vset_same _ _ _).trans (foldl_proj State.now masterReset_now _ _)
  · refine ⟨_, (coolingComplete_cooled hu hp h16).trans (if_pos ht), beginWarm_life _ _, ?_⟩
    rw [beginWarm_thermal, raise_thermal, emit_thermal, withThermal_thermal]
  · exact (coolingComplete_cooled hu hp h16).trans (if_neg (Nat.not_lt.mpr ht))

end Sys2Proof.Machine
end

section
/-! SUPPORT. Clock-loss hold and the clock parts around it: what leaves the hold flag, and what a cleared lane field reads (R435, R438). -/

namespace Sys2Proof.Machine
open Host

/-! ### What leaves the hold of the clocks -/

theorem beginSwitch_hold (s : State) (d : Fin 60) (b : Bool) : (s.beginSwitch d b).clocks.hold = s.clocks.hold := rfl

theorem switchClusters_hold (s : State) (a b : Nat) : (s.switchClusters a b).clocks.hold = s.clocks.hold := by
  unfold State.switchClusters
  exact foldl_proj (fun u : State => u.clocks.hold) (fun u d => beginSwitch_hold u d _) _ s

theorem commandLevel_clocks (s : State) (l : Nat) : (s.commandLevel l).clocks = s.clocks := by
  unfold State.commandLevel
  simp

theorem startLevel_hold (s : State) (l : Nat) : (s.startLevel l).clocks.hold = s.clocks.hold := by
  unfold State.startLevel
  split
  · rfl
  · split
    · rfl
    · dsimp only
      split
      · rw [commandLevel_clocks, withClocks_clocks]
      · rw [switchClusters_hold, withClocks_clocks]

theorem endLevel_hold (s : State) (a b : Nat) : (s.endLevel a b).clocks.hold = s.clocks.hold := by
  unfold State.endLevel
  dsimp only
  have changed (u : State) : (if a = u.level then u else (u.wrN 0x2D00 0x03 a).bump 0x2D00 0x08 1).clocks.hold = u.clocks.hold :=
    ite_proj (fun u : State => u.clocks.hold) _ rfl (by rw [bump_clocks, wrN_clocks])
  split
  · exact (startLevel_hold _ _).trans (changed _)
  · exact changed _

theorem advanceLevel_hold (s : State) (c : LevelChange) : (s.advanceLevel c).clocks.hold = s.clocks.hold := by
  unfold State.advanceLevel
  dsimp only
  split
  · split
    · rw [switchClusters_hold, withClocks_clocks]
    · split
      · exact endLevel_hold _ _ _
      · rfl
  · split
    · rw [commandLevel_clocks]
      rfl
    · split
      · rfl
      · exact endLevel_hold _ _ _

theorem clockStep_hold (s : State) : s.clockStep.clocks.hold = s.clocks.hold := by
  unfold State.clockStep
  split
  · rfl
  · dsimp only
    exact ite_proj (fun u : State => u.clocks.hold) _ (advanceLevel_hold _ _) rfl

theorem forceSwitch_hold (s : State) (d : Fin 60) (b : Bool) (l : List (BitVec 7)) : (s.forceSwitch d b l).clocks.hold = s.clocks.hold := by
  unfold State.forceSwitch
  rw [foldl_proj (fun u : State => u.clocks.hold) (fun u m => by rw [raise_clocks]), raise_clocks, bump_clocks, bump_clocks]
  rfl

theorem toPll_hold (s : State) (p : Fin 8) : (s.toPll p).clocks.hold = s.clocks.hold := by
  unfold State.toPll
  exact foldl_proj (fun u : State => u.clocks.hold) (fun u d => by split <;> rfl) _ _

theorem dropRuns_clocks (s : State) : s.dropRuns.clocks = s.clocks :=
  (ignoresAll_same (x := .clocks) (s₀ := s) (l := [.od, .lanes]) (by decide)).discharge kept_dropRuns s rfl

theorem resetMasters_clocks (s : State) : s.resetMasters.clocks = s.clocks :=
  (ignoresAll_same (x := .clocks) (s₀ := s) (l := [.od, .control, .nvm, .hostPort, .sent]) (by decide)).discharge kept_resetMasters s rfl

theorem restartAccess_clocks (s : State) : s.restartAccess.clocks = s.clocks :=
  (ignoresAll_same (x := .clocks) (s₀ := s) (l := [.control, .sent]) (by decide)).discharge kept_restartAccess s rfl

theorem resetHostPort_clocks (s : State) (b : Bool) : (s.resetHostPort b).clocks = s.clocks :=
  (ignoresAll_same (x := .clocks) (s₀ := s) (l := [.control, .hostPort, .sent]) (by decide)).discharge kept_resetHostPort s b rfl

theorem warmBeat_clocks (s : State) : s.warmBeat.clocks = s.clocks :=
  (ignoresAll_same (x := .clocks) (s₀ := s) (l := [.od, .beat]) (by decide)).discharge kept_warmBeat s rfl

theorem warmParts_clocks (s : State) : s.warmParts.clocks = s.clocks := rfl

theorem setPending_clocks (s : State) (p : Option CommitPending) : (s.setPending p).clocks = s.clocks :=
  (ignoresAll_same (x := .clocks) (s₀ := s) (l := [.od, .video]) (by decide)).discharge kept_setPending s p rfl

theorem clearRed_clocks (s : State) (p : Fin 2) : (s.clearRed p).clocks = s.clocks :=
  (ignoresAll_same (x := .clocks) (s₀ := s) (l := [.od, .ports]) (by decide)).discharge kept_clearRed s p rfl

theorem warmEngine_clocks (s : State) (p : Fin 64) : (s.warmEngine p).clocks = s.clocks :=
  (ignoresAll_same (x := .clocks) (s₀ := s) (l := [.od, .lamps, .sent]) (by decide)).discharge kept_warmEngine s p rfl

theorem bringUpPort_clocks (s : State) (p : Fin 3) : (s.bringUpPort p).clocks = s.clocks :=
  (ignoresAll_same (x := .clocks) (s₀ := s) (l := [.od, .lanes, .sent]) (by decide)).discharge kept_bringUpPort s p rfl

theorem bringUpPort_life (s : State) (p : Fin 3) : (s.bringUpPort p).life = s.life :=
  (ignoresAll_same (x := .life) (s₀ := s) (l := [.od, .lanes, .sent]) (by decide)).discharge kept_bringUpPort s p rfl

theorem toPll_life (s : State) (p : Fin 8) : (s.toPll p).life = s.life :=
  (ignoresAll_same (x := .life) (s₀ := s) (l := [.clocks]) (by decide)).discharge kept_toPll s p rfl

/-- What a warm start has cleared, before its clocks and its engines: its clocks are those from before. -/
theorem warmed_clocks (s : State) (c : Nat) : (((((((((((s.wrN 0x2D00 0x18 c).bump 0x2D00 0x1A 1).dropRuns.resetMasters.restartAccess).resetHostPort
    true).warmBeat.warmParts).setPending none).clearRed 0).clearRed 1).wrN 0x2880 0x0D 0).wrN 0x3100 0x03 0)).clocks = s.clocks :=
  (wrN_clocks _ _ _ _).trans <| (wrN_clocks _ _ _ _).trans <| (clearRed_clocks _ _).trans <| (clearRed_clocks _ _).trans <|
  (setPending_clocks _ _).trans <| (warmParts_clocks _).trans <| (warmBeat_clocks _).trans <| (resetHostPort_clocks _ _).trans <|
  (restartAccess_clocks _).trans <| (resetMasters_clocks _).trans <| (dropRuns_clocks _).trans <| (bump_clocks _ _ _ _).trans <|
  wrN_clocks _ _ _ _

/-- The hold flag of the clocks. -/
def State.holdFlag (s : State) : Bool := s.clocks.hold

theorem holdFlag_eq (s : State) : s.holdFlag = s.clocks.hold := id rfl

theorem holdFlag_of_clocks {s t : State} (h : t.clocks = s.clocks) : t.holdFlag = s.holdFlag := congrArg Clocks.hold h

theorem startLevel_holdFlag (s : State) (l : Nat) : (s.startLevel l).holdFlag = s.holdFlag := startLevel_hold s l

theorem withClocks_holdFlag {s : State} {f : Clocks → Clocks} (h : ∀ c, (f c).hold = c.hold) : (s.withClocks f).holdFlag = s.holdFlag :=
  h s.clocks

theorem warmEngine_holdFlag (s : State) (p : Fin 64) : (s.warmEngine p).holdFlag = s.holdFlag := holdFlag_of_clocks (warmEngine_clocks s p)

theorem beginWarm_holdFlag (s : State) (c : Nat) : (s.beginWarm c).holdFlag = s.holdFlag := by
  unfold State.beginWarm
  refine (startLevel_holdFlag _ _).trans ?_
  refine (foldl_proj State.holdFlag warmEngine_holdFlag _ _).trans ?_
  refine (withClocks_holdFlag ?_).trans (holdFlag_of_clocks ?_)
  · exact fun _ => rfl
  · exact ite_proj State.clocks _ ((wrN_clocks _ _ _ _).trans (warmed_clocks s c)) (warmed_clocks s c)

theorem beginWarm_hold (s : State) (c : Nat) : (s.beginWarm c).clocks.hold = s.clocks.hold := by
  rw [← holdFlag_eq, beginWarm_holdFlag, holdFlag_eq]

/-! ### Clock-loss hold (R435, R438) -/

theorem idleLanes_lane (s : State) : s.idleLanes.lanes.lane = Vector.replicate 24 Lane.reset := rfl

theorem idleLanes_clocks (s : State) : s.idleLanes.clocks = s.clocks :=
  (ignoresAll_same (x := .clocks) (s₀ := s) (l := [.od, .control, .nvm, .lanes, .quartz, .sent]) (by decide)).discharge kept_idleLanes s rfl

/-- Settles O38: what the hold forces and clears leaves the hold flag, and its end is a warm start of a running device. -/
theorem clockLossHold : Obligations.ClockLossHold := by
  intro s aborted hc
  refine ⟨fun h => ?_, fun h hp => ?_⟩
  · refine ⟨_, if_neg (by simp [hc, h]), ?_, idleLanes_lane _⟩
    rw [idleLanes_clocks, clockStep_hold]
    exact foldl_proj (fun u : State => u.clocks.hold) (fun u d => forceSwitch_hold _ _ _ _) _ _
  · refine ⟨_, if_neg (by simpa [hc, h] using hp), ?_, ?_⟩
    · rw [foldl_proj State.clocks bringUpPort_clocks]
      refine ite_proj (fun u : State => u.clocks.hold) _ ((beginWarm_hold _ _).trans ?_) ?_ <;>
        exact foldl_proj (fun u : State => u.clocks.hold) toPll_hold _ _
    · rw [foldl_proj State.life bringUpPort_life]
      have life (l : List (Fin 8)) (f : Clocks → Clocks) : (l.foldl State.toPll ((s.pass (10 * ms)).withClocks f)).life = s.life := by
        rw [foldl_proj State.life toPll_life, withClocks_life, pass_life]
      by_cases hl : s.life = .running
      · rw [if_pos hl, if_pos (by simp [State.up, life, hl]), beginWarm_life]
      · rw [if_neg hl, if_neg (by simp [State.up, life, hl]), life]

end Sys2Proof.Machine
end

section
/-! SUPPORT. A housekeeping round: what each of its parts leaves of the clock and of the die's estimates (R456, R459). -/

namespace Sys2Proof.Machine
open Host

/-! ### What the parts of a round leave of the device clock -/

/-- The parts that a judgement of the round's readings can reach. -/
def judgeReach : List Part := [.od, .control, .thermal, .nvm, .sent]

theorem round_now (s : State) (die : Vector (Option Int) 8) :
    ((s.calRound die).dieEstimate.boardTemp.derateTarget.checkSupplies.checkHoldup.checkCore.countCool.flashWindow.lampTemps.trackLevel).now = s.now :=
  have judge := ignoresAll_same (x := .now) (s₀ := s) (l := judgeReach) (by decide)
  have core := ignoresAll_same (x := .now) (s₀ := s) (l := [.od, .control, .clocks, .nvm, .sent]) (by decide)
  have cal := (ignoresAll_same (x := .now) (s₀ := s) (l := [.nvm]) (by decide)).discharge kept_calRound s die rfl
  have derated := judge.discharge kept_derateTarget _ (judge.discharge kept_boardTemp _ (judge.discharge kept_dieEstimate _ cal))
  have held := (ignoresAll_same (x := .now) (s₀ := s) (l := [.od]) (by decide)).discharge kept_checkHoldup _
    (judge.discharge kept_checkSupplies _ derated)
  have cooled := (ignoresAll_same (x := .now) (s₀ := s) (l := [.thermal]) (by decide)).discharge kept_countCool _
    (core.discharge kept_checkCore _ held)
  core.discharge kept_trackLevel _ ((ignoresAll_same (x := .now) (s₀ := s) (l := [.od, .control, .nvm, .video, .sent]) (by decide)).discharge
    kept_lampTemps _ (judge.discharge kept_flashWindow _ cooled))

theorem publishRound_now (s : State) (v : Nat → Option Int) : (s.publishRound v).now = s.now :=
  (ignoresAll_same (x := .now) (s₀ := s) (l := [.od, .control, .thermal, .nvm, .sent, .freeCount]) (by decide)).discharge kept_publishRound s v rfl

theorem drainDue_now (n : Nat) (s : State) : (State.drainDue n s).now = s.now :=
  (ignoresAll_same (x := .now) (s₀ := s) (l := [.control, .sent]) (by decide)).discharge kept_drainDue n s rfl

theorem drainDue_thermal (n : Nat) (s : State) : (State.drainDue n s).thermal = s.thermal :=
  (ignoresAll_same (x := .thermal) (s₀ := s) (l := [.control, .sent]) (by decide)).discharge kept_drainDue n s rfl

/-! ### What they leave of the die's sensors -/

/-- What a round says of the sensors: their estimates, the channels and the count of rounds. -/
def State.sensors (s : State) : Vector (Option Int) 8 × Vector Channel 96 × Nat := (s.thermal.tf, s.thermal.chan, s.thermal.coldRounds)

theorem sensors_of_thermal {s t : State} (h : t.thermal = s.thermal) : t.sensors = s.sensors := by rw [State.sensors, h, State.sensors]

theorem withThermal_sensors {s : State} {f : Thermal → Thermal}
    (h : ((f s.thermal).tf, (f s.thermal).chan, (f s.thermal).coldRounds) = (s.thermal.tf, s.thermal.chan, s.thermal.coldRounds)) :
    (s.withThermal f).sensors = s.sensors := h

theorem calRound_thermal (s : State) (die : Vector (Option Int) 8) : (s.calRound die).thermal = s.thermal :=
  (ignoresAll_same (x := .thermal) (s₀ := s) (l := [.nvm]) (by decide)).discharge kept_calRound s die rfl

theorem boardTemp_sensors (s : State) : s.boardTemp.sensors = s.sensors := by
  unfold State.boardTemp
  dsimp only
  split
  · exact (sensors_of_thermal (wrI_thermal _ _ _ _)).trans (withThermal_sensors rfl)
  · split
    · rfl
    · exact (sensors_of_thermal (raise_thermal _ _ _)).trans (withThermal_sensors rfl)

theorem derateTarget_sensors (s : State) : s.derateTarget.sensors = s.sensors := by
  unfold State.derateTarget
  extract_lets die a b u
  have hu : u.sensors = s.sensors := (sensors_of_thermal (wrI_thermal _ _ _ _)).trans (sensors_of_thermal (wrI_thermal _ _ _ _))
  clear_value u
  split
  · exact ite_proj State.sensors _ ((withThermal_sensors rfl).trans hu) hu
  · exact ite_proj State.sensors _ (((sensors_of_thermal (raise_thermal _ _ _)).trans (withThermal_sensors rfl)).trans hu) hu

theorem checkSupplies_sensors (s : State) : s.checkSupplies.sensors = s.sensors := by
  unfold State.checkSupplies
  refine foldl_proj State.sensors (fun u i => ?_) _ s
  split
  · rfl
  · exact (sensors_of_thermal (raiseIf_thermal _ _ _ _)).trans (withThermal_sensors rfl)

theorem checkHoldup_thermal (s : State) : s.checkHoldup.thermal = s.thermal :=
  (ignoresAll_same (x := .thermal) (s₀ := s) (l := [.od]) (by decide)).discharge kept_checkHoldup s rfl

theorem checkCore_thermal (s : State) : s.checkCore.thermal = s.thermal :=
  (ignoresAll_same (x := .thermal) (s₀ := s) (l := [.od, .control, .clocks, .nvm, .sent]) (by decide)).discharge kept_checkCore s rfl

theorem countCool_sensors (s : State) : s.countCool.sensors = s.sensors := by
  unfold State.countCool
  split
  · exact withThermal_sensors rfl
  · rfl

theorem issueFlash_thermal (s : State) : s.issueFlash.thermal = s.thermal :=
  (ignoresAll_same (x := .thermal) (s₀ := s) (l := [.nvm]) (by decide)).discharge kept_issueFlash s rfl

theorem deferCal_thermal (s : State) : s.deferCal.thermal = s.thermal :=
  (ignoresAll_same (x := .thermal) (s₀ := s) (l := [.od, .control, .nvm, .sent]) (by decide)).discharge kept_deferCal s rfl

theorem closeWindow_sensors (s : State) (c : Nat) : (s.closeWindow c).sensors = s.sensors := by
  unfold State.closeWindow
  refine ite_proj State.sensors _ rfl ?_
  exact (sensors_of_thermal (deferCal_thermal _)).trans <| (sensors_of_thermal (raise_thermal _ _ _)).trans <|
    (withThermal_sensors rfl).trans (sensors_of_thermal (wrB_thermal _ _ _ _))

theorem flashWindow_sensors (s : State) : s.flashWindow.sensors = s.sensors := by
  unfold State.flashWindow
  extract_lets die
  split
  rename_i site known _
  extract_lets cool good counted
  have hcount : counted.sensors = s.sensors := withThermal_sensors rfl
  clear_value counted good cool
  refine ite_proj State.sensors _ ?_ (ite_proj State.sensors _ ?_ (ite_proj State.sensors _ hcount ?_))
  · exact ite_proj State.sensors _ (closeWindow_sensors _ _) (ite_proj State.sensors _ (closeWindow_sensors _ _) rfl)
  · exact (sensors_of_thermal (issueFlash_thermal _)).trans (sensors_of_thermal (wrB_thermal _ _ _ _))
  · exact (sensors_of_thermal (issueFlash_thermal _)).trans <| (sensors_of_thermal (raise_thermal _ _ _)).trans <|
      (sensors_of_thermal (wrB_thermal _ _ _ _)).trans hcount

theorem lampTemps_thermal (s : State) : s.lampTemps.thermal = s.thermal :=
  (ignoresAll_same (x := .thermal) (s₀ := s) (l := [.od, .control, .nvm, .video, .sent]) (by decide)).discharge kept_lampTemps s rfl

theorem trackLevel_thermal (s : State) : s.trackLevel.thermal = s.thermal :=
  (ignoresAll_same (x := .thermal) (s₀ := s) (l := [.od, .control, .clocks, .nvm, .sent]) (by decide)).discharge kept_trackLevel s rfl

theorem judged_sensors (s : State) :
    (s.boardTemp.derateTarget.checkSupplies.checkHoldup.checkCore.countCool.flashWindow.lampTemps.trackLevel).sensors = s.sensors := by
  rw [sensors_of_thermal (trackLevel_thermal _), sensors_of_thermal (lampTemps_thermal _), flashWindow_sensors, countCool_sensors,
    sensors_of_thermal (checkCore_thermal _), sensors_of_thermal (checkHoldup_thermal _), checkSupplies_sensors, derateTarget_sensors,
    boardTemp_sensors]

/-- The estimates that a round takes of its readings (R459). -/
theorem dieEstimate_sensors (s : State) : s.dieEstimate.sensors = (Vector.ofFn fun i : Fin 8 =>
    if s.thermal.chan[i.1].valid then
      match s.thermal.tf[i] with
      | none => some s.thermal.chan[i.1].reading
      | some f => some ((3 * f + s.thermal.chan[i.1].reading + 2) / 4)
    else s.thermal.tf[i], s.thermal.chan, s.thermal.coldRounds) := by
  unfold State.dieEstimate
  extract_lets t tf valid few die u
  have hu : u.sensors = (tf, s.thermal.chan, s.thermal.coldRounds) := (sensors_of_thermal (wrI_thermal _ _ _ _)).trans rfl
  refine (sensors_of_thermal (raiseIf_thermal _ _ _ _)).trans (hu.trans ?_)
  refine congrArg (·, s.thermal.chan, s.thermal.coldRounds) (congrArg Vector.ofFn (funext fun i => ?_))
  by_cases h : s.thermal.chan[i.1].valid = true
  · simp [t, h] <;> rfl
  · simp [t, h]

/-- A round takes its readings into the channels and adds one to the count of rounds. -/
theorem publishRound_thermal (s : State) (v : Nat → Option Int) :
    ∃ chan, (s.publishRound v).thermal = { s.thermal with chan := chan, coldRounds := s.thermal.coldRounds + 1 } := by
  unfold State.publishRound
  extract_lets old early was good
  split
  rename_i free r heq
  extract_lets judged counted shown
  have hr : r.thermal = s.thermal := by rw [show r = (s.freeNat).2 from congrArg Prod.snd heq.symm]; rfl
  have hshown : shown.thermal = { s.thermal with chan := judged.map fun j => j.1, coldRounds := s.thermal.coldRounds + 1 } := by
    rw [wrN_thermal, withThermal_thermal, hr]
  clear_value shown
  refine ⟨_, ite_proj State.thermal _ hshown ((foldl_proj State.thermal (fun u c => ?_) _ _).trans hshown)⟩
  split
  · rfl
  · extract_lets w
    have hw : w.thermal = u.thermal := ite_proj State.thermal _ rfl (bump_thermal _ _ _ _)
    exact ite_proj State.thermal _ ((raise_thermal _ _ _).trans hw) (ite_proj State.thermal _ ((raise_thermal _ _ _).trans hw) hw)

/-! ### An event keeps what has been put out -/

section
variable {l : List Out} {s : State}

theorem emit_sent_prefix (h : l <+: s.sent) (o : Out) : l <+: (s.emit o).sent := h.trans (List.prefix_append _ _)

theorem drainEmcy_sent_prefix (h : l <+: s.sent) : l <+: s.drainEmcy.sent := by
  unfold State.drainEmcy
  split
  · exact h
  · dsimp only
    split <;> split
    · exact emit_sent_prefix h _
    · exact h
    · exact emit_sent_prefix h _
    · exact h

theorem sendEmcy_sent_prefix (h : l <+: s.sent) (m : List Byte) : l <+: (s.sendEmcy m).sent := by
  unfold State.sendEmcy
  extract_lets _ u dest
  have hu : l <+: u.sent := by
    simp only [u]
    split
    · exact drainEmcy_sent_prefix h
    · exact h
  split
  · exact emit_sent_prefix hu _
  · exact hu

theorem note_sent_prefix (h : l <+: s.sent) (code detail : Nat) : l <+: (s.note code detail).sent := by
  unfold State.note
  extract_lets round outranked
  split
  extract_lets _ told counted times _ kept reg shown mailed _
  have htold : told.sent = s.sent := ite_proj State.sent _ rfl rfl
  have hmailed : l <+: mailed.sent := sendEmcy_sent_prefix (s := shown) (by rw [show shown.sent = s.sent from htold]; exact h) _
  split
  · exact hmailed
  · exact hmailed

theorem loseRecord_sent_prefix (h : l <+: s.sent) : l <+: s.loseRecord.sent := note_sent_prefix (s := s.bump 0x3000 0x19 1) h _ _

theorem stage_sent_prefix (h : l <+: s.sent) (r : Flint) : l <+: (s.stage r).sent := by
  unfold State.stage
  split
  · exact h
  · split
    · split
      · exact loseRecord_sent_prefix h
      · exact loseRecord_sent_prefix h
    · exact loseRecord_sent_prefix h

theorem record_sent_prefix (h : l <+: s.sent) (code detail : Nat) (data : List Byte) : l <+: (s.record code detail data).sent := by
  unfold State.record
  extract_lets sev refilled lost dropped limit
  split
  · split
    · exact note_sent_prefix (s := dropped.setLimiter _) h _ _
    · exact h
  · exact stage_sent_prefix (s := refilled.withBb _) h _

theorem raiseWith_sent_prefix (h : l <+: s.sent) (code detail : Nat) (data : List Byte) : l <+: (s.raiseWith code detail data).sent := by
  unfold State.raiseWith
  extract_lets u
  split
  · exact note_sent_prefix h _ _
  · exact record_sent_prefix (note_sent_prefix h _ _) _ _ _

theorem raise_sent_prefix (h : l <+: s.sent) (code detail : Nat) : l <+: (s.raise code detail).sent := raiseWith_sent_prefix h code detail []

theorem raiseIf_sent_prefix (h : l <+: s.sent) (c : Bool) (code detail : Nat) : l <+: (s.raiseIf c code detail).sent := by
  unfold State.raiseIf
  split
  · exact raise_sent_prefix h _ _
  · exact h

theorem deferKinds_sent_prefix (h : l <+: s.sent) (mask : Nat) : l <+: (s.deferKinds mask).sent := by
  unfold State.deferKinds
  exact List.foldlRecOn _ _ (motive := fun u : State => l <+: u.sent) h fun u hu k _ => raiseIf_sent_prefix hu _ _ _

theorem deferCal_sent_prefix (h : l <+: s.sent) : l <+: s.deferCal.sent := by
  unfold State.deferCal
  refine List.foldlRecOn _ _ (motive := fun u : State => l <+: u.sent) h fun u hu j _ => ?_
  split
  · exact deferKinds_sent_prefix hu _
  · exact hu

end

/-! ### A trip -/

/-- The parts that what a trip brings about in each role can reach. -/
def tripReach : List Part := [.od, .control, .nvm, .quartz, .tile, .video, .lamps, .sent]

theorem tripRole_thermal (s : State) : s.tripRole.thermal = s.thermal :=
  (ignoresAll_same (x := .thermal) (s₀ := s) (l := tripReach) (by decide)).discharge kept_tripRole s rfl

theorem tripRole_clocks (s : State) : s.tripRole.clocks = s.clocks :=
  (ignoresAll_same (x := .clocks) (s₀ := s) (l := tripReach) (by decide)).discharge kept_tripRole s rfl

theorem tripRole_life (s : State) : s.tripRole.life = s.life :=
  (ignoresAll_same (x := .life) (s₀ := s) (l := tripReach) (by decide)).discharge kept_tripRole s rfl

theorem stopPresenting_sent (s : State) : s.stopPresenting.sent = s.sent := rfl

theorem tripRole_sent_prefix (s : State) : s.sent <+: s.tripRole.sent := by
  unfold State.tripRole
  split
  · exact raise_sent_prefix (emit_sent_prefix (by rw [stopPresenting_sent]) _) _ _
  · split
    · exact List.prefix_rfl
    · exact List.prefix_rfl
  · exact List.prefix_rfl

theorem stopPresenting_tile (s : State) : s.stopPresenting.tile = s.tile := rfl

theorem tripRole_tile {s : State} (h : s.role = .tile) : s.tripRole.tile.thermal = true := by
  unfold State.tripRole
  rw [h]
  dsimp only
  rw [raise_tile, emit_tile, stopPresenting_tile]

theorem tripRole_sender {s : State} (h : s.role = .sender) : s.tripRole.quartz.master = false := by
  unfold State.tripRole
  rw [h]
  dsimp only
  split
  · rfl
  · simpa using ‹¬ s.quartz.master = true›

/-- The parts that a closing flash window can reach. -/
def closeReach : List Part := [.od, .control, .thermal, .nvm, .sent]

theorem closeWindow_part (s : State) (c : Nat) {x : Part} (hx : x ∉ closeReach) : s.same (s.closeWindow c) x :=
  (ignoresAll_same (s₀ := s) hx).discharge kept_closeWindow s c (by cases x <;> rfl)

/-- What a closing flash window keeps of the trip: its phase, the rounds of the cooling and the history. -/
theorem closeWindow_trip (s : State) (c : Nat) : (s.closeWindow c).thermal.phase = s.thermal.phase ∧
    (s.closeWindow c).thermal.coolRounds = s.thermal.coolRounds ∧ (s.closeWindow c).thermal.tripTimes = s.thermal.tripTimes := by
  unfold State.closeWindow
  split
  · exact ⟨rfl, rfl, rfl⟩
  · rw [deferCal_thermal, raise_thermal, withThermal_thermal, wrB_thermal]
    exact ⟨rfl, rfl, rfl⟩

theorem closeWindow_sent_prefix (s : State) (c : Nat) : s.sent <+: (s.closeWindow c).sent := by
  unfold State.closeWindow
  split
  · exact List.prefix_rfl
  · exact deferCal_sent_prefix (raise_sent_prefix (by rw [withThermal_sent, wrB_sent]) _ _)

/-- The parts that an event can reach. -/
def eventReach : List Part := [.od, .control, .nvm, .sent]

theorem raiseWith_part (s : State) (code d : Nat) (data : List Byte) {x : Part} (hx : x ∉ eventReach) : s.same (s.raiseWith code d data) x :=
  (ignoresAll_same (s₀ := s) hx).discharge kept_raiseWith s code d data (by cases x <;> rfl)

theorem raiseWith_life (s : State) (code d : Nat) (data : List Byte) : (s.raiseWith code d data).life = s.life :=
  raiseWith_part s code d data (x := .life) (by decide)

theorem raiseWith_role (s : State) (code d : Nat) (data : List Byte) : (s.raiseWith code d data).role = s.role :=
  raiseWith_part s code d data (x := .role) (by decide)

theorem raiseWith_thermal (s : State) (code d : Nat) (data : List Byte) : (s.raiseWith code d data).thermal = s.thermal :=
  raiseWith_part s code d data (x := .thermal) (by decide)

theorem raiseWith_clocks (s : State) (code d : Nat) (data : List Byte) : (s.raiseWith code d data).clocks = s.clocks :=
  raiseWith_part s code d data (x := .clocks) (by decide)

theorem powerDomains_thermal (s : State) (on : Bool) : (s.powerDomains on).thermal = s.thermal := rfl

theorem powerDomains_life (s : State) (on : Bool) : (s.powerDomains on).life = s.life := rfl

theorem powerDomains_role (s : State) (on : Bool) : (s.powerDomains on).role = s.role := rfl

theorem powerDomains_change (s : State) (on : Bool) : (s.powerDomains on).clocks.change = s.clocks.change := rfl

/-- What a trip does in a running device. -/
theorem thermalTrip_effect {s : State} {die : Vector Int 8} {ch : Fin 8} {r : Out1} (hu : s.up = true) (hr : s.role ≠ .none)
    (hc : s.cooling = false) (ht : s.tripChannel die = some ch) (hexec : execThermalTrip die s = r) :
    ∃ u : State, r = .next (u.tripRole.closeWindow 1) ∧
    (u.thermal.phase = .cooling s.now ∧ u.thermal.coolRounds = 0 ∧ u.thermal.tripTimes = s.now :: s.thermal.tripTimes) ∧
    u.clocks.change = none ∧ u.life = .running ∧ u.role = s.role ∧ Out.pin .thermTripN false ∈ u.sent := by
  have hlife : s.life = .running := beq_iff_eq.mp hu
  have goes : (s.life == .inReset || s.role == .none || s.cooling) = false := by simp [hlife, hr, hc]
  unfold execThermalTrip at hexec
  extract_lets cooling begun abandoned fallen read bytes data at hexec
  rw [if_neg (show ¬(s.life == .inReset || s.role == .none || cooling) = true from Bool.eq_false_iff.mp goes)] at hexec
  simp -zeta only [ht] at hexec
  extract_lets told woken at hexec
  have htold : told.life = .running := by
    rw [raiseWith_life, emit_life, powerDomains_life, withClocks_life, bump_life, withThermal_life, hlife]
  have hwoken : woken = told := if_neg (by rw [htold]; decide)
  rw [hwoken] at hexec
  refine ⟨told, hexec.symm, ?_, ?_, htold, ?_, ?_⟩
  · rw [raiseWith_thermal, emit_thermal, powerDomains_thermal, withClocks_thermal, bump_thermal, withThermal_thermal]
    exact ⟨rfl, rfl, rfl⟩
  · rw [raiseWith_clocks, emit_clocks, powerDomains_change, withClocks_clocks]
  · rw [raiseWith_role, emit_role, powerDomains_role, withClocks_role, bump_role, withThermal_role]
  · exact (raiseWith_sent_prefix List.prefix_rfl _ _ _).subset (List.mem_append_right _ (List.mem_singleton.mpr rfl))

/-- A housekeeping round: what its time gives, the readings taken, and the judgement of them. -/
theorem hkRound_eq {s come w p t : State} {die : Vector (Option Int) 8} {supply : Vector Nat 8} {holdup : Nat} {nvm : Option Int}
    (hl : s.life ≠ .inReset) (hcome : s.until_ (s.clocks.coldAt + (s.thermal.coldRounds + 1) * 8 * ms) = come)
    (hw : (if come.emcyAllowed then come.drainDue come.control.emcyQueue.length else come) = w)
    (hp : w.publishRound (w.roundReadings die supply holdup nvm) = p)
    (ht : (p.calRound die).dieEstimate.boardTemp.derateTarget.checkSupplies.checkHoldup.checkCore.countCool.flashWindow.lampTemps.trackLevel = t) :
    execHkRound die supply holdup nvm s =
      .next { t with lamps := { t.lamps with engine := t.lamps.engine.map fun e => { e with hkTemp := none } } } := by
  subst ht hp hw hcome
  unfold execHkRound
  exact if_neg hl

/-- A round's time, and the sensors as its readings leave them. -/
theorem hkRound_rounds {s : State} {die : Vector (Option Int) 8} {supply : Vector Nat 8} {holdup : Nat} {nvm : Option Int}
    (hl : s.life ≠ .inReset) : ∃ (t w : State) (v : Nat → Option Int), execHkRound die supply holdup nvm s = .next t ∧
    w.thermal = s.thermal ∧ t.now = (s.until_ (s.clocks.coldAt + (s.thermal.coldRounds + 1) * 8 * ms)).now ∧
    t.sensors = ((w.publishRound v).calRound die).dieEstimate.sensors := by
  obtain ⟨come, hcome⟩ : ∃ come, s.until_ (s.clocks.coldAt + (s.thermal.coldRounds + 1) * 8 * ms) = come := ⟨_, rfl⟩
  obtain ⟨w, hw⟩ : ∃ w, (if come.emcyAllowed then come.drainDue come.control.emcyQueue.length else come) = w := ⟨_, rfl⟩
  obtain ⟨p, hp⟩ : ∃ p, w.publishRound (w.roundReadings die supply holdup nvm) = p := ⟨_, rfl⟩
  obtain ⟨t, ht⟩ : ∃ t, (p.calRound die).dieEstimate.boardTemp.derateTarget.checkSupplies.checkHoldup.checkCore.countCool.flashWindow.lampTemps.trackLevel = t :=
    ⟨_, rfl⟩
  refine ⟨_, w, w.roundReadings die supply holdup nvm, hkRound_eq hl hcome hw hp ht, ?_, ?_, ?_⟩
  · rw [← hw, ← until_thermal s (s.clocks.coldAt + (s.thermal.coldRounds + 1) * 8 * ms), hcome]
    exact ite_proj State.thermal _ (drainDue_thermal _ _) rfl
  · have hdrained : w.now = come.now := by
      rw [← hw]
      exact ite_proj State.now _ (drainDue_now _ _) rfl
    change t.now = _
    rw [← ht, round_now, ← hp, publishRound_now, hdrained, hcome]
  · change t.sensors = _
    rw [← ht, judged_sensors, hp]

theorem now_until (s : State) (t : Nat) : t ≤ (s.until_ t).now := by
  unfold State.until_
  split
  · assumption
  · exact le_rfl

/-- Settles O41: a round by its parts, each of which leaves the clock and, after the estimates, the sensors; a trip by its role. -/
theorem housekeepingAndTrip : Obligations.HousekeepingAndTrip := by
  intro s
  refine ⟨fun die supply holdup nvm hl => ?_, fun die ch hu hr hc ht => ?_⟩
  · obtain ⟨t, w, v, hexec, hthermal, htime, hsensors⟩ := hkRound_rounds (die := die) (supply := supply) (holdup := holdup) (nvm := nvm) hl
    obtain ⟨chan, hpub⟩ := publishRound_thermal w v
    rw [dieEstimate_sensors, calRound_thermal, hpub, hthermal] at hsensors
    simp only [State.sensors, Prod.mk.injEq] at hsensors
    obtain ⟨htf, hchan, hcold⟩ := hsensors
    refine ⟨t, hexec, hcold, ?_, fun i => ?_⟩
    · rw [htime]
      exact (by simp only [ms]; omega : _ ≤ s.clocks.coldAt + (s.thermal.coldRounds + 1) * 8 * ms).trans (now_until _ _)
    · rw [htf, hchan]
      simp <;> rfl
  · obtain ⟨u, hexec, ⟨hcooling, hrounds, hhistory⟩, hchange, hlife, hrole, hpin⟩ :=
      thermalTrip_effect hu hr hc ht (exec_thermalTrip die s).symm
    obtain ⟨hphase, hcool, htimes⟩ := closeWindow_trip u.tripRole 1
    refine ⟨_, hexec, ?_, ?_, ?_, ?_, ?_, ?_, fun h => ?_, fun h => ?_⟩
    · rw [hphase, tripRole_thermal, hcooling]
    · rw [hcool, tripRole_thermal, hrounds]
    · rw [htimes, tripRole_thermal, hhistory]
    · rw [(closeWindow_part _ 1 (x := .clocks) (by decide) : (State.closeWindow _ 1).clocks = _), tripRole_clocks, hchange]
    · rw [(closeWindow_part _ 1 (x := .life) (by decide) : (State.closeWindow _ 1).life = _), tripRole_life, hlife]
    · exact ((tripRole_sent_prefix u).trans (closeWindow_sent_prefix _ 1)).subset hpin
    · rw [(closeWindow_part _ 1 (x := .tile) (by decide) : (State.closeWindow _ 1).tile = _)]
      exact tripRole_tile (hrole.trans h)
    · rw [(closeWindow_part _ 1 (x := .quartz) (by decide) : (State.closeWindow _ 1).quartz = _)]
      exact tripRole_sender (hrole.trans h)

end Sys2Proof.Machine
end

section
/-! SUPPORT. What NMT, the heartbeat, the TPDOs and LSS do on a CAN node (R387, R390, R394, R396). -/

namespace Sys2Proof.Machine
open Host

/-! ### NMT, heartbeat and TPDOs -/

section
variable {s : State}

theorem nmtSet_open (h : s.nmtOpen = true) (n : Nmt) : s.nmtSet n = { s with control := { s.control with nmt := n } } := if_pos h

theorem isSender_of_nmtOpen (h : s.nmtOpen = true) : s.isSender = true := (Bool.and_eq_true_iff.mp h).1

theorem nmtResetCommunication_open (h : s.nmtOpen = true) :
    execNmtResetCommunication s = .next (if s.rdB 0x3300 0x0D then s.restartCan else s.raise 0x1305 (det 0 130)) := by
  unfold execNmtResetCommunication
  rw [isSender_of_nmtOpen h]
  cases s.rdB 0x3300 0x0D <;> rfl

theorem heartbeatProduce_open {u : State} (h : s.nmtOpen = true) (ht : s.rdN 0x1017 0 ≠ 0)
    (hu : s.until_ (s.control.hbAt + s.rdN 0x1017 0 * ms) = u) : execHeartbeatProduce s = .next { u with
      control := { s.control with hbAt := u.now }
      sent := s.sent ++ [.can (0x700 + s.control.nodeId) (leBytes 1 s.control.nmt.code)] } := by
  obtain ⟨hsender, hnode⟩ := Bool.and_eq_true_iff.mp h
  have control : u.control = s.control := by rw [← hu, until_control]
  have sent : u.sent = s.sent := by rw [← hu, until_sent]
  have role : u.role = .sender := by rw [← hu, until_role]; exact beq_iff_eq.mp (Bool.and_eq_true_iff.mp hsender).2
  unfold execHeartbeatProduce
  refine (if_neg (by simp [h, ht])).trans ?_
  dsimp only
  rw [hu, ← control, ← sent, State.canSend, if_pos (by simpa [role, control] using hnode)]
  rfl

theorem heartbeatConsumerTimeout_open {k : Fin 4} (h : s.nmtOpen = true) (ht : s.rdN 0x1016 (k + 1) % 65536 ≠ 0)
    (hn : s.rdN 0x1016 (k + 1) / 65536 % 256 ≠ 0) : execHeartbeatConsumerTimeout k s =
    .next { s with control := { s.control with hbLost := vset s.control.hbLost k true } } := if_neg (by simp [h, ht, hn])

theorem tpdoOn_of (h : s.nmtOpen = true) {n : Fin 4} (ho : s.control.nmt = .operational) (hb : bit (s.pdoCob true n) 31 = false) :
    s.tpdoOn n = true := by simp [State.tpdoOn, isSender_of_nmtOpen h, ho, hb]

theorem syncTpdo_due {n : Fin 4} (h : s.tpdoOn n = true) (h1 : 1 ≤ s.rdN (0x1800 + n) 0x02) (h240 : s.rdN (0x1800 + n) 0x02 ≤ 240)
    (hd : s.rdN (0x1800 + n) 0x02 ≤ s.control.syncCount[n] + 1) : s.syncTpdo n = s.sendTpdo n := by
  unfold State.syncTpdo
  exact (if_neg (by simp [h]; omega)).trans (if_pos hd)

theorem syncTpdo_counts {n : Fin 4} (h : s.tpdoOn n = true) (h1 : 1 ≤ s.rdN (0x1800 + n) 0x02) (h240 : s.rdN (0x1800 + n) 0x02 ≤ 240)
    (hd : s.control.syncCount[n] + 1 < s.rdN (0x1800 + n) 0x02) : s.syncTpdo n = { s with
      control := { s.control with syncCount := vset s.control.syncCount n (s.control.syncCount[n] + 1) } } := by
  unfold State.syncTpdo
  exact (if_neg (by simp [h]; omega)).trans (if_neg (Nat.not_le.mpr hd))

theorem tpdoEventTimer_due {n : Fin 4} {last : Nat} (h : s.tpdoOn n = true) (h254 : 254 ≤ s.rdN (0x1800 + n) 0x02)
    (ht : s.rdN (0x1800 + n) 0x05 ≠ 0) (hl : s.control.tpdoAt[n] = some last) : execTpdoEventTimer n s =
    .next ((s.until_ (max (last + s.rdN (0x1800 + n) 0x05 * ms) (last + s.rdN (0x1800 + n) 0x03 * 100000))).sendTpdo n) := by
  unfold execTpdoEventTimer
  refine (if_neg (by simp [h, ht]; omega)).trans ?_
  rw [hl]
  rfl

end

/-! ### LSS -/

section
variable {s : State}

theorem lssSwitchStateGlobal_taken (h : s.isSender = true) {mode : Byte} (hm : mode.toNat ≤ 1) : execLssSwitchStateGlobal mode s =
    .next (s.withLss fun l => { l with configuring := mode == 1 }) := if_pos (by simp [h, hm])

theorem lssSwitchStateSelective_hit (h : s.isSender = true) {a b c d : Word}
    (hid : [a.toNat, b.toNat, c.toNat, d.toNat] = (List.range 4).map s.identity) : execLssSwitchStateSelective a b c d s =
    .next ((s.withLss fun l => { l with configuring := true }).lssAnswer [0x44]) := if_pos (by simp only [h, hid]; simp)

theorem lssFastscan_reset (h : s.isSender = true) (hn : s.control.nodeId = 0xFF) (hc : s.control.lss.configuring = false) (id : Word)
    (sub next : Byte) : execLssFastscan id 128 sub next s = .next ((s.withLss fun l => { l with fastscanSub := 0 }).lssAnswer [0x4F]) :=
  (if_neg (by simp [h, hn, hc])).trans (if_pos rfl)

theorem lssFastscan_last (h : s.isSender = true) (hn : s.control.nodeId = 0xFF) (hc : s.control.lss.configuring = false) {id : Word}
    {sub next : Byte} (h4 : sub.toNat < 4) (hs : sub.toNat = s.control.lss.fastscanSub) (hid : id.toNat = s.identity sub.toNat) :
    execLssFastscan id 0 sub next s = .next ((s.withLss fun l => { l with
      fastscanSub := next.toNat % 4, configuring := decide (next.toNat < sub.toNat) }).lssAnswer [0x4F]) :=
  (if_neg (by simp [h, hn, hc])).trans ((if_neg (by decide)).trans ((if_pos ⟨hs, h4, by decide, by rw [hid]⟩).trans rfl))

theorem lssConfig_of (h : s.isSender = true) (hc : s.control.lss.configuring = true) : s.lssConfig = true := by
  simp [State.lssConfig, h, hc]

theorem lssConfigureNodeId_taken (h : s.lssConfig = true) {id : Byte} (h1 : 1 ≤ id.toNat) (h127 : id.toNat ≤ 127) :
    execLssConfigureNodeId id s = .next ((s.wrN 0x2003 0x01 id.toNat).lssAnswer [0x11, 0]) := by
  have ok : (decide (1 ≤ id.toNat ∧ id.toNat ≤ 127) || id.toNat == 255) = true := by simp [h1, h127]
  unfold execLssConfigureNodeId
  dsimp only
  rw [ok, if_pos h]
  rfl

theorem lssConfigureNodeId_refused (h : s.lssConfig = true) {id : Byte} (hid : id.toNat = 0 ∨ (127 < id.toNat ∧ id.toNat ≠ 255)) :
    execLssConfigureNodeId id s = .next (s.lssAnswer [0x11, 1]) := by
  have no : (decide (1 ≤ id.toNat ∧ id.toNat ≤ 127) || id.toNat == 255) = false := by simp; omega
  unfold execLssConfigureNodeId
  dsimp only
  rw [no, if_pos h]
  rfl

theorem lssConfigureBitTiming_taken (h : s.lssConfig = true) {index : Byte} {r : Nat} (hr : lssRate index.toNat = some r) :
    execLssConfigureBitTiming 0 index s = .next ((s.withLss fun l => { l with pendingRate := some r }).lssAnswer [0x13, 0]) := by
  unfold execLssConfigureBitTiming
  rw [if_pos rfl, hr, h]
  rfl

theorem lssActivateBitTiming_pending (h : s.lssConfig = true) {r : Nat} (hr : s.control.lss.pendingRate = some r) (delay : BitVec 16) :
    execLssActivateBitTiming delay s = .next ((((s.pass (2 * delay.toNat * ms)).wrN 0x2003 0x02 r).withControl fun k => { k with
      arbRate := r }).withLss fun l => { l with pendingRate := none }) := by
  unfold execLssActivateBitTiming
  simp only [h, hr]

theorem lssStoreConfiguration_stored (h : s.lssConfig = true) : execLssStoreConfiguration s =
    .next ((s.storeWrite 2).2.lssAnswer ([0x17] ++ leBytes 1 (if (s.storeWrite 2).1 = 0 then 0 else 2))) := by
  unfold execLssStoreConfiguration
  rw [if_pos h]

theorem pass_now (s : State) (ns : Nat) : (s.pass ns).now = s.now + ns := by
  unfold State.pass State.until_
  split
  · omega
  · rfl

end

/-- Settles O48: each service of the node by its equation. -/
theorem canNodeServices : Obligations.CanNodeServices := by
  refine ⟨fun s h => ?_, fun s h => ?_⟩
  · refine ⟨congrArg Outcome.next (nmtSet_open h _), congrArg Outcome.next (nmtSet_open h _), congrArg Outcome.next (nmtSet_open h _),
      fun he => (nmtResetCommunication_open h).trans (by rw [he]; rfl), fun he => (nmtResetCommunication_open h).trans (by rw [he]; rfl),
      fun ht => ?_, fun k ht hn => heartbeatConsumerTimeout_open h ht hn, rfl, fun n ho hb => ?_⟩
    · intro u
      exact (exec_heartbeatProduce s).trans (heartbeatProduce_open h ht (by simp only [u, ms]))
    · have on := tpdoOn_of h ho hb
      exact ⟨fun h1 h240 => ⟨syncTpdo_due on h1 h240, syncTpdo_counts on h1 h240⟩, fun last h254 ht hl => tpdoEventTimer_due on h254 ht hl⟩
  · refine ⟨lssSwitchStateGlobal_taken h (by decide), lssSwitchStateGlobal_taken h (by decide), fun a b c d => lssSwitchStateSelective_hit h,
      fun vendor product revLow revHigh serLow serHigh hv hp hrl hrh hsl hsh => if_pos ?_, fun hn => if_pos (by simp [h, hn]),
      fun id sub next hn hc => lssFastscan_reset h hn hc id sub next, fun id sub next hn hc h4 hs hid => lssFastscan_last h hn hc h4 hs hid, fun hc => ?_⟩
    · simp [h, hv, hp, hrl, hrh, hsl, hsh]
    · have on := lssConfig_of h hc
      refine ⟨fun id => lssConfigureNodeId_taken on, fun id => lssConfigureNodeId_refused on, fun index r => lssConfigureBitTiming_taken on,
        fun delay r hr => ⟨_, lssActivateBitTiming_pending on hr delay, rfl, rfl, ?_⟩, fun he => ?_, fun he => ?_, fun k => if_pos on, if_pos on⟩
      · rw [withLss_now, withControl_now, wrN_now, pass_now, ms]
      · rw [exec_lssStoreConfiguration, lssStoreConfiguration_stored on, if_pos he]
        rfl
      · rw [exec_lssStoreConfiguration, lssStoreConfiguration_stored on, if_neg he]
        rfl

end Sys2Proof.Machine
end

section
/-! SUPPORT. What a request of the service port does (R494, R496): its answer leaves all of the update but the answers kept and the
count of the frames sent. -/

namespace Sys2Proof.Machine
open Host

/-! ### What an answer leaves of the update -/

theorem originate_update (s : State) (type tsw : Nat) (b : List Byte) : (s.originate type tsw b).update = s.update :=
  (ignoresAll_same (x := .update) (s₀ := s) (l := [.od, .control, .nvm, .tile, .sent]) (by decide)).discharge kept_originate s type tsw b rfl

theorem sendService_update (s : State) (src : SvcSource) (b : List Byte) :
    ∃ frames, (s.sendService src b).update = { s.update with frames := frames } := by
  cases src with
  | sgmii a p => exact ⟨s.update.frames, rfl⟩
  | chain => exact ⟨s.update.frames + 1, originate_update _ _ _ _⟩
  | chainAll => exact ⟨s.update.frames + 1, originate_update _ _ _ _⟩

theorem svcAnswer_update (s : State) (src : SvcSource) (b : List Byte) (status arg : Nat) (data : List Byte) :
    ∃ answers frames, (s.svcAnswer src b status arg data).update = { s.update with answers := answers, frames := frames } := by
  obtain ⟨frames, h⟩ := sendService_update (s.keepAnswer src (field b 4 4) (answerTo b (s.rdN 0x3100 0x02) status arg data)) src
    (answerTo b (s.rdN 0x3100 0x02) status arg data)
  exact ⟨_, frames, h⟩

theorem svcAnswer_hello (s : State) (src : SvcSource) (b : List Byte) (status arg : Nat) (data : List Byte) :
    (s.svcAnswer src b status arg data).update.hello = s.update.hello := by
  obtain ⟨answers, frames, h⟩ := svcAnswer_update s src b status arg data
  rw [h]

theorem svcAnswer_armed (s : State) (src : SvcSource) (b : List Byte) (status arg : Nat) (data : List Byte) :
    (s.svcAnswer src b status arg data).update.armed = s.update.armed := by
  obtain ⟨answers, frames, h⟩ := svcAnswer_update s src b status arg data
  rw [h]

theorem svcAnswer_record (s : State) (src : SvcSource) (b : List Byte) (status arg : Nat) (data : List Byte) :
    (s.svcAnswer src b status arg data).update.record = s.update.record := by
  obtain ⟨answers, frames, h⟩ := svcAnswer_update s src b status arg data
  rw [h]

theorem updState_update (s : State) (v : Nat) : ∃ frames, (s.updState v).update = { s.update with frames := frames } := by
  unfold State.updState
  dsimp only
  split
  · unfold State.sendReportFrame
    split
    · exact sendService_update _ _ _
    · exact ⟨s.update.frames, rfl⟩
  · exact ⟨s.update.frames, rfl⟩

/-! ### A request that is acted on -/

section
variable {s u : State} {src : SvcSource} {b : List Byte}

/-- The time of the last request of a session is the present one where the request is the session's. -/
theorem service_requested (h : (if s.update.session = some src.key then s.withUpdate fun x => { x with lastRequest := s.now } else s) = u) :
    (if s.update.session == some src.key then s.withUpdate fun x => { x with lastRequest := s.now } else s) = u := by
  subst h
  by_cases hk : s.update.session = some src.key
  · rw [if_pos hk, if_pos (beq_iff_eq.mpr hk)]
  · rw [if_neg hk, if_neg (by simpa using hk)]

theorem requested_answers (h : (if s.update.session = some src.key then s.withUpdate fun x => { x with lastRequest := s.now } else s) = u) :
    u.update.answers = s.update.answers ∧ u.pointing = s.pointing := by
  subst h
  split <;> exact ⟨rfl, rfl⟩

/-- A request whose TAG its source has not just used is acted on. -/
theorem service_acts {op : Nat} (hup : s.serviceUp = true) (hv : field b 0 1 = 1)
    (hu : (if s.update.session = some src.key then s.withUpdate fun x => { x with lastRequest := s.now } else s) = u)
    (hk : ∀ a, (s.update.answers.find? fun a => a.1 == src.key) = some a → a.2.1 ≠ field b 4 4) (hop : field b 1 1 = op) :
    s.service op src b = State.service.go op src b u := by
  obtain ⟨answers, -⟩ := requested_answers hu
  unfold State.service
  rw [if_neg (by simp [hup, hv, hop]), service_requested hu]
  dsimp only
  rw [answers]
  split
  · exact if_neg (hk _ ‹_›)
  · rfl

/-- A request that repeats the TAG of its source's last one is answered from the answer kept. -/
theorem service_repeats {op : Nat} {k : SvcSource} {a : List Byte} (hup : s.serviceUp = true) (hv : field b 0 1 = 1)
    (hu : (if s.update.session = some src.key then s.withUpdate fun x => { x with lastRequest := s.now } else s) = u)
    (hk : (s.update.answers.find? fun a => a.1 == src.key) = some (k, field b 4 4, a)) (ha : a ≠ []) (hop : field b 1 1 = op) :
    s.service op src b = u.sendService src a := by
  obtain ⟨answers, -⟩ := requested_answers hu
  unfold State.service
  rw [if_neg (by simp [hup, hv, hop]), service_requested hu]
  dsimp only
  rw [answers, hk]
  exact (if_pos rfl).trans (if_neg ha)

end

/-! ### The operations -/

section
variable {s : State} {src : SvcSource} {b : List Byte}

theorem svcHello_hello : ∃ n, (s.svcHello src b).update.hello = some (n, s.now) := by
  unfold State.svcHello
  exact ⟨_, svcAnswer_hello _ _ _ _ _ _⟩

theorem openStatus_open {k : SvcSource} {r : SessionRecord} (hs : s.update.session = some k) (hr : s.update.record = some r) :
    (s.openStatus src b).1 = (if r.digest = slice (svcData b) 0 32 then 2 else 1) ∧ (s.openStatus src b).2.2.update.record = some r := by
  unfold State.openStatus
  simp only [hs, hr]
  split <;> exact ⟨rfl, hr⟩

theorem svcOpen_open {k : SvcSource} {r : SessionRecord} (hs : s.update.session = some k) (hr : s.update.record = some r) :
    (s.svcOpen src b).update.record = some r := by
  obtain ⟨hstatus, hrecord⟩ := openStatus_open (src := src) (b := b) hs hr
  unfold State.svcOpen
  generalize s.openStatus src b = o at hstatus hrecord
  obtain ⟨status, owner, t⟩ := o
  dsimp only at hstatus hrecord ⊢
  rw [if_pos (by rw [hstatus]; split <;> decide), raise_update, svcAnswer_record]
  exact hrecord

theorem svcVerify_full {r : SessionRecord} (hr : s.sessionOf src b = some r) (h1 : s.rdN 0x3100 0x01 = 1) (hf : r.full = true)
    (hw : s.windowOpen = true) : s.svcVerify src b = ((s.updState 2).startRun 0x3100 0x09).svcAnswer src b 0 0 [] := by
  unfold State.svcVerify
  rw [hr]
  exact (if_neg (by simp [h1, hf])).trans (if_neg (by simp [hw]))

theorem svcVerify_partial {r : SessionRecord} (hr : s.sessionOf src b = some r) (hf : r.full = false) :
    s.svcVerify src b = s.svcAnswer src b 11 0 [] := by
  unfold State.svcVerify
  rw [hr]
  exact if_pos (by simp [hf])

/-- ACTIVATE of the code in a verified session: at once without a frame, armed with one. -/
theorem svcActivate_allowed {r : SessionRecord} (hr : s.sessionOf src b = some r) (ht : r.target = 0) (h3 : s.rdN 0x3100 0x01 = 3)
    (ok : s.refusal s.update.ownerProof [3, 4, 5, 6] = 0) : s.svcActivate src b =
    if svcData b = [] then (s.activate r).replyLater src b
    else ((s.withUpdate fun u => { u with armed := some (field (svcData b) 0 8) }).updState 4).svcAnswer src b 0 0 [] := by
  unfold State.svcActivate
  dsimp only
  rw [hr]
  exact (if_neg (by simp [ht, h3])).trans (if_neg (by simp [ok]))

theorem updState_armed (s : State) (v : Nat) : (s.updState v).update.armed = s.update.armed := by
  obtain ⟨frames, h⟩ := updState_update s v
  rw [h]

theorem abandon_session (s : State) : s.abandon.update.session = none := by
  unfold State.abandon
  dsimp only
  rw [raise_update]
  rfl

theorem svcFinalize_none (h : s.pointer.state = 0) : s.svcFinalize src b = s.svcAnswer src b 0 0 [] := by
  unfold State.svcFinalize
  rw [h]
  rfl

theorem svcFinalize_trial (h : s.pointer.state = 1) : s.svcFinalize src b = s.svcAnswer src b 11 0 [] := by
  unfold State.svcFinalize
  rw [h]
  rfl

end

/-- Settles O47: one lemma says when a request is acted on and one when it is answered again; each operation by its cases. -/
theorem servicePort : Obligations.ServicePort := by
  refine ⟨fun s src b hup hv hp => ?_, fun s src b => ⟨svcHello_hello, fun k r hs hr => ⟨fun hd => ?_, fun hd => ?_, svcOpen_open hs hr⟩,
    fun hn => ?_, fun r hr => ⟨svcVerify_full hr, svcVerify_partial hr, fun ht h3 ok => ⟨fun hd => ?_, fun hd => ?_⟩, ?_⟩, fun h4 => ?_,
    fun h0 => ⟨svcFinalize_none h0, if_pos h0⟩, svcFinalize_trial⟩⟩
  · intro u kept
    refine ⟨fun hk => ?_, fun k a hk ha hop => congrArg Outcome.next (service_repeats hup hv rfl hk ha hop)⟩
    have quiet : u.pointing = false := (requested_answers rfl).2.trans hp
    have no {op : Nat} : ¬ (u.pointing && [6, 8, 9].contains op) = true := by simp [quiet]
    have does {op : Nat} {t : State} (hop : field b 1 1 = op) (hgo : State.service.go op src b u = t) :
        (Outcome.next (s.service op src b) : Out1) = .next t := congrArg Outcome.next ((service_acts hup hv rfl hk hop).trans hgo)
    exact ⟨fun h => does h (if_neg no), fun h => does h (if_neg no), fun h => does h (if_neg no), fun h => does h (if_neg no),
      fun h => does h (if_neg no), fun h => does h (if_neg no), fun h => does h (if_neg no), fun h => does h (if_neg no),
      fun h => does h (if_neg no), fun h => does h (if_neg no), fun h => does h (if_neg no)⟩
  · rw [(openStatus_open hs hr).1, if_pos hd]
  · rw [(openStatus_open hs hr).1, if_neg hd]
  · refine ⟨?_, ?_, ?_, ?_⟩
    · unfold State.svcVerify
      rw [hn]
    · unfold State.svcActivate
      rw [hn]
    · unfold State.svcClose
      rw [hn]
    · unfold State.writeStatus
      rw [hn]
  · rw [svcActivate_allowed hr ht h3 ok, if_pos hd]
  · rw [svcActivate_allowed hr ht h3 ok, if_neg hd, svcAnswer_armed, updState_armed, withUpdate_update]
  · unfold State.svcClose
    rw [hr]
    exact abandon_session _
  · unfold State.svcCancel
    dsimp only
    rw [if_pos h4, svcAnswer_armed, updState_armed, withUpdate_update]

end Sys2Proof.Machine
end

section
/-! SUPPORT. The UDP association and its datagrams, the RPDOs, and what ends by itself (R392 to R396). -/

namespace Sys2Proof.Machine
open Host

theorem now_until_of_le {s : State} {t : Nat} (h : s.now ≤ t) : (s.until_ t).now = t := by
  unfold State.until_
  split
  · omega
  · rfl

/-! ### A context after an update of it -/

theorem withCtx_ctx? {s : State} {c : CtxId} {x : Ctx} (h : s.ctx? c = some x) (f : Ctx → Ctx) : (s.withCtx c f).ctx? c = some (f x) := by
  cases c with
  | can ch =>
    cases h
    exact congrArg some (vset_same _ _ _)
  | udp ch =>
    cases h
    exact congrArg (fun u : UdpChannel => some u.ctx) (vset_same _ _ _)
  | host =>
    cases h
    rfl
  | gateway l o => cases h

theorem until_ctx? (s : State) (t : Nat) (c : CtxId) : (s.until_ t).ctx? c = s.ctx? c := by
  cases c <;> simp only [State.ctx?, until_control]

theorem until_rdN (s : State) (t idx sub : Nat) : (s.until_ t).rdN idx sub = s.rdN idx sub := by
  simp only [State.rdN, State.rdI, State.rd, until_od, until_role]

theorem until_defaultLevel (s : State) (t : Nat) (c : CtxId) : (s.until_ t).defaultLevel c = s.defaultLevel c := by
  cases c <;> simp only [State.defaultLevel, until_rdN]

/-! ### The UDP association -/

section
variable {s : State} {ch : Fin 8} {src : Nat × Nat} {tag : Nat} {frame : List Byte}

/-- A request whose tag is the last one's, answered already, is answered again. -/
theorem udpRequest_repeats (ha : s.control.udp[ch].assoc = some src) (hb : s.control.udp[ch].busy = false)
    (ht : s.control.udp[ch].lastTag = some tag) (hr : s.control.udp[ch].lastResponse ≠ []) : s.udpRequest ch src tag frame =
    (((s.withControl fun k => { k with udp := vmod k.udp ch fun u => { u with lastRequest := s.now } }).touchCtx (.udp ch)).emit
      (.udp src.1 src.2 s.control.udp[ch].lastResponse)) := by
  unfold State.udpRequest
  exact (if_pos ha).trans ((if_neg (by simp only [hb]; decide)).trans ((if_pos ht).trans (if_neg hr)))

theorem udpRequest_new (ha : s.control.udp[ch].assoc = some src) (hb : s.control.udp[ch].busy = false)
    (ht : s.control.udp[ch].lastTag ≠ some tag) : s.udpRequest ch src tag frame = s.udpServe ch tag frame := by
  unfold State.udpRequest
  exact (if_pos ha).trans ((if_neg (by simp only [hb]; decide)).trans (if_neg ht))

/-- The channel of another association, in use in the last ten seconds, refuses. -/
theorem udpRequest_other {other : Nat × Nat} (ha : s.control.udp[ch].assoc = some other) (hne : other ≠ src)
    (hl : s.now < s.control.udp[ch].lastRequest + 10000000000) : s.udpRequest ch src tag frame =
    s.emit (.udp src.1 src.2 (sdoDatagram ch tag (padTo frame.length (abortFrame (frameIndex frame).1 (frameIndex frame).2 abState)))) := by
  unfold State.udpRequest
  exact (if_neg (by rw [ha]; simpa using hne)).trans (if_pos ⟨by rw [ha]; rfl, hl⟩)

end

/-- A datagram that carries a request names its channel, its tag and its frame. -/
theorem udpDatagram_parts (ch : Fin 8) (tag : BitVec 16) (frame : List Byte) :
    let data := [0x11, BitVec.ofNat 8 ch.1] ++ leBytes 2 tag.toNat ++ frame
    (byteAt data 1).toNat = ch.1 ∧ field data 2 2 = tag.toNat ∧ data.drop 4 = frame ∧ data.length = frame.length + 4 := by
  refine ⟨?_, ?_, rfl, by simp [leBytes]⟩
  · have : ch.1 % 256 = ch.1 := by omega
    simpa [byteAt]
  · have := tag.isLt
    simp [field, slice, leBytes, leNat]
    omega

theorem udpDatagramReceive_request {s : State} (h : s.up = true) (addr port : Nat) (ch : Fin 8) (tag : BitVec 16) {frame : List Byte}
    (hf : frame.length = 8 ∨ frame.length = 64) :
    execUdpDatagramReceive addr port ([0x11, BitVec.ofNat 8 ch.1] ++ leBytes 2 tag.toNat ++ frame) s =
      .next (s.udpRequest ch (addr, port) tag.toNat frame) := by
  obtain ⟨hch, htag, hdrop, hlen⟩ := udpDatagram_parts ch tag frame
  unfold execUdpDatagramReceive
  refine (if_neg (by simp [h])).trans ((if_pos ⟨rfl, by rw [hch]; exact ch.2, by omega⟩).trans ?_)
  simp only [hch, htag, hdrop, Nat.mod_eq_of_lt ch.2]

/-- What the UDP heartbeat says of a device: its NMT state where it is a sender, a state of its own choice elsewhere. -/
def State.heartbeatState (s : State) : Nat × State :=
  if s.role = .sender then (s.control.nmt.code, s) else (nmtCodes.getD (s.freeNat.1 % 4) 0, s.freeNat.2)

theorem nmtCode_mem (n : Nmt) : n.code ∈ nmtCodes := by cases n <;> decide

theorem nmtCodes_getD_mem {k : Nat} (h : k < 4) : nmtCodes.getD k 0 ∈ nmtCodes := by
  interval_cases k <;> decide

theorem heartbeatState_mem (s : State) : s.heartbeatState.1 ∈ nmtCodes := by
  unfold State.heartbeatState
  split
  · exact nmtCode_mem _
  · exact nmtCodes_getD_mem (Nat.mod_lt _ (by decide))

theorem heartbeatState_control (s : State) : s.heartbeatState.2.control = s.control := ite_proj (fun r : Nat × State => r.2.control) _ rfl rfl

theorem heartbeatState_now (s : State) : s.heartbeatState.2.now = s.now := ite_proj (fun r : Nat × State => r.2.now) _ rfl rfl

theorem heartbeatState_sent (s : State) : s.heartbeatState.2.sent = s.sent := ite_proj (fun r : Nat × State => r.2.sent) _ rfl rfl

theorem rdN_congr {s t : State} (hod : t.od = s.od) (hrole : t.role = s.role) (idx sub : Nat) : t.rdN idx sub = s.rdN idx sub := by
  simp only [State.rdN, State.rdI, State.rd, hod, hrole]

theorem udpHeartbeatSend_leaves {s u v : State} {r : Nat × State} (h : s.up = true) (hd : s.rdN 0x2002 0x06 ≠ 0) (ht : s.rdN 0x2002 0x08 ≠ 0)
    (hu : s.until_ (s.control.udpHbAt + s.rdN 0x2002 0x08 * ms) = u) (hv : (u.withControl fun k => { k with udpHbAt := u.now }) = v)
    (hr : v.heartbeatState = r) : execUdpHeartbeatSend s =
    .next (r.2.emit (.udp (s.rdN 0x2002 0x06) (v.rdN 0x2002 0x07) ([0x15, 0, 0, 0] ++ leBytes 1 r.1))) := by
  unfold execUdpHeartbeatSend
  refine (if_neg (by simp [h, hd, ht])).trans ?_
  dsimp only
  rw [hu, hv]
  change Outcome.next (v.heartbeatState.2.emit (.udp _ _ (_ ++ leBytes 1 v.heartbeatState.1))) = _
  rw [hr]

theorem sendEmcy_errTimes (s : State) (m : List Byte) : (s.sendEmcy m).control.errTimes = s.control.errTimes := by
  have drained (u : State) : u.drainEmcy.control.errTimes = u.control.errTimes := by
    unfold State.drainEmcy
    split
    · rfl
    · exact ite_proj (fun v : State => v.control.errTimes) _ rfl rfl
  have queued : (if s.emcyAllowed then State.drainEmcy { s with control := { s.control with emcyQueue := s.control.emcyQueue ++ [m] } }
      else s).control.errTimes = s.control.errTimes := ite_proj (fun v : State => v.control.errTimes) _ (drained _) rfl
  unfold State.sendEmcy
  exact ite_proj (fun v : State => v.control.errTimes) _ queued queued

theorem clearErrors_errTimes (s : State) (times : Vector (Option Nat) 3) : (s.clearErrors times).control.errTimes = times := by
  unfold State.clearErrors
  dsimp only
  split
  · rw [sendEmcy_errTimes, wrN_control, withControl_control]
  · rw [wrN_control, withControl_control]

theorem clearErrors_now (s : State) (times : Vector (Option Nat) 3) : (s.clearErrors times).now = s.now :=
  (ignoresAll_same (x := .now) (s₀ := s) (l := [.od, .control, .sent]) (by decide)).discharge kept_clearErrors s times rfl

/-- Settles O49: a channel by its association, an RPDO by its length, and each timer by what it ends. -/
theorem udpPdoAndAccessTimers : Obligations.UdpPdoAndAccessTimers := by
  refine ⟨fun s h => ⟨fun addr port ch tag frame hf => udpDatagramReceive_request h addr port ch tag hf, fun ch src tag frame => ⟨fun ha hb ht hr => ?_,
    fun ha hb ht => udpRequest_new ha hb ht, fun other ha hne hl => udpRequest_other ha hne hl⟩, fun addr port data h11 h13 => ?_, fun ch ha => ?_,
    fun hd ht => ?_, fun n data hr ho hb hd => ⟨fun hl => ?_, fun hl => ?_⟩⟩,
    fun s c x hx => ⟨fun n t hn => ?_, fun hl => ?_, fun hu => ?_, fun k t ht => ?_, fun hl => if_neg hl⟩⟩
  · rw [udpRequest_repeats ha hb ht hr]
    simp [State.emit]
  · rw [exec_udpDatagramReceive, execUdpDatagramReceive]
    have no (k : Byte) (hk : byteAt data 0 ≠ k) : (byteAt data 0).toNat ≠ k.toNat := fun e => hk (BitVec.eq_of_toNat_eq e)
    exact (if_neg (by simp [h])).trans ((if_neg fun hc => no 0x11 h11 hc.1).trans (if_neg fun hc => no 0x13 h13 hc.1))
  · refine ⟨_, if_neg (by simpa [h] using ha), until_control _ _, ?_⟩
    exact now_until _ _
  · obtain ⟨u, hu⟩ : ∃ u, s.until_ (s.control.udpHbAt + s.rdN 0x2002 0x08 * ms) = u := ⟨_, rfl⟩
    obtain ⟨v, hv⟩ : ∃ v, (u.withControl fun k => { k with udpHbAt := u.now }) = v := ⟨_, rfl⟩
    have sent : v.sent = s.sent := by rw [← hv, withControl_sent, ← hu, until_sent]
    have od : v.od = s.od := by rw [← hv, withControl_od, ← hu, until_od]
    have role : v.role = s.role := by rw [← hv, withControl_role, ← hu, until_role]
    have nmt : v.control.nmt = s.control.nmt := by rw [← hv, withControl_control, ← hu, until_control]
    have at_ : v.control.udpHbAt = v.now := by rw [← hv, withControl_control, withControl_now]
    refine ⟨_, BitVec.ofNat 8 v.heartbeatState.1, udpHeartbeatSend_leaves h hd ht hu hv rfl, ?_, fun hr => ?_, ?_, ?_⟩
    · rw [State.emit, rdN_congr od role, heartbeatState_sent, sent]
      rfl
    · rw [State.heartbeatState, if_pos (role.trans hr), nmt]
    · have mem := heartbeatState_mem v
      have small : ∀ n ∈ nmtCodes, (BitVec.ofNat 8 n).toNat = n := by decide
      rw [small _ mem]
      exact mem
    · rw [emit_control, emit_now, heartbeatState_control, heartbeatState_now, at_]
  · rw [exec_rpdoReceive, execRpdoReceive, if_pos (by simp [State.isSender, h, hr]), State.takeRpdo, if_neg (by simp [hb]),
      if_neg (by simp [ho, hl]), if_neg hd]
  · rw [exec_rpdoReceive, execRpdoReceive, if_pos (by simp [State.isSender, h, hr]), State.takeRpdo, if_neg (by simp [hb]),
      if_pos (Or.inr hl)]
    rfl
  · refine ⟨_, by rw [exec_challengeExpiry, execChallengeExpiry, hx, Option.bind_some, hn], ?_, ?_⟩
    · exact withCtx_ctx? ((until_ctx? _ _ _).trans hx) _
    · rw [withCtx_now]
      exact now_until _ _
  · refine ⟨_, by rw [exec_loginLockoutEnd, execLoginLockoutEnd, hx]; exact if_pos hl, ?_, ?_⟩
    · exact withCtx_ctx? ((until_ctx? _ _ _).trans hx) _
    · rw [withCtx_now]
      exact now_until_of_le hl.le
  · refine ⟨_, by rw [exec_idleLogoutExpiry, execIdleLogoutExpiry, hx]; exact if_pos hu, ?_, ?_⟩
    · rw [State.toDefault, until_defaultLevel]
      exact withCtx_ctx? ((until_ctx? _ _ _).trans hx) _
    · rw [State.toDefault, withCtx_now]
      exact now_until _ _
  · refine ⟨_, by rw [exec_errorClassClear, execErrorClassClear, ht], ?_, ?_⟩
    · rw [clearErrors_errTimes, until_control]
    · rw [clearErrors_now]
      exact now_until _ _

end Sys2Proof.Machine
end

section
/-! SUPPORT. What an SDO channel does with a request of each class (R379, R380, R389, R561). -/

namespace Sys2Proof.Machine
open Host

/-! ### A request reaches its channel -/

section
variable {s : State} {c : CtxId} {frame : List Byte}

/-- The new time of a context's last request leaves its transfer. -/
theorem touchCtx_xferOf (s : State) (c : CtxId) : (s.touchCtx c).xferOf c = s.xferOf c := by
  cases h : s.ctx? c with
  | none =>
    have same : s.touchCtx c = s := by
      cases c with
      | gateway l o => rfl
      | can ch => cases h
      | udp ch => cases h
      | host => cases h
    rw [same]
  | some x => simp only [State.xferOf, State.touchCtx, withCtx_ctx? h, h, Option.map_some]

/-- A request on an open channel that waits for nothing is served. -/
theorem sdoRow_serves {k : SdoClass} (ho : s.sdoOpen c frame = true) (hk : sdoClass (s.xferOf c) frame = k) (hw : (s.xferOf c).waits = false) :
    s.sdoRow c k frame = (s.touchCtx c).serve c frame := if_pos (by simp [ho, hk, hw])

theorem serve_class (s : State) (c : CtxId) (frame : List Byte) : (s.touchCtx c).serve c frame = match sdoClass (s.xferOf c) frame with
    | .initiateDownload => (s.touchCtx c).initiateDownload c frame
    | .downloadSegment => (s.touchCtx c).downloadSegment c frame
    | .initiateUpload => (s.touchCtx c).initiateUpload c frame
    | .uploadSegment => (s.touchCtx c).uploadSegment c frame
    | .blockInitiate => (s.touchCtx c).blockInitiate c frame
    | .blockSegment => (s.touchCtx c).blockSegment c frame
    | .blockEnd => (s.touchCtx c).blockEnd c frame
    | .blockUpload => (s.touchCtx c).blockUpload c frame
    | .abort => (s.touchCtx c).takeAbort c
    | .unknown => (s.touchCtx c).abortNow c frame abCommand := by
  unfold State.serve
  cases h : sdoClass (s.xferOf c) frame <;> simp only [touchCtx_xferOf, h]

/-! ### Download segments -/

section
variable {idx sub : Nat} {buf d : List Byte} {size : Option Nat} {toggle wide : Bool}

theorem abortNow_segDown (hx : s.xferOf c = .segDown idx sub buf size toggle wide) (hw : wide = (frame.length == 64)) (e : Nat) :
    s.abortNow c frame e = s.abortSdo c wide idx sub e := by
  unfold State.abortNow
  rw [hx, hw]
  rfl

theorem downloadSegment_toggle (hx : s.xferOf c = .segDown idx sub buf size toggle wide) (hd : segmentData frame = some d)
    (hw : wide = (frame.length == 64)) (ht : bit (byteAt frame 0).toNat 4 ≠ toggle) :
    s.downloadSegment c frame = s.abortSdo c wide idx sub 0x05030000 := by
  unfold State.downloadSegment
  simp only [hx, hd]
  exact (if_neg (by simp [hw])).trans ((if_pos (by simpa using ht)).trans (abortNow_segDown hx hw _))

theorem downloadSegment_tooLong {n : Nat} (hx : s.xferOf c = .segDown idx sub buf (some n) toggle wide) (hd : segmentData frame = some d)
    (hw : wide = (frame.length == 64)) (ht : bit (byteAt frame 0).toNat 4 = toggle) (hn : n < buf.length + d.length) :
    s.downloadSegment c frame = s.abortSdo c wide idx sub 0x06070010 := by
  unfold State.downloadSegment
  simp only [hx, hd]
  refine (if_neg (by simp [hw])).trans ((if_neg (by simpa using ht)).trans ((if_pos ?_).trans (abortNow_segDown hx hw _)))
  simpa using hn

/-- A segment within the size indicated, its toggle right: it joins the value gathered, or ends it. -/
theorem downloadSegment_joins (hx : s.xferOf c = .segDown idx sub buf size toggle wide) (hd : segmentData frame = some d)
    (hw : wide = (frame.length == 64)) (hl : (tileIndex idx).isSome = false) (ht : bit (byteAt frame 0).toNat 4 = toggle)
    (hn : ∀ n, size = some n → buf.length + d.length ≤ n) : s.downloadSegment c frame =
    if bit (byteAt frame 0).toNat 0 then
      if size.getD (buf ++ d).length ≠ (buf ++ d).length then s.abortNow c frame abLength
      else s.settle c wide idx sub (.download (some toggle)) (leBytes 1 (0x20 + bitAt toggle 4)) (buf ++ d)
    else (s.setXfer c (.segDown idx sub (buf ++ d) size (!toggle) wide)).answer c wide (leBytes 1 (0x20 + bitAt toggle 4)) := by
  have fits : ¬ size.getD (buf ++ d).length < (buf ++ d).length := by
    cases size with
    | none => exact lt_irrefl _
    | some n => simpa using hn n rfl
  unfold State.downloadSegment
  simp only [hx, hd, ht]
  exact (if_neg (by simp [hw])).trans ((if_neg (by simp)).trans ((if_neg (by simpa using fits)).trans (if_neg (by simp [hl]))))

end

/-! ### Upload segments and blocks -/

theorem uploadSegment_next {idx sub : Nat} {rest : List Byte} {toggle : Bool} (hx : s.xferOf c = .segUp idx sub rest toggle false)
    (hf : frame.length = 8) (ht : bit (byteAt frame 0).toNat 4 = toggle) : s.uploadSegment c frame =
    (s.setXfer c (if decide (rest.length ≤ 7) then .idle else .segUp idx sub (rest.drop 7) (!toggle) false)).answer c false
      (leBytes 1 (bitAt toggle 4 + bitAt (decide (rest.length ≤ 7)) 0 + 2 * (7 - (rest.take 7).length)) ++ rest.take 7) := by
  unfold State.uploadSegment
  simp only [hx]
  exact (if_neg (by simp [hf])).trans (if_neg (by simp [ht]))

theorem blockSegment_next {idx sub : Nat} {buf : List Byte} {size : Option Nat} {seq : Nat} {crc : Bool}
    (hx : s.xferOf c = .blkDown idx sub buf size seq crc false false) (hf : frame.length = 8) (hl : (tileIndex idx).isSome = false)
    (hseq : (byteAt frame 0).toNat % 128 = seq) (h1 : 1 ≤ seq) (h127 : seq < 127) (hlast : bit (byteAt frame 0).toNat 7 = false) :
    s.blockSegment c frame = s.setXfer c (.blkDown idx sub (buf ++ (frame.drop 1).take 7) size (seq + 1) crc false false) := by
  unfold State.blockSegment
  simp only [hx, hseq]
  refine (if_neg (by simp [hf])).trans ((if_neg (by omega)).trans ((if_neg (by simp [hl])).trans ((if_neg ?_).trans ?_)))
  · simp [hlast]
    omega
  · rw [if_pos trivial, if_pos trivial]
    rfl

theorem blockEnd_good {idx sub : Nat} {buf : List Byte} {size : Option Nat} {seq : Nat} {crc : Bool}
    (hx : s.xferOf c = .blkDown idx sub buf size seq crc true false) (hf : frame.length = 8) (d : List Byte)
    (hd : buf.take (buf.length - bits (byteAt frame 0).toNat 4 2) = d) (hcrc : crc = true → (sdoCrc d).toNat = field frame 1 2)
    (hn : ∀ n, size = some n → n = d.length) : s.blockEnd c frame = s.settle c false idx sub .blockDownload (leBytes 1 0xA1) d := by
  have small : bits (byteAt frame 0).toNat 4 2 < 8 := bits_lt _ _ _
  unfold State.blockEnd
  simp only [hx]
  refine (if_neg (by simp [hf]; omega)).trans ?_
  simp only [Bool.false_eq_true, if_false, hd]
  refine (if_neg ?_).trans (if_neg ?_)
  · cases crc <;> simp_all
  · cases size with
    | none => simp
    | some n => simpa using hn n rfl

end

/-! ### Expedited transfers -/

/-- The command byte of an expedited download of `n` bytes says that it is one, that its size is indicated, and the size. -/
theorem expedited_bits {v n : Nat} (hv : v = 0x23 + 4 * (4 - n)) (h1 : 1 ≤ n) (h4 : n ≤ 4) :
    bit v 1 = true ∧ bit v 0 = true ∧ 4 - bits v 3 2 = n := by
  subst hv
  interval_cases n <;> decide

section
variable {s : State} {c : CtxId} {idx sub : Nat} {frame : List Byte}

theorem settle_local {wide : Bool} {kind : GwKind} {ok data : List Byte} (hl : (tileIndex idx).isSome = false) :
    s.settle c wide idx sub kind ok data = if (s.writeLocal c idx sub data).1 ≠ 0 then
      (s.writeLocal c idx sub data).2.abortSdo c wide idx sub (s.writeLocal c idx sub data).1
    else ((s.writeLocal c idx sub data).2.setXfer c .idle).answer c wide ok := by
  unfold State.settle
  rw [if_neg (by simp [hl])]

/-- An expedited download: the checks, then the value is settled. -/
theorem initiateDownload_expedited {n : Nat} {r : Nat × State} (hf : frame.length = 8) (hi : field frame 1 2 = idx) (hs : field frame 3 1 = sub)
    (hv : (byteAt frame 0).toNat = 0x23 + 4 * (4 - n)) (h1 : 1 ≤ n) (h4 : n ≤ 4)
    (hr : (s.setXfer c .idle).initChecks c idx sub (some n) = r) : s.initiateDownload c frame =
    if r.1 ≠ 0 then r.2.abortSdo c false idx sub r.1
    else r.2.settle c false idx sub (.download none) (sdoHead 0x60 idx sub) ((frame.drop 4).take n) := by
  obtain ⟨expedited, sized, size⟩ := expedited_bits hv h1 h4
  unfold State.initiateDownload
  simp only [frameIndex, hi, hs, expedited, sized, size, if_true, hr, hf]
  rfl

end

/-- Settles O54: a request is served by its class; what each service does is the class's own lemma. -/
theorem sdoChannels : Obligations.SdoChannels := by
  refine ⟨fun s c frame ho hw => ?_, fun s c idx sub frame hf hi hs hl => ⟨fun n hv h1 h4 => ?_, fun x hx hu hw ho => ?_, fun ho hx => rfl⟩⟩
  · intro u x k cmd
    have serves {j : SdoClass} {t : State} (hk : k = j) (ht : u.serve c frame = t) : (Outcome.next (s.sdoRow c j frame) : Out1) = .next t :=
      congrArg Outcome.next ((sdoRow_serves ho hk hw).trans ht)
    have served {j : SdoClass} (hk : k = j) : sdoClass (s.xferOf c) frame = j := hk
    refine ⟨fun hk => serves hk ?_, fun hk => serves hk ?_, fun hk => serves hk ?_, fun hk => serves hk ?_, fun hk => serves hk ?_,
      fun idx sub buf size toggle wide d hk hx hd hwide hl => ⟨fun ht => serves hk ?_, fun ht hn hne => serves hk ?_, fun ht hn hb => serves hk ?_,
        fun ht hn hb => serves hk ?_⟩,
      fun idx sub rest toggle hk hx hf ht => ⟨fun hr => serves hk ?_, fun hr => serves hk ?_⟩,
      fun idx sub buf size seq crc hk hx hf hl hseq h1 h127 hb => serves hk ?_, fun idx sub buf size seq crc hk hx hf => ?_⟩
    · rw [serve_class, served hk]
    · rw [serve_class, served hk]
      rfl
    · rw [serve_class, served hk]
    · rw [serve_class, served hk]
    · rw [serve_class, served hk]
      rfl
    · rw [serve_class, served hk]
      exact downloadSegment_toggle hx hd hwide ht
    · rw [serve_class, served hk]
      cases size with
      | none => exact absurd rfl hne
      | some n => exact downloadSegment_tooLong hx hd hwide ht (hn n rfl)
    · rw [serve_class, served hk]
      exact (downloadSegment_joins hx hd hwide hl ht hn).trans (if_neg (by simpa using hb))
    · rw [serve_class, served hk]
      refine (downloadSegment_joins hx hd hwide hl ht fun n h => (hn n h).ge).trans ((if_pos hb).trans (if_neg ?_))
      cases size with
      | none => simp
      | some n => simpa using hn n rfl
    · rw [serve_class, served hk]
      refine (uploadSegment_next hx hf ht).trans ?_
      rw [if_neg (by simpa using hr), List.length_take, min_eq_left hr.le]
      simp [bitAt, Nat.not_le.mpr hr]
    · rw [serve_class, served hk]
      refine (uploadSegment_next hx hf ht).trans ?_
      rw [if_pos (by simpa using hr), List.take_of_length_le hr]
      simp [bitAt, hr]
    · rw [serve_class, served hk]
      exact blockSegment_next hx hf hl hseq h1 h127 hb
    · intro d hcrc hn
      refine serves hk ?_
      rw [serve_class, served hk]
      exact blockEnd_good hx hf d rfl hcrc hn
  · intro u checks w
    have starts := initiateDownload_expedited (s := s) (c := c) hf hi hs hv h1 h4 (r := checks) rfl
    refine ⟨fun h0 hw => ?_, fun h0 hw => ?_, fun h0 => starts.trans (if_pos h0)⟩
    · exact starts.trans ((if_neg (by simpa using h0)).trans ((settle_local hl).trans (if_neg (by simpa using hw))))
    · exact starts.trans ((if_neg (by simpa using h0)).trans ((settle_local hl).trans (if_pos hw)))
  · rw [exec_sdoProtocolTimeout, execSdoProtocolTimeout, hx]
    dsimp only
    rw [if_neg (by simp [hu, hw]), ho]
    rfl

end Sys2Proof.Machine
end

section
/-! SUPPORT. What writes of link, chain and stream objects do (R106, R121, R152, R158, R166, R252, R379). -/

namespace Sys2Proof.Machine
open Host

/-! ### Ports and lanes -/

section
variable {s : State} {v : Int}

theorem laneClear_one (l : Fin 24) (h : v ≠ 0) :
    s.laneClear l v = (0, s.zero (0x2110 + l) [0x10, 0x11, 0x12, 0x13, 0x14, 0x15, 0x18, 0x19, 0x1A, 0x1B]) := if_neg h

theorem isRunning_false {idx sub : Nat} (h : s.rdN idx sub ≠ 1) : s.isRunning idx sub = false := beq_eq_false_iff_ne.2 h

theorem prbsStart_test {l : Fin 24} (h : v ≠ 0) (hr : s.rdN (0x2110 + l) 0x24 ≠ 1) (ht : s.portTest (portOf l) = true) :
    s.prbsStart l v = (0, (s.wrN (0x2110 + l) 0x24 1).withLane l fun y =>
      { y with timedRun := true, runSince := s.now, checker := Checker.fresh }) := by
  simp only [State.prbsStart, if_neg h, isRunning_false hr, ht, State.startRun, if_true, Bool.false_eq_true, if_false]

theorem prbsStart_live {l : Fin 24} {k : Fin 4} (h : v ≠ 0) (hr : s.rdN (0x2110 + l) 0x24 ≠ 1) (ht : s.portTest (portOf l) = false)
    (hk : s.linkOf l = some k) (hu : s.lanes.link[k].phase = .up) (hst : s.lanes.lane[l].stage = .active ∨ s.lanes.lane[l].stage = .spare)
    (hb : s.testBar k l = 0) : s.prbsStart l v = (0, s.beginTest k l true (s.rdN (0x2110 + l) 0x20)) := by
  have hno : ¬(s.lanes.link[k].phase ≠ .up ∨ (s.lanes.lane[l].stage ≠ .active ∧ s.lanes.lane[l].stage ≠ .spare)) := by
    rintro (h | ⟨ha, hs⟩)
    · exact h hu
    · exact hst.elim ha hs
  simp only [State.prbsStart, if_neg h, isRunning_false hr, ht, hk, if_neg hno, hb, Bool.false_eq_true, if_false, ne_eq,
    not_true_eq_false]

theorem injStart_go {l : Fin 24} (h : v ≠ 0) (hk : s.rdN (0x2110 + l) 0x30 ≠ 0)
    (hs : s.injSizeOk l (s.rdN (0x2110 + l) 0x30) (s.rdN (0x2110 + l) 0x31) = true) (ho : s.injKindOk l (s.rdN (0x2110 + l) 0x30) = true) :
    s.injStart l v = (0, s.withLane l fun y => { y with
      injecting := true
      injLeft := if s.rdN (0x2110 + l) 0x32 = 0 then none else some (s.rdN (0x2110 + l) 0x32)
      injKind := s.rdN (0x2110 + l) 0x30
      injSize := s.rdN (0x2110 + l) 0x31 }) := by
  simp only [State.injStart, if_neg h, if_neg hk, hs, ho, Bool.not_true, Bool.false_eq_true, if_false]

theorem injStart_stop {l : Fin 24} (h : v = 0) :
    s.injStart l v = (0, s.withLane l fun y => if y.injLeft.isNone then { y with injecting := false } else y) := if_pos h

theorem loopbackWrite_change {p : Fin 3} (h : v ≠ s.rdI (0x2100 + p) 0x0D)
    (ha : v = 0 ∨ s.rdB (0x2100 + p) 0x0E = true ∨ s.portFresh p = true ∨ s.portRecovers p = true) :
    s.loopbackWrite p v = (0, (s.wrI (0x2100 + p) 0x0D v).restartPort p) := by
  have hn : ¬(v ≠ 0 ∧ (!s.rdB (0x2100 + p) 0x0E) = true ∧ (!s.portFresh p) = true ∧ (!s.portRecovers p) = true) := by
    rintro ⟨h0, h1, h2, h3⟩
    simp only [Bool.not_eq_true'] at h1 h2 h3
    rcases ha with h | h | h | h
    · exact h0 h
    all_goals simp_all
  unfold State.loopbackWrite
  rw [if_neg h, if_neg hn]

theorem testStateWrite_change {p : Fin 3} (h : v ≠ s.rdI (0x2100 + p) 0x0E) :
    s.testStateWrite p v = (0, (s.wrI (0x2100 + p) 0x0E v).restartPort p) := if_neg h

theorem portcWrite_free (h : ∀ n < 32, s.rdB (0x2400 + n) 0x01 = false) :
    s.portcWrite v = (0, (s.wrI 0x2102 0x01 v).restartPort 2) := by
  have hn : ((List.range 32).any fun n => s.rdB (0x2400 + n) 0x01) = false := by
    simpa using h
  unfold State.portcWrite
  rw [hn]
  rfl

end

/-! ### Chains -/

section
variable {s : State} {v : Int}

theorem storeChain_tile (h : s.role = .tile) (c : CtxId) (x : Val) :
    s.storeChain c 0x2200 0x04 x = s.repeatOnlyWrite x.toInt ∧ s.storeChain c 0x2200 0x0F x = s.chainClear x.toInt := by
  constructor
  all_goals
    unfold State.storeChain
    rw [dif_neg (by simp [h]), if_pos rfl]
    rfl

theorem storeChain_tileEvents (c : CtxId) (x : Val) : s.storeChain c 0x2212 0x03 x = s.tileEventsClear x.toInt := by
  unfold State.storeChain
  rw [dif_neg (by omega), if_neg (by omega), if_neg (by omega), if_neg (by omega), if_pos (by omega)]

theorem chainClear_one (h : v ≠ 0) : s.chainClear v = (0, s.zero 0x2200 ((List.range 14).map (0x10 + ·))) := if_neg h

theorem repeatOnlyWrite_first (h : v ≠ 0) (hc : s.commanded = false) :
    s.repeatOnlyWrite v = (0, (s.wrI 0x2200 0x04 v).stopPresenting.raise 0x3106 ((s.wrI 0x2200 0x04 v).chainDetail 0 1)) := by
  unfold State.repeatOnlyWrite
  exact if_neg (by simp [h, hc])

theorem discoverWrite_one {p : Fin 2} (h : v ≠ 0) (hl : s.leads p = true) (hr : s.rdN (0x2200 + p) 0x05 ≠ 1) :
    let checks := s.ports[p].presented && !s.rdB (0x2200 + p) 0x0B
    let u := s.wrN (0x2200 + p) 0x05 1
    s.discoverWrite p v = (0, ((if checks then u else u.wrN (0x2200 + p) 0x02 1).withChain p fun y => { y with
      discovery := some { checkOnly := checks, repeated := false, before := s.rdN (0x2200 + p) 0x02, since := s.now, reports := [] } }).sendQuery p) := by
  intro checks u
  have hn : ¬((!s.leads p) = true ∨ s.isRunning (0x2200 + p) 0x05 = true) := by simp [hl, isRunning_false hr]
  have hnow : (if checks then u else u.wrN (0x2200 + p) 0x02 1).now = s.now := by
    split <;> rfl
  unfold State.discoverWrite
  rw [if_neg h]
  unfold State.startDiscovery
  rw [if_neg hn]
  rw [← hnow]
  rfl

theorem reclaimNowWrite_one {p : Fin 2} (h : v ≠ 0) (hs : s.rdN (0x2300 + p) 0x03 = 0) (hm : s.mayReclaim p = true) :
    s.reclaimNowWrite p v = (0, s.sendReclaim p 1) := by
  unfold State.reclaimNowWrite
  rw [if_neg h, if_pos ⟨hs, hm⟩]

theorem maintenanceWrite_control {p : Fin 2} (h : v ≠ 0) (hc : s.ports[p].cstate = .control) :
    s.maintenanceWrite p v = (0,
      (let kept := (s.wrI (0x2300 + p) 0x16 v).withChain p fun y => { y with
        reclaim := if y.reclaim.any Reclaim.acked then y.reclaim else none }
       let u := (kept.setCState p .relinquishing).bump (0x2300 + p) 0x11 1
       u.raise 0x4001 (u.redDetail p 6))) := by
  unfold State.maintenanceWrite
  extract_lets t kept u
  have hk : kept.ports[p].cstate = .control := by
    simpa [kept, t, State.withChain, vmod, vset] using hc
  rw [if_neg h, if_pos hk]

end

/-! ### Streams and the map -/

section
variable {s : State} {v : Int} {n : Fin 32}

theorem streamEnable_off (h : v = 0) (ho : s.streamOn n = true) : s.streamEnable n v =
    (0, (((s.igmpLeave n).wrB (0x2400 + n) 0x01 false).wrN (0x2400 + n) 0x20 0).withStream n fun _ => StreamRun.off) := by
  unfold State.streamEnable
  simp only [if_pos h, ho, Bool.not_true, Bool.false_eq_true, if_false]

theorem streamEnable_on (h : v ≠ 0) (ho : s.streamOn n = false) (hl : s.streamLimits n = true) (hb : s.budgetCause n = 0) :
    s.streamEnable n v = (0,
     (((((s.wrB (0x2400 + n) 0x01 true).wrN (0x2400 + n) 0x20 1).wrN (0x2400 + n) 0x26
      (s.rdN (0x2400 + n) 0x06 * 1000 / s.rdN (0x2400 + n) 0x07)).withStream n fun _ => { StreamRun.off with
       reportAt := some (s.now + second)
       lastArrival := Vector.replicate 2 s.now }).igmpJoin n).ssmUnderV2 n) := by
  unfold State.streamEnable
  simp only [if_neg h, ho, hl, hb, Bool.not_true, Bool.false_eq_true, if_false, ne_eq, not_true_eq_false]
  rfl

theorem activateFrameWrite_code {f : Nat} (hm : s.isMaster = true) (hp : s.ingress.pending = none) (hf : s.quartz.frame + 4 ≤ f) :
    (s.activateFrameWrite f).1 = 0 := by
  have hn : ¬((!s.isMaster) = true ∨ s.ingress.pending.isSome = true ∨ f < s.quartz.frame + 4) := by
    simp [hm, hp]; omega
  unfold State.activateFrameWrite
  rw [if_neg hn]

end

/-! ### The obligation -/

/-- A command that writes a number, where the object takes it and leaves state u. -/
theorem next_taken {s u : State} {c : CtxId} {idx sub n : Nat} {w : BitVec n} {v : Val} (hm : idx ≠ 0x2301)
    (h : s.passes c idx sub (leBytes (n / 8) w.toNat) = some v) (hs : (s.touchCtx c).storeObject c idx sub v = (0, u)) :
    (Outcome.next (s.numWrite c idx sub w) : Out1) = .next (u.answered c idx sub 0) :=
  congrArg Outcome.next (numWrite_taken hm h hs)

/-- The same for an object of a port that may be mirrored. -/
theorem next_mirrored {s u : State} {c : CtxId} {idx q sub n : Nat} {w : BitVec n} {v : Val} (hm : (s.touchCtx c).mirror idx = q)
    (h : s.passes c idx sub (leBytes (n / 8) w.toNat) = some v) (hs : (s.touchCtx c).storeObject c q sub v = (0, u)) :
    (Outcome.next (s.numWrite c idx sub w) : Out1) = .next (u.answered c idx sub 0) := by
  rw [numWrite_passes h, hm, hs]

/-- Settles O50: each write finds its object's effect in the store and that effect answers code 0. -/
theorem linkAndChainObjectWrites : Obligations.LinkAndChainObjectWrites := by
  unfold Obligations.LinkAndChainObjectWrites
  intro s c x t took
  refine ⟨?_, ?_, ?_, ?_, ?_, ?_, ?_, ?_, ?_, ?_, ?_, ?_, ?_, ?_, ?_, ?_⟩
  · intro l v hx hp
    exact next_taken (by omega) hp ((storeObject_lane _ _ l _ _).trans (laneClear_one l hx))
  · intro l v hx hr ht hp
    exact next_taken (by omega) hp ((storeObject_lane _ _ l _ _).trans (prbsStart_test hx hr ht))
  · intro l v k hx hr ht hk hu hst hb hp
    exact next_taken (by omega) hp ((storeObject_lane _ _ l _ _).trans (prbsStart_live hx hr ht hk hu hst hb))
  · intro l hx kind size hk hs ho hp
    exact next_taken (w := 1#8) (by omega) hp ((storeObject_lane _ _ l _ _).trans (injStart_go hx hk hs ho))
  · intro l hx hp
    exact next_taken (w := 0#8) (by omega) hp ((storeObject_lane _ _ l _ _).trans (injStart_stop hx))
  · intro p v hx ha hp
    exact next_taken (by omega) hp ((storeObject_port _ _ p _ _).trans (loopbackWrite_change hx ha))
  · intro p v hx hp
    exact next_taken (by omega) hp ((storeObject_port _ _ p _ _).trans (testStateWrite_change hx))
  · intro v hf hp
    exact next_taken (by omega) hp ((storeObject_port _ _ 2 0x01 _).trans (portcWrite_free hf))
  · intro v hr hx hp
    exact next_taken (by omega) hp ((storeObject_chain _ _ _ _ (by omega) (by omega)).trans
      ((storeChain_tile hr c x).2.trans (chainClear_one hx)))
  · intro v hx hp
    exact next_taken (by omega) hp ((storeObject_chain _ _ _ _ (by omega) (by omega)).trans
      ((storeChain_tileEvents c x).trans (if_neg hx)))
  · intro v hr hx hc hp
    exact next_taken (by omega) hp ((storeObject_chain _ _ _ _ (by omega) (by omega)).trans
      ((storeChain_tile hr c x).1.trans (repeatOnlyWrite_first hx hc)))
  · intro p v hr hx hl hd checks u hp
    exact next_taken (by omega) hp ((storeObject_chain _ _ _ _ (by omega) (by omega)).trans
      ((storeChain_discover hr c p x).trans (discoverWrite_one hx hl hd)))
  · intro p q v hr hm hx hs hmay hp
    exact next_mirrored hm hp ((storeObject_chain _ _ _ _ (by omega) (by omega)).trans
      ((storeChain_control hr c q x).1.trans (reclaimNowWrite_one hx hs hmay)))
  · intro p q v hr hm hx hc hp
    exact next_mirrored hm hp ((storeObject_chain _ _ _ _ (by omega) (by omega)).trans
      ((storeChain_control hr c q x).2.trans (maintenanceWrite_control hx hc)))
  · intro n v hr
    constructor
    · intro hx ho hp
      exact next_taken (by omega) hp ((storeObject_ingress _ _ _ _ (by omega) (by omega)).trans
        ((storeIngress_stream _ n x).trans (streamEnable_off hx ho)))
    · intro hx ho hl hb hp
      exact next_taken (by omega) hp ((storeObject_ingress _ _ _ _ (by omega) (by omega)).trans
        ((storeIngress_stream _ n x).trans (streamEnable_on hx ho hl hb)))
  · intro w hm hn hf hp
    exact next_taken (by omega) hp ((storeObject_ingress _ _ _ _ (by omega) (by omega)).trans
      (Prod.ext (activateFrameWrite_code hm hn hf) rfl))

end Sys2Proof.Machine
end

section
/-! SUPPORT. What writes of the picture's and the lamps' objects do (R231, R246, R267, R268, R279, R318, R325, R337, R349, R351, R377). -/

namespace Sys2Proof.Machine
open Host

/-! ### The commit, the tables and the correction data -/

section
variable {s : State}

theorem requestCommit_taken {f : Nat} (ht : s.hasTiming = true) (hn : s.video.compose.pending = none)
    (hp : s.passed (if f = 0 then s.earliest ms else f) = false) (hq : s.needsFifth (if f = 0 then s.earliest ms else f) = false) :
    s.requestCommit f = (0, s.setPending (some {
      frame := if f = 0 then s.earliest ms else f, fromChain := false, gen := none, mapGen := none, named := none, late := 0, full := false })) := by
  unfold State.requestCommit
  simp only [ht, hn, hp, hq, Bool.not_true, Bool.false_eq_true, if_false]

theorem onOne_one {v : Int} (h : v ≠ 0) (f : State → State) : s.onOne v f = (0, f s) := if_neg h

theorem writeCoeff_taken {k : Nat} {b : List Byte} (hl : b.length = 1800) (hc : coefOk b = true)
    (hg : (s.configs.any fun g => g.namesSet k) = false) : s.writeCoeff k b = (0, s.loadCoeff k b 2) := by
  unfold State.writeCoeff
  simp only [hl, hc, hg, Bool.not_true, Bool.false_eq_true, if_false, ne_eq, not_true_eq_false]

theorem writeTable_taken {k : Nat} {b : List Byte} (hk : 3 ≤ k) (hl : b.length = 16396) (h0 : field b 0 2 = 1) (h2 : field b 2 2 = 0)
    (hc : field b 16392 4 = crc32Nat (b.take 16392)) (hz : ∀ i < 4097, byteAt b (7 + 4 * i) = 0)
    (hg : (s.configs.any fun g => g.namesTable k) = false) :
    s.writeTable k b = (0, ((s.wrD (0x2920 + k) 0x01 b).wrB (0x2920 + k) 0x02 true).wrN (0x2920 + k) 0x04 2) := by
  have hz' : ((List.range 4097).any fun i => byteAt b (7 + 4 * i) != 0) = false := by
    refine List.any_eq_false.2 fun i hi => ?_
    rw [hz i (List.mem_range.1 hi)]
    decide
  unfold State.writeTable
  rw [if_neg (by omega), if_neg (by omega), if_neg (by omega), if_neg (by omega), hz', if_neg Bool.false_ne_true, hg,
    if_neg Bool.false_ne_true]

theorem verifyCorr_start {image : Nat} (h : s.rdN 0x2930 0x04 ≠ 1) :
    s.verifyCorr image = (0, (s.wrN 0x2930 0x04 1).withColour fun y => { y with verifying := some image }) := by
  unfold State.verifyCorr
  rw [isRunning_false h, if_neg Bool.false_ne_true]
  rfl

theorem corrSelect_off {v : Int} (h : v = 2) : s.corrSelect v = (0, s.wrI 0x2930 0x01 2) := by
  subst h; rfl

theorem corrSelect_image {v : Int} (h : v ≠ 2) (hr : s.rdN 0x2930 0x04 ≠ 1) : s.corrSelect v =
    (0, ((s.wrN 0x2930 0x04 1).withColour fun y => { y with verifying := some v.toNat }).wrI 0x2930 0x01 v) := by
  simp only [State.corrSelect, if_neg h, verifyCorr_start hr, if_true]

end

/-! ### Lamps -/

section
variable {s : State}

theorem startEnum_on {p : Fin 64} {g : Gen} (hg : s.genNow = some g) (hp : g.portOn p = true) (hr : s.rdN (0x2A00 + p) 0x0B ≠ 1) :
    s.startEnum p = (0, s.reenumerate p) := by
  unfold State.startEnum
  rw [hg, isRunning_false hr, if_neg (by simp [hp]), if_neg Bool.false_ne_true]

theorem startSweep_start {f : Nat} (hr : s.rdN 0x2B00 0x11 ≠ 1) (hm : s.rdN 0x2B00 0x01 ≠ 0) :
    s.startSweep f = (0, State.wrN { s with lamps := { s.lamps with
      port := Vector.ofFn fun p : Fin 64 =>
       if f = 0xFF ∨ f = p.1 then { s.lamps.port[p] with sweeping := true, swept := [] }
       else { s.lamps.port[p] with sweeping := false, swept := [] }
      sweep := some (f, s.quartz.frame) } } 0x2B00 0x11 1) := by
  unfold State.startSweep
  rw [isRunning_false hr, if_neg Bool.false_ne_true, if_neg hm]
  rfl

/-- A record whose frame is still to come waits for it. -/
theorem writeFrustum_ahead {b : List Byte} (hb : frustumOk b = true) (hf : s.quartz.frame < field b 0 8) :
    s.writeFrustum b = (0, (let u := s.wrD 0x2A80 0x07 b
      { u with lamps := { u.lamps with frustum := { u.lamps.frustum with
        waiting := u.lamps.frustum.waiting ++ [(field b 0 8, b)] } } })) := by
  unfold State.writeFrustum
  rw [hb, if_neg (by simp)]
  simp only [if_neg (show ¬(field b 0 8 ≠ 0 ∧ field b 0 8 ≤ s.quartz.frame) by omega),
    if_neg (show ¬field b 0 8 ≤ s.quartz.frame by omega)]

/-- A record that is early enough is broadcast on both chains as it is. -/
theorem frustumIn_both {b : List Byte} (h0 : s.controls 0 = true) (h1 : s.controls 1 = true)
    (hs : (((s.bump 0x2510 0x03 1).wrD 0x2510 0x01 b).withIngress fun g => { g with
      frustumFrame := s.quartz.frame, frustumUsed := frustumUses b, frustumStale := false }).single = false)
    (hb : frustumOk b = true) (hf : s.frustumEarliest ≤ field b 0 8) :
    s.frustumIn b = (0, ((((s.bump 0x2510 0x03 1).wrD 0x2510 0x01 b).withIngress fun g => { g with
      frustumFrame := s.quartz.frame, frustumUsed := frustumUses b, frustumStale := false }).broadcastWrite 0 0x2A80 0x07
        (leBytes 8 (field b 0 8) ++ b.drop 8)).broadcastWrite 1 0x2A80 0x07 (leBytes 8 (field b 0 8) ++ b.drop 8)) := by
  have hp : (List.finRange 2).filter (fun p => s.controls p) = [0, 1] := by
    have : List.finRange 2 = [0, 1] := by decide
    simp [this, h0, h1]
  have hl : (field b 0 8 != 0 && decide (field b 0 8 < s.frustumEarliest)) = false := by
    simp; omega
  unfold State.frustumIn
  rw [hp, if_neg (by simp), hb, if_neg (by simp)]
  simp only [hl, Bool.false_eq_true, if_false, Nat.max_eq_left hf]
  simp only [bump_quartz, wrD_quartz] at hs ⊢
  simp only [hs, Bool.false_eq_true, if_false, List.foldl_cons, List.foldl_nil]

end

/-! ### Which write stands behind an object -/

section
variable (s : State) (c : CtxId)

theorem storeVideo_coeff (k : Fin 16) (sub : Nat) (v : Val) : s.storeVideo c (0x2850 + k) sub v = s.writeCoeff k v.toData := by
  unfold State.storeVideo
  rw [if_pos (by omega), Nat.add_sub_cancel_left]

theorem storeVideo_table (k : Fin 8) (sub : Nat) (v : Val) : s.storeVideo c (0x2920 + k) sub v = s.writeTable k v.toData := by
  unfold State.storeVideo
  rw [if_neg (by omega), if_pos (by omega), Nat.add_sub_cancel_left]

theorem storeIngress_frustum (v : Val) : s.storeIngress 0x2510 0x01 v = s.frustumIn v.toData := rfl

end

/-- An octet string that is written, where the object takes it and leaves state u. -/
theorem next_stored {s u : State} {c : CtxId} {idx sub : Nat} {b : List Byte} {v : Val} (hm : idx ≠ 0x2301)
    (h : s.passes c idx sub b = some v) (hs : (s.touchCtx c).storeObject c idx sub v = (0, u)) :
    (Outcome.next (s.objectWrite c idx sub b) : Out1) = .next (u.answered c idx sub 0) :=
  congrArg Outcome.next (objectWrite_taken hm h hs)

/-- Settles O51: each write finds its object's effect in the store and that effect answers code 0. -/
theorem pictureAndLampObjectWrites : Obligations.PictureAndLampObjectWrites := by
  unfold Obligations.PictureAndLampObjectWrites
  intro s c x t took tookData f asked
  refine ⟨?_, ?_, ?_, ?_, ?_, ?_, ?_, ?_, ?_, ?_, ?_, ?_, ?_, ?_⟩
  · intro v ht hn hpa hq hp
    exact next_taken (by omega) hp ((storeObject_video _ _ _ _ (by omega) (by omega)).trans (requestCommit_taken ht hn hpa hq))
  · intro v hx hp
    exact next_taken (by omega) hp ((storeObject_video _ _ _ _ (by omega) (by omega)).trans (onOne_one hx _))
  · intro k set hl hc hg hp
    exact next_stored (by omega) hp ((storeObject_video _ _ _ _ (by omega) (by omega)).trans
      ((storeVideo_coeff _ _ k _ _).trans (writeCoeff_taken hl hc hg)))
  · intro k b hk hl h0 h2 hc hz hg hp
    exact next_stored (by omega) hp ((storeObject_video _ _ _ _ (by omega) (by omega)).trans
      ((storeVideo_table _ _ k _ _).trans (writeTable_taken hk hl h0 h2 hc hz hg)))
  · intro v hx hp
    exact next_taken (by omega) hp ((storeObject_video _ _ _ _ (by omega) (by omega)).trans (corrSelect_off hx))
  · intro v hx hr hp
    exact next_taken (by omega) hp ((storeObject_video _ _ _ _ (by omega) (by omega)).trans (corrSelect_image hx hr))
  · intro v hr hp
    exact next_taken (by omega) hp ((storeObject_video _ _ _ _ (by omega) (by omega)).trans (verifyCorr_start hr))
  · intro p v g hx hg hon hr hp
    exact next_taken (by omega) hp ((storeObject_lamps _ _ _ _ (by omega) (by omega)).trans
      ((storeLamps_enum _ p _).trans ((if_neg hx).trans (startEnum_on hg hon hr))))
  · intro p v hx hp
    exact next_taken (by omega) hp ((storeObject_lamps _ _ _ _ (by omega) (by omega)).trans
      ((storeLamps_clear _ p _).trans (onOne_one hx _)))
  · intro v hx hp
    exact next_taken (by omega) hp ((storeObject_lamps _ _ _ _ (by omega) (by omega)).trans (onOne_one hx _))
  · intro p v hx hp
    exact next_taken (by omega) hp ((storeObject_lamps _ _ _ _ (by omega) (by omega)).trans
      ((storeLamps_engine _ p _).trans (onOne_one hx _)))
  · intro v hr hm hp
    exact next_taken (by omega) hp ((storeObject_lamps _ _ _ _ (by omega) (by omega)).trans (startSweep_start hr hm))
  · intro b hb hf hp
    exact next_stored (by omega) hp ((storeObject_lamps _ _ _ _ (by omega) (by omega)).trans (writeFrustum_ahead hb hf))
  · intro b u d h0 h1 hs hb hf hp
    exact next_stored (by omega) hp ((storeObject_ingress _ _ _ _ (by omega) (by omega)).trans
      ((storeIngress_frustum _ _).trans (frustumIn_both h0 h1 hs hb hf)))

end Sys2Proof.Machine
end

section
/-! SUPPORT. A new PORT_SKEW run drops the measurements that stand on the lamp ports (R475), which O52 does not allow for. -/

namespace Sys2Proof.Machine
open Host

/-- A running tile whose commit window is open and whose lamp ports still hold a skew measurement of 5. -/
def measuredTile : State :=
  { State.reset with
    life := .running
    role := .tile
    od := [(key 0x2E00 0x0F, .num 1)]
    lamps := { State.reset.lamps with port := Vector.replicate 64 { LampPort.reset with skew := [5] } } }

/-- What O52 says the start of a PORT_SKEW run leaves. -/
def skewRunStarted (t : State) : State :=
  (t.wrN 0x2F00 0x04 1).withNvm fun n => { n with calRun := some { kind := 1, port := (t.ctxPort (.gateway 4 true)).getD 0, rounds := [] } }

theorem measuredTile_passes : measuredTile.passes (.gateway 4 true) 0x2F00 0x01 (leBytes 1 1) = some (.num 1) := by
  decide +kernel

theorem measuredTile_windowOpen : measuredTile.windowOpen = true := by decide +kernel

/-- The run that starts clears every port's measurements. -/
theorem calStart_skew_cleared :
    (measuredTile.calStart (.gateway 4 true) 1).2.lamps.port[(0 : Fin 64)].skew = [] := by
  decide +kernel

theorem calStart_skew_code : (measuredTile.calStart (.gateway 4 true) 1).1 = 0 := by decide +kernel

theorem measuredTile_storeObject : (measuredTile.touchCtx (.gateway 4 true)).storeObject (.gateway 4 true) 0x2F00 0x01 (.num 1) =
    (0, (measuredTile.calStart (.gateway 4 true) 1).2) := Prod.ext calStart_skew_code rfl

/-- Refutes O52: a PORT_SKEW run (kind 1) that starts on `measuredTile` clears the skew measurements of the lamp ports, where the
statement has the lamps unchanged. -/
theorem not_timeAndPlatformObjectWrites : ¬ Obligations.TimeAndPlatformObjectWrites := by
  unfold Obligations.TimeAndPlatformObjectWrites
  intro h
  obtain ⟨-, -, -, -, -, -, -, -, hcal, -⟩ := h measuredTile (.gateway 4 true) (.num 1)
  have hsaid : exec (.calStart (.gateway 4 true) 1#8) measuredTile =
      .next ((skewRunStarted measuredTile).answered (.gateway 4 true) 0x2F00 0x01 0) :=
    hcal 1#8 rfl measuredTile_windowOpen (.inl ⟨rfl, rfl⟩) measuredTile_passes
  have hdone : exec (.calStart (.gateway 4 true) 1#8) measuredTile =
      .next ((measuredTile.calStart (.gateway 4 true) 1).2.answered (.gateway 4 true) 0x2F00 0x01 0) :=
    next_taken (w := 1#8) (by omega) measuredTile_passes measuredTile_storeObject
  have hlamps : (skewRunStarted measuredTile).lamps = (measuredTile.calStart (.gateway 4 true) 1).2.lamps := by
    have hnext := congrArg State.lamps (Outcome.next.inj (hsaid.symm.trans hdone))
    exact hnext
  have hskew : [5] = ([] : List Nat) :=
    (congrArg (fun l : Lamps => l.port[(0 : Fin 64)].skew) hlamps).trans calStart_skew_cleared
  exact absurd hskew (by decide)

end Sys2Proof.Machine
end

section
/-! SUPPORT. What writes of the update's, the guards' and the access objects do (R382 to R386, R507, R510, R512, R514, R520). -/

namespace Sys2Proof.Machine
open Host

theorem storeObject_service (s : State) (c : CtxId) {idx : Nat} (sub : Nat) (v : Val) (h : 0x3100 ≤ idx) :
    s.storeObject c idx sub v = s.storeService c idx sub v := by
  unfold State.storeObject
  rw [if_neg (by omega), dif_neg (by omega), dif_neg (by omega), if_neg (by omega), if_neg (by omega), if_neg (by omega),
    if_neg (by omega), if_neg (by omega), if_neg (by omega)]

/-! ### The update -/

section
variable {s : State} {v : Int}

theorem confirmWrite_trial (h : v ≠ 0) (hs : s.pointer.state = 1) (hr : s.rdB 0x3100 0x15 = false) (hp : s.pointing = false)
    (hw : s.windowOpen = true) : s.confirmWrite v = (0, s.confirm) := by
  unfold State.confirmWrite
  rw [if_neg h, if_neg (by simp [hs, hr, hp]), if_neg (by simp [hw])]

theorem rollbackWrite_changed (h : v ≠ 0) (hs : s.pointer.state ≠ 0) (hp : s.pointing = false) (hw : s.windowOpen = true) :
    s.rollbackWrite v = (0, s.rollback) := by
  unfold State.rollbackWrite
  rw [if_neg h, if_neg (by simp [hs, hp]), if_neg (by simp [hw])]

theorem finalizeWrite_confirmed (h : v ≠ 0) (hs : s.pointer.state = 2) (hp : s.pointing = false) (hw : s.windowOpen = true) :
    s.finalizeWrite v = (0, s.writePointer s.pointer.final 3) := by
  unfold State.finalizeWrite
  rw [if_neg h, if_neg (by simp [hs, hp]), if_neg (by simp [hw])]

/-- A wall update of the image in force begins with OPEN to every station. -/
theorem wuStart_stage {level : Nat} {owner : Bool} (hv : v = 1) (hc : s.coordinates = true) (hsrc : s.rdN 0x3100 0x33 = 1)
    (hst : s.wuState = 0) (hcl : s.update.wu.closing = none) : s.wuStart level owner v = (0,
      (let m := s.manifest s.pointer.slot
       let u := s.takeTag.2.withWu fun _ => { WallUpdate.idle with
        stations := s.takeTag.2.wuStations, openTag := s.takeTag.1, opens := 1, digest := manifestDigest m
        length := field m 16 4, slot := s.pointer.slot, level := level, owner := owner }
       ((u.wrN 0x3100 0x38 1).setWu 1).wuOpen)) := by
  subst hv
  simp [State.wuStart, hc, hsrc, hst, hcl, State.startRun]

/-- A staged wall update is armed for a frame that is 2 s to 600 s ahead. -/
theorem wuStart_arm {level : Nat} {owner : Bool} (hv : v = 2) (hc : s.coordinates = true) (hst : s.wuState = 2)
    (hlo : s.quartz.wall + 2 * second * subNs ≤ s.tFrame (s.rdN 0x3100 0x32))
    (hhi : s.tFrame (s.rdN 0x3100 0x32) ≤ s.quartz.wall + 600 * second * subNs) : s.wuStart level owner v = (0,
      ((((s.withWu fun w => { w with done := [] }).setWu 3).wuCommand 6 (leBytes 8 (s.rdN 0x3100 0x32))).raise 0x9302
        (det 0 (s.rdN 0x3100 0x32)))) := by
  have hn : ¬(s.wuState ≠ 2 ∨ s.tFrame (s.rdN 0x3100 0x32) < s.quartz.wall + 2 * second * subNs ∨
      s.quartz.wall + 600 * second * subNs < s.tFrame (s.rdN 0x3100 0x32)) := by
    rintro (h | h | h)
    · exact h hst
    · exact absurd hlo (Nat.not_le.2 h)
    · exact absurd hhi (Nat.not_le.2 h)
  subst hv
  unfold State.wuStart
  rw [hc, if_neg (by simp)]
  exact if_neg hn

theorem wuStart_abort {level : Nat} {owner : Bool} (hv : v = 3) (hc : s.coordinates = true) (hst : s.wuState = 1 ∨ s.wuState = 2) :
    s.wuStart level owner v = (0, s.wuFail (0, 0) 10) := by
  subst hv
  unfold State.wuStart
  rw [hc, if_neg (by simp)]
  exact if_pos hst

end

/-! ### The guards -/

section
variable {s : State} {v : Int}

theorem ceilProgram_blank {p : Fin 64} (hp : v.toNat % 256 = p.1) (hc : s.otp.ceilings[p] = none) (hl : s.otp.ceilLock = false) :
    s.ceilProgram v = (0, State.raise { s with otp := { s.otp with ceilings := vset s.otp.ceilings p (some {
      maxGrey := bits v.toNat 31 16, maxAvg := bits v.toNat 47 32, refresh := bits v.toNat 63 48 }) } } 0xA106 (det p.1 p.1)) := by
  have hlt : v.toNat % 256 < 64 := hp ▸ p.2
  obtain rfl : p = ⟨v.toNat % 256, hlt⟩ := Fin.ext hp.symm
  exact (dif_pos hlt).trans (if_neg (by rw [hc, hl]; decide))

theorem bistStart_port {p : Fin 64} (h : v ≠ 0) (ht : s.isTile = true) (hr : s.rdN 0x3200 0x22 ≠ 1)
    (hu : bistUnit (s.rdN 0x3200 0x20) = (2, p.1)) (hs : s.staging.portOn p = false) (ho : s.lamps.port[p].on = false) :
    s.bistStart v = (0, { s.wrN 0x3200 0x22 1 with lamps := { s.lamps with bistRun := some (2, p.1) } }) := by
  simp only [Fin.getElem_fin] at ho
  simp [State.bistStart, h, ht, isRunning_false hr, hu, hs, ho, State.startRun]

end

/-! ### Access -/

section
variable {s : State} {c : CtxId} {a : Ctx} {b : List Byte}

theorem login_operator (ha : s.ctx? c = some a) (h1 : byteAt b 0 = 1) (hl : b.length = 1) (hk : a.lockedUntil ≤ s.now) :
    s.login c b = (0, s.withCtx c fun y => { y with level := 1, owner := false, nonce := none }) := by
  simp [State.login, ha, h1, hl, Nat.not_lt.2 hk]

theorem login_level {nonce : BitVec 128} (ha : s.ctx? c = some a) (h1 : [2, 3, 4].contains (byteAt b 0).toNat = true)
    (hl : b.length = 33) (hk : a.lockedUntil ≤ s.now) (hn : a.nonceNow s.now = some nonce)
    (hp : s.proofOk (byteAt b 0).toNat (beBytes 16 nonce.toNat ++ leBytes 4 a.id ++ leBytes 1 (byteAt b 0).toNat) (b.drop 1) = true) :
    s.login c b = (0, s.withCtx c fun y => { y with level := (byteAt b 0).toNat, owner := false, nonce := none }) := by
  unfold State.login
  rw [ha]
  generalize (byteAt b 0).toNat = n at h1 hp ⊢
  have hcase : n = 2 ∨ n = 3 ∨ n = 4 := by simpa using h1
  obtain rfl | rfl | rfl := hcase
  all_goals simp [-List.append_assoc, -List.drop_one, hl, Nat.not_lt.2 hk, hn, hp]

theorem login_owner {nonce : BitVec 128} (ha : s.ctx? c = some a) (h1 : byteAt b 0 = 8)
    (hl : b.length = 65) (hk : a.lockedUntil ≤ s.now) (hn : a.nonceNow s.now = some nonce)
    (hp : s.proofOk 8 (beBytes 16 nonce.toNat ++ leBytes 4 a.id ++ leBytes 1 8) (b.drop 1) = true) :
    s.login c b = (0, s.withCtx c fun y => { y with level := 3, owner := true, nonce := none }) := by
  simp [-List.append_assoc, -List.drop_one, State.login, ha, h1, hl, Nat.not_lt.2 hk, hn, hp]

theorem ownerKeyWrite_taken {level : Nat} {owner : Bool} (h : owner = true ∨ (s.rdD 0x3300 0x10).isEmpty = true ∧ 3 ≤ level) :
    s.ownerKeyWrite level owner b = (0, s.wrD 0x3300 0x10 b) := if_pos (by simpa using h)

theorem ownerLockWrite_change {v : Int} {owner : Bool} (ho : owner = true) (hv : v ≠ s.rdI 0x3300 0x11) :
    s.ownerLockWrite c owner v = (0, (s.wrI 0x3300 0x11 v).raise 0x1304 (det c.source v.toNat)) := by
  subst ho
  unfold State.ownerLockWrite
  rw [if_neg (by simp), if_neg hv]

end

/-- Settles O53: each write finds its object's effect in the store and that effect answers code 0. -/
theorem serviceAndAccessObjectWrites : Obligations.ServiceAndAccessObjectWrites := by
  unfold Obligations.ServiceAndAccessObjectWrites
  intro s c x t took tookData n
  refine ⟨?_, ?_, ?_, ?_, ?_, ?_, ?_, ?_, ?_, ?_, ?_, ?_, ?_, ?_, ?_, ?_⟩
  · intro idx sub b hp
    exact congrArg Outcome.next (objectWrite_passes hp)
  · intro v hx hs hr hpt hw hp
    exact next_taken (by omega) hp ((storeObject_service _ _ _ _ (by omega)).trans (confirmWrite_trial hx hs hr hpt hw))
  · intro v hx hs hpt hw hp
    exact next_taken (by omega) hp ((storeObject_service _ _ _ _ (by omega)).trans (rollbackWrite_changed hx hs hpt hw))
  · intro v hx hs hpt hw hp
    exact next_taken (by omega) hp ((storeObject_service _ _ _ _ (by omega)).trans (finalizeWrite_confirmed hx hs hpt hw))
  · intro hx hc hsrc hst hcl hp
    exact next_taken (w := 1#8) (by omega) hp ((storeObject_service _ _ _ _ (by omega)).trans (wuStart_stage hx hc hsrc hst hcl))
  · intro fr hx hc hst hlo hhi hp
    exact next_taken (w := 2#8) (by omega) hp ((storeObject_service _ _ _ _ (by omega)).trans (wuStart_arm hx hc hst hlo hhi))
  · intro hx hc hst hp
    exact next_taken (w := 3#8) (by omega) hp ((storeObject_service _ _ _ _ (by omega)).trans (wuStart_abort hx hc hst))
  · intro v p hn hc hl hp
    exact next_taken (by omega) hp ((storeObject_service _ _ _ _ (by omega)).trans (ceilProgram_blank hn hc hl))
  · intro v hx hp
    exact next_taken (by omega) hp ((storeObject_service _ _ _ _ (by omega)).trans (if_neg hx))
  · intro v p hx ht hr hu hs ho hp
    exact next_taken (by omega) hp ((storeObject_service _ _ _ _ (by omega)).trans (bistStart_port hx ht hr hu hs ho))
  · intro a b ha h1 hl hk hp
    exact next_stored (by omega) hp ((storeObject_service _ _ _ _ (by omega)).trans (login_operator ha h1 hl hk))
  · intro a b nonce ha h1 hl hk hn hpr hp
    exact next_stored (by omega) hp ((storeObject_service _ _ _ _ (by omega)).trans (login_level ha h1 hl hk hn hpr))
  · intro a b nonce ha h1 hl hk hn hpr hp
    exact next_stored (by omega) hp ((storeObject_service _ _ _ _ (by omega)).trans (login_owner ha h1 hl hk hn hpr))
  · intro v hx hp
    exact next_taken (by omega) hp ((storeObject_service _ _ _ _ (by omega)).trans (if_neg hx))
  · intro b ho hp
    exact next_stored (by omega) hp ((storeObject_service _ _ _ _ (by omega)).trans (ownerKeyWrite_taken ho))
  · intro v ho hv hp
    exact next_taken (by omega) hp ((storeObject_service _ _ _ _ (by omega)).trans (ownerLockWrite_change ho hv))

end Sys2Proof.Machine
end

section
/-! SUPPORT. The coordinator of a wall update: what each of its commands does in its phase (R512 to R514). -/

namespace Sys2Proof.Machine
open Host

/-! ### Blocks leave the coordinator's state -/

theorem originateChain_update (s : State) (p : Fin 2) (type dest tsw : Nat) (b : List Byte) :
    (s.originateChain p type dest tsw b).update = s.update :=
  (ignoresAll_same (x := .update) (s₀ := s) (l := [.lanes, .ports, .cascade, .sent]) (by decide)).discharge kept_originateChain
    s p type dest tsw b rfl

theorem svcCell_update (s : State) (p : Fin 2) (dest : Nat) (b : List Byte) :
    (s.svcCell p dest b).update = { s.update with frames := s.update.frames + 1 } := originateChain_update _ _ _ _ _ _

theorem wuBroadcast_wu (s : State) (b : List Byte) : (s.wuBroadcast b).update.wu = s.update.wu :=
  foldl_proj (fun s => s.update.wu) (fun s p => (congrArg Update.wu (svcCell_update s p 0xFFF b)).trans rfl) _ s

theorem wuBlock_wu (s : State) (n : Nat) : (s.wuBlock n none).update.wu = s.update.wu :=
  foldl_proj (fun s => s.update.wu) (fun s _ => wuBroadcast_wu s.takeTag.2 _) _ s

/-! ### Staging -/

section
variable {s u : State}

theorem wuWritePace_next (hc : s.coordinates = true) (h1 : s.wuState = 1) (h2 : s.update.wu.stage = 1)
    (hu : (s.pass (second / max 1 (s.rdN 0x3100 0x34))).wuBlock s.update.wu.nextBlock none = u)
    (hn : (s.update.wu.nextBlock + 1) * 4096 < s.update.wu.length) :
    execWuWritePace s = .next (u.withWu fun x => { x with nextBlock := s.update.wu.nextBlock + 1 }) := by
  have hwu : u.update.wu = s.update.wu := by rw [← hu, wuBlock_wu, pass_update]
  subst hu
  unfold execWuWritePace
  refine (if_neg (by simp [hc, h1, h2])).trans ((if_pos hn).trans (congrArg Outcome.next ?_))
  simp only [State.withWu, State.withUpdate, hwu]

theorem wuWritePace_last (hc : s.coordinates = true) (h1 : s.wuState = 1) (h2 : s.update.wu.stage = 1)
    (hu : (s.pass (second / max 1 (s.rdN 0x3100 0x34))).wuBlock s.update.wu.nextBlock none = u)
    (hn : s.update.wu.length ≤ (s.update.wu.nextBlock + 1) * 4096) :
    execWuWritePace s = .next (u.withWu fun x => { x with stage := 2, rounds := 1, done := [] }).wuPollAll := by
  subst hu
  unfold execWuWritePace
  exact (if_neg (by simp [hc, h1, h2])).trans (if_neg (Nat.not_lt.2 hn))

end

/-! ### Closing -/

section
variable {s u : State} {fin : Bool}

theorem wuPoll_closing (hc : s.coordinates = true) (hu : s.pass second = u) (hf : u.update.wu.closing = some fin) :
    execWuPoll s = if u.update.wu.late = [] then
        if fin then .next ((u.wuEnd 5 true).raise 0x9303 (det 0 u.update.wu.stations.length))
        else .next (u.wuEnd (if u.update.wu.failed then 7 else 6) false)
      else .next (u.wuCommand (if fin then 8 else 9) []) := by
  unfold execWuPoll
  rw [hu]
  refine (if_neg (by simp [hc])).trans ?_
  dsimp only
  rw [hf]

end

/-! ### The arm and the confirmation wait -/

section
variable {s u : State}

theorem wuActivateBroadcast_started (hc : s.coordinates = true) (h3 : s.wuState = 3) (hu : s.pass (100 * ms) = u)
    (hl : u.update.wu.late = []) (ht : u.tFrame (u.rdN 0x3100 0x32) ≤ u.quartz.wall) :
    execWuActivateBroadcast s = .next ((u.withWu fun x => { x with done := [], reported := [], startedAt := u.now }).setWu 4) := by
  unfold execWuActivateBroadcast
  rw [hu]
  refine (if_neg (by simp [hc, h3])).trans ?_
  dsimp only
  rw [hl]
  exact if_neg (Nat.not_lt.2 ht)

theorem wuActivateBroadcast_again (hc : s.coordinates = true) (h3 : s.wuState = 3) (hu : s.pass (100 * ms) = u)
    (hl : u.update.wu.late ≠ []) (ht : u.quartz.wall + 200 * ms * subNs < u.tFrame (u.rdN 0x3100 0x32)) :
    execWuActivateBroadcast s = .next (u.wuCommand 6 (leBytes 8 (u.rdN 0x3100 0x32))) := by
  obtain ⟨e, l, hel⟩ := List.exists_cons_of_ne_nil hl
  unfold execWuActivateBroadcast
  rw [hu]
  refine (if_neg (by simp [hc, h3])).trans ?_
  dsimp only
  rw [hel]
  exact if_pos ht

theorem wuConfirmWaitExpiry_end (hc : s.coordinates = true) (h4 : s.wuState = 4) (hcl : s.update.wu.closing = none)
    (hu : s.until_ (s.update.wu.startedAt + s.rdN 0x3100 0x35 * second) = u) :
    execWuConfirmWaitExpiry s = match u.update.wu.late with
      | [] => .next (u.wuClose true)
      | e :: _ => .next (u.wuRollback e) := by
  unfold execWuConfirmWaitExpiry
  rw [hu]
  exact if_neg (by simp [hc, h4, hcl])

end

/-! ### Requests -/

section
variable {s u : State} {tag : Nat} {q : SvcRequest}

theorem serviceRequestRetry_again (hc : s.coordinates = true) (hq : (s.update.requests.find? fun q => q.tag == tag) = some q)
    (hu : s.until_ (q.sentAt + 100 * ms) = u) :
    execServiceRequestRetry tag s = .next ((u.withUpdate fun x => { x with requests := x.requests.map fun r =>
      if r.tag = tag then { r with sentAt := u.now } else r }).svcCell (chainPort q.chain) q.station q.frame) := by
  unfold execServiceRequestRetry
  rw [hq]
  dsimp only
  rw [hu]
  exact if_pos hc

end

/-- Settles O44: the coordinator's commands by phase, on the state after the time that each waits. -/
theorem wallUpdateCoordinator : Obligations.WallUpdateCoordinator := by
  unfold Obligations.WallUpdateCoordinator
  intro s hc w
  refine ⟨?_, ?_, ?_, ?_, ?_, ?_⟩
  · intro h1 h2
    simp only [show (1000000000 : Nat) = second from rfl]
    exact ⟨wuWritePace_next hc h1 h2 rfl, wuWritePace_last hc h1 h2 rfl⟩
  · intro fin hf
    obtain ⟨u, hu⟩ : ∃ u, s.pass second = u := ⟨_, rfl⟩
    have hw : u.update.wu = w := by rw [← hu, pass_update]
    have hclose := wuPoll_closing (fin := fin) hc hu (hw ▸ hf)
    rw [hw] at hclose
    simp only [show (1000000000 : Nat) = second from rfl, hu]
    refine ⟨fun hl => ?_, fun hl h => ?_, fun hl h => ?_⟩
    · exact hclose.trans (if_neg hl)
    · subst h; exact hclose.trans (if_pos hl)
    · subst h; exact hclose.trans (if_pos hl)
  · intro h3
    obtain ⟨u, hu⟩ : ∃ u, s.pass (100 * ms) = u := ⟨_, rfl⟩
    have hw : u.update.wu = w := by rw [← hu, pass_update]
    have hr : u.rdN 0x3100 0x32 = s.rdN 0x3100 0x32 := by rw [← hu, State.pass, until_rdN]
    simp only [show (100000000 : Nat) = 100 * ms from rfl, show (200000000 : Nat) = 200 * ms from rfl, hu, ← hr, ← hw]
    exact ⟨fun hl ht => wuActivateBroadcast_started hc h3 hu hl ht, fun hl ht => wuActivateBroadcast_again hc h3 hu hl ht⟩
  · intro h4 hcl
    obtain ⟨u, hu⟩ : ∃ u, s.until_ (w.startedAt + s.rdN 0x3100 0x35 * second) = u := ⟨_, rfl⟩
    have hw : u.update.wu = w := by rw [← hu, until_update]
    have hend := wuConfirmWaitExpiry_end hc h4 hcl hu
    simp only [show (1000000000 : Nat) = second from rfl, hu]
    rw [hw] at hend
    refine ⟨fun hl => ?_, fun e l hl => ?_⟩
    all_goals
      rw [hl] at hend
      exact hend
  · intro p station b hb
    exact if_pos hb
  · intro tag q hq
    obtain ⟨u, hu⟩ : ∃ u, s.until_ (q.sentAt + 100 * ms) = u := ⟨_, rfl⟩
    have hn : q.sentAt + 100 * ms ≤ u.now := by
      rw [← hu]
      exact now_until s _
    have hr : u.update = s.update := by rw [← hu, until_update]
    simp only [show (100000000 : Nat) = 100 * ms from rfl, ← hr]
    exact ⟨_, serviceRequestRetry_again hc hq hu, hn, rfl⟩

end Sys2Proof.Machine
end

section
/-! SUPPORT. What the service port does by time or on a cell (R121, R496 to R513). -/

namespace Sys2Proof.Machine
open Host

/-! ### Sessions, nonces and trials that lapse -/

theorem abandon_now (s : State) : s.abandon.now = s.now :=
  (ignoresAll_same (x := .now) (s₀ := s) (l := [.od, .control, .nvm, .update, .tile, .sent]) (by decide)).discharge kept_abandon s rfl

theorem abandon_record (s : State) : s.abandon.update.record = s.update.record := by
  obtain ⟨frames, h⟩ := updState_update s 0
  unfold State.abandon
  dsimp only
  rw [raise_update]
  exact (congrArg Update.record h :)

theorem settleFlash_now (s : State) (powerLoss : Bool) : (s.settleFlash powerLoss).now = s.now :=
  (ignoresAll_same (x := .now) (s₀ := s) (l := [.nvm, .freeCount]) (by decide)).discharge kept_settleFlash s powerLoss rfl

/-- A cold reset leaves the device in reset, at the instant at which it began. -/
theorem beginCold_life_now (s : State) (cause : Nat) : (s.beginCold cause).life = .inReset ∧ (s.beginCold cause).now = s.now := by
  have hs := settleFlash_now s (cause == 1)
  unfold State.beginCold
  dsimp only
  split
  · simp only [wrN_life, wrN_now, withHost_now, hs]
    exact ⟨rfl, trivial⟩
  · simp only [wrN_life, wrN_now, withHost_now, hs]
    exact ⟨rfl, trivial⟩

section
variable {s : State}

theorem sessionIdleTimeout_ends {k : SvcSource} (h : s.update.session = some k) :
    execSessionIdleTimeout s = .next (s.until_ (s.update.lastRequest + 60 * second)).abandon := by
  unfold execSessionIdleTimeout
  exact if_neg (by simp [h])

theorem helloNonceExpiry_lapses {n : BitVec 128} {at_ : Nat} (h : s.update.hello = some (n, at_)) :
    execHelloNonceExpiry s = .next ((s.until_ (at_ + 10 * second)).withUpdate fun u => { u with hello := none }) := by
  unfold execHelloNonceExpiry
  rw [h]

theorem confirmationTimeout_resets {due : Nat} (h : s.update.confirmAt = some due) :
    execConfirmationTimeout s = .next ((s.until_ due).beginCold 6) := by
  unfold execConfirmationTimeout
  rw [h]

theorem selfTestPass_confirms (hu : s.up = true) (hp : s.pointer.state = 1) (ha : s.rdB 0x3100 0x15 = true) (hn : s.pointing = false)
    (ho : s.selfTestOk = true) : execSelfTestPass s = .next s.confirm := if_pos (by simp [hu, hp, ha, hn, ho])

end

/-! ### A verification that completes -/

theorem showRecord_update (s : State) : s.showRecord.update = s.update :=
  (ignoresAll_same (x := .update) (s₀ := s) (l := [.od]) (by decide)).discharge kept_showRecord s rfl

/-- The blocks that stay complete where a part fails: those outside the part. -/
def SessionRecord.without (r : SessionRecord) (part : Nat × Nat) : SessionRecord :=
  { r with complete := r.complete.filter fun n => decide (n < part.1 ∨ part.2 ≤ n) }

theorem SessionRecord.not_mem_without {r : SessionRecord} {part : Nat × Nat} {n : Nat} (hlo : part.1 ≤ n) (hhi : n < part.2) :
    n ∉ (r.without part).complete := by
  simp only [SessionRecord.without, List.mem_filter, decide_eq_true_eq, not_and]
  omega

section
variable {s : State} {r : SessionRecord}

theorem verifyComplete_good (hs : s.serviceUp = true) (h2 : s.rdN 0x3100 0x01 = 2) (hr : s.update.record = some r)
    (hf : s.failingPart r = none) : ∃ t, execVerifyComplete s = .next t ∧ (r.target ≠ 0 → t.update.session = none) ∧
      (r.target = 0 → t.update.session = s.update.session) := by
  obtain ⟨frames, h⟩ := updState_update ((s.wrN 0x3100 0x0B 0xFF).publish 0x3100 0x09 0x0A true) 3
  unfold execVerifyComplete
  rw [hr]
  dsimp only
  rw [if_neg (by simp [hs, h2]), hf]
  dsimp only
  refine ⟨_, rfl, fun ht => ?_, fun ht => ?_⟩
  · rw [if_neg ht]
    rfl
  · rw [if_pos ht, raise_update, h, publish_update, wrN_update]

theorem verifyComplete_bad {i : Nat} (hs : s.serviceUp = true) (h2 : s.rdN 0x3100 0x01 = 2) (hr : s.update.record = some r)
    (hf : s.failingPart r = some i) : ∃ t, execVerifyComplete s = .next t ∧ t.update.record = some (r.without (s.partBlocks r i)) := by
  unfold execVerifyComplete
  rw [hr]
  dsimp only
  rw [if_neg (by simp [hs, h2]), hf]
  refine ⟨_, rfl, ?_⟩
  obtain ⟨frames, h⟩ := updState_update (((((s.charge 40).withUpdate fun u =>
    { u with record := some (r.without (s.partBlocks r i)) }).showRecord.wrN 0x3100 0x0B i).publish 0x3100 0x09 0x0A false)) 1
  rw [publish_update, wrN_update, showRecord_update] at h
  exact (congrArg Update.record (raise_update _ _ _)).trans (congrArg Update.record h)

end

/-! ### The armed frame and SERVICE cells -/

section
variable {s u : State}

theorem wallActivateAtFrame_armed {f : Nat} {r : SessionRecord} (hf : s.update.armed = some f) (hr : s.update.record = some r)
    (hu : (s.untilWall (s.tFrame f)).withUpdate (fun x => { x with armed := none }) = u)
    (hn : u.refusal u.update.ownerProof [3, 4, 5, 6] = 0) :
    execWallActivateAtFrame s = .next (u.activate { r with mode := 1 }) := by
  unfold execWallActivateAtFrame
  rw [hf, hr]
  dsimp only
  rw [hu]
  exact if_pos hn

theorem serviceCellReceive_cell {port : Fin 2} {x : RxCell} (h5 : x.cell.type = 5) (hu : s.arrive port x = u) :
    execServiceCellReceive port x s = if (u.admitCell x).1 = true then
        .next ((u.admitCell x).2.service (byteAt x.cell.data 1).toNat
          (if x.cell.dest = (u.admitCell x).2.station then .chain else .chainAll) x.cell.data)
      else .next (u.admitCell x).2 := by
  unfold execServiceCellReceive
  rw [hu]
  refine (if_neg (by simp [h5])).trans ?_
  obtain ⟨new, v⟩ := u.admitCell x
  cases new
  · rfl
  · rfl

end

/-- Settles O43: what lapses by its instant, a verification by its outcome, a cell by whether it is admitted. -/
theorem serviceTimers : Obligations.ServiceTimers := by
  unfold Obligations.ServiceTimers
  intro s
  refine ⟨?_, ?_, ?_, ?_, ?_, ?_, ?_⟩
  · intro k hk
    simp only [show (60000000000 : Nat) = 60 * second from rfl]
    refine ⟨_, sessionIdleTimeout_ends hk, abandon_session _, ?_, ?_⟩
    · rw [abandon_record, until_update]
    · rw [abandon_now]
      exact now_until s _
  · intro n at_ hn
    simp only [show (10000000000 : Nat) = 10 * second from rfl]
    refine ⟨_, helloNonceExpiry_lapses hn, rfl, ?_⟩
    rw [withUpdate_now]
    exact now_until s _
  · intro due hd
    obtain ⟨hlife, hnow⟩ := beginCold_life_now (s.until_ due) 6
    refine ⟨_, confirmationTimeout_resets hd, hlife, ?_⟩
    rw [hnow]
    exact now_until s due
  · exact fun hu hp ha hn ho => selfTestPass_confirms hu hp ha hn ho
  · intro r hs h2 hr
    refine ⟨fun hf => verifyComplete_good hs h2 hr hf, fun i hf => ?_⟩
    obtain ⟨t, hexec, hrec⟩ := verifyComplete_bad hs h2 hr hf
    exact ⟨t, _, hexec, hrec, fun n hlo hhi => SessionRecord.not_mem_without hlo hhi⟩
  · intro f r hf hr u hn
    exact wallActivateAtFrame_armed hf hr rfl hn
  · intro port x h5 u
    have h := serviceCellReceive_cell (s := s) (port := port) h5 rfl
    exact ⟨fun hn => h.trans (if_pos hn), fun hn => h.trans (if_neg (Bool.eq_false_iff.1 hn))⟩

end Sys2Proof.Machine
end

section
/-! SUPPORT. The replay limit, the memory self tests and the TAP (R521, R531, R532). -/

namespace Sys2Proof.Machine
open Host

/-! ### The memory self tests of a start -/

section
variable {s u : State}

/-- A start's self test without repairs writes their count, 0, and takes each fault in turn. -/
theorem memoryBistComplete_start (hl : s.life = .coldStart) (faults : List BistFault) (hu : s.until_ (s.clocks.startAt + 28 * ms) = u) :
    execMemoryBistComplete [] faults s = .next (faults.foldl State.memoryFault (u.wrN 0x3200 0x16 0)) := by
  unfold execMemoryBistComplete
  rw [hu]
  exact if_neg fun h => h.1 hl

theorem memoryBistComplete_one (hl : s.life = .coldStart) (f : BistFault) (hu : s.until_ (s.clocks.startAt + 28 * ms) = u) :
    execMemoryBistComplete [] [f] s = .next ((u.wrN 0x3200 0x16 0).memoryFault f) := memoryBistComplete_start hl [f] hu

theorem memoryFault_scaler (t : State) (k : Fin 8) :
    (t.memoryFault (.scaler k)).lamps.retired = t.lamps.retired ||| BitVec.ofNat 8 (2 ^ k.1) ∧ (t.memoryFault (.scaler k)).life = t.life := by
  unfold State.memoryFault
  dsimp only
  rw [raise_lamps, raise_life]
  exact ⟨rfl, rfl⟩

theorem memoryFault_engine (t : State) (p : Fin 64) :
    (t.memoryFault (.engine p)).lamps.dead = t.lamps.dead ||| BitVec.ofNat 64 (2 ^ p.1) ∧ (t.memoryFault (.engine p)).life = t.life := by
  unfold State.memoryFault
  dsimp only
  rw [raise_lamps, raise_life]
  exact ⟨rfl, rfl⟩

theorem memoryFault_cluster (t : State) : (t.memoryFault .cluster).life = .bootRom := by
  unfold State.memoryFault
  dsimp only
  rw [raise_life]

end

/-! ### The self test on command -/

/-- The state in which a self test that ends is published. -/
def State.bistDone (s : State) : State := { s with lamps := { s.lamps with bistRun := none } }

section
variable {s u : State} {kind unit_ : Nat}

theorem bistComplete_good (ht : s.isTile = true) (hr : s.lamps.bistRun = some (kind, unit_))
    (hu : s.pass (if kind = 1 then 2 * ms else ms) = u) :
    execBistComplete none s = .next ((u.bistDone.publish 0x3200 0x22 0x23 true).wrN 0x3200 0x24 0) := by
  unfold execBistComplete
  rw [hr]
  dsimp only
  rw [hu]
  exact if_neg (by simp [ht])

theorem bistComplete_fails (ht : s.isTile = true) (hr : s.lamps.bistRun = some (kind, unit_)) (a : Nat)
    (hu : s.pass (if kind = 1 then 2 * ms else ms) = u) :
    execBistComplete (some a) s = .next (State.raise
      (if kind = 1 then ((u.bistDone.publish 0x3200 0x22 0x23 false).wrN 0x3200 0x24 a).retire (Fin.ofNat 8 unit_) 2
       else ((u.bistDone.publish 0x3200 0x22 0x23 false).wrN 0x3200 0x24 a).deadPort (Fin.ofNat 64 unit_))
      0xA213 (det unit_ (kind * 64 + unit_))) := by
  unfold execBistComplete
  rw [hr]
  dsimp only
  rw [hu]
  exact if_neg (by simp [ht])

/-- A unit's self test that fails retires the scaler or the port engine that it was on. -/
theorem bistComplete_retires (ht : s.isTile = true) (hr : s.lamps.bistRun = some (kind, unit_)) (a : Nat) :
    ∃ t, execBistComplete (some a) s = .next t ∧ t.lamps.bistRun = none ∧
      (kind = 1 → t.lamps.retired = s.lamps.retired ||| BitVec.ofNat 8 (2 ^ (Fin.ofNat 8 unit_).1)) ∧
      (kind ≠ 1 → t.lamps.dead = s.lamps.dead ||| BitVec.ofNat 64 (2 ^ (Fin.ofNat 64 unit_).1)) := by
  obtain ⟨u, hu⟩ : ∃ u, s.pass (if kind = 1 then 2 * ms else ms) = u := ⟨_, rfl⟩
  have hlamps : u.lamps = s.lamps := by rw [← hu, pass_lamps]
  refine ⟨_, bistComplete_fails ht hr a hu, ?_, fun hk => ?_, fun hk => ?_⟩
  · rw [raise_lamps]
    split
    · rfl
    · rfl
  · rw [raise_lamps, if_pos hk, ← hlamps]
    rfl
  · rw [raise_lamps, if_neg hk, ← hlamps]
    rfl

end

/-! ### The TAP -/

theorem tapBits_idcode : tapBits 32 0x1960053D = (List.range 32).map fun i => (0x1960053D#32).getLsbD i := by decide

theorem takeBalls_taken (s : State) : s.takeBalls.tap.ballsTaken = true := by
  unfold State.takeBalls
  split
  · assumption
  · rfl

theorem takeBalls_lanes {s : State} (h : s.tap.ballsTaken = false) : s.takeBalls.lanes = Lanes.reset := by
  unfold State.takeBalls
  rw [h]
  rfl

section
variable {s : State}

theorem debugOpen_iff : s.debugOpen = true ↔ s.otp.jtagMode = 0 ∨ (s.otp.jtagMode = 1 ∧ s.tap.unlocked = true) := by
  simp [State.debugOpen]

/-- A challenge is read: a fresh nonce, and nothing else of the TAP but its instruction. -/
theorem tapDbgUnlock_challenge (h : s.tap.nonceFrom ≤ s.now) : ∃ n t, execTapDbgUnlock none s = .next t ∧ t.tap.nonce = some n ∧
    t.tap = { s.tap with instr := .dbgUnlock, nonce := some n } :=
  ⟨_, _, if_neg (Nat.not_lt.2 h), rfl, rfl⟩

theorem tapDbgUnlock_closed (h : s.now < s.tap.nonceFrom) : execTapDbgUnlock none s = .next { s with
    tap := { s.tap with instr := .dbgUnlock }
    sent := s.sent ++ [.tap (List.replicate 256 false)] } := if_pos h

theorem tapDbgUnlock_opens {n proof : BitVec 128} (hm : s.otp.jtagMode = 1) (hn : s.tap.nonce = some n) (hp : proof = s.debugProof n) :
    ∃ t, execTapDbgUnlock (some (n, proof)) s = .next t ∧
      t.tap = { s.tap with instr := .dbgUnlock, unlocked := true, nonce := none } :=
  ⟨_, (if_neg fun h => h hm).trans (if_pos ⟨hn, hp⟩), raise_tap _ _ _⟩

theorem tapDbgUnlock_wrong {n proof : BitVec 128} (hm : s.otp.jtagMode = 1) (hp : proof ≠ s.debugProof n) :
    ∃ t, execTapDbgUnlock (some (n, proof)) s = .next t ∧
      t.tap = { s.tap with instr := .dbgUnlock, nonce := none, nonceFrom := s.now + second } :=
  ⟨_, (if_neg fun h => h hm).trans (if_neg fun h => hp h.2), raise_tap _ _ _⟩

end

/-- Settles O45: the self tests by their findings, the TAP instruction by instruction. -/
theorem bistAndTap : Obligations.BistAndTap := by
  unfold Obligations.BistAndTap
  constructor
  · intro s
    obtain ⟨u, hu⟩ : ∃ u, s.until_ (s.clocks.startAt + 28 * ms) = u := ⟨_, rfl⟩
    have hulife : u.life = s.life := by rw [← hu, until_life]
    have hulamps : u.lamps = s.lamps := by rw [← hu, until_lamps]
    refine ⟨?_, ?_, ?_, ?_, ?_, ?_, ?_⟩
    · intro t ht hr
      unfold exec
      dsimp only
      unfold execReplayLimitExpiry
      rw [hr]
      exact if_neg (by simp [ht])
    · intro hl
      refine ⟨_, memoryBistComplete_start hl [] hu, hulife.trans hl, ?_, ?_⟩
      · show (u.wrN 0x3200 0x16 0).od = (s.wrN 0x3200 0x16 0).od
        simp only [State.wrN, State.wr, ← hu, until_role, until_od]
      · show s.clocks.startAt + 28 * ms ≤ u.now
        rw [← hu]
        exact now_until s _
    · intro hl k
      obtain ⟨hret, hlife⟩ := memoryFault_scaler (u.wrN 0x3200 0x16 0) k
      rw [wrN_lamps, hulamps] at hret
      rw [wrN_life, hulife, hl] at hlife
      exact ⟨_, memoryBistComplete_one hl (.scaler k) hu, hret, hlife⟩
    · intro hl p
      obtain ⟨hdead, hlife⟩ := memoryFault_engine (u.wrN 0x3200 0x16 0) p
      rw [wrN_lamps, hulamps] at hdead
      rw [wrN_life, hulife, hl] at hlife
      exact ⟨_, memoryBistComplete_one hl (.engine p) hu, hdead, hlife⟩
    · intro hl
      exact ⟨_, memoryBistComplete_one hl .cluster hu, memoryFault_cluster _⟩
    · intro kind p ht hk hr
      have hp : Fin.ofNat 64 p.1 = p := Fin.ext (Nat.mod_eq_of_lt p.2)
      refine ⟨?_, fun a => ?_⟩
      · obtain ⟨v, hv⟩ : ∃ v, s.pass ms = v := ⟨_, rfl⟩
        have hlamps : s.lamps = v.lamps := by rw [← hv, pass_lamps]
        rw [show s.pass 1000000 = v from hv, hlamps]
        exact bistComplete_good ht hr (by rw [if_neg hk, hv])
      · obtain ⟨t, hexec, hrun, -, hdead⟩ := bistComplete_retires ht hr a
        exact ⟨t, hexec, hrun, hp ▸ hdead hk⟩
    · intro k a ht hr
      have hk : Fin.ofNat 8 k.1 = k := Fin.ext (Nat.mod_eq_of_lt k.2)
      obtain ⟨t, hexec, hrun, hret, -⟩ := bistComplete_retires ht hr a
      exact ⟨t, hexec, hrun, hk ▸ hret rfl⟩
  · intro s pins shifted scan bypass
    refine ⟨rfl, ?_, rfl, rfl, rfl, rfl, rfl, rfl, rfl, takeBalls_taken s, takeBalls_lanes, rfl, ?_, ?_,
      tapDbgUnlock_challenge, tapDbgUnlock_closed, ?_, ?_⟩
    · rw [← tapBits_idcode]
      rfl
    · exact fun h => if_pos (debugOpen_iff.2 h)
    · exact fun h => if_neg fun ho => h (debugOpen_iff.1 ho)
    · exact fun n proof hm hn hp => tapDbgUnlock_opens hm hn hp
    · exact fun n proof hm _ hp => tapDbgUnlock_wrong hm hp

end Sys2Proof.Machine
end

section
/-! SUPPORT. The ingress: frames, queries, packets, selections and frame boundaries (R46 to R64, R68, R171, R172). -/

namespace Sys2Proof.Machine
open Host

/-! ### Ethernet frames and queries -/

section
variable {s : State} {e : Fin 8}

theorem ethSend_on (h : s.hasEth e = true) (dest proto : Nat) (data : List Byte) :
    s.ethSend e dest proto data = s.emit (.ethernet e (macOf e) (s.rdN 0x2102 (0x18 + e)) dest proto data) := if_pos h

/-- The VLAN that a port takes. -/
def State.ownVlan (s : State) (e : Fin 8) : Option Nat :=
  if s.rdN 0x2102 (0x18 + e) = 0 then none else some (s.rdN 0x2102 (0x18 + e))

theorem txPortCEthernetFrame_absent {f : EthFrame} (h : s.hasEth e = false) : execTxPortCEthernetFrame e f s = .next s :=
  if_pos (by rw [h]; rfl)

theorem txPortCEthernetFrame_other {f : EthFrame} (h : s.hasEth e = true) (hv : f.vlan ≠ s.ownVlan e) :
    execTxPortCEthernetFrame e f s = .next (s.ethDrop e) := (if_neg (by rw [h]; decide)).trans (if_pos hv)

/-- A frame of the own VLAN goes by its body. -/
theorem txPortCEthernetFrame_body {f : EthFrame} (h : s.hasEth e = true) (hv : f.vlan = s.ownVlan e) :
    (∀ src, f.body = .arp src (s.rdN 0x2102 (0x10 + e)) → execTxPortCEthernetFrame e f s =
      .next (s.ethSend e src 0x0806 (beBytes 6 (macOf e) ++ beBytes 4 (s.rdN 0x2102 (0x10 + e))))) ∧
    (∀ src b, f.body = .echo src (s.rdN 0x2102 (0x10 + e)) b → execTxPortCEthernetFrame e f s = .next (s.ethSend e src 1 b)) ∧
    (f.body = .other → execTxPortCEthernetFrame e f s = .next (s.ethDrop e)) ∧
    (∀ src dst port b r, f.body = .udp src dst port b → dst ≠ 0xE0000181 → s.receivers e src dst port = [r] →
      execTxPortCEthernetFrame e f s = .next (s.rtpPacket r.1 r.2 b)) := by
  unfold execTxPortCEthernetFrame
  dsimp only
  rw [if_neg (by rw [h]; decide), if_neg (fun k => k hv)]
  refine ⟨fun src hb => ?_, fun src b hb => ?_, fun hb => ?_, fun src dst port b r hb hd hr => ?_⟩
  · rw [hb]
    exact if_pos rfl
  · rw [hb]
    exact if_pos rfl
  · rw [hb]
  · rw [hb]
    refine (if_neg fun k => hd k.1).trans ?_
    rw [hr]
    rfl

theorem igmpFor_ingress (s : State) (n : Nat) (path : Fin 2) (kind : Nat) (sources : List Nat) (t : Nat) :
    (s.igmpFor n path kind sources t).ingress = s.ingress :=
  (ignoresAll_same (x := .ingress) (s₀ := s) (l := [.sent]) (by decide)).discharge kept_igmpFor s n path kind sources t rfl

theorem igmpAnswer_ingress (s : State) (n : Nat) (path : Fin 2) (sources : List Nat) :
    (s.igmpAnswer n path sources).ingress = s.ingress :=
  (ignoresAll_same (x := .ingress) (s₀ := s) (l := [.sent]) (by decide)).discharge kept_igmpAnswer s n path sources rfl

theorem igmpJoin_ingress (s : State) (n : Nat) : (s.igmpJoin n).ingress = s.ingress :=
  (ignoresAll_same (x := .ingress) (s₀ := s) (l := [.sent]) (by decide)).discharge kept_igmpJoin s n rfl

theorem igmpJoin_now (s : State) (n : Nat) : (s.igmpJoin n).now = s.now :=
  (ignoresAll_same (x := .now) (s₀ := s) (l := [.sent]) (by decide)).discharge kept_igmpJoin s n rfl

theorem igmpQueryReceive_old {group : Nat} (sources : List Nat) : execIgmpQueryReceive e 1 group sources s = .next s :=
  if_pos (.inr (by decide))

/-- A version 2 query: a general one begins the compatibility mode, one of a group leaves it. -/
theorem igmpQueryReceive_v2 (h : s.hasEth e = true) (group : Nat) (sources : List Nat) :
    ∃ t, execIgmpQueryReceive e 2 group sources s = .next t ∧
      t.ingress.igmpV2 = if group = 0 then vset s.ingress.igmpV2 e (some (s.now + 260 * second)) else s.ingress.igmpV2 := by
  unfold execIgmpQueryReceive
  extract_lets old fresh u paths v asked
  have hu : u.ingress.igmpV2 = if group = 0 then vset s.ingress.igmpV2 e (some (s.now + 260 * second)) else s.ingress.igmpV2 := by
    by_cases hg : group = 0
    · rw [if_pos hg]
      exact congrArg (fun t : State => t.ingress.igmpV2) (if_pos (by simp [old, hg]))
    · rw [if_neg hg]
      exact congrArg (fun t : State => t.ingress.igmpV2) (if_neg (by simp [old, hg]))
  have hv : v.ingress = u.ingress :=
    ite_proj State.ingress _ (foldl_proj State.ingress (fun s p => raise_ingress s _ _) _ _) rfl
  refine ⟨_, if_neg (by simp [h]), ?_⟩
  have hw : ∀ l : List (Nat × Fin 2), (l.foldl (fun w p => w.igmpAnswer p.1 p.2 sources) v).ingress = v.ingress := fun l =>
    foldl_proj State.ingress (fun w (p : Nat × Fin 2) => igmpAnswer_ingress w p.1 p.2 sources) l v
  rw [hw, hv, hu]

theorem igmpReportTimer_due {n : Fin 32} {t0 : Nat} (h : s.ingress.stream[n].reportAt = some t0) :
    execIgmpReportTimer n s = .next (((s.until_ t0).withStream n fun r => { r with reportAt := none }).igmpJoin n) := by
  unfold execIgmpReportTimer
  rw [h]

theorem frameCloseTimeout_due {n : Fin 32} {at_ : Nat} {ts : BitVec 32} (h : s.ingress.stream[n].dueFirst = some (at_, ts)) :
    execFrameCloseTimeout n s = .next ((s.until_ at_).closeTs n ts) := by
  unfold execFrameCloseTimeout
  rw [h]

end

/-! ### Streams -/

theorem withStream_stream (s : State) (n : Fin 32) (f : StreamRun → StreamRun) :
    (s.withStream n f).ingress.stream[n] = f s.ingress.stream[n] := by
  simp [State.withStream, State.withIngress, vmod, vset]

theorem withStream_stream_ne (s : State) {n m : Fin 32} (f : StreamRun → StreamRun) (h : m ≠ n) :
    (s.withStream m f).ingress.stream[n] = s.ingress.stream[n] := by
  have h' : m.1 ≠ n.1 := fun k => h (Fin.ext k)
  simp [State.withStream, State.withIngress, vmod, vset, Vector.getElem_set_ne _ _ h']

section
variable {s u : State} {n : Fin 32}

theorem countLost_lost (s : State) (n : Fin 32) : (s.countLost n).ingress.stream[n].lost = s.ingress.stream[n].lost := by
  unfold State.countLost
  dsimp only
  rw [withStream_stream, bump_ingress, bump_ingress, bump_ingress]

theorem countLost_now (s : State) (n : Fin 32) : (s.countLost n).now = s.now :=
  (ignoresAll_same (x := .now) (s₀ := s) (l := [.od, .ingress]) (by decide)).discharge kept_countLost s n rfl

/-- A path in use that falls silent is lost after 100 ms. -/
theorem pathLostTimeout_lost {path : Fin 2} (ho : s.streamOn n = true) (hp : s.pathUsed n path = true)
    (hl : s.ingress.stream[n].lost[path] = false) (hu : s.until_ (s.ingress.stream[n].lastArrival[path] + 100 * ms) = u) :
    ∃ t, execPathLostTimeout n path s = .next t ∧ t.ingress.stream[n].lost[path] = true ∧ t.now = u.now := by
  have hg : ¬((!s.streamOn n) = true ∨ (!s.pathUsed n path) = true ∨ s.ingress.stream[n].lost[path] = true) := by
    simp only [ho, hp, hl]
    decide
  unfold execPathLostTimeout
  dsimp only
  rw [if_neg hg, hu]
  generalize hv : State.raise (u.withStream n fun r => { r with lost := vset r.lost path true }) 0x5001 (det n (path + 1)) = v
  have hlost : (v.countLost n).ingress.stream[n].lost[path] = true := by
    rw [countLost_lost, ← hv, raise_ingress, withStream_stream]
    simp [vset]
  have hnow : (v.countLost n).now = u.now := by rw [countLost_now, ← hv, raise_now, withStream_now]
  split
  · refine ⟨_, rfl, ?_, ?_⟩
    · rw [raise_ingress, wrN_ingress]
      exact hlost
    · rw [raise_now, wrN_now, hnow]
  · exact ⟨_, rfl, hlost, hnow⟩

theorem jpegXsDecodeComplete_good {f : OpenFrame} {rest : List OpenFrame} (h : s.ingress.stream[n].decoding = f :: rest) :
    execJpegXsDecodeComplete n none s =
      .next ((s.withStream n fun r => { r with decoding := rest }).complete n f.ts (.codestream (packetsJoin f.packets))) := by
  unfold execJpegXsDecodeComplete
  rw [h]

theorem store_decoding (s : State) (n : Fin 32) (g : SrcFrame) :
    (s.store n g).ingress.stream[n].decoding = s.ingress.stream[n].decoding := by
  unfold State.store
  dsimp only
  rw [withStream_stream]
  exact congrArg (fun g : Ingress => g.stream[n].decoding) (ite_proj State.ingress _ rfl (bump_ingress _ _ _ _))

theorem jpegXsDecodeComplete_fails {f : OpenFrame} {rest : List OpenFrame} (h : s.ingress.stream[n].decoding = f :: rest) (off : Nat) :
    ∃ t, execJpegXsDecodeComplete n (some off) s = .next t ∧ t.ingress.stream[n].decoding = rest := by
  unfold execJpegXsDecodeComplete
  rw [h]
  refine ⟨_, rfl, ?_⟩
  rw [raise_ingress, State.incomplete, store_decoding, raise_ingress, bump_ingress, withStream_stream]

end

/-! ### Selections -/

theorem StreamRun.select_selection (r : StreamRun) (f : Nat) (ts : Option (BitVec 32)) :
    (r.select f ts).selection f = some ((r.selection f).getD ts) := by
  unfold StreamRun.select
  split
  · next h =>
    obtain ⟨x, hx⟩ := Option.isSome_iff_exists.1 h
    rw [hx]
    rfl
  · next h =>
    rw [Option.not_isSome_iff_eq_none.1 h]
    simp [StreamRun.selection]

/-- A selection that stands is kept by another one, of whatever stream, for the same frame. -/
theorem withStream_select (s : State) (m n : Fin 32) (f : Nat) (ts : StreamRun → Option (BitVec 32)) {x : Option (BitVec 32)}
    (h : s.ingress.stream[n].selection f = some x) :
    (s.withStream m fun r => r.select f (ts r)).ingress.stream[n].selection f = some x := by
  by_cases hm : m = n
  · subst hm
    rw [withStream_stream, StreamRun.select_selection, h]
    rfl
  · rw [withStream_stream_ne _ _ hm]
    exact h

/-- What holds of every state of a fold from some state on. -/
theorem foldl_keeps {α : Type} {f : State → α → State} (P : State → Prop) (h : ∀ s a, P s → P (f s a)) (l : List α) {s : State} (hs : P s) :
    P (l.foldl f s) := by
  induction l generalizing s with
  | nil => exact hs
  | cons a l ih => exact ih (h s a hs)

theorem foldl_same {α : Type} {f : State → α → State} {l : List α} {s : State} (h : ∀ a ∈ l, ∀ v, f v a = v) : l.foldl f s = s := by
  induction l generalizing s with
  | nil => rfl
  | cons a l ih =>
    rw [List.foldl_cons, h a List.mem_cons_self]
    exact ih fun b hb => h b (List.mem_cons_of_mem a hb)

/-- What one step of a fold brings about and every step keeps, holds at its end. -/
theorem foldl_reaches {α : Type} {f : State → α → State} (I P : State → Prop) {a : α} (hI : ∀ s b, I s → I (f s b))
    (hP : ∀ s b, P s → P (f s b)) (ha : ∀ s, I s → P (f s a)) {l : List α} (hl : a ∈ l) {s : State} (hs : I s) : P (l.foldl f s) := by
  induction l generalizing s with
  | nil => cases hl
  | cons b l ih =>
    obtain rfl | hmem := List.mem_cons.1 hl
    · exact foldl_keeps P hP l (ha s hs)
    · exact ih hmem (hI s b hs)

section
variable {s u : State}

theorem subscribed_withStream (s : State) (m n : Fin 32) (f : StreamRun → StreamRun) : (s.withStream m f).subscribed n = s.subscribed n := rfl

theorem freeStream_withStream (s : State) (m : Fin 32) (n : Nat) (f : StreamRun → StreamRun) :
    (s.withStream m f).freeStream n = s.freeStream n := rfl

theorem freeSelectChoice_chooses (hs : s.isSender = true) (hl : s.quartz.lockedOnce = true)
    (hu : s.untilWall (s.tFrame (s.quartz.frame + 1) - 500000 * subNs) = u) (ho : u.selector = true) :
    ∃ t, execFreeSelectChoice s = .next t ∧
      ∀ n, u.subscribed n = true → u.freeStream n = true → (t.ingress.stream[n].selection (s.quartz.frame + 1)).isSome = true := by
  unfold execFreeSelectChoice
  rw [if_neg (by simp [hs, hl])]
  extract_lets f v
  have hv : v = u := hu
  clear_value v
  subst hv
  rw [if_neg (by simp [ho])]
  refine ⟨_, rfl, fun n hsub hfree => ?_⟩
  refine foldl_reaches (a := n) (fun v => v.subscribed n = true ∧ v.freeStream n = true)
    (fun v => (v.ingress.stream[n].selection (s.quartz.frame + 1)).isSome = true) ?_ ?_ ?_ (List.mem_finRange n) ⟨hsub, hfree⟩
  · intro v m hv
    split
    · exact hv
    · exact hv
  · intro v m hv
    obtain ⟨x, hx⟩ := Option.isSome_iff_exists.1 hv
    split
    · exact hv
    · exact Option.isSome_iff_exists.2 ⟨x, withStream_select v m n f _ hx⟩
  · rintro v ⟨h1, h2⟩
    rw [if_neg (by simp [h1, h2]), withStream_stream, StreamRun.select_selection]
    rfl

theorem sendOn_cascade (s : State) (i : Fin 2) (c : CascadeUnit) : (s.sendOn i c).cascade = s.cascade :=
  (ignoresAll_same (x := .cascade) (s₀ := s) (l := [.lanes, .sent]) (by decide)).discharge kept_sendOn s i c rfl

/-- A unit that is sent takes the next number. -/
theorem sendUnit_useq (s : State) (kind dst chain rel : Nat) (body : List Byte) :
    (s.sendUnit kind dst chain rel body).cascade.useq = s.cascade.useq + 1 := by
  unfold State.sendUnit
  dsimp only
  split
  · rfl
  · exact congrArg Cascade.useq (foldl_proj State.cascade (fun s i => sendOn_cascade s i _) _ _)

theorem selectSend_sends (hs : s.isSender = true) (hl : s.quartz.lockedOnce = true)
    (hu : s.untilWall (s.tFrame (s.quartz.frame + 1) - 400000 * subNs) = u) (ho : u.selector = true) {n : Fin 32}
    (hsub : u.subscribed n = true) (hfree : u.freeStream n = true)
    (hsel : (u.ingress.stream[n].selection (s.quartz.frame + 1)).isSome = true) :
    ∃ t, execSelectSend s = .next t ∧ t.cascade.useq = s.cascade.useq + 1 := by
  obtain ⟨x, hx⟩ := Option.isSome_iff_exists.1 hsel
  have hcascade : u.cascade = s.cascade := by rw [← hu, untilWall_cascade]
  unfold execSelectSend
  rw [if_neg (by simp [hs, hl])]
  extract_lets f v es
  have hv : v = u := hu
  clear_value v
  subst hv
  have hes : es ≠ [] := by
    refine List.ne_nil_of_mem (a := selectEntry n f x) (List.mem_filterMap.2 ⟨n, List.mem_finRange n, ?_⟩)
    rw [if_pos (by simp [hsub, hfree]), show v.ingress.stream[n].selection f = some x from hx]
    rfl
  refine ⟨_, if_neg (by simp [ho, hes]), ?_⟩
  rw [sendUnit_useq, hcascade]

/-- One entry of a SELECT unit, taken for the frame that comes. -/
def State.takeSelect (f : Nat) (s : State) (e : Nat) : State :=
  if h : bits e 63 56 < 32 then
    if e = 0 ∨ bits e 55 48 ≠ f % 256 then s
    else s.withStream ⟨bits e 63 56, h⟩ fun r => r.select f (if bit e 40 then none else some (BitVec.ofNat 32 (bits e 31 0)))
  else s

theorem takeSelect_empty (f : Nat) (s : State) : s.takeSelect f 0 = s := by
  unfold State.takeSelect
  split
  · exact if_pos (.inl rfl)
  · rfl

theorem takeSelect_keeps {f e : Nat} {n : Fin 32} {x : Option (BitVec 32)} {s : State} (h : s.ingress.stream[n].selection f = some x) :
    (s.takeSelect f e).ingress.stream[n].selection f = some x := by
  unfold State.takeSelect
  split
  · split
    · exact h
    · exact withStream_select _ _ _ _ (fun _ => _) h
  · exact h

theorem takeSelect_takes {f e : Nat} {n : Fin 32} {s : State} (h0 : e ≠ 0) (hn : bits e 63 56 = n) (hf : bits e 55 48 = f % 256)
    (h : s.ingress.stream[n].selection f = none) : (s.takeSelect f e).ingress.stream[n].selection f =
      some (if bit e 40 then none else some (BitVec.ofNat 32 (bits e 31 0))) := by
  have hlt : bits e 63 56 < 32 := hn ▸ n.2
  obtain rfl : n = ⟨bits e 63 56, hlt⟩ := Fin.ext hn.symm
  unfold State.takeSelect
  rw [dif_pos hlt, if_neg (by rintro (k | k); exacts [h0 k, k hf]), withStream_stream, StreamRun.select_selection, h]
  rfl

theorem selectUnitReceive_taken {link : Fin 2} {c : CascadeUnit} (hm : (s.takeUnit link c).1 = true) (hk : c.kind = 3)
    (hu : (s.takeUnit link c).2 = u) : execSelectUnitReceive link c s =
      .next ((List.range 32).foldl (fun v k => v.takeSelect (u.quartz.frame + 1) (field c.body (8 * k) 8)) u) := by
  subst hu
  unfold execSelectUnitReceive
  generalize s.takeUnit link c = y at hm ⊢
  obtain ⟨mine, v⟩ := y
  exact if_neg (by rintro (k | k); exacts [by simp [show mine = true from hm] at k, k hk])

theorem selectUnitReceive_empty {link : Fin 2} {c : CascadeUnit} (hm : (s.takeUnit link c).1 = true) (hk : c.kind = 3)
    (hu : (s.takeUnit link c).2 = u) (h0 : ∀ k < 32, field c.body (8 * k) 8 = 0) : execSelectUnitReceive link c s = .next u := by
  refine (selectUnitReceive_taken hm hk hu).trans (congrArg Outcome.next (foldl_same fun k hk w => ?_))
  rw [h0 k (List.mem_range.1 hk)]
  exact takeSelect_empty _ w

/-- The first entry of a unit is taken, and what follows it does not change it. -/
theorem selectUnitReceive_entry {link : Fin 2} {c : CascadeUnit} (hm : (s.takeUnit link c).1 = true) (hk : c.kind = 3)
    (hu : (s.takeUnit link c).2 = u) {n : Fin 32} (h0 : field c.body 0 8 ≠ 0) (hn : bits (field c.body 0 8) 63 56 = n)
    (hf : bits (field c.body 0 8) 55 48 = (u.quartz.frame + 1) % 256) (hsel : u.ingress.stream[n].selection (u.quartz.frame + 1) = none) :
    ∃ t, execSelectUnitReceive link c s = .next t ∧ t.ingress.stream[n].selection (u.quartz.frame + 1) =
      some (if bit (field c.body 0 8) 40 then none else some (BitVec.ofNat 32 (bits (field c.body 0 8) 31 0))) := by
  refine ⟨_, selectUnitReceive_taken hm hk hu, ?_⟩
  rw [show List.range 32 = 0 :: (List.range 31).map (· + 1) from by decide, List.foldl_cons]
  exact foldl_keeps (fun w => w.ingress.stream[n].selection (u.quartz.frame + 1) = some _) (fun w k hw => takeSelect_keeps hw) _
    (takeSelect_takes h0 hn hf hsel)

theorem beginFrame_role (s : State) : s.beginFrame.role = s.role :=
  (ignoresAll_same (x := .role) (s₀ := s) (l := [.now, .od, .control, .nvm, .quartz, .sent]) (by decide)).discharge
    kept_beginFrame s rfl

/-- A frame boundary begins the frame, and then runs the role's part of it. -/
theorem frameBoundary_runs (hu : s.up = true) (hl : s.quartz.lockedOnce = true) (errors : List (Nat × Nat)) :
    execFrameBoundary errors s = .next (if s.role = .tile then s.beginFrame.tileFrame s.genNow errors
      else if s.role = .sender then s.beginFrame.senderFrame errors else s.beginFrame) := by
  unfold execFrameBoundary
  rw [if_neg (by simp [hu, hl])]
  dsimp only
  rw [beginFrame_role]

end

/-- Settles O46: frames by their body, queries by their version, streams and selections by the run that each command touches. -/
theorem ingress : Obligations.Ingress := by
  unfold Obligations.Ingress
  intro s
  refine ⟨?_, ?_, ?_, ?_, ?_, ?_, ?_, ?_, ?_, ?_, ?_⟩
  · exact fun e f he => txPortCEthernetFrame_absent he
  · intro e f he vlan own ours
    refine ⟨fun hv => txPortCEthernetFrame_other he hv, fun hv => ?_⟩
    obtain ⟨harp, hecho, hother, hudp⟩ := txPortCEthernetFrame_body he hv
    refine ⟨fun src hb => ?_, fun src b hb => ?_, hother, hudp⟩
    · rw [← ethSend_on he]
      exact harp src hb
    · rw [← ethSend_on he]
      exact hecho src b hb
  · intro e group sources he
    refine ⟨igmpQueryReceive_old sources, ?_, fun hg => ?_⟩
    · obtain ⟨t, hexec, hv2⟩ := igmpQueryReceive_v2 he 0 sources
      refine ⟨t, hexec, ?_⟩
      rw [hv2]
      simp [vset]
    · obtain ⟨t, hexec, hv2⟩ := igmpQueryReceive_v2 he group sources
      exact ⟨t, hexec, hv2.trans (if_neg hg)⟩
  · intro n t0 h
    refine ⟨_, igmpReportTimer_due h, ?_, ?_⟩
    · rw [igmpJoin_ingress, withStream_stream]
    · rw [igmpJoin_now, withStream_now]
      exact now_until s t0
  · exact fun n path b => rfl
  · exact fun n at_ ts h => frameCloseTimeout_due h
  · intro n path ho hp hl
    obtain ⟨t, hexec, hlost, hnow⟩ := pathLostTimeout_lost ho hp hl rfl
    exact ⟨t, hexec, hlost, hnow ▸ now_until s _⟩
  · intro n f rest h u
    exact ⟨jpegXsDecodeComplete_good h, jpegXsDecodeComplete_fails h 0⟩
  · intro hs hl
    refine ⟨freeSelectChoice_chooses hs hl rfl, ?_⟩
    generalize hv : s.untilWall (s.tFrame (s.quartz.frame + 1) - 400000 * subNs) = v
    exact fun ho n hsub hfree hsel => selectSend_sends hs hl hv ho hsub hfree hsel
  · intro link c
    generalize hv : (s.takeUnit link c).2 = v
    intro v' f hm hk
    refine ⟨selectUnitReceive_empty hm hk hv, ?_⟩
    intro n e h0 hn hf hsel
    exact selectUnitReceive_entry hm hk hv h0 hn hf hsel
  · intro hu hl errors
    have h := frameBoundary_runs hu hl errors
    refine ⟨fun hr => h.trans (congrArg Outcome.next (if_pos hr)), fun hr => ?_⟩
    rw [hr] at h
    exact h

end Sys2Proof.Machine
end

section
/-! SUPPORT. The frame master's sources and the output pulses (R174 to R177, R197). -/

namespace Sys2Proof.Machine
open Host

/-! ### Time moves the wall only -/

theorem until_ptp (s : State) (t : Nat) : (s.until_ t).quartz.ptp = s.quartz.ptp := by
  unfold State.until_
  split
  · rfl
  · rfl

theorem until_state (s : State) (t : Nat) : (s.until_ t).quartz.state = s.quartz.state := by
  unfold State.until_
  split
  · rfl
  · rfl

theorem untilWall_glMisses (s : State) (w : Nat) : (s.untilWall w).quartz.glMisses = s.quartz.glMisses := by
  unfold State.untilWall
  split
  · rfl
  · rfl

theorem wall_untilWall (s : State) (w : Nat) : w ≤ (s.untilWall w).quartz.wall := by
  unfold State.untilWall
  split
  · assumption
  · exact le_rfl

/-! ### PTP -/

section
variable {s : State} {port domain ident seq t1 : Nat}

theorem ptpSyncReceive_heard (h : s.ptpFrom port domain ident = true) {log : Int} (hlo : -7 ≤ log) (hhi : log ≤ -1) (two : Bool) :
    execPtpSyncReceive port domain ident seq t1 log two s =
      if two then .next (s.withPtp fun p => { p with syncWait := some (seq, s.quartz.wall) }) else .next (s.ptpSample t1 s.quartz.wall) := by
  refine if_neg ?_
  rw [h]
  rintro (k | k | k)
  · exact absurd k (by decide)
  · omega
  · omega

theorem ptpFollowUpReceive_paired (h : s.ptpFrom port domain ident = true) {t2 : Nat} (hw : s.quartz.ptp.syncWait = some (seq, t2)) :
    execPtpFollowUpReceive port domain ident seq t1 s = .next (s.ptpSample t1 t2) := by
  unfold execPtpFollowUpReceive
  rw [hw]
  exact if_pos ⟨h, rfl⟩

theorem ptpDelayRespReceive_paired (h : s.ptpFrom port domain ident = true) {t3 : Nat} (t4 : Nat)
    (hw : s.quartz.ptp.reqWait = some (seq, t3)) : execPtpDelayRespReceive port domain ident seq t4 s = .next (s.withPtp fun p =>
      { p with reqWait := none, pathDelay := (((p.t2 : Int) - p.t1) + ((t4 : Int) - t3)) / 2 }) := by
  unfold execPtpDelayRespReceive
  rw [hw]
  exact if_neg (by simp [h])

theorem ptpDelayReqSend_leaves (hs : s.isSender = true) (hm : s.quartz.ptp.master ≠ none) : ∃ t, execPtpDelayReqSend s = .next t ∧
    t.sent = s.sent ++ [.delayReq (s.rdN 0x2600 0x03) s.ptpVlan s.quartz.ptp.delaySeq (s.rdN 0x2600 0x05 == 1)] ∧
    t.quartz.ptp.reqWait = some (s.quartz.ptp.delaySeq, s.quartz.wall) :=
  ⟨_, if_neg (by simp [hs, hm]), rfl, rfl⟩

end

/-! ### Grandmasters -/

/-- The better of a grandmaster so far and the next one. -/
def betterOf (a : Option PtpForeign) (m : PtpForeign) : Option PtpForeign :=
  match a with
  | none => some m
  | some b => if m.data.better b.data then some m else a

theorem betterOf_mem {a : Option PtpForeign} {m x : PtpForeign} (h : betterOf a m = some x) : x = m ∨ a = some x := by
  unfold betterOf at h
  split at h
  · exact .inl (Option.some.inj h).symm
  · split at h
    · exact .inl (Option.some.inj h).symm
    · exact .inr h

theorem foldl_betterOf_mem {l : List PtpForeign} {a : Option PtpForeign} {x : PtpForeign} (h : l.foldl betterOf a = some x) :
    x ∈ l ∨ a = some x := by
  induction l generalizing a with
  | nil => exact .inr h
  | cons m l ih =>
    obtain hmem | heq := ih h
    · exact .inl (List.mem_cons_of_mem m hmem)
    · obtain rfl | ha := betterOf_mem heq
      · exact .inl List.mem_cons_self
      · exact .inr ha

theorem betterOf_isSome (a : Option PtpForeign) (m : PtpForeign) : (betterOf a m).isSome = true := by
  unfold betterOf
  split
  · rfl
  · split
    · rfl
    · rfl

theorem foldl_betterOf_isSome {l : List PtpForeign} {a : Option PtpForeign} (h : a.isSome = true ∨ l ≠ []) :
    (l.foldl betterOf a).isSome = true := by
  induction l generalizing a with
  | nil => exact h.resolve_right fun k => k rfl
  | cons m l ih => exact ih (.inl (betterOf_isSome a m))

/-- The grandmasters that qualify and are heard. -/
def State.ptpHeardNow (s : State) : List PtpForeign :=
  s.quartz.ptp.seen.filter fun m => m.qualified && decide (s.now < m.heard + 3 * announceNs m.log)

theorem bestPtp_eq (s : State) : s.bestPtp = s.ptpHeardNow.foldl betterOf none := rfl

theorem bestPtp_mem {s : State} {m : PtpForeign} (h : s.bestPtp = some m) : m ∈ s.quartz.ptp.seen ∧ m.qualified = true := by
  have hm : m ∈ s.ptpHeardNow := (foldl_betterOf_mem h).resolve_right (by simp)
  obtain ⟨hseen, hq⟩ := List.mem_filter.1 hm
  exact ⟨hseen, (Bool.and_eq_true_iff.1 hq).1⟩

theorem bestPtp_none {s : State} (h : ∀ x ∈ s.quartz.ptp.seen, x.qualified = false) : s.bestPtp = none := by
  cases hb : s.bestPtp with
  | none => rfl
  | some m =>
    obtain ⟨hseen, hq⟩ := bestPtp_mem hb
    rw [h m hseen] at hq
    cases hq

/-- One that qualifies alone and is heard is the best. -/
theorem bestPtp_only {s : State} {m : PtpForeign} (hm : m ∈ s.quartz.ptp.seen) (hq : m.qualified = true)
    (hh : s.now < m.heard + 3 * announceNs m.log) (ho : ∀ x ∈ s.quartz.ptp.seen, x.qualified = true → x = m) : s.bestPtp = some m := by
  have hmem : m ∈ s.ptpHeardNow := List.mem_filter.2 ⟨hm, by simp [hq, hh]⟩
  obtain ⟨x, hx⟩ := Option.isSome_iff_exists.1 (foldl_betterOf_isSome (a := none) (.inr (List.ne_nil_of_mem hmem)))
  have hbest : s.bestPtp = some x := hx
  obtain ⟨hseen, hxq⟩ := bestPtp_mem hbest
  rw [hbest, ho x hseen hxq]

theorem followMaster_ptp (s : State) (m : PtpForeign) :
    (s.followMaster m).quartz.ptp.seen = s.quartz.ptp.seen ∧ (s.followMaster m).quartz.ptp.master = some m.data := by
  unfold State.followMaster
  dsimp only
  rw [raiseIf_quartz]
  split
  · simp only [wrN_quartz, State.withPtp, State.withQuartz, and_self]
  · simp only [wrN_quartz, State.withPtp, State.withQuartz, and_self]

/-- A grandmaster's Announce as it is kept. -/
def State.announced (s : State) (d : PtpDataset) (log : Int) : PtpForeign :=
  { data := d, heard := s.now, log := log
    qualified := s.quartz.ptp.seen.any fun x => x.data.source == d.source && decide (s.now ≤ x.heard + 4 * announceNs log) }

/-- The state in which an Announce has been kept and the best grandmaster not yet chosen. -/
def State.keepAnnounce (s : State) (d : PtpDataset) (log : Int) : State :=
  s.withPtp fun p => { p with seen := s.announced d log :: s.quartz.ptp.seen.filter fun x => x.data.source != d.source }

theorem announceNs_pos {log : Int} (hlo : -3 ≤ log) (hhi : log ≤ 1) : 0 < announceNs log := by
  have h : log = -3 ∨ log = -2 ∨ log = -1 ∨ log = 0 ∨ log = 1 := by omega
  obtain rfl | rfl | rfl | rfl | rfl := h
  all_goals decide

section
variable {s : State} {d : PtpDataset} {log : Int}

theorem ptpAnnounceReceive_heard (hs : s.isSender = true) (hlo : -3 ≤ log) (hhi : log ≤ 1) :
    execPtpAnnounceReceive (s.rdN 0x2600 0x03) (s.rdN 0x2600 0x04) d log s = match (s.keepAnnounce d log).bestPtp with
      | some m => .next ((s.keepAnnounce d log).followMaster m)
      | none => .next (s.keepAnnounce d log) := by
  refine if_neg ?_
  rintro (k | k | k)
  · simp [State.ptpHeard, hs] at k
  · omega
  · omega

theorem ptpAnnounceReceive_chooses (hs : s.isSender = true) (hlo : -3 ≤ log) (hhi : log ≤ 1) :
    ∃ t, execPtpAnnounceReceive (s.rdN 0x2600 0x03) (s.rdN 0x2600 0x04) d log s = .next t ∧
      t.quartz.ptp.seen = (s.keepAnnounce d log).quartz.ptp.seen ∧
      ((∀ x ∈ (s.keepAnnounce d log).quartz.ptp.seen, x.qualified = false) → t.quartz.ptp.master = s.quartz.ptp.master) ∧
      ((s.announced d log).qualified = true →
        (∀ x ∈ (s.keepAnnounce d log).quartz.ptp.seen, x.qualified = true → x = s.announced d log) → t.quartz.ptp.master = some d) := by
  rw [ptpAnnounceReceive_heard hs hlo hhi]
  cases hb : (s.keepAnnounce d log).bestPtp with
  | none =>
    refine ⟨_, rfl, rfl, fun _ => rfl, fun hq ho => ?_⟩
    have hpos := announceNs_pos hlo hhi
    have hbest := bestPtp_only (s := s.keepAnnounce d log) (m := s.announced d log) List.mem_cons_self hq
      (show s.now < s.now + 3 * announceNs log by omega) ho
    rw [hb] at hbest
    cases hbest
  | some m =>
    obtain ⟨hseen, hmaster⟩ := followMaster_ptp (s.keepAnnounce d log) m
    obtain ⟨hm, hmq⟩ := bestPtp_mem hb
    refine ⟨_, rfl, hseen, fun hn => ?_, fun _ ho => ?_⟩
    · rw [hn m hm] at hmq
      cases hmq
    · rw [hmaster, ho m hm hmq]
      rfl

/-- The state in which a silent grandmaster is given up. -/
def State.dropMaster (s : State) (d : PtpDataset) : State :=
  s.withPtp fun p => { p with seen := p.seen.filter fun x => x.data.source != d.source }

theorem announceReceiptTimeout_drops {u : State} (hd : s.quartz.ptp.master = some d)
    (hu : s.until_ (s.quartz.ptp.lastAnnounce + 3 * announceNs s.quartz.ptp.announceLog) = u) :
    execAnnounceReceiptTimeout s = match (u.dropMaster d).bestPtp with
      | some m => .next ((u.dropMaster d).followMaster m)
      | none => .next (((u.dropMaster d).withPtp fun p => { p with master := none, syncWait := none, reqWait := none }).wrN 0x2600 0x37 0) := by
  unfold execAnnounceReceiptTimeout
  rw [hd]
  dsimp only
  rw [hu]
  rfl

theorem announceReceiptTimeout_leaves (hd : s.quartz.ptp.master = some d) : ∃ t, execAnnounceReceiptTimeout s = .next t ∧
    t.quartz.ptp.seen = (s.quartz.ptp.seen.filter fun x => x.data.source != d.source) ∧ t.quartz.ptp.master ≠ some d ∧
    ((∀ x ∈ t.quartz.ptp.seen, x.qualified = false) → t.quartz.ptp.master = none) := by
  obtain ⟨u, hu⟩ : ∃ u, s.until_ (s.quartz.ptp.lastAnnounce + 3 * announceNs s.quartz.ptp.announceLog) = u := ⟨_, rfl⟩
  have hptp : u.quartz.ptp = s.quartz.ptp := by rw [← hu, until_ptp]
  have hdrop : (u.dropMaster d).quartz.ptp.seen = s.quartz.ptp.seen.filter fun x => x.data.source != d.source := by
    rw [← hptp]
    rfl
  rw [announceReceiptTimeout_drops hd hu]
  cases hb : (u.dropMaster d).bestPtp with
  | none =>
    refine ⟨_, rfl, ?_, ?_, fun _ => ?_⟩
    · rw [wrN_quartz]
      exact hdrop
    · rw [wrN_quartz]
      exact nofun
    · rw [wrN_quartz]
      rfl
  | some m =>
    obtain ⟨hseen, hmaster⟩ := followMaster_ptp (u.dropMaster d) m
    obtain ⟨hm, hmq⟩ := bestPtp_mem hb
    refine ⟨_, rfl, hseen.trans hdrop, ?_, fun hn => ?_⟩
    · rw [hmaster]
      rintro ⟨⟩
      rw [hdrop] at hm
      simp at hm
    · rw [hn m (hseen ▸ hm)] at hmq
      cases hmq

end

/-! ### Edges -/

section
variable {s : State}

theorem holdover_glMisses (s : State) (cause : Nat) : (s.holdover cause).quartz.glMisses = s.quartz.glMisses := by
  unfold State.holdover
  split
  · rfl
  · dsimp only
    rw [raise_quartz]
    rfl

/-- A clock that is locked goes into holdover. -/
theorem holdover_state (h : s.quartz.state = .locked) (cause : Nat) : (s.holdover cause).quartz.state = .holdover := by
  unfold State.holdover
  rw [if_neg (by rw [h]; decide)]
  dsimp only
  rw [raise_quartz]
  rfl

theorem holdover_now (s : State) (cause : Nat) : (s.holdover cause).now = s.now := by
  unfold State.holdover
  split
  · rfl
  · dsimp only
    rw [raise_now]
    rfl

theorem quartzSourceLoss_holds (hm : s.isMaster = true) (h3 : s.rdN 0x2600 0x01 ≠ 3) :
    execQuartzSourceLoss s = .next ((s.until_ (s.quartz.lastSource + second)).holdover 1) := if_neg (by simp [hm, h3])

theorem edgeMissed_glMisses (s : State) : s.edgeMissed.quartz.glMisses = s.quartz.glMisses + 1 := by
  unfold State.edgeMissed
  dsimp only
  split
  · rfl
  · rw [raise_quartz]
    exact holdover_glMisses _ _

theorem quartzLock_glMisses (s : State) (source : Nat) : (s.quartzLock source).quartz.glMisses = s.quartz.glMisses := by
  unfold State.quartzLock
  split
  · rfl
  · dsimp only
    rw [raise_quartz]
    rfl

/-- A sample of the source leaves the count of missed edges. -/
theorem sourceSample_glMisses (s : State) (theta : Int) : (s.sourceSample theta).quartz.glMisses = s.quartz.glMisses := by
  unfold State.sourceSample
  extract_lets elapsed u v w off x since y
  have hu : u.quartz.glMisses = s.quartz.glMisses := by simp only [u, State.withQuartz, wrI_quartz]
  have hw : w.quartz.glMisses = s.quartz.glMisses := by
    refine Eq.trans ?_ hu
    unfold w
    split
    · rfl
    · rfl
  have hx : x.quartz.glMisses = s.quartz.glMisses := hw
  split
  · exact hu
  · split
    · rw [raiseLimited_quartz, hu]
    · split
      · exact hx
      · split
        · rw [quartzLock_glMisses]
          exact hx
        · exact hx

theorem takeTod_tod (s : State) : s.takeTod.quartz.tod = none := by
  unfold State.takeTod
  split
  · assumption
  · rfl

theorem takeTod_sent (s : State) : s.takeTod.sent = s.sent :=
  (ignoresAll_same (x := .sent) (s₀ := s) (l := [.quartz]) (by decide)).discharge kept_takeTod s rfl

end

section
variable {s : State}

theorem genlockEdge_late {falling : Bool} (hm : s.isMaster = true) (h1 : s.rdN 0x2600 0x01 = 1)
    (hf : (s.rdN 0x2600 0x1A == 1) = falling) (hl : s.quartz.glLocked = true)
    (ht : 1000 * subNs < (s.edgeDue s.edgeFrame - s.quartz.wall).natAbs) : execGenlockEdge falling s = .next s.edgeMissed :=
  (if_neg (by simp [hm, h1, hf])).trans (if_pos ⟨hl, ht⟩)

theorem genlockEdge_near {falling : Bool} (hm : s.isMaster = true) (h1 : s.rdN 0x2600 0x01 = 1)
    (hf : (s.rdN 0x2600 0x1A == 1) = falling)
    (h : s.quartz.glLocked = false ∨ (s.edgeDue s.edgeFrame - s.quartz.wall).natAbs ≤ 1000 * subNs) :
    ∃ t, execGenlockEdge falling s = .next t ∧ t.quartz.glMisses = 0 := by
  have hn : ¬(s.quartz.glLocked = true ∧ 1000 * subNs < (s.edgeDue s.edgeFrame - s.quartz.wall).natAbs) := by
    rintro ⟨hl, ht⟩
    obtain h | h := h
    · rw [hl] at h
      cases h
    · omega
  exact ⟨_, (if_neg (by simp [hm, h1, hf])).trans (if_neg hn), sourceSample_glMisses _ _⟩

theorem genlockEdge_other {falling : Bool} (hf : (s.rdN 0x2600 0x1A == 1) ≠ falling) : execGenlockEdge falling s = .next s :=
  if_pos (.inr (.inr hf))

theorem genlockEdgeMissing_counts (hm : s.isMaster = true) (h1 : s.rdN 0x2600 0x01 = 1) :
    execGenlockEdgeMissing s = .next (s.untilWall (s.edgeDue s.edgeFrame + 1000 * subNs).toNat).edgeMissed :=
  if_neg (by simp [hm, h1])

theorem frameOutPulse_pulses {f k : Nat} {w : Int} (hu : s.up = true) (hl : s.quartz.lockedOnce = true) (hw : s.frameOutAt f k = some w) :
    ∃ t, execFrameOutPulse f k s = .next t ∧ w.toNat ≤ t.quartz.wall ∧
      t.sent = s.sent ++ [.pin .frameOut true, .pin .frameOut false] := by
  unfold execFrameOutPulse
  rw [if_neg (by simp [hu, hl]), hw]
  refine ⟨_, rfl, wall_untilWall s w.toNat, ?_⟩
  exact congrArg (· ++ _) (untilWall_sent s w.toNat)

theorem ppsOutPulse_pulses (hu : s.up = true) : ∃ t, execPpsOutPulse s = .next t ∧
    t.sent = s.sent ++ [.pin .ppsOut true, .pin .ppsOut false] := by
  unfold execPpsOutPulse
  rw [if_neg (by simp [hu])]
  extract_lets v source u
  have hv : v.sent = s.sent ++ [.pin .ppsOut true, .pin .ppsOut false] := congrArg (· ++ _) (untilWall_sent s _)
  refine ⟨_, rfl, ?_⟩
  split
  · rw [takeTod_sent]
    exact hv
  · exact hv

end

/-- Settles O20: each source by its messages or edges, each pulse by the pins it moves. -/
theorem sourcesAndPulses : Obligations.SourcesAndPulses := by
  unfold Obligations.SourcesAndPulses
  intro s
  refine ⟨?_, ?_, ?_, ?_, ?_, ?_, ?_, ?_⟩
  · intro port domain ident seq t1 h
    refine ⟨fun log hlo hhi => ?_, fun t2 hw => ptpFollowUpReceive_paired h hw, fun t3 t4 hw => ?_⟩
    · exact ⟨(ptpSyncReceive_heard h hlo hhi false).trans rfl, _, (ptpSyncReceive_heard h hlo hhi true).trans rfl, rfl⟩
    · exact ⟨_, ptpDelayRespReceive_paired h t4 hw, rfl, rfl⟩
  · exact ptpDelayReqSend_leaves
  · intro d log hs hlo hhi
    exact ptpAnnounceReceive_chooses hs hlo hhi
  · exact fun d hd => announceReceiptTimeout_leaves hd
  · intro hm h3 hl
    simp only [show (1000000000 : Nat) = second from rfl]
    refine ⟨_, quartzSourceLoss_holds hm h3, holdover_state ((until_state _ _).trans hl) 1, ?_⟩
    rw [holdover_now]
    exact now_until s _
  · intro hm h1
    refine ⟨?_, _, genlockEdgeMissing_counts hm h1, ?_⟩
    · intro theta falling
      refine ⟨fun hl ht => genlockEdge_late hm h1 rfl hl ht, fun h => genlockEdge_near hm h1 rfl h, genlockEdge_other ?_⟩
      exact (Bool.not_ne_self _).symm
    · rw [edgeMissed_glMisses, untilWall_glMisses]
  · intro hm h2
    exact ⟨_, if_neg (by simp [hm, h2]), takeTod_tod _⟩
  · exact fun hu => ⟨fun f k w hl hw => frameOutPulse_pulses hu hl hw, ppsOutPulse_pulses hu⟩

end Sys2Proof.Machine
end

section
/-! SUPPORT. A SYNC unit leaves on every cascade link that is up, the first of them first (R179), which O21 does not allow for. -/

namespace Sys2Proof.Machine
open Host

/-- A running sender with both cascade links and both neighbours up. -/
def bothNeighbours : State :=
  { State.reset with
    life := .running
    role := .sender
    lanes := { Lanes.reset with link := Lanes.reset.link.map fun k => { k with phase := .up } }
    quartz := { Quartz.reset with neighbour := Quartz.reset.neighbour.map fun n => { n with up := true } } }

/-- The link on which a command put out its first unit. -/
def firstLink (o : Out1) : Option (Fin 2) :=
  match o with
  | .next t => match t.sent with
    | .cascade i _ :: _ => some i
    | _ => none
  | _ => none

theorem bothNeighbours_up : bothNeighbours.isSender = true ∧ bothNeighbours.cascUp 1 = true := by decide +kernel

theorem syncUnitSend_first : firstLink (exec (.syncUnitSend 1) bothNeighbours) = some 0 := by decide +kernel

/-- Refutes O21: with both cascade links up, SYNC_UNIT_SEND on link 1 puts its unit out on link 0 before link 1, where the
statement has the unit of the named link first. -/
theorem not_cascadeAndChainTiming : ¬ Obligations.CascadeAndChainTiming := by
  unfold Obligations.CascadeAndChainTiming
  intro h
  obtain ⟨-, hsync, -⟩ := h bothNeighbours
  obtain ⟨hs, hup⟩ := bothNeighbours_up
  obtain ⟨t, u, codewords, hexec, hsent, -⟩ := hsync 1 hs hup
  have hfirst : firstLink (.next t) = some 0 := hexec ▸ syncUnitSend_first
  have hlink : firstLink (.next t) = some 1 := by
    unfold firstLink
    dsimp only
    rw [hsent]
    rfl
  rw [hfirst] at hlink
  exact absurd hlink (by decide)

end Sys2Proof.Machine
end

section
/-! SUPPORT. Correction data, schedules, sweeps and verdict ages (R276, R278, R279, R346, R349, R367). -/

namespace Sys2Proof.Machine
open Host

/-! ### Correction data -/

section
variable {s : State}

theorem publishCorr_video (s : State) (image cause : Nat) : (s.publishCorr image cause).video = s.video :=
  (ignoresAll_same (x := .video) (s₀ := s) (l := [.od]) (by decide)).discharge kept_publishCorr s image cause rfl

theorem corrVerifyComplete_judges (ht : s.isTile = true) {i : Fin 2} (hv : s.video.colour.verifying = some i.1) :
    ∃ t, execCorrVerifyComplete s = .next t ∧ t.video.colour = { s.video.colour with
      verifying := none, verified := s.video.colour.verified.set! i.1 (corrCause (s.corrBytes i) s.window == 0) } := by
  unfold execCorrVerifyComplete
  rw [hv]
  refine ⟨_, if_neg (by simp [ht]), ?_⟩
  rw [raiseIf_video, publishCorr_video]
  rfl

theorem tile_of_isTile (ht : s.isTile = true) : s.up = true ∧ s.role = .tile := by
  simpa [State.isTile] using ht

theorem corrLoadRow_next (ht : s.isTile = true) {l : CorrLoad} (hl : s.video.colour.load = some l) (hs : s.video.compose.slot = none)
    (hr : s.rdN 0x2930 0x08 + 1 < field l.bytes 10 2) : execCorrLoadRow s = .next (s.wrN 0x2930 0x08 (s.rdN 0x2930 0x08 + 1)) := by
  unfold execCorrLoadRow
  rw [hl]
  exact (if_neg (by simp [hs, (tile_of_isTile ht).2])).trans (if_pos hr)

theorem corrLoadRow_last (ht : s.isTile = true) {l : CorrLoad} (hl : s.video.colour.load = some l) (hs : s.video.compose.slot = none)
    (hr : field l.bytes 10 2 ≤ s.rdN 0x2930 0x08 + 1) : ∃ t, execCorrLoadRow s = .next t ∧ t.video.colour.load = none ∧
      t.video.colour.corr = some l.bytes := by
  unfold execCorrLoadRow
  rw [hl]
  refine ⟨_, (if_neg (by simp [hs, (tile_of_isTile ht).2])).trans (if_neg (Nat.not_lt.2 hr)), ?_⟩
  rw [raise_video, publishCorr_video]
  exact ⟨rfl, rfl⟩

theorem correctionReread_next (ht : s.isTile = true) {r : Nat × Nat} {rest : List (Nat × Nat)}
    (hr : s.video.colour.rereads = r :: rest) : ∃ t, execCorrectionReread s = .next t ∧ t.video.colour = { s.video.colour with
      rereads := rest, damaged := s.video.colour.damaged.filter (· != r.1) } ∧ t.od = s.od := by
  unfold execCorrectionReread
  rw [hr]
  exact ⟨_, if_neg (by simp [(tile_of_isTile ht).2]), rfl, rfl⟩

end

/-! ### Schedules -/

theorem withPort_port_ne (s : State) {p q : Fin 64} (f : LampPort → LampPort) (h : q ≠ p) :
    (s.withPort q f).lamps.port[p] = s.lamps.port[p] := by
  have h' : q.1 ≠ p.1 := fun k => h (Fin.ext k)
  simp [State.withPort, vmod, vset, Vector.getElem_set_ne _ _ h']

theorem deriveShape_drivers (s : State) (g : Gen) (p : Fin 64) (f : Nat) :
    (s.deriveShape g p f).lamps.port[p].drivers = s.lamps.port[p].drivers := by
  unfold State.deriveShape
  extract_lets sh idx u v
  have hv : v.lamps = u.lamps := by simp only [v, wrN_lamps]
  have hu : u.lamps.port[p].drivers = s.lamps.port[p].drivers := by
    refine ite_proj (fun t : State => t.lamps.port[p].drivers) _ ?_ rfl
    rw [raise_lamps, withPort_port]
    rfl
  rw [wrN_lamps, hv, hu]

section
variable {s : State} {p : Fin 64} {f : Nat} {k : Fin 4}

/-- The schedules that are built: one for each driver, in its order, for the slot that comes. -/
theorem schedBuild_builds (ht : s.isTile = true) (hp : s.rdN (0x2A00 + p) 0x0A = 3) (hk : s.nextSlot p = (f, k))
    (hg : 8 ≤ (s.schedShape ((s.genFor f).getD s.staging) p f).tg) : ∃ t, execSchedBuild p s = .next t ∧
      (t.lamps.port[p].sched.map fun x => x.pos) = s.lamps.port[p].drivers ∧ t.lamps.port[p].schedReady = false ∧
      t.lamps.port[p].schedSlot = k.1 ∧ ∀ x ∈ t.lamps.port[p].sched, x.frame = f ∧ x.slot = k.1 := by
  unfold execSchedBuild
  rw [if_neg (by simp [ht, hp]), hk]
  dsimp only
  rw [if_neg (Nat.not_lt.2 hg)]
  refine ⟨_, rfl, ?_⟩
  rw [withPort_port, withPort_port]
  dsimp only
  refine ⟨?_, rfl, rfl, ?_⟩
  · rw [List.map_map, List.map_map]
    exact (List.map_id _).trans (deriveShape_drivers s _ p f)
  · intro x hx
    rw [List.map_map] at hx
    obtain ⟨pos, -, rfl⟩ := List.mem_map.1 hx
    exact ⟨rfl, rfl⟩

theorem schedBuild_none (ht : s.isTile = true) (hp : s.rdN (0x2A00 + p) 0x0A = 3) (hk : s.nextSlot p = (f, k))
    (hg : (s.schedShape ((s.genFor f).getD s.staging) p f).tg < 8) : ∃ t, execSchedBuild p s = .next t ∧
      t.lamps.port[p].sched = [] ∧ t.lamps.port[p].schedReady = false := by
  unfold execSchedBuild
  rw [if_neg (by simp [ht, hp]), hk]
  dsimp only
  rw [if_pos hg]
  refine ⟨_, rfl, ?_⟩
  rw [withPort_port]
  exact ⟨rfl, rfl⟩

theorem schedBuildDone_ready (ht : s.isTile = true) (hs : s.lamps.port[p].sched ≠ []) :
    execSchedBuildDone p s = .next (s.withPort p fun q => { q with schedReady := true }) :=
  if_neg (by rw [ht]; simpa using hs)

end

/-! ### Sweeps and epochs -/

section
variable {s : State}

theorem sweepEnd_ends (ht : s.isTile = true) {scope since : Nat} (hs : s.lamps.sweep = some (scope, since))
    (hf : since + 512 ≤ s.quartz.frame) : ∃ t, execSweepEnd s = .next t ∧ t.lamps.sweep = none ∧
      ∀ p : Fin 64, t.lamps.port[p].sweeping = false ∧ t.lamps.port[p].verdict = s.lamps.port[p].verdict := by
  unfold execSweepEnd
  rw [hs]
  refine ⟨_, (if_neg (by simp [ht])).trans (if_neg fun k => Nat.not_lt.2 hf k.2), ?_⟩
  rw [raise_lamps, publish_lamps]
  refine ⟨rfl, fun p => ?_⟩
  simp

/-- A lamp's verdict byte one epoch older (R349). -/
def State.agedByte (s : State) (b : BitVec 8) : BitVec 8 :=
  let due := s.rdN 0x2B00 0x02 / 128
  let age := if b.getLsbD 4 then b.toNat % 16 else min 15 (b.toNat % 16 + 1)
  verdictByte (b.toNat / 64)
    (b.getLsbD 5 || (s.rdN 0x2B00 0x01 == 0 && decide (due ≤ age)) || decide (min (due + 2) 15 ≤ age)) false age

/-- The verdicts of a port one epoch older. -/
def agedVerdicts (step : BitVec 8 → BitVec 8) (n : Nat) (q : LampPort) : Sparse (BitVec 8) :=
  (List.range n).foldl (fun m n => Sparse.set (fun _ => 0) m n (step (q.byte n))) q.verdict

/-- One port at the end of an epoch. -/
def agePort (step : BitVec 8 → BitVec 8) (g : Gen) (s : State) (p : Fin 64) : State :=
  let q := s.lamps.port[p]
  let newly := ((List.range (g.lamps p)).filter fun n => !(q.byte n).getLsbD 5 && (step (q.byte n)).getLsbD 5).length
  (s.withPort p fun q' => { q' with verdict := agedVerdicts step (g.lamps p) q }).raiseIf (newly != 0) 0x6303
    (det p.1 (sat 0xFFFF newly))

theorem agePort_port_self (step : BitVec 8 → BitVec 8) (g : Gen) (s : State) (p : Fin 64) :
    (agePort step g s p).lamps.port[p] = { s.lamps.port[p] with verdict := agedVerdicts step (g.lamps p) s.lamps.port[p] } := by
  unfold agePort
  dsimp only
  rw [raiseIf_lamps, withPort_port]

theorem agePort_port_ne (step : BitVec 8 → BitVec 8) (g : Gen) (s : State) {p q : Fin 64} (h : q ≠ p) :
    (agePort step g s q).lamps.port[p] = s.lamps.port[p] := by
  unfold agePort
  dsimp only
  rw [raiseIf_lamps, withPort_port_ne _ _ h]

theorem agePort_engine (step : BitVec 8 → BitVec 8) (g : Gen) (s : State) (p : Fin 64) :
    (agePort step g s p).lamps.engine = s.lamps.engine ∧ (agePort step g s p).lamps.epoch = s.lamps.epoch := by
  unfold agePort
  dsimp only
  rw [raiseIf_lamps]
  exact ⟨rfl, rfl⟩

theorem foldl_proj_mem {α β : Type} {f : State → α → State} (g : State → β) {l : List α} (h : ∀ a ∈ l, ∀ s, g (f s a) = g s)
    (s : State) : g (l.foldl f s) = g s := by
  induction l generalizing s with
  | nil => rfl
  | cons a l ih => exact (ih (fun b hb => h b (List.mem_cons_of_mem a hb)) (f s a)).trans (h a List.mem_cons_self s)

/-- A fold in which one step alone touches what is looked at, and that step comes once. -/
theorem foldl_once {α β : Type} {f : State → α → State} (g : State → β) (F : β → β) {a : α} (hself : ∀ s, g (f s a) = F (g s))
    (hne : ∀ s b, b ≠ a → g (f s b) = g s) {l : List α} (hd : l.Nodup) (ha : a ∈ l) (s : State) : g (l.foldl f s) = F (g s) := by
  induction l generalizing s with
  | nil => cases ha
  | cons b l ih =>
    obtain ⟨hb, hd'⟩ := List.nodup_cons.1 hd
    obtain rfl | hmem := List.mem_cons.1 ha
    · exact (foldl_proj_mem g (fun b hmem v => hne v b fun k => hb (k ▸ hmem)) (f s a)).trans (hself s)
    · have hba : b ≠ a := fun k => hb (k ▸ hmem)
      exact (ih hd' hmem (f s b)).trans (congrArg F (hne s b hba))

/-- The state with the epoch counted and its damaged words lost. -/
def State.beginEpoch (s : State) (epoch : Nat) (damaged : List (Fin 64 × Nat)) : State :=
  damaged.foldl (fun v d => v.loseVerdicts ((s.genNow).getD s.staging) d.1 d.2) { s with lamps := { s.lamps with epoch := epoch } }

/-- The end of an epoch: damaged words first, then port by port. -/
theorem epochEnd_ages {epoch : Nat} (damaged : List (Fin 64 × Nat)) (ht : s.isTile = true) (he : s.epochOver = some epoch) :
    execEpochEnd damaged s = .next ((List.finRange 64).foldl
      (agePort (s.beginEpoch epoch damaged).agedByte ((s.genNow).getD s.staging)) (s.beginEpoch epoch damaged)) := by
  unfold execEpochEnd
  rw [he]
  exact if_neg (by simp [ht])

/-- The port's verdicts at the end of an epoch, once its damaged words are lost. -/
theorem ageAll_port (step : BitVec 8 → BitVec 8) (g : Gen) (s : State) (p : Fin 64) :
    ((List.finRange 64).foldl (agePort step g) s).lamps.port[p] =
      { s.lamps.port[p] with verdict := agedVerdicts step (g.lamps p) s.lamps.port[p] } :=
  foldl_once (fun v => v.lamps.port[p]) (fun q => { q with verdict := agedVerdicts step (g.lamps p) q })
    (fun v => agePort_port_self step g v p) (fun v q hq => agePort_port_ne step g v hq) (List.nodup_finRange 64) (List.mem_finRange p) s

theorem ageAll_engine (step : BitVec 8 → BitVec 8) (g : Gen) (s : State) :
    ((List.finRange 64).foldl (agePort step g) s).lamps.engine = s.lamps.engine ∧
      ((List.finRange 64).foldl (agePort step g) s).lamps.epoch = s.lamps.epoch :=
  ⟨foldl_proj (fun v => v.lamps.engine) (fun v p => (agePort_engine step g v p).1) _ s,
    foldl_proj (fun v => v.lamps.epoch) (fun v p => (agePort_engine step g v p).2) _ s⟩

theorem loseVerdicts_engine (s : State) (g : Gen) (p : Fin 64) (word : Nat) :
    (s.loseVerdicts g p word).lamps.engine = s.lamps.engine ∧ (s.loseVerdicts g p word).lamps.epoch = s.lamps.epoch := by
  unfold State.loseVerdicts
  dsimp only
  rw [raise_lamps]
  exact ⟨rfl, rfl⟩

/-- A port without lamps has no verdicts to lose. -/
theorem loseVerdicts_verdict (s : State) {g : Gen} {p : Fin 64} (h : g.lamps p = 0) (q : Fin 64) (word : Nat) :
    (s.loseVerdicts g q word).lamps.port[p].verdict = s.lamps.port[p].verdict := by
  unfold State.loseVerdicts
  dsimp only
  rw [raise_lamps]
  by_cases hq : q = p
  · subst hq
    rw [withPort_port, h]
    simp
  · rw [withPort_port_ne _ _ hq]

/-- Words of verdicts that are lost touch no engine, no epoch, and no port without lamps. -/
theorem loseAll_lamps (g : Gen) (damaged : List (Fin 64 × Nat)) (s : State) :
    (damaged.foldl (fun v d => v.loseVerdicts g d.1 d.2) s).lamps.engine = s.lamps.engine ∧
      (damaged.foldl (fun v d => v.loseVerdicts g d.1 d.2) s).lamps.epoch = s.lamps.epoch ∧
      ∀ p : Fin 64, g.lamps p = 0 →
        (damaged.foldl (fun v d => v.loseVerdicts g d.1 d.2) s).lamps.port[p].verdict = s.lamps.port[p].verdict := by
  refine ⟨?_, ?_, fun p hp => ?_⟩
  · exact foldl_proj (f := fun v (d : Fin 64 × Nat) => v.loseVerdicts g d.1 d.2) (fun v => v.lamps.engine) (fun v d => (loseVerdicts_engine v g d.1 d.2).1) damaged s
  · exact foldl_proj (f := fun v (d : Fin 64 × Nat) => v.loseVerdicts g d.1 d.2) (fun v => v.lamps.epoch) (fun v d => (loseVerdicts_engine v g d.1 d.2).2) damaged s
  · exact foldl_proj (f := fun v (d : Fin 64 × Nat) => v.loseVerdicts g d.1 d.2) (fun v => v.lamps.port[p].verdict) (fun v d => loseVerdicts_verdict v hp d.1 d.2) damaged s

end

/-- Settles O22: each step of the correction data, the schedules, the sweep and the epoch by the parts of the lamps it touches. -/
theorem correctionAndSweeps : Obligations.CorrectionAndSweeps := by
  unfold Obligations.CorrectionAndSweeps
  intro s ht
  refine ⟨?_, ?_, ?_, ?_, ?_, ?_, ?_, ?_⟩
  · exact fun i hv => corrVerifyComplete_judges ht hv
  · intro l hl hs
    exact ⟨corrLoadRow_next ht hl hs, corrLoadRow_last ht hl hs⟩
  · exact fun r rest hr => correctionReread_next ht hr
  · intro p hp
    obtain ⟨f, k, hk⟩ : ∃ f k, s.nextSlot p = (f, k) := ⟨_, _, rfl⟩
    rw [hk]
    exact ⟨schedBuild_builds ht hp hk, schedBuild_none ht hp hk⟩
  · exact fun p hs => schedBuildDone_ready ht hs
  · exact fun scope since hs hf => sweepEnd_ends ht hs hf
  · intro epoch damaged he
    obtain ⟨hengine, hepoch, hverdict⟩ : (s.beginEpoch epoch damaged).lamps.engine = s.lamps.engine ∧
        (s.beginEpoch epoch damaged).lamps.epoch = epoch ∧ ∀ p : Fin 64, ((s.genNow).getD s.staging).lamps p = 0 →
          (s.beginEpoch epoch damaged).lamps.port[p].verdict = s.lamps.port[p].verdict := loseAll_lamps _ damaged _
    obtain ⟨haengine, haepoch⟩ := ageAll_engine (s.beginEpoch epoch damaged).agedByte ((s.genNow).getD s.staging) (s.beginEpoch epoch damaged)
    refine ⟨_, epochEnd_ages damaged ht he, haepoch.trans hepoch, fun p => ⟨fun hp => ?_, ?_⟩⟩
    · rw [ageAll_port, ← hverdict p hp, agedVerdicts, hp]
      rfl
    · rw [haengine, hengine]
  · intro g due he
    obtain ⟨epoch, he⟩ := Option.ne_none_iff_exists'.1 he
    refine ⟨_, epochEnd_ages [] ht he, ?_⟩
    intro p q aged
    rw [ageAll_port]
    rfl

end Sys2Proof.Machine
end

section
/-! SUPPORT. PLLs, crystals, gates, clock switches and level changes (R433 to R444). -/

namespace Sys2Proof.Machine
open Host

/-! ### PLLs and crystals -/

section
variable {s : State} {p : Fin 8}

theorem pllLock_again (hc : s.clocked = true) (hu : pllUsed s.role p = true) (hl : s.clocks.pllLocked[p] = false)
    (ht : s.clocks.pllLost[p] = true) : execPllLock p s = .next (s.withClocks fun c => { c with
      pllLocked := vset c.pllLocked p true, pllRelocked := vset c.pllRelocked p (some s.now) }) :=
  (if_neg (by rw [hc, hu, hl]; decide)).trans (if_pos ht)

theorem pllLock_first (hc : s.clocked = true) (hu : pllUsed s.role p = true) (hl : s.clocks.pllLocked[p] = false)
    (ht : s.clocks.pllLost[p] = false) (hh : s.clocks.hold = false) :
    execPllLock p s = .next ((s.withClocks fun c => { c with pllLocked := vset c.pllLocked p true }).toPll p) :=
  (if_neg (by rw [hc, hu, hl]; decide)).trans ((if_neg (Bool.eq_false_iff.1 ht)).trans (if_neg (Bool.eq_false_iff.1 hh)))

theorem pllRelockSwitchBack_due (hc : s.clocked = true) {t : Nat} (ht : s.clocks.pllRelocked[p] = some t) (hh : s.clocks.hold = false) :
    execPllRelockSwitchBack p s = .next ((s.until_ (t + 10 * ms)).toPll p) := by
  unfold execPllRelockSwitchBack
  rw [ht]
  exact if_neg (by rw [hc, hh]; decide)

/-- The domains that a PLL's loss moves: those on it. -/
def State.lostDomains (s : State) (p : Fin 8) : List (Fin 60) :=
  (s.pllDomains p).filter fun d => !s.clocks.dom[d].safe || s.clocks.dom[d].switching == some false

theorem pllLockLoss_counts (hc : s.clocked = true) (hl : s.clocks.pllLocked[p] = true) : execPllLockLoss p s =
    .next ((((s.lostDomains p).foldl (fun (s : State) d => s.beginSwitch d true) (s.withClocks fun c => { c with
      pllLocked := vset c.pllLocked p false
      pllLost := vset c.pllLost p true
      pllRelocked := vset c.pllRelocked p none })).bump 0x2D00 0x11 1).raise 0x1101 (det p.1 (s.lostDomains p).length)) :=
  if_neg (by rw [hc, hl]; decide)

theorem xtalLoss_reports (hc : s.clocked = true) (hx : s.clocks.xtalLost = false) :
    execXtalLoss s = .next ((s.withClocks fun c => { c with xtalLost := true }).raise 0x1103 (det 59 0)) := by
  refine if_neg ?_
  rintro (h | h)
  · simp [State.clocked, h] at hc
  · rw [hx] at h
    cases h

theorem xtalReturn_counts (hx : s.clocks.xtalLost = true) :
    execXtalReturn s = .next ((s.pass ms).withClocks fun c => { c with xtalLost := false }) := if_pos hx

end

/-! ### Gates, switches and levels -/

section
variable {s : State} {d : Fin 60}

theorem clockGate_moves (hc : s.clocked = true) (ha : autoGated d = true) (hh : heldDown s.role d = false) :
    execClockGateClose d s = .next (s.withDomain d fun x => { x with gated := true }) ∧
    execClockGateOpen d s = .next (s.withDomain d fun x => { x with gated := false }) := by
  have h : (s.clocked && autoGated d && !heldDown s.role d) = true := by rw [hc, ha, hh]; decide
  exact ⟨if_pos h, if_pos h⟩

theorem clockSwitch_ends {toSafe : Bool} (h : s.clocks.dom[d].switching = some toSafe) :
    execClockSwitchComplete d s = .next (s.withDomain d fun x => { x with safe := toSafe, switching := none }).clockStep ∧
    ∀ aborted, execForcedClockSwitch d aborted s = .next ((s.pass 640).forceSwitch d toSafe aborted).clockStep := by
  unfold execClockSwitchComplete execForcedClockSwitch
  rw [h]
  exact ⟨rfl, fun _ => rfl⟩

section
variable {b1 b50 : Nat}

theorem dvfsEvaluate_fixed (hc : s.clocked = true) {l : Nat} (hf : s.fixedLevel = some l) :
    execDvfsEvaluate b1 b50 s = .next (s.wantLevel l) := by
  unfold execDvfsEvaluate
  rw [if_neg (by rw [hc]; decide), hf]

theorem dvfsEvaluate_free (hc : s.clocked = true) (hf : s.fixedLevel = none) : execDvfsEvaluate b1 b50 s =
    if 85 < b1 ∧ s.level < 3 then .next (s.wantLevel (s.level + 1))
    else if b50 < 40 ∧ 0 < s.level then .next (s.wantLevel (s.level - 1)) else .next (s.wantLevel s.level) := by
  unfold execDvfsEvaluate
  rw [if_neg (by rw [hc]; decide), hf]

end

/-- An AVSBus transfer that ends, by what it gives. -/
theorem avsTransferComplete_gives (hc : s.clocked = true) :
    (∀ mA < 2 ^ 32, execAvsTransferComplete (.current mA) s = .next (s.wrN 0x2D00 0x0C mA)) ∧
    (∀ command, execAvsTransferComplete (.failed command) s =
      .next (((s.bump 0x2D00 0x09 1).raise 0x1201 (det s.level command)).failLevel)) ∧
    (∀ b, execAvsTransferComplete (.alert b) s = .next ((s.raise 0x1202 (det s.level b)).failLevel)) := by
  have hn : ¬(!s.clocked) = true := by rw [hc]; decide
  refine ⟨fun mA h => ?_, fun _ => if_neg hn, fun _ => if_neg hn⟩
  have hsat : sat (umax 4) mA = mA := by
    simp only [sat, umax]
    omega
  exact (if_neg hn).trans (congrArg (fun n => Outcome.next (s.wrN 0x2D00 0x0C n)) hsat)

variable {c : LevelChange}

theorem avsTransferComplete_written (hc : s.clocked = true) (hch : s.clocks.change = some c)
    (hst : (c.fromLevel < c.toLevel ∧ c.stage = 1) ∨ (c.toLevel ≤ c.fromLevel ∧ c.stage = 2)) :
    execAvsTransferComplete .written s = .next (s.advanceLevel c) := by
  have hstage : c.stage = if c.fromLevel < c.toLevel then 1 else 2 := by
    obtain ⟨h, hs⟩ | ⟨h, hs⟩ := hst
    · rw [if_pos h, hs]
    · rw [if_neg (Nat.not_lt.2 h), hs]
  unfold execAvsTransferComplete
  rw [if_neg (by rw [hc]; decide)]
  dsimp only
  rw [hch]
  exact if_pos hstage

theorem waitsVdone_of (hst : (c.fromLevel < c.toLevel ∧ c.stage = 2) ∨ (c.toLevel ≤ c.fromLevel ∧ c.stage = 3)) :
    c.waitsVdone = true := by
  obtain ⟨h, hs⟩ | ⟨h, hs⟩ := hst
  · simp [LevelChange.waitsVdone, h, hs]
  · simp [LevelChange.waitsVdone, Nat.not_lt.2 h, hs]

theorem vdone_advances (hch : s.clocks.change = some c) (hw : c.waitsVdone = true) : execVdone s = .next (s.advanceLevel c) ∧
    execVdoneTimeout s = .next (((s.pass 500000).raise 0x1201 (det c.toLevel 0)).failLevel) := by
  unfold execVdone execVdoneTimeout
  rw [hch]
  exact ⟨if_pos hw, if_pos hw⟩

theorem freqMeasureComplete_publishes {n : Nat} (h : s.clocks.freqRun = some n) (khz : BitVec 32) :
    ∃ v, (v = khz.toNat ∨ v = 0) ∧ execFreqMeasureComplete khz s =
      .next ((((s.pass ms).wrN 0x2D00 0x24 v).withClocks fun c => { c with freqRun := none }).publish 0x2D00 0x22 0x23 true) := by
  unfold execFreqMeasureComplete
  rw [h]
  refine ⟨_, ?_, rfl⟩
  split
  · exact .inl rfl
  · exact .inr rfl

end

/-- Settles O37: each PLL, crystal, gate, switch and transfer by the branch that its hypotheses choose. -/
theorem clocksAndLevels : Obligations.ClocksAndLevels := by
  unfold Obligations.ClocksAndLevels
  simp only [show (1000000 : Nat) = ms from rfl]
  refine ⟨fun s p d hc => ?_, fun s d c hc => ?_⟩
  · refine ⟨fun hu hl ht => pllLock_again hc hu hl ht, fun hu hl ht hh => pllLock_first hc hu hl ht hh,
      fun t ht hh => pllRelockSwitchBack_due hc ht hh, fun hl => ?_, xtalLoss_reports hc, xtalReturn_counts,
      fun ha hh => clockGate_moves hc ha hh⟩
    refine ⟨s.lostDomains p, _, pllLockLoss_counts hc hl, fun d hd => ?_, rfl⟩
    have hmem := List.mem_filter.1 (List.mem_filter.1 hd).1
    have h : (pllOf d = some p ∧ hasSafe d = true) ∧ heldDown s.role d = false := by simpa using hmem.2
    exact h.1
  · obtain ⟨hcurrent, hfailed, halert⟩ := avsTransferComplete_gives hc
    refine ⟨fun toSafe h => clockSwitch_ends h, ?_, ?_, fun b1 b50 l hf => dvfsEvaluate_fixed hc hf, hcurrent, hfailed, halert, ?_,
      fun khz h => freqMeasureComplete_publishes h khz⟩
    · exact fun b1 b50 hf hb hl => (dvfsEvaluate_free hc hf).trans (if_pos ⟨hb, hl⟩)
    · exact fun b1 b50 hf hb hb' hl => (dvfsEvaluate_free hc hf).trans ((if_neg fun k => Nat.not_lt.2 hb k.1).trans (if_pos ⟨hb', hl⟩))
    · exact fun hch => ⟨fun hst => avsTransferComplete_written hc hch hst, fun hst => vdone_advances hch (waitsVdone_of hst)⟩

end Sys2Proof.Machine
end

section
/-! SUPPORT. What a cold reset leaves, and the releases (R410, R445, R463, R544). -/

namespace Sys2Proof.Machine
open Host

/-! ### A cold reset -/

section
variable (s : State) (cause : Nat)

/-- What the flash keeps when a reset begins while nothing is under way. -/
theorem settleFlash_flash (powerLoss : Bool) {s : State} (h : s.nvm.issued = false) : (s.settleFlash powerLoss).nvm.flash = s.nvm.flash := by
  unfold State.settleFlash
  rw [h]
  rfl

theorem settleFlash_part {x : Part} (hx : x ∉ [Part.nvm, Part.freeCount]) (powerLoss : Bool) : s.same (s.settleFlash powerLoss) x :=
  (ignoresAll_same hx).discharge kept_settleFlash s powerLoss (by cases x <;> rfl)

theorem rdN_wrN_same (idx sub v : Nat) : (s.wrN idx sub v).rdN idx sub = v := by
  unfold State.rdN State.rdI State.rd State.wrN State.wr
  rw [Sparse.get_set_same]
  rfl

theorem rdN_wrN_ne {idx sub idx' sub' : Nat} (v : Nat) (h : key idx sub ≠ key idx' sub') :
    (s.wrN idx' sub' v).rdN idx sub = s.rdN idx sub := by
  unfold State.rdN State.rdI State.rd State.wrN State.wr
  rw [Sparse.get_set_ne _ _ _ _ _ h]

/-- The state that a cold reset leaves, before it counts itself. -/
def State.cleared (s : State) (powerOn : Bool) : State :=
  { State.reset with
    now := s.now
    role := s.role
    straps := s.straps
    railsGood := s.railsGood
    otp := s.otp
    sent := s.sent
    freeCount := s.freeCount
    pending := s.pending
    clocks := { Clocks.reset with coldAt := s.now }
    tap := if powerOn then Tap.reset else s.tap
    thermal := { Thermal.reset with
      phase := if powerOn then .normal else s.thermal.phase
      tripTimes := if powerOn then [] else s.thermal.tripTimes }
    update := { Update.reset with
      record := s.update.record
      retiredBefore := s.update.retiredBefore
      nextSession := s.update.nextSession }
    nvm := { Nvm.reset with
      flash := s.nvm.flash
      bucket := s.nvm.bucket
      bucketAt := s.nvm.bucketAt
      bb := if powerOn then BlackBox.reset else { s.nvm.bb with scanned := false } } }

/-- A cold reset clears the settled state and writes into the object store alone. -/
theorem beginCold_cleared : ∃ u : State, s.beginCold cause = { u.cleared (cause == 1) with od := (s.beginCold cause).od } ∧
    u = (s.settleFlash (cause == 1)).withHost (fun _ => HostPort.reset) := by
  refine ⟨_, ?_, rfl⟩
  unfold State.beginCold
  generalize (cause == 1) = powerOn
  cases powerOn
  · rfl
  · rfl

theorem beginCold_cause : (s.beginCold cause).rdN 0x2D00 0x18 = cause := by
  unfold State.beginCold
  dsimp only
  split
  · exact rdN_wrN_same _ _ _ _
  · rw [rdN_wrN_ne _ _ (by decide), rdN_wrN_ne _ _ (by decide), rdN_wrN_ne _ _ (by decide), rdN_wrN_same]

/-- What every cold reset leaves, in terms of the state in which it began. -/
theorem beginCold_leaves : (s.beginCold cause).life = .inReset ∧ (s.beginCold cause).now = s.now ∧
    (s.beginCold cause).clocks = { Clocks.reset with coldAt := s.now } ∧ (s.beginCold cause).hostPort = HostPort.reset ∧
    (s.beginCold cause).control = Control.reset ∧ (s.beginCold cause).lanes = Lanes.reset ∧ (s.beginCold cause).quartz = Quartz.reset ∧
    (s.beginCold cause).tile = TileChain.reset ∧ (s.beginCold cause).video = Video.reset ∧ (s.beginCold cause).lamps = Lamps.reset ∧
    (s.beginCold cause).otp = s.otp ∧ (s.beginCold cause).role = s.role := by
  obtain ⟨u, hcold, hu⟩ := beginCold_cleared s cause
  have hnow : u.now = s.now := by
    rw [hu, withHost_now]
    exact settleFlash_part s (x := .now) (by decide) (cause == 1)
  have hotp : u.otp = s.otp := by
    rw [hu, withHost_otp]
    exact settleFlash_part s (x := .otp) (by decide) (cause == 1)
  have hrole : u.role = s.role := by
    rw [hu, withHost_role]
    exact settleFlash_part s (x := .role) (by decide) (cause == 1)
  rw [hcold, ← hnow, ← hotp, ← hrole]
  exact ⟨rfl, rfl, rfl, rfl, rfl, rfl, rfl, rfl, rfl, rfl, rfl, rfl⟩

/-- What a cold reset takes over from the state in which it began. -/
theorem beginCold_keeps : (s.beginCold cause).railsGood = s.railsGood ∧
    (s.beginCold cause).tap = (if cause == 1 then Tap.reset else s.tap) ∧
    (s.beginCold cause).thermal = { Thermal.reset with
      phase := if cause == 1 then .normal else s.thermal.phase
      tripTimes := if cause == 1 then [] else s.thermal.tripTimes } ∧
    (s.nvm.issued = false → (s.beginCold cause).nvm.flash = s.nvm.flash) := by
  obtain ⟨u, hcold, hu⟩ := beginCold_cleared s cause
  have hrails : u.railsGood = s.railsGood := by
    rw [hu, withHost_railsGood]
    exact settleFlash_part s (x := .railsGood) (by decide) (cause == 1)
  have htap : u.tap = s.tap := by
    rw [hu, withHost_tap]
    exact settleFlash_part s (x := .tap) (by decide) (cause == 1)
  have hthermal : u.thermal = s.thermal := by
    rw [hu, withHost_thermal]
    exact settleFlash_part s (x := .thermal) (by decide) (cause == 1)
  have hflash : s.nvm.issued = false → u.nvm.flash = s.nvm.flash := fun h => by
    rw [hu, withHost_nvm]
    exact settleFlash_flash (cause == 1) h
  rw [hcold, ← hrails, ← htap, ← hthermal]
  exact ⟨rfl, rfl, rfl, hflash⟩

/-- What every cold reset leaves until its release, in terms of the state before it. -/
def State.leftBy (s t : State) (cause now : Nat) : Prop :=
  t.life = .inReset ∧ t.rdN 0x2D00 0x18 = cause ∧ t.now = now ∧ t.clocks = { Clocks.reset with coldAt := now } ∧
    t.hostPort = HostPort.reset ∧ t.control = Control.reset ∧ t.lanes = Lanes.reset ∧ t.quartz = Quartz.reset ∧
    t.tile = TileChain.reset ∧ t.video = Video.reset ∧ t.lamps = Lamps.reset ∧ t.otp = s.otp ∧ t.role = s.role

/-- The fields of a TAP whose balls are given back. -/
def Tap.released (t : Tap) : Tap := { t with ballsTaken := false, highZ := false }

theorem beginCold_leftBy {u : State} (hotp : u.otp = s.otp) (hrole : u.role = s.role) : s.leftBy (u.beginCold cause) cause u.now := by
  obtain ⟨hlife, hnow, hclocks, hhost, hcontrol, hlanes, hquartz, htile, hvideo, hlamps, ho, hr⟩ := beginCold_leaves u cause
  exact ⟨hlife, beginCold_cause u cause, hnow, hclocks, hhost, hcontrol, hlanes, hquartz, htile, hvideo, hlamps, ho.trans hotp, hr.trans hrole⟩

theorem leftBy_railsGood {s t : State} {cause now : Nat} (h : s.leftBy t cause now) (b : Bool) :
    s.leftBy { t with railsGood := b } cause now := h

theorem clearLatch_part {x : Part} (hx : x ∉ [Part.thermal, Part.sent]) : s.same s.clearLatch x :=
  (ignoresAll_same hx).discharge kept_clearLatch s (by cases x <;> rfl)

theorem clearLatch_latched {s : State} (h : s.thermal.phase = .latched) : s.clearLatch.thermal.phase = .normal := by
  unfold State.clearLatch
  rw [if_pos h]
  rfl

theorem resetNAssert_leaves : ∃ t, execResetNAssert s = .next t ∧ s.leftBy t 2 (s.now + 1000) ∧ t.railsGood = s.railsGood ∧
    t.tap = { s.tap with ballsTaken := false, highZ := false } ∧ (s.thermal.phase = .latched → t.thermal.phase = .normal) := by
  obtain ⟨u, hu⟩ : ∃ u, s.pass 1000 = u := ⟨_, rfl⟩
  have hthermal : u.thermal = s.thermal := by rw [← hu, pass_thermal]
  have hotp : u.clearLatch.otp = s.otp := (clearLatch_part u (x := .otp) (by decide)).trans (by rw [← hu, pass_otp])
  have hrole : u.clearLatch.role = s.role := (clearLatch_part u (x := .role) (by decide)).trans (by rw [← hu, pass_role])
  have hnow : u.clearLatch.now = s.now + 1000 := (clearLatch_part u (x := .now) (by decide)).trans (by rw [← hu, pass_now])
  have htap : u.clearLatch.tap = s.tap := (clearLatch_part u (x := .tap) (by decide)).trans (by rw [← hu, pass_tap])
  have hrails : u.clearLatch.railsGood = s.railsGood :=
    (clearLatch_part u (x := .railsGood) (by decide)).trans (by rw [← hu, pass_railsGood])
  obtain ⟨v, hv⟩ : ∃ v, u.clearLatch.withTap Tap.released = v := ⟨_, rfl⟩
  have hvotp : v.otp = s.otp := by rw [← hv, withTap_otp, hotp]
  have hvrole : v.role = s.role := by rw [← hv, withTap_role, hrole]
  have hvnow : v.now = s.now + 1000 := by rw [← hv, withTap_now, hnow]
  have hvrails : v.railsGood = s.railsGood := by rw [← hv, withTap_railsGood, hrails]
  have hvtap : v.tap = s.tap.released := by
    rw [← htap, ← hv]
    rfl
  have hvthermal : v.thermal = u.clearLatch.thermal := by rw [← hv, withTap_thermal]
  obtain ⟨hr, ht, hth, -⟩ := beginCold_keeps v 2
  refine ⟨v.beginCold 2, ?_, ?_, hr.trans hvrails, ht.trans hvtap, fun hl => ?_⟩
  · unfold execResetNAssert
    rw [hu, ← hv]
    rfl
  · have hleft := beginCold_leftBy s 2 hvotp hvrole
    rw [hvnow] at hleft
    exact hleft
  · rw [hth, hvthermal]
    exact clearLatch_latched (hthermal ▸ hl)

theorem supplyDrop_leaves : ∃ t, execSupplyDrop s = .next t ∧ s.leftBy t 2 (s.now + 2000) ∧ t.railsGood = false ∧ t.tap = s.tap ∧
    t.thermal.phase = s.thermal.phase := by
  obtain ⟨u, hu⟩ : ∃ u, s.pass 2000 = u := ⟨_, rfl⟩
  have hthermal : u.thermal = s.thermal := by rw [← hu, pass_thermal]
  have hotp : u.otp = s.otp := by rw [← hu, pass_otp]
  have hrole : u.role = s.role := by rw [← hu, pass_role]
  have hnow : u.now = s.now + 2000 := by rw [← hu, pass_now]
  have htap : u.tap = s.tap := by rw [← hu, pass_tap]
  obtain ⟨-, ht, hth, -⟩ := beginCold_keeps u 2
  refine ⟨{ u.beginCold 2 with railsGood := false }, ?_, ?_, rfl, ht.trans htap, ?_⟩
  · unfold execSupplyDrop
    rw [hu]
  · have hleft := beginCold_leftBy s 2 hotp hrole
    rw [hnow] at hleft
    exact leftBy_railsGood hleft false
  · exact (congrArg Thermal.phase hth).trans (by rw [hthermal]; rfl)

end

/-! ### What a start leaves -/

/-- Each part of a list is the same in two states. -/
def State.sameAll (s : State) (parts : List Part) (t : State) : Prop := ∀ x ∈ parts, s.same t x

theorem State.same_trans {s t u : State} {x : Part} (h : s.same t x) (h' : t.same u x) : s.same u x := by
  cases x
  all_goals exact Eq.trans h' h

theorem State.sameAll.trans {s t u : State} {parts : List Part} (h : s.sameAll parts t) (h' : t.sameAll parts u) : s.sameAll parts u :=
  fun x hx => State.same_trans (h x hx) (h' x hx)

theorem State.sameAll.refl (s : State) (parts : List Part) : s.sameAll parts s := by
  intro x _
  cases x
  all_goals rfl

section
variable {s t : State} {parts : List Part} (h : s.sameAll parts t)
include h

theorem State.sameAll.life (hp : Part.life ∈ parts := by decide) : t.life = s.life := h .life hp
theorem State.sameAll.role (hp : Part.role ∈ parts := by decide) : t.role = s.role := h .role hp
theorem State.sameAll.now (hp : Part.now ∈ parts := by decide) : t.now = s.now := h .now hp
theorem State.sameAll.straps (hp : Part.straps ∈ parts := by decide) : t.straps = s.straps := h .straps hp
theorem State.sameAll.railsGood (hp : Part.railsGood ∈ parts := by decide) : t.railsGood = s.railsGood := h .railsGood hp
theorem State.sameAll.otp (hp : Part.otp ∈ parts := by decide) : t.otp = s.otp := h .otp hp

end

/-- Parts outside a list stay the same under a change of the parts in it. -/
theorem ignoresAll_sameAll {s₀ : State} {parts l : List Part} (h : ∀ x ∈ parts, x ∉ l) : IgnoresAll (s₀.sameAll parts) l := by
  intro y hy
  have each : ∀ x ∈ parts, Ignores.part (fun t => s₀.same t x) y := fun x hx => ignoresAll_same (h x hx) y hy
  cases y with
  | od => exact fun s v c k x hx => each x hx s v c (k x hx)
  | otp => exact fun s v c k x hx => each x hx s v c (k x hx)
  | nvm => exact fun s v c k x hx => each x hx s v c (k x hx)
  | _ => exact fun s v k x hx => each x hx s v (k x hx)

/-- What a start settles before it loads anything. -/
def startParts : List Part := [.life, .role, .now, .straps, .railsGood, .otp]

section
variable (s : State)

theorem bump_start (idx sub n : Nat) : s.sameAll startParts (s.bump idx sub n) :=
  (ignoresAll_sameAll (l := [.od]) (by decide)).discharge kept_bump s idx sub n (.refl s _)

theorem wrN_start (idx sub v : Nat) : s.sameAll startParts (s.wrN idx sub v) :=
  (ignoresAll_sameAll (l := [.od]) (by decide)).discharge kept_wrN s idx sub v (.refl s _)

theorem rekeyed_start : s.sameAll startParts s.rekeyed :=
  (ignoresAll_sameAll (l := [.od]) (by decide)).discharge kept_rekeyed s (.refl s _)

theorem startTimers_start : s.sameAll startParts s.startTimers :=
  (ignoresAll_sameAll (l := [.clocks]) (by decide)).discharge kept_startTimers s (.refl s _)

theorem commandLevel_start (l : Nat) : s.sameAll startParts (s.commandLevel l) :=
  (ignoresAll_sameAll (l := [.od, .sent]) (by decide)).discharge kept_commandLevel s l (.refl s _)

theorem bringUpPort_start (p : Fin 3) : s.sameAll startParts (s.bringUpPort p) :=
  (ignoresAll_sameAll (l := [.od, .lanes, .sent]) (by decide)).discharge kept_bringUpPort s p (.refl s _)

theorem holdTripped_start : s.sameAll startParts s.holdTripped :=
  (ignoresAll_sameAll (l := [.clocks, .tile]) (by decide)).discharge kept_holdTripped s (.refl s _)

theorem loadSettings_start : s.sameAll startParts s.loadSettings :=
  (ignoresAll_sameAll (l := [.od, .control, .nvm, .sent]) (by decide)).discharge kept_loadSettings s (.refl s _)

theorem applyLaneSettings_start : s.sameAll startParts s.applyLaneSettings :=
  (ignoresAll_sameAll (l := [.od, .lanes, .quartz, .sent]) (by decide)).discharge kept_applyLaneSettings s (.refl s _)

theorem restartAccess_start : s.sameAll startParts s.restartAccess :=
  (ignoresAll_sameAll (l := [.control, .sent]) (by decide)).discharge kept_restartAccess s (.refl s _)

theorem resetHostPort_start (keep : Bool) : s.sameAll startParts (s.resetHostPort keep) :=
  (ignoresAll_sameAll (l := [.control, .hostPort, .sent]) (by decide)).discharge kept_resetHostPort s keep (.refl s _)

theorem loadCal_start : s.sameAll startParts s.loadCal :=
  (ignoresAll_sameAll (l := [.od, .control, .nvm, .sent]) (by decide)).discharge kept_loadCal s (.refl s _)

theorem latchPeak_start : s.sameAll startParts s.latchPeak :=
  (ignoresAll_sameAll (l := [.video]) (by decide)).discharge kept_latchPeak s (.refl s _)

theorem scanBlackBox_start : s.sameAll startParts s.scanBlackBox :=
  (ignoresAll_sameAll (l := [.od, .control, .nvm, .sent]) (by decide)).discharge kept_scanBlackBox s (.refl s _)

theorem migrate_start : s.sameAll startParts s.migrate :=
  (ignoresAll_sameAll (l := [.od, .control, .nvm, .update, .sent]) (by decide)).discharge kept_migrate s (.refl s _)

theorem trackLevel_start : s.sameAll startParts s.trackLevel :=
  (ignoresAll_sameAll (l := [.od, .control, .clocks, .nvm, .sent]) (by decide)).discharge kept_trackLevel s (.refl s _)

theorem startPixels_start : s.sameAll startParts s.startPixels :=
  (ignoresAll_sameAll (l := [.od, .control, .nvm, .hostPort, .video, .lamps, .sent]) (by decide)).discharge kept_startPixels s (.refl s _)

theorem startTiming_start : s.sameAll startParts s.startTiming :=
  (ignoresAll_sameAll (l := [.od, .quartz]) (by decide)).discharge kept_startTiming s (.refl s _)

theorem startMode_start : s.sameAll startParts s.startMode :=
  (ignoresAll_sameAll (l := [.od, .ports]) (by decide)).discharge kept_startMode s (.refl s _)

theorem started_start (bound : Nat) : s.sameAll startParts (s.started bound) :=
  (ignoresAll_sameAll (l := [.od, .control, .clocks, .nvm, .sent]) (by decide)).discharge kept_started s bound (.refl s _)

theorem afterTrip_start : s.sameAll startParts s.afterTrip :=
  (ignoresAll_sameAll (l := [.od, .control, .clocks, .nvm, .hostPort, .tile, .video, .lamps, .sent]) (by decide)).discharge
    kept_afterTrip s (.refl s _)

theorem withClocks_start (f : Clocks → Clocks) : s.sameAll startParts (s.withClocks f) :=
  (ignoresAll_sameAll (l := [.clocks]) (by decide)).discharge kept_withClocks s f (.refl s _)

/-- A cold reset that is released: the role and the fuses are taken, and the start is counted. -/
theorem released_start (straps : BitVec 4) (fitted mib : Nat) : (s.takeRole straps fitted).sameAll startParts
    ((((s.takeRole straps fitted).rekeyed.startTimers).bump 0x2D00 0x19 1).wrN 0x3000 0x01 mib) :=
  (((rekeyed_start _).trans (startTimers_start _)).trans (bump_start _ _ _ _)).trans (wrN_start _ _ _ _)

theorem foldl_sameAll {α : Type} {f : State → α → State} {parts : List Part} (h : ∀ (s : State) a, s.sameAll parts (f s a)) (l : List α) (s : State) :
    s.sameAll parts (l.foldl f s) := by
  induction l generalizing s with
  | nil => exact .refl s _
  | cons a l ih => exact (h s a).trans (ih (f s a))

/-- What every start with a role does before it looks for an image. -/
theorem powered_start : s.sameAll startParts
    ((List.finRange 3).foldl (fun (s : State) (p : Fin 3) => s.bringUpPort p) (s.commandLevel 2)).holdTripped :=
  ((commandLevel_start s 2).trans (foldl_sameAll (fun s p => bringUpPort_start s p) _ _)).trans (holdTripped_start _)

variable {s}

theorem coldReset_noRole {straps : BitVec 4} (fitted mib : Nat) (hl : s.life = .inReset) (hr : roleOf straps = .none) :
    ∃ t, execColdReset straps fitted mib s = .next t ∧ (s.takeRole straps fitted).sameAll startParts t := by
  refine ⟨_, (if_neg fun k => k hl).trans (if_pos hr), released_start s straps fitted mib⟩

theorem coldReset_role {straps : BitVec 4} (fitted : Nat) {mib : Nat} (hl : s.life = .inReset) (hr : roleOf straps ≠ .none) :
    ∃ u, (s.takeRole straps fitted).sameAll startParts u ∧
      execColdReset straps fitted mib s = if mib < 64 then .next { u with life := .bootRom } else .next u.bootStep := by
  refine ⟨_, ?_, (if_neg fun k => k hl).trans (if_neg hr)⟩
  exact (released_start s straps fitted mib).trans (powered_start _)

theorem holdBoot_life (s : State) (event : Bool) : (s.holdBoot event).life = .bootRom := by
  unfold State.holdBoot
  rw [raiseIf_life]

theorem holdBoot_start (s : State) (event : Bool) : s.sameAll [.role, .straps, .otp] (s.holdBoot event) :=
  (ignoresAll_sameAll (l := [.life, .od, .control, .nvm, .sent]) (by decide)).discharge kept_holdBoot s event (.refl s _)

theorem bootStep_held (h : s.straps.getLsbD 2 = true) : s.bootStep = s.holdBoot false := if_pos h

/-- An image that loads leaves the identity of the start, with the device running at the instant it took. -/
theorem imageLoadComplete_start {elapsed : Nat} {u : State} (hl : s.life = .coldStart) (hp : s.pointing = false)
    (hu : State.until_ { s with life := .running } (s.clocks.startAt + elapsed) = u) :
    ∃ t, execImageLoadComplete elapsed s = .next t ∧ u.sameAll startParts t := by
  unfold execImageLoadComplete
  rw [if_neg fun k => k hl, if_neg (by rw [hp]; decide), hu]
  extract_lets start resident settings watched access host library done
  have hresident : u.sameAll startParts resident := withClocks_start u _
  have hsettings : u.sameAll startParts settings := hresident.trans (loadSettings_start resident)
  have hwatched : u.sameAll startParts watched := hsettings.trans (withClocks_start settings _)
  have haccess : u.sameAll startParts access := hwatched.trans ((applyLaneSettings_start _).trans (restartAccess_start _))
  have hhost : u.sameAll startParts host :=
    haccess.trans (((resetHostPort_start _ _).trans (loadCal_start _)).trans (latchPeak_start _))
  have hlibrary : u.sameAll startParts library := hhost.trans (wrN_start host _ _ _)
  have hdone : u.sameAll startParts done :=
    hlibrary.trans (((scanBlackBox_start _).trans (migrate_start _)).trans (trackLevel_start _))
  split
  · refine ⟨_, rfl, ?_⟩
    split
    · exact hdone
    · exact hdone.trans (startPixels_start _)
  · exact ⟨_, rfl, hdone.trans (((startTiming_start _).trans (startMode_start _)).trans (started_start _ _))⟩

theorem warmReset_runs {elapsed : Nat} {u : State} (hl : s.life = .warmStart)
    (hu : State.until_ { s with life := .running } (s.clocks.startAt + elapsed) = u) :
    ∃ t, execWarmReset true elapsed s = .next t ∧ u.sameAll startParts t := by
  unfold execWarmReset
  rw [if_neg fun k => k hl, if_neg (by decide), hu]
  extract_lets latched down cooled
  have hcooled : u.sameAll startParts cooled := by
    refine (latchPeak_start u).trans ?_
    unfold cooled
    split
    · exact afterTrip_start latched
    · exact .refl latched _
  refine ⟨_, rfl, ?_⟩
  split
  · exact hcooled.trans ((startMode_start _).trans (started_start _ _))
  · exact hcooled

theorem running_until {n : Nat} {u : State} (hu : State.until_ { s with life := .running } n = u) :
    u.life = .running ∧ u.role = s.role ∧ n ≤ u.now := by
  refine ⟨?_, ?_, ?_⟩
  · rw [← hu, until_life]
  · rw [← hu, until_role]
  · rw [← hu]
    exact now_until _ n

theorem warmReset_fails {elapsed : Nat} (hl : s.life = .warmStart) :
    execWarmReset false elapsed s = .next ((s.raise 0x1005 (det 0xFF 0)).beginCold 5) :=
  (if_neg fun k => k hl).trans (if_pos (by decide))

end

/-- Settles O39: what a cold reset leaves, and each release by the parts that its operations leave. -/
theorem coldResetsAndReleases : Obligations.ColdResetsAndReleases := by
  unfold Obligations.ColdResetsAndReleases
  constructor
  · intro s leaves
    refine ⟨?_, ?_, ?_⟩
    · obtain ⟨hrails, htap, hthermal, hflash⟩ := beginCold_keeps s 1
      exact ⟨_, rfl, leftBy_railsGood (beginCold_leftBy s 1 rfl rfl) false, rfl, htap, hthermal, hflash⟩
    · exact resetNAssert_leaves s
    · exact supplyDrop_leaves s
  · intro s straps fitted mib elapsed
    refine ⟨?_, ?_, ?_, ?_, ?_, ?_⟩
    · intro hl h1 h2
      have hr : roleOf straps = .none := by
        unfold roleOf
        split
        · contradiction
        · contradiction
        · rfl
      obtain ⟨t, hexec, hsame⟩ := coldReset_noRole fitted mib hl hr
      refine ⟨t, hexec, ?_, hsame.role.trans hr, hsame.straps, hsame.railsGood⟩
      exact hsame.life.trans (if_pos hr)
    · intro hl h1 hm
      have hr : roleOf straps = .sender := by
        simp only [roleOf, h1]
      obtain ⟨u, hsame, hexec⟩ := coldReset_role (s := s) fitted (mib := mib) hl (by rw [hr]; decide)
      exact ⟨_, hexec.trans (if_pos hm), rfl, hsame.role.trans hr, hsame.straps⟩
    · intro hl h2 hb
      have hr : roleOf straps = .tile := by
        simp only [roleOf, h2]
      obtain ⟨u, hsame, hexec⟩ := coldReset_role (s := s) fitted (mib := mib) hl (by rw [hr]; decide)
      have hstraps : u.straps = straps := hsame.straps
      have hrole : u.role = .tile := hsame.role.trans hr
      have hotp := hsame.otp
      by_cases hm : mib < 64
      · exact ⟨_, hexec.trans (if_pos hm), rfl, hrole, hstraps, hotp⟩
      · rw [if_neg hm, bootStep_held (hstraps ▸ hb)] at hexec
        have hheld := holdBoot_start u false
        exact ⟨_, hexec, holdBoot_life u false, hheld.role.trans hrole, hheld.straps.trans hstraps,
          hheld.otp.trans hotp⟩
    · intro hl hp
      obtain ⟨u, hu⟩ : ∃ u, State.until_ { s with life := .running } (s.clocks.startAt + elapsed) = u := ⟨_, rfl⟩
      obtain ⟨hlife, hrole, hnow⟩ := running_until hu
      obtain ⟨t, hexec, hsame⟩ := imageLoadComplete_start hl hp hu
      exact ⟨t, hexec, hsame.life.trans hlife, hsame.role.trans hrole, hsame.now ▸ hnow⟩
    · intro hl
      obtain ⟨u, hu⟩ : ∃ u, State.until_ { s with life := .running } (s.clocks.startAt + elapsed) = u := ⟨_, rfl⟩
      obtain ⟨hlife, hrole, hnow⟩ := running_until hu
      obtain ⟨t, hexec, hsame⟩ := warmReset_runs hl hu
      exact ⟨t, hexec, hsame.life.trans hlife, hsame.role.trans hrole, hsame.now ▸ hnow⟩
    · intro hl
      exact ⟨_, warmReset_fails hl, (beginCold_leaves _ 5).1, beginCold_cause _ 5⟩

end Sys2Proof.Machine
end

section
/-! SUPPORT. Flash operations, the black box and the calibration (R470, R475 to R478, R481 to R486). -/

namespace Sys2Proof.Machine
open Host

/-! ### What the flash reads after a write of its contents -/

theorem find_append {α : Type} (m m' : Sparse α) (x : Nat) : Sparse.find? (m ++ m') x = (Sparse.find? m x).or (Sparse.find? m' x) := by
  induction m with
  | nil => simp [Sparse.find?]
  | cons e m ih =>
    obtain ⟨k, v⟩ := e
    simp only [List.cons_append, Sparse.find?]
    split
    · rfl
    · exact ih

theorem find_none {α : Type} {m : Sparse α} {x : Nat} (h : ∀ e ∈ m, e.1 ≠ x) : Sparse.find? m x = none := by
  induction m with
  | nil => rfl
  | cons e m ih =>
    obtain ⟨k, v⟩ := e
    have hk : x ≠ k := fun hx => h (k, v) List.mem_cons_self hx.symm
    simp only [Sparse.find?, if_neg hk]
    exact ih fun e he => h e (List.mem_cons_of_mem _ he)

theorem find_filter {α : Type} (p : Nat → Bool) (m : Sparse α) {x : Nat} (h : p x = true) :
    Sparse.find? (m.filter fun e => p e.1) x = Sparse.find? m x := by
  induction m with
  | nil => rfl
  | cons e m ih =>
    obtain ⟨k, v⟩ := e
    by_cases hx : x = k
    · subst hx
      simp [h, Sparse.find?]
    · by_cases hk : p k = true
      · simp only [List.filter_cons, hk, if_true, Sparse.find?, if_neg hx, ih]
      · simp only [List.filter_cons, hk, Bool.false_eq_true, if_false, Sparse.find?, if_neg hx, ih]

/-- The bytes that a write lists, those that are not erased. -/
def listed (addr : Nat) (bytes : List Byte) (n : Nat) : Sparse Byte :=
  (List.zipIdx bytes n).filterMap fun e => if e.1 = 0xFF then none else some (addr + e.2, e.1)

theorem listed_cons (addr : Nat) (b : Byte) (bs : List Byte) (n : Nat) :
    listed addr (b :: bs) n = (if b = 0xFF then [] else [(addr + n, b)]) ++ listed addr bs (n + 1) := by
  simp only [listed, List.zipIdx_cons, List.filterMap_cons]
  split <;> simp_all

theorem listed_range {addr : Nat} {bytes : List Byte} {n : Nat} {e : Nat × Byte} (h : e ∈ listed addr bytes n) :
    addr + n ≤ e.1 ∧ e.1 < addr + n + bytes.length := (listed_at addr bytes n).2 e h

theorem get_listed (addr : Nat) (bytes : List Byte) (n i : Nat) (h : i < bytes.length) :
    Sparse.get (fun _ => 0xFF#8) (listed addr bytes n) (addr + n + i) = bytes[i] := by
  induction bytes generalizing n i with
  | nil => cases h
  | cons b bs ih =>
    unfold Sparse.get
    rw [listed_cons, find_append]
    cases i with
    | zero =>
      have hrest : Sparse.find? (listed addr bs (n + 1)) (addr + n + 0) = none :=
        find_none fun e he hk => by
          have := (listed_range he).1
          omega
      rw [hrest]
      by_cases hb : b = 0xFF
      · simp [hb, Sparse.find?]
      · rw [if_neg hb]
        simp [Sparse.find?]
    | succ i =>
      have hfirst : Sparse.find? (if b = 0xFF then [] else [(addr + n, b)]) (addr + n + (i + 1)) = none := by
        split
        · rfl
        · exact find_none fun e he hk => by
            rw [List.mem_singleton.1 he] at hk
            simp at hk
      rw [hfirst, Option.none_or, show addr + n + (i + 1) = addr + (n + 1) + i by omega]
      exact ih (n + 1) i (Nat.lt_of_succ_lt_succ h)

theorem flashPut_eq (addr : Nat) (bytes : List Byte) (m : Sparse Byte) : flashPut addr bytes m =
    (m.filter fun e => decide (e.1 < addr)) ++ listed addr bytes 0 ++ (m.filter fun e => decide (addr + bytes.length ≤ e.1)) := rfl

theorem get_flashPut_in {addr : Nat} {bytes : List Byte} (m : Sparse Byte) {i : Nat} (h : i < bytes.length) :
    Sparse.get (fun _ => 0xFF#8) (flashPut addr bytes m) (addr + i) = bytes[i] := by
  have hlow : Sparse.find? (m.filter fun e => decide (e.1 < addr)) (addr + i) = none := find_none fun e he hk => by
    have := of_decide_eq_true (List.mem_filter.1 he).2
    omega
  have hhigh : Sparse.find? (m.filter fun e => decide (addr + bytes.length ≤ e.1)) (addr + i) = none := find_none fun e he hk => by
    have := of_decide_eq_true (List.mem_filter.1 he).2
    omega
  have hmid := get_listed addr bytes 0 i h
  unfold Sparse.get at hmid ⊢
  rw [flashPut_eq, find_append, find_append, hlow, hhigh, Option.none_or, Option.or_none]
  exact hmid

theorem get_flashPut_out {addr : Nat} {bytes : List Byte} (m : Sparse Byte) {x : Nat} (h : x < addr ∨ addr + bytes.length ≤ x) :
    Sparse.get (fun _ => 0xFF#8) (flashPut addr bytes m) x = Sparse.get (fun _ => 0xFF#8) m x := by
  have hmid : Sparse.find? (listed addr bytes 0) x = none := find_none fun e he hk => by
    have := listed_range he
    omega
  unfold Sparse.get
  rw [flashPut_eq, find_append, find_append, hmid, Option.or_none]
  obtain hlow | hhigh := h
  · have hnone : Sparse.find? (m.filter fun e => decide (addr + bytes.length ≤ e.1)) x = none := find_none fun e he hk => by
      have := of_decide_eq_true (List.mem_filter.1 he).2
      omega
    rw [hnone, Option.or_none, find_filter (fun k => decide (k < addr)) m (decide_eq_true hlow)]
  · have hnone : Sparse.find? (m.filter fun e => decide (e.1 < addr)) x = none := find_none fun e he hk => by
      have := of_decide_eq_true (List.mem_filter.1 he).2
      omega
    rw [hnone, Option.none_or, find_filter (fun k => decide (addr + bytes.length ≤ k)) m (decide_eq_true hhigh)]

/-- A state whose flash has been written reads what was written, and the rest as before. -/
theorem flash_put {s t : State} {addr : Nat} {bytes : List Byte} (h : t.nvm.flash = flashPut addr bytes s.nvm.flash) :
    t.flash addr bytes.length = bytes ∧ ∀ x, x < addr ∨ addr + bytes.length ≤ x → t.flash x 1 = s.flash x 1 := by
  constructor
  · unfold State.flash
    rw [h]
    refine List.ext_getElem (by simp) fun i h1 h2 => ?_
    rw [List.getElem_map, List.getElem_range]
    exact get_flashPut_in _ _
  · intro x hx
    unfold State.flash
    rw [h]
    exact congrArg (fun b => [b]) (get_flashPut_out _ hx)

/-! ### Events leave the flash block but its black box -/

/-- The flash block with its black box blanked: what no event reaches. -/
def State.flashBlock (s : State) : Nvm := { s.nvm with bb := BlackBox.reset }

theorem flashBlock_of_nvm {s t : State} (h : t.nvm = s.nvm) : t.flashBlock = s.flashBlock := by
  unfold State.flashBlock
  rw [h]

theorem jobs_of_flashBlock {s t : State} (h : t.flashBlock = s.flashBlock) : t.nvm.jobs = s.nvm.jobs :=
  (congrArg Nvm.jobs h :)

theorem withBb_flashBlock (s : State) (f : BlackBox → BlackBox) : (s.withBb f).flashBlock = s.flashBlock := rfl

theorem note_flashBlock (s : State) (code d : Nat) : (s.note code d).flashBlock = s.flashBlock :=
  flashBlock_of_nvm ((ignoresAll_same (x := .nvm) (s₀ := s) (l := [.od, .control, .sent]) (by decide)).discharge kept_note s code d rfl)

theorem loseRecord_flashBlock (s : State) : s.loseRecord.flashBlock = s.flashBlock :=
  flashBlock_of_nvm ((ignoresAll_same (x := .nvm) (s₀ := s) (l := [.od, .control, .sent]) (by decide)).discharge kept_loseRecord s rfl)

theorem stage_flashBlock (s : State) (r : Flint) : (s.stage r).flashBlock = s.flashBlock := by
  unfold State.stage
  split
  · rfl
  · split
    · split
      · exact loseRecord_flashBlock _
      · exact loseRecord_flashBlock _
    · exact loseRecord_flashBlock _

theorem setLimiter_flashBlock (s : State) (l : Limiter) : (s.setLimiter l).flashBlock = s.flashBlock := rfl

theorem record_flashBlock (s : State) (code d : Nat) (data : List Byte) : (s.record code d data).flashBlock = s.flashBlock := by
  unfold State.record
  dsimp only
  split
  · split
    · exact (note_flashBlock _ _ _).trans (setLimiter_flashBlock _ _)
    · exact setLimiter_flashBlock _ _
  · exact stage_flashBlock _ _

theorem raiseWith_flashBlock (s : State) (code d : Nat) (data : List Byte) : (s.raiseWith code d data).flashBlock = s.flashBlock := by
  unfold State.raiseWith
  dsimp only
  split
  · exact note_flashBlock _ _ _
  · exact (record_flashBlock _ _ _ _).trans (note_flashBlock _ _ _)

theorem raise_flashBlock (s : State) (code d : Nat) : (s.raise code d).flashBlock = s.flashBlock := raiseWith_flashBlock s code d []

theorem raiseIf_flashBlock (s : State) (c : Bool) (code d : Nat) : (s.raiseIf c code d).flashBlock = s.flashBlock :=
  ite_proj State.flashBlock c (raise_flashBlock s code d) rfl

theorem raiseLimited_flashBlock (s : State) (code sub n : Nat) (f : Nat → Nat) : (s.raiseLimited code sub n f).flashBlock = s.flashBlock := by
  unfold State.raiseLimited
  dsimp only
  split
  · exact (raiseWith_flashBlock _ _ _ _).trans (setLimiter_flashBlock _ _)
  · exact setLimiter_flashBlock _ _

/-! ### One flash operation ends -/

theorem touch_nvm (s : State) (x : FlashStep) : (s.touch x).nvm = s.nvm := by
  unfold State.touch
  dsimp only
  split
  · rfl
  · exact ite_proj State.nvm _ rfl rfl

theorem issueFlash_jobs (s : State) : s.issueFlash.nvm.jobs = s.nvm.jobs := by
  unfold State.issueFlash
  split <;> rfl

theorem issueFlash_flash (s : State) : s.issueFlash.nvm.flash = s.nvm.flash := by
  unfold State.issueFlash
  split <;> rfl

theorem jobFails_flashBlock (s : State) (u : FlashPurpose) : (s.jobFails u).flashBlock = s.flashBlock := by
  unfold State.jobFails
  split
  · exact raise_flashBlock _ _ _
  · rfl
  · rfl

/-- The flash is written by the step alone. -/
theorem touched_flash (s : State) (rest : List FlashJob) (x : FlashStep) :
    (State.touch (s.withNvm fun n => { n with issued := false, jobs := rest }) x).nvm.flash = s.nvm.flash :=
  (congrArg Nvm.flash (touch_nvm _ _) :)

theorem touched_jobs (s : State) (rest : List FlashJob) (x : FlashStep) :
    (State.touch (s.withNvm fun n => { n with issued := false, jobs := rest }) x).nvm.jobs = rest :=
  (congrArg Nvm.jobs (touch_nvm _ _) :)

/-- The state with another allowance of flash traffic left, counted at another instant. -/
def State.setBucket (s : State) (b t : Nvm → Nat) : State := s.withNvm fun n => { n with bucket := b n, bucketAt := t n }

theorem setBucket_flash (s : State) (b t : Nvm → Nat) : (s.setBucket b t).nvm.flash = s.nvm.flash := rfl

theorem setBucket_jobs (s : State) (b t : Nvm → Nat) : (s.setBucket b t).nvm.jobs = s.nvm.jobs := rfl

theorem refillBucket_eq (s : State) : s.refillBucket = s.setBucket
    (fun n => min (s.allowance * bucketUnit) (n.bucket + (s.now - n.bucketAt) * s.allowance)) (fun _ => s.now) := rfl

theorem charge_eq (s : State) (n : Nat) :
    s.charge n = s.refillBucket.setBucket (fun v => v.bucket - n * bucketUnit) Nvm.bucketAt := rfl

theorem charge_flash (s : State) (n : Nat) : (s.charge n).nvm.flash = s.nvm.flash := by
  rw [charge_eq, setBucket_flash, refillBucket_eq, setBucket_flash]

theorem charge_jobs (s : State) (n : Nat) : (s.charge n).nvm.jobs = s.nvm.jobs := by
  rw [charge_eq, setBucket_jobs, refillBucket_eq, setBucket_jobs]

/-- The state with other flash contents. -/
def State.setFlash (s : State) (f : Sparse Byte) (k : Nat) : State := { s with nvm := { s.nvm with flash := f }, freeCount := k }

theorem setFlash_jobs (s : State) (f : Sparse Byte) (k : Nat) : (s.setFlash f k).nvm.jobs = s.nvm.jobs := rfl

theorem doStep_fails_jobs (s : State) (x : FlashStep) : (s.doStep x false).2.nvm.jobs = s.nvm.jobs := by
  cases x with
  | erase a n => exact setFlash_jobs s _ _
  | program a b => exact (setFlash_jobs (s.charge b.length) _ _).trans (charge_jobs s b.length)

theorem doStep_erase (s : State) (a n : Nat) : s.doStep (.erase a n) true =
    ((List.replicate n 0xFF : List Byte) == List.replicate n 0xFF, s.withNvm fun v => { v with flash := flashPut a (List.replicate n 0xFF) v.flash }) := rfl

theorem doStep_program (s : State) (a : Nat) (b : List Byte) : s.doStep (.program a b) true =
    (List.zipWith (fun o w => o &&& w) (s.flash a b.length) b == b,
      (s.charge b.length).withNvm fun v => { v with flash := flashPut a (List.zipWith (fun o w => o &&& w) (s.flash a b.length) b) v.flash }) := rfl

/-- An operation that does not succeed drops its job. -/
theorem flashEnds_fails {s : State} {j : FlashJob} {rest : List FlashJob} {x : FlashStep} {more : List FlashStep}
    (hi : s.nvm.issued = true) (hj : s.nvm.jobs = j :: rest) (hs : j.steps = x :: more) :
    (s.flashEnds false).nvm.jobs = rest := by
  have hbad : ∀ u : State, (u.doStep x false).1 = false := fun u => rfl
  unfold State.flashEnds
  simp only [hi, hj, hs, hbad, Bool.not_false, if_true]
  rw [issueFlash_jobs]
  refine (jobs_of_flashBlock ((jobFails_flashBlock _ _).trans (raise_flashBlock _ _ _))).trans ?_
  exact (doStep_fails_jobs _ x).trans (touched_jobs s rest x)

/-- A step that succeeds and is not its job's last: its bytes stand, and the job goes on with the next. -/
theorem flashEnds_good {s u : State} {j : FlashJob} {rest : List FlashJob} {x next : FlashStep} {more : List FlashStep}
    (hi : s.nvm.issued = true) (hj : s.nvm.jobs = j :: rest) (hs : j.steps = x :: next :: more)
    (hdo : (State.touch (s.withNvm fun n => { n with issued := false, jobs := rest }) x).doStep x true = (true, u)) :
    (s.flashEnds true).nvm.jobs = resumeJob { j with steps := next :: more } rest ∧
    (s.flashEnds true).nvm.flash = u.nvm.flash := by
  unfold State.flashEnds
  simp only [hi, hj, hs, hdo]
  exact ⟨issueFlash_jobs _, issueFlash_flash _⟩

theorem zipWith_and_erased (b : List Byte) : List.zipWith (fun o w => o &&& w) (List.replicate b.length 0xFF#8) b = b := by
  induction b with
  | nil => rfl
  | cons x b ih =>
    rw [List.length_cons, List.replicate_succ, List.zipWith_cons_cons, ih]
    exact congrArg (· :: b) BitVec.allOnes_and

theorem flash_congr {s t : State} (h : t.nvm.flash = s.nvm.flash) (a n : Nat) : t.flash a n = s.flash a n := by
  unfold State.flash
  rw [h]

theorem erase_done {s v : State} {a n : Nat} (hv : v.nvm.flash = s.nvm.flash) :
    ∃ u, v.doStep (.erase a n) true = (true, u) ∧ u.nvm.flash = flashPut a (List.replicate n 0xFF) s.nvm.flash := by
  rw [doStep_erase, beq_self_eq_true]
  exact ⟨_, rfl, congrArg (flashPut a (List.replicate n 0xFF)) hv⟩

theorem program_done {s v : State} {a : Nat} {b : List Byte} (hv : v.nvm.flash = s.nvm.flash)
    (herased : s.flash a b.length = List.replicate b.length 0xFF) :
    ∃ u, v.doStep (.program a b) true = (true, u) ∧ u.nvm.flash = flashPut a b s.nvm.flash := by
  have hgot : List.zipWith (fun o w => o &&& w) (v.flash a b.length) b = b := by
    rw [flash_congr hv, herased]
    exact zipWith_and_erased b
  rw [doStep_program, hgot, beq_self_eq_true]
  exact ⟨_, rfl, congrArg (flashPut a b) ((charge_flash v b.length).trans hv)⟩

/-! ### Calibration -/

/-- What a calibration leaves as it stands while its values are stored. -/
def State.calKept (s : State) : Option CalRun × Cal := (s.nvm.calRun, s.nvm.cal)

theorem calKept_of_flashBlock {s t : State} (h : t.flashBlock = s.flashBlock) : t.calKept = s.calKept :=
  Prod.ext (congrArg Nvm.calRun h :) (congrArg Nvm.cal h :)

theorem raise_calKept (s : State) (code d : Nat) : (s.raise code d).calKept = s.calKept :=
  calKept_of_flashBlock (raise_flashBlock s code d)

theorem bump_calKept (s : State) (idx sub n : Nat) : (s.bump idx sub n).calKept = s.calKept :=
  calKept_of_flashBlock (flashBlock_of_nvm (bump_nvm s idx sub n))

theorem deferKinds_calKept (s : State) (mask : Nat) : (s.deferKinds mask).calKept = s.calKept := by
  unfold State.deferKinds
  dsimp only
  refine (foldl_proj State.calKept (fun t k => calKept_of_flashBlock (raiseIf_flashBlock t _ _ _)) _ _).trans ?_
  exact calKept_of_flashBlock (flashBlock_of_nvm (wrN_nvm s 0x2F00 0x19 _))

theorem refuseWrite_calKept (s : State) (a : Nat) : (s.refuseWrite a).calKept = s.calKept :=
  calKept_of_flashBlock ((raiseLimited_flashBlock _ _ _ _ _).trans (flashBlock_of_nvm (bump_nvm s _ _ _)))

theorem issueFlash_calKept (s : State) : s.issueFlash.calKept = s.calKept := by
  unfold State.issueFlash
  split <;> rfl

theorem addJob_calKept (s : State) (j : FlashJob) : (s.addJob j).2.calKept = s.calKept := by
  unfold State.addJob
  split
  · dsimp only
    rw [raise_calKept, bump_calKept]
  · dsimp only
    rw [issueFlash_calKept]
    rfl

theorem calStore_calKept (s : State) (mask : Nat) : (s.calStore mask).calKept = s.calKept := by
  unfold State.calStore
  dsimp only
  split
  · exact deferKinds_calKept _ _
  · split
    · exact (deferKinds_calKept _ _).trans (refuseWrite_calKept _ _)
    · exact addJob_calKept _ _

/-- A run that ends well ends the calibration and keeps its values. -/
theorem calEnds_calKept (s : State) (kind mask values : Nat) : (s.calEnds kind 0 mask values).calKept = (none, s.nvm.cal) := by
  unfold State.calEnds
  dsimp only
  rw [if_pos rfl]
  unfold State.calKept
  simp only [publish_nvm, wrN_nvm]
  rfl

/-- The sum of a sensor's readings in some rounds. -/
def sensorSum (i : Fin 8) (l : List (Vector Int 8)) : Int := (l.map fun v => v[i]).sum

/-- The trims of eight sensors against 16 readings of a reference. -/
def trimsAgainst (ref : Int) (rounds : List (Vector Int 8)) : Vector Int 8 :=
  Vector.ofFn fun i => (2 * ref - sensorSum i (rounds.take 16) - sensorSum i (rounds.drop 16) + 16) / 32

/-- A trim run whose two halves agree, with each other and with the reference, takes its trims. -/
theorem trimEnds_good {s : State} {rounds : List (Vector Int 8)}
    (hspread : ∀ i k : Fin 8, sensorSum i (rounds.take 16) - sensorSum k (rounds.take 16) ≤ 1024 ∧
      sensorSum i (rounds.drop 16) - sensorSum k (rounds.drop 16) ≤ 1024)
    (hagree : ∀ i : Fin 8, (sensorSum i (rounds.take 16) - sensorSum i (rounds.drop 16)).natAbs ≤ 128)
    (hrange : ∀ i : Fin 8, (16 * s.rdI 0x2F00 0x03 - sensorSum i (rounds.take 16)).natAbs ≤ 1024 ∧
      (16 * s.rdI 0x2F00 0x03 - sensorSum i (rounds.drop 16)).natAbs ≤ 1024) :
    s.trimEnds rounds =
      ((s.withCal fun c => { c with trims := trimsAgainst (16 * s.rdI 0x2F00 0x03) rounds }).calEnds 3 0 0 0).calStore 4 := by
  have hone : ((List.finRange 8).all fun i => (List.finRange 8).all fun k =>
      decide (sensorSum i (rounds.take 16) - sensorSum k (rounds.take 16) ≤ 1024)) = true :=
    List.all_eq_true.2 fun i _ => List.all_eq_true.2 fun k _ => decide_eq_true (hspread i k).1
  have htwo : ((List.finRange 8).all fun i => (List.finRange 8).all fun k =>
      decide (sensorSum i (rounds.drop 16) - sensorSum k (rounds.drop 16) ≤ 1024)) = true :=
    List.all_eq_true.2 fun i _ => List.all_eq_true.2 fun k _ => decide_eq_true (hspread i k).2
  have hbad : ((List.finRange 8).filter fun (i : Fin 8) =>
      decide (128 < (sensorSum i (rounds.take 16) - sensorSum i (rounds.drop 16)).natAbs)) = [] :=
    List.filter_eq_nil_iff.2 fun i _ h => absurd (of_decide_eq_true h) (Nat.not_lt.2 (hagree i))
  have hin : ((List.finRange 8).all fun i => decide ((16 * s.rdI 0x2F00 0x03 - sensorSum i (rounds.take 16)).natAbs ≤ 1024 ∧
      (16 * s.rdI 0x2F00 0x03 - sensorSum i (rounds.drop 16)).natAbs ≤ 1024)) = true :=
    List.all_eq_true.2 fun i _ => decide_eq_true (hrange i)
  unfold sensorSum at hone htwo hbad hin
  unfold State.trimEnds
  dsimp only
  refine (if_neg ?_).trans ((if_neg ?_).trans (if_neg ?_))
  · rw [hone, htwo]
    exact Bool.false_ne_true
  · rw [hbad]
    exact fun h => h rfl
  · rw [hin]
    exact Bool.false_ne_true

theorem calRunComplete_trims {s : State} {r : CalRun} (a b : HopRun) (hup : s.up = true) (hr : s.nvm.calRun = some r) (hk : r.kind = 3)
    (hlen : r.rounds.length = 32) : execCalRunComplete a b s = .next (s.trimEnds r.rounds).startHop := by
  unfold execCalRunComplete
  simp only [hr, hup, hk, hlen]
  rfl

theorem trims_taken {s : State} {rounds : List (Vector Int 8)} (ref : Int) (i : Fin 8) :
    let t := ((s.withCal fun c => { c with trims := trimsAgainst ref rounds }).calEnds 3 0 0 0).calStore 4
    t.nvm.calRun = none ∧
      t.nvm.cal.trims[i] = (2 * ref - sensorSum i (rounds.take 16) - sensorSum i (rounds.drop 16) + 16) / 32 := by
  intro t
  have hkept : t.calKept = (none, (s.withCal fun c => { c with trims := trimsAgainst ref rounds }).nvm.cal) :=
    (calStore_calKept _ _).trans (calEnds_calKept _ _ _ _)
  refine ⟨congrArg Prod.fst hkept, ?_⟩
  have htrims : t.nvm.cal.trims = trimsAgainst ref rounds := congrArg (fun k => k.2.trims) hkept
  rw [htrims]
  exact Vector.getElem_ofFn _

theorem bbCommit_adds {s : State} {r : Flint} {rest : List Flint} {n : Nat} (hs : s.nvm.bb.slots = r :: rest) (hl : s.life ≠ .inReset)
    (hw : s.windowOpen = true) (hsc : s.nvm.bb.scanned = true) (hc : s.committing = false) (hb : s.bucketHolds 256 = true)
    (hn : s.slotFor r = some n) : execBbCommit s =
      .next (s.addJob { prio := 0, purpose := .bbCommit (r.seq.getD 0) n, steps := [.program (bbArea n) (r.bytes (n < 256))] }).2 := by
  unfold execBbCommit
  simp only [hs, hw, hsc, hc, hb, hn, decide_eq_false hl]
  rfl

/-- Settles O42: what a flash operation leaves on the flash and in its list of jobs, the record that is committed, and how a calibration ends. -/
theorem flashRecordsAndCalibration : Obligations.FlashRecordsAndCalibration := by
  unfold Obligations.FlashRecordsAndCalibration
  refine ⟨fun s j rest next more _ hi hj => ⟨?_, ?_, ?_⟩, fun s => ⟨?_, ?_, ?_⟩⟩
  · intro a n hs
    obtain ⟨u, hdo, hu⟩ := erase_done (a := a) (n := n) (touched_flash s rest (.erase a n))
    obtain ⟨hjobs, hflash⟩ := flashEnds_good hi hj hs hdo
    have hput := flash_put (s := s) (hflash.trans hu)
    rw [List.length_replicate] at hput
    exact ⟨_, rfl, hput.1, hjobs, hput.2⟩
  · intro a b hs herased
    obtain ⟨u, hdo, hu⟩ := program_done (s := s) (a := a) (b := b) (touched_flash s rest (.program a b)) herased
    obtain ⟨hjobs, hflash⟩ := flashEnds_good hi hj hs hdo
    exact ⟨_, rfl, (flash_put (s := s) (hflash.trans hu)).1, hjobs⟩
  · intro x hs
    exact ⟨⟨_, rfl, flashEnds_fails hi hj hs⟩, _, rfl, flashEnds_fails hi hj hs⟩
  · intro r rest n hs hl hw hsc hc hb hn
    exact bbCommit_adds hs hl hw hsc hc hb hn
  · intro r a b hup hr p
    refine ⟨?_, ?_, ?_, ?_⟩
    · intro hk
      show execCalRunComplete a b s = _
      unfold execCalRunComplete
      simp only [hr, hup, hk]
      rfl
    · intro hk hskew
      show execCalRunComplete a b s = _
      unfold execCalRunComplete
      simp only [hr, hup, hk, hskew]
      rfl
    · intro hk
      show execCalRunComplete a b s = _
      unfold execCalRunComplete
      simp only [hr, hup, hk]
      rfl
    · intro hk hlen one two ref hspread hagree hrange
      have hends := trimEnds_good (s := s) hspread hagree hrange
      refine ⟨_, (calRunComplete_trims a b hup hr hk hlen).trans (congrArg (fun t => Outcome.next (State.startHop t)) hends), ?_, fun i => ?_⟩
      · exact (trims_taken _ 0).1
      · exact (trims_taken _ i).2
  · intro hup hw hd hj
    show execCalDeferredStore s = _
    unfold execCalDeferredStore
    simp [hup, hw, hd, hj]

end Sys2Proof.Machine
end

section
/-! SUPPORT. Fills, commits and the composition of slots on a tile (R206, R242 to R249, R252, R255, R274, R275, R292). -/

namespace Sys2Proof.Machine
open Host

/-! ### Wall time passes -/

/-- The state at another instant: its clock, its wall time and what is left of its slew. -/
def State.timed (s : State) (now wall : Nat) (slew : Int) : State :=
  { s with now := now, quartz := { s.quartz with wall := wall, slew := slew } }

theorem untilWall_timed (s : State) (w : Nat) : ∃ now wall slew, s.untilWall w = s.timed now wall slew ∧ w ≤ wall := by
  unfold State.untilWall
  by_cases hw : w ≤ s.quartz.wall
  · exact ⟨s.now, s.quartz.wall, s.quartz.slew, if_pos hw, hw⟩
  · exact ⟨_, w, _, if_neg hw, Nat.le_refl w⟩

/-! ### The picture's blocks under the steps of a fill -/

theorem withStore_compose (s : State) (f : FrameStore → FrameStore) : (s.withStore f).video.compose = s.video.compose := rfl

theorem withColour_compose (s : State) (f : Colour → Colour) : (s.withColour f).video.compose = s.video.compose := rfl

theorem openFill_compose (s : State) (f : Nat) : (s.openFill f).video.compose = s.video.compose := withStore_compose _ _

theorem openFill_filling (s : State) (f : Nat) : (s.openFill f).video.store.filling = some f := rfl

theorem openFill_quartz (s : State) (f : Nat) : (s.openFill f).quartz = s.quartz := rfl

theorem takeCurrent_compose (s : State) (g : Gen) (f : Nat) (n : Fin 8) (v : Verdict) :
    (s.takeCurrent g f n v).video.compose = s.video.compose := by
  unfold State.takeCurrent
  split
  · exact withStore_compose _ _
  · rfl

theorem applyVerdict_shown (s : State) (g : Gen) (f : Nat) (n : Fin 8) (v : Verdict) :
    (s.applyVerdict g f n v).video.compose.shown = vset s.video.compose.shown n v.shown := by
  have hset : (((((s.takeCurrent g f n v).wrN (0x2800 + n.1) 0x24 v.shown.code).wrN (0x2800 + n.1) 0x25 v.run).withCompose
      fun c => { c with shown := vset c.shown n v.shown }).video.compose.shown) = vset s.video.compose.shown n v.shown := by
    show vset (State.video _).compose.shown n v.shown = _
    rw [wrN_video, wrN_video, takeCurrent_compose]
  unfold State.applyVerdict
  dsimp only
  split
  · exact hset
  · split
    · rw [bump_video]
      exact hset
    · rw [bump_video]
      exact hset
    · split
      · rw [bump_video]
        exact hset
      · rw [raiseLimited_video, bump_video]
        exact hset
    · split
      · rw [bump_video]
        exact hset
      · rw [raiseLimited_video, bump_video]
        exact hset
    · rw [bump_video]
      exact hset

theorem applyCorr_compose (s : State) (g : Gen) : (s.applyCorr g).video.compose = s.video.compose := by
  unfold State.applyCorr State.dropCorr
  dsimp only
  split
  · rfl
  · split
    · rw [wrN_video, wrN_video, withColour_compose]
    · split
      · rfl
      · rw [withColour_compose, startRun_video]

theorem latchGains_compose (s : State) (g : Gen) (f : Nat) : (s.latchGains g f).video.compose = s.video.compose := by
  unfold State.latchGains
  dsimp only
  rw [withColour_compose, wrN_video, wrN_video, wrN_video]

theorem present_shown (s : State) : s.present.video.compose.shown = s.video.compose.shown :=
  congrArg (fun v => v.compose.shown) (wrN_video s 0x2880 0x0D 1)

/-- The verdicts of the layers taken one by one: each layer shows its own. -/
theorem applyVerdicts_shown (s : State) (g : Gen) (f : Nat) (w : Fin 8 → Verdict) (n : Fin 8) :
    (((List.finRange 8).map fun n => (n, w n)).foldl (fun s v => s.applyVerdict g f v.1 v.2) s).video.compose.shown[n] = (w n).shown := by
  rw [List.foldl_map]
  refine foldl_once (f := fun (s : State) (n : Fin 8) => s.applyVerdict g f n (w n)) (fun s => s.video.compose.shown[n])
    (fun _ => (w n).shown) (a := n) ?_ ?_ (List.nodup_finRange 8) (List.mem_finRange n) s
  · intro t
    show (t.applyVerdict g f n (w n)).video.compose.shown[n] = _
    rw [applyVerdict_shown, vset_same]
  · intro t b hb
    show (t.applyVerdict g f b (w b)).video.compose.shown[n] = _
    rw [applyVerdict_shown]
    exact Vector.getElem_set_ne _ _ fun h => hb (Fin.ext h)

theorem judge_shown (s : State) (g : Gen) (f : Nat) (n : Fin 8) :
    (s.judge g f).video.compose.shown[n] = (s.verdict g n).shown := by
  have hfold := applyVerdicts_shown s g f (s.verdict g) n
  unfold State.judge
  dsimp only
  generalize List.foldl _ s _ = v at hfold ⊢
  split
  · exact hfold
  · refine Eq.trans (ite_proj (fun t : State => t.video.compose.shown[n]) _ ?_ rfl) hfold
    exact congrArg (fun x : Vector Shown 8 => x[n]) (present_shown _)

theorem judge_quartz (s : State) (g : Gen) (f : Nat) : (s.judge g f).quartz = s.quartz :=
  (ignoresAll_same (x := .quartz) (s₀ := s) (l := [.od, .control, .nvm, .video, .sent]) (by decide)).discharge kept_judge s g f rfl

theorem keepFrames_quartz (s : State) (g : Gen) (f : Nat) : (s.keepFrames g f).quartz = s.quartz :=
  (ignoresAll_same (x := .quartz) (s₀ := s) (l := [.video]) (by decide)).discharge kept_keepFrames s g f rfl

theorem applyCorr_quartz (s : State) (g : Gen) : (s.applyCorr g).quartz = s.quartz :=
  (ignoresAll_same (x := .quartz) (s₀ := s) (l := [.od, .video]) (by decide)).discharge kept_applyCorr s g rfl

theorem latchGains_quartz (s : State) (g : Gen) (f : Nat) : (s.latchGains g f).quartz = s.quartz :=
  (ignoresAll_same (x := .quartz) (s₀ := s) (l := [.od, .video]) (by decide)).discharge kept_latchGains s g f rfl

/-! ### What a close judges by -/

theorem verdict_congr {s t : State} (hv : t.video = s.video) (hr : ∀ n : Fin 8, t.rdN (0x2800 + n.1) 0x25 = s.rdN (0x2800 + n.1) 0x25)
    (g : Gen) (n : Fin 8) : t.verdict g n = s.verdict g n := by
  have hmissing : t.missing = s.missing := funext fun n => by simp only [State.missing, hv]
  have hready : t.ready = s.ready := funext fun g => funext fun n => by simp only [State.ready, hmissing]
  have hunit : t.unitReady = s.unitReady := funext fun g => funext fun n => by simp only [State.unitReady, hready]
  have hone : t.verdict1 = s.verdict1 := funext fun g => funext fun n => by simp only [State.verdict1, hv, hr, hmissing, hunit]
  simp only [State.verdict, hone, hunit, hmissing]

theorem countMissing_video (s : State) : s.countMissing.video = s.video :=
  (ignoresAll_same (x := .video) (s₀ := s) (l := [.od]) (by decide)).discharge kept_countMissing s rfl

theorem countMissing_quartz (s : State) : s.countMissing.quartz = s.quartz :=
  (ignoresAll_same (x := .quartz) (s₀ := s) (l := [.od]) (by decide)).discharge kept_countMissing s rfl

theorem countMissing_tile (s : State) : s.countMissing.tile = s.tile :=
  (ignoresAll_same (x := .tile) (s₀ := s) (l := [.od]) (by decide)).discharge kept_countMissing s rfl

theorem countMissing_role (s : State) : s.countMissing.role = s.role :=
  (ignoresAll_same (x := .role) (s₀ := s) (l := [.od]) (by decide)).discharge kept_countMissing s rfl

theorem countMissing_rd (s : State) {idx sub : Nat} (h : ∀ n : Fin 8, key idx sub ≠ key 0x2700 (0x18 + n)) :
    s.countMissing.rd idx sub = s.rd idx sub := by
  refine foldl_proj (fun t => t.rd idx sub) (fun t (n : Fin 8) => ?_) _ _
  exact Sparse.get_set_ne _ _ _ _ _ (h n)

theorem countMissing_keepsHeld (s : State) : s.countMissing.keepsHeld = s.keepsHeld := by
  unfold State.keepsHeld State.feedLost State.repeatOnly State.commanded State.rdB State.rdI
  rw [countMissing_tile, countMissing_quartz, countMissing_role, countMissing_rd s fun n => by simp only [key]; omega]

theorem countMissing_verdict (s : State) (g : Gen) (n : Fin 8) : s.countMissing.verdict g n = s.verdict g n :=
  verdict_congr (countMissing_video s) (fun m => by
    unfold State.rdN State.rdI
    rw [countMissing_rd s fun k => by simp only [key]; omega]) g n

/-- What a close leaves of the picture: the frame closed is composed, the next one fills, and each layer shows its verdict. -/
theorem fillClose_composes {s : State} {f : Nat} (ht : s.isTile = true) (hf : s.video.store.filling = some f) :
    ∃ t, execFillClose s = .next t ∧ t.video.compose.frame = f ∧ t.video.compose.slot = none ∧ t.video.compose.slotsDone = 0 ∧
      t.video.store.filling = some (max (f + 1) s.quartz.frame) ∧
      s.tFrame (f + 1) + s.rdN 0x2700 0x03 * subNs ≤ t.quartz.wall ∧
      (s.keepsHeld = false → ∀ n : Fin 8,
       t.video.compose.shown[n] = (s.verdict ((s.genFor f).getD Gen.none_) n).shown) := by
  obtain ⟨now, wall, slew, hu, hw⟩ := untilWall_timed s (s.tFrame (f + 1) + s.rdN 0x2700 0x03 * subNs)
  unfold execFillClose
  simp only [ht, hf, hu, Bool.not_true, Bool.false_eq_true, if_false]
  have hgen : (s.timed now wall slew).genFor f = s.genFor f := rfl
  have hheld : (s.timed now wall slew).countMissing.keepsHeld = s.keepsHeld := countMissing_keepsHeld _
  have hverdict : ∀ g n, (s.timed now wall slew).countMissing.verdict g n = s.verdict g n := fun g n =>
    (countMissing_verdict _ g n).trans (verdict_congr rfl (fun _ => rfl) g n)
  have hquartz : (s.timed now wall slew).countMissing.quartz = { s.quartz with wall := wall, slew := slew } := countMissing_quartz _
  rw [hgen, hheld]
  generalize (s.timed now wall slew).countMissing = c at *
  generalize (s.genFor f).getD Gen.none_ = g
  obtain ⟨j, hj, hjq, hjs⟩ : ∃ j, (if s.keepsHeld = true then c.keepFrames g f else c.judge g f) = j ∧ j.quartz = c.quartz ∧
      (s.keepsHeld = false → ∀ n : Fin 8, j.video.compose.shown[n] = (s.verdict g n).shown) := by
    refine ⟨_, rfl, ite_proj State.quartz _ (keepFrames_quartz c g f) (judge_quartz c g f), fun hk n => ?_⟩
    rw [if_neg (by rw [hk]; decide), judge_shown, hverdict]
  rw [hj]
  obtain ⟨a, ha, haq, hac⟩ : ∃ a, (if j.genFor j.video.compose.frame = some g then j else j.applyCorr g) = a ∧ a.quartz = j.quartz ∧
      a.video.compose = j.video.compose :=
    ⟨_, rfl, ite_proj State.quartz _ rfl (applyCorr_quartz j g), ite_proj (fun t : State => t.video.compose) _ rfl (applyCorr_compose j g)⟩
  rw [ha]
  have hq : (a.latchGains g f).quartz = { s.quartz with wall := wall, slew := slew } :=
    (latchGains_quartz a g f).trans (haq.trans (hjq.trans hquartz))
  have hc : (a.latchGains g f).video.compose = j.video.compose := (latchGains_compose a g f).trans hac
  generalize a.latchGains g f = v at *
  refine ⟨_, rfl, ?_, ?_, ?_, ?_, ?_, fun hk n => ?_⟩
  · rw [openFill_compose]
    rfl
  · rw [openFill_compose]
    rfl
  · rw [openFill_compose]
    rfl
  · rw [openFill_filling]
    have hframe : v.quartz.frame = s.quartz.frame := (congrArg Quartz.frame hq :)
    exact congrArg (fun k => some (max (f + 1) k)) hframe
  · rw [openFill_quartz]
    exact hw.trans (le_of_eq (congrArg Quartz.wall hq).symm)
  · rw [openFill_compose]
    exact (congrArg (fun c : Compose => c.shown[n]) hc).trans (hjs hk n)

/-! ### The commit of a pending generation -/

theorem wr_frame (g : Gen) (idx sub : Nat) (v : Val) : (g.wr idx sub v).frame = g.frame := rfl

theorem foldl_frame {α : Type} {f : Gen → α → Gen} (h : ∀ g a, (f g a).frame = g.frame) (l : List α) (g : Gen) :
    (l.foldl f g).frame = g.frame := by
  induction l generalizing g with
  | nil => rfl
  | cons a l ih => exact (ih (f g a)).trans (h g a)

theorem take_frame (g old : Gen) (ks : List (Nat × Nat)) : (g.take old ks).frame = g.frame := by
  unfold Gen.take
  induction ks generalizing g with
  | nil => rfl
  | cons k ks ih => rw [List.foldl_cons, ih, wr_frame]

theorem refuse_frame (g old : Gen) (n : Nat) : (g.refuse old n).frame = g.frame := by
  unfold Gen.refuse
  generalize ht : g.take old (layerKeys n) = t
  have hframe : t.frame = g.frame := by rw [← ht, take_frame]
  split
  · exact hframe
  · rfl

theorem settle_frame (g old : Gen) (refused : Refusals) : (g.settle old refused).frame = g.frame :=
  foldl_frame (f := fun g n => if refused.has n then g.refuse old n else { g with filled := g.filled.set! n false })
    (fun g n => ite_proj Gen.frame _ (refuse_frame g old n) rfl) _ g

theorem checkCorr_frame (s : State) (g : Gen) : (s.checkCorr g).1.frame = g.frame := by
  unfold State.checkCorr
  dsimp only
  split
  · rfl
  · split
    · rfl
    · split <;> rfl

theorem checkLamps_frame (s : State) (g old : Gen) (t : TimingSet) : (s.checkLamps g old t).1.frame = g.frame := by
  unfold State.checkLamps
  dsimp only
  split
  · exact take_frame g old _
  · rfl

theorem checkCorr_video (s : State) (g : Gen) : (s.checkCorr g).2.video = s.video :=
  (ignoresAll_same (x := .video) (s₀ := s) (l := [.od, .control, .nvm, .sent]) (by decide)).discharge kept_checkCorr s g rfl

theorem checkLamps_video (s : State) (g old : Gen) (t : TimingSet) : (s.checkLamps g old t).2.video = s.video :=
  (ignoresAll_same (x := .video) (s₀ := s) (l := [.od, .control, .nvm, .lamps, .sent]) (by decide)).discharge kept_checkLamps s g old t rfl

theorem publishLayer_video (s : State) (g : Gen) (r : Refusals) (n : Nat) : (s.publishLayer g r n).video = s.video :=
  (ignoresAll_same (x := .video) (s₀ := s) (l := [.od, .control, .nvm, .sent]) (by decide)).discharge kept_publishLayer s g r n rfl

theorem trackLevel_video (s : State) : s.trackLevel.video = s.video :=
  (ignoresAll_same (x := .video) (s₀ := s) (l := [.od, .control, .clocks, .nvm, .sent]) (by decide)).discharge kept_trackLevel s rfl

theorem request_video (s : State) (p : Fin 64) (code f : Nat) : (s.request p code f).video = s.video :=
  (ignoresAll_same (x := .video) (s₀ := s) (l := [.lamps]) (by decide)).discharge kept_request s p code f rfl

theorem setPending_compose (s : State) (p : Option CommitPending) :
    (s.setPending p).video.compose = { s.video.compose with pending := p } :=
  congrArg Video.compose (wrN_video _ _ _ _)

theorem withCompose_compose (s : State) (f : Compose → Compose) : (s.withCompose f).video.compose = f s.video.compose := rfl

theorem withCompose_gens {s : State} {c : Compose} (g : Gen) (h : s.video.compose = { c with pending := none }) :
    (s.withCompose fun c => { c with gens := g :: c.gens }).video.compose = { c with pending := none, gens := g :: c.gens } := by
  rw [withCompose_compose, h]

theorem setPending_none {s t : State} (h : s.video = t.video) : (s.setPending none).video.compose = { t.video.compose with pending := none } := by
  rw [setPending_compose, h]

/-- A commit makes a generation of its frame and has nothing pending left. -/
theorem commitAt_makes (s : State) (p : CommitPending) : ∃ g, g.frame = p.frame ∧
    (s.commitAt p).video.compose = { s.video.compose with pending := none, gens := g :: s.video.compose.gens } := by
  unfold State.commitAt
  extract_lets f old t staged new first refused g0
  have hg0 : g0.frame = p.frame := settle_frame new old refused
  clear_value g0
  obtain ⟨g1, s1, h1, hg1, hs1⟩ : ∃ g1 s1, s.checkCorr g0 = (g1, s1) ∧ g1.frame = p.frame ∧ s1.video = s.video :=
    ⟨_, _, rfl, (checkCorr_frame s g0).trans hg0, checkCorr_video s g0⟩
  rw [h1]
  dsimp only
  obtain ⟨g2, s2, h2, hg2, hs2⟩ : ∃ g2 s2, s1.checkLamps g1 old t = (g2, s2) ∧ g2.frame = p.frame ∧ s2.video = s.video :=
    ⟨_, _, rfl, (checkLamps_frame s1 g1 old t).trans hg1, (checkLamps_video s1 g1 old t).trans hs1⟩
  rw [h2]
  dsimp only
  generalize hg : ({ g2 with scaler := s2.assignScalers g2 old (refused.map (·.1)) } : Gen) = g
  have hframe : g.frame = p.frame := by
    rw [← hg]
    exact hg2
  refine ⟨g, hframe, (congrArg Video.compose (trackLevel_video _)).trans ?_⟩
  refine withCompose_gens g ?_
  have hrequests := fun (t : State) => foldl_proj (f := fun (s : State) (q : Fin 64) =>
      if lampsDiffer g old q && old.portOn q && g.portOn q then s.request q 4 f else s) State.video
    (fun s q => ite_proj State.video _ (request_video s q 4 f) rfl) (List.finRange 64) t
  refine (congrArg Video.compose (hrequests _)).trans ?_
  refine setPending_none ?_
  have hlevels := fun (t : State) (cyc : Nat → Nat) => foldl_proj (f := fun (s : State) k => s.wrN 0x2880 (0x11 + k) (sat 0xFFFF (cyc k)))
    State.video (fun s k => wrN_video s _ _ _) (List.range 4) t
  have hlayers := fun (t : State) (l : List Nat) => foldl_proj (f := fun (s : State) n => s.publishLayer g refused n)
    State.video (fun s n => publishLayer_video s g refused n) l t
  refine ite_proj State.video _ ?_ ?_
  · rw [publish_video, hlevels, wrN_video, hlayers, hs2]
  · rw [raise_video, bump_video, publish_video, hlevels, wrN_video, hlayers, hs2]

/-! ### A fault of the pixel path -/

theorem stopPresenting_compose (s : State) : s.stopPresenting.video.compose = { s.video.compose with firstReady := none } :=
  congrArg (fun v : Video => { v.compose with firstReady := none }) (wrN_video s 0x2880 0x0D 0)

/-- A fault of the pixel path changes nothing of the composition but the first frame that was ready. -/
theorem pixelFault_compose (s : State) (c : Nat) : ∃ r, (s.pixelFault c).video.compose = { s.video.compose with firstReady := r } := by
  unfold State.pixelFault
  dsimp only
  split
  · exact ⟨s.video.compose.firstReady, by rw [raise_video]⟩
  · refine ⟨none, ?_⟩
    rw [raise_video, stopPresenting_compose]
    exact congrArg (fun v : Video => { v.compose with firstReady := none }) (raise_video s _ _)

theorem pixelFault_fault (s : State) (c : Nat) : (s.pixelFault c).tile.pixelFault = true := by
  unfold State.pixelFault
  dsimp only
  split
  · next h => exact h
  · rw [raise_tile, stopPresenting_tile]

/-- The end of a frame changes nothing of the composition but the run of overruns and the first frame that was ready. -/
theorem endFrame_compose (s : State) : ∃ n r, s.endFrame.video.compose = { s.video.compose with overrunRun := n, firstReady := r } := by
  unfold State.endFrame
  extract_lets c run v
  split
  · exact ⟨_, _, rfl⟩
  · split
    · obtain ⟨r, hr⟩ := pixelFault_compose v 1
      exact ⟨run, r, hr⟩
    · exact ⟨run, _, rfl⟩

theorem endFrame_beat (s : State) : s.endFrame.beat = s.beat :=
  (ignoresAll_same (x := .beat) (s₀ := s) (l := [.od, .control, .nvm, .tile, .video, .sent]) (by decide)).discharge kept_endFrame s rfl

theorem endFrame_now (s : State) : s.endFrame.now = s.now :=
  (ignoresAll_same (x := .now) (s₀ := s) (l := [.od, .control, .nvm, .tile, .video, .sent]) (by decide)).discharge kept_endFrame s rfl

theorem countCeilings_video (s : State) (b : Bank) : (s.countCeilings b).video = s.video :=
  (ignoresAll_same (x := .video) (s₀ := s) (l := [.od, .control, .nvm, .sent]) (by decide)).discharge kept_countCeilings s b rfl

theorem beatOf_video (s : State) (start : Bool) : (s.beatOf start).video = s.video :=
  (ignoresAll_same (x := .video) (s₀ := s) (l := [.od, .beat]) (by decide)).discharge kept_beatOf s start rfl

theorem beatOf_replayUntil (s : State) (start : Bool) : (s.beatOf start).beat.replayUntil = none := by
  unfold State.beatOf
  dsimp only
  split
  · split <;> rfl
  · rw [wrN_beat]
    rfl

/-! ### The deadline of a commit -/

section
variable {s u : State} {p : CommitPending} (ht : s.isTile = true) (hp : s.video.compose.pending = some p)
  (hu : s.untilWall (s.deadline p.frame) = u)
include ht hp hu

theorem commitDeadline_eq (down : Bool) : execCommitDeadline down s =
    if u.feedLost then .next (u.holdCommit p 3 p.full)
    else if u.repeatOnly then .next (u.holdCommit p 4 p.full)
    else if p.fromChain && u.needsFifth p.frame then
      .next ((u.tellFull p).2.holdCommit (u.tellFull p).1 2 true)
    else if p.full then .next (u.holdCommit p 2 true)
    else if down then .next (((u.setPending none).publish 0x2880 0x08 0x09 false).pixelFault 3)
    else .next (u.commitAt p) := by
  unfold execCommitDeadline
  simp only [ht, hp, hu, Bool.not_true, Bool.false_eq_true, if_false]

/-- A commit that cannot be made, because its tile has no feed or only repeats, is held for the next frame. -/
theorem commitDeadline_holds (down : Bool) :
    (u.feedLost = true → execCommitDeadline down s = .next (u.holdCommit p 3 p.full)) ∧
    (u.feedLost = false → u.repeatOnly = true → execCommitDeadline down s = .next (u.holdCommit p 4 p.full)) := by
  rw [commitDeadline_eq ht hp hu]
  exact ⟨fun h => if_pos h, fun h h' => (if_neg (by rw [h]; decide)).trans (if_pos h')⟩

/-- A commit that can be made is made, or meets the fault of the memory of the generations. -/
theorem commitDeadline_commits (hf : u.feedLost = false) (hr : u.repeatOnly = false) (hfull : p.full = false)
    (hfifth : (p.fromChain && u.needsFifth p.frame) = false) (down : Bool) : execCommitDeadline down s =
      if down then .next (((u.setPending none).publish 0x2880 0x08 0x09 false).pixelFault 3) else .next (u.commitAt p) := by
  rw [commitDeadline_eq ht hp hu, hf, hr, hfull, hfifth]
  rfl

end

/-- The commit of a pending generation, at its deadline. -/
theorem commitDeadline_settles {s u : State} {p : CommitPending} (ht : s.isTile = true) (hp : s.video.compose.pending = some p)
    (hu : s.untilWall (s.deadline p.frame) = u) (hv : u.video = s.video) (hf : u.feedLost = false) (hr : u.repeatOnly = false)
    (hfull : p.full = false) (hfifth : (p.fromChain && u.needsFifth p.frame) = false) :
    (∃ t g, execCommitDeadline false s = .next t ∧ t.video.compose.pending = none ∧
      t.video.compose.gens = g :: s.video.compose.gens ∧ g.frame = p.frame) ∧
    ∃ t, execCommitDeadline true s = .next t ∧ t.video.compose.pending = none ∧ t.tile.pixelFault = true ∧
      t.video.compose.gens = s.video.compose.gens := by
  constructor
  · obtain ⟨g, hg, hmade⟩ := commitAt_makes u p
    refine ⟨_, g, commitDeadline_commits ht hp hu hf hr hfull hfifth false, ?_, ?_, hg⟩
    · rw [hmade]
    · rw [hmade, hv]
  · obtain ⟨r, hcompose⟩ := pixelFault_compose ((u.setPending none).publish 0x2880 0x08 0x09 false) 3
    refine ⟨_, commitDeadline_commits ht hp hu hf hr hfull hfifth true, ?_, pixelFault_fault _ _, ?_⟩
    · rw [hcompose, publish_video, setPending_compose]
    · rw [hcompose, publish_video, setPending_compose, hv]

/-- A pending commit held for the next frame. -/
def State.heldFor (u : State) (p : CommitPending) (late : Nat) : State := u.setPending (some { p with
  frame := p.frame + 1, late := if p.late = 0 then late else p.late, full := p.full })

theorem untilWall_feedLost (s : State) (w : Nat) : (s.untilWall w).feedLost = s.feedLost := by
  obtain ⟨now, wall, slew, hu, _⟩ := untilWall_timed s w
  rw [hu]
  rfl

theorem untilWall_repeatOnly (s : State) (w : Nat) : (s.untilWall w).repeatOnly = s.repeatOnly := by
  obtain ⟨now, wall, slew, hu, _⟩ := untilWall_timed s w
  rw [hu]
  rfl

/-- The deadline of a pending commit holds it while no commit can be made, and else settles it. -/
theorem commitDeadline_effects {s u : State} {p : CommitPending} (ht : s.isTile = true) (hp : s.video.compose.pending = some p)
    (hu : s.untilWall (s.deadline p.frame) = u) :
    (s.feedLost = true → execCommitDeadline false s = .next (u.heldFor p 3)) ∧
    (s.feedLost = false → s.repeatOnly = true → execCommitDeadline false s = .next (u.heldFor p 4)) ∧
    (s.feedLost = false → s.repeatOnly = false → p.full = false → (p.fromChain && u.needsFifth p.frame) = false →
     (∃ t g, execCommitDeadline false s = .next t ∧ t.video.compose.pending = none ∧
      t.video.compose.gens = g :: s.video.compose.gens ∧ g.frame = p.frame) ∧
     ∃ t, execCommitDeadline true s = .next t ∧ t.video.compose.pending = none ∧ t.tile.pixelFault = true ∧
      t.video.compose.gens = s.video.compose.gens) := by
  have huv : u.video = s.video := hu ▸ untilWall_video _ _
  have hfed : u.feedLost = s.feedLost := hu ▸ untilWall_feedLost _ _
  have hrep : u.repeatOnly = s.repeatOnly := hu ▸ untilWall_repeatOnly _ _
  obtain ⟨hlost, honly⟩ := commitDeadline_holds ht hp hu false
  refine ⟨fun hf => hlost (hfed.trans hf), fun hf hr => honly (hfed.trans hf) (hrep.trans hr), fun hf hr hfull hfifth => ?_⟩
  exact commitDeadline_settles ht hp hu huv (hfed.trans hf) (hrep.trans hr) hfull hfifth

/-! ### The composition of a slot -/

theorem writeSet_lt (s : State) (k : Fin 4) : s.writeSet k * 4 + k.1 < 8 := by
  have hset : s.writeSet k ≤ 1 := by
    unfold State.writeSet
    split <;> omega
  omega

/-- A bank set is the bank that is read there. -/
theorem bank_set (v : Vector (Option Bank) 8) {i : Nat} (h : i < 8) (b : Option Bank) : ((v.set! i b)[i]?).getD none = b := by
  rw [Vector.set!_eq_setIfInBounds, Vector.getElem?_setIfInBounds_self_of_lt h, Option.getD_some]

/-- The codes of a port before the grey ceiling. -/
def State.rawCodes (s : State) (g : Gen) (d : Damage) (src : SlotSource) (k : Fin 4) : Vector (List Nat) 64 :=
  Vector.ofFn fun p => s.portCodes g d src s.video.compose.frame (s.setFor s.video.compose.frame).s k p

/-- The codes of each port, held below a ceiling of its own. -/
def clampCodes (raw : Vector (List Nat) 64) (top : Fin 64 → Nat) : Vector (List Nat) 64 := Vector.ofFn fun p => raw[p].map (min (top p))

/-- The greatest code of a port: its grey ceiling. -/
def State.codeCeil (s : State) (g : Gen) (p : Fin 64) : Nat := greyCeil (s.otp.shadow[p]).maxGrey (g.grey p)

theorem compose_clamps (s : State) (g : Gen) (d : Damage) (src : SlotSource) (k : Fin 4) :
    (s.compose g d src k).codes = clampCodes (s.rawCodes g d src k) (s.codeCeil g) := rfl

theorem clampCodes_get (raw : Vector (List Nat) 64) (top : Fin 64 → Nat) (p : Fin 64) :
    (clampCodes raw top)[p] = raw[p].map (min (top p)) := Vector.getElem_ofFn _

/-- No code of a composed bank lies above its port's ceiling. -/
theorem compose_codes {s : State} {g : Gen} {d : Damage} {src : SlotSource} {k : Fin 4} {p : Fin 64} {v : Nat}
    (h : v ∈ (s.compose g d src k).codes[p]) : v ≤ s.codeCeil g p := by
  rw [compose_clamps, clampCodes_get] at h
  obtain ⟨x, _, rfl⟩ := List.mem_map.1 h
  exact Nat.min_le_left _ _

theorem composeSlot_composes {s u : State} {k : Fin 4} (d : Damage) (ht : s.isTile = true) (hr : s.repeatOnly = false)
    (hn : s.video.compose.slot = none) (hd : s.video.compose.slotsDone = k.1) (hk : k.1 < (s.setFor s.video.compose.frame).s)
    (hf : s.video.store.filling ≠ none)
    (hu : s.untilWall (s.tFrame (s.video.compose.frame + 1) + (s.rdN 0x2700 0x03 + 30000 * s.video.compose.slotsDone) * subNs) = u) :
    execComposeSlot d s = .next (u.composeInto k d) := by
  unfold execComposeSlot
  dsimp only
  rw [hu, if_neg ?_, dif_pos (hd ▸ k.2)]
  · congr 2
    exact Fin.ext hd
  · rw [ht, hr, hn, hd, Option.isNone_eq_false_iff.2 (Option.ne_none_iff_isSome.1 hf), decide_eq_false (Nat.not_le.2 hk)]
    decide

theorem blendDamage_video (s : State) (g : Gen) (d : Damage) : (s.blendDamage g d).video = s.video :=
  (ignoresAll_same (x := .video) (s₀ := s) (l := [.od, .control, .nvm, .sent]) (by decide)).discharge kept_blendDamage s g d rfl

theorem blendSlot_otp (s : State) (g : Gen) (k : Fin 4) (d : Damage) : (s.blendSlot g k d).2.otp = s.otp :=
  (ignoresAll_same (x := .otp) (s₀ := s) (l := [.od, .control, .nvm, .video, .sent]) (by decide)).discharge kept_blendSlot s g k d rfl

theorem corrDamage_otp (s : State) (d : Damage) : (s.corrDamage d).otp = s.otp :=
  (ignoresAll_same (x := .otp) (s₀ := s) (l := [.od, .control, .nvm, .video, .sent]) (by decide)).discharge kept_corrDamage s d rfl

theorem corrDamage_compose (s : State) (d : Damage) : (s.corrDamage d).video.compose = s.video.compose := by
  unfold State.corrDamage
  extract_lets v row w
  refine (foldl_proj (f := fun (s : State) w => s.raise 0x5304 (noLayer (row w))) (fun t => t.video.compose)
    (fun t a => congrArg Video.compose (raise_video t _ _)) _ w).trans ?_
  refine (withColour_compose v _).trans (congrArg Video.compose ?_)
  exact (bump_video _ _ _ _).trans (bump_video _ _ _ _)

/-- Blending a slot changes nothing of the composition but the errors that shaped the slots. -/
theorem blendSlot_compose (s : State) (g : Gen) (k : Fin 4) (d : Damage) :
    ∃ b, (s.blendSlot g k d).2.video.compose = { s.video.compose with blended := b } := by
  unfold State.blendSlot
  dsimp only
  split
  · exact ⟨_, rfl⟩
  · refine ⟨vset (s.blendDamage g d).video.compose.blended k (some d), ?_⟩
    rw [withCompose_compose, blendDamage_video]

/-- A slot with a source writes its bank. -/
theorem composeInto_writes {s : State} {k : Fin 4} {d : Damage} {src : SlotSource} (hd : d.generations = false)
    (hs : s.slotSource k = some src) : ∃ b, (s.composeInto k d).video.compose.slot = some k.1 ∧
      ((s.composeInto k d).video.compose.bank[s.writeSet k * 4 + k.1]?).getD none = some b ∧ b.writing = true ∧
      b.frame = s.video.compose.frame ∧ ∀ p : Fin 64, ∀ v ∈ b.codes[p], v ≤ greyCeil (s.otp.shadow[p]).maxGrey (s.composeGen.grey p) := by
  unfold State.composeInto
  rw [if_neg (by rw [hd]; decide), hs]
  dsimp only
  obtain ⟨used, v, hv, hvo, bl, hvc⟩ : ∃ used v, (if src = .layers then s.blendSlot s.composeGen k d else (d, s)) = (used, v) ∧ v.otp = s.otp ∧
      ∃ b, v.video.compose = { s.video.compose with blended := b } := by
    by_cases hl : src = .layers
    · exact ⟨_, _, if_pos hl, blendSlot_otp s _ k d, blendSlot_compose s _ k d⟩
    · exact ⟨_, _, if_neg hl, rfl, _, rfl⟩
  rw [hv]
  dsimp only
  obtain ⟨w, hw, hwo, hwc⟩ : ∃ w, (if src = .dark then (v.corrDamage d).raise 0x8401 0xFF else v.corrDamage d) = w ∧ w.otp = s.otp ∧
      w.video.compose = { s.video.compose with blended := bl } := by
    refine ⟨_, rfl, ite_proj State.otp _ ?_ ?_, ite_proj (fun t : State => t.video.compose) _ ?_ ?_⟩
    · rw [raise_otp, corrDamage_otp, hvo]
    · rw [corrDamage_otp, hvo]
    · show (State.video _).compose = _
      rw [raise_video, corrDamage_compose, hvc]
    · show (State.video _).compose = _
      rw [corrDamage_compose, hvc]
  rw [hw]
  have hset : w.writeSet k = s.writeSet k := by
    unfold State.writeSet
    rw [hwc]
  refine ⟨w.compose s.composeGen used src k, rfl, ?_, rfl, ?_, fun p c hc => ?_⟩
  · rw [withCompose_compose]
    show ((Vector.set! _ _ _)[_]?).getD none = _
    rw [hset]
    exact bank_set _ (writeSet_lt s k) _
  · exact (congrArg Compose.frame hwc :)
  · have hcode := compose_codes hc
    unfold State.codeCeil at hcode
    rwa [hwo] at hcode

/-- A slot whose memory of the generations reads uncorrectable is not composed: the pixel path is at fault. -/
theorem composeInto_faults {s : State} {k : Fin 4} {d : Damage} (hd : d.generations = true) :
    (s.composeInto k d).tile.pixelFault = true ∧ (s.composeInto k d).video.compose.slot = s.video.compose.slot := by
  unfold State.composeInto
  rw [if_pos hd]
  obtain ⟨r, hr⟩ := pixelFault_compose s 2
  exact ⟨pixelFault_fault s 2, by rw [hr]⟩

/-- A slot without a source is done at once. -/
theorem composeInto_skips {s : State} {k : Fin 4} {d : Damage} (hd : d.generations = false) (hs : s.slotSource k = none) :
    s.composeInto k d = s.withCompose fun c => { c with slotsDone := c.slotsDone + 1 } := by
  unfold State.composeInto
  rw [if_neg (by rw [hd]; decide), hs]

/-- The state after the bank of a slot is complete, before what it tells is counted. -/
def State.slotComplete (s : State) (k : Fin 4) (b : Bank) : State :=
  s.withCompose fun c => { c with
    slot := none, slotsDone := c.slotsDone + 1, bank := c.bank.set! (s.writeSet k * 4 + k.1) (some { b with writing := false })
    last := c.last.set! k (some (s.writeSet k)) }

theorem last_set (v : Vector (Option Nat) 4) (k : Fin 4) (x : Option Nat) : (v.set! k.1 x)[k] = x := by
  show (v.set! k.1 x)[k.1] = x
  rw [Vector.set!_eq_setIfInBounds, Vector.getElem_setIfInBounds_self]

/-- A slot that completes has a readable bank, its last; the heartbeat is given. -/
theorem composeComplete_completes {s : State} {k : Fin 4} {b : Bank} (hs : s.video.compose.slot = some k.1)
    (hb : (s.video.compose.bank[s.writeSet k * 4 + k.1]?).getD none = some b) :
    ∃ t n r, execComposeComplete s = .next t ∧ t.beat.replayUntil = none ∧
      t.video.compose = { (s.slotComplete k b).video.compose with overrunRun := n, firstReady := r } := by
  unfold execComposeComplete
  simp only [hs, k.2, dif_pos, hb]
  generalize hduty : State.withColour _ _ = v
  have hv : v.video.compose = (s.slotComplete k b).video.compose := by
    rw [← hduty]
    rfl
  obtain ⟨n, r, hn⟩ := endFrame_compose ((v.countCeilings b).beatOf b.start)
  refine ⟨_, n, r, rfl, ?_, ?_⟩
  · rw [endFrame_beat, beatOf_replayUntil]
  · rw [hn, beatOf_video, countCeilings_video, hv]

/-- A slot that overruns keeps the last complete bank. -/
theorem composeOverrun_keeps {s : State} {k : Fin 4} (hs : s.video.compose.slot = some k.1) :
    ∃ t n r, execComposeOverrun s = .next t ∧ t.now = s.now + 30000 ∧
      t.video.compose = { s.video.compose with
        slot := none, slotsDone := s.video.compose.slotsDone + 1, overran := true,
        bank := s.video.compose.bank.set! (s.writeSet k * 4 + k.1) none,
        lastOver := s.video.compose.lastOver.set! k (some s.video.compose.frame), overrunRun := n, firstReady := r } := by
  unfold execComposeOverrun
  simp only [hs, k.2, dif_pos]
  obtain ⟨u, hu⟩ : ∃ u, s.pass 30000 = u := ⟨_, rfl⟩
  have hnow : u.now = s.now + 30000 := hu ▸ pass_now s 30000
  have hvideo : u.video = s.video := hu ▸ pass_video s 30000
  rw [hu]
  generalize hover : State.withCompose _ _ = v
  have hv : v.now = u.now ∧ v.video.compose = { s.video.compose with
        slot := none, slotsDone := s.video.compose.slotsDone + 1, overran := true,
        bank := s.video.compose.bank.set! (s.writeSet k * 4 + k.1) none,
        lastOver := s.video.compose.lastOver.set! k (some s.video.compose.frame) } := by
    rw [← hover, withCompose_compose, hvideo]
    exact ⟨rfl, rfl⟩
  obtain ⟨n, r, hn⟩ := endFrame_compose ((v.bump 0x2880 0x10 1).raise 0x5108 (noLayer k))
  refine ⟨_, n, r, rfl, ?_, ?_⟩
  · rw [endFrame_now, raise_now, bump_now, hv.1, hnow]
  · rw [hn, raise_video, bump_video, hv.2]

/-- Settles O55: what a fill that closes, the deadline of a commit, and the composition of a slot leave. -/
theorem fillsCommitsAndComposition : Obligations.FillsCommitsAndComposition := by
  unfold Obligations.FillsCommitsAndComposition
  refine ⟨fun s ht => ⟨fun f hf => fillClose_composes ht hf, fun p hp => ?_⟩, fun s k ht => ⟨?_, ?_, ?_, ?_⟩⟩
  · exact commitDeadline_effects ht hp rfl
  · intro d src hd hr hn hdone hk hf hsrc
    obtain ⟨now, wall, slew, hu, _⟩ := untilWall_timed s
      (s.tFrame (s.video.compose.frame + 1) + (s.rdN 0x2700 0x03 + 30000 * s.video.compose.slotsDone) * subNs)
    have hsrc' : (s.timed now wall slew).slotSource k = some src := hsrc
    obtain ⟨b, hslot, hbank, hwriting, hframe, hcodes⟩ := composeInto_writes hd hsrc'
    exact ⟨_, b, composeSlot_composes d ht hr hn hdone hk hf hu, hslot, hbank, hwriting, hframe, hcodes⟩
  · intro d hr hn hdone hk hf
    obtain ⟨now, wall, slew, hu, _⟩ := untilWall_timed s
      (s.tFrame (s.video.compose.frame + 1) + (s.rdN 0x2700 0x03 + 30000 * s.video.compose.slotsDone) * subNs)
    have hexec := composeSlot_composes d ht hr hn hdone hk hf hu
    refine ⟨fun hd => ?_, fun hd hsrc => ?_⟩
    · obtain ⟨hfault, hslot⟩ := composeInto_faults (s := s.timed now wall slew) (k := k) hd
      exact ⟨_, hexec, hfault, hslot.trans hn⟩
    · have hsrc' : (s.timed now wall slew).slotSource k = none := hsrc
      rw [composeInto_skips hd hsrc'] at hexec
      refine ⟨_, hexec, ?_⟩
      rw [← hdone]
      rfl
  · intro b hs hb
    obtain ⟨t, n, r, hexec, hbeat, hcompose⟩ := composeComplete_completes hs hb
    refine ⟨t, hexec, ?_, ?_, ?_, ?_, hbeat⟩ <;> rw [hcompose]
    · rfl
    · rfl
    · exact last_set _ k _
    · exact bank_set _ (writeSet_lt s k) _
  · intro hs
    obtain ⟨t, n, r, hexec, hnow, hcompose⟩ := composeOverrun_keeps hs
    refine ⟨t, hexec, ?_, ?_, ?_, ?_, hnow⟩ <;> rw [hcompose]
    exact last_set _ k _

end Sys2Proof.Machine
end

section
/-! SUPPORT. The end of a lane's training has the rate judged (R92): with too few lanes trained every lane of the link idles, the one
that has just ended its training too, which O11 does not allow for. -/

namespace Sys2Proof.Machine
open Host

/-- A running tile whose link 0 needs two lanes: lane 0 ends its training with the next frame, lane 1 has failed its own at this rate. -/
def lastToTrain : State :=
  { State.reset with
    life := .running
    role := .tile
    lanes := { Lanes.reset with
      lane := vset (vset Lanes.reset.lane 0 { Lane.reset with stage := .training, tx := .training, readyIn := 7, readyOut := 7 }) 1
        { Lane.reset with stage := .failed, hold := .retry }
      link := vset Lanes.reset.link 0 { Link.reset with phase := .bringing, minLanes := 2, rateFloor := 1 } } }

/-- What a command leaves a lane's transmitter sending. -/
def laneTx (l : Fin 24) (o : Out1) : Option TxMode :=
  match o with
  | .next t => some t.lanes.lane[l].tx
  | _ => none

/-- The status word of a partner that is ready. -/
def partnerReady : BitVec 16 := 0x8000

theorem lastToTrain_idles : laneTx 0
    (exec (.trainingFrameReceive 0 0 0 0 partnerReady partnerReady partnerReady false true 0) lastToTrain) = some .electricalIdle := by
  decide +kernel

theorem lastToTrain_trains : lastToTrain.lanes.lane[(0 : Fin 24)].stage = .training ∧ lastToTrain.rdB 0x2110 0x05 = false ∧
    lastToTrain.lanes.lane[(0 : Fin 24)].request = none ∧ 7 ≤ lastToTrain.lanes.lane[(0 : Fin 24)].readyIn ∧
    7 ≤ lastToTrain.lanes.lane[(0 : Fin 24)].readyOut ∧ lastToTrain.portTest (portOf 0) = false := by
  decide +kernel

/-- Refutes O11: the last lane of a link to end its training does not send codewords where the others have failed theirs and fewer
lanes than MIN_LANES have trained: the rate is stepped down, and the lane goes to electrical idle. -/
theorem not_laneBringUp : ¬ Obligations.LaneBringUp := by
  unfold Obligations.LaneBringUp
  intro h
  obtain ⟨-, -, htraining, -⟩ := h lastToTrain 0
  obtain ⟨hstage, hswap, hrequest, hin, hout, htest⟩ := lastToTrain_trains
  obtain ⟨-, hends⟩ := htraining hstage hswap 0 partnerReady 0 true
  obtain ⟨t, hexec, htx, -⟩ := hends (by decide) (by decide) hrequest hin hout htest
  have hidle : laneTx 0 (.next t) = some .electricalIdle := hexec ▸ lastToTrain_idles
  have hcodewords : laneTx 0 (.next t) = some .codewords := congrArg some htx
  rw [hidle] at hcodewords
  exact absurd hcodewords (by decide)

end Sys2Proof.Machine
end

section
/-! SUPPORT. Markers, set changes and the failure of a lane (R82, R84, R97 to R99, Table 3.3). -/

namespace Sys2Proof.Machine
open Host

/-! ### One lane, one link -/

theorem withLane_lane (s : State) (l : Fin 24) (f : Lane → Lane) : (s.withLane l f).lanes.lane[l] = f s.lanes.lane[l] := vset_same _ _ _

theorem withLink_link (s : State) (k : Fin 4) (f : Link → Link) : (s.withLink k f).lanes.link[k] = f s.lanes.link[k] := vset_same _ _ _

theorem withLane_lane_ne (s : State) {l m : Fin 24} (f : Lane → Lane) (h : m ≠ l) : (s.withLane m f).lanes.lane[l] = s.lanes.lane[l] :=
  Vector.getElem_set_ne m.2 _ fun k => h (Fin.ext k)

theorem withLink_link_ne (s : State) {k m : Fin 4} (f : Link → Link) (h : m ≠ k) : (s.withLink m f).lanes.link[k] = s.lanes.link[k] :=
  Vector.getElem_set_ne m.2 _ fun e => h (Fin.ext e)

theorem withLane_link (s : State) (l : Fin 24) (f : Lane → Lane) : (s.withLane l f).lanes.link = s.lanes.link := rfl

theorem withLink_lane (s : State) (k : Fin 4) (f : Link → Link) : (s.withLink k f).lanes.lane = s.lanes.lane := rfl

theorem withLane_proj {β : Type} (g : Lane → β) (s : State) (m l : Fin 24) {f : Lane → Lane} (h : ∀ x, g (f x) = g x) :
    g (s.withLane m f).lanes.lane[l] = g s.lanes.lane[l] := by
  by_cases hm : m = l
  · subst hm
    rw [withLane_lane, h]
  · rw [withLane_lane_ne s f hm]

theorem withLink_proj {β : Type} (g : Link → β) (s : State) (m k : Fin 4) {f : Link → Link} (h : ∀ y, g (f y) = g y) :
    g (s.withLink m f).lanes.link[k] = g s.lanes.link[k] := by
  by_cases hm : m = k
  · subst hm
    rw [withLink_link, h]
  · rw [withLink_link_ne s f hm]

theorem publishPrbs_lanes (s : State) (l : Fin 24) (ok : Bool) : (s.publishPrbs l ok).lanes = s.lanes :=
  (ignoresAll_same (x := .lanes) (s₀ := s) (l := [.od]) (by decide)).discharge kept_publishPrbs s l ok rfl

theorem addCounts_lanes (s : State) (l : Fin 24) (c : CwCounts) : (s.addCounts l c).lanes = s.lanes :=
  (ignoresAll_same (x := .lanes) (s₀ := s) (l := [.od]) (by decide)).discharge kept_addCounts s l c rfl

/-! ### What an event leaves of the object store -/

section
variable {idx sub : Nat} (s : State)

theorem wrN_rd_ne {idx' sub' : Nat} (v : Nat) (h : key idx sub ≠ key idx' sub') : (s.wrN idx' sub' v).rd idx sub = s.rd idx sub :=
  Sparse.get_set_ne _ _ _ _ _ h

theorem bump_rd_ne {idx' sub' : Nat} (n : Nat) (h : key idx sub ≠ key idx' sub') : (s.bump idx' sub' n).rd idx sub = s.rd idx sub :=
  wrN_rd_ne s _ h

/-- An object that no event writes: neither the last event, nor the error register, nor the counts of records lost. -/
def eventFree (idx sub : Nat) : Prop := sub < 256 ∧ idx ≠ 0x2001 ∧ idx ≠ 0x1001 ∧ idx ≠ 0x3000

theorem sendEmcy_rd (m : List Byte) : (s.sendEmcy m).rd idx sub = s.rd idx sub := by
  have hod : (s.sendEmcy m).od = s.od :=
    (ignoresAll_same (x := .od) (s₀ := s) (l := [.control, .sent]) (by decide)).discharge kept_sendEmcy s m rfl
  have hrole : (s.sendEmcy m).role = s.role :=
    (ignoresAll_same (x := .role) (s₀ := s) (l := [.control, .sent]) (by decide)).discharge kept_sendEmcy s m rfl
  unfold State.rd
  rw [hod, hrole]

variable (h : eventFree idx sub)
include h

theorem eventFree_key {idx' sub' : Nat} (hi : idx' = 0x2001 ∨ idx' = 0x1001 ∨ idx' = 0x3000) (hs : sub' < 256) : key idx sub ≠ key idx' sub' := by
  obtain ⟨hsub, h1, h2, h3⟩ := h
  unfold key
  omega

theorem note_rd (code d : Nat) : (s.note code d).rd idx sub = s.rd idx sub := by
  have hlast : ∀ (t : State) sub' v, sub' < 256 → (t.wrN 0x2001 sub' v).rd idx sub = t.rd idx sub := fun t sub' v hs =>
    wrN_rd_ne t v (eventFree_key h (.inl rfl) hs)
  unfold State.note
  extract_lets round outranked
  generalize (if s.quartz.lockedOnce = true then (s.wallSec, s.wallNs)
    else ((s.now - s.clocks.coldAt) / second, (s.now - s.clocks.coldAt) % second)) = w
  obtain ⟨sec, ns⟩ := w
  dsimp -zeta only
  extract_lets named v u times c x reg y z
  have hv : v.rd idx sub = s.rd idx sub := by
    refine ite_proj (fun t : State => t.rd idx sub) _ rfl ?_
    show named.rd idx sub = _
    rw [hlast _ _ _ (by decide), hlast _ _ _ (by decide), hlast _ _ _ (by decide), hlast _ _ _ (by decide)]
  have hz : z.rd idx sub = s.rd idx sub := by
    refine (sendEmcy_rd y _).trans ?_
    refine (wrN_rd_ne x _ (eventFree_key h (.inr (.inl rfl)) (by decide))).trans ?_
    refine Eq.trans ?_ hv
    exact bump_rd_ne v 1 (eventFree_key h (.inl rfl) (by decide))
  exact ite_proj (fun t : State => t.rd idx sub) _ hz hz


theorem loseRecord_rd : s.loseRecord.rd idx sub = s.rd idx sub :=
  (note_rd _ h _ _).trans (bump_rd_ne s 1 (eventFree_key h (.inr (.inr rfl)) (by decide)))

theorem stage_rd (r : Flint) : (s.stage r).rd idx sub = s.rd idx sub := by
  unfold State.stage
  split
  · rfl
  · split
    · split
      · exact loseRecord_rd _ h
      · exact loseRecord_rd _ h
    · exact loseRecord_rd _ h

omit h in
theorem withBb_rd (f : BlackBox → BlackBox) : (s.withBb f).rd idx sub = s.rd idx sub := rfl

omit h in
theorem setLimiter_rd (l : Limiter) : (s.setLimiter l).rd idx sub = s.rd idx sub := rfl

theorem record_rd (code d : Nat) (data : List Byte) : (s.record code d data).rd idx sub = s.rd idx sub := by
  have hcount : ∀ t : State, (t.bump 0x3000 0x18 1).rd idx sub = t.rd idx sub := fun t =>
    bump_rd_ne t 1 (eventFree_key h (.inr (.inr rfl)) (by decide))
  unfold State.record
  dsimp only
  split
  · split
    · rw [note_rd _ h, setLimiter_rd, withBb_rd, hcount, withBb_rd]
    · rw [setLimiter_rd, withBb_rd, hcount, withBb_rd]
  · rw [stage_rd _ h, withBb_rd, withBb_rd]

theorem raiseWith_rd (code d : Nat) (data : List Byte) : (s.raiseWith code d data).rd idx sub = s.rd idx sub := by
  unfold State.raiseWith
  dsimp only
  split
  · exact note_rd s h code d
  · exact (record_rd _ h _ _ _).trans (note_rd s h code d)

theorem raise_rd (code d : Nat) : (s.raise code d).rd idx sub = s.rd idx sub := raiseWith_rd s h code d []

end

/-- The lanes of a link depend on the role and on port C's configuration only. -/
theorem linkOf_congr {s t : State} (hrole : t.role = s.role) (hport : t.rd 0x2102 0x01 = s.rd 0x2102 0x01) (l : Fin 24) :
    t.linkOf l = s.linkOf l := by
  have hc : t.portC = s.portC := by
    unfold State.portC State.rdN State.rdI
    rw [hport]
  unfold State.linkOf
  rw [hrole, hc]

theorem portC_eventFree : eventFree 0x2102 0x01 := by
  unfold eventFree
  decide

/-- No object of a lane holds the configuration of port C. -/
theorem laneKey_ne (l : Fin 24) {sub : Nat} (h : sub < 256) : key 0x2102 0x01 ≠ key (0x2110 + l) sub := by
  unfold key
  omega

theorem laneBit_self (l : Fin 24) : (laneBit (laneIdx l)).getLsbD (laneIdx l) = true := by
  revert l
  decide

/-! ### A lane that fails -/

section
variable (s : State) (l : Fin 24) (k : Fin 4)

/-- What the failure of a lane is judged by: the lane's stage and the faults that its link tells. -/
def State.faultView : LaneStage × BitVec 8 := (s.lanes.lane[l].stage, s.lanes.link[k].rxFault)

variable {s} in
theorem faultView_of_lanes {t : State} (h : t.lanes = s.lanes) : t.faultView l k = s.faultView l k := by
  unfold State.faultView
  rw [h]

theorem withLane_faultView (m : Fin 24) {f : Lane → Lane} (h : ∀ x, (f x).stage = x.stage) :
    (s.withLane m f).faultView l k = s.faultView l k :=
  Prod.ext (withLane_proj Lane.stage s m l h) rfl

theorem withLink_faultView (m : Fin 4) {f : Link → Link} (h : ∀ y, (f y).rxFault = y.rxFault) :
    (s.withLink m f).faultView l k = s.faultView l k :=
  Prod.ext rfl (withLink_proj Link.rxFault s m k h)

theorem withTest_faultView (m : Fin 4) (x : Option LiveTest) : (s.withLink m fun y => { y with test := x }).faultView l k = s.faultView l k :=
  withLink_faultView s l k m fun _ => rfl

theorem returnLane_faultView (m : Fin 24) : (s.returnLane m).faultView l k = s.faultView l k :=
  withLane_faultView s l k m fun _ => rfl

theorem failTest_faultView (m : Fin 4) : (s.failTest m).faultView l k = s.faultView l k := by
  unfold State.failTest
  split
  · rfl
  · split
    · exact withLink_faultView s l k m fun _ => rfl
    · split
      · rfl
      · refine (withTest_faultView _ l k m _).trans ?_
        refine ite_proj (fun t : State => t.faultView l k) _ ?_ ?_
        · exact (returnLane_faultView _ l k _).trans (faultView_of_lanes l k (publishPrbs_lanes s _ _))
        · exact faultView_of_lanes l k (publishPrbs_lanes s _ _)

theorem failPortTests_faultView (m : Fin 4) : (s.failPortTests m).faultView l k = s.faultView l k :=
  foldl_proj (fun t => t.faultView l k) (fun t m => failTest_faultView t l k m) _ s

theorem endTest_faultView (m : Fin 4) (o : Fin 24) : (s.endTest m o).faultView l k = s.faultView l k := by
  unfold State.endTest
  split
  · rfl
  · split
    · rfl
    · refine (withTest_faultView _ l k m _).trans ?_
      exact ite_proj (fun t : State => t.faultView l k) _ rfl (faultView_of_lanes l k (publishPrbs_lanes s _ _))

theorem faultChange_faultView (m : Fin 4) (o : Fin 24) : (s.faultChange m o).faultView l k = s.faultView l k := by
  unfold State.faultChange
  dsimp only
  split
  · rfl
  · rw [failPortTests_faultView]
    split
    · exact (faultView_of_lanes l k (raise_lanes _ _ _)).trans (withLink_faultView s l k m fun _ => rfl)
    · exact withLink_faultView s l k m fun _ => rfl

/-- A lane in service that fails is told to the partner. -/
theorem failLane_fails (cause : Nat) (hk : s.linkOf l = some k) (hs : s.lanes.lane[l].stage = .active ∨ s.lanes.lane[l].stage = .spare) :
    (s.failLane l cause).lanes.lane[l].stage = .failed ∧ (s.failLane l cause).lanes.link[k].rxFault.getLsbD (laneIdx l) = true := by
  have hserves : (!(s.lanes.lane[l].stage == .active || s.lanes.lane[l].stage == .spare || s.lanes.lane[l].stage == .withdrawn ||
      s.lanes.lane[l].stage == .capability)) = false := by
    obtain h | h := hs <;> rw [h] <;> rfl
  have hbit : ∀ v : BitVec 8, (v ||| laneBit (laneIdx l)).getLsbD (laneIdx l) = true := fun v => by
    rw [BitVec.getLsbD_or, Bool.or_eq_true]
    exact .inr (laneBit_self l)
  unfold State.failLane
  dsimp only
  rw [if_neg (by rw [hserves]; decide)]
  generalize hv : State.parkLane _ l .idle = v
  have hlink : v.linkOf l = some k := by
    rw [← hv, ← hk]
    refine linkOf_congr ?_ ?_ l
    · show (State.raise _ _ _).role = _
      rw [raise_role, wrN_role, bump_role]
    · show (State.raise _ _ _).rd _ _ = _
      rw [raise_rd _ portC_eventFree, wrN_rd_ne _ _ (laneKey_ne l (by decide)), bump_rd_ne _ _ (laneKey_ne l (by decide))]
  have hpark : v.lanes.lane[l].stage = .failed := by
    rw [← hv]
    exact congrArg Lane.stage (withLane_lane _ l _)
  rw [hlink]
  dsimp only
  have hview : (((v.withLink k fun y => { y with rxFault := y.rxFault ||| laneBit (laneIdx l) }).endTest k l).faultChange k l).faultView l k =
      (LaneStage.failed, v.lanes.link[k].rxFault ||| laneBit (laneIdx l)) := by
    rw [faultChange_faultView, endTest_faultView]
    refine Prod.ext hpark ?_
    exact congrArg Link.rxFault (withLink_link v k _)
  refine ⟨congrArg Prod.fst hview, ?_⟩
  show (State.faultView _ l k).2.getLsbD (laneIdx l) = true
  rw [hview]
  exact hbit _

end

/-! ### Markers -/

section
variable {s : State} {l : Fin 24} {k : Fin 4}

theorem captureArrival_lane (s : State) (k : Fin 4) (l : Fin 24) (n : Nat) : (s.captureArrival k l n).lanes.lane = s.lanes.lane := by
  unfold State.captureArrival
  exact ite_proj (fun t : State => t.lanes.lane) _ rfl rfl

theorem markerReceive_missing (hk : s.linkOf l = some k) (hp : s.lanes.lane[l].stage.pastTraining = true) (skew : BitVec 32) :
    execAlignmentMarkerReceive l none skew s = .next (s.withLane l fun x => { x with goodMarkers := 0, badRun := x.badRun + 1 }) := by
  unfold execAlignmentMarkerReceive
  simp only [hk, hp, Bool.not_true, Bool.false_eq_true, if_false]

theorem markerReceive_damaged {m : BitVec 1360} (hk : s.linkOf l = some k) (hp : s.lanes.lane[l].stage.pastTraining = true) (hm : markerOk m = false)
    (skew : BitVec 32) : execAlignmentMarkerReceive l (some m) skew s =
      .next ((s.bump (0x2110 + l) 0x15 1).withLane l fun x => { x with goodMarkers := 0, badRun := x.badRun + 1 }) := by
  unfold execAlignmentMarkerReceive
  simp only [hk, hp, hm, Bool.not_true, Bool.not_false, Bool.false_eq_true, if_false, if_true]

/-- A good marker on a lane that looks for bit lock: the second in a row gives it. -/
theorem goodMarker_bitLock (m : BitVec 1360) (skew : Nat) (hs : s.lanes.lane[l].stage = .bitLock) :
    (s.goodMarker k l m skew).lanes.lane[l].badRun = 0 ∧
    (s.goodMarker k l m skew).lanes.lane[l].stage = if 1 ≤ s.lanes.lane[l].goodMarkers then .alignLock else .bitLock := by
  unfold State.goodMarker
  dsimp only
  generalize hv : State.captureArrival _ k l _ = v
  have hlane : v.lanes.lane[l] = { s.lanes.lane[l] with goodMarkers := s.lanes.lane[l].goodMarkers + 1, badRun := 0, skew := skew } := by
    rw [← hv, captureArrival_lane, withLane_lane, wrN_lanes]
  have hstage : v.lanes.lane[l].stage = .bitLock := by rw [hlane]; exact hs
  have hgood : v.lanes.lane[l].goodMarkers = s.lanes.lane[l].goodMarkers + 1 := by rw [hlane]
  have hbad : v.lanes.lane[l].badRun = 0 := by rw [hlane]
  rw [hstage, hgood]
  dsimp only
  by_cases hg : 1 ≤ s.lanes.lane[l].goodMarkers
  · rw [if_pos (by omega), if_pos hg, withLane_lane]
    exact ⟨hbad, rfl⟩
  · rw [if_neg (by omega), if_neg hg]
    exact ⟨hbad, hstage⟩

theorem markerReceive_bitLock {m : BitVec 1360} (hk : s.linkOf l = some k) (hs : s.lanes.lane[l].stage = .bitLock) (hm : markerOk m = true)
    (skew : BitVec 32) : ∃ t, execAlignmentMarkerReceive l (some m) skew s = .next t ∧ t.lanes.lane[l].badRun = 0 ∧
      t.lanes.lane[l].stage = if 1 ≤ s.lanes.lane[l].goodMarkers then .alignLock else .bitLock := by
  obtain ⟨hbad, hstage⟩ := goodMarker_bitLock (k := k) (l := l) m skew.toNat hs
  refine ⟨_, ?_, hbad, hstage⟩
  unfold execAlignmentMarkerReceive
  simp only [hk, hs, hm, LaneStage.pastTraining, Bool.not_true, Bool.false_eq_true, if_false]
  refine if_neg fun h => ?_
  rw [hstage] at h
  revert h
  split <;> simp

end

/-! ### Markers that leave, and the sets that they change -/

section
variable (s : State) (k : Fin 4)

/-- A link without the turn of its next block. -/
def Link.still (y : Link) : Link := { y with turn := 0 }

theorem withLink_still (m : Fin 4) {f : Link → Link} (h : ∀ y, (f y).still = y.still) :
    (s.withLink m f).lanes.link[k].still = s.lanes.link[k].still := withLink_proj Link.still s m k h

theorem pushBlock_link (m : Fin 4) (l : Fin 24) (b : BitVec 256) : (s.pushBlock m l b).lanes.link = s.lanes.link := by
  unfold State.pushBlock
  exact ite_proj (fun t : State => t.lanes.link) _ rfl rfl

theorem fillOthers_link (m : Fin 4) : (s.fillOthers m).lanes.link = s.lanes.link := by
  unfold State.fillOthers
  refine foldl_proj (fun t => t.lanes.link) (fun t l => ?_) _ s
  split
  · exact pushBlock_link t m l _
  · exact pushBlock_link t m l _
  · rfl

theorem linkBlock_still (m : Fin 4) (b : BitVec 256) : (s.linkBlock m b).lanes.link[k].still = s.lanes.link[k].still := by
  unfold State.linkBlock
  dsimp only
  split
  · rfl
  · next l _ =>
    have hpush : (if s.lanes.lane[l].tx = .codewords then s.pushBlock m l b else s).lanes.link = s.lanes.link :=
      ite_proj (fun t : State => t.lanes.link) _ (pushBlock_link s m l b) rfl
    generalize (if s.lanes.lane[l].tx = .codewords then s.pushBlock m l b else s) = v at hpush ⊢
    refine Eq.trans ?_ (congrArg (fun y : Vector Link 4 => y[k].still) hpush)
    have hturn : ∀ n, (v.withLink m fun x => { x with turn := n }).lanes.link[k].still = v.lanes.link[k].still := fun n =>
      withLink_still v k m fun _ => rfl
    refine ite_proj (fun t : State => t.lanes.link[k].still) _ (hturn _) ?_
    exact (congrArg (fun y : Vector Link 4 => y[k].still) (fillOthers_link _ m)).trans (hturn 0)

/-- Filling an interval moves no more of a link than its turn. -/
theorem fillInterval_still (m : Fin 4) (idle : List (BitVec 256)) :
    (s.fillInterval m idle).lanes.link[k].still = s.lanes.link[k].still := by
  unfold State.fillInterval
  dsimp only
  refine ite_proj (fun t : State => t.lanes.link[k].still) _ rfl ?_
  exact foldl_proj (fun t => t.lanes.link[k].still) (fun t b => linkBlock_still t k m b) _ s

/-- The state after the markers of a link have been sent, before what they announce applies. -/
def State.markersSent (s : State) (k : Fin 4) : State :=
  let ls := (s.lanesOf k).filter fun l => s.lanes.lane[l].tx == .codewords || s.lanes.lane[l].tx == .capBlocks
  let s := s.fillInterval k (blocksOfBytes 8 idleCell.wire)
  let s := s.emits (ls.map fun l => Out.marker l (s.markerOf k l))
  let s := ls.foldl (fun s l => s.withLane l fun y => { y with fill := [], scrambler := scramblerSeed (laneIdx l) }) s
  s.withLink k fun y => y.marked s.quartz.wall

theorem markersSent_link : ∃ (y : Link) (w : Nat), (s.markersSent k).lanes.link[k] = y.marked w ∧ y.still = s.lanes.link[k].still := by
  unfold State.markersSent
  extract_lets ls a b c
  refine ⟨c.lanes.link[k], c.quartz.wall, withLink_link c k _, ?_⟩
  have hc : c.lanes.link = b.lanes.link := foldl_proj (fun t => t.lanes.link) (fun t l => withLane_link t l _) ls b
  exact (congrArg (fun y : Vector Link 4 => y[k].still) hc).trans (fillInterval_still s k k _)

/-- The members of a link's set. -/
def Link.sets (y : Link) : BitVec 8 × Nat := (y.txSet, y.minLanes)

variable {s k} in
theorem sets_of_lanes {t : State} (h : t.lanes = s.lanes) : t.lanes.link[k].sets = s.lanes.link[k].sets := by rw [h]

theorem cutRun_sets (l : Fin 24) : (s.cutRun l).lanes.link[k].sets = s.lanes.link[k].sets := by
  unfold State.cutRun
  refine ite_proj (fun t : State => t.lanes.link[k].sets) _ ?_ rfl
  show (s.publishPrbs l false).lanes.link[k].sets = _
  exact sets_of_lanes (publishPrbs_lanes s l false)

theorem takeSet_sets (next : BitVec 8) (i : Option Nat) (l : Fin 24) : (s.takeSet next i l).lanes.link[k].sets = s.lanes.link[k].sets := by
  unfold State.takeSet
  dsimp only
  split
  · exact ite_proj (fun t : State => t.lanes.link[k].sets) _ rfl rfl
  · split
    · rfl
    · split
      · exact cutRun_sets s k l
      · rfl

theorem withTest_sets (m : Fin 4) (x : Option LiveTest) : (s.withLink m fun y => { y with test := x }).lanes.link[k].sets = s.lanes.link[k].sets :=
  withLink_proj Link.sets s m k fun _ => rfl

theorem switchTest_sets (m : Fin 4) : (s.switchTest m).lanes.link[k].sets = s.lanes.link[k].sets := by
  unfold State.switchTest
  dsimp only
  split
  · rfl
  · split
    · exact withTest_sets s k m _
    · split
      · split
        · rfl
        · refine (withTest_sets _ k m _).trans ?_
          exact ite_proj (fun t : State => t.lanes.link[k].sets) _ rfl (sets_of_lanes (publishPrbs_lanes s _ true))
      · split
        · rfl
        · exact withTest_sets _ k m _

theorem portComesUp_txSet (m : Fin 4) : (s.portComesUp m).lanes.link[k].txSet = s.lanes.link[k].txSet := by
  have hup : ∀ d, (s.withLink m fun x => { x with phase := .up, wasUp := true, recovering := false, deskew := d }).lanes.link[k].txSet =
      s.lanes.link[k].txSet := fun d => withLink_proj Link.txSet s m k fun _ => rfl
  unfold State.portComesUp
  dsimp only
  split
  · rfl
  · split
    · refine ite_proj (fun t : State => t.lanes.link[k].txSet) _ (hup _) ?_
      exact (congrArg (fun y : Lanes => y.link[k].txSet) (raise_lanes _ _ _)).trans (hup _)
    · exact hup _

theorem plan_sets (y : Link) (q : BitVec 8) : (y.plan q).sets = y.sets := by
  unfold Link.plan
  split <;> rfl

/-- A set that applies and holds MIN_LANES is the transmit set. -/
theorem applySet_txSet {next : BitVec 8} (h : s.lanes.link[k].minLanes ≤ lanesIn next) : (s.applySet k next).lanes.link[k].txSet = next := by
  unfold State.applySet
  extract_lets testLane v w n
  have hv : v.lanes.link[k].sets = (next, s.lanes.link[k].minLanes) := by
    refine (congrArg Link.sets (withLink_link s k _)).trans ?_
    dsimp only
    split
    · split
      · rfl
      · exact plan_sets _ _
    · rfl
  have hw : w.lanes.link[k].sets = (next, s.lanes.link[k].minLanes) := by
    refine (switchTest_sets _ k k).trans (Eq.trans ?_ hv)
    exact foldl_proj (fun t => t.lanes.link[k].sets) (fun t l => takeSet_sets t k next testLane l) _ v
  have hset : w.lanes.link[k].txSet = next := congrArg Prod.fst hw
  have hmin : w.lanes.link[k].minLanes = s.lanes.link[k].minLanes := congrArg Prod.snd hw
  rw [if_neg ?_, portComesUp_txSet, hset]
  intro hdown
  have hless : lanesIn w.lanes.link[k].txSet < w.lanes.link[k].minLanes := hdown.2
  rw [hset, hmin] at hless
  omega

end

section
variable {s : State} {l : Fin 24} {k : Fin 4}

theorem markerSend_eq (hk : s.linkOf l = some k) (ht : s.lanes.lane[l].tx = .codewords) : execAlignmentMarkerSend k s =
    match s.lanes.link[k].change with
    | none => .next (s.markersSent k)
    | some c => if c.countdown = 0 then .next ((s.markersSent k).applySet k c.next)
      else .next ((s.markersSent k).withLink k fun y => { y with change := some { c with countdown := c.countdown - 1 } }) := by
  have hmem : l ∈ (s.lanesOf k).filter fun l => s.lanes.lane[l].tx == .codewords || s.lanes.lane[l].tx == .capBlocks := by
    refine List.mem_filter.2 ⟨List.mem_filter.2 ⟨List.mem_finRange l, ?_⟩, ?_⟩
    · rw [hk]
      exact beq_self_eq_true _
    · rw [ht]
      rfl
  have hne : ((s.lanesOf k).filter fun l => s.lanes.lane[l].tx == .codewords || s.lanes.lane[l].tx == .capBlocks).isEmpty = false :=
    List.isEmpty_eq_false_iff.2 (List.ne_nil_of_mem hmem)
  unfold execAlignmentMarkerSend
  dsimp only
  rw [if_neg fun h => Bool.false_ne_true (hne.symm.trans h.1)]
  rfl

theorem markersSent_count : (s.markersSent k).lanes.link[k].markerCount = s.lanes.link[k].markerCount + 1 := by
  obtain ⟨y, w, hy, hstill⟩ := markersSent_link s k
  rw [hy]
  exact (congrArg (fun z : Link => z.markerCount + 1) hstill :)

theorem markersSent_minLanes : (s.markersSent k).lanes.link[k].minLanes = s.lanes.link[k].minLanes := by
  obtain ⟨y, w, hy, hstill⟩ := markersSent_link s k
  rw [hy]
  exact (congrArg Link.minLanes hstill :)

/-! ### The health of a lane -/

theorem longFec_congr {t : State} (hlink : t.linkOf l = s.linkOf l) (hfec : ∀ k : Fin 4, t.lanes.link[k].fec = s.lanes.link[k].fec) :
    t.longFec l = s.longFec l := by
  unfold State.longFec
  rw [hlink]
  split
  · rw [hfec]
  · rfl

theorem addCounts_role (s : State) (l : Fin 24) (c : CwCounts) : (s.addCounts l c).role = s.role :=
  (ignoresAll_same (x := .role) (s₀ := s) (l := [.od]) (by decide)).discharge kept_addCounts s l c rfl

theorem addCounts_now (s : State) (l : Fin 24) (c : CwCounts) : (s.addCounts l c).now = s.now :=
  (ignoresAll_same (x := .now) (s₀ := s) (l := [.od]) (by decide)).discharge kept_addCounts s l c rfl

theorem addCounts_portC (s : State) (l : Fin 24) (c : CwCounts) : (s.addCounts l c).rd 0x2102 0x01 = s.rd 0x2102 0x01 := by
  have hb : ∀ (t : State) sub n, sub < 256 → (t.bump (0x2110 + l) sub n).rd 0x2102 0x01 = t.rd 0x2102 0x01 := fun t sub n h =>
    bump_rd_ne t n (laneKey_ne l h)
  unfold State.addCounts
  dsimp only
  rw [hb _ _ _ (by decide), hb _ _ _ (by decide), hb _ _ _ (by decide), hb _ _ _ (by decide), hb _ _ _ (by decide), hb _ _ _ (by decide),
    hb _ _ _ (by decide), hb _ _ _ (by decide)]

/-- A window in which every codeword decodes, with few enough symbols corrected, leaves an active lane good. -/
theorem healthWindow_good {received : List (Nat × List Sym)} (load : BitVec 8) (hk : s.linkOf l = some k) (hs : s.lanes.lane[l].stage = .active)
    (hu : (countCodewords (s.longFec l) received).uncorrected = 0)
    (hc : (countCodewords (s.longFec l) received).symbols * 100000 ≤ (countCodewords (s.longFec l) received).total * fecSize (s.longFec l)) :
    ∃ t, execLaneHealthWindow l received load s = .next t ∧ t.rdN (0x2110 + l) 0x09 = 0 ∧ t.lanes.link[k].load = load.toNat ∧
      t.now = s.now + 1000000000 := by
  obtain ⟨u, hpass⟩ : ∃ u, s.pass second = u := ⟨_, rfl⟩
  have hul : u.lanes = s.lanes := hpass ▸ pass_lanes s second
  have hun : u.now = s.now + 1000000000 := hpass ▸ pass_now s second
  have hur : u.role = s.role := hpass ▸ pass_role s second
  have hup : u.rd 0x2102 0x01 = s.rd 0x2102 0x01 := by
    unfold State.rd
    rw [← hpass, pass_od, pass_role]
  have hlong : u.longFec l = s.longFec l := longFec_congr (linkOf_congr hur hup l) fun m => by rw [hul]
  unfold execLaneHealthWindow
  rw [hpass]
  dsimp only
  rw [hlong]
  generalize countCodewords (s.longFec l) received = c at hu hc ⊢
  have hal : (u.addCounts l c).lanes = s.lanes := (addCounts_lanes u l c).trans hul
  have har : (u.addCounts l c).role = s.role := (addCounts_role u l c).trans hur
  have hap : (u.addCounts l c).rd 0x2102 0x01 = s.rd 0x2102 0x01 := (addCounts_portC u l c).trans hup
  have han : (u.addCounts l c).now = s.now + 1000000000 := (addCounts_now u l c).trans hun
  generalize u.addCounts l c = v at hal har hap han ⊢
  rw [linkOf_congr har hap l, hk]
  dsimp only
  have hfec : (v.withLink k fun y => { y with load := load.toNat }).longFec l = s.longFec l := by
    refine longFec_congr (linkOf_congr har hap l) fun m => ?_
    refine (withLink_proj Link.fec v k m (f := fun y => { y with load := load.toNat }) fun _ => rfl).trans ?_
    rw [hal]
  have hstage : (v.withLink k fun y => { y with load := load.toNat }).lanes.lane[l].stage = .active := by
    rw [withLink_lane, hal, hs]
  have hload : (v.withLink k fun y => { y with load := load.toNat }).lanes.link[k].load = load.toNat :=
    congrArg Link.load (withLink_link v k _)
  have hnow : (v.withLink k fun y => { y with load := load.toNat }).now = s.now + 1000000000 := han
  refine ⟨_, (if_neg fun h => h.1 hstage).trans (if_pos ⟨hu, hfec.symm ▸ hc⟩), rdN_wrN_same _ _ _ _, ?_, ?_⟩
  · rw [wrN_lanes, hload]
  · rw [wrN_now, hnow]

/-- A lane whose clock is lost, or whose markers are. -/
theorem laneLockLoss_eq (cdr : Bool) : execLaneLockLoss l cdr s =
    if cdr then .next (s.failLane l 1) else if 2 ≤ s.lanes.lane[l].badRun then .next (s.failLane l 2) else .next s := rfl

end

/-- Settles O12: markers that are missing, damaged or good, the countdown of a set change, the failure of a lane and its good windows. -/
theorem laneMarkersAndFailures : Obligations.LaneMarkersAndFailures := by
  unfold Obligations.LaneMarkersAndFailures
  intro s l k _ hk x y
  refine ⟨fun hp skew => ⟨?_, fun m hm => ?_, fun m hm hs => ?_⟩, fun ht => ⟨fun hc => ?_, fun c hc hn => ?_, fun c hc hz hmin => ?_⟩,
    fun hs => ⟨?_, fun hb => ?_, ?_⟩, fun hb => ?_, fun received load hs => ?_⟩
  · refine ⟨_, markerReceive_missing hk hp skew, ?_, ?_⟩ <;> rw [withLane_lane]
  · refine ⟨_, markerReceive_damaged hk hp hm skew, ?_, ?_⟩ <;> rw [withLane_lane, bump_lanes]
  · exact markerReceive_bitLock hk hs hm skew
  · refine ⟨s.markersSent k, (markerSend_eq hk ht).trans ?_, markersSent_count⟩
    rw [hc]
  · refine ⟨_, (markerSend_eq hk ht).trans ?_, congrArg Link.change (withLink_link (s.markersSent k) k
      fun y => { y with change := some { c with countdown := c.countdown - 1 } })⟩
    rw [hc]
    exact if_neg hn
  · refine ⟨_, (markerSend_eq hk ht).trans ?_, applySet_txSet (s.markersSent k) k (next := c.next) ?_⟩
    · rw [hc]
      exact if_pos hz
    · rw [markersSent_minLanes]
      exact hmin
  · exact ⟨_, rfl, failLane_fails s l k 1 hk hs⟩
  · exact ⟨_, (laneLockLoss_eq false).trans (if_pos hb), (failLane_fails s l k 2 hk hs).1⟩
  · exact ⟨_, rfl, failLane_fails s l k 3 hk hs⟩
  · exact (laneLockLoss_eq false).trans (if_neg (Nat.not_le.2 hb))
  · intro c hu hc
    exact healthWindow_good load hk hs hu hc

end Sys2Proof.Machine
end

section
/-! SUPPORT. Pattern checkers, live tests, error injection and loop timing (R102, R103, R106, R123). -/

namespace Sys2Proof.Machine
open Host

/-! ### Pattern checkers and live tests -/

section
variable {s : State} {l : Fin 24} {k : Fin 4}

theorem countPrbs_link (s : State) (l : Fin 24) (n e y : Nat) : (s.countPrbs l n e y).lanes.link = s.lanes.link := rfl

theorem countPrbs_proj {β : Type} (g : Lane → β) (h : ∀ x c, g { x with checker := c } = g x) (s : State) (l : Fin 24) (n e y : Nat) :
    g (s.countPrbs l n e y).lanes.lane[l] = g s.lanes.lane[l] := by
  unfold State.countPrbs
  refine withLane_proj g s l l fun x => ?_
  exact ite_proj g _ rfl (h x _)

/-- A checker in lock counts the bits and the errors that it has met. -/
theorem countPrbs_locked (h : s.lanes.lane[l].checker.locked = true) (n e y : Nat) :
    (s.countPrbs l n e y).lanes.lane[l] = { s.lanes.lane[l] with checker := { s.lanes.lane[l].checker with
      bits := s.lanes.lane[l].checker.bits + n
      bitErrors := s.lanes.lane[l].checker.bitErrors + e
      symErrors := s.lanes.lane[l].checker.symErrors + y } } := by
  unfold State.countPrbs
  rw [withLane_lane, h]
  rfl

theorem publishPrbs_now (s : State) (l : Fin 24) (ok : Bool) : (s.publishPrbs l ok).now = s.now :=
  (ignoresAll_same (x := .now) (s₀ := s) (l := [.od]) (by decide)).discharge kept_publishPrbs s l ok rfl

/-- A timed run ends once its time is over. -/
theorem prbsDurationEnd_timed (n errors sym : BitVec 64) (h : s.lanes.lane[l].timedRun = true) :
    ∃ t, execPrbsDurationEnd l n errors sym s = .next t ∧ t.lanes.lane[l].timedRun = false ∧
      s.lanes.lane[l].runSince + s.rdN (0x2110 + l) 0x22 * ms ≤ t.now := by
  unfold execPrbsDurationEnd
  dsimp only
  have htimed : (s.countPrbs l n.toNat errors.toNat sym.toNat).lanes.lane[l].timedRun = true :=
    (countPrbs_proj Lane.timedRun (fun _ _ => rfl) s l _ _ _).trans h
  have hsince : (s.countPrbs l n.toNat errors.toNat sym.toNat).lanes.lane[l].runSince = s.lanes.lane[l].runSince :=
    countPrbs_proj Lane.runSince (fun _ _ => rfl) s l _ _ _
  have hread : (s.countPrbs l n.toNat errors.toNat sym.toNat).rdN (0x2110 + l) 0x22 = s.rdN (0x2110 + l) 0x22 := rfl
  generalize s.countPrbs l n.toNat errors.toNat sym.toNat = v at htimed hsince hread ⊢
  obtain ⟨u, hu⟩ : ∃ u, v.runOver l = u := ⟨_, rfl⟩
  have hnow : s.lanes.lane[l].runSince + s.rdN (0x2110 + l) 0x22 * ms ≤ u.now := by
    rw [← hu, ← hsince, ← hread]
    exact now_until _ _
  refine ⟨_, if_pos htimed, ?_, ?_⟩
  · rw [publishPrbs_lanes, withLane_lane]
  · rw [publishPrbs_now, hu]
    exact hnow

variable {y : LiveTest} (hk : s.linkOf l = some k) (hy : s.lanes.link[k].test = some y) (hl : y.lane = laneIdx l)
include hk hy hl

/-- The initiator of a live test announces its return when the run is over. -/
theorem prbsDurationEnd_returns (n errors sym : BitVec 64) (ht : s.lanes.lane[l].timedRun = false) (hi : y.initiator = true) (hs : y.stage = 1) :
    ∃ t, execPrbsDurationEnd l n errors sym s = .next t ∧ t.lanes.link[k].test = some { y with stage := 2 } ∧
      t.lanes.lane[l].tx = .codewords := by
  have htimed : (s.countPrbs l n.toNat errors.toNat sym.toNat).lanes.lane[l].timedRun = false :=
    (countPrbs_proj Lane.timedRun (fun _ _ => rfl) s l _ _ _).trans ht
  have hlink : (s.countPrbs l n.toNat errors.toNat sym.toNat).linkOf l = some k := hk
  have htest : (s.countPrbs l n.toNat errors.toNat sym.toNat).lanes.link[k].test = some y := hy
  unfold execPrbsDurationEnd
  dsimp only
  generalize s.countPrbs l n.toNat errors.toNat sym.toNat = v at htimed hlink htest ⊢
  rw [if_neg (by rw [htimed]; decide), hlink]
  dsimp only
  rw [htest]
  refine ⟨_, if_pos ⟨hl, hi, hs⟩, congrArg Link.test (withLink_link _ k fun z => { z with test := some { y with stage := 2 } }), ?_⟩
  rw [withLink_lane]
  exact congrArg Lane.tx (withLane_lane _ l _)

omit hk hy hl in
theorem cutRun_link (s : State) (l : Fin 24) : (s.cutRun l).lanes.link = s.lanes.link := by
  unfold State.cutRun
  refine ite_proj (fun t : State => t.lanes.link) _ ?_ rfl
  exact (withLane_link _ l _).trans (congrArg Lanes.link (publishPrbs_lanes s l false))

omit hk hy hl in
theorem startTraining_link (s : State) (l : Fin 24) : (s.startTraining l).lanes.link = s.lanes.link := rfl

omit hk hy hl in
theorem startLane_link (s : State) (l : Fin 24) : (s.startLane l).lanes.link = s.lanes.link := by
  unfold State.startLane
  extract_lets v base loop w
  have hv : v.lanes.link = s.lanes.link := cutRun_link s l
  split
  · exact (cutRun_link v l).trans hv
  · split
    · exact hv
    · split
      · exact hv
      · exact hv

omit hk hy hl in
theorem startLane_now (s : State) (l : Fin 24) : (s.startLane l).now = s.now :=
  (ignoresAll_same (x := .now) (s₀ := s) (l := [.od, .lanes, .sent]) (by decide)).discharge kept_startLane s l rfl

omit hk hy hl in
theorem endTest_now (s : State) (k : Fin 4) (l : Fin 24) : (s.endTest k l).now = s.now :=
  (ignoresAll_same (x := .now) (s₀ := s) (l := [.od, .lanes]) (by decide)).discharge kept_endTest s k l rfl

omit hk in
theorem endTest_over : (s.endTest k l).lanes.link[k].test = none := by
  unfold State.endTest
  rw [hy]
  dsimp only
  rw [if_neg fun h => h hl, withLink_link]

/-- A lane under live test that does not regain its lock in time fails, and its test is over. -/
theorem relockTimeout_fails (hs : y.stage = 2) :
    ∃ t, execLiveTestRelockTimeout l s = .next t ∧ t.lanes.link[k].test = none ∧
      t.lanes.link[k].rxFault.getLsbD (laneIdx l) = true ∧ s.lanes.lane[l].runSince + 10 * ms ≤ t.now := by
  obtain ⟨u, hu⟩ : ∃ u, s.until_ (s.lanes.lane[l].runSince + 10 * ms) = u := ⟨_, rfl⟩
  have hnow : s.lanes.lane[l].runSince + 10 * ms ≤ u.now := hu ▸ now_until _ _
  have hlanes : u.lanes = s.lanes := hu ▸ until_lanes _ _
  have hover : (u.endTest k l).lanes.link[k].test = none := endTest_over (by rw [hlanes, hy]) hl
  unfold execLiveTestRelockTimeout
  rw [hk]
  dsimp only
  rw [hy]
  dsimp only
  rw [if_pos ⟨hl, hs⟩, hu]
  generalize hw : State.raise _ _ _ = w
  have htest : w.lanes.link[k].test = none := by rw [← hw, raise_lanes, wrN_lanes, hover]
  have htime : s.lanes.lane[l].runSince + 10 * ms ≤ w.now := by
    rw [← hw, raise_now, wrN_now, endTest_now]
    exact hnow
  refine ⟨_, rfl, ?_, ?_, ?_⟩
  · rw [startLane_link]
    exact (withLink_proj Link.test w k k (f := fun y => { y with rxFault := y.rxFault ||| laneBit (laneIdx l) }) fun _ => rfl).trans htest
  · rw [startLane_link, withLink_link, BitVec.getLsbD_or, Bool.or_eq_true]
    exact .inr (laneBit_self l)
  · rw [startLane_now]
    exact htime

end

theorem checkerLock_locks {s : State} {l : Fin 24} {pattern : BitVec 4} (hp : s.prbsLane l = true) (hl : s.lanes.lane[l].checker.locked = false)
    (h0 : pattern ≠ 0) (hx : pattern.toNat = s.rxPattern l) : ∃ t, execPrbsCheckerLock l pattern s = .next t ∧
      t.lanes.lane[l].checker.locked = true ∧
      t.lanes.lane[l].checker.syncLosses = s.lanes.lane[l].checker.syncLosses + if s.lanes.lane[l].checker.wasLocked then 1 else 0 := by
  refine ⟨_, if_neg ?_, ?_, ?_⟩
  · rintro (h | h | h | h)
    · rw [hp] at h
      exact absurd h (by decide)
    · rw [hl] at h
      exact absurd h (by decide)
    · exact h0 h
    · exact h hx
  · exact congrArg (fun x : Lane => x.checker.locked) (withLane_lane s l _)
  · exact congrArg (fun x : Lane => x.checker.syncLosses) (withLane_lane s l _)

/-! ### Error injection -/

/-- An injection that may go on puts its error out, and ends with its last. -/
theorem injectionInterval_injects {s : State} {l : Fin 24} (h : s.lanes.lane[l].injecting = true)
    (hm : (s.injSizeOk l s.lanes.lane[l].injKind s.lanes.lane[l].injSize && s.injKindOk l s.lanes.lane[l].injKind) = true) :
    ∃ t, execInjectionInterval l s = .next t ∧ t.sent = s.sent ++ [.injected l s.lanes.lane[l].injKind s.lanes.lane[l].injSize] ∧
      (s.lanes.lane[l].injLeft = none → t.lanes.lane[l].injecting = true) ∧
      (s.lanes.lane[l].injLeft = some 1 → t.lanes.lane[l].injecting = false) := by
  obtain ⟨hsize, hkind⟩ := Bool.and_eq_true_iff.1 hm
  unfold execInjectionInterval
  dsimp only
  rw [if_neg (by rw [h]; decide), if_neg (by rw [hsize, hkind]; decide)]
  refine ⟨_, rfl, ?_, fun hn => ?_, fun hn => ?_⟩
  · exact bump_sent (s.emit (.injected l s.lanes.lane[l].injKind s.lanes.lane[l].injSize)) (0x2110 + l) 0x35 1
  · rw [withLane_lane, bump_lanes, emit_lanes, hn]
    exact h
  · rw [withLane_lane, bump_lanes, emit_lanes, hn]
    rfl

theorem injectionInterval_stops {s : State} {l : Fin 24} (h : s.lanes.lane[l].injecting = true)
    (hm : (s.injSizeOk l s.lanes.lane[l].injKind s.lanes.lane[l].injSize && s.injKindOk l s.lanes.lane[l].injKind) = false) :
    ∃ t, execInjectionInterval l s = .next t ∧ t.sent = s.sent ∧ t.lanes.lane[l].injecting = false := by
  unfold execInjectionInterval
  dsimp only
  rw [if_neg (by rw [h]; decide), if_pos ?_]
  · exact ⟨_, rfl, rfl, congrArg Lane.injecting (withLane_lane s l _)⟩
  · rw [← Bool.not_and, hm]
    rfl

/-! ### Loop timing -/

section
variable {s : State} {port : Fin 2}

theorem oppositePortDown_ends (hr : s.role = .tile) (hu : s.portUp (other port) = false) : ∃ t, execOppositePortDown port s = .next t ∧
    t.tile.loopTimed[port] = false ∧ t.tile.slewing[port] = false := by
  refine ⟨_, if_neg ?_, ?_, ?_⟩
  · rintro (h | h)
    · exact h hr
    · rw [hu] at h
      exact absurd h (by decide)
  · rw [raise_tile]
    exact vset_same _ _ _
  · rw [raise_tile]
    exact vset_same _ _ _

theorem loopTimingRestore_slews (hr : s.role = .tile) (hu : s.portUp (other port) = true) (hl : s.tile.loopTimed[port] = false) :
    ∃ t, execLoopTimingRestore port s = .next t ∧ t.tile.slewing[port] = true ∧ t.tile.loopTimed[port] = false := by
  refine ⟨_, if_neg ?_, vset_same _ _ _, hl⟩
  rintro (h | h | h)
  · exact h hr
  · rw [hu] at h
    exact absurd h (by decide)
  · rw [hl] at h
    exact absurd h (by decide)

theorem loopTimingSlewComplete_locks (h : s.tile.slewing[port] = true) : ∃ t, execLoopTimingSlewComplete port s = .next t ∧
    t.tile.slewing[port] = false ∧ t.tile.loopTimed[port] = true :=
  ⟨_, if_neg (by rw [h]; decide), vset_same _ _ _, vset_same _ _ _⟩

end

/-- Settles O13: timed runs, live tests, checkers, injections and loop timing, each by its command. -/
theorem patternsInjectionAndLoopTiming : Obligations.PatternsInjectionAndLoopTiming := by
  unfold Obligations.PatternsInjectionAndLoopTiming
  intro s l n errors sym x
  refine ⟨fun h => ?_, fun k y ht hk hy hl => ⟨fun hi hs => ?_, fun hs => ?_⟩, fun pattern hp hl h0 hx => ?_, fun h => ?_, fun h => ?_,
    fun port hr => ⟨fun hu => ?_, fun hu hl => ?_⟩, fun port h => ?_⟩
  · exact prbsDurationEnd_timed n errors sym h
  · exact prbsDurationEnd_returns hk hy hl n errors sym ht hi hs
  · exact relockTimeout_fails hk hy hl hs
  · exact checkerLock_locks hp hl h0 hx
  · refine ⟨_, rfl, ?_, ?_, ?_⟩ <;> rw [withLane_lane, countPrbs_locked h]
  · exact ⟨injectionInterval_injects h, injectionInterval_stops h⟩
  · exact oppositePortDown_ends hr hu
  · exact loopTimingRestore_slews hr hu hl
  · exact loopTimingSlewComplete_locks h

end Sys2Proof.Machine
end

section
/-! SUPPORT. The repeater of a tile (R111, R122, R125 to R127, R143). -/

namespace Sys2Proof.Machine
open Host

/-! ### What a cell that leaves puts out -/

section
variable {l : List Out}

theorem pushBlock_sent_prefix {s : State} (h : l <+: s.sent) (k : Fin 4) (m : Fin 24) (b : BitVec 256) : l <+: (s.pushBlock k m b).sent := by
  unfold State.pushBlock
  dsimp only
  split
  · exact h
  · exact emit_sent_prefix (s := s.withLane m _) h _

theorem fillOthers_sent_prefix {s : State} (h : l <+: s.sent) (k : Fin 4) : l <+: (s.fillOthers k).sent := by
  unfold State.fillOthers
  refine foldl_keeps (fun t => l <+: t.sent) (fun t m ht => ?_) _ h
  split
  · exact pushBlock_sent_prefix ht k m _
  · exact pushBlock_sent_prefix ht k m _
  · exact ht

theorem linkBlock_sent_prefix {s : State} (h : l <+: s.sent) (k : Fin 4) (b : BitVec 256) : l <+: (s.linkBlock k b).sent := by
  unfold State.linkBlock
  dsimp only
  split
  · exact h
  · next m _ =>
    have hpush : l <+: (if s.lanes.lane[m].tx = .codewords then s.pushBlock k m b else s).sent := by
      split
      · exact pushBlock_sent_prefix h k m b
      · exact h
    generalize (if s.lanes.lane[m].tx = .codewords then s.pushBlock k m b else s) = v at hpush ⊢
    split
    · exact hpush
    · exact fillOthers_sent_prefix (s := v.withLink k _) hpush k

/-- A cell that leaves is put out, and after it the codewords that it fills. -/
theorem sendCell_sent (s : State) (out : Fin 2) (c : Cell) : ∃ codewords, (s.sendCell out c).sent = s.sent ++ .cell out c :: codewords := by
  have hprefix : s.sent ++ [.cell out c] <+: (s.sendCell out c).sent :=
    foldl_keeps (fun t => s.sent ++ [.cell out c] <+: t.sent) (fun t b ht => linkBlock_sent_prefix ht (chainLink out) b) _ (List.prefix_refl _)
  obtain ⟨codewords, hsent⟩ := hprefix
  exact ⟨codewords, by rw [← hsent, List.append_assoc, List.singleton_append]⟩

end

/-! ### The repeater -/

section
variable {s : State} {port out : Fin 2}

theorem role_of_isTile (h : s.isTile = true) : s.role = .tile := beq_iff_eq.1 (Bool.and_eq_true_iff.1 h).2

theorem idleCellReceive_slot (ht : s.role = .tile) (hp : s.portUp port = true) (ho : s.portUp (other port) = true)
    (hm : s.matching (other port) = false) (he : s.tile.match_[other port] = []) :
    execIdleCellReceive port s = .next (s.idleSlot (other port)) := by
  refine (if_neg ?_).trans (if_neg ?_)
  · rintro (h | h | h)
    · exact h ht
    · rw [hp] at h
      exact absurd h (by decide)
    · rw [ho] at h
      exact absurd h (by decide)
  · rintro (h | h)
    · rw [hm] at h
      exact absurd h (by decide)
    · rw [he] at h
      exact absurd h (by decide)

theorem idleSlot_idle (h : s.tile.orig[out] = []) : s.idleSlot out = s.sendCell out idleCell := by
  unfold State.idleSlot
  rw [h]

/-- A slot that carries what the tile originates, with nothing that waits behind it. -/
theorem idleSlot_own {c : Cell} {cs : List Cell} (h : s.tile.orig[out] = c :: cs) (hb : s.tile.backlog = []) :
    s.idleSlot out = (s.withTile fun t => { t with orig := vset t.orig out cs }).sendCell out c := by
  unfold State.idleSlot
  rw [h]
  dsimp only
  generalize hv : State.sendCell _ out c = v
  have hback : v.tile.backlog = [] := by
    rw [← hv, sendCell_tile]
    exact hb
  unfold State.paceMgmt
  rw [hback]

theorem bump_matching (s : State) (out : Fin 2) (idx sub n : Nat) : (s.bump idx sub n).matching out = s.matching out := by
  unfold State.matching
  rw [bump_lanes, bump_tile]

theorem forward_eq (x : RxCell) (ht : s.role = .tile) (hp : s.portUp port = true) (ho : s.portUp (other port) = true) :
    s.forward port x = if s.matching (other port) || !s.tile.match_[other port].isEmpty then
      (s.bump 0x2200 (0x10 + port) 1).buffer (other port) x.forwarded
    else (s.bump 0x2200 (0x10 + port) 1).sendCell (other port) x.forwarded := by
  unfold State.forward
  rw [if_neg (by rw [ht, hp, ho]; decide)]
  dsimp only
  rw [bump_matching, bump_tile]

/-- A cell waits in order in a buffer that has room, unless it is a TIMING cell. -/
theorem buffer_appends {c : Cell} (h : s.tile.match_[out].length < 64) (hc : c.type ≠ 3) :
    (s.buffer out c).tile.match_[out] = s.tile.match_[out] ++ [c] := by
  unfold State.buffer
  dsimp only
  rw [if_pos h, if_neg hc]
  exact vset_same _ _ _

theorem rateMatchSend_sends {c : Cell} {cs : List Cell} (ht : s.role = .tile) (ho : s.portUp out = true) (h : s.tile.match_[out] = c :: cs) :
    execRateMatchSend out s = .next ((s.withTile fun t => { t with match_ := vset t.match_ out cs }).sendCell out c) := by
  unfold execRateMatchSend
  rw [if_neg, h]
  rintro (hr | hu)
  · exact hr ht
  · rw [ho] at hu
    exact absurd hu (by decide)

end

/-! ### The arrival of a cell -/

section
variable {s : State}

theorem raiseLimited_rd {idx sub : Nat} (h : eventFree idx sub) (s : State) (code n interval : Nat) (f : Nat → Nat) :
    (s.raiseLimited code n interval f).rd idx sub = s.rd idx sub := by
  unfold State.raiseLimited
  dsimp only
  split
  · exact raiseWith_rd _ h _ _ _
  · rfl

/-- What tells whether a tile only repeats. -/
def State.repeatView (s : State) : Val × Bool × Bool := (s.rd 0x2200 0x04, s.tile.pixelFault, s.tile.thermal)

theorem repeatOnly_congr {t : State} (hr : t.role = s.role) (h : t.repeatView = s.repeatView) : t.repeatOnly = s.repeatOnly := by
  obtain ⟨hrd, hrest⟩ := Prod.ext_iff.1 h
  obtain ⟨hfault, hthermal⟩ := Prod.ext_iff.1 hrest
  have hrd' : t.rd 0x2200 0x04 = s.rd 0x2200 0x04 := hrd
  have hfault' : t.tile.pixelFault = s.tile.pixelFault := hfault
  have hthermal' : t.tile.thermal = s.tile.thermal := hthermal
  unfold State.repeatOnly State.commanded State.rdB State.rdI
  rw [hr, hrd', hfault', hthermal']

theorem bump_repeatView (s : State) {idx sub : Nat} (n : Nat) (h : key 0x2200 0x04 ≠ key idx sub) : (s.bump idx sub n).repeatView = s.repeatView := by
  unfold State.repeatView
  rw [bump_rd_ne s n h, bump_tile]

theorem withTile_repeatView (s : State) (f : TileChain → TileChain) (h1 : (f s.tile).pixelFault = s.tile.pixelFault)
    (h2 : (f s.tile).thermal = s.tile.thermal) : (s.withTile f).repeatView = s.repeatView :=
  Prod.ext rfl (Prod.ext h1 h2)

theorem raiseLimited_repeatView (s : State) (code n interval : Nat) (f : Nat → Nat) :
    (s.raiseLimited code n interval f).repeatView = s.repeatView := by
  unfold State.repeatView
  rw [raiseLimited_rd ⟨by decide, by decide, by decide, by decide⟩, raiseLimited_tile]

theorem buffer_repeatView (s : State) (out : Fin 2) (c : Cell) : (s.buffer out c).repeatView = s.repeatView := by
  have hmatch : ∀ m, (s.withTile fun t => { t with match_ := m }).repeatView = s.repeatView := fun m => withTile_repeatView s _ rfl rfl
  unfold State.buffer
  dsimp only
  split
  · exact hmatch _
  · rw [raiseLimited_repeatView, bump_repeatView _ _ (by decide)]
    exact hmatch _

theorem sendCell_repeatView (s : State) (out : Fin 2) (c : Cell) : (s.sendCell out c).repeatView = s.repeatView := by
  unfold State.repeatView State.rd
  rw [sendCell_od, sendCell_role, sendCell_tile]

theorem forward_repeatView (s : State) (port : Fin 2) (x : RxCell) : (s.forward port x).repeatView = s.repeatView := by
  have hcount : (s.bump 0x2200 (0x10 + port) 1).repeatView = s.repeatView := bump_repeatView s 1 (by unfold key; omega)
  unfold State.forward
  dsimp only
  split
  · rfl
  · split
    · rw [buffer_repeatView, hcount]
    · rw [sendCell_repeatView, hcount]

theorem forward_role (s : State) (port : Fin 2) (x : RxCell) : (s.forward port x).role = s.role :=
  (ignoresAll_same (x := .role) (s₀ := s) (l := [.od, .control, .nvm, .lanes, .tile, .sent]) (by decide)).discharge kept_forward s port x rfl

theorem arrive_role (s : State) (port : Fin 2) (x : RxCell) : (s.arrive port x).role = s.role :=
  (ignoresAll_same (x := .role) (s₀ := s) (l := [.od, .control, .nvm, .lanes, .tile, .sent]) (by decide)).discharge kept_arrive s port x rfl

theorem arrive_life (s : State) (port : Fin 2) (x : RxCell) : (s.arrive port x).life = s.life :=
  (ignoresAll_same (x := .life) (s₀ := s) (l := [.od, .control, .nvm, .lanes, .tile, .sent]) (by decide)).discharge kept_arrive s port x rfl

theorem arrive_isTile (s : State) (port : Fin 2) (x : RxCell) : (s.arrive port x).isTile = s.isTile := by
  unfold State.isTile State.up
  rw [arrive_role, arrive_life]

/-- An undamaged cell that arrives does not change whether the tile only repeats. -/
theorem arrive_repeatOnly (s : State) (port : Fin 2) {x : RxCell} (hd : x.damaged = false) : (s.arrive port x).repeatOnly = s.repeatOnly := by
  refine repeatOnly_congr (arrive_role s port x) ?_
  have hundamaged : ∀ t : State, t.countDamage port x = t := fun t => by
    unfold State.countDamage
    rw [if_pos (by rw [hd]; rfl)]
  unfold State.arrive
  dsimp only
  rw [hundamaged]
  split
  · exact forward_repeatView s port x
  · have hcorr : (if x.cell.corr then (s.forward port x).bump 0x2200 0x16 1 else s.forward port x).repeatView = s.repeatView := by
      refine (ite_proj State.repeatView _ ?_ rfl).trans (forward_repeatView s port x)
      exact bump_repeatView _ 1 (by decide)
    split
    · exact hcorr
    · refine Eq.trans ?_ hcorr
      unfold State.repeatView
      rw [wrN_rd_ne _ _ (by decide), wrN_tile]

theorem arrive_hears {port : Fin 2} {x : RxCell} (ht : s.isTile = true) (hd : x.damaged = false) : (s.arrive port x).hears x = true := by
  unfold State.hears
  rw [arrive_isTile, ht, hd]
  rfl

theorem videoCellReceive_eq {port : Fin 2} {x : RxCell} (ht : s.isTile = true) (hd : x.damaged = false) (hc : x.cell.type = 1 ∨ x.cell.type = 2) :
    execVideoCellReceive port x s = if s.repeatOnly then .next (s.arrive port x) else .next ((s.arrive port x).acceptVideo port x.cell) := by
  have htype : (x.cell.type == 1 || x.cell.type == 2) = true := by
    obtain h | h := hc <;> rw [h] <;> rfl
  unfold execVideoCellReceive
  dsimp only
  rw [arrive_hears ht hd, arrive_repeatOnly s port hd, htype]
  simp only [Bool.not_true, Bool.false_eq_true, false_or]

theorem reservedTypeCellReceive_counts {port : Fin 2} {x : RxCell} (ht : s.role = .tile) (hd : x.damaged = false) (hc : 9 ≤ x.cell.type) :
    execReservedTypeCellReceive port x s = .next (((s.arrive port x).bump 0x2200 0x1D 1).raiseLimited 0x3108 0 second
      fun _ => (s.arrive port x).chainDetail port x.cell.type) := by
  refine if_neg ?_
  rintro (h | h | h)
  · exact h ((arrive_role s port x).trans ht)
  · rw [hd] at h
    exact absurd h (by decide)
  · omega

end

/-! ### The health of a tile -/

/-- What a tile counts of its own cells. -/
def State.countView (s : State) : BitVec 16 × BitVec 32 := (s.tile.healthCount, s.tile.seq)

theorem originate1_countView (s : State) (e : Fin 2) (type tsw : Nat) (b : List Byte) (seq : BitVec 32) :
    (s.originate1 e type tsw b seq).countView = s.countView := by
  unfold State.originate1
  dsimp only
  split
  · rfl
  · unfold State.countView
    rw [raiseLimited_tile, bump_tile]

/-- A tile with a station originates a cell under its next number. -/
theorem originate_countView {s : State} (h : s.station ≠ 0) (type tsw : Nat) (b : List Byte) :
    (s.originate type tsw b).countView = (s.tile.healthCount, s.tile.seq + 1) := by
  unfold State.originate
  rw [if_neg fun k => h k.1]
  extract_lets seq v
  have hv : v.countView = s.countView := (originate1_countView _ 1 type tsw b seq).trans (originate1_countView s 0 type tsw b seq)
  obtain ⟨hcount, hseq⟩ := Prod.ext_iff.1 hv
  exact Prod.ext hcount (congrArg (· + 1) hseq)

theorem untilPhase_tile (s : State) (period phase : Nat) : (s.untilPhase period phase).tile = s.tile := untilWall_tile s _

theorem untilPhase_station (s : State) (period phase : Nat) : (s.untilPhase period phase).station = s.station := by
  unfold State.untilPhase State.station State.rdN State.rdI State.rd
  rw [untilWall_od, untilWall_role]

/-- A tile with a station sends its health, and counts it. -/
theorem tileHealthSend_counts {s : State} (ht : s.isTile = true) (hs : s.station ≠ 0) : ∃ t, execTileHealthSend s = .next t ∧
    t.tile.healthCount = s.tile.healthCount + 1 ∧ t.tile.seq = s.tile.seq + 1 ∧ t.tile.crcSince = Vector.replicate 2 0 := by
  unfold execTileHealthSend
  rw [if_neg (by rw [ht]; simp [hs])]
  dsimp only
  obtain ⟨u, hu⟩ : ∃ u, s.untilPhase 1000000 (s.station * 3900) = u := ⟨_, rfl⟩
  have htile : u.tile = s.tile := hu ▸ untilPhase_tile s _ _
  have hstation : u.station ≠ 0 := by
    rw [← hu, untilPhase_station]
    exact hs
  rw [hu]
  generalize hv : State.withTile u _ = v
  have hvt : v.tile = { s.tile with healthCount := s.tile.healthCount + 1 } := by
    rw [← hv, ← htile]
    rfl
  have hvs : v.station ≠ 0 := by
    rw [← hv]
    exact hstation
  have hcount := originate_countView hvs 7 (2 ^ 31) v.tileHealth
  rw [hvt] at hcount
  obtain ⟨hhealth, hseq⟩ := Prod.ext_iff.1 hcount
  exact ⟨_, rfl, hhealth, hseq, rfl⟩

/-- Settles O14: how the repeater forwards, buffers and fills its slots, and what it counts of the cells that it passes. -/
theorem tileRepeater : Obligations.TileRepeater := by
  unfold Obligations.TileRepeater
  intro s port x ht hp ho out
  have hr := role_of_isTile ht
  refine ⟨fun hm he => ⟨fun hq => ?_, fun c cs hq hb => ?_, ?_⟩, fun c cs hq => rateMatchSend_sends hr ho hq, sendCell_sent s out,
    fun hm hl hx => ?_, fun hd hc => ⟨fun hrep => ?_, fun hrep => ?_⟩, fun hd hc => ?_, fun hs => tileHealthSend_counts ht hs⟩
  · exact (idleCellReceive_slot hr hp ho hm he).trans (congrArg Outcome.next (idleSlot_idle hq))
  · exact (idleCellReceive_slot hr hp ho hm he).trans (congrArg Outcome.next (idleSlot_own hq hb))
  · refine (forward_eq x hr hp ho).trans (if_neg ?_)
    show ¬(s.matching out || !s.tile.match_[out].isEmpty) = true
    rw [hm, he]
    decide
  · rw [forward_eq x hr hp ho, if_pos ?_]
    · refine (buffer_appends ?_ hx).trans ?_
      · rw [bump_tile]
        exact hl
      · rw [bump_tile]
    · show (s.matching out || _) = true
      rw [hm]
      rfl
  · exact (videoCellReceive_eq ht hd hc).trans (if_neg (by rw [hrep]; decide))
  · exact (videoCellReceive_eq ht hd hc).trans (if_pos hrep)
  · exact reservedTypeCellReceive_counts hr hd hc

end Sys2Proof.Machine
end

section
/-! SUPPORT. Control cells, the feed and the clock of a tile (R134, R162 to R164, R183 to R185, R250 to R252). -/

namespace Sys2Proof.Machine
open Host

/-! ### Control cells -/

section
variable {s v : State} {port : Fin 2} {x : RxCell}

theorem topoQueryReceive_reports (h : (s.arrive port x).topoNew x 1 = (true, v)) : execTopoQueryReceive port x s = .next v.sendReport := by
  unfold execTopoQueryReceive
  rw [h]
  rfl

/-- The tile with what an ASSIGN cell gives it: the end's number, its station and direction, and the stations of its chain. -/
def State.assigned (v : State) (b : List Byte) (e : Nat × Nat) : State :=
  ((((v.wrN 0x2200 0x01 (field b 1 1)).wrN 0x2200 0x02 e.1).wrB 0x2200 0x03 (bit e.2 0)).withTile fun t => { t with restarted := false }).withQuartz
    fun q => { q with servo := { q.servo with stations := field b 2 2 } }

/-- A tile that is assigned takes its number, its station and its direction, and reports. -/
theorem topoAssignReceive_takes {e : Nat × Nat} (h : (s.arrive port x).topoNew x 3 = (true, v)) (he : assignEntry x.cell.data serialLow = some e) :
    execTopoAssignReceive port x s = .next (v.assigned x.cell.data e).sendReport := by
  unfold execTopoAssignReceive
  rw [h]
  dsimp only
  rw [he]
  rfl

theorem healthCellReceive_reads (hh : (s.arrive port x).hears x = true) (hc : x.cell.type = 7) (ht : x.cell.tsw 31 31 ≠ 1)
    (ha : (s.arrive port x).accepts (s.arrive port x).tile.groups x.cell.dest = true) :
    execHealthCellReceive port x s = .next ((s.arrive port x).wrN 0x2300 (0x03 + x.cell.origin) (byteAt x.cell.data 3).toNat) := by
  unfold execHealthCellReceive
  dsimp only
  rw [hh, ha, if_neg]
  rintro (h | h | h | h)
  · exact absurd h (by decide)
  · exact h hc
  · exact ht h
  · exact absurd h (by decide)

variable (hc : x.cell.type = 8) (h : (s.arrive port x).admitCell x = (true, v))
include hc h

theorem framectlCommitReceive_commits (ht : x.cell.tsw 31 28 = 1) (hb : bit (field x.cell.data 16 32) v.station = true) (hs : v.station ≠ 0) :
    execFramectlCommitReceive port x s =
      .next (v.commitCell (field x.cell.data 2 2) (field x.cell.data 4 8) (field x.cell.data 12 1)) := by
  unfold execFramectlCommitReceive
  dsimp only
  rw [if_neg (by simp [hc, ht]), h]
  dsimp only
  rw [hb, bne_iff_ne.2 hs]
  rfl

theorem framectlGenStateReceive_learns (ht : x.cell.tsw 31 28 = 2) : execFramectlGenStateReceive port x s =
    .next (v.genStateCell (field x.cell.data 2 2) (field x.cell.data 12 1)) := by
  have hrole : (s.arrive port x).role ≠ .sender := by
    intro hr
    have hhears : (s.arrive port x).hears x = false := by
      unfold State.hears State.isTile
      rw [hr]
      simp
    have hrefused : (s.arrive port x).admitCell x = (false, s.arrive port x) := by
      unfold State.admitCell
      rw [hhears]
      rfl
    rw [hrefused] at h
    exact Bool.false_ne_true (congrArg Prod.fst h)
  unfold execFramectlGenStateReceive
  dsimp only
  rw [if_neg (by simp [hc, ht]), if_neg hrole, h]
  rfl

theorem framectlAbortReceive_aborts (ht : x.cell.tsw 31 28 = 3) : execFramectlAbortReceive port x s =
    .next (v.abortCell (field x.cell.data 4 8)) := by
  unfold execFramectlAbortReceive
  dsimp only
  rw [if_neg (by simp [hc, ht]), h]
  rfl

end

/-! ### TIMING cells -/

section
variable {s : State}

/-- An end that gives a TIMING cell is alive, and the feed is there. -/
theorem endAlive_feeds (s : State) (o : Fin 2) : (s.endAlive o).tile.alive[o] = some s.now ∧ (s.endAlive o).tile.lostSince = none := by
  unfold State.endAlive
  extract_lets a b
  have ha : a.tile.alive[o] = some s.now := vset_same _ _ _
  have hb : b.tile = a.tile := wrN_tile _ _ _ _
  split
  · next hl => exact ⟨by rw [hb, ha], hl⟩
  · rw [raise_tile]
    exact ⟨(congrArg (fun t : TileChain => t.alive[o]) hb).trans ha, rfl⟩

theorem adoptSet_tile (s : State) (t : TimingSet) : (s.adoptSet t).tile = s.tile :=
  (ignoresAll_same (x := .tile) (s₀ := s) (l := [.od, .control, .nvm, .quartz, .sent]) (by decide)).discharge kept_adoptSet s t rfl

theorem takeTimingFields_tile (s : State) (b : List Byte) : (s.takeTimingFields b).tile = s.tile :=
  (ignoresAll_same (x := .tile) (s₀ := s) (l := [.quartz, .video]) (by decide)).discharge kept_takeTimingFields s b rfl

theorem takeSample_tile (s : State) (o : Fin 2) (n : Nat) : (s.takeSample o n).tile = s.tile :=
  (ignoresAll_same (x := .tile) (s₀ := s) (l := [.od, .quartz]) (by decide)).discharge kept_takeSample s o n rfl

theorem takeChange_tile (s : State) (c : Option TimingChange) : (s.takeChange c).tile = s.tile :=
  (ignoresAll_same (x := .tile) (s₀ := s) (l := [.od, .control, .nvm, .quartz, .sent]) (by decide)).discharge kept_takeChange s c rfl

theorem takeTimingFields_fm (s : State) (b : List Byte) : (s.takeTimingFields b).quartz.fm = (byteAt b 3).toNat := by
  unfold State.takeTimingFields
  dsimp only
  split <;> rfl

theorem takeSample_fm (s : State) (o : Fin 2) (n : Nat) : (s.takeSample o n).quartz.fm = s.quartz.fm := by
  have hnote : (s.wrN 0x2600 (0x40 + o) (s.delayFrom o).toNat).quartz = s.quartz := wrN_quartz _ _ _ _
  unfold State.takeSample
  dsimp only
  split
  · exact congrArg Quartz.fm hnote
  · have hcount : ((s.wrN 0x2600 (0x40 + o) (s.delayFrom o).toNat).bump 0x2600 (0x45 + o) 1).quartz.fm = s.quartz.fm :=
      congrArg Quartz.fm ((bump_quartz _ _ _ _).trans hnote)
    split
    · exact hcount
    · exact hcount

theorem applyChange_fm (s : State) (c : TimingChange) : (s.applyChange c).quartz.fm = s.quartz.fm := by
  unfold State.applyChange
  dsimp only
  rw [raise_quartz, wrN_quartz]
  split <;> rfl

theorem takeChange_fm (s : State) (c : Option TimingChange) : (s.takeChange c).quartz.fm = s.quartz.fm := by
  unfold State.takeChange
  split
  · rfl
  · next c =>
    split
    · rfl
    · split
      · rfl
      · exact applyChange_fm s c

/-- A TIMING cell marks its end alive and names the frame master. -/
theorem timingCellReceive_feeds {port : Fin 2} {x : RxCell} (hh : (s.arrive port x).hears x = true) (hc : x.cell.type = 3)
    (ht : x.cell.tsw 31 28 = 1) (ha : (s.arrive port x).accepts (s.arrive port x).tile.groups x.cell.dest = true) :
    ∃ t, execTimingCellReceive port x s = .next t ∧ t.tile.alive[x.cell.origin] = some (s.arrive port x).now ∧ t.tile.lostSince = none ∧
      t.quartz.fm = (byteAt x.cell.data 3).toNat := by
  unfold execTimingCellReceive
  dsimp only
  generalize s.arrive port x = u at hh ha ⊢
  rw [if_neg (by simp [hh, hc, ht, ha])]
  obtain ⟨halive, hlost⟩ := endAlive_feeds u x.cell.origin
  generalize u.endAlive x.cell.origin = v at halive hlost ⊢
  generalize hw : State.takeTimingFields _ x.cell.data = w
  have hwt : w.tile = v.tile := by
    rw [← hw, takeTimingFields_tile]
    exact ite_proj State.tile _ rfl (adoptSet_tile v _)
  have hwf : w.quartz.fm = (byteAt x.cell.data 3).toNat := by rw [← hw, takeTimingFields_fm]
  generalize hz : (if (v.oldChange x.cell.data 96 && field x.cell.data 96 1 == 2) = true then w
    else w.takeSample x.cell.origin (stampAt x.cell.data 4)) = z
  have hzt : z.tile = v.tile := by
    rw [← hz, ← hwt]
    exact ite_proj State.tile _ rfl (takeSample_tile w _ _)
  have hzf : z.quartz.fm = (byteAt x.cell.data 3).toNat := by
    rw [← hz, ← hwf]
    exact ite_proj (fun t : State => t.quartz.fm) _ rfl (takeSample_fm w _ _)
  refine ⟨_, rfl, ?_, ?_, ?_⟩
  · rw [takeChange_tile, hzt, halive]
  · rw [takeChange_tile, hzt, hlost]
  · rw [takeChange_fm, hzf]

/-! ### The feed of a tile -/

theorem endsAlive_none {t : State} {o : Fin 2} (h : t.tile.alive[o] = none) (h' : t.tile.alive[other o] = none) : t.endsAlive = 0 := by
  unfold State.endsAlive
  revert h h'
  match o with
  | 0 =>
    intro h h'
    have h0 : t.tile.alive[0] = none := h
    have h1 : t.tile.alive[1] = none := h'
    rw [h0, h1]
    rfl
  | 1 =>
    intro h h'
    have h1 : t.tile.alive[1] = none := h
    have h0 : t.tile.alive[0] = none := h'
    rw [h0, h1]
    rfl

theorem endsAlive_some {t : State} {o : Fin 2} (h : t.tile.alive[o] ≠ none) : t.endsAlive ≠ 0 := by
  have hsome : t.tile.alive[o].isSome = true := Option.isSome_iff_ne_none.2 h
  unfold State.endsAlive
  revert hsome
  match o with
  | 0 =>
    intro hsome
    have h0 : t.tile.alive[0].isSome = true := hsome
    rw [h0]
    simp
  | 1 =>
    intro hsome
    have h1 : t.tile.alive[1].isSome = true := hsome
    rw [h1]
    simp

theorem other_ne (o : Fin 2) : other o ≠ o := by
  match o with
  | 0 => decide
  | 1 => decide

theorem holdover_tile (s : State) (cause : Nat) : (s.holdover cause).tile = s.tile :=
  (ignoresAll_same (x := .tile) (s₀ := s) (l := [.od, .control, .nvm, .quartz, .sent]) (by decide)).discharge kept_holdover s cause rfl

theorem stopPresenting_now (s : State) : s.stopPresenting.now = s.now :=
  (ignoresAll_same (x := .now) (s₀ := s) (l := [.od, .video]) (by decide)).discharge kept_stopPresenting s rfl

/-- An end that stays silent is dead; with both dead the feed is lost from then on. -/
theorem feedEndTimeout_dead {o : Fin 2} {t0 : Nat} (h : s.tile.alive[o] = some t0) : ∃ t, execFeedEndTimeout o s = .next t ∧
    t.tile.alive[o] = none ∧ t0 + 2 * ms ≤ t.now ∧ (s.tile.alive[other o] = none → t.tile.lostSince = some t.now) ∧
    (s.tile.alive[other o] ≠ none → t.tile.lostSince = s.tile.lostSince) := by
  obtain ⟨u, hu⟩ : ∃ u, s.until_ (t0 + 2 * ms) = u := ⟨_, rfl⟩
  have htile : u.tile = s.tile := hu ▸ until_tile s _
  have hnow : t0 + 2 * ms ≤ u.now := hu ▸ now_until s _
  unfold execFeedEndTimeout
  rw [h]
  dsimp only
  rw [hu]
  generalize hv : State.wrN _ 0x2300 0x02 _ = v
  have hvt : v.tile = { s.tile with alive := vset s.tile.alive o none } := by
    rw [← hv, wrN_tile, ← htile]
    rfl
  have hvn : v.now = u.now := by
    rw [← hv, wrN_now]
    rfl
  have hdead : v.tile.alive[o] = none := by
    rw [hvt]
    exact vset_same _ _ _
  have hother : v.tile.alive[other o] = s.tile.alive[other o] := by
    rw [hvt]
    exact Vector.getElem_set_ne o.2 _ fun k => other_ne o (Fin.ext k.symm)
  by_cases hends : v.endsAlive = 0
  · have hnone : s.tile.alive[other o] = none := by
      by_contra hsome
      exact endsAlive_some (hother.symm ▸ hsome) hends
    rw [if_neg fun k => k hends]
    generalize hw : State.withTile v _ = w
    have hwt : w.tile = { v.tile with lostSince := some v.now } := by rw [← hw]; rfl
    have hwn : w.now = v.now := by rw [← hw]; rfl
    generalize hz : State.stopPresenting _ = z
    have hzt : z.tile = { v.tile with lostSince := some v.now } := by
      rw [← hz, stopPresenting_tile, raise_tile, bump_tile, holdover_tile, hwt]
    have hzn : z.now = v.now := by rw [← hz, stopPresenting_now, raise_now, bump_now, holdover_now, hwn]
    generalize hy : (if (w.rdN 0x2880 0x0D == 1) = true then z.withCompose fun c => { c with held := .recompose } else z) = y
    have hyt : y.tile = { v.tile with lostSince := some v.now } := by
      rw [← hy, ← hzt]
      exact ite_proj State.tile _ rfl rfl
    have hyn : y.now = v.now := by
      rw [← hy, ← hzn]
      exact ite_proj State.now _ rfl rfl
    refine ⟨y, rfl, ?_, ?_, fun _ => ?_, fun k => absurd hnone k⟩
    · rw [hyt]
      exact hdead
    · rw [hyn, hvn]
      exact hnow
    · rw [hyt, hyn]
  · rw [if_pos hends]
    refine ⟨v, rfl, hdead, ?_, fun hnone => absurd (endsAlive_none hdead (hother.trans hnone)) hends, fun _ => ?_⟩
    · rw [hvn]
      exact hnow
    · rw [hvt]

/-- A feed that stays lost has the start image shown. -/
theorem holdTimeExpiry_shows {t0 : Nat} (h : s.tile.lostSince = some t0) (h3 : s.rdN 0x2300 0x02 ≠ 3) : ∃ t, execHoldTimeExpiry s = .next t ∧
    t.video.compose.held = .startImage ∧ t0 + s.rdN 0x2300 0x01 * ms ≤ t.now := by
  obtain ⟨u, hu⟩ : ∃ u, s.until_ (t0 + s.rdN 0x2300 0x01 * ms) = u := ⟨_, rfl⟩
  have hnow : t0 + s.rdN 0x2300 0x01 * ms ≤ u.now := hu ▸ now_until s _
  unfold execHoldTimeExpiry
  rw [h]
  dsimp only
  rw [if_neg h3, hu]
  refine ⟨_, rfl, ?_, ?_⟩
  · rw [raise_video]
    rfl
  · rw [raise_now]
    show t0 + s.rdN 0x2300 0x01 * ms ≤ (u.wrN 0x2300 0x02 3).now
    rw [wrN_now]
    exact hnow

/-! ### The clock of a tile -/

/-- What the ends' comparison changes of the clock: the run of windows in which they differ. -/
theorem compareEnds_quartz (s : State) : ∃ n, s.compareEnds.quartz = { s.quartz with servo := { s.quartz.servo with diffRun := n } } := by
  unfold State.compareEnds
  split
  · next a b _ _ =>
    refine ⟨if 3 * subNs < (a - b).natAbs then s.quartz.servo.diffRun + 1 else 0, ?_⟩
    rw [raiseIf_quartz]
    show ({ (State.wrI _ _ _ _).quartz with servo := _ } : Quartz) = _
    rw [wrI_quartz]
  · exact ⟨s.quartz.servo.diffRun, rfl⟩

theorem holdover_servo (s : State) (cause : Nat) : (s.holdover cause).quartz.servo = s.quartz.servo := by
  unfold State.holdover
  dsimp only
  split
  · rfl
  · rw [raise_quartz]
    rfl

theorem stopPresenting_quartz (s : State) : s.stopPresenting.quartz = s.quartz :=
  (ignoresAll_same (x := .quartz) (s₀ := s) (l := [.od, .video]) (by decide)).discharge kept_stopPresenting s rfl

theorem stepLater_quartz (s : State) (by_ : Int) : (s.stepLater by_).quartz =
    { s.quartz with slew := 0, servo := { s.quartz.servo with stepAtFrame := some by_, lockRun := 0 } } := by
  unfold State.stepLater
  dsimp only
  refine ite_proj State.quartz _ ?_ rfl
  exact stopPresenting_quartz _

theorem quartzLock_steers (s : State) (source : Nat) : (s.quartzLock source).quartz.servo = s.quartz.servo ∧
    (s.quartzLock source).quartz.slew = s.quartz.slew := by
  unfold State.quartzLock
  split
  · exact ⟨rfl, rfl⟩
  · rw [raise_quartz]
    exact ⟨rfl, rfl⟩

/-- The state of a window that ends: the ends compared, and the window begun anew. -/
def State.windowOver (s : State) : State :=
  s.compareEnds.withQuartz fun q => { q with servo := { q.servo with window := Vector.replicate 2 none } }

theorem windowOver_quartz (s : State) : ∃ n, s.windowOver.quartz =
    { s.quartz with servo := { s.quartz.servo with diffRun := n, window := Vector.replicate 2 none } } := by
  obtain ⟨n, hn⟩ := compareEnds_quartz s
  refine ⟨n, ?_⟩
  show ({ s.compareEnds.quartz with servo := _ } : Quartz) = _
  rw [hn]

theorem timingWindowEnd_eq (ht : s.isTile = true) (hs : s.quartz.servo.stepped = true) : execTimingWindowEnd s =
    match s.quartz.servo.steering with
    | none => .next ((s.windowOver.withQuartz fun q => { q with slew := 0, servo := { q.servo with lockRun := 0 } }).holdover 3)
    | some v =>
      let s := s.windowOver.wrI 0x2600 0x35 (unitsPs v)
      if s.slewable < v.natAbs then .next (s.stepLater (-v))
      else
        let run := if v.natAbs ≤ subNs then s.quartz.servo.lockRun + 1 else 0
        let s := (s.follow (-v) 64000).withQuartz fun q => { q with servo := { q.servo with stepAtFrame := none, lockRun := run } }
        .next (if 16 ≤ run then s.quartzLock 0x11 else s) := by
  obtain ⟨n, hn⟩ := compareEnds_quartz s
  have hsteering : s.compareEnds.quartz.servo.steering = s.quartz.servo.steering := by
    rw [hn]
    rfl
  unfold execTimingWindowEnd
  rw [if_neg (by simp [ht, hs])]
  dsimp only
  rw [hsteering]
  rfl

theorem timingWindowEnd_none (ht : s.isTile = true) (hs : s.quartz.servo.stepped = true) (hv : s.quartz.servo.steering = none) :
    ∃ t, execTimingWindowEnd s = .next t ∧ t.quartz.servo.lockRun = 0 ∧ t.quartz.servo.window = Vector.replicate 2 none := by
  obtain ⟨n, hn⟩ := windowOver_quartz s
  refine ⟨_, (timingWindowEnd_eq ht hs).trans (by rw [hv]), ?_, ?_⟩
  · rw [holdover_servo]
    rfl
  · rw [holdover_servo]
    show s.windowOver.quartz.servo.window = _
    rw [hn]

/-- The largest offset that the clock is slewed by. -/
def QState.slews (q : QState) : Nat := (if q = .holdover then 1000 else 1000000) * subNs

theorem timingWindowEnd_steers (ht : s.isTile = true) (hs : s.quartz.servo.stepped = true) {v : Int} (hv : s.quartz.servo.steering = some v) :
    (s.quartz.state.slews < v.natAbs → ∃ t, execTimingWindowEnd s = .next t ∧ t.quartz.servo.stepAtFrame = some (-v) ∧
      t.quartz.servo.lockRun = 0) ∧
    (v.natAbs ≤ s.quartz.state.slews → ∃ t, execTimingWindowEnd s = .next t ∧ t.quartz.servo.stepAtFrame = none ∧ t.quartz.slew = -v ∧
      t.quartz.servo.lockRun = (if v.natAbs ≤ subNs then s.quartz.servo.lockRun + 1 else 0)) := by
  obtain ⟨n, hn⟩ := windowOver_quartz s
  rw [timingWindowEnd_eq ht hs, hv]
  dsimp only
  generalize hw : s.windowOver.wrI 0x2600 0x35 (unitsPs v) = w
  have hq : w.quartz = { s.quartz with servo := { s.quartz.servo with diffRun := n, window := Vector.replicate 2 none } } := by
    rw [← hw, wrI_quartz, hn]
  have hslews : w.slewable = s.quartz.state.slews := by
    unfold State.slewable
    rw [hq]
    rfl
  have hrun : w.quartz.servo.lockRun = s.quartz.servo.lockRun := by rw [hq]
  rw [hslews, hrun]
  refine ⟨fun hlarge => ⟨_, if_pos hlarge, ?_, ?_⟩, fun hsmall => ?_⟩
  · rw [stepLater_quartz]
  · rw [stepLater_quartz]
  · generalize (if v.natAbs ≤ subNs then s.quartz.servo.lockRun + 1 else 0) = run
    refine ⟨_, if_neg (Nat.not_lt.2 hsmall), ?_⟩
    generalize hz : State.withQuartz _ _ = z
    have hservo : z.quartz.servo.stepAtFrame = none ∧ z.quartz.slew = -v ∧ z.quartz.servo.lockRun = run := by
      rw [← hz]
      exact ⟨rfl, rfl, rfl⟩
    split
    · obtain ⟨hsame, hslew⟩ := quartzLock_steers z 0x11
      rw [hsame, hslew]
      exact hservo
    · exact hservo

end

/-- Settles O15: what a tile takes from control cells and TIMING cells, and when it loses its feed or steers its clock. -/
theorem tileControlFeedAndClock : Obligations.TileControlFeedAndClock := by
  unfold Obligations.TileControlFeedAndClock
  refine ⟨fun s port x => ?_, fun s => ⟨fun port x => ?_, fun o t0 h => feedEndTimeout_dead h, fun t0 h h3 => holdTimeExpiry_shows h h3,
    fun ht hs => ⟨timingWindowEnd_none ht hs, fun v hv => timingWindowEnd_steers ht hs hv⟩⟩⟩
  · intro u
    refine ⟨fun h => topoQueryReceive_reports (Prod.ext h rfl), fun e h he => ⟨_, topoAssignReceive_takes (Prod.ext h rfl) he, rfl, rfl, rfl⟩,
      fun hh hc ht ha => healthCellReceive_reads hh hc ht ha, fun hc h => ?_⟩
    intro v b
    exact ⟨fun ht hb hs => framectlCommitReceive_commits hc (Prod.ext h rfl) ht hb hs,
      fun ht => framectlGenStateReceive_learns hc (Prod.ext h rfl) ht, fun ht => framectlAbortReceive_aborts hc (Prod.ext h rfl) ht⟩
  · intro u hh hc ht ha
    exact timingCellReceive_feeds hh hc ht ha

end Sys2Proof.Machine
end

section
/-! SUPPORT. Cells and units that end at a device: termination, relaying, management and events (R121, R151 to R153, R393 to R404). -/

namespace Sys2Proof.Machine
open Host

/-! ### Cells that end at a sender -/

section
variable {s : State} {p : Fin 2} {r : RxCell}

theorem arriveSender_eq (hs : s.isSender = true) (hp : s.portUp p = true) (mine : Bool) : s.arriveSender p r mine =
    if r.damaged then (s.bump (0x2200 + p) 0x10 1).bump (0x2200 + p) 0x11 1
    else if mine then (s.bump (0x2200 + p) 0x10 1).terminate p r.cell
    else s.bump (0x2200 + p) 0x10 1 := by
  unfold State.arriveSender
  rw [if_neg (by rw [hs, hp]; decide)]

theorem arriveSender_damaged (hs : s.isSender = true) (hp : s.portUp p = true) (hd : r.damaged = true) :
    s.arriveSender p r true = (s.bump (0x2200 + p) 0x10 1).bump (0x2200 + p) 0x11 1 :=
  (arriveSender_eq hs hp true).trans (if_pos hd)

/-- A good cell that is for the sender ends there. -/
theorem arriveSender_terminates (hs : s.isSender = true) (hp : s.portUp p = true) (hd : r.damaged = false) {mine : Bool} (hm : mine = true) :
    s.arriveSender p r mine = (s.bump (0x2200 + p) 0x10 1).terminate p r.cell :=
  (arriveSender_eq hs hp mine).trans ((if_neg (by rw [hd]; decide)).trans (if_pos hm))

end

/-! ### Relayed cells -/

section
variable {s v : State} {link p : Fin 2} {u : CascadeUnit} (h : s.takeUnit link u = (true, v)) (hk : u.kind = 1)
  (hp : v.portFor u.chain = some p) (hc : (cellOf u.body).crcOk = true)
include h hk hp hc

theorem relayUnitReceive_eq : execRelayUnitReceive link u s =
    if u.relSec = 0 ∧ u.relNs = 0 then .next (if v.controls p ∧ (cellOf u.body).dest = 0 then v.deliver p (cellOf u.body) else v)
    else if v.controls p then .next v
    else if v.relayAt p u < v.quartz.wall then
      .next ((v.bump (0x2300 + p) 0x13 1).raiseLimited 0x400C p.1 second fun n => v.redDetail p (sat 0xFF n))
    else .next (v.release p (v.relayAt p u).toNat (cellOf u.body)) := by
  unfold execRelayUnitReceive
  rw [h]
  dsimp only
  rw [if_neg (by simp [hk]), hp]
  dsimp only
  rw [hc]
  rfl

/-- A cell to be released at an instant is counted late where that has passed, and else waits for it. -/
theorem relayUnitReceive_timed (hn : u.relNs ≠ 0) (hf : v.controls p = false) :
    (v.relayAt p u < v.quartz.wall → execRelayUnitReceive link u s =
      .next ((v.bump (0x2300 + p) 0x13 1).raiseLimited 0x400C p.1 second fun n => v.redDetail p (sat 0xFF n))) ∧
    (v.quartz.wall ≤ v.relayAt p u → execRelayUnitReceive link u s = .next (v.release p (v.relayAt p u).toNat (cellOf u.body))) := by
  rw [relayUnitReceive_eq h hk hp hc, if_neg fun k => hn k.2, if_neg (by rw [hf]; decide)]
  exact ⟨fun hlate => if_pos hlate, fun hdue => if_neg (Int.not_lt.2 hdue)⟩

end

/-! ### Events that a tile sends -/

section
variable {l : List EventMsg} {s : State}

theorem drainEmcy_events (s : State) : s.drainEmcy.control.eventQueue = s.control.eventQueue := by
  unfold State.drainEmcy
  split
  · rfl
  · dsimp only
    split <;> split <;> rfl

theorem sendEmcy_events (s : State) (m : List Byte) : (s.sendEmcy m).control.eventQueue = s.control.eventQueue := by
  unfold State.sendEmcy
  extract_lets _ u dest
  have hu : u.control.eventQueue = s.control.eventQueue :=
    ite_proj (fun t : State => t.control.eventQueue) _ (drainEmcy_events _) rfl
  split
  · exact hu
  · exact hu

theorem note_events_prefix (h : l <+: s.control.eventQueue) (code d : Nat) : l <+: (s.note code d).control.eventQueue := by
  unfold State.note
  extract_lets round outranked
  split
  extract_lets _ told counted times _ kept reg shown mailed _
  have hkept : kept.control.eventQueue = s.control.eventQueue :=
    (congrArg Control.eventQueue (bump_control told _ _ _)).trans (ite_proj (fun t : State => t.control.eventQueue) _ rfl rfl)
  have hmailed : l <+: mailed.control.eventQueue := by
    have hsame : mailed.control.eventQueue = s.control.eventQueue := (sendEmcy_events shown _).trans hkept
    rw [hsame]
    exact h
  split
  · exact hmailed.trans (List.prefix_append _ _)
  · exact hmailed

theorem loseRecord_events_prefix (h : l <+: s.control.eventQueue) : l <+: s.loseRecord.control.eventQueue :=
  note_events_prefix (s := s.bump 0x3000 0x19 1) h _ _

theorem stage_events_prefix (h : l <+: s.control.eventQueue) (r : Flint) : l <+: (s.stage r).control.eventQueue := by
  unfold State.stage
  split
  · exact h
  · split
    · split
      · exact loseRecord_events_prefix h
      · exact loseRecord_events_prefix h
    · exact loseRecord_events_prefix h

theorem record_events_prefix (h : l <+: s.control.eventQueue) (code d : Nat) (data : List Byte) :
    l <+: (s.record code d data).control.eventQueue := by
  unfold State.record
  extract_lets sev refilled lost dropped limit
  split
  · split
    · exact note_events_prefix (s := dropped.setLimiter _) h _ _
    · exact h
  · exact stage_events_prefix (s := refilled.withBb _) h _

theorem raiseWith_events_prefix (h : l <+: s.control.eventQueue) (code d : Nat) (data : List Byte) :
    l <+: (s.raiseWith code d data).control.eventQueue := by
  unfold State.raiseWith
  extract_lets u
  split
  · exact note_events_prefix h _ _
  · exact record_events_prefix (note_events_prefix h _ _) _ _ _

theorem raiseLimited_events_prefix (h : l <+: s.control.eventQueue) (code n interval : Nat) (f : Nat → Nat) :
    l <+: (s.raiseLimited code n interval f).control.eventQueue := by
  unfold State.raiseLimited
  dsimp only
  split
  · exact raiseWith_events_prefix (s := s.setLimiter _) h _ _ _
  · exact h

theorem originate1_events_prefix (h : l <+: s.control.eventQueue) (e : Fin 2) (type tsw : Nat) (b : List Byte) (seq : BitVec 32) :
    l <+: (s.originate1 e type tsw b seq).control.eventQueue := by
  unfold State.originate1
  dsimp only
  split
  · exact h
  · exact raiseLimited_events_prefix (s := s.bump 0x2200 0x1C 1) h _ _ _ _

theorem originate_events_prefix (h : l <+: s.control.eventQueue) (type tsw : Nat) (b : List Byte) :
    l <+: (s.originate type tsw b).control.eventQueue := by
  unfold State.originate
  split
  · exact h
  · exact originate1_events_prefix (originate1_events_prefix h 0 _ _ _ _) 1 _ _ _ _

theorem paceMgmt_events_prefix (h : l <+: s.control.eventQueue) (n : Nat) : l <+: (State.paceMgmt n s).control.eventQueue := by
  induction n generalizing s with
  | zero => exact h
  | succ n ih =>
    unfold State.paceMgmt
    split
    · exact h
    · split
      · exact ih (originate_events_prefix (s := s.withTile _) h _ _ _)
      · exact h

/-! #### With room in both queues no cell is dropped -/

/-- Both chain ports are up and their queues have room for a cell of the tile's own. -/
theorem origRoom_room (hup : ∀ p, s.portUp p = true) (h : s.origRoom = true) (p : Fin 2) : s.tile.orig[p].length < 16 := by
  have hp := List.all_eq_true.1 h p (List.mem_finRange p)
  rw [hup p] at hp
  exact of_decide_eq_true hp

/-- A cell that finds room in its queue joins it, and changes nothing else. -/
theorem originate1_room {e : Fin 2} (type tsw : Nat) (b : List Byte) (seq : BitVec 32) (h : s.tile.orig[s.facing e].length < 16) :
    ∃ c, s.originate1 e type tsw b seq = s.withTile fun t => { t with orig := vset t.orig (s.facing e) (s.tile.orig[s.facing e] ++ [c]) } :=
  ⟨_, if_pos h⟩

theorem facing_ne (s : State) : s.facing 0 ≠ s.facing 1 := by
  unfold State.facing
  split <;> decide

theorem originate_room (h : ∀ p : Fin 2, s.tile.orig[p].length < 16) (type tsw : Nat) (b : List Byte) :
    (s.originate type tsw b).control = s.control ∧ (s.originate type tsw b).lanes = s.lanes := by
  unfold State.originate
  split
  · exact ⟨rfl, rfl⟩
  · obtain ⟨c, hc⟩ := originate1_room (e := 0) type tsw b s.tile.seq (h _)
    dsimp only
    rw [hc]
    generalize hv : State.withTile s _ = v
    have hroom : v.tile.orig[v.facing 1].length < 16 := by
      rw [← hv]
      refine lt_of_eq_of_lt (congrArg List.length ?_) (h (s.facing 1))
      exact Vector.getElem_set_ne (s.facing 0).2 _ fun k => facing_ne s (Fin.ext k)
    obtain ⟨d, hd⟩ := originate1_room (e := 1) type tsw b s.tile.seq hroom
    rw [hd, ← hv]
    exact ⟨rfl, rfl⟩

theorem paceMgmt_room (hup : ∀ p, s.portUp p = true) (n : Nat) : (State.paceMgmt n s).control = s.control := by
  induction n generalizing s with
  | zero => rfl
  | succ n ih =>
    unfold State.paceMgmt
    split
    · rfl
    · next tsw b rest _ =>
      split
      · next hr =>
        obtain ⟨hcontrol, hlanes⟩ := originate_room (s := s.withTile fun t => { t with backlog := rest }) (origRoom_room hup hr) 4 tsw b
        refine (ih fun p => ?_).trans hcontrol
        refine Eq.trans ?_ (hup p)
        unfold State.portUp State.linkUp
        rw [hlanes]
        rfl
      · rfl

theorem originateMgmt_events (s : State) (cells : List (Nat × List Byte)) : ∃ more,
    (s.originateMgmt cells).control.eventQueue = s.control.eventQueue ++ more ∧
      (s.portUp 0 = true → s.portUp 1 = true → more = []) := by
  obtain ⟨more, hmore⟩ := paceMgmt_events_prefix (s := s.withTile fun t => { t with backlog := t.backlog ++ cells })
    (List.prefix_refl s.control.eventQueue) 16
  refine ⟨more, hmore.symm, fun h0 h1 => ?_⟩
  have hup : ∀ p, (s.withTile fun t => { t with backlog := t.backlog ++ cells }).portUp p = true := fun p => by
    match p with
    | 0 => exact h0
    | 1 => exact h1
  have hsame : (State.paceMgmt 16 (s.withTile fun t => { t with backlog := t.backlog ++ cells })).control = s.control := paceMgmt_room hup 16
  rw [hsame] at hmore
  exact List.append_right_eq_self.1 hmore

/-- The state once the oldest event has left the queue of events. -/
def State.eventSent (u : State) (e : EventMsg) (rest : List EventMsg) : State :=
  (u.withControl fun k => { k with
    eventQueue := rest
    eventTxn := (u.control.eventTxn + 1) % 65536
    eventTimes := (u.now :: k.eventTimes).take 20 }).originateMgmt
    [(mgmtTsw u.control.eventTxn 0 1, mgmtPart 4 0 0 0 0 0 16 e.bytes)]

theorem eventSent_events {u : State} (hu : u.lanes = s.lanes) (e : EventMsg) (rest : List EventMsg) : ∃ more,
    (u.eventSent e rest).control.eventQueue = rest ++ more ∧ (s.portUp 0 = true → s.portUp 1 = true → more = []) := by
  have hup : ∀ p, u.portUp p = s.portUp p := fun p => by
    unfold State.portUp State.linkUp
    rw [hu]
  rw [← hup, ← hup]
  exact originateMgmt_events _ _

/-- The oldest event leaves the queue; what joins it are events of cells that found no room. -/
theorem tileEventSend_sends {e : EventMsg} {rest : List EventMsg} (hq : s.control.eventQueue = e :: rest) (ht : s.isTile = true)
    (hs : s.station ≠ 0) : ∃ t more, execTileEventSend s = .next t ∧ t.control.eventQueue = rest ++ more ∧
      (s.portUp 0 = true → s.portUp 1 = true → more = []) := by
  unfold execTileEventSend
  rw [hq]
  dsimp only
  rw [if_neg (by simp [ht, hs])]
  rcases hn : s.control.eventTimes[19]? with _ | t
  · obtain ⟨more, hmore⟩ := eventSent_events (s := s) rfl e rest
    exact ⟨s.eventSent e rest, more, rfl, hmore⟩
  · obtain ⟨u, hu⟩ : ∃ u, s.until_ (t + second) = u := ⟨_, rfl⟩
    obtain ⟨more, hmore⟩ := eventSent_events (s := s) (u := u) (hu ▸ until_lanes s _) e rest
    simp only [hu]
    exact ⟨u.eventSent e rest, more, rfl, hmore⟩

end

/-- Settles O16: cells that end at a sender, relayed cells, management requests of a tile and the events that it sends. -/
theorem terminationAndManagement : Obligations.TerminationAndManagement := by
  unfold Obligations.TerminationAndManagement
  intro s
  refine ⟨fun p r hs hp => ?_, fun link p u => ?_, fun port r d v => ?_, fun e rest hq ht hs => tileEventSend_sends hq ht hs⟩
  · intro v
    refine ⟨fun hd => ?_, fun hd => ⟨?_, fun hc ht => ?_, fun hc ht => ?_, fun hc ht => ?_⟩⟩
    · exact congrArg Outcome.next (arriveSender_damaged hs hp hd)
    · exact congrArg Outcome.next (arriveSender_terminates hs hp hd rfl)
    · exact congrArg Outcome.next (arriveSender_terminates hs hp hd (by rw [hc, ht]; rfl))
    · exact congrArg Outcome.next (arriveSender_terminates hs hp hd (by rw [hc, ht]; rfl))
    · exact congrArg Outcome.next (arriveSender_terminates hs hp hd (by rw [hc, ht]; rfl))
  · intro v c h hk hp hc
    have hin : s.takeUnit link u = (true, v) := Prod.ext h rfl
    exact ⟨fun hsec hns => (relayUnitReceive_eq hin hk hp hc).trans (if_pos ⟨hsec, hns⟩), relayUnitReceive_timed hin hk hp hc⟩
  · intro h
    refine ⟨fun hin => ?_, fun hin => ?_, fun hin hdest => ?_⟩
    · show execMgmtReadReceive port r s = _
      unfold execMgmtReadReceive
      rw [hin]
    · show execMgmtWriteReceive port r s = _
      unfold execMgmtWriteReceive
      rw [hin]
    · show execMgmtBroadcastWriteReceive port r s = _
      unfold execMgmtBroadcastWriteReceive
      rw [hin]
      exact if_pos hdest

end Sys2Proof.Machine
end

section
/-! SUPPORT. An LSS store that the flash's write allowance refuses is told in an EMCY before it is answered (R388, R485), which O6
does not allow for. -/

namespace Sys2Proof.Machine
open Host

/-- An operational sender in the LSS configuration state, its storage window open and its flash write allowance spent. -/
def spentAllowance : State :=
  { State.reset.wrN 0x2E00 0x0F 1 with
    life := .running
    role := .sender
    control := { Control.reset with nodeId := 1, nmt := .operational, lss := { Control.reset.lss with configuring := true } }
    nvm := { Nvm.reset with bucket := 0 } }

/-- How many outputs a command leaves. -/
def outputs (o : Out1) : Option Nat :=
  match o with
  | .next t => some t.sent.length
  | _ => none

theorem spentAllowance_configures : spentAllowance.isSender = true ∧ spentAllowance.control.lss.configuring = true ∧ spentAllowance.sent = [] := by
  decide +kernel

theorem lssStoreConfiguration_tells : outputs (exec .lssStoreConfiguration spentAllowance) = some 2 := by decide +kernel

/-- Refutes O6: where the flash's write allowance is spent, LSS_STORE_CONFIGURATION raises event 0xA103, whose EMCY goes out before the
LSS answer, while the statement has the answer alone added to what was sent. -/
theorem not_commandsTakeEffect : ¬ Obligations.CommandsTakeEffect := by
  unfold Obligations.CommandsTakeEffect
  rintro ⟨-, -, -, -, -, -, hlss, -⟩
  obtain ⟨hs, hc, hnone⟩ := spentAllowance_configures
  obtain ⟨-, -, -, -, -, -, -, hconf⟩ := hlss spentAllowance hs
  obtain ⟨-, -, hstore, -⟩ := hconf hc
  obtain ⟨t, hexec, b, hsent⟩ := hstore
  have hone : t.sent.length = 1 := by rw [hsent, hnone]; rfl
  have htwo : outputs (.next t) = some 2 := hexec ▸ lssStoreConfiguration_tells
  have hlen : t.sent.length = 2 := Option.some.inj htwo
  omega

end Sys2Proof.Machine
end
